-- ==== Sys2Proof/Word.lean ====
section
/-! DEFINITION. The word types and the fixed ranges of names the W1 uses (spec/00_scope.md Notation,
spec/01_wafer_organisation.md R16 to R23). -/

namespace Sys2Proof

abbrev Byte := BitVec 8
abbrev Word32 := BitVec 32
abbrev Word64 := BitVec 64

/-- A logical tile, numbered site * 1024 + row * 32 + column (R19: 56 sites, 32 rows, 32 columns). -/
abbrev Tile := Fin 57344
/-- A site 0-55 (R17). Aqueduct port numbers equal site numbers. -/
abbrev Site := Fin 56
/-- A region, that is a clock domain, RG0-RG13 (R18). -/
abbrev Region := Fin 14
/-- A quadrant by its wafer-wide index site * 4 + q (R21). -/
abbrev Quad := Fin 224
/-- A hardware partition P0-P63 (R22, R188). -/
abbrev Part := Fin 64
/-- A request index of the W1 (R13: 0 to 65,535). -/
abbrev Req := Fin 65536
/-- A memory stack H00-H47 (R23). -/
abbrev Stack := Fin 48
/-- A rim die in the order N0, N1, E0, E1, S0, S1, W0, W1 (Table 1-5). -/
abbrev Rim := Fin 8
/-- A logical array 0-7 of a tile (R16). -/
abbrev Arr := Fin 8
/-- A loader command slot 0-3 (R190). -/
abbrev LdSlot := Fin 4
/-- An Ethernet port 0-3. -/
abbrev EthPort := Fin 4

end Sys2Proof
end

