-- ==== Sys2Proof/Syntax.lean ====
section
/-! DEFINITION. The commands of the W1: one constructor for each row of the opcode table, with the row's operands, and the
types of those operands. A reading of the outside world that a command carries (a voltage, a temperature, a beat on a
link, host data, a cell that fails) is an operand. -/

namespace Sys2Proof

/-- Who sends a register access (R379, R380, R388): the physical function, a virtual function (`vf p` is virtual function
p + 1, which serves partition p), or the management bus. -/
inductive Path where
  | pf
  | vf (p : Part)
  | mgmt
  deriving DecidableEq, Repr

/-- One beat of 64 bytes with its poison and trouble flags (Table 6-2). -/
structure Beat where
  data : List Byte
  poison : Bool
  trouble : Bool
  deriving DecidableEq, Repr

/-- A command word issued by a tile's sequencer: the cycle of the step, the schedule entry and the 64-bit word. -/
structure Issue where
  tile : Tile
  cycle : Fin 65536
  entry : Fin 4096
  word : Word64
  deriving DecidableEq, Repr


/-- The Sluice windows of a tile, which the loader sets (R131); no package section is said to carry them. -/
structure TileWindows where
  tile : Tile
  inEn : Bool
  inFirst : Fin 1024
  inLast : Fin 1024
  outEn : Bool
  outFirst : Fin 1024
  outLast : Fin 1024
  deriving DecidableEq, Repr

/-- What the loader decides at an INSTALL and the spec leaves to it, or gives no layout for: Sluice windows, the physical lane of
each package lane, the express table (lane at its station * 2^17 + cycle, and the code of `State.express`) and the lane segments that it allots
(each by the lane at the station that it leaves), and the tile and row that take stage one's slot row. -/
structure LoadInfo where
  windows : List TileWindows
  lanes : List (Fin 104 × Fin 104)
  express : List (Nat × Nat)
  segments : List Nat
  slotTile : Tile
  slotRow : Fin 1024
  deriving DecidableEq, Repr

/-- A bank row that reads back unequal in a loader write (R47): in the first write (`pass` 0) or in a rewrite of the bank. `array` 8: the spare
array, of the array that it replaces in this write. -/
structure RowMiss where
  tile : Tile
  array : Fin 9
  plane : Fin 2
  pass : Fin 3
  row : Fin 1024
  deriving DecidableEq, Repr

/-- A GENERATE entry of the S2 submission ring (Table 9-11). -/
structure S2Entry where
  flags : Fin 65536
  tag : Fin 4294967296
  promptAddr : Fin 18446744073709551616
  promptLen : Fin 4294967296
  maxTokens : Fin 4294967296
  stop : Word32
  temp : Word32
  topp : Word32
  topk : Fin 4294967296
  seed : Word64
  deriving DecidableEq, Repr

/-- Readings of a quadrant's supply path, averaged over 1 ms (R265, R266): its resistance in nano-ohms, the site current in 0.1 A, a phase
and by how many percent its share differs from the mean share, the bank output that would hold the sense point, in mV, and the site
current at which the drop stays within 0.95 V, in A. -/
structure PathReading where
  res : Fin 16777216
  amps : Fin 65536
  phase : Fin 26
  share : Fin 1001
  bankMv : Fin 4096
  limit : Fin 1024
  deriving DecidableEq, Repr

/-- Readings of one cap window: the PTP time it lasted, in ns; input voltage (10 mV), current (0.1 A) and power; efficiency per mille;
measured powers in W of what lies outside the running partitions, of all silicon, of the input over the last 100 ms, and of
each partition; core currents (0.1 A) and fused base voltages with their temperature adjustment (mV) of sites; lowest readings of sense points (mV) with their
time in ns after the window began; edges removed by droop in each region; the supply paths of quadrants over the last 1 ms; tile diodes and base-die sensors (0.25 °C), stacks
(°C), coolant inlet and outlet (0.05 °C), flow (0.5 L/min) and pressure drop (0.5 kPa). -/
structure WindowReadings where
  elapsed : Fin 4294967296
  vin : Fin 65536
  iin : Fin 65536
  pinW : Fin 65536
  eta : Fin 1001
  other : Fin 65536
  silicon : Fin 65536
  mean100 : Fin 65536
  parts : List (Part × Fin 65536)
  amps : List (Site × Fin 65536)
  base : List (Site × Fin 1024)
  points : List (Site × Fin 4 × Fin 1024 × Fin 4294967296)
  edges : List (Region × Fin 65536)
  paths : List (Quad × PathReading)
  diodes : List (Tile × Fin 1024)
  bases : List (Quad × Fin 1024)
  hotStacks : List (Stack × Fin 256)
  tIn : Fin 65536
  tOut : Fin 65536
  flow : Fin 65536
  dp : Fin 65536
  deriving DecidableEq, Repr

/-- What a bring-up finds. Firmware kinds (0 AON, 1 rim, 2 steward, 3 Cascade root, 4 links) whose first image fails its check, and those both of
whose images fail; the topology record's signature is valid; identity and stepping agree; every repair listed is in force; stacks, rim
dies (N0, N1, E0, E1, S0, S1, W0, W1) and Aqueduct ports that disagree; tiles that fail self test, and spare tiles (true: at row 33);
quadrants whose wake failed twice; array spare entries found (Table 13-4); the diode reading of the module and of tiles that differ (0.25 °C);
fused base voltages (mV) and path resistances (nano-ohms); slots of certificates that fail; the 54 V input in mV; the PTP time it took, in ns; the
straps of the auxiliary connector (MGMT_SEL low, SLOT_ID), which only a cold start samples. -/
structure BringUp where
  fwFirst : List (Fin 5)
  fwBoth : List (Fin 5)
  recordOk : Bool
  identityOk : Bool
  repairsIn : Bool
  badStacks : List Stack
  rims : List (Fin 8)
  ports : List (Fin 56)
  failed : List Tile
  spares : List (Site × Fin 32 × Bool)
  impaired : List Quad
  arrays : List (Fin 18446744073709551616)
  diode : Fin 1024
  diodes : List (Tile × Fin 1024)
  base : List (Site × Fin 1024)
  res : List (Quad × Fin 16777216)
  certs : List (Fin 16)
  mv : Fin 65001
  took : Fin 1099511627776
  i3c : Bool
  slotId : Fin 8
  deriving DecidableEq, Repr, Inhabited

/-- A configuration write that changes what may master the bus (R351): VF Enable, or Bus Master Enable of a function. -/
inductive BusChange where
  | vfEnable (on : Bool)
  | busMaster (fn : Fin 65) (on : Bool)
  deriving DecidableEq, Repr

/-- The read that a discarded TLP would have completed (R352): none, a prompt, the tokens of a RESUME, or a shard from host memory. -/
inductive IdeRead where
  | none
  | prompt (req : Req)
  | resume (req : Req)
  | shard (part : Part) (shard : Fin 65536)
  deriving DecidableEq, Repr

/-- A received Ethernet frame: its use (0 a response to the engine's READ or WRITE, 1 any other RoCEv2 operation on its queue pairs, 2 precision
time, 3 ARP, 4 neighbour discovery, 5 ICMP echo, 6 priority flow control, 7 none), its length, its VLAN identifier if it carries one tag,
whether it is addressed to the port, and whether a codeword of it could not be corrected. -/
structure EthFrame where
  kind : Fin 8
  bytes : Fin 65536
  tag : Option (Fin 4096)
  mine : Bool
  codewordBad : Bool
  deriving DecidableEq, Repr

/-- LINK messages of a peer (R358): the major versions it offers, its DEVICE_ID, port number, fabric mode and chain identifier, and whether its
signature of our challenge holds. -/
structure LinkPeer where
  majors : List (Fin 256)
  deviceId : Fin 340282366920938463463374607431768211456
  port : Fin 256
  chained : Bool
  chainId : Fin 65536
  signed : Bool
  deriving DecidableEq, Repr

/-- A received flit (Table 14-6): its fields, whether its FCRC holds, and for a CTRL flit the FSEQ that a NAK names. -/
structure AqdFlit where
  fseq : Fin 65536
  ackseq : Fin 65536
  ftype : Fin 16
  av : Bool
  nak : Option (Fin 65536)
  crcOk : Bool
  deriving DecidableEq, Repr

/-- An owner key (R372): a pre-shared key of 48 bytes, or a P-384 public key of 96, as a number. -/
structure OwnerKey where
  psk : Bool
  key : Fin (2 ^ 768)
  deriving DecidableEq, Repr

/-- How a session is asked for (R373): by PSK_EXCHANGE, or by KEY_EXCHANGE with a requester that authenticates itself with a key, or does not; and
whether the exchange verifies. -/
inductive SessionAsk where
  | psk (key : Fin (2 ^ 384)) (good : Bool)
  | keys (key : Fin (2 ^ 768)) (good : Bool)
  | oneSided (good : Bool)
  deriving DecidableEq, Repr


/-- A page by its number in Table 15-17, or of a tile by its number in Table 15-16. -/
inductive PageAt where
  | global (k : Fin 15)
  | tile (t : Tile) (k : Fin 7)
  deriving DecidableEq, Repr


/-- The commands, in the order of the opcode table. -/
inductive Instr where
  /-- LDIN (R33): Load input register: loads activation or exponent beats into IN0 or IN1 of the selected arrays from the router or the Basin. -/
  | ldin (op : Issue)
  /-- MVM (R41): Matrix-vector product: issues conversions over the named bank's row groups and slices, or is refused as in R40. -/
  | mvm (op : Issue)
  /-- MVM_COMPLETE (R49): After the last conversion of an MVM the bank returns to READY, and clipping trouble is judged against the threshold. -/
  | mvmComplete (tile : Tile) (entry : Fin 4096)
  /-- RED (R55): Reduce incoming partials: adds incoming P24 streams and local partials and optionally promotes and runs the tail path. -/
  | red (op : Issue)
  /-- WRB (R45): Write bank rows: writes and reads back stream-bank rows from the Basin. -/
  | wrb (op : Issue)
  /-- WRB_COMPLETE (R46): At the end of a WRB, the CRC is compared and the bank becomes READY, or EMPTY on a mismatch. -/
  | wrbComplete (tile : Tile) (entry : Fin 4096) (bad : List (Fin 8 × Fin 1024))
  /-- RDB (R44): Read bank rows: reads rows of a READY bank to the Basin. -/
  | rdb (op : Issue)
  /-- CLV (R168): Open a Clove window: opens a calibration window on the selected arrays in steps of the tile's Clove phase. -/
  | clv (op : Issue)
  /-- MLD (R89): Matrix engine load: loads Basin rows or a K8 page into MA or MB. -/
  | mld (op : Issue)
  /-- MMUL (R86): Matrix engine multiply of MA and MB vectors into MC accumulators. -/
  | mmul (op : Issue)
  /-- MOUT (R88): Converts MC accumulators to FP32, into Basin rows or vector registers. -/
  | mout (op : Issue)
  /-- VLD (R91): Vector load of a quarter Basin row into a register. -/
  | vld (op : Issue)
  /-- VST (R91): Vector store of a register into a quarter Basin row. -/
  | vst (op : Issue)
  /-- VADD (R90): Vector addition. -/
  | vadd (op : Issue)
  /-- VSUB (R90): Vector subtraction. -/
  | vsub (op : Issue)
  /-- VMUL (R90): Vector multiplication. -/
  | vmul (op : Issue)
  /-- VFMA (R90): Vector fused multiply-add with one rounding. -/
  | vfma (op : Issue)
  /-- VMAX (R91): Lane-wise maximum. -/
  | vmax (op : Issue)
  /-- VMIN (R91): Lane-wise minimum. -/
  | vmin (op : Issue)
  /-- VEXP2 (R90): Lane-wise power of two. -/
  | vexp2 (op : Issue)
  /-- VRCP (R90): Lane-wise reciprocal. -/
  | vrcp (op : Issue)
  /-- VRSQ (R90): Lane-wise reciprocal square root. -/
  | vrsq (op : Issue)
  /-- VLOG2 (R90): Lane-wise base-2 logarithm. -/
  | vlog2 (op : Issue)
  /-- VRED (R91): Sum or maximum over all lanes, broadcast to every lane. -/
  | vred (op : Issue)
  /-- VSEL (R91): Lane-wise select between two registers. -/
  | vsel (op : Issue)
  /-- VBC (R91): Broadcast of an immediate to every lane. -/
  | vbc (op : Issue)
  /-- VCVT (R91): Format conversion selected by IMM. -/
  | vcvt (op : Issue)
  /-- VQNT (R92): Requantises one output block with predicted or recomputed exponents and applies the trouble detectors. -/
  | vqnt (op : Issue)
  /-- VROT (R103): Rotary pair rotation of a register. -/
  | vrot (op : Issue)
  /-- ATTEND (R94): Fused attention: writes new cache entries and computes the partial record over the listed pages in fixed time. -/
  | attend (op : Issue)
  /-- SAMPLE (R110): Fused sampling: a leaf reduces its slice to records, and a root draws and verifies the tokens. -/
  | sample (op : Issue)
  /-- CMRG (R107): Confluence merge of attention partial records or sampler records, beat by beat. -/
  | cmrg (op : Issue)
  /-- SLUICE_SLOT_ISSUE (R133): A window-mode sluice slot issues its command in the first cycle at which its rows are ready. -/
  | sluiceSlotIssue (tile : Tile) (entry : Fin 4096) (cycle : Fin 65536)
  /-- SLUICE_MISS (R134): A window-mode slot reaches L + WAIT with rows not ready; zero beats are delivered and a miss is reported. -/
  | sluiceMiss (tile : Tile) (entry : Fin 4096)
  /-- TAG_TIMEOUT (R135): Sluice rows stay not ready for TIMEOUT_US; the partition stops with STOPR 3. -/
  | tagTimeout (tile : Tile) (entry : Fin 4096)
  /-- DELIVERY_SEND (R131): The delivery engine sends a FULL outbound row to its destination as a delivery packet. -/
  | deliverySend (tile : Tile) (row : Fin 1024)
  /-- DELIVERY_ARRIVE (R153): The destination node checks a delivery against the table and CRC and writes the row, making it FULL, or answers busy. -/
  | deliveryArrive (n : Nat) (crcOk : Bool)
  /-- DELIVERY_ACK (R132): A destination acknowledges a delivery, and the outbound row becomes EMPTY. -/
  | deliveryAck (n : Nat)
  /-- DELIVERY_BUSY_RETRY (R153): The source retries a busy delivery every 64 cycles. -/
  | deliveryBusyRetry (n : Nat)
  /-- DELIVERY_TIMEOUT (R136): A delivery whose destination row stays not EMPTY for TIMEOUT_US is discarded and its source is told. -/
  | deliveryTimeout (n : Nat)
  /-- RESTORE_ROW_COPY (R239): The slice copies a FULL restore row into its cache page through the side port and sets the row EMPTY. -/
  | restoreRowCopy (tile : Tile) (row : Fin 1024)
  /-- SCRUB_ROW (R120): The scrubber reads the next Basin row through the side port at its interval. -/
  | scrubRow (tile : Tile) (upsets : List (Fin 1024 × Fin 64 × Fin 72))
  /-- BASIN_ROW_SPARE (R340): At the next commit boundary a weak program row is copied to a spare row and mapped in its place. -/
  | basinRowSpare (tile : Tile)
  /-- BASIN_HOST_ACCESS (R127): A host read or whole-row write of the Basin through BAR4. -/
  | basinHostAccess (path : Path) (addr : Fin 34359738368) (len : Fin 513) (data : Option (List Byte))
  /-- CISTERN_HOST_ACCESS (R387): A host access through the Cistern aperture. -/
  | cisternHostAccess (path : Path) (addr : Fin 34359738368) (len : Fin 4097) (data : Option (List Byte))
  /-- ROUTE_ENTRY (R145): The router executes a route entry, moving beat b of its run in cycle OFFSET + b. -/
  | routeEntry (tile : Tile) (entry : Fin 2048) (parityOk : Bool)
  /-- BEAT_ARRIVAL (R146): A beat arrives on a router port and is checked for CRC and PART, then forwarded, consumed or discarded. -/
  | beatArrival (tile : Tile) (port : Fin 7) (cycle : Fin 131072) (crcOk : Bool)
  /-- EXPRESS_STATION_PASS (R144): An express station passes, drops or discards a lane beat per its express table. -/
  | expressStationPass (site : Site) (axis : Fin 2) (dir : Fin 2) (lane : Fin 104) (cycle : Fin 131072) (crcOk : Bool)
  /-- CROSSING_RELEASE (R154): A crossing buffer releases a beat at its release cycle, or a zero beat with a slip. -/
  | crossingRelease (isLane : Bool) (place : Fin 524288) (launch : Fin 65536) (reached : Bool) (edges : Fin 65536)
  /-- PROGRAM_END (R150): At cycle E a tile checks for remaining activity and reports to its region station. -/
  | programEnd (tile : Tile)
  /-- REGION_REPORT (R159): The region station sends its report once every tile of the partition in the region has reported. -/
  | regionReport (part : Part) (region : Region) (edges : Fin 65536)
  /-- ROOT_DEADLINE (R160): At the root deadline, or at a late report, the root decides the boundary and sends GO. -/
  | rootDeadline (part : Part) (mismatch : Bool)
  /-- COMMIT_BOUNDARY (R76): GO with a commit: deliveries are accepted, shadows and trims commit, predictors update and the steward does its boundary work. -/
  | commitBoundary (part : Part)
  /-- REPLAY_BOUNDARY (R77): GO with a replay: the partition holds, the next program is chosen and the recompute pass is started. -/
  | replayBoundary (part : Part)
  /-- RECOMPUTE_DONE (R77): Tiles finish the recompute pass and report again, and the root sends GO with a start. -/
  | recomputeDone (part : Part)
  /-- FAULTED_STEP_BOUNDARY (R184): GO for a faulted step: the attempt is discarded, parity entries are rewritten, and the step is retried or the partition stops. -/
  | faultedStepBoundary (part : Part)
  /-- ATTEMPT_START (R149): At the start cycle the sequencers and routers begin the next attempt of the selected program. -/
  | attemptStart (part : Part)
  /-- ABORT (R162): An abort stops every sequencer, router and station of the partition and discards the attempt. -/
  | abort (part : Part)
  /-- CSD_HOLD_SET (R162): Setting HOLD stops the partition at its next commit boundary. -/
  | csdHoldSet (path : Path) (part : Part)
  /-- CSD_HOLD_CLEAR (R162): Clearing HOLD counts as a late report, and GO follows. -/
  | csdHoldClear (path : Path) (part : Part)
  /-- CSD_ROOT_SWAP (R163): A request to swap the active and standby Cascade roots at the next wafer step boundary. -/
  | csdRootSwap (path : Path)
  /-- WAFER_STEP (R158): The wafer count advances every CSD_WSTEP cycles, and wafer-boundary effects take place. -/
  | waferStep (readings : WindowReadings)
  /-- ROOT_TAKEOVER (R163): The standby root takes over when an expected GO is absent for 32 cycles. -/
  | rootTakeover (part : Part)
  /-- TREE_MESSAGE_REPEAT (R163): A lost or damaged tree message is repeated every 16 cycles until acknowledged. -/
  | treeMessageRepeat (part : Part) (region : Fin 16)
  /-- GO_REISSUE (R163): A station that cannot meet a start gets a GO reissued 64 cycles later. -/
  | goReissue (part : Part)
  /-- SPARE_ARRAY_SUBSTITUTION (R54): The partition holds at the next boundary, the spare array is loaded and takes the logical number, and the partition resumes. -/
  | spareArraySubstitution (tile : Tile) (array : Arr) (internal : Bool) (clean : Bool) (fails : Bool)
  /-- CREATE (R192): Loader command that makes a partition in state EMPTY. -/
  | create (path : Path) (slot : LdSlot)
  /-- RESIZE (R193): Loader command that replaces a partition's quadrants, request range, allotment and stream share. -/
  | resize (path : Path) (slot : LdSlot)
  /-- DESTROY (R194): Loader command that aborts, ends the requests, zero-fills and removes a partition. -/
  | destroy (path : Path) (slot : LdSlot)
  /-- DESTROY_COMPLETE (R194): The zero fill ends, the resources are released and the partition becomes NONE. -/
  | destroyComplete (part : Part)
  /-- STAGE (R201): Loader command that fetches and verifies a package into a package area as the pending package. -/
  | stage (path : Path) (slot : LdSlot)
  /-- LEAD_SHARD_VERIFY (R200): The lead shard lands, is checked and its signature verified before other shards are fetched. -/
  | leadShardVerify (part : Part) (data : List Byte)
  /-- SHARD_VERIFY (R201): A shard lands, is read back and hash-checked; a failed try is retried or the STAGE fails. -/
  | shardVerify (part : Part) (shard : Fin 65536) (data : List Byte)
  /-- SHARD_FETCH_ERROR (R204): A shard fetch ends in a transport or host error, and the try fails. -/
  | shardFetchError (part : Part) (shard : Fin 65536)
  /-- DISCARD (R205): Loader command that drops the pending package and aborts a STAGE in progress. -/
  | discard (path : Path) (slot : LdSlot)
  /-- INSTALL (R206): Loader command that writes the pending package into the partition, after a drain or an immediate end if RUNNING. -/
  | install (path : Path) (slot : LdSlot)
  /-- INSTALL_WRITE_COMPLETE (R206): Every section is written and checked; the partition becomes READY or RUNNING, or EMPTY on failure. -/
  | installWriteComplete (part : Part) (info : LoadInfo) (unread : Option (Fin 1048576)) (bad : List RowMiss)
  /-- DRAIN_DEADLINE (R207): The first commit boundary at or after DRAIN_MS ends the remaining requests WEIGHTS_REPLACED, and writing begins. -/
  | drainDeadline (part : Part)
  /-- START (R197): Loader command that begins stepping a READY partition. -/
  | start (path : Path) (slot : LdSlot)
  /-- STOP (R196): Loader command that holds a RUNNING partition at its next commit boundary. -/
  | stop (path : Path) (slot : LdSlot)
  /-- ENROLL_KEY (R198): Loader command that enrols a publisher key in a key slot. -/
  | enrollKey (path : Path) (slot : LdSlot)
  /-- REVOKE_KEY (R198): Loader command that empties a publisher key slot. -/
  | revokeKey (path : Path) (slot : LdSlot)
  /-- SERVER_ENTRY_VALID (R203): Writing VALID of a server table entry enables it or clears DOWN. -/
  | serverEntryValid (path : Path) (entry : Fin 64) (valid : Bool)
  /-- SERVER_QP_ERROR (R203): A server queue pair enters error, and the entry is marked DOWN. -/
  | serverQpError (entry : Fin 64)
  /-- STREAM_PLAN_ENTRY (R212): LEAD steps before a matching PHASE, the stream engine sends an entry's rows by Cistern deliveries. -/
  | streamPlanEntry (part : Part) (entry : Fin 1048576) (behind : Bool)
  /-- REQUEST_FIELD_WRITE (R219): A host write to bytes 4 to 51 of a request entry, accepted only in FREE, terminal or PAUSED. -/
  | requestFieldWrite (path : Path) (req : Req) (word : Fin 12) (value : Word32)
  /-- SUBMIT (R221): A state-word write with STATE = SUBMITTED submits a request. -/
  | submit (path : Path) (req : Req) (gen : Fin 256)
  /-- FREE (R224): A state-word write with STATE = FREE frees a terminal entry and clears its results. -/
  | free (path : Path) (req : Req) (gen : Fin 256)
  /-- CANCEL (R238): Host command CANCEL, which takes effect at the first commit boundary that observes it. -/
  | cancel (path : Path) (req : Req) (gen : Fin 256)
  /-- PAUSE (R239): Host command PAUSE on a DECODE request. -/
  | pause (path : Path) (req : Req) (gen : Fin 256)
  /-- RESUME (R239): Host command RESUME on a PAUSED request, checked as at admission. -/
  | resume (path : Path) (req : Req) (gen : Fin 256)
  /-- STEWARD_ENTRY_SCAN (R221): The steward handles a marked entry that is not bound and whose partition is not stepping, within 100 µs. -/
  | stewardEntryScan (req : Req)
  /-- TRANSCRIPT_RESERVE (R222): A request waiting for allotment space reserves its transcript once space frees. -/
  | transcriptReserve (req : Req)
  /-- PROMPT_READ_DONE (R222): The prompt read from host memory completes, or fails with PROMPT_ERROR. -/
  | promptReadDone (req : Req) (data : Option (List (Fin 1048576)))
  /-- JOURNAL_ACK (R215): The standby acknowledgement, or the completion of both journal copies, lets the steward write output records and bindings. -/
  | journalAck (part : Part)
  /-- RING_QUEUE_DRAIN (R234): Queued records are written once the ring has room and EN is 1. -/
  | ringQueueDrain (part : Part)
  /-- MODERATION_TIMER (R237): TIME_US after the first unsignalled record, the ring vector is signalled. -/
  | moderationTimer (part : Part)
  /-- STW_MOD_WRITE (R237): A write of the moderation limits, which may signal the vector at once. -/
  | stwModWrite (path : Path) (part : Part) (time : Fin 65536) (count : Fin 65536)
  /-- RING_ENABLE (R232): Setting STW_RING_CFG.EN restarts TAIL and HEAD and lets queued records flow. -/
  | ringEnable (path : Path) (part : Part)
  /-- PARCEL_WRITE (R239): The cache pages of a paused or parked request are read into a parcel, or wait for room, and the pages are freed. -/
  | parcelWrite (req : Req)
  /-- ROTATE_EXPIRY (R240): A DECODE request reaches ROTATE_MS while an equal-priority request waits parked. -/
  | rotateExpiry (req : Req)
  /-- RESUME_READY (R239): A pending RESUME or parked request finds pages and space, returns to ADMITTED, and its parcel return starts. -/
  | resumeReady (req : Req) (data : Option (List (Fin 1048576))) (parcelOk : Bool)
  /-- PARCEL_RETURN_DONE (R239): Every parcel row has been copied, and the request becomes a binding candidate. -/
  | parcelReturnDone (req : Req)
  /-- PARCEL_TTL_EXPIRY (R239): A PAUSED request's time to live expires, and it ends FAILED with reason TTL. -/
  | parcelTtlExpiry (req : Req)
  /-- HARD_DEADLINE (R226): The hard deadline of a request passes, and it ends FAILED with reason DEADLINE. -/
  | hardDeadline (req : Req)
  /-- STEWARD_TAKEOVER (R216): On heartbeat loss or a core fault, the standby steward takes over, repeats unconfirmed records and rebuilds bindings. -/
  | stewardTakeover
  /-- STEWARD_SWAP (R216): STW_CTRL.SWAP requests a steward swap at the next wafer step boundary. -/
  | stewardSwap (path : Path)
  /-- STANDBY_RESYNC (R217): A returning standby finishes rebuilding its mirror, and journalling to it resumes. -/
  | standbyResync
  /-- STANDBY_LOSS (R217): The standby steward becomes absent, and journalling goes to the Cistern system area. -/
  | standbyLoss
  /-- PAIRING_WRITE (R242): A write of PAIR_EN and PEER pairs or unpairs the target and draft partitions. -/
  | pairingWrite (path : Path) (part : Part) (enable : Bool) (peer : Part)
  /-- SMIFORT_ENABLE (R248): Setting STW_PCFG.SMIFORT switches a partition to Smifort mode. -/
  | smifortEnable (path : Path) (part : Part) (enable : Bool)
  /-- SMI_SQ_POLL (R248): Firmware polls the S2 submission ring producer index every POLL_US. -/
  | smiSqPoll (part : Part) (producer : Fin 4294967296) (bad : Option (Fin 4294967296))
  /-- S2_GENERATE (R248): An S2 GENERATE submission entry starts a request. -/
  | s2Generate (part : Part) (entry : S2Entry)
  /-- S2_CANCEL (R248): An S2 CANCEL entry cancels the request that it names by tag. -/
  | s2Cancel (part : Part) (tag : Fin 4294967296)
  /-- AUX_INPUT_LOSS (R251): Loss of the auxiliary input stops the converters within 1 ms. -/
  | auxInputLoss
  /-- MAIN_INPUT_LOSS (R251): Loss or undervoltage of the 54 V input stops the converters; AON records 0x5006. -/
  | mainInputLoss (mv : Fin 65001)
  /-- CONVERTER_FAIL (R252): An intermediate converter fails, and the input limit falls. -/
  | converterFail (conv : Fin 8)
  /-- PHASE_FAIL (R253): A regulator phase is disabled, a spare is enabled, and the site may be derated or go dark. -/
  | phaseFail (site : Site) (phase : Fin 26)
  /-- TRANSIT_REGULATOR_FAULT (R255): A transit regulator fault makes routes through the site fail. -/
  | transitRegulatorFault (site : Site)
  /-- SPILLWAY_BOOST (R256): A detector below V_set − SPILL_MV makes the Spillway source current. -/
  | spillwayBoost (tile : Tile) (mv : Fin 1024)
  /-- SPILLWAY_SHUNT (R256): A detector above V_set + SPILL_MV makes the Spillway sink current. -/
  | spillwayShunt (tile : Tile) (mv : Fin 1024)
  /-- CLOCK_STRETCH_START (R257): A detector below V_set − DROOP_MV makes the region remove every second edge. -/
  | clockStretchStart (tile : Tile) (mv : Fin 1024)
  /-- CLOCK_STRETCH_END (R257): Every detector of the region recovers, and stretching stops. -/
  | clockStretchEnd (region : Region) (below : Fin 1024)
  /-- DEEP_DROOP (R258): A sense point below V_set − FLOOR_MV is recorded, and stretch factors are raised. -/
  | deepDroop (site : Site) (point : Fin 4) (mv : Fin 1024)
  /-- VMIN_CLEAR (R259): Command that clears every minimum-voltage record. -/
  | vminClear (path : Path)
  /-- QUADRANT_POWER_REQUEST (R261): A PWR_QREQ write requests IDLE, RETAIN or OFF for quadrants outside running partitions. -/
  | quadrantPowerRequest (path : Path) (quad : Quad) (request : Fin 4)
  /-- QUADRANT_TRANSITION_DONE (R260): A quadrant completes a power-state transition, with a scrub or zero fill on leaving RETAIN or OFF. -/
  | quadrantTransitionDone (quad : Quad) (upsets : List (Fin 256 × Fin 1024 × Fin 64 × Fin 72))
  /-- WAKE_START (R263): A wake begins stage 1 as a normal ramp once its neighbour conditions hold. -/
  | wakeStart (quad : Quad) (amps : List (Site × Fin 65536))
  /-- WAKE_WAIT_EXPIRY (R263): WAIT_US expires without quiet conditions, and the wake starts as a slow ramp. -/
  | wakeWaitExpiry (quad : Quad)
  /-- WAKE_STAGE_ADVANCE (R262): The domain voltage reaches a stage's fraction, and the next stage closes its headers. -/
  | wakeStageAdvance (quad : Quad) (mv : Fin 1024)
  /-- WAKE_FAIL (R264): A stage fails to advance within four times its typical time, and the quadrant stays OFF. -/
  | wakeFail (quad : Quad)
  /-- SUPPLY_ANOMALY (R265): The path resistance or a phase share exceeds its threshold, and a supply anomaly is reported. -/
  | supplyAnomaly (quad : Quad) (reading : PathReading)
  /-- PWR_REACTIVE_CLEAR (R272): Writing 1 to REACTIVE returns a partition to predictive mode. -/
  | pwrReactiveClear (path : Path) (part : Part)
  /-- PWR_ALERT_ASSERT (R273): PWR_ALERT_N low for 200 ns starts alert divide. -/
  | pwrAlertAssert
  /-- PWR_ALERT_RELEASE (R273): PWR_ALERT_N released; the HOLD_US hold starts. -/
  | pwrAlertRelease
  /-- ALERT_HOLD_EXPIRY (R273): The alert hold ends, and alert divide stops. -/
  | alertHoldExpiry
  /-- INTERNAL_ALERT (R274): Input power over a hard limit makes the engine assert alert divide itself. -/
  | internalAlert (pinW : Fin 65536) (excursion : Bool)
  /-- AGEING_MEASURE (R276): Every INTERVAL_H hours the replicas are measured and M_age is updated. -/
  | ageingMeasure (site : Site) (slow : Fin 256)
  /-- THETA_UPDATE (R282): Every 100 ms θ_s is updated from a valid sample, and cooling degradation is judged. -/
  | thetaUpdate (site : Site) (watts : Fin 65536) (steady : Bool)
  /-- REBASE (R283): Command that sets every θ_base to the current θ_s. -/
  | rebase (path : Path)
  /-- MONITOR_STALE_TIMEOUT (R281): A monitor stale for more than 1 s is treated as failed. -/
  | monitorStaleTimeout (base : Bool) (place : Tile)
  /-- JUNCTION_OVER_LIMIT (R286): T_s above JLIMIT for 1 ms starts lowering k_s. -/
  | junctionOverLimit (site : Site)
  /-- JUNCTION_HOT (R286): T_s above JLIMIT + 10 K for 100 µs forces F = 64 on the site's partitions. -/
  | junctionHot (site : Site)
  /-- JUNCTION_TRIP (R286): A diode at 110 °C or above for 100 µs makes the site go dark. -/
  | junctionTrip (tile : Tile) (raw : Fin 1024)
  /-- STACK_HOT_85 (R286): A stack above 85 °C switches to extended-temperature refresh. -/
  | stackHot85 (stack : Stack) (t : Fin 256)
  /-- STACK_HOT_95 (R286): A stack above 95 °C lowers A_θ in each cap window. -/
  | stackHot95 (stack : Stack) (t : Fin 256)
  /-- INLET_HIGH (R286): T_in above INLET_MAX is recorded. -/
  | inletHigh (tIn : Fin 65536)
  /-- FLOW_LOW (R286): Flow below FLOW_MIN is recorded. -/
  | flowLow (flow : Fin 65536)
  /-- MODULE_THERMAL_SHUTDOWN (R287): A shutdown condition stops the converters within 50 µs. -/
  | moduleThermalShutdown (tIn : Fin 65536) (tOut : Fin 65536) (flow : Fin 65536) (stack : Stack) (t : Fin 256)
  /-- LEAK_SENSED (R286): The leak trace wet for 10 ms sets LEAK and, with LEAK_STOP, shuts the module down. -/
  | leakSensed
  /-- SITE_RELEASE (R288): Command that releases a site dark from the junction trip. -/
  | siteRelease (path : Path) (site : Fin 64)
  /-- FORECAST_UPDATE (R289): Every 100 ms the power forecasts for 1 s, 10 s and 60 s are published. -/
  | forecastUpdate (changes : List (Part × Bool × Fin 60001))
  /-- WARMING_ROTATE (R290): Every 10 s the warming load rotates among quadrants and the floor is checked. -/
  | warmingRotate (quads : List Quad) (watts : Fin 61)
  /-- REGION_OFF (R292): Setting a THM_RGREQ bit switches an idle region off for heat. -/
  | regionOff (path : Path) (region : Region)
  /-- REGION_ON (R294): Clearing the bit, or a START or INSTALL touching the region, brings it back. -/
  | regionOn (path : Path) (region : Region)
  /-- CAL_PASS_REQ (R299): Software requests a calibration pass on array positions through PASS_REQ. -/
  | calPassReq (path : Path) (tile : Tile) (mask : Fin 512)
  /-- CAL_SOLVE_DONE (R303): The controller finishes solving trims into its working set 4,096 cycles after the probe. -/
  | calSolveDone (tile : Tile) (pos : Fin 9)
  /-- SNAP (R313): Command that snapshots the tile's trims into its trim image. -/
  | snap (path : Path) (tile : Tile)
  /-- RESTORE (R314): Command that restores trims from the trim image after checks. -/
  | restore (path : Path) (tile : Tile)
  /-- MONITOR_CALIBRATION (R315): Each monitor is calibrated against its reference once per MON_PERIOD. -/
  | monitorCalibration (mon : Fin 4) (place : Tile) (ended : Bool) (ofs : Int) (gain : Int)
  /-- COLD_START (R320): The auxiliary input comes into range, and bring-up runs through the cold start timeline. -/
  | coldStart (found : BringUp)
  /-- MAIN_INPUT_IN_RANGE (R319): The 54 V input reaches range, and a bring-up waiting in BOOT continues. -/
  | mainInputInRange (found : BringUp)
  /-- ACCEPT_TOPOLOGY (R325): RST command that takes disagreeing items out of service and declares READY. -/
  | acceptTopology (path : Path)
  /-- TILE_RESET (R333): RST command resetting a tile. -/
  | tileReset (path : Path) (target : Fin 1048576)
  /-- SITE_RESET (R333): RST command resetting a site. -/
  | siteReset (path : Path) (target : Fin 1048576)
  /-- PART_RESET (R333): RST command resetting a partition. -/
  | partReset (path : Path) (part : Part)
  /-- WAFER_RESET (R333): RST command resetting the wafer compute. -/
  | waferReset (path : Path)
  /-- MODULE_WARM (R327): RST command for a warm module reset, on the fast path or the full path. -/
  | moduleWarm (path : Path) (found : BringUp)
  /-- RESET_DRAIN_END (R333): The drain ends or DRAIN_US expires; the remainder is absorbed and the scope is reset. -/
  | resetDrainEnd
  /-- REPAIR_TILE (R337): RST command that repairs the named tile by column shift. -/
  | repairTile (path : Path) (target : Fin 1048576) (clean : Bool) (fails : Bool)
  /-- PTEST (R344): RST command that runs self test on a partition's quadrants. -/
  | ptest (path : Path) (part : Part) (level : Fin 2) (failed : List Tile)
  /-- PERST (R334): PERST# or a hot reset resets the PCI Express controller, or the module if PERST_MODULE is 1. -/
  | perst (found : BringUp)
  /-- VF_FLR (R334): A function level reset of a virtual function resets its partition and frees its requests. -/
  | vfFlr (part : Part)
  /-- PF_FLR (R334): A function level reset of the physical function resets its PCI Express state and sessions. -/
  | pfFlr
  /-- TILE_FAIL (R336): A tile failure condition fences the tile, and repair follows. -/
  | tileFail (tile : Tile) (cond : Fin 5) (clean : Bool) (fails : Bool)
  /-- STACK_FAIL (R342): A stack loses training or exceeds its error rate and is failed. -/
  | stackFail (stack : Stack) (damaged : List (Req × Bool))
  /-- RIM_DIE_FAIL (R342): A rim die fails with its six stacks and its functions. -/
  | rimDieFail (rim : Fin 8) (damaged : List (Req × Bool))
  /-- SPARE_TILE_TEST (R345): Every PERIOD_MIN, unused spare tiles are tested at the quick level. -/
  | spareTileTest (site : Site) (column : Fin 32) (south : Bool) (first : Bool) (ok : Bool)
  /-- FW_IMAGE_WRITE (R346): PLDM firmware update writes and checks a steward image in the inactive slot. -/
  | fwImageWrite (kind : Fin 5) (image : Fin 18446744073709551616) (signed : Bool)
  /-- FW_STANDBY_READY (R346): The standby with the new image reports STANDBY_OK, and the stewards swap. -/
  | fwStandbyReady
  /-- FW_STANDBY_TIMEOUT (R346): The standby does not report STANDBY_OK within 10 s, and the update fails. -/
  | fwStandbyTimeout
  /-- FW_CONFIRM_EXPIRY (R346): The confirmation time ends, and the former steward loads the new image. -/
  | fwConfirmExpiry
  /-- LIC_INSTALL (R329): LIC command that checks and stores a Saffron certificate. -/
  | licInstall (path : Path) (signed : Bool)
  /-- LIC_REMOVE (R330): LIC command that empties a licence slot unless a feature is in use. -/
  | licRemove (path : Path) (slot : Fin 16)
  /-- IDE_CHECK_FAIL (R352): A TLP that fails its IDE check is discarded and reported. -/
  | ideCheckFail (read : IdeRead)
  /-- PCIE_LINK_DOWN (R377): The PCI Express link goes down, and rings count as full. -/
  | pcieLinkDown
  /-- ETH_PORT_DOWN (R377): An Ethernet port goes down, and its queue pairs enter error. -/
  | ethPortDown (port : Fin 4)
  /-- ETH_FRAME (R353): A received Ethernet frame is handled, or discarded and counted. -/
  | ethFrame (port : Fin 4) (frame : EthFrame)
  /-- PTP_MESSAGE (R356): A PTP exchange updates PTP time by slewing or stepping. -/
  | ptpMessage (port : Fin 4) (domain : Fin 256) (transport : Fin 4) (offset : Int) (rate : Fin 65536)
  /-- PTP_LOCK_LOSS (R356): The PTP master is lost, and time runs in holdover. -/
  | ptpLockLoss
  /-- PPS_IN_PULSE (R356): A PPS_IN pulse phase-locks PTP time when SRC is 1. -/
  | ppsInPulse (ns : Fin 1000000000)
  /-- AQD_LINK_MESSAGE (R358): LINK messages negotiate the version, exchange identities and authenticate the peer. -/
  | aqdLinkMessage (port : Site) (peer : LinkPeer)
  /-- AQD_FLIT_RECEIVE (R360): A received flit is checked, sequenced or NAKed. -/
  | aqdFlitReceive (port : Site) (flit : AqdFlit)
  /-- AQD_ACK_TIMEOUT (R360): No acknowledgement for 10 µs makes the port retrain. -/
  | aqdAckTimeout (port : Site)
  /-- AQD_RETRAIN_TIMEOUT (R360): A retrain not done in 1 ms takes the port down. -/
  | aqdRetrainTimeout (port : Site)
  /-- AQD_TRAIN_RETRY (R360): A down port retries its training every 100 ms. -/
  | aqdTrainRetry (port : Site)
  /-- AQD_LANE_SWAP (R361): A lane over its error threshold is replaced by the spare, or the port degrades. -/
  | aqdLaneSwap (port : Site) (lane : Fin 9) (passes : Bool)
  /-- AQD_STREAM (R363): A STREAM message delivers a row into a chained partition's inbound window. -/
  | aqdStream (port : Site) (tag : Fin 65536) (dtile : Fin 1048576) (drow : Fin 1024) (rcrc : Word32) (data : List Byte)
  /-- AQD_BIND (R366): A DELIVERY BIND from the head makes a member keep a shadow entry and write page lists. -/
  | aqdBind (port : Site) (tag : Fin 65536) (part : Part) (head : Req) (lc : Fin 4294967296) (lp : Fin 4294967296) (nqt : Fin 65536) (slot : Fin 1024)
  /-- AQD_END (R366): A DELIVERY END makes a member free the shadow entry and its pages. -/
  | aqdEnd (port : Site) (tag : Fin 65536) (part : Part) (head : Req)
  /-- AQD_RESULT (R366): A DELIVERY RESULT forwards the last module's sampler result to the head. -/
  | aqdResult (port : Site) (tag : Fin 65536) (part : Part) (slot : Fin 1024) (row : Option (List Byte))
  /-- AQD_LOST (R366): A DELIVERY LOST reports a member's lost pages to the head for replay. -/
  | aqdLost (port : Site) (tag : Fin 65536) (part : Part) (head : Req) (pos : Fin 4294967296)
  /-- AQD_STOP (R366): A DELIVERY STOP stops every partition of the chain set at its next boundary. -/
  | aqdStop (port : Site) (tag : Fin 65536) (part : Part)
  /-- AQD_DACK (R363): A DACK acknowledges a STREAM or DELIVERY. -/
  | aqdDack (port : Site) (tag : Fin 65536)
  /-- AQD_DBUSY (R363): A DBUSY answers a busy or refused destination. -/
  | aqdDbusy (port : Site) (tag : Fin 65536) (refused : Bool)
  /-- AQD_MARK (R367): A MARK flit arrives, is forwarded, and releases the next chained attempt start. -/
  | aqdMark (port : Site) (chain : Fin 65536) (head : Part) (part : Part) (k : Fin 18446744073709551616) (ptp : Fin 18446744073709551616)
  /-- MARK_TIMEOUT (R367): A follower's mark is missing for MARK_TO_US, and the partition stops. -/
  | markTimeout (part : Part)
  /-- SET_FABRIC_MODE (R364): Owner command that sets Isolated or Chained mode. -/
  | setFabricMode (path : Path) (chained : Bool)
  /-- SET_CHAIN_PLAN (R365): Owner command that installs a chain plan. -/
  | setChainPlan (path : Path) (image : List Byte)
  /-- TAKE_OWNERSHIP (R372): Owner command that enrols the first owner key. -/
  | takeOwnership (path : Path) (session : Fin 4) (key : OwnerKey)
  /-- ENROLL_OWNER (R372): Owner command that fills an owner slot. -/
  | enrollOwner (path : Path) (slot : Fin 4) (key : OwnerKey)
  /-- REVOKE_OWNER (R372): Owner command that empties an owner slot. -/
  | revokeOwner (path : Path) (slot : Fin 4)
  /-- RELEASE_OWNERSHIP (R372): Owner command that empties the owner, publisher key and chain plan stores. -/
  | releaseOwnership (path : Path)
  /-- SESSION_LOCK (R374): Owner command that locks every RWL field until a module reset. -/
  | sessionLock (path : Path)
  /-- SESSION_OPEN (R373): An SPDM secured session is established, or refused at the session limit. -/
  | sessionOpen (path : Path) (ask : SessionAsk)
  /-- SESSION_HEARTBEAT_LOSS (R373): A session ends by heartbeat loss. -/
  | sessionHeartbeatLoss (session : Fin 8)
  /-- GET_MEASUREMENTS (R371): SPDM request that returns the measurements. -/
  | getMeasurements (path : Path) (index : Fin 256)
  /-- MGMT_REGISTER_ACCESS (R388): A management register-access message is version-checked and performs its read or write. -/
  | mgmtRegisterAccess (version : Fin 65536) (offset : Fin 67108864) (write : Option Word32)
  /-- SEC_NEG_WRITE (R388): A function negotiates the register interface major version. -/
  | secNegWrite (path : Path) (major : Fin 65536)
  /-- ERR_INJECT (R392): Arms one injected error of Table 15-12. -/
  | errInject (path : Path) (page : PageAt) (kind : Fin 256)
  /-- ERR_LOG_DATA0_READ (R391): A read of DATA0 copies the log record at IDX into DATA0 to DATA7. -/
  | errLogData0Read (path : Path)
  /-- ERR_LOG_DATA7_READ (R391): A read of DATA7 advances IDX by one. -/
  | errLogData7Read (path : Path)
  /-- SPLIT_COUNT_LO_READ (R381): A read of a _LO word latches the high word for the next _HI read. -/
  | splitCountLoRead (path : Path) (offset : Fin 67108864)
  /-- INT_ENABLE_WRITE (R389): Setting an enable while its status bit is 1 signals the vector. -/
  | intEnableWrite (path : Path) (which : Fin 3) (value : Word32)
  /-- REGISTER_WRITE (R383): A host write to a register without its own row, handled field by field under access and update classes. Offsets from 64 MiB on
  are those of BAR2 (R381). -/
  | registerWrite (path : Path) (offset : Fin 335544320) (value : Word32) (enables : Fin 16) (upper : Option (Word32 × Fin 16))
  /-- CREATE_COMPLETE (R192): The zero fill of a new partition's tiles and Cistern allotment ends, CREATE completes and the partition enters EMPTY. -/
  | createComplete (part : Part)
  /-- RESIZE_COMPLETE (R193): The zero fills of a RESIZE end, the new attributes are in force and the command completes. -/
  | resizeComplete (part : Part)
  /-- INTERNAL_ALERT_RELEASE (R274): Input power falls below 28 kW, ending the internal alert and starting its hold. -/
  | internalAlertRelease (pinW : Fin 65536)
  /-- SPILLWAY_RESERVOIR_RECHARGED (R256): A Spillway reservoir finishes its 5 µs recharge and SPILL_LOW clears. -/
  | spillwayReservoirRecharged (quad : Quad)
  /-- THERMAL_EPISODE_END (R286): A thermal protection condition has been clear for 1 s, its episode ends and its action, such as extended stack refresh, stops. -/
  | thermalEpisodeEnd (cond : Fin 9) (place : Fin 64)
  /-- WAKE_RETRY (R341): 1 s after a failed wake, the quadrant's wake is tried again as a slow ramp, and a second failure makes the quadrant impaired. -/
  | wakeRetry (quad : Quad)
  /-- PCIE_LINK_UP (R319): The PCI Express link trains up, after the 1.5 s Detect hold, and rings stop counting as full. -/
  | pcieLinkUp (speed : Fin 7) (lanes : Fin 5) (flit : Bool)
  /-- ETH_PORT_UP (R353): An Ethernet port's link comes up and NET_STATUS.LINK sets. -/
  | ethPortUp (port : Fin 4)
  /-- SESSION_CLOSE (R373): A requester ends an SPDM secured session, which frees its place in the session limit and ends its privileged writes. -/
  | sessionClose (session : Fin 8)
  /-- BUS_MASTER_ENABLE_CHANGE (R351): A configuration write changes a function's VF Enable or Bus Master Enable, stopping or resuming ring writes, prompt reads and MSI-X for its partition. -/
  | busMasterEnableChange (change : BusChange)
  /-- CAL_TEMPERATURE_TRIGGER (R299): The tile diode reading moves more than TRIG from an array's T_cal, which requests a calibration pass and marks its trims stale. -/
  | calTemperatureTrigger (tile : Tile) (reading : Fin 1024)
  deriving DecidableEq, Repr

end Sys2Proof
end

