-- ==== Sys2Proof/Decode.lean ====
section
/-! DEFINITION. No row of the opcode table gives bits, so no word spells a command by the table. -/

namespace Sys2Proof

/-- The command that a word of `nbits` bits spells by the opcode table's own bits: none, for its rows give none. -/
def decodeTableWord (_nbits _w : Nat) : Option Instr := none

end Sys2Proof
end

