-- ==== Sys2Proof/Config.lean ====
section
/-! DEFINITION. What one module fixes and what the spec leaves open. An `opaque` constant has no body: nothing can be
proved of its value, so a statement holds whatever it is. -/

namespace Sys2Proof

/-! Constants of one module (R4, R388, Tables 15-7, 7-12, 11-x, 14-x: reset value "factory" or "stepping"). -/

/-- The module is of stepping B0 (else A1); R4 lists the two production steppings. -/
opaque Config.nativeB0 : Bool
/-- The stepping code of R4. -/
def Config.steppingCode : Nat := if Config.nativeB0 then 0x10 else 0x01
/-- Word `i` of SEC_DEVICE_ID. -/
opaque Config.deviceIdWord : Nat → Nat
/-- Word `i` of SEC_SERIAL. -/
opaque Config.serialWord : Nat → Nat
/-- The factory measurement of the thermal resistance of a site (reset of THM_STHETA). -/
opaque Config.thetaFactory : Nat → Nat
/-- The factory MAC address of an Ethernet port, low and high words. -/
opaque Config.macLo : Nat → Nat
opaque Config.macHi : Nat → Nat

/-! Free values. Each is applied to State's counter `freeCtr`, which the step that takes one advances. -/

/-- The bits of a NaN that an operation forms of its operands (the spec names no payload). -/
opaque Config.nanBits : Nat → Nat → Nat → Nat → Nat
/-- The FP32 word an engine gives for a function of which the spec states only an error bound, or no value at all, at
an operand (1: 2^x; 2: log2 x; 3: 1/x; 4: 1/sqrt x; 5, 6: cosine and sine of a fraction of a turn; 7: a scaled
logit, of the logit times 2^32 plus the temperature). -/
opaque Config.approx : Nat → Nat → Nat
/-- The SECDED syndrome of a word whose flipped stored bits are those of the mask (R392: fixed within one stepping). -/
opaque Config.syndrome : Nat → Nat
/-- The analog noise of one conversion, in converter LSBs (Converter modes; 12 bounds its RMS after calibration). -/
opaque Config.noise : Nat → Int
/-- A byte of the trim set, and the residual error, that a foreground calibration measures (R310): of a bank, by the number of
that calibration. -/
opaque Config.fgTrim : Nat → Nat → Nat
opaque Config.fgSigma : Nat → Nat → Nat
/-- The INT32 lane of an operation whose result leaves the INT32 range, or that the spec gives no INT32 meaning (Table
4-8 states none), for its operands. -/
opaque Config.intLane : Nat → Nat → Nat → Nat → Nat
/-- Which product of a rotation is rounded before the fused multiply-add (R101 does not say). -/
opaque Config.rotFirst : Bool
/-- Whether stage T6 (0) and stage T7 (1) round once, or round the product before the sum (R56, the activation tables: not said). -/
opaque Config.fused : Nat → Bool
/-- The order in which a sum over lanes or outputs combines its terms (Table 4-8, T8: none is stated). -/
opaque Config.sumPick : Nat → Nat → Nat
/-- The SPDM measurement of an index (R371), as a number, of the contents of its item: SHA-384 of a form that the spec does not lay out. -/
opaque Config.measure : Nat → List Nat → Nat
/-- What a module reset finds (R320, R327), and the tiles that fail a self test (R344), where a register write asks for one. -/
opaque Config.findings : Nat → BringUp
opaque Config.failing : Nat → List Tile
/-- A byte of the Cistern system area as a read meets it (R27, R387): the spec lists what the area holds and lays none of it out. -/
opaque Config.areaByte : Nat → Nat → Byte
/-- The cycle after its issue of the `k`-th Basin access of a command word of a unit, with the pad bit of the timing profile (R116: fixed by the
command's fields and the profile; the spec does not state it). -/
opaque Config.portCycle : Nat → Nat → Nat → Nat → Nat
/-- The head dimension of the K8 page that an MLD word names (R86, R128: the word does not carry it): 64, 128 or 256 for 0, 1 or 2 modulo 3. -/
opaque Config.headDim : Nat → Nat
/-- Which of the shapes that fit a record's length an attention CMRG takes in a tile whose own ATTEND has another (R106: the word carries neither
the number of queries nor the head dimension). -/
opaque Config.recShape : Nat → Nat
/-- The cycle after its issue in which the first beat of a SAMPLE leaf's stream leaves, by duration and length of the stream (R113 does not give it). -/
opaque Config.smpFirst : Nat → Nat → Nat
/-- A free number: the value the spec leaves open at one use. -/
opaque Config.free : Nat → Nat

end Sys2Proof
end

