-- ==== Sys2Proof/Machine/Maps.lean ====
section
/-! DEFINITION. Sparse data as lists of key and value pairs in one canonical form (keys strictly rising), and the
byte memory built on it: an unlisted byte reads as zero and a zero is never listed. -/

namespace Sys2Proof.Machine

/-- Sparse data: `entries` lists each key once, keys strictly rising (`Map.wf`). -/
structure Map (α : Type) where
  entries : List (Nat × α)
  deriving DecidableEq, Repr

def Map.empty {α : Type} : Map α := ⟨[]⟩

/-- The value listed at a key of a list of pairs, if any. -/
def lookupList {α : Type} : List (Nat × α) → Nat → Option α
  | [], _ => none
  | (k', v) :: r, k => if k' = k then some v else lookupList r k

/-- The list with `v` at `k`, in key order. -/
def putList {α : Type} (k : Nat) (v : α) : List (Nat × α) → List (Nat × α)
  | [] => [(k, v)]
  | (k', v') :: r =>
    if k < k' then (k, v) :: (k', v') :: r
    else if k' = k then (k, v) :: r
    else (k', v') :: putList k v r

/-- The list without the key `k`. -/
def delList {α : Type} (k : Nat) : List (Nat × α) → List (Nat × α)
  | [] => []
  | (k', v') :: r => if k' = k then delList k r else (k', v') :: delList k r

/-- Keys strictly rising, the first at or above `lo`. -/
def risingFrom {α : Type} : Nat → List (Nat × α) → Bool
  | _, [] => true
  | lo, (k, _) :: r => decide (lo ≤ k) && risingFrom (k + 1) r

def Map.get? {α : Type} (m : Map α) (k : Nat) : Option α := lookupList m.entries k
def Map.get {α : Type} (m : Map α) (k : Nat) (d : α) : α := (lookupList m.entries k).getD d
def Map.put {α : Type} (m : Map α) (k : Nat) (v : α) : Map α := ⟨putList k v m.entries⟩
def Map.del {α : Type} (m : Map α) (k : Nat) : Map α := ⟨delList k m.entries⟩
def Map.has {α : Type} (m : Map α) (k : Nat) : Bool := (m.get? k).isSome
/-- The pairs whose key passes a test. -/
def Map.keep {α : Type} (m : Map α) (p : Nat → α → Bool) : Map α := ⟨m.entries.filter (fun e => p e.1 e.2)⟩
def Map.mapVal {α : Type} (m : Map α) (f : Nat → α → α) : Map α := ⟨m.entries.map (fun e => (e.1, f e.1 e.2))⟩
/-- Canonical form: keys strictly rising. -/
def Map.wf {α : Type} (m : Map α) : Bool := risingFrom 0 m.entries

/-- A set of numbers, held as a map to unit. -/
abbrev NatSet := Map Unit

def NatSet.mem (m : NatSet) (k : Nat) : Bool := m.has k
def NatSet.add (m : NatSet) (k : Nat) : NatSet := m.put k ()
/-- `m` with `k` in it or not, as `b` says. -/
def NatSet.upd (m : NatSet) (k : Nat) (b : Bool) : NatSet := if b then m.put k () else m.del k

/-- Memory: a byte at each address, as pairs of `Host.Cell`; an address that is not listed reads zero (R126: a tile
that comes into use is zero-filled; R38). -/
abbrev Memory := Map (BitVec 8)

/-- No entry equals what an unlisted address reads as. -/
def noZero : List Host.Cell → Bool
  | [] => true
  | (_, v) :: r => decide (v ≠ 0#8) && noZero r

/-- The canonical form of memory: addresses strictly rising, no zero listed. -/
def Memory.wf (m : Memory) : Bool := Map.wf m && noZero m.entries

def Memory.read (m : Memory) (a : Nat) : Byte := m.get a 0#8
/-- Writing zero removes the entry, so that equal memories are equal data. -/
def Memory.write (m : Memory) (a : Nat) (v : Byte) : Memory := if v = 0#8 then m.del a else m.put a v

def Memory.writeBytes (m : Memory) (a : Nat) : List Byte → Memory
  | [] => m
  | b :: r => Memory.writeBytes (Memory.write m a b) (a + 1) r

def Memory.readBytes (m : Memory) (a : Nat) : Nat → List Byte
  | 0 => []
  | n + 1 => Memory.read m a :: Memory.readBytes m (a + 1) n

/-- Little-endian number of `n` bytes (00 Notation: multibyte values are little-endian). -/
def Memory.readLE (m : Memory) (a : Nat) : Nat → Nat
  | 0 => 0
  | n + 1 => (Memory.read m a).toNat + 256 * Memory.readLE m (a + 1) n

def Memory.writeLE (m : Memory) (a : Nat) : Nat → Nat → Memory
  | 0, _ => m
  | n + 1, v => Memory.writeLE (Memory.write m a (BitVec.ofNat 8 v)) (a + 1) n (v / 256)

/-- Bytes `a` to `a + n - 1` zero. -/
def Memory.zero (m : Memory) (a n : Nat) : Memory := m.keep (fun k _ => k < a || a + n ≤ k)

/-- The listed bytes of `n` addresses from `src`, written from `dst` over zeros. -/
def Memory.copy (m : Memory) (src dst n : Nat) : Memory :=
  ((m.entries.filter (fun e => src ≤ e.1 && e.1 < src + n)).foldl
    (fun acc e => Memory.write acc (dst + (e.1 - src)) e.2) (Memory.zero m dst n))

/-- Numbers 0 to n - 1 in order. -/
def upTo (n : Nat) : List Nat := List.range n

/-- A bit of a number. -/
def bitAt (v i : Nat) : Bool := (v >>> i) % 2 = 1
/-- Bits [hi:lo] of a number. -/
def bits (v hi lo : Nat) : Nat := (v >>> lo) % 2 ^ (hi - lo + 1)
/-- `v` with bits [hi:lo] replaced. -/
def setBits (v hi lo x : Nat) : Nat :=
  let w := 2 ^ (hi - lo + 1)
  v - ((v >>> lo) % w) * 2 ^ lo + (x % w) * 2 ^ lo
/-- A bit of a number set or cleared. -/
def setBit (v i : Nat) (b : Bool) : Nat := setBits v i i (if b then 1 else 0)
def b2n (b : Bool) : Nat := if b then 1 else 0
/-- Saturating sum of a counter of `w` bits. -/
def satAdd (w v d : Nat) : Nat := min (v + d) (2 ^ w - 1)

end Sys2Proof.Machine
end

