-- ==== Sys2Proof/Machine/RegDefs.lean ====
section
/-! DEFINITION. The register fields of the W1's pages, one definition per field of the spec's register tables
(offset, bits, access type of Table 0-5, update class of R11, reset value, stated range of R395), and the fields of each page. -/

namespace Sys2Proof.Machine

/-- The pages of Tables 15-16 and 15-17. `cal` is the tile page of calibration, `calg` the global one. -/
inductive Page where
  | arr | num | eng | bsn | seq | rtr | cal
  | sec | int | err | clk | rst | lic | ld | stw | csd | pwr | thm | calg | net | aqd | pci
  deriving DecidableEq, Repr

/-- The block code of Tables 15-16 and 15-17. -/
def Page.code : Page → Nat
  | .arr => 0x20 | .num => 0x21 | .eng => 0x22 | .bsn => 0x23 | .seq => 0x24 | .rtr => 0x25 | .cal => 0x26
  | .sec => 0x01 | .int => 0x02 | .err => 0x03 | .clk => 0x04 | .rst => 0x05 | .lic => 0x06 | .ld => 0x07 | .stw => 0x08
  | .csd => 0x09 | .pwr => 0x0A | .thm => 0x0B | .calg => 0x0C | .net => 0x0D | .aqd => 0x0E | .pci => 0x0F

/-- A tile page (CAPS.TILE of Table 15-5). -/
def Page.isTile (p : Page) : Bool := 0x20 ≤ p.code

/-- Table 0-5. -/
inductive Access where
  | rw | ro | wo | w1c | rwl
  deriving DecidableEq, Repr

/-- The update classes of R11: static, boundary, live. -/
inductive UpdClass where
  | s | b | l
  deriving DecidableEq, Repr

/-- The range that a field's description states (R395). -/
inductive Range where
  | any
  | span (lo hi : Nat)
  | pos (ok : List Nat)
  deriving DecidableEq, Repr

/-- One field of a register, or of a set of `cnt` like registers `stride` bytes apart. `rst i` is the reset value of
the `i`-th; `perFn` marks a field of which each PCI Express function has its own copy. -/
structure Fld where
  page : Page
  off : Nat
  cnt : Nat
  stride : Nat
  hi : Nat
  lo : Nat
  acc : Access
  rst : Nat → Nat
  upd : UpdClass
  rng : Range
  perFn : Bool

def Fld.width (f : Fld) : Nat := f.hi - f.lo + 1
/-- The byte offset in its page of the `i`-th register that holds the field. -/
def Fld.offset (f : Fld) (i : Nat) : Nat := f.off + f.stride * i
/-- The one number under which State holds the `i`-th field of a page copy (`inst`: the tile of a tile page, the
function of a per-function field, else 0). -/
def Fld.key (f : Fld) (inst i : Nat) : Nat := ((f.page.code * 65536 + inst) * 4096 + f.offset i) * 32 + f.lo
/-- R395: the value lies in the stated range. -/
def Range.ok (r : Range) (v : Nat) : Bool :=
  match r with
  | .any => true
  | .span lo hi => decide (lo ≤ v) && decide (v ≤ hi)
  | .pos l => l.contains v

/-! The common page header (Table 15-5); the fields of a global page are kept per function (R396). -/

/-- 15 [15-5] `CTRL.SHADOW_VIEW`: reads of B-class fields return the shadow (R12) -/
def HDR_SHADOW_VIEW (p : Page) : Fld :=
  { page := p, off := 0x10, cnt := 1, stride := 4, hi := 0, lo := 0, acc := .rw, rst := fun _ => 0, upd := .l, rng := .any, perFn := !p.isTile }
/-- 15 [15-5] `ERR_STATUS.WRITE_REFUSED`: a write was refused (R10, R11) -/
def HDR_WRITE_REFUSED (p : Page) : Fld :=
  { page := p, off := 0x18, cnt := 1, stride := 4, hi := 0, lo := 0, acc := .w1c, rst := fun _ => 0, upd := .l, rng := .any, perFn := !p.isTile }
/-- 15 [15-5] `ERR_STATUS.INJECTED`: an injection of R392 has been consumed -/
def HDR_INJECTED (p : Page) : Fld :=
  { page := p, off := 0x18, cnt := 1, stride := 4, hi := 2, lo := 2, acc := .w1c, rst := fun _ => 0, upd := .l, rng := .any, perFn := !p.isTile }
/-- 15 [15-5] `ERR_MASK.MASK`: bit n masks ERR_STATUS bit n from aggregation (R390) -/
def HDR_ERR_MASK (p : Page) : Fld :=
  { page := p, off := 0x1C, cnt := 1, stride := 4, hi := 2, lo := 0, acc := .rw, rst := fun _ => 0, upd := .l, rng := .any, perFn := !p.isTile }
/-- 15 [15-5] `ERR_INJECT.KIND`: error injection (R392) -/
def HDR_ERR_INJECT (p : Page) : Fld :=
  { page := p, off := 0x20, cnt := 1, stride := 4, hi := 7, lo := 0, acc := .rwl, rst := fun _ => 0, upd := .l, rng := .any, perFn := false }
/-- 15 [15-5] `ERR_COUNT.COUNT`: writes refused or discarded; saturates -/
def HDR_ERR_COUNT (p : Page) : Fld :=
  { page := p, off := 0x24, cnt := 1, stride := 4, hi := 31, lo := 0, acc := .rw, rst := fun _ => 0, upd := .l, rng := .any, perFn := !p.isTile }
def Page.headerFields (p : Page) : List Fld :=
  [HDR_SHADOW_VIEW p, HDR_WRITE_REFUSED p, HDR_INJECTED p, HDR_ERR_MASK p, HDR_ERR_INJECT p, HDR_ERR_COUNT p]



/-- 02 [2-21] `ARR_BANK_CFG0_BSTATE`: bank state, coded as in Table 2-4 -/
def ARR_BANK_CFG0_BSTATE : Fld :=
  { page := .arr, off := 0x100, cnt := 9, stride := 0x100, hi := 28, lo := 26, acc := .ro, rst := fun _ => 0, upd := .l, rng := .any, perFn := false }

/-- 02 [2-21] `ARR_BANK_CFG1_BSTATE`: bank state, coded as in Table 2-4 -/
def ARR_BANK_CFG1_BSTATE : Fld :=
  { page := .arr, off := 0x104, cnt := 9, stride := 0x100, hi := 28, lo := 26, acc := .ro, rst := fun _ => 0, upd := .l, rng := .any, perFn := false }

/-- 02 [2-21] `ARR_BANK_CFG0_STREAM`: 1: stream bank; WRB accepted -/
def ARR_BANK_CFG0_STREAM : Fld :=
  { page := .arr, off := 0x100, cnt := 9, stride := 0x100, hi := 25, lo := 25, acc := .rw, rst := fun _ => 0, upd := .s, rng := .any, perFn := false }

/-- 02 [2-21] `ARR_BANK_CFG1_STREAM`: 1: stream bank; WRB accepted -/
def ARR_BANK_CFG1_STREAM : Fld :=
  { page := .arr, off := 0x104, cnt := 9, stride := 0x100, hi := 25, lo := 25, acc := .rw, rst := fun _ => 0, upd := .s, rng := .any, perFn := false }

/-- 02 [2-21] `ARR_BANK_CFG0_DEGRADED`: 1: a remap under R53 is in progress -/
def ARR_BANK_CFG0_DEGRADED : Fld :=
  { page := .arr, off := 0x100, cnt := 9, stride := 0x100, hi := 24, lo := 24, acc := .ro, rst := fun _ => 0, upd := .l, rng := .any, perFn := false }

/-- 02 [2-21] `ARR_BANK_CFG1_DEGRADED`: 1: a remap under R53 is in progress -/
def ARR_BANK_CFG1_DEGRADED : Fld :=
  { page := .arr, off := 0x104, cnt := 9, stride := 0x100, hi := 24, lo := 24, acc := .ro, rst := fun _ => 0, upd := .l, rng := .any, perFn := false }

/-- 02 [2-21] `ARR_BANK_CFG0_CMODE`: converter mode (Table 2-3) -/
def ARR_BANK_CFG0_CMODE : Fld :=
  { page := .arr, off := 0x100, cnt := 9, stride := 0x100, hi := 17, lo := 16, acc := .rw, rst := fun _ => 3, upd := .s, rng := .any, perFn := false }

/-- 02 [2-21] `ARR_BANK_CFG1_CMODE`: converter mode (Table 2-3) -/
def ARR_BANK_CFG1_CMODE : Fld :=
  { page := .arr, off := 0x104, cnt := 9, stride := 0x100, hi := 17, lo := 16, acc := .rw, rst := fun _ => 3, upd := .s, rng := .any, perFn := false }

/-- 02 [2-21] `ARR_BANK_CFG0_WFMT`: 0: W4; 1: W3; 2: W2; 3: WT; 4–7 reserved -/
def ARR_BANK_CFG0_WFMT : Fld :=
  { page := .arr, off := 0x100, cnt := 9, stride := 0x100, hi := 12, lo := 10, acc := .rw, rst := fun _ => 0, upd := .s, rng := (.span 0 3), perFn := false }

/-- 02 [2-21] `ARR_BANK_CFG1_WFMT`: 0: W4; 1: W3; 2: W2; 3: WT; 4–7 reserved -/
def ARR_BANK_CFG1_WFMT : Fld :=
  { page := .arr, off := 0x104, cnt := 9, stride := 0x100, hi := 12, lo := 10, acc := .rw, rst := fun _ => 0, upd := .s, rng := (.span 0 3), perFn := false }

/-- 02 [2-22] `ARR_CLIP_CTRL_CLIP_THRESH`: clipped conversions per MVM allowed before trouble; 0 to 1,023 -/
def ARR_CLIP_CTRL_CLIP_THRESH : Fld :=
  { page := .arr, off := 0x108, cnt := 9, stride := 0x100, hi := 9, lo := 0, acc := .rw, rst := fun _ => 4, upd := .b, rng := .any, perFn := false }

/-- 02 [2-23] `ARR_CLIP_LAST_COUNT`: clipped conversions in the last MVM; saturates at 65,535 -/
def ARR_CLIP_LAST_COUNT : Fld :=
  { page := .arr, off := 0x10c, cnt := 9, stride := 0x100, hi := 15, lo := 0, acc := .ro, rst := fun _ => 0, upd := .l, rng := .any, perFn := false }

/-- 02 [2-23] `ARR_CLIP_TOTAL_TOTAL`: clipped conversions since reset; saturates; software writes 0 to clear -/
def ARR_CLIP_TOTAL_TOTAL : Fld :=
  { page := .arr, off := 0x110, cnt := 9, stride := 0x100, hi := 31, lo := 0, acc := .rw, rst := fun _ => 0, upd := .l, rng := .any, perFn := false }

/-- 02 [2-24] `ARR_SPARE_MAP_P1_ROWS`: spare rows in use, plane 1, 0–8 -/
def ARR_SPARE_MAP_P1_ROWS : Fld :=
  { page := .arr, off := 0x114, cnt := 9, stride := 0x100, hi := 31, lo := 28, acc := .ro, rst := fun _ => 0, upd := .l, rng := .any, perFn := false }

/-- 02 [2-24] `ARR_SPARE_MAP_P0_ROWS`: spare rows in use, plane 0, 0–8 -/
def ARR_SPARE_MAP_P0_ROWS : Fld :=
  { page := .arr, off := 0x114, cnt := 9, stride := 0x100, hi := 27, lo := 24, acc := .ro, rst := fun _ => 0, upd := .l, rng := .any, perFn := false }

/-- 02 [2-24] `ARR_SPARE_MAP_P1_GROUPS`: spare converter groups in use, plane 1, 0–4 -/
def ARR_SPARE_MAP_P1_GROUPS : Fld :=
  { page := .arr, off := 0x114, cnt := 9, stride := 0x100, hi := 23, lo := 21, acc := .ro, rst := fun _ => 0, upd := .l, rng := .any, perFn := false }

/-- 02 [2-24] `ARR_SPARE_MAP_P0_GROUPS`: spare converter groups in use, plane 0, 0–4 -/
def ARR_SPARE_MAP_P0_GROUPS : Fld :=
  { page := .arr, off := 0x114, cnt := 9, stride := 0x100, hi := 20, lo := 18, acc := .ro, rst := fun _ => 0, upd := .l, rng := .any, perFn := false }

/-- 02 [2-24] `ARR_SPARE_MAP_SPARE_ARRAY`: 1: this logical array is served by the spare array -/
def ARR_SPARE_MAP_SPARE_ARRAY : Fld :=
  { page := .arr, off := 0x114, cnt := 9, stride := 0x100, hi := 15, lo := 15, acc := .ro, rst := fun _ => 0, upd := .l, rng := .any, perFn := false }

/-- 02 [2-25] `ARR_TROUBLE_CLIP_GROUP`: converter group (0–127) of the first clip in the most recent MVM that clipped -/
def ARR_TROUBLE_CLIP_GROUP : Fld :=
  { page := .arr, off := 0x118, cnt := 9, stride := 0x100, hi := 23, lo := 16, acc := .ro, rst := fun _ => 0, upd := .l, rng := .any, perFn := false }

/-- 02 [2-25] `ARR_TROUBLE_SPLIT_CLIP`: a clip in split form (R51) -/
def ARR_TROUBLE_SPLIT_CLIP : Fld :=
  { page := .arr, off := 0x118, cnt := 9, stride := 0x100, hi := 4, lo := 4, acc := .w1c, rst := fun _ => 0, upd := .l, rng := .any, perFn := false }

/-- 02 [2-25] `ARR_TROUBLE_WB_MISMATCH`: a WRB read-back mismatch (R46) -/
def ARR_TROUBLE_WB_MISMATCH : Fld :=
  { page := .arr, off := 0x118, cnt := 9, stride := 0x100, hi := 3, lo := 3, acc := .w1c, rst := fun _ => 0, upd := .l, rng := .any, perFn := false }

/-- 02 [2-25] `ARR_TROUBLE_NOVF`: narrow accumulator overflow trouble -/
def ARR_TROUBLE_NOVF : Fld :=
  { page := .arr, off := 0x118, cnt := 9, stride := 0x100, hi := 2, lo := 2, acc := .w1c, rst := fun _ => 0, upd := .l, rng := .any, perFn := false }

/-- 02 [2-25] `ARR_TROUBLE_CLIP`: clipping trouble (R49) -/
def ARR_TROUBLE_CLIP : Fld :=
  { page := .arr, off := 0x118, cnt := 9, stride := 0x100, hi := 1, lo := 1, acc := .w1c, rst := fun _ => 0, upd := .l, rng := .any, perFn := false }

/-- 02 [2-25] `ARR_TROUBLE_REFUSED`: a command to this array was refused (R40) -/
def ARR_TROUBLE_REFUSED : Fld :=
  { page := .arr, off := 0x118, cnt := 9, stride := 0x100, hi := 0, lo := 0, acc := .w1c, rst := fun _ => 0, upd := .l, rng := .any, perFn := false }

/-- 02 [2-26] `ARR_TCFG_OFMT`: output format: 0: A8; 1: A4 -/
def ARR_TCFG_OFMT (k : Nat) : Fld :=
  { page := .arr, off := 0x120 + 4 * k, cnt := 9, stride := 0x100, hi := 26, lo := 26, acc := .rw, rst := fun _ => 0, upd := .b, rng := .any, perFn := false }

/-- 02 [2-26] `ARR_TCFG_GATED`: 1: gated activation over column pairs -/
def ARR_TCFG_GATED (k : Nat) : Fld :=
  { page := .arr, off := 0x120 + 4 * k, cnt := 9, stride := 0x100, hi := 25, lo := 25, acc := .rw, rst := fun _ => 0, upd := .b, rng := .any, perFn := false }

/-- 02 [2-26] `ARR_TCFG_ACT_TBL`: activation table 0–3 -/
def ARR_TCFG_ACT_TBL (k : Nat) : Fld :=
  { page := .arr, off := 0x120 + 4 * k, cnt := 9, stride := 0x100, hi := 24, lo := 23, acc := .rw, rst := fun _ => 0, upd := .b, rng := .any, perFn := false }

/-- 02 [2-26] `ARR_TCFG_ACT_EN`: 1: stage T7 in use -/
def ARR_TCFG_ACT_EN (k : Nat) : Fld :=
  { page := .arr, off := 0x120 + 4 * k, cnt := 9, stride := 0x100, hi := 22, lo := 22, acc := .rw, rst := fun _ => 0, upd := .b, rng := .any, perFn := false }

/-- 02 [2-26] `ARR_TCFG_POOL_OP`: 00: none; 01: maximum; 10: mean; 11: reserved -/
def ARR_TCFG_POOL_OP (k : Nat) : Fld :=
  { page := .arr, off := 0x120 + 4 * k, cnt := 9, stride := 0x100, hi := 21, lo := 20, acc := .rw, rst := fun _ => 0, upd := .b, rng := (.span 0 2), perFn := false }

/-- 02 [2-26] `ARR_TCFG_POOL_SIZE`: group of 2, 4, 8 or 16 outputs -/
def ARR_TCFG_POOL_SIZE (k : Nat) : Fld :=
  { page := .arr, off := 0x120 + 4 * k, cnt := 9, stride := 0x100, hi := 19, lo := 18, acc := .rw, rst := fun _ => 0, upd := .b, rng := .any, perFn := false }

/-- 02 [2-26] `ARR_TCFG_CSCALE_EN`: 1: per-column output scale in T6 -/
def ARR_TCFG_CSCALE_EN (k : Nat) : Fld :=
  { page := .arr, off := 0x120 + 4 * k, cnt := 9, stride := 0x100, hi := 17, lo := 17, acc := .rw, rst := fun _ => 0, upd := .b, rng := .any, perFn := false }

/-- 02 [2-26] `ARR_TCFG_BIAS_EN`: 1: per-column bias in T6 -/
def ARR_TCFG_BIAS_EN (k : Nat) : Fld :=
  { page := .arr, off := 0x120 + 4 * k, cnt := 9, stride := 0x100, hi := 16, lo := 16, acc := .rw, rst := fun _ => 0, upd := .b, rng := .any, perFn := false }

/-- 02 [2-26] `ARR_TCFG_PRED`: predictor register 0–15 for T9 -/
def ARR_TCFG_PRED (k : Nat) : Fld :=
  { page := .arr, off := 0x120 + 4 * k, cnt := 9, stride := 0x100, hi := 15, lo := 12, acc := .rw, rst := fun _ => 0, upd := .b, rng := .any, perFn := false }

/-- 03 [3-7] `TILE_NUM_CTRL_SAT_THRESH`: saturated elements per output block allowed before trouble; 0 to 255 -/
def TILE_NUM_CTRL_SAT_THRESH : Fld :=
  { page := .num, off := 0x40, cnt := 1, stride := 0x4, hi := 23, lo := 16, acc := .rw, rst := fun _ => 2, upd := .b, rng := .any, perFn := false }

/-- 03 [3-7] `TILE_NUM_CTRL_UNDF_EN`: 1: underflow detector enabled -/
def TILE_NUM_CTRL_UNDF_EN : Fld :=
  { page := .num, off := 0x40, cnt := 1, stride := 0x4, hi := 0, lo := 0, acc := .rw, rst := fun _ => 1, upd := .b, rng := .any, perFn := false }

/-- 03 [3-8] `TILE_NUM_STATUS_VUNDF`: underflow in a VQNT of the vector engine or in a root CMRG of the Confluence unit (R92, R107) -/
def TILE_NUM_STATUS_VUNDF : Fld :=
  { page := .num, off := 0x44, cnt := 1, stride := 0x4, hi := 28, lo := 28, acc := .w1c, rst := fun _ => 0, upd := .l, rng := .any, perFn := false }

/-- 03 [3-8] `TILE_NUM_STATUS_VSAT`: saturation in a VQNT of the vector engine or in a root CMRG of the Confluence unit (R92, R107) -/
def TILE_NUM_STATUS_VSAT : Fld :=
  { page := .num, off := 0x44, cnt := 1, stride := 0x4, hi := 27, lo := 27, acc := .w1c, rst := fun _ => 0, upd := .l, rng := .any, perFn := false }

/-- 03 [3-8] `TILE_NUM_STATUS_ATTEMPT`: attempt number of the step in progress, or of the last step if the partition is stopped; 0 is the first attempt; every attempt counts, whether it follows a replay, a sluice miss, a slip or a faulted step; saturates at 7 -/
def TILE_NUM_STATUS_ATTEMPT : Fld :=
  { page := .num, off := 0x44, cnt := 1, stride := 0x4, hi := 26, lo := 24, acc := .ro, rst := fun _ => 0, upd := .l, rng := .any, perFn := false }

/-- 03 [3-8] `TILE_NUM_STATUS_WSAT`: bit n: wide saturation in the tail unit of logical array n -/
def TILE_NUM_STATUS_WSAT : Fld :=
  { page := .num, off := 0x44, cnt := 1, stride := 0x4, hi := 23, lo := 16, acc := .w1c, rst := fun _ => 0, upd := .l, rng := .any, perFn := false }

/-- 03 [3-8] `TILE_NUM_STATUS_UNDF`: bit n: underflow in the tail unit of logical array n -/
def TILE_NUM_STATUS_UNDF : Fld :=
  { page := .num, off := 0x44, cnt := 1, stride := 0x4, hi := 15, lo := 8, acc := .w1c, rst := fun _ => 0, upd := .l, rng := .any, perFn := false }

/-- 03 [3-8] `TILE_NUM_STATUS_SAT`: bit n: saturation in the tail unit of logical array n -/
def TILE_NUM_STATUS_SAT : Fld :=
  { page := .num, off := 0x44, cnt := 1, stride := 0x4, hi := 7, lo := 0, acc := .w1c, rst := fun _ => 0, upd := .l, rng := .any, perFn := false }

/-- 03 [3-9] `TILE_SAT_TOTAL_TOTAL`: output blocks that raised saturation since reset; saturates; software writes 0 to clear -/
def TILE_SAT_TOTAL_TOTAL : Fld :=
  { page := .num, off := 0x48, cnt := 1, stride := 0x4, hi := 31, lo := 0, acc := .rw, rst := fun _ => 0, upd := .l, rng := .any, perFn := false }

/-- 03 [3-9] `TILE_UNDF_TOTAL_TOTAL`: output blocks that raised underflow since reset; saturates; software writes 0 to clear -/
def TILE_UNDF_TOTAL_TOTAL : Fld :=
  { page := .num, off := 0x4c, cnt := 1, stride := 0x4, hi := 31, lo := 0, acc := .rw, rst := fun _ => 0, upd := .l, rng := .any, perFn := false }

/-- 03 [3-9] `TILE_WSAT_TOTAL_TOTAL`: operations that raised wide saturation since reset; saturates; software writes 0 to clear -/
def TILE_WSAT_TOTAL_TOTAL : Fld :=
  { page := .num, off := 0x50, cnt := 1, stride := 0x4, hi := 31, lo := 0, acc := .rw, rst := fun _ => 0, upd := .l, rng := .any, perFn := false }

/-- 03 [3-10] `TILE_PRED_PEAK`: peak needed exponent in units of 1/16 (R71); written by the loader and updated at commit boundaries -/
def TILE_PRED_PEAK : Fld :=
  { page := .num, off := 0x60, cnt := 16, stride := 0x4, hi := 27, lo := 16, acc := .rw, rst := fun _ => 2032, upd := .b, rng := .any, perFn := false }

/-- 03 [3-10] `TILE_PRED_HEADROOM`: exponent steps added to the prediction; 0 to 3 -/
def TILE_PRED_HEADROOM : Fld :=
  { page := .num, off := 0x60, cnt := 16, stride := 0x4, hi := 13, lo := 12, acc := .rw, rst := fun _ => 0, upd := .b, rng := .any, perFn := false }

/-- 03 [3-10] `TILE_PRED_DECAY`: fall of PEAK per committed step, in units of 1/16; 0 to 15 -/
def TILE_PRED_DECAY : Fld :=
  { page := .num, off := 0x60, cnt := 16, stride := 0x4, hi := 11, lo := 8, acc := .rw, rst := fun _ => 1, upd := .b, rng := .any, perFn := false }

/-- 03 [3-10] `TILE_PRED_E_PRED`: predicted exponent in force (R71) -/
def TILE_PRED_E_PRED : Fld :=
  { page := .num, off := 0x60, cnt := 16, stride := 0x4, hi := 7, lo := 0, acc := .ro, rst := fun _ => 127, upd := .l, rng := .any, perFn := false }

/-- 04 [4-18] `TILE_ENG_STATUS_SMP_NOTOKEN`: R111 -/
def TILE_ENG_STATUS_SMP_NOTOKEN : Fld :=
  { page := .eng, off := 0x40, cnt := 1, stride := 0x4, hi := 6, lo := 6, acc := .w1c, rst := fun _ => 0, upd := .l, rng := .any, perFn := false }

/-- 04 [4-18] `TILE_ENG_STATUS_CACHE_RANGE`: R96 -/
def TILE_ENG_STATUS_CACHE_RANGE : Fld :=
  { page := .eng, off := 0x40, cnt := 1, stride := 0x4, hi := 5, lo := 5, acc := .w1c, rst := fun _ => 0, upd := .l, rng := .any, perFn := false }

/-- 04 [4-18] `TILE_ENG_STATUS_CONF_REFUSED`: a CMRG was refused or read an absent beat -/
def TILE_ENG_STATUS_CONF_REFUSED : Fld :=
  { page := .eng, off := 0x40, cnt := 1, stride := 0x4, hi := 4, lo := 4, acc := .w1c, rst := fun _ => 0, upd := .l, rng := .any, perFn := false }

/-- 04 [4-18] `TILE_ENG_STATUS_HAZARD`: R91 -/
def TILE_ENG_STATUS_HAZARD : Fld :=
  { page := .eng, off := 0x40, cnt := 1, stride := 0x4, hi := 3, lo := 3, acc := .w1c, rst := fun _ => 0, upd := .l, rng := .any, perFn := false }

/-- 04 [4-18] `TILE_ENG_STATUS_VX_REFUSED`: a vector engine command was refused -/
def TILE_ENG_STATUS_VX_REFUSED : Fld :=
  { page := .eng, off := 0x40, cnt := 1, stride := 0x4, hi := 2, lo := 2, acc := .w1c, rst := fun _ => 0, upd := .l, rng := .any, perFn := false }

/-- 04 [4-18] `TILE_ENG_STATUS_MX_REFUSED`: a matrix engine command was refused -/
def TILE_ENG_STATUS_MX_REFUSED : Fld :=
  { page := .eng, off := 0x40, cnt := 1, stride := 0x4, hi := 1, lo := 1, acc := .w1c, rst := fun _ => 0, upd := .l, rng := .any, perFn := false }

/-- 04 [4-18] `TILE_ENG_STATUS_DESC_REFUSED`: an ATTEND or SAMPLE descriptor was refused -/
def TILE_ENG_STATUS_DESC_REFUSED : Fld :=
  { page := .eng, off := 0x40, cnt := 1, stride := 0x4, hi := 0, lo := 0, acc := .w1c, rst := fun _ => 0, upd := .l, rng := .any, perFn := false }

/-- 04 [4-18] `TILE_ATT_LAST_VISIBLE`: visible query–key pairs in the last committed ATTEND; saturates -/
def TILE_ATT_LAST_VISIBLE : Fld :=
  { page := .eng, off := 0x44, cnt := 1, stride := 0x4, hi := 31, lo := 12, acc := .ro, rst := fun _ => 0, upd := .l, rng := .any, perFn := false }

/-- 04 [4-18] `TILE_ATT_LAST_NQT`: query tokens of that ATTEND -/
def TILE_ATT_LAST_NQT : Fld :=
  { page := .eng, off := 0x44, cnt := 1, stride := 0x4, hi := 3, lo := 0, acc := .ro, rst := fun _ => 0, upd := .l, rng := .any, perFn := false }

/-- 04 [4-18] `TILE_SMP_LAST_EMITTED`: tokens emitted by the last committed root SAMPLE -/
def TILE_SMP_LAST_EMITTED : Fld :=
  { page := .eng, off := 0x48, cnt := 1, stride := 0x4, hi := 31, lo := 28, acc := .ro, rst := fun _ => 0, upd := .l, rng := .any, perFn := false }

/-- 04 [4-18] `TILE_SMP_LAST_ACCEPTED`: drafts accepted by it -/
def TILE_SMP_LAST_ACCEPTED : Fld :=
  { page := .eng, off := 0x48, cnt := 1, stride := 0x4, hi := 27, lo := 24, acc := .ro, rst := fun _ => 0, upd := .l, rng := .any, perFn := false }

/-- 04 [4-18] `TILE_SMP_LAST_TOKEN`: last token it emitted -/
def TILE_SMP_LAST_TOKEN : Fld :=
  { page := .eng, off := 0x48, cnt := 1, stride := 0x4, hi := 19, lo := 0, acc := .ro, rst := fun _ => 0, upd := .l, rng := .any, perFn := false }

/-- 05 [5-6] `BSN_STATUS_SLUICE_TIMEOUT`: tag timeout (R135) -/
def BSN_STATUS_SLUICE_TIMEOUT : Fld :=
  { page := .bsn, off := 0x40, cnt := 1, stride := 0x4, hi := 5, lo := 5, acc := .w1c, rst := fun _ => 0, upd := .l, rng := .any, perFn := false }

/-- 05 [5-6] `BSN_STATUS_SLUICE_MISS`: sluice miss (R134) -/
def BSN_STATUS_SLUICE_MISS : Fld :=
  { page := .bsn, off := 0x40, cnt := 1, stride := 0x4, hi := 4, lo := 4, acc := .w1c, rst := fun _ => 0, upd := .l, rng := .any, perFn := false }

/-- 05 [5-6] `BSN_STATUS_BOUNDS`: access outside the program window (R124) -/
def BSN_STATUS_BOUNDS : Fld :=
  { page := .bsn, off := 0x40, cnt := 1, stride := 0x4, hi := 3, lo := 3, acc := .w1c, rst := fun _ => 0, upd := .l, rng := .any, perFn := false }

/-- 05 [5-6] `BSN_STATUS_PAGE_REFUSED`: page list entry refused (R125) -/
def BSN_STATUS_PAGE_REFUSED : Fld :=
  { page := .bsn, off := 0x40, cnt := 1, stride := 0x4, hi := 2, lo := 2, acc := .w1c, rst := fun _ => 0, upd := .l, rng := .any, perFn := false }

/-- 05 [5-6] `BSN_STATUS_UE`: uncorrectable word (R118) -/
def BSN_STATUS_UE : Fld :=
  { page := .bsn, off := 0x40, cnt := 1, stride := 0x4, hi := 1, lo := 1, acc := .w1c, rst := fun _ => 0, upd := .l, rng := .any, perFn := false }

/-- 05 [5-6] `BSN_STATUS_CE`: corrected word (R117) -/
def BSN_STATUS_CE : Fld :=
  { page := .bsn, off := 0x40, cnt := 1, stride := 0x4, hi := 0, lo := 0, acc := .w1c, rst := fun _ => 0, upd := .l, rng := .any, perFn := false }

/-- 05 [5-7] `BSN_PROG_PROG_PAGES`: pages in the program window, 0 to 16 -/
def BSN_PROG_PROG_PAGES : Fld :=
  { page := .bsn, off := 0x44, cnt := 1, stride := 0x4, hi := 4, lo := 0, acc := .rw, rst := fun _ => 0, upd := .s, rng := (.span 0 16), perFn := false }

/-- 05 [5-7] `BSN_SLUICE_IN_EN`: 1: window in use -/
def BSN_SLUICE_IN_EN : Fld :=
  { page := .bsn, off := 0x48, cnt := 1, stride := 0x4, hi := 31, lo := 31, acc := .rw, rst := fun _ => 0, upd := .s, rng := .any, perFn := false }

/-- 05 [5-7] `BSN_SLUICE_OUT_EN`: 1: window in use -/
def BSN_SLUICE_OUT_EN : Fld :=
  { page := .bsn, off := 0x4c, cnt := 1, stride := 0x4, hi := 31, lo := 31, acc := .rw, rst := fun _ => 0, upd := .s, rng := .any, perFn := false }

/-- 05 [5-7] `BSN_SLUICE_IN_LAST`: last row of the window -/
def BSN_SLUICE_IN_LAST : Fld :=
  { page := .bsn, off := 0x48, cnt := 1, stride := 0x4, hi := 25, lo := 16, acc := .rw, rst := fun _ => 0, upd := .s, rng := .any, perFn := false }

/-- 05 [5-7] `BSN_SLUICE_OUT_LAST`: last row of the window -/
def BSN_SLUICE_OUT_LAST : Fld :=
  { page := .bsn, off := 0x4c, cnt := 1, stride := 0x4, hi := 25, lo := 16, acc := .rw, rst := fun _ => 0, upd := .s, rng := .any, perFn := false }

/-- 05 [5-7] `BSN_SLUICE_IN_FIRST`: first row of the window -/
def BSN_SLUICE_IN_FIRST : Fld :=
  { page := .bsn, off := 0x48, cnt := 1, stride := 0x4, hi := 9, lo := 0, acc := .rw, rst := fun _ => 0, upd := .s, rng := .any, perFn := false }

/-- 05 [5-7] `BSN_SLUICE_OUT_FIRST`: first row of the window -/
def BSN_SLUICE_OUT_FIRST : Fld :=
  { page := .bsn, off := 0x4c, cnt := 1, stride := 0x4, hi := 9, lo := 0, acc := .rw, rst := fun _ => 0, upd := .s, rng := .any, perFn := false }

/-- 05 [5-8] `BSN_SLUICE_CTRL_TIMEOUT_US`: tag timeout in µs, 10 to 1,000,000 -/
def BSN_SLUICE_CTRL_TIMEOUT_US : Fld :=
  { page := .bsn, off := 0x50, cnt := 1, stride := 0x4, hi := 19, lo := 0, acc := .rw, rst := fun _ => 1000, upd := .b, rng := (.span 10 1000000), perFn := false }

/-- 05 [5-8] `BSN_SCRUB_CTRL_EN`: 1: scrubber runs -/
def BSN_SCRUB_CTRL_EN : Fld :=
  { page := .bsn, off := 0x54, cnt := 1, stride := 0x4, hi := 31, lo := 31, acc := .rw, rst := fun _ => 1, upd := .l, rng := .any, perFn := false }

/-- 05 [5-8] `BSN_SCRUB_CTRL_WEAK_THRESH`: corrections in one row before a weak-row report, 1 to 255 -/
def BSN_SCRUB_CTRL_WEAK_THRESH : Fld :=
  { page := .bsn, off := 0x54, cnt := 1, stride := 0x4, hi := 23, lo := 16, acc := .rw, rst := fun _ => 16, upd := .l, rng := (.span 1 255), perFn := false }

/-- 05 [5-8] `BSN_SCRUB_CTRL_INTERVAL`: one scrubbed row per INTERVAL × 256 cycles, 1 to 65,535 -/
def BSN_SCRUB_CTRL_INTERVAL : Fld :=
  { page := .bsn, off := 0x54, cnt := 1, stride := 0x4, hi := 15, lo := 0, acc := .rw, rst := fun _ => 64, upd := .l, rng := (.span 1 65535), perFn := false }

/-- 05 [5-9] `BSN_CE_COUNT_COUNT`: corrected words since reset; saturates; software writes 0 to clear -/
def BSN_CE_COUNT_COUNT : Fld :=
  { page := .bsn, off := 0x58, cnt := 1, stride := 0x4, hi := 31, lo := 0, acc := .rw, rst := fun _ => 0, upd := .l, rng := .any, perFn := false }

/-- 05 [5-9] `BSN_UE_COUNT_COUNT`: words poisoned by uncorrectable errors since reset; saturates; software writes 0 to clear -/
def BSN_UE_COUNT_COUNT : Fld :=
  { page := .bsn, off := 0x5c, cnt := 1, stride := 0x4, hi := 31, lo := 0, acc := .rw, rst := fun _ => 0, upd := .l, rng := .any, perFn := false }

/-- 05 [5-9] `BSN_SLUICE_MISS_COUNT`: sluice misses since reset; saturates; software writes 0 to clear -/
def BSN_SLUICE_MISS_COUNT : Fld :=
  { page := .bsn, off := 0x68, cnt := 1, stride := 0x4, hi := 31, lo := 0, acc := .rw, rst := fun _ => 0, upd := .l, rng := .any, perFn := false }

/-- 05 [5-9] `BSN_LAST_ERR_UE`: 1: the last error was uncorrectable -/
def BSN_LAST_ERR_UE : Fld :=
  { page := .bsn, off := 0x60, cnt := 1, stride := 0x4, hi := 31, lo := 31, acc := .ro, rst := fun _ => 0, upd := .l, rng := .any, perFn := false }

/-- 05 [5-9] `BSN_LAST_ERR_ROW`: row of the last error -/
def BSN_LAST_ERR_ROW : Fld :=
  { page := .bsn, off := 0x60, cnt := 1, stride := 0x4, hi := 25, lo := 16, acc := .ro, rst := fun _ => 0, upd := .l, rng := .any, perFn := false }

/-- 05 [5-9] `BSN_LAST_ERR_WORD`: word in the row, 0 to 63 -/
def BSN_LAST_ERR_WORD : Fld :=
  { page := .bsn, off := 0x60, cnt := 1, stride := 0x4, hi := 13, lo := 8, acc := .ro, rst := fun _ => 0, upd := .l, rng := .any, perFn := false }

/-- 05 [5-9] `BSN_LAST_ERR_SYNDROME`: syndrome of the last error -/
def BSN_LAST_ERR_SYNDROME : Fld :=
  { page := .bsn, off := 0x60, cnt := 1, stride := 0x4, hi := 7, lo := 0, acc := .ro, rst := fun _ => 0, upd := .l, rng := .any, perFn := false }

/-- 05 [5-9] `BSN_WEAK_ROW_VALID`: 1: a weak row has been reported (R121) -/
def BSN_WEAK_ROW_VALID : Fld :=
  { page := .bsn, off := 0x64, cnt := 1, stride := 0x4, hi := 31, lo := 31, acc := .w1c, rst := fun _ => 0, upd := .l, rng := .any, perFn := false }

/-- 05 [5-9] `BSN_WEAK_ROW_ROW`: the weak row -/
def BSN_WEAK_ROW_ROW : Fld :=
  { page := .bsn, off := 0x64, cnt := 1, stride := 0x4, hi := 9, lo := 0, acc := .ro, rst := fun _ => 0, upd := .l, rng := .any, perFn := false }

/-- 05 [5-9] `BSN_PAGE_STATE_STATE`: 2 bits per page, page k at [2k + 1:2k]: 00 FREE; 01 PROGRAM; 10 CACHE; 11 RETIRED -/
def BSN_PAGE_STATE_STATE : Fld :=
  { page := .bsn, off := 0x6c, cnt := 1, stride := 0x4, hi := 31, lo := 0, acc := .ro, rst := fun _ => 0, upd := .l, rng := .any, perFn := false }

/-- 06 [6-16] `SEQ_STATUS_PROG`: program in force: 00 base; 01 split; 10 wide; 11 none -/
def SEQ_STATUS_PROG : Fld :=
  { page := .seq, off := 0x40, cnt := 1, stride := 0x4, hi := 31, lo := 30, acc := .ro, rst := fun _ => 3, upd := .l, rng := .any, perFn := false }

/-- 06 [6-16] `SEQ_STATUS_SLUICE_WAIT`: 1: a window-mode slot is waiting -/
def SEQ_STATUS_SLUICE_WAIT : Fld :=
  { page := .seq, off := 0x40, cnt := 1, stride := 0x4, hi := 19, lo := 19, acc := .ro, rst := fun _ => 0, upd := .l, rng := .any, perFn := false }

/-- 06 [6-16] `SEQ_STATUS_BUSY_END`: activity at program end (R150) -/
def SEQ_STATUS_BUSY_END : Fld :=
  { page := .seq, off := 0x40, cnt := 1, stride := 0x4, hi := 18, lo := 18, acc := .w1c, rst := fun _ => 0, upd := .l, rng := .any, perFn := false }

/-- 06 [6-16] `SEQ_STATUS_PARITY`: schedule parity fault (R151) -/
def SEQ_STATUS_PARITY : Fld :=
  { page := .seq, off := 0x40, cnt := 1, stride := 0x4, hi := 17, lo := 17, acc := .w1c, rst := fun _ => 0, upd := .l, rng := .any, perFn := false }

/-- 06 [6-16] `SEQ_STATUS_FENCED`: 1: the tile is fenced -/
def SEQ_STATUS_FENCED : Fld :=
  { page := .seq, off := 0x40, cnt := 1, stride := 0x4, hi := 16, lo := 16, acc := .ro, rst := fun _ => 0, upd := .l, rng := .any, perFn := false }

/-- 06 [6-16] `SEQ_STATUS_OFFSET`: offset counter -/
def SEQ_STATUS_OFFSET : Fld :=
  { page := .seq, off := 0x40, cnt := 1, stride := 0x4, hi := 15, lo := 0, acc := .ro, rst := fun _ => 0, upd := .l, rng := .any, perFn := false }

/-- 06 [6-16] `SEQ_PROG_COUNT`: entries in the program, 0 to 4,096 -/
def SEQ_PROG_COUNT : Fld :=
  { page := .seq, off := 0x44, cnt := 3, stride := 0x4, hi := 28, lo := 16, acc := .rw, rst := fun _ => 0, upd := .s, rng := (.span 0 4096), perFn := false }

/-- 06 [6-16] `SEQ_PROG_FIRST`: first entry -/
def SEQ_PROG_FIRST : Fld :=
  { page := .seq, off := 0x44, cnt := 3, stride := 0x4, hi := 11, lo := 0, acc := .rw, rst := fun _ => 0, upd := .s, rng := .any, perFn := false }

/-- 06 [6-16] `SEQ_PARITY_COUNT_COUNT`: parity faults since reset; saturates; software writes 0 to clear -/
def SEQ_PARITY_COUNT_COUNT : Fld :=
  { page := .seq, off := 0x50, cnt := 1, stride := 0x4, hi := 31, lo := 0, acc := .rw, rst := fun _ => 0, upd := .l, rng := .any, perFn := false }

/-- 06 [6-18] `RTR_STATUS_OWNER`: owning partition, valid when OWNED is 1 -/
def RTR_STATUS_OWNER : Fld :=
  { page := .rtr, off := 0x40, cnt := 1, stride := 0x4, hi := 21, lo := 16, acc := .ro, rst := fun _ => 0, upd := .l, rng := .any, perFn := false }

/-- 06 [6-18] `RTR_STATUS_OWNED`: 1: the tile belongs to a partition -/
def RTR_STATUS_OWNED : Fld :=
  { page := .rtr, off := 0x40, cnt := 1, stride := 0x4, hi := 15, lo := 15, acc := .ro, rst := fun _ => 0, upd := .l, rng := .any, perFn := false }

/-- 06 [6-18] `RTR_STATUS_LANE`: lane not owned (R144) -/
def RTR_STATUS_LANE : Fld :=
  { page := .rtr, off := 0x40, cnt := 1, stride := 0x4, hi := 9, lo := 9, acc := .w1c, rst := fun _ => 0, upd := .l, rng := .any, perFn := false }

/-- 06 [6-18] `RTR_STATUS_PARITY`: route table parity fault -/
def RTR_STATUS_PARITY : Fld :=
  { page := .rtr, off := 0x40, cnt := 1, stride := 0x4, hi := 8, lo := 8, acc := .w1c, rst := fun _ => 0, upd := .l, rng := .any, perFn := false }

/-- 06 [6-18] `RTR_STATUS_FENCED_ROUTE`: route to or from a fenced local port -/
def RTR_STATUS_FENCED_ROUTE : Fld :=
  { page := .rtr, off := 0x40, cnt := 1, stride := 0x4, hi := 7, lo := 7, acc := .w1c, rst := fun _ => 0, upd := .l, rng := .any, perFn := false }

/-- 06 [6-18] `RTR_STATUS_FOREIGN`: foreign beat discarded (R141) -/
def RTR_STATUS_FOREIGN : Fld :=
  { page := .rtr, off := 0x40, cnt := 1, stride := 0x4, hi := 6, lo := 6, acc := .w1c, rst := fun _ => 0, upd := .l, rng := .any, perFn := false }

/-- 06 [6-18] `RTR_STATUS_UNCLAIMED`: beat with no disposition -/
def RTR_STATUS_UNCLAIMED : Fld :=
  { page := .rtr, off := 0x40, cnt := 1, stride := 0x4, hi := 5, lo := 5, acc := .w1c, rst := fun _ => 0, upd := .l, rng := .any, perFn := false }

/-- 06 [6-18] `RTR_STATUS_MISSING`: expected beat absent -/
def RTR_STATUS_MISSING : Fld :=
  { page := .rtr, off := 0x40, cnt := 1, stride := 0x4, hi := 4, lo := 4, acc := .w1c, rst := fun _ => 0, upd := .l, rng := .any, perFn := false }

/-- 06 [6-18] `RTR_STATUS_CONFLICT`: two launches on one output -/
def RTR_STATUS_CONFLICT : Fld :=
  { page := .rtr, off := 0x40, cnt := 1, stride := 0x4, hi := 3, lo := 3, acc := .w1c, rst := fun _ => 0, upd := .l, rng := .any, perFn := false }

/-- 06 [6-18] `RTR_STATUS_CRC`: CRC failure (R140) -/
def RTR_STATUS_CRC : Fld :=
  { page := .rtr, off := 0x40, cnt := 1, stride := 0x4, hi := 2, lo := 2, acc := .w1c, rst := fun _ => 0, upd := .l, rng := .any, perFn := false }

/-- 06 [6-18] `RTR_STATUS_FENCED`: 1: tile fenced; transit only -/
def RTR_STATUS_FENCED : Fld :=
  { page := .rtr, off := 0x40, cnt := 1, stride := 0x4, hi := 1, lo := 1, acc := .ro, rst := fun _ => 0, upd := .l, rng := .any, perFn := false }

/-- 06 [6-18] `RTR_STATUS_TRANSIT`: 1: compute off; router on the transit rail only -/
def RTR_STATUS_TRANSIT : Fld :=
  { page := .rtr, off := 0x40, cnt := 1, stride := 0x4, hi := 0, lo := 0, acc := .ro, rst := fun _ => 0, upd := .l, rng := .any, perFn := false }

/-- 06 [6-18] `RTR_TBL_COUNT`: entries, 0 to 2,048 -/
def RTR_TBL_COUNT : Fld :=
  { page := .rtr, off := 0x44, cnt := 3, stride := 0x4, hi := 27, lo := 16, acc := .rw, rst := fun _ => 0, upd := .s, rng := (.span 0 2048), perFn := false }

/-- 06 [6-18] `RTR_TBL_FIRST`: first entry -/
def RTR_TBL_FIRST : Fld :=
  { page := .rtr, off := 0x44, cnt := 3, stride := 0x4, hi := 10, lo := 0, acc := .rw, rst := fun _ => 0, upd := .s, rng := .any, perFn := false }

/-- 06 [6-18] `RTR_CRC_COUNT_COUNT`: CRC failures since reset; saturates; software writes 0 to clear -/
def RTR_CRC_COUNT_COUNT : Fld :=
  { page := .rtr, off := 0x50, cnt := 1, stride := 0x4, hi := 31, lo := 0, acc := .rw, rst := fun _ => 0, upd := .l, rng := .any, perFn := false }

/-- 06 [6-18] `RTR_PHYSEL_WSEL`: west row offset, −2 to +2, two's complement -/
def RTR_PHYSEL_WSEL : Fld :=
  { page := .rtr, off := 0x54, cnt := 1, stride := 0x4, hi := 21, lo := 19, acc := .ro, rst := fun _ => 0, upd := .l, rng := .any, perFn := false }

/-- 06 [6-18] `RTR_PHYSEL_ESEL`: east row offset, −2 to +2, two's complement -/
def RTR_PHYSEL_ESEL : Fld :=
  { page := .rtr, off := 0x54, cnt := 1, stride := 0x4, hi := 18, lo := 16, acc := .ro, rst := fun _ => 0, upd := .l, rng := .any, perFn := false }

/-- 06 [6-18] `RTR_PHYSEL_SKSSEL`: skip south offset: 00: 2; 01: 3; 10: 4 -/
def RTR_PHYSEL_SKSSEL : Fld :=
  { page := .rtr, off := 0x54, cnt := 1, stride := 0x4, hi := 15, lo := 14, acc := .ro, rst := fun _ => 0, upd := .l, rng := .any, perFn := false }

/-- 06 [6-18] `RTR_PHYSEL_SKNSEL`: skip north offset, as SKSSEL -/
def RTR_PHYSEL_SKNSEL : Fld :=
  { page := .rtr, off := 0x54, cnt := 1, stride := 0x4, hi := 13, lo := 12, acc := .ro, rst := fun _ => 0, upd := .l, rng := .any, perFn := false }

/-- 06 [6-18] `RTR_PHYSEL_SSEL`: south offset: 01: 1; 10: 2; 11: 3 -/
def RTR_PHYSEL_SSEL : Fld :=
  { page := .rtr, off := 0x54, cnt := 1, stride := 0x4, hi := 11, lo := 10, acc := .ro, rst := fun _ => 1, upd := .l, rng := .any, perFn := false }

/-- 06 [6-18] `RTR_PHYSEL_NSEL`: north offset, as SSEL -/
def RTR_PHYSEL_NSEL : Fld :=
  { page := .rtr, off := 0x54, cnt := 1, stride := 0x4, hi := 9, lo := 8, acc := .ro, rst := fun _ => 1, upd := .l, rng := .any, perFn := false }

/-- 06 [6-20] `CSD_CTRL_ROOT_SWAP`: 1: swap active and standby roots at the next wafer step boundary -/
def CSD_CTRL_ROOT_SWAP : Fld :=
  { page := .csd, off := 0x40, cnt := 1, stride := 0x4, hi := 1, lo := 1, acc := .wo, rst := fun _ => 0, upd := .b, rng := .any, perFn := false }

/-- 06 [6-20] `CSD_CTRL_ACTIVE`: active root: 0: N1; 1: S1 -/
def CSD_CTRL_ACTIVE : Fld :=
  { page := .csd, off := 0x40, cnt := 1, stride := 0x4, hi := 0, lo := 0, acc := .ro, rst := fun _ => 0, upd := .l, rng := .any, perFn := false }

/-- 06 [6-20] `CSD_STATUS_MISMATCH`: decision mismatch (R163) -/
def CSD_STATUS_MISMATCH : Fld :=
  { page := .csd, off := 0x44, cnt := 1, stride := 0x4, hi := 2, lo := 2, acc := .w1c, rst := fun _ => 0, upd := .l, rng := .any, perFn := false }

/-- 06 [6-20] `CSD_STATUS_TAKEOVER`: standby took over (R163) -/
def CSD_STATUS_TAKEOVER : Fld :=
  { page := .csd, off := 0x44, cnt := 1, stride := 0x4, hi := 1, lo := 1, acc := .w1c, rst := fun _ => 0, upd := .l, rng := .any, perFn := false }

/-- 06 [6-20] `CSD_STATUS_STANDBY_OK`: 1: standby root in step -/
def CSD_STATUS_STANDBY_OK : Fld :=
  { page := .csd, off := 0x44, cnt := 1, stride := 0x4, hi := 0, lo := 0, acc := .ro, rst := fun _ => 1, upd := .l, rng := .any, perFn := false }

/-- 06 [6-20] `CSD_WSTEP_LEN`: wafer step length minus one, 511 to 65,535 -/
def CSD_WSTEP_LEN : Fld :=
  { page := .csd, off := 0x48, cnt := 1, stride := 0x4, hi := 15, lo := 0, acc := .rw, rst := fun _ => 4095, upd := .b, rng := (.span 511 65535), perFn := false }

/-- 06 [6-20] `CSD_WCOUNT_COUNT`: wafer count, bits [31:0] and [63:32] -/
def CSD_WCOUNT_COUNT : Fld :=
  { page := .csd, off := 0x50, cnt := 2, stride := 0x4, hi := 31, lo := 0, acc := .ro, rst := fun _ => 0, upd := .l, rng := .any, perFn := false }

/-- 06 [6-20] `CSD_PCFG_RUN`: 1: the partition is stepping -/
def CSD_PCFG_RUN : Fld :=
  { page := .csd, off := 0x800, cnt := 64, stride := 0x20, hi := 31, lo := 31, acc := .ro, rst := fun _ => 0, upd := .l, rng := .any, perFn := false }

/-- 06 [6-20] `CSD_PCFG_HOLD`: 1: hold at the next commit boundary (R162) -/
def CSD_PCFG_HOLD : Fld :=
  { page := .csd, off := 0x800, cnt := 64, stride := 0x20, hi := 30, lo := 30, acc := .rw, rst := fun _ => 0, upd := .l, rng := .any, perFn := false }

/-- 06 [6-20] `CSD_PCFG_SLIP_LIMIT`: consecutive slip replays before stop, 1 to 15 -/
def CSD_PCFG_SLIP_LIMIT : Fld :=
  { page := .csd, off := 0x800, cnt := 64, stride := 0x20, hi := 23, lo := 20, acc := .rw, rst := fun _ => 4, upd := .s, rng := (.span 1 15), perFn := false }

/-- 06 [6-20] `CSD_PCFG_XSLACK`: crossing slack, 4 to 60 cycles -/
def CSD_PCFG_XSLACK : Fld :=
  { page := .csd, off := 0x800, cnt := 64, stride := 0x20, hi := 19, lo := 14, acc := .rw, rst := fun _ => 16, upd := .s, rng := (.span 4 60), perFn := false }

/-- 06 [6-20] `CSD_PCFG_RMASK`: bit n: the partition touches RGn -/
def CSD_PCFG_RMASK : Fld :=
  { page := .csd, off := 0x800, cnt := 64, stride := 0x20, hi := 13, lo := 0, acc := .ro, rst := fun _ => 0, upd := .l, rng := .any, perFn := false }

/-- 06 [6-20] `CSD_PSTEP_GUARD`: guard band G, 8 to 1,024 cycles -/
def CSD_PSTEP_GUARD : Fld :=
  { page := .csd, off := 0x804, cnt := 64, stride := 0x20, hi := 27, lo := 16, acc := .rw, rst := fun _ => 32, upd := .s, rng := (.span 8 1024), perFn := false }

/-- 06 [6-20] `CSD_PSTEP_LEN`: step length Ls minus one, 511 to 65,535 -/
def CSD_PSTEP_LEN : Fld :=
  { page := .csd, off := 0x804, cnt := 64, stride := 0x20, hi := 15, lo := 0, acc := .rw, rst := fun _ => 511, upd := .s, rng := (.span 511 65535), perFn := false }

/-- 06 [6-20] `CSD_PSTRETCH_FACTOR`: step stretch in eighths, 8 to 64; set by the power cap -/
def CSD_PSTRETCH_FACTOR : Fld :=
  { page := .csd, off := 0x808, cnt := 64, stride := 0x20, hi := 6, lo := 0, acc := .ro, rst := fun _ => 8, upd := .l, rng := .any, perFn := false }

/-- 06 [6-20] `CSD_POVR_SLIPS`: slip replays; saturates; software writes 0 to clear -/
def CSD_POVR_SLIPS : Fld :=
  { page := .csd, off := 0x80c, cnt := 64, stride := 0x20, hi := 31, lo := 16, acc := .rw, rst := fun _ => 0, upd := .l, rng := .any, perFn := false }

/-- 06 [6-20] `CSD_POVR_OVERRUNS`: step overruns; saturates; software writes 0 to clear -/
def CSD_POVR_OVERRUNS : Fld :=
  { page := .csd, off := 0x80c, cnt := 64, stride := 0x20, hi := 15, lo := 0, acc := .rw, rst := fun _ => 0, upd := .l, rng := .any, perFn := false }

/-- 06 [6-20] `CSD_PCOUNT_LO_COUNT`: the partition's Cascade count, bits [31:0] and [63:32] -/
def CSD_PCOUNT_LO_COUNT : Fld :=
  { page := .csd, off := 0x810, cnt := 64, stride := 0x20, hi := 31, lo := 0, acc := .ro, rst := fun _ => 0, upd := .l, rng := .any, perFn := false }

/-- 06 [6-20] `CSD_PCOUNT_HI_COUNT`: the partition's Cascade count, bits [31:0] and [63:32] -/
def CSD_PCOUNT_HI_COUNT : Fld :=
  { page := .csd, off := 0x814, cnt := 64, stride := 0x20, hi := 31, lo := 0, acc := .ro, rst := fun _ => 0, upd := .l, rng := .any, perFn := false }

/-- 06 [6-20] `CSD_PSTRMAX_EDGES`: largest s of any region in the last committed attempt -/
def CSD_PSTRMAX_EDGES : Fld :=
  { page := .csd, off := 0x818, cnt := 64, stride := 0x20, hi := 15, lo := 0, acc := .ro, rst := fun _ => 0, upd := .l, rng := .any, perFn := false }

/-- 07 [7-12] `LD_PROFILES_NATIVE`: native profile -/
def LD_PROFILES_NATIVE : Fld :=
  { page := .ld, off := 0x80, cnt := 1, stride := 0x4, hi := 31, lo := 24, acc := .ro, rst := fun _ => Config.steppingCode, upd := .l, rng := .any, perFn := false }

/-- 07 [7-12] `LD_PROFILES_PROF2`: third accepted profile; 0x00: none -/
def LD_PROFILES_PROF2 : Fld :=
  { page := .ld, off := 0x80, cnt := 1, stride := 0x4, hi := 23, lo := 16, acc := .ro, rst := fun _ => 0, upd := .l, rng := .any, perFn := false }

/-- 07 [7-12] `LD_PROFILES_PROF1`: second accepted profile; 0x00: none -/
def LD_PROFILES_PROF1 : Fld :=
  { page := .ld, off := 0x80, cnt := 1, stride := 0x4, hi := 15, lo := 8, acc := .ro, rst := fun _ => if Config.nativeB0 then 0x10 else 0, upd := .l, rng := .any, perFn := false }

/-- 07 [7-12] `LD_PROFILES_PROF0`: first accepted profile -/
def LD_PROFILES_PROF0 : Fld :=
  { page := .ld, off := 0x80, cnt := 1, stride := 0x4, hi := 7, lo := 0, acc := .ro, rst := fun _ => 0x01, upd := .l, rng := .any, perFn := false }

/-- 07 [7-12] `LD_PPROF_PROFILE`: profile of the loaded package -/
def LD_PPROF_PROFILE : Fld :=
  { page := .ld, off := 0x100, cnt := 64, stride := 0x4, hi := 31, lo := 24, acc := .ro, rst := fun _ => 0, upd := .l, rng := .any, perFn := false }

/-- 07 [7-12] `LD_PPROF_PAD_T7`: 1: T7 padded by one cycle -/
def LD_PPROF_PAD_T7 : Fld :=
  { page := .ld, off := 0x100, cnt := 64, stride := 0x4, hi := 1, lo := 1, acc := .ro, rst := fun _ => 0, upd := .l, rng := .any, perFn := false }

/-- 07 [7-12] `LD_PPROF_PAD_SETUP`: 1: MVM setup padded by one cycle -/
def LD_PPROF_PAD_SETUP : Fld :=
  { page := .ld, off := 0x100, cnt := 64, stride := 0x4, hi := 0, lo := 0, acc := .ro, rst := fun _ => 0, upd := .l, rng := .any, perFn := false }

/-- 08 [8-15] `LD_STATUS_RATE`: loader write rate in the last 1 ms, GB/s -/
def LD_STATUS_RATE : Fld :=
  { page := .ld, off := 0x40, cnt := 1, stride := 0x4, hi := 15, lo := 0, acc := .ro, rst := fun _ => 0, upd := .l, rng := .any, perFn := false }

/-- 08 [8-15] `LD_PSTATE_STATE`: Table 8-4 -/
def LD_PSTATE_STATE : Fld :=
  { page := .ld, off := 0x200, cnt := 64, stride := 0x4, hi := 31, lo := 28, acc := .ro, rst := fun _ => 0, upd := .l, rng := .any, perFn := false }

/-- 08 [8-15] `LD_PSTATE_PEND`: Table 8-5 -/
def LD_PSTATE_PEND : Fld :=
  { page := .ld, off := 0x200, cnt := 64, stride := 0x4, hi := 27, lo := 26, acc := .ro, rst := fun _ => 0, upd := .l, rng := .any, perFn := false }

/-- 08 [8-15] `LD_PSTATE_STOPR`: 0: none; 1: STOP; 2: faulted step (R184); 3: tag timeout; 4: slip limit; 5: power or thermal; 6–15 reserved -/
def LD_PSTATE_STOPR : Fld :=
  { page := .ld, off := 0x200, cnt := 64, stride := 0x4, hi := 25, lo := 22, acc := .ro, rst := fun _ => 0, upd := .l, rng := .any, perFn := false }

/-- 08 [8-15] `LD_PSTATE_LCODE`: code of the last failed command on this partition -/
def LD_PSTATE_LCODE : Fld :=
  { page := .ld, off := 0x200, cnt := 64, stride := 0x4, hi := 15, lo := 0, acc := .ro, rst := fun _ => 0, upd := .l, rng := .any, perFn := false }

/-- 08 [8-15] `LD_KEYID_KEYID`: identifier of the key in the slot; 0: slot empty -/
def LD_KEYID_KEYID : Fld :=
  { page := .ld, off := 0x300, cnt := 64, stride := 0x4, hi := 31, lo := 0, acc := .ro, rst := fun _ => 0, upd := .l, rng := .any, perFn := false }

/-- 08 [8-15] `LD_PAREA_BASE`: byte offset, within the partition's allotment, of the resident package area (R201); 4 KiB aligned; meaningful while a package is resident -/
def LD_PAREA_BASE : Fld :=
  { page := .ld, off := 0x600, cnt := 128, stride := 0x4, hi := 31, lo := 0, acc := .ro, rst := fun _ => 0, upd := .l, rng := .any, perFn := false }

/-- 08 [8-16] `LD_CMD_CTL_GO`: 1: start the command in the slot -/
def LD_CMD_CTL_GO : Fld :=
  { page := .ld, off := 0x470, cnt := 4, stride := 0x80, hi := 0, lo := 0, acc := .wo, rst := fun _ => 0, upd := .l, rng := .any, perFn := false }

/-- 08 [8-16] `LD_CMD_STS_STATE`: 00: idle; 01: running; 10: done; 11: failed -/
def LD_CMD_STS_STATE : Fld :=
  { page := .ld, off := 0x474, cnt := 4, stride := 0x80, hi := 31, lo := 30, acc := .ro, rst := fun _ => 0, upd := .l, rng := .any, perFn := false }

/-- 08 [8-16] `LD_CMD_STS_CODE`: 0 on success; otherwise the code of the failure -/
def LD_CMD_STS_CODE : Fld :=
  { page := .ld, off := 0x474, cnt := 4, stride := 0x80, hi := 15, lo := 0, acc := .ro, rst := fun _ => 0, upd := .l, rng := .any, perFn := false }

/-- 08 [8-16] `LD_CMD_PROG_DONE`: shards verified, or tiles written -/
def LD_CMD_PROG_DONE : Fld :=
  { page := .ld, off := 0x478, cnt := 4, stride := 0x80, hi := 31, lo := 16, acc := .ro, rst := fun _ => 0, upd := .l, rng := .any, perFn := false }

/-- 08 [8-16] `LD_CMD_PROG_TOTAL`: shards, or tiles, in the command -/
def LD_CMD_PROG_TOTAL : Fld :=
  { page := .ld, off := 0x478, cnt := 4, stride := 0x80, hi := 15, lo := 0, acc := .ro, rst := fun _ => 0, upd := .l, rng := .any, perFn := false }

/-- 08 [8-10] `LD_SRV0_VALID`: 1: entry in use -/
def LD_SRV0_VALID : Fld :=
  { page := .ld, off := 0x800, cnt := 64, stride := 0x20, hi := 31, lo := 31, acc := .rw, rst := fun _ => 0, upd := .s, rng := .any, perFn := false }

/-- 08 [8-10] `LD_SRV0_DOWN`: 1: queue pair in error (R203) -/
def LD_SRV0_DOWN : Fld :=
  { page := .ld, off := 0x800, cnt := 64, stride := 0x20, hi := 30, lo := 30, acc := .ro, rst := fun _ => 0, upd := .l, rng := .any, perFn := false }

/-- 08 [8-10] `LD_SRV0_PORT`: Ethernet port 0 to 3 -/
def LD_SRV0_PORT : Fld :=
  { page := .ld, off := 0x800, cnt := 64, stride := 0x20, hi := 25, lo := 24, acc := .rw, rst := fun _ => 0, upd := .s, rng := .any, perFn := false }

/-- 08 [8-10] `LD_SRV0_RQPN`: server's queue pair number -/
def LD_SRV0_RQPN : Fld :=
  { page := .ld, off := 0x800, cnt := 64, stride := 0x20, hi := 23, lo := 0, acc := .rw, rst := fun _ => 0, upd := .s, rng := .any, perFn := false }

/-- 08 [8-10] `LD_SRV4_LPSN`: starting packet sequence number of the module's queue pair -/
def LD_SRV4_LPSN : Fld :=
  { page := .ld, off := 0x804, cnt := 64, stride := 0x20, hi := 23, lo := 0, acc := .rw, rst := fun _ => 0, upd := .s, rng := .any, perFn := false }

/-- 08 [8-10] `LD_SRV8_RKEY`: remote key of the server's region -/
def LD_SRV8_RKEY : Fld :=
  { page := .ld, off := 0x808, cnt := 64, stride := 0x20, hi := 31, lo := 0, acc := .rw, rst := fun _ => 0, upd := .s, rng := .any, perFn := false }

/-- 08 [8-10] `LD_SRVC_FAILS`: failed tries (R204); saturates; software writes 0 to clear -/
def LD_SRVC_FAILS : Fld :=
  { page := .ld, off := 0x80c, cnt := 64, stride := 0x20, hi := 31, lo := 16, acc := .rw, rst := fun _ => 0, upd := .l, rng := .any, perFn := false }

/-- 08 [8-10] `LD_SRVC_MAXRD`: outstanding READs minus one, 0 to 15 -/
def LD_SRVC_MAXRD : Fld :=
  { page := .ld, off := 0x80c, cnt := 64, stride := 0x20, hi := 7, lo := 4, acc := .rw, rst := fun _ => 15, upd := .s, rng := .any, perFn := false }

/-- 08 [8-10] `LD_SRVC_PMTU`: 3: 1,024; 4: 2,048; 5: 4,096 bytes -/
def LD_SRVC_PMTU : Fld :=
  { page := .ld, off := 0x80c, cnt := 64, stride := 0x20, hi := 2, lo := 0, acc := .rw, rst := fun _ => 5, upd := .s, rng := (.span 3 5), perFn := false }

/-- 09 [9-14] `STW_CTRL_SWAP`: 1: swap active and standby stewards at the next wafer step boundary -/
def STW_CTRL_SWAP : Fld :=
  { page := .stw, off := 0x40, cnt := 1, stride := 0x4, hi := 2, lo := 2, acc := .wo, rst := fun _ => 0, upd := .b, rng := .any, perFn := false }

/-- 09 [9-14] `STW_CTRL_STANDBY_OK`: 1: standby in step with the journal -/
def STW_CTRL_STANDBY_OK : Fld :=
  { page := .stw, off := 0x40, cnt := 1, stride := 0x4, hi := 1, lo := 1, acc := .ro, rst := fun _ => 1, upd := .l, rng := .any, perFn := false }

/-- 09 [9-14] `STW_CTRL_ACTIVE`: active steward: 0: N0; 1: S0 -/
def STW_CTRL_ACTIVE : Fld :=
  { page := .stw, off := 0x40, cnt := 1, stride := 0x4, hi := 0, lo := 0, acc := .ro, rst := fun _ => 0, upd := .l, rng := .any, perFn := false }

/-- 09 [9-14] `STW_STATUS_WRITE_REFUSED`: a state-word write was refused (R220) -/
def STW_STATUS_WRITE_REFUSED : Fld :=
  { page := .stw, off := 0x44, cnt := 1, stride := 0x4, hi := 2, lo := 2, acc := .w1c, rst := fun _ => 0, upd := .l, rng := .any, perFn := false }

/-- 09 [9-14] `STW_STATUS_HOST_READ_ERR`: a prompt read failed (R222) -/
def STW_STATUS_HOST_READ_ERR : Fld :=
  { page := .stw, off := 0x44, cnt := 1, stride := 0x4, hi := 1, lo := 1, acc := .w1c, rst := fun _ => 0, upd := .l, rng := .any, perFn := false }

/-- 09 [9-14] `STW_STATUS_TAKEOVER`: the standby took over (R216) -/
def STW_STATUS_TAKEOVER : Fld :=
  { page := .stw, off := 0x44, cnt := 1, stride := 0x4, hi := 0, lo := 0, acc := .w1c, rst := fun _ => 0, upd := .l, rng := .any, perFn := false }

/-- 09 [9-14] `STW_CFG_HB_US`: heartbeat timeout in µs, 20 to 10,000 -/
def STW_CFG_HB_US : Fld :=
  { page := .stw, off := 0x48, cnt := 1, stride := 0x4, hi := 15, lo := 0, acc := .rw, rst := fun _ => 200, upd := .l, rng := (.span 20 10000), perFn := false }

/-- 09 [9-14] `STW_PCFG_SMIFORT`: 1: Smifort mode (R248) -/
def STW_PCFG_SMIFORT : Fld :=
  { page := .stw, off := 0x800, cnt := 64, stride := 0x20, hi := 31, lo := 31, acc := .rw, rst := fun _ => 0, upd := .s, rng := .any, perFn := false }

/-- 09 [9-14] `STW_PCFG_PAIR_EN`: 1: paired with PEER (R242) -/
def STW_PCFG_PAIR_EN : Fld :=
  { page := .stw, off := 0x800, cnt := 64, stride := 0x20, hi := 30, lo := 30, acc := .rw, rst := fun _ => 0, upd := .s, rng := .any, perFn := false }

/-- 09 [9-14] `STW_PCFG_PEER`: peer partition -/
def STW_PCFG_PEER : Fld :=
  { page := .stw, off := 0x800, cnt := 64, stride := 0x20, hi := 29, lo := 24, acc := .rw, rst := fun _ => 0, upd := .s, rng := .any, perFn := false }

/-- 09 [9-14] `STW_PCFG_PREEMPT_GAP`: priority gap for preemption, 1 to 7; 0: off (R240) -/
def STW_PCFG_PREEMPT_GAP : Fld :=
  { page := .stw, off := 0x800, cnt := 64, stride := 0x20, hi := 22, lo := 20, acc := .rw, rst := fun _ => 4, upd := .b, rng := (.span 0 7), perFn := false }

/-- 09 [9-14] `STW_PCFG_ROTATE_MS`: rotation quantum in ms, 1 to 65,535; 0: off -/
def STW_PCFG_ROTATE_MS : Fld :=
  { page := .stw, off := 0x800, cnt := 64, stride := 0x20, hi := 15, lo := 0, acc := .rw, rst := fun _ => 0, upd := .b, rng := .any, perFn := false }

/-- 09 [9-14] `STW_MOD_TIME_US`: moderation time in µs; 0: none (R237) -/
def STW_MOD_TIME_US : Fld :=
  { page := .stw, off := 0x804, cnt := 64, stride := 0x20, hi := 31, lo := 16, acc := .rw, rst := fun _ => 50, upd := .l, rng := .any, perFn := false }

/-- 09 [9-14] `STW_MOD_COUNT`: moderation count, 1 to 65,535 -/
def STW_MOD_COUNT : Fld :=
  { page := .stw, off := 0x804, cnt := 64, stride := 0x20, hi := 15, lo := 0, acc := .rw, rst := fun _ => 32, upd := .l, rng := (.span 1 65535), perFn := false }

/-- 09 [9-14] `STW_RING_LO_BASE_LO`: ring address bits [31:12] -/
def STW_RING_LO_BASE_LO : Fld :=
  { page := .stw, off := 0x808, cnt := 64, stride := 0x20, hi := 31, lo := 12, acc := .rw, rst := fun _ => 0, upd := .s, rng := .any, perFn := false }

/-- 09 [9-14] `STW_RING_HI_BASE_HI`: ring address bits [63:32] -/
def STW_RING_HI_BASE_HI : Fld :=
  { page := .stw, off := 0x80c, cnt := 64, stride := 0x20, hi := 31, lo := 0, acc := .rw, rst := fun _ => 0, upd := .s, rng := .any, perFn := false }

/-- 09 [9-14] `STW_RING_CFG_EN`: 1: ring in use -/
def STW_RING_CFG_EN : Fld :=
  { page := .stw, off := 0x810, cnt := 64, stride := 0x20, hi := 31, lo := 31, acc := .rw, rst := fun _ => 0, upd := .s, rng := .any, perFn := false }

/-- 09 [9-14] `STW_RING_CFG_LOG2N`: log₂ of the ring's records, 6 to 20 -/
def STW_RING_CFG_LOG2N : Fld :=
  { page := .stw, off := 0x810, cnt := 64, stride := 0x20, hi := 4, lo := 0, acc := .rw, rst := fun _ => 6, upd := .s, rng := (.span 6 20), perFn := false }

/-- 09 [9-14] `STW_RING_TAIL_TAIL`: records written since EN last changed from 0 to 1; wraps modulo 2^32 (R232) -/
def STW_RING_TAIL_TAIL : Fld :=
  { page := .stw, off := 0x814, cnt := 64, stride := 0x20, hi := 31, lo := 0, acc := .ro, rst := fun _ => 0, upd := .l, rng := .any, perFn := false }

/-- 09 [9-14] `STW_RING_HEAD_HEAD`: records consumed, written by software; restarts at 0 with TAIL (R232) -/
def STW_RING_HEAD_HEAD : Fld :=
  { page := .stw, off := 0x818, cnt := 64, stride := 0x20, hi := 31, lo := 0, acc := .rw, rst := fun _ => 0, upd := .l, rng := .any, perFn := false }

/-- 09 [9-14] `STW_PCOUNT_ACTIVE`: requests in ADMITTED, PREFILL or DECODE; saturates -/
def STW_PCOUNT_ACTIVE : Fld :=
  { page := .stw, off := 0x81c, cnt := 64, stride := 0x20, hi := 31, lo := 16, acc := .ro, rst := fun _ => 0, upd := .l, rng := .any, perFn := false }

/-- 09 [9-14] `STW_PCOUNT_PARKED`: PARKED requests; saturates -/
def STW_PCOUNT_PARKED : Fld :=
  { page := .stw, off := 0x81c, cnt := 64, stride := 0x20, hi := 15, lo := 1, acc := .ro, rst := fun _ => 0, upd := .l, rng := .any, perFn := false }

/-- 09 [9-14] `STW_PCOUNT_RING_FULL`: 1: records are queued (R234) -/
def STW_PCOUNT_RING_FULL : Fld :=
  { page := .stw, off := 0x81c, cnt := 64, stride := 0x20, hi := 0, lo := 0, acc := .ro, rst := fun _ => 0, upd := .l, rng := .any, perFn := false }

/-- 09 [9-14] `SMI_SQ_LO_BASE_LO`: submission ring header address bits [31:12] -/
def SMI_SQ_LO_BASE_LO : Fld :=
  { page := .stw, off := 0x100, cnt := 64, stride := 0x10, hi := 31, lo := 12, acc := .rw, rst := fun _ => 0, upd := .s, rng := .any, perFn := false }

/-- 09 [9-14] `SMI_SQ_HI_BASE_HI`: address bits [63:32] -/
def SMI_SQ_HI_BASE_HI : Fld :=
  { page := .stw, off := 0x104, cnt := 64, stride := 0x10, hi := 31, lo := 0, acc := .rw, rst := fun _ => 0, upd := .s, rng := .any, perFn := false }

/-- 09 [9-14] `SMI_SQ_CFG_EN`: 1: submission ring in use -/
def SMI_SQ_CFG_EN : Fld :=
  { page := .stw, off := 0x108, cnt := 64, stride := 0x10, hi := 31, lo := 31, acc := .rw, rst := fun _ => 0, upd := .s, rng := .any, perFn := false }

/-- 09 [9-14] `SMI_SQ_CFG_POLL_US`: poll interval in µs, 1 to 1,000 -/
def SMI_SQ_CFG_POLL_US : Fld :=
  { page := .stw, off := 0x108, cnt := 64, stride := 0x10, hi := 23, lo := 8, acc := .rw, rst := fun _ => 10, upd := .l, rng := (.span 1 1000), perFn := false }

/-- 09 [9-14] `SMI_SQ_CFG_LOG2N`: log₂ of the entries, 6 to 12 -/
def SMI_SQ_CFG_LOG2N : Fld :=
  { page := .stw, off := 0x108, cnt := 64, stride := 0x10, hi := 4, lo := 0, acc := .rw, rst := fun _ => 6, upd := .s, rng := (.span 6 12), perFn := false }

/-- 10 [10-13] `PWR_CTRL_VMIN_CLEAR`: 1: clear every minimum-voltage record (R259) -/
def PWR_CTRL_VMIN_CLEAR : Fld :=
  { page := .pwr, off := 0x40, cnt := 1, stride := 0x4, hi := 0, lo := 0, acc := .wo, rst := fun _ => 0, upd := .l, rng := .any, perFn := false }

/-- 10 [10-13] `PWR_STATUS_ALERT`: 1: alert divide in force -/
def PWR_STATUS_ALERT : Fld :=
  { page := .pwr, off := 0x44, cnt := 1, stride := 0x4, hi := 5, lo := 5, acc := .ro, rst := fun _ => 0, upd := .l, rng := .any, perFn := false }

/-- 10 [10-13] `PWR_STATUS_INTERNAL_ALERT`: R274 -/
def PWR_STATUS_INTERNAL_ALERT : Fld :=
  { page := .pwr, off := 0x44, cnt := 1, stride := 0x4, hi := 4, lo := 4, acc := .w1c, rst := fun _ => 0, upd := .l, rng := .any, perFn := false }

/-- 10 [10-13] `PWR_STATUS_CONV_FAIL`: an intermediate converter failed (R252) -/
def PWR_STATUS_CONV_FAIL : Fld :=
  { page := .pwr, off := 0x44, cnt := 1, stride := 0x4, hi := 3, lo := 3, acc := .w1c, rst := fun _ => 0, upd := .l, rng := .any, perFn := false }

/-- 10 [10-13] `PWR_STATUS_ANOM`: a supply anomaly was reported (R265) -/
def PWR_STATUS_ANOM : Fld :=
  { page := .pwr, off := 0x44, cnt := 1, stride := 0x4, hi := 2, lo := 2, acc := .w1c, rst := fun _ => 0, upd := .l, rng := .any, perFn := false }

/-- 10 [10-13] `PWR_STATUS_MISMATCH`: a partition entered reactive mode (R270) -/
def PWR_STATUS_MISMATCH : Fld :=
  { page := .pwr, off := 0x44, cnt := 1, stride := 0x4, hi := 1, lo := 1, acc := .w1c, rst := fun _ => 0, upd := .l, rng := .any, perFn := false }

/-- 10 [10-13] `PWR_STATUS_DEEP_DROOP`: R258 -/
def PWR_STATUS_DEEP_DROOP : Fld :=
  { page := .pwr, off := 0x44, cnt := 1, stride := 0x4, hi := 0, lo := 0, acc := .w1c, rst := fun _ => 0, upd := .l, rng := .any, perFn := false }

/-- 10 [10-13] `PWR_CAP_ALLOW_W`: allowance A in force, W (R268) -/
def PWR_CAP_ALLOW_W : Fld :=
  { page := .pwr, off := 0x48, cnt := 1, stride := 0x4, hi := 31, lo := 16, acc := .ro, rst := fun _ => 0, upd := .l, rng := .any, perFn := false }

/-- 10 [10-13] `PWR_CAP_LIMIT_W`: input power limit, W; 3,500 to 28,000 -/
def PWR_CAP_LIMIT_W : Fld :=
  { page := .pwr, off := 0x48, cnt := 1, stride := 0x4, hi := 15, lo := 0, acc := .rw, rst := fun _ => 28000, upd := .l, rng := (.span 3500 28000), perFn := false }

/-- 10 [10-13] `PWR_CAPCFG_MIS_PCT`: mismatch threshold, %; 5 to 100 -/
def PWR_CAPCFG_MIS_PCT : Fld :=
  { page := .pwr, off := 0x4c, cnt := 1, stride := 0x4, hi := 31, lo := 24, acc := .rw, rst := fun _ => 25, upd := .b, rng := (.span 5 100), perFn := false }

/-- 10 [10-13] `PWR_CAPCFG_MIS_WIN`: consecutive windows; 4 to 255 -/
def PWR_CAPCFG_MIS_WIN : Fld :=
  { page := .pwr, off := 0x4c, cnt := 1, stride := 0x4, hi := 23, lo := 16, acc := .rw, rst := fun _ => 16, upd := .b, rng := (.span 4 255), perFn := false }

/-- 10 [10-13] `PWR_CAPCFG_LOW_PCT`: low-power threshold, %; 10 to 90 -/
def PWR_CAPCFG_LOW_PCT : Fld :=
  { page := .pwr, off := 0x4c, cnt := 1, stride := 0x4, hi := 15, lo := 8, acc := .rw, rst := fun _ => 50, upd := .b, rng := (.span 10 90), perFn := false }

/-- 10 [10-13] `PWR_DROOP_FLOOR_MV`: deep droop threshold, mV; 60 to 150 -/
def PWR_DROOP_FLOOR_MV : Fld :=
  { page := .pwr, off := 0x50, cnt := 1, stride := 0x4, hi := 31, lo := 24, acc := .rw, rst := fun _ => 90, upd := .b, rng := (.span 60 150), perFn := false }

/-- 10 [10-13] `PWR_DROOP_DROOP_MV`: clock stretch threshold, mV; 25 to 100 -/
def PWR_DROOP_DROOP_MV : Fld :=
  { page := .pwr, off := 0x50, cnt := 1, stride := 0x4, hi := 23, lo := 16, acc := .rw, rst := fun _ => 45, upd := .b, rng := (.span 25 100), perFn := false }

/-- 10 [10-13] `PWR_DROOP_SPILL_MV`: Spillway threshold, mV; 15 to 50 -/
def PWR_DROOP_SPILL_MV : Fld :=
  { page := .pwr, off := 0x50, cnt := 1, stride := 0x4, hi := 15, lo := 8, acc := .rw, rst := fun _ => 25, upd := .b, rng := (.span 15 50), perFn := false }

/-- 10 [10-13] `PWR_WAKE_PEAK_PCT`: neighbour peak threshold, %; 50 to 100 -/
def PWR_WAKE_PEAK_PCT : Fld :=
  { page := .pwr, off := 0x54, cnt := 1, stride := 0x4, hi := 31, lo := 24, acc := .rw, rst := fun _ => 85, upd := .l, rng := (.span 50 100), perFn := false }

/-- 10 [10-13] `PWR_WAKE_WAKE_MAX`: concurrent wakes; 1 to 56 -/
def PWR_WAKE_WAKE_MAX : Fld :=
  { page := .pwr, off := 0x54, cnt := 1, stride := 0x4, hi := 23, lo := 16, acc := .rw, rst := fun _ => 8, upd := .l, rng := (.span 1 56), perFn := false }

/-- 10 [10-13] `PWR_WAKE_WAIT_US`: wait for a quiet window, µs; 0 to 10,000 -/
def PWR_WAKE_WAIT_US : Fld :=
  { page := .pwr, off := 0x54, cnt := 1, stride := 0x4, hi := 15, lo := 0, acc := .rw, rst := fun _ => 200, upd := .l, rng := (.span 0 10000), perFn := false }

/-- 10 [10-13] `PWR_ALERT_PIN`: 1: PWR_ALERT_N is asserted -/
def PWR_ALERT_PIN : Fld :=
  { page := .pwr, off := 0x58, cnt := 1, stride := 0x4, hi := 31, lo := 31, acc := .ro, rst := fun _ => 0, upd := .l, rng := .any, perFn := false }

/-- 10 [10-13] `PWR_ALERT_COUNT`: assertions; saturates; software writes 0 to clear -/
def PWR_ALERT_COUNT : Fld :=
  { page := .pwr, off := 0x58, cnt := 1, stride := 0x4, hi := 30, lo := 16, acc := .rw, rst := fun _ => 0, upd := .l, rng := .any, perFn := false }

/-- 10 [10-13] `PWR_ALERT_HOLD_US`: hold after release, µs; 0 to 10,000 -/
def PWR_ALERT_HOLD_US : Fld :=
  { page := .pwr, off := 0x58, cnt := 1, stride := 0x4, hi := 15, lo := 0, acc := .rw, rst := fun _ => 100, upd := .l, rng := (.span 0 10000), perFn := false }

/-- 10 [10-13] `PWR_ANOM_ANOM_PCT`: resistance rise threshold, %; 10 to 200 -/
def PWR_ANOM_ANOM_PCT : Fld :=
  { page := .pwr, off := 0x5c, cnt := 1, stride := 0x4, hi := 31, lo := 24, acc := .rw, rst := fun _ => 30, upd := .l, rng := (.span 10 200), perFn := false }

/-- 10 [10-13] `PWR_AGE_INTERVAL_H`: ageing measurement interval, h; 1 to 168 -/
def PWR_AGE_INTERVAL_H : Fld :=
  { page := .pwr, off := 0x60, cnt := 1, stride := 0x4, hi := 31, lo := 24, acc := .rw, rst := fun _ => 24, upd := .l, rng := (.span 1 168), perFn := false }

/-- 10 [10-13] `PWR_IN_VIN`: input voltage, 10 mV units -/
def PWR_IN_VIN : Fld :=
  { page := .pwr, off := 0x64, cnt := 1, stride := 0x4, hi := 31, lo := 16, acc := .ro, rst := fun _ => 0, upd := .l, rng := .any, perFn := false }

/-- 10 [10-13] `PWR_IN_IIN`: input current, 0.1 A units -/
def PWR_IN_IIN : Fld :=
  { page := .pwr, off := 0x64, cnt := 1, stride := 0x4, hi := 15, lo := 0, acc := .ro, rst := fun _ => 0, upd := .l, rng := .any, perFn := false }

/-- 10 [10-13] `PWR_IN_P_PIN_W`: input power, W -/
def PWR_IN_P_PIN_W : Fld :=
  { page := .pwr, off := 0x68, cnt := 1, stride := 0x4, hi := 31, lo := 16, acc := .ro, rst := fun _ => 0, upd := .l, rng := .any, perFn := false }

/-- 10 [10-13] `PWR_IN_P_ETA`: conversion efficiency, per mille -/
def PWR_IN_P_ETA : Fld :=
  { page := .pwr, off := 0x68, cnt := 1, stride := 0x4, hi := 15, lo := 0, acc := .ro, rst := fun _ => 0, upd := .l, rng := .any, perFn := false }

/-- 10 [10-13] `PWR_ICONV_FAILED`: bit n: converter ICn failed -/
def PWR_ICONV_FAILED : Fld :=
  { page := .pwr, off := 0x6c, cnt := 1, stride := 0x4, hi := 7, lo := 0, acc := .ro, rst := fun _ => 0, upd := .l, rng := .any, perFn := false }

/-- 10 [10-13] `PWR_VMIN_IDX_SITE`: site 0 to 55 -/
def PWR_VMIN_IDX_SITE : Fld :=
  { page := .pwr, off := 0x70, cnt := 1, stride := 0x4, hi := 7, lo := 2, acc := .rw, rst := fun _ => 0, upd := .l, rng := (.span 0 55), perFn := false }

/-- 10 [10-13] `PWR_VMIN_IDX_POINT`: sense point: quadrant Q0 to Q3 -/
def PWR_VMIN_IDX_POINT : Fld :=
  { page := .pwr, off := 0x70, cnt := 1, stride := 0x4, hi := 1, lo := 0, acc := .rw, rst := fun _ => 0, upd := .l, rng := .any, perFn := false }

/-- 10 [10-13] `PWR_VMIN_MV_STALE`: 1: monitor in calibration (R259) -/
def PWR_VMIN_MV_STALE : Fld :=
  { page := .pwr, off := 0x74, cnt := 1, stride := 0x4, hi := 31, lo := 31, acc := .ro, rst := fun _ => 0, upd := .l, rng := .any, perFn := false }

/-- 10 [10-13] `PWR_VMIN_MV_MIN_MV`: lowest voltage read, mV -/
def PWR_VMIN_MV_MIN_MV : Fld :=
  { page := .pwr, off := 0x74, cnt := 1, stride := 0x4, hi := 9, lo := 0, acc := .ro, rst := fun _ => 1023, upd := .l, rng := .any, perFn := false }

/-- 10 [10-13] `PWR_VMIN_STEP_COUNT`: wafer count of the minimum, bits [31:0] and [63:32] -/
def PWR_VMIN_STEP_COUNT : Fld :=
  { page := .pwr, off := 0x78, cnt := 2, stride := 0x4, hi := 31, lo := 0, acc := .ro, rst := fun _ => 0, upd := .l, rng := .any, perFn := false }

/-- 10 [10-13] `PWR_VMIN_PTP_PTP`: PTP time of the minimum, ns, bits [31:0] and [63:32] -/
def PWR_VMIN_PTP_PTP : Fld :=
  { page := .pwr, off := 0x80, cnt := 2, stride := 0x4, hi := 31, lo := 0, acc := .ro, rst := fun _ => 0, upd := .l, rng := .any, perFn := false }

/-- 10 [10-14] `PWR_SCFG_VSET_MV`: set point in force, mV -/
def PWR_SCFG_VSET_MV : Fld :=
  { page := .pwr, off := 0x400, cnt := 56, stride := 0x10, hi := 25, lo := 16, acc := .ro, rst := fun _ => 0, upd := .l, rng := .any, perFn := false }

/-- 10 [10-14] `PWR_SCFG_AGE_MV`: ageing margin M_age, mV (R276) -/
def PWR_SCFG_AGE_MV : Fld :=
  { page := .pwr, off := 0x400, cnt := 56, stride := 0x10, hi := 15, lo := 8, acc := .ro, rst := fun _ => 10, upd := .l, rng := .any, perFn := false }

/-- 10 [10-14] `PWR_SSTAT_STATE`: 00 normal; 01 derated; 10 dark; 11 reserved -/
def PWR_SSTAT_STATE : Fld :=
  { page := .pwr, off := 0x404, cnt := 56, stride := 0x10, hi := 31, lo := 30, acc := .ro, rst := fun _ => 0, upd := .l, rng := .any, perFn := false }

/-- 10 [10-14] `PWR_SSTAT_PH_FAILED`: failed phases, 0 to 26 -/
def PWR_SSTAT_PH_FAILED : Fld :=
  { page := .pwr, off := 0x404, cnt := 56, stride := 0x10, hi := 29, lo := 25, acc := .ro, rst := fun _ => 0, upd := .l, rng := .any, perFn := false }

/-- 10 [10-14] `PWR_SSTAT_SPILL_LOW`: 1: a Spillway reservoir is recharging -/
def PWR_SSTAT_SPILL_LOW : Fld :=
  { page := .pwr, off := 0x404, cnt := 56, stride := 0x10, hi := 24, lo := 24, acc := .ro, rst := fun _ => 0, upd := .l, rng := .any, perFn := false }

/-- 10 [10-14] `PWR_SSTAT_ANOM`: bit q: supply anomaly in quadrant q (R265) -/
def PWR_SSTAT_ANOM : Fld :=
  { page := .pwr, off := 0x404, cnt := 56, stride := 0x10, hi := 23, lo := 20, acc := .w1c, rst := fun _ => 0, upd := .l, rng := .any, perFn := false }

/-- 10 [10-14] `PWR_SSTAT_AGE_LIMIT`: 1: set point held at 0.80 V (R276) -/
def PWR_SSTAT_AGE_LIMIT : Fld :=
  { page := .pwr, off := 0x404, cnt := 56, stride := 0x10, hi := 19, lo := 19, acc := .ro, rst := fun _ => 0, upd := .l, rng := .any, perFn := false }

/-- 10 [10-14] `PWR_SSTAT_ILIM_A`: site current limit, A -/
def PWR_SSTAT_ILIM_A : Fld :=
  { page := .pwr, off := 0x404, cnt := 56, stride := 0x10, hi := 9, lo := 0, acc := .ro, rst := fun _ => 720, upd := .l, rng := .any, perFn := false }

/-- 10 [10-14] `PWR_SCUR_I`: core current over the last 1 µs, 0.1 A units -/
def PWR_SCUR_I : Fld :=
  { page := .pwr, off := 0x408, cnt := 56, stride := 0x10, hi := 15, lo := 0, acc := .ro, rst := fun _ => 0, upd := .l, rng := .any, perFn := false }

/-- 10 [10-14] `PWR_PCFG_REACTIVE`: 1: reactive mode; writing 1 returns the partition to predictive mode -/
def PWR_PCFG_REACTIVE : Fld :=
  { page := .pwr, off := 0x800, cnt := 64, stride := 0x10, hi := 31, lo := 31, acc := .w1c, rst := fun _ => 0, upd := .l, rng := .any, perFn := false }

/-- 10 [10-14] `PWR_PCFG_PROTECT`: 1: protected partition (R269) -/
def PWR_PCFG_PROTECT : Fld :=
  { page := .pwr, off := 0x800, cnt := 64, stride := 0x10, hi := 30, lo := 30, acc := .rw, rst := fun _ => 0, upd := .s, rng := .any, perFn := false }

/-- 10 [10-14] `PWR_PEST_EST_W`: estimate at the factor in force, W -/
def PWR_PEST_EST_W : Fld :=
  { page := .pwr, off := 0x804, cnt := 64, stride := 0x10, hi := 15, lo := 0, acc := .ro, rst := fun _ => 0, upd := .l, rng := .any, perFn := false }

/-- 10 [10-14] `PWR_PMEAS_STREAK`: consecutive mismatching windows -/
def PWR_PMEAS_STREAK : Fld :=
  { page := .pwr, off := 0x808, cnt := 64, stride := 0x10, hi := 31, lo := 24, acc := .ro, rst := fun _ => 0, upd := .l, rng := .any, perFn := false }

/-- 10 [10-14] `PWR_PMEAS_MEAS_W`: measured power in the last window, W -/
def PWR_PMEAS_MEAS_W : Fld :=
  { page := .pwr, off := 0x808, cnt := 64, stride := 0x10, hi := 15, lo := 0, acc := .ro, rst := fun _ => 0, upd := .l, rng := .any, perFn := false }

/-- 11 [11-6] `THM_CTRL_RELEASE_SITE`: site to release (R288) -/
def THM_CTRL_RELEASE_SITE : Fld :=
  { page := .thm, off := 0x40, cnt := 1, stride := 0x4, hi := 9, lo := 4, acc := .rw, rst := fun _ => 0, upd := .l, rng := (.span 0 63), perFn := false }

/-- 11 [11-6] `THM_CTRL_RELEASE`: 1: release RELEASE_SITE (R288) -/
def THM_CTRL_RELEASE : Fld :=
  { page := .thm, off := 0x40, cnt := 1, stride := 0x4, hi := 1, lo := 1, acc := .wo, rst := fun _ => 0, upd := .l, rng := .any, perFn := false }

/-- 11 [11-6] `THM_CTRL_REBASE`: 1: set every θ_base to the current θ_s (R283) -/
def THM_CTRL_REBASE : Fld :=
  { page := .thm, off := 0x40, cnt := 1, stride := 0x4, hi := 0, lo := 0, acc := .wo, rst := fun _ => 0, upd := .l, rng := .any, perFn := false }

/-- 11 [11-6] `THM_STATUS_FLOOR_SHORT`: 1: the floor is not met (R290) -/
def THM_STATUS_FLOOR_SHORT : Fld :=
  { page := .thm, off := 0x44, cnt := 1, stride := 0x4, hi := 3, lo := 3, acc := .ro, rst := fun _ => 0, upd := .l, rng := .any, perFn := false }

/-- 11 [11-6] `THM_STATUS_LEAK`: leak sensed -/
def THM_STATUS_LEAK : Fld :=
  { page := .thm, off := 0x44, cnt := 1, stride := 0x4, hi := 2, lo := 2, acc := .w1c, rst := fun _ => 0, upd := .l, rng := .any, perFn := false }

/-- 11 [11-6] `THM_STATUS_COOLANT`: inlet or flow outside its threshold -/
def THM_STATUS_COOLANT : Fld :=
  { page := .thm, off := 0x44, cnt := 1, stride := 0x4, hi := 1, lo := 1, acc := .w1c, rst := fun _ => 0, upd := .l, rng := .any, perFn := false }

/-- 11 [11-6] `THM_STATUS_DEGRADED_ANY`: 1: some site reports cooling degraded -/
def THM_STATUS_DEGRADED_ANY : Fld :=
  { page := .thm, off := 0x44, cnt := 1, stride := 0x4, hi := 0, lo := 0, acc := .ro, rst := fun _ => 0, upd := .l, rng := .any, perFn := false }

/-- 11 [11-6] `THM_CFG_JLIMIT`: junction limit, °C; 70 to 95 -/
def THM_CFG_JLIMIT : Fld :=
  { page := .thm, off := 0x48, cnt := 1, stride := 0x4, hi := 31, lo := 24, acc := .rw, rst := fun _ => 85, upd := .b, rng := (.span 70 95), perFn := false }

/-- 11 [11-6] `THM_CFG_THETA_PCT`: cooling degraded threshold, %; 10 to 100 -/
def THM_CFG_THETA_PCT : Fld :=
  { page := .thm, off := 0x48, cnt := 1, stride := 0x4, hi := 23, lo := 16, acc := .rw, rst := fun _ => 25, upd := .b, rng := (.span 10 100), perFn := false }

/-- 11 [11-6] `THM_CFG_LEAK_STOP`: 1: shutdown on leak -/
def THM_CFG_LEAK_STOP : Fld :=
  { page := .thm, off := 0x48, cnt := 1, stride := 0x4, hi := 0, lo := 0, acc := .rw, rst := fun _ => 1, upd := .l, rng := .any, perFn := false }

/-- 11 [11-6] `THM_RAMP_RAMP_DN`: fall limit, 100 W/s units; 5 to 280 -/
def THM_RAMP_RAMP_DN : Fld :=
  { page := .thm, off := 0x4c, cnt := 1, stride := 0x4, hi := 31, lo := 16, acc := .rw, rst := fun _ => 50, upd := .b, rng := (.span 5 280), perFn := false }

/-- 11 [11-6] `THM_RAMP_RAMP_UP`: rise limit, 100 W/s units; 5 to 280 -/
def THM_RAMP_RAMP_UP : Fld :=
  { page := .thm, off := 0x4c, cnt := 1, stride := 0x4, hi := 15, lo := 0, acc := .rw, rst := fun _ => 50, upd := .b, rng := (.span 5 280), perFn := false }

/-- 11 [11-6] `THM_FLOOR_FLOOR_W`: keep-warm floor, W; 0 to 8,000 -/
def THM_FLOOR_FLOOR_W : Fld :=
  { page := .thm, off := 0x50, cnt := 1, stride := 0x4, hi := 15, lo := 0, acc := .rw, rst := fun _ => 3500, upd := .b, rng := (.span 0 8000), perFn := false }

/-- 11 [11-6] `THM_COOL_T_OUT`: outlet temperature, 0.05 °C units -/
def THM_COOL_T_OUT : Fld :=
  { page := .thm, off := 0x54, cnt := 1, stride := 0x4, hi := 31, lo := 16, acc := .ro, rst := fun _ => 0, upd := .l, rng := .any, perFn := false }

/-- 11 [11-6] `THM_COOL_T_IN`: inlet temperature, 0.05 °C units -/
def THM_COOL_T_IN : Fld :=
  { page := .thm, off := 0x54, cnt := 1, stride := 0x4, hi := 15, lo := 0, acc := .ro, rst := fun _ => 0, upd := .l, rng := .any, perFn := false }

/-- 11 [11-6] `THM_FLOW_DP`: pressure drop, 0.5 kPa units -/
def THM_FLOW_DP : Fld :=
  { page := .thm, off := 0x58, cnt := 1, stride := 0x4, hi := 31, lo := 16, acc := .ro, rst := fun _ => 0, upd := .l, rng := .any, perFn := false }

/-- 11 [11-6] `THM_FLOW_FLOW`: flow, 0.5 L/min units -/
def THM_FLOW_FLOW : Fld :=
  { page := .thm, off := 0x58, cnt := 1, stride := 0x4, hi := 15, lo := 0, acc := .ro, rst := fun _ => 0, upd := .l, rng := .any, perFn := false }

/-- 11 [11-6] `THM_COOLCFG_FLOW_MIN`: flow threshold, L/min; 40 to 90 -/
def THM_COOLCFG_FLOW_MIN : Fld :=
  { page := .thm, off := 0x5c, cnt := 1, stride := 0x4, hi := 15, lo := 8, acc := .rw, rst := fun _ => 60, upd := .l, rng := (.span 40 90), perFn := false }

/-- 11 [11-6] `THM_COOLCFG_INLET_MAX`: inlet threshold, °C; 25 to 45 -/
def THM_COOLCFG_INLET_MAX : Fld :=
  { page := .thm, off := 0x5c, cnt := 1, stride := 0x4, hi := 7, lo := 0, acc := .rw, rst := fun _ => 40, upd := .l, rng := (.span 25 45), perFn := false }

/-- 11 [11-6] `THM_FCST_MAX_W`: forecast maximum input power, W (R289) -/
def THM_FCST_MAX_W : Fld :=
  { page := .thm, off := 0x60, cnt := 3, stride := 0x4, hi := 31, lo := 16, acc := .ro, rst := fun _ => 0, upd := .l, rng := .any, perFn := false }

/-- 11 [11-6] `THM_FCST_MEAN_W`: forecast mean input power, W -/
def THM_FCST_MEAN_W : Fld :=
  { page := .thm, off := 0x60, cnt := 3, stride := 0x4, hi := 15, lo := 0, acc := .ro, rst := fun _ => 0, upd := .l, rng := .any, perFn := false }

/-- 11 [11-6] `THM_ALLOW_ALLOW_W`: thermal allowance in force, W, saturating (R285) -/
def THM_ALLOW_ALLOW_W : Fld :=
  { page := .thm, off := 0x6c, cnt := 1, stride := 0x4, hi := 15, lo := 0, acc := .ro, rst := fun _ => 28000, upd := .l, rng := .any, perFn := false }

/-- 11 [11-6] `THM_RGREQ_REQ`: bit n: RGn off for heat (R292) -/
def THM_RGREQ_REQ : Fld :=
  { page := .thm, off := 0x70, cnt := 1, stride := 0x4, hi := 13, lo := 0, acc := .rw, rst := fun _ => 0, upd := .s, rng := .any, perFn := false }

/-- 11 [11-6] `THM_RGSTATE_OFF`: bit n: RGn is off for heat -/
def THM_RGSTATE_OFF : Fld :=
  { page := .thm, off := 0x74, cnt := 1, stride := 0x4, hi := 13, lo := 0, acc := .ro, rst := fun _ => 0, upd := .l, rng := .any, perFn := false }

/-- 11 [11-6] `THM_DEGRADED_SITES`: bit s: site s (LO) or s + 32 (HI) reports cooling degraded (R283) -/
def THM_DEGRADED_SITES : Fld :=
  { page := .thm, off := 0x78, cnt := 2, stride := 0x4, hi := 31, lo := 0, acc := .ro, rst := fun _ => 0, upd := .l, rng := .any, perFn := false }

/-- 11 [11-7] `THM_STEMP_STALE`: 1: every diode of the site is stale (R280) -/
def THM_STEMP_STALE : Fld :=
  { page := .thm, off := 0x400, cnt := 56, stride := 0x10, hi := 31, lo := 31, acc := .ro, rst := fun _ => 0, upd := .l, rng := .any, perFn := false }

/-- 11 [11-7] `THM_STEMP_MAX_SEEN`: highest T_s since cleared, 0.25 °C units; software writes 0 to clear -/
def THM_STEMP_MAX_SEEN : Fld :=
  { page := .thm, off := 0x400, cnt := 56, stride := 0x10, hi := 25, lo := 16, acc := .rw, rst := fun _ => 0, upd := .l, rng := .any, perFn := false }

/-- 11 [11-7] `THM_STEMP_TS`: site junction temperature T_s, 0.25 °C units -/
def THM_STEMP_TS : Fld :=
  { page := .thm, off := 0x400, cnt := 56, stride := 0x10, hi := 9, lo := 0, acc := .ro, rst := fun _ => 0, upd := .l, rng := .any, perFn := false }

/-- 11 [11-7] `THM_STHETA_BASE`: θ_base, 0.001 K/W units -/
def THM_STHETA_BASE : Fld :=
  { page := .thm, off := 0x404, cnt := 56, stride := 0x10, hi := 31, lo := 16, acc := .ro, rst := fun i => Config.thetaFactory i, upd := .l, rng := .any, perFn := false }

/-- 11 [11-7] `THM_STHETA_THETA`: θ_s, 0.001 K/W units (R282) -/
def THM_STHETA_THETA : Fld :=
  { page := .thm, off := 0x404, cnt := 56, stride := 0x10, hi := 15, lo := 0, acc := .ro, rst := fun i => Config.thetaFactory i, upd := .l, rng := .any, perFn := false }

/-- 11 [11-7] `THM_SPLIM_K`: correction k_s, hundredths (R286) -/
def THM_SPLIM_K : Fld :=
  { page := .thm, off := 0x408, cnt := 56, stride := 0x10, hi := 23, lo := 16, acc := .ro, rst := fun _ => 100, upd := .l, rng := .any, perFn := false }

/-- 11 [11-7] `THM_SPLIM_PTH_W`: site thermal limit P_s,th, W (R284) -/
def THM_SPLIM_PTH_W : Fld :=
  { page := .thm, off := 0x408, cnt := 56, stride := 0x10, hi := 15, lo := 0, acc := .ro, rst := fun _ => 0, upd := .l, rng := .any, perFn := false }

/-- 11 [11-7] `THM_HTEMP_EXT_REFRESH`: 1: extended-temperature refresh in force -/
def THM_HTEMP_EXT_REFRESH : Fld :=
  { page := .thm, off := 0x800, cnt := 48, stride := 0x4, hi := 8, lo := 8, acc := .ro, rst := fun _ => 0, upd := .l, rng := .any, perFn := false }

/-- 11 [11-7] `THM_HTEMP_T`: stack temperature, °C -/
def THM_HTEMP_T : Fld :=
  { page := .thm, off := 0x800, cnt := 48, stride := 0x4, hi := 7, lo := 0, acc := .ro, rst := fun _ => 0, upd := .l, rng := .any, perFn := false }

/-- 12 [12-7] `CAL_QUAL_STALE`: arrays serving logical arrays 0–7 with stale trims -/
def CAL_QUAL_STALE : Fld :=
  { page := .cal, off := 0x40, cnt := 1, stride := 0x4, hi := 31, lo := 28, acc := .ro, rst := fun _ => 0, upd := .l, rng := .any, perFn := false }

/-- 12 [12-7] `CAL_QUAL_UNCAL`: 1: a bank in use is uncalibrated -/
def CAL_QUAL_UNCAL : Fld :=
  { page := .cal, off := 0x40, cnt := 1, stride := 0x4, hi := 27, lo := 27, acc := .ro, rst := fun _ => 1, upd := .l, rng := .any, perFn := false }

/-- 12 [12-7] `CAL_QUAL_MAX`: largest SIGMA, 1/64 LSB -/
def CAL_QUAL_MAX : Fld :=
  { page := .cal, off := 0x40, cnt := 1, stride := 0x4, hi := 23, lo := 16, acc := .ro, rst := fun _ => 0, upd := .l, rng := .any, perFn := false }

/-- 12 [12-7] `CAL_QUAL_MEAN`: mean SIGMA, 1/64 LSB -/
def CAL_QUAL_MEAN : Fld :=
  { page := .cal, off := 0x40, cnt := 1, stride := 0x4, hi := 15, lo := 8, acc := .ro, rst := fun _ => 0, upd := .l, rng := .any, perFn := false }

/-- 12 [12-7] `CAL_QUAL_MIN`: smallest SIGMA, 1/64 LSB -/
def CAL_QUAL_MIN : Fld :=
  { page := .cal, off := 0x40, cnt := 1, stride := 0x4, hi := 7, lo := 0, acc := .ro, rst := fun _ => 0, upd := .l, rng := .any, perFn := false }

/-- 12 [12-7] `CAL_CTRL_SNAP`: 1: snapshot trims into the trim image (R313) -/
def CAL_CTRL_SNAP : Fld :=
  { page := .cal, off := 0x44, cnt := 1, stride := 0x4, hi := 10, lo := 10, acc := .wo, rst := fun _ => 0, upd := .l, rng := .any, perFn := false }

/-- 12 [12-7] `CAL_CTRL_RESTORE`: 1: restore from the trim image (R314) -/
def CAL_CTRL_RESTORE : Fld :=
  { page := .cal, off := 0x44, cnt := 1, stride := 0x4, hi := 9, lo := 9, acc := .wo, rst := fun _ => 0, upd := .s, rng := .any, perFn := false }

/-- 12 [12-7] `CAL_CTRL_PASS_REQ`: bit n: request a pass on array position n (R299) -/
def CAL_CTRL_PASS_REQ : Fld :=
  { page := .cal, off := 0x44, cnt := 1, stride := 0x4, hi := 8, lo := 0, acc := .wo, rst := fun _ => 0, upd := .l, rng := .any, perFn := false }

/-- 12 [12-7] `CAL_STATUS_RFAIL`: 0 none; 1 version; 2 CRC; 3 physical tile; 4 stepping; 5 VALID; 6 CMODE; 7 temperature; 8–15 reserved -/
def CAL_STATUS_RFAIL : Fld :=
  { page := .cal, off := 0x48, cnt := 1, stride := 0x4, hi := 7, lo := 4, acc := .ro, rst := fun _ => 0, upd := .l, rng := .any, perFn := false }

/-- 12 [12-7] `CAL_STATUS_SNAP_DONE`: 1: trim image complete -/
def CAL_STATUS_SNAP_DONE : Fld :=
  { page := .cal, off := 0x48, cnt := 1, stride := 0x4, hi := 3, lo := 3, acc := .ro, rst := fun _ => 0, upd := .l, rng := .any, perFn := false }

/-- 12 [12-7] `CAL_STATUS_MON_STALE`: 1: a monitor of the tile is in calibration -/
def CAL_STATUS_MON_STALE : Fld :=
  { page := .cal, off := 0x48, cnt := 1, stride := 0x4, hi := 2, lo := 2, acc := .ro, rst := fun _ => 0, upd := .l, rng := .any, perFn := false }

/-- 12 [12-7] `CAL_STATUS_FG_FAIL`: foreground calibration failed (R310) -/
def CAL_STATUS_FG_FAIL : Fld :=
  { page := .cal, off := 0x48, cnt := 1, stride := 0x4, hi := 1, lo := 1, acc := .w1c, rst := fun _ => 0, upd := .l, rng := .any, perFn := false }

/-- 12 [12-7] `CAL_STATUS_VERIFY_FAIL`: a verify failed (R307) -/
def CAL_STATUS_VERIFY_FAIL : Fld :=
  { page := .cal, off := 0x48, cnt := 1, stride := 0x4, hi := 0, lo := 0, acc := .w1c, rst := fun _ => 0, upd := .l, rng := .any, perFn := false }

/-- 12 [12-7] `CAL_ASTAT_SIGMA`: residual error, 1/64 LSB, saturating at 3.98 LSB (R312) -/
def CAL_ASTAT_SIGMA : Fld :=
  { page := .cal, off := 0x80, cnt := 9, stride := 0x4, hi := 31, lo := 24, acc := .ro, rst := fun _ => 0, upd := .l, rng := .any, perFn := false }

/-- 12 [12-7] `CAL_ASTAT_STATE`: 0 idle; 1 gather; 2 probe; 3 solve; 4 shadow write; 5 verify; 6 commit pending; 7 foreground; 8 remap; 9–15 reserved -/
def CAL_ASTAT_STATE : Fld :=
  { page := .cal, off := 0x80, cnt := 9, stride := 0x4, hi := 23, lo := 20, acc := .ro, rst := fun _ => 0, upd := .l, rng := .any, perFn := false }

/-- 12 [12-7] `CAL_ASTAT_STALE`: R300 -/
def CAL_ASTAT_STALE : Fld :=
  { page := .cal, off := 0x80, cnt := 9, stride := 0x4, hi := 19, lo := 19, acc := .ro, rst := fun _ => 0, upd := .l, rng := .any, perFn := false }

/-- 12 [12-7] `CAL_ASTAT_UNCAL`: R298 -/
def CAL_ASTAT_UNCAL : Fld :=
  { page := .cal, off := 0x80, cnt := 9, stride := 0x4, hi := 18, lo := 18, acc := .ro, rst := fun _ => 1, upd := .l, rng := .any, perFn := false }

/-- 12 [12-7] `CAL_ASTAT_BANK_ONLY`: 1: the last pass solved bank terms only (R304) -/
def CAL_ASTAT_BANK_ONLY : Fld :=
  { page := .cal, off := 0x80, cnt := 9, stride := 0x4, hi := 17, lo := 17, acc := .ro, rst := fun _ => 0, upd := .l, rng := .any, perFn := false }

/-- 12 [12-7] `CAL_ASTAT_T_CAL`: T_cal, 0.25 °C units -/
def CAL_ASTAT_T_CAL : Fld :=
  { page := .cal, off := 0x80, cnt := 9, stride := 0x4, hi := 9, lo := 0, acc := .ro, rst := fun _ => 0, upd := .l, rng := .any, perFn := false }

/-- 12 [12-8] `CAL_CFG_TRIG`: temperature trigger, 0.25 K units; 2 to 32 -/
def CAL_CFG_TRIG : Fld :=
  { page := .calg, off := 0x40, cnt := 1, stride := 0x4, hi := 31, lo := 24, acc := .rw, rst := fun _ => 8, upd := .b, rng := (.span 2 32), perFn := false }

/-- 12 [12-8] `CAL_CFG_SIGMA_MAX`: σ limit, 1/64 LSB; 16 to 192 -/
def CAL_CFG_SIGMA_MAX : Fld :=
  { page := .calg, off := 0x40, cnt := 1, stride := 0x4, hi := 23, lo := 16, acc := .rw, rst := fun _ => 48, upd := .b, rng := (.span 16 192), perFn := false }

/-- 12 [12-8] `CAL_CFG_FG`: foreground threshold, 0.25 K units; 4 to 64 -/
def CAL_CFG_FG : Fld :=
  { page := .calg, off := 0x40, cnt := 1, stride := 0x4, hi := 15, lo := 8, acc := .rw, rst := fun _ => 16, upd := .l, rng := (.span 4 64), perFn := false }

/-- 12 [12-8] `CAL_CFG_RESTORE`: restore window, 0.25 K units; 2 to 32 -/
def CAL_CFG_RESTORE : Fld :=
  { page := .calg, off := 0x40, cnt := 1, stride := 0x4, hi := 7, lo := 0, acc := .rw, rst := fun _ => 12, upd := .l, rng := (.span 2 32), perFn := false }

/-- 12 [12-8] `CAL_CFG2_SAMPLES`: conversions per bit-column to gather; 1,024 to 65,535 -/
def CAL_CFG2_SAMPLES : Fld :=
  { page := .calg, off := 0x44, cnt := 1, stride := 0x4, hi := 15, lo := 0, acc := .rw, rst := fun _ => 4096, upd := .b, rng := (.span 1024 65535), perFn := false }

/-- 12 [12-8] `CAL_MONCFG_MON_PERIOD`: monitor period, s; 1 to 3,600 -/
def CAL_MONCFG_MON_PERIOD : Fld :=
  { page := .calg, off := 0x48, cnt := 1, stride := 0x4, hi := 11, lo := 0, acc := .rw, rst := fun _ => 60, upd := .l, rng := (.span 1 3600), perFn := false }

/-- 12 [12-8] `CAL_COUNT_COUNT`: passes committed since reset; saturates; software writes 0 to clear -/
def CAL_COUNT_COUNT : Fld :=
  { page := .calg, off := 0x4c, cnt := 1, stride := 0x4, hi := 31, lo := 0, acc := .rw, rst := fun _ => 0, upd := .l, rng := .any, perFn := false }

/-- 12 [12-8] `CAL_FAILCOUNT_COUNT`: records 0xB003 to 0xB008 since reset; saturates; software writes 0 to clear -/
def CAL_FAILCOUNT_COUNT : Fld :=
  { page := .calg, off := 0x50, cnt := 1, stride := 0x4, hi := 31, lo := 0, acc := .rw, rst := fun _ => 0, upd := .l, rng := .any, perFn := false }

/-- 13 [13-15] `RST_STATE_STATE`: Table 13-1 -/
def RST_STATE_STATE : Fld :=
  { page := .rst, off := 0x40, cnt := 1, stride := 0x4, hi := 31, lo := 28, acc := .ro, rst := fun _ => 0, upd := .l, rng := .any, perFn := false }

/-- 13 [13-15] `RST_STATE_FAST`: 1: the last bring-up took the fast path (R327) -/
def RST_STATE_FAST : Fld :=
  { page := .rst, off := 0x40, cnt := 1, stride := 0x4, hi := 27, lo := 27, acc := .ro, rst := fun _ => 0, upd := .l, rng := .any, perFn := false }

/-- 13 [13-15] `RST_STATE_HALTR`: 0 none; 1 record signature; 2 identity; 3 inventory; 4 chain plan; 5 firmware; 6–255 reserved -/
def RST_STATE_HALTR : Fld :=
  { page := .rst, off := 0x40, cnt := 1, stride := 0x4, hi := 23, lo := 16, acc := .ro, rst := fun _ => 0, upd := .l, rng := .any, perFn := false }

/-- 13 [13-15] `RST_STATE_PCT`: bring-up progress, 0 to 100 % -/
def RST_STATE_PCT : Fld :=
  { page := .rst, off := 0x40, cnt := 1, stride := 0x4, hi := 7, lo := 0, acc := .ro, rst := fun _ => 0, upd := .l, rng := .any, perFn := false }

/-- 13 [13-15] `RST_CFG_FAST_EN`: 1: fast path permitted -/
def RST_CFG_FAST_EN : Fld :=
  { page := .rst, off := 0x44, cnt := 1, stride := 0x4, hi := 31, lo := 31, acc := .rw, rst := fun _ => 1, upd := .l, rng := .any, perFn := false }

/-- 13 [13-15] `RST_CFG_AUTO_REPAIR`: 1: failed tiles repaired without a command (R337) -/
def RST_CFG_AUTO_REPAIR : Fld :=
  { page := .rst, off := 0x44, cnt := 1, stride := 0x4, hi := 30, lo := 30, acc := .rw, rst := fun _ => 1, upd := .l, rng := .any, perFn := false }

/-- 13 [13-15] `RST_CFG_PERST_MODULE`: 1: PERST# makes a warm module reset (R334) -/
def RST_CFG_PERST_MODULE : Fld :=
  { page := .rst, off := 0x44, cnt := 1, stride := 0x4, hi := 29, lo := 29, acc := .rw, rst := fun _ => 0, upd := .l, rng := .any, perFn := false }

/-- 13 [13-15] `RST_CFG_FULL_DAYS`: days since full self test for the fast path, 1 to 365 -/
def RST_CFG_FULL_DAYS : Fld :=
  { page := .rst, off := 0x44, cnt := 1, stride := 0x4, hi := 24, lo := 16, acc := .rw, rst := fun _ => 30, upd := .l, rng := (.span 1 365), perFn := false }

/-- 13 [13-15] `RST_CFG_DRAIN_US`: drain bound in µs, 1 to 10,000 (R333) -/
def RST_CFG_DRAIN_US : Fld :=
  { page := .rst, off := 0x44, cnt := 1, stride := 0x4, hi := 15, lo := 0, acc := .rw, rst := fun _ => 100, upd := .l, rng := (.span 1 10000), perFn := false }

/-- 13 [13-15] `RST_CMD_OP`: 1 TILE_RESET; 2 SITE_RESET; 3 PART_RESET; 4 WAFER_RESET; 5 MODULE_WARM; 6 REPAIR_TILE; 7 PTEST; 8 ACCEPT_TOPOLOGY; 0, 9–15 reserved, refused with 0x9029 -/
def RST_CMD_OP : Fld :=
  { page := .rst, off := 0x48, cnt := 1, stride := 0x4, hi := 31, lo := 28, acc := .wo, rst := fun _ => 0, upd := .l, rng := .any, perFn := false }

/-- 13 [13-15] `RST_CMD_LEVEL`: PTEST: 0 quick; 1 full -/
def RST_CMD_LEVEL : Fld :=
  { page := .rst, off := 0x48, cnt := 1, stride := 0x4, hi := 27, lo := 27, acc := .wo, rst := fun _ => 0, upd := .l, rng := .any, perFn := false }

/-- 13 [13-15] `RST_CMD_PART`: partition, for PART_RESET and PTEST -/
def RST_CMD_PART : Fld :=
  { page := .rst, off := 0x48, cnt := 1, stride := 0x4, hi := 25, lo := 20, acc := .wo, rst := fun _ => 0, upd := .l, rng := .any, perFn := false }

/-- 13 [13-15] `RST_CMD_TARGET`: tile address; SITE_RESET uses [19:12] -/
def RST_CMD_TARGET : Fld :=
  { page := .rst, off := 0x48, cnt := 1, stride := 0x4, hi := 19, lo := 0, acc := .wo, rst := fun _ => 0, upd := .l, rng := .any, perFn := false }

/-- 13 [13-15] `RST_CMD_STS_STATE`: 00 idle; 01 running; 10 done; 11 failed -/
def RST_CMD_STS_STATE : Fld :=
  { page := .rst, off := 0x4c, cnt := 1, stride := 0x4, hi := 31, lo := 30, acc := .ro, rst := fun _ => 0, upd := .l, rng := .any, perFn := false }

/-- 13 [13-15] `RST_CMD_STS_COUNT`: PTEST: tiles failed -/
def RST_CMD_STS_COUNT : Fld :=
  { page := .rst, off := 0x4c, cnt := 1, stride := 0x4, hi := 29, lo := 16, acc := .ro, rst := fun _ => 0, upd := .l, rng := .any, perFn := false }

/-- 13 [13-15] `RST_CMD_STS_CODE`: 0 on success; otherwise the code of the failure -/
def RST_CMD_STS_CODE : Fld :=
  { page := .rst, off := 0x4c, cnt := 1, stride := 0x4, hi := 15, lo := 0, acc := .ro, rst := fun _ => 0, upd := .l, rng := .any, perFn := false }

/-- 13 [13-15] `RST_ABSORBED_COUNT`: deliveries absorbed at resets; saturates; software writes 0 to clear -/
def RST_ABSORBED_COUNT : Fld :=
  { page := .rst, off := 0x50, cnt := 1, stride := 0x4, hi := 31, lo := 0, acc := .rw, rst := fun _ => 0, upd := .l, rng := .any, perFn := false }

/-- 13 [13-15] `RST_SPARE_TESTED`: spare tiles tested in the current period -/
def RST_SPARE_TESTED : Fld :=
  { page := .rst, off := 0x54, cnt := 1, stride := 0x4, hi := 31, lo := 16, acc := .ro, rst := fun _ => 0, upd := .l, rng := .any, perFn := false }

/-- 13 [13-15] `RST_SPARE_PERIOD_MIN`: spare test period, minutes, 1 to 10,080 (R345) -/
def RST_SPARE_PERIOD_MIN : Fld :=
  { page := .rst, off := 0x54, cnt := 1, stride := 0x4, hi := 15, lo := 0, acc := .rw, rst := fun _ => 60, upd := .l, rng := (.span 1 10080), perFn := false }

/-- 13 [13-15] `RST_FW_ACT_SLOT`: image slot of the active steward: 0 A; 1 B -/
def RST_FW_ACT_SLOT : Fld :=
  { page := .rst, off := 0x58, cnt := 1, stride := 0x4, hi := 31, lo := 31, acc := .ro, rst := fun _ => 0, upd := .l, rng := .any, perFn := false }

/-- 13 [13-15] `RST_FW_STBY_SLOT`: image slot of the standby steward -/
def RST_FW_STBY_SLOT : Fld :=
  { page := .rst, off := 0x58, cnt := 1, stride := 0x4, hi := 30, lo := 30, acc := .ro, rst := fun _ => 0, upd := .l, rng := .any, perFn := false }

/-- 13 [13-15] `RST_FW_UPD`: 00 idle; 01 standby loading; 10 confirming; 11 failed (R346) -/
def RST_FW_UPD : Fld :=
  { page := .rst, off := 0x58, cnt := 1, stride := 0x4, hi := 29, lo := 28, acc := .ro, rst := fun _ => 0, upd := .l, rng := .any, perFn := false }

/-- 13 [13-15] `RST_FW_CONFIRM_S`: confirmation time, s, 10 to 3,600 -/
def RST_FW_CONFIRM_S : Fld :=
  { page := .rst, off := 0x58, cnt := 1, stride := 0x4, hi := 15, lo := 0, acc := .rw, rst := fun _ => 60, upd := .l, rng := (.span 10 3600), perFn := false }

/-- 13 [13-15] `RST_RMAP_IDX_SITE`: site 0 to 55 -/
def RST_RMAP_IDX_SITE : Fld :=
  { page := .rst, off := 0x5c, cnt := 1, stride := 0x4, hi := 13, lo := 8, acc := .rw, rst := fun _ => 0, upd := .l, rng := (.span 0 55), perFn := false }

/-- 13 [13-15] `RST_RMAP_IDX_COLUMN`: column 0 to 31 -/
def RST_RMAP_IDX_COLUMN : Fld :=
  { page := .rst, off := 0x5c, cnt := 1, stride := 0x4, hi := 4, lo := 0, acc := .rw, rst := fun _ => 0, upd := .l, rng := .any, perFn := false }

/-- 13 [13-15] `RST_RMAP_SHIFTS`: column shifts in force, 0 to 2 -/
def RST_RMAP_SHIFTS : Fld :=
  { page := .rst, off := 0x60, cnt := 1, stride := 0x4, hi := 31, lo := 30, acc := .ro, rst := fun _ => 0, upd := .l, rng := .any, perFn := false }

/-- 13 [13-15] `RST_RMAP_FAIL1`: physical row of the first failure; 0x3F none -/
def RST_RMAP_FAIL1 : Fld :=
  { page := .rst, off := 0x60, cnt := 1, stride := 0x4, hi := 29, lo := 24, acc := .ro, rst := fun _ => 0, upd := .l, rng := .any, perFn := false }

/-- 13 [13-15] `RST_RMAP_FAIL2`: physical row of the second failure; 0x3F none -/
def RST_RMAP_FAIL2 : Fld :=
  { page := .rst, off := 0x60, cnt := 1, stride := 0x4, hi := 23, lo := 18, acc := .ro, rst := fun _ => 0, upd := .l, rng := .any, perFn := false }

/-- 13 [13-15] `RST_RMAP_SP32_BAD`: 1: spare at row 32 unusable -/
def RST_RMAP_SP32_BAD : Fld :=
  { page := .rst, off := 0x60, cnt := 1, stride := 0x4, hi := 17, lo := 17, acc := .ro, rst := fun _ => 0, upd := .l, rng := .any, perFn := false }

/-- 13 [13-15] `RST_RMAP_SP33_BAD`: 1: spare at row 33 unusable -/
def RST_RMAP_SP33_BAD : Fld :=
  { page := .rst, off := 0x60, cnt := 1, stride := 0x4, hi := 16, lo := 16, acc := .ro, rst := fun _ => 0, upd := .l, rng := .any, perFn := false }

/-- 13 [13-15] `RST_RMAP_FIP`: 1: a tile is fenced in place (R341) -/
def RST_RMAP_FIP : Fld :=
  { page := .rst, off := 0x60, cnt := 1, stride := 0x4, hi := 15, lo := 15, acc := .ro, rst := fun _ => 0, upd := .l, rng := .any, perFn := false }

/-- 13 [13-15] `RST_RMAP_FIP_ROW`: its logical row; 0x3F none -/
def RST_RMAP_FIP_ROW : Fld :=
  { page := .rst, off := 0x60, cnt := 1, stride := 0x4, hi := 14, lo := 9, acc := .ro, rst := fun _ => 0, upd := .l, rng := .any, perFn := false }

/-- 13 [13-15] `RST_QIMP_IMPAIRED`: bit i: quadrant 32n + i impaired (R341) -/
def RST_QIMP_IMPAIRED : Fld :=
  { page := .rst, off := 0x80, cnt := 7, stride := 0x4, hi := 31, lo := 0, acc := .ro, rst := fun _ => 0, upd := .l, rng := .any, perFn := false }

/-- 13 [13-17] `LIC_STATUS_COUNT`: occupied slots, 0 to 16 -/
def LIC_STATUS_COUNT : Fld :=
  { page := .lic, off := 0x40, cnt := 1, stride := 0x4, hi := 31, lo := 27, acc := .ro, rst := fun _ => 0, upd := .l, rng := .any, perFn := false }

/-- 13 [13-17] `LIC_STATUS_FEATURES`: features in force, as FEATURES of Table 13-7 (R2) -/
def LIC_STATUS_FEATURES : Fld :=
  { page := .lic, off := 0x40, cnt := 1, stride := 0x4, hi := 3, lo := 0, acc := .ro, rst := fun _ => 0, upd := .l, rng := .any, perFn := false }

/-- 13 [13-17] `LIC_CMD_OP`: 1 INSTALL; 2 REMOVE; others refused with 0xC005 -/
def LIC_CMD_OP : Fld :=
  { page := .lic, off := 0x44, cnt := 1, stride := 0x4, hi := 31, lo := 28, acc := .wo, rst := fun _ => 0, upd := .l, rng := .any, perFn := false }

/-- 13 [13-17] `LIC_CMD_SLOT`: slot for REMOVE -/
def LIC_CMD_SLOT : Fld :=
  { page := .lic, off := 0x44, cnt := 1, stride := 0x4, hi := 27, lo := 24, acc := .wo, rst := fun _ => 0, upd := .l, rng := .any, perFn := false }

/-- 13 [13-17] `LIC_CMD_STS_STATE`: 00 idle; 01 running; 10 done; 11 failed -/
def LIC_CMD_STS_STATE : Fld :=
  { page := .lic, off := 0x48, cnt := 1, stride := 0x4, hi := 31, lo := 30, acc := .ro, rst := fun _ => 0, upd := .l, rng := .any, perFn := false }

/-- 13 [13-17] `LIC_CMD_STS_CODE`: 0 on success; otherwise the code of the failure -/
def LIC_CMD_STS_CODE : Fld :=
  { page := .lic, off := 0x48, cnt := 1, stride := 0x4, hi := 15, lo := 0, acc := .ro, rst := fun _ => 0, upd := .l, rng := .any, perFn := false }

/-- 13 [13-17] `LIC_SLOT_SER_SERIAL`: serial of the certificate in slot n -/
def LIC_SLOT_SER_SERIAL : Fld :=
  { page := .lic, off := 0x200, cnt := 16, stride := 0x8, hi := 31, lo := 0, acc := .ro, rst := fun _ => 0, upd := .l, rng := .any, perFn := false }

/-- 13 [13-17] `LIC_SLOT_FEAT_VALID`: 1: slot occupied and certificate valid -/
def LIC_SLOT_FEAT_VALID : Fld :=
  { page := .lic, off := 0x204, cnt := 16, stride := 0x8, hi := 31, lo := 31, acc := .ro, rst := fun _ => 0, upd := .l, rng := .any, perFn := false }

/-- 13 [13-17] `LIC_SLOT_FEAT_FAILED`: 1: slot occupied, certificate failed at bring-up (R330) -/
def LIC_SLOT_FEAT_FAILED : Fld :=
  { page := .lic, off := 0x204, cnt := 16, stride := 0x8, hi := 30, lo := 30, acc := .ro, rst := fun _ => 0, upd := .l, rng := .any, perFn := false }

/-- 13 [13-17] `LIC_SLOT_FEAT_FEATURES`: features of the certificate -/
def LIC_SLOT_FEAT_FEATURES : Fld :=
  { page := .lic, off := 0x204, cnt := 16, stride := 0x8, hi := 3, lo := 0, acc := .ro, rst := fun _ => 0, upd := .l, rng := .any, perFn := false }

/-- 14 [14-16] `NET_STATUS_PTP_LOCKED`: 1: locked to a master or to PPS_IN (R356) -/
def NET_STATUS_PTP_LOCKED : Fld :=
  { page := .net, off := 0x40, cnt := 1, stride := 0x4, hi := 8, lo := 8, acc := .ro, rst := fun _ => 0, upd := .l, rng := .any, perFn := false }

/-- 14 [14-16] `NET_STATUS_LINK`: bit n: port n up -/
def NET_STATUS_LINK : Fld :=
  { page := .net, off := 0x40, cnt := 1, stride := 0x4, hi := 3, lo := 0, acc := .ro, rst := fun _ => 0, upd := .l, rng := .any, perFn := false }

/-- 14 [14-16] `NET_PTP_EN`: 1: precision time in use -/
def NET_PTP_EN : Fld :=
  { page := .net, off := 0x44, cnt := 1, stride := 0x4, hi := 31, lo := 31, acc := .rw, rst := fun _ => 0, upd := .l, rng := .any, perFn := false }

/-- 14 [14-16] `NET_PTP_SRC`: 0: IEEE 1588; 1: PPS_IN -/
def NET_PTP_SRC : Fld :=
  { page := .net, off := 0x44, cnt := 1, stride := 0x4, hi := 30, lo := 30, acc := .rw, rst := fun _ => 0, upd := .l, rng := .any, perFn := false }

/-- 14 [14-16] `NET_PTP_PORT`: port 0 to 3 -/
def NET_PTP_PORT : Fld :=
  { page := .net, off := 0x44, cnt := 1, stride := 0x4, hi := 25, lo := 24, acc := .rw, rst := fun _ => 0, upd := .l, rng := .any, perFn := false }

/-- 14 [14-16] `NET_PTP_DOMAIN`: PTP domain number -/
def NET_PTP_DOMAIN : Fld :=
  { page := .net, off := 0x44, cnt := 1, stride := 0x4, hi := 23, lo := 16, acc := .rw, rst := fun _ => 0, upd := .l, rng := .any, perFn := false }

/-- 14 [14-16] `NET_PTP_TRANSPORT`: 00 UDP/IPv4; 01 UDP/IPv6; 10 IEEE 802.3; 11 reserved -/
def NET_PTP_TRANSPORT : Fld :=
  { page := .net, off := 0x44, cnt := 1, stride := 0x4, hi := 15, lo := 14, acc := .rw, rst := fun _ => 0, upd := .l, rng := (.span 0 2), perFn := false }

/-- 14 [14-16] `NET_PTP_OFS_OFS`: last measured offset from the master, ns, two's complement, saturating -/
def NET_PTP_OFS_OFS : Fld :=
  { page := .net, off := 0x48, cnt := 1, stride := 0x4, hi := 31, lo := 0, acc := .ro, rst := fun _ => 0, upd := .l, rng := .any, perFn := false }

/-- 14 [14-16] `NET_TOD_SEC`: PTP second of the next PPS_IN pulse, bits [31:0] and [63:32] -/
def NET_TOD_SEC : Fld :=
  { page := .net, off := 0x4c, cnt := 2, stride := 0x4, hi := 31, lo := 0, acc := .rw, rst := fun _ => 0, upd := .l, rng := .any, perFn := false }

/-- 14 [14-16] `NET_PCFG_EN`: 1: port enabled -/
def NET_PCFG_EN : Fld :=
  { page := .net, off := 0x100, cnt := 4, stride := 0x40, hi := 31, lo := 31, acc := .rw, rst := fun _ => 1, upd := .s, rng := .any, perFn := false }

/-- 14 [14-16] `NET_PCFG_SPEED`: 0: 800 Gb/s; 1: 400 Gb/s -/
def NET_PCFG_SPEED : Fld :=
  { page := .net, off := 0x100, cnt := 4, stride := 0x40, hi := 30, lo := 30, acc := .rw, rst := fun _ => 0, upd := .s, rng := .any, perFn := false }

/-- 14 [14-16] `NET_PCFG_VLAN_EN`: 1: frames carry one IEEE 802.1Q tag -/
def NET_PCFG_VLAN_EN : Fld :=
  { page := .net, off := 0x100, cnt := 4, stride := 0x40, hi := 29, lo := 29, acc := .rw, rst := fun _ => 0, upd := .s, rng := .any, perFn := false }

/-- 14 [14-16] `NET_PCFG_VID`: VLAN identifier -/
def NET_PCFG_VID : Fld :=
  { page := .net, off := 0x100, cnt := 4, stride := 0x40, hi := 27, lo := 16, acc := .rw, rst := fun _ => 0, upd := .s, rng := .any, perFn := false }

/-- 14 [14-16] `NET_PCFG_PCP_ROCE`: RoCEv2 priority -/
def NET_PCFG_PCP_ROCE : Fld :=
  { page := .net, off := 0x100, cnt := 4, stride := 0x40, hi := 15, lo := 13, acc := .rw, rst := fun _ => 3, upd := .s, rng := .any, perFn := false }

/-- 14 [14-16] `NET_MAC_LO_MAC`: MAC address bits [31:0] -/
def NET_MAC_LO_MAC : Fld :=
  { page := .net, off := 0x104, cnt := 4, stride := 0x40, hi := 31, lo := 0, acc := .ro, rst := fun i => Config.macLo i, upd := .l, rng := .any, perFn := false }

/-- 14 [14-16] `NET_MAC_HI_MAC`: MAC address bits [47:32] -/
def NET_MAC_HI_MAC : Fld :=
  { page := .net, off := 0x108, cnt := 4, stride := 0x40, hi := 15, lo := 0, acc := .ro, rst := fun i => Config.macHi i, upd := .l, rng := .any, perFn := false }

/-- 14 [14-16] `NET_IP4_ADDR`: IPv4 address, network byte order -/
def NET_IP4_ADDR : Fld :=
  { page := .net, off := 0x10c, cnt := 4, stride := 0x40, hi := 31, lo := 0, acc := .rw, rst := fun _ => 0, upd := .s, rng := .any, perFn := false }

/-- 14 [14-16] `NET_PDROP_COUNT`: frames discarded (R353); saturates; software writes 0 to clear -/
def NET_PDROP_COUNT : Fld :=
  { page := .net, off := 0x120, cnt := 4, stride := 0x40, hi := 31, lo := 0, acc := .rw, rst := fun _ => 0, upd := .l, rng := .any, perFn := false }

/-- 14 [14-16] `NET_FEC_UNC_COUNT`: uncorrectable FEC codewords; saturates; software writes 0 to clear -/
def NET_FEC_UNC_COUNT : Fld :=
  { page := .net, off := 0x124, cnt := 4, stride := 0x40, hi := 31, lo := 0, acc := .rw, rst := fun _ => 0, upd := .l, rng := .any, perFn := false }

/-- 14 [14-16] `NET_SPILL_CFG_EN`: 1: spill region in use (R355) -/
def NET_SPILL_CFG_EN : Fld :=
  { page := .net, off := 0x400, cnt := 64, stride := 0x10, hi := 31, lo := 31, acc := .rw, rst := fun _ => 0, upd := .s, rng := .any, perFn := false }

/-- 14 [14-16] `NET_SPILL_CFG_ENTRY`: server table entry, 0 to 63 -/
def NET_SPILL_CFG_ENTRY : Fld :=
  { page := .net, off := 0x400, cnt := 64, stride := 0x10, hi := 5, lo := 0, acc := .rw, rst := fun _ => 0, upd := .s, rng := .any, perFn := false }

/-- 14 [14-16] `NET_SPILL_LEN_LEN_GB`: region size in units of 10⁹ bytes, 1 to 65,535 -/
def NET_SPILL_LEN_LEN_GB : Fld :=
  { page := .net, off := 0x404, cnt := 64, stride := 0x10, hi := 15, lo := 0, acc := .rw, rst := fun _ => 0, upd := .s, rng := (.span 1 65535), perFn := false }

/-- 14 [14-16] `NET_SPILL_RB_LO_RBASE`: remote address of the region, bits [31:0] and [63:32] -/
def NET_SPILL_RB_LO_RBASE : Fld :=
  { page := .net, off := 0x408, cnt := 64, stride := 0x10, hi := 31, lo := 0, acc := .rw, rst := fun _ => 0, upd := .s, rng := .any, perFn := false }

/-- 14 [14-16] `NET_SPILL_RB_HI_RBASE`: remote address of the region, bits [31:0] and [63:32] -/
def NET_SPILL_RB_HI_RBASE : Fld :=
  { page := .net, off := 0x40c, cnt := 64, stride := 0x10, hi := 31, lo := 0, acc := .rw, rst := fun _ => 0, upd := .s, rng := .any, perFn := false }

/-- 14 [14-18] `AQD_CTRL_PLAN_VALID`: 1: a chain plan is installed -/
def AQD_CTRL_PLAN_VALID : Fld :=
  { page := .aqd, off := 0x40, cnt := 1, stride := 0x4, hi := 2, lo := 2, acc := .ro, rst := fun _ => 0, upd := .l, rng := .any, perFn := false }

/-- 14 [14-18] `AQD_CTRL_MASTER`: 1: this module is the step master -/
def AQD_CTRL_MASTER : Fld :=
  { page := .aqd, off := 0x40, cnt := 1, stride := 0x4, hi := 1, lo := 1, acc := .ro, rst := fun _ => 0, upd := .l, rng := .any, perFn := false }

/-- 14 [14-18] `AQD_CTRL_MODE`: 0: Isolated; 1: Chained (R364) -/
def AQD_CTRL_MODE : Fld :=
  { page := .aqd, off := 0x40, cnt := 1, stride := 0x4, hi := 0, lo := 0, acc := .ro, rst := fun _ => 0, upd := .l, rng := .any, perFn := false }

/-- 14 [14-18] `AQD_CHAIN_MARK_TO_US`: mark timeout, µs, 10 to 1,000,000 (R367) -/
def AQD_CHAIN_MARK_TO_US : Fld :=
  { page := .aqd, off := 0x44, cnt := 1, stride := 0x4, hi := 19, lo := 0, acc := .rw, rst := fun _ => 1000, upd := .l, rng := (.span 10 1000000), perFn := false }

/-- 14 [14-18] `AQD_LANE_SWAP_EXP`: lane swap threshold 10^−SWAP_EXP, 4 to 8 (R361) -/
def AQD_LANE_SWAP_EXP : Fld :=
  { page := .aqd, off := 0x48, cnt := 1, stride := 0x4, hi := 7, lo := 4, acc := .rw, rst := fun _ => 4, upd := .l, rng := (.span 4 8), perFn := false }

/-- 14 [14-18] `AQD_PSTAT_STATE`: 0 down; 1 training; 2 up, no traffic; 3 up; 4 degraded, 4 lanes; 5 disabled; 6–15 reserved -/
def AQD_PSTAT_STATE : Fld :=
  { page := .aqd, off := 0x400, cnt := 56, stride := 0x10, hi := 31, lo := 28, acc := .ro, rst := fun _ => 0, upd := .l, rng := .any, perFn := false }

/-- 14 [14-18] `AQD_PSTAT_PEER_OK`: 1: peer authenticated and matching the chain plan -/
def AQD_PSTAT_PEER_OK : Fld :=
  { page := .aqd, off := 0x400, cnt := 56, stride := 0x10, hi := 27, lo := 27, acc := .ro, rst := fun _ => 0, upd := .l, rng := .any, perFn := false }

/-- 14 [14-18] `AQD_PSTAT_SPARE_USED`: 1: the spare lane carries a logical lane -/
def AQD_PSTAT_SPARE_USED : Fld :=
  { page := .aqd, off := 0x400, cnt := 56, stride := 0x10, hi := 26, lo := 26, acc := .ro, rst := fun _ => 0, upd := .l, rng := .any, perFn := false }

/-- 14 [14-18] `AQD_PSTAT_PEER_PORT`: peer port number -/
def AQD_PSTAT_PEER_PORT : Fld :=
  { page := .aqd, off := 0x400, cnt := 56, stride := 0x10, hi := 15, lo := 8, acc := .ro, rst := fun _ => 0, upd := .l, rng := .any, perFn := false }

/-- 14 [14-18] `AQD_PCFG_EN`: 1: port enabled; 0: disabled, lasers off -/
def AQD_PCFG_EN : Fld :=
  { page := .aqd, off := 0x404, cnt := 56, stride := 0x10, hi := 31, lo := 31, acc := .rw, rst := fun _ => 1, upd := .s, rng := .any, perFn := false }

/-- 14 [14-18] `AQD_RETRY_NAKS`: NAKs sent and received; saturates; software writes 0 to clear -/
def AQD_RETRY_NAKS : Fld :=
  { page := .aqd, off := 0x408, cnt := 56, stride := 0x10, hi := 31, lo := 16, acc := .rw, rst := fun _ => 0, upd := .l, rng := .any, perFn := false }

/-- 14 [14-18] `AQD_RETRY_EVENTS`: retrains and lane swaps; saturates; software writes 0 to clear -/
def AQD_RETRY_EVENTS : Fld :=
  { page := .aqd, off := 0x408, cnt := 56, stride := 0x10, hi := 15, lo := 0, acc := .rw, rst := fun _ => 0, upd := .l, rng := .any, perFn := false }

/-- 14 [14-18] `AQD_LANEMAP_LMAP`: [4n + 3:4n]: physical lane of logical lane n -/
def AQD_LANEMAP_LMAP : Fld :=
  { page := .aqd, off := 0x40c, cnt := 56, stride := 0x10, hi := 31, lo := 0, acc := .ro, rst := fun _ => 1985229328, upd := .l, rng := .any, perFn := false }

/-- 14 [14-18] `AQD_PCHAIN_CHAINED`: 1: the partition is in a chain partition set (R366) -/
def AQD_PCHAIN_CHAINED : Fld :=
  { page := .aqd, off := 0x800, cnt := 64, stride := 0x4, hi := 31, lo := 31, acc := .ro, rst := fun _ => 0, upd := .l, rng := .any, perFn := false }

/-- 14 [14-18] `AQD_PCHAIN_HEAD`: 1: head of its set -/
def AQD_PCHAIN_HEAD : Fld :=
  { page := .aqd, off := 0x800, cnt := 64, stride := 0x4, hi := 30, lo := 30, acc := .ro, rst := fun _ => 0, upd := .l, rng := .any, perFn := false }

/-- 14 [14-18] `AQD_PCHAIN_MPORT`: port on which marks arrive; 0xFF on the master -/
def AQD_PCHAIN_MPORT : Fld :=
  { page := .aqd, off := 0x800, cnt := 64, stride := 0x4, hi := 23, lo := 16, acc := .ro, rst := fun _ => 255, upd := .l, rng := .any, perFn := false }

/-- 14 [14-18] `AQD_PCHAIN_CHAIN_ID`: chain identifier -/
def AQD_PCHAIN_CHAIN_ID : Fld :=
  { page := .aqd, off := 0x800, cnt := 64, stride := 0x4, hi := 15, lo := 0, acc := .ro, rst := fun _ => 0, upd := .l, rng := .any, perFn := false }

/-- 15 [15-7] `SEC_DEVICE_ID_DEVICE_ID`: device identity, 128 bits, lowest word first -/
def SEC_DEVICE_ID_DEVICE_ID : Fld :=
  { page := .sec, off := 0x40, cnt := 4, stride := 0x4, hi := 31, lo := 0, acc := .ro, rst := fun i => Config.deviceIdWord i, upd := .l, rng := .any, perFn := false }

/-- 15 [15-7] `SEC_STEPPING_STEPPING`: stepping code (R4) -/
def SEC_STEPPING_STEPPING : Fld :=
  { page := .sec, off := 0x50, cnt := 1, stride := 0x4, hi := 7, lo := 0, acc := .ro, rst := fun _ => Config.steppingCode, upd := .l, rng := .any, perFn := false }

/-- 15 [15-7] `SEC_PARTNO_PARTNO`: part number "BXW1" in ASCII -/
def SEC_PARTNO_PARTNO : Fld :=
  { page := .sec, off := 0x54, cnt := 1, stride := 0x4, hi := 31, lo := 0, acc := .ro, rst := fun _ => 827807810, upd := .l, rng := .any, perFn := false }

/-- 15 [15-7] `SEC_OWNER_OWNED`: 1: owned (R372) -/
def SEC_OWNER_OWNED : Fld :=
  { page := .sec, off := 0x58, cnt := 1, stride := 0x4, hi := 31, lo := 31, acc := .ro, rst := fun _ => 0, upd := .l, rng := .any, perFn := false }

/-- 15 [15-7] `SEC_OWNER_LOCKED`: 1: session lock in force (R374) -/
def SEC_OWNER_LOCKED : Fld :=
  { page := .sec, off := 0x58, cnt := 1, stride := 0x4, hi := 30, lo := 30, acc := .ro, rst := fun _ => 0, upd := .l, rng := .any, perFn := false }

/-- 15 [15-7] `SEC_OWNER_SESS_MGMT`: sessions open on the management bus, 0 to 4 -/
def SEC_OWNER_SESS_MGMT : Fld :=
  { page := .sec, off := 0x58, cnt := 1, stride := 0x4, hi := 7, lo := 4, acc := .ro, rst := fun _ => 0, upd := .l, rng := .any, perFn := false }

/-- 15 [15-7] `SEC_OWNER_SESS_DOE`: sessions open on the DOE mailbox, 0 to 4 -/
def SEC_OWNER_SESS_DOE : Fld :=
  { page := .sec, off := 0x58, cnt := 1, stride := 0x4, hi := 3, lo := 0, acc := .ro, rst := fun _ => 0, upd := .l, rng := .any, perFn := false }

/-- 15 [15-7] `SEC_SERIAL_SERIAL`: module serial number, ASCII -/
def SEC_SERIAL_SERIAL : Fld :=
  { page := .sec, off := 0x60, cnt := 4, stride := 0x4, hi := 31, lo := 0, acc := .ro, rst := fun i => Config.serialWord i, upd := .l, rng := .any, perFn := false }

/-- 15 [15-7] `SEC_NEG_MAJOR`: negotiated register interface major version, per function -/
def SEC_NEG_MAJOR : Fld :=
  { page := .sec, off := 0x80, cnt := 1, stride := 0x4, hi := 31, lo := 16, acc := .rw, rst := fun _ => 0, upd := .l, rng := (.span 1 1), perFn := true }

/-- 15 [15-7] `SEC_IFVER_IFACE`: interface code -/
def SEC_IFVER_IFACE : Fld :=
  { page := .sec, off := 0x100, cnt := 64, stride := 0x4, hi := 31, lo := 24, acc := .ro, rst := fun i => if i < 10 then i else 0, upd := .l, rng := .any, perFn := false }

/-- 15 [15-7] `SEC_IFVER_MAXMAJ`: highest supported major version -/
def SEC_IFVER_MAXMAJ : Fld :=
  { page := .sec, off := 0x100, cnt := 64, stride := 0x4, hi := 23, lo := 16, acc := .ro, rst := fun i => if i = 9 then 2 else if i < 10 then 1 else 0, upd := .l, rng := .any, perFn := false }

/-- 15 [15-7] `SEC_IFVER_MINMAJ`: lowest supported major version -/
def SEC_IFVER_MINMAJ : Fld :=
  { page := .sec, off := 0x100, cnt := 64, stride := 0x4, hi := 15, lo := 8, acc := .ro, rst := fun i => if i = 9 then 2 else if i < 10 then 1 else 0, upd := .l, rng := .any, perFn := false }

/-- 15 [15-7] `SEC_IFVER_MINOR`: highest minor version of MAXMAJ -/
def SEC_IFVER_MINOR : Fld :=
  { page := .sec, off := 0x100, cnt := 64, stride := 0x4, hi := 7, lo := 0, acc := .ro, rst := fun i => if i = 9 then 3 else 0, upd := .l, rng := .any, perFn := false }

/-- 15 [15-10] `INT_STATUS_STATUS`: INT_STATUS, per function; a virtual function sees bits 1 and 2 -/
def INT_STATUS_STATUS : Fld :=
  { page := .int, off := 0x40, cnt := 1, stride := 0x4, hi := 7, lo := 0, acc := .w1c, rst := fun _ => 0, upd := .l, rng := .any, perFn := true }

/-- 15 [15-10] `INT_ENABLE_ENABLE`: INT_ENABLE, one bit per STATUS bit -/
def INT_ENABLE_ENABLE : Fld :=
  { page := .int, off := 0x44, cnt := 1, stride := 0x4, hi := 7, lo := 0, acc := .rw, rst := fun _ => 0, upd := .l, rng := .any, perFn := true }

/-- 15 [15-10] `INT_PSTATE_PSTATE`: INT_PSTATE_LO, _HI: bit p changed (physical function only) -/
def INT_PSTATE_PSTATE : Fld :=
  { page := .int, off := 0x48, cnt := 2, stride := 0x4, hi := 31, lo := 0, acc := .w1c, rst := fun _ => 0, upd := .l, rng := .any, perFn := false }

/-- 15 [15-10] `INT_PEN_PEN`: INT_PEN_LO, _HI: enables for INT_PSTATE -/
def INT_PEN_PEN : Fld :=
  { page := .int, off := 0x50, cnt := 2, stride := 0x4, hi := 31, lo := 0, acc := .rw, rst := fun _ => 0, upd := .l, rng := .any, perFn := false }

/-- 15 [15-11] `ERR_GSUM_GSUM`: bit k: summary of the global page at 0x1000 × k -/
def ERR_GSUM_GSUM : Fld :=
  { page := .err, off := 0x40, cnt := 1, stride := 0x4, hi := 14, lo := 0, acc := .ro, rst := fun _ => 0, upd := .l, rng := .any, perFn := false }

/-- 15 [15-11] `ERR_IRQ_IRQ_MASK`: bit c: class c raises vector 1; per function -/
def ERR_IRQ_IRQ_MASK : Fld :=
  { page := .err, off := 0x44, cnt := 1, stride := 0x4, hi := 15, lo := 0, acc := .rw, rst := fun _ => 65530, upd := .l, rng := .any, perFn := true }

/-- 15 [15-11] `ERR_QSUM_QSUM`: ERR_QSUM0 to ERR_QSUM6: bit i covers quadrant 32n + i; a virtual function sees its own quadrants only -/
def ERR_QSUM_QSUM : Fld :=
  { page := .err, off := 0x48, cnt := 7, stride := 0x4, hi := 31, lo := 0, acc := .ro, rst := fun _ => 0, upd := .l, rng := .any, perFn := false }

/-- 15 [15-11] `ERR_LOG_TAIL_TAIL`: ERR_LOG_TAIL_LO, _HI -/
def ERR_LOG_TAIL_TAIL : Fld :=
  { page := .err, off := 0x70, cnt := 2, stride := 0x4, hi := 31, lo := 0, acc := .ro, rst := fun _ => 0, upd := .l, rng := .any, perFn := false }

/-- 15 [15-11] `ERR_LOG_IDX`: ERR_LOG_IDX_LO, _HI, per function -/
def ERR_LOG_IDX : Fld :=
  { page := .err, off := 0x78, cnt := 2, stride := 0x4, hi := 31, lo := 0, acc := .rw, rst := fun _ => 0, upd := .l, rng := .any, perFn := true }

/-- 15 [15-11] `ERR_LOG_DATA`: ERR_LOG_DATA0 to ERR_LOG_DATA7: word w of the record (Table 7-17) -/
def ERR_LOG_DATA : Fld :=
  { page := .err, off := 0x80, cnt := 8, stride := 0x4, hi := 31, lo := 0, acc := .ro, rst := fun _ => 0, upd := .l, rng := .any, perFn := true }

/-- 15 [15-11] `ERR_CCOUNT_COUNT`: ERR_CCOUNT0 to ERR_CCOUNT15: records of class c since reset; saturates; software writes 0 to clear (physical function only) -/
def ERR_CCOUNT_COUNT : Fld :=
  { page := .err, off := 0x100, cnt := 16, stride := 0x4, hi := 31, lo := 0, acc := .rw, rst := fun _ => 0, upd := .l, rng := .any, perFn := false }

/-- 15 [15-13] `CLK_CFG_SSC_DEPTH`: down-spread in 0.1 % units, 0 to 5 -/
def CLK_CFG_SSC_DEPTH : Fld :=
  { page := .clk, off := 0x40, cnt := 1, stride := 0x4, hi := 4, lo := 1, acc := .rwl, rst := fun _ => 5, upd := .s, rng := (.span 0 5), perFn := false }

/-- 15 [15-13] `CLK_CFG_SSC_EN`: 1: spread spectrum on -/
def CLK_CFG_SSC_EN : Fld :=
  { page := .clk, off := 0x40, cnt := 1, stride := 0x4, hi := 0, lo := 0, acc := .rwl, rst := fun _ => 1, upd := .s, rng := .any, perFn := false }

/-- 15 [15-13] `CLK_LOCK_REF_LOCK`: 1: module reference locked -/
def CLK_LOCK_REF_LOCK : Fld :=
  { page := .clk, off := 0x44, cnt := 1, stride := 0x4, hi := 31, lo := 31, acc := .ro, rst := fun _ => 0, upd := .l, rng := .any, perFn := false }

/-- 15 [15-13] `CLK_LOCK_DOM_LOCK`: bits: HOST, NET, STACK, AON locked, in that order from [17] -/
def CLK_LOCK_DOM_LOCK : Fld :=
  { page := .clk, off := 0x44, cnt := 1, stride := 0x4, hi := 20, lo := 17, acc := .ro, rst := fun _ => 0, upd := .l, rng := .any, perFn := false }

/-- 15 [15-13] `CLK_LOCK_RG_LOCK`: bit n: RGn clock locked -/
def CLK_LOCK_RG_LOCK : Fld :=
  { page := .clk, off := 0x44, cnt := 1, stride := 0x4, hi := 13, lo := 0, acc := .ro, rst := fun _ => 0, upd := .l, rng := .any, perFn := false }

/-- 15 [15-13] `CLK_REF_REF_OFS`: mean rate of the module reference against PTP time over the last 1 s, 0.01 ppm units, two's complement; valid while NET_STATUS.PTP_LOCKED is 1 -/
def CLK_REF_REF_OFS : Fld :=
  { page := .clk, off := 0x48, cnt := 1, stride := 0x4, hi := 15, lo := 0, acc := .ro, rst := fun _ => 0, upd := .l, rng := .any, perFn := false }

/-- 15 [15-13] `CLK_RGSTR_EDGES`: CLK_RGSTR0 to CLK_RGSTR13: edges removed by droop in RGn since reset; saturates; software writes 0 to clear -/
def CLK_RGSTR_EDGES : Fld :=
  { page := .clk, off := 0x80, cnt := 14, stride := 0x4, hi := 31, lo := 0, acc := .rw, rst := fun _ => 0, upd := .l, rng := .any, perFn := false }

/-- 15 [15-14] `PCI_LINK_SPEED`: 1 to 6: 2.5, 5, 8, 16, 32, 64 GT/s -/
def PCI_LINK_SPEED : Fld :=
  { page := .pci, off := 0x40, cnt := 1, stride := 0x4, hi := 31, lo := 28, acc := .ro, rst := fun _ => 0, upd := .l, rng := .any, perFn := false }

/-- 15 [15-14] `PCI_LINK_WIDTH`: lanes, 1 to 16 -/
def PCI_LINK_WIDTH : Fld :=
  { page := .pci, off := 0x40, cnt := 1, stride := 0x4, hi := 27, lo := 23, acc := .ro, rst := fun _ => 0, upd := .l, rng := .any, perFn := false }

/-- 15 [15-14] `PCI_LINK_FLIT`: 1: FLIT mode -/
def PCI_LINK_FLIT : Fld :=
  { page := .pci, off := 0x40, cnt := 1, stride := 0x4, hi := 22, lo := 22, acc := .ro, rst := fun _ => 0, upd := .l, rng := .any, perFn := false }

/-- 15 [15-14] `PCI_CTO_CTO_MS`: completion timeout, ms, 1 to 64 -/
def PCI_CTO_CTO_MS : Fld :=
  { page := .pci, off := 0x44, cnt := 1, stride := 0x4, hi := 15, lo := 0, acc := .rw, rst := fun _ => 50, upd := .l, rng := (.span 1 64), perFn := false }

/-- 15 [15-14] `PCI_CIST_SEL_EN`: PCI_CIST_SEL: 1: Cistern aperture open (R387) -/
def PCI_CIST_SEL_EN : Fld :=
  { page := .pci, off := 0x48, cnt := 1, stride := 0x4, hi := 31, lo := 31, acc := .rw, rst := fun _ => 0, upd := .l, rng := .any, perFn := false }

/-- 15 [15-14] `PCI_CIST_SEL_TARGET`: 0 to 63 partition; 64 system area; 65 to 127 reserved -/
def PCI_CIST_SEL_TARGET : Fld :=
  { page := .pci, off := 0x48, cnt := 1, stride := 0x4, hi := 30, lo := 24, acc := .rw, rst := fun _ => 0, upd := .l, rng := (.span 0 64), perFn := false }

/-- 15 [15-14] `PCI_CIST_SEL_BASE`: first GiB shown -/
def PCI_CIST_SEL_BASE : Fld :=
  { page := .pci, off := 0x48, cnt := 1, stride := 0x4, hi := 11, lo := 0, acc := .rw, rst := fun _ => 0, upd := .l, rng := .any, perFn := false }

/-- 15 [15-14] `PCI_TWIN_VIEW`: PCI_TWIN0 to PCI_TWIN15: view (Table 15-6) -/
def PCI_TWIN_VIEW : Fld :=
  { page := .pci, off := 0x80, cnt := 16, stride := 0x4, hi := 31, lo := 28, acc := .rw, rst := fun _ => 0, upd := .l, rng := (.span 0 7), perFn := true }

/-- 15 [15-14] `PCI_TWIN_SUB`: sub-view -/
def PCI_TWIN_SUB : Fld :=
  { page := .pci, off := 0x80, cnt := 16, stride := 0x4, hi := 27, lo := 24, acc := .rw, rst := fun _ => 0, upd := .l, rng := .any, perFn := true }

/-- 15 [15-14] `PCI_TWIN_TILE`: tile address -/
def PCI_TWIN_TILE : Fld :=
  { page := .pci, off := 0x80, cnt := 16, stride := 0x4, hi := 19, lo := 0, acc := .rw, rst := fun _ => 0, upd := .l, rng := .any, perFn := true }

/-- 15 [15-15] `PCI_VBASIN_BASE`: PCI_VBASIN: first GiB of the Basin aperture, 0 to 28 -/
def PCI_VBASIN_BASE : Fld :=
  { page := .pci, off := 0xc0, cnt := 1, stride := 0x4, hi := 4, lo := 0, acc := .rw, rst := fun _ => 0, upd := .l, rng := (.span 0 28), perFn := true }

/-- 15 [15-15] `PCI_VCIST_BASE`: PCI_VCIST: first GiB of the own allotment shown -/
def PCI_VCIST_BASE : Fld :=
  { page := .pci, off := 0xc4, cnt := 1, stride := 0x4, hi := 11, lo := 0, acc := .rw, rst := fun _ => 0, upd := .l, rng := .any, perFn := true }

/-- 08 [8-16] descriptor word `k` (0 to 27) of a command slot -/
def LD_CMD_DESC (k : Nat) : Fld :=
  { page := .ld, off := 0x400 + 4 * k, cnt := 4, stride := 0x80, hi := 31, lo := 0, acc := .rw, rst := fun _ => 0, upd := .s, rng := .any, perFn := false }

/-- 08 [8-18] `RADDR` word `k` (0 to 3) of a server table entry -/
def LD_SRV_RADDR (k : Nat) : Fld :=
  { page := .ld, off := 0x810 + 4 * k, cnt := 64, stride := 0x20, hi := 31, lo := 0, acc := .rw, rst := fun _ => 0, upd := .s, rng := .any, perFn := false }

/-- 14 `NET_IP6.ADDR` word `k` (0 to 3) of a port -/
def NET_IP6 (k : Nat) : Fld :=
  { page := .net, off := 0x110 + 4 * k, cnt := 4, stride := 0x40, hi := 31, lo := 0, acc := .rw, rst := fun _ => 0, upd := .s, rng := .any, perFn := false }

/-- 10 [PWR_QREQn] `REQ` of the quadrants at place `b` (0 to 15) of each word: 01 IDLE; 10 RETAIN; 11 OFF; 00 reserved (R261) -/
def PWR_QREQ (b : Nat) : Fld :=
  { page := .pwr, off := 0xC00, cnt := 14, stride := 4, hi := 2 * b + 1, lo := 2 * b, acc := .rw, rst := fun _ => 1, upd := .s, rng := .span 1 3, perFn := false }

/-- 10 [PWR_QSTATEn] `STATE` of the quadrants at place `b` (0 to 15) of each word: 00 ACTIVE; 01 IDLE; 10 RETAIN; 11 OFF -/
def PWR_QSTATE (b : Nat) : Fld :=
  { page := .pwr, off := 0xC40, cnt := 14, stride := 4, hi := 2 * b + 1, lo := 2 * b, acc := .ro, rst := fun _ => 3, upd := .l, rng := .any, perFn := false }

/-- 13 `LIC_CERT`: certificate buffer, 160 bytes, as 40 words -/
def LIC_CERT : Fld :=
  { page := .lic, off := 0x100, cnt := 40, stride := 4, hi := 31, lo := 0, acc := .rw, rst := fun _ => 0, upd := .l, rng := .any, perFn := false }

/-! The fields of each page beside the header. -/

def Page.arrFields : List Fld :=
  [ARR_BANK_CFG0_BSTATE, ARR_BANK_CFG1_BSTATE, ARR_BANK_CFG0_STREAM, ARR_BANK_CFG1_STREAM, ARR_BANK_CFG0_DEGRADED, ARR_BANK_CFG1_DEGRADED, ARR_BANK_CFG0_CMODE, ARR_BANK_CFG1_CMODE, ARR_BANK_CFG0_WFMT, ARR_BANK_CFG1_WFMT, ARR_CLIP_CTRL_CLIP_THRESH, ARR_CLIP_LAST_COUNT, ARR_CLIP_TOTAL_TOTAL, ARR_SPARE_MAP_P1_ROWS, ARR_SPARE_MAP_P0_ROWS, ARR_SPARE_MAP_P1_GROUPS]
  ++ [ARR_SPARE_MAP_P0_GROUPS, ARR_SPARE_MAP_SPARE_ARRAY, ARR_TROUBLE_CLIP_GROUP, ARR_TROUBLE_SPLIT_CLIP, ARR_TROUBLE_WB_MISMATCH, ARR_TROUBLE_NOVF, ARR_TROUBLE_CLIP, ARR_TROUBLE_REFUSED]
  ++ (List.range 16).flatMap (fun k => [ARR_TCFG_OFMT k, ARR_TCFG_GATED k, ARR_TCFG_ACT_TBL k, ARR_TCFG_ACT_EN k, ARR_TCFG_POOL_OP k, ARR_TCFG_POOL_SIZE k, ARR_TCFG_CSCALE_EN k, ARR_TCFG_BIAS_EN k, ARR_TCFG_PRED k])

def Page.numFields : List Fld :=
  [TILE_NUM_CTRL_SAT_THRESH, TILE_NUM_CTRL_UNDF_EN, TILE_NUM_STATUS_VUNDF, TILE_NUM_STATUS_VSAT, TILE_NUM_STATUS_ATTEMPT, TILE_NUM_STATUS_WSAT, TILE_NUM_STATUS_UNDF, TILE_NUM_STATUS_SAT, TILE_SAT_TOTAL_TOTAL, TILE_UNDF_TOTAL_TOTAL, TILE_WSAT_TOTAL_TOTAL, TILE_PRED_PEAK, TILE_PRED_HEADROOM, TILE_PRED_DECAY, TILE_PRED_E_PRED]

def Page.engFields : List Fld :=
  [TILE_ENG_STATUS_SMP_NOTOKEN, TILE_ENG_STATUS_CACHE_RANGE, TILE_ENG_STATUS_CONF_REFUSED, TILE_ENG_STATUS_HAZARD, TILE_ENG_STATUS_VX_REFUSED, TILE_ENG_STATUS_MX_REFUSED, TILE_ENG_STATUS_DESC_REFUSED, TILE_ATT_LAST_VISIBLE, TILE_ATT_LAST_NQT, TILE_SMP_LAST_EMITTED, TILE_SMP_LAST_ACCEPTED, TILE_SMP_LAST_TOKEN]

def Page.bsnFields : List Fld :=
  [BSN_STATUS_SLUICE_TIMEOUT, BSN_STATUS_SLUICE_MISS, BSN_STATUS_BOUNDS, BSN_STATUS_PAGE_REFUSED, BSN_STATUS_UE, BSN_STATUS_CE, BSN_PROG_PROG_PAGES, BSN_SLUICE_IN_EN, BSN_SLUICE_OUT_EN, BSN_SLUICE_IN_LAST, BSN_SLUICE_OUT_LAST, BSN_SLUICE_IN_FIRST, BSN_SLUICE_OUT_FIRST, BSN_SLUICE_CTRL_TIMEOUT_US, BSN_SCRUB_CTRL_EN, BSN_SCRUB_CTRL_WEAK_THRESH]
  ++ [BSN_SCRUB_CTRL_INTERVAL, BSN_CE_COUNT_COUNT, BSN_UE_COUNT_COUNT, BSN_SLUICE_MISS_COUNT, BSN_LAST_ERR_UE, BSN_LAST_ERR_ROW, BSN_LAST_ERR_WORD, BSN_LAST_ERR_SYNDROME, BSN_WEAK_ROW_VALID, BSN_WEAK_ROW_ROW, BSN_PAGE_STATE_STATE]

def Page.seqFields : List Fld :=
  [SEQ_STATUS_PROG, SEQ_STATUS_SLUICE_WAIT, SEQ_STATUS_BUSY_END, SEQ_STATUS_PARITY, SEQ_STATUS_FENCED, SEQ_STATUS_OFFSET, SEQ_PROG_COUNT, SEQ_PROG_FIRST, SEQ_PARITY_COUNT_COUNT]

def Page.rtrFields : List Fld :=
  [RTR_STATUS_OWNER, RTR_STATUS_OWNED, RTR_STATUS_LANE, RTR_STATUS_PARITY, RTR_STATUS_FENCED_ROUTE, RTR_STATUS_FOREIGN, RTR_STATUS_UNCLAIMED, RTR_STATUS_MISSING, RTR_STATUS_CONFLICT, RTR_STATUS_CRC, RTR_STATUS_FENCED, RTR_STATUS_TRANSIT, RTR_TBL_COUNT, RTR_TBL_FIRST, RTR_CRC_COUNT_COUNT, RTR_PHYSEL_WSEL]
  ++ [RTR_PHYSEL_ESEL, RTR_PHYSEL_SKSSEL, RTR_PHYSEL_SKNSEL, RTR_PHYSEL_SSEL, RTR_PHYSEL_NSEL]

def Page.csdFields : List Fld :=
  [CSD_CTRL_ROOT_SWAP, CSD_CTRL_ACTIVE, CSD_STATUS_MISMATCH, CSD_STATUS_TAKEOVER, CSD_STATUS_STANDBY_OK, CSD_WSTEP_LEN, CSD_WCOUNT_COUNT, CSD_PCFG_RUN, CSD_PCFG_HOLD, CSD_PCFG_SLIP_LIMIT, CSD_PCFG_XSLACK, CSD_PCFG_RMASK, CSD_PSTEP_GUARD, CSD_PSTEP_LEN, CSD_PSTRETCH_FACTOR, CSD_POVR_SLIPS]
  ++ [CSD_POVR_OVERRUNS, CSD_PCOUNT_LO_COUNT, CSD_PCOUNT_HI_COUNT, CSD_PSTRMAX_EDGES]

def Page.ldFields : List Fld :=
  [LD_PROFILES_NATIVE, LD_PROFILES_PROF2, LD_PROFILES_PROF1, LD_PROFILES_PROF0, LD_PPROF_PROFILE, LD_PPROF_PAD_T7, LD_PPROF_PAD_SETUP, LD_STATUS_RATE, LD_PSTATE_STATE, LD_PSTATE_PEND, LD_PSTATE_STOPR, LD_PSTATE_LCODE, LD_KEYID_KEYID, LD_PAREA_BASE, LD_CMD_CTL_GO, LD_CMD_STS_STATE]
  ++ [LD_CMD_STS_CODE, LD_CMD_PROG_DONE, LD_CMD_PROG_TOTAL, LD_SRV0_VALID, LD_SRV0_DOWN, LD_SRV0_PORT, LD_SRV0_RQPN, LD_SRV4_LPSN, LD_SRV8_RKEY, LD_SRVC_FAILS, LD_SRVC_MAXRD, LD_SRVC_PMTU]
  ++ (List.range 28).map LD_CMD_DESC
  ++ (List.range 4).map LD_SRV_RADDR

def Page.stwFields : List Fld :=
  [STW_CTRL_SWAP, STW_CTRL_STANDBY_OK, STW_CTRL_ACTIVE, STW_STATUS_WRITE_REFUSED, STW_STATUS_HOST_READ_ERR, STW_STATUS_TAKEOVER, STW_CFG_HB_US, STW_PCFG_SMIFORT, STW_PCFG_PAIR_EN, STW_PCFG_PEER, STW_PCFG_PREEMPT_GAP, STW_PCFG_ROTATE_MS, STW_MOD_TIME_US, STW_MOD_COUNT, STW_RING_LO_BASE_LO, STW_RING_HI_BASE_HI]
  ++ [STW_RING_CFG_EN, STW_RING_CFG_LOG2N, STW_RING_TAIL_TAIL, STW_RING_HEAD_HEAD, STW_PCOUNT_ACTIVE, STW_PCOUNT_PARKED, STW_PCOUNT_RING_FULL, SMI_SQ_LO_BASE_LO, SMI_SQ_HI_BASE_HI, SMI_SQ_CFG_EN, SMI_SQ_CFG_POLL_US, SMI_SQ_CFG_LOG2N]

def Page.pwrFields : List Fld :=
  [PWR_CTRL_VMIN_CLEAR, PWR_STATUS_ALERT, PWR_STATUS_INTERNAL_ALERT, PWR_STATUS_CONV_FAIL, PWR_STATUS_ANOM, PWR_STATUS_MISMATCH, PWR_STATUS_DEEP_DROOP, PWR_CAP_ALLOW_W, PWR_CAP_LIMIT_W, PWR_CAPCFG_MIS_PCT, PWR_CAPCFG_MIS_WIN, PWR_CAPCFG_LOW_PCT, PWR_DROOP_FLOOR_MV, PWR_DROOP_DROOP_MV, PWR_DROOP_SPILL_MV, PWR_WAKE_PEAK_PCT]
  ++ [PWR_WAKE_WAKE_MAX, PWR_WAKE_WAIT_US, PWR_ALERT_PIN, PWR_ALERT_COUNT, PWR_ALERT_HOLD_US, PWR_ANOM_ANOM_PCT, PWR_AGE_INTERVAL_H, PWR_IN_VIN, PWR_IN_IIN, PWR_IN_P_PIN_W, PWR_IN_P_ETA, PWR_ICONV_FAILED, PWR_VMIN_IDX_SITE, PWR_VMIN_IDX_POINT, PWR_VMIN_MV_STALE, PWR_VMIN_MV_MIN_MV]
  ++ [PWR_VMIN_STEP_COUNT, PWR_VMIN_PTP_PTP, PWR_SCFG_VSET_MV, PWR_SCFG_AGE_MV, PWR_SSTAT_STATE, PWR_SSTAT_PH_FAILED, PWR_SSTAT_SPILL_LOW, PWR_SSTAT_ANOM, PWR_SSTAT_AGE_LIMIT, PWR_SSTAT_ILIM_A, PWR_SCUR_I, PWR_PCFG_REACTIVE, PWR_PCFG_PROTECT, PWR_PEST_EST_W, PWR_PMEAS_STREAK, PWR_PMEAS_MEAS_W]
  ++ (List.range 16).map PWR_QREQ
  ++ (List.range 16).map PWR_QSTATE

def Page.thmFields : List Fld :=
  [THM_CTRL_RELEASE_SITE, THM_CTRL_RELEASE, THM_CTRL_REBASE, THM_STATUS_FLOOR_SHORT, THM_STATUS_LEAK, THM_STATUS_COOLANT, THM_STATUS_DEGRADED_ANY, THM_CFG_JLIMIT, THM_CFG_THETA_PCT, THM_CFG_LEAK_STOP, THM_RAMP_RAMP_DN, THM_RAMP_RAMP_UP, THM_FLOOR_FLOOR_W, THM_COOL_T_OUT, THM_COOL_T_IN, THM_FLOW_DP]
  ++ [THM_FLOW_FLOW, THM_COOLCFG_FLOW_MIN, THM_COOLCFG_INLET_MAX, THM_FCST_MAX_W, THM_FCST_MEAN_W, THM_ALLOW_ALLOW_W, THM_RGREQ_REQ, THM_RGSTATE_OFF, THM_DEGRADED_SITES, THM_STEMP_STALE, THM_STEMP_MAX_SEEN, THM_STEMP_TS, THM_STHETA_BASE, THM_STHETA_THETA, THM_SPLIM_K, THM_SPLIM_PTH_W]
  ++ [THM_HTEMP_EXT_REFRESH, THM_HTEMP_T]

def Page.calFields : List Fld :=
  [CAL_QUAL_STALE, CAL_QUAL_UNCAL, CAL_QUAL_MAX, CAL_QUAL_MEAN, CAL_QUAL_MIN, CAL_CTRL_SNAP, CAL_CTRL_RESTORE, CAL_CTRL_PASS_REQ, CAL_STATUS_RFAIL, CAL_STATUS_SNAP_DONE, CAL_STATUS_MON_STALE, CAL_STATUS_FG_FAIL, CAL_STATUS_VERIFY_FAIL, CAL_ASTAT_SIGMA, CAL_ASTAT_STATE, CAL_ASTAT_STALE]
  ++ [CAL_ASTAT_UNCAL, CAL_ASTAT_BANK_ONLY, CAL_ASTAT_T_CAL]

def Page.calgFields : List Fld :=
  [CAL_CFG_TRIG, CAL_CFG_SIGMA_MAX, CAL_CFG_FG, CAL_CFG_RESTORE, CAL_CFG2_SAMPLES, CAL_MONCFG_MON_PERIOD, CAL_COUNT_COUNT, CAL_FAILCOUNT_COUNT]

def Page.rstFields : List Fld :=
  [RST_STATE_STATE, RST_STATE_FAST, RST_STATE_HALTR, RST_STATE_PCT, RST_CFG_FAST_EN, RST_CFG_AUTO_REPAIR, RST_CFG_PERST_MODULE, RST_CFG_FULL_DAYS, RST_CFG_DRAIN_US, RST_CMD_OP, RST_CMD_LEVEL, RST_CMD_PART, RST_CMD_TARGET, RST_CMD_STS_STATE, RST_CMD_STS_COUNT, RST_CMD_STS_CODE]
  ++ [RST_ABSORBED_COUNT, RST_SPARE_TESTED, RST_SPARE_PERIOD_MIN, RST_FW_ACT_SLOT, RST_FW_STBY_SLOT, RST_FW_UPD, RST_FW_CONFIRM_S, RST_RMAP_IDX_SITE, RST_RMAP_IDX_COLUMN, RST_RMAP_SHIFTS, RST_RMAP_FAIL1, RST_RMAP_FAIL2, RST_RMAP_SP32_BAD, RST_RMAP_SP33_BAD, RST_RMAP_FIP, RST_RMAP_FIP_ROW]
  ++ [RST_QIMP_IMPAIRED]

def Page.licFields : List Fld :=
  [LIC_STATUS_COUNT, LIC_STATUS_FEATURES, LIC_CMD_OP, LIC_CMD_SLOT, LIC_CMD_STS_STATE, LIC_CMD_STS_CODE, LIC_SLOT_SER_SERIAL, LIC_SLOT_FEAT_VALID, LIC_SLOT_FEAT_FAILED, LIC_SLOT_FEAT_FEATURES]
  ++ [LIC_CERT]

def Page.netFields : List Fld :=
  [NET_STATUS_PTP_LOCKED, NET_STATUS_LINK, NET_PTP_EN, NET_PTP_SRC, NET_PTP_PORT, NET_PTP_DOMAIN, NET_PTP_TRANSPORT, NET_PTP_OFS_OFS, NET_TOD_SEC, NET_PCFG_EN, NET_PCFG_SPEED, NET_PCFG_VLAN_EN, NET_PCFG_VID, NET_PCFG_PCP_ROCE, NET_MAC_LO_MAC, NET_MAC_HI_MAC]
  ++ [NET_IP4_ADDR, NET_PDROP_COUNT, NET_FEC_UNC_COUNT, NET_SPILL_CFG_EN, NET_SPILL_CFG_ENTRY, NET_SPILL_LEN_LEN_GB, NET_SPILL_RB_LO_RBASE, NET_SPILL_RB_HI_RBASE]
  ++ (List.range 4).map NET_IP6

def Page.aqdFields : List Fld :=
  [AQD_CTRL_PLAN_VALID, AQD_CTRL_MASTER, AQD_CTRL_MODE, AQD_CHAIN_MARK_TO_US, AQD_LANE_SWAP_EXP, AQD_PSTAT_STATE, AQD_PSTAT_PEER_OK, AQD_PSTAT_SPARE_USED, AQD_PSTAT_PEER_PORT, AQD_PCFG_EN, AQD_RETRY_NAKS, AQD_RETRY_EVENTS, AQD_LANEMAP_LMAP, AQD_PCHAIN_CHAINED, AQD_PCHAIN_HEAD, AQD_PCHAIN_MPORT]
  ++ [AQD_PCHAIN_CHAIN_ID]

def Page.secFields : List Fld :=
  [SEC_DEVICE_ID_DEVICE_ID, SEC_STEPPING_STEPPING, SEC_PARTNO_PARTNO, SEC_OWNER_OWNED, SEC_OWNER_LOCKED, SEC_OWNER_SESS_MGMT, SEC_OWNER_SESS_DOE, SEC_SERIAL_SERIAL, SEC_NEG_MAJOR, SEC_IFVER_IFACE, SEC_IFVER_MAXMAJ, SEC_IFVER_MINMAJ, SEC_IFVER_MINOR]

def Page.intFields : List Fld :=
  [INT_STATUS_STATUS, INT_ENABLE_ENABLE, INT_PSTATE_PSTATE, INT_PEN_PEN]

def Page.errFields : List Fld :=
  [ERR_GSUM_GSUM, ERR_IRQ_IRQ_MASK, ERR_QSUM_QSUM, ERR_LOG_TAIL_TAIL, ERR_LOG_IDX, ERR_LOG_DATA, ERR_CCOUNT_COUNT]

def Page.clkFields : List Fld :=
  [CLK_CFG_SSC_DEPTH, CLK_CFG_SSC_EN, CLK_LOCK_REF_LOCK, CLK_LOCK_DOM_LOCK, CLK_LOCK_RG_LOCK, CLK_REF_REF_OFS, CLK_RGSTR_EDGES]

def Page.pciFields : List Fld :=
  [PCI_LINK_SPEED, PCI_LINK_WIDTH, PCI_LINK_FLIT, PCI_CTO_CTO_MS, PCI_CIST_SEL_EN, PCI_CIST_SEL_TARGET, PCI_CIST_SEL_BASE, PCI_TWIN_VIEW, PCI_TWIN_SUB, PCI_TWIN_TILE, PCI_VBASIN_BASE, PCI_VCIST_BASE]

/-- The fields of a page. -/
def Page.fields : Page → List Fld
  | .arr => Page.arrFields
  | .num => Page.numFields
  | .eng => Page.engFields
  | .bsn => Page.bsnFields
  | .seq => Page.seqFields
  | .rtr => Page.rtrFields
  | .cal => Page.calFields
  | .sec => Page.secFields
  | .int => Page.intFields
  | .err => Page.errFields
  | .clk => Page.clkFields
  | .rst => Page.rstFields
  | .lic => Page.licFields
  | .ld => Page.ldFields
  | .stw => Page.stwFields
  | .csd => Page.csdFields
  | .pwr => Page.pwrFields
  | .thm => Page.thmFields
  | .calg => Page.calgFields
  | .net => Page.netFields
  | .aqd => Page.aqdFields
  | .pci => Page.pciFields

end Sys2Proof.Machine
end

