-- ==== Sys2Proof/Machine/State.lean ====
section
/-! DEFINITION. The state of the W1 as plain data: register fields, memories, tiles, partitions, requests, power, thermal,
calibration, repair, links, sessions, the fault log, and the queue of waiting commands. -/

namespace Sys2Proof.Machine

/-- Why the machine stops with a fault: for no reason, since every command of the table has an effect in every state. -/
inductive Fault where
  deriving DecidableEq, Repr

/-- Why a command has no meaning. -/
inductive Refusal where
  /-- A command that is not modelled yet, by its mnemonic. Safe: nothing is claimed of it. -/
  | notModelled (mnemonic : String)
  deriving DecidableEq, Repr

/-- One fault record (Table 7-17), field by field. `wafer` is COUNTSEL. -/
structure FaultRec where
  step : Nat
  ptp : Nat
  code : Nat
  cycle : Nat
  tile : Option Nat
  part : Option Nat
  unit : Nat
  attempt : Nat
  wafer : Bool
  reqValid : Bool
  req : Nat
  prog : Nat
  seqoff : Nat
  detail : Nat
  deriving DecidableEq, Repr

/-- A span of cycles of the attempt in which a resource of an array is in use (Table 2-15). -/
structure Win where
  from_ : Nat
  until_ : Nat
  plane : Nat
  insel : Nat
  deriving DecidableEq, Repr

/-- The last MVM an array accepted (R41): its OUT field, the weight format and plane of the bank it read. -/
structure LastMvm where
  out : Nat
  wfmt : Nat
  plane : Nat
  deriving DecidableEq, Repr

/-- Gathering counters of one bit-column and slice position (R301): conversions counted, sums of codes and squared codes,
and the predicted sums: 16 times the expected code, 256 times the expected variance. -/
structure Gath where
  cnt : Nat
  sum : Nat
  sq : Nat
  pm : Nat
  pv : Nat
  deriving DecidableEq, Repr

/-- An MVM between its issue and its last conversion (R42): the issue and what its conversions gave, per array: clipped
conversions and the group of the first, the wide accumulators at array * 256 + column, and which arrays raised narrow
overflow, wide saturation, poison, trouble. -/
structure MvmRun where
  word : Nat
  cycle : Nat
  clips : Map Nat
  clipGroup : Map Nat
  wide : Map Int
  novf : NatSet
  wsat : NatSet
  poison : NatSet
  trouble : NatSet
  /-- What its conversions add to the gathering counters, at array * 2048 + bit-column * 4 + slice. -/
  gath : Map Gath
  deriving DecidableEq, Repr

/-- A WRB between its issue and its end (Table 2-16). -/
structure WrbRun where
  word : Nat
  cycle : Nat
  poison : Bool
  deriving DecidableEq, Repr

/-- A tail unit's share of an operation: its logical array, the plane whose scales and tables it takes, and its wide values. -/
structure TailArr where
  arr : Nat
  plane : Nat
  vals : Nat
  deriving DecidableEq, Repr

/-- An operation that raised saturation or underflow, with what the recompute pass of R77 needs: the number of its first
output block, its kind (0 tail unit, 1 VQNT, 2 root CMRG), the retained rows, and for tail units what each of them took and the
tail configuration. -/
structure RecOp where
  firstBlock : Nat
  kind : Nat
  retRow : Nat
  values : Nat
  arrays : List TailArr
  tcfg : Nat
  lim : Nat
  deriving DecidableEq, Repr

/-- The flags of a tile's report at the end of an attempt (Table 6-11). -/
structure Report where
  done : Bool
  readyNext : Bool
  recK : Bool
  splitK : Bool
  wideK : Bool
  miss : Bool
  slip : Bool
  fault : Bool
  deriving DecidableEq, Repr

def Report.empty : Report := ⟨false, true, false, false, false, false, false, false⟩

/-- The registers and stores of one tile beside its register pages and its memories. -/
structure TileSt where
  /-- IN0 and IN1 of each array: element values at (array * 2 + INSEL) * 1024 + element (R33). -/
  inElem : Map Int
  /-- The E8 of each aligned 256-element block, at (array * 2 + INSEL) * 4 + block. -/
  inExp : Map Nat
  /-- Input groups of 64 elements (0 to 15) and exponent bytes (16 to 19) that came from poisoned beats, at (array * 2 + INSEL) * 20 + group. -/
  inPoison : NatSet
  /-- The same for the trouble flag (R74). -/
  inTrouble : NatSet
  /-- Wide accumulators (ACC32) at array * 256 + weight column. -/
  wide : Map Int
  /-- Arrays whose held accumulators are computed from poisoned, or from troubled, beats. -/
  widePoison : NatSet
  wideTrouble : NatSet
  lastMvm : Map LastMvm
  /-- MVMs and WRBs in progress, by schedule entry. -/
  mvmRun : Map MvmRun
  wrbRun : Map WrbRun
  /-- Resource use of the present attempt, by array: converters (one span for each MVM, the latest first), write path, digital read
  port, Clove window. -/
  convWin : Map (List Win)
  wrbWin : Map Win
  rdbWin : Map Win
  clvWin : Map Win
  /-- Arrays that have made an MVM since the last commit boundary (R302). -/
  mvmSince : NatSet
  /-- Tail stage use (first cycle, cycle after the last) at array * 16 + stage. -/
  stageWin : Map (List (Nat × Nat))
  /-- The output buffers: a beat at array * 8 + slot while the slot is valid (R58). -/
  outBuf : Map Beat
  /-- Rows that a WRB of an earlier attempt of the present step found mismatching, at (array * 2 + plane) * 1024 + row (R46). -/
  badRows : NatSet
  /-- The replay exponent table (R78), and whether the present attempt uses it. -/
  replayExp : Map Nat
  replayUse : Bool
  /-- Output blocks produced so far in the attempt. -/
  blocks : Nat
  /-- The largest needed exponent of the attempt for each predictor register (R71). -/
  needMax : Map Nat
  recOps : List RecOp
  /-- Matrix engine stores: vectors with their E8, accumulators with their exponent pair (Table 4-1, R87). -/
  ma : Map (List Int)
  maExp : Map Nat
  mb : Map (List Int)
  mbExp : Map Nat
  mc : Map Int
  mcExp : Map (Nat × Nat)
  maPoison : NatSet
  mbPoison : NatSet
  mcPoison : NatSet
  /-- End cycle of the running MMUL or MOUT, and the MA and MB vectors the running MMUL reads (first, count). -/
  mxUntil : Nat
  mxA : Nat × Nat
  mxB : Nat × Nat
  mmulUntil : Nat
  /-- V0 to V31: 32 words each; poisoned registers; the cycle at which a pending register is complete (R91). -/
  vreg : Map (List Nat)
  vPoison : NatSet
  vPend : Map Nat
  /-- End cycle of the running ATTEND or SAMPLE, and whether it is an ATTEND (which also occupies the matrix engine). -/
  fusedUntil : Nat
  fusedMx : Bool
  /-- Latest end cycle of an MLD or VQNT of the attempt (R82). -/
  engUntil : Nat
  /-- The output streams of ATTEND and SAMPLE by the cycle in which a beat leaves (R94), and the Confluence unit's output, as beats. -/
  fusedOut : Map Beat
  /-- Query vectors and head dimension of the last ATTEND's partial record. -/
  attShape : Nat × Nat
  confOut : List Beat
  cmrgUntil : Nat
  /-- TILE_ATT_LAST and TILE_SMP_LAST words that wait for the commit boundary (Table 4-18). -/
  attPend : Option Nat
  smpPend : Option Nat
  /-- Words of the Basin slice that carry the poison mark (R118), at row * 64 + word. -/
  poisonMark : NatSet
  /-- What the present attempt computed from beats with the trouble flag (R74): words of the slice at row * 64 + word; V registers; vectors
  and accumulators of the matrix engine at k for MA, 2^16 + k for MB, 2^17 + k for MC. -/
  troubleMark : NatSet
  vTrouble : NatSet
  mxTrouble : NatSet
  /-- Stored words with one (1) or two (2) flipped bits that no read has met yet. -/
  flips : Map Nat
  /-- Sluice tags other than EMPTY: 1 FULL, 2 TAKEN, 3 PENDING (R132). -/
  tags : Map Nat
  /-- The four rows tracked for corrected errors, most recent first, with their counts (R121). -/
  tracked : List (Nat × Nat)
  /-- Next row the scrubber reads (R120). -/
  scrubRow : Nat
  /-- Basin rows replaced by spare rows of the slice, and weak program rows that wait for one (R340). -/
  sparedRows : List Nat
  weakWait : List Nat
  /-- PTP times at which the waits of sluice slots began, by schedule entry (R135). -/
  waitStart : Map Nat
  /-- Where a FULL restore row goes: page * 64 + row of the page (R239). -/
  restoreDst : Map Nat
  /-- STREAM messages that wait for an EMPTY row of the tile: first try (PTP), at port * 65536 + tag (R136, R363). -/
  dlvWait : Map Nat
  /-- Beats that arrived on a port in a cycle of the attempt, at port * 65536 + cycle. -/
  arrived : Map Beat
  /-- Output ports driven in the attempt, at port * 65536 + cycle: the route entry that drives (R139, Table 6-6). -/
  driven : Map Nat
  /-- Scheduled-port accesses of the attempt by cycle: the row bank (R115, R116). -/
  portUse : Map Nat
  /-- Schedule and route entries whose stored parity is wrong (R148, R151). -/
  seqBad : NatSet
  rtrBad : NatSet
  report : Report
  /-- Entries of window-mode sluice slots issued, and missed, in the attempt (R133, R134). -/
  slotDone : NatSet
  /-- Schedule entries issued, and route entries executed, in the attempt (R145, R149). -/
  issued : NatSet
  routed : NatSet
  /-- A tag timeout has been raised in the attempt (R135). -/
  timedOut : Bool
  deriving DecidableEq, Repr

/-- A tile with nothing stored. -/
def TileSt.clear : TileSt :=
  { inElem := Map.empty, inExp := Map.empty, inPoison := Map.empty, inTrouble := Map.empty, wide := Map.empty,
    widePoison := Map.empty, wideTrouble := Map.empty, lastMvm := Map.empty, mvmRun := Map.empty, wrbRun := Map.empty,
    convWin := Map.empty, wrbWin := Map.empty, rdbWin := Map.empty, clvWin := Map.empty, mvmSince := Map.empty, stageWin := Map.empty,
    outBuf := Map.empty, badRows := Map.empty, replayExp := Map.empty, replayUse := false, blocks := 0,
    needMax := Map.empty, recOps := [], ma := Map.empty, maExp := Map.empty, mb := Map.empty, mbExp := Map.empty,
    mc := Map.empty, mcExp := Map.empty, maPoison := Map.empty, mbPoison := Map.empty, mcPoison := Map.empty,
    mxUntil := 0, mxA := (0, 0), mxB := (0, 0), mmulUntil := 0, vreg := Map.empty, vPoison := Map.empty, vPend := Map.empty,
    fusedUntil := 0, fusedMx := false, engUntil := 0, fusedOut := Map.empty, attShape := (0, 128), confOut := [], cmrgUntil := 0, attPend := none, smpPend := none,
    poisonMark := Map.empty, troubleMark := Map.empty, vTrouble := Map.empty, mxTrouble := Map.empty, flips := Map.empty, tags := Map.empty, tracked := [], scrubRow := 0, sparedRows := [], weakWait := [],
    waitStart := Map.empty, restoreDst := Map.empty, dlvWait := Map.empty, arrived := Map.empty, driven := Map.empty, portUse := Map.empty,
    seqBad := Map.empty, rtrBad := Map.empty, report := Report.empty, slotDone := Map.empty, issued := Map.empty, routed := Map.empty, timedOut := false }

/-- The merged report of a region for one partition (R159, Table 6-11), with s, the edges removed. -/
structure RegionRep where
  s : Nat
  cycle : Nat
  recK : Bool
  splitK : Bool
  wideK : Bool
  miss : Bool
  slip : Bool
  fault : Bool
  ovr : Bool
  readyNext : Bool
  deriving DecidableEq, Repr

/-- What the Cascade root decided at a boundary (Table 6-12). -/
inductive Decision where
  | faulted
  | sameProgram
  | replay (recompute : Bool)
  | commit
  deriving DecidableEq, Repr

/-- Where a partition stands between boundaries. -/
inductive Phase where
  /-- Not stepping (RUN = 0), or not yet started. -/
  | stopped
  /-- An attempt is in progress. -/
  | attempt
  /-- The root has decided; GO with this decision is on its way to the tiles. -/
  | decided (d : Decision)
  /-- The recompute pass runs (R77). -/
  | recompute
  /-- GO has been acted on: the next attempt may start. -/
  | ready
  deriving DecidableEq, Repr

/-- The program header of the resident package (Table 7-5). -/
structure ProgHdr where
  lenBase : Nat
  lenSplit : Nat
  lenWide : Nat
  guard : Nat
  xslack : Nat
  slipLimit : Nat
  replayLimit : Nat
  faultRetry : Nat
  clovePeriod : Nat
  progPages : Nat
  stages : Nat
  slots : Nat
  qmask : Nat
  mflags : Nat
  cisternMin : Nat
  deriving DecidableEq, Repr

/-- Before a package is resident: the defaults of Table 7-5. -/
def ProgHdr.default : ProgHdr :=
  { lenBase := 511, lenSplit := 511, lenWide := 511, guard := 32, xslack := 16, slipLimit := 4, replayLimit := 2,
    faultRetry := 1, clovePeriod := 4096, progPages := 0, stages := 1, slots := 1, qmask := 0, mflags := 0, cisternMin := 0 }

/-- A package copy in a partition's allotment: byte offset of its area, size, the key that signed it; part of it is lost with a stack (R342). -/
structure PkgRef where
  area : Nat
  size : Nat
  keyId : Nat
  lost : Bool
  deriving DecidableEq, Repr

/-- An attention tile of the resident program: its descriptors' figures that the steward uses (R229, R231). -/
structure AttTile where
  tile : Nat
  first : Nat
  ppp : Nat
  npages : Nat
  plRow : Nat
  last : Bool
  dhead : Nat
  heads : Nat
  deriving DecidableEq, Repr

/-- A STAGE in progress (R201, R204). -/
structure StageRun where
  slot : Nat
  inplace : Bool
  src : Nat
  servers : List Nat
  size : Nat
  addr : Nat
  keyId : Nat
  area : Nat
  leadOk : Bool
  leadSize : Nat
  shardLog2 : Nat
  shards : Nat
  signer : Nat
  /-- Tries made of each shard, and the shards verified. -/
  tries : Map Nat
  /-- The server table entry of the try of a shard in progress. -/
  used : Map Nat
  verified : NatSet
  /-- The next shard to fetch, in ascending order (R201). -/
  next : Nat
  /-- The CRC-32C stored beside each 4 KiB of the area, by its number in the area. -/
  crcs : Map Nat
  lost : Bool
  deriving DecidableEq, Repr

/-- An INSTALL in progress (R206, R207). -/
structure InstallRun where
  slot : Nat
  immediate : Bool
  start : Bool
  reject : Bool
  drainMs : Nat
  /-- PTP time at which admission stopped; it stops at the boundary in progress. -/
  admStop : Option Nat
  stops : Bool
  deriving DecidableEq, Repr

/-- What a slot of the pipeline carries (R228): the request, its generation of work, the pass's LC, NQT and NDRAFT, whether
it is a decode pass, and the commit index at which the pass entered stage one. -/
structure SlotBind where
  req : Nat
  lc : Nat
  nqt : Nat
  ndraft : Nat
  decode : Bool
  enter : Nat
  dead : Bool
  /-- The pass went through a committed attempt in trouble (R80). -/
  degraded : Bool
  deriving DecidableEq, Repr

/-- An output record (Table 9-8), before its PHASE is known. -/
structure OutRec where
  kind : Nat
  gen : Nat
  req : Nat
  seq : Nat
  step : Nat
  ptp : Nat
  state : Nat
  reason : Nat
  repeat_ : Bool
  replayed : Bool
  degraded : Bool
  final : Bool
  accepted : Nat
  tokens : List Nat
  deriving DecidableEq, Repr

/-- One boundary's journal entry (R215): the records it lets the steward write, and the slot rows it lets it send. `copies`: the rim dies under
whose stacks its two copies lie in the Cistern system area, while no standby takes it (R217). -/
structure Journal where
  count : Nat
  recs : List OutRec
  slotRows : List (Nat × List Byte)
  copies : Option (Nat × Nat)
  deriving DecidableEq, Repr

/-- The partition's own state beside its register sets. -/
structure PartSt where
  /-- Attributes of R188. -/
  quads : NatSet
  reqFirst : Nat
  reqCount : Nat
  cistGb : Nat
  streamGbs : Nat
  /-- Cascade count, commit index, and attempt bookkeeping of the present step (R158, R168, R80, R162, R184). -/
  count : Nat
  commitIdx : Nat
  attempt : Nat
  tries : Nat
  faultStreak : Nat
  slipStreak : Nat
  prog : Nat
  nextProg : Nat
  phase : Phase
  regRep : Map RegionRep
  /-- The attempt has a record with a code of Table 7-16; a tag timeout was raised. -/
  noRetry : Bool
  timedOut : Bool
  /-- The last permitted attempt is being committed in trouble (R80). -/
  degraded : Bool
  /-- Holds other than CSD_PCFG.HOLD: for spare substitution, repair or a steward takeover. -/
  innerHold : Bool
  /-- Packages. -/
  hdr : ProgHdr
  resident : Option PkgRef
  pendPkg : Option PkgRef
  stage : Option StageRun
  install : Option InstallRun
  /-- The last four: context capacity, chunk size, tile that holds stage one's slot row and the row, attention tiles (R228, R229). -/
  capacity : Nat
  chunk : Nat
  slotTile : Nat
  slotRow : Nat
  attTiles : List AttTile
  /-- Stream plan: PERIOD, LEAD and entries as raw words (Table 8-13). -/
  planPeriod : Nat
  planLead : Nat
  plan : List Nat
  /-- Commits counted for the slots: it goes on over a STOP whose requests resume in place. -/
  passIdx : Nat
  /-- GO carried a start (Table 6-12). -/
  goStart : Bool
  /-- The slot whose STOP waits for its hold. -/
  stopSlot : Option Nat
  /-- A STOP of its chain set waits for the boundary (R366). -/
  setStop : Bool
  /-- The Cascade stopped the partition: START resumes its requests by replay (R247). -/
  replayAll : Bool
  /-- Records and slot rows of the boundary in progress, not yet journalled. -/
  acc : List OutRec
  accRows : List (Nat × List Byte)
  /-- Shadow entries that the head has ended, freed at the next boundary; positions that members have lost, by the head's index (R366). -/
  chainEnds : NatSet
  chainLost : Map Nat
  /-- Results that a chain's last module has sent to the head: slot and row (R366). -/
  chainRes : List (Nat × List Byte)
  /-- Slots in flight, by slot index. -/
  slots : Map SlotBind
  /-- The record queue of R234, records since the last signal and the time of the first (R237). -/
  queue : List OutRec
  sinceSig : Nat
  firstUnsig : Option Nat
  ringEpisode : Bool
  queueEpisode : Bool
  /-- Boundaries journalled and not yet acknowledged, oldest first. -/
  journal : List Journal
  /-- Requests for which code 0x800D or 0x800E was recorded in the present episode. -/
  noPageEp : NatSet
  noTwinEp : NatSet
  /-- Smifort mode: engine consumer index, and tags of requests by entry index. -/
  sqCons : Nat
  /-- Producer index that the firmware's last poll read. -/
  sqProd : Nat
  tags : Map Nat
  /-- Power (R267 to R274): streaks of mismatching and low windows, whether the last window was reactive. -/
  misStreak : Nat
  okStreak : Nat
  lowStreak : Nat
  /-- Windows in a row below 0.9 A, the factor that the cap set before any raise (8 to 64), and the Cascade count at the last window. -/
  coolWin : Nat
  capF : Nat
  winCount : Nat
  /-- A command of the DESTROY, CREATE or RESIZE kind has its zero fill running. -/
  filling : Bool
  /-- What the loader chose for the resident package (windows, lanes, slot row), for later rewrites. -/
  info : Option LoadInfo
  /-- Quadrants whose contents were lost while the package was resident (R138, R261), and the slot of a START that waits for quadrants. -/
  lostQuads : NatSet
  starting : Option Nat
  deriving DecidableEq, Repr

def PartSt.clear : PartSt :=
  { quads := Map.empty, reqFirst := 0, reqCount := 0, cistGb := 0, streamGbs := 0, count := 0, commitIdx := 0, attempt := 0,
    tries := 0, faultStreak := 0, slipStreak := 0, prog := 3, nextProg := 0, phase := .stopped, regRep := Map.empty,
    noRetry := false, timedOut := false, degraded := false, innerHold := false, hdr := ProgHdr.default, resident := none,
    pendPkg := none, stage := none, install := none, capacity := 4294967295, chunk := 1, slotTile := 0, slotRow := 0,
    attTiles := [], planPeriod := 1, planLead := 1, plan := [], passIdx := 0, goStart := false, stopSlot := none, setStop := false, replayAll := false, acc := [], accRows := [], chainEnds := Map.empty, chainLost := Map.empty, chainRes := [], slots := Map.empty, queue := [],
    sinceSig := 0, firstUnsig := none, ringEpisode := false, queueEpisode := false, journal := [], noPageEp := Map.empty,
    noTwinEp := Map.empty, sqCons := 0, sqProd := 0, tags := Map.empty, misStreak := 0, okStreak := 0, lowStreak := 0, coolWin := 0, capF := 8, winCount := 0, filling := false, info := none, lostQuads := Map.empty, starting := none }

/-- A request entry (Table 9-1) with the steward's own record of the request. -/
structure ReqSt where
  state : Nat
  hcmd : Nat
  gen : Nat
  /-- Bytes 4 to 51 as words 1 to 12. -/
  words : Map Nat
  outcnt : Nat
  clen : Nat
  reason : Nat
  twin : Bool
  link : Nat
  /-- Mark in the change bitmap (R221), and the order of submission. -/
  marked : Bool
  submitSeq : Nat
  /-- The transcript: offset of its two copies in the allotment, and its capacity in positions. -/
  trOff : Option (Nat × Nat)
  trLen : Nat
  /-- The rim dies under whose stacks the two copies lie (R222), and the copies that cannot be read: 1 the first, 2 the second, 3 both
  (R247, R342). -/
  trRims : Nat × Nat
  trBad : Nat
  /-- A prompt read is under way; has been done; has failed. -/
  promptPend : Bool
  promptDone : Bool
  readErr : Bool
  /-- Next prompt position to bind in a chunk, and the last position of the prefill. -/
  nextPos : Nat
  slot : Option Nat
  prevSlot : Option Nat
  /-- OUTCNT at the start of the turn. -/
  turnBase : Nat
  /-- The parcel: offset and bytes; rows still to be copied back; whether the pages wait in place of a parcel. -/
  parcel : Option (Nat × Nat)
  restoreLeft : Nat
  parcelWait : Bool
  /-- Where a parcel in a spill region lies (R355): its address in the model's memory; and the CRC-32C of each 4 KiB of it, by number, kept in
  the Cistern system area. -/
  spillAt : Option Nat
  spillCrcs : List (Nat × Nat)
  /-- The pages in the parcel, in order: attention tile and first position; its return is under way; the record of R239's wait is written. -/
  parcelPages : List (Nat × Nat)
  returning : Bool
  waitRec : Bool
  /-- To be parked at the next commit boundary (R240). -/
  parkNext : Bool
  /-- PTP times: start of PAUSED (time to live), start of DECODE (rotation). -/
  pausedAt : Nat
  decodeAt : Nat
  resumePend : Bool
  replayed : Bool
  /-- Proposals of a draft twin beyond the target's committed tokens. -/
  proposals : List Nat
  /-- The function that wrote the pending host command (R239). -/
  cmdFn : Nat
  /-- A weight replacement has ended the request, and its record waits for room in the queue (R236). -/
  endDue : Bool
  /-- A prefill pass went through a committed attempt in trouble, and no record has said so yet (R80). -/
  degraded : Bool
  deriving DecidableEq, Repr

def ReqSt.clear : ReqSt :=
  { state := 0, hcmd := 0, gen := 0, words := Map.empty, outcnt := 0, clen := 0, reason := 0, twin := false, link := 0,
    marked := false, submitSeq := 0, trOff := none, trLen := 0, trRims := (0, 0), trBad := 0, promptPend := false, promptDone := false, readErr := false, nextPos := 0, slot := none, prevSlot := none,
    turnBase := 0, parcel := none, restoreLeft := 0, parcelWait := false, spillAt := none, spillCrcs := [], parcelPages := [], returning := false, waitRec := false, parkNext := false, pausedAt := 0, decodeAt := 0,
    resumePend := false, replayed := false, proposals := [], cmdFn := 0, endDue := false, degraded := false }

/-- A Basin page table entry (Table 9-7). -/
structure PageEnt where
  pstate : Nat
  lent : Bool
  part : Nat
  req : Nat
  fpos : Nat
  deriving DecidableEq, Repr

def PageEnt.free : PageEnt := ⟨0, false, 0, 0, 0⟩

/-- One heat hint of the power estimate (Table 10-9). -/
structure Hint where
  phase : Nat
  lead : Nat
  length : Nat
  energy : Nat
  quiet : Bool
  deriving DecidableEq, Repr

/-- The power estimate section of the resident package (Table 10-8). -/
structure PowerEst where
  period : Nat
  staticW : Nat
  eBase : Nat
  eSplit : Nat
  eWide : Nat
  hints : List Hint
  deriving DecidableEq, Repr

def PowerEst.zero : PowerEst := ⟨1, 0, 0, 0, 0, []⟩

/-- A wake of a quadrant (R262 to R264): 0 waits for its conditions, 1 to 4 the stage; slow ramp; how often it has failed. -/
structure WakeRun where
  stage : Nat
  slow : Bool
  since : Nat
  deriving DecidableEq, Repr

/-- The minimum-voltage record of a sense point (R259). -/
structure VminRec where
  mv : Nat
  wcount : Nat
  ptp : Nat
  deriving DecidableEq, Repr

/-- Power delivery beside the PWR page. -/
structure PowerSt where
  /-- The converters run (R251); the auxiliary input is present. -/
  convOn : Bool
  auxOn : Bool
  mainOk : Bool
  /-- Why a site is dark: 1 failed phases, 2 junction trip, 3 converters; sites whose transit regulator failed. -/
  darkWhy : Map Nat
  phases : NatSet
  transitFault : NatSet
  /-- Per-site limit lowered by an anomaly (R266). -/
  anomLimit : Map Nat
  vmin : Map VminRec
  vminStale : NatSet
  /-- Regions whose clock removes every second edge (R257). -/
  stretching : NatSet
  /-- Quadrants whose Spillway reservoir recharges. -/
  spillBusy : NatSet
  /-- Cap windows left of the raise of R258 and of F = 64 after 0x6002, by site. -/
  deepWin : Map Nat
  hotWin : Map Nat
  alertHold : Bool
  internal : Bool
  wakes : Map WakeRun
  wakeFails : Map Nat
  /-- Quadrants whose state change is under way, with the state they go to (Table 10-6). -/
  moving : Map Nat
  /-- M_age in units of 0.5 mV above 10 mV (R276), kept in non-volatile storage. -/
  mAge : Map Nat
  est : Map PowerEst
  /-- Measured silicon power of rim, stacks, optics and idle quadrants in the last window; efficiency per mille. -/
  pOther : Nat
  /-- Path resistance recorded at bring-up, by quadrant, in nano-ohms (R265); fused base voltage with its temperature adjustment, by site, in mV (R276). -/
  baseRes : Map Nat
  vBase : Map Nat
  /-- PTP time at which alert divide began; a bring-up waits in BOOT for the 54 V input; the converters were stopped until a module reset. -/
  alertAt : Nat
  waitMain : Bool
  stopped : Bool
  deriving DecidableEq, Repr

/-- Thermal functions beside the THM page. -/
structure ThermalSt where
  /-- Readings of the diodes at the cold start; held readings of tile diodes, in 0.25 °C, by tile; of base-die sensors by quadrant; monitors whose reading is stale,
  by tile or 2^20 + quadrant (R280). -/
  diode0 : Nat
  diode : Map Nat
  baseSens : Map Nat
  staleMon : NatSet
  /-- Filtered thermal resistance, in 0.000001 K/W (R282); sites reporting degraded are in THM_DEGRADED. Where θ_s stood when it was last judged: 0 at or
  below the threshold of R283, 1 above it, 2 at 1.1 times it or above. -/
  theta : Map Nat
  zone : Map Nat
  /-- Protection conditions with an open episode, at condition * 64 + site, or 63 for the module (R286); sites whose T_s has been above JLIMIT for 1 ms and
  still is. -/
  episodes : NatSet
  overLimit : NatSet
  /-- Watts taken off A_theta for a stack above 95 C (Table 11-3). -/
  cut : Nat
  /-- Quadrants that carry the warming load, and its setting in W each (R290). -/
  warming : NatSet
  warmW : Nat
  floorEp : Bool
  /-- Monitors treated as failed (R281), at tile number or 2^20 + quadrant. -/
  failedMon : NatSet
  shutdown : Bool
  deriving DecidableEq, Repr

/-- A calibration pass of one array position (Table 12-2). `stage`: 0 gathers, 1 probed, 2 solved, 3 shadow set written, 4
verified. -/
structure PassSt where
  /-- A request that waits for the end of this pass (R299). -/
  again : Bool
  stage : Nat
  shadowLeft : Nat
  /-- Residual errors of planes 0 and 1 that the probe, and the verify, measured. -/
  sigNow : Nat × Nat
  sigNew : Nat × Nat
  /-- The solve took bank terms only (R304). -/
  bankOnly : Bool
  /-- Cycle and entry of the CLV whose verify failed. -/
  cycle : Nat
  entry : Nat
  deriving DecidableEq, Repr

def PassSt.clear : PassSt :=
  { again := false, stage := 0, shadowLeft := 0, sigNow := (0, 0), sigNew := (0, 0), bankOnly := false, cycle := 0, entry := 0 }

/-- A remap of a converter group, or of a row (R53): plane, group or row, rows written, and its converter's trims solved. -/
structure Remap where
  plane : Nat
  isRow : Bool
  group : Nat
  row : Nat
  solved : Bool
  deriving DecidableEq, Repr

/-- A tile's quality word (Table 12-7). -/
structure Qual where
  stale : Nat
  uncal : Bool
  max_ : Nat
  mean : Nat
  min_ : Nat
  deriving DecidableEq, Repr

/-- Calibration beside the CAL pages. Trim images lie in memory (`Topo`). Positions are tile * 9 + array position; banks are
position * 2 + plane. -/
structure CalSt where
  /-- 0 until the foreground calibration of a cold start; after it, what that calibration measured depends on this number
  (`Config.fgTrim`), and for a bank calibrated in foreground since on its own (R310). -/
  epoch : Nat
  seed : Map Nat
  /-- Trims in force and working sets that differ from those of the last foreground calibration: bytes at bank * 2048 + offset
  (bit-column trims as in Table 12-1, then bank OFS and GAIN). -/
  trims : Map Nat
  work : Map Nat
  /-- T_cal at the cold start; of positions whose trims were committed since (0.25 °C). -/
  tcal0 : Nat
  tcal : Map Nat
  /-- Quality words that have changed since the cold start. -/
  qual : Map Qual
  /-- Passes in progress, and as the windows of the present attempt leave them. -/
  pass : Map PassSt
  passNow : Map PassSt
  /-- Remaps of a position in order, and as the present attempt leaves them. -/
  remap : Map (List Remap)
  remapNow : Map (List Remap)
  /-- The CMODE that the trims of a bank were solved for; 4: uncalibrated. -/
  banks : Map Nat
  /-- Residual error of a bank, 1/64 LSB; what the present attempt's windows measured (R308). -/
  sigma : Map Nat
  sigTent : Map Nat
  /-- Gathering counters at bank * 2048 + bit-column * 4 + slice: of committed attempts, of the present one (R301). -/
  gath : Map Gath
  tent : Map Gath
  /-- Consecutive passes of a position that ended with a bank above SIGMA_MAX (R307). -/
  fails : Map Nat
  /-- Test vectors that a tile's unused spare array has run, and as the present attempt leaves them (R311). -/
  spare : Map Nat
  spareNow : Map Nat
  /-- Arrays that wait for replacement, at tile * 8 + logical array (R54). -/
  needSpare : NatSet
  /-- Monitors in calibration, at monitor * 2^17 + tile or place. -/
  monBusy : NatSet
  /-- Monitor trims by the same number. -/
  monTrim : Map Nat
  /-- Quadrants that have been OFF since the cold start: their banks are uncalibrated unless `banks` lists them (R298). -/
  off : NatSet
  deriving DecidableEq, Repr

/-- A message the W1 puts out, newest first in State. -/
inductive Out where
  /-- An MSI-X message of a function. -/
  | msix (fn vector : Nat)
  /-- A PLDM event for a record of the log (R370). -/
  | pldm (index : Nat)
  /-- The data a read returns, lowest byte first; `ep` marks poisoned data (R119). -/
  | readData (bytes : List Byte) (ep : Bool)
  /-- A Cascade message: region report of a partition, or GO with its decision code (Table 6-12). -/
  | report (part region : Nat)
  | go (part decision : Nat)
  /-- An output record written to a partition's ring at an index (Table 9-8), as 16 words. -/
  | record (part index : Nat) (words : List Nat)
  /-- A Smifort record written to host memory (R249). -/
  | smi (part tag : Nat) (words : List Nat)
  /-- A delivery packet sent by a tile, from an outbound row (R131). -/
  | delivery (tile row : Nat)
  /-- An answer of a delivery node to a source tile: 0 acknowledged, 1 busy, 2 refused (R153), 3 discarded (R136). -/
  | answer (tile row kind : Nat)
  /-- A flit of an Aqueduct port: the bytes of each physical lane that it uses, in the order of the logical lanes (R359). -/
  | flit (port : Nat) (lanes : List (Nat × List Byte))
  /-- A message of an Aqueduct port: its type (Table 14-7), kind, and figures. -/
  | aqueduct (port mtype kind : Nat) (figures : List Nat)
  /-- An SPDM or management answer: code 0 accepted, else the refusal; figures. -/
  | spdm (code : Nat) (figures : List Nat)
  /-- A read of a shard from a weight server or host memory (R202, R204). -/
  | fetch (part shard server : Nat)
  /-- A frame answered by an Ethernet port (ARP, neighbour discovery, ICMP echo). -/
  | frame (port kind : Nat)
  /-- A quadrant's Spillway sources (`boost`) or sinks current for up to 400 ns (R256). -/
  | spillway (quad : Nat) (boost : Bool)
  /-- Bytes written to host or spill memory. -/
  | hostWrite (addr : Nat) (bytes : List Byte)
  deriving DecidableEq, Repr

/-- A beat under way, with the partition and the tile that sent it, and whether its CRC was damaged at its launch (R392). -/
structure LinkBeat where
  beat : Beat
  part : Nat
  from_ : Nat
  crcBad : Bool
  deriving DecidableEq, Repr

/-- A delivery packet in the delivery network (R131, R152). `src` is the sending tile, or 57344 the steward, 57345 the host,
57346 the stream engine, 57347 a parcel return, 57348 + port an Aqueduct port. `poison` lists its poisoned beats; `done`: it has
been written and its acknowledgement is on its way back; `since`: when its destination row was first found not EMPTY (R136). -/
structure Packet where
  src : Nat
  row : Nat
  index : Nat
  part : Nat
  kind : Nat
  dst : Nat
  drow : Nat
  data : List Byte
  poison : List Nat
  crc : Nat
  done : Bool
  since : Option Nat
  deriving DecidableEq, Repr

/-- A reset of a compute scope, running or waiting: 1 tile, 2 site, 3 partition, 4 wafer compute (R333, R335). -/
structure ResetRun where
  scope : Nat
  target : Nat
  deriving DecidableEq, Repr

/-- Repair, reset, licences and firmware (chapter 13) beside the RST and LIC pages. -/
structure RepairSt where
  /-- Column entries in force, as the word of RST_RMAP, by site * 32 + column; unlisted: no repair. -/
  columns : Map Nat
  /-- Columns whose lent pages were withdrawn for a shift (R26), whether or not it succeeded, until the next bring-up. -/
  withdrawn : NatSet
  /-- Array spare entries in force (Table 13-4). -/
  spares : List Nat
  /-- Stacks, rim dies and Aqueduct ports taken out of service (R325), and those failed since bring-up (R342). -/
  takenStacks : NatSet
  takenRims : NatSet
  takenPorts : NatSet
  failedStacks : NatSet
  failedRims : NatSet
  /-- Items that disagreed at the last ready check: stacks 0 to 47, rim dies from 64, ports from 128. -/
  haltItems : NatSet
  /-- Certificates in the licence store, 40 words each, by slot (R329). -/
  certs : Map (List Nat)
  /-- Publisher keys of the store (R198), by slot: X and Y. -/
  pubKeys : Map (Nat × Nat)
  /-- PTP time of the last full self test (ns), and whether a failure of R327 has been recorded since. -/
  fullTestAt : Nat
  failSince : Bool
  /-- Resets in progress and waiting. -/
  running : Option ResetRun
  waiting : List ResetRun
  /-- Firmware images by kind * 2 + slot (0 AON, 1 rim, 2 steward, 3 Cascade root, 4 links): an identity number. -/
  fwImage : Map Nat
  /-- Active slot of each kind (unlisted: A), kinds whose inactive slot holds an image that the next module reset activates (R343), and the
  PTP time at which the present step of an update began (R346). -/
  fwActive : Map Nat
  fwStaged : NatSet
  fwSince : Nat
  deriving DecidableEq, Repr

/-- A sequenced flit that a transmitter keeps until it is acknowledged: FSEQ, FTYPE, byte 5 (SOM, EOM, PLEN) and the
payload (Table 14-6). -/
structure Kept where
  fseq : Nat
  ftype : Nat
  flags : Nat
  payload : List Byte
  deriving DecidableEq, Repr

/-- An Aqueduct port beside its registers (R358 to R363). -/
structure AqdPort where
  /-- Transmitter: next FSEQ, flits sent and not acknowledged (the oldest first, at most 16,384), and how often in succession the flit
  `nakFor` has been NAKed. Receiver: next FSEQ expected. -/
  nextSeq : Nat
  kept : List Kept
  nakFor : Nat
  nakStreak : Nat
  expect : Nat
  /-- What the peer has told and signed in LINK messages: DEVICE_ID, port, fabric mode, chain identifier. -/
  authed : Bool
  peerId : Nat
  peerPort : Nat
  peerChained : Bool
  peerChain : Nat
  /-- The port trains again after it was up (R360); physical lanes that have failed. -/
  retrain : Bool
  laneFailed : NatSet
  /-- Next message tag, the outbound rows (tile, row) whose STREAM is not answered, and the DELIVERYs (partition, kind, figures) that are not,
  by tag. -/
  nextTag : Nat
  asked : Map (Nat × Nat)
  told : Map (Nat × Nat × List Nat)
  deriving DecidableEq, Repr

def AqdPort.clear : AqdPort :=
  { nextSeq := 1, kept := [], nakFor := 0, nakStreak := 0, expect := 1, authed := false, peerId := 0, peerPort := 0, peerChained := false,
    peerChain := 0, retrain := false, laneFailed := Map.empty, nextTag := 0, asked := Map.empty, told := Map.empty }

/-- The chain plan (Table 14-8). -/
structure ChainPort where
  port : Nat
  peerPort : Nat
  markOut : Bool
  peerId : Nat
  deriving DecidableEq, Repr

structure ChainPlan where
  chainId : Nat
  markPort : Nat
  masterId : Nat
  ports : List ChainPort
  parts : List (Nat × Bool)
  deriving DecidableEq, Repr

/-- A session (R373): established with an owner key; the requester has authenticated itself. -/
structure Session where
  owner : Bool
  known : Bool
  deriving DecidableEq, Repr

/-- External links, time, sessions and ownership. -/
structure LinkSt where
  pcieUp : Bool
  /-- VF Enable, and the functions whose Bus Master Enable is 1. -/
  vfEnable : Bool
  busMaster : NatSet
  /-- MSI-X vectors that are unmasked, and pending, at function * 128 + vector. -/
  msixOpen : NatSet
  msixPend : NatSet
  /-- Address and data words of the MSI-X tables (words 0 to 2), at (function * 128 + vector) * 4 + word. -/
  msixTable : Map Nat
  /-- The management bus as MGMT_SEL set it at the cold start (I3C, else SMBus), and SLOT_ID (Table 14-2). -/
  mgmtI3c : Bool
  slotId : Nat
  /-- Sessions: DOE mailbox at 0 to 3, management bus at 4 to 7. -/
  sessions : Map Session
  /-- Owner slots 0 to 3: pre-shared or not, and the key as a number. -/
  ownerKeys : Map (Bool × Nat)
  locked : Bool
  /-- The fabric mode kept in the module flash: Chained (R364). -/
  chainMode : Bool
  plan : Option ChainPlan
  ports : Map AqdPort
  /-- Shadow entries of chain members (R366): local index by partition * 65536 + head index. -/
  shadowEnt : Map Nat
  /-- Chain commit index of a partition's next mark, marks arrived (index + 1), and partitions whose start waits
  for a mark, with the PTP time at which the wait began. -/
  chainIdx : Map Nat
  markSeen : Map Nat
  markWait : Map Nat
  /-- What is left to slew of a measured PTP offset, in ns (R356); NET_TOD has been written since the last pulse. -/
  slew : Int
  todNew : Bool
  /-- Management event receiver enabled (R370). -/
  events : Bool
  deriving DecidableEq, Repr

/-- The W1. -/
structure State where
  /-- Register fields that have been written, by `Fld.key`; the others read their reset values. -/
  regs : Map Nat
  /-- Pending values of B-class fields (R11, R12), by `Fld.key`. -/
  shadows : Map Nat
  /-- Latched high words of split counts (R381), by function * 2^32 + page code * 4096 + offset of the _HI word. -/
  latch : Map Nat
  /-- Every byte memory of the module, in one address space (`Topo`). -/
  mem : Memory
  tiles : Map TileSt
  parts : Map PartSt
  reqs : Map ReqSt
  /-- Page table entries that are not FREE, by page number. -/
  pages : Map PageEnt
  /-- Beats on links, by (receiving tile * 8 + port) * 2^17 + arrival cycle, and on lanes, by lane * 2^17 + cycle at the
  station, a lane being ((site * 2 + axis) * 2 + direction) * 104 + lane number at the station it reaches (R139, R144). -/
  links : Map LinkBeat
  lanes : Map LinkBeat
  /-- Beats in crossing buffers, by receiving tile * 8 + port, or 2^20 + lane: launch cycle and beat (R154). -/
  cross : Map (List (Nat × LinkBeat))
  /-- Express tables by lane * 2^17 + cycle: 1 pass, 2 + k drop to edge tile k; and the owner of each lane segment (R144). -/
  express : Map Nat
  laneOwner : Map Nat
  flight : List Packet
  /-- Tree messages not yet acknowledged: partition * 16 + region (15 for GO), and how often sent. -/
  treeMsgs : Map Nat
  power : PowerSt
  thermal : ThermalSt
  cal : CalSt
  repair : RepairSt
  link : LinkSt
  /-- The fault log by log index, and the next index (R186, R391). -/
  log : Map FaultRec
  logTail : Nat
  /-- Wafer count (R158) and PTP time in ns (R356). -/
  wcount : Nat
  ptp : Nat
  /-- Order of submissions. -/
  submits : Nat
  /-- Steward and root roles: true when the active one is in the home die (R24). -/
  stewardHome : Bool
  rootHome : Bool
  /-- A steward works: false once the active one has failed with no standby to take over (R217). -/
  stewardUp : Bool
  /-- Counter of free values taken (MODEL's own field). -/
  freeCtr : Nat
  /-- Messages put out, newest first. -/
  out : List Out
  /-- Commands that wait, first in first out. -/
  pending : List Instr
  deriving DecidableEq, Repr

def PowerSt.init : PowerSt :=
  { convOn := false, auxOn := false, mainOk := false, darkWhy := Map.empty, phases := Map.empty, transitFault := Map.empty,
    anomLimit := Map.empty, vmin := Map.empty, vminStale := Map.empty, stretching := Map.empty, spillBusy := Map.empty,
    deepWin := Map.empty, hotWin := Map.empty, alertHold := false, internal := false, wakes := Map.empty,
    wakeFails := Map.empty, moving := Map.empty, mAge := Map.empty, est := Map.empty, pOther := 0,
    baseRes := Map.empty, vBase := Map.empty, alertAt := 0, waitMain := false, stopped := false }

def ThermalSt.init : ThermalSt :=
  { diode0 := 0, diode := Map.empty, baseSens := Map.empty, staleMon := Map.empty, theta := Map.empty, zone := Map.empty, episodes := Map.empty, overLimit := Map.empty, cut := 0, warming := Map.empty, warmW := 0, floorEp := false,
    failedMon := Map.empty, shutdown := false }

def CalSt.init : CalSt :=
  { epoch := 0, seed := Map.empty, trims := Map.empty, work := Map.empty, tcal0 := 0, tcal := Map.empty, qual := Map.empty, pass := Map.empty, passNow := Map.empty, remap := Map.empty, remapNow := Map.empty, banks := Map.empty, sigma := Map.empty,
    sigTent := Map.empty, gath := Map.empty, tent := Map.empty, fails := Map.empty, spare := Map.empty, spareNow := Map.empty,
    needSpare := Map.empty, monBusy := Map.empty, monTrim := Map.empty, off := Map.empty }

def RepairSt.init : RepairSt :=
  { columns := Map.empty, withdrawn := Map.empty, spares := [], takenStacks := Map.empty, takenRims := Map.empty, takenPorts := Map.empty,
    failedStacks := Map.empty, failedRims := Map.empty, haltItems := Map.empty, certs := Map.empty, pubKeys := Map.empty,
    fullTestAt := 0, failSince := false, running := none, waiting := [],
    fwImage := Map.empty, fwActive := Map.empty, fwStaged := Map.empty, fwSince := 0 }

def LinkSt.init : LinkSt :=
  { pcieUp := false, vfEnable := false, busMaster := Map.empty, msixOpen := Map.empty, msixPend := Map.empty, msixTable := Map.empty, mgmtI3c := false, slotId := 7,
    sessions := Map.empty, ownerKeys := Map.empty, locked := false, chainMode := false, plan := none, ports := Map.empty,
    shadowEnt := Map.empty, chainIdx := Map.empty, markSeen := Map.empty, markWait := Map.empty, slew := 0, todNew := false,
    events := false }

/-- The module as the auxiliary input comes into range: state BOOT, every register field at its reset value, every
store empty, no command waiting. -/
def State.reset : State :=
  { regs := Map.empty, shadows := Map.empty, latch := Map.empty, mem := Map.empty, tiles := Map.empty, parts := Map.empty,
    reqs := Map.empty, pages := Map.empty, links := Map.empty, lanes := Map.empty, cross := Map.empty, express := Map.empty, laneOwner := Map.empty, flight := [], treeMsgs := Map.empty,
    power := PowerSt.init, thermal := ThermalSt.init, cal := CalSt.init, repair := RepairSt.init, link := LinkSt.init,
    log := Map.empty, logTail := 0, wcount := 0, ptp := 0, submits := 0, stewardHome := true, rootHome := true, stewardUp := true,
    freeCtr := 0, out := [], pending := [] }

end Sys2Proof.Machine
end

