-- ==== Sys2Proof/Machine/Topo.lean ====
section
/-! DEFINITION. Names and places: tile addresses, quadrants, regions, rim dies (01_wafer_organisation.md R17 to R23), and
the one address space in which the model keeps every byte memory of the module. -/

namespace Sys2Proof.Machine

/-- R19: the 20-bit address of tile number `t`. -/
def tileAddr (t : Nat) : Nat := (t / 1024) * 4096 + (t / 32 % 32) * 64 + t % 32
/-- The tile that a 20-bit address names, if it names one (R13, R19). -/
def tileOfAddr (a : Nat) : Option Nat :=
  let site := bits a 19 12
  let row := bits a 11 6
  let col := bits a 5 0
  if site < 56 && row < 32 && col < 32 && a < 2 ^ 20 then some (site * 1024 + row * 32 + col) else none
def siteOf (t : Nat) : Nat := t / 1024
def rowOf (t : Nat) : Nat := t / 32 % 32
def colOf (t : Nat) : Nat := t % 32
/-- R21, Table 1-4. -/
def quadOf (t : Nat) : Nat := siteOf t * 4 + (if 16 ≤ rowOf t then 2 else 0) + (if 16 ≤ colOf t then 1 else 0)
/-- R18: the region of a site. -/
def regionOfSite (site : Nat) : Nat := site / 8 * 2 + (if 4 ≤ site % 8 then 1 else 0)
def regionOf (t : Nat) : Nat := regionOfSite (siteOf t)
def regionOfQuad (q : Nat) : Nat := regionOfSite (q / 4)
/-- The sites of a region (Table 1-3). -/
def sitesOfRegion (r : Nat) : List Nat := (upTo 56).filter (fun x => regionOfSite x == r)
/-- The 256 tiles of a quadrant. -/
def tilesOfQuad (q : Nat) : List Nat :=
  (upTo 256).map (fun k => q / 4 * 1024 + ((q % 4 / 2) * 16 + k / 16) * 32 + (q % 2) * 16 + k % 16)
/-- Table 1-5: the rim die of a stack. -/
def rimOfStack (h : Nat) : Nat := h / 6

/-! Address bases of the byte memories. The Basin lies as in the bulk BAR (R386): page n at n * 32 KiB. -/

/-- Byte 0 of a Basin row of an active tile. -/
def basinRow (t r : Nat) : Nat := t * 524288 + r * 512
/-- Byte 0 of a Basin page; pages from 917,504 are lent (R386). -/
def pageAddr (n : Nat) : Nat := n * 32768
/-- Cells of a bank: plane `pl` of array position `pos`, row `r` of 64 bytes. -/
def bankRow (t pos pl r : Nat) : Nat := 2 ^ 40 + ((t * 9 + pos) * 2 + pl) * 65536 + r * 64
/-- A schedule entry (Table 15-6, view 1). -/
def schedAddr (t e : Nat) : Nat := 2 ^ 41 + t * 65536 + e * 16
/-- A route entry (view 2). -/
def routeAddr (t e : Nat) : Nat := 2 ^ 42 + t * 16384 + e * 8
/-- Scale tables of an array position in the layout of view 3, and the tail tables of view 5. -/
def scaleBase (t pos : Nat) : Nat := 2 ^ 43 + (t * 9 + pos) * 65536
def tailBase (t pos : Nat) : Nat := 2 ^ 44 + (t * 9 + pos) * 16384
/-- The trim image of a tile (view 6). -/
def trimImage (t : Nat) : Nat := 2 ^ 45 + t * 65536
/-- An entry of a tile's delivery table (Table 7-7). -/
def dlvAddr (t i : Nat) : Nat := 2 ^ 48 + t * 65536 + i * 16
/-- Spare Basin rows, spare array rows and the like need no address: a mapped spare holds its row's address. -/
def cisternBase (p : Nat) : Nat := 2 ^ 50 + p * 2 ^ 42
/-- The Cistern system area (R27), the spill server's memory, and host memory. -/
def systemBase : Nat := 2 ^ 57
def spillBase : Nat := 2 ^ 60
def hostBase : Nat := 2 ^ 64

/-- Ceiling of a quotient. -/
def ceilDiv (a b : Nat) : Nat := (a + b - 1) / b

end Sys2Proof.Machine
end

