-- ==== Sys2Proof/Machine/Regs.lean ====
section
/-! DEFINITION. Reading and writing register fields by their definition, and the accessors of the state's maps. -/

namespace Sys2Proof.Machine

/-- The value in force of the `i`-th field `f` of page copy `inst`. -/
def State.reg (s : State) (f : Fld) (inst i : Nat) : Nat := s.regs.get (f.key inst i) (f.rst i) % 2 ^ f.width
/-- The field set; bits above its width are dropped. -/
def State.setReg (s : State) (f : Fld) (inst i v : Nat) : State :=
  { s with regs := s.regs.put (f.key inst i) (v % 2 ^ f.width) }
/-- A field of a global page (function 0's copy). -/
def State.g (s : State) (f : Fld) (i : Nat) : Nat := s.reg f 0 i
def State.setG (s : State) (f : Fld) (i v : Nat) : State := s.setReg f 0 i v
/-- A counter field raised, saturating at its width. -/
def State.addReg (s : State) (f : Fld) (inst i d : Nat) : State := s.setReg f inst i (satAdd f.width (s.reg f inst i) d)
/-- A bit flag of a field set. -/
def State.flag (s : State) (f : Fld) (inst i : Nat) : Bool := s.reg f inst i ≠ 0
def State.orReg (s : State) (f : Fld) (inst i v : Nat) : State := s.setReg f inst i (Nat.lor (s.reg f inst i) v)
/-- A field back at its reset value. -/
def State.resetReg (s : State) (f : Fld) (inst i : Nat) : State := { s with regs := s.regs.del (f.key inst i) }
/-- Every field of a page copy back at its reset value, its pending shadows discarded (R383). -/
def State.resetPage (s : State) (p : Page) (inst : Nat) : State :=
  let lo := (p.code * 65536 + inst) * 4096 * 32
  let hi := lo + 4096 * 32
  { s with regs := s.regs.keep (fun k _ => k < lo || hi ≤ k), shadows := s.shadows.keep (fun k _ => k < lo || hi ≤ k) }

def State.tile (s : State) (t : Nat) : TileSt := s.tiles.get t TileSt.clear
def State.setTile (s : State) (t : Nat) (x : TileSt) : State := { s with tiles := s.tiles.put t x }
def State.updTile (s : State) (t : Nat) (f : TileSt → TileSt) : State := s.setTile t (f (s.tile t))
def State.part (s : State) (p : Nat) : PartSt := s.parts.get p PartSt.clear
def State.setPart (s : State) (p : Nat) (x : PartSt) : State := { s with parts := s.parts.put p x }
def State.updPart (s : State) (p : Nat) (f : PartSt → PartSt) : State := s.setPart p (f (s.part p))
def State.req (s : State) (r : Nat) : ReqSt := s.reqs.get r ReqSt.clear
def State.setReq (s : State) (r : Nat) (x : ReqSt) : State := { s with reqs := s.reqs.put r x }
def State.updReq (s : State) (r : Nat) (f : ReqSt → ReqSt) : State := s.setReq r (f (s.req r))
def State.page (s : State) (n : Nat) : PageEnt := s.pages.get n PageEnt.free
def State.setPage (s : State) (n : Nat) (e : PageEnt) : State := { s with pages := s.pages.put n e }
def State.emit (s : State) (o : Out) : State := { s with out := o :: s.out }
def State.setMem (s : State) (m : Memory) : State := { s with mem := m }
/-- A free value (the spec leaves it open), and the state in which the next one is another. -/
def State.takeFree (s : State) : Nat × State := (Config.free s.freeCtr, { s with freeCtr := s.freeCtr + 1 })

/-- A fold over a list of numbers. -/
def State.forEach (s : State) (l : List Nat) (f : State → Nat → State) : State := l.foldl f s

/-- The partition that owns a quadrant, a tile (R22), or a request index (R188). -/
def State.quadOwner (s : State) (q : Nat) : Option Nat :=
  (s.parts.entries.find? (fun e => NatSet.mem e.2.quads q)).map (·.1)
def State.owner (s : State) (t : Nat) : Option Nat := s.quadOwner (quadOf t)
def State.reqOwner (s : State) (r : Nat) : Option Nat :=
  (s.parts.entries.find? (fun e => e.2.reqFirst ≤ r && r < e.2.reqFirst + e.2.reqCount)).map (·.1)
/-- Quadrants of a partition, the regions it touches, and its tiles. -/
def State.partQuads (s : State) (p : Nat) : List Nat := (s.part p).quads.entries.map (·.1)
def State.partRegions (s : State) (p : Nat) : List Nat :=
  (upTo 14).filter (fun r => (s.partQuads p).any (fun q => regionOfQuad q == r))
def State.partTiles (s : State) (p : Nat) : List Nat := (s.partQuads p).flatMap tilesOfQuad
/-- The partition exists (LD_PSTATE.STATE is not NONE). -/
def State.partExists (s : State) (p : Nat) : Bool := s.g LD_PSTATE_STATE p ≠ 0

end Sys2Proof.Machine
end

