-- ==== Sys2Proof/Machine/Ops.lean ====
section
/-! DEFINITION. Operations that several families share: interrupts, fault records, report flags of tiles, partition states,
and the reading and writing of memory as the units do it. -/

namespace Sys2Proof.Machine

/-! ### Interrupts (R389, R351) -/

/-- Function 0 is the physical function; function p + 1 serves partition p. -/
def State.fnMayMaster (s : State) (fn : Nat) : Bool :=
  s.link.pcieUp && s.link.busMaster.mem fn && (fn == 0 || s.link.vfEnable)

/-- An MSI-X vector is signalled: sent while the function may master the bus and the vector is not masked, else pending. -/
def State.msix (s : State) (fn vec : Nat) : State :=
  let k := fn * 128 + vec
  if s.fnMayMaster fn && s.link.msixOpen.mem k then s.emit (.msix fn vec)
  else { s with link := { s.link with msixPend := s.link.msixPend.add k } }

/-- R389: status bit `bit` of a function's INT_STATUS is set, and its vector signalled if that is a change from 0 while enabled. -/
def State.raiseInt (s : State) (fn bit : Nat) : State :=
  let st := s.reg INT_STATUS_STATUS fn 0
  if bitAt st bit then s
  else
    let s := s.setReg INT_STATUS_STATUS fn 0 (setBit st bit true)
    if bitAt (s.reg INT_ENABLE_ENABLE fn 0) bit then s.msix fn bit else s

/-- A change of LD_PSTATE of partition `p`: bit p of INT_PSTATE with vector 64 + p, and bit 2 of the virtual function. -/
def State.pstateInt (s : State) (p : Nat) : State :=
  let w := s.g INT_PSTATE_PSTATE (p / 32)
  let s :=
    if bitAt w (p % 32) then s
    else
      let s := s.setG INT_PSTATE_PSTATE (p / 32) (setBit w (p % 32) true)
      if bitAt (s.g INT_PEN_PEN (p / 32)) (p % 32) then s.msix 0 (64 + p) else s
  s.raiseInt (p + 1) 2

/-! ### Fault records (R185, R186, Table 7-17) -/

/-- What a unit says of a fault; `State.record` adds the stamps. -/
structure Rec where
  code : Nat
  cycle : Nat := 0
  tile : Option Nat := none
  part : Option Nat := none
  unit : Nat := 15
  req : Option Nat := none
  item : Nat := 0
  prog : Option Nat := none
  seqoff : Nat := 0
  detail : Nat := 0

def FaultRec.cls (r : FaultRec) : Nat := r.code / 4096 % 16

/-- Table 7-16: after a record with such a code the step is not attempted again. -/
def noRetryCode (code : Nat) : Bool :=
  code == 0x3010 || code == 0x3011 || code == 0x3030 || code == 0x8021 ||
  (let c := code / 4096 % 16; c == 5 || c == 6 || c == 7)

/-- The record with its time stamps (R7): the partition's count when it names a partition, else the wafer count. -/
def State.stamp (s : State) (r : Rec) : FaultRec :=
  { step := match r.part with
      | some p => (s.part p).count
      | none => s.wcount
    ptp := s.ptp, code := r.code, cycle := r.cycle, tile := r.tile, part := r.part, unit := r.unit,
    attempt := match r.part with
      | some p => min (s.part p).attempt 7
      | none => 0
    wafer := r.part.isNone, reqValid := r.req.isSome, req := r.req.getD r.item,
    prog := match r.prog with
      | some g => g
      | none => match r.part with
        | some p => (s.part p).prog
        | none => 3
    seqoff := r.seqoff, detail := r.detail }

/-- The log with a record appended; it keeps the most recent 16,777,216 (R186). -/
def State.appendLog (s : State) (r : FaultRec) : State :=
  { s with log := (if 16777216 ≤ s.logTail then s.log.del (s.logTail - 16777216) else s.log).put s.logTail r,
           logTail := s.logTail + 1 }

/-- The counts and interrupts that an appended record raises (R389, Tables 15-9, 15-11; R370). -/
def State.recordInts (s : State) (r : FaultRec) : State :=
  let c := r.cls
  let s := s.addReg ERR_CCOUNT_COUNT 0 c 1
  let s := if bitAt (s.reg ERR_IRQ_IRQ_MASK 0 0) c then s.raiseInt 0 1 else s
  let s := if c == 5 then s.raiseInt 0 4 else s
  let s := if c == 6 then s.raiseInt 0 5 else s
  let s := if c == 10 then s.raiseInt 0 7 else s
  let s := match r.part with
    | some p => if bitAt (s.reg ERR_IRQ_IRQ_MASK (p + 1) 0) c then s.raiseInt (p + 1) 1 else s
    | none => s
  if s.link.events && (c == 5 || c == 6 || c == 7 || c == 10) then s.emit (.pldm (s.logTail - 1)) else s

/-- A detected fault: its record is appended to the log, with all that follows from an append. -/
def State.record (s : State) (r : Rec) : State :=
  let fr := s.stamp r
  let s := (s.appendLog fr).recordInts fr
  match r.part with
  | some p => if noRetryCode r.code then s.updPart p (fun x => { x with noRetry := true }) else s
  | none => s

/-- A record with a tile, and the partition that owns it, if one does. -/
def State.tileRecord (s : State) (t : Nat) (r : Rec) : State := s.record { r with tile := some t, part := s.owner t }

/-- FAULT in the tile's report of the attempt (Table 6-11), with its record. -/
def State.tileFault (s : State) (t : Nat) (r : Rec) : State :=
  (s.tileRecord t r).updTile t (fun x => { x with report := { x.report with fault := true } })

/-! ### Partition states -/

/-- LD_PSTATE codes (Table 8-5). -/
def psNone : Nat := 0
def psEmpty : Nat := 1
def psWriting : Nat := 2
def psReady : Nat := 3
def psRunning : Nat := 4
def psStopping : Nat := 5

def State.pstate (s : State) (p : Nat) : Nat := s.g LD_PSTATE_STATE p
/-- A new state of a partition, with the interrupts that the change raises. -/
def State.setPstate (s : State) (p st : Nat) : State :=
  if s.pstate p = st then s else (s.setG LD_PSTATE_STATE p st).pstateInt p
def State.setStopr (s : State) (p r : Nat) : State :=
  if s.g LD_PSTATE_STOPR p = r then s else (s.setG LD_PSTATE_STOPR p r).pstateInt p
def State.setLcode (s : State) (p c : Nat) : State :=
  if s.g LD_PSTATE_LCODE p = c then s else (s.setG LD_PSTATE_LCODE p c).pstateInt p
def State.setPend (s : State) (p c : Nat) : State :=
  if s.g LD_PSTATE_PEND p = c then s else (s.setG LD_PSTATE_PEND p c).pstateInt p

/-- The partition that a partition is paired with (R242): both sets have PAIR_EN, each naming the other. -/
def State.pairMate (s : State) (p : Nat) : Option Nat :=
  let d := s.g STW_PCFG_PEER p
  if s.flag STW_PCFG_PAIR_EN 0 p && s.flag STW_PCFG_PAIR_EN 0 d && s.g STW_PCFG_PEER d == p && d != p then some d else none

/-- Bring-up states (Table 13-1). -/
def State.boot (s : State) : Nat := s.g RST_STATE_STATE 0
def State.setBoot (s : State) (b : Nat) : State := if s.boot = b then s else (s.setG RST_STATE_STATE 0 b).raiseInt 0 2

/-- Quadrant power states (Table 10-6): 0 ACTIVE, 1 IDLE, 2 RETAIN, 3 OFF. -/
def State.qstate (s : State) (q : Nat) : Nat := s.g (PWR_QSTATE (q % 16)) (q / 16)
/-- The tile can work: not fenced, its quadrant powered. -/
def State.tileLive (s : State) (t : Nat) : Bool :=
  !s.flag SEQ_STATUS_FENCED t 0 && decide (s.qstate (quadOf t) ≤ 1)

end Sys2Proof.Machine
end

