-- ==== Sys2Proof/Machine/Access.lean ====
section
/-! DEFINITION. Who may write what: paths, sessions, version negotiation, and the refusal of a write (00 R10, R11; 14 R373;
15 R379, R380, R385, R388). -/

namespace Sys2Proof.Machine

/-- The function number of a path's records and registers. -/
def fnOf (p : Path) : Nat := match p with
  | .pf => 0
  | .vf q => q.val + 1
  | .mgmt => 0

/-- R373: a session with an owner key is open on the path. -/
def State.openSession (s : State) (p : Path) : Bool := match p with
  | .pf => s.link.sessions.entries.any (fun e => decide (e.1 < 4) && e.2.owner)
  | .vf _ => false
  | .mgmt => s.link.sessions.entries.any (fun e => decide (4 ≤ e.1) && e.2.owner)

/-- A secured session of any kind is open on the path. -/
def State.anySession (s : State) (p : Path) : Bool := match p with
  | .pf => s.link.sessions.entries.any (fun e => decide (e.1 < 4))
  | .vf _ => false
  | .mgmt => s.link.sessions.entries.any (fun e => decide (4 ≤ e.1))

/-- R394: CAPS.SESSION. -/
def Page.session (p : Page) : Bool := !p.isTile && p != .sec

/-- Accesses of the path reach the module: in HALT the physical function and management answer (Table 13-1). -/
def State.pathUp (s : State) (p : Path) : Bool := match p with
  | .pf => s.link.pcieUp
  | .vf _ => s.link.pcieUp && s.link.vfEnable && s.boot != 5
  | .mgmt => s.power.auxOn
/-- The global pages answer management: from state TRAIN onward (R318), and after the converters have stopped (R251). -/
def State.answers (s : State) : Bool := s.boot != 0 || s.power.stopped

/-- R388: the function has negotiated the register interface. -/
def State.negotiated (s : State) (p : Path) : Bool := match p with
  | .mgmt => true
  | _ => s.reg SEC_NEG_MAJOR (fnOf p) 0 != 0

/-- A write refused as in R10: counted, and shown in ERR_STATUS, of the tile's page or of the function's copy. -/
def State.refuseWrite (s : State) (p : Path) (pg : Page) (inst : Nat) : State :=
  let i := if pg.isTile then inst else (fnOf p)
  (s.addReg (HDR_ERR_COUNT pg) i 0 1).setReg (HDR_WRITE_REFUSED pg) i 0 1
/-- A write discarded and counted in the path's view of the PCI page. -/
def State.discardWrite (s : State) (p : Path) : State := s.addReg (HDR_ERR_COUNT .pci) (fnOf p) 0 1
/-- A write refused under R11: as in R10, with a record that names the register. -/
def State.refuseStatic (s : State) (p : Path) (pg : Page) (inst off : Nat) : State :=
  let r : Rec := { code := 0x1001, unit := 15, detail := off }
  let s := s.refuseWrite p pg inst
  if pg.isTile then s.tileRecord inst r else s.record r
/-- A management message refused (R373). -/
def State.refuseMessage (s : State) : State := s.emit (.spdm 1 [])

/-- A write of a field of a global page. `own`: a virtual function sees the field through its view; `sess`: the field needs a
session on the physical function. -/
def State.pageWrite (s : State) (p : Path) (pg : Page) (own sess : Bool) (act : State → State) : Host.Outcome State Fault Refusal :=
  if !s.pathUp p then .next s
  else
    match p with
    | .vf _ => if !own then .next (s.discardWrite p) else if s.negotiated p then .next (act s) else .next (s.refuseWrite p pg 0)
    | .pf => if s.negotiated p && (!sess || s.openSession p) then .next (act s) else .next (s.refuseWrite p pg 0)
    | .mgmt =>
      if !s.anySession p || !s.answers then .next s.refuseMessage
      else if !sess || s.openSession p then .next (act s) else .next (s.refuseWrite p pg 0)

/-- A path's write reaches the set of a partition as its own. -/
def ownSet (path : Path) (p : Nat) : Bool := match path with
  | .vf q => q.val == p
  | _ => false
/-- A write of a field that only the physical function and management may write. A virtual function's write is refused as in R10 where the field
lies in what it sees (`seen`), and discarded elsewhere. -/
def State.ownerWrite (s : State) (p : Path) (pg : Page) (seen : Bool) (act : State → State) : Host.Outcome State Fault Refusal :=
  match p with
  | .vf _ => if s.pathUp p && seen then .next (s.refuseWrite p pg 0) else s.pageWrite p pg false true act
  | _ => s.pageWrite p pg false true act

/-- The slice and the pages of a tile can be reached: its quadrant is ACTIVE or IDLE. -/
def State.sliceUp (s : State) (t : Nat) : Bool := decide (s.qstate (quadOf t) ≤ 1)

/-- A tile lies in a scope. -/
def State.inScope (s : State) (r : ResetRun) (t : Nat) : Bool := match r.scope with
  | 1 => t == r.target
  | 2 => siteOf t == r.target
  | 3 => s.owner t == some r.target
  | _ => true
/-- A tile lies in the scope of a reset that runs: reads of its pages return zero, and writes are discarded and counted there (R333). DEDUCED: a block
counts as in reset from the request of the reset to its end (log entry 75). -/
def State.inReset (s : State) (t : Nat) : Bool := match s.repair.running with
  | some r => s.inScope r t
  | none => false
/-- A write of a page of a tile in reset is discarded. R333 counts it in that page, R385 in the PCI page: both count (DEDUCED, log entry 75). -/
def State.resetWrite (s : State) (p : Path) (pg : Page) (t : Nat) : State := (s.discardWrite p).addReg (HDR_ERR_COUNT pg) t 0 1

/-- A write of a field of a tile page, through a tile window (R380, R385). -/
def State.tileWrite (s : State) (p : Path) (t : Nat) (pg : Page) (act : State → State) : Host.Outcome State Fault Refusal :=
  if !s.pathUp p then .next s
  else
    match p with
    | .vf _ => .next (s.discardWrite p)
    | .pf =>
      if !s.negotiated p then .next (s.refuseWrite p pg t)
      else if !s.sliceUp t then .next (s.discardWrite p)
      else if s.inReset t then .next (s.resetWrite p pg t) else .next (act s)
    | .mgmt =>
      if !s.anySession p || !s.answers then .next s.refuseMessage
      else if !s.sliceUp t then .next (s.discardWrite p)
      else if s.inReset t then .next (s.resetWrite p pg t) else .next (act s)

/-- The partition steps or may step: RUNNING or STOPPING. -/
def State.runs (s : State) (p : Nat) : Bool := s.pstate p == psRunning || s.pstate p == psStopping
/-- The warming load stops on quadrants (R290). -/
def State.coolQuads (s : State) (l : List Nat) : State :=
  { s with thermal := { s.thermal with warming := s.thermal.warming.keep (fun q _ => !l.contains q) } }
/-- RUNNING, STOPPING or WRITING. -/
def State.busyPart (s : State) (p : Nat) : Bool := s.runs p || s.pstate p == psWriting
/-- A tile of a partition that is RUNNING, STOPPING or WRITING. -/
def State.busyTile (s : State) (t : Nat) : Bool := match s.owner t with
  | some p => s.busyPart p
  | none => false

end Sys2Proof.Machine
end

