-- ==== Sys2Proof/Machine/Basin.lean ====
section
/-! DEFINITION. The Basin slice: rows, error correction and poison, the program window, and Sluice tags, as the units and
the side port use them (05_basin_scratchpad.md R114 to R138). -/

namespace Sys2Proof.Machine

/-- A zero beat. -/
def Beat.zero (poison : Bool) : Beat := ⟨List.replicate 64 0#8, poison, false⟩
/-- Byte `i` of a beat as a number. -/
def beatByte (b : Beat) (i : Nat) : Nat := ((b.data[i]?).getD 0#8).toNat
/-- 64 bytes of a list from an offset, missing bytes zero. -/
def beatOf (l : List Byte) (off : Nat) (poison trouble : Bool) : Beat :=
  let d := (l.drop off).take 64
  ⟨d ++ List.replicate (64 - d.length) 0#8, poison, trouble⟩
/-- The little-endian number of a list of bytes. -/
def numOf : List Byte → Nat
  | [] => 0
  | b :: r => b.toNat + 256 * numOf r
/-- `n` little-endian bytes of a number. -/
def bytesOf : Nat → Nat → List Byte
  | 0, _ => []
  | n + 1, v => BitVec.ofNat 8 v :: bytesOf n (v / 256)

/-! ### Windows and tags -/

def State.inWin (s : State) (t r : Nat) : Bool :=
  s.flag BSN_SLUICE_IN_EN t 0 && decide (s.reg BSN_SLUICE_IN_FIRST t 0 ≤ r) && decide (r ≤ s.reg BSN_SLUICE_IN_LAST t 0)
def State.outWin (s : State) (t r : Nat) : Bool :=
  s.flag BSN_SLUICE_OUT_EN t 0 && decide (s.reg BSN_SLUICE_OUT_FIRST t 0 ≤ r) && decide (r ≤ s.reg BSN_SLUICE_OUT_LAST t 0)
/-- R239: the last 8 rows of the inbound window. -/
def State.restoreRow (s : State) (t r : Nat) : Bool := s.inWin t r && decide (s.reg BSN_SLUICE_IN_LAST t 0 < r + 8)
/-- Tag codes of Table 5-4: 0 EMPTY, 1 FULL, 2 TAKEN, 3 PENDING. -/
def State.tag (s : State) (t r : Nat) : Nat := (s.tile t).tags.get r 0
def State.setTag (s : State) (t r v : Nat) : State :=
  s.updTile t (fun x => { x with tags := if v = 0 then x.tags.del r else x.tags.put r v })
/-- R124: rows 0 to 64n - 1. -/
def State.inProgram (s : State) (t r : Nat) : Bool := decide (r < 64 * s.reg BSN_PROG_PROG_PAGES t 0) && decide (r < 1024)
/-- Page number of page `k` of an active tile (R122). -/
def pageNo (t k : Nat) : Nat := t * 16 + k

/-! ### Error correction (R117, R118, R121) -/

def popCount : Nat → Nat → Nat
  | 0, _ => 0
  | n + 1, v => v % 2 + popCount n (v / 2)

/-- R121: the four rows most recently corrected, with their counts; and the count of `r` now. -/
def trackRow (l : List (Nat × Nat)) (r : Nat) : List (Nat × Nat) × Nat :=
  let n := ((l.find? (fun e => e.1 == r)).map (·.2)).getD 0 + 1
  (((r, n) :: l.filter (fun e => e.1 != r)).take 4, n)

/-- R121: a weak row is reported. A program row waits for a spare row (R340); a cache page is retired by the steward. -/
def State.weakRow (s : State) (t r cycle : Nat) : State :=
  let s := ((s.setReg BSN_WEAK_ROW_VALID t 0 1).setReg BSN_WEAK_ROW_ROW t 0 r).tileRecord t
    { code := 0x3012, unit := 5, cycle := cycle, detail := r * 64 }
  s.updTile t (fun x => { x with weakWait := if x.weakWait.contains r then x.weakWait else x.weakWait ++ [r] })

def State.lastErr (s : State) (t r w ue syn : Nat) : State :=
  (((s.setReg BSN_LAST_ERR_UE t 0 ue).setReg BSN_LAST_ERR_ROW t 0 r).setReg BSN_LAST_ERR_WORD t 0 w).setReg
    BSN_LAST_ERR_SYNDROME t 0 syn

/-- R117: one corrected word. -/
def State.corrected (s : State) (t r w mask cycle : Nat) : State :=
  let s := ((s.addReg BSN_CE_COUNT_COUNT t 0 1).setReg BSN_STATUS_CE t 0 1).lastErr t r w 0 (Config.syndrome mask)
  let tr := trackRow (s.tile t).tracked r
  let s := s.updTile t (fun x => { x with tracked := tr.1, flips := x.flips.del (r * 64 + w) })
  if tr.2 = s.reg BSN_SCRUB_CTRL_WEAK_THRESH t 0 then s.weakRow t r cycle else s

/-- One word met by a read: corrected, or poisoned (R118), or already marked. `sched`: a scheduled read, which makes the
step a faulted step. The answer says whether the word is poisoned. -/
def State.readWord (s : State) (t r cycle : Nat) (sched : Bool) (w : Nat) : State × Bool :=
  let k := r * 64 + w
  let rec1 (s : State) (code : Nat) : State :=
    let rc : Rec := { code := code, unit := 5, cycle := cycle, detail := k }
    if sched then s.tileFault t rc else s.tileRecord t rc
  if (s.tile t).poisonMark.mem k then (rec1 s 0x3011, true)
  else
    let m := (s.tile t).flips.get k 0
    if m = 0 then (s, false)
    else if popCount 72 m = 1 then (s.corrected t r w m cycle, false)
    else
      let s := ((s.addReg BSN_UE_COUNT_COUNT t 0 1).setReg BSN_STATUS_UE t 0 1).lastErr t r w 1 (Config.syndrome m)
      let s := s.updTile t (fun x => { x with flips := x.flips.del k, poisonMark := x.poisonMark.add k })
      (rec1 s 0x3010, true)

/-- Words of a row in order, with the poisoned ones gathered. -/
def State.readWords (s : State) (t r cycle : Nat) (sched : Bool) : State × List Nat :=
  (upTo 64).foldl (fun (a : State × List Nat) w =>
    let x := a.1.readWord t r cycle sched w
    (x.1, if x.2 then w :: a.2 else a.2)) (s, [])

/-- The eight beats of a row, those with a poisoned word marked, and those with a word that the attempt computed from a troubled beat
flagged (R74). -/
def State.rowBeats (s : State) (t r : Nat) (bad : List Nat) : List Beat :=
  (upTo 8).map (fun b =>
    ⟨Memory.readBytes s.mem (basinRow t r + 64 * b) 64, bad.any (fun w => w / 8 == b),
     (upTo 8).any (fun w => (s.tile t).troubleMark.mem (r * 64 + 8 * b + w))⟩)

/-- Any read of a row, with correction and poison (either port). -/
def State.readRow (s : State) (t r cycle : Nat) (sched : Bool) : State × List Beat :=
  let x := s.readWords t r cycle sched
  (x.1, x.1.rowBeats t r x.2)

/-! ### The scheduled port -/

/-- R124: an access outside the program window. -/
def State.boundsFault (s : State) (t r cycle : Nat) : State :=
  (s.setReg BSN_STATUS_BOUNDS t 0 1).tileFault t { code := 0x3001, unit := 5, cycle := cycle, detail := (r % 1024) * 64 }

/-- A scheduled read of a row that a command names: the program window, correction, and the tag of an inbound row; a restore row keeps
its tag (Table 5-4). -/
def State.schedRead (s : State) (t r cycle : Nat) : State × List Beat :=
  if s.inProgram t r then
    let x := s.readRow t r cycle true
    (if x.1.inWin t r && !x.1.restoreRow t r && x.1.tag t r == 1 then x.1.setTag t r 2 else x.1, x.2)
  else (s.boundsFault t r cycle, List.replicate 8 (Beat.zero true))

/-- Scheduled reads of `n` rows from `r`. -/
def State.schedReads (s : State) (t cycle : Nat) : Nat → Nat → State × List Beat
  | _, 0 => (s, [])
  | r, n + 1 =>
    let x := s.schedRead t r cycle
    let y := State.schedReads x.1 t cycle (r + 1) n
    (y.1, x.2 ++ y.2)

/-- The words of a row that `mask` enables, stored from beats: a poisoned beat leaves the poison mark (R119), and what a troubled beat
stores keeps its flag for the attempt (R74). -/
def State.storeWords (s : State) (t r : Nat) (beats : List Beat) (mask : List Nat) : State :=
  mask.foldl (fun s w =>
    let b := (beats[w / 8]?).getD (Beat.zero true)
    let k := r * 64 + w
    let s := s.updTile t (fun x => { x with
      poisonMark := x.poisonMark.upd k b.poison, troubleMark := x.troubleMark.upd k b.trouble, flips := x.flips.del k })
    s.setMem (Memory.writeBytes s.mem (basinRow t r + 8 * w) ((b.data.drop (8 * (w % 8))).take 8))) s

/-- R392: an armed bit flip meets the lowest-numbered word that a scheduled write enables. -/
def State.injectFlip (s : State) (t r : Nat) (mask : List Nat) : State :=
  let kind := s.reg (HDR_ERR_INJECT .bsn) t 0
  match mask with
  | [] => s
  | w :: _ =>
    if kind = 1 || kind = 2 then
      let s := s.updTile t (fun x => { x with flips := x.flips.put (r * 64 + w) (if kind = 1 then 1 else 3) })
      (s.setReg (HDR_ERR_INJECT .bsn) t 0 0).setReg (HDR_INJECTED .bsn) t 0 1
    else s

/-- The tag transition of a scheduled write: outbound EMPTY to PENDING (Table 5-4). -/
def State.writeTag (s : State) (t r : Nat) : State :=
  if s.outWin t r && s.tag t r == 0 then s.setTag t r 3 else s

/-- A scheduled write of the words of `mask` (ascending) of a row that a command names. -/
def State.schedWrite (s : State) (t r cycle : Nat) (beats : List Beat) (mask : List Nat) : State :=
  if s.inProgram t r then (((s.storeWords t r beats mask).injectFlip t r mask).writeTag t r)
  else s.boundsFault t r cycle

/-- Every word of a row. -/
def allWords : List Nat := upTo 64
/-- The words of quarter `q` of a row. -/
def quarterWords (q : Nat) : List Nat := (upTo 16).map (· + 16 * q)

/-- Whole rows written from `r` on, eight beats each; a last short row enables only the words its beats cover. -/
def State.schedWrites (s : State) (t cycle : Nat) : Nat → List Beat → Nat → State
  | _, _, 0 => s
  | r, bs, n + 1 =>
    let here := bs.take 8
    State.schedWrites (s.schedWrite t r cycle here (upTo (8 * here.length))) t cycle (r + 1) (bs.drop 8) n

/-- A byte write by word merge (R114): a poisoned word is met by the merge's read and keeps its mark; a poisoned or flagged byte leaves
its mark or flag on the word. -/
def State.byteWrite (s : State) (t r i : Nat) (v : Nat) (poison trouble : Bool) (cycle : Nat) : State :=
  let k := r * 64 + i / 8
  let x := s.readWord t r cycle true (i / 8)
  (x.1.setMem (Memory.write x.1.mem (basinRow t r + i) (BitVec.ofNat 8 v))).updTile t (fun y => { y with
    poisonMark := if poison then y.poisonMark.add k else y.poisonMark
    troubleMark := if trouble then y.troubleMark.add k else y.troubleMark })

/-- R119: every word of a destination row marked poisoned, as a refused command leaves it; no data are written. -/
def State.poisonWords (s : State) (t r cycle : Nat) (mask : List Nat) : State :=
  if s.inProgram t r then
    s.updTile t (fun x => { x with poisonMark := mask.foldl (fun m w => m.add (r * 64 + w)) x.poisonMark })
  else s.boundsFault t r cycle

/-! ### Zero fill (R126) -/

/-- The memory of a slice and its tags at zero, with valid check bits. -/
def TileSt.zeroSlice (x : TileSt) : TileSt :=
  { x with poisonMark := Map.empty, troubleMark := Map.empty, flips := Map.empty, tags := Map.empty, tracked := [] }
/-- The slices of the tiles that `p` selects are zero-filled. -/
def State.zeroSlices (s : State) (p : Nat → Bool) : State :=
  { s with mem := s.mem.keep (fun a _ => !(decide (a < 57344 * 524288) && p (a / 524288))),
           tiles := s.tiles.mapVal (fun t x => if p t then x.zeroSlice else x) }

/-! ### Tags at the end of an attempt (Table 5-4) -/

/-- Commit: TAKEN to EMPTY, PENDING to FULL. -/
def commitTags (m : Map Nat) : Map Nat := ⟨(m.entries.filter (fun e => e.2 != 2)).map (fun e => (e.1, if e.2 == 3 then 1 else e.2))⟩
/-- Replay, or a hold that discards the attempt: TAKEN to FULL, PENDING to EMPTY. -/
def discardTags (m : Map Nat) : Map Nat := ⟨(m.entries.filter (fun e => e.2 != 3)).map (fun e => (e.1, if e.2 == 2 then 1 else e.2))⟩

end Sys2Proof.Machine
end

