-- ==== Sys2Proof/Machine/Numeric.lean ====
section
/-! DEFINITION. The number formats of the data path and their arithmetic (03_numerics_and_replay.md R59 to R61, 04 R90):
integers of fixed width, block exponents, BF16, and FP32 with round to nearest, ties to even, and subnormals
treated as zero. -/

namespace Sys2Proof.Machine

/-! ### Integers -/

/-- Two's complement reading of the low `w` bits. -/
def sext (w v : Nat) : Int :=
  let x := v % 2 ^ w
  if x < 2 ^ (w - 1) then (x : Int) else (x : Int) - (2 ^ w : Nat)

/-- The low `w` bits of an integer in two's complement. -/
def trunc (w : Nat) (x : Int) : Nat := (x % (2 ^ w : Nat)).toNat

/-- The value held to the range `-hi` to `hi` (R61: conversions saturate to the produced range, symmetric about zero). -/
def satSym (hi : Nat) (x : Int) : Int := if x > hi then hi else if x < -(hi : Int) then -(hi : Int) else x
/-- The value lies outside `-hi` to `hi`. -/
def outsideSym (hi : Nat) (x : Int) : Bool := decide (x > hi) || decide (x < -(hi : Int))

/-- Quotient of naturals rounded to nearest, ties to even (R61). -/
def rneDiv (n d : Nat) : Nat :=
  let q := n / d
  let r := n % d
  if 2 * r < d then q else if d < 2 * r then q + 1 else if q % 2 = 0 then q else q + 1

/-- `m * 2^e` rounded to an integer, to nearest, ties to even (R61). -/
def rneScale (m : Int) (e : Int) : Int :=
  if 0 ≤ e then m * (2 ^ e.toNat : Nat)
  else
    let r : Int := rneDiv m.natAbs (2 ^ (-e).toNat)
    if m < 0 then -r else r

/-- Number of bits of a number. -/
def bitLen (n : Nat) : Nat := if n = 0 then 0 else n.log2 + 1

/-- Bits of the integer square root, from bit `k` down. -/
def isqrtGo (n : Nat) : Nat → Nat → Nat
  | 0, r => r
  | k + 1, r =>
    let t := r + 2 ^ k
    isqrtGo n k (if t * t ≤ n then t else r)

/-- The integer square root. -/
def isqrt (n : Nat) : Nat := isqrtGo n (bitLen n / 2 + 1) 0

/-! ### FP32 (binary32) -/

/-- A value of FP32: NaN, an infinity, or sign and magnitude `m * 2^e`. -/
inductive FVal where
  | nan
  | inf (neg : Bool)
  | fin (neg : Bool) (m : Nat) (e : Int)
  deriving DecidableEq, Repr

/-- The value of 32 bits; a subnormal reads as zero of the same sign (R61). -/
def fdec (w : Nat) : FVal :=
  let neg := bitAt w 31
  let ex := bits w 30 23
  let fr := bits w 22 0
  if ex = 255 then (if fr = 0 then .inf neg else .nan)
  else if ex = 0 then .fin neg 0 0
  else .fin neg (fr + 2 ^ 23) ((ex : Int) - 150)

/-- The value of 32 bits with subnormals kept (R109: a subnormal temperature is clamped, not flushed). -/
def fdecKeep (w : Nat) : FVal :=
  let neg := bitAt w 31
  let ex := bits w 30 23
  let fr := bits w 22 0
  if ex = 255 then (if fr = 0 then .inf neg else .nan)
  else if ex = 0 then .fin neg fr (-149)
  else .fin neg (fr + 2 ^ 23) ((ex : Int) - 150)

def signBit (neg : Bool) : Nat := if neg then 2 ^ 31 else 0

/-- The FP32 word nearest to `m * 2^e`, ties to even; too large gives an infinity, a subnormal result is flushed to
zero of the same sign (R61; tininess judged on the rounded result). -/
def fround (neg : Bool) (m : Nat) (e : Int) : Nat :=
  if m = 0 then signBit neg
  else
    let sh : Int := (bitLen m : Int) - 24
    let m1 := if 0 ≤ sh then rneDiv m (2 ^ sh.toNat) else m * 2 ^ (-sh).toNat
    let e1 := e + sh
    let m2 := if m1 = 2 ^ 24 then 2 ^ 23 else m1
    let e2 := if m1 = 2 ^ 24 then e1 + 1 else e1
    let ex := e2 + 150
    if ex < 1 then signBit neg
    else if 254 < ex then signBit neg + 255 * 2 ^ 23
    else signBit neg + ex.toNat * 2 ^ 23 + (m2 - 2 ^ 23)

/-- A NaN word: the spec names no payload, so its bits beside the exponent are free. -/
def fnan (op a b c : Nat) : Nat :=
  let p := Config.nanBits op a b c
  let f := p % 2 ^ 23
  signBit (bitAt p 31) + 255 * 2 ^ 23 + (if f = 0 then 1 else f)

def finf (neg : Bool) : Nat := signBit neg + 255 * 2 ^ 23
def fNegInf : Nat := 0xFF80_0000
def fZero : Nat := 0
def fOne : Nat := 0x3F80_0000
def isNaN (w : Nat) : Bool := fdec w == .nan
def isNegInf (w : Nat) : Bool := fdec w == .inf true
/-- Zero of either sign (a subnormal counts as zero, R61). -/
def fIsZero (w : Nat) : Bool := match fdec w with
  | .fin _ m _ => m == 0
  | _ => false
def fneg (w : Nat) : Nat := if bitAt w 31 then w - 2 ^ 31 else w + 2 ^ 31

/-- The signed integer `s` with `value = s * 2^e` at a common exponent. -/
def atExp (neg : Bool) (m : Nat) (e e0 : Int) : Int :=
  let x : Int := m * (2 ^ (e - e0).toNat : Nat)
  if neg then -x else x

/-- The FP32 word nearest to an integer multiple of `2^e`. -/
def froundInt (x : Int) (e : Int) : Nat := fround (decide (x < 0)) x.natAbs e

/-- IEEE 754 addition, to nearest even (R90). An exact zero sum of unlike signs is +0. -/
def fadd (a b : Nat) : Nat :=
  match fdec a, fdec b with
  | .nan, _ => fnan 1 a b 0
  | _, .nan => fnan 1 a b 0
  | .inf s, .inf t => if s = t then finf s else fnan 1 a b 0
  | .inf s, _ => finf s
  | _, .inf t => finf t
  | .fin s m e, .fin t n f =>
    if m = 0 && n = 0 then (if s && t then signBit true else 0)
    else if m = 0 then fround t n f
    else if n = 0 then fround s m e
    else
      let e0 := min e f
      froundInt (atExp s m e e0 + atExp t n f e0) e0

def fsub (a b : Nat) : Nat := fadd a (fneg b)

/-- IEEE 754 multiplication, to nearest even (R90). -/
def fmul (a b : Nat) : Nat :=
  match fdec a, fdec b with
  | .nan, _ => fnan 2 a b 0
  | _, .nan => fnan 2 a b 0
  | .inf s, .inf t => finf (s != t)
  | .inf s, .fin t n _ => if n = 0 then fnan 2 a b 0 else finf (s != t)
  | .fin s m _, .inf t => if m = 0 then fnan 2 a b 0 else finf (s != t)
  | .fin s m e, .fin t n f => fround (s != t) (m * n) (e + f)

/-- Fused multiply-add `a * b + c` with one rounding (R90). -/
def ffma (a b c : Nat) : Nat :=
  match fdec a, fdec b, fdec c with
  | .nan, _, _ => fnan 3 a b c
  | _, .nan, _ => fnan 3 a b c
  | _, _, .nan => fnan 3 a b c
  | .fin s m e, .fin t n f, .fin u k g =>
    let ps := s != t
    let p := m * n
    if p = 0 && k = 0 then (if ps && u then signBit true else 0)
    else if p = 0 then fround u k g
    else
      let e0 := min (e + f) g
      froundInt (atExp ps p (e + f) e0 + atExp u k g e0) e0
  | .fin _ m _, .inf t, _ => if m = 0 then fnan 3 a b c else fadd (fmul a (finf t)) c
  | .inf s, .fin _ n _, _ => if n = 0 then fnan 3 a b c else fadd (fmul (finf s) b) c
  | .inf s, .inf t, _ => fadd (finf (s != t)) c
  | _, _, .inf u => finf u

/-- A signed key that orders FP32 values (not NaN); both zeros give 0. -/
def fkey (w : Nat) : Int :=
  match fdec w with
  | .nan => 0
  | .inf s => if s then -(2 ^ 40 : Nat) else (2 ^ 40 : Nat)
  | .fin s m _ => if m = 0 then 0 else if s then -((w % 2 ^ 31 : Nat) : Int) else ((w % 2 ^ 31 : Nat) : Int)

def flt (a b : Nat) : Bool := decide (fkey a < fkey b)

/-- A subnormal word as the zero of its sign (R61). -/
def fflush (w : Nat) : Nat := if bits w 30 23 = 0 then signBit (bitAt w 31) else w
/-- Lane-wise maximum; a NaN operand gives NaN (Table 4-8). Of two zeros the first operand is taken. -/
def fmax (a b : Nat) : Nat := if isNaN a || isNaN b then fnan 4 a b 0 else fflush (if flt a b then b else a)
def fmin (a b : Nat) : Nat := if isNaN a || isNaN b then fnan 5 a b 0 else fflush (if flt b a then b else a)

/-- An integer as FP32, to nearest even (R61). -/
def fofInt (x : Int) : Nat := froundInt x 0
/-- `x * 2^e` as FP32. -/
def fofScaled (x : Int) (e : Int) : Nat := froundInt x e

/-- FP32 to an integer, rounded as R61 says, saturating to the INT32 range; NaN gives 0 (Table 4-9). -/
def ftoInt (w : Nat) : Int :=
  match fdec w with
  | .nan => 0
  | .inf s => if s then -2147483647 else 2147483647
  | .fin s m e =>
    let r := rneScale m e
    satSym 2147483647 (if s then -r else r)

/-- FP32 quotient, correctly rounded. Division by zero gives an infinity of the sign of the operands, 0/0 and inf/inf NaN. -/
def fdiv (a b : Nat) : Nat :=
  match fdec a, fdec b with
  | .nan, _ => fnan 6 a b 0
  | _, .nan => fnan 6 a b 0
  | .inf _, .inf _ => fnan 6 a b 0
  | .inf s, .fin t _ _ => finf (s != t)
  | .fin s _ _, .inf t => signBit (s != t)
  | .fin s m e, .fin t n f =>
    if n = 0 then (if m = 0 then fnan 6 a b 0 else finf (s != t))
    else
      -- 64 extra bits and a sticky bit keep the rounding exact
      let q := (m * 2 ^ 64) / n
      let st := if (m * 2 ^ 64) % n = 0 then 0 else 1
      fround (s != t) (2 * q + st) (e - f - 65)

/-! ### BF16 -/

/-- BF16 (upper half of a binary32 word) as FP32: exact. -/
def bfToF (h : Nat) : Nat := (h % 65536) * 65536
/-- FP32 to BF16, to nearest even; NaN stays NaN, a subnormal input is zero (R61). -/
def fToBf (w : Nat) : Nat :=
  match fdec w with
  | .nan => (fnan 7 w 0 0) / 65536 + (if (fnan 7 w 0 0) / 65536 % 128 = 0 then 1 else 0)
  | .inf s => (finf s) / 65536
  | .fin s m _ => if m = 0 then (signBit s) / 65536 else rneDiv (w % 2 ^ 32) 65536

/-! ### Functions with a stated error bound (R90, R100)

The spec gives a bound and no algorithm, so the result is free within the bound: the candidate is an opaque function
of the operand, and where it breaks the bound the nearest FP32 word stands in its place. `P` fraction bits. -/

def fixP : Nat := 80

/-- 2^(2^-i) in fixed point, for i = 1, 2, ...: repeated square roots of 2. -/
def rootsOfTwo : Nat → Nat → List Nat
  | 0, _ => []
  | n + 1, c => let r := isqrt (c * 2 ^ fixP); r :: rootsOfTwo n r

/-- 2^(fr / 2^k) for a fraction of `k` bits, in fixed point: the product of the roots its bits select. -/
def exp2Frac (fr k : Nat) : Nat :=
  ((rootsOfTwo k (2 * 2 ^ fixP)).zipIdx).foldl
    (fun acc (ri : Nat × Nat) => if bitAt fr (k - 1 - ri.2) then acc * ri.1 / 2 ^ fixP else acc) (2 ^ fixP)

/-- log2 of a fixed-point number in [1, 2): one bit for each squaring. -/
def log2Bits : Nat → Nat → Nat → Nat
  | 0, _, acc => acc
  | n + 1, y, acc =>
    let y2 := y * y / 2 ^ fixP
    if 2 ^ (fixP + 1) ≤ y2 then log2Bits n (y2 / 2) (2 * acc + 1) else log2Bits n y2 (2 * acc)

/-- |value of word - m * 2^e| is at most `tol * 2^te` (all exact). -/
def withinAbs (w : Nat) (neg : Bool) (m : Nat) (e : Int) (tol : Nat) (te : Int) : Bool :=
  match fdec w with
  | .fin s n f =>
    let e0 := min (min e f) te
    decide ((atExp s n f e0 - atExp neg m e e0).natAbs ≤ (atExp false tol te e0).natAbs)
  | _ => false

/-- Candidate within relative error 2^-22 of what the fixed-point number `m * 2^e` stands for: that number is itself off by less than 2^-40 of
its size, which the bound used leaves out. -/
def pickRel (cand : Nat) (neg : Bool) (m : Nat) (e : Int) : Nat :=
  let c := cand % 2 ^ 32
  if withinAbs c neg m e (m - (m / 2 ^ 17 + 1)) (e - 22) then c else fround neg m e

/-- VEXP2: 2^x. Exactly +0 for -inf and below -126; too large gives +inf. -/
def fexp2 (w : Nat) : Nat :=
  match fdec w with
  | .nan => fnan 8 w 0 0
  | .inf s => if s then 0 else finf false
  | .fin s m e =>
    if m = 0 then fOne
    else if e ≥ 8 then (if s then 0 else finf false)
    else
      -- x as an integer number of 2^-k with k large enough to be exact, cut at 64 fraction bits
      let k : Nat := min 64 (-(min e 0)).toNat
      let xi : Int := let r : Int := if (-(k : Int)) ≤ e then m * (2 ^ (e + k).toNat : Nat) else ((m / 2 ^ (-(e + k)).toNat : Nat) : Int)
                      if s then -r else r
      let ip : Int := xi / (2 ^ k : Nat)
      let fr : Nat := (xi - ip * (2 ^ k : Nat)).toNat
      if s && (decide (ip < -126)) then 0
      else if 128 ≤ ip then finf false
      else pickRel (Config.approx 1 w) false (exp2Frac fr k) (ip - fixP)

/-- VLOG2: log2 x. Zero gives -inf, a negative operand NaN (IEEE 754's cases; the spec states none). -/
def flog2 (w : Nat) : Nat :=
  match fdec w with
  | .nan => fnan 9 w 0 0
  | .inf s => if s then fnan 9 w 0 0 else finf false
  | .fin s m e =>
    if m = 0 then Config.approx 2 w % 2 ^ 32
    else if s then Config.approx 2 w % 2 ^ 32
    else
      let ip : Int := e + 23
      let fr := log2Bits 64 (m * 2 ^ (fixP - 23)) 0
      let v : Int := ip * (2 ^ 64 : Nat) + fr
      if v = 0 then 0
      else pickRel (Config.approx 2 w) (decide (v < 0)) v.natAbs (-64)

/-- A candidate within `k` words of a finite FP32 word, else that word. -/
def pickUlp (cand r k : Nat) : Nat :=
  let c := cand % 2 ^ 32
  if bitAt c 31 = bitAt r 31 && decide (c ≤ r + k) && decide (r ≤ c + k) && decide (bits c 30 23 ≠ 255) && decide (bits c 30 23 ≠ 0)
  then c else r

/-- `q * 2^p` is at most one; at least one. -/
def atMostOne (q : Nat) (p : Int) : Bool := if 0 ≤ p then decide (q * 2 ^ p.toNat ≤ 1) else decide (q ≤ 2 ^ (-p).toNat)
def atLeastOne (q : Nat) (p : Int) : Bool := if 0 ≤ p then decide (1 ≤ q * 2 ^ p.toNat) else decide (2 ^ (-p).toNat ≤ q)

/-- A candidate within `k` ulp of an exact number v whose correctly rounded word is `r`, else `r`. `le n e` says that n * 2^e is at most v, `ge`
that it is at least v; the ulp is that of the binade of v. -/
def pickUlps (cand r k : Nat) (le ge : Nat → Int → Bool) : Nat :=
  let c := cand % 2 ^ 32
  match fdec c, fdec r with
  | .fin s n f, .fin t _ f0 =>
    let u := if le (2 ^ 23) f0 then f0 else f0 - 1
    let e := min f u
    let x := n * 2 ^ (f - e).toNat
    let d := k * 2 ^ (u - e).toNat
    if s == t && n != 0 && le (x - d) e && ge (x + d) e then c else r
  | _, _ => r

/-- VRCP: 1/x within 1 ulp; of zero the value is not stated. -/
def frcp (w : Nat) : Nat :=
  match fdec w with
  | .nan => fnan 10 w 0 0
  | .inf s => signBit s
  | .fin _ m e => if m = 0 then Config.approx 3 w % 2 ^ 32 else
    let r := fdiv fOne w
    if bits r 30 23 = 0 then r
    else pickUlps (Config.approx 3 w) r 1 (fun n f => atMostOne (n * m) (f + e)) (fun n f => atLeastOne (n * m) (f + e))

/-- 1/sqrt correctly rounded of a positive number. -/
def frsqExact (m : Nat) (e : Int) : Nat :=
  -- m * 2^e with e made even; then 2^(-e/2) / sqrt m
  let odd := decide (e % 2 ≠ 0)
  let m' := if odd then 2 * m else m
  let e' := if odd then e - 1 else e
  let q := isqrt (2 ^ 160 / m')
  fround false (2 * q + 1) (-(e' / 2) - 81)

/-- VRSQ: 1/sqrt x within 2 ulp; of zero or a negative number the value is not stated. -/
def frsq (w : Nat) : Nat :=
  match fdec w with
  | .nan => fnan 11 w 0 0
  | .inf s => if s then Config.approx 4 w % 2 ^ 32 else 0
  | .fin s m e => if m = 0 || s then Config.approx 4 w % 2 ^ 32
    else pickUlps (Config.approx 4 w) (frsqExact m e) 2 (fun n f => atMostOne (n * n * m) (2 * f + e)) (fun n f => atLeastOne (n * n * m) (2 * f + e))

/-! ### Cosine and sine of a fraction of a turn (R100) -/

/-- 2 pi in fixed point with 80 fraction bits. -/
def twoPiFix : Nat := 7595904947272677161575987

/-- One Taylor series in fixed point: terms x^n/n! with step 2 and alternating signs. -/
def taylorAlt (x2 : Nat) : Nat → Nat → Nat → Int → Bool → Int
  | 0, _, _, acc, _ => acc
  | k + 1, n, term, acc, neg =>
    let acc' := if neg then acc - term else acc + (term : Int)
    taylorAlt x2 k (n + 2) (term * x2 / 2 ^ fixP / ((n + 1) * (n + 2))) acc' (!neg)

/-- Candidate within absolute error 2^-23 of what a fixed-point value stands for, which is itself within 2^-60 of it. -/
def pickAbs (cand : Nat) (v : Int) : Nat :=
  let c := cand % 2 ^ 32
  if withinAbs c (decide (v < 0)) v.natAbs (-(fixP : Int)) (2 ^ 57 - 2 ^ 20) (-(fixP : Int)) then c else froundInt v (-(fixP : Int))

/-- cos(2 pi t), t = f / 2^32. -/
def fcosTurn (f : Nat) : Nat :=
  -- reduce to |t| at most half a turn
  let g := if f < 2 ^ 31 then f else 2 ^ 32 - f
  let x := g * twoPiFix / 2 ^ 32
  pickAbs (Config.approx 5 f) (taylorAlt (x * x / 2 ^ fixP) 30 0 (2 ^ fixP) 0 false)

/-- sin(2 pi t), t = f / 2^32. -/
def fsinTurn (f : Nat) : Nat :=
  let neg := decide (2 ^ 31 ≤ f)
  let g := if neg then 2 ^ 32 - f else f
  let x := g * twoPiFix / 2 ^ 32
  let v := taylorAlt (x * x / 2 ^ fixP) 30 1 x 0 false
  pickAbs (Config.approx 6 f) (if neg then -v else v)

/-! ### Sums whose order is open -/

/-- The sum of a list of FP32 words, two terms at a time, in the order `Config.sumPick` gives. -/
def ftreeSum : Nat → List Nat → Nat
  | _, [] => 0
  | _, [a] => a
  | 0, a :: _ => a
  | fuel + 1, a :: b :: r =>
    let l := a :: b :: r
    let i := Config.sumPick l.length 0 % l.length
    let l1 := l.eraseIdx i
    let j := Config.sumPick l.length 1 % l1.length
    ftreeSum fuel (fadd (l.getD i 0) (l1.getD j 0) :: l1.eraseIdx j)

/-- The sum of FP32 words in an open order. -/
def fsum (l : List Nat) : Nat := ftreeSum l.length l

/-! ### Block exponents -/

/-- `round(|x| * 2^(127 - E))` of a finite value. -/
def scaleRound (m : Nat) (e : Int) (E : Nat) : Nat := (rneScale m (e + 127 - E)).toNat

/-- The smallest exponent from `E` upward (`fuel` tries) at which every listed magnitude fits the limit. -/
def needFrom (lim : Nat) (xs : List (Nat × Int)) : Nat → Nat → Nat
  | 0, E => E
  | fuel + 1, E => if xs.all (fun x => decide (scaleRound x.1 x.2 E ≤ lim)) then E else needFrom lim xs fuel (E + 1)

/-- R69: the needed exponent of a block of FP32 values, if it has one. `lim` is 127 (A8, K8) or 7 (A4). -/
def eNeed (lim : Nat) (ws : List Nat) : Option Nat :=
  let vs := (ws.map fdec).filter (fun v => v != .nan)
  if vs.any (fun v => match v with | .inf _ => true | _ => false) then some 254
  else
    let ms := vs.filterMap (fun v => match v with | .fin _ m e => if m = 0 then none else some (m, e) | _ => none)
    if ms.isEmpty then none else some (needFrom lim ms 253 1)

/-- R70: one element requantised at exponent `E`, and whether it saturates (Table 3-4). -/
def requant (lim E : Nat) (w : Nat) : Int × Bool :=
  match fdec w with
  | .nan => (0, false)
  | .inf s => (if s then -(lim : Int) else lim, true)
  | .fin s m e =>
    let r : Int := scaleRound m e E
    let x := if s then -r else r
    (satSym lim x, outsideSym lim x)

/-- CRC-32C (Castagnoli), reflected, initial and final value all ones, over bytes. -/
def crc32cByte (crc : Nat) : Nat → Nat
  | 0 => crc
  | k + 1 => crc32cByte (if crc % 2 = 1 then Nat.xor (crc / 2) 0x82F63B78 else crc / 2) k

def crc32c (bs : List Byte) : Nat :=
  Nat.xor (bs.foldl (fun c b => crc32cByte (Nat.xor c b.toNat) 8) 0xFFFFFFFF) 0xFFFFFFFF

/-! ### Philox-4x32-10 (R112) -/

def philoxRound (c : Nat × Nat × Nat × Nat) (k : Nat × Nat) : Nat × Nat × Nat × Nat :=
  let p0 := 0xD2511F53 * c.1
  let p1 := 0xCD9E8D57 * c.2.2.1
  (Nat.xor (Nat.xor (p1 / 2 ^ 32) c.2.1) k.1, p1 % 2 ^ 32, Nat.xor (Nat.xor (p0 / 2 ^ 32) c.2.2.2) k.2, p0 % 2 ^ 32)

def philoxGo : Nat → Nat × Nat × Nat × Nat → Nat × Nat → Nat × Nat × Nat × Nat
  | 0, c, _ => c
  | n + 1, c, k => philoxGo n (philoxRound c k) ((k.1 + 0x9E3779B9) % 2 ^ 32, (k.2 + 0xBB67AE85) % 2 ^ 32)

/-- U(i, d) of R112 for n = LC + 1 + i, as FP32: the top 24 bits of the first output word over 2^24. -/
def drawU (seed n d : Nat) : Nat :=
  let x := philoxGo 10 (n % 2 ^ 32, d, n / 2 ^ 32, 0) (seed % 2 ^ 32, seed / 2 ^ 32 % 2 ^ 32)
  fround false (x.1 / 256) (-24)

end Sys2Proof.Machine
end

