-- ==== Sys2Proof/Machine/Tail.lean ====
section
/-! DEFINITION. The tail unit from the wide accumulators to output beats: output scale and bias, activation tables, pooling,
requantisation with its detectors, and the packing of P24 (02 R55 to R57, 03 R66 to R73). -/

namespace Sys2Proof.Machine

/-- The array position that serves a logical array (R16, R54). -/
def State.arrPos (s : State) (t n : Nat) : Nat := if s.flag ARR_SPARE_MAP_SPARE_ARRAY t n then 8 else n
/-- Logical arrays of an AMASK, ascending. -/
def maskArrays (m : Nat) : List Nat := (upTo 8).filter (fun n => bitAt m n)

/-! ### Bank configuration by plane -/

def bstateF (pl : Nat) : Fld := if pl = 0 then ARR_BANK_CFG0_BSTATE else ARR_BANK_CFG1_BSTATE
def streamF (pl : Nat) : Fld := if pl = 0 then ARR_BANK_CFG0_STREAM else ARR_BANK_CFG1_STREAM
def cmodeF (pl : Nat) : Fld := if pl = 0 then ARR_BANK_CFG0_CMODE else ARR_BANK_CFG1_CMODE
def wfmtF (pl : Nat) : Fld := if pl = 0 then ARR_BANK_CFG0_WFMT else ARR_BANK_CFG1_WFMT
def degradedF (pl : Nat) : Fld := if pl = 0 then ARR_BANK_CFG0_DEGRADED else ARR_BANK_CFG1_DEGRADED
def spareRowsF (pl : Nat) : Fld := if pl = 0 then ARR_SPARE_MAP_P0_ROWS else ARR_SPARE_MAP_P1_ROWS
def spareGroupsF (pl : Nat) : Fld := if pl = 0 then ARR_SPARE_MAP_P0_GROUPS else ARR_SPARE_MAP_P1_GROUPS

/-- Bank states (Table 2-4). -/
def bsEmpty : Nat := 0
def bsLoading : Nat := 1
def bsReady : Nat := 2
def bsCompute : Nat := 3
def bsFailed : Nat := 4

/-- Weight columns of a format (Table 2-2). -/
def wfmtCols (f : Nat) : Nat := if f = 2 || f = 3 then 256 else 128
/-- Conversions per row group and slice, B of Table 2-2. -/
def wfmtConv (f : Nat) : Nat := if f = 1 then 3 else 4

/-! ### Timing (Tables 2-14, 2-17; R180) -/

/-- One cycle more where the loader set the pad bit of the tile's partition. -/
def State.padOf (s : State) (t : Nat) (f : Fld) : Nat := match s.owner t with
  | some p => s.g f p
  | none => 0
def State.setupLat (s : State) (t : Nat) : Nat := (if Config.nativeB0 then 3 else 4) + s.padOf t LD_PPROF_PAD_SETUP
def State.t7Lat (s : State) (t : Nat) : Nat := (if Config.nativeB0 then 4 else 5) + s.padOf t LD_PPROF_PAD_T7

/-- Tail stages 1 to 10 with their latencies, for an operation and tail configuration. -/
def State.stageLat (s : State) (t n tcfg : Nat) (st : Nat) : Nat :=
  match st with
  | 1 => 2
  | 2 => 3
  | 3 => 2
  | 4 => 2
  | 5 => 3
  | 6 => if s.flag (ARR_TCFG_CSCALE_EN tcfg) t n || s.flag (ARR_TCFG_BIAS_EN tcfg) t n then 2 else 0
  | 7 => if s.flag (ARR_TCFG_ACT_EN tcfg) t n then s.t7Lat t else 0
  | 8 => if s.flag (ARR_TCFG_POOL_OP tcfg) t n then 2 else 0
  | 9 => 3
  | _ => 1

/-- Entry cycles of the stages of an operation whose beats enter the first stage from cycle `c`, `n` beats in sequence. -/
def State.stageSpans (s : State) (t n tcfg : Nat) : List Nat → Nat → Nat → List (Nat × Nat × Nat)
  | [], _, _ => []
  | st :: r, c, nb =>
    let l := s.stageLat t n tcfg st
    if l = 0 then State.stageSpans s t n tcfg r c nb
    else (st, c, c + nb) :: State.stageSpans s t n tcfg r (c + l) nb

/-- A stage of the array's tail unit is in use in a cycle in which one of these beats would enter it (Table 2-15). -/
def TileSt.stageBusy (x : TileSt) (n : Nat) (spans : List (Nat × Nat × Nat)) : Bool :=
  spans.any (fun e => (x.stageWin.get (n * 16 + e.1) []).any (fun w => e.2.1 < w.2 && w.1 < e.2.2))
def TileSt.stageTake (x : TileSt) (n : Nat) (spans : List (Nat × Nat × Nat)) : TileSt :=
  { x with stageWin := spans.foldl (fun m e => m.put (n * 16 + e.1) (e.2 :: m.get (n * 16 + e.1) [])) x.stageWin }

/-! ### Exponents and tables -/

/-- AEXP of column block `b` of a bank; the alternate set while the wide variant runs (R79, Table 15-6). -/
def State.aexp (s : State) (t n pl b : Nat) : Nat :=
  let alt := match s.owner t with
    | some p => (s.part p).prog == 2
    | none => false
  (Memory.read s.mem (scaleBase t (s.arrPos t n) + pl * 0x8000 + (if alt then 0x1002 else 0x1000) + b)).toNat

/-- FP32 word of a tail table. -/
def State.tailWord (s : State) (t n off : Nat) : Nat := Memory.readLE s.mem (tailBase t (s.arrPos t n) + off) 4

/-- R68, T6: a wide value as FP32, with the per-column scale, then the bias. -/
def State.t6 (s : State) (t n pl tcfg col : Nat) (v : Int) : Nat :=
  let x := fofScaled v ((s.aexp t n pl (col / 128) : Int) - 127)
  let scale := s.tailWord t n (0x2000 + 0x400 * pl + 4 * col)
  let bias := s.tailWord t n (0x1000 + 0x400 * pl + 4 * col)
  match s.flag (ARR_TCFG_CSCALE_EN tcfg) t n, s.flag (ARR_TCFG_BIAS_EN tcfg) t n with
  | true, true => if Config.fused 0 then ffma x scale bias else fadd (fmul x scale) bias
  | true, false => fmul x scale
  | false, true => fadd x bias
  | false, false => x

/-- The segment of an activation table that an input takes: 64 equal segments of [LO, HI), the first and last extended. -/
def segIndex (lo hi x : Nat) : Nat :=
  match fdec lo, fdec hi, fdec x with
  | .fin sl ml el, .fin sh mh eh, .fin sx mx ex =>
    let e0 := min el (min eh ex)
    let l := atExp sl ml el e0
    let h := atExp sh mh eh e0
    let v := atExp sx mx ex e0
    if v < l then 0 else if h ≤ v then 63 else ((v - l) * 64 / (h - l)).toNat
  | _, _, .inf true => 0
  | _, _, _ => 63

/-- T7: slope times x plus intercept, in FP32. -/
def State.act (s : State) (t n tbl x : Nat) : Nat :=
  let b := 0x400 * tbl
  let i := segIndex (s.tailWord t n b) (s.tailWord t n (b + 4)) x
  let w := s.tailWord t n (b + 0x10 + 4 * i)
  if Config.fused 1 then ffma (bfToF (w % 65536)) x (bfToF (w / 65536)) else fadd (fmul (bfToF (w % 65536)) x) (bfToF (w / 65536))

/-- Consecutive pairs. -/
def pairs {α : Type} : List α → List (α × α)
  | a :: b :: r => (a, b) :: pairs r
  | _ => []

/-- T7 over the columns of one array, gated or not. -/
def State.t7 (s : State) (t n tcfg : Nat) (xs : List Nat) : List Nat :=
  if s.flag (ARR_TCFG_ACT_EN tcfg) t n then
    let tbl := s.reg (ARR_TCFG_ACT_TBL tcfg) t n
    if s.flag (ARR_TCFG_GATED tcfg) t n then (pairs xs).map (fun p => fmul (s.act t n tbl p.1) p.2)
    else xs.map (s.act t n tbl)
  else xs

/-- A list cut into runs of `k`; `fuel` bounds the number of runs. -/
def chunksOf {α : Type} (k : Nat) : Nat → List α → List (List α)
  | 0, _ => []
  | fuel + 1, l => if l.isEmpty then [] else l.take k :: chunksOf k fuel (l.drop k)

/-- T8: the maximum or the mean of aligned groups of 2, 4, 8 or 16 outputs. -/
def State.t8 (s : State) (t n tcfg : Nat) (xs : List Nat) : List Nat :=
  let op := s.reg (ARR_TCFG_POOL_OP tcfg) t n
  let k := s.reg (ARR_TCFG_POOL_SIZE tcfg) t n + 1
  let gs := chunksOf (2 ^ k) xs.length xs
  if op = 1 then gs.map (fun g => g.tail.foldl fmax (g.headD 0))
  else if op = 2 then gs.map (fun g => fmul (fsum g) ((127 - k) * 2 ^ 23))
  else xs

/-- Stages T6 to T8 over the wide values of one array. -/
def State.tailVals (s : State) (t n pl tcfg : Nat) (vs : List Int) : List Nat :=
  s.t8 t n tcfg (s.t7 t n tcfg (vs.zipIdx.map (fun e => s.t6 t n pl tcfg e.2 e.1)))

/-! ### Predictors (R71) -/

/-- min(254, max(1, ceil(PEAK / 16) + HEADROOM)). -/
def predExp (peak head : Nat) : Nat := min 254 (max 1 (ceilDiv peak 16 + head))
def State.ePred (s : State) (t r : Nat) : Nat := predExp (s.reg TILE_PRED_PEAK t r) (s.reg TILE_PRED_HEADROOM t r)

/-! ### Requantisation of one block (R69, R70, R73) -/

/-- What T9, VQNT or a root CMRG makes of one output block. -/
structure QBlock where
  e8 : Nat
  qs : List Int
  sat : Bool
  undf : Bool
  need : Option Nat

/-- E of the block: 0 for a true zero, the recomputed exponent, or the predicted one. -/
def quantBlock (lim : Nat) (recomputed : Option Nat) (pred satThresh : Nat) (undfEn : Bool) (xs : List Nat) : QBlock :=
  let allZero := xs.all fIsZero
  let E := recomputed.getD pred
  let rs := xs.map (requant lim E)
  let need := eNeed lim xs
  if allZero then { e8 := 0, qs := xs.map (fun _ => 0), sat := false, undf := false, need := none }
  else
    { e8 := E, qs := rs.map (·.1)
      sat := decide (satThresh < (rs.filter (·.2)).length) || xs.any isNaN
      undf := undfEn && rs.all (fun r => decide (r.1 = 0)) && xs.any (fun x => !fIsZero x && !isNaN x) &&
        (match need with
          | some n => decide (n < E)
          | none => false)
      need := need }

/-- The recomputed exponent that covers block number `b` of the attempt, if one does (R77, R78). -/
def TileSt.recomputed (x : TileSt) (b : Nat) : Option Nat := if x.replayUse then x.replayExp.get? b else none

/-- The needed exponent of a block counted for its predictor register. -/
def TileSt.noteNeed (x : TileSt) (pred : Nat) (need : Option Nat) : TileSt :=
  match need with
  | some n => { x with needMax := x.needMax.put pred (max n (x.needMax.get pred 0)) }
  | none => x

/-- One block requantised in tile `t`; block numbers count the blocks of the attempt in the order they are formed. -/
def State.quant (s : State) (t lim pred : Nat) (xs : List Nat) : State × QBlock :=
  let x := s.tile t
  let q := quantBlock lim (x.recomputed x.blocks) (s.ePred t pred) (s.reg TILE_NUM_CTRL_SAT_THRESH t 0)
    (s.flag TILE_NUM_CTRL_UNDF_EN t 0) xs
  (s.updTile t (fun x => { (x.noteNeed pred q.need) with blocks := x.blocks + 1 }), q)

/-- The blocks of a run of outputs, up to 256 each, in order. -/
def State.quantAll (s : State) (t lim pred : Nat) : List (List Nat) → State × List QBlock
  | [] => (s, [])
  | b :: r =>
    let a := s.quant t lim pred b
    let c := State.quantAll a.1 t lim pred r
    (c.1, a.2 :: c.2)

/-! ### Beats -/

/-- A8 elements, 64 to a beat; A4 elements, 128 to a beat, low nibble first (Table 3-3). -/
def packA8 (qs : List Int) : List Byte := qs.map (fun q => BitVec.ofInt 8 q)
def packA4 (qs : List Int) : List Byte := (chunksOf 2 qs.length qs).map (fun g =>
  BitVec.ofNat 8 (trunc 4 (g.headD 0) + 16 * trunc 4 ((g.drop 1).headD 0)))
/-- Bytes as beats of 64. -/
def beatsOf (bs : List Byte) (poison trouble : Bool) : List Beat :=
  (upTo ((bs.length + 63) / 64)).map (fun k => beatOf bs (64 * k) poison trouble)
/-- P24 values as bytes and back, 3 bytes each. -/
def packP24 (vs : List Int) : List Byte := vs.flatMap (fun v => bytesOf 3 (trunc 24 v))
def p24Of (bs : List Byte) : List Int := (chunksOf 3 bs.length bs).filterMap (fun g => if g.length = 3 then some (sext 24 (numOf g)) else none)

/-- The beats of a tail unit whose `o` outputs begin at output `off` of the blocks `bl`: the exponent beat with the E8 of the blocks
it contributes to, then its data beats. -/
def outBeats (off o : Nat) (a4 : Bool) (bl : List QBlock) (poison trouble : Bool) : List Beat :=
  let first := off / 256
  let last := (off + o - 1) / 256
  let es := (upTo (last + 1 - first)).map (fun i => BitVec.ofNat 8 (((bl[first + i]?).map (·.e8)).getD 0))
  let qs := ((bl.flatMap (·.qs)).drop off).take o
  beatOf es 0 poison trouble :: beatsOf (if a4 then packA4 qs else packA8 qs) poison trouble

/-- Beats into the output buffer of array `n`: beat `b` takes slot b mod 8 (R58). -/
def TileSt.fillOut (x : TileSt) (n : Nat) (bs : List Beat) : TileSt :=
  { x with outBuf := bs.zipIdx.foldl (fun m e => m.put (n * 8 + e.2 % 8) e.1) x.outBuf }

/-! ### Troubles (R73, Table 3-4) -/

/-- TILE_NUM_STATUS bits of arrays set, their totals raised, and the kind of trouble in the report. -/
def State.numTrouble (s : State) (t cycle entry code : Nat) : State :=
  s.tileRecord t { code := code, unit := 0, cycle := cycle, seqoff := entry }
def State.reportRec (s : State) (t : Nat) : State := s.updTile t (fun x => { x with report := { x.report with recK := true } })
def State.reportSplit (s : State) (t : Nat) : State := s.updTile t (fun x => { x with report := { x.report with splitK := true } })
def State.reportWide (s : State) (t : Nat) : State := s.updTile t (fun x => { x with report := { x.report with wideK := true } })
/-- FAULT in the tile's report without a record (a poisoned beat reached a unit). -/
def State.reportFault (s : State) (t : Nat) : State := s.updTile t (fun x => { x with report := { x.report with fault := true } })

def maskOf (l : List Nat) : Nat := l.foldl (fun m n => Nat.lor m (2 ^ n)) 0

/-- Wide saturation of an operation in the tail units of arrays `l`. -/
def State.wideSat (s : State) (t cycle entry : Nat) (l : List Nat) : State :=
  if l.isEmpty then s
  else (((s.orReg TILE_NUM_STATUS_WSAT t 0 (maskOf l)).addReg TILE_WSAT_TOTAL_TOTAL t 0 1).numTrouble t cycle entry 0x2005).reportWide t

/-- What a tail unit of an operation has for T9: its share of the operation, its predictor register, its output format, its outputs and
their place among those of its run. -/
structure TailOut where
  of_ : TailArr
  pred : Nat
  a4 : Bool
  off : Nat
  xs : List Nat

/-- The predictor register and the output format: outputs that share both form the blocks of one run (R68). -/
def TailOut.key (e : TailOut) : Nat × Bool := (e.pred, e.a4)
/-- The place of each tail unit's outputs among those of its run, array by array. -/
def placeOuts (l : List TailOut) : List TailOut :=
  l.zipIdx.map (fun e => { e.1 with off := ((((l.take e.2).filter (fun o => o.key == e.1.key)).map (fun o => o.xs.length)).foldl (· + ·) 0) })
/-- Stages T6 to T8 of the tail units of an operation: outputs in ascending order of array, then column. -/
def State.tailOuts (s : State) (t tcfg : Nat) (arrs : List TailArr) (vals : List (List Int)) : List TailOut :=
  placeOuts ((arrs.zip vals).map (fun e =>
    ⟨e.1, s.reg (ARR_TCFG_PRED tcfg) t e.1.arr, s.flag (ARR_TCFG_OFMT tcfg) t e.1.arr, 0, s.tailVals t e.1.arr e.1.plane tcfg e.2⟩))
/-- The runs of an operation: the outputs that share a predictor register (and a format), in order. -/
def tailRuns (l : List TailOut) : List ((Nat × Bool) × List Nat) :=
  ((l.map TailOut.key).eraseDups).map (fun k => (k, (l.filter (fun o => o.key == k)).flatMap (·.xs)))
/-- A run cut into blocks of up to 256 (R68). -/
def runBlocks (xs : List Nat) : List (List Nat) := chunksOf 256 xs.length xs
def limOf (a4 : Bool) : Nat := if a4 then 7 else 127

/-- The runs requantised one after another. -/
def State.quantRuns (s : State) (t : Nat) (l : List ((Nat × Bool) × List Nat)) : State × List ((Nat × Bool) × List QBlock) :=
  l.foldl (fun a e =>
    let q := a.1.quantAll t (limOf e.1.2) e.1.1 (runBlocks e.2)
    (q.1, a.2 ++ [(e.1, q.2)])) (s, [])

/-- The blocks of the run of a tail unit. -/
def blocksOf (bl : List ((Nat × Bool) × List QBlock)) (o : TailOut) : List QBlock := ((bl.find? (fun e => e.1 == o.key)).map (·.2)).getD []
/-- Arrays that contribute to a block for which `f` holds. -/
def blockArrays (outs : List TailOut) (bl : List ((Nat × Bool) × List QBlock)) (f : QBlock → Bool) : List Nat :=
  (outs.filter (fun o => (blocksOf bl o).zipIdx.any (fun b =>
    f b.1 && decide (b.2 * 256 < o.off + o.xs.length) && decide (o.off < (b.2 + 1) * 256)))).map (·.of_.arr)

/-- Saturation and underflow of the blocks of an operation. -/
def State.blockTrouble (s : State) (t cycle entry : Nat) (outs : List TailOut) (bl : List ((Nat × Bool) × List QBlock)) : State :=
  let all := bl.flatMap (·.2)
  let sats := (all.filter (·.sat)).length
  let unds := (all.filter (·.undf)).length
  let s := if sats = 0 then s else
    (((s.orReg TILE_NUM_STATUS_SAT t 0 (maskOf (blockArrays outs bl (·.sat)))).addReg TILE_SAT_TOTAL_TOTAL t 0 sats).numTrouble
      t cycle entry 0x2001).reportRec t
  if unds = 0 then s else
    (((s.orReg TILE_NUM_STATUS_UNDF t 0 (maskOf (blockArrays outs bl (·.undf)))).addReg TILE_UNDF_TOTAL_TOTAL t 0 unds).numTrouble
      t cycle entry 0x2002).reportRec t

/-- Wide values as 32-bit bytes for retention (R57). -/
def packAcc (vs : List Int) : List Byte := vs.flatMap (fun v => bytesOf 4 (trunc 32 v))
/-- Beats of 16 wide values each, marked poisoned, and flagged, where a tail unit whose values they carry is. -/
def retBeats (vals : List (List Int)) (poison trouble : List Bool) : List Beat :=
  let each (l : List Bool) : List Bool := (vals.zip l).flatMap (fun e => e.1.map (fun _ => e.2))
  let p := each poison
  let r := each trouble
  (beatsOf (packAcc vals.flatten) false false).zipIdx.map (fun b =>
    { b.1 with poison := ((p.drop (16 * b.2)).take 16).any id, trouble := ((r.drop (16 * b.2)).take 16).any id })

/-- R57: the promoted values of all the arrays retained, 128 to a row, with the poison and trouble of the arrays they come from. -/
def State.retain (s : State) (t cycle row : Nat) (vals : List (List Int)) (poison trouble : List Bool) : State :=
  s.schedWrites t cycle row (retBeats vals poison trouble) (ceilDiv vals.flatten.length 128)

/-- The tail path from wide values to the output buffers: stages T6 to T10 of the tail units `arrs`, whose values `vals`
are given array by array. -/
def State.tailPath (s : State) (t cycle entry tcfg retRow : Nat) (arrs : List TailArr) (vals : List (List Int))
    (poison trouble : List Bool) : State :=
  let outs := s.tailOuts t tcfg arrs vals
  let first := (s.tile t).blocks
  let q := s.quantRuns t (tailRuns outs)
  let bl := q.2
  let s := q.1
  let bad := bl.any (fun e => e.2.any (fun b => b.sat || b.undf))
  let s := s.updTile t (fun x => outs.zipIdx.foldl (fun x e =>
    x.fillOut e.1.of_.arr (outBeats e.1.off e.1.xs.length e.1.a4 (blocksOf bl e.1) ((poison[e.2]?).getD false)
      (((trouble[e.2]?).getD false) || bad))) x)
  let s := s.blockTrouble t cycle entry outs bl
  if bad then
    s.updTile t (fun x => { x with recOps := x.recOps ++
      [⟨first, 0, retRow, (arrs.map (·.vals)).foldl (· + ·) 0, arrs, tcfg, 127⟩] })
  else s

/-- Outputs of a tail unit that takes `cols` wide values (T7, T8), and the beats of them in its output buffer: an exponent beat and data. -/
def State.tailCount (s : State) (t n tcfg cols : Nat) : Nat :=
  let c := if s.flag (ARR_TCFG_ACT_EN tcfg) t n && s.flag (ARR_TCFG_GATED tcfg) t n then cols / 2 else cols
  let op := s.reg (ARR_TCFG_POOL_OP tcfg) t n
  if op = 1 || op = 2 then ceilDiv c (2 ^ (s.reg (ARR_TCFG_POOL_SIZE tcfg) t n + 1)) else c
def State.tailBeats (s : State) (t n tcfg cols : Nat) : Nat :=
  1 + ceilDiv (s.tailCount t n tcfg cols) (if s.flag (ARR_TCFG_OFMT tcfg) t n then 128 else 64)

end Sys2Proof.Machine
end

