-- ==== Sys2Proof/Machine/Issue.lean ====
section
/-! DEFINITION. What every tile command shares: whether the tile can issue it, the parity of its schedule entry (R151), and
the taking of beats that the router brings (R146, Table 6-6). -/

namespace Sys2Proof.Machine

/-! ### Schedule entries (Table 6-7) -/

structure SchedE where
  off : Nat
  unit : Nat
  mode : Nat
  wait : Nat
  cmd : Nat

def schedE (x : Nat) : SchedE :=
  { off := bits x 127 112, unit := bits x 111 109, mode := bits x 108 107, wait := bits x 106 95, cmd := bits x 63 0 }
def State.sched (s : State) (t e : Nat) : SchedE := schedE (Memory.readLE s.mem (schedAddr t e) 16)
/-- The cycle from which the results of a command count: its issue, or at a window-mode sluice slot the end of the wait (R133). -/
def State.useCycle (s : State) (i : Issue) : Nat :=
  let e := s.sched i.tile.val i.entry.val
  if e.mode = 1 then e.off + e.wait else i.cycle.val

/-! ### The scheduled port (R116) -/

/-- A run of rows. -/
def rowRun (r n : Nat) : List Nat := (upTo n).map (· + r)
/-- A scheduled access of a command, the `k`-th in the order of `rows`, falls on the cycle that `Config.portCycle` gives; one of them meets an
access of a command issued before. -/
def State.portClash (s : State) (t c unit w : Nat) (rows : List Nat) : Bool :=
  rows.zipIdx.any (fun e => (s.tile t).portUse.has (c + Config.portCycle unit w (s.padOf t LD_PPROF_PAD_SETUP) e.2))
/-- The accesses of a command that is carried out, taken. -/
def State.portClaim (s : State) (t c unit w : Nat) (rows : List Nat) : State :=
  s.updTile t (fun x => { x with
    portUse := rows.zipIdx.foldl (fun m e => m.put (c + Config.portCycle unit w (s.padOf t LD_PPROF_PAD_SETUP) e.2) (e.1 / 128)) x.portUse })
/-- The record of the later of two commands whose accesses meet, which is refused (R116). -/
def State.portRecord (s : State) (i : Issue) (row : Nat) : State :=
  s.tileFault i.tile.val { code := 0x1030, unit := 5, cycle := i.cycle.val, seqoff := i.entry.val, detail := row % 1024 * 64 }

/-- R151, R392: the entry's parity fails; the entry is noted for the loader (R148). -/
def State.parityFault (s : State) (t cycle entry : Nat) : State :=
  ((s.setReg SEQ_STATUS_PARITY t 0 1).addReg SEQ_PARITY_COUNT_COUNT t 0 1).tileFault t
    { code := 0x3020, unit := 6, cycle := cycle, seqoff := entry }

/-- Whether the entry fails its parity check, with an injection of KIND 1 on the SEQ page consumed. -/
def State.parityOf (s : State) (t entry : Nat) : State × Bool :=
  if s.reg (HDR_ERR_INJECT .seq) t 0 = 1 then
    (((s.setReg (HDR_ERR_INJECT .seq) t 0 0).setReg (HDR_INJECTED .seq) t 0 1).updTile t
      (fun x => { x with seqBad := x.seqBad.add entry }), true)
  else (s, (s.tile t).seqBad.mem entry)

/-- Program in force of a tile: its partition's, while an attempt is in progress. -/
def State.progOf (s : State) (t : Nat) : Option Nat := match s.owner t with
  | some p => if (s.part p).phase == .attempt && (s.part p).prog < 3 then some (s.part p).prog else none
  | none => none
/-- The route entries, and the schedule entries, of the program in force. -/
def State.routesInForce (s : State) (t : Nat) : List Nat := match s.progOf t with
  | some g => rowRun (s.reg RTR_TBL_FIRST t g) (s.reg RTR_TBL_COUNT t g)
  | none => []
def State.schedInForce (s : State) (t : Nat) : List Nat := match s.progOf t with
  | some g => rowRun (s.reg SEQ_PROG_FIRST t g) (s.reg SEQ_PROG_COUNT t g)
  | none => []

/-- R149, R133: the entry issues in the cycle: an ordinary entry and a boundary-mode slot in the cycle that equals OFFSET, a window-mode slot
that SLUICE_SLOT_ISSUE has found ready within its wait. -/
def State.entryDue (s : State) (t entry cycle : Nat) (x : SchedE) : Bool :=
  if x.mode = 1 then (s.tile t).slotDone.mem entry && decide (x.off ≤ cycle) && decide (cycle ≤ x.off + x.wait) else x.off == cycle
/-- R149: the command is the one that the schedule issues to the unit: the entry of the program in force holds its word, its cycle is
not behind the offset counter, and the entry has not issued in the attempt. -/
def State.scheduled (s : State) (i : Issue) (unit : Nat) : Bool :=
  let t := i.tile.val
  let x := s.sched t i.entry.val
  (s.schedInForce t).contains i.entry.val && x.unit == unit && x.cmd == i.word.toNat && s.entryDue t i.entry.val i.cycle.val x &&
    decide (s.reg SEQ_STATUS_OFFSET t 0 ≤ i.cycle.val) && !(s.tile t).issued.mem i.entry.val

/-- A command word issued to a unit: nothing where the sequencer does not issue it, or while the tile cannot work; `refuse` with code 0
and the record of R151 where its entry fails parity; else `run`. -/
def State.issue (s : State) (i : Issue) (unit : Nat) (refuse : State → State) (run : State → State) : Host.Outcome State Fault Refusal :=
  let t := i.tile.val
  if s.tileLive t && s.scheduled i unit then
    let p := ((s.setReg SEQ_STATUS_OFFSET t 0 i.cycle.val).updTile t (fun x => { x with issued := x.issued.add i.entry.val })).parityOf t i.entry.val
    if p.2 then .next (refuse (p.1.parityFault t i.cycle.val i.entry.val)) else .next (run p.1)
  else .next s

/-- The beat that arrived on a port in a cycle, taken. An absent beat gives a poisoned zero beat, with MISSING and the
record of Table 6-6. -/
def State.takeBeat (s : State) (t port cycle : Nat) : State × Beat :=
  let k := port * 65536 + cycle
  match (s.tile t).arrived.get? k with
  | some b => (s, b)
  | none => ((s.setReg RTR_STATUS_MISSING t 0 1).tileFault t { code := 0x1041, unit := 4, cycle := cycle }, Beat.zero true)

/-- `n` beats of a port in consecutive cycles. -/
def State.takeBeats (s : State) (t port : Nat) : Nat → Nat → State × List Beat
  | _, 0 => (s, [])
  | cycle, n + 1 =>
    let a := s.takeBeat t port cycle
    let b := State.takeBeats a.1 t port (cycle + 1) n
    (b.1, a.2 :: b.2)

/-- Poisoned beats that reach a unit make the step a faulted step. -/
def State.poisonSeen (s : State) (t : Nat) (bs : List Beat) : State := if bs.any (·.poison) then s.reportFault t else s

/-- The first code of a list of checks whose condition holds. -/
def firstCode : List (Bool × Nat) → Option Nat
  | [] => none
  | (b, c) :: r => if b then some c else firstCode r

end Sys2Proof.Machine
end

