-- ==== Sys2Proof/Machine/Arrays.lean ====
section
/-! DEFINITION. The array commands LDIN, RED, WRB and RDB and their ends (02_compute_in_memory_arrays.md R33 to R58). -/

namespace Sys2Proof.Machine

/-! ### Command fields -/

def opcOf (w : Nat) : Nat := bits w 63 59
def amaskOf (w : Nat) : Nat := bits w 58 51

/-- R40: each array that refuses sets REFUSED and writes its record; DETAIL is the array, the plane and the row. -/
def State.refuseArray (s : State) (t cycle entry code n pl row : Nat) : State :=
  (s.setReg ARR_TROUBLE_REFUSED t n 1).tileFault t
    { code := code, unit := 0, cycle := cycle, seqoff := entry, detail := n * 4096 + pl * 2048 + row % 1024 }

/-- Output-buffer slots of the selected arrays filled with poisoned zero beats, `nb n` in array `n` (R40). -/
def State.poisonOut (s : State) (t : Nat) (arrs : List Nat) (nb : Nat → Nat) : State :=
  s.updTile t (fun x => arrs.foldl (fun x n => x.fillOut n (List.replicate (nb n) (Beat.zero true))) x)

/-- The codes by which arrays refuse a command, array by array. -/
abbrev Refusals := List (Nat × Nat)

/-- A command that any selected array refuses is refused whole, for the arrays run in lockstep (R39): the records of
those that refuse, REFUSED, and poisoned output slots. -/
def State.refuseAll (s : State) (t cycle entry pl row : Nat) (nb : Nat → Nat) (arrs : List Nat) (rs : Refusals) : State :=
  let s := rs.foldl (fun s r => s.refuseArray t cycle entry r.2 r.1 pl row) s
  s.poisonOut t arrs nb

/-- R40: a reserved opcode, an AMASK of zero or a reserved field: every selected array refuses, with its record. A command that selects no array
has one record, which names none. -/
def State.refuseForm (s : State) (i : Issue) (pl row : Nat) (nb : Nat → Nat) : State :=
  let arrs := maskArrays (amaskOf i.word.toNat)
  if arrs.isEmpty then s.tileFault i.tile.val { code := 0x1010, unit := 0, cycle := i.cycle.val, seqoff := i.entry.val }
  else s.refuseAll i.tile.val i.cycle.val i.entry.val pl row nb arrs (arrs.map (fun n => (n, 0x1010)))

/-- The effect of a word whose opcode is not the command's: a reserved opcode is refused (R40); a word of another command has none here. -/
def State.otherWord (s : State) (i : Issue) : State :=
  let o := opcOf i.word.toNat
  if o = 0 || 6 < o then s.refuseForm i 0 0 (fun _ => 0) else s

/-- The effect of a parity fault on an array command: the output slots poisoned and REFUSED set (R151, R40). -/
def State.refuseQuiet (s : State) (i : Issue) (nb : Nat → Nat) : State :=
  let arrs := maskArrays (amaskOf i.word.toNat)
  (arrs.foldl (fun s n => s.setReg ARR_TROUBLE_REFUSED i.tile.val n 1) s).poisonOut i.tile.val arrs nb

/-- Arrays with the first code by which each refuses. -/
def refusals (arrs : List Nat) (code : Nat → Option Nat) : Refusals :=
  arrs.filterMap (fun n => (code n).map (fun c => (n, c)))

def Win.active (w : Option Win) (c : Nat) : Bool := match w with
  | some x => decide (x.from_ ≤ c) && decide (c < x.until_)
  | none => false
def Win.activeOn (w : Option Win) (c pl : Nat) : Bool := match w with
  | some x => decide (x.from_ ≤ c) && decide (c < x.until_) && x.plane == pl
  | none => false

/-- An MVM of the array from issue to its last conversion is in progress in cycle `c`, and passes a test. -/
def State.mvmIn (s : State) (t n c : Nat) (p : Win → Bool) : Bool :=
  ((s.tile t).convWin.get n []).any (fun m => decide (m.from_ ≤ c) && decide (c < m.until_ + s.setupLat t) && p m)

/-- The later of two commands whose accesses meet is refused (R116), an array command as in R40. -/
def State.refusePort (s : State) (i : Issue) (row : Nat) (nb : Nat → Nat) : State := (s.refuseQuiet i nb).portRecord i row

/-! ### LDIN (R33, Table 2-8) -/

/-- The elements of one data beat: A8, 64 of them; A4, 128. -/
def beatElems (a4 : Bool) (b : Beat) : List Int :=
  if a4 then (upTo 128).map (fun j => sext 4 (beatByte b (j / 2) / (if j % 2 = 0 then 1 else 16)))
  else (upTo 64).map (fun j => sext 8 (beatByte b j))

/-- One data beat into position `pos` of a register (`reg` = array * 2 + INSEL). -/
def TileSt.loadData (x : TileSt) (reg pos : Nat) (a4 : Bool) (b : Beat) : TileSt :=
  let n := if a4 then 128 else 64
  let grp := (upTo (n / 64)).map (fun g => pos * (n / 64) + g)
  let es := (beatElems a4 b).zipIdx.filter (fun e => pos * n + e.2 < 1024)
  { x with
    inElem := es.foldl (fun m e => m.put (reg * 1024 + pos * n + e.2) e.1) x.inElem
    inPoison := grp.foldl (fun m g => if g < 16 then m.upd (reg * 20 + g) b.poison else m) x.inPoison
    inTrouble := grp.foldl (fun m g => if g < 16 then m.upd (reg * 20 + g) b.trouble else m) x.inTrouble }

/-- An exponent beat: bytes 0 to 3 are the E8 of blocks 0 to 3. -/
def TileSt.loadExp (x : TileSt) (reg : Nat) (b : Beat) : TileSt :=
  let bl := upTo 4
  { x with
    inExp := bl.foldl (fun m k => m.put (reg * 4 + k) (beatByte b k)) x.inExp
    inPoison := bl.foldl (fun m k => m.upd (reg * 20 + 16 + k) b.poison) x.inPoison
    inTrouble := bl.foldl (fun m k => m.upd (reg * 20 + 16 + k) b.trouble) x.inTrouble }

/-- Every selected array's register loaded with the beats. -/
def TileSt.loadBeats (x : TileSt) (arrs : List Nat) (insel kind start : Nat) (bs : List Beat) : TileSt :=
  arrs.foldl (fun x n => bs.zipIdx.foldl (fun x e =>
    if kind = 2 then x.loadExp (n * 2 + insel) e.1 else x.loadData (n * 2 + insel) (start + e.2) (decide (kind = 0)) e.1) x) x

def State.runLdin (s : State) (i : Issue) : State :=
  let w := i.word.toNat
  let t := i.tile.val
  let c := i.cycle.val
  let arrs := maskArrays (amaskOf w)
  let insel := bits w 50 50
  let kind := bits w 49 48
  let nb := bits w 43 40 + 1
  let rows := if bitAt w 39 then rowRun (bits w 38 29) (ceilDiv nb 8) else []
  if opcOf w != 1 then s.otherWord i
  else if arrs.isEmpty || bits w 28 0 != 0 || kind == 3 then s.refuseForm i 0 0 (fun _ => 0)
  else
    let busy := refusals arrs (fun n => firstCode [(s.mvmIn t n c (fun m => m.insel == insel), 0x1011)])
    if !busy.isEmpty then s.refuseAll t c i.entry.val 0 0 (fun _ => 0) arrs busy
    else if s.portClash t c 0 w rows then s.refusePort i (bits w 38 29) (fun _ => 0)
    else
      let s := s.portClaim t c 0 w rows
      let b := if bitAt w 39 then
          let r := s.schedReads t c (bits w 38 29) (ceilDiv nb 8)
          (r.1, r.2.take nb)
        else s.takeBeats t 0 c nb
      (b.1.poisonSeen t b.2).updTile t (fun x => x.loadBeats arrs insel kind (bits w 47 44) b.2)

/-- LDIN (R33). -/
def execLdin (i : Issue) (s : State) : Host.Outcome State Fault Refusal :=
  s.issue i 0 (fun s => s.refuseQuiet i (fun _ => 0)) (fun s => s.runLdin i)

/-! ### RED (R55, R66, Table 2-10) -/

/-- The sum of P24 partials of one position, with T4's 27-bit check. -/
def t4Sum (l : List Int) : Int × Bool :=
  let x := l.foldl (· + ·) 0
  (x, decide (x < -67108864) || decide (67108863 < x))

/-- Position-wise sums of streams. -/
def t4Sums (ls : List (List Int)) (n : Nat) : List (Int × Bool) :=
  (upTo n).map (fun k => t4Sum (ls.map (fun l => (l[k]?).getD 0)))

/-- The beats of tail unit number `k` within a stream of `nb` beats per unit. -/
def unitBeats (bs : List Beat) (k nb : Nat) : List Beat := (bs.drop (k * nb)).take nb

/-- Values of a stream of `nb` beats, and beats that a RED puts into the output buffer of array `n`. -/
def redVals (nb : Nat) : Nat := nb * 64 / 3
def State.redBeats (s : State) (t n w : Nat) : Nat :=
  if bitAt w 37 then s.tailBeats t n (bits w 36 33) (redVals (bits w 43 38 + 1)) else bits w 43 38 + 1
/-- Stages of a RED (Table 2-18), and the spans of the `k`-th selected tail unit, whose beats follow those of the units before it. -/
def redStages (w : Nat) : List Nat := if bitAt w 37 then [4, 5, 6, 7, 8, 9, 10] else [4, 10]
def State.redSpans (s : State) (t c w : Nat) (arrs : List Nat) (n : Nat) : List (Nat × Nat × Nat) :=
  let nb := bits w 43 38 + 1
  s.stageSpans t n (bits w 36 33) (redStages w) (c + nb * (arrs.filter (fun m => decide (m < n))).length) nb
/-- The plane whose tables serve a RED in array `n`: that of the last MVM that the array accepted, else plane 0 (DESIGN CHOICE: RED names no plane;
log entry 69). -/
def TileSt.redPlane (x : TileSt) (n : Nat) : Nat := ((x.lastMvm.get? n).map (·.plane)).getD 0

/-- An accepted RED: the streams of each selected array summed, then promoted through the tail or put out as P24. -/
def State.redAccept (s : State) (i : Issue) : State :=
  let w := i.word.toNat
  let t := i.tile.val
  let c := i.cycle.val
  let e := i.entry.val
  let arrs := maskArrays (amaskOf w)
  let ina := bits w 50 48
  let inb := bits w 47 45
  let loc := bitAt w 44
  let nb := bits w 43 38 + 1
  let tot := nb * arrs.length
  let spans := s.redSpans t c w arrs
  let s := s.updTile t (fun x => arrs.foldl (fun x n => x.stageTake n (spans n)) x)
  let ra := if ina = 0 then (s, []) else s.takeBeats t ina c tot
  let rb := if inb = 0 then (ra.1, []) else ra.1.takeBeats t inb c tot
  let s := (rb.1.poisonSeen t ra.2).poisonSeen t rb.2
  let streams (k n : Nat) : List (List Beat) :=
    (if ina = 0 then [] else [unitBeats ra.2 k nb]) ++ (if inb = 0 then [] else [unitBeats rb.2 k nb]) ++
    (if loc then [(upTo nb).map (fun j => (s.tile t).outBuf.get (n * 8 + j % 8) (Beat.zero true))] else [])
  let sums := arrs.zipIdx.map (fun a => t4Sums ((streams a.2 a.1).map (fun l => p24Of (l.flatMap (·.data)))) (redVals nb))
  let poison := arrs.zipIdx.map (fun a => (streams a.2 a.1).any (fun l => l.any (·.poison)))
  let trouble := arrs.zipIdx.map (fun a => (streams a.2 a.1).any (fun l => l.any (·.trouble)))
  if bitAt w 37 then
    let satOf (l : List (Int × Bool)) := l.any (fun v => v.2 || outsideSym 2147483647 (256 * v.1))
    let wides := sums.map (fun l => l.map (fun v => satSym 2147483647 (256 * v.1)))
    let sats := (arrs.zip sums).filterMap (fun a => if satOf a.2 then some a.1 else none)
    let s := s.wideSat t c e sats
    let bad := trouble.map (fun x => x || !sats.isEmpty)
    let s := if bitAt w 32 then s.retain t c (bits w 31 22) wides poison bad else s
    s.tailPath t c e (bits w 36 33) (bits w 31 22) (arrs.map (fun n => ⟨n, (s.tile t).redPlane n, redVals nb⟩)) wides poison bad
  else
    let satOf (l : List (Int × Bool)) := l.any (fun v => v.2 || outsideSym 8388607 v.1)
    let sats := (arrs.zip sums).filterMap (fun a => if satOf a.2 then some a.1 else none)
    let s := s.wideSat t c e sats
    s.updTile t (fun x => (arrs.zipIdx).foldl (fun x a =>
      let l := (sums[a.2]?).getD []
      x.fillOut a.1 (beatsOf (packP24 (l.map (fun v => satSym 8388607 v.1))) ((poison[a.2]?).getD false)
        (((trouble[a.2]?).getD false) || !sats.isEmpty) |>.take nb)) x)

/-- Retention rows of a RED (R57). -/
def redRows (w : Nat) : List Nat :=
  if bitAt w 37 && bitAt w 32 then rowRun (bits w 31 22) (ceilDiv (redVals (bits w 43 38 + 1) * (maskArrays (amaskOf w)).length) 128) else []

def State.runRed (s : State) (i : Issue) : State :=
  let w := i.word.toNat
  let t := i.tile.val
  let c := i.cycle.val
  let arrs := maskArrays (amaskOf w)
  let nb (n : Nat) : Nat := s.redBeats t n w
  if opcOf w != 3 then s.otherWord i
  else if arrs.isEmpty || bits w 21 0 != 0 || bits w 50 48 == 7 || bits w 47 45 == 7 then s.refuseForm i 0 0 nb
  else
    let busy := refusals arrs (fun n => firstCode [((s.tile t).stageBusy n (s.redSpans t c w arrs n), 0x1017)])
    if !busy.isEmpty then s.refuseAll t c i.entry.val 0 0 nb arrs busy
    else if s.portClash t c 0 w (redRows w) then s.refusePort i (bits w 31 22) nb
    else (s.portClaim t c 0 w (redRows w)).redAccept i

/-- RED (R55). -/
def execRed (i : Issue) (s : State) : Host.Outcome State Fault Refusal :=
  s.issue i 0 (fun s => s.refuseQuiet i (fun n => s.redBeats i.tile.val n i.word.toNat)) (fun s => s.runRed i)

/-! ### WRB (R45, R46, Table 2-15) -/

/-- An MVM on plane `pl` of the array is in progress in cycle `c` (issue to last conversion). -/
def State.mvmOn (s : State) (t n pl c : Nat) : Bool := s.mvmIn t n c (fun m => m.plane == pl)

/-- Bank rows `r`, `r + 1`, ... of the arrays written from 64-byte pieces. -/
def State.writeBank (s : State) (t pl : Nat) (arrs : List Nat) (r : Nat) (bs : List Beat) : State :=
  s.setMem (arrs.foldl (fun m n => bs.zipIdx.foldl (fun m b => Memory.writeBytes m (bankRow t (s.arrPos t n) pl (r + b.2)) b.1.data) m) s.mem)

/-- An accepted WRB: the bank rows written, the banks LOADING, their gathering counters cleared (R301), the write window begun. -/
def State.wrbAccept (s : State) (i : Issue) : State :=
  let w := i.word.toNat
  let t := i.tile.val
  let c := i.cycle.val
  let arrs := maskArrays (amaskOf w)
  let pl := bits w 50 50
  let row := 8 * bits w 49 43
  let nr8 := bits w 42 36 + 1
  let b := s.schedReads t c (bits w 35 26) nr8
  let s := (b.1.poisonSeen t b.2).writeBank t pl arrs row b.2
  let s := arrs.foldl (fun s n => s.setReg (bstateF pl) t n bsLoading) s
  let s := { s with cal := { s.cal with
    gath := arrs.foldl (fun m n => m.keep (fun k _ => k / 2048 != (t * 9 + s.arrPos t n) * 2 + pl)) s.cal.gath
    tent := arrs.foldl (fun m n => m.keep (fun k _ => k / 2048 != (t * 9 + s.arrPos t n) * 2 + pl)) s.cal.tent } }
  s.updTile t (fun x => { x with
    wrbWin := arrs.foldl (fun m n => m.put n ⟨c, c + 8 * nr8 + 10, pl, 0⟩) x.wrbWin
    wrbRun := x.wrbRun.put i.entry.val ⟨w, c, b.2.any (·.poison)⟩ })

/-- Bank rows that a WRB or RDB names run past row 1,023. The spec gives no result: the model refuses with 0x1010 (DESIGN CHOICE,
log entry 65). -/
def bankPast (w : Nat) : Bool := decide (1024 < 8 * bits w 49 43 + 8 * (bits w 42 36 + 1))
/-- Basin rows of a WRB or RDB. -/
def bankRows (w : Nat) : List Nat := rowRun (bits w 35 26) (bits w 42 36 + 1)

/-- The codes by which WRB is refused (Table 2-15, R45). A FAILED bank is refused with 0x3030, which no table names for WRB (DESIGN CHOICE,
log entry 66). -/
def State.runWrb (s : State) (i : Issue) : State :=
  let w := i.word.toNat
  let t := i.tile.val
  let c := i.cycle.val
  let arrs := maskArrays (amaskOf w)
  let pl := bits w 50 50
  let row := 8 * bits w 49 43
  if opcOf w != 4 then s.otherWord i
  else if arrs.isEmpty || bits w 25 0 != 0 || bankPast w then s.refuseForm i pl row (fun _ => 0)
  else
    let x := s.tile t
    let rs := refusals arrs (fun n => firstCode
      [(s.mvmOn t n pl c, 0x1013), (Win.activeOn (x.rdbWin.get? n) c pl, 0x1014),
       (!s.flag (streamF pl) t n, 0x1018), (Win.active (x.wrbWin.get? n) c || Win.active (x.rdbWin.get? n) c, 0x101A),
       (s.reg (bstateF pl) t n == bsFailed, 0x3030), (s.reg (bstateF pl) t n == bsLoading, 0x1014)])
    if !rs.isEmpty then s.refuseAll t c i.entry.val pl row (fun _ => 0) arrs rs
    else if s.portClash t c 0 w (bankRows w) then s.refusePort i (bits w 35 26) (fun _ => 0)
    else (s.portClaim t c 0 w (bankRows w)).wrbAccept i

/-- WRB (R45). -/
def execWrb (i : Issue) (s : State) : Host.Outcome State Fault Refusal :=
  s.issue i 0 (fun s => s.refuseQuiet i (fun _ => 0)) (fun s => s.runWrb i)

/-- A bank emptied: its cells hold zero (Table 2-4). -/
def State.emptyBank (s : State) (t n pl : Nat) : State :=
  (s.setMem (Memory.zero s.mem (bankRow t (s.arrPos t n) pl 0) 65536)).setReg (bstateF pl) t n bsEmpty

/-- The numbers by which maps of calibration know an array position and a bank. -/
def posKey (t pos : Nat) : Nat := t * 9 + pos
def bankKey (t pos pl : Nat) : Nat := (t * 9 + pos) * 2 + pl
/-- A count of spares in use of the array position that serves a logical array, which its register set and, for the spare array, the set of its
position show. -/
def State.setSpares (s : State) (f : Fld) (t n v : Nat) : State :=
  let s := s.setReg f t n v
  if s.arrPos t n = 8 then s.setReg f t 8 v else s
/-- Logical array `n` waits for replacement by the spare array (R54). -/
def State.needsSpare (s : State) (t n : Nat) : State := { s with cal := { s.cal with needSpare := s.cal.needSpare.add (t * 8 + n) } }
/-- The spare array of a tile is in use. -/
def State.spareUsed (s : State) (t : Nat) : Bool := (upTo 8).any (fun n => s.flag ARR_SPARE_MAP_SPARE_ARRAY t n)
/-- The spare array of a tile takes the number of logical array `n` (R54): its banks hold nothing yet, and the counts of spares in use are its
own (R52). -/
def State.giveSpare (s : State) (t n : Nat) : State :=
  (upTo 2).foldl (fun s pl => (((s.setReg (bstateF pl) t n bsEmpty).setReg (degradedF pl) t n 0).setReg (spareRowsF pl) t n
    (s.reg (spareRowsF pl) t 8)).setReg (spareGroupsF pl) t n (s.reg (spareGroupsF pl) t 8)) (s.setReg ARR_SPARE_MAP_SPARE_ARRAY t n 1)
/-- A bank that holds an image becomes FAILED (Table 2-5); EMPTY and LOADING ones do not. -/
def State.failBank (s : State) (t n pl : Nat) : State :=
  if s.reg (bstateF pl) t n == bsReady || s.reg (bstateF pl) t n == bsCompute then s.setReg (bstateF pl) t n bsFailed else s
/-- An internal fault of an array (R54, R36). -/
def State.arrayFault (s : State) (t n : Nat) : State := ((s.failBank t n 0).failBank t n 1).needsSpare t n
/-- R53: a remap of a group or a row begins while its bank has a spare left for it, and DEGRADED is set; else the bank fails, and the array is
replaced (R54). -/
def State.beginRemap (s : State) (t n pl g : Nat) (isRow : Bool) : State :=
  let k := posKey t (s.arrPos t n)
  let l := s.cal.remap.get k []
  let used := s.reg (if isRow then spareRowsF pl else spareGroupsF pl) t n + (l.filter (fun r => r.plane == pl && r.isRow == isRow)).length
  if used < (if isRow then 8 else 4) then
    let e : Remap := { plane := pl, isRow := isRow, group := g, row := 0, solved := false }
    ({ s with cal := { s.cal with remap := s.cal.remap.put k (l ++ [e]), remapNow := s.cal.remapNow.del k } }).setReg (degradedF pl) t n 1
  else (s.failBank t n pl).needsSpare t n
/-- A row that a WRB found mismatching: noted, and mapped to a spare row where an earlier attempt of the step found it so too (R46, R53). -/
def State.spareRow (s : State) (t n pl row : Nat) : State :=
  let k := (n * 2 + pl) * 1024 + row
  if (s.tile t).badRows.mem k then (s.beginRemap t n pl row true).updTile t (fun x => { x with badRows := x.badRows.del k })
  else s.updTile t (fun x => { x with badRows := x.badRows.add k })

/-- The end of a WRB of rows `row` to `last - 1` in one array: `bad` are the rows that read back unequal, in ascending order. -/
def State.wrbEnd (s : State) (t cycle entry pl n row last : Nat) (bad : List Nat) : State :=
  match bad with
  | [] =>
    let b := (n * 2 + pl) * 1024
    (s.setReg (bstateF pl) t n bsReady).updTile t (fun x => { x with
      badRows := x.badRows.keep (fun k _ => decide (k < b + row) || decide (b + last ≤ k)) })
  | r :: _ =>
    let s := (s.emptyBank t n pl).setReg ARR_TROUBLE_WB_MISMATCH t n 1
    let s := s.tileFault t { code := 0x3031, unit := 0, cycle := cycle, seqoff := entry, detail := n * 4096 + pl * 2048 + r }
    bad.foldl (fun s r => s.spareRow t n pl r) s

/-- R392: KIND 1 of the ARR page is a read-back mismatch on the next WRB of logical array 0. -/
def State.wrbInject (s : State) (t : Nat) (arrs : List Nat) : State × Bool :=
  if arrs.contains 0 && s.reg (HDR_ERR_INJECT .arr) t 0 == 1 then
    ((s.setReg (HDR_ERR_INJECT .arr) t 0 0).setReg (HDR_INJECTED .arr) t 0 1, true)
  else (s, false)

/-- WRB_COMPLETE (R46): the rows of the WRB of `entry` that read back unequal, by logical array. -/
def execWrbComplete (tile : Tile) (entry : Fin 4096) (bad : List (Fin 8 × Fin 1024)) (s : State) :
    Host.Outcome State Fault Refusal :=
  let t := tile.val
  match (s.tile t).wrbRun.get? entry.val with
  | none => .next s
  | some r =>
    let arrs := maskArrays (amaskOf r.word)
    let pl := bits r.word 50 50
    let row := 8 * bits r.word 49 43
    let last := row + 8 * (bits r.word 42 36 + 1)
    let j := s.wrbInject t arrs
    let s := j.1.updTile t (fun x => { x with wrbRun := x.wrbRun.del entry.val })
    .next (arrs.foldl (fun s n =>
      s.wrbEnd t (r.cycle + last - row + 10) entry.val pl n row last ((rowRun row (last - row)).filter (fun k =>
        (j.2 && n == 0 && k == row) || bad.any (fun b => b.1.val == n && b.2.val == k)))) s)

/-! ### RDB (R44, Table 2-12) -/

/-- 64-byte rows of a bank as beats. -/
def State.bankBeats (s : State) (t n pl r k : Nat) : List Beat :=
  (upTo k).map (fun j => ⟨Memory.readBytes s.mem (bankRow t (s.arrPos t n) pl (r + j)) 64, false, false⟩)

def State.runRdb (s : State) (i : Issue) : State :=
  let w := i.word.toNat
  let t := i.tile.val
  let c := i.cycle.val
  let arrs := maskArrays (amaskOf w)
  let pl := bits w 50 50
  let row := 8 * bits w 49 43
  let nr8 := bits w 42 36 + 1
  if opcOf w != 5 then s.otherWord i
  else if arrs.isEmpty || bits w 25 0 != 0 || bankPast w then s.refuseForm i pl row (fun _ => 0)
  else
    let x := s.tile t
    let rs := refusals arrs (fun n => firstCode
      [(Win.active (x.wrbWin.get? n) c || Win.active (x.rdbWin.get? n) c, 0x101A),
       (s.mvmOn t n pl c || s.reg (bstateF pl) t n != bsReady, 0x1014)])
    if !rs.isEmpty then s.refuseAll t c i.entry.val pl row (fun _ => 0) arrs rs
    else if s.portClash t c 0 w (bankRows w) then s.refusePort i (bits w 35 26) (fun _ => 0)
    else
      let s := s.portClaim t c 0 w (bankRows w)
      let s := arrs.foldl (fun s n => s.schedWrites t c (bits w 35 26) (s.bankBeats t n pl row (8 * nr8)) nr8) s
      s.updTile t (fun x => { x with rdbWin := arrs.foldl (fun m n => m.put n ⟨c, c + 8 * nr8 + 6, pl, 0⟩) x.rdbWin })

/-- RDB (R44). -/
def execRdb (i : Issue) (s : State) : Host.Outcome State Fault Refusal :=
  s.issue i 0 (fun s => s.refuseQuiet i (fun _ => 0)) (fun s => s.runRdb i)

end Sys2Proof.Machine
end

