-- ==== Sys2Proof/Machine/Trims.lean ====
section
/-! DEFINITION. Calibration state that the array commands touch: requests for passes and the gathering counters
(12_calibration.md R299 to R301). -/

namespace Sys2Proof.Machine

def Gath.zero : Gath := ⟨0, 0, 0, 0, 0⟩
def Gath.plus (a b : Gath) : Gath := ⟨a.cnt + b.cnt, a.sum + b.sum, a.sq + b.sq, a.pm + b.pm, a.pv + b.pv⟩
/-- Counters added key by key, each key shifted. -/
def addGath (m d : Map Gath) (shift : Nat → Nat) : Map Gath :=
  d.entries.foldl (fun m e => m.put (shift e.1) ((m.get (shift e.1) Gath.zero).plus e.2)) m
/-- The counters of some banks cleared. -/
def dropBanks (m : Map Gath) (p : Nat → Bool) : Map Gath := m.keep (fun k _ => !p (k / 2048))

/-- The pass of a position as the present attempt sees it. -/
def State.passAt (s : State) (t pos : Nat) : Option PassSt :=
  match s.cal.passNow.get? (posKey t pos) with
  | some p => some p
  | none => s.cal.pass.get? (posKey t pos)

/-- A pass begins (R299, R300). -/
def State.startPass (s : State) (t pos : Nat) : State :=
  let s := { s with cal := { s.cal with
    pass := s.cal.pass.put (posKey t pos) PassSt.clear, passNow := s.cal.passNow.del (posKey t pos)
    gath := dropBanks s.cal.gath (fun b => b / 2 == posKey t pos), tent := dropBanks s.cal.tent (fun b => b / 2 == posKey t pos) } }
  (s.setReg CAL_ASTAT_STALE t pos 1).setReg CAL_ASTAT_STATE t pos 1

/-- A request for a pass: kept while one is in progress (R299). -/
def State.requestPass (s : State) (t pos : Nat) : State :=
  match s.passAt t pos with
  | none => s.startPass t pos
  | some _ =>
    { s with cal := { s.cal with
      pass := s.cal.pass.mapVal (fun k p => if k = posKey t pos then { p with again := true } else p)
      passNow := s.cal.passNow.mapVal (fun k p => if k = posKey t pos then { p with again := true } else p) } }

/-- The position gathers: a pass is in progress and not yet solved. -/
def State.gathers (s : State) (t pos : Nat) : Bool := match s.passAt t pos with
  | some p => p.stage == 0
  | none => false

/-- What one conversion adds (R301): a code at full scale is not counted. -/
def gathOne (spans : List (List (Nat × Nat))) (full code bc : Nat) : Gath :=
  if code = full then Gath.zero
  else
    let st (l : List (Nat × Nat)) : Nat × Nat × Nat :=
      ((l.filter (fun r => bitAt r.1 bc)).length, (l.map (·.2)).foldl (· + ·) 0, (l.map (fun r => r.2 * r.2)).foldl (· + ·) 0)
    let xs := spans.map st
    ⟨1, code, code * code, (xs.map (fun x => x.1 * x.2.1)).foldl (· + ·) 0,
     (xs.map (fun x => x.1 * (16 * x.2.2 - x.2.1 * x.2.1))).foldl (· + ·) 0⟩

end Sys2Proof.Machine
end

