-- ==== Sys2Proof/Machine/Mvm.lean ====
section
/-! DEFINITION. MVM: conversions, narrow and wide accumulators, clipping, and the outputs at its completion
(02 R30 to R51, 03 R63 to R66). -/

namespace Sys2Proof.Machine

/-- The fields of an MVM (Table 2-9). -/
structure MvmF where
  arrs : List Nat
  pl : Nat
  first : Nat
  size : Nat
  g : Nat
  a8 : Bool
  insel : Nat
  accum : Bool
  tcfg : Nat
  out : Nat
  ret : Bool
  retRow : Nat

def mvmF (w : Nat) : MvmF :=
  { arrs := maskArrays (amaskOf w), pl := bits w 50 50, first := 16 * bits w 49 44, size := 16 * 2 ^ bits w 43 41,
    g := bits w 40 35 + 1, a8 := bitAt w 34, insel := bits w 33 33, accum := bitAt w 32, tcfg := bits w 31 28,
    out := bits w 27 26, ret := bitAt w 25, retRow := bits w 24 15 }

/-- Full-scale code of a converter mode (Table 2-3), and its nominal row group. -/
def fullScale (cmode : Nat) : Nat := 2 ^ (6 + cmode) - 1
def nominalGroup (cmode : Nat) : Nat := 32 * 2 ^ cmode
/-- Slices of the input format (R35). -/
def MvmF.slices (f : MvmF) : Nat := if f.a8 then 4 else 2
/-- Conversions on each converter (R35). -/
def MvmF.conv (f : MvmF) (wfmt : Nat) : Nat := f.g * f.slices * wfmtConv wfmt
/-- R50. -/
def MvmF.split (f : MvmF) (cmode : Nat) : Bool := decide (2 * f.size ≤ nominalGroup cmode)

/-! ### Weights and inputs -/

/-- The signed weight of column `c` in a row whose 512 bit-columns are `x` (Tables 2-2, 3-1). -/
def weightOf (fmt x c : Nat) : Int :=
  if fmt = 0 then sext 4 (x >>> (4 * c))
  else if fmt = 1 then sext 3 (x >>> (4 * c))
  else if fmt = 2 then sext 2 (x >>> (2 * c))
  else (((x >>> (2 * c)) % 2 : Nat) : Int) - (((x >>> (2 * c + 1)) % 2 : Nat) : Int)

/-- The sign and weight of the bit that conversion `b` of a slice reads (R63): the multiplier of its code. -/
def bitWeight (fmt b : Nat) : Int :=
  if fmt = 0 then (if b = 3 then -8 else (2 ^ b : Nat))
  else if fmt = 1 then (if b = 2 then -4 else (2 ^ b : Nat))
  else if fmt = 2 then (if b % 2 = 1 then -2 else 1)
  else (if b % 2 = 1 then -1 else 1)

/-- Slice `k` of an element in offset binary (R33). An element outside the format's range (A8 data in an MVM with ASL = 0) drives the low bits
of its offset form (DESIGN CHOICE: the spec does not say; log entry 67). -/
def sliceOf (a8 : Bool) (k : Nat) (a : Int) : Nat :=
  trunc (if a8 then 8 else 4) (a + (if a8 then 128 else 8)) / 4 ^ k % 4

/-- The ideal sum of a bit-column over the rows of a group: input levels where the cell holds 1. -/
def idealSum (rows : List (Nat × Int)) (a8 : Bool) (k bc : Nat) : Nat :=
  (rows.map (fun r => if bitAt r.1 bc then sliceOf a8 k r.2 else 0)).foldl (· + ·) 0

/-- The code of a conversion: the sum and its noise, held to 0 .. full scale. -/
def codeOf (full ideal : Nat) (noise : Int) : Nat := (max 0 (min (full : Int) (ideal + noise))).toNat

/-! ### The narrow accumulator (R63, R64) -/

/-- One value added; a value outside the 20-bit range is held at the bound crossed. -/
def narrowAdd (st : Int × Bool) (d : Int) : Int × Bool :=
  if st.2 then st
  else if 524287 < st.1 + d then (524287, true)
  else if st.1 + d < -524288 then (-524288, true)
  else (st.1 + d, false)

/-- The codes that weight column `c` meets in a row group, each with its multiplier, in order of conversion. `code k b g`. -/
def columnCodes (fmt slices c : Nat) (code : Nat → Nat → Nat → Nat) : List Int :=
  (upTo slices).flatMap (fun k =>
    let bs := if fmt = 0 then [0, 1, 2, 3] else if fmt = 1 then [0, 1, 2] else [2 * (c % 2), 2 * (c % 2) + 1]
    let g := if fmt = 0 || fmt = 1 then c else c / 2
    bs.map (fun b => bitWeight fmt b * (4 ^ k : Nat) * (code k b g : Int)))

/-- The narrow value of a column over a row group, and whether it overflowed. -/
def narrowValue (a8 : Bool) (cs : Int) (codes : List Int) : Int × Bool :=
  codes.foldl narrowAdd (narrowAdd (0, false) (-(if a8 then 128 else 8) * cs))

/-! ### Promotion (R65) -/

/-- The term T2 adds: v * (16 + M) * 2^(E + X - 131 - AEXP), rounded; zero when E or X is 0. -/
def t2Term (v : Int) (sc12 x aexp : Nat) : Int :=
  let E := bits sc12 11 4
  if E = 0 || x = 0 then 0 else rneScale (v * (16 + bits sc12 3 0 : Nat)) ((E : Int) + x - 131 - aexp)

/-- The sum with wide saturation. -/
def t2Add (n : Int) (term : Int) : Int × Bool := (satSym 2147483647 (n + term), outsideSym 2147483647 (n + term))

/-- SC12 of scale group `sg` and weight column `c` of a bank. -/
def State.sc12 (s : State) (t n pl sg c : Nat) : Nat :=
  Memory.readLE s.mem (scaleBase t (s.arrPos t n) + pl * 0x8000 + 2 * (256 * sg + c)) 2

/-! ### One array -/

/-- What an MVM leaves in one array. -/
structure MvmRes where
  wide : List Int
  wsat : Bool
  novf : Bool
  clips : Nat
  clipGroup : Nat

/-- Row `r` of a bank with the element that drives it. -/
def State.mvmRow (s : State) (t n : Nat) (f : MvmF) (r : Nat) : Nat × Int :=
  (Memory.readLE s.mem (bankRow t (s.arrPos t n) f.pl r) 64, (s.tile t).inElem.get ((n * 2 + f.insel) * 1024 + r) 0)

/-- The conversions of one row group: code of slice `k`, bit-column `b` of converter `g`. `base` numbers its first noise value. -/
def groupCode (rows : List (Nat × Int)) (a8 : Bool) (full convs base : Nat) (k b g : Nat) : Nat :=
  codeOf full (idealSum rows a8 k (4 * g + b)) (Config.noise (base + (k * convs + b) * 128 + g))

/-- Clipped conversions of a row group in order of time, by converter group; of those in one cycle the lowest group comes first (DESIGN CHOICE,
log entry 68). -/
def groupClips (slices convs full : Nat) (code : Nat → Nat → Nat → Nat) : List Nat :=
  (upTo slices).flatMap (fun k => (upTo convs).flatMap (fun b => (upTo 128).filter (fun g => code k b g == full)))

/-- One row group added to the accumulators. -/
def State.mvmGroup (s : State) (t n : Nat) (f : MvmF) (fmt full base : Nat) (acc : MvmRes) (gi : Nat) : MvmRes :=
  let r0 := f.first + gi * f.size
  let rows := (upTo f.size).map (fun j => s.mvmRow t n f (r0 + j))
  let convs := wfmtConv fmt
  let code := groupCode rows f.a8 full convs (base + gi * f.slices * convs * 128)
  let clips := groupClips f.slices convs full code
  let x := (s.tile t).inExp.get ((n * 2 + f.insel) * 4 + r0 / 256) 0
  let cols := acc.wide.zipIdx.map (fun e =>
    let cs := (rows.map (fun r => weightOf fmt r.1 e.2)).foldl (· + ·) 0
    let v := narrowValue f.a8 cs (columnCodes fmt f.slices e.2 code)
    let a := t2Add e.1 (t2Term v.1 (s.sc12 t n f.pl (r0 / 256) e.2) x (s.aexp t n f.pl (e.2 / 128)))
    (a.1, a.2, v.2))
  { wide := cols.map (·.1), wsat := acc.wsat || cols.any (·.2.1), novf := acc.novf || cols.any (·.2.2),
    clips := acc.clips + clips.length, clipGroup := if acc.clips = 0 then clips.headD 0 else acc.clipGroup }

/-- All row groups of an MVM in array `n` (R34). -/
def State.mvmArray (s : State) (t n : Nat) (f : MvmF) (base : Nat) : MvmRes :=
  let fmt := s.reg (wfmtF f.pl) t n
  let start := (upTo (wfmtCols fmt)).map (fun c => if f.accum then (s.tile t).wide.get (n * 256 + c) 0 else 0)
  (upTo f.g).foldl (s.mvmGroup t n f fmt (fullScale (s.reg (cmodeF f.pl) t n)) base)
    { wide := start, wsat := false, novf := false, clips := 0, clipGroup := 0 }

/-- What the conversions of an MVM add to the gathering counters of array `n` (R301): every bit-column in use, slice and row group. -/
def State.mvmGather (s : State) (t n : Nat) (f : MvmF) (base : Nat) (m : Map Gath) : Map Gath :=
  let fmt := s.reg (wfmtF f.pl) t n
  let full := fullScale (s.reg (cmodeF f.pl) t n)
  let convs := wfmtConv fmt
  (upTo f.g).foldl (fun m gi =>
    let rows := (upTo f.size).map (fun j => s.mvmRow t n f (f.first + gi * f.size + j))
    let code := groupCode rows f.a8 full convs (base + gi * f.slices * convs * 128)
    (upTo f.slices).foldl (fun m k =>
      let spans := chunksOf 16 rows.length (rows.map (fun r => (r.1, sliceOf f.a8 k r.2)))
      ((upTo 512).filter (fun j => j % 4 < convs)).foldl (fun m j =>
        let key := n * 2048 + j * 4 + k
        m.put key ((m.get key Gath.zero).plus (gathOne spans full (code k (j % 4) (j / 4)) j))) m) m) m

/-- Poison, or trouble, of the input groups and exponents that the rows of the MVM take (R60, R74). -/
def mvmInputs (n : Nat) (f : MvmF) (m : NatSet) : Bool :=
  let reg := n * 2 + f.insel
  (upTo 16).any (fun k => decide (64 * k < f.first + f.g * f.size) && decide (f.first < 64 * (k + 1)) && m.mem (reg * 20 + k)) ||
  (upTo 4).any (fun k => decide (256 * k < f.first + f.g * f.size) && decide (f.first < 256 * (k + 1)) && m.mem (reg * 20 + 16 + k))
def State.mvmE255 (s : State) (t n : Nat) (f : MvmF) : Bool :=
  (upTo 4).any (fun k => decide (256 * k < f.first + f.g * f.size) && decide (f.first < 256 * (k + 1)) &&
    (s.tile t).inExp.get ((n * 2 + f.insel) * 4 + k) 0 == 255)

/-! ### Issue -/

/-- Stages of an MVM (Table 2-18). -/
def mvmStages (out : Nat) : List Nat := if out = 1 then [3, 10] else if out = 2 then [6, 7, 8, 9, 10] else []
/-- Beats an MVM puts into the output buffer of array `n`: P24 partials, or an exponent beat and data. -/
def State.mvmBeats (s : State) (t n : Nat) (f : MvmF) : Nat :=
  let cols := wfmtCols (s.reg (wfmtF f.pl) t n)
  if f.out = 1 then cols * 3 / 64 else if f.out = 2 then s.tailBeats t n f.tcfg cols else 0
/-- The spans of the tail stages after T2: beats enter them as the last conversion leaves it. -/
def State.mvmSpans (s : State) (t c : Nat) (f : MvmF) (n : Nat) : List (Nat × Nat × Nat) :=
  s.stageSpans t n f.tcfg (mvmStages f.out) (c + s.setupLat t + f.conv (s.reg (wfmtF f.pl) t n) - 1 + 5) (s.mvmBeats t n f)
/-- Retention rows of an MVM (R57). -/
def State.mvmRows (s : State) (t : Nat) (f : MvmF) : List Nat :=
  if f.ret then rowRun f.retRow (ceilDiv ((f.arrs.map (fun n => wfmtCols (s.reg (wfmtF f.pl) t n))).foldl (· + ·) 0) 128) else []

/-- The refusal of an MVM by array `n` (R41, R43, Table 2-15). -/
def State.mvmCode (s : State) (t n c : Nat) (f : MvmF) (rg : Nat) : Option Nat :=
  let x := s.tile t
  let bs := s.reg (bstateF f.pl) t n
  let fmt := s.reg (wfmtF f.pl) t n
  firstCode
    [((x.convWin.get n []).any (fun m => decide (m.from_ ≤ c) && decide (c < m.until_)), 0x1012),
     (bs == bsFailed, 0x3030),
     (bs == bsEmpty || bs == bsLoading || Win.activeOn (x.rdbWin.get? n) c f.pl, 0x1014),
     (decide (4 < rg) || decide (nominalGroup (s.reg (cmodeF f.pl) t n) < f.size), 0x1015),
     (Win.active (x.clvWin.get? n) c, 0x1016),
     (x.stageBusy n (s.mvmSpans t c f n) || (f.accum && (match x.lastMvm.get? n with
        | some m => !(m.out == 0 && m.wfmt == fmt)
        | none => true)), 0x1017)]

/-- R51: a clip in split form, which requests a calibration pass. -/
def State.splitClip (s : State) (t c e n pl g : Nat) : State :=
  ((s.setReg ARR_TROUBLE_SPLIT_CLIP t n 1).tileRecord t
    { code := 0xB001, unit := 0, cycle := c, seqoff := e, detail := s.arrPos t n * 4096 + pl * 2048 + g }).requestPass t (s.arrPos t n)

/-- Clipping (0x2003) or narrow overflow (0x2004) of an MVM: one record, whatever arrays raise it (R73); its DETAIL names the lowest of them (DESIGN
CHOICE, log entry 77), with a converter group. -/
def State.splitTrouble (s : State) (t c e code pl : Nat) (l : List (Nat × Nat)) : State := match l with
  | [] => s
  | a :: _ => (s.tileRecord t { code := code, unit := 0, cycle := c, seqoff := e, detail := a.1 * 4096 + pl * 2048 + a.2 }).reportSplit t

/-- The conversions of an MVM in array `n`: accumulators, the overflow flag, split-form clips. The count of clips is cleared (R48). -/
def State.mvmRunArray (s : State) (t c e n : Nat) (f : MvmF) : State × MvmRes :=
  let fmt := s.reg (wfmtF f.pl) t n
  let res := s.mvmArray t n f s.freeCtr
  let s := { s with freeCtr := s.freeCtr + f.conv fmt * 128 }
  let poison := mvmInputs n f (s.tile t).inPoison || s.mvmE255 t n f || (f.accum && (s.tile t).widePoison.mem n)
  let trouble := mvmInputs n f (s.tile t).inTrouble || (f.accum && (s.tile t).wideTrouble.mem n)
  let s := s.updTile t (fun x => { x with
    wide := res.wide.zipIdx.foldl (fun m v => m.put (n * 256 + v.2) v.1) x.wide
    widePoison := x.widePoison.upd n poison
    wideTrouble := x.wideTrouble.upd n trouble
    lastMvm := x.lastMvm.put n ⟨f.out, fmt, f.pl⟩
    convWin := x.convWin.put n (⟨c, c + f.conv fmt, f.pl, f.insel⟩ :: x.convWin.get n [])
    mvmSince := x.mvmSince.add n })
  let s := s.setReg (bstateF f.pl) t n bsCompute
  let s := s.setReg ARR_CLIP_LAST_COUNT t n 0
  let s := if res.novf then s.setReg ARR_TROUBLE_NOVF t n 1 else s
  let s := if res.clips != 0 && f.split (s.reg (cmodeF f.pl) t n) then s.splitClip t c e n f.pl res.clipGroup else s
  (s, res)

/-- An accepted MVM. -/
def State.mvmAccept (s : State) (i : Issue) (f : MvmF) : State :=
  let t := i.tile.val
  let c := i.cycle.val
  let e := i.entry.val
  let spans := s.mvmSpans t c f
  let s := s.updTile t (fun x => f.arrs.foldl (fun x n => x.stageTake n (spans n)) x)
  let r := f.arrs.foldl (fun (a : State × MvmRun) n =>
    let g := if a.1.gathers t (a.1.arrPos t n) then a.1.mvmGather t n f a.1.freeCtr a.2.gath else a.2.gath
    let y := a.1.mvmRunArray t c e n f
    let m := { a.2 with gath := g }
    (y.1, { m with
      clips := m.clips.put n y.2.clips
      clipGroup := m.clipGroup.put n y.2.clipGroup
      wide := y.2.wide.zipIdx.foldl (fun k v => k.put (n * 256 + v.2) v.1) m.wide
      novf := m.novf.upd n y.2.novf
      wsat := m.wsat.upd n y.2.wsat
      poison := m.poison.upd n ((y.1.tile t).widePoison.mem n)
      trouble := m.trouble.upd n ((y.1.tile t).wideTrouble.mem n) }))
    (s, ⟨i.word.toNat, c, Map.empty, Map.empty, Map.empty, Map.empty, Map.empty, Map.empty, Map.empty, Map.empty⟩)
  let s := r.1.splitTrouble t c e 0x2004 f.pl ((f.arrs.filter (fun n => r.2.novf.mem n)).map (fun n => (n, 0)))
  let s := s.wideSat t c e (f.arrs.filter (fun n => r.2.wsat.mem n))
  let s := if f.arrs.any (fun n => r.2.poison.mem n) then s.reportFault t else s
  s.updTile t (fun x => { x with mvmRun := x.mvmRun.put e r.2 })

/-- R41: rows past 1,023, or a first row that is no multiple of the row group. Table 7-15 names no code for it: the model takes 0x1010 (DESIGN CHOICE,
log entry 64). -/
def MvmF.rowsBad (f : MvmF) : Bool := decide (1024 < f.first + f.g * f.size) || f.first % f.size != 0

def State.runMvm (s : State) (i : Issue) : State :=
  let w := i.word.toNat
  let t := i.tile.val
  let f := mvmF w
  let rg := bits w 43 41
  let nb (n : Nat) : Nat := s.mvmBeats t n f
  if opcOf w != 2 then s.otherWord i
  else if f.arrs.isEmpty || bits w 14 0 != 0 || f.out == 3 || (decide (rg < 5) && f.rowsBad) then s.refuseForm i f.pl f.first nb
  else
    let rs := refusals f.arrs (fun n => s.mvmCode t n i.cycle.val f rg)
    if !rs.isEmpty then s.refuseAll t i.cycle.val i.entry.val f.pl f.first nb f.arrs rs
    else if s.portClash t i.cycle.val 0 w (s.mvmRows t f) then s.refusePort i f.retRow nb
    else (s.portClaim t i.cycle.val 0 w (s.mvmRows t f)).mvmAccept i f

/-- MVM (R41). -/
def execMvm (i : Issue) (s : State) : Host.Outcome State Fault Refusal :=
  s.issue i 0
    (fun s => s.refuseQuiet i (fun n => s.mvmBeats i.tile.val n (mvmF i.word.toNat)))
    (fun s => s.runMvm i)

/-! ### Completion (R42, R49) -/

/-- Clipping trouble in array `n`: the clips exceed its threshold (R49), in an MVM that is not in split form. A clip in split form is reported under
R51 and is no numeric trouble (the text after R74; DEDUCED, log entry 78). -/
def State.clipOver (s : State) (t n : Nat) (r : MvmRun) : Bool :=
  let f := mvmF r.word
  decide (s.reg ARR_CLIP_CTRL_CLIP_THRESH t n < r.clips.get n 0) && !f.split (s.reg (cmodeF f.pl) t n)

/-- The end of an MVM in array `n`: the bank is READY unless a later MVM computes on it; clips are counted and judged (R48, R49). -/
def State.mvmEndArray (s : State) (t e : Nat) (f : MvmF) (r : MvmRun) (n : Nat) : State :=
  let later := (s.tile t).mvmRun.entries.any (fun o =>
    let g := mvmF o.2.word
    o.1 != e && g.pl == f.pl && g.arrs.contains n)
  let s := if s.reg (bstateF f.pl) t n == bsCompute && !later then s.setReg (bstateF f.pl) t n bsReady else s
  let s := (s.setReg ARR_CLIP_LAST_COUNT t n (min (r.clips.get n 0) 65535)).addReg ARR_CLIP_TOTAL_TOTAL t n (r.clips.get n 0)
  let s := if r.clips.get n 0 != 0 then s.setReg ARR_TROUBLE_CLIP_GROUP t n (r.clipGroup.get n 0) else s
  if s.clipOver t n r then s.setReg ARR_TROUBLE_CLIP t n 1 else s

/-- The wide values an MVM left in array `n`. -/
def MvmRun.values (r : MvmRun) (n cols : Nat) : List Int := (upTo cols).map (fun c => r.wide.get (n * 256 + c) 0)

/-- P24 partials of the arrays into their output buffers (T3, R66). `had`: T2 has raised wide saturation for this operation, whose one record
and count (R73) stand already. -/
def State.emitP24 (s : State) (t c e : Nat) (had : Bool) (vals : List (Nat × List Int)) (poison trouble : Nat → Bool) : State :=
  let packed := vals.map (fun v => (v.1, v.2.map (fun x => satSym 8388607 (rneScale x (-8))), v.2.any (fun x => outsideSym 8388607 (rneScale x (-8)))))
  let sats := (packed.filter (·.2.2)).map (·.1)
  let s := if had then s.orReg TILE_NUM_STATUS_WSAT t 0 (maskOf sats) else s.wideSat t c e sats
  s.updTile t (fun x => packed.foldl (fun x v =>
    x.fillOut v.1 (beatsOf (packP24 v.2.1) (poison v.1) (trouble v.1 || !sats.isEmpty))) x)

/-- R301: the counters of an MVM that raised neither clipping nor overflow trouble, kept until the attempt commits. -/
def State.gatherEnd (s : State) (t : Nat) (f : MvmF) (r : MvmRun) (n : Nat) : State :=
  if s.clipOver t n r || r.novf.mem n then s
  else
    let d : Map Gath := r.gath.keep (fun k _ => k / 2048 == n)
    { s with cal := { s.cal with tent := addGath s.cal.tent d (fun k => bankKey t (s.arrPos t n) f.pl * 2048 + k % 2048) } }

def State.mvmEnd (s : State) (t e : Nat) (r : MvmRun) : State :=
  let f := mvmF r.word
  let beyond := f.arrs.filter (fun n => s.clipOver t n r)
  let s := f.arrs.foldl (fun s n => s.gatherEnd t f r n) s
  let s := (f.arrs.foldl (fun s n => s.mvmEndArray t e f r n) s).splitTrouble t r.cycle e 0x2003 f.pl
    (beyond.map (fun n => (n, r.clipGroup.get n 0)))
  let s := s.updTile t (fun x => { x with mvmRun := x.mvmRun.del e })
  let vals := f.arrs.map (fun n => (n, r.values n (wfmtCols (s.reg (wfmtF f.pl) t n))))
  let poison (n : Nat) : Bool := r.poison.mem n
  let trouble (n : Nat) : Bool := r.trouble.mem n || !r.novf.entries.isEmpty || !r.wsat.entries.isEmpty || !beyond.isEmpty
  let s := if f.ret then s.retain t r.cycle f.retRow (vals.map (·.2)) (f.arrs.map poison) (f.arrs.map trouble) else s
  if f.out = 1 then s.emitP24 t r.cycle e (!r.wsat.entries.isEmpty) vals poison trouble
  else if f.out = 2 then
    s.tailPath t r.cycle e f.tcfg f.retRow (vals.map (fun v => ⟨v.1, f.pl, v.2.length⟩)) (vals.map (·.2)) (f.arrs.map poison) (f.arrs.map trouble)
  else s.updTile t (fun x => { x with
    wideTrouble := f.arrs.foldl (fun m n => m.upd n (trouble n)) x.wideTrouble })

/-- MVM_COMPLETE (R42, R49): the MVM of a schedule entry makes its last conversion. -/
def execMvmComplete (tile : Tile) (entry : Fin 4096) (s : State) : Host.Outcome State Fault Refusal :=
  match (s.tile tile.val).mvmRun.get? entry.val with
  | none => .next s
  | some r => .next (s.mvmEnd tile.val entry.val r)

end Sys2Proof.Machine
end

