-- ==== Sys2Proof/Machine/Clove.lean ====
section
/-! DEFINITION. Clove windows and what calibration does in them, at commit boundaries and at attempts that do not commit
(07 R168; 12_calibration.md R297 to R312; 02 R53). -/

namespace Sys2Proof.Machine

/-! ### Windows (R168) -/

/-- The index of a tile among those of its partition. -/
def indexIn (l : List Nat) (x : Nat) : Nat := (l.zipIdx.find? (fun e => e.1 == x)).map (·.2) |>.getD 0
/-- The Clove phase of a tile: phases spread evenly over the period. -/
def State.clovePhase (s : State) (p t : Nat) : Nat :=
  let l := s.partTiles p
  indexIn l t * (s.part p).hdr.clovePeriod / max 1 l.length
/-- The windows of a tile open in the present step. -/
def State.cloveOpen (s : State) (t : Nat) : Bool := match s.owner t with
  | none => false
  | some p => (s.part p).commitIdx % max 1 (s.part p).hdr.clovePeriod == s.clovePhase p t

/-! ### Banks and trims (R297, Table 12-1) -/

/-- Planes of a logical array whose bank is in use (not EMPTY). -/
def State.usedPlanes (s : State) (t n : Nat) : List Nat := (upTo 2).filter (fun pl => s.reg (bstateF pl) t n != bsEmpty)
/-- The logical array that an array position serves, if it serves one. -/
def State.servesArr (s : State) (t pos : Nat) : Option Nat := (upTo 8).find? (fun n => s.arrPos t n == pos)
/-- The planes of a position that count: those in use, or both of an unused spare array. -/
def State.posPlanes (s : State) (t pos : Nat) : List Nat := match s.servesArr t pos with
  | some n => s.usedPlanes t n
  | none => [0, 1]
/-- CMODE of a bank of a position. -/
def State.posCmode (s : State) (t pos pl : Nat) : Nat := s.reg (cmodeF pl) t ((s.servesArr t pos).getD 0)
/-- The CMODE of an array at reset. -/
def cmodeReset (pl : Nat) : Nat := (cmodeF pl).rst 0
/-- R298: the trims of a bank are held and were solved for its CMODE. -/
def State.calibrated (s : State) (t pos pl : Nat) : Bool :=
  s.cal.banks.get (bankKey t pos pl) (if s.cal.epoch = 0 || s.cal.off.mem (quadOf t) then 4 else cmodeReset pl) == s.posCmode t pos pl
/-- CMODE of a logical array written (R298, R311): a change leaves the trims of its bank, and of an unused spare array that follows
array 0, uncalibrated. -/
def State.setCmode (s : State) (t n pl v : Nat) : State :=
  if s.reg (cmodeF pl) t n = v then s
  else
    let s := s.setReg (cmodeF pl) t n v
    let s := { s with cal := { s.cal with banks := s.cal.banks.put (bankKey t (s.arrPos t n) pl) 4 } }
    if n = 0 && (s.servesArr t 8).isNone then
      { s with cal := { s.cal with banks := s.cal.banks.put (bankKey t 8 pl) 4, spare := s.cal.spare.del t, spareNow := s.cal.spareNow.del t } }.setReg
        (cmodeF pl) t 8 v
    else s
/-- The number of the foreground calibration of a bank. -/
def State.seedOf (s : State) (bank : Nat) : Nat := s.cal.seed.get bank s.cal.epoch
/-- Byte `i` of a bank's trim set: bit-column j at 2j (OFS) and 2j + 1 (GAIN), bank OFS at 1,056 and GAIN at 1,057. -/
def State.trimByte (s : State) (bank i : Nat) : Nat := s.cal.trims.get (bank * 2048 + i) (Config.fgTrim (s.seedOf bank) (bank * 2048 + i) % 256)
/-- Residual error of a bank. -/
def State.sigmaOf (s : State) (bank : Nat) : Nat :=
  s.cal.sigma.get bank (if s.cal.epoch = 0 then 0 else Config.fgSigma (s.seedOf bank) bank % 256)
def trimBytes : Nat := 1058
def clampSb (v : Int) : Int := max (-128) (min 127 v)
/-- One attempt at a foreground calibration of a bank (R310). -/
def State.foregroundOnce (s : State) (t pos pl : Nat) : State :=
  let x := s.takeFree
  let k := bankKey t pos pl
  { x.2 with cal := { x.2.cal with
    seed := x.2.cal.seed.put k (x.1 + 1), trims := x.2.cal.trims.keep (fun a _ => a / 2048 != k), sigma := x.2.cal.sigma.del k
    banks := x.2.cal.banks.put k (x.2.posCmode t pos pl), tcal := x.2.cal.tcal.put (posKey t pos) (x.2.thermal.diode.get t x.2.thermal.diode0) } }

/-! ### Probes and verifies -/


/-- A residual error that a probe measures: an analog value, in 1/64 LSB, saturating at 255. -/
def State.measure (s : State) : Nat × State :=
  let x := s.takeFree
  (x.1 % 256, x.2)
/-- Residual errors of planes 0 and 1, of those in use. -/
def State.measurePair (s : State) (pls : List Nat) : (Nat × Nat) × State :=
  let a := if pls.contains 0 then s.measure else (0, s)
  let b := if pls.contains 1 then a.2.measure else (0, a.2)
  ((a.1, b.1), b.2)

def State.putPass (s : State) (t pos : Nat) (p : PassSt) : State :=
  { s with cal := { s.cal with passNow := s.cal.passNow.put (posKey t pos) p } }
/-- A calibration record (R317), counted (Table 12-8). -/
def State.calRecord (s : State) (t code cycle entry pos pl g : Nat) : State :=
  let s := if 0xB003 ≤ code && code ≤ 0xB008 then s.addReg CAL_FAILCOUNT_COUNT 0 0 1 else s
  s.tileRecord t { code := code, unit := 0, cycle := cycle, seqoff := entry, detail := pos * 4096 + pl * 2048 + g }

/-! ### The quality word (R312) -/

/-- CAL_ASTAT.SIGMA of a position: the larger of its banks in use (R312). -/
def State.sigmaReg (s : State) (t pos : Nat) : Nat :=
  min 255 (((s.posPlanes t pos).map (fun pl => s.sigmaOf (bankKey t pos pl))).foldl max 0)
/-- The quality word of a tile as its arrays stand: `mean` rounded up or down as the free value `r` says. -/
def State.qualOf (s : State) (t r : Nat) : Qual :=
  let ps := (upTo 8).map (s.arrPos t)
  let sig := ps.map (s.sigmaReg t)
  let sum := sig.foldl (· + ·) 0
  { stale := (ps.filter (fun p => s.flag CAL_ASTAT_STALE t p)).length
    uncal := ps.any (fun p => (s.posPlanes t p).any (fun pl => !s.calibrated t p pl))
    max_ := sig.foldl max 0, mean := sum / 8 + (if sum % 8 = 0 then 0 else r % 2), min_ := sig.foldl min 255 }
/-- The quality words of some tiles, as a commit boundary and the end of a foreground calibration leave them. -/
def State.qualAll (s : State) (ts : List Nat) : State :=
  let x := s.takeFree
  { x.2 with cal := { x.2.cal with qual := ts.foldl (fun (m : Map Qual) t => m.put t (x.2.qualOf t (x.1 / 2 ^ t))) x.2.cal.qual } }

/-- A foreground calibration of a bank (R310): after a second attempt above SIGMA_MAX its array has an internal fault (R307). -/
def State.foreground (s : State) (t pos pl : Nat) : State :=
  let max_ := s.g CAL_CFG_SIGMA_MAX 0
  let s := s.foregroundOnce t pos pl
  let s := if s.sigmaOf (bankKey t pos pl) ≤ max_ then s else s.foregroundOnce t pos pl
  let s := if s.sigmaOf (bankKey t pos pl) ≤ max_ then s
    else
      let s := (s.calRecord t 0xB008 0 0 pos pl 0).setReg CAL_STATUS_FG_FAIL t 0 1
      match s.servesArr t pos with
      | some n => s.arrayFault t n
      | none => s
  s.qualAll [t]

/-- R301: every bit-column in use of a bank has SAMPLES counted conversions. -/
def State.gathered (s : State) (t n pl : Nat) : Bool :=
  let b := bankKey t (s.arrPos t n) pl
  let need := s.g CAL_CFG2_SAMPLES 0
  let convs := wfmtConv (s.reg (wfmtF pl) t n)
  ((upTo 512).filter (fun j => j % 4 < convs)).all (fun j =>
    decide (need ≤ ((upTo 4).map (fun k => (s.cal.gath.get (b * 2048 + j * 4 + k) Gath.zero).cnt)).foldl (· + ·) 0))

/-- R307: a pass ends; two in a row with a bank above SIGMA_MAX are an internal fault of the array. -/
def State.passEnds (s : State) (t pos n : Nat) (sig : Nat × Nat) (cycle entry : Nat) : State :=
  let max_ := s.g CAL_CFG_SIGMA_MAX 0
  let k := posKey t pos
  if decide (max_ < sig.1) || decide (max_ < sig.2) then
    let c := s.cal.fails.get k 0 + 1
    if c < 2 then { s with cal := { s.cal with fails := s.cal.fails.put k c } }
    else
      let s := s.calRecord t 0xB005 cycle entry pos 0 0
      { s with cal := { s.cal with fails := s.cal.fails.del k } }.arrayFault t n
  else { s with cal := { s.cal with fails := s.cal.fails.del k } }

/-- R307: per bank, within SIGMA_MAX or better than with the trims in force. -/
def verifyOk (max_ : Nat) (now new : Nat × Nat) : Bool :=
  (decide (new.1 ≤ max_) || decide (new.1 < now.1)) && (decide (new.2 ≤ max_) || decide (new.2 < now.2))

/-- One work item of a pass in a window of `w` cycles: the cycles left. -/
def State.passItem (s : State) (t n cycle entry w : Nat) : State × Nat :=
  let pos := s.arrPos t n
  let pls := s.usedPlanes t n
  let cost := 32 * pls.length
  let mvm := (s.tile t).mvmSince.mem n
  match s.passAt t pos with
  | none => (s, 0)
  | some p =>
    if p.stage = 0 then
      if decide (cost ≤ w) && mvm && pls.all (fun pl => s.gathered t n pl || s.flag (streamF pl) t n) then
        let x := s.measurePair pls
        ((x.2.putPass t pos { p with stage := 1, sigNow := x.1 }).setReg CAL_ASTAT_STATE t pos 3, w - cost)
      else (s, 0)
    else if p.stage = 2 then
      if p.shadowLeft ≤ w then
        ((s.putPass t pos { p with stage := 3, shadowLeft := 0 }).setReg CAL_ASTAT_STATE t pos 5, w - p.shadowLeft)
      else (s.putPass t pos { p with shadowLeft := p.shadowLeft - w }, 0)
    else if p.stage = 3 then
      if decide (cost ≤ w) && mvm then
        let x := s.measurePair pls
        if verifyOk (s.g CAL_CFG_SIGMA_MAX 0) p.sigNow x.1 then
          ((x.2.putPass t pos { p with stage := 4, sigNew := x.1 }).setReg CAL_ASTAT_STATE t pos 6, w - cost)
        else ((x.2.putPass t pos { p with stage := 5, cycle := cycle, entry := entry }).setReg CAL_ASTAT_STATE t pos 6, 0)
      else (s, 0)
    else (s, 0)

/-- Items one after another while the window lasts. -/
def State.passItems (s : State) (t n cycle entry : Nat) : Nat → Nat → State
  | 0, _ => s
  | fuel + 1, w =>
    if w = 0 then s
    else
      let x := s.passItem t n cycle entry w
      State.passItems x.1 t n cycle entry fuel x.2

/-! ### Remaps (R53) -/

def State.remapAt (s : State) (t pos : Nat) : List Remap := match s.cal.remapNow.get? (posKey t pos) with
  | some l => l
  | none => s.cal.remap.get (posKey t pos) []
/-- Window work of the first remap of a position, which goes first: the rows of the spare group written (of a spare row, its one row), and then its
converter's trims solved in a later window. The answer is the cycles left. -/
def State.remapWork (s : State) (t n w : Nat) : State × Nat :=
  let pos := s.arrPos t n
  match s.remapAt t pos with
  | [] => (s, w)
  | r :: l =>
    let keep (r : Remap) : State := { s with cal := { s.cal with remapNow := s.cal.remapNow.put (posKey t pos) (r :: l) } }
    let rows := if r.isRow then 1 else 1024
    if s.flag (streamF r.plane) t n then (s, w)
    else if r.row < rows then
      let k := min w (rows - r.row)
      (keep { r with row := r.row + k, solved := r.isRow }, w - k)
    else if r.solved then (s, w)
    else (keep { r with solved := true }, w - 32)

/-! ### The unused spare array (R311) -/

/-- Window cycles of one test vector: the conversions of an A8 vector through a bank in its mode. -/
def vectorCycles (cmode : Nat) : Nat := 1024 / nominalGroup cmode * 16
/-- Window cycles of a calibration of the spare array: 1,024 vectors through each of its banks. -/
def State.spareNeed (s : State) (t : Nat) : Nat := 1024 * (vectorCycles (s.reg (cmodeF 0) t 0) + vectorCycles (s.reg (cmodeF 1) t 0))
/-- A slice of the spare array's foreground procedure in a window of logical array 0. -/
def State.spareWork (s : State) (t w : Nat) : State :=
  if (s.servesArr t 8).isSome then s
  else { s with cal := { s.cal with spareNow := s.cal.spareNow.put t (min (s.spareNeed t) (s.cal.spareNow.get t (s.cal.spare.get t 0) + w)) } }

/-! ### CLV -/

/-- The work of one array's window. -/
def State.windowWork (s : State) (t cycle entry w n : Nat) : State :=
  if w < 32 then s
  else
    let s := if n = 0 then s.spareWork t w else s
    let r := s.remapWork t n w
    let s := r.1
    let pos := s.arrPos t n
    match s.passAt t pos with
    | some _ => s.passItems t n cycle entry 5 r.2
    | none =>
      ((s.usedPlanes t n).zipIdx.filter (fun e => decide (32 * (e.2 + 1) ≤ r.2) && (s.tile t).mvmSince.mem n)).foldl (fun s e =>
        let x := s.measure
        { x.2 with cal := { x.2.cal with sigTent := x.2.cal.sigTent.put (bankKey t pos e.1) x.1 } }) s

def State.runClv (s : State) (i : Issue) : State :=
  let w := i.word.toNat
  let t := i.tile.val
  let c := i.cycle.val
  let arrs := maskArrays (amaskOf w)
  let len := bits w 50 35
  if opcOf w != 6 then s.otherWord i
  else if arrs.isEmpty || bits w 34 0 != 0 || len == 0 then s.refuseForm i 0 0 (fun _ => 0)
  else if !s.cloveOpen t then s
  else
    let rs := refusals arrs (fun n => firstCode
      [(s.mvmIn t n c (fun _ => true), 0x1012), (Win.active ((s.tile t).clvWin.get? n) c, 0x1016)])
    if !rs.isEmpty then s.refuseAll t c i.entry.val 0 0 (fun _ => 0) arrs rs
    else
      let s := s.updTile t (fun x => { x with clvWin := arrs.foldl (fun m n => m.put n ⟨c, c + len, 0, 0⟩) x.clvWin })
      arrs.foldl (fun s n => s.windowWork t c i.entry.val len n) s

/-- CLV (R168, R306): a Clove window on the arrays it selects, in the steps of the tile's Clove phase. -/
def execClv (i : Issue) (s : State) : Host.Outcome State Fault Refusal :=
  s.issue i 0 (fun s => s.refuseQuiet i (fun _ => 0)) (fun s => s.runClv i)

/-- A bank in use above SIGMA_MAX requests a pass (R299). -/
def State.sigmaCheck (s : State) (t pos : Nat) : State :=
  if decide (s.g CAL_CFG_SIGMA_MAX 0 < s.sigmaReg t pos) && (s.servesArr t pos).isSome && (s.passAt t pos).isNone then s.startPass t pos else s

/-! ### Boundaries -/

/-- Trims of a bank replaced by its working set, with the residual error measured. -/
def State.setTrims (s : State) (t pos pl sig : Nat) : State :=
  let k := bankKey t pos pl
  { s with cal := { s.cal with
    banks := s.cal.banks.put k (s.posCmode t pos pl), sigma := s.cal.sigma.put k sig
    trims := (upTo trimBytes).foldl (fun m i => m.put (k * 2048 + i) (s.cal.work.get (k * 2048 + i) 0)) s.cal.trims } }

/-- T_cal of a position: the reading of the tile's diode. -/
def State.setTcal (s : State) (t pos : Nat) : State :=
  { s with cal := { s.cal with tcal := s.cal.tcal.put (posKey t pos) (s.thermal.diode.get t s.thermal.diode0) } }

/-- TRIM_COMMIT (R306): a verified shadow set replaces the trims in force of both banks. -/
def State.trimCommit (s : State) (t pos : Nat) (p : PassSt) : State :=
  let n := (s.servesArr t pos).getD 0
  let pls := s.posPlanes t pos
  let s := pls.foldl (fun s pl => s.setTrims t pos pl (if pl = 0 then p.sigNew.1 else p.sigNew.2)) s
  let s := { s with cal := { s.cal with pass := s.cal.pass.del (posKey t pos) } }
  let s := (((s.setReg CAL_ASTAT_STALE t pos 0).setReg CAL_ASTAT_STATE t pos 0).setReg CAL_ASTAT_BANK_ONLY t pos (b2n p.bankOnly)).setTcal t pos
  let s := (s.addReg CAL_COUNT_COUNT 0 0 1).passEnds t pos n p.sigNew 0 0
  if p.again then s.startPass t pos else s

/-- R307: a verify failed and its step commits: the shadow set is discarded and a new pass starts. -/
def State.verifyFails (s : State) (t pos : Nat) (p : PassSt) : State :=
  let s := (s.setReg CAL_STATUS_VERIFY_FAIL t 0 1).calRecord t 0xB004 p.cycle p.entry pos 0 0
  let s := s.passEnds t pos ((s.servesArr t pos).getD 0) p.sigNow p.cycle p.entry
  s.startPass t pos

/-- REMAP_COMMIT (R53): the spare group, or the spare row, takes the old one's place. -/
def State.remapCommit (s : State) (t pos : Nat) : State :=
  match s.cal.remap.get (posKey t pos) [] with
  | [] => s
  | r :: l =>
    let n := (s.servesArr t pos).getD 8
    if r.solved || s.flag (streamF r.plane) t n then
      let s := { s with cal := { s.cal with remap := if l.isEmpty then s.cal.remap.del (posKey t pos) else s.cal.remap.put (posKey t pos) l } }
      let f := if r.isRow then spareRowsF r.plane else spareGroupsF r.plane
      let s := s.setSpares f t n (satAdd f.width (s.reg f t n) 1)
      let s := if l.any (fun x => x.plane == r.plane) then s else s.setReg (degradedF r.plane) t n 0
      s.tileRecord t { code := 0xB002, unit := 0, detail := pos * 4096 + r.plane * 2048 + r.group }
    else s

/-- The spare array's trims when its vectors have run (R311). -/
def State.spareCommit (s : State) (t : Nat) : State :=
  if s.cal.spare.get t 0 < s.spareNeed t then s
  else ({ s with cal := { s.cal with spare := s.cal.spare.del t } }.foreground t 8 0).foreground t 8 1

/-- Entries of a map whose key, divided by `d`, is a tile of a partition. -/
def State.ofPart {α : Type} (s : State) (p d : Nat) (m : Map α) : List (Nat × α) :=
  m.entries.filter (fun e => s.owner (e.1 / d) == some p)
/-- A map without them. -/
def State.notPart {α : Type} (s : State) (p d : Nat) (m : Map α) : Map α := m.keep (fun k _ => s.owner (k / d) != some p)
def putAll {α : Type} (m : Map α) (l : List (Nat × α)) : Map α := l.foldl (fun m e => m.put e.1 e.2) m

/-- The attempt commits: its windows' results and its counters stand. -/
def State.calKeep (s : State) (p : Nat) : State :=
  { s with cal := { s.cal with
    pass := putAll s.cal.pass (s.ofPart p 9 s.cal.passNow), passNow := s.notPart p 9 s.cal.passNow
    remap := putAll s.cal.remap (s.ofPart p 9 s.cal.remapNow), remapNow := s.notPart p 9 s.cal.remapNow
    sigma := putAll s.cal.sigma (s.ofPart p 18 s.cal.sigTent), sigTent := s.notPart p 18 s.cal.sigTent
    gath := addGath s.cal.gath ⟨s.ofPart p (18 * 2048) s.cal.tent⟩ (fun k => k), tent := s.notPart p (18 * 2048) s.cal.tent
    spare := putAll s.cal.spare (s.ofPart p 1 s.cal.spareNow), spareNow := s.notPart p 1 s.cal.spareNow } }

/-- CAL_ASTAT.STATE of a pass (Table 12-7). -/
def stageCode (stage : Nat) : Nat := if stage = 0 then 1 else if stage = 5 then 6 else stage + 2
/-- R309: the attempt does not commit: shadow writes and remap rows stand, probes and verifies are discarded. -/
def State.calDiscard (s : State) (p : Nat) : State :=
  let stand (m : Map PassSt) (e : Nat × PassSt) : Map PassSt :=
    match m.get? e.1 with
    | some o => if o.stage = 2 && decide (2 ≤ e.2.stage) then
        m.put e.1 { o with stage := if e.2.stage = 2 then 2 else 3, shadowLeft := e.2.shadowLeft, again := o.again || e.2.again } else m
    | none => m
  let now := s.ofPart p 9 s.cal.passNow
  let s := { s with cal := { s.cal with
    pass := (s.ofPart p 9 s.cal.passNow).foldl stand s.cal.pass, passNow := s.notPart p 9 s.cal.passNow
    remap := putAll s.cal.remap ((s.ofPart p 9 s.cal.remapNow).map (fun e =>
      (e.1, e.2.zip (s.cal.remap.get e.1 []) |>.map (fun r => { r.1 with solved := r.2.solved }))))
    remapNow := s.notPart p 9 s.cal.remapNow, sigTent := s.notPart p 18 s.cal.sigTent
    tent := s.notPart p (18 * 2048) s.cal.tent
    spare := putAll s.cal.spare (s.ofPart p 1 s.cal.spareNow), spareNow := s.notPart p 1 s.cal.spareNow } }
  now.foldl (fun s e => match s.cal.pass.get? e.1 with
    | some x => s.setReg CAL_ASTAT_STATE (e.1 / 9) (e.1 % 9) (stageCode x.stage)
    | none => s) s

/-- Calibration at a commit boundary of a partition. -/
def State.calCommit (s : State) (p : Nat) : State :=
  let keys {α : Type} (m : List (Nat × α)) : List Nat := m.map (·.1)
  let touched : List Nat := (keys (s.ofPart p 9 s.cal.pass) ++ keys (s.ofPart p 9 s.cal.passNow) ++
    (keys (s.ofPart p 18 s.cal.sigTent)).map (· / 2) ++ keys (s.ofPart p 9 s.cal.remap) ++
    (keys (s.ofPart p 1 s.cal.spareNow)).map (· * 9 + 8)).eraseDups
  let s := s.calKeep p
  let s := touched.foldl (fun (s : State) k =>
    let t := k / 9
    let pos := k % 9
    let s := s.remapCommit t pos
    let s := match s.cal.pass.get? k with
      | some x => if x.stage = 4 then s.trimCommit t pos x else if x.stage = 5 then s.verifyFails t pos x else s
      | none => s
    s.spareCommit t) s
  let s := ((keys (s.ofPart p 18 s.cal.sigma)).map (· / 2)).eraseDups.foldl (fun s k => s.sigmaCheck (k / 9) (k % 9)) s
  s.qualAll (s.partTiles p)

end Sys2Proof.Machine
end

