-- ==== Sys2Proof/Machine/Matrix.lean ====
section
/-! DEFINITION. The matrix engine: MLD, MMUL, MOUT (04_engines_attention_sampling.md R84 to R89). -/

namespace Sys2Proof.Machine

/-- A number added to a set for each of a range. -/
def NatSet.addRange (m : NatSet) (a n : Nat) : NatSet := (upTo n).foldl (fun m k => m.add (a + k)) m

/-- A refused engine command: its record and the status bit (R84). -/
def State.engRefuse (s : State) (i : Issue) (unit code : Nat) (f : Fld) : State :=
  (s.setReg f i.tile.val 0 1).tileFault i.tile.val { code := code, unit := unit, cycle := i.cycle.val, seqoff := i.entry.val }

/-- 32-bit word `j` of a list of bytes. -/
def word32 (l : List Byte) (j : Nat) : Nat := numOf ((l.drop (4 * j)).take 4)
/-- A run of bytes from a list of beats. -/
def beatBytes (bs : List Beat) : List Byte := bs.flatMap (·.data)
/-- Whether any beat that covers bytes `a` to `a + n - 1` is poisoned. -/
def poisonIn (bs : List Beat) (a n : Nat) : Bool :=
  bs.zipIdx.any (fun b => b.1.poison && decide (64 * b.2 < a + n) && decide (a < 64 * (b.2 + 1)))

/-- Whether any beat that covers these bytes is flagged (R74). -/
def troubleIn (bs : List Beat) (a n : Nat) : Bool :=
  bs.zipIdx.any (fun b => b.1.trouble && decide (64 * b.2 < a + n) && decide (a < 64 * (b.2 + 1)))

/-! ### MLD (Table 4-4) -/

/-- A matrix engine word whose opcode is not the command's: a reserved opcode is refused (R84); a word of another command has no effect here. -/
def State.mxOther (s : State) (i : Issue) : State :=
  let o := bits i.word.toNat 63 59
  if o = 0 || 3 < o then s.engRefuse i 1 0x1021 TILE_ENG_STATUS_MX_REFUSED else s
/-- The later of two engine commands whose Basin accesses meet (R116). -/
def State.portRefuse (s : State) (i : Issue) (f : Fld) (row : Nat) : State := (s.setReg f i.tile.val 0 1).portRecord i row

/-- The elements of a source vector: A8 or K8, one to a byte; A4, the 256 of the low 128 bytes of a half row. -/
def vecElems (a4 : Bool) (l : List Byte) : List Int :=
  if a4 then (l.take 128).flatMap (fun b => [sext 4 b.toNat, sext 4 (b.toNat / 16)])
  else l.map (fun b => sext 8 b.toNat)

/-- Keys of the trouble flags of MB vectors and of accumulators (`TileSt.mxTrouble`); MA vectors stand at their numbers. -/
def mbKey (v : Nat) : Nat := 2 ^ 16 + v
def mcKey (k : Nat) : Nat := 2 ^ 17 + k
def TileSt.putMa (x : TileSt) (v : Nat) (l : List Int) (e : Nat) (bad trb : Bool) : TileSt :=
  { x with ma := x.ma.put v l, maExp := x.maExp.put v e, maPoison := x.maPoison.upd v bad, mxTrouble := x.mxTrouble.upd v trb }
def TileSt.putMb (x : TileSt) (v : Nat) (l : List Int) (e : Nat) (bad trb : Bool) : TileSt :=
  { x with mb := x.mb.put v l, mbExp := x.mbExp.put v e, mbPoison := x.mbPoison.upd v bad, mxTrouble := x.mxTrouble.upd (mbKey v) trb }

/-- The vectors of MA or MB that a running MMUL reads and this range meets (R89). -/
def TileSt.mmulReads (x : TileSt) (c dst a n : Nat) : Bool :=
  let r := if dst = 0 then x.mxA else x.mxB
  decide (c < x.mmulUntil) && decide (a < r.1 + r.2) && decide (r.1 < a + n)

/-- Elements of a source vector: 256 to a half row, or the head dimension of a K8 page, which the word does not carry: it is free (DESIGN CHOICE,
log entry 80). -/
def mldDim (w : Nat) : Nat := if bits w 57 56 = 1 then 64 * 2 ^ (Config.headDim w % 3) else 256
/-- Vectors that an MLD loads: those that lie in its rows (R86, R128). -/
def mldVecs (w : Nat) : Nat := 512 / mldDim w * (bits w 45 40 + 1)
/-- The row that holds the E8s, and the byte of the first of them: the row after the data, or page row 63 at the number of the first slot. -/
def mldExpRow (w : Nat) : Nat := if bits w 57 56 = 1 then bits w 55 46 / 64 * 64 + 63 else bits w 55 46 + (bits w 45 40 + 1)
def mldExpByte (w : Nat) : Nat := if bits w 57 56 = 1 then bits w 55 46 % 64 * (512 / mldDim w) else 0
def mldRows (w : Nat) : List Nat := rowRun (bits w 55 46) (bits w 45 40 + 1) ++ [mldExpRow w]
/-- The form of an MLD: KIND 11, reserved bits, a destination past the store's end, or rows of a K8 page that run out of it (R84; the last
DEDUCED from R128, log entry 80). -/
def mldBad (w : Nat) : Bool :=
  bits w 57 56 == 3 || bits w 32 0 != 0 || decide ((if bits w 58 58 = 0 then 64 else 128) < bits w 39 33 + mldVecs w) ||
  (bits w 57 56 == 1 && decide (64 < bits w 55 46 % 64 + (bits w 45 40 + 1)))

/-- The destinations of a refused MLD marked poisoned. -/
def State.mldPoison (s : State) (i : Issue) : State :=
  let w := i.word.toNat
  let cap := if bits w 58 58 = 0 then 64 else 128
  let a := bits w 39 33
  s.updTile i.tile.val (fun x =>
    if bits w 58 58 = 0 then { x with maPoison := x.maPoison.addRange a (min (mldVecs w) (cap - a)) }
    else { x with mbPoison := x.mbPoison.addRange a (min (mldVecs w) (cap - a)) })

/-- An accepted MLD: rows and the bytes that hold their exponents read, and the vectors loaded. -/
def State.mldAccept (s : State) (i : Issue) : State :=
  let w := i.word.toNat
  let t := i.tile.val
  let c := i.cycle.val
  let dst := bits w 58 58
  let kind := bits w 57 56
  let nr := bits w 45 40 + 1
  let v0 := bits w 39 33
  let dim := mldDim w
  let e0 := mldExpByte w
  let d := s.schedReads t c (bits w 55 46) nr
  let e := d.1.schedRead t (mldExpRow w) c
  let db := beatBytes d.2
  let eb := beatBytes e.2
  let s := (e.1.poisonSeen t d.2).poisonSeen t e.2
  s.updTile t (fun x => (upTo (mldVecs w)).foldl (fun x k =>
    let l := vecElems (decide (kind = 2)) ((db.drop (dim * k)).take dim)
    let ex := ((eb[e0 + k]?).getD 0#8).toNat
    let bad := poisonIn d.2 (dim * k) dim || poisonIn e.2 (e0 + k) 1
    let trb := troubleIn d.2 (dim * k) dim || troubleIn e.2 (e0 + k) 1
    if dst = 0 then x.putMa (v0 + k) l ex bad trb else x.putMb (v0 + k) l ex bad trb) { x with engUntil := max x.engUntil (c + nr + 1 + 4) })

def State.runMld (s : State) (i : Issue) : State :=
  let w := i.word.toNat
  let t := i.tile.val
  let c := i.cycle.val
  let x := s.tile t
  if bits w 63 59 != 1 then s.mxOther i
  else if c < x.fusedUntil && x.fusedMx then (s.engRefuse i 1 0x1024 TILE_ENG_STATUS_MX_REFUSED).mldPoison i
  else if mldBad w || x.mmulReads c (bits w 58 58) (bits w 39 33) (mldVecs w) then
    (s.engRefuse i 1 0x1021 TILE_ENG_STATUS_MX_REFUSED).mldPoison i
  else if s.portClash t c 1 w (mldRows w) then (s.portRefuse i TILE_ENG_STATUS_MX_REFUSED (bits w 55 46)).mldPoison i
  else (s.portClaim t c 1 w (mldRows w)).mldAccept i

/-- MLD (R89). -/
def execMld (i : Issue) (s : State) : Host.Outcome State Fault Refusal :=
  s.issue i 1 (fun s => (s.setReg TILE_ENG_STATUS_MX_REFUSED i.tile.val 0 1).mldPoison i) (fun s => s.runMld i)

/-! ### MMUL (R85 to R87) -/

/-- Ms and Ns of Table 4-2. -/
def mmShape (m : Nat) : Nat × Nat := if m = 1 then (1, 64) else if m = 2 then (2, 32) else if m ≤ 4 then (4, 16) else (8, 8)
/-- Product cycles of R86 for a depth of `per` elements a cycle. -/
def mmCycles (m n k per : Nat) : Nat := ceilDiv m (mmShape m).1 * ceilDiv n (mmShape m).2 * (k / per)

/-- The dot product of two vectors over their first `k` elements. -/
def dotK (k : Nat) (a b : List Int) : Int := (upTo k).foldl (fun acc j => acc + (a.getD j 0) * (b.getD j 0)) 0

/-- A vector shifted right to a larger exponent, rounding as in R61; a vector with E8 = 0 is zero. -/
def alignVec (emax e : Nat) (l : List Int) : List Int :=
  if e = 0 then l.map (fun _ => 0) else l.map (fun x => rneScale x ((e : Int) - emax))

/-- The fields of MMUL (Table 4-5). -/
structure MmF where
  m : Nat
  n : Nat
  k : Nat
  trb : Bool
  q4 : Bool
  acc : Bool
  a : Nat
  b : Nat
  c : Nat

def mmF (w : Nat) : MmF :=
  { m := bits w 58 53 + 1, n := 8 * (bits w 52 48 + 1), k := 16 * (bits w 47 44 + 1), trb := bitAt w 43, q4 := bitAt w 42,
    acc := bitAt w 41, a := bits w 40 35, b := bits w 34 28, c := bits w 27 17 }

/-- Vectors of MB that the product reads: N of depth K, or with TRB = 1 K of length N. -/
def MmF.bCount (f : MmF) : Nat := if f.trb then f.k else f.n

/-- R87 and the field ranges of R84. -/
def MmF.bad (f : MmF) : Bool :=
  decide (2048 < f.c + f.m * f.n) || decide (64 < f.a + f.m) || decide (128 < f.b + f.bCount) || (f.trb && decide (128 < f.k))

/-- The product's element [i][j], its exponent pair, and the vectors of B that it takes. -/
def TileSt.mmElem (x : TileSt) (f : MmF) (bs : List (List Int)) (emax : Nat) (i j : Nat) : Int × (Nat × Nat) × List Nat :=
  let a := x.ma.get (f.a + i) []
  if f.trb then
    ((upTo f.k).foldl (fun acc k => acc + a.getD k 0 * ((bs.getD k []).getD j 0)) 0, (x.maExp.get (f.a + i) 0, emax), rowRun f.b f.k)
  else (dotK f.k a (bs.getD j []), (x.maExp.get (f.a + i) 0, x.mbExp.get (f.b + j) 0), [f.b + j])

/-- The accumulators after the product. A sum outside ACC32 is held at the bound crossed: the spec does not say what becomes of one (DESIGN
CHOICE, log entry 79). -/
def TileSt.mmul (x : TileSt) (f : MmF) : TileSt :=
  let es := (upTo f.bCount).map (fun k => x.mbExp.get (f.b + k) 0)
  let emax := es.foldl max 0
  let bs := (upTo f.bCount).map (fun k =>
    if f.trb then alignVec emax (x.mbExp.get (f.b + k) 0) (x.mb.get (f.b + k) []) else x.mb.get (f.b + k) [])
  (upTo (f.m * f.n)).foldl (fun y q =>
    let r := x.mmElem f bs emax (q / f.n) (q % f.n)
    let old := if f.acc then x.mc.get (f.c + q) 0 else 0
    { y with mc := y.mc.put (f.c + q) (satSym 2147483647 (old + r.1)), mcExp := y.mcExp.put (f.c + q) r.2.1,
             mcPoison := y.mcPoison.upd (f.c + q)
               (x.maPoison.mem (f.a + q / f.n) || r.2.2.any x.mbPoison.mem || (f.acc && x.mcPoison.mem (f.c + q)))
             mxTrouble := y.mxTrouble.upd (mcKey (f.c + q))
               (x.mxTrouble.mem (f.a + q / f.n) || r.2.2.any (fun v => x.mxTrouble.mem (mbKey v)) || (f.acc && x.mxTrouble.mem (mcKey (f.c + q)))) }) x

def State.mmulPoison (s : State) (i : Issue) : State :=
  let f := mmF i.word.toNat
  s.updTile i.tile.val (fun x => { x with mcPoison := x.mcPoison.addRange f.c (min (f.m * f.n) (2048 - f.c)) })

def State.runMmul (s : State) (i : Issue) : State :=
  let w := i.word.toNat
  let t := i.tile.val
  let c := i.cycle.val
  let f := mmF w
  let x := s.tile t
  if bits w 63 59 != 2 then s.mxOther i
  else if c < x.fusedUntil && x.fusedMx then (s.engRefuse i 1 0x1024 TILE_ENG_STATUS_MX_REFUSED).mmulPoison i
  else if bits w 16 0 != 0 || f.bad || decide (c < x.mxUntil) then (s.engRefuse i 1 0x1021 TILE_ENG_STATUS_MX_REFUSED).mmulPoison i
  else
    let u := c + mmCycles f.m f.n f.k (if f.q4 then 16 else 8) + 6
    s.updTile t (fun x => { (x.mmul f) with mxUntil := u, mmulUntil := u, mxA := (f.a, f.m), mxB := (f.b, f.bCount) })

/-- MMUL (R86). -/
def execMmul (i : Issue) (s : State) : Host.Outcome State Fault Refusal :=
  s.issue i 1 (fun s => (s.setReg TILE_ENG_STATUS_MX_REFUSED i.tile.val 0 1).mmulPoison i) (fun s => s.runMmul i)

/-! ### MOUT (R88) -/

/-- An accumulator as FP32, and whether it is poisoned. -/
def TileSt.mcValue (x : TileSt) (k : Nat) : Nat × Bool :=
  let e := x.mcExp.get k (0, 0)
  if e.1 = 255 || e.2 = 255 || x.mcPoison.mem k then (0, true)
  else if e.1 = 0 || e.2 = 0 then (0, false)
  else (fofScaled (x.mc.get k 0) ((e.1 : Int) + e.2 - 254), false)

/-- Words as beats of 16, each poisoned, or flagged, where a word of it is. -/
def wordBeats (l : List (Nat × Bool × Bool)) : List Beat :=
  (chunksOf 16 l.length l).map (fun g => beatOf (g.flatMap (fun v => bytesOf 4 v.1)) 0 (g.any (·.2.1)) (g.any (·.2.2)))

/-- Writes `n` bytes' worth of beats to whole rows and a last short row. -/
def State.putBeats (s : State) (t c row : Nat) (bs : List Beat) : State := s.schedWrites t c row bs (ceilDiv bs.length 8)

/-- The rows that `n` beats from a row would fill, marked poisoned. -/
def State.poisonRows (s : State) (t c row n : Nat) : State :=
  (upTo (ceilDiv n 8)).foldl (fun s k => s.poisonWords t (row + k) c (upTo (8 * min 8 (n - 8 * k)))) s

/-- Basin rows that a MOUT writes. -/
def moutRows (w : Nat) : List Nat := if bitAt w 58 then [] else rowRun (bits w 57 48) (ceilDiv (ceilDiv (bits w 31 21 + 1) 16) 8)
def State.moutPoison (s : State) (i : Issue) : State :=
  let w := i.word.toNat
  let n := bits w 31 21 + 1
  if bits w 58 58 = 0 then s.poisonRows i.tile.val i.cycle.val (bits w 57 48) (ceilDiv n 16)
  else s.updTile i.tile.val (fun x => { x with vPoison := x.vPoison.addRange (bits w 47 43) (min (ceilDiv n 32) (32 - bits w 47 43)) })

/-- An accepted MOUT: the accumulators as FP32, to vector registers or to Basin rows. -/
def State.moutAccept (s : State) (i : Issue) : State :=
  let w := i.word.toNat
  let t := i.tile.val
  let c := i.cycle.val
  let n := bits w 31 21 + 1
  let cs := bits w 42 32
  let vd := bits w 47 43
  let x := s.tile t
  let nv := ceilDiv n 32
  let vals := (upTo n).map (fun k => ((x.mcValue (cs + k)).1, (x.mcValue (cs + k)).2, x.mxTrouble.mem (mcKey (cs + k))))
  let s := s.updTile t (fun x => { x with mxUntil := c + nv + 4 })
  if bitAt w 58 then
    s.updTile t (fun x => (chunksOf 32 n vals).zipIdx.foldl (fun x g =>
      { x with vreg := x.vreg.put (vd + g.2) ((g.1.map (·.1)) ++ List.replicate (32 - g.1.length) 0),
               vPoison := x.vPoison.upd (vd + g.2) (g.1.any (·.2.1)), vTrouble := x.vTrouble.upd (vd + g.2) (g.1.any (·.2.2)),
               vPend := x.vPend.put (vd + g.2) (c + nv + 4) }) x)
  else s.putBeats t c (bits w 57 48) (wordBeats vals)

def State.runMout (s : State) (i : Issue) : State :=
  let w := i.word.toNat
  let t := i.tile.val
  let c := i.cycle.val
  let n := bits w 31 21 + 1
  let cs := bits w 42 32
  let vd := bits w 47 43
  let x := s.tile t
  let toV := bitAt w 58
  let nv := ceilDiv n 32
  if bits w 63 59 != 3 then s.mxOther i
  else if c < x.fusedUntil && x.fusedMx then (s.engRefuse i 1 0x1024 TILE_ENG_STATUS_MX_REFUSED).moutPoison i
  else if bits w 20 0 != 0 || decide (2048 < cs + n) || (toV && decide (32 < vd + nv)) || decide (c < x.mxUntil) then
    (s.engRefuse i 1 0x1021 TILE_ENG_STATUS_MX_REFUSED).moutPoison i
  else if s.portClash t c 1 w (moutRows w) then (s.portRefuse i TILE_ENG_STATUS_MX_REFUSED (bits w 57 48)).moutPoison i
  else (s.portClaim t c 1 w (moutRows w)).moutAccept i

/-- MOUT (R88). -/
def execMout (i : Issue) (s : State) : Host.Outcome State Fault Refusal :=
  s.issue i 1 (fun s => (s.setReg TILE_ENG_STATUS_MX_REFUSED i.tile.val 0 1).moutPoison i) (fun s => s.runMout i)

end Sys2Proof.Machine
end

