-- ==== Sys2Proof/Machine/Vector.lean ====
section
/-! DEFINITION. The vector engine: loads and stores, lane arithmetic, conversions, requantisation and rotation
(04_engines_attention_sampling.md R84, R90 to R92, R101, R103). -/

namespace Sys2Proof.Machine

/-! ### Fields and lanes (Table 4-7) -/

def vTy (w : Nat) : Nat := bits w 57 56
def vD (w : Nat) : Nat := bits w 55 51
def vA (w : Nat) : Nat := bits w 50 46
def vB (w : Nat) : Nat := bits w 45 41
def vC (w : Nat) : Nat := bits w 40 36
def vImm (w : Nat) : Nat := bits w 35 0

/-- The 32 words of a register. -/
def TileSt.vr (x : TileSt) (r : Nat) : List Nat := (upTo 32).map (fun j => (x.vreg.get r []).getD j 0 % 2 ^ 32)
/-- 64 BF16 lanes as FP32 words, and FP32 words rounded into 64 BF16 lanes. -/
def bfLanes (l : List Nat) : List Nat := l.flatMap (fun w => [bfToF (w % 65536), bfToF (w / 65536)])
def packBf (l : List Nat) : List Nat := (chunksOf 2 l.length (l.map fToBf)).map (fun g => g.headD 0 + 65536 * (g.drop 1).headD 0)
def TileSt.putV (x : TileSt) (r : Nat) (l : List Nat) (bad trb : Bool) (c lat : Nat) : TileSt :=
  { x with vreg := x.vreg.put r l, vPoison := x.vPoison.upd r bad, vTrouble := x.vTrouble.upd r trb, vPend := x.vPend.put r (c + lat) }
/-- A source register is poisoned; is flagged (R74). -/
def TileSt.vBad (x : TileSt) (src : List Nat) : Bool := src.any x.vPoison.mem
def TileSt.vFlag (x : TileSt) (src : List Nat) : Bool := src.any x.vTrouble.mem

/-- An INT32 result: the exact value where it fits, else open. -/
def int32 (op a b c : Nat) (v : Int) : Nat :=
  if -2147483648 ≤ v && v ≤ 2147483647 then trunc 32 v else Config.intLane op a b c % 2 ^ 32

/-- Lane operations of three operands for each TYPE: FP32 `f`; BF16, `f` rounded to BF16; INT32 `g`. -/
def lanes3 (ty : Nat) (f g : Nat → Nat → Nat → Nat) (a b c : List Nat) : List Nat :=
  let z (h : Nat → Nat → Nat → Nat) (a b c : List Nat) : List Nat := (a.zip (b.zip c)).map (fun e => h e.1 e.2.1 e.2.2)
  if ty = 1 then packBf (z f (bfLanes a) (bfLanes b) (bfLanes c)) else if ty = 2 then z g a b c else z f a b c

/-! ### Refusals (R84, R91, R93) -/

/-- A vector engine word whose opcode is not the command's: a reserved opcode is refused (R84). -/
def State.vxOther (s : State) (i : Issue) : State :=
  let o := bits i.word.toNat 63 58
  if o = 0 || (0x12 < o && o != 0x20 && o != 0x21) then s.engRefuse i 2 0x1022 TILE_ENG_STATUS_VX_REFUSED else s
/-- Refused vector command: the record, the status bit, and each destination register poisoned. -/
def State.vRefuse (s : State) (i : Issue) (code : Nat) (f : Fld) (dst : List Nat) : State :=
  (s.engRefuse i 2 code f).updTile i.tile.val (fun x => { x with vPoison := dst.foldl (fun m r => m.add r) x.vPoison })

/-- Checks of a vector command: form, an engine busy with ATTEND or SAMPLE, pending registers; then `run`. -/
def State.vIssue (s : State) (i : Issue) (bad : Bool) (src dst : List Nat) (run : State → State) : State :=
  let x := s.tile i.tile.val
  let c := i.cycle.val
  if bad || vTy i.word.toNat == 3 || dst.any (fun r => decide (32 ≤ r)) then
    s.vRefuse i 0x1022 TILE_ENG_STATUS_VX_REFUSED (dst.filter (fun r => decide (r < 32)))
  else if c < x.fusedUntil then s.vRefuse i 0x1024 TILE_ENG_STATUS_VX_REFUSED dst
  else if (src ++ dst).any (fun r => decide (c < x.vPend.get r 0)) then s.vRefuse i 0x1023 TILE_ENG_STATUS_HAZARD dst
  else run s

/-- A vector command from issue to its next state; a parity fault refuses it (R151). -/
def State.vExec (s : State) (i : Issue) (opc : Nat) (bad : Bool) (src dst : List Nat) (run : State → State) :
    Host.Outcome State Fault Refusal :=
  s.issue i 2
    (fun s => (s.setReg TILE_ENG_STATUS_VX_REFUSED i.tile.val 0 1).updTile i.tile.val
      (fun x => { x with vPoison := dst.foldl (fun m r => m.add r) x.vPoison }))
    (fun s => if bits i.word.toNat 63 58 != opc then s.vxOther i else s.vIssue i bad src dst run)

/-- An operation of up to three sources lane by lane into VD. -/
def State.vLanes (i : Issue) (src : List Nat) (lat : Nat) (f g : Nat → Nat → Nat → Nat) (s : State) : State :=
  let w := i.word.toNat
  s.updTile i.tile.val (fun x =>
    x.putV (vD w) (lanes3 (vTy w) f g (x.vr (vA w)) (x.vr (vB w)) (x.vr (vC w))) (x.vBad src) (x.vFlag src) i.cycle.val lat)

def State.vOp (s : State) (i : Issue) (opc lat n : Nat) (f g : Nat → Nat → Nat → Nat) : Host.Outcome State Fault Refusal :=
  let w := i.word.toNat
  let src := [vA w, vB w, vC w].take n
  s.vExec i opc false src [vD w] (State.vLanes i src lat f g)

/-! ### Arithmetic (R90, Table 4-8) -/

/-- VADD. -/
def execVadd (i : Issue) (s : State) : Host.Outcome State Fault Refusal :=
  s.vOp i 0x03 3 2 (fun a b _ => fadd a b) (fun a b _ => int32 3 a b 0 (sext 32 a + sext 32 b))
/-- VSUB. -/
def execVsub (i : Issue) (s : State) : Host.Outcome State Fault Refusal :=
  s.vOp i 0x04 3 2 (fun a b _ => fsub a b) (fun a b _ => int32 4 a b 0 (sext 32 a - sext 32 b))
/-- VMUL. -/
def execVmul (i : Issue) (s : State) : Host.Outcome State Fault Refusal :=
  s.vOp i 0x05 3 2 (fun a b _ => fmul a b) (fun a b _ => int32 5 a b 0 (sext 32 a * sext 32 b))
/-- VFMA: one rounding. -/
def execVfma (i : Issue) (s : State) : Host.Outcome State Fault Refusal :=
  s.vOp i 0x06 4 3 ffma (fun a b c => int32 6 a b c (sext 32 a * sext 32 b + sext 32 c))
/-- VMAX. -/
def execVmax (i : Issue) (s : State) : Host.Outcome State Fault Refusal :=
  s.vOp i 0x07 2 2 (fun a b _ => fmax a b) (fun a b _ => if sext 32 a < sext 32 b then b else a)
/-- VMIN. -/
def execVmin (i : Issue) (s : State) : Host.Outcome State Fault Refusal :=
  s.vOp i 0x08 2 2 (fun a b _ => fmin a b) (fun a b _ => if sext 32 b < sext 32 a then b else a)
/-- VEXP2; Table 4-8 gives no INT32 meaning, so those lanes are open. -/
def execVexp2 (i : Issue) (s : State) : Host.Outcome State Fault Refusal :=
  s.vOp i 0x09 5 1 (fun a _ _ => fexp2 a) (fun a _ _ => Config.intLane 9 a 0 0 % 2 ^ 32)
/-- VRCP. -/
def execVrcp (i : Issue) (s : State) : Host.Outcome State Fault Refusal :=
  s.vOp i 0x0A 5 1 (fun a _ _ => frcp a) (fun a _ _ => Config.intLane 10 a 0 0 % 2 ^ 32)
/-- VRSQ. -/
def execVrsq (i : Issue) (s : State) : Host.Outcome State Fault Refusal :=
  s.vOp i 0x0B 6 1 (fun a _ _ => frsq a) (fun a _ _ => Config.intLane 11 a 0 0 % 2 ^ 32)
/-- VLOG2. -/
def execVlog2 (i : Issue) (s : State) : Host.Outcome State Fault Refusal :=
  s.vOp i 0x0C 6 1 (fun a _ _ => flog2 a) (fun a _ _ => Config.intLane 12 a 0 0 % 2 ^ 32)

/-- A lane is non-zero: as a number of its type (a subnormal is zero, R61). -/
def laneSel (c a b : Nat) : Nat := if fIsZero c then b else a
/-- VSEL: VA where the lane of VC is non-zero, else VB. -/
def execVsel (i : Issue) (s : State) : Host.Outcome State Fault Refusal :=
  s.vOp i 0x0E 2 3 (fun a b c => laneSel c a b) (fun a b c => if c = 0 then b else a)

/-- The sum or the maximum of all lanes (VRED). -/
def reduceLanes (ty : Nat) (mx : Bool) (l : List Nat) : List Nat :=
  if ty = 2 then
    let v := if mx then l.tail.foldl (fun a b => if sext 32 a < sext 32 b then b else a) (l.headD 0)
      else int32 13 (l.headD 0) l.length 0 ((l.map (sext 32)).foldl (· + ·) 0)
    l.map (fun _ => v)
  else
    let r (l : List Nat) := if mx then l.tail.foldl fmax (l.headD 0) else fsum l
    if ty = 1 then packBf ((bfLanes l).map (fun _ => r (bfLanes l))) else l.map (fun _ => r l)

/-- VRED. -/
def execVred (i : Issue) (s : State) : Host.Outcome State Fault Refusal :=
  let w := i.word.toNat
  s.vExec i 0x0D false [vA w] [vD w] (fun s => s.updTile i.tile.val (fun x =>
    x.putV (vD w) (reduceLanes (vTy w) (bitAt (vImm w) 0) (x.vr (vA w))) (x.vBad [vA w]) (x.vFlag [vA w]) i.cycle.val 7))

/-- VBC: every lane takes the immediate; a BF16 lane its low half. -/
def execVbc (i : Issue) (s : State) : Host.Outcome State Fault Refusal :=
  let w := i.word.toNat
  let v := bits (vImm w) 31 0
  let lane := if vTy w = 1 then v % 65536 * 65537 else v
  s.vExec i 0x0F false [] [vD w] (fun s => s.updTile i.tile.val (fun x =>
    x.putV (vD w) (List.replicate 32 lane) false false i.cycle.val 1))

/-! ### Loads and stores -/

/-- A VLD or VST that meets an earlier scheduled access of the same cycle is refused (R116). Its own access falls on its issue (DEDUCED from its
latency and Table 5-1; log entry 81). -/
def State.portMeet (s : State) (i : Issue) : Bool := (s.tile i.tile.val).portUse.has i.cycle.val
def State.portFault (s : State) (i : Issue) : State := s.portRefuse i TILE_ENG_STATUS_VX_REFUSED (bits (vImm i.word.toNat) 11 2)
def State.portTake (s : State) (i : Issue) : State :=
  s.updTile i.tile.val (fun x => { x with portUse := x.portUse.put i.cycle.val (bits (vImm i.word.toNat) 11 2 / 128) })

/-- VLD: a quarter of a row. -/
def execVld (i : Issue) (s : State) : Host.Outcome State Fault Refusal :=
  let w := i.word.toNat
  let t := i.tile.val
  let q := vImm w % 4
  s.vExec i 0x01 false [] [vD w] (fun s =>
    if s.portMeet i then (s.portFault i).updTile t (fun x => { x with vPoison := x.vPoison.add (vD w) })
    else
      let r := (s.portTake i).schedRead t (bits (vImm w) 11 2) i.cycle.val
      let bs := (r.2.drop (2 * q)).take 2
      let d := beatBytes bs
      (r.1.poisonSeen t bs).updTile t (fun x =>
        x.putV (vD w) ((upTo 32).map (word32 d)) (bs.any (·.poison)) (bs.any (·.trouble)) i.cycle.val 3))

/-- A quarter row stored from a register, with the other quarters left. -/
def State.storeQuarter (s : State) (i : Issue) (bad trb : Bool) : State :=
  let w := i.word.toNat
  let t := i.tile.val
  let q := vImm w % 4
  let d := ((s.tile t).vr (vA w)).flatMap (bytesOf 4)
  let z := Beat.zero bad
  s.schedWrite t (bits (vImm w) 11 2) i.cycle.val
    (List.replicate (2 * q) z ++ [beatOf d 0 bad trb, beatOf d 64 bad trb]) (quarterWords q)

/-- VST. -/
def execVst (i : Issue) (s : State) : Host.Outcome State Fault Refusal :=
  let w := i.word.toNat
  let t := i.tile.val
  let poisonDst (s : State) := s.poisonWords t (bits (vImm w) 11 2) i.cycle.val (quarterWords (vImm w % 4))
  s.issue i 2 (fun s => poisonDst (s.setReg TILE_ENG_STATUS_VX_REFUSED t 0 1)) (fun s =>
    let x := s.tile t
    if bits w 63 58 != 2 then s.vxOther i
    else if vTy w == 3 then poisonDst (s.engRefuse i 2 0x1022 TILE_ENG_STATUS_VX_REFUSED)
    else if i.cycle.val < x.fusedUntil then poisonDst (s.engRefuse i 2 0x1024 TILE_ENG_STATUS_VX_REFUSED)
    else if i.cycle.val < x.vPend.get (vA w) 0 then poisonDst (s.engRefuse i 2 0x1023 TILE_ENG_STATUS_HAZARD)
    else if s.portMeet i then poisonDst (s.portFault i)
    else (s.portTake i).storeQuarter i (x.vBad [vA w]) (x.vFlag [vA w]))

/-! ### Conversions (Table 4-9) -/

/-- Registers of 32 words from a list. -/
def putRegs (x : TileSt) (vd : Nat) (l : List Nat) (bad trb : Bool) (c lat : Nat) : TileSt :=
  (chunksOf 32 l.length l).zipIdx.foldl (fun x g => x.putV (vd + g.2) g.1 bad trb c lat) x

/-- Sources, and number of destination registers, of a conversion. -/
def cvtSrc (w : Nat) : List Nat := if vImm w % 16 = 0 || vImm w % 16 = 1 || vImm w % 16 = 4 then [vA w, vB w] else [vA w]
def cvtDst (w : Nat) : List Nat :=
  (upTo (if vImm w % 16 = 0 then 2 else if vImm w % 16 = 1 then 4 else 1)).map (· + vD w)

/-- One block-scaled element. -/
def scaledElem (e : Nat) (q : Int) : Nat := if e = 0 then 0 else fofScaled q ((e : Int) - 127)

/-- The words a conversion yields, and whether it yields poison of its own (an E8 of 255). -/
def TileSt.cvt (x : TileSt) (w : Nat) : List Nat × Bool :=
  let a := x.vr (vA w)
  let b := x.vr (vB w)
  let e := b.headD 0 % 256
  let bytes := a.flatMap (bytesOf 4)
  match vImm w % 16 with
  | 0 => ((bytes.take 64).map (fun y => scaledElem e (sext 8 y.toNat)), decide (e = 255))
  | 1 => ((bytes.take 64).flatMap (fun y => [scaledElem e (sext 4 y.toNat), scaledElem e (sext 4 (y.toNat / 16))]), decide (e = 255))
  | 2 => (a.map (fun y => fofScaled (sext 32 y) ((bits (vImm w) 11 4 : Int) - 127)), false)
  | 3 => ((bfLanes a).take 32, false)
  | 4 => (packBf (a ++ b), false)
  | 5 => (a.map (fun y => fofInt (sext 32 y)), false)
  | _ => (a.map (fun y => trunc 32 (ftoInt y)), false)

/-- VCVT. -/
def execVcvt (i : Issue) (s : State) : Host.Outcome State Fault Refusal :=
  let w := i.word.toNat
  s.vExec i 0x10 (decide (7 ≤ vImm w % 16)) (cvtSrc w) (cvtDst w) (fun s => s.updTile i.tile.val (fun x =>
    let r := x.cvt w
    putRegs x (vD w) r.1 (r.2 || x.vBad (cvtSrc w)) (x.vFlag (cvtSrc w)) i.cycle.val 3))

/-! ### VQNT (R92, Table 4-10) -/

/-- Saturation and underflow of a VQNT or a root CMRG: VSAT, VUNDF, the totals, the records, the report. -/
def State.vTrouble (s : State) (i : Issue) (unit : Nat) (bl : List QBlock) : State :=
  let t := i.tile.val
  let sats := (bl.filter (·.sat)).length
  let unds := (bl.filter (·.undf)).length
  let rec1 (s : State) (code : Nat) : State :=
    (s.tileRecord t { code := code, unit := unit, cycle := i.cycle.val, seqoff := i.entry.val }).reportRec t
  let s := if sats = 0 then s else rec1 ((s.setReg TILE_NUM_STATUS_VSAT t 0 1).addReg TILE_SAT_TOTAL_TOTAL t 0 sats) 0x2001
  if unds = 0 then s else rec1 ((s.setReg TILE_NUM_STATUS_VUNDF t 0 1).addReg TILE_UNDF_TOTAL_TOTAL t 0 unds) 0x2002

/-- FP32 words as bytes. -/
def wordBytes (l : List Nat) : List Byte := l.flatMap (bytesOf 4)

/-- The words of `row` that an output block of VQNT takes. -/
def qntWords (half : Nat) (a4 : Bool) : List Nat := (upTo (if a4 then 16 else 32)).map (· + 32 * half)

/-- Basin rows that a VQNT writes. -/
def vqntRows (w : Nat) : List Nat := [bits w 50 41, bits w 39 30, bits w 15 6, bits w 15 6 + 1]
def State.vqntPoison (s : State) (i : Issue) : State :=
  let w := i.word.toNat
  let t := i.tile.val
  let c := i.cycle.val
  let s := s.poisonWords t (bits w 50 41) c (qntWords (bits w 40 40) (bitAt w 16))
  let s := s.poisonWords t (bits w 39 30) c [bits w 29 21 / 8]
  (s.poisonWords t (bits w 15 6) c allWords).poisonWords t (bits w 15 6 + 1) c allWords

/-- An accepted VQNT: a block of 256 words quantised; its data, its exponent byte and the retained words stored. -/
def State.vqntAccept (s : State) (i : Issue) : State :=
  let w := i.word.toNat
  let t := i.tile.val
  let c := i.cycle.val
  let a4 := bitAt w 16
  let x := s.tile t
  let src := (upTo 8).map (· + vD w)
  let xs := src.flatMap x.vr
  let bad := x.vBad src
  let lim := limOf a4
  let q := s.quant t lim (bits w 20 17) xs
  let trb := x.vFlag src || q.2.sat || q.2.undf
  let first := x.blocks
  let half := bits w 40 40
  let data := beatsOf (if a4 then packA4 q.2.qs else packA8 q.2.qs) bad trb
  let s := q.1.schedWrite t (bits w 50 41) c (List.replicate (4 * half) (Beat.zero false) ++ data) (qntWords half a4)
  let er := bits w 39 30
  let s := if s.inProgram t er then (s.byteWrite t er (bits w 29 21) q.2.e8 bad trb c).writeTag t er else s.boundsFault t er c
  let s := s.schedWrites t c (bits w 15 6) (beatsOf (wordBytes xs) bad (x.vFlag src)) 2
  let s := (s.vTrouble i 2 [q.2]).updTile t (fun x => { x with engUntil := max x.engUntil (c + 12) })
  if q.2.sat || q.2.undf then
    s.updTile t (fun x => { x with recOps := x.recOps ++ [⟨first, 1, bits w 15 6, 256, [], 0, lim⟩] })
  else s

def State.runVqnt (s : State) (i : Issue) : State :=
  let w := i.word.toNat
  let t := i.tile.val
  let c := i.cycle.val
  let va := vD w
  let x := s.tile t
  let src := (upTo 8).map (· + va)
  if bits w 63 58 != 0x11 then s.vxOther i
  else if va % 8 != 0 || vTy w != 0 || bits w 5 0 != 0 then (s.engRefuse i 2 0x1022 TILE_ENG_STATUS_VX_REFUSED).vqntPoison i
  else if c < x.fusedUntil then (s.engRefuse i 2 0x1024 TILE_ENG_STATUS_VX_REFUSED).vqntPoison i
  else if src.any (fun r => decide (c < x.vPend.get r 0)) then (s.engRefuse i 2 0x1023 TILE_ENG_STATUS_HAZARD).vqntPoison i
  else if s.portClash t c 2 w (vqntRows w) then (s.portRefuse i TILE_ENG_STATUS_VX_REFUSED (bits w 50 41)).vqntPoison i
  else (s.portClaim t c 2 w (vqntRows w)).vqntAccept i

/-- VQNT (R92). -/
def execVqnt (i : Issue) (s : State) : Host.Outcome State Fault Refusal :=
  s.issue i 2 (fun s => (s.setReg TILE_ENG_STATUS_VX_REFUSED i.tile.val 0 1).vqntPoison i) (fun s => s.runVqnt i)

/-! ### VROT (R101, R103) -/

/-- x * c - y * s by one fused multiply-add; which product is rounded first is open. -/
def rotFirst (x y c sn : Nat) : Nat :=
  if Config.rotFirst then ffma x c (fneg (fmul y sn)) else ffma (fneg y) sn (fmul x c)
/-- x * s + y * c. -/
def rotSecond (x y c sn : Nat) : Nat :=
  if Config.rotFirst then ffma x sn (fmul y c) else ffma y c (fmul x sn)

/-- Rotation of lanes: pairs adjacent, or half-split; cosines and sines lane for lane. -/
def rotate (half : Bool) (l cs ss : List Nat) : List Nat :=
  let n := l.length
  (upTo n).map (fun j =>
    let g (m : List Nat) (k : Nat) := m.getD k 0
    if half then
      if j < n / 2 then rotFirst (g l j) (g l (j + n / 2)) (g cs j) (g ss j) else rotSecond (g l (j - n / 2)) (g l j) (g cs j) (g ss j)
    else
      if j % 2 = 0 then rotFirst (g l j) (g l (j + 1)) (g cs j) (g ss j) else rotSecond (g l (j - 1)) (g l j) (g cs j) (g ss j))

/-- VROT. -/
def execVrot (i : Issue) (s : State) : Host.Outcome State Fault Refusal :=
  let w := i.word.toNat
  let src := [vA w, vB w, vC w]
  s.vExec i 0x12 false src [vD w] (fun s => s.updTile i.tile.val (fun x =>
    let h := bitAt (vImm w) 0
    let l := if vTy w = 1 then packBf (rotate h (bfLanes (x.vr (vA w))) (bfLanes (x.vr (vB w))) (bfLanes (x.vr (vC w))))
      else if vTy w = 2 then (x.vr (vA w)).map (fun a => Config.intLane 18 a 0 0 % 2 ^ 32)
      else rotate h (x.vr (vA w)) (x.vr (vB w)) (x.vr (vC w))
    x.putV (vD w) l (x.vBad src) (x.vFlag src) i.cycle.val 4))

end Sys2Proof.Machine
end

