-- ==== Sys2Proof/Machine/Attend.lean ====
section
/-! DEFINITION. ATTEND: descriptor, slot record, page lists, entry write, scores and partials
(04_engines_attention_sampling.md R93 to R104, R106; 05 R125, R128). -/

namespace Sys2Proof.Machine

/-! ### Slot record (Table 4-11) and descriptor (Table 4-12) -/

structure SlotRec where
  verify : Bool
  occ : Bool
  req : Nat
  lc : Nat
  lp : Nat
  plslot : Nat
  ndraft : Nat
  nqt : Nat
  seed : Nat
  temp : Nat
  topp : Nat
  topk : Nat

def slotRec (b : List Byte) : SlotRec :=
  let w (j : Nat) := word32 b j
  { verify := bitAt (w 0) 26, occ := bitAt (w 0) 24, req := bits (w 0) 19 0, lc := w 1, lp := w 2, plslot := bits (w 3) 15 8,
    ndraft := bits (w 3) 7 4, nqt := bits (w 3) 3 0, seed := w 4 + w 5 * 2 ^ 32, temp := w 6, topp := w 7, topk := bits (w 8) 6 0 }

structure AttDesc where
  dver : Nat
  prefill : Nat
  dhead : Nat
  nqh : Nat
  nkv : Nat
  nqt : Nat
  qrow : Nat
  knew : Nat
  slotRow : Nat
  plRow : Nat
  scale : Nat
  freqRow : Nat
  segTok : Nat
  segRow : Nat
  rotMode : Bool
  rope : Bool
  npmax : Nat
  ppp : Nat
  win : Nat
  last : Bool
  osel : Bool
  orow : Nat
  reserved : Bool

/-- 64-bit word `j` of a descriptor. -/
def word64 (l : List Byte) (j : Nat) : Nat := numOf ((l.drop (8 * j)).take 8)

def attDesc (b : List Byte) : AttDesc :=
  let w0 := word64 b 0
  let w1 := word64 b 1
  let w2 := word64 b 2
  { dver := bits w0 63 60, prefill := bits w0 59 58, dhead := bits w0 57 56, nqh := bits w0 55 52 + 1, nkv := bits w0 51 48 + 1,
    nqt := bits w0 47 44 + 1, qrow := bits w0 43 34, knew := bits w0 33 24, slotRow := bits w0 23 14, plRow := bits w0 13 4,
    scale := bits w1 63 32, freqRow := bits w1 31 22, segTok := bits w1 21 12, segRow := bits w1 11 2, rotMode := bitAt w1 1,
    rope := bitAt w1 0, npmax := bits w2 62 58 + 1, ppp := bits w2 57 49, win := bits w2 48 29, last := bitAt w2 28,
    osel := bitAt w2 27, orow := bits w2 26 17,
    reserved := bits w0 3 0 != 0 || bitAt w2 63 || bits w2 16 0 != 0 || word64 b 3 != 0 }

/-- Head dimension D. -/
def AttDesc.d (a : AttDesc) : Nat := 64 * 2 ^ a.dhead
/-- Queries of one KV head, M, and of the record, Q. -/
def AttDesc.m (a : AttDesc) : Nat := a.nqh * a.nqt
def AttDesc.q (a : AttDesc) : Nat := a.nkv * a.m
/-- Page capacity in positions (R129). -/
def pageCapacity (d h : Nat) : Nat := min 128 (32256 / (2 * h * d))
/-- A field outside its range (R84, R94, R129). -/
def AttDesc.bad (a : AttDesc) : Bool :=
  a.dver != 1 || decide (1 < a.prefill) || a.dhead == 3 || (a.prefill == 0 && decide (9 < a.nqt)) || a.reserved ||
  decide ((if a.dhead = 2 then 64 else 128) < a.m) || a.ppp == 0 || decide (pageCapacity a.d a.nkv < a.ppp) ||
  (a.dhead == 2 && a.rope && a.freqRow == 1023)

/-- The duration T and its parts (R94). -/
def AttDesc.n (a : AttDesc) : Nat := a.npmax * a.ppp
def AttDesc.w (a : AttDesc) : Nat := 8 + 2 * a.nkv * a.nqt
def AttDesc.p (a : AttDesc) : Nat := mmCycles a.m a.n a.d 8
def AttDesc.sm (a : AttDesc) : Nat := 4 * ceilDiv (a.m * a.n) 32 + a.npmax * ceilDiv (a.m * a.d) 32
def AttDesc.b (a : AttDesc) : Nat := ceilDiv a.q 8 + a.q * a.d / 16
def AttDesc.t (a : AttDesc) : Nat := 24 + a.w + a.nkv * (2 * a.p + a.sm) + a.b + 4

/-! ### Tokens, segments, page lists -/

/-- A query token: padding, or its segment number, the row offset of its page list, and its position. -/
structure Tok where
  live : Bool
  seg : Nat
  pl : Nat
  pos : Nat

/-- R97: positions of the tokens of a batch row, run by run; `occ`: the slot is occupied (R93: else every token is padding). `e s` is (PLSLOT,
POSBASE) of segment `s`. -/
def segToks (occ : Bool) (e : Nat → Nat × Nat) : List Nat → Option (Nat × Nat) → List Tok
  | [], _ => []
  | s :: r, prev =>
    let off := match prev with
      | some (p, k) => if p = s then k + 1 else 0
      | none => 0
    (if occ && decide (s < 64) then ⟨true, s, (e s).1, (e s).2 + off⟩ else ⟨false, s, 0, 0⟩) :: segToks occ e r (some (s, off))
/-- The entry of a segment in the segment table: PLSLOT and POSBASE. -/
def segEntry (tb : List Byte) (k : Nat) : Nat × Nat := (bits (word64 tb k) 63 56, bits (word64 tb k) 31 0)

/-- R98: tokens of decode mode. -/
def decodeToks (n : Nat) (r : SlotRec) : List Tok :=
  (upTo n).map (fun k => if r.occ && decide (k < r.nqt) then ⟨true, 0, r.plslot, r.lc + k⟩ else ⟨false, 0, 0, 0⟩)

/-- A page list row: F and the page numbers. -/
structure PageList where
  first : Nat
  pages : List Nat

def pageList (b : List Byte) : PageList :=
  let c := min 32 (numOf ((b.drop 4).take 2))
  { first := word32 b 0, pages := (upTo c).map (fun k => bits (word32 b (2 + k)) 19 0) }

/-- A page-list entry that ATTEND may use: an own page in state CACHE (R125). -/
def State.ownCache (s : State) (t n : Nat) : Bool := n / 16 == t && decide (n < 917504) && (s.page n).pstate == 2

/-- R125: an entry of a page list refused: entry `k` of the list in row `r`, whose row and word the record names (Table 7-18). -/
def State.pageRefused (s : State) (t cycle r k : Nat) : State :=
  (s.setReg BSN_STATUS_PAGE_REFUSED t 0 1).tileFault t { code := 0x3002, unit := 5, cycle := cycle, detail := r % 1024 * 64 + 1 + k / 2 }

/-! ### Cache entries (R128) -/

/-- Row and byte of vector slot `sl` in a page of a slice, and of its E8. -/
def slotRow (n sl d : Nat) : Nat := n % 16 * 64 + sl * d / 512
def slotByte (sl d : Nat) : Nat := sl * d % 512
def expRow (n : Nat) : Nat := n % 16 * 64 + 63

/-- A side-effect-free view of bytes of a row range of a slice. -/
def State.rowBytes (s : State) (t r off n : Nat) : List Byte := Memory.readBytes s.mem (basinRow t r + off) n

/-- Bytes of a row as they stand. -/
def State.rowNow (s : State) (t r : Nat) : List Byte := s.rowBytes t r 0 512
/-- The 32 bytes of the descriptor that an ATTEND or SAMPLE names. -/
def State.descNow (s : State) (t w : Nat) : List Byte := ((s.rowNow t (bits w 57 48)).drop (32 * bits w 47 44)).take 32

/-- R95: one head vector written to its slot, the E8 by word merge. -/
def State.writeSlot (s : State) (t c n sl d : Nat) (qs : List Int) (e : Nat) (bad trb : Bool) : State :=
  let r := slotRow n sl d
  let b := slotByte sl d
  let w0 := b / 8
  let ws := (upTo (d / 8)).map (· + w0)
  let beats := (upTo (b / 64)).map (fun _ => Beat.zero bad) ++ beatsOf (packA8 qs) bad trb
  let s := s.storeWords t r beats ws
  s.byteWrite t (expRow n) sl e bad trb c

/-- A head vector quantised to K8 with its own needed exponent (R95). -/
def quantK8 (xs : List Nat) : List Int × Nat :=
  match eNeed 127 xs with
  | none => (xs.map (fun _ => 0), 0)
  | some e => (xs.map (fun x => (requant 127 e x).1), e)

/-- R100: the rotation angle of pair `i` at position `p`, as a fraction of 2^32 of a turn. -/
def turnFrac (f p : Nat) : Nat := p * f % 2 ^ 48 / 2 ^ 16

/-- R101, R102: a vector rotated by its position. `freq i` is f_i. -/
def rotVec (half : Bool) (freq : Nat → Nat) (p : Nat) (l : List Nat) : List Nat :=
  let n := l.length
  let a (j : Nat) : Nat := turnFrac (freq (if half then j % (n / 2) else j / 2)) p
  rotate half l ((upTo n).map (fun j => fcosTurn (a j))) ((upTo n).map (fun j => fsinTurn (a j)))

/-- A8 data in rows with the exponent row after the data: vector `v` of `d` elements as FP32; each aligned 256 elements
have one E8 (Table 3-3). `rows` is the number of data rows. -/
structure A8Src where
  data : List Byte
  exps : List Byte

def A8Src.e8 (a : A8Src) (v d : Nat) : Nat := ((a.exps[v * d / 256]?).getD 0#8).toNat
def A8Src.ints (a : A8Src) (v d : Nat) : List Int := ((a.data.drop (v * d)).take d).map (fun b => sext 8 b.toNat)
def A8Src.vec (a : A8Src) (v d : Nat) : List Nat := (a.ints v d).map (scaledElem (a.e8 v d))

/-- What computed data inherit: poison, and the trouble flag (R74). -/
structure Taint where
  bad : Bool
  trb : Bool
def Taint.none : Taint := ⟨false, false⟩
def Taint.or (a b : Taint) : Taint := ⟨a.bad || b.bad, a.trb || b.trb⟩
def taintOf (bs : List Beat) : Taint := ⟨bs.any (·.poison), bs.any (·.trouble)⟩

/-- A8 vectors read from rows. -/
def State.readA8 (s : State) (t c row nvec d : Nat) : State × A8Src × Taint :=
  let nr := ceilDiv (nvec * d) 512
  let a := s.schedReads t c row nr
  let b := a.1.schedReads t c (row + nr) (ceilDiv (ceilDiv (nvec * d) 256) 512)
  (b.1, ⟨beatBytes a.2, beatBytes b.2⟩, (taintOf a.2).or (taintOf b.2))
/-- A vector with E8 = 255 is poisoned (R60). -/
def A8Src.taint (a : A8Src) (v d : Nat) : Taint := ⟨a.e8 v d == 255, false⟩

/-! ### Entry write (R95, R96) -/

/-- One new entry vector: token `k`, head `h`, kind `v`. -/
def State.writeEntry (s : State) (t c : Nat) (a : AttDesc) (freq : Nat → Nat) (src : A8Src) (ta : Taint) (pl : PageList)
    (tok : Tok) (k h v : Nat) : State :=
  let ta := ta.or (src.taint ((k * a.nkv + h) * 2 + v) a.d)
  let x := src.vec ((k * a.nkv + h) * 2 + v) a.d
  let x := if v = 0 && a.rope then rotVec a.rotMode freq tok.pos x else x
  let q := quantK8 x
  let idx := tok.pos - pl.first
  match pl.pages[idx / a.ppp]? with
  | none => s
  | some n =>
    if s.ownCache t n then s.writeSlot t c n ((2 * h + v) * a.ppp + idx % a.ppp) a.d q.1 q.2 ta.bad ta.trb else s

/-- The new entries of one token. -/
def State.writeToken (s : State) (t c e req : Nat) (a : AttDesc) (freq : Nat → Nat) (src : A8Src) (ta : Taint) (pl : PageList)
    (tok : Tok) (k : Nat) : State :=
  if !tok.live then s
  else if tok.pos < pl.first then s
  else if pl.first + pl.pages.length * a.ppp ≤ tok.pos then
    if a.last then
      (s.setReg TILE_ENG_STATUS_CACHE_RANGE t 0 1).tileFault t
        { code := 0x8021, unit := 2, cycle := c, seqoff := e, req := some req }
    else s
  else
    (upTo a.nkv).foldl (fun s h => (upTo 2).foldl (fun s v => s.writeEntry t c a freq src ta pl tok k h v) s) s

/-! ### Partials (R99, R104) -/

/-- A partial: maximum, sum, weighted values. -/
structure Partial where
  m : Nat
  l : Nat
  o : List Nat
  ta : Taint

def Partial.empty (d : Nat) : Partial := ⟨fNegInf, 0, List.replicate d 0, Taint.none⟩

/-- R99. -/
def visible (a : AttDesc) (lp : Nat) (tok : Tok) (j : Nat) : Bool :=
  tok.live && decide (j ≤ tok.pos) && (a.prefill == 1 || decide (j < lp)) && (a.win == 0 || decide (tok.pos - j < a.win))

/-- Rows of a page that hold entries: those of the vectors, and row 63 (R128). -/
def entryRows (n h ppp d : Nat) : List Nat := rowRun (n % 16 * 64) (ceilDiv (2 * h * ppp * d) 512) ++ [expRow n]
/-- The reads of the pages that ATTEND scans, with correction and poison (R104, R117, R118). -/
def State.readPages (s : State) (t c : Nat) (a : AttDesc) (ns : List Nat) : State :=
  ns.foldl (fun s n => (entryRows n a.nkv a.ppp a.d).foldl (fun s r => (s.readRow t r c true).1) s) s

/-- K or V vector of an entry of a page, its E8, and what it hands on: a word that the reads found bad, an E8 of 255 (R60). -/
def State.slotVec (s : State) (t n sl d : Nat) : List Int × Nat × Taint :=
  let ws := rowRun (slotRow n sl d * 64 + slotByte sl d / 8) (d / 8) ++ [expRow n * 64 + sl / 8]
  let e := (Memory.read s.mem (basinRow t (expRow n) + sl)).toNat
  ((s.rowBytes t (slotRow n sl d) (slotByte sl d) d).map (fun x => sext 8 x.toNat), e,
    ⟨ws.any (s.tile t).poisonMark.mem || e == 255, ws.any (s.tile t).troubleMark.mem⟩)

/-- One score: SCALE times the dot product at the exponents of query and key. -/
def score (scale : Nat) (q : List Int) (eq : Nat) (k : List Int) (ek : Nat) : Nat :=
  fmul scale (if eq = 0 || ek = 0 then 0 else fofScaled (dotK q.length q k) ((eq : Int) + ek - 254))

/-- round(127 * 2^(s - m)) as an integer. -/
def pqOf (s m : Nat) : Int := ftoInt (fmul (fofInt 127) (fexp2 (fsub s m)))

/-- One page added to a partial: `ss` the scores (-inf where masked), `vs` the V vectors with their exponents. -/
def Partial.page (p : Partial) (ss : List Nat) (vs : List (List Int × Nat)) (ta : Taint) : Partial :=
  let mNew := ss.foldl fmax p.m
  if isNegInf mNew then p
  else
    let f := if isNegInf p.m then 0 else fexp2 (fsub p.m mNew)
    let pq := ss.map (fun s => if isNegInf s then 0 else pqOf s mNew)
    let emax := (vs.map (·.2)).foldl max 0
    let al := vs.map (fun v => alignVec emax v.2 v.1)
    let c127 := fofInt 127
    let l := fadd (fmul p.l f) (fdiv (fofInt (pq.foldl (· + ·) 0)) c127)
    let o := p.o.zipIdx.map (fun e =>
      let n := (pq.zip al).foldl (fun acc x => acc + x.1 * (x.2.getD e.2 0)) 0
      let v := if emax = 0 then 0 else fofScaled n ((emax : Int) - 127)
      fadd (fmul e.1 f) (fdiv v c127))
    ⟨mNew, l, o, p.ta.or ta⟩

/-- The partial of one query vector over the listed pages, with the number of keys it sees. -/
def State.partialOf (s : State) (t : Nat) (a : AttDesc) (lp : Nat) (tok : Tok) (pl : PageList) (h : Nat) (q : List Int) (eq : Nat)
    (qta : Taint) : Partial × Nat :=
  if !tok.live then (Partial.empty a.d, 0)
  else
    let r := (pl.pages.take a.npmax).zipIdx.foldl (fun (acc : Partial × Nat) g =>
      let ok := s.ownCache t g.1
      let vis (e : Nat) : Bool := ok && visible a lp tok (pl.first + g.2 * a.ppp + e)
      let es := upTo a.ppp
      let ks := es.map (fun e => s.slotVec t g.1 (2 * h * a.ppp + e) a.d)
      let vs := es.map (fun e => s.slotVec t g.1 ((2 * h + 1) * a.ppp + e) a.d)
      let ss := (es.zip ks).map (fun e => if vis e.1 then score a.scale q eq e.2.1 e.2.2.1 else fNegInf)
      let seen := (es.zip (ks.zip vs)).filter (fun e => vis e.1)
      let ta := seen.foldl (fun x e => (x.or e.2.1.2.2).or e.2.2.2.2) Taint.none
      (acc.1.page ss (vs.map (fun v => (v.1, v.2.1))) ta, acc.2 + (es.filter vis).length)) (Partial.empty a.d, 0)
    ({ r.1 with ta := r.1.ta.or qta }, r.2)

/-- The partial record (R106). -/
def partialRecord (ps : List Partial) : List Beat :=
  (chunksOf 8 ps.length ps).map (fun g =>
    beatOf (wordBytes (g.flatMap (fun p => [p.m, p.l]))) 0 (g.any (·.ta.bad)) (g.any (·.ta.trb))) ++
  ps.flatMap (fun p => beatsOf (wordBytes p.o) p.ta.bad p.ta.trb)

/-! ### The command -/

/-- What MA, MB and MC hold, with exponents and poison, after ATTEND has used them is not stated: free values. -/
def State.clobberStores (s : State) (t : Nat) : State :=
  let b := s.freeCtr
  let at_ (k v : Nat) : Nat := Config.free (b + k * 65536 + v)
  let vec (k v : Nat) : List Int := (upTo 256).map (fun j => sext 8 (at_ k (v * 256 + j)))
  let exps (k n : Nat) : Map Nat := ⟨(upTo n).map (fun v => (v, at_ k v % 256))⟩
  let marks (k n : Nat) : NatSet := ⟨((upTo n).filter (fun v => at_ k v % 2 = 1)).map (fun v => (v, ()))⟩
  { s with freeCtr := b + 9 * 65536 }.updTile t (fun x => { x with
    ma := ⟨(upTo 64).map (fun v => (v, vec 0 v))⟩, mb := ⟨(upTo 128).map (fun v => (v, vec 1 v))⟩,
    mc := ⟨(upTo 2048).map (fun k => (k, sext 32 (at_ 2 k)))⟩, maExp := exps 3 64, mbExp := exps 4 128
    mcExp := ⟨(upTo 2048).map (fun k => (k, (at_ 5 (2 * k) % 256, at_ 5 (2 * k + 1) % 256)))⟩
    maPoison := marks 6 64, mbPoison := marks 7 128, mcPoison := marks 8 2048 })

/-- A stream of ATTEND or SAMPLE, whose first beat leaves in a cycle. -/
def State.streamOut (s : State) (t first : Nat) (bs : List Beat) : State :=
  s.updTile t (fun x => { x with fusedOut := bs.zipIdx.foldl (fun m e => m.put (first + e.2) e.1) x.fusedOut })
/-- The cycle in which the first beat of the partial record of an ATTEND leaves (R94). -/
def State.attFirst (s : State) (i : Issue) (a : AttDesc) : Nat := s.useCycle i + a.t - a.b
/-- The destination of an ATTEND that is not carried out: its rows, or its stream, poisoned. -/
def State.attPoison (s : State) (i : Issue) : State :=
  let t := i.tile.val
  let a := attDesc (s.descNow t i.word.toNat)
  if a.osel then s.poisonRows t i.cycle.val a.orow a.b
  else s.streamOut t (s.attFirst i a) (List.replicate a.b (Beat.zero true))
/-- A refused ATTEND: DESC_REFUSED, the record, and its destination poisoned (R84). -/
def State.attRefuse (s : State) (i : Issue) : State := (s.engRefuse i 2 0x1024 TILE_ENG_STATUS_DESC_REFUSED).attPoison i

/-- Checks shared by ATTEND and SAMPLE before the descriptor is read. -/
def State.fusedBusy (s : State) (i : Issue) (needMx : Bool) : Bool :=
  let x := s.tile i.tile.val
  let c := i.cycle.val
  decide (c < x.fusedUntil) || (needMx && decide (c < x.mxUntil))

/-- The 32 bytes of a descriptor. -/
def State.descBytes (s : State) (i : Issue) : State × List Byte × Taint :=
  let w := i.word.toNat
  let r := s.schedRead i.tile.val (bits w 57 48) i.cycle.val
  let idx := bits w 47 44
  (r.1, (beatBytes r.2 |>.drop (32 * idx)).take 32, ⟨poisonIn r.2 (32 * idx) 32, troubleIn r.2 (32 * idx) 32⟩)

/-- The tokens of the batch row with their page lists, in order. -/
def State.attToks (s : State) (i : Issue) (a : AttDesc) (r : SlotRec) : State × List Tok :=
  let t := i.tile.val
  let c := i.cycle.val
  if a.prefill = 0 then (s, decodeToks a.nqt r)
  else
    let x := s.schedRead t a.segTok c
    let y := x.1.schedRead t a.segRow c
    let tb := beatBytes y.2
    (y.1, segToks r.occ (segEntry tb) ((beatBytes x.2).take a.nqt |>.map (·.toNat)) none)

/-- Rows of A8 data of `n` vectors of `d` elements with their exponent rows. -/
def a8Rows (row n d : Nat) : List Nat := rowRun row (ceilDiv (n * d) 512 + ceilDiv (ceilDiv (n * d) 256) 512)
/-- Rows that an ATTEND reads by name: descriptor, slot record, page lists, queries, new vectors, frequencies, segments. -/
def State.attReads (s : State) (t w : Nat) : List Nat :=
  let a := attDesc (s.descNow t w)
  let r := slotRec (s.rowNow t a.slotRow)
  let toks := if a.prefill = 0 then decodeToks a.nqt r
    else segToks r.occ (segEntry (s.rowNow t a.segRow)) ((s.rowNow t a.segTok).take a.nqt |>.map (·.toNat)) none
  [bits w 57 48, a.slotRow] ++ (if a.prefill = 0 then [] else [a.segTok, a.segRow]) ++
  (((toks.filter (·.live)).map (fun k => a.plRow + k.pl)).eraseDups) ++
  (if a.rope then rowRun a.freqRow (if a.dhead = 2 then 2 else 1) else []) ++
  a8Rows a.qrow (a.nqt * a.nkv * a.nqh) a.d ++ a8Rows a.knew (a.nqt * a.nkv * 2) a.d
/-- Rows that an ATTEND reads and writes by name: its accesses in the claim map (R116). -/
def State.attRows (s : State) (t w : Nat) : List Nat :=
  let a := attDesc (s.descNow t w)
  s.attReads t w ++ (if a.osel then rowRun a.orow (ceilDiv a.b 8) else [])

/-- Page lists by their row offset, each row read once. -/
def State.attLists (s : State) (t c plRow : Nat) : List Nat → State × Map PageList
  | [] => (s, Map.empty)
  | k :: r =>
    let x := s.schedRead t (plRow + k) c
    let y := State.attLists x.1 t c plRow r
    (y.1, y.2.put k (pageList (beatBytes x.2)))

/-- Entries of a page list that R125 refuses, by number. -/
def State.badPages (s : State) (t n : Nat) (l : PageList) : List Nat :=
  (upTo (min n l.pages.length)).filter (fun k => !s.ownCache t (l.pages.getD k 0))
/-- Pages that the lists name and ATTEND reads. -/
def State.scanned (s : State) (t n : Nat) (ls : List PageList) : List Nat := ((ls.flatMap (fun l => l.pages.take n)).filter (s.ownCache t)).eraseDups

def State.runAttendDesc (s : State) (i : Issue) (a : AttDesc) (dta : Taint) : State :=
  let t := i.tile.val
  let c := i.cycle.val
  let e := i.entry.val
  let sr := s.schedRead t a.slotRow c
  let r := slotRec ((beatBytes sr.2).take 64)
  let tk := sr.1.attToks i a r
  let toks := tk.2
  let ls := tk.1.attLists t c a.plRow (((toks.filter (·.live)).map (·.pl)).eraseDups)
  let pl (k : Tok) : PageList := ls.2.get k.pl ⟨0, []⟩
  let s := ls.1
  let s := ls.2.entries.foldl (fun s x => (s.badPages t a.npmax x.2).foldl (fun s k => s.pageRefused t c (a.plRow + x.1) k) s) s
  let fr := if a.rope then s.schedReads t c a.freqRow (if a.dhead = 2 then 2 else 1) else (s, [])
  let fb := beatBytes fr.2
  let freq (k : Nat) : Nat := word64 fb k % 2 ^ 48
  let q := fr.1.readA8 t c a.qrow (a.nqt * a.nkv * a.nqh) a.d
  let kn := q.1.readA8 t c a.knew (a.nqt * a.nkv * 2) a.d
  let ta := (dta.or (taintOf sr.2)).or (taintOf fr.2)
  let s := (toks.zipIdx).foldl (fun s x => s.writeToken t c e r.req a freq kn.2.1 (ta.or kn.2.2) (pl x.1) x.1 x.2) kn.1
  let s := s.readPages t c a (s.scanned t a.npmax (ls.2.entries.map (·.2)))
  let ps := toks.zipIdx.flatMap (fun x => (upTo a.nkv).flatMap (fun h => (upTo a.nqh).map (fun g =>
    let v := (x.2 * a.nkv + h) * a.nqh + g
    let qq : List Int × Nat := if a.rope then
        quantK8 (rotVec a.rotMode freq x.1.pos (q.2.1.vec v a.d))
      else (q.2.1.ints v a.d, q.2.1.e8 v a.d)
    s.partialOf t a r.lp x.1 (pl x.1) h qq.1 qq.2 ((ta.or q.2.2).or (q.2.1.taint v a.d)))))
  let recd := partialRecord (ps.map (·.1))
  let seen := (ps.map (·.2)).foldl (· + ·) 0
  let s := (if ps.any (·.1.ta.bad) then s.reportFault t else s).clobberStores t
  let s := s.updTile t (fun x => { x with
    fusedUntil := c + a.t, fusedMx := true, mxUntil := c + a.t, attShape := (a.q, a.d)
    attPend := some (min seen (2 ^ 20 - 1) * 4096 + (toks.filter (·.live)).length % 16) })
  if a.osel then s.putBeats t c a.orow recd else s.streamOut t (s.attFirst i a) recd

def State.runAttend (s : State) (i : Issue) : State :=
  let w := i.word.toNat
  let t := i.tile.val
  let c := i.cycle.val
  if bits w 63 58 != 0x20 then s.vxOther i
  else if bits w 43 0 != 0 || s.fusedBusy i true || (s.inProgram t (bits w 57 48) && (attDesc (s.descNow t w)).bad) then s.attRefuse i
  else if s.portClash t c 2 w (s.attRows t w) then (s.portRefuse i TILE_ENG_STATUS_VX_REFUSED (bits w 57 48)).attPoison i
  else
    let d := (s.portClaim t c 2 w (s.attRows t w)).descBytes i
    let a := attDesc d.2.1
    if a.bad then d.1.attRefuse i else d.1.runAttendDesc i a d.2.2

/-- ATTEND (R94). -/
def execAttend (i : Issue) (s : State) : Host.Outcome State Fault Refusal :=
  s.issue i 2 (fun s => (s.setReg TILE_ENG_STATUS_DESC_REFUSED i.tile.val 0 1).attPoison i) (fun s => s.runAttend i)

end Sys2Proof.Machine
end

