-- ==== Sys2Proof/Machine/Sample.lean ====
section
/-! DEFINITION. SAMPLE: sampler records of a leaf, and the drawing and verifying of tokens at a root
(04_engines_attention_sampling.md R109 to R113). -/

namespace Sys2Proof.Machine

structure SmpDesc where
  dver : Nat
  root : Bool
  lkind : Nat
  aexp : Nat
  lrow : Nat
  nlog : Nat
  tok0 : Nat
  slotRow : Nat
  draftRow : Nat
  mrow : Nat
  orow : Nat
  osel : Bool
  nqt : Nat
  reserved : Bool

def smpDesc (b : List Byte) : SmpDesc :=
  let w0 := word64 b 0
  let w1 := word64 b 1
  { dver := bits w0 63 60, root := bitAt w0 59, lkind := bits w0 58 57, aexp := bits w0 56 49, lrow := bits w0 48 39,
    nlog := bits w0 38 27 + 1, tok0 := bits w0 26 7, slotRow := bits w1 63 54, draftRow := bits w1 53 44, mrow := bits w1 43 34,
    orow := bits w1 33 24, osel := bitAt w1 23, nqt := bits w1 22 19 + 1
    reserved := bits w0 6 0 != 0 || bits w1 18 0 != 0 || word64 b 2 != 0 || word64 b 3 != 0 }

def SmpDesc.bad (a : SmpDesc) : Bool := a.dver != 1 || a.lkind == 3 || decide (9 < a.nqt) || a.reserved
/-- The duration (R113). -/
def SmpDesc.t (a : SmpDesc) : Nat := if a.root then 24 + 40 * a.nqt else 16 + a.nqt * (2 * ceilDiv a.nlog 32 + 12)

/-! ### Scaling and weights (R109) -/

/-- log2 e in FP32. -/
def fLog2e : Nat := 0x3FB8AA3B
/-- TEMP is +0 or -0. -/
def tempZero (w : Nat) : Bool := w % 2 ^ 31 == 0
/-- TEMP clamped to 2^-8 to 2^8; a positive subnormal is clamped, not flushed. -/
def tempClamp (w : Nat) : Nat :=
  let lo := (127 - 8) * 2 ^ 23
  let hi := (127 + 8) * 2 ^ 23
  if w < lo then lo else if hi < w then hi else w
/-- z of a logit. The roundings of x * log2 e / T are not stated: a finite word is free within 2 words of one way to form it; an infinity
and NaN stay what they are. -/
def scaleLogit (temp x : Nat) : Nat :=
  if tempZero temp then x
  else
    let z := fdiv (fmul x fLog2e) (tempClamp temp)
    if bits z 30 23 = 255 then z else pickUlp (Config.approx 7 (x * 2 ^ 32 + tempClamp temp)) z 2

/-- The weight of z against a maximum. -/
def weight (z m : Nat) : Nat :=
  if isNegInf z then 0
  else if fdec z == fdec m || (fIsZero z && fIsZero m) then fOne
  else if fdec m == .inf false then 0
  else fexp2 (fsub z m)

/-! ### Records -/

/-- A sampler record of one position: maximum, mass, draft z, candidates in order. -/
structure SmpRec where
  mx : Nat
  mass : Nat
  dz : Nat
  cands : List (Nat × Nat)

/-- Descending z, ties by ascending token id. -/
def candLe (a b : Nat × Nat) : Bool := decide (fkey b.2 < fkey a.2) || (decide (fkey a.2 = fkey b.2) && decide (a.1 ≤ b.1))
/-- A candidate into an ordered list. -/
def candInsert (c : Nat × Nat) : List (Nat × Nat) → List (Nat × Nat)
  | [] => [c]
  | x :: r => if candLe c x then c :: x :: r else x :: candInsert c r
/-- The best 64 in order. -/
def topCands (l : List (Nat × Nat)) : List (Nat × Nat) := (l.foldl (fun acc c => (candInsert c acc).take 64) [])

/-- The larger of two maxima neither of which is NaN. -/
def zMax (a b : Nat) : Nat := if flt a b then b else a

/-- The record of a slice: `zs` pairs token id and z, ascending token id. -/
def leafRec (zs : List (Nat × Nat)) (draft : Option Nat) : SmpRec :=
  let ok := zs.filter (fun e => !isNaN e.2)
  let mx := ok.foldl (fun m e => zMax m e.2) fNegInf
  { mx := mx
    mass := ok.foldl (fun a e => fadd a (weight e.2 mx)) 0
    dz := match draft with
      | none => fNegInf
      | some d => ((ok.find? (fun e => e.1 == d)).map (·.2)).getD fNegInf
    cands := topCands (ok.filter (fun e => !isNegInf e.2)) }

/-- The nine beats of a record. -/
def SmpRec.beats (r : SmpRec) (ta : Taint) : List Beat :=
  let hdr := beatOf (wordBytes [r.mx, r.mass, r.dz, r.cands.length]) 0 ta.bad ta.trb
  let cs := (r.cands.take 64).flatMap (fun c => [c.1, c.2])
  hdr :: (upTo 8).map (fun k => beatOf (wordBytes ((cs.drop (16 * k)).take 16)) 0 ta.bad ta.trb)

/-- The record that nine beats carry. -/
def recOf (bs : List Beat) : SmpRec :=
  let b := beatBytes bs
  let n := min 64 (word32 b 3)
  { mx := word32 b 0, mass := word32 b 1, dz := word32 b 2
    cands := (upTo n).map (fun k => (word32 b (16 + 2 * k), word32 b (17 + 2 * k))) }

/-- The merge of two records (R109). -/
def SmpRec.merge (a b : SmpRec) : SmpRec :=
  let m := zMax a.mx b.mx
  { mx := m, mass := fadd (fmul a.mass (weight a.mx m)) (fmul b.mass (weight b.mx m))
    dz := if isNegInf a.dz then b.dz else a.dz
    cands := topCands (a.cands ++ b.cands) }

/-! ### The root (R110 to R112) -/

/-- Sum of weights added one at a time. -/
def weightSum (m : Nat) (l : List (Nat × Nat)) : Nat := l.foldl (fun a c => fadd a (weight c.2 m)) 0

/-- FP32 order: a is at least b. -/
def fge (a b : Nat) : Bool := !isNaN a && !isNaN b && !flt a b

/-- The shortest prefix of at least one token whose weights reach `goal`, or the whole list. -/
def keptPrefix (m goal : Nat) : Nat → List (Nat × Nat) → List (Nat × Nat)
  | _, [] => []
  | acc, c :: r =>
    let acc' := fadd acc (weight c.2 m)
    if fge acc' goal then [c] else c :: keptPrefix m goal acc' r

/-- The kept set of step 2. -/
def keptSet (r : SmpRec) (topk topp : Nat) : List (Nat × Nat) :=
  keptPrefix r.mx (fmul topp r.mass) 0 (if topk = 0 then r.cands else r.cands.take topk)

/-- The first token at which the running weight exceeds `goal`, else the last. -/
def drawToken (m goal : Nat) : Nat → List (Nat × Nat) → Nat
  | _, [] => 0
  | _, [c] => c.1
  | acc, c :: r =>
    let acc' := fadd acc (weight c.2 m)
    if flt goal acc' && !isNaN acc' then c.1 else drawToken m goal acc' r

/-- What the root answers: tokens, drafts accepted, NOTOKEN. -/
structure SmpOut where
  toks : List Nat
  accepted : Nat
  noToken : Bool

/-- One position: the token emitted, and whether the sampler goes on. -/
def drawPos (r : SmpRec) (sr : SlotRec) (i : Nat) (draft : Option Nat) : Option (Nat × Bool) :=
  match r.cands with
  | [] => none
  | c :: _ =>
    if tempZero sr.temp then some (c.1, draft == some c.1)
    else
      let kept := keptSet r sr.topk sr.topp
      let total := weightSum r.mx kept
      let n := sr.lc + 1 + i
      let draw (l : List (Nat × Nat)) : Nat := drawToken r.mx (fmul (drawU sr.seed n 1) (weightSum r.mx l)) 0 l
      match draft with
      | none => some (draw kept, false)
      | some d =>
        let p := match kept.find? (fun e => e.1 == d) with
          | some e => fdiv (weight e.2 r.mx) total
          | none => 0
        if flt (drawU sr.seed n 0) p && !isNaN p then some (d, true)
        else
          let rest := kept.filter (fun e => e.1 != d)
          some (draw (if rest.isEmpty then kept else rest), false)

/-- R110: the positions in order from `i`. -/
def drawAll (sr : SlotRec) (drafts : Nat → Nat) : List SmpRec → Nat → SmpOut
  | [], _ => ⟨[], 0, false⟩
  | r :: rs, i =>
    let draft := if i < sr.ndraft then some (drafts i) else none
    match drawPos r sr i draft with
    | none => ⟨[], 0, true⟩
    | some (tk, true) =>
      let o := drawAll sr drafts rs (i + 1)
      ⟨tk :: o.toks, o.accepted + 1, o.noToken⟩
    | some (tk, false) => ⟨[tk], 0, false⟩

/-- The result row (Table 4-16): its first 64 bytes. -/
def resultWords (o : SmpOut) : List Nat :=
  let hd := b2n o.noToken * 256 + o.accepted * 16 + o.toks.length
  (hd :: (o.toks.take 9).map (· % 2 ^ 20)) ++ List.replicate (15 - min 9 o.toks.length) 0

/-! ### The command -/

/-- Logits per row, and the z of the slice at position `p`. Positions follow one another, each from a new row. -/
def SmpDesc.perRow (a : SmpDesc) : Nat := if a.lkind = 2 then 256 else 128
def SmpDesc.rows (a : SmpDesc) : Nat := ceilDiv a.nlog a.perRow
def SmpDesc.logit (a : SmpDesc) (l : List Byte) (k : Nat) : Nat :=
  if a.lkind = 0 then fofScaled (sext 32 (word32 l k)) ((a.aexp : Int) - 127)
  else if a.lkind = 1 then word32 l k
  else bfToF (numOf ((l.drop (2 * k)).take 2))

/-- Positions of this step, at most the descriptor's: NQT; for a padding slot (OCC = 0) a leaf emits its records and the root produces no token
(R93, R109). -/
def smpPositions (a : SmpDesc) (sr : SlotRec) : Nat := if sr.occ || !a.root then min sr.nqt a.nqt else 0
/-- Rows that a SAMPLE reads by name: descriptor, slot record, draft tokens, and the logits of a leaf or the records of a root. -/
def State.smpReads (s : State) (t w : Nat) : List Nat :=
  let a := smpDesc (s.descNow t w)
  let r := slotRec (s.rowNow t a.slotRow)
  let n := smpPositions a r
  [bits w 57 48, a.slotRow] ++ (if r.ndraft = 0 then [] else [a.draftRow]) ++
  (if a.root then rowRun a.mrow (ceilDiv (9 * n) 8) else rowRun a.lrow (n * a.rows))
/-- Beats that a SAMPLE puts out: nine to a position of a leaf, one result of a root. -/
def State.smpBeats (s : State) (t : Nat) (a : SmpDesc) : Nat := if a.root then 1 else 9 * smpPositions a (slotRec (s.rowNow t a.slotRow))
/-- Rows that a SAMPLE reads and writes by name: its accesses in the claim map (R116). -/
def State.smpRows (s : State) (t w : Nat) : List Nat :=
  let a := smpDesc (s.descNow t w)
  s.smpReads t w ++ (if a.root || a.osel then rowRun a.orow (ceilDiv (s.smpBeats t a) 8) else [])
/-- The cycle in which the first beat of a leaf's stream of `n` beats leaves. -/
def State.smpFirst (s : State) (i : Issue) (a : SmpDesc) (n : Nat) : Nat := s.useCycle i + Config.smpFirst a.t n
/-- The destination of a SAMPLE that is not carried out: its rows, or its stream, poisoned. -/
def State.smpPoison (s : State) (i : Issue) : State :=
  let t := i.tile.val
  let a := smpDesc (s.descNow t i.word.toNat)
  let n := s.smpBeats t a
  if a.root || a.osel then s.poisonRows t i.cycle.val a.orow n
  else s.streamOut t (s.smpFirst i a n) (List.replicate n (Beat.zero true))
/-- A refused SAMPLE: DESC_REFUSED, the record, and its destination poisoned (R84). -/
def State.smpRefuse (s : State) (i : Issue) : State := (s.engRefuse i 2 0x1024 TILE_ENG_STATUS_DESC_REFUSED).smpPoison i

/-- One leaf record from `rows` rows of logits; `ta`: what the descriptor, the slot record and the drafts hand on. -/
def State.leafPos (s : State) (t c : Nat) (a : SmpDesc) (sr : SlotRec) (drafts : Nat → Nat) (ta : Taint) (p : Nat) : State × List Beat :=
  let r := s.schedReads t c (a.lrow + p * a.rows) a.rows
  let l := beatBytes r.2
  let zs := (upTo a.nlog).map (fun k => (a.tok0 + k, scaleLogit sr.temp (a.logit l k)))
  let ta := ta.or (taintOf r.2)
  ((if ta.bad then r.1.reportFault t else r.1), (leafRec zs (if p < sr.ndraft then some (drafts p) else none)).beats ta)

def State.runLeaf (s : State) (i : Issue) (a : SmpDesc) (sr : SlotRec) (drafts : Nat → Nat) (ta : Taint) : State :=
  let t := i.tile.val
  let c := i.cycle.val
  let r := (upTo (smpPositions a sr)).foldl (fun (x : State × List Beat) p =>
    let y := x.1.leafPos t c a sr drafts ta p
    (y.1, x.2 ++ y.2)) (s, [])
  let s := r.1.updTile t (fun x => { x with fusedUntil := c + a.t, fusedMx := false })
  if a.osel then s.putBeats t c a.orow r.2 else s.streamOut t (s.smpFirst i a r.2.length) r.2

/-- R111: a position without candidates. -/
def State.noToken (s : State) (i : Issue) (sr : SlotRec) : State :=
  (s.setReg TILE_ENG_STATUS_SMP_NOTOKEN i.tile.val 0 1).tileRecord i.tile.val
    { code := 0x2008, unit := 2, cycle := i.cycle.val, seqoff := i.entry.val, req := some sr.req }

def State.runRoot (s : State) (i : Issue) (a : SmpDesc) (sr : SlotRec) (drafts : Nat → Nat) (ta : Taint) : State :=
  let t := i.tile.val
  let c := i.cycle.val
  let n := smpPositions a sr
  let r := s.schedReads t c a.mrow (ceilDiv (9 * n) 8)
  let recs := (upTo n).map (fun p => recOf ((r.2.drop (9 * p)).take 9))
  let o := drawAll sr drafts recs 0
  let ta := ta.or (taintOf (r.2.take (9 * n)))
  let s := if ta.bad then r.1.reportFault t else r.1
  let s := if o.noToken then s.noToken i sr else s
  let s := s.updTile t (fun x => { x with
    fusedUntil := c + a.t, fusedMx := false
    smpPend := some (o.toks.length % 16 * 2 ^ 28 + o.accepted % 16 * 2 ^ 24 + (o.toks.getLast?.getD 0) % 2 ^ 20) })
  s.schedWrite t a.orow c (beatsOf (wordBytes (resultWords o)) ta.bad ta.trb) (upTo 8)

def State.runSample (s : State) (i : Issue) : State :=
  let w := i.word.toNat
  let t := i.tile.val
  let c := i.cycle.val
  if bits w 63 58 != 0x21 then s.vxOther i
  else if bits w 43 0 != 0 || s.fusedBusy i false || (s.inProgram t (bits w 57 48) && (smpDesc (s.descNow t w)).bad) then s.smpRefuse i
  else if s.portClash t c 2 w (s.smpRows t w) then (s.portRefuse i TILE_ENG_STATUS_VX_REFUSED (bits w 57 48)).smpPoison i
  else
    let d := (s.portClaim t c 2 w (s.smpRows t w)).descBytes i
    let a := smpDesc d.2.1
    if a.bad then d.1.smpRefuse i
    else
      let x := d.1.schedRead t a.slotRow c
      let sr := slotRec ((beatBytes x.2).take 64)
      let y := if sr.ndraft = 0 then (x.1, []) else x.1.schedRead t a.draftRow c
      let db := beatBytes y.2
      let drafts (k : Nat) : Nat := word32 db k
      let ta := (d.2.2.or (taintOf x.2)).or (taintOf y.2)
      if a.root then y.1.runRoot i a sr drafts ta else y.1.runLeaf i a sr drafts ta

/-- SAMPLE (R110). -/
def execSample (i : Issue) (s : State) : Host.Outcome State Fault Refusal :=
  s.issue i 2 (fun s => (s.setReg TILE_ENG_STATUS_DESC_REFUSED i.tile.val 0 1).smpPoison i) (fun s => s.runSample i)

end Sys2Proof.Machine
end

