-- ==== Sys2Proof/Machine/Conf.lean ====
section
/-! DEFINITION. The Confluence unit: CMRG over attention partials and sampler records
(04_engines_attention_sampling.md R105 to R107, R109). -/

namespace Sys2Proof.Machine

structure CmrgF where
  kind : Nat
  ina : Nat
  inb : Nat
  loc : Nat
  ldelay : Nat
  root : Bool
  brow : Nat
  ofmt : Nat
  pred : Nat
  retRow : Nat
  nb : Nat

def cmrgF (w : Nat) : CmrgF :=
  { kind := bits w 58 58, ina := bits w 57 55, inb := bits w 54 52, loc := bits w 51 50, ldelay := bits w 49 42, root := bitAt w 41,
    brow := bits w 40 31, ofmt := bits w 30 29, pred := bits w 28 25, retRow := bits w 24 15, nb := bits w 14 4 + 1 }

/-- An incoming beat that is absent is a poisoned zero beat, with code 0x1025 (R107); at the router it is MISSING, with code 0x1041 (R148). -/
def State.confBeat (s : State) (i : Issue) (port cycle : Nat) : State × Beat :=
  match (s.tile i.tile.val).arrived.get? (port * 65536 + cycle) with
  | some b => (s, b)
  | none =>
    let b := s.takeBeat i.tile.val port cycle
    (b.1.engRefuse i 3 0x1025 TILE_ENG_STATUS_CONF_REFUSED, b.2)

def State.confBeats (s : State) (i : Issue) (port : Nat) : Nat → Nat → State × List Beat
  | _, 0 => (s, [])
  | cycle, n + 1 =>
    let a := s.confBeat i port cycle
    let b := State.confBeats a.1 i port (cycle + 1) n
    (b.1, a.2 :: b.2)

/-- A beat of the stream of the tile's ATTEND or SAMPLE that leaves in a cycle; absent: a poisoned zero beat, with code 0x1025. -/
def State.fusedBeat (s : State) (i : Issue) (cycle : Nat) : State × Beat :=
  match (s.tile i.tile.val).fusedOut.get? cycle with
  | some b => (s, b)
  | none => (s.engRefuse i 3 0x1025 TILE_ENG_STATUS_CONF_REFUSED, Beat.zero true)

/-- The local stream: the ATTEND or SAMPLE output, of which beat b must leave in cycle b of the CMRG, whose incoming beats come LDELAY cycles
later (R107, Table 4-20); or Basin rows. -/
def State.confLocal (s : State) (i : Issue) (f : CmrgF) : State × List Beat :=
  if f.loc = 2 then
    let r := s.schedReads i.tile.val i.cycle.val f.brow (ceilDiv f.nb 8)
    (r.1, r.2.take f.nb)
  else
    (upTo f.nb).foldl (fun (a : State × List Beat) k =>
      let b := a.1.fusedBeat i (i.cycle.val + k)
      (b.1, a.2 ++ [b.2])) (s, [])

/-! ### Attention records -/

/-- Number of queries and head dimension of a record of `nb` beats (R106): those of the tile's own last ATTEND where they fit; else one of the shapes
that fit, which one is open (`Config.recShape`). -/
def recShape (own : Nat × Nat) (nb : Nat) : Option (Nat × Nat) :=
  let fits (q d : Nat) : Bool := ceilDiv q 8 + q * d / 16 == nb
  let l := [64, 128, 256].filterMap (fun d => ((upTo (nb + 1)).find? (fun q => fits q d)).map (fun q => (q, d)))
  if fits own.1 own.2 then some own else l[Config.recShape nb % l.length]?

/-! ### The destinations of a CMRG -/

/-- Runs of rows that a root CMRG writes, each with its beats: the result in its format, and with an A8 output the retained inputs. -/
def State.cmrgRuns (s : State) (t w : Nat) : List (Nat × Nat) :=
  let f := cmrgF w
  if !f.root then []
  else if f.kind != 0 then [(f.brow, 9 * (f.nb / 9))]
  else match recShape (s.tile t).attShape f.nb with
    | none => [(f.brow, f.nb)]
    | some (q, d) =>
      if f.ofmt = 2 then [(f.brow, ceilDiv (q * d) 64), (f.retRow, q * d / 16)]
      else if f.ofmt = 1 then [(f.brow, ceilDiv (q * d) 32)]
      else [(f.brow, q * d / 16)]
/-- E8 bytes that a root CMRG places: row and byte. -/
def State.cmrgExps (s : State) (t w : Nat) : List (Nat × Nat) :=
  let f := cmrgF w
  match recShape (s.tile t).attShape f.nb with
  | some (q, d) =>
    if f.root && f.kind == 0 && f.ofmt == 2 then (upTo (ceilDiv (q * d) 256)).map (fun k => (f.brow + ceilDiv (q * d) 512, k)) else []
  | none => []
/-- Basin rows that a CMRG reads and writes: its accesses in the claim map (R116). -/
def State.cmrgRows (s : State) (t w : Nat) : List Nat :=
  let f := cmrgF w
  (if f.loc = 2 then rowRun f.brow (ceilDiv f.nb 8) else []) ++ (s.cmrgRuns t w).flatMap (fun r => rowRun r.1 (ceilDiv r.2 8)) ++
  ((s.cmrgExps t w).map (·.1)).eraseDups
/-- The destinations of a CMRG that is not carried out, poisoned (R84). -/
def State.cmrgPoison (s : State) (i : Issue) : State :=
  let w := i.word.toNat
  let t := i.tile.val
  let f := cmrgF w
  let es := s.cmrgExps t w
  if f.root then
    es.foldl (fun s e => s.poisonWords t e.1 i.cycle.val [e.2 / 8]) ((s.cmrgRuns t w).foldl (fun s r => s.poisonRows t i.cycle.val r.1 r.2) s)
  else s.updTile t (fun x => { x with confOut := List.replicate f.nb (Beat.zero true) })

/-- The partials that a record's beats carry. -/
def partialsOf (q d : Nat) (bs : List Beat) : List Partial :=
  let hb := ceilDiv q 8
  let h := beatBytes (bs.take hb)
  (upTo q).map (fun k =>
    let ob := (bs.drop (hb + k * (d / 16))).take (d / 16)
    let o := beatBytes ob
    { m := word32 h (2 * k), l := word32 h (2 * k + 1), o := (upTo d).map (word32 o), ta := taintOf (ob ++ (bs[k / 8]?).toList) })

/-- merge(a, b) of R105. -/
def Partial.merge (a b : Partial) : Partial :=
  let ta := a.ta.or b.ta
  if isNegInf a.m then { b with ta := ta }
  else if isNegInf b.m then { a with ta := ta }
  else
    let m := fmax a.m b.m
    let fa := fexp2 (fsub a.m m)
    let fb := fexp2 (fsub b.m m)
    ⟨m, fadd (fmul a.l fa) (fmul b.l fb), (a.o.zip b.o).map (fun e => fadd (fmul e.1 fa) (fmul e.2 fb)), ta⟩

/-- o / l, or 0 when l = 0. -/
def Partial.result (p : Partial) : List Nat := p.o.map (fun x => if fIsZero p.l then 0 else fdiv x p.l)

/-- Streams merged position by position: the local stream, then INA, then INB. -/
def mergeAll {α : Type} (f : α → α → α) : List (List α) → List α
  | [] => []
  | [a] => a
  | a :: r => r.foldl (fun acc l => (acc.zip l).map (fun e => f e.1 e.2)) a

/-- Root output in A8 (OFMT 10): blocks requantised, data, E8s in the row after, inputs retained. -/
def State.rootA8 (s : State) (i : Issue) (f : CmrgF) (xs : List Nat) (ta : Taint) : State :=
  let t := i.tile.val
  let c := i.cycle.val
  let first := (s.tile t).blocks
  let bl := s.quantAll t 127 f.pred (chunksOf 256 xs.length xs)
  let trb := ta.trb || bl.2.any (fun b => b.sat || b.undf)
  let s := bl.1.putBeats t c f.brow (beatsOf (packA8 (bl.2.flatMap (·.qs))) ta.bad trb)
  let er := f.brow + ceilDiv xs.length 512
  let s := bl.2.zipIdx.foldl (fun s b =>
    if s.inProgram t er then (s.byteWrite t er b.2 b.1.e8 ta.bad trb c).writeTag t er else s.boundsFault t er c) s
  let s := s.putBeats t c f.retRow (beatsOf (wordBytes xs) ta.bad ta.trb)
  let s := s.vTrouble i 3 bl.2
  let ops := bl.2.zipIdx.filterMap (fun b =>
    if b.1.sat || b.1.undf then some (RecOp.mk (first + b.2) 2 (f.retRow + 2 * b.2) b.1.qs.length [] 0 127) else none)
  s.updTile t (fun x => { x with recOps := x.recOps ++ ops })

/-- The result of an attention merge: stream to the router, or root result to the Basin. A record that no shape fits gives a poisoned result. -/
def State.confAttn (s : State) (i : Issue) (f : CmrgF) (streams : List (List Beat)) : State :=
  let t := i.tile.val
  match recShape (s.tile t).attShape f.nb with
  | none => (s.reportFault t).cmrgPoison i
  | some (q, d) =>
    let ps := mergeAll Partial.merge (streams.map (partialsOf q d))
    let ta := ps.foldl (fun x p => x.or p.ta) Taint.none
    let s := if ta.bad then s.reportFault t else s
    if f.root then
      let xs := ps.flatMap Partial.result
      if f.ofmt = 2 then s.rootA8 i f xs ta
      else if f.ofmt = 1 then s.putBeats t i.cycle.val f.brow (beatsOf (wordBytes (packBf xs)) ta.bad ta.trb)
      else s.putBeats t i.cycle.val f.brow (beatsOf (wordBytes xs) ta.bad ta.trb)
    else s.updTile t (fun x => { x with confOut := partialRecord ps })

/-- The result of a merge of sampler records. -/
def State.confSmp (s : State) (i : Issue) (f : CmrgF) (streams : List (List Beat)) : State :=
  let t := i.tile.val
  let n := f.nb / 9
  let recs := streams.map (fun l => (upTo n).map (fun k => recOf ((l.drop (9 * k)).take 9)))
  let ta := taintOf streams.flatten
  let s := if ta.bad then s.reportFault t else s
  let out := (mergeAll SmpRec.merge recs).flatMap (fun r => r.beats ta)
  if f.root then s.putBeats t i.cycle.val f.brow out else s.updTile t (fun x => { x with confOut := out })

/-- An accepted CMRG: the streams that it names, merged. -/
def State.cmrgAccept (s : State) (i : Issue) : State :=
  let t := i.tile.val
  let c := i.cycle.val
  let f := cmrgF i.word.toNat
  let s := s.updTile t (fun x => { x with cmrgUntil := c + f.ldelay + f.nb + (if f.root then 12 else 8) })
  let l := if f.loc = 0 then (s, []) else s.confLocal i f
  let a := if f.ina = 0 then (l.1, []) else l.1.confBeats i f.ina (c + f.ldelay) f.nb
  let b := if f.inb = 0 then (a.1, []) else a.1.confBeats i f.inb (c + f.ldelay) f.nb
  let streams := (if f.loc = 0 then [] else [l.2]) ++ (if f.ina = 0 then [] else [a.2]) ++ (if f.inb = 0 then [] else [b.2])
  if f.kind = 0 then b.1.confAttn i f streams else b.1.confSmp i f streams

def State.runCmrg (s : State) (i : Issue) : State :=
  let w := i.word.toNat
  let t := i.tile.val
  let c := i.cycle.val
  let f := cmrgF w
  if bits w 63 59 != 1 || bits w 3 0 != 0 || f.ina == 7 || f.inb == 7 || f.loc == 3 || (f.root && f.kind == 0 && f.ofmt == 3)
      || decide (c < (s.tile t).cmrgUntil) then
    (s.engRefuse i 3 0x1025 TILE_ENG_STATUS_CONF_REFUSED).cmrgPoison i
  else if s.portClash t c 3 w (s.cmrgRows t w) then (s.portRefuse i TILE_ENG_STATUS_CONF_REFUSED f.brow).cmrgPoison i
  else (s.portClaim t c 3 w (s.cmrgRows t w)).cmrgAccept i

/-- CMRG (R107). -/
def execCmrg (i : Issue) (s : State) : Host.Outcome State Fault Refusal :=
  s.issue i 3 (fun s => (s.setReg TILE_ENG_STATUS_CONF_REFUSED i.tile.val 0 1).cmrgPoison i) (fun s => s.runCmrg i)

end Sys2Proof.Machine
end

