-- ==== Sys2Proof/Machine/Flits.lean ====
section
/-! DEFINITION. Flits and messages that an Aqueduct port sends, and its retry buffer (14 R359 to R363). -/

namespace Sys2Proof.Machine

def State.aport (s : State) (n : Nat) : AqdPort := s.link.ports.get n AqdPort.clear
def State.updPort (s : State) (n : Nat) (f : AqdPort → AqdPort) : State :=
  { s with link := { s.link with ports := s.link.ports.put n (f (s.aport n)) } }

/-- Port states (Table 14-18). -/
def apDown : Nat := 0
def apTraining : Nat := 1
def apQuiet : Nat := 2
def apUp : Nat := 3
def apFour : Nat := 4
def State.pstat (s : State) (n : Nat) : Nat := s.g AQD_PSTAT_STATE n
/-- R358: the port carries transaction messages. -/
def State.carries (s : State) (n : Nat) : Bool := s.pstat n == apUp || s.pstat n == apFour

/-! ### Lanes (R359, R361) -/

/-- Data lanes that work, of 9 with the spare. -/
def AqdPort.good (x : AqdPort) : Nat := 9 - x.laneFailed.entries.length
/-- The physical lane of logical lane `k`. -/
def State.laneMap (s : State) (n k : Nat) : Nat := bits (s.g AQD_LANEMAP_LMAP n) (4 * k + 3) (4 * k)
/-- Logical lanes in use: 8, or 4 at half rate. -/
def State.usedLanes (s : State) (n : Nat) : List Nat := upTo (if (s.aport n).good < 8 then 4 else 8)
/-- A flit over the lanes of a port: the physical lane of each logical lane and its bytes, 8 of them, or 16 at half rate. -/
def State.striped (s : State) (n : Nat) (flit : List Byte) : List (Nat × List Byte) :=
  let w := 64 / (s.usedLanes n).length
  (s.usedLanes n).map (fun k => (s.laneMap n k, (flit.drop (w * k)).take w))

/-! ### Flits (R359, R360) -/

/-- Sequence numbers of flits are modulo 65,536 (Table 14-6). -/
def nextFseq (n : Nat) : Nat := (n + 1) % 65536
/-- The 64 bytes of a flit (Table 14-6) that acknowledges every sequenced flit up to `ack`. -/
def Kept.image (k : Kept) (ack : Nat) : List Byte :=
  let body := bytesOf 2 k.fseq ++ bytesOf 2 ack ++ bytesOf 1 (16 * k.ftype + 8) ++ bytesOf 1 k.flags ++ (k.payload ++ List.replicate 54 0).take 54
  body ++ bytesOf 4 (crc32c body)
/-- A flit on the lanes of its port. An injected flit CRC error damages the next flit that port 0 sends, and is consumed (R392). -/
def State.putFlit (s : State) (port : Nat) (k : Kept) : State :=
  let image := k.image (((s.aport port).expect + 65535) % 65536)
  if port = 0 && s.reg (HDR_ERR_INJECT .aqd) 0 0 == 1 then
    ((s.setReg (HDR_ERR_INJECT .aqd) 0 0 0).setReg (HDR_INJECTED .aqd) 0 0 1).emit
      (.flit port (s.striped port (image.take 60 ++ (image.drop 60).map (fun b => ~~~b))))
  else s.emit (.flit port (s.striped port image))
/-- A sequenced flit, kept until it is acknowledged: the last 16,384 are (R360). -/
def State.sendFlit (s : State) (port ftype flags : Nat) (payload : List Byte) : State :=
  let k : Kept := ⟨(s.aport port).nextSeq, ftype, flags, payload⟩
  (s.putFlit port k).updPort port (fun x =>
    { x with nextSeq := nextFseq k.fseq, kept := (if 16384 ≤ x.kept.length then x.kept.drop 1 else x.kept) ++ [k] })
/-- A CTRL flit, not sequenced; the spec does not lay its payload out: its purpose, 0 NAK or 1 lane map, and an FSEQ (log 76). -/
def State.sendCtrl (s : State) (port purpose fseq : Nat) : State := s.putFlit port ⟨0, 2, 0, bytesOf 1 purpose ++ bytesOf 2 fseq⟩
/-- A MARK flit: CHAIN_ID, head partition, chain commit index and PTP time (R367), in a layout of the model (log 76). -/
def State.sendMarkFlit (s : State) (port chain head k ptp : Nat) : State :=
  (s.emit (.aqueduct port 8 0 [chain, head, k, ptp])).sendFlit port 3 0 (bytesOf 2 chain ++ bytesOf 1 head ++ bytesOf 8 k ++ bytesOf 8 ptp)

/-! ### Messages (R362, R363) -/

/-- A message header (Table 14-7). -/
structure MsgHead where
  mtype : Nat
  dtile : Nat
  drow : Nat
  sidx : Nat
  spart : Nat
  mtag : Nat
  rcrc : Nat
def MsgHead.bytes (h : MsgHead) : List Byte :=
  bytesOf 16 (h.mtype * 2 ^ 124 + h.dtile * 2 ^ 98 + h.drow * 2 ^ 88 + h.sidx * 2 ^ 76 + h.spart * 2 ^ 70 + h.mtag * 2 ^ 48 + h.rcrc)
/-- Message bytes as `n` DATA flits carry them. -/
def pieces : Nat → List Byte → List (List Byte)
  | 0, _ => []
  | n + 1, l => l.take 54 :: pieces n (l.drop 54)
/-- A message in consecutive DATA flits, SOM on the first and EOM on the last. -/
def State.sendMsg (s : State) (port kind : Nat) (figures : List Nat) (h : MsgHead) (payload : List Byte) : State :=
  let count := (16 + payload.length + 53) / 54
  (pieces count (h.bytes ++ payload)).zipIdx.foldl (fun (s : State) e =>
    s.sendFlit port 1 (128 * b2n (e.2 == 0) + 64 * b2n (e.2 + 1 == count) + e.1.length) e.1) (s.emit (.aqueduct port h.mtype kind figures))
/-- A message of no row. -/
def State.sendPlain (s : State) (port mtype kind : Nat) (figures : List Nat) (part tag : Nat) (payload : List Byte) : State :=
  s.sendMsg port kind figures ⟨mtype, 0, 0, 0, part, tag, 0⟩ payload

/-- The next message tag of a port is used. -/
def State.bumpTag (s : State) (port : Nat) : State := s.updPort port (fun x => { x with nextTag := (x.nextTag + 1) % 65536 })
/-- A STREAM of an outbound row: DTILE, DROW, SIDX, SPART, MTAG, RCRC and the row; its tag waits for the answer (R363). -/
def State.sendStream (s : State) (port dtile drow : Nat) (k : Packet) : State :=
  let tag := (s.aport port).nextTag
  (((s.bumpTag port).sendMsg port 0 [dtile, drow, k.index, k.part, tag, k.crc] ⟨1, dtile, drow, k.index, k.part, tag, k.crc⟩ k.data)).updPort port (fun x =>
    { x with asked := x.asked.put tag (k.src, k.row) })
/-- The outbound row has a STREAM on its way. -/
def State.streamAsked (s : State) (port tile row : Nat) : Bool := (s.aport port).asked.entries.any (fun e => e.2 == (tile, row))

/-- The payload of a DELIVERY: its kind, then figures of 4 bytes, but for RESULT a partition and the bytes of the result row; the spec gives the
kind's byte alone (log 76). -/
def tellBytes (kind : Nat) (figures : List Nat) : List Byte :=
  (bytesOf 1 kind ++ (if kind = 3 then bytesOf 4 (figures.headD 0) ++ figures.tail.map (BitVec.ofNat 8) else figures.flatMap (bytesOf 4))).take 512
/-- A DELIVERY of a partition on a port (R366); it waits for its answer. -/
def State.sendTold (s : State) (port part kind : Nat) (figures : List Nat) : State :=
  let tag := (s.aport port).nextTag
  ((s.bumpTag port).sendPlain port 2 kind figures part tag (tellBytes kind figures)).updPort port (fun x =>
    { x with told := x.told.put tag (part, kind, figures) })
/-- The other modules of a chain set are told: on each port of the plan that carries messages (log 76: the spec names no port). -/
def State.tell (s : State) (part kind : Nat) (figures : List Nat) : State := match s.link.plan with
  | some g => ((g.ports.map (·.port)).filter s.carries).foldl (fun s n => s.sendTold n part kind figures) s
  | none => s

end Sys2Proof.Machine
end

