-- ==== Sys2Proof/Machine/Sluice.lean ====
section
/-! DEFINITION. Sluice rows, deliveries and the delivery network, the scrubber, and host access to the Basin and the Cistern
(05_basin_scratchpad.md R114 to R137; 06 R152, R153; 13 R340; 15 R386, R387). -/

namespace Sys2Proof.Machine

/-- Basin rows that a command word reads by name (R124). -/
def State.cmdReads (s : State) (t unit w : Nat) : List Nat :=
  match unit with
  | 0 =>
    if opcOf w == 1 && bitAt w 39 then rowRun (bits w 38 29) (ceilDiv (bits w 43 40 + 1) 8)
    else if opcOf w == 4 then bankRows w
    else []
  | 1 =>
    if bits w 63 59 == 1 then mldRows w else []
  | 2 =>
    if bits w 63 58 == 1 then [bits (vImm w) 11 2]
    else if bits w 63 58 == 0x20 then s.attReads t w
    else if bits w 63 58 == 0x21 then s.smpReads t w
    else []
  | _ => if bits w 63 59 == 1 && bits w 51 50 == 2 then rowRun (bits w 40 31) (ceilDiv (bits w 14 4 + 1) 8) else []

/-- Runs of whole beats that a command word writes into Basin rows that it names: first row and number of beats. -/
def State.cmdRuns (s : State) (t unit w : Nat) : List (Nat × Nat) :=
  let arrs := maskArrays (amaskOf w)
  match unit with
  | 0 =>
    if opcOf w == 5 then [(bits w 35 26, 8 * (bits w 42 36 + 1))]
    else if opcOf w == 2 && bitAt w 25 then
      [(bits w 24 15, (arrs.map (fun n => wfmtCols (s.reg (wfmtF (bits w 50 50)) t n))).foldl (· + ·) 0 / 16)]
    else if opcOf w == 3 && bitAt w 37 && bitAt w 32 then [(bits w 31 22, ceilDiv ((bits w 43 38 + 1) * 64 / 3 * arrs.length) 16)]
    else []
  | 1 => if bits w 63 59 == 3 && !bitAt w 58 then [(bits w 57 48, ceilDiv (bits w 31 21 + 1) 16)] else []
  | 2 =>
    if bits w 63 58 == 0x11 then [(bits w 15 6, 16)]
    else if bits w 63 58 == 0x20 then
      let a := attDesc (s.descNow t w)
      if a.osel then [(a.orow, a.b)] else []
    else if bits w 63 58 == 0x21 then
      let a := smpDesc (s.descNow t w)
      if a.root then [(a.orow, 1)]
      else if a.osel then [(a.orow, s.smpBeats t a)]
      else []
    else []
  | _ => if bits w 63 59 == 1 then s.cmrgRuns t w else []

/-- Words of one row that a command word writes: VST, and the data of VQNT. -/
def cmdPart (unit w : Nat) : Option (Nat × List Nat) :=
  if unit == 2 && bits w 63 58 == 2 then some (bits (vImm w) 11 2, quarterWords (vImm w % 4))
  else if unit == 2 && bits w 63 58 == 0x11 then some (bits w 50 41, qntWords (bits w 40 40) (bitAt w 16))
  else none

/-- E8 bytes that a command word places: row and byte. -/
def State.cmdBytes (s : State) (t unit w : Nat) : List (Nat × Nat) :=
  if unit == 2 && bits w 63 58 == 0x11 then [(bits w 39 30, bits w 29 21)]
  else if unit == 3 && bits w 63 59 == 1 then s.cmrgExps t w
  else []

/-- Basin rows that a command word writes by name. -/
def State.cmdWrites (s : State) (t unit w : Nat) : List Nat :=
  (s.cmdRuns t unit w).flatMap (fun r => rowRun r.1 (ceilDiv r.2 8)) ++
  (match cmdPart unit w with
    | some r => [r.1]
    | none => []) ++ ((s.cmdBytes t unit w).map (·.1)).eraseDups

/-- R133: every inbound row that the command reads is FULL or TAKEN, and every outbound row it writes EMPTY. -/
def State.rowsReady (s : State) (t unit w : Nat) : Bool :=
  (s.cmdReads t unit w).all (fun r => !s.inWin t r || s.tag t r == 1 || s.tag t r == 2) &&
  (s.cmdWrites t unit w).all (fun r => !s.outWin t r || s.tag t r == 0)
/-- The first row of the command that is not ready. -/
def State.unreadyRow (s : State) (t unit w : Nat) : Option Nat :=
  ((s.cmdReads t unit w).filter (fun r => s.inWin t r && !(s.tag t r == 1 || s.tag t r == 2)) ++
   (s.cmdWrites t unit w).filter (fun r => s.outWin t r && s.tag t r != 0)).head?

/-! ### Sluice misses (R134) -/

/-- An outbound row that is not EMPTY keeps its data. -/
def State.rowHeld (s : State) (t r : Nat) : Bool := s.outWin t r && s.tag t r != 0
/-- Zero beats, not poisoned, into the words and bytes that a command would have written. -/
def State.zeroRows (s : State) (t c unit w : Nat) : State :=
  let held := (s.cmdWrites t unit w).filter (fun r => s.rowHeld t r)
  let z := List.replicate 8 (Beat.zero false)
  let put (s : State) (r : Nat) (mask : List Nat) : State := if held.contains r then s else s.schedWrite t r c z mask
  let runs := s.cmdRuns t unit w
  let bytes := s.cmdBytes t unit w
  let s := runs.foldl (fun (s : State) e => (upTo (ceilDiv e.2 8)).foldl (fun s k => put s (e.1 + k) (upTo (8 * min 8 (e.2 - 8 * k)))) s) s
  let s := match cmdPart unit w with
    | some e => put s e.1 e.2
    | none => s
  bytes.foldl (fun (s : State) e =>
    if held.contains e.1 then s
    else if s.inProgram t e.1 then (s.byteWrite t e.1 e.2 0 false false c).writeTag t e.1 else s.boundsFault t e.1 c) s

/-- The destinations of a command that is not issued, filled with zero beats; `i` is the command as if issued when its wait ended. -/
def State.zeroDest (s : State) (i : Issue) (unit : Nat) : State :=
  let z := Beat.zero false
  let t := i.tile.val
  let c := i.cycle.val
  let w := i.word.toNat
  let arrs := maskArrays (amaskOf w)
  let s := s.zeroRows t c unit w
  match unit with
  | 0 =>
    if opcOf w == 1 then
      s.updTile t (fun x => x.loadBeats arrs (bits w 50 50) (bits w 49 48) (bits w 47 44) (List.replicate (bits w 43 40 + 1) z))
    else if opcOf w == 2 then
      let f := mvmF w
      let nb (n : Nat) := s.mvmBeats t n f
      s.updTile t (fun x => f.arrs.foldl (fun x n =>
        { (x.fillOut n (List.replicate (nb n) z)) with
          wide := x.wide.keep (fun k _ => k / 256 != n), widePoison := x.widePoison.del n, wideTrouble := x.wideTrouble.del n }) x)
    else if opcOf w == 3 then 
      let nb (n : Nat) := s.redBeats t n w
      s.updTile t (fun x => arrs.foldl (fun x n => x.fillOut n (List.replicate (nb n) z)) x)
    else if opcOf w == 4 then s.writeBank t (bits w 50 50) arrs (8 * bits w 49 43) (List.replicate (8 * (bits w 42 36 + 1)) z)
    else s
  | 1 =>
    if bits w 63 59 == 1 then
      s.updTile t (fun x => (upTo (mldVecs w)).foldl (fun x k =>
        if bits w 58 58 = 0 then x.putMa (bits w 39 33 + k) (List.replicate 256 0) 0 false false
        else x.putMb (bits w 39 33 + k) (List.replicate 256 0) 0 false false) x)
    else s
  | 2 =>
    if bits w 63 58 == 1 then s.updTile t (fun x => x.putV (vD w) (List.replicate 32 0) false false c 3)
    else if bits w 63 58 == 0x20 then
      let a := attDesc (s.descNow t w)
      if a.osel then s else s.streamOut t (s.attFirst i a) (List.replicate a.b z)
    else if bits w 63 58 == 0x21 then
      let a := smpDesc (s.descNow t w)
      let n := s.smpBeats t a
      if a.root || a.osel then s else s.streamOut t (s.smpFirst i a n) (List.replicate n z)
    else s
  | _ => if bitAt w 41 then s else s.updTile t (fun x => { x with confOut := List.replicate (bits w 14 4 + 1) z })

/-- The tile's report carries a miss. -/
def State.noteMiss (s : State) (t e : Nat) : State :=
  (((s.setReg BSN_STATUS_SLUICE_MISS t 0 1).addReg BSN_SLUICE_MISS_COUNT t 0 1).setReg SEQ_STATUS_SLUICE_WAIT t 0 0).updTile t
    (fun x => { x with report := { x.report with miss := true }, slotDone := x.slotDone.add e,
                       waitStart := x.waitStart.put e (x.waitStart.get e s.ptp) })

/-- SLUICE_MISS (R134): the window-mode slot of a schedule entry ends its wait with its rows not ready. -/
def execSluiceMiss (tile : Tile) (entry : Fin 4096) (s : State) : Host.Outcome State Fault Refusal :=
  let t := tile.val
  let e := s.sched t entry.val
  if s.tileLive t && e.mode == 1 && (s.schedInForce t).contains entry.val && !(s.tile t).slotDone.mem entry.val && !s.rowsReady t e.unit e.cmd then
    let i : Issue := ⟨tile, Fin.ofNat 65536 (e.off + e.wait), entry, BitVec.ofNat 64 e.cmd⟩
    .next ((s.zeroDest i e.unit).noteMiss t entry.val)
  else .next s

/-! ### Deliveries (R131, R152, R153) -/

structure DlvE where
  caddr : Nat
  kind : Nat
  peer : Nat
  port : Nat
  drow : Nat
  dtile : Nat

def dlvE (x : Nat) : DlvE :=
  { caddr := bits x 127 76, kind := bits x 63 60, peer := bits x 59 54, port := bits x 53 46, drow := bits x 39 30,
    dtile := bits x 19 0 }
/-- The entry that serves an outbound row: entry i serves row FIRST + i. -/
def State.dlv (s : State) (t r : Nat) : DlvE :=
  dlvE (Memory.readLE s.mem (dlvAddr t (r - s.reg BSN_SLUICE_OUT_FIRST t 0)) 16)

/-- Sources of packets that are not tiles (`Packet.src`). -/
def srcSteward : Nat := 57344
def srcHost : Nat := 57345
def srcStream : Nat := 57346
def srcParcel : Nat := 57347
def srcPort (p : Nat) : Nat := 57348 + p

/-- A tile's delivery to a port (KIND 5): `dst` is the port. -/
def Packet.remote (k : Packet) : Bool := decide (k.src < 57344) && k.kind == 5

/-- The bytes and poisoned beats of a list of beats. -/
def packBeats (bs : List Beat) : List Byte × List Nat :=
  (beatBytes bs, (bs.zipIdx.filter (·.1.poison)).map (·.2))

/-- A packet of a row that an engine of the module sends to an inbound row. -/
def enginePacket (src part dst drow : Nat) (data : List Byte) : Packet :=
  { src := src, row := 0, index := 0, part := part, kind := 1, dst := dst, drow := drow, data := data, poison := [],
    crc := crc32c data, done := false, since := none }

/-- DELIVERY_SEND (R131): the delivery engine reads a FULL outbound row and sends it by its delivery-table entry. -/
def execDeliverySend (tile : Tile) (row : Fin 1024) (s : State) : Host.Outcome State Fault Refusal :=
  let t := tile.val
  let r := row.val
  match s.owner t with
  | none => .next s
  | some p =>
    if s.sliceUp t && s.outWin t r && s.tag t r == 1 && !(s.flight.any (fun k => k.src == t && k.row == r)) then
      let x := s.readRow t r 0 false
      let d := s.dlv t r
      let b := packBeats x.2
      let k : Packet := { src := t, row := r, index := r - s.reg BSN_SLUICE_OUT_FIRST t 0, part := p, kind := d.kind,
                          dst := if d.kind == 5 then d.port else (tileOfAddr d.dtile).getD 65535, drow := d.drow,
                          data := b.1, poison := b.2, crc := crc32c b.1, done := false, since := none }
      .next ({ x.1 with flight := x.1.flight ++ [k] }.emit (.delivery t r))
    else .next s

/-- The packets in flight with the `n`-th replaced or removed. -/
def State.setFlight (s : State) (n : Nat) (k : Option Packet) : State :=
  { s with flight := match k with
      | some k => s.flight.set n k
      | none => s.flight.eraseIdx n }

/-- The answer that a packet's source receives. -/
def State.answer (s : State) (k : Packet) (kind : Nat) : State := s.emit (.answer k.src k.row kind)

/-- R153, R174: the destination may be written by this source. -/
def State.dlvAllowed (s : State) (k : Packet) : Bool :=
  if k.src ≥ 57344 then
    (k.dst < 57344) && s.owner k.dst == some k.part && s.inWin k.dst k.drow
  else match k.kind with
    | 1 => decide (k.dst < 57344) && s.owner k.dst == some k.part && s.inWin k.dst k.drow
    | 4 =>
      let e := s.dlv k.src k.row
      decide (k.dst < 57344) && s.pairMate k.part == some e.peer &&
        s.owner k.dst == some e.peer && s.inWin k.dst k.drow
    | 2 => true
    | 3 => decide ((s.dlv k.src k.row).caddr + 512 ≤ (s.part k.part).cistGb * 10 ^ 9)
    | 5 => decide (k.dst < 56)
    | 6 => true
    | _ => false

/-- A refused delivery: the record of the node, and the answer to the source. -/
def State.dlvRefused (s : State) (n : Nat) (k : Packet) : State :=
  ((s.record { code := 0x4020, unit := 8, tile := if k.dst < 57344 then some k.dst else none, part := some k.part,
               detail := k.part }).setFlight n none).answer k 2

/-- The row of a delivery written into its inbound row, which is FULL in the same side cycle (Table 5-4). -/
def State.dlvWrite (s : State) (k : Packet) : State :=
  let bs := (upTo 8).map (fun b => beatOf k.data (64 * b) (k.poison.contains b) false)
  ((s.storeWords k.dst k.drow bs allWords).setTag k.dst k.drow 1).updTile k.dst
    (fun x => { x with restoreDst := if k.src = srcParcel then x.restoreDst.put k.drow k.index else x.restoreDst })

/-- R342: a byte of an allotment lies in a stack that has failed since bring-up; units of 4 KiB interleave over the stacks. -/
def State.lostByte (s : State) (off : Nat) : Bool := s.repair.failedStacks.mem (off / 4096 % 48)
/-- A span of an allotment meets such a stack. -/
def State.lostSpan (s : State) (off n : Nat) : Bool := (upTo (ceilDiv (off % 4096 + n) 4096)).any (fun k => s.lostByte (off + 4096 * k))
/-- A write into an allotment: bytes of failed stacks are discarded. -/
def State.cistWrite (s : State) (p off : Nat) (data : List Byte) : State :=
  if s.lostSpan off data.length then
    s.setMem (data.zipIdx.foldl (fun (m : Memory) b => if s.lostByte (off + b.2) then m else Memory.write m (cisternBase p + off + b.2) b.1) s.mem)
  else s.setMem (Memory.writeBytes s.mem (cisternBase p + off) data)

/-- The write or the message that a delivery of each destination makes; an engine's packet is finished with its write. -/
def State.dlvAccept (s : State) (n : Nat) (k : Packet) : State :=
  let fin (s : State) : State := s.setFlight n (if k.src < 57344 then some { k with done := true } else none)
  if k.src ≥ 57344 then (fin (s.dlvWrite k)).answer k 0
  else match k.kind with
    | 3 =>
      (fin (s.cistWrite k.part (s.dlv k.src k.row).caddr k.data)).answer k 0
    | 2 => (fin s).answer k 0
    | 6 => ((fin s).emit (.readData k.data (!k.poison.isEmpty))).answer k 0
    | _ => (fin (s.dlvWrite k)).answer k 0

/-- A packet offered at its destination: refused, written, or answered busy (R153). -/
def State.offer (s : State) (n : Nat) (k : Packet) : State :=
  if !s.dlvAllowed k then s.dlvRefused n k
  else if k.src < 57344 && k.kind == 2 && !s.stewardUp then s
  else if k.src < 57344 && (k.kind == 2 || k.kind == 3 || k.kind == 6) then s.dlvAccept n k
  else if k.remote then
    if s.carries k.dst && !s.streamAsked k.dst k.src k.row then
      s.sendStream k.dst (s.dlv k.src k.row).dtile k.drow k
    else s
  else if s.tag k.dst k.drow == 0 && s.sliceUp k.dst then s.dlvAccept n k
  else (s.setFlight n (some { k with since := k.since.or (some s.ptp) })).answer k 1

/-- DELIVERY_ARRIVE (R153): packet `n` of those in flight reaches its node; `crcOk`: its CRC-32C agrees. -/
def execDeliveryArrive (n : Nat) (crcOk : Bool) (s : State) : Host.Outcome State Fault Refusal :=
  match s.flight[n]? with
  | none => .next s
  | some k => if k.done || !crcOk || k.crc != crc32c k.data then .next s else .next (s.offer n k)

/-- DELIVERY_ACK (R132): the acknowledgement of packet `n` reaches its source, whose row becomes EMPTY; a slice in RETAIN changes no tag (R137). -/
def execDeliveryAck (n : Nat) (s : State) : Host.Outcome State Fault Refusal :=
  match s.flight[n]? with
  | none => .next s
  | some k =>
    if k.done && (decide (57344 ≤ k.src) || s.sliceUp k.src) then
      let s := s.setFlight n none
      .next (if s.outWin k.src k.row && s.tag k.src k.row == 1 then s.setTag k.src k.row 0 else s)
    else .next s

/-- DELIVERY_BUSY_RETRY (R153): the source offers a busy packet again after 64 cycles. -/
def execDeliveryBusyRetry (n : Nat) (s : State) : Host.Outcome State Fault Refusal :=
  match s.flight[n]? with
  | none => .next s
  | some k =>
    if !k.done && (k.remote || k.since.isSome) then .next (s.offer n k) else .next s

/-- The number by which a record names the source of a delivery: a tile's address; the spec gives none for another source, which takes one above
every tile's (DESIGN CHOICE, log entry 83). -/
def srcItem (src : Nat) : Nat := if src < 57344 then tileAddr src else 0xE0000 + (src - 57344)
/-- R136: a delivery that could not be written in time: the record names the row and the source. -/
def State.lostRecord (s : State) (t drow src : Nat) : State :=
  s.tileRecord t { code := 0x1032, unit := 5, detail := drow % 1024 * 64, item := srcItem src }

/-- DELIVERY_TIMEOUT (R136): a packet whose row stayed not EMPTY for TIMEOUT_US is discarded, and its source is told. -/
def execDeliveryTimeout (n : Nat) (s : State) : Host.Outcome State Fault Refusal :=
  match s.flight[n]? with
  | none => .next s
  | some k =>
    match if k.remote then none else k.since with
    | none => .next s
    | some since =>
      if k.done || decide (s.ptp < since + 1000 * s.reg BSN_SLUICE_CTRL_TIMEOUT_US k.dst 0) then .next s
      else .next (((s.lostRecord k.dst k.drow k.src).setFlight n none).answer k 3)

/-- RESTORE_ROW_COPY (R239): a FULL restore row is copied into its cache page through the side port, and becomes EMPTY. -/
def execRestoreRowCopy (tile : Tile) (row : Fin 1024) (s : State) : Host.Outcome State Fault Refusal :=
  let t := tile.val
  let r := row.val
  match (s.tile t).restoreDst.get? r with
  | none => .next s
  | some d =>
    let page := d / 64
    let prow := d % 64
    if s.sliceUp t && s.restoreRow t r && s.tag t r == 1 then
      let x := s.readRow t r 0 false
      let b := packBeats x.2
      let s := x.1.setMem (Memory.writeBytes x.1.mem (pageAddr page + 512 * prow) b.1)
      let s := s.updTile (page / 16) (fun y => { y with
        poisonMark := allWords.foldl (fun m w => m.upd ((page % 16 * 64 + prow) * 64 + w) (b.2.contains (w / 8))) y.poisonMark
        flips := y.flips.keep (fun k _ => k / 64 != page % 16 * 64 + prow) })
      let s := (s.setTag t r 0).updTile t (fun y => { y with restoreDst := y.restoreDst.del r })
      .next (s.updReq (s.page page).req (fun q => { q with restoreLeft := q.restoreLeft - 1 }))
    else .next s

/-! ### The scrubber and spare rows (R120, R121, R340) -/

/-- Stored bits that have flipped: (row, word, bit of the 72). -/
def State.upset (s : State) (t : Nat) (l : List (Fin 1024 × Fin 64 × Fin 72)) : State :=
  s.updTile t (fun x => l.foldl (fun x u =>
    let k := u.1.val * 64 + u.2.1.val
    let m := Nat.xor (x.flips.get k 0) (2 ^ u.2.2.val)
    { x with flips := if m = 0 then x.flips.del k else x.flips.put k m }) x)

/-- SCRUB_ROW (R120): the scrubber of a tile reads its next row. `upsets` are stored bits that flipped since its last read. -/
def execScrubRow (tile : Tile) (upsets : List (Fin 1024 × Fin 64 × Fin 72)) (s : State) : Host.Outcome State Fault Refusal :=
  let t := tile.val
  let s := s.upset t upsets
  if s.flag BSN_SCRUB_CTRL_EN t 0 && s.sliceUp t then
    let x := s.readRow t ((s.tile t).scrubRow % 1024) 0 false
    .next (x.1.updTile t (fun y => { y with scrubRow := (y.scrubRow + 1) % 1024 }))
  else .next s

/-- BASIN_ROW_SPARE (R340): at a boundary at which the partition is held, a weak program row is copied into a spare row. -/
def execBasinRowSpare (tile : Tile) (s : State) : Host.Outcome State Fault Refusal :=
  let t := tile.val
  let held := match s.owner t with
    | some p => (s.part p).phase == .ready || (s.part p).phase == .stopped
    | none => true
  match (s.tile t).weakWait.find? (fun r => s.inProgram t r) with
  | none => .next s
  | some r =>
    if held && decide ((s.tile t).sparedRows.length < 4) && s.sliceUp t then
      let x := s.readRow t r 0 false
      let s := x.1.updTile t (fun y => { y with sparedRows := y.sparedRows ++ [r], weakWait := y.weakWait.filter (· != r),
                                                tracked := y.tracked.filter (fun e => e.1 != r) })
      .next (s.tileRecord t { code := 0x4044, unit := 5, detail := r * 64 })
    else .next s

/-! ### Host access (R127, R137, R386, R387) -/

/-- The word of a column in the layout of RST_RMAP (unlisted: no repair). -/
def State.column (s : State) (site col : Nat) : Nat :=
  s.repair.columns.get (site * 32 + col) (0x3F * 2 ^ 24 + 0x3F * 2 ^ 18 + 0x3F * 2 ^ 9)
/-- R25: the row-33 spare of the column is unused, so its 16 pages are lent, until a shift withdraws them (R26), or the spare becomes the column's next
one because the row-32 spare is unusable (R345). -/
def State.lends (s : State) (site col : Nat) : Bool :=
  let w := s.column site col
  decide (bits w 31 30 + bits w 17 17 < 2) && !(bitAt w 17 && !bitAt w 16) && !s.repair.withdrawn.mem (site * 32 + col)
/-- R122, R386: the page exists at present. -/
def State.pageExists (s : State) (n : Nat) : Bool :=
  decide (n < 917504) || (decide (n < 946176) && s.lends ((n - 917504) / 512) ((n - 917504) / 16 % 32))
/-- The partition that a page belongs to. -/
def State.pageOwner (s : State) (n : Nat) : Option Nat :=
  if n < 917504 then s.owner (n / 16)
  else if (s.page n).pstate ≠ 0 then some (s.page n).part else none
/-- The path reaches the page. -/
def State.reaches (s : State) (p : Path) (n : Nat) : Bool := match p with
  | .vf q => s.pageOwner n == some q.val
  | _ => true

/-- A host access: a read of `len` bytes, or a write. -/
def State.basinRefuse (s : State) (p : Path) (addr : Nat) : State :=
  let n := addr / 32768
  let s := if n < 917504 then s.addReg (HDR_ERR_COUNT .bsn) (n / 16) 0 1 else s
  s.record { code := 0x3013, unit := 5, tile := if n < 917504 then some (n / 16) else none,
             part := match p with
               | .vf q => some q.val
               | _ => s.pageOwner n,
             detail := (addr / 512 % 1024) * 64 }

/-- A read of bytes of one row. -/
def State.basinRead (s : State) (p : Path) (addr len : Nat) : State :=
  let n := addr / 32768
  if !s.pageExists n || !s.reaches p n then s.emit (.readData (List.replicate len 0#8) false)
  else if n < 917504 then
    let t := n / 16
    if !s.sliceUp t then s.emit (.readData (List.replicate len 0#8) true)
    else
      let r := addr / 512 % 1024
      let b := addr % 512
      let x := (upTo 64).foldl (fun (a : State × Bool) w =>
        if 8 * w < b + len && b < 8 * w + 8 then
          let y := a.1.readWord t r 0 false w
          (y.1, a.2 || y.2)
        else a) (s, false)
      x.1.emit (.readData (Memory.readBytes x.1.mem addr len) x.2)
  else s.emit (.readData (Memory.readBytes s.mem addr len) false)

/-- A write of whole rows into a slice whose partition is not running. -/
def State.basinWrite (s : State) (p : Path) (addr : Nat) (data : List Byte) : State :=
  let n := addr / 32768
  let pages := (upTo (ceilDiv (addr % 32768 + data.length) 32768)).map (· + n)
  let ok := decide (addr % 512 = 0) && decide (data.length % 512 = 0) && decide (0 < data.length) &&
    pages.all (fun n => s.pageExists n && s.reaches p n && (decide (917504 ≤ n) || s.sliceUp (n / 16)) &&
      (match s.pageOwner n with
        | some q => !s.flag CSD_PCFG_RUN 0 q
        | none => true))
  if ok then
    (upTo (data.length / 512)).foldl (fun s k =>
      let a := addr + 512 * k
      let row := (data.drop (512 * k)).take 512
      if a / 32768 < 917504 then s.storeWords (a / 524288) (a / 512 % 1024) (beatsOf row false false) allWords
      else s.setMem (Memory.writeBytes s.mem a row)) s
  else s.basinRefuse p addr

/-- The offset in the whole space that an access through the Basin aperture of a path reaches. -/
def State.basinOffset (s : State) (p : Path) (addr : Nat) : Nat := match p with
  | .vf q => s.reg PCI_VBASIN_BASE (q.val + 1) 0 * 2 ^ 30 + addr % 2 ^ 30
  | _ => addr

/-- BASIN_HOST_ACCESS (R127, R386): a read of up to a row (`data` none), or a write, at a BAR4 offset. The management bus
has no aperture. -/
def execBasinHostAccess (path : Path) (addr : Fin 34359738368) (len : Fin 513) (data : Option (List Byte)) (s : State) :
    Host.Outcome State Fault Refusal :=
  match path with
  | .mgmt => .next s
  | p =>
    if !s.pathUp p then .next s
    else
      let a := s.basinOffset p addr.val
      match data with
      | none => .next (s.basinRead p a (min len.val (512 - a % 512)))
      | some d => if s.negotiated p then .next (s.basinWrite p a d) else .next (s.refuseWrite p .pci 0)

/-- An accepted range of the Cistern aperture: the address in the model's space, and whether the bytes are there. -/
def State.cistTarget (s : State) (p : Path) (off len : Nat) : Option (Nat × Option Nat) := match p with
  | .vf q =>
    let o := s.reg PCI_VCIST_BASE (q.val + 1) 0 * 2 ^ 30 + off
    if s.partExists q.val && o + len ≤ (s.part q.val).cistGb * 10 ^ 9 then some (cisternBase q.val + o, some q.val) else none
  | _ =>
    let t := s.g PCI_CIST_SEL_TARGET 0
    let o := s.g PCI_CIST_SEL_BASE 0 * 2 ^ 30 + off
    if !s.flag PCI_CIST_SEL_EN 0 0 then none
    else if t < 64 then
      if s.partExists t && o + len ≤ (s.part t).cistGb * 10 ^ 9 then some (cisternBase t + o, some t) else none
    else if t = 64 && o + len ≤ 48 * 10 ^ 9 then some (systemBase + o, none) else none

/-- Bytes of the system area: the places and layouts of what it holds (R27) are not stated, so what a read meets is free (log entry 62). -/
def State.areaBytes (s : State) (o len : Nat) : List Byte := (upTo len).map (fun k => Config.areaByte s.takeFree.1 (o + k))
/-- CISTERN_HOST_ACCESS (R387): a read or a write through the Cistern aperture. -/
def execCisternHostAccess (path : Path) (addr : Fin 34359738368) (len : Fin 4097) (data : Option (List Byte)) (s : State) :
    Host.Outcome State Fault Refusal :=
  match path with
  | .mgmt => .next s
  | p =>
    if !s.pathUp p then .next s
    else
      match data with
      | none =>
        let zero := s.emit (.readData (List.replicate len.val 0#8) false)
        match s.cistTarget p addr.val len.val with
        | some (a, some q) => .next (s.emit (.readData (Memory.readBytes s.mem a len.val) (s.lostSpan (a - cisternBase q) len.val)))
        | some (a, none) =>
          if s.openSession .pf then .next (s.takeFree.2.emit (.readData (s.areaBytes (a - systemBase) len.val) false)) else .next zero
        | none => .next zero
      | some d =>
        if !s.negotiated p then .next (s.refuseWrite p .pci 0)
        else match p, s.cistTarget p addr.val d.length with
        | .pf, some (a, some q) =>
          if s.openSession .pf && decide (s.pstate q ≠ psRunning) && decide (s.pstate q ≠ psStopping) && decide (s.pstate q ≠ psWriting) then
            .next (s.cistWrite q (a - cisternBase q) d)
          else .next (s.record { code := 0x3013, unit := 15, part := some q })
        | .vf q, _ => .next (s.record { code := 0x3013, unit := 15, part := some q.val })
        | _, _ => .next (s.record { code := 0x3013, unit := 15 })

end Sys2Proof.Machine
end

