-- ==== Sys2Proof/Machine/Temps.lean ====
section
/-! DEFINITION. Readings of tile diodes and base-die sensors, and the site junction temperature (11_thermal_and_cooling.md R280, R281).
Temperatures are in 0.25 °C. -/

namespace Sys2Proof.Machine

/-- The held readings of a tile diode and of a base-die sensor. -/
def State.diodeOf (s : State) (t : Nat) : Nat := s.thermal.diode.get t s.thermal.diode0
def State.baseOf (s : State) (q : Nat) : Nat := s.thermal.baseSens.get q s.thermal.diode0
/-- A monitor by its number: a tile, or 2^20 + a quadrant. -/
def baseMon (q : Nat) : Nat := 2 ^ 20 + q
/-- The reading of a tile diode is stale: its monitor is in calibration, or its quadrant in RETAIN or OFF. -/
def State.diodeStale (s : State) (t : Nat) : Bool := s.thermal.staleMon.mem t || decide (2 ≤ s.qstate (quadOf t))
/-- The quadrants of a site whose diodes are powered. -/
def State.litQuads (s : State) (site : Nat) : List Nat := ((upTo 4).map (· + site * 4)).filter (fun q => decide (s.qstate q < 2))
/-- Tile diodes of a site that are not stale. -/
def State.fresh (s : State) (site : Nat) : List Nat := ((s.litQuads site).flatMap tilesOfQuad).filter (fun t => !s.thermal.staleMon.mem t)
/-- Tile diodes that count for T_s: not stale, and not treated as failed. -/
def State.diodes (s : State) (site : Nat) : List Nat := (s.fresh site).filter (fun t => !s.thermal.failedMon.mem t)
def State.jlimit (s : State) : Nat := 4 * s.g THM_CFG_JLIMIT 0
/-- T_s: the largest diode that counts; with none, the largest base-die reading and 5 K. -/
def State.siteTemp (s : State) (site : Nat) : Nat :=
  let l := s.diodes site
  if l.isEmpty then
    (((upTo 4).filter (fun k => !s.thermal.failedMon.mem (baseMon (site * 4 + k)))).map (fun k => s.baseOf (site * 4 + k))).foldl max 0 + 20
  else (l.map s.diodeOf).foldl max 0
/-- T_s above JLIMIT counts from anew once it has fallen (Table 11-3). -/
def State.judgeOver (s : State) (site : Nat) : State :=
  if s.g THM_STEMP_TS site ≤ s.jlimit then { s with thermal := { s.thermal with overLimit := s.thermal.overLimit.del site } } else s
/-- TS, MAX_SEEN and STALE of a site as its readings stand. -/
def State.refreshTemp (s : State) (site : Nat) : State :=
  let ts := min 1023 (s.siteTemp site)
  (((s.setG THM_STEMP_TS site ts).setG THM_STEMP_MAX_SEEN site (max ts (s.g THM_STEMP_MAX_SEEN site))).setG THM_STEMP_STALE site
    (b2n (s.fresh site).isEmpty)).judgeOver site
/-- A fresh reading of a tile diode; a stale one holds its value. -/
def State.readDiode (s : State) (t v : Nat) : State :=
  if s.diodeStale t then s
  else ({ s with thermal := { s.thermal with diode := s.thermal.diode.put t v, failedMon := s.thermal.failedMon.del t } }).refreshTemp (siteOf t)
/-- A fresh reading of a base-die sensor. -/
def State.readBase (s : State) (q v : Nat) : State :=
  if s.thermal.staleMon.mem (baseMon q) then s
  else ({ s with thermal := { s.thermal with baseSens := s.thermal.baseSens.put q v, failedMon := s.thermal.failedMon.del (baseMon q) } }).refreshTemp (q / 4)

end Sys2Proof.Machine
end

