-- ==== Sys2Proof/Machine/Calib.lean ====
section
/-! DEFINITION. Calibration commands: requests for passes, the solve, snapshots and restores of trims, and the calibration of
monitors (12_calibration.md R299 to R316). -/

namespace Sys2Proof.Machine

/-! ### Requests (R299) -/

/-- CAL_PASS_REQ (R299): software writes CAL_CTRL.PASS_REQ of a tile. -/
def State.passReq (s : State) (t mask : Nat) : State := ((upTo 9).filter (fun n => bitAt mask n)).foldl (fun s n => s.requestPass t n) s
def execCalPassReq (path : Path) (tile : Tile) (mask : Fin 512) (s : State) : Host.Outcome State Fault Refusal :=
  s.tileWrite path tile.val .cal (fun s => s.passReq tile.val mask.val)

/-- Arrays of a tile that serve a logical array and whose T_cal is further than TRIG from a reading. -/
def State.tcalOf (s : State) (t pos : Nat) : Nat := s.cal.tcal.get (posKey t pos) s.cal.tcal0
def distance (a b : Nat) : Nat := if a ≤ b then b - a else a - b

/-- The diode of a tile stands further than TRIG from T_cal of an array position that serves. -/
def State.warmed (s : State) (t pos : Nat) : Bool :=
  (s.servesArr t pos).isSome && s.cal.epoch != 0 && decide (s.g CAL_CFG_TRIG 0 < distance (s.diodeOf t) (s.tcalOf t pos))
/-- CAL_TEMPERATURE_TRIGGER (R299): the diode of a tile is sampled (0.25 °C); while it is stale its held value counts (R280). During a pass a request is
kept where the sample newly exceeds TRIG. -/
def execCalTemperatureTrigger (tile : Tile) (reading : Fin 1024) (s : State) : Host.Outcome State Fault Refusal :=
  let t := tile.val
  let was := (upTo 9).filter (s.warmed t)
  let s := s.readDiode t reading.val
  .next (((upTo 9).filter (s.warmed t)).foldl
    (fun s pos => if (s.passAt t pos).isNone || !was.contains pos then s.requestPass t pos else s) s)

/-! ### The solve (R303 to R305) -/

/-- Sums over the slice positions with counted conversions, at 2^-40: observed and predicted variance, and the pairs of predicted
and observed means. -/
def solveSums (gs : List Gath) : Nat × Nat × List (Nat × Nat) :=
  let gs := gs.filter (fun g => g.cnt != 0)
  ((gs.map (fun g => (g.sq * g.cnt - g.sum * g.sum) * 2 ^ 40 / (g.cnt * g.cnt))).foldl (· + ·) 0,
   (gs.map (fun g => g.pv * 2 ^ 40 / (256 * g.cnt))).foldl (· + ·) 0,
   gs.map (fun g => (g.pm * 2 ^ 40 / (16 * g.cnt), g.sum * 2 ^ 40 / g.cnt)))

/-- g_j in units of 2^-11 and o_j in units of 1/16 LSB (R303); `r` is a free value: it rounds each up or down, and gives g_j where
no variance is predicted. -/
def solveColumn (gs : List Gath) (r : Nat) : Int × Int :=
  let x := solveSums gs
  let ratio : Nat := if x.2.1 = 0 then r % 2 ^ 33 else isqrt (x.1 * 2 ^ 64 / x.2.1)
  let g : Int := ((ratio : Int) - 2 ^ 32) / 2 ^ 21 + (r % 2 : Nat)
  let d : Int := (x.2.2.map (fun m => ((m.1 * ratio / 2 ^ 32 : Nat) : Int) - (m.2 : Int))).foldl (· + ·) 0
  let o : Int := d * 16 / ((max 1 x.2.2.length : Nat) * 2 ^ 40 : Int) + (r / 2 % 2 : Nat)
  (g, o)

/-- The working set of one bank, and the converter groups whose trims were clamped. `gOfs`, `gGain` are the bank terms of the probe. -/
def State.solveBank (s : State) (t n pl : Nat) (gOfs gGain : Int) (r : Nat) (columns : Bool) : Map Nat × List Nat :=
  let k := bankKey t (s.arrPos t n) pl
  let old (i : Nat) : Int := sext 8 (s.trimByte k i)
  let keep := (upTo 1056).foldl (fun (m : Map Nat) i => m.put (k * 2048 + i) (s.trimByte k i)) s.cal.work
  let cols := if columns then (upTo 512).filter (fun j => j % 4 < wfmtConv (s.reg (wfmtF pl) t n)) else []
  let a := cols.foldl (fun (a : Map Nat × List Nat) j =>
    let v := solveColumn ((upTo 4).map (fun i => s.cal.gath.get (k * 2048 + j * 4 + i) Gath.zero)) (Config.free (r + j))
    let ofs := old (2 * j) + v.2 - gOfs
    let gain := old (2 * j + 1) - v.1 - gGain
    let m := (a.1.put (k * 2048 + 2 * j) (trunc 8 (clampSb ofs))).put (k * 2048 + 2 * j + 1) (trunc 8 (clampSb gain))
    (m, if clampSb ofs = ofs && clampSb gain = gain || a.2.contains (j / 4) then a.2 else a.2 ++ [j / 4])) (keep, [])
  ((a.1.put (k * 2048 + 1056) (trunc 8 (clampSb gOfs))).put (k * 2048 + 1057) (trunc 8 (clampSb gGain)), a.2)

/-- R305: a clamped group is remapped, while its bank has a spare group left; else the array is replaced (R54). -/
def State.startRemap (s : State) (t n pl g : Nat) : State :=
  (s.calRecord t 0xB003 0 0 (s.arrPos t n) pl g).beginRemap t n pl g false

/-- A pass stored where the present attempt reads it. -/
def State.storePass (s : State) (t pos : Nat) (p : PassSt) : State :=
  if s.cal.passNow.has (posKey t pos) then s.putPass t pos p
  else { s with cal := { s.cal with pass := s.cal.pass.put (posKey t pos) p } }

/-- CAL_SOLVE_DONE (R303, R304): the controller has solved the trims of an array position into its working set. -/
def execCalSolveDone (tile : Tile) (pos : Fin 9) (s : State) : Host.Outcome State Fault Refusal :=
  let t := tile.val
  match s.passAt t pos.val, s.servesArr t pos.val with
  | some p, some n =>
    if p.stage ≠ 1 then .next s
    else
      let pls := s.usedPlanes t n
      let some_ := pls.all (fun pl => !s.gathered t n pl)
      let x := pls.foldl (fun (a : State × List (Nat × Nat)) pl =>
        let b := a.1.takeFree
        let r := b.2.freeCtr
        let v := b.2.solveBank t n pl (sext 8 (b.1 % 256)) (sext 8 (b.1 / 256 % 256)) r (b.2.gathered t n pl)
        ({ b.2 with freeCtr := r + 512, cal := { b.2.cal with work := v.1 } }, a.2 ++ v.2.map (fun g => (pl, g)))) (s, [])
      let s := (x.1.storePass t pos.val { p with stage := 2, shadowLeft := 67 * pls.length, bankOnly := some_ }).setReg CAL_ASTAT_STATE t pos.val 4
      .next (x.2.foldl (fun s g => s.startRemap t n g.1 g.2) s)
  | _, _ => .next s

/-! ### Snapshots (R313, Table 12-4) -/

/-- Physical rows of a column in use, in order of the logical rows they serve (RST_RMAP). -/
def State.physRows (s : State) (site col : Nat) : List Nat :=
  let w := s.column site col
  (upTo 34).filter (fun r => !(decide (1 ≤ bits w 31 30) && r == bits w 29 24) && !(decide (2 ≤ bits w 31 30) && r == bits w 23 18) &&
    !(r == 32 && bitAt w 17))
def State.physRow (s : State) (t : Nat) : Nat := (s.physRows (siteOf t) (colOf t)).getD (rowOf t) 63
/-- PTILE of a tile. -/
def State.ptile (s : State) (t : Nat) : Nat := siteOf t * 65536 + s.physRow t * 256 + colOf t

def imageSize : Nat := 19376
/-- One bank record of a trim image. -/
def State.bankRecord (s : State) (t pos pl : Nat) : List Byte :=
  let k := bankKey t pos pl
  bytesOf 2 (s.tcalOf t pos) ++ bytesOf 1 (s.posCmode t pos pl + b2n (s.calibrated t pos pl) * 128) ++ bytesOf 1 (s.sigmaOf k) ++
  bytesOf 1 (s.trimByte k 1056) ++ bytesOf 1 (s.trimByte k 1057) ++ List.replicate 10 0#8 ++
  (upTo 1056).flatMap (fun i => bytesOf 1 (s.trimByte k i))
/-- The trims of a monitor: what its last calibration solved; the first of them is at bring-up (R315). -/
def State.monTrimOf (s : State) (k : Nat) : Nat :=
  s.cal.monTrim.get k (if s.cal.epoch = 0 then 0 else Config.fgTrim s.cal.epoch (2 ^ 60 + k) % 65536)
/-- Trims of the monitors of a tile: diode offset, droop detector offset and gain. -/
def State.monBytes (s : State) (t : Nat) : List Byte :=
  bytesOf 2 (s.monTrimOf (2 ^ 17 + t)) ++ bytesOf 2 (s.monTrimOf (2 * 2 ^ 17 + t)) ++ List.replicate 12 0#8
/-- A trim image with a value in its CRC field. -/
def State.trimImageBytes (s : State) (t crc : Nat) : List Byte :=
  bytesOf 2 1 ++ bytesOf 1 Config.steppingCode ++ [0#8] ++ bytesOf 4 (s.ptile t) ++ bytesOf 8 s.wcount ++ bytesOf 8 s.ptp ++ bytesOf 4 crc ++
  List.replicate 36 0#8 ++ (upTo 9).flatMap (fun n => (upTo 2).flatMap (fun pl => s.bankRecord t n pl)) ++ s.monBytes t

/-- SNAP (R313): the trims in force are copied into the tile's trim image. -/
def State.snap (s : State) (t : Nat) : State :=
  (s.setMem (Memory.writeBytes s.mem (trimImage t) (s.trimImageBytes t (crc32c (s.trimImageBytes t 0))))).setReg CAL_STATUS_SNAP_DONE t 0 1
def execSnap (path : Path) (tile : Tile) (s : State) : Host.Outcome State Fault Refusal :=
  s.tileWrite path tile.val .cal (fun s => s.snap tile.val)

/-! ### Restores (R314) -/

/-- The first whole-image check that fails: 1 version, 2 CRC, 3 physical tile, 4 stepping; 0 none. -/
def State.imageFail (s : State) (t : Nat) (b : List Byte) : Nat :=
  let at_ (o n : Nat) := numOf ((b.drop o).take n)
  if at_ 0 2 ≠ 1 then 1
  else if at_ 0x18 4 ≠ crc32c (b.take 0x18 ++ [0#8, 0#8, 0#8, 0#8] ++ b.drop 0x1C) then 2
  else if at_ 4 4 ≠ s.ptile t then 3
  else if at_ 2 1 ≠ Config.steppingCode then 4
  else 0
/-- The first check of a bank record that fails: 5 VALID, 6 CMODE, 7 temperature; 0 none. -/
def State.bankFail (s : State) (t pos pl : Nat) (r : List Byte) : Nat :=
  let c := numOf ((r.drop 2).take 1)
  if !bitAt c 7 then 5
  else if c % 4 ≠ s.posCmode t pos pl then 6
  else if s.g CAL_CFG_RESTORE 0 < distance (numOf (r.take 2)) (s.thermal.diode.get t s.thermal.diode0) then 7
  else 0
/-- A bank record applied: its trims are in force, not stale, and its bank calibrated. -/
def State.applyBank (s : State) (t pos pl : Nat) (r : List Byte) : State :=
  let k := bankKey t pos pl
  let byte (i : Nat) : Nat := numOf ((r.drop i).take 1)
  let s := { s with cal := { s.cal with
    pass := s.cal.pass.del (posKey t pos), passNow := s.cal.passNow.del (posKey t pos)
    banks := s.cal.banks.put k (s.posCmode t pos pl), sigma := s.cal.sigma.put k (byte 3), tcal := s.cal.tcal.put (posKey t pos) (numOf (r.take 2))
    trims := ((upTo 1056).foldl (fun (m : Map Nat) i => m.put (k * 2048 + i) (byte (16 + i))) s.cal.trims).put (k * 2048 + 1056) (byte 4) |>.put (k * 2048 + 1057) (byte 5) } }
  (s.setReg CAL_ASTAT_STALE t pos 0).setReg CAL_ASTAT_STATE t pos 0

/-- A restore of a tile's trims from its image: the state, and the first check that failed (0: none). -/
def State.restoreTrims (s : State) (t : Nat) : State × Nat :=
  let b := Memory.readBytes s.mem (trimImage t) imageSize
  let f := s.imageFail t b
  let fin (s : State) (f : Nat) : State × Nat :=
    let s := s.setReg CAL_STATUS_RFAIL t 0 f
    (if f = 0 then s else s.calRecord t 0xB006 0 0 0 0 0, f)
  if f ≠ 0 then fin s f
  else
    let banks := (upTo 9).flatMap (fun n => (upTo 2).map (fun pl => (n, pl)))
    let x := banks.foldl (fun (a : State × Nat) e =>
      let r := (b.drop (0x40 + 1072 * (2 * e.1 + e.2))).take 1072
      let f := a.1.bankFail t e.1 e.2 r
      if f = 0 then (a.1.applyBank t e.1 e.2 r, a.2) else (a.1, if a.2 = 0 then f else a.2)) (s, 0)
    fin x.1 x.2

/-- RESTORE (R314): software restores a tile's trims; S class. -/
def execRestore (path : Path) (tile : Tile) (s : State) : Host.Outcome State Fault Refusal :=
  s.tileWrite path tile.val .cal (fun s =>
    if s.busyTile tile.val then s.refuseStatic path .cal tile.val 0x44 else (s.restoreTrims tile.val).1)

/-! ### Monitors (R315, R316) -/

/-- The quadrant of a monitor: 0 base-die sensor of a quadrant, 1 tile diode, 2 droop detector of a tile, 3 sense point of a quadrant. -/
def monQuad (mon place : Nat) : Nat := if mon = 1 || mon = 2 then quadOf place else place % 224
/-- The scope in which one monitor of a kind is calibrated at a time: the site, or the quadrant. -/
def monScope (mon place : Nat) : Nat := if mon = 1 || mon = 2 then monQuad mon place else monQuad mon place / 4
/-- R315: the range of a monitor's trims. -/
def monOk (mon : Nat) (ofs gain : Int) : Bool :=
  if mon = 1 then decide (-32768 ≤ ofs) && decide (ofs < 32768)
  else if mon = 2 then decide (-128 ≤ ofs) && decide (ofs < 128) && decide (-128 ≤ gain) && decide (gain < 128)
  else true

/-- What the state shows of the condition under which a monitor is calibrated (Table 12-5): site power below 150 W by the last current read; no stretch
in the region. -/
def State.monMay (s : State) (mon place : Nat) : Bool :=
  let q := monQuad mon place
  if mon = 0 then decide (s.g PWR_SCUR_I (q / 4) * s.g PWR_SCFG_VSET_MV (q / 4) < 1500000) else if mon = 2 then !s.power.stretching.mem (regionOfQuad q) else true
/-- The readings that hold their last value while a monitor is calibrated. -/
def State.monStale (s : State) (mon place : Nat) (on : Bool) : State :=
  let q := monQuad mon place
  let either := b2n (s.cal.monBusy.mem (2 ^ 17 + place) || s.cal.monBusy.mem (2 * 2 ^ 17 + place))
  if mon = 0 then ({ s with thermal := { s.thermal with staleMon := s.thermal.staleMon.upd (2 ^ 20 + q) on } }).refreshTemp (q / 4)
  else if mon = 1 then
    (({ s with thermal := { s.thermal with staleMon := s.thermal.staleMon.upd place on } }).setReg CAL_STATUS_MON_STALE place 0 either).refreshTemp (q / 4)
  else if mon = 2 then s.setReg CAL_STATUS_MON_STALE place 0 either
  else { s with power := { s.power with vminStale := s.power.vminStale.upd q on } }

/-- MONITOR_CALIBRATION (R315): a calibration of a monitor begins (`ended` false), or ends with the trims it solved. -/
def execMonitorCalibration (mon : Fin 4) (place : Tile) (ended : Bool) (ofs gain : Int) (s : State) : Host.Outcome State Fault Refusal :=
  let m := mon.val
  let k := m * 2 ^ 17 + place.val
  let q := monQuad m place.val
  if ended then
    if s.cal.monBusy.mem k then
      let s := { s with cal := { s.cal with monBusy := s.cal.monBusy.del k } }.monStale m place.val false
      if monOk m ofs gain then
        .next { s with cal := { s.cal with monTrim := s.cal.monTrim.put k (if m = 1 then trunc 16 ofs else trunc 8 ofs + 256 * trunc 8 gain) } }
      else
        .next ((s.addReg CAL_FAILCOUNT_COUNT 0 0 1).record { code := 0xB007, unit := 12, detail := q / 4 * 1024 + q % 4 * 256 + m * 16 })
    else .next s
  else if !s.monMay m place.val then .next s
  else if s.cal.monBusy.entries.any (fun e => e.1 / 2 ^ 17 == m && monScope m (e.1 % 2 ^ 17) == monScope m place.val) then .next s
  else .next ({ s with cal := { s.cal with monBusy := s.cal.monBusy.add k } }.monStale m place.val true)

end Sys2Proof.Machine
end

