-- ==== Sys2Proof/Machine/Frac.lean ====
section
/-! DEFINITION. Exact fractions for the sums of the cap and of the thermal allowance (10 R268 to R272; 11 R282 to R285). -/

namespace Sys2Proof.Machine

/-- A fraction with a denominator that is not zero. -/
structure Frac where
  num : Int
  den : Nat
  deriving DecidableEq, Repr

/-- `n / d`; a division by zero counts as zero. -/
def Frac.mk' (n : Int) (d : Nat) : Frac := if d = 0 then ⟨0, 1⟩ else ⟨n, d⟩
def Frac.ofNat (n : Nat) : Frac := ⟨n, 1⟩
def Frac.zero : Frac := ⟨0, 1⟩
def Frac.add (a b : Frac) : Frac := if a.den = b.den then ⟨a.num + b.num, a.den⟩ else ⟨a.num * b.den + b.num * a.den, a.den * b.den⟩
def Frac.sub (a b : Frac) : Frac := a.add ⟨-b.num, b.den⟩
/-- A fraction times `n / d`. -/
def Frac.scale (a : Frac) (n d : Nat) : Frac := Frac.mk' (a.num * n) (a.den * d)
/-- `a / b`; a division by zero counts as zero. -/
def Frac.div (a b : Frac) : Frac :=
  if b.num = 0 then Frac.zero
  else if b.num < 0 then ⟨-(a.num * b.den), a.den * b.num.natAbs⟩
  else ⟨a.num * b.den, a.den * b.num.natAbs⟩
def Frac.le (a b : Frac) : Bool := decide (a.num * b.den ≤ b.num * a.den)
def Frac.lt (a b : Frac) : Bool := decide (a.num * b.den < b.num * a.den)
def Frac.min (a b : Frac) : Frac := if a.le b then a else b
def Frac.max (a b : Frac) : Frac := if a.le b then b else a
/-- The whole part, and the least whole number not below; a negative fraction counts as zero. -/
def Frac.floorN (a : Frac) : Nat := (a.num / (a.den : Int)).toNat
def Frac.ceilN (a : Frac) : Nat := ((a.num + a.den - 1) / (a.den : Int)).toNat
def fracSum (l : List Frac) : Frac := l.foldl Frac.add Frac.zero

end Sys2Proof.Machine
end

