-- ==== Sys2Proof/Machine/StwBase.lean ====
section
/-! DEFINITION. The steward's own data: request entries, the allotment, cache pages, transcripts, output records, the ring
and its queue, and the ends of requests (09_serving_requests.md R214 to R237). -/

namespace Sys2Proof.Machine

/-! ### Request entries (Tables 9-1, 9-3) -/

/-- Bytes 4k to 4k + 3 of an entry. -/
def ReqSt.w (q : ReqSt) (k : Nat) : Nat := q.words.get k 0
def ReqSt.prio (q : ReqSt) : Nat := bits (q.w 1) 3 0
def ReqSt.spec (q : ReqSt) : Bool := bitAt (q.w 1) 4
def ReqSt.keep (q : ReqSt) : Bool := bitAt (q.w 1) 5
def ReqSt.hardDl (q : ReqSt) : Bool := bitAt (q.w 1) 6
def ReqSt.kmax (q : ReqSt) : Nat := if bits (q.w 1) 11 8 = 0 then 8 else bits (q.w 1) 11 8
def ReqSt.pttl (q : ReqSt) : Nat := if bits (q.w 1) 31 16 = 0 then 600 else bits (q.w 1) 31 16
def ReqSt.deadline (q : ReqSt) : Nat := q.w 2 + q.w 3 * 2 ^ 32
def ReqSt.stopTok (q : ReqSt) : Nat := bits (q.w 8) 31 12
def ReqSt.stopEn (q : ReqSt) : Bool := bitAt (q.w 8) 7
def ReqSt.maxTok (q : ReqSt) : Nat := q.w 9
def ReqSt.promptAddr (q : ReqSt) : Nat := q.w 10 + q.w 11 * 2 ^ 32
def ReqSt.promptLen (q : ReqSt) : Nat := q.w 12

def rsFree : Nat := 0
def rsSubmitted : Nat := 1
def rsAdmitted : Nat := 2
def rsPrefill : Nat := 3
def rsDecode : Nat := 4
def rsPaused : Nat := 5
def rsParked : Nat := 6
def rsCompleted : Nat := 7
def rsCancelLate : Nat := 8
def rsCancelled : Nat := 9
def rsFailed : Nat := 10
def rsReplaced : Nat := 11
/-- R219. -/
def ReqSt.terminal (q : ReqSt) : Bool := decide (7 ≤ q.state) && decide (q.state ≤ 11)
/-- Neither FREE nor terminal. -/
def ReqSt.live (q : ReqSt) : Bool := q.state != 0 && !q.terminal
/-- In ADMITTED, PREFILL or DECODE. -/
def ReqSt.active (q : ReqSt) : Bool := decide (2 ≤ q.state) && decide (q.state ≤ 4)

/-- Request indices of a partition that are in use, ascending. -/
def State.partReqs (s : State) (p : Nat) : List Nat :=
  (s.reqs.entries.filter (fun e => (s.part p).reqFirst ≤ e.1 && e.1 < (s.part p).reqFirst + (s.part p).reqCount)).map (·.1)

/-- R225: request `a` comes before `b`. -/
def State.before (s : State) (a b : Nat) : Bool :=
  let x := s.req a
  let y := s.req b
  let dl (q : ReqSt) : Nat := if q.deadline = 0 then 2 ^ 64 else q.deadline
  if x.prio ≠ y.prio then decide (y.prio < x.prio)
  else if dl x ≠ dl y then decide (dl x < dl y)
  else decide (x.submitSeq ≤ y.submitSeq)
def State.insertReq (s : State) (r : Nat) : List Nat → List Nat
  | [] => [r]
  | x :: l => if s.before r x then r :: x :: l else x :: State.insertReq s r l
/-- A list of requests in request order. -/
def State.inOrder (s : State) (l : List Nat) : List Nat := l.foldr (fun r acc => s.insertReq r acc) []

/-- Table 9-1: TEMP is a zero or positive and finite; TOPP lies in 0 to 1. -/
def tempOk (w : Nat) : Bool := w % 2 ^ 31 == 0 || decide (w < 0x7F800000)
def toppOk (w : Nat) : Bool := w % 2 ^ 31 == 0 || decide (w ≤ 0x3F800000)
/-- R222: every field of an entry in its range (`minPrompt`: 1 at admission, 0 at a resume). -/
def ReqSt.fieldsOk (q : ReqSt) (minPrompt : Nat) : Bool :=
  decide (bits (q.w 1) 11 8 ≤ 8) && tempOk (q.w 6) && toppOk (q.w 7) && decide (bits (q.w 8) 6 0 ≤ 64) && decide (1 ≤ q.maxTok) &&
  decide (minPrompt ≤ q.promptLen)

/-! ### The allotment (R201, R222, R239) -/

def State.cistBytes (s : State) (p : Nat) : Nat := (s.part p).cistGb * 10 ^ 9
def roundUp (n k : Nat) : Nat := ceilDiv n k * k

/-- Spans of a partition's allotment in use: packages, transcripts, parcels. -/
def State.usedSpans (s : State) (p : Nat) : List (Nat × Nat) :=
  let x := s.part p
  let pk (o : Option PkgRef) : List (Nat × Nat) := match o with
    | some k => [(k.area, roundUp k.size 4096)]
    | none => []
  pk x.resident ++ pk x.pendPkg ++
  (match x.stage with
    | some g => [(g.area, roundUp g.size 4096)]
    | none => []) ++
  (s.partReqs p).flatMap (fun r =>
    let q := s.req r
    (match q.trOff with
      | some o => [(o.1, roundUp (4 * q.trLen) 4096), (o.2, roundUp (4 * q.trLen) 4096)]
      | none => []) ++
    (match q.parcel with
      | some o => if q.spillAt.isSome then [] else [(o.1, roundUp o.2 4096)]
      | none => []))

def spanFree (used : List (Nat × Nat)) (a n : Nat) : Bool := used.all (fun u => decide (a + n ≤ u.1) || decide (u.1 + u.2 ≤ a))
/-- The lowest span of `n` bytes below `lim` that meets none in use. -/
def firstFit (used : List (Nat × Nat)) (lim n : Nat) : Option Nat :=
  let cand := (0 :: used.map (fun u => u.1 + u.2)).filter (fun a => spanFree used a n && decide (a + n ≤ lim))
  match cand with
  | [] => none
  | a :: l => some (l.foldl min a)
/-- Space for `n` bytes in a partition's allotment. -/
def State.findSpace (s : State) (p n : Nat) : Option Nat := firstFit (s.usedSpans p) (s.cistBytes p) (roundUp n 4096)
/-- Room for the two copies of a transcript of `n` positions beside the spans in use. -/
def twoFits (used : List (Nat × Nat)) (lim n : Nat) : Option (Nat × Nat) :=
  let k := roundUp (4 * n) 4096
  match firstFit used lim k with
  | none => none
  | some a => (firstFit ((a, k) :: used) lim k).map (fun b => (a, b))
def State.findTwo (s : State) (p n : Nat) : Option (Nat × Nat) := twoFits (s.usedSpans p) (s.cistBytes p) n
/-- Rim dies all of whose stacks work. -/
def State.goodRims (s : State) : List Nat :=
  (upTo 8).filter (fun d => !s.repair.failedRims.mem d && !s.repair.takenRims.mem d &&
    (upTo 48).all (fun h => rimOfStack h != d || !(s.repair.failedStacks.mem h || s.repair.takenStacks.mem h)))
/-- One of a list, by a free number: the spec leaves open under which rim dies the copies lie. -/
def pickOf (l : List Nat) (n : Nat) : Nat := l.getD (n % max 1 l.length) 0
/-- Two different rim dies for the two copies of a transcript (R222). -/
def State.pickRims (s : State) : (Nat × Nat) × State :=
  let x := s.takeFree
  let y := x.2.takeFree
  let a := pickOf s.goodRims x.1
  ((a, pickOf (s.goodRims.filter (fun d => d != a)) y.1), y.2)

/-! ### Transcripts -/

/-- One token at a position of both copies. -/
def State.trWrite (s : State) (p r pos tok : Nat) : State := match (s.req r).trOff with
  | none => s
  | some o =>
    s.setMem (Memory.writeLE (Memory.writeLE s.mem (cisternBase p + o.1 + 4 * pos) 4 tok) (cisternBase p + o.2 + 4 * pos) 4 tok)
def State.trRead (s : State) (p r pos : Nat) : Nat := match (s.req r).trOff with
  | none => 0
  | some o => Memory.readLE s.mem (cisternBase p + (if (s.req r).trBad = 1 then o.2 else o.1) + 4 * pos) 4 % 2 ^ 20

/-- The draft twin of a request, if it has one (R243). -/
def State.twinOf (s : State) (r : Nat) : Option Nat := (s.reqs.entries.find? (fun e => e.2.twin && e.2.link == r)).map (·.1)
/-- The token of a request at a position; a twin's are its target's and then its proposals. -/
def State.tokAt (s : State) (p r pos : Nat) : Nat :=
  let q := s.req r
  if q.twin then
    let t := s.req q.link
    if pos < t.clen then s.trRead (s.g STW_PCFG_PEER p) q.link pos else q.proposals.getD (pos - t.clen) 0
  else s.trRead p r pos

/-! ### Cache pages (R231) -/

/-- Pages of an attention tile that positions below `lp` need. -/
def AttTile.need (a : AttTile) (lp : Nat) : Nat := ceilDiv (min lp (a.first + a.npages * a.ppp) - a.first) a.ppp
/-- The page that holds position index `j` of a request in a tile. -/
def State.pageOf (s : State) (a : AttTile) (r j : Nat) : Option Nat :=
  (upTo 16).map (pageNo a.tile) |>.find? (fun n =>
    let e := s.page n
    e.pstate == 2 && e.req == r && e.fpos == a.first + j * a.ppp)
/-- Page indices that a request lacks in a tile. -/
def State.missing (s : State) (a : AttTile) (r lp : Nat) : List Nat := (upTo (a.need lp)).filter (fun j => (s.pageOf a r j).isNone)
/-- FREE pages of a tile outside its program window. -/
def State.freePages (s : State) (t : Nat) : List Nat :=
  ((upTo 16).filter (fun k => decide (s.reg BSN_PROG_PROG_PAGES t 0 ≤ k))).map (pageNo t) |>.filter (fun n => (s.page n).pstate == 0)
/-- Pages of a tile held by requests of a list. -/
def State.heldBy (s : State) (t : Nat) (l : List Nat) : Nat :=
  ((upTo 16).filter (fun k => (s.page (pageNo t k)).pstate == 2 && l.contains (s.page (pageNo t k)).req)).length

/-- Every tile can supply what requests of a list need for positions below their LP, were the pages of `also` free. -/
def State.canSupplyAll (s : State) (p : Nat) (l : List (Nat × Nat)) (also : List Nat) : Bool :=
  (s.part p).attTiles.all (fun a =>
    let want := (((s.part p).attTiles.filter (fun b => b.tile == a.tile)).map (fun b =>
      (l.map (fun e => (s.missing b e.1 e.2).length)).foldl (· + ·) 0)).foldl (· + ·) 0
    decide (want ≤ (s.freePages a.tile).length + s.heldBy a.tile also))
def State.canSupplyWith (s : State) (p r lp : Nat) (also : List Nat) : Bool := s.canSupplyAll p [(r, lp)] also
def State.canSupply (s : State) (p r lp : Nat) : Bool := s.canSupplyWith p r lp []

/-- A page allocated for a request: the bytes that the K8 layout does not use are written zero (R128). -/
def State.allocPage (s : State) (p r : Nat) (a : AttTile) (j : Nat) : State :=
  match (s.freePages a.tile).head? with
  | none => s
  | some n =>
    let slots := 2 * a.heads * a.ppp
    let used := slots * (64 * 2 ^ a.dhead)
    let s := s.setPage n ⟨2, false, p, r, a.first + j * a.ppp⟩
    let m := Memory.zero (Memory.zero s.mem (pageAddr n + used) (63 * 512 - used)) (pageAddr n + 63 * 512 + slots) (512 - slots)
    s.setMem m
/-- The pages that positions below `lp` need, allocated in every attention tile. -/
def State.allocPages (s : State) (p r lp : Nat) : State :=
  (s.part p).attTiles.foldl (fun s a => (s.missing a r lp).foldl (fun s j => s.allocPage p r a j) s) s
/-- The pages of a request freed; their contents stay (R126). -/
def State.freeReqPages (s : State) (r : Nat) : State :=
  { s with pages := s.pages.keep (fun _ e => !((e.pstate == 2 || e.pstate == 4) && e.req == r)) }

/-- The page-list row of a slot in an attention tile, covering positions below `lp` (R231, Table 4-13). -/
def State.listRow (s : State) (a : AttTile) (r lp : Nat) : List Byte :=
  let ps := (upTo (min 32 (a.need lp))).map (fun j => (s.pageOf a r j).getD 0)
  let b := bytesOf 4 a.first ++ bytesOf 2 ps.length ++ [0#8, 0#8] ++ ps.flatMap (bytesOf 4)
  b ++ List.replicate (512 - b.length) 0#8
def State.writeLists (s : State) (p r sl lp : Nat) : State :=
  (s.part p).attTiles.foldl (fun s a =>
    s.storeWords a.tile ((a.plRow + sl) % 1024) (beatsOf (s.listRow a r lp) false false) allWords) s

/-! ### Output records (R232, R234 to R237, Table 9-8) -/

/-- A record of a request as the entry stands after the change it reports. -/
def State.mkRec (s : State) (p r kind : Nat) (seq accepted reason : Nat) (toks : List Nat) (degraded : Bool) : OutRec :=
  let q := s.req r
  { kind := kind, gen := q.gen, req := r, seq := seq, step := (s.part p).count, ptp := s.ptp, state := q.state, reason := reason,
    repeat_ := false, replayed := q.replayed && !toks.isEmpty, degraded := degraded, final := q.terminal, accepted := accepted, tokens := toks }
def State.pushRec (s : State) (p : Nat) (x : OutRec) : State := s.updPart p (fun y => { y with acc := y.acc ++ [x] })

/-- The 16 words of a record. -/
def OutRec.words (x : OutRec) (phase : Bool) : List Nat :=
  let w6 := x.state * 2 ^ 28 + x.reason * 2 ^ 20 + b2n x.repeat_ * 2 ^ 15 + b2n x.replayed * 2 ^ 14 + b2n x.degraded * 2 ^ 13 +
    b2n x.final * 2 ^ 12 + x.accepted % 16 * 2 ^ 8 + x.tokens.length % 16
  [b2n phase * 2 ^ 31 + x.kind % 8 * 2 ^ 28 + x.gen % 256 * 2 ^ 20 + x.req % 2 ^ 20, x.seq % 2 ^ 32, x.step % 2 ^ 32, x.step / 2 ^ 32 % 2 ^ 32,
   x.ptp % 2 ^ 32, x.ptp / 2 ^ 32 % 2 ^ 32, w6] ++ (x.tokens.take 9) ++ List.replicate (9 - min 9 x.tokens.length) 0

/-- STATUS of an S2 record (Table 9-12). -/
def s2Status (reason : Nat) : Nat :=
  if reason = 0 then 0 else if reason = 1 then 1 else if reason = 2 || reason = 3 then 2 else if reason = 4 then 3 else 0x40 + reason
/-- The 8 words of an S2 record. -/
def s2Words (phase : Bool) (tag kind status tok seq step ptp : Nat) : List Nat :=
  [tag % 2 ^ 32, b2n phase * 2 ^ 31 + kind * 2 ^ 28 + status % 256 * 2 ^ 20 + tok % 2 ^ 20, seq % 2 ^ 32, 0, step % 2 ^ 32, step / 2 ^ 32 % 2 ^ 32,
   ptp % 2 ^ 32, ptp / 2 ^ 32 % 2 ^ 32]
/-- What a record becomes in Smifort mode: one S2 record for each token, the last of which carries the end (R249). -/
def OutRec.s2 (x : OutRec) : List (Nat × Nat × Nat × Nat) :=
  let st (r : Nat) : Nat := if x.repeat_ then 0x7E else s2Status r
  if x.tokens.isEmpty then (if x.final then [(1, st x.reason, 0, x.seq)] else [])
  else x.tokens.zipIdx.map (fun t =>
    if x.final && t.2 + 1 = x.tokens.length then (1, st x.reason, t.1, x.seq + t.2) else (0, st 0, t.1, x.seq + t.2))

def State.smifort (s : State) (p : Nat) : Bool := s.flag STW_PCFG_SMIFORT 0 p
def State.ringSize (s : State) (p : Nat) : Nat := 2 ^ s.g STW_RING_CFG_LOG2N p
/-- The ring takes `n` more records (R232, R235, R351, R377). -/
def State.ringRoom (s : State) (p n : Nat) : Bool :=
  s.flag STW_RING_CFG_EN 0 p && s.fnMayMaster (p + 1) &&
    decide ((s.g STW_RING_TAIL_TAIL p + 2 ^ 32 - s.g STW_RING_HEAD_HEAD p) % 2 ^ 32 + n ≤ s.ringSize p)

/-- R237: the ring vector of a partition. -/
def State.ringSignal (s : State) (p : Nat) : State :=
  (s.msix (p + 1) 0).updPart p (fun x => { x with sinceSig := 0, firstUnsig := none })
/-- R237: the limits in force now. -/
def State.modCheck (s : State) (p : Nat) : State :=
  let x := s.part p
  let due := match x.firstUnsig with
    | some t => s.g STW_MOD_TIME_US p ≠ 0 && decide (t + 1000 * s.g STW_MOD_TIME_US p ≤ s.ptp)
    | none => false
  if x.sinceSig ≠ 0 && (decide (s.g STW_MOD_COUNT p ≤ x.sinceSig) || due) then s.ringSignal p else s

/-- Words written to the next slot of a ring, the first in a later write than the others, and TAIL advanced (R232). -/
def State.ringPut (s : State) (p : Nat) (f : Bool → List Nat) (o : List Nat → Out) : State :=
  let t := s.g STW_RING_TAIL_TAIL p
  let w := f (t / s.ringSize p % 2 == 0)
  let a := s.g STW_RING_HI_BASE_HI p * 2 ^ 32 + s.g STW_RING_LO_BASE_LO p * 4096 + t % s.ringSize p * (4 * w.length)
  let b := w.flatMap (bytesOf 4)
  let s := s.setMem (Memory.writeBytes (Memory.writeBytes s.mem (hostBase + a + 4) (b.drop 4)) (hostBase + a) (b.take 4))
  let s := if s.reg (HDR_ERR_INJECT .pci) 0 0 = 1 then
      ((s.setReg (HDR_ERR_INJECT .pci) 0 0 0).setReg (HDR_INJECTED .pci) 0 0 1).record { code := 0xA011, unit := 13, detail := 0xFFF0 }
    else s
  let s := (s.emit (o w)).setG STW_RING_TAIL_TAIL p (t + 1)
  (s.updPart p (fun x => { x with sinceSig := x.sinceSig + 1, firstUnsig := x.firstUnsig.or (some s.ptp) })).modCheck p

/-- A record written to the ring (R232, R249). -/
def State.writeRec (s : State) (p : Nat) (x : OutRec) : State :=
  if s.smifort p then
    let tag := (s.part p).tags.get x.req 0
    x.s2.foldl (fun s e => s.ringPut p (fun ph => s2Words ph tag e.1 e.2.1 e.2.2.1 e.2.2.2 x.step x.ptp) (Out.smi p tag)) s
  else s.ringPut p x.words (Out.record p (s.g STW_RING_TAIL_TAIL p))
/-- Ring slots that a record takes. -/
def State.recSlots (s : State) (p : Nat) (x : OutRec) : Nat := if s.smifort p then x.s2.length else 1

/-- Queued records written in order while the ring has room (R234). -/
def State.drainList (s : State) (p : Nat) : List OutRec → State
  | [] => s.updPart p (fun x => { x with queue := [], ringEpisode := false, queueEpisode := false })
  | x :: l =>
    if s.ringRoom p (s.recSlots p x) then State.drainList (s.writeRec p x) p l
    else s.updPart p (fun y => { y with queue := x :: l, queueEpisode := y.queueEpisode && decide (4096 ≤ l.length + 1) })
def State.drainQueue (s : State) (p : Nat) : State :=
  if (s.part p).queue.isEmpty then s else s.drainList p (s.part p).queue

/-- A record that may be written: to the ring, or to the queue while the ring has no room. -/
def State.outRec (s : State) (p : Nat) (x : OutRec) : State :=
  if (s.part p).queue.isEmpty && s.ringRoom p (s.recSlots p x) then s.writeRec p x
  else
    let s := if (s.part p).ringEpisode then s else s.record { code := 0x8005, unit := 10, part := some p }
    s.updPart p (fun y => { y with queue := y.queue ++ [x], ringEpisode := true })

/-- The records of boundaries not yet acknowledged, and of the one in progress. -/
def State.pendRecs (s : State) (p : Nat) : List OutRec := (s.part p).journal.flatMap (·.recs) ++ (s.part p).acc
/-- Those of a list for which the ring has no room after `used` slots: they will be queued. -/
def State.overflowing (s : State) (p : Nat) : Nat → List OutRec → List OutRec
  | _, [] => []
  | used, x :: l =>
    if s.ringRoom p (used + s.recSlots p x) then State.overflowing s p (used + s.recSlots p x) l else x :: l
/-- The records queued, and those that will be. -/
def State.backlog (s : State) (p : Nat) : List OutRec :=
  (s.part p).queue ++ (if (s.part p).queue.isEmpty then s.overflowing p 0 (s.pendRecs p) else s.pendRecs p)
/-- R236: the queue has no room for a record of another event. -/
def State.deferring (s : State) (p : Nat) : Bool := decide (4096 ≤ (s.backlog p).length)
/-- A request has a queued record (R234), or one that this boundary queues. -/
def State.queued (s : State) (p r : Nat) : Bool := (s.backlog p).any (fun x => x.req == r)

/-- R217: where the journal's copies go while the standby is not in step: under two different rim dies. -/
def State.journalCopies (s : State) : Option (Nat × Nat) × State :=
  if s.flag STW_CTRL_STANDBY_OK 0 0 then (none, s) else let x := s.pickRims; (some x.1, x.2)
/-- R215: what the boundary (or an event outside one) has gathered goes to the journal. -/
def State.journalAcc (s : State) (p : Nat) : State :=
  let x := s.part p
  if x.acc.isEmpty && x.accRows.isEmpty then s
  else
    let c := s.journalCopies
    c.2.setPart p { x with journal := x.journal ++ [⟨x.count, x.acc, x.accRows, c.1⟩], acc := [], accRows := [] }

/-! ### Chained partitions (R366) -/

def State.chained (s : State) (p : Nat) : Bool := s.flag AQD_PCHAIN_CHAINED 0 p
def State.chainHead (s : State) (p : Nat) : Bool := s.chained p && s.flag AQD_PCHAIN_HEAD 0 p
/-- A partition of a set that is not its head: its steward acts only on the head's messages. -/
def State.chainMember (s : State) (p : Nat) : Bool := s.chained p && !s.flag AQD_PCHAIN_HEAD 0 p

/-! ### Ends of requests (R224) -/

/-- Work of a request in the pipeline is discarded, and its slot is unbound. -/
def State.unbind (s : State) (p r : Nat) : State :=
  (s.updPart p (fun x => { x with slots := x.slots.mapVal (fun _ b => if b.req = r then { b with dead := true } else b) })).updReq r
    (fun q => { q with prevSlot := none, slot := none })

/-- A draft twin ends: its entry is FREE again. -/
def State.endTwin (s : State) (w : Nat) : State :=
  let d := (s.reqOwner w).getD 64
  ((s.unbind d w).freeReqPages w).setReq w { ReqSt.clear with gen := (s.req w).gen, words := (s.req w).words }

/-- Pages, parcel, transcript and twin released once. -/
def State.release (s : State) (p r : Nat) : State :=
  let s := ((s.unbind p r).freeReqPages r).updReq r (fun q => { q with
    parcel := none, parcelPages := [], spillAt := none, parcelWait := false, returning := false, restoreLeft := 0, trOff := none, trLen := 0, trBad := 0,
    promptPend := false, promptDone := false, readErr := false, resumePend := false, parkNext := false, replayed := false
    endDue := false, degraded := false })
  match s.twinOf r with
  | some w => s.endTwin w
  | none => s

/-- A request enters a terminal state; its record carries the tokens that commit with it. A chain's head sends END (R366). -/
def State.endReq (s : State) (p r st reason : Nat) (toks : List Nat) (seq accepted : Nat) (degraded : Bool) : State :=
  let rep := (s.req r).replayed
  let s := (s.updReq r (fun q => { q with state := st, reason := reason, hcmd := 0, marked := false })).release p r
  let s := if s.chainHead p then s.tell p 2 [r] else s
  s.pushRec p { s.mkRec p r 2 seq accepted reason toks degraded with replayed := rep && !toks.isEmpty }
/-- An end without tokens. -/
def State.endPlain (s : State) (p r st reason : Nat) : State := s.endReq p r st reason [] (s.req r).outcnt 0 false
/-- A record of class 8 about a request. -/
def State.reqRecord (s : State) (p r code : Nat) : State := s.record { code := code, unit := 10, part := some p, req := some r }
/-- A failure with its fault record. -/
def State.failReq (s : State) (p r reason code : Nat) : State := (s.reqRecord p r code).endPlain p r rsFailed reason

/-! ### Pausing and parking (R239, R240) -/

/-- Pages that a request holds in the tiles of its partition. -/
def State.reqPages (s : State) (r : Nat) : List (Nat × PageEnt) := s.pages.entries.filter (fun e => e.2.pstate == 2 && e.2.req == r)
/-- A server table entry that takes traffic (R203). -/
def State.serverUp (s : State) (e : Nat) : Bool := s.flag LD_SRV0_VALID 0 e && !s.flag LD_SRV0_DOWN 0 e
/-- R355: the partition uses a spill region, and its entry is not DOWN. -/
def State.spills (s : State) (p : Nat) : Bool :=
  s.flag NET_SPILL_CFG_EN 0 p && !s.link.chainMode && s.serverUp (s.g NET_SPILL_CFG_ENTRY p)
/-- Where byte `off` of a partition's spill region lies in the model's space: 2^64 bytes for each entry. -/
def State.spillAddr (s : State) (p off : Nat) : Nat :=
  2 ^ 70 + s.g NET_SPILL_CFG_ENTRY p * 2 ^ 64 + (s.g NET_SPILL_RB_HI_RBASE p * 2 ^ 32 + s.g NET_SPILL_RB_LO_RBASE p + off) % 2 ^ 64
/-- The CRC-32C of each 4 KiB of `n` bytes of memory, from number `k` of the area at `a` (R201, R355). -/
def unitCrcs (m : Memory) (a k n : Nat) : List (Nat × Nat) :=
  (upTo (ceilDiv n 4096)).map (fun i => (k + i, crc32c (Memory.readBytes m (a + 4096 * (k + i)) (min 4096 (n - 4096 * i)))))
/-- Spans of the region that hold parcels. -/
def State.spillSpans (s : State) (p : Nat) : List (Nat × Nat) :=
  (s.partReqs p).flatMap (fun r => match (s.req r).parcel with
    | some o => if (s.req r).spillAt.isSome then [(o.1, roundUp o.2 4096)] else []
    | none => [])
/-- Where the parcel of a request goes: in the spill region behind a header of 64 bytes (true), or in the allotment; its offset. -/
def State.parcelPlace (s : State) (p r : Nat) : Option (Bool × Nat) :=
  let n := (s.reqPages r).length * 32768
  if s.spills p then (firstFit (s.spillSpans p) (s.g NET_SPILL_LEN_LEN_GB p * 10 ^ 9) (roundUp (n + 64) 4096)).map (fun a => (true, a))
  else (s.findSpace p n).map (fun a => (false, a))
/-- There is room for the parcel of a request (R239, R355). -/
def State.parcelRoom (s : State) (p r : Nat) : Bool := (s.parcelPlace p r).isSome

/-- A request leaves its slot for PAUSED or PARKED; its pages wait to be read into a parcel. -/
def State.setAside (s : State) (p r st reason : Nat) (toks : List Nat) (seq accepted : Nat) (degraded : Bool) : State :=
  let rep := (s.req r).replayed
  let s := (s.unbind p r).updReq r (fun q => { q with
    state := st, hcmd := 0, pausedAt := s.ptp, parcelWait := !(s.reqPages r).isEmpty, parkNext := false, waitRec := false, replayed := false, resumePend := false,
    reason := if st = rsPaused && reason = 15 then 15 else q.reason })
  let s := s.pushRec p { s.mkRec p r 3 seq accepted reason toks degraded with replayed := rep && !toks.isEmpty }
  match s.twinOf r with
  | some w => s.endTwin w
  | none => s

/-! ### Request replay (R245) -/

/-- A cache page holds a poisoned word. -/
def State.pagePoisoned (s : State) (n : Nat) : Bool :=
  decide (n < 917504) && (s.tile (n / 16)).poisonMark.entries.any (fun e => e.1 / 4096 == n % 16)
/-- The page of a request did not survive: poisoned, LOST, or retired. -/
def State.lostPage (s : State) (r : Nat) (e : Nat × PageEnt) : Bool :=
  e.2.req == r && ((e.2.pstate == 2 && s.pagePoisoned e.1) || e.2.pstate == 4 || e.2.pstate == 3)
def noReq : Nat := 1048575
def State.hasLost (s : State) (r : Nat) : Bool := s.pages.entries.any (s.lostPage r)

/-- The first position whose work is not in the cache of every stage. -/
def State.firstUndone (s : State) (p r : Nat) : Nat :=
  (s.part p).slots.entries.foldl (fun m e => if e.2.req = r && !e.2.dead then min m e.2.lc else m) (s.req r).nextPos

/-- The lost pages of a request are no longer its own. -/
def State.dropLost (s : State) (r : Nat) : State :=
  { s with pages := s.pages.mapVal (fun n e =>
      if s.lostPage r (n, e) then { e with pstate := if e.pstate = 3 then 3 else 4, req := noReq } else e) }
/-- Request `r` is rebuilt from its transcript: lost pages marked, chunks again from p0, and then the decode pass. A twin, whose
transcript is its target's, is rebuilt alike, without a record. A request whose cancel has been observed, or that a replacement has ended, is not
replayed (R246). DEDUCED (log entry 72): with no page lost, p0 is CLEN - 1 for a cache that holds every position below it; positions whose chunk had
not been through every stage are prefilled again. -/
def State.replayReq (s : State) (p r : Nat) : State :=
  let q := s.req r
  if !q.active || q.hcmd = 1 || q.endDue then s
  else if q.twin then
    let p0 := s.pages.entries.foldl (fun m e => if s.lostPage r e then min m e.2.fpos else m) (min (q.clen - 1) (s.firstUndone p r))
    ((s.dropLost r).unbind p r).updReq r (fun q => { q with nextPos := p0 })
  else if q.trBad = 3 then s.failReq p r 13 0x800A
  else
    let own := min (min (q.clen - 1) (s.firstUndone p r)) ((s.part p).chainLost.get r q.clen)
    let p0 := s.pages.entries.foldl (fun m e => if s.lostPage r e then min m e.2.fpos else m) own
    let s := ((s.dropLost r).updPart p (fun x => { x with chainLost := x.chainLost.del r }))
    let s := (s.unbind p r).updReq r (fun q => { q with nextPos := p0, replayed := true })
    let s := s.reqRecord p r 0x8009
    match s.twinOf r with
    | some w => s.updReq w (fun y => { y with nextPos := min y.nextPos p0 })
    | none => s

end Sys2Proof.Machine
end

