-- ==== Sys2Proof/Machine/StwBoundary.lean ====
section
/-! DEFINITION. The steward's work at a commit boundary: results of the slot that leaves the last stage, the order of events of
Table 9-9, admission, preemption and binding (09_serving_requests.md R221 to R247; 14 R366). -/

namespace Sys2Proof.Machine

/-! ### Results (Table 4-16) -/

/-- What the committing attempt delivers for a request. -/
structure Commit where
  toks : List Nat
  seq : Nat
  accepted : Nat
  degraded : Bool
  /-- The end that the tokens make: 0 none, else the reason of Table 9-6. -/
  natural : Nat
  noTok : Bool

def Commit.none : Commit := ⟨[], 0, 0, false, 0, false⟩

/-- The outbound row, PENDING with the steward as destination, that the attempt wrote. -/
def State.resultRow (s : State) (p : Nat) : Option (Nat × Nat) :=
  (s.tiles.entries.filter (fun e => s.owner e.1 == some p)).findSome? (fun e =>
    (e.2.tags.entries.find? (fun g => g.2 == 3 && s.outWin e.1 g.1 && (s.dlv e.1 g.1).kind == 2)).map (fun g => (e.1, g.1)))

/-- The bytes of the result row, unless the row is absent, poisoned, or lost by an injection (R119, R245, R392). -/
def State.takeResult (s : State) (p : Nat) : State × Option (List Byte) :=
  match s.resultRow p with
  | none => (s, none)
  | some (t, r) =>
    let x := s.readRow t r 0 false
    let b := packBeats x.2
    let s := x.1
    if s.reg (HDR_ERR_INJECT .stw) 0 0 = 1 then
      ((s.setReg (HDR_ERR_INJECT .stw) 0 0 0).setReg (HDR_INJECTED .stw) 0 0 1, none)
    else (s, if b.2.isEmpty then some b.1 else none)

/-- The pass that leaves the last stage at this boundary; at a head, one whose RESULT has come. -/
def State.duePass (s : State) (p : Nat) : Option (Nat × SlotBind) :=
  let x := s.part p
  x.slots.entries.find? (fun e =>
    if s.chainHead p then x.chainRes.any (fun c => c.1 == e.1) else e.2.enter + x.hdr.stages == x.passIdx + 1)

/-- The tokens up to the first stop token. -/
def upToStop (stop : Option Nat) : List Nat → List Nat
  | [] => []
  | t :: l => if stop = some t then [t] else t :: upToStop stop l

/-- R233: the tokens that commit, and the end they make. -/
def State.trim (s : State) (p r : Nat) (emitted : List Nat) : List Nat × Nat :=
  let q := s.req r
  let stop := if q.stopEn then some q.stopTok else none
  let a := upToStop stop emitted
  let left := q.maxTok - (q.outcnt - q.turnBase)
  let cap := (s.part p).capacity - q.clen
  let l := a.take (min left cap)
  (l, if l.isEmpty then 0 else if l.getLast? == stop then 1 else if l.length = left then 2 else if l.length = cap then 3 else 0)

/-- Tokens appended to a transcript from a position. -/
def State.appendToks (s : State) (p r : Nat) : Nat → List Nat → State
  | _, [] => s
  | pos, t :: l => State.appendToks (s.trWrite p r pos t) p r (pos + 1) l

/-- R244: a twin set back to its target's committed tokens. -/
def State.setBack (s : State) (r : Nat) : State := match s.twinOf r with
  | none => s
  | some w =>
    let d := (s.reqOwner w).getD 64
    (s.updPart d (fun x => { x with slots := x.slots.mapVal (fun _ b => if b.req = w then { b with dead := true } else b) })).updReq w
      (fun y => { y with proposals := [], clen := (s.req r).clen, nextPos := min y.nextPos ((s.req r).clen - 1), prevSlot := none })

/-- A result of a decode pass of a request (R233, R244). -/
def State.commitResult (s : State) (p : Nat) (b : SlotBind) (data : List Byte) : State × Option Commit :=
  let w := numOf (data.take 4)
  let emitted := (upTo (min 9 (bits w 3 0))).map (fun i => numOf ((data.drop (4 + 4 * i)).take 4) % 2 ^ 20)
  let q := s.req b.req
  if q.twin then
    (s.updReq b.req (fun y => { y with
      proposals := y.proposals ++ emitted.take 1, clen := y.clen + min 1 emitted.length, nextPos := b.lc + 1 }), none)
  else
    let t := s.trim p b.req emitted
    let n := t.1.length
    let s := s.appendToks p b.req q.clen t.1
    let s := (s.updReq b.req (fun y => { y with
      outcnt := y.outcnt + n, clen := y.clen + n, nextPos := y.clen + n - 1, degraded := false })).setBack b.req
    (s, some ⟨t.1, q.outcnt, min (bits w 7 4) n, b.degraded || q.degraded, t.2, bitAt w 8⟩)

/-- The result of the pass that leaves the last stage: its request, and what commits. -/
def State.resolve (s : State) (p : Nat) : State × Option (Nat × Commit) :=
  match s.duePass p with
  | none => (s, none)
  | some (sl, b) =>
    let head := s.chainHead p
    let res : State × Option (List Byte) :=
      if head then (s, (((s.part p).chainRes.find? (fun c => c.1 == sl)).map (·.2)).bind (fun d => if d.isEmpty then none else some d))
      else s.takeResult p
    let s := res.1.updPart p (fun x => { x with slots := x.slots.del sl, chainRes := x.chainRes.filter (fun c => c.1 != sl) })
    if b.dead then (s, none)
    else if !b.decode then (if b.degraded then s.updReq b.req (fun q => { q with degraded := true }) else s, none)
    else
      match res.2 with
      | none => ((s.reqRecord p b.req 0x8008).replayReq p b.req, none)
      | some d =>
        let c := s.commitResult p b d
        (c.1, c.2.map (fun k => (b.req, k)))

/-- A member's last stage has sent its result to its steward, which forwards it to the head (R366). -/
def State.forwardResult (s : State) (p : Nat) : State :=
  match s.takeResult p with
  | (s, some d) => s.tell p 3 (p :: d.map (fun v => v.toNat))
  | (s, none) => s
/-- The shadow entries of a member partition: its own index by the head's (R366). -/
def State.shadowList (s : State) (p : Nat) : List (Nat × Nat) :=
  (s.link.shadowEnt.entries.filter (fun e => e.1 / 65536 == p)).map (fun e => (e.1 % 65536, e.2))
/-- A shadow entry and its pages freed. -/
def State.freeShadow (s : State) (p h : Nat) : State := match s.link.shadowEnt.get? (p * 65536 + h) with
  | none => s
  | some r =>
    let s := (s.freeReqPages r).setReq r { ReqSt.clear with gen := (s.req r).gen }
    { s with link := { s.link with shadowEnt := s.link.shadowEnt.del (p * 65536 + h) } }
/-- What a member does at its commit boundary: requests that the head has ended are freed, and pages lost are told to it. -/
def State.memberBoundary (s : State) (p : Nat) : State :=
  let s := ((s.part p).chainEnds.entries.foldl (fun (s : State) e => s.freeShadow p e.1) s).updPart p (fun x => { x with chainEnds := Map.empty })
  (s.shadowList p).foldl (fun (s : State) e =>
    if s.hasLost e.2 then
      (((s.pages.entries.filter (s.lostPage e.2)).map (·.2.fpos)).foldl (fun (s : State) pos => s.tell p 4 [e.1, pos]) s).dropLost e.2
    else s) s

/-! ### Events of one request (R241, Table 9-9) -/

/-- The partition replaces its weights now: an immediate INSTALL, or one whose drain has ended (R207). -/
def State.replacing (s : State) (p : Nat) : Bool := match (s.part p).install with
  | none => false
  | some i => match i.admStop with
    | none => false
    | some t => i.immediate || decide (t + 1000000 * i.drainMs ≤ s.ptp)

/-- R207, R208: the replacement ends this request at this boundary. -/
def State.replaced (s : State) (p : Nat) (q : ReqSt) : Bool := match (s.part p).install with
  | none => false
  | some i => i.admStop.isSome &&
    ((s.replacing p && (q.active || q.state == rsPaused || q.state == rsParked)) ||
     (i.stops && (q.state == rsPaused || q.state == rsParked || (i.reject && q.state == rsSubmitted))))

/-- Requests that the replacement has still to end: their records wait for room in the queue (R236). -/
def State.leftToEnd (s : State) (p : Nat) : Bool :=
  (s.partReqs p).any (fun r => let q := s.req r; q.live && !q.twin && (s.replaced p q || q.endDue))
/-- The write of a replacement is due: no request is left to end. -/
def State.writeDue (s : State) (p : Nat) : Bool := s.replacing p && !s.leftToEnd p

/-- A PAUSE refused for lack of parcel space (R239), counted for the function that wrote it. -/
def State.refusePause (s : State) (p r : Nat) : State :=
  (((s.updReq r (fun q => { q with hcmd := 0 })).addReg (HDR_ERR_COUNT .stw) (s.req r).cmdFn 0 1).setG STW_STATUS_WRITE_REFUSED 0 1).reqRecord p r 0x8010

/-- The new turn of a RESUME (R239). -/
def State.resumeOk (s : State) (p : Nat) (q : ReqSt) : Bool :=
  q.fieldsOk 0 && decide (q.clen + q.promptLen + q.maxTok ≤ (s.part p).capacity)

/-- A record for tokens only. -/
def State.tokensOnly (s : State) (p r : Nat) (c : Commit) : State :=
  if c.toks.isEmpty then s
  else (s.pushRec p (s.mkRec p r 1 c.seq c.accepted 0 c.toks c.degraded)).updReq r (fun q => { q with replayed := false })

/-- R226: the hard deadline has passed. -/
def ReqSt.late (q : ReqSt) (now : Nat) : Bool := q.hardDl && q.deadline ≠ 0 && decide (q.deadline ≤ now)

/-- A PAUSED request resumes: checked at once, then pending (R239); a failing check is deferred while the queue is full. -/
def State.observeResume (s : State) (p r : Nat) : State :=
  let q := s.req r
  if q.state = rsPaused && q.hcmd = 3 && !q.resumePend then
    if s.resumeOk p q then s.updReq r (fun q => { q with resumePend := true })
    else if s.deferring p then s
    else s.failReq p r 10 0x8003
  else s

/-- The events that meet a request at a boundary, in the order of Table 9-9. One that would add a record is deferred while the queue has no room
for it (R236). -/
def State.reqEvents (s : State) (p r : Nat) (c : Commit) : State :=
  let q := s.req r
  let defer := s.deferring p
  let cancel := q.hcmd == 1 && !defer
  let fin (st reason : Nat) (s : State) : State := s.endReq p r st reason c.toks (if c.toks.isEmpty then (s.req r).outcnt else c.seq) c.accepted c.degraded
  let aside (st reason : Nat) (s : State) : State := s.setAside p r st reason c.toks (if c.toks.isEmpty then (s.req r).outcnt else c.seq) c.accepted c.degraded
  if !q.live || q.twin then s
  else if c.natural ≠ 0 && !q.keep then fin (if q.hcmd = 1 then rsCancelLate else rsCompleted) c.natural s
  else if c.noTok then fin rsFailed 12 s
  else if cancel then fin rsCancelled 4 s
  else if q.trBad = 3 then fin rsFailed 13 (s.reqRecord p r 0x800A)
  else if (s.replaced p q || q.endDue) && !defer then fin rsReplaced 7 s
  else if q.late s.ptp && !defer then fin rsFailed 5 (s.reqRecord p r 0x8006)
  else if c.natural ≠ 0 then aside rsPaused 15 (if s.parcelRoom p r then s else (s.reqRecord p r 0x8010).updReq r (fun q => { q with waitRec := true }))
  else if q.state = rsDecode && q.hcmd = 2 && !defer then
    if s.parcelRoom p r then aside rsPaused 15 s else (s.refusePause p r).tokensOnly p r c
  else if q.state = rsDecode && q.parkNext && !defer then aside rsParked 16 s
  else (s.tokensOnly p r c).observeResume p r

/-- R236: a full queue, once per episode. -/
def State.noteFull (s : State) (p : Nat) : State :=
  if s.deferring p && !(s.part p).queueEpisode then
    (s.record { code := 0x8012, unit := 10, part := some p }).updPart p (fun x => { x with queueEpisode := true })
  else s
/-- The events of every request, in request order. -/
def State.allEvents (s : State) (p : Nat) (res : Option (Nat × Commit)) : State :=
  ((s.inOrder (s.partReqs p)).foldl (fun s r =>
    (s.reqEvents p r (match res with
      | some (r', c) => if r' = r then c else Commit.none
      | none => Commit.none)).updReq r (fun q => { q with marked := false })) s).noteFull p

/-! ### Twins (R243) -/

/-- A FREE entry of a partition. -/
def State.freeEntry (s : State) (d : Nat) : Option Nat :=
  (rowRun (s.part d).reqFirst (s.part d).reqCount).find? (fun r => (s.req r).state == 0)

/-- A twin for a DECODE request of a paired target partition. -/
def State.makeTwin (s : State) (p r : Nat) : State :=
  let d := s.g STW_PCFG_PEER p
  match s.freeEntry d with
  | none =>
    if (s.part p).noTwinEp.mem r then s
    else (s.reqRecord p r 0x800E).updPart p (fun x => { x with noTwinEp := x.noTwinEp.add r })
  | some w =>
    let q := s.req r
    let y : ReqSt := { ReqSt.clear with
      state := rsAdmitted, gen := (s.req w).gen, words := q.words.put 6 0, clen := q.clen, twin := true, link := r, submitSeq := q.submitSeq }
    (s.setReq w y).updReq r (fun q => { q with link := w })
/-- The draft partition of a target carries MFLAGS draft model. -/
def State.isTarget (s : State) (p : Nat) : Bool :=
  (s.pairMate p).any (fun d => bitAt (s.part d).hdr.mflags 0) && !bitAt (s.part p).hdr.mflags 0
def State.makeTwins (s : State) (p : Nat) : State :=
  if s.isTarget p then
    (s.inOrder (s.partReqs p)).foldl (fun s r =>
      let q := s.req r
      if q.state = rsDecode && q.spec && !q.twin && (s.twinOf r).isNone then s.makeTwin p r else s) s
  else s

/-! ### Lost and weak pages (R245, R121) -/

def State.replayLost (s : State) (p : Nat) : State :=
  (s.inOrder (s.partReqs p)).foldl (fun s r =>
    if s.hasLost r || (s.part p).chainLost.has r then s.replayReq p r else s) s

/-- R121: a page with a weak row outside the program window is retired. -/
def State.retireWeak (s : State) (p : Nat) : State :=
  (s.tiles.entries.filter (fun e => s.owner e.1 == some p && !e.2.weakWait.isEmpty)).foldl (fun s e =>
    let out := e.2.weakWait.filter (fun r => !s.inProgram e.1 r)
    let s := out.foldl (fun s r =>
      let n := pageNo e.1 (r / 64)
      let x := s.page n
      s.setPage n (if x.pstate = 2 then { x with pstate := 3 } else ⟨3, false, p, noReq, 0⟩)) s
    s.updTile e.1 (fun x => { x with weakWait := x.weakWait.filter (fun r => s.inProgram e.1 r) })) s

/-! ### Admission (R222, R225, R227) -/

/-- Positions that a transcript reserves. -/
def State.reserveLen (s : State) (p : Nat) (q : ReqSt) : Nat :=
  if (s.part p).attTiles.isEmpty then q.promptLen + q.maxTok else (s.part p).capacity
/-- R222: the transcript of a request, if the allotment has room. -/
def State.reserve (s : State) (p r : Nat) : State :=
  let n := s.reserveLen p (s.req r)
  match s.findTwo p n with
  | none => s
  | some o =>
    let x := s.pickRims
    x.2.updReq r (fun q => { q with trOff := some o, trRims := x.1, trLen := n, promptPend := true })

/-- One SUBMITTED request at a boundary. -/
def State.admitOne (s : State) (p r : Nat) : State :=
  let q := s.req r
  if q.state ≠ rsSubmitted then s
  else if s.deferring p then s
  else if !q.fieldsOk 1 || decide ((s.part p).capacity < q.promptLen + q.maxTok) then s.failReq p r 10 0x8003
  else if q.readErr then (s.setG STW_STATUS_HOST_READ_ERR 0 1).failReq p r 11 0x8004
  else if q.trOff.isNone then s.reserve p r
  else if q.promptDone && s.canSupply p r q.promptLen then
    s.updReq r (fun q => { q with state := rsAdmitted, clen := q.promptLen, nextPos := 0, promptDone := false })
  else s

/-- Requests are admitted while the partition is RUNNING and neither held nor about to be replaced (R162, R207, R236). -/
def State.mayAdmit (s : State) (p : Nat) : Bool :=
  s.pstate p == psRunning && !s.flag CSD_PCFG_HOLD 0 p && (s.part p).install.isNone && !s.deferring p && !s.chainMember p
def State.admitRequests (s : State) (p : Nat) : State :=
  if s.mayAdmit p then (s.inOrder (s.partReqs p)).foldl (fun s r => s.admitOne p r) s else s

/-! ### Preemption (R240) -/

/-- The fewest requests of a list, from its front, whose pages let the requests `want` (each with its LP) have their own. -/
def State.victims (s : State) (p : Nat) (want : List (Nat × Nat)) (got : List Nat) : List Nat → Option (List Nat)
  | [] => if s.canSupplyAll p want got then some got else none
  | v :: l => if s.canSupplyAll p want got then some got else State.victims s p want (got ++ [v]) l

/-- DECODE requests that `r` may displace, the lowest in request order first. -/
def State.displaceable (s : State) (p r : Nat) : List Nat :=
  let gap := s.g STW_PCFG_PREEMPT_GAP p
  if gap = 0 then []
  else ((s.inOrder (s.partReqs p)).filter (fun v =>
    let q := s.req v
    q.state == rsDecode && !q.twin && v != r && decide (q.prio + gap ≤ (s.req r).prio))).reverse

/-- DECODE requests are parked until the pages of `r` suffice, beside those that requests before it have been promised; the answer says whether they
will. -/
def State.preempt (s : State) (p r lp : Nat) (promised : List (Nat × Nat)) : State × Bool :=
  let waiting := (s.partReqs p).filter (fun v => (s.req v).parcelWait)
  match s.victims p (promised ++ [(r, lp)]) waiting (s.displaceable p r) with
  | none => (s, false)
  | some l =>
    ((l.filter (fun v => !(s.req v).parcelWait)).foldl (fun s v =>
      s.setAside p v rsParked 16 [] (s.req v).outcnt 0 false) s, true)

/-- Positions whose pages a SUBMITTED or PARKED request waits for. -/
def ReqSt.waitLp (q : ReqSt) : Nat := if q.state = rsSubmitted then q.promptLen else q.clen
/-- Requests that wait for pages, in request order. -/
def State.waiters (s : State) (p : Nat) : List Nat :=
  (s.inOrder (s.partReqs p)).filter (fun r =>
    let q := s.req r
    ((q.state == rsSubmitted && q.promptDone) || (q.state == rsParked && !q.parcelWait)) && !s.canSupply p r q.waitLp)
/-- Each request that waits for pages, in request order, displaces others where that gives it enough. -/
def State.preemptAll (s : State) (p : Nat) : State :=
  if !s.mayAdmit p then s
  else ((s.waiters p).foldl (fun (a : State × List (Nat × Nat)) r =>
    let e := (r, (a.1.req r).waitLp)
    let x := if a.1.deferring p then (a.1, false) else a.1.preempt p r e.2 a.2
    (x.1, if x.2 then a.2 ++ [e] else a.2)) (s, [])).1

/-! ### Binding (R225, R228, R231) -/

/-- A pass that a request is ready for: LC, tokens, drafts, decode. -/
structure PassPlan where
  lc : Nat
  nqt : Nat
  ndraft : Nat
  decode : Bool

/-- The next pass of a request. -/
def State.nextPass (s : State) (p r : Nat) : PassPlan :=
  let q := s.req r
  if q.nextPos + 1 < q.clen then ⟨q.nextPos, min (s.part p).chunk (q.clen - 1 - q.nextPos), 0, false⟩
  else
    let k := match s.twinOf r with
      | some w => if s.isTarget p && q.spec then min q.kmax (s.req w).proposals.length else 0
      | none => 0
    ⟨q.clen - 1, 1 + k, k, true⟩

/-- Table 9-5 and Table 4-11. -/
def State.slotRowBytes (s : State) (p r sl : Nat) (w : PassPlan) (tsrc : Bool) : List Byte :=
  let q := s.req r
  let drafts := match s.twinOf r with
    | some t => (s.req t).proposals
    | none => []
  let toks := (upTo w.nqt).map (fun i => if i = 0 || !w.decode then s.tokAt p r (w.lc + i) else drafts.getD (i - 1) 0)
  let b :=
    bytesOf 4 (b2n (decide (0 < w.ndraft)) * 2 ^ 26 + 2 ^ 24 + r) ++ bytesOf 4 w.lc ++ bytesOf 4 (w.lc + w.nqt) ++
    bytesOf 4 (sl % 256 * 256 + w.ndraft * 16 + w.nqt) ++ bytesOf 4 (q.w 4) ++ bytesOf 4 (q.w 5) ++ bytesOf 4 (q.w 6) ++
    bytesOf 4 (q.w 7) ++ bytesOf 4 (q.w 8 % 128) ++ List.replicate 28 0#8 ++ bytesOf 4 (b2n tsrc) ++ toks.flatMap (bytesOf 4)
  b ++ List.replicate (512 - b.length) 0#8

/-- The row of a slot without occupant. -/
def emptyRow (sl : Nat) : List Byte := List.replicate 13 0#8 ++ bytesOf 1 (sl % 256) ++ List.replicate 498 0#8
def State.pushRow (s : State) (p sl : Nat) (b : List Byte) : State := s.updPart p (fun x => { x with accRows := x.accRows ++ [(sl, b)] })
/-- An OCC = 0 pass; a request that holds the slot loses the link's token. -/
def State.emptyPass (s : State) (p sl : Nat) (r : Option Nat) : State :=
  let s := s.pushRow p sl (emptyRow sl)
  match r with
  | some r => s.updReq r (fun q => { q with prevSlot := none })
  | none => s

/-- A pass bound to a slot. -/
def State.bindPass (s : State) (p r sl : Nat) : State :=
  let w := s.nextPass p r
  let lp := w.lc + w.nqt
  let tsrc := !(w.decode && (s.req r).prevSlot == some sl)
  let row := s.slotRowBytes p r sl w tsrc
  let s := ((s.allocPages p r lp).writeLists p r sl lp).pushRow p sl row
  let s := s.updPart p (fun x => { x with
    slots := x.slots.put sl ⟨r, w.lc, w.nqt, w.ndraft, w.decode, x.passIdx + 1, false, false⟩, noPageEp := x.noPageEp.del r })
  let s := s.updReq r (fun q => if w.decode then
      { q with state := rsDecode, slot := some sl, prevSlot := some sl, decodeAt := if q.state = rsDecode then q.decodeAt else s.ptp }
    else { q with state := if q.state = rsAdmitted then rsPrefill else q.state, nextPos := q.nextPos + w.nqt, prevSlot := none })
  if s.chainHead p then
    s.tell p 1 [r, w.lc, lp, w.nqt, sl]
  else s

/-- A twin that holds KMAX proposals waits (R243). -/
def State.twinWaits (s : State) (r : Nat) : Bool :=
  let q := s.req r
  q.twin && decide ((s.req q.link).kmax ≤ q.proposals.length)

/-- A request that holds the slot: its next pass, or an OCC = 0 pass (R231, R234, R243). -/
def State.holderPass (s : State) (p r sl : Nat) : State :=
  let w := s.nextPass p r
  if s.queued p r || s.twinWaits r then s.emptyPass p sl (some r)
  else if s.canSupply p r (w.lc + w.nqt) then s.bindPass p r sl
  else
    let x := if s.deferring p then (s, false) else s.preempt p r (w.lc + w.nqt) []
    let s := x.1.emptyPass p sl (some r)
    if x.2 || (s.part p).noPageEp.mem r then s
    else (s.reqRecord p r 0x800D).updPart p (fun y => { y with noPageEp := y.noPageEp.add r })

/-- A request that may be offered a slot. -/
def State.candidate (s : State) (p r : Nat) : Bool :=
  let q := s.req r
  let w := s.nextPass p r
  q.active && q.slot.isNone && !q.returning && !q.endDue && decide (0 < q.clen) && !s.queued p r && !s.twinWaits r && s.canSupply p r (w.lc + w.nqt)

/-- The slot that enters stage one at the next attempt. -/
def State.bindSlot (s : State) (p : Nat) : State :=
  let x := s.part p
  let sl := (x.passIdx + 1) % max 1 x.hdr.slots
  if x.slots.has sl then s.emptyPass p sl none
  else
    let l := s.inOrder (s.partReqs p)
    match l.find? (fun r => (s.req r).slot == some sl && (s.req r).active) with
    | some r => s.holderPass p r sl
    | none => match l.find? (s.candidate p) with
      | some r => s.bindPass p r sl
      | none => s.emptyPass p sl none

/-! ### The whole boundary -/

/-- A commit in trouble marks the slots that passed through a tile which reported it (R80). DESIGN CHOICE (log entry 73): which of several slots in
flight a tile served is a free value, since the program alone decides it; a slot alone in flight is marked. -/
def State.markDegraded (s : State) (p : Nat) : State :=
  if (s.part p).degraded then
    let x := s.takeFree
    let alone := decide ((s.part p).slots.entries.length ≤ 1)
    x.2.updPart p (fun y => { y with slots := y.slots.mapVal (fun sl b => { b with degraded := b.degraded || alone || bitAt x.1 sl }) })
  else s

/-- The steward at a commit boundary of a partition, up to the journal (R215); one that has failed does nothing (R217). -/
def State.stewardCommit (s : State) (p : Nat) : State :=
  let s := s.markDegraded p
  if !s.stewardUp then s.updPart p (fun x => { x with passIdx := x.passIdx + 1 })
  else if s.chainMember p then
    ((((s.forwardResult p).retireWeak p).memberBoundary p).updPart p (fun x => { x with passIdx := x.passIdx + 1 }))
  else
    let x := s.resolve p
    let s := (x.1.allEvents p x.2).retireWeak p
    let s := if s.writeDue p then s else ((((s.makeTwins p).replayLost p).admitRequests p).preemptAll p).bindSlot p
    (s.journalAcc p).updPart p (fun x => { x with passIdx := x.passIdx + 1 })

/-- The journal entry of a boundary is acknowledged: its records are written and its slot rows sent (R215, R228). -/
def State.journalDone (s : State) (p : Nat) : State := match (s.part p).journal with
  | [] => s
  | j :: l =>
    let s := s.updPart p (fun x => { x with journal := l })
    let s := j.recs.foldl (fun s x => s.outRec p x) s
    let x := s.part p
    { s with flight := s.flight ++ j.slotRows.map (fun r => enginePacket srcSteward p x.slotTile x.slotRow r.2) }

end Sys2Proof.Machine
end

