-- ==== Sys2Proof/Machine/Chain.lean ====
section
/-! DEFINITION. Flits and marks of the Aqueduct ports, and the marks that chained partitions wait for (14 R359, R360, R367). -/

namespace Sys2Proof.Machine

/-- AQD_PCHAIN of a partition: it is in a chain partition set when its module is in Chained mode, the plan has an entry for it, and its resident
package is a chained stage (R366). -/
def State.refreshChain (s : State) (p : Nat) : State :=
  let e := (s.link.plan.map (fun g => (g.parts.find? (fun e => e.1 == p)).map (·.2))).join
  let x := s.part p
  let on := s.link.chainMode && e.isSome && x.resident.isSome && bitAt x.hdr.mflags 2
  let id := (s.link.plan.map (·.chainId)).getD 0
  let mp := (s.link.plan.map (·.markPort)).getD 255
  let set (s : State) (f : Fld) (v : Nat) : State := s.setG f p v
  set (set (set (set s AQD_PCHAIN_CHAINED (b2n on)) AQD_PCHAIN_HEAD (b2n (on && e.getD false))) AQD_PCHAIN_MPORT (if on then mp else 255))
    AQD_PCHAIN_CHAIN_ID (if on then id else 0)
/-- AQD_CTRL and AQD_PCHAIN as the fabric mode and the chain plan in the flash give them (R364). -/
def State.applyPlan (s : State) : State :=
  let s := ((s.setG AQD_CTRL_PLAN_VALID 0 (b2n s.link.plan.isSome)).setG AQD_CTRL_MASTER 0 (b2n ((s.link.plan.map (fun g => g.markPort == 255)).getD false))).setG
    AQD_CTRL_MODE 0 (b2n s.link.chainMode)
  (upTo 64).foldl (fun (s : State) p => s.refreshChain p) s

/-- The ports on which marks are sent on. -/
def State.markPorts (s : State) : List Nat := match s.link.plan with
  | some g => ((g.ports.filter (·.markOut)).map (·.port)).filter (fun n => s.carries n)
  | none => []
/-- A mark of a partition on every such port: CHAIN_ID, head partition, index, PTP time. -/
def State.sendMark (s : State) (p k ptp : Nat) : State :=
  s.markPorts.foldl (fun s n => s.sendMarkFlit n (s.g AQD_PCHAIN_CHAIN_ID p) p k ptp) s

/-- R367 at a commit boundary: the master sends the mark of this chain commit index; a follower whose mark has not come
withholds its next start. -/
def State.chainCommit (s : State) (p : Nat) : State :=
  if !s.chained p then s
  else
    let k := s.link.chainIdx.get p 0
    let s := { s with link := { s.link with chainIdx := s.link.chainIdx.put p (k + 1) } }
    if s.flag AQD_CTRL_MASTER 0 0 then s.sendMark p k s.ptp
    else if k < s.link.markSeen.get p 0 then s
    else { s with link := { s.link with markWait := s.link.markWait.put p s.ptp } }

/-- R366: a stop of a partition of a chain set is told to the others. -/
def State.chainStop (s : State) (p : Nat) : State := if s.chained p then s.tell p 5 [p] else s

end Sys2Proof.Machine
end

