-- ==== Sys2Proof/Machine/Slots.lean ====
section
/-! DEFINITION. Sluice slots that issue, and tag timeouts (05_basin_scratchpad.md R133, R135). -/

namespace Sys2Proof.Machine

/-- The meaning of an opcode of the vector engine (Table 4-7). -/
def vectorUnit (opc : Nat) : Option (Issue → State → Host.Outcome State Fault Refusal) := match opc with
  | 0x01 => some execVld
  | 0x02 => some execVst
  | 0x03 => some execVadd
  | 0x04 => some execVsub
  | 0x05 => some execVmul
  | 0x06 => some execVfma
  | 0x07 => some execVmax
  | 0x08 => some execVmin
  | 0x09 => some execVexp2
  | 0x0A => some execVrcp
  | 0x0B => some execVrsq
  | 0x0C => some execVlog2
  | 0x0D => some execVred
  | 0x0E => some execVsel
  | 0x0F => some execVbc
  | 0x10 => some execVcvt
  | 0x11 => some execVqnt
  | 0x12 => some execVrot
  | 0x20 => some execAttend
  | 0x21 => some execSample
  | _ => none

/-- The meaning of a command word of a unit (UNIT of Table 6-7); none: a reserved opcode or unit. -/
def unitMeaning (unit w : Nat) : Option (Issue → State → Host.Outcome State Fault Refusal) := match unit with
  | 0 => match opcOf w with
    | 1 => some execLdin
    | 2 => some execMvm
    | 3 => some execRed
    | 4 => some execWrb
    | 5 => some execRdb
    | 6 => some execClv
    | _ => none
  | 1 => match bits w 63 59 with
    | 1 => some execMld
    | 2 => some execMmul
    | 3 => some execMout
    | _ => none
  | 2 => vectorUnit (bits w 63 58)
  | 3 => some execCmrg
  | _ => none

/-- A command word with a reserved opcode (R40, R84). -/
def State.reservedOpcode (s : State) (i : Issue) (unit : Nat) : State := match unit with
  | 0 => s.otherWord i
  | 1 => s.mxOther i
  | 2 => s.vxOther i
  | _ => s

/-- SLUICE_SLOT_ISSUE (R133): a window-mode slot whose rows are ready issues its command within its wait. -/
def execSluiceSlotIssue (tile : Tile) (entry : Fin 4096) (cycle : Fin 65536) (s : State) : Host.Outcome State Fault Refusal :=
  let t := tile.val
  let e := s.sched t entry.val
  if s.tileLive t && e.mode == 1 && decide (e.off ≤ cycle.val) && decide (cycle.val ≤ e.off + e.wait)
      && (s.schedInForce t).contains entry.val && !(s.tile t).slotDone.mem entry.val && s.rowsReady t e.unit e.cmd then
    let s := (s.setReg SEQ_STATUS_SLUICE_WAIT t 0 0).updTile t (fun x => { x with slotDone := x.slotDone.add entry.val, waitStart := x.waitStart.del entry.val })
    let i : Issue := ⟨tile, cycle, entry, BitVec.ofNat 64 e.cmd⟩
    match unitMeaning e.unit e.cmd with
    | some f => f i s
    | none => .next (s.reservedOpcode i e.unit)
  else .next s

/-- Boundary-mode slots of the programs entries in force, of a tile, whose rows are not ready. -/
def State.heldSlots (s : State) (t prog : Nat) : List Nat :=
  (rowRun (s.reg SEQ_PROG_FIRST t prog) (s.reg SEQ_PROG_COUNT t prog)).filter (fun e =>
    let x := s.sched t e
    x.mode == 2 && !s.rowsReady t x.unit x.cmd)

end Sys2Proof.Machine
end

