-- ==== Sys2Proof/Machine/PartCtl.lean ====
section
/-! DEFINITION. What the Cascade, the loader and the repair functions share: attempts kept and discarded, stops, aborts,
the ends of requests that a stop makes, and the ends of loader commands (06 R158 to R162; 08 R191 to R209; 09 R247). -/

namespace Sys2Proof.Machine

/-! ### Attempts -/

/-- A function applied to the stored tiles of a partition. -/
def State.onTiles (s : State) (p : Nat) (f : TileSt → TileSt) : State :=
  { s with tiles := s.tiles.mapVal (fun t x => if s.owner t == some p then f x else x) }

/-- What a tile holds of an attempt, cleared. The last accepted MVM of each array stays (R41). -/
def TileSt.newAttempt (x : TileSt) : TileSt :=
  { x with
    mvmRun := Map.empty, wrbRun := Map.empty, convWin := Map.empty, wrbWin := Map.empty, rdbWin := Map.empty
    clvWin := Map.empty, stageWin := Map.empty, blocks := 0, needMax := Map.empty, recOps := [], mxUntil := 0, mxA := (0, 0)
    mxB := (0, 0), mmulUntil := 0, vPend := Map.empty, fusedUntil := 0, fusedMx := false, engUntil := 0, fusedOut := Map.empty, cmrgUntil := 0, arrived := Map.empty
    driven := Map.empty, portUse := Map.empty, troubleMark := Map.empty, vTrouble := Map.empty, mxTrouble := Map.empty, report := Report.empty, slotDone := Map.empty, issued := Map.empty, routed := Map.empty, timedOut := false }

/-- Beats of a partition's attempt still under way are gone with the attempt. -/
def State.dropBeats (s : State) (p : Nat) : State :=
  { s with links := s.links.keep (fun _ b => b.part != p), lanes := s.lanes.keep (fun _ b => b.part != p),
           cross := s.cross.mapVal (fun _ l => l.filter (fun e => e.2.part != p)) }

/-- Banks whose MVM an abort cuts off are READY again. -/
def State.endComputes (s : State) (p : Nat) : State :=
  (s.tiles.entries.filter (fun e => s.owner e.1 == some p && !e.2.mvmRun.entries.isEmpty)).foldl (fun s e =>
    e.2.mvmRun.entries.foldl (fun s r =>
      let f := mvmF r.2.word
      f.arrs.foldl (fun s n => if s.reg (bstateF f.pl) e.1 n = bsCompute then s.setReg (bstateF f.pl) e.1 n bsReady else s) s) s) s

/-- The attempt does not commit (R132, R309): tags return, probes and counters are dropped. -/
def State.discardAttempt (s : State) (p : Nat) : State :=
  let s := ((s.endComputes p).calDiscard p).dropBeats p
  s.onTiles p (fun x => { x with tags := discardTags x.tags, attPend := none, smpPend := none })

/-- R71: the predictors' peaks take the needed exponents of the committed attempt. -/
def State.predictors (s : State) (t : Nat) : State :=
  (s.tile t).needMax.entries.foldl (fun s e =>
    s.setReg TILE_PRED_PEAK t e.1 (max (16 * e.2) (s.reg TILE_PRED_PEAK t e.1 - s.reg TILE_PRED_DECAY t e.1))) s
/-- Table 4-18: the figures of the last committed ATTEND and SAMPLE. -/
def State.lastFigures (s : State) (t : Nat) : State :=
  let s := match (s.tile t).attPend with
    | some w => (s.setReg TILE_ATT_LAST_VISIBLE t 0 (w / 4096)).setReg TILE_ATT_LAST_NQT t 0 (w % 4096)
    | none => s
  match (s.tile t).smpPend with
  | some w => ((s.setReg TILE_SMP_LAST_EMITTED t 0 (bits w 31 28)).setReg TILE_SMP_LAST_ACCEPTED t 0 (bits w 27 24)).setReg
      TILE_SMP_LAST_TOKEN t 0 (bits w 19 0)
  | none => s

/-- B-class values whose boundary has come (R11): the shadows that pass a test, by page code, instance and byte offset. -/
def State.applyShadows (s : State) (ok : Nat → Nat → Nat → Bool) : State :=
  let due (k : Nat) : Bool := ok (k / 32 / 4096 / 65536) (k / 32 / 4096 % 65536) (k / 32 % 4096)
  { s with regs := (s.shadows.entries.filter (fun e => due e.1)).foldl (fun m e => m.put e.1 e.2) s.regs,
           shadows := s.shadows.keep (fun k _ => !due k) }
/-- The shadows that a commit boundary of a partition applies: those of its tiles' pages, and of its own set of the STW page. -/
def State.partShadow (s : State) (p : Nat) (page inst off : Nat) : Bool :=
  (decide (0x20 ≤ page) && s.owner inst == some p) ||
  (page == Page.stw.code && (off == STW_PCFG_ROTATE_MS.offset p || off == STW_PCFG_PREEMPT_GAP.offset p))
/-- Those that the wafer step boundary applies. -/
def State.waferShadow (s : State) (page inst off : Nat) : Bool :=
  if 0x20 ≤ page then (s.owner inst).isNone
  else !(upTo 64).any (fun p => page == Page.stw.code && (off == STW_PCFG_ROTATE_MS.offset p || off == STW_PCFG_PREEMPT_GAP.offset p))

/-- The attempt commits in the tiles (R76). -/
def State.commitTiles (s : State) (p : Nat) : State :=
  let ts := (s.tiles.entries.map (·.1)).filter (fun t => s.owner t == some p)
  let s := ts.foldl (fun s t => (s.predictors t).lastFigures t) s
  let s := (s.calCommit p).applyShadows (s.partShadow p)
  (s.onTiles p (fun x => { x with
    tags := commitTags x.tags, mvmSince := Map.empty, badRows := Map.empty, replayExp := Map.empty, replayUse := false, attPend := none, smpPend := none })).dropBeats p

/-! ### Loader commands -/

def ldIdle : Nat := 0
def ldRunning : Nat := 1
def ldDone : Nat := 2
def ldFailed : Nat := 3

/-- A record of class 9 of the loader (R213); `part` none: a key command. -/
def State.ldRecord (s : State) (part : Option Nat) (code item detail : Nat) : State :=
  s.record { code := code, unit := 11, part := part, item := item, detail := detail % 65536 }
/-- R191: the command of a slot ends with a code; a failed command is recorded, and LCODE keeps its code. -/
def State.cmdEndWith (s : State) (n : Nat) (part : Option Nat) (code item detail : Nat) : State :=
  let s := (s.setG LD_CMD_STS_STATE n (if code = 0 then ldDone else ldFailed)).setG LD_CMD_STS_CODE n code
  let s := if code = 0 then s else
    match part with
    | some p => if s.partExists p then s.setLcode p code else s
    | none => s
  let s := if code = 0 then s else s.ldRecord part code item detail
  s.raiseInt 0 0
def State.cmdEnd (s : State) (n : Nat) (part : Option Nat) (code : Nat) : State := s.cmdEndWith n part code 0 0
/-- A GO refused: the code is shown and recorded, and the slot stays idle. -/
def State.goRefused (s : State) (n : Nat) (part : Option Nat) (code : Nat) : State :=
  let s := (s.setG LD_CMD_STS_STATE n ldIdle).setG LD_CMD_STS_CODE n code
  let s := match part with
    | some p => if s.partExists p then s.setLcode p code else s
    | none => s
  s.ldRecord part code 0 0

/-! ### Requests at a stop -/

/-- R247: the bindings of a partition are cleared; START resumes its requests by replay. -/
def State.clearBindings (s : State) (p : Nat) : State :=
  let s := (s.partReqs p).foldl (fun s r => if (s.req r).active then s.updReq r (fun q => { q with nextPos := s.firstUndone p r }) else s) s
  let s := s.updPart p (fun x => { x with slots := Map.empty, replayAll := true })
  (s.partReqs p).foldl (fun s r => s.updReq r (fun q => { q with slot := none, prevSlot := none })) s

/-- R208: requests ended WEIGHTS_REPLACED outside a boundary; their records go to the journal. An end is deferred while the queue has no room for its
record (R236): the steward's scan makes it later. -/
def State.endReplaced (s : State) (p : Nat) (queued : Bool) : State :=
  let l := (s.inOrder (s.partReqs p)).filter (fun r =>
    let q := s.req r
    !q.twin && (q.active || q.state == rsPaused || q.state == rsParked || (queued && q.state == rsSubmitted)))
  (l.foldl (fun s r => if s.deferring p then s.updReq r (fun q => { q with endDue := true, marked := true }) else s.endPlain p r rsReplaced 7) s).journalAcc p

/-! ### Stops -/

/-- The resident copy of a tile's partition has lost part, and refills nothing. -/
def State.copyLost (s : State) (t : Nat) : Bool := match s.owner t with
  | some p => ((s.part p).resident.map (·.lost)).getD false
  | none => false
/-- R54 step 1: an array of the partition waits for its tile's spare array, and the next step does not begin. -/
def State.spareHold (s : State) (p : Nat) : Bool :=
  (s.part p).attempt == 0 && s.cal.needSpare.entries.any (fun e =>
    s.owner (e.1 / 8) == some p && !s.spareUsed (e.1 / 8) && !s.copyLost (e.1 / 8))

/-- The partition no longer steps; no replay follows for the rows that a WRB found mismatching (R46). -/
def State.haltPart (s : State) (p : Nat) : State :=
  let s := ((s.onTiles p (fun x => { x with badRows := Map.empty })).setG CSD_PCFG_RUN p 0).updPart p (fun x => { x with
    phase := .stopped, goStart := false, regRep := Map.empty, timedOut := false, noRetry := false, degraded := false, setStop := false })
  { s with link := { s.link with markWait := s.link.markWait.del p }, treeMsgs := s.treeMsgs.keep (fun k _ => k / 16 != p) }
/-- Entry to READY, EMPTY or WRITING clears HOLD (R162). -/
def State.enter (s : State) (p st : Nat) : State := (s.setG CSD_PCFG_HOLD p 0).setPstate p st
/-- The loader begins to write (R206). -/
def State.startWrite (s : State) (p : Nat) : State := ((s.haltPart p).coolQuads (s.partQuads p)).enter p psWriting

/-- The stop that a slot, or the chain set, asked for is reached (R196); the requests of a set are replayed at START (R366). -/
def State.stopReached (s : State) (p : Nat) : State :=
  let slot := (s.part p).stopSlot
  let s := if s.chained p then s.clearBindings p else s
  let s := (((s.haltPart p).setStopr p 1).enter p psReady).updPart p (fun x => { x with stopSlot := none })
  match slot with
  | some n => s.cmdEnd n (some p) 0
  | none => s

/-- The boundary at which a partition stops is a step boundary too: the remaps of its stream banks commit (R53; DEDUCED, log entry 70). -/
def State.streamRemaps (s : State) (p : Nat) : State :=
  (s.ofPart p 9 s.cal.remap).foldl (fun s e => match e.2 with
    | [] => s
    | r :: _ => if s.flag (streamF r.plane) (e.1 / 9) ((s.servesArr (e.1 / 9) (e.1 % 9)).getD 8) then s.remapCommit (e.1 / 9) (e.1 % 9) else s) s

/-- The Cascade, the power or the thermal functions stop a partition (R196, R208, R209): requests of an accepted INSTALL end
and its write begins; otherwise the partition is READY, and START resumes its requests by replay. -/
def State.cascadeStop (s : State) (p reason : Nat) : State :=
  let s := ((((s.streamRemaps p).haltPart p).setStopr p reason).clearBindings p).chainStop p
  match (s.part p).install with
  | some i => (s.endReplaced p i.reject).startWrite p
  | none =>
    let slot := (s.part p).stopSlot
    let s := (s.enter p psReady).updPart p (fun x => { x with stopSlot := none })
    match slot with
    | some n => s.cmdEnd n (some p) 0
    | none => s

/-- R158: the Cascade count advances. -/
def State.countUp (s : State) (p : Nat) : State := s.updPart p (fun x => { x with count := x.count + 1 })

/-- The attempt in progress, or held at a boundary, is lost to an abort (R162): it is discarded, the count advances, and nothing
steps. -/
def State.abortPart (s : State) (p : Nat) : State :=
  if s.flag CSD_PCFG_RUN 0 p then
    ((((s.discardAttempt p).onTiles p TileSt.newAttempt).countUp p).haltPart p).clearBindings p
  else s
/-- An abort that stops the partition for good: DESTROY, power, heat or a reset. -/
def State.abortStop (s : State) (p reason : Nat) : State := if s.runs p && !(s.part p).filling then (s.abortPart p).cascadeStop p reason else s

/-- Requests replayed in request order (R245). -/
def State.replayAllReqs (s : State) (p : Nat) : State :=
  ((s.inOrder (s.partReqs p)).foldl (fun s r => s.replayReq p r) s).updPart p (fun x => { x with replayAll := false })
/-- A partition held by a repair function steps again; the work that the hold discarded is replayed. -/
def State.resumePart (s : State) (p : Nat) : State :=
  if s.runs p && !s.flag CSD_PCFG_RUN 0 p && !(s.part p).filling then
    let s := (s.setG CSD_PCFG_RUN p 1).updPart p (fun x => { x with
      phase := .ready, attempt := 0, tries := 0, nextProg := 0, goStart := true, innerHold := false })
    s.replayAllReqs p
  else s

end Sys2Proof.Machine
end

