-- ==== Sys2Proof/Machine/Cascade.lean ====
section
/-! DEFINITION. The Cascade: program ends, reports, decisions, the boundaries of an attempt and its start
(03 R76 to R81; 06 R149, R150, R158 to R163; 07 R184). -/

namespace Sys2Proof.Machine

/-! ### Program end and reports -/

/-- Ls of a program of a partition (R172). -/
def State.stepLen (s : State) (p prog : Nat) : Nat := match prog with
  | 1 => (s.part p).hdr.lenSplit + 1
  | 2 => (s.part p).hdr.lenWide + 1
  | _ => s.g CSD_PSTEP_LEN p + 1
/-- R150: E = Ls - G - 40. -/
def State.programEnd (s : State) (p : Nat) : Nat := s.stepLen p (s.part p).prog - s.g CSD_PSTEP_GUARD p - 40

/-- A span of use of the array resources ends after cycle `e`. -/
def winPast (m : Map Win) (e : Nat) : Bool := m.entries.any (fun w => decide (e < w.2.until_))
/-- R150: a unit, the router or express traffic of a tile is active at cycle `e`. -/
def State.activeAt (s : State) (t e : Nat) : Bool :=
  let x := s.tile t
  x.convWin.entries.any (fun l => l.2.any (fun w => decide (e < w.until_))) || winPast x.wrbWin e || winPast x.rdbWin e || winPast x.clvWin e ||
  x.stageWin.entries.any (fun l => l.2.any (fun w => decide (e < w.2))) || !x.mvmRun.entries.isEmpty || !x.wrbRun.entries.isEmpty ||
  decide (e < x.mxUntil) || decide (e < x.fusedUntil) || decide (e < x.cmrgUntil) || decide (e < x.engUntil) || x.vPend.entries.any (fun v => decide (e < v.2)) ||
  s.links.entries.any (fun b => b.1 / 2 ^ 17 / 8 == t) || s.lanes.entries.any (fun b => b.2.from_ == t) ||
  s.cross.entries.any (fun c => if c.1 < 2 ^ 20 then c.1 / 8 == t && !c.2.isEmpty else c.2.any (fun b => b.2.from_ == t))

/-- PROGRAM_END (R150, R159, Table 6-11): a tile reaches cycle E and reports. -/
def execProgramEnd (tile : Tile) (s : State) : Host.Outcome State Fault Refusal :=
  let t := tile.val
  match s.owner t with
  | none => .next s
  | some p =>
    if (s.part p).phase == .attempt && s.tileLive t && !(s.tile t).report.done then
      let e := s.programEnd p
      let s := if s.activeAt t e then (s.setReg SEQ_STATUS_BUSY_END t 0 1).tileFault t { code := 0x1043, unit := 6, cycle := e } else s
      let s := s.setReg SEQ_STATUS_OFFSET t 0 e
      .next (s.updTile t (fun x => { x with report := { x.report with
        done := true, readyNext := (s.heldSlots t (s.part p).prog).isEmpty } }))
    else .next s

/-- The reports of the tiles of a region merged (R159). -/
def State.mergeReports (s : State) (p sEdges : Nat) (ts : List Nat) : RegionRep :=
  let any (f : Report → Bool) : Bool := ts.any (fun t => f (s.tile t).report)
  { s := sEdges, cycle := s.programEnd p + sEdges + 6, recK := any (·.recK), splitK := any (·.splitK), wideK := any (·.wideK),
    miss := any (·.miss), slip := any (·.slip), fault := any (·.fault), ovr := decide (s.g CSD_PSTEP_GUARD p < sEdges),
    readyNext := ts.all (fun t => (s.tile t).report.readyNext) }

/-- REGION_REPORT (R159): the station's report, once every working tile of the partition in the region has reported;
`edges`: the edges removed. -/
def execRegionReport (part : Part) (region : Region) (edges : Fin 65536) (s : State) : Host.Outcome State Fault Refusal :=
  let p := part.val
  let r := region.val
  let ts := (s.partTiles p).filter (fun t => regionOf t == r)
  if (s.part p).phase == .attempt && !ts.isEmpty && !(s.part p).regRep.has r
      && ts.all (fun t => (s.tile t).report.done || !s.tileLive t) then
    let rep := s.mergeReports p edges.val ts
    let s := s.updPart p (fun x => { x with regRep := x.regRep.put r rep })
    .next ({ s with treeMsgs := s.treeMsgs.put (p * 16 + r) 1 }.emit (.report p r))
  else .next s

/-! ### The decision (Table 6-12) -/

/-- A flag of any region's report. -/
def PartSt.anyRep (x : PartSt) (f : RegionRep → Bool) : Bool := x.regRep.entries.any (fun e => f e.2)

/-- Table 6-12 and R80. -/
def PartSt.decide' (x : PartSt) : Decision × Bool :=
  let split := x.anyRep (·.splitK)
  let wide := x.anyRep (·.wideK)
  let rec_ := x.anyRep (·.recK)
  if x.anyRep (·.fault) then (.faulted, false)
  else if x.anyRep (·.slip) || x.anyRep (·.miss) then (.sameProgram, false)
  else if rec_ || split || wide then
    if x.hdr.replayLimit ≤ x.tries then (.commit, true) else (.replay (rec_ && !split && !wide), false)
  else (.commit, false)

/-- The code of a decision in a GO message. -/
def Decision.code : Decision → Nat
  | .commit => 0
  | .sameProgram => 1
  | .replay false => 2
  | .replay true => 3
  | .faulted => 4

/-- R161: an overrun of a region is recorded. -/
def State.overrun (s : State) (p r : Nat) (x : RegionRep) : State :=
  if x.ovr then s.record { code := 0x4010, unit := 9, part := some p, detail := r * 4096 + min x.s 4095 } else s
/-- R161: a step overrun, an attempt in which any region reports OVR: a record for each such region, and one count. -/
def State.overruns (s : State) (p : Nat) : State :=
  let x := s.part p
  let s := x.regRep.entries.foldl (fun s e => s.overrun p e.1 e.2) s
  if x.anyRep (·.ovr) then s.addReg CSD_POVR_OVERRUNS 0 p 1 else s
/-- GO with a decision. -/
def State.sendGo (s : State) (p code : Nat) : State := { s with treeMsgs := s.treeMsgs.put (p * 16 + 15) 1 }.emit (.go p code)

/-- The reports of every region that a partition touches have arrived. -/
def State.allReports (s : State) (p : Nat) : Bool :=
  let rs := s.partRegions p
  !rs.isEmpty && rs.all (fun r => (s.part p).regRep.has r)

/-- The partition stops at the boundary because the roots disagree (R163). -/
def State.rootMismatch (s : State) (p : Nat) : State :=
  let s := (s.setG CSD_STATUS_MISMATCH 0 1).record { code := 0x4031, unit := 9, part := some p }
  (((s.discardAttempt p).onTiles p TileSt.newAttempt).countUp p).cascadeStop p 2

/-- ROOT_DEADLINE (R160, R161, R163): the root decides the boundary from the reports of every region; `mismatch`: the standby's
decision differs. -/
def execRootDeadline (part : Part) (mismatch : Bool) (s : State) : Host.Outcome State Fault Refusal :=
  let p := part.val
  if (s.part p).phase == .attempt && s.allReports p then
    let s := s.overruns p
    let s := { s with treeMsgs := s.treeMsgs.keep (fun k _ => k / 16 != p) }
    if mismatch then .next (s.rootMismatch p)
    else
      let d := (s.part p).decide'
      let s := if d.2 then s.record { code := 0x2006, unit := 9, part := some p } else s
      .next ((s.updPart p (fun x => { x with phase := .decided d.1, degraded := d.2 })).sendGo p d.1.code)
  else .next s

/-! ### Boundaries -/

/-- What begins after a boundary that does not stop the partition: the next attempt may start. -/
def State.nextAttempt (s : State) (p prog : Nat) (start : Bool) : State :=
  (s.onTiles p (fun x => { x with report := { Report.empty with miss := x.report.miss }, recOps := [] })).updPart p (fun x => { x with
    phase := .ready, nextProg := prog, goStart := start, regRep := Map.empty, noRetry := false })

/-- The replacement at a commit boundary (R207): admission stops at the first. -/
def State.stopAdmission (s : State) (p : Nat) : State := s.updPart p (fun x => { x with
  install := x.install.map (fun i => match i.admStop with
    | none => { i with admStop := some s.ptp, stops := true }
    | some _ => i) })
def State.admissionStopped (s : State) (p : Nat) : State := if s.leftToEnd p then s else s.updPart p (fun x => { x with install := x.install.map (fun i => { i with stops := false }) })

/-- What follows the steward's work at a commit boundary: the replacement's write, a stop, or the next attempt. -/
def State.afterCommit (s : State) (p : Nat) : State :=
  if s.writeDue p then (s.clearBindings p).startWrite p
  else if (s.part p).timedOut then s.cascadeStop p 3
  else if (s.part p).stopSlot.isSome || (s.part p).setStop then s.stopReached p
  else s.nextAttempt p 0 (!s.flag CSD_PCFG_HOLD 0 p)

/-- Weak program rows of a partition's tiles are given spares by BASIN_ROW_SPARE once the partition holds; nothing else of the
commit waits. The figures of a committed step. -/
def State.commitPart (s : State) (p : Nat) : State :=
  let big := (s.part p).regRep.entries.foldl (fun m e => max m e.2.s) 0
  let s := (s.setG CSD_PSTRMAX_EDGES p (min big 65535)).commitTiles p
  let s := (s.stopAdmission p).stewardCommit p
  let s := (s.admissionStopped p).countUp p
  (s.updPart p (fun x => { x with
    commitIdx := x.commitIdx + 1, attempt := 0, tries := 0, faultStreak := 0, slipStreak := 0, degraded := false })).chainCommit p

/-- COMMIT_BOUNDARY (R76): the tiles and the steward act on a GO with a commit. -/
def execCommitBoundary (part : Part) (s : State) : Host.Outcome State Fault Refusal :=
  let p := part.val
  if (s.part p).phase == .decided .commit then .next ((s.commitPart p).afterCommit p) else .next s

/-- R162: the region that the slip limit's record names. -/
def PartSt.slipRegion (x : PartSt) : Nat × Nat :=
  (x.regRep.entries.filter (fun e => e.2.slip)).foldl (fun m e => if m.2 < e.2.s + 1 then (e.1, e.2.s + 1) else m) (0, 0)
def State.slipRecord (s : State) (p : Nat) : State :=
  let r := (s.part p).slipRegion
  s.record { code := 0x4012, unit := 9, part := some p, detail := r.1 * 4096 + min (r.2 - 1) 4095 }

/-- R77: the program of the next attempt. -/
def PartSt.replayProg (x : PartSt) : Nat := if x.anyRep (·.wideK) then 2 else if x.anyRep (·.splitK) then 1 else x.prog

/-- R162: the replay that a boundary with a slip makes is the last that the slip limit allows. -/
def State.slipLimit (s : State) (p : Nat) : Bool :=
  (s.part p).anyRep (·.slip) && !(s.part p).timedOut && decide (s.g CSD_PCFG_SLIP_LIMIT p ≤ (s.part p).slipStreak + 1)
/-- A replay with the same program (R134, R155). The record of the slip limit carries the count of the attempt that ends (R185). -/
def State.sameProgram (s : State) (p : Nat) : State :=
  let slip := (s.part p).anyRep (·.slip)
  let stop := s.slipLimit p
  let s := if stop then s.slipRecord p else s
  let s := ((if slip then s.addReg CSD_POVR_SLIPS 0 p 1 else s).discardAttempt p).countUp p
  let s := s.updPart p (fun x => { x with attempt := x.attempt + 1, faultStreak := 0, slipStreak := if slip then x.slipStreak + 1 else 0 })
  if (s.part p).timedOut then s.cascadeStop p 3
  else if stop then s.cascadeStop p 4
  else (s.onTiles p (fun x => { x with replayUse := false })).nextAttempt p (s.part p).prog true

/-- A replay for numeric trouble (R77). -/
def State.troubleReplay (s : State) (p : Nat) (recompute : Bool) : State :=
  let prog := (s.part p).replayProg
  let s := (s.discardAttempt p).countUp p
  let s := s.updPart p (fun x => { x with attempt := x.attempt + 1, tries := x.tries + 1, faultStreak := 0, slipStreak := 0 })
  if (s.part p).timedOut then s.cascadeStop p 3
  else if recompute then s.updPart p (fun x => { x with phase := .recompute, nextProg := prog, goStart := false })
  else (s.onTiles p (fun x => { x with replayUse := false })).nextAttempt p prog true

/-- REPLAY_BOUNDARY (R77, R134, R162): GO with a replay. -/
def execReplayBoundary (part : Part) (s : State) : Host.Outcome State Fault Refusal :=
  let p := part.val
  match (s.part p).phase with
  | .decided .sameProgram => .next (s.sameProgram p)
  | .decided (.replay rc) => .next (s.troubleReplay p rc)
  | _ => .next s

/-- The retained FP32 or ACC32 words of an operation, from its rows. -/
def State.retained (s : State) (t row n : Nat) : List Nat :=
  (upTo n).map (fun k => Memory.readLE s.mem (basinRow t (row + k / 128) + 4 * (k % 128)) 4)
/-- A list cut into runs of given lengths. -/
def cutBy {α : Type} : List Nat → List α → List (List α)
  | [], _ => []
  | n :: r, l => l.take n :: cutBy r (l.drop n)
/-- The blocks of FP32 values that T9, VQNT or the root requantised, each with the limit of its format. -/
def State.retainedBlocks (s : State) (t : Nat) (o : RecOp) : List (Nat × List Nat) :=
  let ws := s.retained t o.retRow o.values
  if o.kind = 0 then
    let outs := s.tailOuts t o.tcfg o.arrays ((cutBy (o.arrays.map (·.vals)) ws).map (fun l => l.map (sext 32)))
    (tailRuns outs).flatMap (fun e => (runBlocks e.2).map (fun b => (limOf e.1.2, b)))
  else (runBlocks ws).map (fun b => (o.lim, b))
/-- R77: the recompute pass of one tile. -/
def State.recomputeTile (s : State) (t : Nat) : State :=
  (s.tile t).recOps.foldl (fun s o =>
    s.updTile t (fun x => { x with
      replayUse := true
      replayExp := (s.retainedBlocks t o).zipIdx.foldl (fun m b => match eNeed b.1.1 b.1.2 with
        | some e => if o.firstBlock + b.2 < 1024 then m.put (o.firstBlock + b.2) e else m
        | none => m) x.replayExp })) s

/-- RECOMPUTE_DONE (R77): every tile has finished its pass and reported again; GO with a start follows. -/
def execRecomputeDone (part : Part) (s : State) : Host.Outcome State Fault Refusal :=
  let p := part.val
  if (s.part p).phase == .recompute then
    let ts := (s.tiles.entries.filter (fun e => s.owner e.1 == some p && !e.2.recOps.isEmpty)).map (·.1)
    let s := ts.foldl (fun s t => s.recomputeTile t) s
    if (s.part p).timedOut then .next (s.cascadeStop p 3)
    else .next ((s.nextAttempt p (s.part p).nextProg true).sendGo p 5)
  else .next s

/-- R96, R247: requests whose pages an attempt outran end FAILED. -/
def State.rangeFailures (s : State) (p : Nat) : State :=
  let c := (s.part p).count
  let rs := ((s.log.entries.filter (fun e => e.2.code == 0x8021 && e.2.part == some p && e.2.step == c && e.2.reqValid)).map (fun e => e.2.req)).eraseDups
  (rs.foldl (fun s r => if (s.req r).live then s.endPlain p r rsFailed 14 else s) s).journalAcc p

/-- R184: the faulted step is tried again: no record forbids it, its retries are not used up, and no tag has timed out. -/
def PartSt.retries (x : PartSt) : Bool := !x.noRetry && decide (x.faultStreak + 1 ≤ x.hdr.faultRetry) && !x.timedOut

/-- FAULTED_STEP_BOUNDARY (R184): the attempt is discarded, parity entries are rewritten, and the step is tried again or the
partition stops. -/
def execFaultedStepBoundary (part : Part) (s : State) : Host.Outcome State Fault Refusal :=
  let p := part.val
  if (s.part p).phase == .decided .faulted then
    let again := (s.part p).retries
    -- the record carries the count of the attempt that ends (R185)
    let s := if again then s else s.record { code := 0x1050, unit := 9, part := some p }
    let s := (s.discardAttempt p).rangeFailures p
    let s := s.onTiles p (fun x => { x with seqBad := Map.empty, rtrBad := Map.empty, replayUse := false })
    let s := (s.updPart p (fun x => { x with attempt := x.attempt + 1, faultStreak := x.faultStreak + 1, slipStreak := 0 })).countUp p
    if again then .next (s.nextAttempt p (s.part p).prog true)
    else .next (s.cascadeStop p (if (s.part p).timedOut then 3 else 2))
  else .next s

/-! ### Starts, holds and roots -/

/-- The tiles of a partition that hold back the next attempt (R133). -/
def State.heldTiles (s : State) (p : Nat) : List Nat :=
  (s.partTiles p).filter (fun t => s.tileLive t && !(s.heldSlots t (s.part p).nextProg).isEmpty)
/-- R135: the wait of boundary-mode slots of the next attempt begins at the boundary. -/
def State.startWait (s : State) (p : Nat) (ts : List Nat) : State :=
  ts.foldl (fun s t =>
    let es := s.heldSlots t (s.part p).nextProg
    s.updTile t (fun x => { x with waitStart := es.foldl (fun m e => m.put e (m.get e s.ptp)) x.waitStart })) s
/-- The waits that go on in the next attempt: those of slots that missed in the attempt that ended. -/
def TileSt.waitsOn (x : TileSt) : Map Nat := if x.report.miss then x.waitStart.keep (fun e _ => x.slotDone.mem e) else Map.empty
/-- The attempt begins: the program in force, the offset counters at 0 (R149). -/
def State.beginAttempt (s : State) (p : Nat) : State :=
  let s := (s.partTiles p).foldl (fun s t => s.setReg SEQ_STATUS_OFFSET t 0 0) s
  let s := s.onTiles p (fun x => { x.newAttempt with waitStart := x.waitsOn })
  s.updPart p (fun x => { x with phase := .attempt, prog := x.nextProg, regRep := Map.empty, noRetry := false })

/-- R216: at the commit boundary at which a partition holds for a takeover, the new steward rebuilds the slot bindings from its mirror, and releases
the hold. -/
def State.endTakeover (s : State) (p : Nat) : State :=
  s.updPart p (fun x => { x with innerHold := false, slots := x.slots.keep (fun _ b => b.dead || (s.req b.req).active) })
/-- ATTEMPT_START (R149, R160): a started partition begins its next attempt, unless a boundary-mode slot, a hold, a chain's mark
or an array to be replaced (R54) holds it back. -/
def execAttemptStart (part : Part) (s : State) : Host.Outcome State Fault Refusal :=
  let p := part.val
  let x := s.part p
  if x.phase == .ready && x.goStart && s.flag CSD_PCFG_RUN 0 p && !s.link.markWait.has p && !s.spareHold p then
    let s := if x.innerHold && x.attempt == 0 then s.endTakeover p else s
    let held := s.heldTiles p
    if held.isEmpty then .next (s.beginAttempt p) else .next (s.startWait p held)
  else .next s

/-- TAG_TIMEOUT (R135): a tile whose slot `entry` has waited TIMEOUT_US; the partition stops at the boundary, or at once when held. -/
def execTagTimeout (tile : Tile) (entry : Fin 4096) (s : State) : Host.Outcome State Fault Refusal :=
  let t := tile.val
  let e := s.sched t entry.val
  match s.owner t, (s.tile t).waitStart.get? entry.val, s.unreadyRow t e.unit e.cmd with
  | some p, some since, some r =>
    if s.flag CSD_PCFG_RUN 0 p && !(s.tile t).timedOut && decide (since + 1000 * s.reg BSN_SLUICE_CTRL_TIMEOUT_US t 0 ≤ s.ptp) then
      let s := (s.setReg BSN_STATUS_SLUICE_TIMEOUT t 0 1).tileRecord t
        { code := 0x1031, unit := 6, seqoff := entry.val, detail := r * 64 + s.tag t r % 4 }
      let s := (s.updTile t (fun x => { x with timedOut := true, waitStart := x.waitStart.del entry.val })).updPart p (fun x => { x with timedOut := true })
      if (s.part p).phase == .ready then .next (s.cascadeStop p 3) else .next s
    else .next s
  | _, _, _ => .next s

/-- ABORT (R162, R158): every sequencer, router and station of the partition stops, and the attempt is discarded. -/
def execAbort (part : Part) (s : State) : Host.Outcome State Fault Refusal := .next (s.abortPart part.val)

/-- CSD_HOLD_SET (R162): the partition holds from its next commit boundary. Its own set is read-only to a virtual function (Table 15-17). -/
def execCsdHoldSet (path : Path) (part : Part) (s : State) : Host.Outcome State Fault Refusal :=
  if ownSet path part.val then .next s else s.pageWrite path .csd false true (fun s => s.setG CSD_PCFG_HOLD part.val 1)

/-- HOLD cleared: a held partition gets its GO (R162). -/
def State.clearHold (s : State) (p : Nat) : State :=
  let held := s.flag CSD_PCFG_HOLD 0 p && (s.part p).phase == .ready && !(s.part p).goStart
  let s := s.setG CSD_PCFG_HOLD p 0
  if held then (s.updPart p (fun x => { x with goStart := true })).sendGo p 5 else s
/-- CSD_HOLD_CLEAR (R162): the clear counts as a late report, and GO follows. -/
def execCsdHoldClear (path : Path) (part : Part) (s : State) : Host.Outcome State Fault Refusal :=
  if ownSet path part.val then .next s else s.pageWrite path .csd false true (fun s => s.clearHold part.val)

/-- CSD_ROOT_SWAP (R163): the swap waits for the next wafer step boundary. -/
def execCsdRootSwap (path : Path) (s : State) : Host.Outcome State Fault Refusal :=
  s.pageWrite path .csd false true (fun s => { s with shadows := s.shadows.put (CSD_CTRL_ROOT_SWAP.key 0 0) 1 })

/-- The roots change roles. -/
def State.swapRoots (s : State) : State := { s with rootHome := !s.rootHome }.setG CSD_CTRL_ACTIVE 0 (b2n s.rootHome)

/-- The GO that the standby root expects: of a decided boundary, or of a start (after a recompute pass, or a hold's end). -/
def PartSt.goExpected (x : PartSt) : Option Nat := match x.phase with
  | .decided d => some d.code
  | .ready => if x.goStart then some 5 else none
  | _ => none
/-- ROOT_TAKEOVER (R163): a GO that the standby expects has not appeared; the standby root takes over and sends its own. -/
def execRootTakeover (part : Part) (s : State) : Host.Outcome State Fault Refusal :=
  let p := part.val
  match (s.part p).goExpected with
  | some c =>
    let s := ((s.swapRoots).setG CSD_STATUS_TAKEOVER 0 1).record { code := 0x4030, unit := 9, part := some p }
    .next (s.sendGo p c)
  | none => .next s

/-- TREE_MESSAGE_REPEAT (R163): a message not acknowledged is sent again; `region` 15 is a GO. -/
def execTreeMessageRepeat (part : Part) (region : Fin 16) (s : State) : Host.Outcome State Fault Refusal :=
  let k := part.val * 16 + region.val
  match s.treeMsgs.get? k with
  | none => .next s
  | some n =>
    let code := match (s.part part.val).phase with
      | .decided d => d.code
      | _ => 5
    let s := { s with treeMsgs := s.treeMsgs.put k (n + 1) }
    .next (s.emit (if region.val = 15 then .go part.val code else .report part.val region.val))

/-- GO_REISSUE (R163): a station cannot meet the start; GO is sent again with a start 64 cycles later. -/
def execGoReissue (part : Part) (s : State) : Host.Outcome State Fault Refusal :=
  let p := part.val
  if (s.part p).phase == .ready && (s.part p).goStart then
    .next ((s.record { code := 0x4032, unit := 9, part := some p }).sendGo p 5)
  else .next s

end Sys2Proof.Machine
end

