-- ==== Sys2Proof/Machine/Crypto.lean ====
section
/-! DEFINITION. SHA-384 (FIPS 180-4) and ECDSA over P-384 (FIPS 186-5, SEC 1), the signature scheme that the spec names
(08 R198 to R201; 14 R375). -/

namespace Sys2Proof.Machine

/-! ### SHA-384 -/

/-- The number of big-endian bytes. -/
def beNum (l : List Byte) : Nat := l.foldl (fun a b => a * 256 + b.toNat) 0
/-- `n` big-endian bytes of a number. -/
def beBytes : Nat → Nat → List Byte
  | 0, _ => []
  | n + 1, v => beBytes n (v / 256) ++ [BitVec.ofNat 8 v]

/-- Words of the hash have 64 bits. -/
def hashWord (v : Nat) : Nat := v % 2 ^ 64
/-- The largest number whose `k`-th power is at most `v`, by its low `n` bits above `r`. -/
def rootBelow (k v : Nat) : Nat → Nat → Nat
  | 0, r => r
  | n + 1, r => rootBelow k v n (if (r + 2 ^ n) ^ k ≤ v then r + 2 ^ n else r)
/-- The first 64 bits of the fraction of the `k`-th root of a number below 512. -/
def rootFraction (k p : Nat) : Nat := hashWord (rootBelow k (p * 2 ^ (64 * k)) 69 0)
/-- The primes below 410, of which there are 80. -/
def hashPrimes : List Nat := (upTo 410).filter (fun p => decide (2 ≤ p) && (upTo 21).all (fun d => decide (d < 2) || decide (p ≤ d) || p % d != 0))
/-- One constant a round: the cube roots of the first 80 primes. -/
def roundConstants : List Nat := hashPrimes.map (rootFraction 3)
/-- The hash value begins with the square roots of the ninth to the sixteenth prime. -/
def hashStart : List Nat := ((hashPrimes.drop 8).take 8).map (rootFraction 2)

/-- A word turned right. -/
def turn (x n : Nat) : Nat := x >>> n ||| hashWord (x <<< (64 - n))
/-- Turns of one word, added bit by bit modulo 2, with what else is to be added so. -/
def blend (x : Nat) (turns : List Nat) (more : Nat) : Nat := turns.foldl (fun (v : Nat) n => v ^^^ turn x n) more

/-- The schedule of a block: its 16 words, then `n` words more; newest first. -/
def scheduleOn : Nat → List Nat → List Nat
  | 0, w => w
  | n + 1, w =>
    let back (k : Nat) : Nat := w.getD (k - 1) 0
    scheduleOn n (hashWord (back 16 + back 7 + blend (back 15) [1, 8] (back 15 >>> 7) + blend (back 2) [19, 61] (back 2 >>> 6)) :: w)

/-- The working variables of a round: a to d are the four newest words of one sequence, e to h of another. -/
structure HashRun where
  front : List Nat
  rear : List Nat
def HashRun.ofWords (l : List Nat) : HashRun := ⟨l.take 4, l.drop 4⟩
def HashRun.words (v : HashRun) : List Nat := v.front ++ v.rear
/-- A round puts a new word before each sequence, and drops its oldest. `add` is the sum of the round's constant and word. -/
def HashRun.next (v : HashRun) (add : Nat) : HashRun :=
  let f (k : Nat) : Nat := v.front.getD k 0
  let r (k : Nat) : Nat := v.rear.getD k 0
  let choice := (r 0 &&& r 1) ||| ((2 ^ 64 - 1 - r 0) &&& r 2)
  let most := (f 0 &&& (f 1 ||| f 2)) ||| (f 1 &&& f 2)
  let grow := add + r 3 + choice + blend (r 0) [14, 18, 41] 0
  ⟨hashWord (grow + most + blend (f 0) [28, 34, 39] 0) :: v.front.take 3, hashWord (f 3 + grow) :: v.rear.take 3⟩

/-- The words of a block of 128 bytes. -/
def blockWords (blk : List Byte) : List Nat := (upTo 16).map (fun i => beNum ((blk.drop (8 * i)).take 8))
/-- The hash value after one block more. -/
def hashBlock (h : List Nat) (blk : List Byte) : List Nat :=
  let adds := List.zipWith (· + ·) roundConstants (scheduleOn 64 (blockWords blk).reverse).reverse
  List.zipWith (fun a b => hashWord (a + b)) h (adds.foldl HashRun.next (HashRun.ofWords h)).words
/-- The hash value after the blocks of a padded message. -/
def hashBlocks (m : List Byte) : List Nat := (upTo (m.length / 128)).foldl (fun h i => hashBlock h ((m.drop (128 * i)).take 128)) hashStart

/-- SHA-384 of a message, 48 bytes. -/
def sha384 (m : List Byte) : List Byte :=
  let zeros := (239 - m.length % 128) % 128
  ((hashBlocks (m ++ 0x80#8 :: List.replicate zeros 0#8 ++ beBytes 16 (8 * m.length))).take 6).flatMap (beBytes 8)

/-! ### P-384 -/

def p384 : Nat := 2 ^ 384 - 2 ^ 128 - 2 ^ 96 + 2 ^ 32 - 1
def p384B : Nat := 0xb3312fa7e23ee7e4988e056be3f82d19181d9c6efe8141120314088f5013875ac656398d8a2ed19d2a85c8edd3ec2aef
def p384Gx : Nat := 0xaa87ca22be8b05378eb1c71ef320ad746e1d3b628ba79b9859f741e082542a385502f25dbf55296c3a545e3872760ab7
def p384Gy : Nat := 0x3617de4a96262c6f5d9e98bf9292dc29f8f41dbd289a147ce9da3113b5f0b8c00a60b1ce1d7e819d7a431d7c90ea0e5f
def p384N : Nat := 0xffffffffffffffffffffffffffffffffffffffffffffffffc7634d81f4372ddf581a0db248b0a77aecec196accc52973

/-- X and Y are the coordinates of a point of the curve y^2 = x^3 - 3x + b. -/
def onCurve (x y : Nat) : Bool :=
  decide (x < p384) && decide (y < p384) && y * y % p384 == (x * x * x + (p384 - 3) * x + p384B) % p384

/-- Powers modulo `m` by the bits of the exponent, `n` of them. -/
def powMod (m : Nat) : Nat → Nat → Nat → Nat
  | 0, _, _ => 1 % m
  | n + 1, b, e => let h := powMod m n (b * b % m) (e / 2); if e % 2 = 1 then h * b % m else h
def invMod (m a : Nat) : Nat := powMod m 384 a (m - 2)

/-- A point in Jacobian coordinates; Z = 0: the point at infinity. -/
structure JPoint where
  x : Nat
  y : Nat
  z : Nat

def JPoint.inf : JPoint := ⟨1, 1, 0⟩
def subP (a b : Nat) : Nat := (a + p384 - b % p384) % p384

def JPoint.double (a : JPoint) : JPoint :=
  if a.z = 0 || a.y = 0 then JPoint.inf
  else
    let d := a.z * a.z % p384
    let g := a.y * a.y % p384
    let b := a.x * g % p384
    let al := 3 * (subP a.x d) * (a.x + d) % p384
    let x := subP (al * al) (8 * b)
    ⟨x, subP (al * subP (4 * b) x) (8 * g * g), 2 * a.y * a.z % p384⟩

def JPoint.add (a b : JPoint) : JPoint :=
  if a.z = 0 then b
  else if b.z = 0 then a
  else
    let z1 := a.z * a.z % p384
    let z2 := b.z * b.z % p384
    let u1 := a.x * z2 % p384
    let u2 := b.x * z1 % p384
    let s1 := a.y * b.z * z2 % p384
    let s2 := b.y * a.z * z1 % p384
    if u1 = u2 then (if s1 = s2 then a.double else JPoint.inf)
    else
      let h := subP u2 u1
      let r := subP s2 s1
      let h2 := h * h % p384
      let h3 := h * h2 % p384
      let v := u1 * h2 % p384
      let x := subP (subP (r * r) h3) (2 * v)
      ⟨x, subP (r * subP v x) (s1 * h3), a.z * b.z * h % p384⟩

/-- A multiple of a point, by `n` bits of the factor. -/
def JPoint.mul (a : JPoint) : Nat → Nat → JPoint
  | 0, _ => JPoint.inf
  | n + 1, k =>
    let h := (JPoint.mul a n (k / 2)).double
    if k % 2 = 1 then h.add a else h

/-- (r, s) is a valid ECDSA signature of a message under the public key (x, y). -/
def ecdsaValid (x y : Nat) (msg : List Byte) (r s : Nat) : Bool :=
  if r = 0 || p384N ≤ r || s = 0 || p384N ≤ s then false
  else
    let e := beNum (sha384 msg)
    let w := invMod p384N s
    let q := (JPoint.mul ⟨p384Gx, p384Gy, 1⟩ 384 (e * w % p384N)).add (JPoint.mul ⟨x, y, 1⟩ 384 (r * w % p384N))
    if q.z = 0 then false
    else
      let zi := invMod p384 q.z
      q.x * (zi * zi % p384) % p384 % p384N == r

/-- KEYID of a public key: the first 8 bytes of SHA-384(X ‖ Y), little-endian (R198; Notation). -/
def keyIdOf (x y : Nat) : Nat := numOf ((sha384 (beBytes 48 x ++ beBytes 48 y)).take 8)

end Sys2Proof.Machine
end

