-- ==== Sys2Proof/Machine/Package.lean ====
section
/-! DEFINITION. The Tilmen package as it lies in the Cistern: header, section table, manifests, patches, and the checks
that the loader makes of it (07 R169 to R180; 08 R199, R211; 10 R267). -/

namespace Sys2Proof.Machine

/-- A refusal of a package or program (R187): code, tile, program, REQ and DETAIL. -/
structure LoadRefusal where
  code : Nat
  tile : Option Nat
  prog : Nat
  item : Nat
  detail : Nat
  deriving DecidableEq, Repr

def badSect (code k : Nat) : LoadRefusal := ⟨code, none, 3, k, k % 65536⟩

/-- A section-table entry (Table 7-3), with its index. -/
structure Sect where
  idx : Nat
  typ : Nat
  required : Bool
  perTile : Bool
  tile : Nat
  off : Nat
  len : Nat
  shard : Nat
  crc : Nat
  deriving DecidableEq, Repr

/-- Number of `n` bytes at offset `o` of the package at `a`. -/
def State.pk (s : State) (a o n : Nat) : Nat := Memory.readLE s.mem (a + o) n
def State.pkBytes (s : State) (a o n : Nat) : List Byte := Memory.readBytes s.mem (a + o) n

/-- The section table of the package at `a`. -/
def State.sects (s : State) (a : Nat) : List Sect :=
  let t := s.pk a 0x10 8
  (upTo (s.pk a 0x0C 4)).map (fun k =>
    let o := t + 32 * k
    let fl := s.pk a (o + 2) 2
    { idx := k, typ := s.pk a o 2, required := bitAt fl 0, perTile := bitAt fl 1, tile := s.pk a (o + 4) 4, off := s.pk a (o + 8) 8,
      len := s.pk a (o + 16) 8, shard := s.pk a (o + 24) 4, crc := s.pk a (o + 28) 4 })

/-- The section of a "one" type, and the section of a type for a home tile. -/
def sectOf (l : List Sect) (typ : Nat) : Option Sect := l.find? (fun x => x.typ == typ)
def sectFor (l : List Sect) (typ tile : Nat) : Option Sect := l.find? (fun x => x.typ == typ && x.tile == tile)
def knownType (t : Nat) : Bool := decide (1 ≤ t) && decide (t ≤ 0x14)
/-- Table 7-4: types of which there is one for each tile. -/
def tileType (t : Nat) : Bool := (decide (3 ≤ t) && decide (t ≤ 0xC)) || t == 0xE || t == 0xF
/-- The program of a schedule or route section. -/
def progOfType (t : Nat) : Nat := if t ≤ 8 then t - 6 else t - 9

/-! ### The lead shard (R199) -/

/-- What the manifest of a package at `a` says. -/
structure ShardPlan where
  mver : Nat
  halg : Nat
  count : Nat
  lead : Nat
  log2 : Nat
def State.shardPlan (s : State) (a o : Nat) : ShardPlan :=
  ⟨s.pk a o 2, s.pk a (o + 2) 2, s.pk a (o + 4) 4, s.pk a (o + 8) 8, s.pk a (o + 16) 1⟩

/-- R199: shards of a package of `size` bytes. -/
def shardCount (size lead log2 : Nat) : Nat := 1 + ceilDiv (size - lead) (2 ^ log2)
/-- The shard of a byte. -/
def shardOf (lead log2 b : Nat) : Nat := if b < lead then 0 else 1 + (b - lead) / 2 ^ log2

/-- R199: a lead shard of `n` bytes at `a` is consistent with itself and with the command's PKG_SIZE. -/
def State.leadConsistent (s : State) (a n size : Nat) : Bool :=
  let l := s.sects a
  let inLead (o k : Nat) : Bool := decide (o + k ≤ n)
  inLead 0 128 && inLead (s.pk a 0x10 8) (32 * s.pk a 0x0C 4) && s.pk a 0x18 8 == size &&
  match sectOf l 0x13, sectOf l 0x14 with
  | some m, some g =>
    let p := s.shardPlan a m.off
    inLead m.off m.len && inLead g.off g.len && decide (0x20 + 48 * (p.count - 1) ≤ m.len) && g.len == 128 && p.lead == n &&
    p.lead % 4096 == 0 && decide (p.lead ≤ 64 * 2 ^ 20) && p.mver == 1 && p.halg == 1 && decide (24 ≤ p.log2) && decide (p.log2 ≤ 30) &&
    decide (2 ≤ p.count) && decide (p.count ≤ 65535) && s.pk a g.off 2 == 1 && decide (p.lead < size) && p.count == shardCount size p.lead p.log2
  | _, _ => false

/-- R200: the signed message: the lead shard with the signature section zero. -/
def signedMessage (lead : List Byte) (off : Nat) : List Byte := lead.take off ++ List.replicate 128 0#8 ++ lead.drop (off + 128)

/-- R213: the section that a shard's first byte lies in, else the first that begins in the shard, else 0xFFFF. -/
def shardSection (l : List Sect) (lead log2 k : Nat) : Nat :=
  let b := if k = 0 then 0 else lead + (k - 1) * 2 ^ log2
  match l.find? (fun x => decide (x.off ≤ b) && decide (b < x.off + x.len)) with
  | some x => x.idx
  | none => match l.find? (fun x => shardOf lead log2 x.off == k) with
    | some x => x.idx
    | none => 0xFFFF

/-! ### Header, profile, sections (R169 to R171, R180) -/

def State.headerCheck (s : State) (a : Nat) : Option LoadRefusal :=
  if s.pk a 0 4 != 0x4E4D4C54 || s.pk a 4 2 != 1 || s.pk a 0x0C 4 == 0 || decide (1048575 < s.pk a 0x0C 4) then some (badSect 0x9001 0) else none
def State.pkgProfile (s : State) (a : Nat) : Nat := s.pk a 8 2
def State.profileCheck (s : State) (a : Nat) : Option LoadRefusal :=
  let p := s.pkgProfile a
  if p != 0 && (p == s.g LD_PROFILES_PROF0 0 || p == s.g LD_PROFILES_PROF1 0 || p == s.g LD_PROFILES_PROF2 0) then none
  else some (badSect 0x9002 0)

/-- Quadrants of a QMASK number. -/
def quadsOf (m : Nat) : List Nat := (upTo 224).filter (fun k => bitAt m k)
/-- A tile address names a tile of a quadrant set. -/
def addrIn (qs : List Nat) (a : Nat) : Bool := match tileOfAddr a with
  | some t => qs.contains (quadOf t)
  | none => false

/-- One section breaks R170 or R171. `home`: the home quadrants; PROG_PAGES of the header. -/
def State.sectBad (s : State) (a size lead log2 : Nat) (home : List Nat) (pages : Nat) (l : List Sect) (x : Sect) : Bool :=
  (x.required && !knownType x.typ) || decide (size < x.off + x.len) ||
  l.any (fun y => y.idx != x.idx && x.len != 0 && y.len != 0 && decide (x.off < y.off + y.len) && decide (y.off < x.off + x.len)) ||
  (knownType x.typ && x.perTile != tileType x.typ) || (x.perTile && !addrIn home x.tile) ||
  x.shard != shardOf lead log2 x.off ||
  x.crc != (if x.typ = 0x14 then crc32c (List.replicate x.len 0#8) else crc32c (s.pkBytes a x.off x.len)) ||
  (x.typ == 0xC && (x.len % 512 != 0 || decide (32768 * pages < x.len))) ||
  l.any (fun y => decide (y.idx < x.idx) && knownType x.typ && y.typ == x.typ && (!tileType x.typ || y.tile == x.tile))

/-- The types that appear exactly once. -/
def oneTypes : List Nat := [1, 2, 0xD, 0x10, 0x12, 0x13, 0x14]

def State.sectCheck (s : State) (a : Nat) : Option LoadRefusal :=
  let l := s.sects a
  match oneTypes.find? (fun t => (sectOf l t).isNone), sectOf l 1, sectOf l 0x13 with
  | none, some h, some m =>
    let p := s.shardPlan a m.off
    let home := quadsOf (s.pk a (h.off + 0x18) 32)
    (l.find? (s.sectBad a (s.pk a 0x18 8) p.lead p.log2 home (s.pk a (h.off + 0x10) 1) l)).map (fun x => badSect 0x9003 x.idx)
  | _, _, _ => some (badSect 0x9003 0)

/-! ### Program header (R172) -/

def State.pkgHdr (s : State) (a o : Nat) : ProgHdr :=
  { lenBase := s.pk a o 2, lenSplit := s.pk a (o + 2) 2, lenWide := s.pk a (o + 4) 2, guard := s.pk a (o + 6) 2, xslack := s.pk a (o + 8) 1,
    slipLimit := s.pk a (o + 9) 1, replayLimit := s.pk a (o + 10) 1, faultRetry := s.pk a (o + 11) 1, clovePeriod := s.pk a (o + 12) 4,
    progPages := s.pk a (o + 16) 1, stages := s.pk a (o + 17) 1, slots := s.pk a (o + 18) 2, qmask := s.pk a (o + 24) 32,
    mflags := s.pk a (o + 56) 2, cisternMin := s.pk a (o + 64) 8 }
/-- The ranges of Table 7-5. -/
def ProgHdr.ok (h : ProgHdr) : Bool :=
  decide (511 ≤ h.lenBase) && decide (h.lenBase ≤ h.lenSplit) && decide (h.lenBase ≤ h.lenWide) && decide (8 ≤ h.guard) && decide (h.guard ≤ 1024) &&
  decide (4 ≤ h.xslack) && decide (h.xslack ≤ 60) && decide (1 ≤ h.slipLimit) && decide (h.slipLimit ≤ 15) && decide (1 ≤ h.replayLimit) &&
  decide (h.replayLimit ≤ 7) && decide (h.faultRetry ≤ 3) && decide (256 ≤ h.clovePeriod) && decide (h.clovePeriod ≤ 65536) &&
  decide (h.progPages ≤ 16) && decide (1 ≤ h.stages) && decide (1 ≤ h.slots) && decide (h.slots ≤ 1024) &&
  h.qmask % 2 ^ 224 != 0 && decide (h.qmask < 2 ^ 224)

/-! ### Placement manifest (R173) -/

/-- A manifest entry (Table 7-6). -/
structure Place where
  stream : Bool
  cmode : Nat
  wfmt : Nat
  plane : Nat
  array : Nat
  tile : Nat
  image : Nat
  slot : Nat
  crc : Nat
  reserved : Bool
  deriving DecidableEq, Repr

def place (w0 w1 w2 w3 : Nat) : Place :=
  { stream := bitAt w0 30, cmode := bits w0 29 28, wfmt := bits w0 27 25, plane := bits w0 24 24, array := bits w0 23 20, tile := bits w0 19 0,
    image := bits w1 31 12, slot := bits w1 3 0, crc := w2, reserved := bitAt w0 31 || bits w1 11 4 != 0 || w3 != 0 }
def State.places (s : State) (a : Nat) (m : Sect) : List Place :=
  (upTo (m.len / 16)).map (fun k =>
    let o := m.off + 16 * k
    place (s.pk a o 4) (s.pk a (o + 4) 4) (s.pk a (o + 8) 4) (s.pk a (o + 12) 4))
def noImage : Nat := 0xFFFFF

/-- The image of an entry: offset in the package. -/
def imageOff (l : List Sect) (p : Place) : Option Nat :=
  match l.find? (fun x => x.idx == p.image) with
  | some x => if x.typ == 3 && x.tile == p.tile && decide (65536 * (p.slot + 1) ≤ x.len) then some (x.off + 65536 * p.slot) else none
  | none => none
def State.placeBad (s : State) (a : Nat) (l : List Sect) (home : List Nat) (ps : List Place) (k : Nat) (p : Place) : Bool :=
  decide (7 < p.array) || decide (3 < p.wfmt) || p.reserved || !addrIn home p.tile ||
  (ps.take k).any (fun q => q.tile == p.tile && q.array == p.array && q.plane == p.plane) ||
  (if p.image = noImage then !p.stream else match imageOff l p with
    | none => true
    | some o => crc32c (s.pkBytes a o 65536) != p.crc)
def State.manifestCheck (s : State) (a : Nat) (l : List Sect) (home : List Nat) : Option LoadRefusal := match sectOf l 2 with
  | none => none
  | some m =>
    let ps := s.places a m
    if m.len % 16 != 0 then some ⟨0x9004, none, 3, 0, m.idx % 65536⟩
    else (ps.zipIdx.find? (fun e => s.placeBad a l home ps e.2 e.1)).map (fun e => ⟨0x9004, none, 3, e.2, m.idx % 65536⟩)

/-! ### Power estimate (R267) -/

def hintOf (x : Nat) : Hint := ⟨bits x 127 96, bits x 95 80, bits x 79 48, bits x 47 16, bitAt x 15⟩
def State.pkgEst (s : State) (a : Nat) (x : Sect) : PowerEst :=
  { period := s.pk a (x.off + 8) 4, staticW := s.pk a (x.off + 12) 4, eBase := s.pk a (x.off + 16) 4, eSplit := s.pk a (x.off + 20) 4,
    eWide := s.pk a (x.off + 24) 4, hints := (upTo (min 65536 (s.pk a (x.off + 4) 4))).map (fun k => hintOf (s.pk a (x.off + 64 + 16 * k) 16)) }
def Hint.short (lenBase wlen : Nat) (h : Hint) : Bool := decide (h.lead * (lenBase + 1) < 2 * (wlen + 1))
def State.estCheck (s : State) (a : Nat) (l : List Sect) (h : ProgHdr) : Option LoadRefusal := match sectOf l 0x12 with
  | none => none
  | some x =>
    let e := s.pkgEst a x
    let n := s.pk a (x.off + 4) 4
    if s.pk a x.off 2 != 1 || decide (65536 < n) || decide (x.len < 64 + 16 * n) || e.period == 0 then some ⟨0x9004, none, 3, 0, x.idx % 65536⟩
    else (e.hints.zipIdx.find? (fun k => decide (e.period ≤ k.1.phase) || k.1.lead == 0 || k.1.short h.lenBase (s.g CSD_WSTEP_LEN 0))).map
      (fun k => ⟨0x9004, none, 3, k.2, x.idx % 65536⟩)

/-! ### Patches (R176 to R178) -/

/-- A patch record (Table 7-8). -/
structure Patch where
  typ : Nat
  sect : Nat
  bit : Nat
  resv : Bool
  unit : Nat
  deriving DecidableEq, Repr
def patchOf (x : Nat) : Patch := ⟨bits x 63 60, bits x 59 40, bits x 39 33, bitAt x 32, bits x 31 0⟩
def State.patches (s : State) (a : Nat) (x : Sect) : List Patch := (upTo (x.len / 8)).map (fun k => patchOf (s.pk a (x.off + 8 * k) 8))
/-- Table 7-9: the width of the field. -/
def patchWidth (t : Nat) : Nat := match t with
  | 1 => 20
  | 2 => 8
  | 3 => 7
  | 4 => 6
  | 5 => 52
  | 6 => 20
  | 7 => 12
  | _ => 0
def Patch.bad (l : List Sect) (ps : List Patch) (k : Nat) (p : Patch) : Bool :=
  let w := patchWidth p.typ
  w == 0 || p.resv || decide (128 < p.bit + w) ||
  (match l.find? (fun x => x.idx == p.sect) with
    | none => true
    | some x => decide (x.len * 8 < p.unit * 128 + p.bit + w)) ||
  (ps.take k).any (fun q => q.sect == p.sect && q.unit == p.unit && decide (p.bit < q.bit + patchWidth q.typ) && decide (q.bit < p.bit + w))
def State.patchCheck (s : State) (a : Nat) (l : List Sect) : Option LoadRefusal := match sectOf l 0x10 with
  | none => none
  | some x =>
    let ps := s.patches a x
    if x.len % 8 != 0 then some ⟨0x9005, none, 3, 0, x.idx % 65536⟩
    else (ps.zipIdx.find? (fun e => e.1.bad l ps e.2)).map (fun e => ⟨0x9005, none, 3, e.2, x.idx % 65536⟩)

/-! ### Relocation (R175, R177) -/

/-- A translation of the quadrant grid, as whole-number shifts. -/
structure Shift where
  dx : Int
  dy : Int
  deriving DecidableEq, Repr

def quadX (q : Nat) : Nat := 2 * (q / 4 % 8) + q % 2
def quadY (q : Nat) : Nat := 2 * (q / 32) + q % 4 / 2
/-- The quadrant at a grid place, if any. -/
def quadAt (x y : Int) : Option Nat :=
  if 0 ≤ x && x < 16 && 0 ≤ y && y < 14 then
    some ((y.toNat / 2 * 8 + x.toNat / 2) * 4 + y.toNat % 2 * 2 + x.toNat % 2)
  else none
def Shift.quad (h : Shift) (q : Nat) : Option Nat := quadAt (quadX q + h.dx) (quadY q + h.dy)
/-- R177: a tile number moved in wafer tile coordinates. -/
def Shift.tile (h : Shift) (t : Nat) : Option Nat :=
  let x : Int := (siteOf t % 8 * 32 + colOf t : Nat) + 16 * h.dx
  let y : Int := (siteOf t / 8 * 32 + rowOf t : Nat) + 16 * h.dy
  if 0 ≤ x && x < 256 && 0 ≤ y && y < 224 then
    some ((y.toNat / 32 * 8 + x.toNat / 32) * 1024 + y.toNat % 32 * 32 + x.toNat % 32)
  else none
/-- The translation that takes the home set to the partition's, if there is one. -/
def shiftOf (home own : List Nat) : Option Shift := match home, own with
  | h :: _, _ =>
    own.findSome? (fun q =>
      let sh : Shift := ⟨(quadX q : Int) - quadX h, (quadY q : Int) - quadY h⟩
      if home.length == own.length && home.all (fun k => match sh.quad k with
        | some j => own.contains j
        | none => false) then some sh else none)
  | [], _ => none

/-- The rewrite of a patched field (Table 7-9); none: it leaves its range or names no tile of the partition (R177). `part`,
`area`, `lane`: partition, package area, physical lane of a package lane. -/
def State.rewrite (s : State) (p : Nat) (sh : Shift) (area : Nat) (lane : Nat → Nat) (typ v : Nat) : Option Nat := match typ with
  | 1 => match tileOfAddr v with
    | none => none
    | some t => match sh.tile t with
      | none => none
      | some u => if s.owner u == some p then some (tileAddr u) else none
  | 2 =>
    let x : Int := (v % 8 : Nat) + sh.dx / 2
    let y : Int := (v / 8 : Nat) + sh.dy / 2
    if v < 56 && 0 ≤ x && x < 8 && 0 ≤ y && y < 7 then some (y.toNat * 8 + x.toNat) else none
  | 3 => if lane v < 104 then some (lane v) else none
  | 4 => some p
  | 5 => if v + area < 2 ^ 52 then some (v + area) else none
  | 6 => if v + (s.part p).reqFirst < 65536 then some (v + (s.part p).reqFirst) else none -- R13
  | 7 => if v < 2 ^ 12 then some v else none
  | _ => none

/-- A patched field of a section copied to `dst`: rewritten in place. -/
def State.patchAt (s : State) (p : Nat) (sh : Shift) (area : Nat) (lane : Nat → Nat) (dst len : Nat) (r : Patch) : State :=
  let n := min 16 (len - 16 * r.unit)
  let u := Memory.readLE s.mem (dst + 16 * r.unit) n
  let w := patchWidth r.typ
  match s.rewrite p sh area lane r.typ (bits u (r.bit + w - 1) r.bit) with
  | some v => s.setMem (Memory.writeLE s.mem (dst + 16 * r.unit) n (setBits u (r.bit + w - 1) r.bit v))
  | none => s

/-- The rewrite of a record of a section table's package at `a`, on the bytes as they lie there. -/
def State.rewriteOf (s : State) (a p : Nat) (sh : Shift) (area : Nat) (lane : Nat → Nat) (l : List Sect) (r : Patch) : Option Nat :=
  (l.find? (fun y => y.idx == r.sect)).bind (fun y =>
    s.rewrite p sh area lane r.typ (bits (s.pk a (y.off + 16 * r.unit) (min 16 (y.len - 16 * r.unit))) (r.bit + patchWidth r.typ - 1) r.bit))
/-- R177, R178: the first bad record of the patch table: one whose form is bad or whose rewrite leaves its range gives 0x9005, a tile address that
leaves the partition 0x900D. -/
def State.patchBad (s : State) (a p : Nat) (sh : Shift) (area : Nat) (lane : Nat → Nat) (l : List Sect) : Option LoadRefusal :=
  match sectOf l 0x10 with
  | none => none
  | some x =>
    let ps := s.patches a x
    if x.len % 8 != 0 then some ⟨0x9005, none, 3, 0, x.idx % 65536⟩
    else (ps.zipIdx.find? (fun e => e.1.bad l ps e.2 || (s.rewriteOf a p sh area lane l e.1).isNone)).map (fun e =>
      ⟨if !e.1.bad l ps e.2 && e.1.typ == 1 then 0x900D else 0x9005, none, 3, e.2, x.idx % 65536⟩)

/-- The latency class of a mesh hop (Table 6-3): 0 within a site, 1 across a site edge inside a region, 2 across a region edge. -/
def hopClass (a b : Nat) : Nat := if siteOf a = siteOf b then 0 else if regionOf a = regionOf b then 1 else 2

end Sys2Proof.Machine
end

