-- ==== Sys2Proof/Machine/Fabric.lean ====
section
/-! DEFINITION. Routers, express stations and crossing buffers (06_fabric_and_cascade.md R139 to R148, R154, R155, R164). -/

namespace Sys2Proof.Machine

/-! ### Neighbours (Table 6-1) -/

/-- The tile at the other end of a port, if there is one. -/
def neighbour (t port : Nat) : Option Nat :=
  let x : Int := (siteOf t % 8 * 32 + colOf t : Nat)
  let y : Int := (siteOf t / 8 * 32 + rowOf t : Nat)
  let d : Int × Int := match port with
    | 1 => (0, -1)
    | 2 => (1, 0)
    | 3 => (0, 1)
    | 4 => (-1, 0)
    | 5 => (0, -2)
    | 6 => (0, 2)
    | _ => (0, 1000)
  let nx := x + d.1
  let ny := y + d.2
  if nx < 0 || 256 ≤ nx || ny < 0 || 224 ≤ ny then none
  else some ((ny.toNat / 32 * 8 + nx.toNat / 32) * 1024 + ny.toNat % 32 * 32 + nx.toNat % 32)
/-- The port of the neighbour at which such a link arrives. -/
def farPort (port : Nat) : Nat := match port with
  | 1 => 3
  | 2 => 4
  | 3 => 1
  | 4 => 2
  | 5 => 6
  | _ => 5
/-- Table 6-3, hops that cross no region edge. -/
def hopLatency (a b : Nat) : Nat := if siteOf a = siteOf b then 4 else 6

/-! ### Route entries (Table 6-5) -/

structure RouteE where
  off : Nat
  outmask : Nat
  inp : Nat
  lsrc : Nat
  lsnk : Nat
  tumask : Nat
  brow : Nat
  nb : Nat
  exp : Bool
  lane : Nat

def routeE (x : Nat) : RouteE :=
  { off := bits x 63 48, outmask := bits x 47 41, inp := bits x 40 38, lsrc := bits x 37 36, lsnk := bits x 35 35,
    tumask := bits x 34 27, brow := bits x 26 17, nb := bits x 16 10 + 1, exp := bitAt x 9, lane := bits x 8 2 }
def State.route (s : State) (t e : Nat) : RouteE := routeE (Memory.readLE s.mem (routeAddr t e) 8)
/-- Beats of a run: NBEAT per selected tail unit when the output buffers supply them. -/
def RouteE.beats (r : RouteE) : Nat := if r.inp = 0 && r.lsrc = 0 then r.nb * (maskArrays r.tumask).length else r.nb

/-! ### Dispositions (R146) -/

def inSpan (c a n : Nat) : Bool := decide (a ≤ c) && decide (c < a + n)

/-- One of these route entries forwards what arrives on the port in the cycle. -/
def forwardsBeat (l : List RouteE) (port c : Nat) : Bool := l.any (fun r => r.inp == port && inSpan c r.off r.nb)
/-- One of these schedule entries takes what arrives on the port in the cycle: RED and CMRG their incoming ports, LDIN with SRC 0 the
local port; a window-mode slot at any of its issue cycles. -/
def takesBeat (l : List SchedE) (port c : Nat) : Bool :=
  l.any (fun x =>
    let w := x.cmd
    let wait := if x.mode = 1 then x.wait else 0
    if x.unit == 0 && opcOf w == 3 then
      (bits w 50 48 == port || bits w 47 45 == port) && port != 0 &&
        inSpan c x.off ((bits w 43 38 + 1) * (maskArrays (amaskOf w)).length + wait)
    else if x.unit == 0 && opcOf w == 1 then port == 0 && !bitAt w 39 && inSpan c x.off (bits w 43 40 + 1 + wait)
    else if x.unit == 3 && bits w 63 59 == 1 then
      (bits w 57 55 == port || bits w 54 52 == port) && port != 0 && inSpan c (x.off + bits w 49 42) (bits w 14 4 + 1 + wait)
    else false)

/-- A route entry, or a schedule entry, in force has a use for the beat. -/
def State.forwarded (s : State) (t port c : Nat) : Bool := forwardsBeat ((s.routesInForce t).map (s.route t)) port c
def State.consumed (s : State) (t port c : Nat) : Bool := takesBeat ((s.schedInForce t).map (s.sched t)) port c

/-! ### Faults of the router (Table 6-6) -/

/-- A conflict at run time: the status bit, the record, a faulted step. -/
def State.rtrFault (s : State) (t : Nat) (f : Fld) (code c port lane : Nat) : State :=
  (s.setReg f t 0 1).tileFault t
    { code := code, unit := 4, cycle := c, detail := port * 8192 + lane * 64 + (s.owner t).getD 0 }

/-- R392: KIND 1 of the RTR page damages the CRC of the next beat launched. -/
def State.launchCrc (s : State) (t : Nat) : State × Bool :=
  if s.reg (HDR_ERR_INJECT .rtr) t 0 = 1 then
    ((s.setReg (HDR_ERR_INJECT .rtr) t 0 0).setReg (HDR_INJECTED .rtr) t 0 1, true)
  else (s, false)

/-! ### Launches -/

/-- A lane at a station: axis 0 east to west, 1 north to south; direction 0 east or south, 1 west or north. The same number names the
segment of the lane that leaves the station (R144). -/
def laneOf (site axis dir lane : Nat) : Nat := ((site * 2 + axis) * 2 + dir) * 104 + lane
/-- Where a beat that an edge tile adds at a station waits for it, beside the beats that come on the lane. -/
def addOf (l : Nat) : Nat := 2 ^ 15 + l
/-- The express axis and direction of an outward port of an edge tile (R144). -/
def outward (t port : Nat) : Option (Nat × Nat) :=
  if port = 2 && colOf t = 31 then some (0, 0) else if port = 4 && colOf t = 0 then some (0, 1)
  else if port = 3 && rowOf t = 31 then some (1, 0) else if port = 1 && rowOf t = 0 then some (1, 1) else none
/-- The next station along an axis. -/
def nextStation (site axis dir : Nat) : Option Nat :=
  if axis = 0 then
    if dir = 0 then (if site % 8 = 7 then none else some (site + 1)) else (if site % 8 = 0 then none else some (site - 1))
  else
    if dir = 0 then (if site / 8 = 6 then none else some (site + 8)) else (if site / 8 = 0 then none else some (site - 8))
/-- The partition that owns the segment on which a lane reaches a station. -/
def State.inSegment (s : State) (l : Nat) : Option Nat :=
  (nextStation (l / 416) (l / 208 % 2) (1 - l / 104 % 2)).bind (fun n => s.laneOwner.get? (laneOf n (l / 208 % 2) (l / 104 % 2) (l % 104)))

/-- A beat put into a crossing buffer of 128 beats; at a full one it is lost, which is a slip at its release (R155). -/
def State.intoCross (s : State) (k c : Nat) (b : LinkBeat) : State :=
  let l := s.cross.get k []
  if l.length < 128 then { s with cross := s.cross.put k (l ++ [(c, b)]) } else s

/-- A beat on its way to a port: at most one reaches it in a cycle (R139, R144); of two uses the later one's beat is discarded. -/
def State.intoLink (s : State) (t port c lane : Nat) (b : LinkBeat) : State :=
  let k := (t * 8 + port) * 2 ^ 17 + c
  if s.links.has k then s.rtrFault t RTR_STATUS_CONFLICT 0x1040 c port lane else { s with links := s.links.put k b }
/-- A beat on its way to a station on a lane, or (`addOf`) from an edge tile; of two in one cycle the later one's is discarded (Table 6-6). -/
def State.intoLane (s : State) (l c : Nat) (b : LinkBeat) : State :=
  let k := l * 2 ^ 17 + c
  if s.lanes.has k then s.rtrFault b.from_ RTR_STATUS_CONFLICT 0x1040 c 0 (l % 2 ^ 15 % 104) else { s with lanes := s.lanes.put k b }
/-- A beat put by a station on the segment that leaves it, in a cycle: 3 cycles to the next station, or the crossing buffer of a region
edge (Table 6-3). Two beats on one segment in one cycle conflict. -/
def State.ontoSegment (s : State) (site axis dir lane c : Nat) (b : LinkBeat) : State :=
  match nextStation site axis dir with
  | none => s
  | some n =>
    let l := laneOf n axis dir lane
    if regionOfSite n = regionOfSite site then s.intoLane l (c + 3) b
    else if (s.cross.get (2 ^ 20 + l) []).any (fun e => e.1 == c) then s.rtrFault b.from_ RTR_STATUS_CONFLICT 0x1040 c 0 lane
    else s.intoCross (2 ^ 20 + l) c b

/-- Where a beat that a tile drives on a port goes: the key of the store that holds it on its way. -/
inductive Hop where
  | lane (key : Nat)
  | link (key : Nat)
  | cross (key : Nat)
  | edge

def hopOf (t port c : Nat) (exp : Bool) (lane : Nat) : Hop :=
  match if exp then outward t port else none with
  | some (axis, dir) => .lane (addOf (laneOf (siteOf t) axis dir lane) * 2 ^ 17 + (c + 3))
  | none => match neighbour t port with
    | none => .edge
    | some r =>
      if regionOf r = regionOf t then .link ((r * 8 + farPort port) * 2 ^ 17 + (c + hopLatency t r)) else .cross (r * 8 + farPort port)
/-- The beat of a launch that loses its port to an entry earlier in the table is taken back (Table 6-6). -/
def State.takeBack (s : State) (h : Hop) (t c : Nat) : State := match h with
  | .lane k => { s with lanes := s.lanes.del k }
  | .link k => { s with links := s.links.del k }
  | .cross k => { s with cross := s.cross.put k ((s.cross.get k []).filter (fun e => !(e.1 == c && e.2.from_ == t))) }
  | .edge => s

/-- One beat of route entry `e` driven on a port in cycle `c`: of two launches on a port the entry earlier in the table drives it. -/
def State.launch (s : State) (t e port c : Nat) (exp : Bool) (lane : Nat) (b : Beat) : State :=
  let k := port * 65536 + c
  let before := (s.tile t).driven.get? k
  let s := if before.isSome then s.rtrFault t RTR_STATUS_CONFLICT 0x1040 c port (if exp then lane else 0) else s
  if (match before with | some d => decide (d ≤ e) | none => false) then s
  else
    let s := match before with
      | some d =>
        let r := s.route t d
        s.takeBack (hopOf t port c (r.exp && (outward t port).isSome) r.lane) t c
      | none => s
    let s := s.updTile t (fun x => { x with driven := x.driven.put k e })
    let j := s.launchCrc t
    let s := j.1
    let lb : LinkBeat := ⟨b, (s.owner t).getD 0, t, j.2⟩
    match hopOf t port c exp lane with
    | .lane k => s.intoLane (k / 2 ^ 17) (k % 2 ^ 17) lb
    | .link k => s.intoLink (k / 2 ^ 17 / 8) (k / 2 ^ 17 % 8) (k % 2 ^ 17) 0 lb
    | .cross k => s.intoCross k c lb
    | .edge => s

/-- One beat to the local port: taken by the LDIN of its cycle, else it has no disposition. -/
def State.toLocal (s : State) (t c : Nat) (b : Beat) : State :=
  if s.consumed t 0 c then s.updTile t (fun x => { x with arrived := x.arrived.put c b })
  else s.rtrFault t RTR_STATUS_UNCLAIMED 0x1042 c 0 0

/-! ### ROUTE_ENTRY (R145) -/

/-- A beat from an output buffer: an empty slot gives a poisoned zero beat and its record (R58). -/
def State.fromBuffer (s : State) (t c n j : Nat) : State × Beat :=
  match (s.tile t).outBuf.get? (n * 8 + j % 8) with
  | some b => (s.updTile t (fun x => { x with outBuf := x.outBuf.del (n * 8 + j % 8) }), b)
  | none => (s.tileFault t { code := 0x1019, unit := 0, cycle := c, detail := n * 4096 }, Beat.zero true)

def State.fromBuffers (s : State) (t c : Nat) (l : List (Nat × Nat)) : State × List Beat :=
  l.zipIdx.foldl (fun (a : State × List Beat) e =>
    let x := a.1.fromBuffer t (c + e.2) e.1.1 e.1.2
    (x.1, a.2 ++ [x.2])) (s, [])

/-- The beats of a run from its source. The Confluence unit's output is a stream: its beats are taken in order. Basin rows that meet another
access at the scheduled port (R116) give poisoned zero beats. -/
def State.routeSource (s : State) (t : Nat) (r : RouteE) (i : Issue) : State × List Beat :=
  if r.inp = 0 then
    if r.lsrc = 0 then s.fromBuffers t r.off ((maskArrays r.tumask).flatMap (fun n => (upTo r.nb).map (fun j => (n, j))))
    else if r.lsrc = 1 then
      let l := (s.tile t).confOut.take r.nb
      let s := s.updTile t (fun x => { x with confOut := x.confOut.drop r.nb })
      (if l.length < r.nb then (s.setReg RTR_STATUS_MISSING t 0 1).tileFault t { code := 0x1041, unit := 4, cycle := r.off } else s,
       l ++ List.replicate (r.nb - l.length) (Beat.zero true))
    else
      let rows := rowRun r.brow (ceilDiv r.nb 8)
      if s.portClash t r.off 4 i.word.toNat rows then (s.portRecord i r.brow, List.replicate r.nb (Beat.zero true))
      else
        let x := (s.portClaim t r.off 4 i.word.toNat rows).schedReads t r.off r.brow (ceilDiv r.nb 8)
        (x.1, x.2.take r.nb)
  else s.takeBeats t r.inp r.off r.nb

/-- The rows of a run written to the Basin, unless one meets another access at the scheduled port (R116). -/
def State.routeRows (s : State) (t : Nat) (r : RouteE) (i : Issue) (bs : List Beat) : State :=
  let rows := rowRun r.brow (ceilDiv bs.length 8)
  if s.portClash t r.off 4 i.word.toNat rows then s.portRecord i r.brow
  else (s.portClaim t r.off 4 i.word.toNat rows).schedWrites t r.off r.brow bs (ceilDiv bs.length 8)

/-- The beats of a run to its outputs. -/
def State.routeSinks (s : State) (t : Nat) (r : RouteE) (i : Issue) (bs : List Beat) (fenced : Bool) : State :=
  let s :=
    if bitAt r.outmask 0 then
      if fenced then s.rtrFault t RTR_STATUS_FENCED_ROUTE 0x4003 r.off 0 0
      else if r.lsnk = 1 then s.routeRows t r i bs
      else bs.zipIdx.foldl (fun s b => s.toLocal t (r.off + b.2) b.1) s
    else s
  ((upTo 6).map (· + 1)).foldl (fun s p =>
    if bitAt r.outmask p then
      bs.zipIdx.foldl (fun s b => s.launch t i.entry.val p (r.off + b.2) (r.exp && (outward t p).isSome) r.lane b.1) s
    else s) s

/-- R145: the entries of the program in force are executed in ascending OFFSET order, each once in an attempt. -/
def State.routeDue (s : State) (t e : Nat) : Bool :=
  (s.routesInForce t).contains e && !(s.tile t).routed.mem e &&
    (s.tile t).routed.entries.all (fun d => decide ((s.route t d.1).off ≤ (s.route t e).off))

/-- The transit regulator of the tile's site has failed: every route through the site fails (R255). -/
def State.noTransit (s : State) (t : Nat) : Bool := s.power.transitFault.mem (siteOf t)

/-- ROUTE_ENTRY (R145): the router of a tile executes an entry of its route table; `parityOk`: its stored parity agrees. -/
def execRouteEntry (tile : Tile) (entry : Fin 2048) (parityOk : Bool) (s : State) : Host.Outcome State Fault Refusal :=
  let t := tile.val
  let e := entry.val
  if !s.routeDue t e || s.noTransit t then .next s
  else
    let r := s.route t e
    let i : Issue := ⟨tile, Fin.ofNat 65536 r.off, Fin.ofNat 4096 e, BitVec.ofNat 64 (Memory.readLE s.mem (routeAddr t e) 8)⟩
    let s := s.updTile t (fun x => { x with routed := x.routed.add e })
    let fenced := s.flag SEQ_STATUS_FENCED t 0
    if !parityOk || (s.tile t).rtrBad.mem e then
      let s := (s.updTile t (fun x => { x with rtrBad := x.rtrBad.add e })).rtrFault t RTR_STATUS_PARITY 0x3021 r.off 0 0
      .next (s.routeSinks t r i (List.replicate r.beats (Beat.zero true)) fenced)
    else if r.inp = 7 || (r.inp = 0 && r.lsrc = 3) then .next s
    else if r.inp = 0 && fenced then
      let s := s.rtrFault t RTR_STATUS_FENCED_ROUTE 0x4003 r.off 0 0
      .next (s.routeSinks t r i (List.replicate r.beats (Beat.zero true)) true)
    else
      let x := s.routeSource t r i
      .next (x.1.routeSinks t r i x.2 fenced)

/-! ### BEAT_ARRIVAL (R140, R141, R146) -/

/-- The record of a hop: port, lane and sending partition in DETAIL (Table 7-18). -/
def State.hopRecord (s : State) (t code c port lane part : Nat) (unit : Nat) : State :=
  s.tileRecord t { code := code, unit := unit, cycle := c, detail := port * 8192 + lane * 64 + part }

/-- A beat after its CRC check. -/
def State.crcCheck (s : State) (t c port : Nat) (b : LinkBeat) (crcOk : Bool) : State × Beat :=
  if crcOk && !b.crcBad then (s, b.beat)
  else
    let s := ((s.setReg RTR_STATUS_CRC t 0 1).addReg RTR_CRC_COUNT_COUNT t 0 1).hopRecord t 0x4001 c port 0 b.part 4
    (s, { b.beat with poison := true })

/-- BEAT_ARRIVAL (R146): the beat that reaches a port of a tile's router in a cycle. -/
def execBeatArrival (tile : Tile) (port : Fin 7) (cycle : Fin 131072) (crcOk : Bool) (s : State) :
    Host.Outcome State Fault Refusal :=
  let t := tile.val
  let c := cycle.val
  let k := (t * 8 + port.val) * 2 ^ 17 + c
  match s.links.get? k with
  | none => .next s
  | some b =>
    let s := { s with links := s.links.del k }
    if s.noTransit t then .next s else
    let x := s.crcCheck t c port.val b crcOk
    let s := x.1
    match s.owner t with
    | none => .next s
    | some p =>
      if b.part ≠ p then .next ((s.setReg RTR_STATUS_FOREIGN t 0 1).hopRecord t 0x4002 c port.val 0 b.part 4)
      else if s.forwarded t port.val c || s.consumed t port.val c then
        .next (s.updTile t (fun y => { y with arrived := y.arrived.put (port.val * 65536 + c) x.2 }))
      else .next (s.rtrFault t RTR_STATUS_UNCLAIMED 0x1042 c port.val 0)

/-! ### EXPRESS_STATION_PASS (R144) -/

/-- The `k`-th edge tile of a station, and its outward port: an east-west station serves columns 0 and 31, a
north-south station rows 0 and 31. -/
def edgeTile (site axis k : Nat) : Nat × Nat :=
  let i := k % 32
  if axis = 0 then (site * 1024 + i * 32 + (if k < 32 then 0 else 31), if k < 32 then 4 else 2)
  else (site * 1024 + (if k < 32 then 0 else 31) * 32 + i, if k < 32 then 1 else 3)

/-- A beat added to, passed on or dropped from a segment that its partition does not own, which is discarded: the step is no faulted
step for it (R148, Table 6-6). -/
def State.laneFault (s : State) (b : LinkBeat) (c lane : Nat) : State :=
  (s.setReg RTR_STATUS_LANE b.from_ 0 1).tileRecord b.from_
    { code := 0x4004, unit := 7, cycle := c, detail := lane * 64 + b.part }

/-- What a station does with a beat that came on a lane (`added` false) or that an edge tile adds. -/
def State.station (s : State) (site axis dir lane c : Nat) (added : Bool) (b : LinkBeat) : State :=
  let l := laneOf site axis dir lane
  let e := if added then 1 else s.express.get (l * 2 ^ 17 + c) 0
  if e = 0 then s
  else if (if e = 1 then s.laneOwner.get? l else s.inSegment l) ≠ some b.part then s.laneFault b c lane
  else if e = 1 then s.ontoSegment site axis dir lane c b
  else
    let d := edgeTile site axis (e - 2)
    s.intoLink d.1 d.2 (c + 3) lane b

/-- EXPRESS_STATION_PASS (R144): a station handles a beat that reaches it in a cycle: the one on the lane, as its table directs, else the
one that an edge tile adds to the lane. -/
def execExpressStationPass (site : Site) (axis dir : Fin 2) (lane : Fin 104) (cycle : Fin 131072) (crcOk : Bool) (s : State) :
    Host.Outcome State Fault Refusal :=
  let l := laneOf site.val axis.val dir.val lane.val
  let c := cycle.val
  let added := !s.lanes.has (l * 2 ^ 17 + c)
  let k := (if added then addOf l else l) * 2 ^ 17 + c
  match s.lanes.get? k with
  | none => .next s
  | some b =>
    let s := { s with lanes := s.lanes.del k }
    if s.power.transitFault.mem site.val then .next s else
    let bad := !crcOk || b.crcBad
    let s := if bad then s.hopRecord b.from_ 0x4001 c 0 lane.val b.part 7 else s
    let b := { b with beat := { b.beat with poison := b.beat.poison || bad }, crcBad := false }
    .next (s.station site.val axis.val dir.val lane.val c added b)

/-! ### CROSSING_RELEASE (R154, R155) -/

/-- The partition whose crossing slack a crossing keeps: the owner of the receiving tile, or of the lane segment that crosses. -/
def State.crossPart (s : State) (isLane : Bool) (place : Nat) : Option Nat :=
  if isLane then s.inSegment place else s.owner (place / 8)
/-- The tile in whose report a slip at a crossing counts: the receiving tile; for a lane a tile of its partition, in the receiving region
where it has one. -/
def State.slipTile (s : State) (p : Nat) (isLane : Bool) (place : Nat) : Option Nat :=
  if isLane then
    let ts := s.partTiles p
    (ts.find? (fun t => regionOf t == regionOfSite (place / 416))).or ts.head?
  else some (place / 8)
/-- R155: the record of a slip at a crossing into a region whose clock has lost `edges` edges, and its report in the handshake. -/
def State.slipAt (s : State) (p : Nat) (isLane : Bool) (place c edges : Nat) : State :=
  let region := if isLane then regionOfSite (place / 416) else regionOf (place / 8)
  let s := s.record { code := 0x4011, unit := if isLane then 7 else 4, cycle := c, part := some p,
                      tile := if isLane then none else some (place / 8), detail := region * 4096 + min edges 4095 }
  match s.slipTile p isLane place with
  | some t => s.updTile t (fun x => { x with report := { x.report with slip := true } })
  | none => s

/-- CROSSING_RELEASE (R154): the crossing buffer at a tile's port, or of a lane at a station (`lane` true, `place` the lane),
releases the beat launched in cycle `launch`; `reached`: it has reached the buffer by its release cycle; `edges`: the s of
the receiving region up to that cycle. -/
def execCrossingRelease (isLane : Bool) (place : Fin 524288) (launch : Fin 65536) (reached : Bool) (edges : Fin 65536)
    (s : State) : Host.Outcome State Fault Refusal :=
  let k := if isLane then 2 ^ 20 + place.val else place.val
  let l := s.cross.get k []
  let found := (l.find? (fun e => e.1 == launch.val)).map (·.2)
  let rest := l.filter (fun e => e.1 != launch.val)
  let owner := (s.crossPart isLane place.val).or (found.map (·.part))
  let s := { s with cross := if rest.isEmpty then s.cross.del k else s.cross.put k rest }
  match owner with
  | none => .next s
  | some p =>
    let c := launch.val + 8 + s.g CSD_PCFG_XSLACK p
    let x : State × LinkBeat := match if reached then found else none with
      | some b => (s, b)
      | none => (s.slipAt p isLane place.val c edges.val, ⟨Beat.zero false, p, place.val / 8, false⟩)
    if isLane then .next (x.1.intoLane place.val c x.2) else .next (x.1.intoLink (place.val / 8) (place.val % 8) c 0 x.2)

end Sys2Proof.Machine
end

