-- ==== Sys2Proof/Machine/Timeline.lean ====
section
/-! DEFINITION. The loader's view of a placed program, cycle by cycle: what each entry occupies and when it ends, the claim map of the Basin and the
link map of the fabric (02 Table 2-15; 03 R78; 04 R84, R89, R91, R107; 05 R116; 06 R146, R147, R150; 07 Table 7-13). -/

namespace Sys2Proof.Machine

/-! ### The entries of a program -/

/-- The schedule entries of a program of a tile, and its route entries, with their index in the program. -/
def State.progEntries (s : State) (t prog : Nat) : List (Nat × SchedE) :=
  (upTo (s.reg SEQ_PROG_COUNT t prog)).map (fun k => (k, s.sched t (s.reg SEQ_PROG_FIRST t prog + k)))
def State.progRoutes (s : State) (t prog : Nat) : List (Nat × RouteE) :=
  (upTo (s.reg RTR_TBL_COUNT t prog)).map (fun k => (k, s.route t (s.reg RTR_TBL_FIRST t prog + k)))
/-- The last cycle at which an entry may issue (R133). -/
def SchedE.last (x : SchedE) : Nat := x.off + (if x.mode = 1 then x.wait else 0)

/-- An entry of a program that the loader refuses: its code, its tile, its index, and whether it is a route entry. -/
structure Offence where
  code : Nat
  tile : Nat
  item : Nat
  route : Bool
  deriving DecidableEq, Repr

/-! ### What the entries hold (Table 2-15; R84, R89, R91, R107) -/

/-- What a command of a tile can occupy: an input register, the converters, a bank from which an MVM computes, which a WRB loads or an RDB
reads, the write and read path, the Clove window and the tail stages of an array; the matrix engine for products, and for ATTEND; vectors of MA
and MB; the vector engine and its registers; the Confluence unit. -/
inductive Res where
  | inReg (n k : Nat)
  | conv (n : Nat)
  | compute (n pl : Nat)
  | loading (n pl : Nat)
  | reading (n pl : Nat)
  | path (n : Nat)
  | clove (n : Nat)
  | stage (n st : Nat)
  | mx
  | fmx
  | ma (v : Nat)
  | mb (v : Nat)
  | vx
  | vreg (r : Nat)
  | conf
  deriving DecidableEq, Repr

/-- A resource over a span of cycles from the issue. -/
structure Use where
  res : Res
  from_ : Nat
  until_ : Nat
/-- What a command holds from its issue for `n` cycles; what it must find free at its issue. -/
def hold (r : Res) (n : Nat) : Use := ⟨r, 0, n⟩
def need (r : Res) : Use := ⟨r, 0, 1⟩
def stageUses (n : Nat) (l : List (Nat × Nat × Nat)) : List Use := l.map (fun e => ⟨.stage n e.1, e.2.1, e.2.2⟩)
/-- The cycle after the last output of a run of stages: each latency of the last stage, T10, is one cycle. -/
def stageEnd (l : List (Nat × Nat × Nat)) : Nat := l.foldl (fun m e => max m (e.2.2 + 1)) 0

/-- What a command holds, what it needs, and the cycles from its issue until it has finished. -/
structure Work where
  holds : List Use
  needs : List Use
  len : Nat

/-- The work of an array command (Table 2-15): that of each array that it selects. The overlap of a Clove window and an MVM is R168's. -/
def State.arrayWork (s : State) (t w : Nat) : Work :=
  let arrs := maskArrays (amaskOf w)
  let pl := bits w 50 50
  let each (f : Nat → List Use) : List Use := arrs.flatMap f
  let longest (f : Nat → Nat) : Nat := (arrs.map f).foldl max 0
  match opcOf w with
  | 1 => ⟨[], each (fun n => [need (.inReg n pl)]), bits w 43 40 + 1⟩
  | 2 =>
    let f := mvmF w
    let conv (n : Nat) : Nat := f.conv (s.reg (wfmtF f.pl) t n)
    let busy (n : Nat) : Nat := s.setupLat t + conv n
    let spans (n : Nat) := s.mvmSpans t 0 f n
    ⟨each (fun n => [hold (.inReg n f.insel) (busy n), hold (.conv n) (conv n), hold (.compute n f.pl) (busy n)] ++ stageUses n (spans n)),
     each (fun n => [need (.conv n), need (.loading n f.pl), need (.reading n f.pl)] ++ stageUses n (spans n)),
     longest (fun n => max (busy n + 5) (stageEnd (spans n)))⟩
  | 3 =>
    let spans (n : Nat) := s.redSpans t 0 w arrs n
    ⟨each (fun n => stageUses n (spans n)), each (fun n => stageUses n (spans n)), longest (fun n => stageEnd (spans n))⟩
  | 4 =>
    let l := 8 * (bits w 42 36 + 1) + 10
    ⟨each (fun n => [hold (.loading n pl) l, hold (.path n) l]), each (fun n => [need (.compute n pl), need (.reading n pl), need (.path n)]), l⟩
  | 5 =>
    let l := 8 * (bits w 42 36 + 1) + 6
    ⟨each (fun n => [hold (.reading n pl) l, hold (.path n) l]), each (fun n => [need (.compute n pl), need (.loading n pl), need (.path n)]), l⟩
  | 6 => ⟨each (fun n => [hold (.clove n) (bits w 50 35)]), each (fun n => [need (.clove n)]), bits w 50 35⟩
  | _ => ⟨[], [], 0⟩

/-- The work of a matrix engine command (R86, R88, R89). -/
def mxWork (w : Nat) : Work := match bits w 63 59 with
  | 1 =>
    let vec (v : Nat) : Use := need (if bits w 58 58 = 0 then .ma v else .mb v)
    ⟨[], need .fmx :: (rowRun (bits w 39 33) (mldVecs w)).map vec, bits w 45 40 + 1 + 5⟩
  | 2 =>
    let f := mmF w
    let l := mmCycles f.m f.n f.k (if f.q4 then 16 else 8) + 6
    ⟨hold .mx l :: ((rowRun f.a f.m).map (fun v => hold (.ma v) l) ++ (rowRun f.b f.bCount).map (fun v => hold (.mb v) l)),
     [need .mx, need .fmx], l⟩
  | 3 =>
    let nv := ceilDiv (bits w 31 21 + 1) 32
    ⟨hold .mx (nv + 4) :: (if bitAt w 58 then (rowRun (bits w 47 43) nv).map (fun r => hold (.vreg r) (nv + 4)) else []),
     [need .mx, need .fmx], nv + 4⟩
  | _ => ⟨[], [], 0⟩

/-- Sources, destinations and latency of a vector instruction (Table 4-8). -/
def vecRegs (w : Nat) : List Nat × List Nat × Nat := match bits w 63 58 with
  | 0x01 => ([], [vD w], 3)
  | 0x02 => ([vA w], [], 1)
  | 0x03 | 0x04 | 0x05 => ([vA w, vB w], [vD w], 3)
  | 0x06 => ([vA w, vB w, vC w], [vD w], 4)
  | 0x07 | 0x08 => ([vA w, vB w], [vD w], 2)
  | 0x09 | 0x0A => ([vA w], [vD w], 5)
  | 0x0B | 0x0C => ([vA w], [vD w], 6)
  | 0x0D => ([vA w], [vD w], 7)
  | 0x0E => ([vA w, vB w, vC w], [vD w], 2)
  | 0x0F => ([], [vD w], 1)
  | 0x10 => (cvtSrc w, cvtDst w, 3)
  | 0x11 => ((upTo 8).map (· + vD w), [], 12)
  | 0x12 => ([vA w, vB w, vC w], [vD w], 4)
  | _ => ([], [], 0)
/-- The work of a vector engine command, ATTEND and SAMPLE among them (R91, R93, R94, R110, R113). -/
def State.vxWork (s : State) (t w : Nat) : Work :=
  if bits w 63 58 = 0x20 then
    let n := (attDesc (s.descNow t w)).t
    ⟨[hold .vx n, hold .fmx n], [need .vx, need .mx], n⟩
  else if bits w 63 58 = 0x21 then
    let n := (smpDesc (s.descNow t w)).t
    ⟨[hold .vx n], [need .vx], n⟩
  else
    let r := vecRegs w
    ⟨r.2.1.map (fun v => hold (.vreg v) r.2.2), need .vx :: (r.1 ++ r.2.1).map (fun v => need (.vreg v)), r.2.2⟩
/-- The work of a CMRG (R107). -/
def cmrgWork (w : Nat) : Work :=
  let f := cmrgF w
  let l := f.ldelay + f.nb + (if f.root then 12 else 8)
  ⟨[hold .conf l], [need .conf], l⟩
def State.work (s : State) (t unit w : Nat) : Work := match unit with
  | 0 => s.arrayWork t w
  | 1 => mxWork w
  | 2 => s.vxWork t w
  | 3 => cmrgWork w
  | _ => ⟨[], [], 0⟩

/-- Two spans of two entries may meet, whenever the entries issue within their waits. -/
def Use.meets (a b : Use) (h e : SchedE) : Bool :=
  a.res == b.res && decide (h.off + a.from_ < e.last + b.until_) && decide (e.off + b.from_ < h.last + a.until_)
/-- Entry `h`, number `i`, may hold what entry `e`, number `j`, must find free when it issues. Of two in one cycle the one earlier in the schedule
issues first. -/
def State.blocks (s : State) (t i j : Nat) (h e : SchedE) : Bool :=
  i != j && (decide (i < j) || decide (h.off < e.last)) &&
    (s.work t h.unit h.cmd).holds.any (fun a => (s.work t e.unit e.cmd).needs.any (fun b => a.meets b h e))

/-! ### Streams within a tile (R94, R107) -/

/-- The cycles in which the stream of an ATTEND or a SAMPLE leaves, as if issued at the end of its wait: the first, and how many beats. -/
def State.streamOf (s : State) (t : Nat) (x : SchedE) : Nat × Nat :=
  if x.unit = 2 && bits x.cmd 63 58 = 0x20 then
    let a := attDesc (s.descNow t x.cmd)
    if a.osel then (0, 0) else (x.last + a.t - a.b, a.b)
  else if x.unit = 2 && bits x.cmd 63 58 = 0x21 then
    let a := smpDesc (s.descNow t x.cmd)
    if a.root || a.osel then (0, 0) else (x.last + Config.smpFirst a.t (9 * a.nqt), 9 * a.nqt)
  else (0, 0)
/-- A CMRG takes a local stream of which some beat does not leave the ATTEND or the SAMPLE in its cycle. -/
def State.streamMissed (s : State) (t : Nat) (es : List (Nat × SchedE)) (x : SchedE) : Bool :=
  let f := cmrgF x.cmd
  x.unit == 3 && f.loc == 1 && (upTo f.nb).any (fun k => !es.any (fun y =>
    let r := s.streamOf t y.2
    decide (r.1 ≤ x.last + k) && decide (x.last + k < r.1 + r.2)))

/-! ### Output blocks (R78) -/

/-- The blocks of a tail path over arrays with numbers of wide values. -/
def State.runCount (s : State) (t tcfg : Nat) (arrs : List TailArr) : Nat :=
  let outs := arrs.map (fun a => ((s.reg (ARR_TCFG_PRED tcfg) t a.arr, s.flag (ARR_TCFG_OFMT tcfg) t a.arr), s.tailCount t a.arr tcfg a.vals))
  ((((outs.map (·.1)).eraseDups).map (fun k => ceilDiv (((outs.filter (fun o => o.1 == k)).map (·.2)).foldl (· + ·) 0) 256)).foldl (· + ·) 0)
/-- The output blocks that a command of a tile produces. -/
def State.blockCount (s : State) (t unit w : Nat) : Nat :=
  let arrs := maskArrays (amaskOf w)
  match unit with
  | 0 =>
    if opcOf w == 2 && (mvmF w).out == 2 then
      s.runCount t (mvmF w).tcfg (arrs.map (fun n => ⟨n, (mvmF w).pl, wfmtCols (s.reg (wfmtF (mvmF w).pl) t n)⟩))
    else if opcOf w == 3 && bitAt w 37 then s.runCount t (bits w 36 33) (arrs.map (fun n => ⟨n, 0, redVals (bits w 43 38 + 1)⟩))
    else 0
  | 2 => if bits w 63 58 == 0x11 then 1 else 0
  | 3 => (s.cmrgExps t w).length
  | _ => 0
/-- The entry with which a program of a tile passes 1,024 output blocks. -/
def State.blockOver (s : State) (t : Nat) (es : List (Nat × SchedE)) : Option Nat :=
  (es.find? (fun x => decide (1024 < ((es.take (x.1 + 1)).map (fun y => s.blockCount t y.2.unit y.2.cmd)).foldl (· + ·) 0))).map (·.1)

/-- The first entry of a program of a tile that meets another's hold, takes a stream that does not come, or passes the block limit (0x900C). -/
def State.hazard (s : State) (t prog : Nat) : Option Offence :=
  let es := s.progEntries t prog
  (((es.find? (fun e => es.any (fun h => s.blocks t h.1 e.1 h.2 e.2) || s.streamMissed t es e.2)).map (·.1)).or (s.blockOver t es)).map (fun k =>
    ⟨0x900C, t, k, false⟩)

/-- R150: an entry that has not finished by cycle `e` where it issues as late as it may (0x900B). -/
def State.lateEntry (s : State) (t prog e : Nat) : Option Offence :=
  ((s.progEntries t prog).find? (fun x => decide (e < x.2.last + (s.work t x.2.unit x.2.cmd).len))).map (fun x => ⟨0x900B, t, x.1, false⟩)

/-! ### The claim map (R116) -/

/-- Rows of the scheduled accesses of a command, in order. -/
def State.accessRows (s : State) (t unit w : Nat) : List Nat := match unit with
  | 0 => match opcOf w with
    | 1 => if bitAt w 39 then rowRun (bits w 38 29) (ceilDiv (bits w 43 40 + 1) 8) else []
    | 2 => s.mvmRows t (mvmF w)
    | 3 => redRows w
    | 4 | 5 => bankRows w
    | _ => []
  | 1 => match bits w 63 59 with
    | 1 => mldRows w
    | 3 => moutRows w
    | _ => []
  | 2 => match bits w 63 58 with
    | 0x01 | 0x02 => [bits (vImm w) 11 2]
    | 0x11 => vqntRows w
    | 0x20 => s.attRows t w
    | 0x21 => s.smpRows t w
    | _ => []
  | 3 => s.cmrgRows t w
  | _ => []
/-- Cycles from the issue to the `k`-th access: VLD and VST make theirs at issue. -/
def State.accessAt (s : State) (t unit w k : Nat) : Nat :=
  if unit = 2 && (bits w 63 58 = 1 || bits w 63 58 = 2) then 0 else Config.portCycle unit w (s.padOf t LD_PPROF_PAD_SETUP) k
/-- Basin rows that a route entry reads, and writes. -/
def RouteE.reads (r : RouteE) : List Nat := if r.inp = 0 && r.lsrc = 2 then rowRun r.brow (ceilDiv r.nb 8) else []
def RouteE.writes (r : RouteE) : List Nat := if bitAt r.outmask 0 && r.lsnk = 1 then rowRun r.brow (ceilDiv r.beats 8) else []

/-- A scheduled access in the claim map: its entry, the first and the last cycle it may fall on, its row bank. -/
structure Claim where
  item : Nat
  route : Bool
  lo : Nat
  hi : Nat
  bank : Nat
/-- The claims of a program of a tile. -/
def State.claims (s : State) (t prog : Nat) : List Claim :=
  (s.progEntries t prog).flatMap (fun x => (s.accessRows t x.2.unit x.2.cmd).zipIdx.map (fun r =>
    let d := s.accessAt t x.2.unit x.2.cmd r.2
    ⟨x.1, false, x.2.off + d, x.2.last + d, r.1 / 128⟩)) ++
  (s.progRoutes t prog).flatMap (fun x =>
    let w := Memory.readLE s.mem (routeAddr t (s.reg RTR_TBL_FIRST t prog + x.1)) 8
    (x.2.reads ++ x.2.writes).zipIdx.map (fun r =>
      let d := s.accessAt t 4 w r.2
      ⟨x.1, true, x.2.off + d, x.2.off + d, r.1 / 128⟩))
/-- Two claims may fall in one cycle; those of one entry move together. -/
def Claim.meets (a b : Claim) : Bool :=
  if a.item = b.item && a.route = b.route then a.lo == b.lo else decide (a.lo ≤ b.hi) && decide (b.lo ≤ a.hi)
/-- The first claim of a program of a tile that meets an earlier one, or passes 480 claims of its row bank in 512 cycles (0x9008). -/
def State.claimBad (s : State) (t prog : Nat) : Option Offence :=
  let l := s.claims t prog
  (l.zipIdx.find? (fun c =>
    (l.take c.2).any (fun a => a.meets c.1) ||
    decide (480 < (l.filter (fun a => a.bank == c.1.bank && decide (a.hi ≤ c.1.hi) && decide (c.1.hi < a.hi + 512))).length))).map (fun c =>
      ⟨0x9008, t, c.1.item, c.1.route⟩)

/-! ### The link map (R145 to R147) -/

/-- A form of route entry that the loader refuses (R145), or a reserved source (Table 6-5). -/
def RouteE.formBad (r : RouteE) (t : Nat) : Bool :=
  (r.inp == 0 && bitAt r.outmask 0) || r.outmask == 0 || r.inp == 7 || (r.inp == 0 && r.lsrc == 3) ||
  (r.exp && (decide (103 < r.lane) || !(upTo 7).any (fun p => bitAt r.outmask p && (outward t p).isSome)))

/-- One beat that a route entry drives on a port. -/
structure Launch where
  tile : Nat
  item : Nat
  port : Nat
  cycle : Nat
  exp : Bool
  lane : Nat
/-- The launches of a route entry. -/
def RouteE.launches (r : RouteE) (t k : Nat) : List Launch :=
  ((upTo 6).map (· + 1)).flatMap (fun p => if bitAt r.outmask p then
    (upTo r.beats).map (fun b => ⟨t, k, p, r.off + b, r.exp && (outward t p).isSome, r.lane⟩) else [])

/-- Where a launch arrives: the segments that it enters, each with its cycle, and the tile, port and cycle of its arrival, if it arrives. -/
structure Flight where
  segs : List (Nat × Nat)
  at_ : Option (Nat × Nat × Nat)
/-- A beat on an express lane from a station, which it enters in a cycle; `fuel` bounds the stations. -/
def State.expressWalk (s : State) (slack axis dir lane : Nat) : Nat → Nat → Nat → Flight
  | 0, _, _ => ⟨[], none⟩
  | fuel + 1, site, c =>
    let seg := (laneOf site axis dir lane, c)
    match nextStation site axis dir with
    | none => ⟨[seg], none⟩
    | some n =>
      let c' := if regionOfSite n = regionOfSite site then c + 3 else c + 8 + slack
      let e := s.express.get (laneOf n axis dir lane * 2 ^ 17 + c') 0
      if e = 0 then ⟨[seg], none⟩
      else if e = 1 then
        let r := State.expressWalk s slack axis dir lane fuel n c'
        ⟨seg :: r.segs, r.at_⟩
      else
        let d := edgeTile n axis (e - 2)
        ⟨[seg], some (d.1, d.2, c' + 3)⟩
def State.flightOf (s : State) (slack : Nat) (x : Launch) : Flight :=
  match if x.exp then outward x.tile x.port else none with
  | some (axis, dir) => s.expressWalk slack axis dir x.lane 8 (siteOf x.tile) (x.cycle + 3)
  | none => match neighbour x.tile x.port with
    | none => ⟨[], none⟩
    | some r =>
      ⟨[], some (r, farPort x.port, x.cycle + (if regionOf r = regionOf x.tile then hopLatency x.tile r else 8 + slack))⟩

/-- The beats that an entry of the schedule waits for at ports: port and first cycle, and how many (RED, CMRG and LDIN with SRC 0). -/
def SchedE.awaits (x : SchedE) : List (Nat × Nat × Nat) :=
  let w := x.cmd
  let port (p c n : Nat) : List (Nat × Nat × Nat) := if p = 0 then [] else [(p, c, n)]
  if x.unit = 0 && opcOf w = 3 then
    let n := (bits w 43 38 + 1) * (maskArrays (amaskOf w)).length
    port (bits w 50 48) x.last n ++ port (bits w 47 45) x.last n
  else if x.unit = 0 && opcOf w = 1 && !bitAt w 39 then [(0, x.last, bits w 43 40 + 1)]
  else if x.unit = 3 then
    let f := cmrgF w
    port f.ina (x.last + f.ldelay) f.nb ++ port f.inb (x.last + f.ldelay) f.nb
  else []
/-- Beats that a route entry hands to the local port. -/
def RouteE.locals (r : RouteE) : List Nat := if bitAt r.outmask 0 && r.lsnk = 0 then rowRun r.off r.beats else []
/-- A route entry from the Confluence unit finds the beats of a CMRG that is no root: beat b is ready `ldelay` + 8 + b cycles after its issue. -/
def confSource (es : List (Nat × SchedE)) (r : RouteE) : Bool :=
  es.any (fun x => x.2.unit == 3 && !(cmrgF x.2.cmd).root && decide (r.nb ≤ (cmrgF x.2.cmd).nb) &&
    decide (x.2.last + (cmrgF x.2.cmd).ldelay + 8 ≤ r.off))

/-- What the link map of a program of a partition holds: for each tile its route and schedule entries, and every launch with its flight. -/
structure LinkMap where
  part : Nat
  tiles : List (Nat × List (Nat × RouteE) × List (Nat × SchedE))
  flights : List (Launch × Flight)
def State.linkMap (s : State) (p prog : Nat) : LinkMap :=
  let ts := (s.partTiles p).map (fun t => (t, s.progRoutes t prog, s.progEntries t prog))
  ⟨p, ts, (ts.flatMap (fun e => e.2.1.flatMap (fun r => r.2.launches e.1 r.1))).map (fun x => (x, s.flightOf (s.g CSD_PCFG_XSLACK p) x))⟩
/-- A beat reaches a port of a tile in a cycle; port 0 is the local port. -/
def LinkMap.comes (m : LinkMap) (rs : List (Nat × RouteE)) (t port c : Nat) : Bool :=
  if port = 0 then rs.any (fun r => r.2.locals.contains c) else m.flights.any (fun f => f.2.at_ == some (t, port, c))
/-- A beat that reaches a port of a tile in a cycle is forwarded or taken (R146). -/
def LinkMap.taken (m : LinkMap) (t port c : Nat) : Bool :=
  m.tiles.any (fun e => e.1 == t && (forwardsBeat (e.2.1.map (·.2)) port c || takesBeat (e.2.2.map (·.2)) port c))

/-- R147 of one tile: a refused form, two entries that drive one port in one cycle, a beat awaited that does not come, or one at the local port
that no LDIN takes. -/
def LinkMap.tileBad (m : LinkMap) (e : Nat × List (Nat × RouteE) × List (Nat × SchedE)) : Option Offence :=
  let t := e.1
  let rs := e.2.1
  let es := e.2.2
  let drives (a b : RouteE) : Bool :=
    (upTo 7).any (fun p => decide (1 ≤ p) && bitAt a.outmask p && bitAt b.outmask p) && decide (a.off < b.off + b.beats) && decide (b.off < a.off + a.beats)
  ((rs.find? (fun r =>
    r.2.formBad t || rs.any (fun q => decide (q.1 < r.1) && drives q.2 r.2) ||
    (decide (1 ≤ r.2.inp) && (rowRun r.2.off r.2.nb).any (fun c => !m.comes rs t r.2.inp c)) ||
    (r.2.inp == 0 && r.2.lsrc == 1 && !confSource es r.2) ||
    r.2.locals.any (fun c => !m.taken t 0 c))).map (fun r => ⟨0x9009, t, r.1, true⟩)).or
  ((es.find? (fun x => x.2.awaits.any (fun a => (rowRun a.2.1 a.2.2).any (fun c => !m.comes rs t a.1 c)))).map (fun x => ⟨0x9009, t, x.1, false⟩))
/-- R147 of one launch: it leaves the partition, enters a segment that the partition does not own, is not taken, or meets another on a segment or at
a port. -/
def State.flightBad (s : State) (m : LinkMap) (k : Nat) (f : Launch × Flight) : Bool :=
  f.2.segs.any (fun g => s.laneOwner.get? g.1 != some m.part) ||
  (match f.2.at_ with
    | none => true
    | some a => s.owner a.1 != some m.part || !m.taken a.1 a.2.1 a.2.2) ||
  (m.flights.take k).any (fun h => (h.2.at_.isSome && h.2.at_ == f.2.at_) || h.2.segs.any (fun g => f.2.segs.contains g))
def State.linkBad (s : State) (p prog : Nat) : Option Offence :=
  let m := s.linkMap p prog
  (m.tiles.findSome? m.tileBad).or
    ((m.flights.zipIdx.find? (fun f => s.flightBad m f.2 f.1)).map (fun f => ⟨0x9009, f.1.1.tile, f.1.1.item, true⟩))
/-- R150: a beat that does not arrive before cycle `e`, or a run that has not ended by then (0x900B). -/
def State.lateBeat (s : State) (p prog e : Nat) : Option Offence :=
  let m := s.linkMap p prog
  ((m.flights.find? (fun f => match f.2.at_ with
    | some a => decide (e ≤ a.2.2)
    | none => false)).map (fun f => ⟨0x900B, f.1.tile, f.1.item, true⟩)).or
  (m.tiles.findSome? (fun x => (x.2.1.find? (fun r => decide (e < r.2.off + r.2.beats))).map (fun r => ⟨0x900B, x.1, r.1, true⟩)))

/-! ### Rows that route entries name (R124, R130, R133) -/

/-- A route entry names a Basin row outside the program window, or a Sluice row, which only a sluice slot may use (0x900C). -/
def State.routeRowBad (s : State) (t prog : Nat) : Option Offence :=
  ((s.progRoutes t prog).find? (fun r => (r.2.reads ++ r.2.writes).any (fun x => !s.inProgram t x || s.inWin t x || s.outWin t x))).map (fun r =>
    ⟨0x900C, t, r.1, true⟩)

/-- What the loader finds in the cycles of a program of a partition whose program end is `e`, in the order of Table 7-20. -/
def State.timelineBad (s : State) (p prog e : Nat) : Option Offence :=
  let ts := s.partTiles p
  (ts.findSome? (fun t => s.claimBad t prog)).or <|
  (s.linkBad p prog).or <|
  ((ts.findSome? (fun t => s.lateEntry t prog e)).or (s.lateBeat p prog e)).or <|
  ts.findSome? (fun t => (s.hazard t prog).or (s.routeRowBad t prog))

/-! ### Express paths under a translation (R175) -/

/-- Sites advanced and region edges crossed between two sites on an axis. -/
def pathCost (axis a b : Nat) : Nat × Nat :=
  let i (x : Nat) : Nat := if axis = 0 then x % 8 else x / 8
  let site (k : Nat) : Nat := if axis = 0 then a / 8 * 8 + k else k * 8 + a % 8
  let lo := min (i a) (i b)
  let hi := max (i a) (i b)
  (hi - lo, ((upTo (hi - lo)).filter (fun k => regionOfSite (site (lo + k)) != regionOfSite (site (lo + k + 1)))).length)
/-- The axis of an express launch. -/
def Launch.axis (x : Launch) : Nat := ((outward x.tile x.port).map (·.1)).getD 0
/-- An express path of a program whose cost is not that between the home places of its ends. -/
def State.pathBad (s : State) (p prog : Nat) (home : Nat → Option Nat) : Bool :=
  (s.linkMap p prog).flights.any (fun f => f.1.exp && (match f.2.at_ with
    | some a => (match home f.1.tile, home a.1 with
      | some x, some y => pathCost f.1.axis (siteOf x) (siteOf y) != pathCost f.1.axis (siteOf f.1.tile) (siteOf a.1)
      | _, _ => true)
    | none => false))

end Sys2Proof.Machine
end

