-- ==== Sys2Proof/Machine/Install.lean ====
section
/-! DEFINITION. The loader's writes into the tiles of a partition, and the checks it makes of a program it has placed
(05 R124 to R133; 06 R147 to R150; 07 R168, R172 to R181, R187; 08 R206, R211; 09 R228, R229). -/

namespace Sys2Proof.Machine

/-! ### Contents of tiles lost or cleared (R37, R38, R126) -/

/-- The tile of a Basin or bank address. -/
def memTile (a : Nat) : Option Nat :=
  if a < 2 ^ 40 then some (a / 524288) else if a < 2 ^ 41 then some ((a - 2 ^ 40) / 65536 / 18) else none
/-- A stored field is the state of a bank. -/
def isBstate (k : Nat) : Bool :=
  (upTo 8).any (fun n => let t := k / 32 / 4096 % 65536; k == (bstateF 0).key t n || k == (bstateF 1).key t n)

/-- The banks of the tiles that pass a test are EMPTY and hold zeros, FAILED ones too (Table 2-5: OFF). -/
def State.emptyBanks (s : State) (q : Nat → Bool) : State :=
  { s with
    mem := s.mem.keep (fun a _ => !(decide (2 ^ 40 ≤ a) && decide (a < 2 ^ 41) && q ((a - 2 ^ 40) / 65536 / 18)))
    regs := s.regs.keep (fun k _ => !(isBstate k && q (k / 32 / 4096 % 65536))) }
/-- The banks of the tiles that pass a test are zero-filled and EMPTY (R38); a FAILED bank stays so (Table 2-5). -/
def State.wipeBanks (s : State) (q : Nat → Bool) : State :=
  { s.emptyBanks q with regs := s.regs.keep (fun k v => !(isBstate k && q (k / 32 / 4096 % 65536)) || v == 4) }
/-- The Basin slices of the tiles that pass a test are zero-filled, with every tag EMPTY and no page in use (R126). -/
def State.wipeBasin (s : State) (q : Nat → Bool) : State :=
  { s with
    mem := s.mem.keep (fun a _ => !(decide (a < 2 ^ 40) && decide (a / 524288 < 57344) && q (a / 524288)))
    tiles := s.tiles.mapVal (fun t x => if q t then { x with poisonMark := Map.empty, flips := Map.empty, tags := Map.empty, restoreDst := Map.empty, dlvWait := Map.empty } else x)
    pages := s.pages.keep (fun n e => !(decide (n < 917504) && q (n / 16)) || e.pstate == 3) }
/-- A page RETIRED keeps its state; what the units of the tiles hold of an attempt goes too. -/
def State.wipeTiles (s : State) (q : Nat → Bool) : State :=
  let s := (s.wipeBanks q).wipeBasin q
  { s with tiles := s.tiles.mapVal (fun t x => if q t then
      { TileSt.clear with
        sparedRows := x.sparedRows, weakWait := x.weakWait, tracked := x.tracked, scrubRow := x.scrubRow }
    else x) }
/-- Membership of a tile in a list of quadrants. -/
def inQuads (qs : List Nat) (t : Nat) : Bool := qs.contains (quadOf t)

/-! ### A package being placed -/

/-- What the writes of one package into one partition share. -/
structure Plan where
  part : Nat
  /-- Address of byte 0 of the package copy, and its offset in the allotment. -/
  base : Nat
  area : Nat
  /-- Address of byte 0 of the package as its sections are read: the copy, or the patched image of it. -/
  img : Nat
  sects : List Sect
  hdr : ProgHdr
  /-- The home quadrants of the unpatched header. -/
  home_ : List Nat
  shift : Shift
  info : LoadInfo

def Plan.lane (g : Plan) (n : Nat) : Nat := ((g.info.lanes.find? (fun e => e.1.val == n)).map (fun e => e.2.val)).getD n
/-- Home quadrants of a header. -/
def ProgHdr.home (h : ProgHdr) : List Nat := quadsOf h.qmask
/-- The plan of a package that lies at an offset of a partition's allotment; none where no translation fits. -/
def State.planOf (s : State) (p area : Nat) (info : LoadInfo) : Option Plan :=
  let a := cisternBase p + area
  let l := s.sects a
  match sectOf l 1 with
  | none => none
  | some x =>
    let h := s.pkgHdr a x.off
    (shiftOf h.home (s.partQuads p)).map (fun sh => ⟨p, a, area, a, l, h, h.home, sh, info⟩)

/-- The places where a package is patched on its way to the tiles (R179); its copy stays as it is. -/
def scratchBase : Nat := 2 ^ 62
def scratchSize : Nat := 2 ^ 42
/-- The package as patched, on its way, and the plan that reads it there. -/
def State.scratch (s : State) (g : Plan) : State × Plan :=
  let s := s.setMem (Memory.copy s.mem g.base scratchBase (min scratchSize (s.pk g.base 0x18 8)))
  let s := match sectOf g.sects 0x10 with
    | none => s
    | some y => (s.patches g.base y).foldl (fun (s : State) r => match g.sects.find? (fun x => x.idx == r.sect) with
      | none => s
      | some x => s.patchAt g.part g.shift g.area g.lane (scratchBase + x.off) x.len r) s
  (s, { g with img := scratchBase, hdr := ((sectOf g.sects 1).map (fun x => s.pkgHdr scratchBase x.off)).getD g.hdr })
def State.endScratch (s : State) : State := s.setMem (s.mem.keep (fun a _ => a < scratchBase || scratchBase + scratchSize ≤ a))
/-- A patch record names the section. -/
def State.isPatched (s : State) (g : Plan) (k : Nat) : Bool := match sectOf g.sects 0x10 with
  | none => false
  | some y => (s.patches g.base y).any (fun r => r.sect == k)
/-- `n` bytes of a section from offset `o` to an address; zeros past the section's end. -/
def State.fromSect (s : State) (g : Plan) (x : Sect) (o dst n : Nat) : State :=
  s.setMem (Memory.copy (Memory.zero s.mem dst n) (g.img + x.off + o) dst (min n (x.len - o)))
/-- Number of `n` bytes at offset `o` of a section; zero past its end. -/
def State.sectNum (s : State) (g : Plan) (x : Sect) (o n : Nat) : Nat := Memory.readLE s.mem (g.img + x.off + o) (min n (x.len - o))

/-- The home tile of a tile of the partition. -/
def Plan.home (g : Plan) (t : Nat) : Option Nat := (⟨-g.shift.dx, -g.shift.dy⟩ : Shift).tile t
/-- Sections of a tile, by its present place. -/
def Plan.sect (g : Plan) (typ t : Nat) : Option Sect := (g.home t).bind (fun h => sectFor g.sects typ (tileAddr h))

/-- The fields of a register given its word. -/
def State.setFields (s : State) (fs : List Fld) (inst i w : Nat) : State := fs.foldl (fun s f => s.setReg f inst i (bits w f.hi f.lo)) s
def tcfgFields (k : Nat) : List Fld :=
  [ARR_TCFG_OFMT k, ARR_TCFG_GATED k, ARR_TCFG_ACT_TBL k, ARR_TCFG_ACT_EN k, ARR_TCFG_POOL_OP k, ARR_TCFG_POOL_SIZE k, ARR_TCFG_CSCALE_EN k,
   ARR_TCFG_BIAS_EN k, ARR_TCFG_PRED k]

/-- Scale and tail tables of a tile: array n's at 65,536n, and at 16,384n with its sixteen ARR_TCFG words from 0x3000. -/
def State.writeTables (s : State) (g : Plan) (t : Nat) : State :=
  let s := match g.sect 4 t with
    | none => s
    | some x => (upTo 8).foldl (fun s n => s.fromSect g x (0x10000 * n) (scaleBase t (s.arrPos t n)) 0x10000) s
  match g.sect 5 t with
  | none => s
  | some x =>
    (upTo 8).foldl (fun (s : State) n =>
      let s := s.fromSect g x (0x4000 * n) (tailBase t (s.arrPos t n)) 0x4000
      (upTo 16).foldl (fun s k => s.setFields (tcfgFields k) t n (s.sectNum g x (0x4000 * n + 0x3000 + 4 * k) 4)) s) s

/-- The three schedules and route tables of a tile, one after the other (R149, Table 7-4). -/
def State.writePrograms (s : State) (g : Plan) (t : Nat) : State :=
  let sched := (upTo 3).foldl (fun (a : State × Nat) k =>
    match g.sect (6 + k) t with
    | none => ((a.1.setReg SEQ_PROG_FIRST t k a.2).setReg SEQ_PROG_COUNT t k 0, a.2)
    | some x =>
      let n := x.len / 16
      (((a.1.fromSect g x 0 (schedAddr t a.2) (16 * n)).setReg SEQ_PROG_FIRST t k a.2).setReg SEQ_PROG_COUNT t k n, a.2 + n)) (s, 0)
  ((upTo 3).foldl (fun (a : State × Nat) k =>
    match g.sect (9 + k) t with
    | none => ((a.1.setReg RTR_TBL_FIRST t k a.2).setReg RTR_TBL_COUNT t k 0, a.2)
    | some x =>
      let n := x.len / 8
      (((a.1.fromSect g x 0 (routeAddr t a.2) (8 * n)).setReg RTR_TBL_FIRST t k a.2).setReg RTR_TBL_COUNT t k n, a.2 + n))
    (sched.1, 0)).1

/-- Basin image, delivery table and predictors; the Sluice windows; the parity marks of the entries go. -/
def State.writeRest (s : State) (g : Plan) (t : Nat) : State :=
  let s := match g.sect 0xC t with
    | none => s.setMem (Memory.zero s.mem (basinRow t 0) (32768 * g.hdr.progPages))
    | some x => s.fromSect g x 0 (basinRow t 0) (32768 * g.hdr.progPages)
  let s := match g.sect 0xE t with
    | none => s.setMem (Memory.zero s.mem (dlvAddr t 0) 65536)
    | some x => s.fromSect g x 0 (dlvAddr t 0) 65536
  let s := match g.sect 0xF t with
    | none => s
    | some x =>
      (upTo 16).foldl (fun s i => s.setFields [TILE_PRED_PEAK, TILE_PRED_HEADROOM, TILE_PRED_DECAY] t i (s.sectNum g x (4 * i) 4)) s
  let s := s.setReg BSN_PROG_PROG_PAGES t 0 g.hdr.progPages
  let w := g.info.windows.find? (fun w => w.tile.val == t)
  let v (f : TileWindows → Nat) : Nat := (w.map f).getD 0
  let s := [(BSN_SLUICE_IN_EN, v (fun w => b2n w.inEn)), (BSN_SLUICE_IN_FIRST, v (fun w => w.inFirst.val)), (BSN_SLUICE_IN_LAST, v (fun w => w.inLast.val)),
    (BSN_SLUICE_OUT_EN, v (fun w => b2n w.outEn)), (BSN_SLUICE_OUT_FIRST, v (fun w => w.outFirst.val)),
    (BSN_SLUICE_OUT_LAST, v (fun w => w.outLast.val))].foldl (fun (s : State) e => s.setReg e.1 t 0 e.2) s
  s.updTile t (fun x => { x with
    tags := Map.empty, seqBad := Map.empty, rtrBad := Map.empty, restoreDst := Map.empty
    poisonMark := x.poisonMark.keep (fun k _ => 4096 * g.hdr.progPages ≤ k), flips := x.flips.keep (fun k _ => 4096 * g.hdr.progPages ≤ k) })

/-- The entries of the placement manifest, by the present tile. An entry's TILE is a home address, which R175 moves. -/
def State.placesOf (s : State) (g : Plan) : List (Nat × Place) := match sectOf g.sects 2 with
  | none => []
  | some m => ((s.places g.base m).zip (s.places g.img m)).filterMap (fun e =>
      ((tileOfAddr e.1.tile).bind g.shift.tile).map (fun t => (t, { e.2 with tile := e.1.tile })))

/-- The state of a bank that the loader has written; a FAILED one stays so (Table 2-5). -/
def State.setLoaded (s : State) (t n pl st : Nat) : State :=
  if s.reg (bstateF pl) t n == bsFailed then s else s.setReg (bstateF pl) t n st
/-- One bank written from its image, or made a stream bank (R173, R206). An image that patches have changed no longer has the CRC of its entry: a
write fault that no rewrite mends (R47). -/
def State.writeBankImage (s : State) (g : Plan) (t : Nat) (e : Place) : State :=
  let n := e.array
  let pl := e.plane
  let s := ((s.setReg (wfmtF pl) t n e.wfmt).setCmode t n pl e.cmode).setReg (streamF pl) t n (b2n e.stream)
  let dst := bankRow t (s.arrPos t n) pl 0
  match imageOff g.sects e with
  | none => (s.setMem (Memory.zero s.mem dst 65536)).setLoaded t n pl bsEmpty
  | some o =>
    let bad := s.isPatched g e.image && crc32c (s.pkBytes g.img o 65536) != e.crc
    (s.setMem (Memory.copy s.mem (g.img + o) dst 65536)).setLoaded t n pl (if bad then bsFailed else bsReady)

/-- R310 at a rewrite: a bank of the manifest is uncalibrated, or its tile has left T_cal by more than FG. -/
def State.needsCal (s : State) (t : Nat) (e : Place) : Bool :=
  let pos := s.arrPos t e.array
  let now := s.thermal.diode.get t s.thermal.diode0
  let tc := s.cal.tcal.get (posKey t pos) s.cal.tcal0
  let d := if now ≤ tc then tc - now else now - tc
  !s.calibrated t pos e.plane || decide (s.g CAL_CFG_FG 0 < d)
/-- Foreground calibration of those banks of a list that need it as it begins. -/
def State.calibratePlaces (s : State) (l : List (Nat × Place)) : State :=
  (l.filter (fun e => s.needsCal e.1 e.2)).foldl (fun (s : State) e => s.foreground e.1 (s.arrPos e.1 e.2.array) e.2.plane) s
/-- Foreground calibration of the manifest's banks in the tiles that pass a test. -/
def State.calibrateTiles (s : State) (g : Plan) (sel : Nat → Bool) : State := s.calibratePlaces ((s.placesOf g).filter (fun e => sel e.1))

/-- R206: the tiles of the partition that pass a test are written from the package that the plan reads. -/
def State.writeTiles (s : State) (g : Plan) (sel : Nat → Bool) : State :=
  let ts := (s.partTiles g.part).filter sel
  let s := s.wipeBanks (fun t => s.owner t == some g.part && sel t)
  let s := ts.foldl (fun s t => (((s.writeTables g t).writePrograms g t).writeRest g t)) s
  ((s.placesOf g).filter (fun e => sel e.1)).foldl (fun s e => s.writeBankImage g e.1 e.2) s

/-! ### What the steward reads of a placed program (R228, R229) -/

/-- Descriptor rows that the schedules of a tile name, of an opcode of the vector engine, without repetition. -/
def State.descs (s : State) (t opc : Nat) : List (List Byte) :=
  let es := (upTo 3).flatMap (fun g => rowRun (s.reg SEQ_PROG_FIRST t g) (s.reg SEQ_PROG_COUNT t g))
  ((es.map (fun e => s.sched t e)).filter (fun x => x.unit == 2 && bits x.cmd 63 58 == opc)).map (fun x =>
    Memory.readBytes s.mem (basinRow t (bits x.cmd 57 48) + 32 * bits x.cmd 47 44) 32) |>.eraseDups
def State.attTile (s : State) (t : Nat) (a : AttDesc) : AttTile :=
  { tile := t, first := Memory.readLE s.mem (basinRow t a.plRow) 4, ppp := a.ppp, npages := a.npmax, plRow := a.plRow, last := a.last,
    dhead := a.dhead, heads := a.nkv }
def minOr (d : Nat) : List Nat → Nat
  | [] => d
  | x :: l => l.foldl min x
/-- The figures of a placed program: attention tiles, context capacity, chunk size. -/
def State.stewardFigures (s : State) (p : Nat) : List AttTile × Nat × Nat :=
  let atts := (s.partTiles p).flatMap (fun t => (s.descs t 0x20).map (fun b => (t, attDesc b)))
  let smps := (s.partTiles p).flatMap (fun t => (s.descs t 0x21).map smpDesc)
  let tiles := atts.map (fun e => s.attTile e.1 e.2)
  let cap := if tiles.isEmpty then 2 ^ 32 - 1 else minOr (2 ^ 32 - 1) ((tiles.filter (·.last)).map (fun a => a.first + a.npages * a.ppp))
  let dec := (atts.filter (fun e => e.2.prefill == 0)).map (fun e => e.2.nqt)
  (tiles, cap, if dec.isEmpty then minOr 1 (smps.map (·.nqt)) else minOr 1 dec)

/-! ### Checks of a placed program -/

/-- Ls of a program of a header. -/
def ProgHdr.steps (h : ProgHdr) (prog : Nat) : Nat := (if prog = 0 then h.lenBase else if prog = 1 then h.lenSplit else h.lenWide) + 1

/-- Basin rows that R124 holds to the window: those a command word names directly. -/
def State.namedRows (s : State) (t unit w : Nat) : List Nat :=
  if unit = 2 && bits w 63 58 = 0x20 then
    let a := attDesc (s.descNow t w)
    [bits w 57 48, a.slotRow, a.plRow] ++ a8Rows a.qrow (a.nqt * a.nkv * a.nqh) a.d ++
      (if a.rope then rowRun a.freqRow (if a.dhead = 2 then 2 else 1) else [])
  else if unit = 2 && bits w 63 58 = 0x21 then [bits w 57 48, (smpDesc (s.descNow t w)).slotRow]
  else s.cmdReads t unit w ++ s.cmdWrites t unit w

/-- Arrays of a command with no bank of the manifest in the plane. -/
def unnamed (named : List (Nat × Place)) (t pl : Nat) (arrs : List Nat) : Bool :=
  arrs.any (fun n => !named.any (fun e => e.1 == t && e.2.array == n && e.2.plane == pl))

/-- A field of an array or engine command outside its range, a reserved opcode, or a reserved bit (R40, R84): seen at load. -/
def formBad (unit w : Nat) : Bool := match unit with
  | 0 => amaskOf w == 0 || (match opcOf w with
    | 1 => bits w 28 0 != 0 || bits w 49 48 == 3
    | 2 => let f := mvmF w; bits w 14 0 != 0 || f.out == 3 || (decide (bits w 43 41 < 5) && (decide (1024 < f.first + f.g * f.size) || f.first % f.size != 0))
    | 3 => bits w 21 0 != 0 || bits w 50 48 == 7 || bits w 47 45 == 7
    | 4 => bits w 25 0 != 0 || decide (1024 < 8 * (bits w 49 43 + bits w 42 36 + 1))
    | 5 => bits w 25 0 != 0 || decide (1024 < 8 * (bits w 49 43 + bits w 42 36 + 1))
    | 6 => bits w 34 0 != 0 || bits w 50 35 == 0
    | _ => true)
  | 1 => (match bits w 63 59 with
    | 1 => mldBad w
    | 2 => bits w 16 0 != 0 || (mmF w).bad
    | 3 => bits w 20 0 != 0 || decide (2048 < bits w 42 32 + bits w 31 21 + 1) ||
      (bitAt w 58 && decide (32 < bits w 47 43 + ceilDiv (bits w 31 21 + 1) 32))
    | _ => true)
  | 2 => let opc := bits w 63 58
    if opc = 0x20 || opc = 0x21 then bits w 43 0 != 0
    else opc == 0 || decide (0x12 < opc) || vTy w == 3 || (opc == 0x11 && (vD w % 8 != 0 || vTy w != 0 || bits w 5 0 != 0)) ||
      (opc == 0x10 && (decide (7 ≤ vImm w % 16) || (cvtDst w).any (fun r => decide (32 ≤ r))))
  | 3 => let f := cmrgF w
    bits w 63 59 != 1 || bits w 3 0 != 0 || f.ina == 7 || f.inb == 7 || f.loc == 3 || (f.root && f.kind == 0 && f.ofmt == 3)
  | _ => false

/-- 0x900C of one entry (Table 7-13): rows, Sluice rows, banks, retention, descriptors, reserved opcodes. -/
def State.entryBad (s : State) (named : List (Nat × Place)) (t : Nat) (x : SchedE) : Bool :=
  let w := x.cmd
  let arrs := maskArrays (amaskOf w)
  let rd := s.cmdReads t x.unit w
  let wr := s.cmdWrites t x.unit w
  (s.namedRows t x.unit w).any (fun r => !s.inProgram t r) ||
  wr.any (fun r => s.inWin t r) || (x.mode == 0 && (rd.any (fun r => s.inWin t r) || wr.any (fun r => s.outWin t r))) || x.mode == 3 ||
  formBad x.unit w ||
  (match x.unit with
    | 0 => match opcOf w with
      | 2 => unnamed named t (bits w 50 50) arrs || (bits w 27 26 == 2 && !bitAt w 25)
      | 3 => bitAt w 37 && !bitAt w 32
      | 4 => arrs.any (fun n => !s.flag (streamF (bits w 50 50)) t n)
      | 5 => unnamed named t (bits w 50 50) arrs
      | _ => false
    | 2 => if bits w 63 58 = 0x20 then (attDesc (s.descNow t w)).bad else if bits w 63 58 = 0x21 then (smpDesc (s.descNow t w)).bad else false
    | _ => false)

/-- R41 at load: an accumulating MVM follows, on each of its arrays, a holding MVM of the same format. -/
def State.accumBad (s : State) (t : Nat) (before : List SchedE) (w : Nat) : Bool :=
  let f := mvmF w
  f.accum && f.arrs.any (fun n =>
    match (before.filter (fun y => y.unit == 0 && opcOf y.cmd == 2 && bitAt (amaskOf y.cmd) n)).getLast? with
    | none => true
    | some y => bits y.cmd 27 26 != 0 || s.reg (wfmtF (bits y.cmd 50 50)) t n != s.reg (wfmtF f.pl) t n)

/-- R149, R150: order, ties, and issue before the program end. -/
def orderBad (e : Nat) : List (Nat × SchedE) → Option Nat
  | [] => none
  | [(k, x)] => if x.off + (if x.mode = 1 then x.wait else 0) < e then none else some k
  | (k, x) :: (j, y) :: l =>
    if !decide (x.off + (if x.mode = 1 then x.wait else 0) < e) then some k
    else if decide (x.off < y.off) || (x.off == y.off && decide (x.unit < y.unit)) then orderBad e ((j, y) :: l)
    else some j

/-- The refusal of an entry of a program of a tile (R187). -/
def Plan.entryRefusal (g : Plan) (code t prog k : Nat) : LoadRefusal :=
  ⟨code, g.home t, prog, k, ((g.sect (6 + prog) t).map (fun x => x.idx % 65536)).getD 0⟩
/-- The refusal of what the loader finds in the cycles of a program. -/
def Plan.offence (g : Plan) (prog : Nat) (o : Offence) : LoadRefusal :=
  ⟨o.code, g.home o.tile, prog, o.item, ((g.sect ((if o.route then 9 else 6) + prog) o.tile).map (fun x => x.idx % 65536)).getD 0⟩
/-- The refusal of a section. -/
def Plan.sectRefusal (g : Plan) (code typ t : Nat) : LoadRefusal := badSect code (((g.sect typ t).map (·.idx)).getD 0)

/-- 0x900B, 0x900A and 0x900C of one program of a tile. -/
def State.progCheck (s : State) (g : Plan) (named : List (Nat × Place)) (t prog : Nat) : Option LoadRefusal :=
  let es := s.progEntries t prog
  let ls := g.hdr.steps prog
  let e := ls - g.hdr.guard - 40
  if !es.isEmpty && decide (ls < g.hdr.guard + 104) then some (g.entryRefusal 0x900B t prog 0)
  else match orderBad e es with
    | some k => some (g.entryRefusal 0x900B t prog k)
    | none =>
      match es.find? (fun x => x.2.unit == 0 && opcOf x.2.cmd == 2 &&
          (maskArrays (amaskOf x.2.cmd)).any (fun n =>
            decide (nominalGroup (s.reg (cmodeF (bits x.2.cmd 50 50)) t n) < (mvmF x.2.cmd).size))) with
      | some x => some (g.entryRefusal 0x900A t prog x.1)
      | none =>
        (es.find? (fun x => s.entryBad named t x.2 ||
          (x.2.unit == 0 && opcOf x.2.cmd == 2 && s.accumBad t ((es.take x.1).map (·.2)) x.2.cmd))).map
          (fun x => g.entryRefusal 0x900C t prog x.1)

/-- The lengths of the CLV commands of a program that select an array (R168). -/
def State.clvLens (s : State) (t prog n : Nat) : List Nat :=
  ((s.progEntries t prog).filter (fun x => x.2.unit == 0 && opcOf x.2.cmd == 6 && bitAt (amaskOf x.2.cmd) n)).map (fun x => bits x.2.cmd 50 35)
/-- The cycles in which the commands of an opcode of a program may hold an array: from each offset, through the wait of a sluice
slot, for as long as `len` says. -/
def State.arrSpans (s : State) (t prog n opc : Nat) (len : Nat → Nat) : List (Nat × Nat) :=
  ((s.progEntries t prog).filter (fun x => x.2.unit == 0 && opcOf x.2.cmd == opc && bitAt (amaskOf x.2.cmd) n)).map (fun x =>
    (x.2.off, x.2.off + (if x.2.mode = 1 then x.2.wait else 0) + len x.2.cmd))
/-- R168: a Clove window of a program meets an MVM on an array that it selects, under a setup latency. -/
def State.clvMeets (s : State) (t prog n setup : Nat) : Bool :=
  let ms := s.arrSpans t prog n 2 (fun w => setup + (mvmF w).conv (s.reg (wfmtF (mvmF w).pl) t n))
  (s.arrSpans t prog n 6 (fun w => bits w 50 35)).any (fun c => ms.any (fun m => decide (c.1 < m.2) && decide (m.1 < c.2)))
/-- 0x900E of a program of a tile: a window that meets an MVM, an array of the manifest without a window, or a variant whose windows are not those
of the base program. -/
def State.cloveBad (s : State) (setup : Nat) (named : List (Nat × Place)) (t k : Nat) : Bool :=
  (upTo 8).any (fun n =>
    let b := s.clvLens t 0 n
    s.clvMeets t k n setup || (if k = 0 then named.any (fun e => e.1 == t && e.2.array == n) && b.isEmpty else s.clvLens t k n != b))
/-- The section that such a program stands in, else that of the base program, else the manifest. -/
def Plan.cloveRefusal (g : Plan) (t k : Nat) : LoadRefusal :=
  badSect 0x900E ((((g.sect (6 + k) t).or (g.sect 6 t)).or (sectOf g.sects 2)).map (·.idx) |>.getD 0)

/-- R131: the windows of a tile overlap, or leave the program window. -/
def State.windowsBad (s : State) (t : Nat) : Bool :=
  let i := (s.reg BSN_SLUICE_IN_FIRST t 0, s.reg BSN_SLUICE_IN_LAST t 0)
  let o := (s.reg BSN_SLUICE_OUT_FIRST t 0, s.reg BSN_SLUICE_OUT_LAST t 0)
  let ie := s.flag BSN_SLUICE_IN_EN t 0
  let oe := s.flag BSN_SLUICE_OUT_EN t 0
  (ie && (decide (i.2 < i.1) || !s.inProgram t i.2)) || (oe && (decide (o.2 < o.1) || !s.inProgram t o.2)) ||
  (ie && oe && decide (i.1 ≤ o.2) && decide (o.1 ≤ i.2))

/-- R175: a route entry of the program drives a link whose latency class the translation changes. -/
def State.hopBad (s : State) (g : Plan) (t : Nat) : Bool :=
  match g.home t with
  | none => true
  | some h =>
    ((upTo 3).flatMap (fun k => rowRun (s.reg RTR_TBL_FIRST t k) (s.reg RTR_TBL_COUNT t k))).any (fun e =>
      let r := s.route t e
      (upTo 7).any (fun port => decide (1 ≤ port) && bitAt r.outmask port &&
        (if r.exp && ((outward h port).isSome || (outward t port).isSome) then outward h port != outward t port
        else match neighbour h port, neighbour t port with
          | some a, some b => hopClass h a != hopClass t b
          | none, none => false
          | _, _ => true)))
/-- The tile is used by the program. -/
def Plan.uses (g : Plan) (t : Nat) : Bool := g.sects.any (fun x => x.perTile && tileType x.typ && (g.home t).any (fun h => tileAddr h == x.tile) && x.len != 0)

/-- R175: the translation is refused. -/
def State.relocationBad (s : State) (g : Plan) : Bool :=
  ((g.shift.dx % 2 != 0 || g.shift.dy % 2 != 0) &&
    (match sectOf g.sects 0x10 with
      | some x => (s.patches g.base x).any (fun r => r.typ == 2)
      | none => false)) ||
  (upTo 3).any (fun k => s.pathBad g.part k g.home) ||
  (s.partTiles g.part).any (fun t => (g.uses t && s.flag SEQ_STATUS_FENCED t 0) || s.hopBad g t)

/-! ### The stream plan (R210, R211) -/

/-- A stream plan entry (Table 8-13). -/
structure StreamE where
  phase : Nat
  tile : Nat
  brow : Nat
  nrows : Nat
  image : Nat
  rowoff : Nat
def streamE (x : Nat) : StreamE :=
  { phase := bits x 127 112, tile := bits x 111 92, brow := bits x 91 82, nrows := bits x 81 74 + 1, image := bits x 73 50, rowoff := bits x 49 43 }

/-- PERIOD, LEAD and the entries of the package's stream plan. -/
def State.streamPlan (s : State) (g : Plan) : Nat × Nat × List Nat := match sectOf g.sects 0x11 with
  | none => (1, 1, [])
  | some x =>
    let h := s.sectNum g x 0 16
    (max 1 (bits h 127 96), bits h 63 60, (upTo (min 1048576 (bits h 95 64))).map (fun k => s.sectNum g x (16 + 16 * k) 16))
/-- 0x902C. -/
def State.streamBad (s : State) (g : Plan) : Bool := match sectOf g.sects 0x11 with
  | none => false
  | some x =>
    let p := s.streamPlan g
    let es := p.2.2.map streamE
    let head := 16 + 16 * es.length
    let rows := (es.map (·.nrows)).foldl (· + ·) 0
    es.any (fun e =>
      decide (128 < e.nrows) || decide (128 < e.rowoff + e.nrows) || decide (x.len < head + 65536 * (e.image + 1)) ||
      (match tileOfAddr e.tile with
        | none => true
        | some t => !s.inWin t e.brow || !s.inWin t (e.brow + e.nrows - 1))) ||
    -- Σ 512 rows / (PERIOD · (LEN_BASE + 1) · 5/3 ns) above STREAM_GBS bytes per ns
    decide ((s.part g.part).streamGbs * p.1 * (g.hdr.lenBase + 1) * 5 < rows * 512 * 3)

/-! ### All checks, in the order of the codes -/

/-- Checks of the copy before anything is written. -/
def State.copyCheck (s : State) (p area : Nat) : Option LoadRefusal :=
  let a := cisternBase p + area
  let l := s.sects a
  match s.headerCheck a, s.profileCheck a, s.sectCheck a, sectOf l 1 with
  | some r, _, _, _ => some r
  | _, some r, _, _ => some r
  | _, _, some r, _ => some r
  | _, _, _, none => some (badSect 0x9003 0)
  | _, _, _, some x =>
    let h := s.pkgHdr a x.off
    if !h.ok then some ⟨0x9004, none, 3, 0, x.idx % 65536⟩
    else (s.manifestCheck a l h.home).or (s.estCheck a l h)

/-! ### Tables (R60, R62) -/

/-- A NaN, an infinity or a subnormal of FP32. -/
def fUnfit (x : Nat) : Bool := bits x 30 23 == 255 || (bits x 30 23 == 0 && bits x 22 0 != 0)
/-- A scale table with an SC12 whose E is 255. -/
def State.scaleBad (s : State) (g : Plan) (x : Sect) : Bool :=
  (upTo 16).any (fun b => (upTo 1024).any (fun k => bits (s.sectNum g x (0x8000 * b + 2 * k) 2) 11 4 == 255))
/-- An activation table, a bias table or a column-scale table with a value that R62 refuses. -/
def State.tailBad (s : State) (g : Plan) (x : Sect) : Bool :=
  (upTo 8).any (fun n =>
    let w (o : Nat) : Nat := s.sectNum g x (0x4000 * n + o) 4
    (upTo 4).any (fun k => fUnfit (w (0x400 * k)) || fUnfit (w (0x400 * k + 4)) ||
      (upTo 64).any (fun i => let v := w (0x400 * k + 0x10 + 4 * i); fUnfit (bfToF (v % 65536)) || fUnfit (bfToF (v / 65536)))) ||
    (upTo 512).any (fun i => fUnfit (w (0x1000 + 4 * i)) || fUnfit (w (0x2000 + 4 * i))))
/-- The first section whose tables are refused. The spec names no code: 0x9003, a section's (DESIGN CHOICE, log entry 92). -/
def State.tablesBad (s : State) (g : Plan) : Option LoadRefusal :=
  (g.sects.find? (fun x => (x.typ == 4 && s.scaleBad g x) || (x.typ == 5 && s.tailBad g x))).map (fun x => badSect 0x9003 x.idx)

/-- R228, R229: SLOTS above 256 with attention, or no descriptor with LAST. -/
def State.attendBad (s : State) (p : Nat) (h : ProgHdr) : Bool :=
  let f := (s.stewardFigures p).1
  !f.isEmpty && (decide (256 < h.slots) || !f.any (·.last))

/-- The program with which the three of a tile pass a limit, and its section (R187). -/
def State.overflow (s : State) (g : Plan) (f : Fld) (typ lim code t : Nat) : Option LoadRefusal :=
  let upto (k : Nat) : Nat := ((upTo (k + 1)).map (fun j => s.reg f t j)).foldl (· + ·) 0
  ((upTo 3).find? (fun k => decide (lim < upto k))).map (fun k => g.sectRefusal code (typ + k) t)

/-- Checks of the program in its place. -/
def State.placeCheck (s : State) (g : Plan) : Option LoadRefusal :=
  let ts := s.partTiles g.part
  let named := s.placesOf g
  (ts.findSome? (fun t => s.overflow g SEQ_PROG_COUNT 6 4096 0x9006 t)).or <|
  (ts.findSome? (fun t => s.overflow g RTR_TBL_COUNT 9 2048 0x9007 t)).or <|
  (ts.findSome? (fun t => (upTo 3).findSome? (fun k => s.progCheck g named t k))).or <|
  ((ts.find? (fun t => s.windowsBad t)).map (fun t => g.entryRefusal 0x900C t 0 0)).or <|
  (if s.relocationBad g then some ⟨0x900D, none, 3, 0xFFFFF, 0⟩ else none).or <|
  ((upTo 3).findSome? (fun k => (s.timelineBad g.part k (g.hdr.steps k - g.hdr.guard - 40)).map (g.offence k))).or <|
  (ts.findSome? (fun t => ((upTo 3).find? (fun k => s.cloveBad (s.setupLat (ts.headD 0)) named t k)).map (fun k => g.cloveRefusal t k))).or <|
  if s.attendBad g.part g.hdr then some ⟨0x9004, none, 3, 0, ((sectOf g.sects 1).map (fun x => x.idx % 65536)).getD 0⟩
  else if s.streamBad g then some (badSect 0x902C (((sectOf g.sects 0x11).map (·.idx)).getD 0)) else none

/-! ### The record of a refusal (R187) -/

/-- A package refused: the code as the slot shows it, and its record. -/
def State.refusalRecord (s : State) (p : Nat) (r : LoadRefusal) : State :=
  s.record { code := r.code, unit := 11, part := some p, tile := r.tile, item := r.item, prog := some r.prog, detail := r.detail }

/-- The registers of the partition that the header fills (R172), predictive mode (R272), the profile and its pads (R180), and the figures kept of the program. -/
def State.writePart (s : State) (g : Plan) : State :=
  let p := g.part
  let prof := s.pkgProfile g.base
  let pad := decide (prof != s.g LD_PROFILES_NATIVE 0)
  let f := s.stewardFigures p
  let pl := s.streamPlan g
  let est := ((sectOf g.sects 0x12).map (fun x => s.pkgEst g.img x)).getD PowerEst.zero
  let s := [(CSD_PSTEP_LEN, g.hdr.lenBase), (CSD_PSTEP_GUARD, g.hdr.guard), (CSD_PCFG_XSLACK, g.hdr.xslack),
    (CSD_PCFG_SLIP_LIMIT, g.hdr.slipLimit), (LD_PPROF_PROFILE, prof), (LD_PPROF_PAD_T7, b2n pad), (LD_PPROF_PAD_SETUP, b2n pad), (PWR_PCFG_REACTIVE, 0)].foldl
      (fun (s : State) e => s.setG e.1 p e.2) s
  let s := { s with power := { s.power with est := s.power.est.put p est } }
  s.updPart p (fun x => { x with
    okStreak := 0, misStreak := 0, coolWin := 0
    hdr := g.hdr, attTiles := f.1, capacity := f.2.1, chunk := f.2.2, planPeriod := pl.1, planLead := pl.2.1, plan := pl.2.2
    slotTile := g.info.slotTile.val, slotRow := g.info.slotRow.val, info := some g.info, lostQuads := Map.empty })

/-- A lane segment is free for a partition: no other owns it (R144). -/
def State.segmentFree (s : State) (p k : Nat) : Bool := match s.laneOwner.get? k with
  | none => true
  | some q => q == p
/-- The partition's entries of the stations' express tables, and its segments, go. -/
def State.dropExpress (s : State) (p : Nat) : State :=
  { s with
    express := s.express.keep (fun k _ => s.inSegment (k / 2 ^ 17) != some p)
    laneOwner := s.laneOwner.keep (fun _ q => q != p) }
/-- The express tables of the stations and the segments that the partition owns (R144): the loader allots no segment of another partition, and a
station's table takes the entries of the segments that reach it. -/
def State.writeExpress (s : State) (g : Plan) : State :=
  let s := s.dropExpress g.part
  let s := { s with laneOwner := (g.info.segments.filter (s.segmentFree g.part)).foldl (fun m k => m.put k g.part) s.laneOwner }
  { s with express := (g.info.express.filter (fun e => s.inSegment (e.1 / 2 ^ 17) == some g.part)).foldl (fun m e => m.put e.1 e.2) s.express }

/-- The refusal for a written section whose read-back CRC differs (R179, R206), `unread` its index. The spec names no code: 0x9003, a section's
(DESIGN CHOICE, log entry 92). -/
def unreadBad (l : List Sect) (unread : Option (Fin 1048576)) : Option LoadRefusal :=
  (unread.bind (fun k => l.find? (fun x => x.idx == k.val))).map (fun x => badSect 0x9003 x.idx)

/-- Every write of a package, unless a check refuses it. -/
def State.placePackage (s : State) (p : Nat) (k : PkgRef) (info : LoadInfo) (unread : Option (Fin 1048576)) : State ⊕ LoadRefusal :=
  if k.lost then .inr ⟨0x9028, none, 3, 0, 0⟩
  else match s.copyCheck p k.area with
  | some r => .inr r
  | none => match s.planOf p k.area info with
    | none => .inr ((s.patchCheck (cisternBase p + k.area) (s.sects (cisternBase p + k.area))).getD ⟨0x900D, none, 3, 0xFFFFF, 0⟩)
    | some g0 => match s.patchBad g0.base p g0.shift g0.area g0.lane g0.sects with
      | some r => .inr r
      | none =>
        let j := s.scratch g0
        let g := j.2
        match j.1.tablesBad g with
        | some r => .inr r
        | none =>
          let w := ((j.1.writeTiles g (fun _ => true)).writePart g).writeExpress g
          match if g.hdr.ok then (w.placeCheck g).or (unreadBad g.sects unread) else some ⟨0x9004, none, 3, 0, ((sectOf g.sects 1).map (fun x => x.idx % 65536)).getD 0⟩ with
          | some r => .inr r
          | none => .inl ((((w.calibrateTiles g (fun _ => true)).endScratch).setG LD_PAREA_BASE (2 * p) (k.area % 2 ^ 32)).setG
              LD_PAREA_BASE (2 * p + 1) (k.area / 2 ^ 32))

/-- The tiles of a partition that pass a test, written again from the resident copy, patched again (R206, R261, R179); the loader writes nothing
from a copy that has lost part (R342). -/
def State.rewriteTiles (s : State) (p : Nat) (sel : Nat → Bool) : State :=
  match (s.part p).resident, (s.part p).info with
  | some k, some info => if k.lost then s else match s.planOf p k.area info with
    | none => s
    | some g =>
      let j := (s.coolQuads (s.partQuads p)).scratch g
      (((j.1.writeTiles j.2 sel).calibrateTiles j.2 sel).endScratch).updPart p (fun x =>
        { x with lostQuads := x.lostQuads.keep (fun q _ => !(tilesOfQuad q).all sel) })
  | _, _ => s

end Sys2Proof.Machine
end

