-- ==== Sys2Proof/Machine/Quads.lean ====
section
/-! DEFINITION. Power states of quadrants as the loader, the power and the thermal functions share them, and the start of a
partition (08 R196, R197; 10 R260, R261; 11 R292, R294; 12 R298). -/

namespace Sys2Proof.Machine

def qActive : Nat := 0
def qIdle : Nat := 1
def qRetain : Nat := 2
def qOff : Nat := 3

/-- A quadrant is in a state; as it enters or leaves RETAIN or OFF its diodes become stale or fresh (R280). -/
def State.setQ (s : State) (q st : Nat) : State :=
  let x := s.setG (PWR_QSTATE (q % 16)) (q / 16) st
  if decide (2 ≤ st) == decide (2 ≤ s.qstate q) then x else x.refreshTemp (q / 4)
def State.qreq (s : State) (q : Nat) : Nat := s.g (PWR_QREQ (q % 16)) (q / 16)
/-- A quadrant that failed its wake twice (R341). -/
def State.impaired (s : State) (q : Nat) : Bool := bitAt (s.g RST_QIMP_IMPAIRED (q / 32)) (q % 32)
/-- What holds a quadrant OFF whatever is requested: its region off for heat, its site dark, a failed wake, the converters. -/
def State.heldOff (s : State) (q : Nat) : Bool :=
  bitAt (s.g THM_RGSTATE_OFF 0) (regionOfQuad q) || s.power.darkWhy.has (q / 4) || s.impaired q || (s.power.wakeFails.has q && !s.power.wakes.has q) ||
  !s.power.convOn
/-- The state a quadrant is to take (R261). -/
def State.quadWant (s : State) (q : Nat) : Nat :=
  if s.heldOff q then qOff
  else match s.quadOwner q with
    | none => s.qreq q
    | some p => if s.runs p then qActive else if s.pstate p = psWriting || (s.part p).starting.isSome then qIdle else s.qreq q

/-- A quadrant enters OFF: banks EMPTY, the slices and the trims lost (R37, R138, R298); its cache pages count as lost. -/
def State.loseQuad (s : State) (q : Nat) : State :=
  let inQ (t : Nat) : Bool := quadOf t == q
  let s := s.emptyBanks inQ
  let bankOut (k : Nat) : Bool := !inQ (k / 18)
  let posOut (k : Nat) : Bool := !inQ (k / 9)
  let c := s.cal
  let s := { s with
    mem := s.mem.keep (fun a _ => !(decide (a < 2 ^ 40) && decide (a / 524288 < 57344) && inQ (a / 524288)))
    pages := s.pages.mapVal (fun n e => if decide (n < 917504) && inQ (n / 16) && e.pstate == 2 then { e with pstate := 4 } else e)
    tiles := s.tiles.mapVal (fun t x => if inQ t then
        { TileSt.clear with sparedRows := x.sparedRows, weakWait := x.weakWait, tracked := x.tracked }
      else x)
    cal := { c with
      off := c.off.add q
      banks := c.banks.keep (fun k _ => bankOut k), sigma := c.sigma.keep (fun k _ => bankOut k), sigTent := c.sigTent.keep (fun k _ => bankOut k)
      trims := c.trims.keep (fun k _ => bankOut (k / 2048)), work := c.work.keep (fun k _ => bankOut (k / 2048))
      gath := dropBanks c.gath (fun k => !bankOut k), tent := dropBanks c.tent (fun k => !bankOut k)
      pass := c.pass.keep (fun k _ => posOut k), passNow := c.passNow.keep (fun k _ => posOut k)
      remap := c.remap.mapVal (fun k l => if posOut k then l else l.map (fun (r : Remap) => { r with row := 0, solved := false }))
      remapNow := c.remapNow.keep (fun k _ => posOut k)
      qual := c.qual.keep (fun k _ => !inQ k), spare := c.spare.keep (fun k _ => !inQ k), spareNow := c.spareNow.keep (fun k _ => !inQ k) } }
  match s.quadOwner q with
  | some p => if (s.part p).resident.isSome then s.updPart p (fun x => { x with lostQuads := x.lostQuads.add q }) else s
  | none => s
/-- A quadrant whose headers open at once: a fault, a dark site, the converters. -/
def State.dropQuad (s : State) (q : Nat) : State :=
  let s := { s with power := { s.power with moving := s.power.moving.del q, wakes := s.power.wakes.del q } }
  if s.qstate q = qOff then s else (s.loseQuad q).setQ q qOff

/-- The next transition of Table 10-6 toward the state a quadrant is to take; IDLE and ACTIVE change within 2 cycles. -/
def State.adjustQuad (s : State) (q : Nat) : State :=
  let want := s.quadWant q
  let s := if want = qOff then { s with power := { s.power with wakes := s.power.wakes.del q } } else s
  if s.power.moving.has q || s.power.wakes.has q then s
  else
    let cur := s.qstate q
    let move (s : State) (st : Nat) : State := { s with power := { s.power with moving := s.power.moving.put q st } }
    if cur = want then s
    else if cur = qOff then { s with power := { s.power with wakes := s.power.wakes.put q ⟨0, false, s.ptp⟩ } }
    else if cur = qRetain then move s qIdle
    else if want = qActive then s.setQ q qActive
    else
      let s := s.setQ q qIdle
      if want = qIdle then s else move s want
def State.adjustQuads (s : State) (qs : List Nat) : State := qs.foldl (fun s q => s.adjustQuad q) s
def State.adjustPart (s : State) (p : Nat) : State := s.adjustQuads (s.partQuads p)
/-- Every quadrant of a partition is powered and clocked. -/
def State.quadsUp (s : State) (p : Nat) : Bool := (s.partQuads p).all (fun q => decide (s.qstate q ≤ qIdle))

/-- A region returns from off for heat (R294). -/
def State.regionBack (s : State) (r : Nat) : State :=
  let s := s.setG THM_RGREQ_REQ 0 (setBit (s.g THM_RGREQ_REQ 0) r false)
  if bitAt (s.g THM_RGSTATE_OFF 0) r then
    let s := (s.setG THM_RGSTATE_OFF 0 (setBit (s.g THM_RGSTATE_OFF 0) r false)).record { code := 0x6014, unit := 12, detail := 63 * 1024 + 63 * 16 + r }
    s.adjustQuads ((upTo 224).filter (fun q => regionOfQuad q == r))
  else s
/-- A START or an INSTALL brings back the regions that its partition touches. -/
def State.regionsBack (s : State) (p : Nat) : State := (s.partRegions p).foldl (fun s r => s.regionBack r) s

/-! ### Starting (R197) -/

/-- A tile that the resident program uses is fenced, or a quadrant of the partition is impaired (R341). -/
def State.startFenced (s : State) (p : Nat) : Bool :=
  (s.partQuads p).any (fun q => s.impaired q) ||
  (match (s.part p).resident, (s.part p).info with
    | some k, some info => match s.planOf p k.area info with
      | some g => (s.partTiles p).any (fun t => s.flag SEQ_STATUS_FENCED t 0 && g.uses t)
      | none => false
    | _, _ => false)

/-- Stepping begins: RUN is set, the commit index is 0, and requests that lost their bindings are replayed (R168, R197, R247). -/
def State.beginStepping (s : State) (p : Nat) : State :=
  let s := ((s.setStopr p 0).setPstate p psRunning).setG CSD_PCFG_RUN p 1
  let s := s.updPart p (fun x => { x with
    starting := none, phase := .ready, commitIdx := 0, attempt := 0, tries := 0, faultStreak := 0, slipStreak := 0, nextProg := 0,
    goStart := true, timedOut := false, noRetry := false, degraded := false, regRep := Map.empty, innerHold := false })
  let s := { s with link := { s.link with chainIdx := s.link.chainIdx.del p, markSeen := s.link.markSeen.del p, markWait := s.link.markWait.del p } }
  let s := s.adjustPart p
  let s := if (s.part p).replayAll then s.replayAllReqs p else s
  s.sendGo p 5

/-- The tiles that lost their contents are rewritten, and uncalibrated banks calibrated (R261, R310). -/
def State.restoreTiles (s : State) (p : Nat) : State :=
  let lost := (s.part p).lostQuads
  let s := if lost.entries.isEmpty then s else s.rewriteTiles p (fun t => lost.mem (quadOf t))
  match (s.part p).resident, (s.part p).info with
  | some k, some info => match s.planOf p k.area info with
    | some g => s.calibrateTiles g (fun _ => true)
    | none => s
  | _, _ => s

/-- A START whose quadrants are all up: the partition steps and the command ends. -/
def State.finishStart (s : State) (p : Nat) : State := match (s.part p).starting with
  | none => s
  | some n =>
    if s.startFenced p then (s.updPart p (fun x => { x with starting := none })).cmdEnd n (some p) 0x900D
    else if !(s.part p).lostQuads.entries.isEmpty && ((s.part p).resident.map (·.lost)).getD false then
      (s.updPart p (fun x => { x with starting := none })).cmdEnd n (some p) 0x9028
    else if s.quadsUp p then ((s.restoreTiles p).beginStepping p).cmdEnd n (some p) 0
    else s

end Sys2Proof.Machine
end

