-- ==== Sys2Proof/Machine/Loader.lean ====
section
/-! DEFINITION. The loader's command slots, the fetch of packages, publisher keys, the server table and the stream engine
(08_weights_and_partitions.md R189 to R213; 00 R3). -/

namespace Sys2Proof.Machine

/-! ### Descriptors (Tables 8-1, 8-3) -/

/-- Word `k` of the descriptor in a slot. -/
def State.dword (s : State) (n k : Nat) : Nat := s.g (LD_CMD_DESC k) n
def State.cmdOpc (s : State) (n : Nat) : Nat := bits (s.dword n 0) 7 0
/-- The partition, or the key slot, that a descriptor names. -/
def State.cmdPart (s : State) (n : Nat) : Nat := bits (s.dword n 0) 13 8
def State.cmdFlags (s : State) (n : Nat) : Nat := bits (s.dword n 1) 15 0

def opCreate : Nat := 1
def opResize : Nat := 2
def opDestroy : Nat := 3
def opStage : Nat := 4
def opInstall : Nat := 5
def opStart : Nat := 6
def opStop : Nat := 7
def opDiscard : Nat := 8
def opEnroll : Nat := 0x10
def opRevoke : Nat := 0x11
def keyOp (o : Nat) : Bool := o == opEnroll || o == opRevoke

/-- The attributes of a CREATE or a RESIZE. -/
structure Attrs where
  qmask : Nat
  first : Nat
  count : Nat
  gb : Nat
  gbs : Nat
def State.attrs (s : State) (n : Nat) : Attrs :=
  { qmask := (upTo 7).foldl (fun m k => m + s.dword n (4 + k) * 2 ^ (32 * k)) 0, first := s.dword n 11, count := s.dword n 12,
    gb := s.dword n 13, gbs := s.dword n 14 }
/-- SRV0 to SRV3 of a STAGE. -/
def State.srvBytes (s : State) (n : Nat) : List Nat :=
  [bits (s.dword n 4) 23 16, bits (s.dword n 4) 31 24, bits (s.dword n 5) 7 0, bits (s.dword n 5) 15 8]
/-- The server list of a STAGE: the first NSRV of them. -/
def State.stageServers (s : State) (n : Nat) : List Nat := (s.srvBytes n).take (bits (s.dword n 4) 15 8)

def State.slotRunning (s : State) (n : Nat) : Bool := s.g LD_CMD_STS_STATE n == ldRunning
/-- Slots whose command runs on a partition. -/
def State.slotsOn (s : State) (p : Nat) : List Nat :=
  (upTo 4).filter (fun n => s.slotRunning n && !keyOp (s.cmdOpc n) && s.cmdPart n == p)
/-- The slot that runs a command of an opcode on a partition. -/
def State.slotOf (s : State) (p opc : Nat) : Option Nat := (s.slotsOn p).find? (fun n => s.cmdOpc n == opc)

/-! ### Acceptance (R190, R191) -/

/-- A reserved field is non-zero, or a payload field lies outside its range. -/
def State.descBad (s : State) (n : Nat) : Bool :=
  let w0 := s.dword n 0
  let o := s.cmdOpc n
  let a := s.attrs n
  let fl := s.cmdFlags n
  bits w0 23 16 != 1 || bits w0 15 14 != 0 || bits w0 31 24 != 0 || bits (s.dword n 1) 31 16 != 0 || s.dword n 3 != 0 ||
  decide (fl / 2 ^ (if o = opStage then 1 else if o = opInstall then 3 else 0) ≠ 0) ||
  (if o = opCreate || o = opResize then
      decide (2 ^ 20 ≤ a.first) || a.count == 0 || decide (65536 < a.count) || decide (2256 < a.gb) || decide (1800 < a.gbs)
    else if o = opStage then
      let src := bits (s.dword n 4) 7 0
      let k := bits (s.dword n 4) 15 8
      (src != 1 && src != 2) || (s.srvBytes n).any (fun e => decide (63 < e)) || (src == 2 && (k == 0 || decide (4 < k)))
    else if o = opInstall then decide (60000 < s.dword n 4)
    else if keyOp o then decide (31 < s.cmdPart n)
    else !(decide (3 ≤ o) && decide (o ≤ 8)))

/-- Table 8-2. -/
def stateOk (o st : Nat) (inplace : Bool) : Bool :=
  if keyOp o then true
  else if o = opCreate then st == psNone
  else if o = opResize then st == psEmpty || st == psReady
  else if o = opStage then st == psEmpty || st == psReady || (st == psRunning && !inplace)
  else if o = opInstall then st == psEmpty || st == psReady || st == psRunning
  else if o = opStart then st == psReady
  else if o = opStop then st == psRunning
  else st != psNone

def overlap (a n b m : Nat) : Bool := decide (a < b + m) && decide (b < a + n)
/-- Another CREATE or RESIZE in progress names an overlapping quadrant or request range. -/
def State.attrsBusy (s : State) (n : Nat) : Bool :=
  let a := s.attrs n
  (upTo 4).any (fun k => k != n && s.slotRunning k && (s.cmdOpc k == opCreate || s.cmdOpc k == opResize) &&
    (let b := s.attrs k
     Nat.land a.qmask b.qmask != 0 || overlap a.first a.count b.first b.count))

/-- R191: the GO is refused with 0x9029, as every loader command is in another bring-up state than READY (R318). -/
def State.goBad (s : State) (n : Nat) : Bool :=
  let o := s.cmdOpc n
  let p := s.cmdPart n
  s.boot != 4 || s.descBad n || !stateOk o (s.pstate p) (bitAt (s.cmdFlags n) 0) ||
  (!keyOp o && o != opDestroy && (s.slotsOn p).any (fun k => k != n && !(o == opDiscard && s.cmdOpc k == opStage))) ||
  ((o == opCreate || o == opResize) && s.attrsBusy n)

/-- A command begins to run in its slot. -/
def State.slotStart (s : State) (n total : Nat) : State :=
  (((s.setG LD_CMD_STS_STATE n ldRunning).setG LD_CMD_STS_CODE n 0).setG LD_CMD_PROG_DONE n 0).setG LD_CMD_PROG_TOTAL n total
/-- The end of a slot's command without a loader record, where another record names the failure. -/
def State.cmdClose (s : State) (n p code : Nat) : State :=
  let s := (s.setG LD_CMD_STS_STATE n (if code = 0 then ldDone else ldFailed)).setG LD_CMD_STS_CODE n code
  (if code ≠ 0 && s.partExists p then s.setLcode p code else s).raiseInt 0 0

/-! ### CREATE and RESIZE (R192, R193) -/

/-- Allottable Cistern capacity in GB: 47 GB less for each stack taken out of service (R27, R325). -/
def State.allottable (s : State) : Nat := 2256 - 47 * s.repair.takenStacks.entries.length
/-- The partitions that exist, but for one. -/
def State.otherParts (s : State) (p : Nat) : List (Nat × PartSt) := s.parts.entries.filter (fun e => e.1 != p && s.partExists e.1)
/-- The CREATE and RESIZE commands that run on other partitions: partition and attributes. -/
def State.changing (s : State) (p : Nat) : List (Nat × Attrs) :=
  ((upTo 4).filter (fun k => s.slotRunning k && (s.cmdOpc k == opCreate || s.cmdOpc k == opResize) && s.cmdPart k != p)).map (fun k =>
    (s.cmdPart k, s.attrs k))
/-- What the other partitions hold of a resource: a partition in a RESIZE the larger of its present and its new share, and one in a CREATE its
new share (R192, R193). -/
def State.sumOthers (s : State) (p : Nat) (cur : PartSt → Nat) (new : Attrs → Nat) : Nat :=
  let ch := s.changing p
  let there := (s.otherParts p).map (fun e => (ch.filter (fun c => c.1 == e.1)).foldl (fun m c => max m (new c.2)) (cur e.2))
  let coming := (ch.filter (fun c => !s.partExists c.1)).map (fun c => new c.2)
  (there ++ coming).foldl (· + ·) 0
/-- R192, for a partition whose present attributes do not count. -/
def State.attrsBad (s : State) (p : Nat) (a : Attrs) : Bool :=
  let others := s.otherParts p
  a.qmask == 0 || decide (2 ^ 224 ≤ a.qmask) || (quadsOf a.qmask).any (fun q => others.any (fun e => e.2.quads.mem q)) ||
  decide (65536 < a.first + a.count) || others.any (fun e => overlap a.first a.count e.2.reqFirst e.2.reqCount) ||
  decide (s.allottable < a.gb + s.sumOthers p (·.cistGb) (·.gb)) || decide (1800 < a.gbs + s.sumOthers p (·.streamGbs) (·.gbs))
/-- Total of the allotments with a new one for a partition. -/
def State.cistTotal (s : State) (p gb : Nat) : Nat := gb + s.sumOthers p (·.cistGb) (·.gb)

/-- A feature of the tier in force: 1 partitions beyond 16, 2 Chained mode, 3 pairing, 4 Cistern beyond 1,152 GB (R331). -/
def State.feature (s : State) (f : Nat) : Bool := bitAt (s.g LIC_STATUS_FEATURES 0) (f - 1)
/-- R3, R331: the record of a command that needs a feature not in force. -/
def State.licRecord (s : State) (f : Nat) (part : Option Nat) : State :=
  s.record { code := 0xC001, unit := 14, part := part, detail := f * 4096 + 31 * 128 }
/-- A GO refused for want of a feature. -/
def State.goLicence (s : State) (n p f : Nat) : State :=
  ((s.setG LD_CMD_STS_STATE n ldIdle).setG LD_CMD_STS_CODE n 0xC001).licRecord f (some p)
/-- The feature that a CREATE or RESIZE lacks; 0: none. -/
def State.lacks (s : State) (p : Nat) (a : Attrs) : Nat :=
  if 16 ≤ p && !s.feature 1 then 1 else if decide (1152 < s.cistTotal p a.gb) && !s.feature 4 then 4 else 0

def State.goCreate (s : State) (n p : Nat) : State :=
  let a := s.attrs n
  if s.attrsBad p a then s.goRefused n (some p) 0x902A
  else if s.lacks p a ≠ 0 then s.goLicence n p (s.lacks p a)
  else (s.slotStart n 0).coolQuads (quadsOf a.qmask)

/-- Bytes of the allotment in use. -/
def State.cistUsed (s : State) (p : Nat) : Nat := ((s.usedSpans p).map (·.2)).foldl (· + ·) 0
def State.goResize (s : State) (n p : Nat) : State :=
  let a := s.attrs n
  if s.attrsBad p a then s.goRefused n (some p) 0x902A
  else if s.lacks p a ≠ 0 then s.goLicence n p (s.lacks p a)
  else if a.gb * 10 ^ 9 < s.cistUsed p then s.goRefused n (some p) 0x9026
  else (s.slotStart n 0).coolQuads (s.partQuads p ++ quadsOf a.qmask)

/-- Regions that a set of quadrants touches, as CSD_PCFG.RMASK. -/
def rmaskOf (qs : List Nat) : Nat := (upTo 14).foldl (fun m r => if qs.any (fun q => regionOfQuad q == r) then setBit m r true else m) 0
/-- The attributes of a partition. -/
def State.setAttrs (s : State) (p : Nat) (a : Attrs) : State :=
  let qs := quadsOf a.qmask
  (s.updPart p (fun x => { x with
    quads := qs.foldl (fun m q => m.add q) Map.empty, reqFirst := a.first, reqCount := a.count, cistGb := a.gb, streamGbs := a.gbs })).setG
      CSD_PCFG_RMASK p (rmaskOf qs)
/-- A partition's allotment zero-filled. -/
def State.wipeCistern (s : State) (p : Nat) : State :=
  { s with mem := s.mem.keep (fun a _ => a < cisternBase p || cisternBase (p + 1) ≤ a) }

/-- CREATE (R189 to R192): software writes GO of a slot that holds a CREATE. -/
def State.createDone (s : State) (n p : Nat) : State :=
  let a := s.attrs n
  let s := ((s.setPart p PartSt.clear).setAttrs p a).wipeCistern p
  let s := s.wipeTiles (inQuads (quadsOf a.qmask))
  ((s.enter p psEmpty).setStopr p 0 |>.setLcode p 0 |>.setPend p 0).cmdEnd n (some p) 0

/-- Entries outside a new request range are given up. -/
def State.dropReqs (s : State) (p first count : Nat) : State :=
  let out := (s.partReqs p).filter (fun r => r < first || first + count ≤ r)
  { (out.foldl (fun s r => s.release p r) s) with reqs := s.reqs.keep (fun r _ => !out.contains r) }
/-- The resident package of a partition is unloaded; its copy stays as the pending package (R193). -/
def State.unloadKeep (s : State) (p : Nat) : State :=
  match (s.part p).resident with
  | none => s
  | some k => (s.updPart p (fun x => { x with resident := none, pendPkg := some k, info := none, lostQuads := Map.empty })).setPend p 2
def State.resizeDone (s : State) (n p : Nat) : State :=
  let a := s.attrs n
  let old := s.partQuads p
  let qs := quadsOf a.qmask
  let s := (s.dropReqs p a.first a.count).setAttrs p a
  let s := if old == qs then s else
    (((((s.wipeTiles (inQuads (old ++ qs))).clearBindings p).unloadKeep p).dropExpress p).enter p psEmpty)
  s.cmdEnd n (some p) 0

/-! ### DESTROY (R194) -/

/-- Every command of a partition but that of slot `n` fails. -/
def State.failOthers (s : State) (n p : Nat) : State :=
  ((s.slotsOn p).filter (fun k => k != n)).foldl (fun s k => s.cmdEnd k (some p) 0x9029) s
/-- Requests that are neither FREE nor terminal end FAILED. -/
def State.failRequests (s : State) (p reason : Nat) : State :=
  ((s.inOrder (s.partReqs p)).foldl (fun s r =>
    if (s.req r).twin then s.endTwin r else if (s.req r).live then s.endPlain p r rsFailed reason else s) s).journalAcc p
/-- R236: the queued records of a partition are discarded. -/
def State.discardQueue (s : State) (p : Nat) : State :=
  let n := (s.part p).queue.length
  if n = 0 then s
  else (s.updPart p (fun x => { x with queue := [], ringEpisode := false, queueEpisode := false })).record
    { code := 0x8013, unit := 10, part := some p, detail := min n 65535 }
def State.goDestroy (s : State) (n p : Nat) : State :=
  let s := (s.failOthers n p).slotStart n 0
  let s := s.updPart p (fun x => { x with stage := none, install := none, stopSlot := none, starting := none, filling := true })
  let s := if s.runs p then (s.abortPart p).haltPart p |>.chainStop p else s
  s.failRequests p 9
/-- The records of R194 step 2 are delivered before step 3; those that the ring has no room for are discarded (R236). -/
def State.destroyDone (s : State) (n p : Nat) : State :=
  let s := ((s.part p).journal.foldl (fun (s : State) _ => s.journalDone p) s).discardQueue p
  let qs := s.partQuads p
  let rs := s.partReqs p
  let s := (((s.wipeTiles (inQuads qs)).dropExpress p).wipeCistern p)
  let s := { s with
    parts := s.parts.del p, reqs := s.reqs.keep (fun r _ => !rs.contains r), pages := s.pages.keep (fun _ e => e.part != p || e.pstate == 3)
    power := { s.power with est := s.power.est.del p } }
  let s := ((s.setStopr p 0).setPend p 0).setPstate p psNone
  let s := [CSD_PCFG_RUN, CSD_PCFG_HOLD, CSD_PCFG_RMASK, LD_PPROF_PROFILE, LD_PPROF_PAD_T7, LD_PPROF_PAD_SETUP].foldl
    (fun (s : State) f => s.setG f p 0) s
  (s.cmdEnd n (some p) 0)

/-! ### STAGE (R201 to R205) -/

def State.pubKeyNamed (s : State) (id : Nat) : Option (Nat × Nat) :=
  (s.repair.pubKeys.entries.find? (fun e => keyIdOf e.2.1 e.2.2 == id)).map (·.2)

/-- The server of try `t` of shard `k` (R204). -/
def State.serverOf (s : State) (g : StageRun) (k t : Nat) : Option Nat :=
  let n := g.servers.length
  ((upTo n).map (fun j => g.servers.getD ((k + t + j) % n) 0)).find? s.serverUp
/-- The pending package becomes FAILED, its area is released, and the STAGE ends (R205). DESIGN CHOICE (log entry 71): of the slot's status it is
LD_CMD_PROG.DONE that gives the index of a shard that failed its last try. -/
def State.stageFail (s : State) (p code item detail : Nat) : State :=
  match (s.part p).stage with
  | none => s
  | some g =>
    let s := (s.updPart p (fun x => { x with stage := none, pendPkg := none })).setPend p 3
    (if code = 0x9022 then s.setG LD_CMD_PROG_DONE g.slot item else s).cmdEndWith g.slot (some p) code item detail
/-- DETAIL of a shard's record (R213). -/
def State.shardDetail (s : State) (p : Nat) (g : StageRun) (k : Nat) : Nat :=
  if g.leadOk then shardSection (s.sects (cisternBase p + g.area)) g.leadSize g.shardLog2 k else 0xFFFF
/-- The fetch of a shard goes out, unless no server is usable. -/
def State.tryShard (s : State) (p k : Nat) : State := match (s.part p).stage with
  | none => s
  | some g =>
    if g.src = 1 then s.emit (.fetch p k 255)
    else match s.serverOf g k (g.tries.get k 0) with
      | some e => (s.updPart p (fun x => { x with stage := some { g with used := g.used.put k e } })).emit (.fetch p k e)
      | none => s.stageFail p 0x9022 k (s.shardDetail p g k)
/-- A try that failed (R204). -/
def State.failTry (s : State) (p k code : Nat) : State := match (s.part p).stage with
  | none => s
  | some g =>
    let t := g.tries.get k 0
    let s := s.ldRecord (some p) code k (s.shardDetail p g k)
    let s := match if g.src = 2 then g.used.get? k else none with
      | some e => s.addReg LD_SRVC_FAILS 0 e 1
      | none => s
    let s := s.updPart p (fun x => { x with stage := some { g with tries := g.tries.put k (t + 1) } })
    if 4 ≤ t + 1 then s.stageFail p 0x9022 k (s.shardDetail p g k) else s.tryShard p k

/-- The resident package is unloaded and its copy released (R196, R201). -/
def State.unloadDrop (s : State) (p : Nat) : State :=
  (((s.wipeBanks (fun t => s.owner t == some p)).dropExpress p).updPart p (fun x => { x with
    resident := none, info := none, lostQuads := Map.empty })).enter p psEmpty
/-- The area of a STAGE: beside the resident copy, or with INPLACE where that copy lay too. -/
def State.stageSpace (s : State) (p size : Nat) (inplace : Bool) : Option Nat :=
  (if inplace then s.updPart p (fun x => { x with resident := none }) else s).findSpace p size
/-- STAGE: the earlier pending package goes. A STAGE that lacks the space fails at once, and leaves the resident package as it is (R205). -/
def State.goStage (s : State) (n p : Nat) : State :=
  let inplace := bitAt (s.cmdFlags n) 0
  let size := s.dword n 6 + s.dword n 7 * 2 ^ 32
  let s := (s.slotStart n 0).updPart p (fun x => { x with pendPkg := none })
  match s.stageSpace p size inplace with
  | none => (s.setPend p 3).cmdEnd n (some p) 0x9026
  | some a =>
    let s := if inplace && (s.part p).resident.isSome then s.unloadDrop p else s
    let g : StageRun :=
      { slot := n, inplace := inplace, src := bits (s.dword n 4) 7 0, servers := s.stageServers n, size := size
        addr := s.dword n 8 + s.dword n 9 * 2 ^ 32, keyId := s.dword n 10 + s.dword n 11 * 2 ^ 32, area := a, leadOk := false
        leadSize := 0, shardLog2 := 24, shards := 0, signer := 0, tries := Map.empty, used := Map.empty, verified := Map.empty, next := 1
        crcs := Map.empty, lost := false }
    ((s.updPart p (fun x => { x with stage := some g })).setPend p 1).tryShard p 0

/-- The lead shard has been accepted (R200): the plan of the shards, and up to 32 of them fetched. -/
def State.leadAccepted (s : State) (p : Nat) (g : StageRun) (id : Nat) : State :=
  let a := cisternBase p + g.area
  match sectOf (s.sects a) 0x13 with
  | none => s
  | some m =>
    let q := s.shardPlan a m.off
    let s := s.updPart p (fun x => { x with stage := some { g with
      leadOk := true, leadSize := q.lead, shardLog2 := q.log2, shards := q.count, signer := id, verified := g.verified.add 0
      next := min 33 q.count } })
    let s := (s.setG LD_CMD_PROG_TOTAL g.slot q.count).setG LD_CMD_PROG_DONE g.slot 1
    ((upTo (min 33 q.count)).filter (fun k => k != 0)).foldl (fun s k => s.tryShard p k) s

/-- R201 steps 1 and 2: data land at byte `off` of the area, each CRC-32C stored beside its 4 KiB. -/
def State.landShard (s : State) (p : Nat) (g : StageRun) (off : Nat) (data : List Byte) : State × StageRun :=
  let a := cisternBase p + g.area
  let s := s.setMem (Memory.writeBytes s.mem (a + off) data)
  let g := { g with crcs := (unitCrcs s.mem a (off / 4096) data.length).foldl (fun m e => m.put e.1 e.2) g.crcs }
  (s.updPart p (fun x => { x with stage := some g }), g)
/-- R201 step 3: every CRC-32C agrees as the shard is read back. -/
def State.crcsAgree (s : State) (p : Nat) (g : StageRun) (off n : Nat) : Bool :=
  (unitCrcs s.mem (cisternBase p + g.area) (off / 4096) n).all (fun e => g.crcs.get? e.1 == some e.2)

/-- LEAD_SHARD_VERIFY (R199, R200): the lead shard has landed in the package area; it is checked, and its signature verified. -/
def execLeadShardVerify (part : Part) (data : List Byte) (s : State) : Host.Outcome State Fault Refusal :=
  let p := part.val
  match (s.part p).stage with
  | none => .next s
  | some g =>
    if g.leadOk then .next s
    else if g.size < data.length then .next (s.stageFail p 0x9025 0 0)
    else
      let a := cisternBase p + g.area
      let x := s.landShard p g 0 data
      let s := x.1
      let g := x.2
      if !s.leadConsistent a data.length g.size then .next (s.stageFail p 0x9025 0 0)
      else match sectOf (s.sects a) 0x14 with
        | none => .next (s.stageFail p 0x9025 0 0)
        | some x =>
          let id := s.pk a (x.off + 8) 8
          match s.pubKeyNamed id with
          | none => .next (s.stageFail p 0x9024 0 0)
          | some k =>
            if g.keyId ≠ 0 && g.keyId ≠ id then .next (s.stageFail p 0x9024 0 0)
            else if ecdsaValid k.1 k.2 (signedMessage data x.off) (beNum (s.pkBytes a (x.off + 0x10) 48)) (beNum (s.pkBytes a (x.off + 0x40) 48)) then
              .next (s.leadAccepted p g id)
            else .next (s.stageFail p 0x9023 0 0)

/-- A shard verified: the next is fetched, or the package is VERIFIED. -/
def State.shardGood (s : State) (p k : Nat) (g : StageRun) : State :=
  let v := g.verified.add k
  let s := s.addReg LD_CMD_PROG_DONE 0 g.slot 1
  if v.entries.length = g.shards then
    ((s.updPart p (fun x => { x with stage := none, pendPkg := some ⟨g.area, g.size, g.signer, g.lost⟩ })).setPend p 2).cmdEnd g.slot (some p) 0
  else
    let more := decide (g.next < g.shards)
    let s := s.updPart p (fun x => { x with stage := some { g with verified := v, next := if more then g.next + 1 else g.next } })
    if more then s.tryShard p g.next else s

/-- SHARD_VERIFY (R201, R204): a shard after the lead has landed; its hash is compared with the manifest's. -/
def execShardVerify (part : Part) (shard : Fin 65536) (data : List Byte) (s : State) : Host.Outcome State Fault Refusal :=
  let p := part.val
  let k := shard.val
  match (s.part p).stage with
  | none => .next s
  | some g =>
    if !g.leadOk || g.verified.mem k || decide (g.next ≤ k) then .next s
    else
      let a := cisternBase p + g.area
      let off := g.leadSize + (k - 1) * 2 ^ g.shardLog2
      let n := min (2 ^ g.shardLog2) (g.size - off)
      let x := s.landShard p g off (data.take n)
      let s := x.1
      match sectOf (s.sects a) 0x13 with
      | none => .next s
      | some m =>
        if data.length = n && s.crcsAgree p x.2 off n && sha384 (Memory.readBytes s.mem (a + off) n) == s.pkBytes a (m.off + 0x20 + 48 * (k - 1)) 48 then
          .next (s.shardGood p k x.2)
        else .next (s.failTry p k 0x9020)

/-- SHARD_FETCH_ERROR (R204): a try ends in a transport error, or a host completion that is unsuccessful or poisoned. -/
def execShardFetchError (part : Part) (shard : Fin 65536) (s : State) : Host.Outcome State Fault Refusal :=
  let p := part.val
  let k := shard.val
  match (s.part p).stage with
  | none => .next s
  | some g =>
    if g.verified.mem k || (k != 0 && !g.leadOk) || decide (g.next ≤ k) then .next s
    else .next (s.failTry p k (if g.src = 1 then 0x9027 else 0x9021))

def State.goDiscard (s : State) (n p : Nat) : State :=
  let s := s.slotStart n 0
  let s := match s.slotOf p opStage with
    | some k => s.cmdEnd k (some p) 0x9029
    | none => s
  ((s.updPart p (fun x => { x with stage := none, pendPkg := none })).setPend p 0).cmdEnd n (some p) 0

/-! ### INSTALL, START, STOP (R197, R206 to R208) -/

/-- The partition is paired, as a target or as a draft. -/
def State.paired (s : State) (p : Nat) : Bool := (s.pairMate p).isSome
/-- CISTERN_MIN of the package copy at an offset of an allotment. -/
def State.cisternMin (s : State) (p area : Nat) : Nat :=
  let a := cisternBase p + area
  match sectOf (s.sects a) 1 with
  | some x => (s.pkgHdr a x.off).cisternMin
  | none => 0

def State.goInstall (s : State) (n p : Nat) : State :=
  match (s.part p).pendPkg with
  | none => s.goRefused n (some p) 0x9029
  | some k =>
    if s.g LD_PSTATE_PEND p ≠ 2 then s.goRefused n (some p) 0x9029
    else if s.paired p then s.goRefused n (some p) 0x902D
    else if s.cistBytes p < k.size + s.cisternMin p k.area then s.goRefused n (some p) 0x9026
    else
      let fl := s.cmdFlags n
      let ms := if s.dword n 4 = 0 then 2000 else s.dword n 4
      let i : InstallRun := ⟨n, bitAt fl 0, bitAt fl 1, bitAt fl 2, ms, none, false⟩
      let s := (s.slotStart n (s.partTiles p).length).regionsBack p
      if s.pstate p = psRunning then ((s.updPart p (fun x => { x with install := some i })).setPstate p psStopping).clearHold p
      else
        let s := s.updPart p (fun x => { x with install := some { i with admStop := some s.ptp } })
        ((((s.clearBindings p).endReplaced p i.reject).startWrite p).adjustPart p)

def State.goStart (s : State) (n p : Nat) : State :=
  let key := ((s.part p).resident.map (·.keyId)).getD 0
  let peerOk (q : Nat) : Bool := s.pstate q == psReady || s.pstate q == psRunning
  if (s.pubKeyNamed key).isNone then s.goRefused n (some p) 0x9024
  else if !(s.pairMate p).all peerOk then s.goRefused n (some p) 0x9029
  else if s.startFenced p then s.goRefused n (some p) 0x900D
  else (((((s.slotStart n 0).updPart p (fun x => { x with starting := some n })).regionsBack p).adjustPart p).finishStart p)

/-- A partition that holds at a boundary steps no further: its stop is reached at once (R162). -/
def State.goStop (s : State) (n p : Nat) : State :=
  let x := s.part p
  let s := ((s.slotStart n 0).updPart p (fun x => { x with stopSlot := some n })).setPstate p psStopping
  let s := s.chainStop p
  if x.phase == .ready && !x.goStart then s.stopReached p else s

/-! ### Publisher keys (R198) -/

/-- A big-endian number of 12 descriptor words from word `k`. -/
def State.keyNum (s : State) (n k : Nat) : Nat := beNum ((upTo 12).flatMap (fun i => bytesOf 4 (s.dword n (k + i))))
def State.setKeyId (s : State) (slot v : Nat) : State := (s.setG LD_KEYID_KEYID (2 * slot) (v % 2 ^ 32)).setG LD_KEYID_KEYID (2 * slot + 1) (v / 2 ^ 32)
def State.goEnroll (s : State) (n slot : Nat) : State :=
  let x := s.keyNum n 4
  let y := s.keyNum n 16
  if !onCurve x y then s.goRefused n none 0x902F
  else if s.repair.pubKeys.has slot then s.goRefused n none 0x902E
  else
    let s := { s with repair := { s.repair with pubKeys := s.repair.pubKeys.put slot (x, y) } }
    ((s.slotStart n 0).setKeyId slot (keyIdOf x y)).cmdEnd n none 0
def State.goRevoke (s : State) (n slot : Nat) : State :=
  let s := { s with repair := { s.repair with pubKeys := s.repair.pubKeys.del slot } }
  ((s.slotStart n 0).setKeyId slot 0).cmdEnd n none 0

/-! ### GO (R189 to R191) -/

/-- GO of a slot: refused as in R10 while the slot runs; else its descriptor is judged and its command accepted or refused. -/
def State.runGo (s : State) (path : Path) (n : Nat) : State :=
  let o := s.cmdOpc n
  let p := s.cmdPart n
  if s.slotRunning n then s.refuseWrite path .ld 0
  else if s.goBad n then s.goRefused n (if keyOp o then none else some p) 0x9029
  else if o = opCreate then s.goCreate n p
  else if o = opResize then s.goResize n p
  else if o = opDestroy then s.goDestroy n p
  else if o = opStage then s.goStage n p
  else if o = opInstall then s.goInstall n p
  else if o = opStart then s.goStart n p
  else if o = opStop then s.goStop n p
  else if o = opDiscard then s.goDiscard n p
  else if o = opEnroll then s.goEnroll n p
  else s.goRevoke n p
/-- GO of a slot whose descriptor holds the named command. -/
def State.goOf (s : State) (path : Path) (n opc : Nat) : Host.Outcome State Fault Refusal :=
  s.ownerWrite path .ld true (fun s => if s.cmdOpc n = opc then s.runGo path n else s)

/-- CREATE (R192). -/
def execCreate (path : Path) (slot : LdSlot) (s : State) : Host.Outcome State Fault Refusal := s.goOf path slot.val opCreate
/-- RESIZE (R193). -/
def execResize (path : Path) (slot : LdSlot) (s : State) : Host.Outcome State Fault Refusal := s.goOf path slot.val opResize
/-- DESTROY (R194). -/
def execDestroy (path : Path) (slot : LdSlot) (s : State) : Host.Outcome State Fault Refusal := s.goOf path slot.val opDestroy
/-- STAGE (R201). -/
def execStage (path : Path) (slot : LdSlot) (s : State) : Host.Outcome State Fault Refusal := s.goOf path slot.val opStage
/-- INSTALL (R206). -/
def execInstall (path : Path) (slot : LdSlot) (s : State) : Host.Outcome State Fault Refusal := s.goOf path slot.val opInstall
/-- START (R197). -/
def execStart (path : Path) (slot : LdSlot) (s : State) : Host.Outcome State Fault Refusal := s.goOf path slot.val opStart
/-- STOP (R196). -/
def execStop (path : Path) (slot : LdSlot) (s : State) : Host.Outcome State Fault Refusal := s.goOf path slot.val opStop
/-- DISCARD (R205). -/
def execDiscard (path : Path) (slot : LdSlot) (s : State) : Host.Outcome State Fault Refusal := s.goOf path slot.val opDiscard
/-- ENROLL_KEY (R198). -/
def execEnrollKey (path : Path) (slot : LdSlot) (s : State) : Host.Outcome State Fault Refusal := s.goOf path slot.val opEnroll
/-- REVOKE_KEY (R198). -/
def execRevokeKey (path : Path) (slot : LdSlot) (s : State) : Host.Outcome State Fault Refusal := s.goOf path slot.val opRevoke

/-- The end of the zero fill of a command that runs on a partition. -/
def State.fillDone (s : State) (p opc : Nat) (f : State → Nat → Nat → State) : Host.Outcome State Fault Refusal :=
  match s.slotOf p opc with
  | some n => .next (f s n p)
  | none => .next s
/-- CREATE_COMPLETE (R192): the zero fills of a CREATE end, and the partition is EMPTY. -/
def execCreateComplete (part : Part) (s : State) : Host.Outcome State Fault Refusal := s.fillDone part.val opCreate State.createDone
/-- RESIZE_COMPLETE (R193): the zero fills of a RESIZE end. -/
def execResizeComplete (part : Part) (s : State) : Host.Outcome State Fault Refusal := s.fillDone part.val opResize State.resizeDone
/-- DESTROY_COMPLETE (R194): the zero fill ends, and the partition is NONE. -/
def execDestroyComplete (part : Part) (s : State) : Host.Outcome State Fault Refusal := s.fillDone part.val opDestroy State.destroyDone

/-! ### The end of a write (R206, R207) -/

/-- Rows of a bank that read back unequal in a pass. -/
def missRows (bad : List RowMiss) (t a pl pass : Nat) : List Nat :=
  ((bad.filter (fun r => r.tile.val == t && r.array.val == a && r.plane.val == pl && r.pass.val == pass)).map (fun r => r.row.val)).eraseDups
/-- R47: mismatching rows of a bank of logical array `n`, named by `a`, are mapped to spare rows and the bank rewritten, up to two times; it is FAILED
where rows remain, or no spare row is left. -/
def State.loadBank (s : State) (bad : List RowMiss) (t a n pl : Nat) : State :=
  let p0 := missRows bad t a pl 0
  let p1 := if p0.isEmpty then [] else missRows bad t a pl 1
  let p2 := if p1.isEmpty then [] else missRows bad t a pl 2
  let used := s.reg (spareRowsF pl) t n + p0.length + p1.length
  if p0.isEmpty then s
  else
    let s := s.setSpares (spareRowsF pl) t n (min 8 used)
    if used ≤ 8 && p2.isEmpty then s else s.setReg (bstateF pl) t n bsFailed
def State.loadArray (s : State) (bad : List RowMiss) (t a n : Nat) : State := (s.loadBank bad t a n 0).loadBank bad t a n 1
/-- The banks of a partition's arrays as the loader's write finds them. -/
def State.loadBanks (s : State) (p : Nat) (bad : List RowMiss) : State :=
  ((bad.map (fun r => (r.tile.val, r.array.val))).eraseDups.filter (fun e => s.owner e.1 == some p && decide (e.2 < 8))).foldl (fun s e =>
    s.loadArray bad e.1 e.2 e.2) s
/-- Logical arrays of a partition with a FAILED bank. -/
def State.failedArrays (s : State) (p : Nat) : List (Nat × Nat) :=
  (s.partTiles p).flatMap (fun t => ((upTo 8).filter (fun n => (upTo 2).any (fun pl => s.reg (bstateF pl) t n == bsFailed))).map (fun n => (t, n)))
/-- They go to the spare arrays of their tiles, where one is unused (R47, R54). -/
def State.spareFor (s : State) (bad : List RowMiss) (l : List (Nat × Nat)) : State :=
  l.foldl (fun s e => if s.spareUsed e.1 then s else (s.giveSpare e.1 e.2).loadArray bad e.1 8 e.2) s
/-- The banks of a partition after the loader's writes: the arrays that are still FAILED are those with no spare array for them. -/
def State.writeBanks (s : State) (p : Nat) (bad : List RowMiss) : State := (s.loadBanks p bad).spareFor bad ((s.loadBanks p bad).failedArrays p)

/-- The write fails: the partition is EMPTY, and the pending package stays VERIFIED. -/
def State.writeFailed (s : State) (p n : Nat) (r : LoadRefusal) : State :=
  let s := (s.wipeBanks (fun t => s.owner t == some p)).dropExpress p
  let s := s.updPart p (fun x => { x with resident := none, install := none, info := none, lostQuads := Map.empty })
  ((s.enter p psEmpty).refusalRecord p r).cmdClose n p r.code

/-- The write succeeds: the pending copy is resident, and the partition READY or, with START, RUNNING. -/
def State.writeGood (s : State) (p n : Nat) (k : PkgRef) (start : Bool) : State :=
  let s := (s.updPart p (fun x => { x with resident := some k, pendPkg := none, install := none })).setPend p 0
  let s := (s.setG LD_CMD_PROG_DONE n (s.partTiles p).length).refreshChain p
  let s := if start then s.beginStepping p else s.enter p psReady
  s.cmdEnd n (some p) 0

/-- A bank that no spare array could replace (0x9028), by its tile. -/
def badBank (t : Nat) : LoadRefusal := ⟨0x9028, some t, 3, 0, 0⟩

/-- A rewrite from the resident copy that fails: the partition is EMPTY (R196). -/
def State.cutRewrite (s : State) (p code : Nat) : State :=
  let s := (s.wipeBanks (fun t => s.owner t == some p)).dropExpress p
  let s := s.updPart p (fun x => { x with resident := none, info := none, lostQuads := Map.empty })
  (s.enter p psEmpty).setLcode p code

/-- The section table of the resident copy. -/
def State.resSects (s : State) (p : Nat) : List Sect := ((s.part p).resident.map (fun k => s.sects (cisternBase p + k.area))).getD []

/-- INSTALL_WRITE_COMPLETE (R206): every section has been written and read back. `info`: what the loader chose; `unread`: a section whose read-back
CRC differs (R179); `bad`: bank rows that did not take their data. A partition that is WRITING without an INSTALL is rewritten from its resident
copy, and becomes READY (R196). -/
def execInstallWriteComplete (part : Part) (info : LoadInfo) (unread : Option (Fin 1048576)) (bad : List RowMiss) (s : State) :
    Host.Outcome State Fault Refusal :=
  let p := part.val
  if s.pstate p != psWriting || !s.quadsUp p then .next s
  else
    let w := s.writeBanks p bad
    let left := w.failedArrays p
    let first := badBank ((left.map (·.1)).headD 0)
    match (s.part p).install, (s.part p).pendPkg, s.slotOf p opInstall with
    | some i, some k, some n =>
      if !left.isEmpty then .next (w.writeFailed p n first)
      else match w.placePackage p k info unread with
        | .inr r => .next (w.writeFailed p n r)
        | .inl u => match u.failedArrays p with
          | [] => .next (u.writeGood p n k i.start)
          | e :: _ => .next (u.writeFailed p n (badBank e.1))
    | none, _, _ =>
      if ((s.part p).resident.map (·.lost)).getD false then .next ((s.refusalRecord p ⟨0x9028, none, 3, 0, 0⟩).cutRewrite p 0x9028)
      else if !left.isEmpty then .next ((w.refusalRecord p first).cutRewrite p 0x9028)
      else match unreadBad (s.resSects p) unread with
      | some r => .next ((w.refusalRecord p r).cutRewrite p r.code)
      | none => .next ((w.rewriteTiles p (fun _ => true)).enter p psReady)
    | _, _, _ => .next s

/-- DRAIN_DEADLINE (R207): at the first commit boundary at or after the deadline the remaining requests end and the write begins. -/
def execDrainDeadline (part : Part) (s : State) : Host.Outcome State Fault Refusal :=
  let p := part.val
  if s.replacing p && (s.part p).phase == .decided .commit then .next ((s.commitPart p).afterCommit p) else .next s

/-! ### The server table (R203) -/

/-- A STAGE in progress uses the entry. -/
def State.serverUsed (s : State) (e : Nat) : Bool := s.parts.entries.any (fun x => match x.2.stage with
  | some g => g.src == 2 && g.servers.contains e
  | none => false)
/-- VALID of an entry written: 0 and then 1 clears DOWN. -/
def State.writeValid (s : State) (path : Path) (e : Nat) (v : Bool) : State :=
  if s.serverUsed e then s.refuseStatic path .ld 0 (LD_SRV0_VALID.offset e)
  else
    let s := if v && !s.flag LD_SRV0_VALID 0 e then s.setG LD_SRV0_DOWN e 0 else s
    s.setG LD_SRV0_VALID e (b2n v)
/-- SERVER_ENTRY_VALID (R203): software writes VALID of a server table entry. -/
def execServerEntryValid (path : Path) (entry : Fin 64) (valid : Bool) (s : State) : Host.Outcome State Fault Refusal :=
  s.pageWrite path .ld false true (fun s => s.writeValid path entry.val valid)
/-- SERVER_QP_ERROR (R203): a queue pair enters the error state. -/
def execServerQpError (entry : Fin 64) (s : State) : Host.Outcome State Fault Refusal :=
  if s.flag LD_SRV0_VALID 0 entry.val then .next (s.setG LD_SRV0_DOWN entry.val 1) else .next s

/-! ### The stream engine (R212) -/

/-- The rows of a plan entry, from the resident copy, patched on their way (R179). -/
def State.streamRows (s : State) (p : Nat) (k : PkgRef) (e : StreamE) : List (List Byte × Bool) :=
  let a := cisternBase p + k.area
  let g := (s.part p).info.bind (fun i => s.planOf p k.area i)
  let j : State × Nat := match g with
    | none => (s, a)
    | some g => ((s.scratch g).1, scratchBase)
  match sectOf (s.sects a) 0x11 with
  | none => []
  | some x =>
    let o := x.off + 16 + 16 * (s.part p).plan.length + 65536 * e.image + 512 * e.rowoff
    (upTo e.nrows).map (fun i => (Memory.readBytes j.1.mem (j.2 + o + 512 * i) 512, s.lostSpan (k.area + o + 512 * i) 512))
/-- STREAM_PLAN_ENTRY (R212): LEAD steps before a step of matching PHASE, the rows of an entry are sent. `behind`: the engine cannot
keep to its plan for lack of delivery bandwidth. -/
def execStreamPlanEntry (part : Part) (entry : Fin 1048576) (behind : Bool) (s : State) : Host.Outcome State Fault Refusal :=
  let p := part.val
  let x := s.part p
  match x.resident, x.plan[entry.val]? with
  | some k, some w =>
    let e := streamE w
    if s.flag CSD_PCFG_RUN 0 p && (x.commitIdx + x.planLead) % x.planPeriod == e.phase then
      let s := if behind then s.ldRecord (some p) 0x902B 0 0 else s
      match tileOfAddr e.tile with
      | none => .next s
      | some t => .next { s with flight := s.flight ++ (s.streamRows p k e).zipIdx.map (fun r => 
        { enginePacket srcStream p t (e.brow + r.2) r.1.1 with poison := if r.1.2 then upTo 8 else [] }) }
    else .next s
  | _, _ => .next s

end Sys2Proof.Machine
end

