-- ==== Sys2Proof/Machine/Supply.lean ====
section
/-! DEFINITION. What supplies, power and heat share: the limits of a site, a site that goes dark, converters that stop, and alert
divide (10 R251 to R254, R273, R277; 11 R284, R287, R296). -/

namespace Sys2Proof.Machine

/-! ### Records (R277, R296) -/

/-- A record of class 5: site (63 the module), quadrant or sense point, check result, phase or converter. -/
def State.pwrRecord (s : State) (code site quad chk phase : Nat) (part : Option Nat) : State :=
  s.record { code := code, unit := 12, part := part, detail := site * 1024 + quad * 256 + chk * 128 + phase }
/-- A record of class 6: site (63 the module), stack (63 none), region (15 none). -/
def State.thmRecord (s : State) (code site stack region : Nat) : State :=
  s.record { code := code, unit := 12, detail := site * 1024 + stack * 16 + region }

/-! ### Limits of a site (Table 10-2, R266, R284) -/

/-- Failed phases of a site. -/
def State.phasesOut (s : State) (site : Nat) : Nat := (s.power.phases.entries.filter (fun e => e.1 / 32 == site)).length
/-- The site current limit by its phases, lowered by an anomaly, in A. -/
def State.phaseLimit (s : State) (site : Nat) : Nat :=
  let n := s.phasesOut site
  min (if n ≤ 2 then 720 else 30 * (26 - n)) (s.power.anomLimit.get site 720)
def State.vset (s : State) (site : Nat) : Nat := s.g PWR_SCFG_VSET_MV site
/-- θ_s in 0.000001 K/W. -/
def State.theta (s : State) (site : Nat) : Nat := s.thermal.theta.get site (1000 * s.g THM_STHETA_THETA site)
/-- P_s,th in W (R284): k_s in hundredths, JLIMIT in °C, T_in in 0.05 °C. -/
def State.siteThermal (s : State) (site : Nat) : Frac :=
  Frac.mk' ((s.g THM_SPLIM_K site : Int) * ((20 * s.g THM_CFG_JLIMIT 0 : Int) - s.g THM_COOL_T_IN 0) * 10 ^ 6) (2000 * s.theta site)
/-- The site current limit of R269 in A. -/
def State.siteLimit (s : State) (site : Nat) : Frac :=
  let v := s.vset site
  let p := Frac.ofNat (s.phaseLimit site)
  if v = 0 then p else p.min ((s.siteThermal site).scale 1000 v)
/-- PTH_W, ILIM_A and STATE of a site, as the figures stand. -/
def State.refreshSite (s : State) (site : Nat) : State :=
  let s := (s.setG THM_SPLIM_PTH_W site (min 65535 (s.siteThermal site).floorN)).setG PWR_SSTAT_ILIM_A site (min 1023 (s.siteLimit site).floorN)
  let n := s.phasesOut site
  s.setG PWR_SSTAT_STATE site
    (if s.power.darkWhy.has site then 2 else if decide (3 ≤ n) || s.power.anomLimit.has site then 1 else 0)
/-- An action at every site. -/
def State.allSites (s : State) (f : State → Nat → State) : State := (upTo 56).foldl f s

/-! ### Dark sites (R254) -/

/-- An INSTALL that writes a partition ends with a code, and the partition is EMPTY (R254). -/
def State.cutWrite (s : State) (p code : Nat) : State :=
  let n := (s.part p).install.map (·.slot)
  let s := (s.wipeBanks (fun t => s.owner t == some p)).dropExpress p
  let s := s.updPart p (fun x => { x with resident := none, install := none, info := none, lostQuads := Map.empty })
  let s := (s.enter p psEmpty).setLcode p code
  match n with
  | some n => s.cmdClose n p code
  | none => s

/-- Every partition that touches a site stops. -/
def State.stopSite (s : State) (site reason : Nat) : State :=
  (upTo 64).foldl (fun (s : State) p =>
    if (s.partQuads p).any (fun q => q / 4 == site) then
      if s.pstate p = psWriting then s.cutWrite p 0x5003 else s.abortStop p reason
    else s) s

/-- A site goes dark: 1 failed phases, 2 junction trip, 3 converters. -/
def State.goDark (s : State) (site why : Nat) : State :=
  if s.power.darkWhy.has site then s
  else
    let s := s.stopSite site 5
    let s := { s with
      power := { s.power with darkWhy := s.power.darkWhy.put site why }
      thermal := { s.thermal with warming := s.thermal.warming.keep (fun q _ => q / 4 != site) } }
    ((upTo 4).foldl (fun (s : State) k => s.dropQuad (site * 4 + k)) s).refreshSite site

/-! ### Converters that stop (R251, R287) -/

/-- Pages of the AON domain's management functions, which keep their registers while the auxiliary input is present. -/
def aonPage (code : Nat) : Bool :=
  [Page.sec.code, Page.int.code, Page.err.code, Page.clk.code, Page.rst.code, Page.lic.code, Page.pwr.code, Page.thm.code].contains code
/-- A stored field is QSTATE. -/
def isQstate (k : Nat) : Bool :=
  k / 32 / 4096 / 65536 == Page.pwr.code && decide (0xC40 ≤ k / 32 % 4096) && decide (k / 32 % 4096 < 0xC78)

/-- Bytes outside the module: the spill servers' memory and the host's. -/
def outside (a : Nat) : Bool := decide (spillBase ≤ a)
/-- What repair has done to a tile's cells stays. -/
def TileSt.repairs (x : TileSt) : TileSt := { TileSt.clear with sparedRows := x.sparedRows }

/-- All compute, Basin and Cistern state, and what the rim dies held of it, is lost; the AON domain keeps running. -/
def State.loseAll (s : State) : State :=
  let pageOf (k : Nat) : Nat := k / 32 / 4096 / 65536
  { s with
    regs := s.regs.keep (fun k _ => aonPage (pageOf k) && !isQstate k)
    shadows := s.shadows.keep (fun k _ => aonPage (pageOf k)), latch := Map.empty
    mem := s.mem.keep (fun a _ => outside a)
    tiles := s.tiles.mapVal (fun _ x => x.repairs)
    parts := Map.empty, reqs := Map.empty, pages := Map.empty, links := Map.empty, lanes := Map.empty, cross := Map.empty
    express := Map.empty, laneOwner := Map.empty, flight := [], treeMsgs := Map.empty
    cal := CalSt.init, log := Map.empty, stewardHome := true, rootHome := true, stewardUp := true, submits := 0
    power := { s.power with
      convOn := false, stretching := Map.empty, spillBusy := Map.empty, deepWin := Map.empty, hotWin := Map.empty, wakes := Map.empty
      moving := Map.empty, est := Map.empty, stopped := true }
    thermal := { s.thermal with warming := Map.empty }
    repair := { s.repair with running := none, waiting := [] }
    link := { s.link with
      pcieUp := false, vfEnable := false, busMaster := Map.empty, msixOpen := Map.empty, msixPend := Map.empty
      msixTable := Map.empty, sessions := s.link.sessions.keep (fun k _ => decide (4 ≤ k)), ports := Map.empty, shadowEnt := Map.empty, chainIdx := Map.empty
      markSeen := Map.empty, markWait := Map.empty } }

/-- CLK_LOCK (R393, Table 13-2): every clock locked to the module reference, or only the AON domain's. -/
def State.lockClocks (s : State) (all : Bool) : State :=
  ((s.setG CLK_LOCK_REF_LOCK 0 (b2n all)).setG CLK_LOCK_DOM_LOCK 0 (if all then 15 else 8)).setG CLK_LOCK_RG_LOCK 0 (if all then 0x3FFF else 0)
/-- The converters stop; service returns only by a module reset. -/
def State.stopConverters (s : State) : State :=
  if s.power.convOn then ((s.loseAll.setBoot 0).lockClocks false).allSites (fun s site => s.refreshTemp site) else s

/-! ### Alert divide (R273, R274) -/

def State.alertOn (s : State) : Bool := s.flag PWR_STATUS_ALERT 0 0
/-- Divide begins; the warming load stops (R290). -/
def State.beginAlert (s : State) : State :=
  let s := if s.alertOn then s else { s with power := { s.power with alertAt := s.ptp } }
  { (s.setG PWR_STATUS_ALERT 0 1) with
    power := { s.power with alertHold := false }, thermal := { s.thermal with warming := Map.empty } }
/-- Divide ends with the hold, and the time-outs of the stages that it paused go on (Table 10-10); the wait of R263 did not pause. -/
def State.endAlert (s : State) : State :=
  let paused (w : WakeRun) : Nat := s.ptp - max w.since s.power.alertAt
  { (s.setG PWR_STATUS_ALERT 0 0) with
    power := { s.power with
      alertHold := false
      wakes := s.power.wakes.mapVal (fun _ w => if w.stage = 0 then w else { w with since := w.since + paused w }) } }
/-- The hold after the later of the two releases. -/
def State.holdAlert (s : State) : State :=
  if s.flag PWR_ALERT_PIN 0 0 || s.power.internal || !s.alertOn then s
  else if s.g PWR_ALERT_HOLD_US 0 = 0 then s.endAlert
  else { s with power := { s.power with alertHold := true } }

end Sys2Proof.Machine
end

