-- ==== Sys2Proof/Machine/Power.lean ====
section
/-! DEFINITION. Power delivery: losses of supply, regulators, droop responses, quadrant states and wakes, anomalies, alert divide and
the ageing margin (10_power_delivery_and_capping.md R250 to R266, R273 to R276). -/

namespace Sys2Proof.Machine

/-! ### Supplies (R250 to R252) -/

/-- What lies in the module flash, and what lies outside the module, when the AON domain loses its supply (chapter 13, Cold start). -/
def State.flashOnly (s : State) : State :=
  { State.reset with
    mem := s.mem.keep (fun a _ => outside a), freeCtr := s.freeCtr, out := s.out, pending := s.pending
    tiles := s.tiles.mapVal (fun _ x => x.repairs)
    power := { PowerSt.init with mAge := s.power.mAge, mainOk := s.power.mainOk }
    repair := { RepairSt.init with
      columns := s.repair.columns, spares := s.repair.spares, takenStacks := s.repair.takenStacks, takenRims := s.repair.takenRims
      takenPorts := s.repair.takenPorts, certs := s.repair.certs, pubKeys := s.repair.pubKeys, fwImage := s.repair.fwImage, fwActive := s.repair.fwActive
      fwStaged := s.repair.fwStaged }
    link := { LinkSt.init with ownerKeys := s.link.ownerKeys, plan := s.link.plan, chainMode := s.link.chainMode } }

/-- AUX_INPUT_LOSS (R251). -/
def execAuxInputLoss (s : State) : Host.Outcome State Fault Refusal := .next (if s.power.auxOn then s.flashOnly else s)

/-- MAIN_INPUT_LOSS (R250, R251): the 54 V input reads `mv`: below 45 V, or above 62 V (65 V is the absolute maximum). -/
def execMainInputLoss (mv : Fin 65001) (s : State) : Host.Outcome State Fault Refusal :=
  if decide (45000 ≤ mv.val) && decide (mv.val ≤ 62000) then .next s
  else
    let s := (s.setG PWR_IN_VIN 0 (mv.val / 10))
    let s := { s with power := { s.power with mainOk := false } }
    if s.power.convOn then .next (s.stopConverters.pwrRecord 0x5006 63 0 0 0 none) else .next s

/-- Working intermediate converters. -/
def State.convs (s : State) : Nat := 8 - ((upTo 8).filter (fun n => bitAt (s.g PWR_ICONV_FAILED 0) n)).length
/-- CONVERTER_FAIL (R252). -/
def execConverterFail (conv : Fin 8) (s : State) : Host.Outcome State Fault Refusal :=
  let w := s.g PWR_ICONV_FAILED 0
  if bitAt w conv.val then .next s
  else
    let s := ((s.setG PWR_ICONV_FAILED 0 (setBit w conv.val true)).setG PWR_STATUS_CONV_FAIL 0 1).pwrRecord 0x5004 63 0 0 conv.val none
    if s.convs ≤ 3 then
      .next (s.allSites (fun s site => if s.power.darkWhy.has site then s else (s.goDark site 3).pwrRecord 0x5003 site 0 0 0 none))
    else .next s

/-- A wake in progress goes on as a slow ramp (Table 10-10). -/
def State.slowWakes (s : State) (site : Nat) : State :=
  let l := s.power.wakes.entries.filter (fun e => e.1 / 4 == site && decide (1 ≤ e.2.stage) && !e.2.slow)
  let s := { s with power := { s.power with wakes := s.power.wakes.mapVal (fun q w =>
    if q / 4 = site && decide (1 ≤ w.stage) then { w with slow := true } else w) } }
  l.foldl (fun (s : State) e => s.pwrRecord 0x5031 site (e.1 % 4) 0 0 none) s

/-- PHASE_FAIL (R253, Table 10-2). -/
def execPhaseFail (site : Site) (phase : Fin 26) (s : State) : Host.Outcome State Fault Refusal :=
  let k := site.val * 32 + phase.val
  if s.power.phases.mem k then .next s
  else
    let s := { s with power := { s.power with phases := s.power.phases.add k } }
    let n := s.phasesOut site.val
    let s := (s.setG PWR_SSTAT_PH_FAILED site.val n).refreshSite site.val
    if 11 ≤ n then
      if s.power.darkWhy.has site.val then .next { s with power := { s.power with darkWhy := s.power.darkWhy.put site.val 1 } }
      else .next ((s.goDark site.val 1).pwrRecord 0x5003 site.val 0 0 phase.val none)
    else .next ((s.pwrRecord (if n ≤ 2 then 0x5001 else 0x5002) site.val 0 0 phase.val none).slowWakes site.val)

/-- TRANSIT_REGULATOR_FAULT (R255). -/
def execTransitRegulatorFault (site : Site) (s : State) : Host.Outcome State Fault Refusal :=
  if s.power.transitFault.mem site.val then .next s
  else .next ({ s with power := { s.power with transitFault := s.power.transitFault.add site.val } }.pwrRecord 0x5007 site.val 0 0 0 none)

/-! ### Droop (R256 to R259) -/

/-- The compute domain of a tile is on the core rail. -/
def State.tilePowered (s : State) (t : Nat) : Bool := decide (s.qstate (quadOf t) ≤ qIdle)
/-- R316: a droop detector in calibration triggers nothing. -/
def State.detects (s : State) (t : Nat) : Bool := s.tilePowered t && !s.cal.monBusy.mem (2 * 2 ^ 17 + t)
/-- SPILLWAY_BOOST (R256): a tile's detector reads `mv`. -/
def execSpillwayBoost (tile : Tile) (mv : Fin 1024) (s : State) : Host.Outcome State Fault Refusal :=
  let q := quadOf tile.val
  if s.detects tile.val && decide (mv.val + s.g PWR_DROOP_SPILL_MV 0 < s.vset (q / 4)) then
    .next ({ s with power := { s.power with spillBusy := s.power.spillBusy.add q } }.setG PWR_SSTAT_SPILL_LOW (q / 4) 1 |>.emit (.spillway q true))
  else .next s
/-- SPILLWAY_SHUNT (R256): it shunts into a clamp, and the reservoir is not touched. -/
def execSpillwayShunt (tile : Tile) (mv : Fin 1024) (s : State) : Host.Outcome State Fault Refusal :=
  let q := quadOf tile.val
  if s.detects tile.val && decide (s.vset (q / 4) + s.g PWR_DROOP_SPILL_MV 0 < mv.val) then .next (s.emit (.spillway q false)) else .next s
/-- SPILLWAY_RESERVOIR_RECHARGED (R256). -/
def execSpillwayReservoirRecharged (quad : Quad) (s : State) : Host.Outcome State Fault Refusal :=
  let b := s.power.spillBusy.del quad.val
  let s := { s with power := { s.power with spillBusy := b } }
  .next (s.setG PWR_SSTAT_SPILL_LOW (quad.val / 4) (b2n (b.entries.any (fun e => e.1 / 4 == quad.val / 4))))

/-- CLOCK_STRETCH_START (R257). -/
def execClockStretchStart (tile : Tile) (mv : Fin 1024) (s : State) : Host.Outcome State Fault Refusal :=
  if s.detects tile.val && decide (mv.val + s.g PWR_DROOP_DROOP_MV 0 < s.vset (siteOf tile.val)) then
    .next { s with power := { s.power with stretching := s.power.stretching.add (regionOf tile.val) } }
  else .next s
/-- CLOCK_STRETCH_END (R257): `below` is the largest drop below V_set that any tile of the region reads, in mV. -/
def execClockStretchEnd (region : Region) (below : Fin 1024) (s : State) : Host.Outcome State Fault Refusal :=
  if below.val + 10 < s.g PWR_DROOP_DROOP_MV 0 then
    .next { s with power := { s.power with stretching := s.power.stretching.del region.val } }
  else .next s

/-- A reading of a sense point at a time: its record keeps the lowest, unless its monitor is in calibration (R259). -/
def State.senseAt (s : State) (site point mv at_ : Nat) : State :=
  let k := site * 4 + point
  let low := match s.power.vmin.get? k with
    | some r => decide (mv < r.mv)
    | none => decide (mv < 1023)
  if low && !s.power.vminStale.mem k then
    { s with power := { s.power with vmin := s.power.vmin.put k ⟨mv, s.wcount, at_⟩ } }
  else s
def State.sense (s : State) (site point mv : Nat) : State := s.senseAt site point mv s.ptp
/-- DEEP_DROOP (R258). -/
def execDeepDroop (site : Site) (point : Fin 4) (mv : Fin 1024) (s : State) : Host.Outcome State Fault Refusal :=
  let s := s.sense site.val point.val mv.val
  if mv.val + s.g PWR_DROOP_FLOOR_MV 0 < s.vset site.val then
    let s := (s.setG PWR_STATUS_DEEP_DROOP 0 1).pwrRecord 0x5021 site.val point.val 0 0 none
    .next { s with power := { s.power with deepWin := s.power.deepWin.put site.val 16 } }
  else .next s
/-- VMIN_CLEAR (R259). -/
def State.clearVmin (s : State) : State := { s with power := { s.power with vmin := Map.empty } }
def execVminClear (path : Path) (s : State) : Host.Outcome State Fault Refusal := s.pageWrite path .pwr false true State.clearVmin

/-! ### Quadrant states and wakes (R260 to R264) -/

/-- The warming load stops on a quadrant before any change of its state (R290). -/
def State.coolQuad (s : State) (q : Nat) : State := { s with thermal := { s.thermal with warming := s.thermal.warming.del q } }
/-- A write of a quadrant's request (R261). -/
def State.writeQreq (s : State) (path : Path) (q r : Nat) : State :=
  if r = 0 then s.refuseWrite path .pwr 0
  else if s.qreq q = r then s
  else if (match s.quadOwner q with
    | some p => s.busyPart p
    | none => false) then s.refuseStatic path .pwr 0 (0xC00 + q / 16 * 4)
  else ((s.setG (PWR_QREQ (q % 16)) (q / 16) r).coolQuad q).adjustQuad q
/-- QUADRANT_POWER_REQUEST (R261). -/
def execQuadrantPowerRequest (path : Path) (quad : Quad) (request : Fin 4) (s : State) : Host.Outcome State Fault Refusal :=
  s.pageWrite path .pwr false true (fun s => s.writeQreq path quad.val request.val)

/-- The scrub of a slice that leaves RETAIN (R137): rows that hold an error are met. -/
def State.scrubTile (s : State) (t : Nat) : State :=
  let x := s.tile t
  let rows := (upTo 1024).filter (fun r => x.flips.entries.any (fun e => e.1 / 64 == r) || x.poisonMark.entries.any (fun e => e.1 / 64 == r))
  rows.foldl (fun (s : State) r => (s.readRow t r 0 false).1) s
/-- The quadrant is in its new state, and moves on if that is not the state it is to take; its partition's START may go on. -/
def State.arrived (s : State) (q st : Nat) : State :=
  let s := (((s.setQ q st).coolQuad q).adjustQuad q)
  match s.quadOwner q with
  | some p => s.finishStart p
  | none => s
/-- QUADRANT_TRANSITION_DONE (R260, Table 10-6). `upsets`: stored bits that flipped in RETAIN, by tile of the quadrant, row, word, bit. -/
def execQuadrantTransitionDone (quad : Quad) (upsets : List (Fin 256 × Fin 1024 × Fin 64 × Fin 72)) (s : State) : Host.Outcome State Fault Refusal :=
  let q := quad.val
  match s.power.wakes.get? q with
  | some w =>
    if w.stage ≠ 4 || s.alertOn then .next s
    else .next ({ s with power := { s.power with wakes := s.power.wakes.del q, wakeFails := s.power.wakeFails.del q } }.arrived q qIdle)
  | none => match s.power.moving.get? q with
    | none => .next s
    | some st =>
      let s := { s with power := { s.power with moving := s.power.moving.del q } }
      if st = qOff then .next ((s.loseQuad q).arrived q qOff)
      else if st = qIdle then
        let ts := tilesOfQuad q
        let s := upsets.foldl (fun (s : State) u => s.upset (ts.getD u.1.val 0) [u.2]) s
        .next ((ts.foldl (fun (s : State) t => s.scrubTile t) s).arrived q qIdle)
      else .next (s.arrived q st)

/-- Sites that share an edge with a site, and the site itself. -/
def nearSites (site : Nat) : List Nat :=
  (upTo 56).filter (fun x =>
    x == site || (x / 8 == site / 8 && (x + 1 == site || site + 1 == x)) || (x % 8 == site % 8 && (x + 8 == site || site + 8 == x)))

/-- Commits until a hint's next phase begins, and commits left of the phase in progress (Table 10-9). -/
def Hint.until (h : Hint) (per ci : Nat) : Nat := if ci < h.phase then h.phase - ci else per - (ci - h.phase) % per
def Hint.left (h : Hint) (per ci : Nat) : Nat := if ci < h.phase then 0 else h.length - (ci - h.phase) % per

/-- Power estimate, commit index, and the interval of a step in eighths of a cycle. -/
def State.estOf (s : State) (p : Nat) : PowerEst := s.power.est.get p PowerEst.zero
def State.intervalOf (s : State) (p : Nat) : Nat := s.stepLen p 0 * s.g CSD_PSTRETCH_FACTOR p
/-- R263: a hint of the partition forbids a normal ramp in the next 64 µs (38,400 cycles). -/
def State.hintBars (s : State) (p : Nat) : Bool :=
  let e := s.estOf p
  let ci := (s.part p).commitIdx
  let iv := s.intervalOf p
  let near (h : Hint) : Bool := let d := h.until (max 1 e.period) ci; decide (d * iv < 307200) && decide (d ≤ h.lead)
  e.hints.any (fun h => !h.quiet && near h) &&
  !e.hints.any (fun h => h.quiet && decide (307200 ≤ h.left (max 1 e.period) ci * iv))
/-- R263: a normal ramp may start. -/
def State.wakeQuiet (s : State) (q : Nat) : Bool :=
  (nearSites (q / 4)).all (fun x =>
    decide (s.g PWR_SCUR_I x * 100 < s.g PWR_WAKE_PEAK_PCT 0 * 7200) &&
    (upTo 64).all (fun p => !(s.pstate p == psRunning && (s.partQuads p).any (fun q => q / 4 == x)) || !s.hintBars p))
/-- R262: one wake of a site in stages 1 to 3, WAKE_MAX on the module; none starts while the headers hold. -/
def State.wakeRoom (s : State) (q : Nat) : Bool :=
  let l := s.power.wakes.entries.filter (fun e => decide (1 ≤ e.2.stage))
  !s.alertOn && !s.heldOff q && decide (l.length < s.g PWR_WAKE_WAKE_MAX 0) && !l.any (fun e => e.1 / 4 == q / 4 && decide (e.2.stage ≤ 3))
/-- Stage 1 begins. -/
def State.beginWake (s : State) (q : Nat) (slow : Bool) : State :=
  let s := { s with power := { s.power with wakes := s.power.wakes.put q ⟨1, slow, s.ptp⟩ } }
  if slow then s.pwrRecord 0x5031 (q / 4) (q % 4) 0 0 none else s

/-- Currents of sites, 0.1 A, as the power sequencer reads them. -/
def State.readAmps (s : State) (l : List (Site × Fin 65536)) : State := l.foldl (fun (s : State) e => s.setG PWR_SCUR_I e.1.val e.2.val) s
/-- WAKE_START (R263): `amps`: core currents over the last 1 µs. -/
def execWakeStart (quad : Quad) (amps : List (Site × Fin 65536)) (s : State) : Host.Outcome State Fault Refusal :=
  let q := quad.val
  let s := s.readAmps amps
  match s.power.wakes.get? q with
  | some w =>
    if w.stage ≠ 0 || !s.wakeRoom q then .next s
    else if w.slow || s.g PWR_WAKE_WAIT_US 0 = 0 then .next (s.beginWake q true)
    else if s.wakeQuiet q then .next (s.beginWake q false)
    else .next s
  | none => .next s
/-- WAKE_WAIT_EXPIRY (R263). -/
def execWakeWaitExpiry (quad : Quad) (s : State) : Host.Outcome State Fault Refusal :=
  let q := quad.val
  match s.power.wakes.get? q with
  | some w =>
    if w.stage = 0 && decide (w.since + 1000 * s.g PWR_WAKE_WAIT_US 0 ≤ s.ptp) && s.wakeRoom q then .next (s.beginWake q true) else .next s
  | none => .next s

/-- Percent of V_set at which a stage advances, and its typical time in ns (Table 10-7). -/
def wakePct (stage : Nat) : Nat := if stage = 1 then 50 else if stage = 2 then 80 else 95
def wakeTime (stage : Nat) (slow : Bool) : Nat :=
  (if stage = 1 then 10000 else if stage = 2 then 6000 else if stage = 3 then 4000 else 1000) * (if slow then 2 else 1)
/-- WAKE_STAGE_ADVANCE (R262): the domain voltage reads `mv`. -/
def execWakeStageAdvance (quad : Quad) (mv : Fin 1024) (s : State) : Host.Outcome State Fault Refusal :=
  let q := quad.val
  match s.power.wakes.get? q with
  | some w =>
    if decide (1 ≤ w.stage) && decide (w.stage ≤ 3) && !s.alertOn && decide (wakePct w.stage * s.vset (q / 4) ≤ mv.val * 100) then
      .next { s with power := { s.power with wakes := s.power.wakes.put q { w with stage := w.stage + 1, since := s.ptp } } }
    else .next s
  | none => .next s

/-- The 256 tiles of a quadrant are fenced in place (R341). -/
def State.impairQuad (s : State) (q : Nat) : State :=
  let s := s.setG RST_QIMP_IMPAIRED (q / 32) (setBit (s.g RST_QIMP_IMPAIRED (q / 32)) (q % 32) true)
  let s := (tilesOfQuad q).foldl (fun (s : State) t => (s.setReg SEQ_STATUS_FENCED t 0 1).setReg RTR_STATUS_FENCED t 0 1) s
  s.record { code := 0x4045, unit := 15, tile := some ((tilesOfQuad q).getD 0 0), part := s.quadOwner q }
/-- WAKE_FAIL (R264, R341): a stage has not advanced within four times its typical time. -/
def execWakeFail (quad : Quad) (s : State) : Host.Outcome State Fault Refusal :=
  let q := quad.val
  match s.power.wakes.get? q with
  | some w =>
    if decide (1 ≤ w.stage) && !s.alertOn && decide (w.since + 4 * wakeTime w.stage w.slow ≤ s.ptp) then
      let again := s.power.wakeFails.has q
      let s := { s with power := { s.power with wakes := s.power.wakes.del q, wakeFails := s.power.wakeFails.put q s.ptp } }
      let s := s.pwrRecord 0x5032 (q / 4) (q % 4) 0 0 none
      .next (if again then s.impairQuad q else s)
    else .next s
  | none => .next s
/-- WAKE_RETRY (R341): 1 s after a failed wake it is tried again as a slow ramp. -/
def execWakeRetry (quad : Quad) (s : State) : Host.Outcome State Fault Refusal :=
  let q := quad.val
  match s.power.wakeFails.get? q with
  | some t =>
    if decide (t + 10 ^ 9 ≤ s.ptp) && !s.impaired q && !s.power.wakes.has q && decide (s.qstate q = qOff) then
      .next { s with power := { s.power with wakes := s.power.wakes.put q ⟨0, true, s.ptp⟩ } }
    else .next s
  | none => .next s

/-! ### Supply anomalies (R265, R266) -/

/-- A report: recorded once until software clears the bit. -/
def State.reportAnomaly (s : State) (q phase : Nat) : State :=
  let w := s.g PWR_SSTAT_ANOM (q / 4)
  let s := if bitAt w (q % 4) then s
    else { s with repair := { s.repair with failSince := true } }.setG PWR_SSTAT_ANOM (q / 4) (setBit w (q % 4) true) |>.pwrRecord 0x5010 (q / 4) (q % 4) 0 phase none
  s.setG PWR_STATUS_ANOM 0 1
/-- R265: the readings of a quadrant show an anomaly. -/
def State.anomalous (s : State) (q : Nat) (r : PathReading) : Bool :=
  (match s.power.baseRes.get? q with
    | some b => decide (1000 < r.amps.val) && decide (b * (100 + s.g PWR_ANOM_ANOM_PCT 0) < r.res.val * 100)
    | none => false) || decide (20 < r.share.val)
/-- An anomaly found in a quadrant: it is reported, and where the bank would have to exceed 0.95 V the limit of the site falls. -/
def State.takeAnomaly (s : State) (q : Nat) (reading : PathReading) : State :=
  let s := s.reportAnomaly q (if 20 < reading.share.val then reading.phase.val else 0)
  if decide (950 < reading.bankMv.val) && decide (reading.limit.val < s.power.anomLimit.get (q / 4) 720) then
    let s := { s with power := { s.power with anomLimit := s.power.anomLimit.put (q / 4) reading.limit.val } }
    (s.refreshSite (q / 4)).pwrRecord 0x5002 (q / 4) (q % 4) 0 0 none
  else s
/-- SUPPLY_ANOMALY (R265, R266). -/
def execSupplyAnomaly (quad : Quad) (reading : PathReading) (s : State) : Host.Outcome State Fault Refusal :=
  .next (if s.anomalous quad.val reading then s.takeAnomaly quad.val reading else s)

/-! ### Reactive mode and the alert (R272 to R274) -/

/-- REACTIVE written 1. -/
def State.predictive (s : State) (p : Nat) : State :=
  (s.setG PWR_PCFG_REACTIVE p 0).updPart p (fun x => { x with okStreak := 0, misStreak := 0, coolWin := 0 })
/-- PWR_REACTIVE_CLEAR (R272). -/
def execPwrReactiveClear (path : Path) (part : Part) (s : State) : Host.Outcome State Fault Refusal :=
  s.pageWrite path .pwr false true (fun s => s.predictive part.val)

/-- PWR_ALERT_ASSERT (R273): the wire has been low for 200 ns. -/
def execPwrAlertAssert (s : State) : Host.Outcome State Fault Refusal :=
  if s.flag PWR_ALERT_PIN 0 0 then .next s
  else .next (((s.beginAlert.setG PWR_ALERT_PIN 0 1).addReg PWR_ALERT_COUNT 0 0 1).pwrRecord 0x5020 63 0 0 0 none)
/-- PWR_ALERT_RELEASE (R273). -/
def execPwrAlertRelease (s : State) : Host.Outcome State Fault Refusal :=
  if s.flag PWR_ALERT_PIN 0 0 then .next (s.setG PWR_ALERT_PIN 0 0).holdAlert else .next s
/-- ALERT_HOLD_EXPIRY (R273). -/
def execAlertHoldExpiry (s : State) : Host.Outcome State Fault Refusal :=
  .next (if s.power.alertHold then s.endAlert else s)

/-- INTERNAL_ALERT (R274): the input power reads `pinW`; `excursion`: above 34 kW for 10 µs, else above 28 kW for 20 ms or as a 1 s mean. -/
def execInternalAlert (pinW : Fin 65536) (excursion : Bool) (s : State) : Host.Outcome State Fault Refusal :=
  if s.power.internal || decide (pinW.val ≤ if excursion then 34000 else 28000) then .next s
  else
    let s := (s.setG PWR_IN_P_PIN_W 0 pinW.val).beginAlert
    let s := { s with power := { s.power with internal := true } }
    .next ((s.setG PWR_STATUS_INTERNAL_ALERT 0 1).pwrRecord 0x5005 63 0 0 0 none)
/-- Every partition that is not in reactive mode enters it with F = 16. -/
def State.allReactive (s : State) : State :=
  (upTo 64).foldl (fun (s : State) p =>
    if s.partExists p && !s.flag PWR_PCFG_REACTIVE 0 p then
      (((s.setG PWR_PCFG_REACTIVE p 1).setG CSD_PSTRETCH_FACTOR p 16).updPart p (fun x => { x with capF := 16, okStreak := 0, coolWin := 0 }))
    else s) s
/-- INTERNAL_ALERT_RELEASE (R274): the input power has fallen below 28 kW. -/
def execInternalAlertRelease (pinW : Fin 65536) (s : State) : Host.Outcome State Fault Refusal :=
  if s.power.internal && decide (pinW.val < 28000) then
    let s := s.setG PWR_IN_P_PIN_W 0 pinW.val
    .next { s with power := { s.power with internal := false } }.allReactive.holdAlert
  else .next s

/-! ### The ageing margin (R276) -/

/-- The set point that a site is to take, in half millivolts before its limits. -/
def State.rawSet (s : State) (site : Nat) : Nat := 2 * s.power.vBase.get site 0 + 20 + s.power.mAge.get site 0
/-- AGE_MV and AGE_LIMIT of a site, with the record of a limit newly reached. -/
def State.judgeSet (s : State) (site : Nat) : State :=
  let beyond := s.power.vBase.has site && decide (1600 < s.rawSet site)
  let s := s.setG PWR_SCFG_AGE_MV site (10 + s.power.mAge.get site 0 / 2)
  if beyond && !s.flag PWR_SSTAT_AGE_LIMIT 0 site then (s.setG PWR_SSTAT_AGE_LIMIT site 1).pwrRecord 0x5030 site 0 0 0 none
  else s.setG PWR_SSTAT_AGE_LIMIT site (b2n beyond)
/-- AGEING_MEASURE (R276): the slowest replica of a site has slowed by `slow` percent since factory test. -/
def execAgeingMeasure (site : Site) (slow : Fin 256) (s : State) : Host.Outcome State Fault Refusal :=
  let m := max (s.power.mAge.get site.val 0) (min 100 (5 * slow.val))
  .next ({ s with power := { s.power with mAge := s.power.mAge.put site.val m } }.judgeSet site.val)

end Sys2Proof.Machine
end

