-- ==== Sys2Proof/Machine/Requests.lean ====
section
/-! DEFINITION. Host writes to request entries, the steward's scan of marked entries, prompts and transcripts, and the output ring
(09_serving_requests.md R218 to R224, R232 to R238). -/

namespace Sys2Proof.Machine

/-! ### Writes to a request entry (R218 to R220) -/

/-- A write through the request-table window of a path: a virtual function reaches the entries of its own partition. The management bus has no
such window (R388: its messages reach BAR0). -/
def State.reqWrite (s : State) (path : Path) (r : Nat) (act : State → State) : Host.Outcome State Fault Refusal :=
  if !s.pathUp path then .next s
  else match path with
    | .vf q =>
      if !s.negotiated path then .next (s.refuseWrite path .pci 0)
      else if s.reqOwner r == some q.val then .next (act s) else .next (s.discardWrite path)
    | .pf => if s.negotiated path then .next (act s) else .next (s.refuseWrite path .pci 0)
    | .mgmt => .next s

/-- An entry that no host write changes: a twin, a shadow entry of a chain, or an entry that firmware owns (R220, R248, R366). -/
def State.ownedEntry (s : State) (r : Nat) : Bool :=
  (s.req r).twin || s.link.shadowEnt.entries.any (fun e => e.2 == r) ||
  (match s.reqOwner r with
    | some p => s.smifort p
    | none => true)

/-- A refused write of the state word (R220). -/
def State.refuseState (s : State) (path : Path) (r : Nat) : State :=
  ((s.addReg (HDR_ERR_COUNT .stw) (fnOf path) 0 1).setG STW_STATUS_WRITE_REFUSED 0 1).record
    { code := 0x8001, unit := 10, part := s.reqOwner r, req := some r }
/-- A write to a field that the steward holds locked (R219). -/
def State.refuseLocked (s : State) (path : Path) (r : Nat) : State :=
  (s.addReg (HDR_ERR_COUNT .stw) (fnOf path) 0 1).record { code := 0x8002, unit := 10, part := s.reqOwner r, req := some r }

/-- Bits of an entry's word that hold a field (Table 9-1). -/
def wordMask (k : Nat) : Nat := if k = 1 then 0xFFFF0F7F else if k = 8 then 0xFFFFF0FF else 0xFFFFFFFF

/-- One word of bytes 4 to 51. -/
def State.writeField (s : State) (path : Path) (r k v : Nat) : State :=
  let q := s.req r
  if s.ownedEntry r then s.refuseState path r
  else if q.state == rsFree || q.terminal || q.state == rsPaused then s.updReq r (fun q => { q with words := q.words.put k (Nat.land v (wordMask k)) })
  else s.refuseLocked path r
/-- REQUEST_FIELD_WRITE (R219): a host write of word `word` + 1 (bytes 4 to 51) of an entry. -/
def execRequestFieldWrite (path : Path) (req : Req) (word : Fin 12) (value : Word32) (s : State) : Host.Outcome State Fault Refusal :=
  s.reqWrite path req.val (fun s => s.writeField path req.val (word.val + 1) value.toNat)

/-- A write of the state word that Table 9-2 allows, or refuses. -/
def State.stateWrite (s : State) (path : Path) (r : Nat) (ok : ReqSt → Bool) (act : State → State) : State :=
  if !s.ownedEntry r && ok (s.req r) then act s else s.refuseState path r
/-- A host command noted for the steward (R221), with the function that wrote it; a CANCEL over a pending CANCEL changes nothing. -/
def State.noteCmd (s : State) (fn r c : Nat) : State :=
  s.updReq r (fun q => { q with hcmd := c, marked := true, resumePend := q.resumePend && c != 1, cmdFn := fn })

/-- A submission starts a new request (R221, R224). -/
def State.submit (s : State) (r gen : Nat) : State :=
  { s with submits := s.submits + 1 }.setReq r { ReqSt.clear with
    state := rsSubmitted, gen := gen, words := (s.req r).words, marked := true, submitSeq := s.submits + 1 }
/-- The writes that Table 9-2 allows. -/
def State.writeSubmit (s : State) (path : Path) (r gen : Nat) : State :=
  s.stateWrite path r (fun q => (q.state == rsFree || q.terminal) && gen == (q.gen + 1) % 256) (fun s => s.submit r gen)
def State.writeFree (s : State) (path : Path) (r gen : Nat) : State :=
  s.stateWrite path r (fun q => q.terminal && gen == q.gen)
    (fun s => s.setReq r { ReqSt.clear with gen := gen, words := (s.req r).words })
def State.writeCancel (s : State) (path : Path) (r gen : Nat) : State :=
  s.stateWrite path r (fun q => q.live && gen == q.gen) (fun s => s.noteCmd (fnOf path) r 1)
def State.writePause (s : State) (path : Path) (r gen : Nat) : State :=
  s.stateWrite path r (fun q => q.state == rsDecode && q.hcmd == 0 && gen == q.gen) (fun s => s.noteCmd (fnOf path) r 2)
def State.writeResume (s : State) (path : Path) (r gen : Nat) : State :=
  s.stateWrite path r (fun q => q.state == rsPaused && q.hcmd == 0 && gen == q.gen) (fun s => s.noteCmd (fnOf path) r 3)
/-- SUBMIT (R220, R221). -/
def execSubmit (path : Path) (req : Req) (gen : Fin 256) (s : State) : Host.Outcome State Fault Refusal :=
  s.reqWrite path req.val (fun s => s.writeSubmit path req.val gen.val)
/-- FREE (R224): OUTCNT, CLEN, REASON, TWIN and LINK are cleared; GEN and bytes 4 to 51 stay. -/
def execFree (path : Path) (req : Req) (gen : Fin 256) (s : State) : Host.Outcome State Fault Refusal :=
  s.reqWrite path req.val (fun s => s.writeFree path req.val gen.val)
/-- CANCEL (R220, R238): it replaces a pending PAUSE or RESUME. -/
def execCancel (path : Path) (req : Req) (gen : Fin 256) (s : State) : Host.Outcome State Fault Refusal :=
  s.reqWrite path req.val (fun s => s.writeCancel path req.val gen.val)
/-- PAUSE (R220, R239). -/
def execPause (path : Path) (req : Req) (gen : Fin 256) (s : State) : Host.Outcome State Fault Refusal :=
  s.reqWrite path req.val (fun s => s.writePause path req.val gen.val)
/-- RESUME (R220, R239). -/
def execResume (path : Path) (req : Req) (gen : Fin 256) (s : State) : Host.Outcome State Fault Refusal :=
  s.reqWrite path req.val (fun s => s.writeResume path req.val gen.val)

/-! ### The windows of BAR2 (R218, R220, R230, Tables 15-2 and 15-4) -/

/-- The 64 bytes of an entry as words 0 to 15 (Table 9-1). -/
def ReqSt.word (q : ReqSt) (k : Nat) : Nat :=
  if k = 0 then q.state * 2 ^ 28 + q.hcmd % 16 * 2 ^ 24 + q.gen % 256 * 2 ^ 16
  else if k ≤ 12 then q.w k
  else if k = 13 then q.outcnt
  else if k = 14 then q.clen
  else q.reason % 256 * 2 ^ 24 + b2n q.twin * 2 ^ 20 + q.link % 2 ^ 20
/-- A write of the state word, by its HCMD and STATE: those of Table 9-2, or none (R220). -/
def State.writeState (s : State) (path : Path) (r w : Nat) : State :=
  let gen := bits w 23 16
  match bits w 27 24 with
  | 0 =>
    if bits w 31 28 = rsSubmitted then s.writeSubmit path r gen
    else if bits w 31 28 = rsFree then s.writeFree path r gen
    else s.refuseState path r
  | 1 => s.writeCancel path r gen
  | 2 => s.writePause path r gen
  | 3 => s.writeResume path r gen
  | _ => s.refuseState path r
/-- A word of an entry written: the state word, bytes 4 to 51, or bytes 52 to 63, where the write is discarded (R218). -/
def State.writeEntryWord (s : State) (path : Path) (r k w : Nat) : State :=
  if k = 0 then s.writeState path r w else if k ≤ 12 then s.writeField path r k w else s

/-- A place in BAR2: a word of a request entry, a half of a page table entry, or neither. -/
inductive Bar2Place where
  | entry (req word : Nat)
  | page (n half : Nat)
  | none
  deriving DecidableEq, Repr
/-- Where an offset of BAR2 leads for a function. -/
def State.bar2Place (s : State) (p : Path) (off : Nat) : Bar2Place := match p with
  | .vf q =>
    let x := s.part q.val
    if off < 0x800000 then
      (if off / 64 < x.reqCount && s.partExists q.val then .entry (x.reqFirst + off / 64) (off / 4 % 16) else .none)
    else if off < 0x1000000 then .page ((off - 0x800000) / 8) (off / 4 % 2)
    else .none
  | _ =>
    if off < 0x4000000 then (if off / 64 < 65536 then .entry (off / 64) (off / 4 % 16) else .none)
    else if off < 0x4800000 then .page ((off - 0x4000000) / 8) (off / 4 % 2)
    else .none
/-- A word written to BAR2; `full`: its byte enables cover the aligned word. Writes to the page table, and to no entry, are discarded and counted. -/
def State.bar2Store (s : State) (p : Path) (off : Nat) (full : Bool) (w : Nat) : State :=
  if !full then s.addReg (HDR_ERR_COUNT .stw) (fnOf p) 0 1
  else match s.bar2Place p off with
    | .entry r k => if s.negotiated p then s.writeEntryWord p r k w else s.refuseWrite p .pci 0
    | _ => s.addReg (HDR_ERR_COUNT .stw) (fnOf p) 0 1

/-! ### The scan, transcripts, prompts (R221, R222) -/

/-- Between two attempts with nothing of the step undone, or not stepping: where the steward's changes take effect (R223). -/
def State.atBoundary (s : State) (p : Nat) : Bool := (s.part p).phase == .stopped || ((s.part p).phase == .ready && (s.part p).attempt == 0)

/-- An event of a live request is deferred, and the entry stays marked (R236). -/
def ReqSt.waitsEvent (q : ReqSt) : Bool := q.live && (q.hcmd == 1 || q.endDue || (q.hcmd == 3 && q.state == rsPaused && !q.resumePend))
/-- STEWARD_ENTRY_SCAN (R221): a marked entry that is not bound, of a partition that is not stepping. -/
def execStewardEntryScan (req : Req) (s : State) : Host.Outcome State Fault Refusal :=
  if !s.stewardUp then .next s else
  let r := req.val
  let q := s.req r
  match s.reqOwner r with
  | none => .next s
  | some p =>
    if q.marked && q.slot.isNone && !s.runs p then
      .next (((s.reqEvents p r Commit.none).updReq r (fun q => { q with marked := q.waitsEvent })).journalAcc p)
    else .next s

/-- TRANSCRIPT_RESERVE (R222): a SUBMITTED request without a transcript reserves one where the allotment has room. -/
def execTranscriptReserve (req : Req) (s : State) : Host.Outcome State Fault Refusal :=
  if !s.stewardUp then .next s else
  let r := req.val
  let q := s.req r
  match s.reqOwner r with
  | none => .next s
  | some p =>
    if q.state == rsSubmitted && q.trOff.isNone && s.mayAdmit p && q.fieldsOk 1 && decide (q.promptLen + q.maxTok ≤ (s.part p).capacity) then
      .next (s.reserve p r)
    else .next s

/-- PROMPT_READ_DONE (R222): the prompt has been read from host memory into the transcript; none: a completion was unsuccessful or
poisoned, and the request ends at the next boundary. -/
def execPromptReadDone (req : Req) (data : Option (List (Fin 1048576))) (s : State) : Host.Outcome State Fault Refusal :=
  if !s.stewardUp then .next s else
  let r := req.val
  match s.reqOwner r with
  | none => .next s
  | some p =>
    if !(s.req r).promptPend || (data.isSome && !s.fnMayMaster (p + 1)) then .next s
    else match data with
      | none => .next (s.updReq r (fun q => { q with promptPend := false, readErr := true }))
      | some l =>
        if l.length = (s.req r).promptLen then
          .next ((s.appendToks p r 0 (l.map (·.val))).updReq r (fun q => { q with promptPend := false, promptDone := true }))
        else .next s

/-! ### Records and the ring (R215, R232 to R237) -/

/-- JOURNAL_ACK (R215): the oldest boundary's journal entry is acknowledged. -/
def execJournalAck (part : Part) (s : State) : Host.Outcome State Fault Refusal := .next (if s.stewardUp then s.journalDone part.val else s)
/-- RING_QUEUE_DRAIN (R234, R235): queued records are written while the ring has room. -/
def execRingQueueDrain (part : Part) (s : State) : Host.Outcome State Fault Refusal := .next (if s.stewardUp then s.drainQueue part.val else s)
/-- MODERATION_TIMER (R237). -/
def execModerationTimer (part : Part) (s : State) : Host.Outcome State Fault Refusal := .next (if s.stewardUp then s.modCheck part.val else s)

/-- STW_MOD_WRITE (R237): the moderation limits; a COUNT of 0 is refused (R395). -/
def State.writeMod (s : State) (path : Path) (p time count : Nat) : State :=
  if count = 0 then (s.setG STW_MOD_TIME_US p time).refuseWrite path .stw 0 |>.modCheck p
  else ((s.setG STW_MOD_TIME_US p time).setG STW_MOD_COUNT p count).modCheck p
def execStwModWrite (path : Path) (part : Part) (time count : Fin 65536) (s : State) : Host.Outcome State Fault Refusal :=
  s.pageWrite path .stw (ownSet path part.val) true (fun s => s.writeMod path part.val time.val count.val)

/-- EN of a ring written 1 (R232, R235): TAIL and HEAD restart at 0, and queued records flow. -/
def State.enableRing (s : State) (path : Path) (p : Nat) : State :=
  if s.flag STW_RING_CFG_EN 0 p then s
  else if s.runs p then s.refuseStatic path .stw 0 (STW_RING_CFG_EN.offset p)
  else (((s.setG STW_RING_CFG_EN p 1).setG STW_RING_TAIL_TAIL p 0).setG STW_RING_HEAD_HEAD p 0).drainQueue p
/-- RING_ENABLE (R232). -/
def execRingEnable (path : Path) (part : Part) (s : State) : Host.Outcome State Fault Refusal :=
  s.pageWrite path .stw (ownSet path part.val) true (fun s => s.enableRing path part.val)

end Sys2Proof.Machine
end

