-- ==== Sys2Proof/Machine/Parcels.lean ====
section
/-! DEFINITION. Parcels, rotation, resumption, time to live and hard deadlines (09_serving_requests.md R226, R239, R240). -/

namespace Sys2Proof.Machine

/-! ### Writing a parcel -/

/-- The header of a parcel in a spill region (R355): DEVICE_ID, partition, request, GEN, first and last position. -/
def State.parcelHeader (s : State) (p r : Nat) (good : List (Nat × PageEnt)) : List Byte :=
  let first := (good.map (·.2.fpos)).foldl min (s.req r).clen
  ((upTo 4).flatMap (fun i => bytesOf 4 (Config.deviceIdWord i))) ++ bytesOf 4 p ++ bytesOf 4 r ++ bytesOf 4 (s.req r).gen ++ bytesOf 4 first ++
    bytesOf 4 ((s.req r).clen - 1) ++ List.replicate 28 0#8
/-- The rows of a cache page are read, with correction and marks (R117, R118). -/
def State.readPage (s : State) (n : Nat) : State :=
  (upTo 64).foldl (fun (s : State) i => (s.readWords (n / 16) (64 * (n % 16) + i) 0 false).1) s
/-- The cache pages of a request read into its parcel, page after page, and freed. A page that holds poisoned words does not
survive: its positions are prefilled again. -/
def State.writeParcel (s : State) (p r : Nat) (spill : Bool) (off : Nat) : State :=
  let pages := s.reqPages r
  let s := pages.foldl (fun (s : State) e => s.readPage e.1) s
  let good := pages.filter (fun e => !s.pagePoisoned e.1)
  let low := (pages.filter (fun e => s.pagePoisoned e.1)).foldl (fun m e => min m e.2.fpos) (s.req r).nextPos
  let at_ := if spill then s.spillAddr p off + 64 else cisternBase p + off
  let mem := if spill then Memory.writeBytes s.mem (s.spillAddr p off) (s.parcelHeader p r good) else s.mem
  let mem := good.zipIdx.foldl (fun m e => Memory.copy m (pageAddr e.1.1) (at_ + 32768 * e.2) 32768) mem
  (s.setMem mem).freeReqPages r |>.updReq r (fun q => { q with
    parcel := some (off, (if spill then 64 else 0) + 32768 * good.length), parcelPages := good.map (fun e => (e.1 / 16, e.2.fpos))
    spillAt := if spill then some (s.spillAddr p off) else none
    spillCrcs := if spill then unitCrcs mem (s.spillAddr p off) 0 (64 + 32768 * good.length) else []
    parcelWait := false, nextPos := low })
/-- PARCEL_WRITE (R239, R355): the pages of a paused or parked request go to its parcel, once there is room. -/
def execParcelWrite (req : Req) (s : State) : Host.Outcome State Fault Refusal :=
  if !s.stewardUp then .next s else
  let r := req.val
  match s.reqOwner r with
  | none => .next s
  | some p =>
    if (s.req r).parcelWait && ((s.req r).state == rsPaused || (s.req r).state == rsParked) then
      match s.parcelPlace p r with
      | some (spill, off) => .next (s.writeParcel p r spill off)
      | none => .next s
    else .next s

/-! ### Rotation (R240) -/

/-- ROTATE_EXPIRY (R240): a DECODE request has run ROTATE_MS while a PARKED one of equal priority waits; it is parked at the next
commit boundary. -/
def execRotateExpiry (req : Req) (s : State) : Host.Outcome State Fault Refusal :=
  if !s.stewardUp then .next s else
  let r := req.val
  let q := s.req r
  match s.reqOwner r with
  | none => .next s
  | some p =>
    let ms := s.g STW_PCFG_ROTATE_MS p
    if q.state == rsDecode && !q.twin && ms != 0 && decide (q.decodeAt + 1000000 * ms ≤ s.ptp) && !s.smifort p &&
        (s.partReqs p).any (fun v => (s.req v).state == rsParked && (s.req v).prio == q.prio) then
      .next (s.updReq r (fun q => { q with parkNext := true }))
    else .next s

/-! ### Resumption (R239, R240) -/

/-- Positions of a request's next turn: those it has, with the tokens that a RESUME appends. -/
def State.turnLen (s : State) (r : Nat) : Nat := let q := s.req r; if q.state = rsPaused then q.clen + q.promptLen else q.clen
/-- The transcript extended for a new turn, for a package without a context bound: room is needed for what it grows by, since the space of the old
copies is its own. -/
def State.extendTr (s : State) (p r : Nat) : Option State :=
  let q := s.req r
  let need := q.clen + q.promptLen + q.maxTok
  if !(s.part p).attTiles.isEmpty || q.state != rsPaused || decide (need ≤ q.trLen) then some s
  else match q.trOff, twoFits ((s.updReq r (fun q => { q with trOff := none })).usedSpans p) (s.cistBytes p) need with
    | some o, some n =>
      let old (k : Nat) : List Byte := Memory.readBytes s.mem (cisternBase p + k) (4 * q.trLen)
      let m := Memory.writeBytes (Memory.writeBytes s.mem (cisternBase p + n.1) (old o.1)) (cisternBase p + n.2) (old o.2)
      some ((s.setMem m).updReq r (fun q => { q with trOff := some n, trLen := need }))
    | _, _ => none
/-- A PAUSED request whose RESUME is pending, or a PARKED request, finds pages and space. -/
def State.canReturn (s : State) (p r : Nat) : Bool :=
  let q := s.req r
  ((q.state == rsPaused && q.resumePend) || q.state == rsParked) && s.canSupply p r (s.turnLen r) && (s.extendTr p r).isSome
/-- Packets that bring the rows of a parcel back, by the restore rows of each tile. -/
def State.parcelPackets (s : State) (p r : Nat) : List Packet :=
  let q := s.req r
  let at_ := match q.spillAt with
    | some a => a + 64
    | none => cisternBase p + ((q.parcel).map (·.1)).getD 0
  q.parcelPages.zipIdx.flatMap (fun e =>
    match (upTo 16).map (pageNo e.1.1) |>.find? (fun n => (s.page n).pstate == 2 && (s.page n).req == r && (s.page n).fpos == e.1.2) with
    | none => []
    | some n => (upTo 64).map (fun k =>
        { enginePacket srcParcel p e.1.1 (s.reg BSN_SLUICE_IN_LAST e.1.1 0 - 7 + k % 8)
            (Memory.readBytes s.mem (at_ + 32768 * e.2 + 512 * k) 512) with index := n * 64 + k }))
/-- R355: a spill parcel that fails its check, that names another module, or whose entry is DOWN is lost: its positions are prefilled again. -/
def State.checkParcel (s : State) (p r : Nat) (crcOk : Bool) : State := match (s.req r).spillAt with
  | none => s
  | some a =>
    let crcOk := crcOk && (unitCrcs s.mem a 0 (((s.req r).parcel.map (·.2)).getD 0)).all (s.req r).spillCrcs.contains
    let own := Memory.readBytes s.mem a 16 == (upTo 4).flatMap (fun i => bytesOf 4 (Config.deviceIdWord i))
    if (s.req r).parcelWait || (crcOk && own && s.serverUp (s.g NET_SPILL_CFG_ENTRY p)) then s
    else
      let s := s.updReq r (fun q => { q with
        nextPos := (q.parcelPages.map (·.2)).foldl min q.nextPos, parcel := none, parcelPages := [], spillAt := none })
      s.record { code := 0xA026, unit := 13, part := some p, req := some r,
                 detail := s.g LD_SRV0_PORT (s.g NET_SPILL_CFG_ENTRY p) * 256 + 15 * 16 }
/-- Return to ADMITTED: pages allocated, tokens appended, the parcel's return begun, and its record. -/
def State.returnReq (s : State) (p r : Nat) (toks : List Nat) : State :=
  let q := s.req r
  let paused := q.state = rsPaused
  let s := (s.extendTr p r).getD s
  let lp := s.turnLen r
  let s := if paused then s.appendToks p r q.clen toks else s
  let s := (s.allocPages p r lp).updReq r (fun q => { q with
    state := rsAdmitted, clen := lp, nextPos := min q.nextPos (q.clen - 1), hcmd := if paused then 0 else q.hcmd, resumePend := false
    parcelWait := false, turnBase := if paused then q.outcnt else q.turnBase, prevSlot := none })
  let ps := if q.parcelWait then [] else s.parcelPackets p r
  let s := { s with flight := s.flight ++ ps }.updReq r (fun x => { x with returning := !ps.isEmpty, restoreLeft := ps.length })
  (s.pushRec p (s.mkRec p r 3 (s.req r).outcnt 0 8 [] false)).journalAcc p
/-- RESUME_READY (R239, R240): the first request in order that can return does so, at a commit boundary; `data`: the tokens that a RESUME
appends, none where their read failed; `parcelOk`: every CRC of a parcel that returns from a spill region agrees. -/
def execResumeReady (req : Req) (data : Option (List (Fin 1048576))) (parcelOk : Bool) (s : State) : Host.Outcome State Fault Refusal :=
  if !s.stewardUp then .next s else
  let r := req.val
  match s.reqOwner r with
  | none => .next s
  | some p =>
    let n := if (s.req r).state = rsPaused then (s.req r).promptLen else 0
    if s.mayAdmit p && s.atBoundary p && (s.inOrder (s.partReqs p)).find? (fun v => s.canReturn p v) == some r then
      if n = 0 then .next ((s.checkParcel p r parcelOk).returnReq p r [])
      else match data with
        | none => .next (((s.setG STW_STATUS_HOST_READ_ERR 0 1).failReq p r 11 0x8004).journalAcc p)
        | some l => if l.length = n && s.fnMayMaster (p + 1) then .next ((s.checkParcel p r parcelOk).returnReq p r (l.map (·.val))) else .next s
    else .next s
/-- PARCEL_RETURN_DONE (R239): every row of the parcel has been copied; the request is a candidate for binding. -/
def execParcelReturnDone (req : Req) (s : State) : Host.Outcome State Fault Refusal :=
  if !s.stewardUp then .next s else
  let q := s.req req.val
  if q.returning && q.restoreLeft == 0 then
    .next (s.updReq req.val (fun q => { q with returning := false, parcel := none, parcelPages := [], spillAt := none }))
  else .next s

/-! ### Time to live and deadlines (R226, R239) -/

/-- PARCEL_TTL_EXPIRY (R239): a PAUSED request has waited PTTL seconds. -/
def execParcelTtlExpiry (req : Req) (s : State) : Host.Outcome State Fault Refusal :=
  if !s.stewardUp then .next s else
  let r := req.val
  let q := s.req r
  match s.reqOwner r with
  | none => .next s
  | some p =>
    if q.state == rsPaused && decide (q.pausedAt + 10 ^ 9 * q.pttl ≤ s.ptp) && s.atBoundary p && !s.deferring p then
      .next ((s.failReq p r 6 0x8007).journalAcc p)
    else .next s
/-- HARD_DEADLINE (R226): a request's hard deadline has passed; at a commit boundary, or while the partition does not step. -/
def execHardDeadline (req : Req) (s : State) : Host.Outcome State Fault Refusal :=
  if !s.stewardUp then .next s else
  let r := req.val
  let q := s.req r
  match s.reqOwner r with
  | none => .next s
  | some p =>
    if q.live && !q.twin && q.late s.ptp && s.atBoundary p && !s.deferring p then .next ((s.failReq p r 5 0x8006).journalAcc p) else .next s

end Sys2Proof.Machine
end

