-- ==== Sys2Proof/Machine/Steward.lean ====
section
/-! DEFINITION. The standby steward and takeover, pairing, and Smifort mode (09_serving_requests.md R214 to R217, R242, R248, R249). -/

namespace Sys2Proof.Machine

/-! ### Takeover (R216, R217) -/

/-- The standby is lost: STANDBY_OK reads 0, and each boundary is journalled to the Cistern system area (R217). -/
def State.loseStandby (s : State) : State :=
  if s.flag STW_CTRL_STANDBY_OK 0 0 then (s.setG STW_CTRL_STANDBY_OK 0 0).record { code := 0x800F, unit := 10 } else s

/-- Every record whose ring write is not confirmed is marked REPEAT, and the journalled boundaries of a partition are completed. -/
def State.repeatRecs (s : State) (p : Nat) : State :=
  let s := s.updPart p (fun x => { x with
    queue := x.queue.map (fun r => { r with repeat_ := true }),
    journal := x.journal.map (fun j => { j with recs := j.recs.map (fun r => { r with repeat_ := true }) }) })
  (s.part p).journal.foldl (fun (s : State) _ => s.journalDone p) s

/-- The standby's mirrors of the request table and the page table (R214): it receives every write of the window and every journal entry, so they hold
what the tables hold while it is in step; a standby that is not has none. -/
def State.mirror (s : State) : Option (Map ReqSt × Map PageEnt) := if s.flag STW_CTRL_STANDBY_OK 0 0 then some (s.reqs, s.pages) else none
/-- R216: every running partition is held at its next commit boundary. -/
def State.holdRunning (s : State) : State :=
  s.parts.entries.foldl (fun (s : State) e => if s.flag CSD_PCFG_RUN 0 e.1 then s.updPart e.1 (fun x => { x with innerHold := true }) else s) s
/-- R216: the standby takes over, with its mirrors. No takeover is possible while it is not in step (R217). The steward that left has its mirror to
rebuild before STANDBY_OK reads 1 again. -/
def State.takeOver (s : State) : State :=
  match s.mirror with
  | none => s
  | some m =>
    let s := { s with reqs := m.1, pages := m.2, stewardHome := !s.stewardHome }.holdRunning
    let s := s.parts.entries.foldl (fun (s : State) e => s.repeatRecs e.1) s
    let s := (s.setG STW_CTRL_ACTIVE 0 (1 - s.g STW_CTRL_ACTIVE 0)).setG STW_STATUS_TAKEOVER 0 1
    let act := s.g RST_FW_ACT_SLOT 0
    let s := (s.setG RST_FW_ACT_SLOT 0 (s.g RST_FW_STBY_SLOT 0)).setG RST_FW_STBY_SLOT 0 act
    ((s.record { code := 0x800C, unit := 10 }).raiseInt 0 6).loseStandby

/-- The active steward fails: the standby takes over, and an update that was being confirmed is rolled back (R346 step 4). With no standby in step
nothing serves until a module reset (R217). -/
def State.stewardFails (s : State) : State :=
  if s.flag STW_CTRL_STANDBY_OK 0 0 && s.g RST_FW_UPD 0 == 2 then
    ((s.takeOver.setG RST_FW_UPD 0 3).raiseInt 0 6).record { code := 0x7086, unit := 14 }
  else if s.flag STW_CTRL_STANDBY_OK 0 0 then s.takeOver
  else { s with stewardUp := false }
/-- STEWARD_TAKEOVER (R216): the heartbeat was absent for HB_US, or a control core reports an internal fault. -/
def execStewardTakeover (s : State) : Host.Outcome State Fault Refusal := .next s.stewardFails
/-- STEWARD_SWAP (R216): STW_CTRL.SWAP, which takes effect at the next wafer step boundary (class B). -/
def State.askSwap (s : State) : State := { s with shadows := s.shadows.put (STW_CTRL_SWAP.key 0 0) 1 }
def execStewardSwap (path : Path) (s : State) : Host.Outcome State Fault Refusal :=
  s.pageWrite path .stw false true State.askSwap
/-- STANDBY_LOSS (R217). -/
def execStandbyLoss (s : State) : Host.Outcome State Fault Refusal := .next s.loseStandby
/-- STANDBY_RESYNC (R217): the mirror is rebuilt from the journal copies. -/
def execStandbyResync (s : State) : Host.Outcome State Fault Refusal := .next (if s.stewardUp then s.setG STW_CTRL_STANDBY_OK 0 1 else s)

/-! ### Pairing (R242) -/

/-- The resident packages of a pair: exactly one is a draft model. -/
def State.pairFlags (s : State) (p d : Nat) : Bool :=
  (s.part p).resident.isSome && (s.part d).resident.isSome && (bitAt (s.part p).hdr.mflags 0 != bitAt (s.part d).hdr.mflags 0)

/-- PEER of a KIND 4 delivery entry (Table 7-7). -/
def State.setPeer (s : State) (t d i : Nat) : State :=
  let x := Memory.readLE s.mem (dlvAddr t i) 16
  if bits x 63 60 = 4 then s.setMem (Memory.writeLE s.mem (dlvAddr t i) 16 (setBits x 59 54 d)) else s
/-- The delivery entries that serve the outbound rows of a partition's tiles. -/
def State.setPeers (s : State) (p d : Nat) : State :=
  (s.partTiles p).foldl (fun (s : State) t =>
    if s.flag BSN_SLUICE_OUT_EN t 0 then
      (upTo (s.reg BSN_SLUICE_OUT_LAST t 0 + 1 - s.reg BSN_SLUICE_OUT_FIRST t 0)).foldl (fun (s : State) i => s.setPeer t d i) s
    else s) s

/-- A refusal of R242 with code 0x8011. -/
def State.refusePair (s : State) (path : Path) (p : Nat) : State :=
  (s.refuseWrite path .stw 0).record { code := 0x8011, unit := 10, part := some p }

/-- The twins whose targets a partition holds end. -/
def State.endTwinsOf (s : State) (p : Nat) : State :=
  (s.reqs.entries.filter (fun e => e.2.twin && s.reqOwner e.2.link == some p)).foldl (fun (s : State) e => s.endTwin e.1) s

/-- Clearing PAIR_EN in either set ends the pairing; the other set keeps its word. -/
def State.unpair (s : State) (p : Nat) : State :=
  let d := s.g STW_PCFG_PEER p
  ((s.endTwinsOf p).endTwinsOf d).setG STW_PCFG_PAIR_EN p 0

/-- A write of PAIR_EN and PEER. -/
def State.pairing (s : State) (path : Path) (p : Nat) (en : Bool) (d : Nat) : State :=
  let was := s.flag STW_PCFG_PAIR_EN 0 p
  let old := s.g STW_PCFG_PEER p
  if was == en && old = d then s
  else if s.runs p || s.runs d || (was && s.runs old) then s.refuseStatic path .stw 0 (STW_PCFG_PAIR_EN.offset p)
  else if !en then ((if was then s.unpair p else s)).setG STW_PCFG_PEER p d
  else if !s.feature 3 then (s.refuseWrite path .stw 0).licRecord 3 (some p)
  else if d = p || s.smifort p || s.smifort d || !s.pairFlags p d then s.refusePair path p
  else
    let s := ((if was then s.unpair p else s).setG STW_PCFG_PAIR_EN p 1).setG STW_PCFG_PEER p d
    if (s.pairMate p).isSome then (s.setPeers p d).setPeers d p else s
/-- PAIRING_WRITE (R242). -/
def execPairingWrite (path : Path) (part : Part) (enable : Bool) (peer : Part) (s : State) : Host.Outcome State Fault Refusal :=
  s.ownerWrite path .stw (ownSet path part.val) (fun s => s.pairing path part.val enable peer.val)

/-! ### Smifort mode (R248, Tables 9-10 and 9-11) -/

/-- A write of SMIFORT: S class; setting it needs a range of at most 4,096 entries and the partition not paired. -/
def State.writeSmifort (s : State) (path : Path) (p : Nat) (en : Bool) : State :=
  if s.smifort p == en then s
  else if s.runs p then s.refuseStatic path .stw 0 (STW_PCFG_SMIFORT.offset p)
  else if en && (decide (4096 < (s.part p).reqCount) || s.paired p) then s.refuseWrite path .stw 0
  else s.setG STW_PCFG_SMIFORT p (b2n en)
/-- SMIFORT_ENABLE (R248). -/
def execSmifortEnable (path : Path) (part : Part) (enable : Bool) (s : State) : Host.Outcome State Fault Refusal :=
  s.ownerWrite path .stw (ownSet path part.val) (fun s => s.writeSmifort path part.val enable)

/-- The submission ring of a partition is in use. -/
def State.smiOn (s : State) (p : Nat) : Bool := s.smifort p && s.flag SMI_SQ_CFG_EN 0 p
/-- An entry of the submission ring is consumed: the engine consumer index is written to bytes 4 to 7 of the header. -/
def State.consume (s : State) (p : Nat) : State :=
  let n := ((s.part p).sqCons + 1) % 2 ^ 32
  let a := s.g SMI_SQ_HI_BASE_HI p * 2 ^ 32 + s.g SMI_SQ_LO_BASE_LO p * 4096 + 4
  let s := s.updPart p (fun x => { x with sqCons := n })
  (s.setMem (Memory.writeLE s.mem (hostBase + a) 4 n)).emit (.hostWrite a (bytesOf 4 n))
/-- The firmware has an entry to take. -/
def State.smiEntry (s : State) (p : Nat) : Bool := s.smiOn p && (s.part p).sqCons != (s.part p).sqProd
/-- A refused entry: a completion record with status 0x7F (Table 9-11); the entry stays in the ring while the output ring has no room. -/
def State.refuseS2 (s : State) (p tag : Nat) : State :=
  if s.ringRoom p 1 then
    (s.ringPut p (fun ph => s2Words ph tag 1 0x7F 0 0 (s.part p).count s.ptp) (Out.smi p tag)).consume p
  else s

/-- SMI_SQ_POLL (R248): the firmware reads the host producer index; `bad`: the next entry's OP is neither 1 nor 2, and its tag. -/
def execSmiSqPoll (part : Part) (producer : Fin 4294967296) (bad : Option (Fin 4294967296)) (s : State) : Host.Outcome State Fault Refusal :=
  if !s.stewardUp then .next s else
  let p := part.val
  if !s.smiOn p then .next s
  else
    let s := s.updPart p (fun x => { x with sqProd := producer.val })
    match bad with
    | none => .next s
    | some t => if s.smiEntry p then .next (s.refuseS2 p t.val) else .next s

/-- An entry that the firmware may use: FREE or terminal, none of its records waiting. -/
def State.smiFree (s : State) (p : Nat) : Option Nat :=
  (rowRun (s.part p).reqFirst (s.part p).reqCount).find? (fun r =>
    !(s.req r).live && !s.queued p r && !(s.part p).journal.any (fun j => j.recs.any (fun x => x.req == r)))

/-- The words of an entry that a GENERATE starts. -/
def genWords (e : S2Entry) : Map Nat :=
  let st := e.stop.toNat
  let l : List (Nat × Nat) :=
    [(1, bits e.flags.val 1 0 * 4 + 3), (4, e.seed.toNat % 2 ^ 32), (5, e.seed.toNat / 2 ^ 32), (6, e.temp.toNat), (7, e.topp.toNat),
     (8, bits st 19 0 * 4096 + bits st 31 31 * 128 + min 127 e.topk.val), (9, e.maxTokens.val),
     (10, e.promptAddr.val % 2 ^ 32), (11, e.promptAddr.val / 2 ^ 32), (12, e.promptLen.val)]
  l.foldl (fun (m : Map Nat) x => m.put x.1 x.2) Map.empty

/-- S2_GENERATE (R248): the next entry of the ring starts a request. -/
def execS2Generate (part : Part) (entry : S2Entry) (s : State) : Host.Outcome State Fault Refusal :=
  if !s.stewardUp then .next s else
  let p := part.val
  if !s.smiEntry p then .next s
  else if 4 ≤ entry.flags.val then .next (s.refuseS2 p entry.tag.val)
  else match s.smiFree p with
    | none => .next s
    | some r =>
      let g := ((s.req r).gen + 1) % 256
      let s := s.setReq r { s.req r with words := genWords entry }
      let s := (s.submit r g).updPart p (fun x => { x with tags := x.tags.put r entry.tag.val })
      .next (s.consume p)

/-- The request that a tag names. -/
def State.byTag (s : State) (p tag : Nat) : Option Nat :=
  (s.partReqs p).find? (fun r => (s.req r).live && (s.part p).tags.get? r == some tag)
/-- S2_CANCEL (R248): timing as R238. -/
def execS2Cancel (part : Part) (tag : Fin 4294967296) (s : State) : Host.Outcome State Fault Refusal :=
  if !s.stewardUp then .next s else
  let p := part.val
  if !s.smiEntry p then .next s
  else match s.byTag p tag.val with
    | none => .next (s.consume p)
    | some r => .next ((s.noteCmd (p + 1) r 1).consume p)

end Sys2Proof.Machine
end

