-- ==== Sys2Proof/Machine/Reset.lean ====
section
/-! DEFINITION. Resets of a tile, a site, a partition and the wafer compute, and function level resets
(13_bringup_reset_repair.md R326, R332 to R335). -/

namespace Sys2Proof.Machine

/-! ### The command register (Table 13-15) -/

/-- A command of RST_CMD begins. -/
def State.rstBegin (s : State) : State := ((s.setG RST_CMD_STS_STATE 0 1).setG RST_CMD_STS_COUNT 0 0).setG RST_CMD_STS_CODE 0 0
/-- It ends with a code. -/
def State.rstEnd (s : State) (code : Nat) : State :=
  ((s.setG RST_CMD_STS_STATE 0 (if code = 0 then 2 else 3)).setG RST_CMD_STS_CODE 0 code).raiseInt 0 2
/-- It is refused, with a record. -/
def State.rstRefused (s : State) (code : Nat) : State := (s.rstBegin.record { code := code, unit := 14 }).rstEnd code
/-- A record of a tile or repair event (R347): condition, logical tile. -/
def State.tileEvent (s : State) (code t cond : Nat) : State :=
  s.record { code := code, unit := 15, tile := some t, part := s.owner t, detail := cond * 4096 + s.physRow t * 64 + colOf t * 2 }

/-! ### Scopes (R332, R335) -/

def scTile : Nat := 1
def scSite : Nat := 2
def scPart : Nat := 3
def scWafer : Nat := 4

/-- Quadrants that a scope touches. -/
def State.scopeQuads (s : State) (r : ResetRun) : List Nat := match r.scope with
  | 1 => [quadOf r.target]
  | 2 => (upTo 4).map (· + r.target * 4)
  | 3 => s.partQuads r.target
  | _ => upTo 224
/-- The partitions that a scope stops. -/
def State.scopeParts (s : State) (r : ResetRun) : List Nat :=
  if r.scope = scPart then [r.target] else (upTo 64).filter (fun p => (s.partQuads p).any (fun q => (s.scopeQuads r).contains q))
/-- A larger scope `a` contains `b`. -/
def State.contains (s : State) (a b : ResetRun) : Bool :=
  a.scope != scTile && (b.scope == scTile || decide ((s.scopeQuads b).length < (s.scopeQuads a).length)) &&
    (s.scopeQuads b).all (fun q => (s.scopeQuads a).contains q)

/-! ### Trims kept over a reset (R326, R313, R314) -/

/-- Banks of a tile whose trims a snapshot and a restore bring back; the others are uncalibrated, and passes and remaps are abandoned. -/
def State.retrim (s : State) (t : Nat) : State :=
  let bad := ((upTo 9).flatMap (fun n => (upTo 2).map (fun pl => (n, pl)))).filterMap (fun e =>
    let held := s.cal.banks.get (bankKey t e.1 e.2) (if s.cal.epoch = 0 || s.cal.off.mem (quadOf t) then 4 else cmodeReset e.2)
    let f := if held = 4 then 5 else if held ≠ s.posCmode t e.1 e.2 then 6
      else if s.g CAL_CFG_RESTORE 0 < distance (s.tcalOf t e.1) (s.diodeOf t) then 7 else 0
    if f = 0 then none else some (bankKey t e.1 e.2, f))
  let c := s.cal
  let mine (pos : Nat) : Bool := pos / 9 == t
  let s := { s with cal := { c with
    banks := bad.foldl (fun (m : Map Nat) e => m.put e.1 4) c.banks
    pass := c.pass.keep (fun k _ => !mine k), passNow := c.passNow.keep (fun k _ => !mine k)
    remap := c.remap.keep (fun k _ => !mine k), remapNow := c.remapNow.keep (fun k _ => !mine k)
    gath := dropBanks c.gath (fun b => mine (b / 2)), tent := dropBanks c.tent (fun b => mine (b / 2))
    sigTent := c.sigTent.keep (fun k _ => !mine (k / 2)), work := c.work.keep (fun k _ => !mine (k / 2048 / 2)) } }
  match bad with
  | [] => s
  | e :: _ => (s.setReg CAL_STATUS_RFAIL t 0 e.2).calRecord t 0xB006 0 0 0 0 0

/-! ### Clearing tiles (Table 13-8) -/

/-- The tile to which an address of the compute domain belongs, and whether it lies in a Basin (lent pages: the tile at logical row 31 of the
column). -/
def computeTile (a : Nat) : Option (Nat × Bool) :=
  if a < 2 ^ 40 then
    if a / 32768 < 917504 then some (a / 524288, true)
    else let k := (a / 32768 - 917504) / 16; some (k / 32 * 1024 + 31 * 32 + k % 32, true)
  else if a < 2 ^ 41 then some ((a - 2 ^ 40) / 65536 / 18, false)
  else if a < 2 ^ 42 then some ((a - 2 ^ 41) / 65536, false)
  else if a < 2 ^ 43 then some ((a - 2 ^ 42) / 16384, false)
  else if a < 2 ^ 44 then some ((a - 2 ^ 43) / 65536 / 9, false)
  else if a < 2 ^ 45 then some ((a - 2 ^ 44) / 16384 / 9, false)
  else if decide (2 ^ 48 ≤ a) && decide (a < 2 ^ 49) then some ((a - 2 ^ 48) / 65536, false)
  else none
/-- Fields of tile pages that a reset keeps: the spares in use, and fencing. -/
def keptField (k : Nat) : Bool :=
  let t := k / 32 / 4096 % 65536
  k == SEQ_STATUS_FENCED.key t 0 || k == RTR_STATUS_FENCED.key t 0 || k == CAL_STATUS_RFAIL.key t 0 ||
  (upTo 8).any (fun n => [ARR_SPARE_MAP_P0_ROWS, ARR_SPARE_MAP_P1_ROWS, ARR_SPARE_MAP_P0_GROUPS, ARR_SPARE_MAP_P1_GROUPS,
    ARR_SPARE_MAP_SPARE_ARRAY].any (fun f => k == f.key t n))
/-- A stored field lies in a page of a tile that passes a test. -/
def fieldOf (q : Nat → Bool) (k : Nat) : Bool := decide (0x20 ≤ k / 32 / 4096 / 65536) && q (k / 32 / 4096 % 65536)

/-- Registers, tables, banks and engine state of the tiles that pass a test are reset; `basin`: with their Basin slices, whose cache pages
are lost. -/
def State.clearTiles (s : State) (q : Nat → Bool) (basin : Bool) : State :=
  { s with
    regs := s.regs.keep (fun k _ => !fieldOf q k || keptField k), shadows := s.shadows.keep (fun k _ => !fieldOf q k)
    mem := s.mem.keep (fun a _ => match computeTile a with
      | some (t, b) => !q t || (b && !basin)
      | none => true)
    tiles := s.tiles.mapVal (fun t x =>
      if !q t then x
      else if basin then { x.repairs with weakWait := x.weakWait, tracked := x.tracked }
      else { x.repairs with
        weakWait := x.weakWait, tracked := x.tracked, scrubRow := x.scrubRow, poisonMark := x.poisonMark, flips := x.flips, tags := x.tags
        restoreDst := x.restoreDst })
    pages := if basin then s.pages.mapVal (fun n e =>
        if decide (n < 917504) && q (n / 16) && e.pstate == 2 then { e with pstate := 4 } else e) else s.pages }

/-! ### Absorbing (R333 step 3) -/

/-- A packet comes from a tile that passes a test, or goes to one. -/
def Packet.touches (k : Packet) (q : Nat → Bool) : Bool :=
  (decide (k.src < 57344) && q k.src) ||
  ((decide (57344 ≤ k.src) || k.kind == 1 || k.kind == 4) && decide (k.dst < 57344) && q k.dst)
/-- Packets that touch the tiles are taken off the network: an acknowledgement on its way completes, every other packet is discarded and its
source told. The answer is the number discarded. -/
def State.absorb (s : State) (q : Nat → Bool) : State × Nat :=
  let hit := s.flight.filter (fun k => k.touches q)
  let s := { s with flight := s.flight.filter (fun k => !k.touches q) }
  let s := (hit.filter (·.done)).foldl (fun (s : State) k =>
    if s.outWin k.src k.row && s.tag k.src k.row == 1 then s.setTag k.src k.row 0 else s) s
  let lost := hit.filter (fun k => !k.done)
  let s := lost.foldl (fun (s : State) k => s.answer k 3) s
  (s.addReg RST_ABSORBED_COUNT 0 0 lost.length, lost.length)

/-! ### Requests over a reset -/

/-- Returns of parcels under way into a lost Basin are cut off: the request is rebuilt from its transcript. -/
def State.cutReturns (s : State) (p : Nat) : State :=
  (s.partReqs p).foldl (fun (s : State) r =>
    if (s.req r).returning then s.updReq r (fun q => { q with returning := false, restoreLeft := 0, parcel := none, parcelPages := [], spillAt := none }) else s) s

/-- A partition stops for a reset of its compute: a replacement in progress goes as after a Cascade stop (R209); with a resident package it is
WRITING until its tiles are rewritten (Table 8-6). -/
def State.resetPart (s : State) (p : Nat) : State :=
  let x := s.part p
  let s := match x.starting with
    | some n => (s.updPart p (fun x => { x with starting := none })).cmdEnd n (some p) 0x9029
    | none => s
  let s := if s.runs p && x.install.isSome then s.cascadeStop p (s.g LD_PSTATE_STOPR p)
    else if (s.runs p || s.pstate p == psReady) && x.resident.isSome then
      let s := match x.stopSlot with
        | some n => (s.updPart p (fun x => { x with stopSlot := none })).cmdEnd n (some p) 0
        | none => s
      ((s.clearBindings p).startWrite p).chainStop p
    else s
  ((s.updPart p (fun x => { x with lostQuads := Map.empty })).cutReturns p).adjustPart p

/-! ### A reset from its request to its end (R333, R335) -/

/-- The partitions of a scope are aborted. -/
def State.scopeAbort (s : State) (r : ResetRun) : State := (s.scopeParts r).foldl (fun (s : State) p => s.abortPart p) s
/-- A reset starts: its partitions are aborted, and the drain begins. -/
def State.startReset (s : State) (r : ResetRun) : State :=
  (({ s with repair := { s.repair with running := some r } }).scopeAbort r).rstBegin
/-- A reset requested: a larger scope takes a running one over, any other waits for it. -/
def State.askReset (s : State) (r : ResetRun) : State := match s.repair.running with
  | none => s.startReset r
  | some x =>
    if s.contains r x then s.startReset r
    else { s with repair := { s.repair with waiting := s.repair.waiting ++ [r] } }

/-- Tiles of a partition written again from the resident copy, and the partition resumed; from a damaged copy nothing is written (R342), and
the partition stays stopped. -/
def State.rewriteResume (s : State) (p : Nat) (sel : Nat → Bool) : State :=
  if ((s.part p).resident.map (·.lost)).getD false then
    let qs := (s.partQuads p).filter (fun q => (tilesOfQuad q).any sel)
    (((s.updPart p (fun x => { x with lostQuads := qs.foldl (fun (m : NatSet) q => m.add q) x.lostQuads })).ldRecord (some p) 0x9028 0 0)).abortStop p 2
  else (s.rewriteTiles p sel).resumePart p

/-- What follows for a partition once its tiles have been reset. -/
def State.afterReset (s : State) (r : ResetRun) (p : Nat) : State :=
  if r.scope = scPart || r.scope = scWafer then s.resetPart p
  else
    let s := if r.scope = scSite then s.cutReturns p else s
    if r.scope = scSite && (s.part p).install.isSome && s.runs p then s.resetPart p
    else if s.pstate p = psWriting then s
    else s.rewriteResume p (s.inScope r)

/-- The scope is reset (steps 3 and 4). -/
def State.endReset (s : State) (r : ResetRun) : State :=
  let sel := s.inScope r
  let s := s.scopeAbort r
  let x := s.absorb sel
  let p := if r.scope = scPart then some r.target else none
  let s := x.1.record { code := 0x4050, unit := 15, part := p, detail := min x.2 65535 }
  let ts := (s.scopeQuads r).flatMap tilesOfQuad |>.filter sel
  let s := ts.foldl (fun (s : State) t => s.retrim t) s
  let s := s.clearTiles sel (r.scope != scTile)
  let s := (s.scopeParts r).foldl (fun (s : State) p => s.afterReset r p) s
  let s := s.record { code := 0x4051, unit := 15, part := p, tile := if r.scope = scTile then some r.target else none, detail := r.scope * 4096 }
  match s.repair.waiting with
  | [] => { s with repair := { s.repair with running := none } }.rstEnd 0
  | w :: l => ({ s with repair := { s.repair with running := none, waiting := l } }.rstEnd 0).startReset w

/-- A takeover of the steward still holds a running partition (R216). -/
def State.takingOver (s : State) : Bool := s.parts.entries.any (fun e => e.2.innerHold && s.flag CSD_PCFG_RUN 0 e.1)
/-- RESET_DRAIN_END (R333): the drain is complete, or DRAIN_US has passed. A reset waits for a takeover to complete (R335). -/
def execResetDrainEnd (s : State) : Host.Outcome State Fault Refusal := match s.repair.running with
  | some r => .next (if s.takingOver then s else s.endReset r)
  | none => .next s

/-! ### The commands (R334) -/

/-- A write of RST_CMD. -/
def State.rstWrite (s : State) (path : Path) (act : State → State) : Host.Outcome State Fault Refusal := s.pageWrite path .rst false true act

/-- TILE_RESET; `target` is TARGET of RST_CMD. -/
def State.tileReset (s : State) (target : Nat) : State := match tileOfAddr target with
  | some t => s.askReset ⟨scTile, t⟩
  | none => s.rstRefused 0x9029
def execTileReset (path : Path) (target : Fin 1048576) (s : State) : Host.Outcome State Fault Refusal :=
  s.rstWrite path (fun s => s.tileReset target.val)
/-- SITE_RESET: TARGET [19:12] is the site. -/
def State.siteReset (s : State) (target : Nat) : State :=
  if bits target 19 12 < 56 then s.askReset ⟨scSite, bits target 19 12⟩ else s.rstRefused 0x9029
def execSiteReset (path : Path) (target : Fin 1048576) (s : State) : Host.Outcome State Fault Refusal :=
  s.rstWrite path (fun s => s.siteReset target.val)
/-- PART_RESET. -/
def State.partReset (s : State) (p : Nat) : State :=
  if s.partExists p then s.askReset ⟨scPart, p⟩ else s.rstRefused 0x9029
def execPartReset (path : Path) (part : Part) (s : State) : Host.Outcome State Fault Refusal :=
  s.rstWrite path (fun s => s.partReset part.val)
/-- WAFER_RESET. -/
def execWaferReset (path : Path) (s : State) : Host.Outcome State Fault Refusal :=
  s.rstWrite path (fun s => s.askReset ⟨scWafer, 0⟩)

/-! ### Function level resets (R334) -/

/-- The PCI Express state of a function: mastering, MSI-X, and its copy of the PCI page. -/
def State.resetFn (s : State) (fn : Nat) : State :=
  let l := s.link
  ({ s with link := { l with
    busMaster := l.busMaster.del fn, msixOpen := l.msixOpen.keep (fun k _ => k / 128 != fn), msixPend := l.msixPend.keep (fun k _ => k / 128 != fn)
    msixTable := l.msixTable.keep (fun k _ => k / 512 != fn) } }).resetPage .pci fn
/-- R388: a function's negotiation is cleared. -/
def State.clearNeg (s : State) (fn : Nat) : State := s.resetReg SEC_NEG_MAJOR fn 0

/-- Every entry of a partition's range is FREE, and what it held is released once; no record is written. -/
def State.freeRange (s : State) (p : Nat) : State :=
  let s := s.updPart p (fun x => { x with acc := [], accRows := [], journal := x.journal.map (fun j => { j with recs := [] }), tags := Map.empty })
  (s.partReqs p).foldl (fun (s : State) r =>
    if (s.req r).twin then s.endTwin r
    else
      let s := if (s.req r).live && s.chainHead p then s.tell p 2 [r] else s
      let s := if (s.req r).live then s.release p r else s
      s.setReq r { ReqSt.clear with gen := (s.req r).gen, words := (s.req r).words }) s

/-- VF_FLR (R334): virtual function p + 1. -/
def State.vfFlr (s : State) (p : Nat) : State :=
  let s := (s.resetFn (p + 1)).clearNeg (p + 1)
  if s.partExists p then
    let s := s.askReset ⟨scPart, p⟩
    let s := ((s.setG STW_RING_CFG_EN p 0).resetReg STW_MOD_TIME_US 0 p).resetReg STW_MOD_COUNT 0 p
    let s := s.updPart p (fun x => { x with sinceSig := 0, firstUnsig := none })
    (s.discardQueue p).freeRange p
  else s
def execVfFlr (part : Part) (s : State) : Host.Outcome State Fault Refusal :=
  if s.link.pcieUp && s.link.vfEnable then .next (s.vfFlr part.val) else .next s

/-- A STAGE from host memory fails (R334). -/
def State.failHostStages (s : State) : State :=
  s.parts.entries.foldl (fun (s : State) e => match (s.part e.1).stage with
    | some g => if g.src = 1 then s.stageFail e.1 0x9027 0 0xFFFF else s
    | none => s) s
/-- Sessions on the DOE mailbox close. -/
def State.closeDoe (s : State) : State := { s with link := { s.link with sessions := s.link.sessions.keep (fun k _ => decide (4 ≤ k)) } }
/-- PF_FLR (R334). -/
def State.pfFlr (s : State) : State :=
  let s := ((s.resetFn 0).clearNeg 0).closeDoe
  ({ s with link := { s.link with vfEnable := false } }).failHostStages
def execPfFlr (s : State) : Host.Outcome State Fault Refusal := if s.link.pcieUp then .next s.pfFlr else .next s

end Sys2Proof.Machine
end

