-- ==== Sys2Proof/Machine/Licence.lean ====
section
/-! DEFINITION. Saffron certificates (13_bringup_reset_repair.md R328 to R331). -/

namespace Sys2Proof.Machine

/-! ### Certificates (Table 13-7): 40 words -/

def certWord (c : List Nat) (k : Nat) : Nat := c.getD k 0
def certVersion (c : List Nat) : Nat := certWord c 0 % 65536
def certSerial (c : List Nat) : Nat := certWord c 1
def certFeatures (c : List Nat) : Nat := certWord c 6 % 16
/-- Bound to this device. -/
def certHere (c : List Nat) : Bool := (upTo 4).all (fun i => certWord c (2 + i) == Config.deviceIdWord i % 2 ^ 32)
/-- The certificate in the buffer LIC_CERT. -/
def State.certBuffer (s : State) : List Nat := (upTo 40).map (fun i => s.g LIC_CERT i)

/-- A record of class C (R331): feature, slot (31 none). -/
def State.certRecord (s : State) (code feature slot : Nat) : State :=
  s.record { code := code, unit := 14, detail := feature * 4096 + slot * 128 }
/-- The slot registers of one slot: `failed`: its certificate failed at the last bring-up. -/
def State.showSlot (s : State) (n : Nat) (failed : Bool) : State := match s.repair.certs.get? n with
  | none => (((s.setG LIC_SLOT_SER_SERIAL n 0).setG LIC_SLOT_FEAT_VALID n 0).setG LIC_SLOT_FEAT_FAILED n 0).setG LIC_SLOT_FEAT_FEATURES n 0
  | some c =>
    (((s.setG LIC_SLOT_SER_SERIAL n (certSerial c)).setG LIC_SLOT_FEAT_VALID n (b2n !failed)).setG LIC_SLOT_FEAT_FAILED n (b2n failed)).setG
      LIC_SLOT_FEAT_FEATURES n (certFeatures c)
/-- Features of the valid certificates, those of some slots left out. -/
def State.featuresBut (s : State) (out : Nat → Bool) : Nat :=
  ((upTo 16).filter (fun n => s.flag LIC_SLOT_FEAT_VALID 0 n && !out n)).foldl (fun m n => Nat.lor m (s.g LIC_SLOT_FEAT_FEATURES n)) 0
/-- COUNT and FEATURES of LIC_STATUS. -/
def State.showLic (s : State) : State :=
  (s.setG LIC_STATUS_COUNT 0 s.repair.certs.entries.length).setG LIC_STATUS_FEATURES 0 (s.featuresBut (fun _ => false))
/-- R330 at a bring-up: every stored certificate is checked again; `bad`: the slots whose certificate fails. -/
def State.checkCerts (s : State) (bad : List Nat) : State :=
  let s := (upTo 16).foldl (fun (s : State) n => s.showSlot n (bad.contains n)) s
  let s := (upTo 16).foldl (fun (s : State) n => if s.repair.certs.has n && bad.contains n then s.certRecord 0xC007 0 n else s) s
  s.showLic

/-! ### The command register -/

def State.licEnd (s : State) (code : Nat) : State :=
  ((s.setG LIC_CMD_STS_STATE 0 (if code = 0 then 2 else 3)).setG LIC_CMD_STS_CODE 0 code).raiseInt 0 3
def State.licRefused (s : State) (code feature slot : Nat) : State := (s.certRecord code feature slot).licEnd code
/-- The first slot of the store without a certificate. -/
def State.freeCert (s : State) : Option Nat := (upTo 16).find? (fun n => !s.repair.certs.has n)

/-- INSTALL of LIC_CMD (R329); `signed`: the signature is valid under a Nalaskos licence key. -/
def State.licInstall (s : State) (signed : Bool) : State :=
  let c := s.certBuffer
  if certVersion c ≠ 1 then s.licRefused 0xC005 0 31
  else if !signed then s.licRefused 0xC002 0 31
  else if !certHere c then s.licRefused 0xC003 0 31
  else if s.repair.certs.entries.any (fun e => certSerial e.2 == certSerial c) then s.licEnd 0
  else match s.freeCert with
    | none => s.licRefused 0xC004 0 31
    | some n => (({ s with repair := { s.repair with certs := s.repair.certs.put n c } }.showSlot n false).showLic).licEnd 0
def execLicInstall (path : Path) (signed : Bool) (s : State) : Host.Outcome State Fault Refusal :=
  s.pageWrite path .lic false true (fun s => s.licInstall signed)

/-- A feature is in use (R330): 1 partitions beyond 16, 2 Chained mode, 3 pairing, 4 Cistern beyond 1,152 GB. -/
def State.featureUsed (s : State) (f : Nat) : Bool := match f with
  | 1 => (upTo 64).any (fun p => decide (16 ≤ p) && s.partExists p)
  | 2 => s.link.chainMode
  | 3 => (upTo 64).any (fun p => s.flag STW_PCFG_PAIR_EN 0 p)
  | _ => decide (1152 < ((s.parts.entries.filter (fun e => s.partExists e.1)).map (fun e => e.2.cistGb)).foldl (· + ·) 0)
/-- REMOVE of LIC_CMD (R330). -/
def State.licRemove (s : State) (n : Nat) : State :=
  let left := s.featuresBut (fun k => k == n)
  match [1, 2, 3, 4].find? (fun f => s.feature f && !bitAt left (f - 1) && s.featureUsed f) with
  | some f => s.licRefused 0xC006 f n
  | none => (({ s with repair := { s.repair with certs := s.repair.certs.del n } }.showSlot n false).showLic).licEnd 0
def execLicRemove (path : Path) (slot : Fin 16) (s : State) : Host.Outcome State Fault Refusal :=
  s.pageWrite path .lic false true (fun s => s.licRemove slot.val)

end Sys2Proof.Machine
end

