-- ==== Sys2Proof/Machine/Repair.lean ====
section
/-! DEFINITION. Repair in service: spare arrays, column shifts, fencing in place, stacks and rim dies that fail, and tests of spare tiles
(02 R54; 13 R336 to R345). -/

namespace Sys2Proof.Machine

/-! ### The spare array (R54, R311) -/

/-- Logical array `n` of a tile is to be replaced. -/
def State.arrayNeeds (s : State) (t n : Nat) : Bool :=
  s.cal.needSpare.mem (t * 8 + n) || (upTo 2).any (fun pl => s.reg (bstateF pl) t n == bsFailed)

/-- Banks of a tile that pass a test, by array and plane, are written from the resident copy, and calibrated where they need it and `cal` is set. -/
def State.refillBanks (s : State) (t : Nat) (q : Nat → Nat → Bool) (cal : Bool) : State := match s.owner t with
  | none => s
  | some p => match (s.part p).resident, (s.part p).info with
    | some k, some info => match s.planOf p k.area info with
      | none => s
      | some g =>
        let j := s.scratch g
        let l := (j.1.placesOf j.2).filter (fun e => e.1 == t && q e.2.array e.2.plane)
        let s := l.foldl (fun (s : State) e => s.writeBankImage j.2 t e.2) j.1
        (if cal then s.calibratePlaces l else s).endScratch
    | _, _ => s

/-- Both banks of the spare array written, its tables copied, its trims seen to, and the logical number given to it. -/
def State.takeSpare (s : State) (t n : Nat) : State :=
  let s := (s.coolQuads [quadOf t]).giveSpare t n
  let m := Memory.copy (Memory.copy s.mem (scaleBase t n) (scaleBase t 8) 0x10000) (tailBase t n) (tailBase t 8) 0x4000
  let c := s.cal
  let s := { (s.setMem m) with cal := { c with
    needSpare := c.needSpare.del (t * 8 + n), pass := c.pass.del (posKey t n), passNow := c.passNow.del (posKey t n)
    remap := c.remap.del (posKey t n), remapNow := c.remapNow.del (posKey t n), fails := c.fails.del (posKey t n)
    spare := c.spare.del t, spareNow := c.spareNow.del t } }
  s.refillBanks t (fun k _ => k == n) true

/-- The attempt in progress of a tile's partition becomes a faulted step that is not retried (R336). -/
def State.faultNoRetry (s : State) (t : Nat) : State := match s.owner t with
  | none => s
  | some p => (s.updTile t (fun x => { x with report := { x.report with fault := true } })).updPart p (fun x => { x with noRetry := true })
/-- A failed tile is fenced, with its record (R336). -/
def State.fenceTile (s : State) (t cond : Nat) : State :=
  let s := { s with repair := { s.repair with failSince := true } }
  let s := (s.setReg SEQ_STATUS_FENCED t 0 1).setReg RTR_STATUS_FENCED t 0 1
  (s.tileEvent 0x4040 t cond).faultNoRetry t
/-- A partition that uses a tile which stays fenced is stopped: at the boundary of the attempt in progress, or at once. -/
def State.fenceStop (s : State) (p : Nat) : State := if (s.part p).phase == .attempt then s else s.abortStop p 2

/-! ### Column shift (R338, R339) -/

/-- Shifts in force at a logical row: failures at or north of its place. -/
def State.shiftCount (s : State) (site col row : Nat) : Nat :=
  let w := s.column site col
  let p := s.physRow (site * 1024 + row * 32 + col)
  b2n (decide (1 ≤ bits w 31 30) && decide (bits w 29 24 ≤ p)) + b2n (decide (2 ≤ bits w 31 30) && decide (bits w 23 18 ≤ p))
/-- Tiles of the moving segment, from the failed one south. -/
def segment (t : Nat) : List Nat := (upTo (32 - rowOf t)).map (fun k => t + 32 * k)
/-- The reach of the links that would change (R338). -/
def State.reachOk (s : State) (t : Nat) : Bool :=
  let site := siteOf t
  let col := colOf t
  let row := rowOf t
  if 2 ≤ row || site < 8 then true
  else
    let new (r : Nat) : Nat := s.shiftCount site col r + b2n (decide (row ≤ r))
    decide (new 0 ≤ s.shiftCount (site - 8) col 30) && decide (new 1 ≤ s.shiftCount (site - 8) col 31)
/-- A usable spare is left, the links stay within reach, and no other tile of the segment is fenced. -/
def State.shiftable (s : State) (t : Nat) : Bool :=
  let w := s.column (siteOf t) (colOf t)
  decide (bits w 31 30 + bits w 17 17 + bits w 16 16 < 2) && s.reachOk t &&
    (segment t).all (fun x => x == t || !s.flag SEQ_STATUS_FENCED x 0)
/-- The column entry with a failure more. -/
def shiftedWord (w phys : Nat) : Nat :=
  if bits w 31 30 = 0 then setBits (setBits w 31 30 1) 29 24 phys else setBits (setBits w 31 30 2) 23 18 phys

/-- Lent pages of a column are withdrawn (R26): a request's pages among them are lost. -/
def State.withdrawLent (s : State) (site col : Nat) : State :=
  let base := 917504 + (site * 32 + col) * 16
  { s with
    repair := { s.repair with withdrawn := s.repair.withdrawn.add (site * 32 + col) }
    pages := s.pages.mapVal (fun n e => if decide (base ≤ n) && decide (n < base + 16) && e.pstate == 2 then { e with pstate := 4 } else e)
    mem := Memory.zero s.mem (pageAddr base) (16 * 32768) }
/-- The column entry replaced; pages that are then no longer lent are withdrawn. -/
def State.setColumn (s : State) (site col w : Nat) : State :=
  let had := s.lends site col
  let s := { s with repair := { s.repair with columns := s.repair.columns.put (site * 32 + col) w } }
  if had && !s.lends site col then s.withdrawLent site col else s

/-- The weights and tables of a logical array that another array position serves from now on. -/
def State.moveArray (s : State) (t a b : Nat) : State :=
  if a = b then s
  else
    let m := Memory.copy s.mem (bankRow t a 0 0) (bankRow t b 0 0) 0x20000
    s.setMem (Memory.copy (Memory.copy m (scaleBase t a) (scaleBase t b) 0x10000) (tailBase t a) (tailBase t b) 0x4000)
/-- What belongs to the physical tile one place south comes with it: its spares, its weak rows, its replaced rows. `none`: a spare tile. -/
def State.takePlace (s : State) (old : State) (t : Nat) (from_ : Option Nat) : State :=
  let fs := [ARR_SPARE_MAP_P0_ROWS, ARR_SPARE_MAP_P1_ROWS, ARR_SPARE_MAP_P0_GROUPS, ARR_SPARE_MAP_P1_GROUPS, ARR_SPARE_MAP_SPARE_ARRAY]
  let s := (upTo 9).foldl (fun (s : State) n => fs.foldl (fun (s : State) f =>
    s.setReg f t n ((from_.map (fun u => old.reg f u n)).getD 0)) s) s
  let x := (from_.map old.tile).getD TileSt.clear
  let s := s.updTile t (fun y => { y with badRows := Map.empty, sparedRows := x.sparedRows, weakWait := [], tracked := [], scrubRow := 0 })
  let ns := upTo 8
  let s := (ns.filter (fun n => old.arrPos t n == 8)).foldl (fun (s : State) n => s.moveArray t 8 (s.arrPos t n)) s
  (ns.filter (fun n => old.arrPos t n != 8)).foldl (fun (s : State) n => s.moveArray t n (s.arrPos t n)) s

/-- FAILED banks of a tile that other arrays serve now: EMPTY, and written from the resident copy. -/
def State.freshBanks (s : State) (t : Nat) : State :=
  let bad := (upTo 16).filter (fun k => s.reg (bstateF (k % 2)) t (k / 2) == bsFailed)
  if bad.isEmpty then s
  else (bad.foldl (fun s k => s.setReg (bstateF (k % 2)) t (k / 2) bsEmpty) s).refillBanks t (fun n pl => bad.contains (2 * n + pl)) false

/-- The trims of a moved tile belong to other converters: every bank in use is calibrated in foreground (R339 step 7). -/
def State.recalibrate (s : State) (t : Nat) : State :=
  let c := s.cal
  let mine (pos : Nat) : Bool := pos / 9 == t
  let s := { s with cal := { c with
    banks := (upTo 18).foldl (fun (m : Map Nat) k => m.put (t * 18 + k) 4) c.banks
    pass := c.pass.keep (fun k _ => !mine k), passNow := c.passNow.keep (fun k _ => !mine k), remap := c.remap.keep (fun k _ => !mine k)
    remapNow := c.remapNow.keep (fun k _ => !mine k), fails := c.fails.keep (fun k _ => !mine k), spare := c.spare.del t
    spareNow := c.spareNow.del t, gath := dropBanks c.gath (fun b => mine (b / 2)), tent := dropBanks c.tent (fun b => mine (b / 2))
    needSpare := c.needSpare.keep (fun k _ => k / 8 != t) } }
  (upTo 8).foldl (fun (s : State) n => (s.usedPlanes t n).foldl (fun (s : State) pl => s.foreground t (s.arrPos t n) pl) s) s

/-- The failed slice reads without uncorrectable words. -/
def State.sliceClean (s : State) (t : Nat) (clean : Bool) : Bool := clean && (s.tile t).poisonMark.entries.isEmpty
/-- The logical content of the failed tile: weights from the resident copy; the Basin from the failed slice if it reads clean, else program
rows from the copy while cache pages are lost (R339 step 5). -/
def State.refillTile (s : State) (p t : Nat) (clean : Bool) : State :=
  let inB (a : Nat) : Bool := decide (a / 524288 = t) && decide (a < 2 ^ 40)
  let rows := s.mem.entries.filter (fun e => inB e.1)
  let x := s.tile t
  let s := s.rewriteTiles p (fun u => u == t)
  if clean then
    let m := s.mem.keep (fun a _ => !inB a)
    (s.setMem (rows.foldl (fun (m : Memory) e => Memory.write m e.1 e.2) m)).updTile t (fun y => { y with
      tags := x.tags, restoreDst := x.restoreDst, poisonMark := x.poisonMark, flips := x.flips })
  else
    { (s.updTile t (fun y => { y with poisonMark := Map.empty, flips := Map.empty, tags := Map.empty, restoreDst := Map.empty })) with
      pages := s.pages.mapVal (fun n e => if decide (n < 917504) && n / 16 == t && e.pstate == 2 then { e with pstate := 4 } else e)
      mem := s.mem.keep (fun a _ => !(inB a && decide (s.reg BSN_PROG_PROG_PAGES t 0 * 32768 ≤ a % 524288))) }

/-- Steps 1 to 8 of R339. `clean`: the failed slice reads without uncorrectable words; `fails`: a copy of step 4 or 5 fails. The answer is the
code: 0, or 0x4046. -/
def State.columnShift (s : State) (t : Nat) (clean fails : Bool) : State × Nat :=
  let site := siteOf t
  let col := colOf t
  let seg := segment t
  let sel (x : Nat) : Bool := seg.contains x
  let held := (seg.filterMap s.owner).eraseDups
  let phys := s.physRow t
  let s := held.foldl (fun (s : State) p => s.abortPart p) s
  let a := s.absorb sel
  let s := if a.2 = 0 then a.1 else a.1.record { code := 0x4050, unit := 15, tile := some t, detail := min a.2 65535 }
  let w := s.column site col
  let s := if decide (bits w 31 30 + bits w 17 17 = 1) && s.lends site col then s.withdrawLent site col else s
  if fails || s.copyLost t then
    let s := (s.record { code := 0x4046, unit := 15, tile := some t, part := s.owner t, detail := phys * 64 + col * 2 })
    let s := seg.foldl (fun (s : State) x => (s.setReg SEQ_STATUS_FENCED x 0 1).setReg RTR_STATUS_FENCED x 0 1) s
    (held.foldl (fun (s : State) p => s.abortStop p 2) s, 0x4046)
  else
    let own := s.owner t
    let s := seg.foldl (fun (s : State) x => if x = t && !clean then s else s.scrubTile x) s
    let ok := s.sliceClean t clean
    let old := s
    let s := s.setColumn site col (shiftedWord (s.column site col) phys)
    let s := seg.foldl (fun (s : State) x => s.takePlace old x (if rowOf x < 31 then some (x + 32) else none)) s
    let s := seg.foldl (fun (s : State) x => s.freshBanks x) s
    let s := (s.setReg SEQ_STATUS_FENCED t 0 0).setReg RTR_STATUS_FENCED t 0 0
    let s := match own with
      | some p => s.refillTile p t ok
      | none => s
    let s := seg.foldl (fun (s : State) x => s.recalibrate x) s
    let s := held.foldl (fun (s : State) p => s.resumePart p) s
    (s.record { code := 0x4041, unit := 15, tile := some t, part := own, detail := phys * 64 + col * 2 }, 0)

/-- A tile that cannot be shifted stays fenced in place (R341). -/
def State.fenceInPlace (s : State) (t : Nat) : State :=
  let w := s.column (siteOf t) (colOf t)
  let s := { s with repair := { s.repair with
    columns := s.repair.columns.put (siteOf t * 32 + colOf t) (setBits (setBits w 15 15 1) 14 9 (rowOf t)) } }
  let s := s.tileEvent 0x4042 t 0
  match s.owner t with
  | some p => s.abortStop p 2
  | none => s

/-- The repair of a fenced tile: by column shift, or in place. -/
def State.repairTile (s : State) (t : Nat) (clean fails : Bool) : State × Nat :=
  if s.shiftable t then s.columnShift t clean fails else (s.fenceInPlace t, 0x4042)

/-- A tile fails (R336, R337). -/
def State.tileFails (s : State) (t cond : Nat) (clean fails : Bool) : State :=
  let s := s.fenceTile t cond
  if s.flag RST_CFG_AUTO_REPAIR 0 0 then (s.repairTile t clean fails).1
  else match s.owner t with
    | some p => s.fenceStop p
    | none => s

/-- What the state shows of a condition of Table 13-10 (1 to 5). -/
def State.failCond (s : State) (t cond : Nat) : Bool := match cond with
  | 1 => s.spareUsed t && (upTo 8).any (fun n => s.arrayNeeds t n)
  | 5 => decide (4 ≤ (s.tile t).sparedRows.length) && (s.tile t).weakWait.any (fun r => s.inProgram t r)
  | _ => true
/-- TILE_FAIL (R336): condition 1 to 5 of Table 13-10 holds of a tile. -/
def execTileFail (tile : Tile) (cond : Fin 5) (clean fails : Bool) (s : State) : Host.Outcome State Fault Refusal :=
  let t := tile.val
  if s.flag SEQ_STATUS_FENCED t 0 || !s.failCond t (cond.val + 1) then .next s
  else .next (s.tileFails t (cond.val + 1) clean fails)

/-- REPAIR_TILE (Table 13-10, condition 7; R337): RST_CMD names the tile. -/
def State.repairCmd (s : State) (target : Nat) (clean fails : Bool) : State := match tileOfAddr target with
  | none => s.rstRefused 0x9029
  | some t =>
    let x := (s.rstBegin.fenceTile t 7).repairTile t clean fails
    x.1.rstEnd x.2
def execRepairTile (path : Path) (target : Fin 1048576) (clean fails : Bool) (s : State) : Host.Outcome State Fault Refusal :=
  s.rstWrite path (fun s => s.repairCmd target.val clean fails)

/-- SPARE_ARRAY_SUBSTITUTION (R54): an array that needs it is replaced by the spare array of its tile; `internal`: the array reports an internal
fault. While an attempt runs the need is noted, and the partition is held at its boundary; a spare in use already makes the tile fail. -/
def execSpareArraySubstitution (tile : Tile) (array : Arr) (internal clean fails : Bool) (s : State) : Host.Outcome State Fault Refusal :=
  let t := tile.val
  let n := array.val
  let s := if internal then (s.tileFault t { code := 0x3030, unit := 0, detail := n * 4096 }).arrayFault t n else s
  if !s.arrayNeeds t n then .next s
  else if s.spareUsed t then
    if s.flag SEQ_STATUS_FENCED t 0 then .next s else .next (s.tileFails t 1 clean fails)
  else match s.owner t with
    | none => .next (s.takeSpare t n)
    | some p =>
      let x := s.part p
      if s.copyLost t then .next (s.ldRecord (some p) 0x9028 0 0)
      else if x.phase == .stopped then .next (s.takeSpare t n)
      else if x.phase == .ready && x.attempt == 0 then .next (s.takeSpare t n)
      else .next { s with cal := { s.cal with needSpare := s.cal.needSpare.add (t * 8 + n) } }

/-! ### Partition self test (R344) -/

/-- PTEST of RST_CMD; `failed`: tiles that fail, whether each slice reads clean being of no account, for the test destroys the Basin. -/
def State.ptest (s : State) (p : Nat) (failed : List Nat) : State :=
  let st := s.pstate p
  if !(st == psEmpty || st == psReady) then s.rstRefused 0x9029
  else
    let mine (t : Nat) : Bool := s.owner t == some p
    let bad := (failed.filter mine).eraseDups
    let s := s.rstBegin
    let s := { (s.wipeBanks mine) with
      mem := (s.wipeBanks mine).mem.keep (fun a _ => !(decide (a < 2 ^ 40) && decide (a / 524288 < 57344) && mine (a / 524288)))
      pages := s.pages.mapVal (fun n e => if decide (n < 917504) && mine (n / 16) && e.pstate == 2 then { e with pstate := 4 } else e) }
    let s := s.onTiles p (fun x => { x with poisonMark := Map.empty, flips := Map.empty, tags := Map.empty, restoreDst := Map.empty })
    let s := bad.foldl (fun (s : State) t => s.tileFails t 6 false false) s
    let s := if st = psReady then s.rewriteResume p (fun _ => true) else s
    (s.setG RST_CMD_STS_COUNT 0 bad.length).rstEnd 0
/-- PTEST (R344): `level` 0 quick, 1 full. -/
def execPtest (path : Path) (part : Part) (level : Fin 2) (failed : List Tile) (s : State) : Host.Outcome State Fault Refusal :=
  s.rstWrite path (fun s => (s.setG RST_CMD_LEVEL 0 level.val).ptest part.val (failed.map (·.val)))

/-! ### Stacks and rim dies (R342) -/

/-- A parcel that is damaged: its request resumes by prefill. -/
def State.loseParcel (s : State) (r : Nat) : State := s.updReq r (fun q => match q.parcel with
  | none => q
  | some _ => if q.spillAt.isSome then q else
    { q with
      nextPos := (q.parcelPages.map (·.2)).foldl min q.nextPos, parcel := none, parcelPages := [], returning := false, restoreLeft := 0 })
/-- The copy of a transcript that lies under a rim die: 1 the first, 2 the second, 0 neither. -/
def ReqSt.copyUnder (q : ReqSt) (d : Nat) : Nat := if q.trOff.isNone then 0 else if q.trRims.1 = d then 1 else if q.trRims.2 = d then 2 else 0
/-- Room for a new copy of `n` bytes on the healthy stacks of a rim die other than the survivor's: the die, by a free number, and the offset. -/
def State.newCopy (s : State) (p n other : Nat) (room : Bool) : Option (Nat × Nat × State) :=
  let l := s.goodRims.filter (fun d => d != other)
  if !room || l.isEmpty then none
  else
    let x := s.takeFree
    (firstFit (s.usedSpans p) (s.cistBytes p) (roundUp n 4096)).map (fun a => (pickOf l x.1, a, x.2))
/-- Copy `k` of a transcript is damaged (R342): written anew from the survivor where there is room, else the request runs on one copy; without a
survivor its end waits for the steward (R247). -/
def State.mendTranscript (s : State) (r k : Nat) (room : Bool) : State := match s.reqOwner r, (s.req r).trOff with
  | some p, some o =>
    let q := s.req r
    if k = 0 || q.trBad = k || q.trBad = 3 then s
    else if q.trBad ≠ 0 then s.updReq r (fun q => { q with trBad := 3, marked := true })
    else
      let good := if k = 1 then o.2 else o.1
      match s.newCopy p (4 * q.trLen) (if k = 1 then q.trRims.2 else q.trRims.1) room with
      | some (d, a, s') =>
        (s'.setMem (Memory.copy s'.mem (cisternBase p + good) (cisternBase p + a) (4 * q.trLen))).updReq r (fun q => { q with
          trOff := some (if k = 1 then (a, o.2) else (o.1, a)), trRims := if k = 1 then (d, q.trRims.2) else (q.trRims.1, d) })
      | none => (s.updReq r (fun q => { q with trBad := k })).record { code := 0x3043, unit := 10, part := some p, req := some r }
  | _, _ => s
/-- Every package copy of a partition loses part of its data. -/
def State.loseCopies (s : State) (p : Nat) : State :=
  let had := ((s.part p).resident.map (fun k => !k.lost)).getD false
  let s := s.updPart p (fun x => { x with
    resident := x.resident.map (fun k => { k with lost := true }), pendPkg := x.pendPkg.map (fun k => { k with lost := true })
    stage := x.stage.map (fun g => { g with lost := true }) })
  if had then s.record { code := 0x3042, unit := 15, part := some p, detail := 63 * 1024 + 15 * 64 } else s

/-- A stack fails. -/
def State.stackFails (s : State) (h : Nat) : State :=
  if s.repair.failedStacks.mem h || s.repair.takenStacks.mem h then s
  else
    let s := { s with repair := { s.repair with failedStacks := s.repair.failedStacks.add h, failSince := true } }
    let s := s.record { code := 0x3040, unit := 15, detail := h * 1024 + 15 * 64 }
    let s := s.parts.entries.foldl (fun (s : State) e => s.loseCopies e.1) s
    s.reqs.entries.foldl (fun (s : State) e => s.loseParcel e.1) s
/-- The transcripts that the loss of stacks under a rim die touches, copies being interleaved over its six stacks in 4 KiB units: every copy there of
six units or more, and a shorter one where the list names its request; the list also says for which requests there is no room for a new copy. -/
def State.mendAll (s : State) (d : Nat) (l : List (Req × Bool)) : State :=
  s.reqs.entries.foldl (fun (s : State) e =>
    let q := s.req e.1
    match l.find? (fun x => x.1.val == e.1) with
    | some x => s.mendTranscript e.1 (q.copyUnder d) x.2
    | none => if 6 * 4096 ≤ 4 * q.trLen then s.mendTranscript e.1 (q.copyUnder d) true else s) s

/-- STACK_FAIL (R342): a stack loses training, or its uncorrectable errors exceed 16 in 1 s. `damaged`: requests with a transcript copy there,
and whether healthy stacks of another rim die have room for a new one. -/
def execStackFail (stack : Stack) (damaged : List (Req × Bool)) (s : State) : Host.Outcome State Fault Refusal :=
  if s.repair.failedStacks.mem stack.val || s.repair.takenStacks.mem stack.val then .next s
  else .next ((s.stackFails stack.val).mendAll (rimOfStack stack.val) damaged)

/-- An Ethernet port goes down: LINK, and the queue pairs of entries on it (R377, R203). -/
def State.ethDown (s : State) (n : Nat) : State :=
  if bitAt (s.g NET_STATUS_LINK 0) n then
    let s := s.setG NET_STATUS_LINK 0 (setBit (s.g NET_STATUS_LINK 0) n false)
    let s := (upTo 64).foldl (fun (s : State) e =>
      if s.flag LD_SRV0_VALID 0 e && s.g LD_SRV0_PORT e = n then s.setG LD_SRV0_DOWN e 1 else s) s
    s.record { code := 0xA001, unit := 13, detail := n * 256 + 15 * 16 }
  else s
/-- The PCI Express link goes down (R377). -/
def State.pcieDown (s : State) : State :=
  if s.link.pcieUp then
    let s := ((s.setG PCI_LINK_SPEED 0 0).setG PCI_LINK_WIDTH 0 0).setG PCI_LINK_FLIT 0 0
    ({ s with link := { s.link with pcieUp := false } }).record { code := 0xA010, unit := 13, detail := 0xFFF0 }
  else s
/-- Functions of a rim die that are lost with it (Table 13-11). -/
def State.rimEffects (s : State) (d : Nat) : State :=
  let roots (s : State) : State := (s.swapRoots.setG CSD_STATUS_TAKEOVER 0 1).record { code := 0x4030, unit := 9 }
  match d with
  | 0 => if s.stewardHome then s.pcieDown.stewardFails else s.pcieDown.loseStandby
  | 1 => (if s.rootHome then roots s else s).setG CSD_STATUS_STANDBY_OK 0 0
  | 2 => (s.ethDown 0).ethDown 1
  | 4 => if s.stewardHome then s.loseStandby else s.stewardFails
  | 5 => (if s.rootHome then s else roots s).setG CSD_STATUS_STANDBY_OK 0 0
  | 6 => (s.ethDown 2).ethDown 3
  | _ => s
/-- RIM_DIE_FAIL (R342): rim dies in the order N0, N1, E0, E1, S0, S1, W0, W1. -/
def State.rimFails (s : State) (d : Nat) (damaged : List (Req × Bool)) : State :=
  let s := { s with repair := { s.repair with failedRims := s.repair.failedRims.add d, failSince := true } }
  let s := s.record { code := 0x3041, unit := 15, detail := 63 * 1024 + d * 64 }
  let s := (upTo 6).foldl (fun (s : State) k => s.stackFails (6 * d + k)) s
  (s.mendAll d damaged).rimEffects d
def execRimDieFail (rim : Fin 8) (damaged : List (Req × Bool)) (s : State) : Host.Outcome State Fault Refusal :=
  if s.repair.failedRims.mem rim.val || s.repair.takenRims.mem rim.val then .next s else .next (s.rimFails rim.val damaged)

/-! ### Spare tiles (R345) -/

/-- The spare tile of a column at physical row 32 or 33 is in use, or marked unusable. -/
def State.spareTaken (s : State) (site col row : Nat) : Bool :=
  let w := s.column site col
  if row = 32 then bitAt w 17 || decide (1 ≤ bits w 31 30) else bitAt w 16 || decide (2 ≤ bits w 31 30 + bits w 17 17)
/-- SPARE_TILE_TEST (R345): a spare tile that is not in use has been tested; `first`: the first of a period. -/
def execSpareTileTest (site : Site) (column : Fin 32) (south first ok : Bool) (s : State) : Host.Outcome State Fault Refusal :=
  let row := if south then 33 else 32
  if s.spareTaken site.val column.val row then .next s
  else
    let s := if first then s.setG RST_SPARE_TESTED 0 1 else s.addReg RST_SPARE_TESTED 0 0 1
    if ok then .next s
    else
      let w := s.column site.val column.val
      let s := s.setColumn site.val column.val (setBits w (if south then 16 else 17) (if south then 16 else 17) 1)
      .next (s.record { code := 0x4043, unit := 15, detail := row * 64 + column.val * 2, item := site.val })

end Sys2Proof.Machine
end

