-- ==== Sys2Proof/Machine/Cap.lean ====
section
/-! DEFINITION. The power cap: allowances, stretch factors, reactive mode (10_power_delivery_and_capping.md R267 to R272; 11 R284 to
R286). -/

namespace Sys2Proof.Machine

/-! ### Estimates (R267, R269) -/

/-- Sites that a partition touches. -/
def State.partSites (s : State) (p : Nat) : List Nat := ((s.partQuads p).map (· / 4)).eraseDups
/-- A figure of the package at the rail and the temperature in force: its own at 0.70 V and 60 °C; else a free value, for no law of the
scaling is given. -/
def State.scaleEst (s : State) (p v : Nat) : Nat × State :=
  if (s.partSites p).all (fun x => s.vset x == 700 && s.g THM_STEMP_TS x == 240) then (v, s) else s.takeFree

/-- E[p] of R269 in nJ. -/
def State.stepEnergy (s : State) (p : Nat) : Nat :=
  let e := s.estOf p
  let x := s.part p
  let per := max 1 e.period
  let ls := s.stepLen p 0
  let near (h : Hint) : Bool := decide (0 < h.left per x.commitIdx) || decide (h.until per x.commitIdx * ls ≤ 2 * (s.g CSD_WSTEP_LEN 0 + 1))
  let l := (e.hints.filter near).map (·.energy)
  let v := if x.nextProg = 1 then e.eSplit else if x.nextProg = 2 then e.eWide else 0
  max (l.foldl max e.eBase) v

/-- What the cap knows of a running partition. -/
structure CapPart where
  p : Nat
  stat : Nat
  /-- Power of the steps at F = 8. -/
  dyn : Frac
  prot : Bool
  reactive : Bool
  meas : Nat
  quads : List Nat

/-- S[p] + dyn[p] * 8 / F. -/
def CapPart.power (c : CapPart) (f : Nat) : Frac := (Frac.ofNat c.stat).add (c.dyn.scale 8 f)
/-- 600e6 / Ls steps each second of `e` nJ, in W. -/
def dynOf (e ls : Nat) : Frac := Frac.mk' (6 * e : Nat) (10 * ls)
def partMeasured (l : List (Part × Fin 65536)) (p : Nat) : Nat := ((l.find? (fun e => e.1.val == p)).map (fun e => e.2.val)).getD 0

/-- The running partitions, ascending. -/
def State.capParts (s : State) (r : WindowReadings) : List CapPart × State :=
  ((upTo 64).filter (fun p => s.runs p)).foldl (fun (a : List CapPart × State) p =>
    let e := a.2.scaleEst p (a.2.stepEnergy p)
    let w := e.2.scaleEst p (a.2.estOf p).staticW
    let s := w.2
    (a.1 ++ [⟨p, w.1, dynOf e.1 (s.stepLen p (s.part p).nextProg), s.flag PWR_PCFG_PROTECT 0 p, s.flag PWR_PCFG_REACTIVE 0 p, partMeasured r.parts p, s.partQuads p⟩], s))
    ([], s)

/-! ### Allowances (R268, R285) -/

/-- The thermal allowance in W of input. -/
def State.thermalAllow (s : State) (r : WindowReadings) : Frac :=
  let th := fracSum (((upTo 56).filter (fun x => !s.power.darkWhy.has x)).map s.siteThermal)
  let a := ((th.add (Frac.ofNat r.other.val)).scale 1000 r.eta.val).sub (Frac.ofNat s.thermal.cut)
  a.min (Frac.ofNat (r.mean100.val + 10 * s.g THM_RAMP_RAMP_UP 0))
/-- A of R268. -/
def State.allowance (s : State) (r : WindowReadings) : Frac :=
  let lim := Frac.ofNat (min (s.g PWR_CAP_LIMIT_W 0) (min 28000 (4000 * s.convs)))
  ((lim.min (s.thermalAllow r)).scale r.eta.val 1000).sub (Frac.ofNat r.other.val)

/-! ### Stretch factors (R269) -/

/-- Power of a partition under factors for normal and protected ones; a reactive one counts as measured. -/
def CapPart.draw (c : CapPart) (fn fp : Nat) : Frac := if c.reactive then Frac.ofNat c.meas else c.power (if c.prot then fp else fn)
/-- Both constraints hold. -/
def State.capFits (s : State) (l : List CapPart) (a : Frac) (fn fp : Nat) : Bool :=
  (fracSum (l.map (fun c => c.draw fn fp))).le a &&
  (upTo 56).all (fun site =>
    let parts := l.filter (fun c => c.quads.any (fun q => q / 4 == site))
    let v := s.vset site
    parts.isEmpty || v == 0 ||
      ((fracSum (parts.map (fun c =>
        (c.draw fn fp).scale (1000 * (c.quads.filter (fun q => q / 4 == site)).length) (c.quads.length * v)))).le (s.siteLimit site)))
/-- F_n and F_p, each the smallest that fits. -/
def State.chooseF (s : State) (l : List CapPart) (a : Frac) : Nat × Nat :=
  let fs := (upTo 57).map (· + 8)
  match fs.find? (fun f => s.capFits l a f 8) with
  | some f => (f, 8)
  | none => match fs.find? (fun f => s.capFits l a 64 f) with
    | some f => (64, f)
    | none => (64, 64)

/-! ### Mismatch and reactive mode (R270 to R272) -/

/-- |m - e| above `pct` percent of e. -/
def offBy (m e pct : Nat) : Bool := decide (pct * e < 100 * (if m ≤ e then e - m else m - e))

/-- The partition stepped in the window. -/
def PartSt.steppedIn (x : PartSt) : Bool := x.count != x.winCount || x.phase == .attempt

/-- R270, R272: mismatches counted; reactive mode entered, or left after 256 windows. -/
def State.judgeMismatch (s : State) (p m e : Nat) : State :=
  let bad := offBy m e (s.g PWR_CAPCFG_MIS_PCT 0)
  let s := s.updPart p (fun x => { x with misStreak := if bad then x.misStreak + 1 else 0 })
  if s.flag PWR_PCFG_REACTIVE 0 p then
    let n := if bad then 0 else (s.part p).okStreak + 1
    if 256 ≤ n then (s.predictive p).pwrRecord 0x5013 63 0 0 0 (some p)
    else s.updPart p (fun x => { x with okStreak := n })
  else if s.g PWR_CAPCFG_MIS_WIN 0 ≤ (s.part p).misStreak then
    (((s.setG PWR_PCFG_REACTIVE p 1).setG PWR_STATUS_MISMATCH 0 1).updPart p (fun x => { x with okStreak := 0, coolWin := 0 })).pwrRecord
      0x5012 63 0 0 0 (some p)
  else s
/-- R271: low power counted, and the check of the supply paths. -/
def State.judgeLow (s : State) (r : WindowReadings) (p m e : Nat) : State :=
  let n := if 100 * m < s.g PWR_CAPCFG_LOW_PCT 0 * e then (s.part p).lowStreak + 1 else 0
  if s.g PWR_CAPCFG_MIS_WIN 0 ≤ n then
    let found := r.paths.filter (fun x => (s.partQuads p).contains x.1.val && s.anomalous x.1.val x.2)
    let s := found.foldl (fun (s : State) x => s.takeAnomaly x.1.val x.2) (s.updPart p (fun x => { x with lowStreak := 0 }))
    s.pwrRecord 0x5011 63 0 (b2n (!found.isEmpty)) 0 (some p)
  else s.updPart p (fun x => { x with lowStreak := n })
/-- The comparisons of one window with the estimate at the factor in force; a window under alert divide, or without a step, counts for no mismatch
(R270), and for low power as any other (R271). -/
def State.judgePart (s : State) (r : WindowReadings) (p : Nat) : State :=
  let m := partMeasured r.parts p
  let e := s.g PWR_PEST_EST_W p
  let s := (if s.alertOn || !(s.part p).steppedIn then s else s.judgeMismatch p m e).judgeLow r p m e
  ((s.updPart p (fun x => { x with winCount := x.count })).setG PWR_PMEAS_MEAS_W p m).setG PWR_PMEAS_STREAK p (min 255 (s.part p).misStreak)

/-- R272: the factor of a partition in reactive mode; `base` is what R269 gives. -/
def State.reactF (s : State) (r : WindowReadings) (a : Frac) (p base : Nat) : State :=
  let f := (s.part p).capF
  let sil := Frac.ofNat r.silicon.val
  let beyond := (s.partSites p).any (fun x => (s.siteLimit x).lt (Frac.mk' (s.g PWR_SCUR_I x) 10))
  if a.lt sil || beyond then
    let up := if a.le Frac.zero then 64 else max 1 (((sil.div a).sub (Frac.ofNat 1)).scale f 1).ceilN
    s.updPart p (fun x => { x with capF := min 64 (f + up), coolWin := 0 })
  else if sil.lt (a.scale 9 10) then
    if 4 ≤ (s.part p).coolWin + 1 then s.updPart p (fun x => { x with capF := max base (f - 1), coolWin := 0 })
    else s.updPart p (fun x => { x with coolWin := x.coolWin + 1 })
  else s.updPart p (fun x => { x with coolWin := 0 })

/-- R258, Table 11-3: the factor with its raises. -/
def State.raised (s : State) (p f : Nat) : Nat :=
  let on (m : Map Nat) : Bool := (s.partSites p).any (fun x => decide (0 < m.get x 0))
  if on s.power.hotWin then 64 else if on s.power.deepWin then min 64 (f + 4) else f

/-- One partition's factor and estimate; `was`: reactive before this window. -/
def State.setFactor (s : State) (r : WindowReadings) (a : Frac) (fs : Nat × Nat) (c : CapPart) (was : Bool) : State :=
  let base := if c.prot then fs.2 else fs.1
  let s := if !c.reactive then s.updPart c.p (fun x => { x with capF := base }) else if was then s.reactF r a c.p base else s
  let f := s.raised c.p (s.part c.p).capF
  (s.setG CSD_PSTRETCH_FACTOR c.p f).setG PWR_PEST_EST_W c.p (min 65535 (c.power f).floorN)

/-- CAP_WINDOW (R268 to R272). -/
def State.capWindow (s : State) (r : WindowReadings) : State :=
  let was := (upTo 64).filter (fun p => s.flag PWR_PCFG_REACTIVE 0 p)
  let run := (upTo 64).filter (fun p => s.runs p)
  let s := run.foldl (fun (s : State) p => s.judgePart r p) s
  let a := s.allowance r
  let s := (s.setG THM_ALLOW_ALLOW_W 0 (min 65535 (s.thermalAllow r).floorN)).setG PWR_CAP_ALLOW_W 0 (min 65535 a.floorN)
  let l := s.capParts r
  let s := l.2
  let fs := s.chooseF l.1 a
  let s := l.1.foldl (fun (s : State) c => s.setFactor r a fs c (was.contains c.p)) s
  let dec (m : Map Nat) : Map Nat := (m.mapVal (fun _ n => n - 1)).keep (fun _ n => n != 0)
  { s with power := { s.power with deepWin := dec s.power.deepWin, hotWin := dec s.power.hotWin, pOther := r.other.val } }

end Sys2Proof.Machine
end

