-- ==== Sys2Proof/Machine/Thermal.lean ====
section
/-! DEFINITION. Thermal functions: resistances, protections, the forecast, the warming load and regions switched off for heat
(11_thermal_and_cooling.md R280 to R296). -/

namespace Sys2Proof.Machine

/-! ### Thermal resistance (R282, R283) -/

def State.degraded (s : State) (site : Nat) : Bool := bitAt (s.g THM_DEGRADED_SITES (site / 32)) (site % 32)
/-- Where θ_s stands: 0 at or below θ_base by THETA_PCT, 1 above that threshold, 2 at 1.1 times the threshold or above. Without a sample and without
REBASE both are the factory value. -/
def State.thetaZone (s : State) (site : Nat) : Nat :=
  if !s.thermal.theta.has site && !s.regs.has (THM_STHETA_BASE.key 0 site) then 0
  else
  let v := s.theta site
  let lim := s.g THM_STHETA_BASE site * 10 * (100 + s.g THM_CFG_THETA_PCT 0)
  if v ≤ lim then 0 else if 10 * v < 11 * lim then 1 else 2
/-- Cooling degraded (R283): an episode begins as θ_s comes to stand above the threshold, and ends on a fall below 1.1 times it. -/
def State.judgeTheta (s : State) (site : Nat) : State :=
  let z := s.thermal.zone.get site 0
  let z' := s.thetaZone site
  let was := s.degraded site
  let now := if z' < z then false else was || decide (z < z')
  let s := { s with thermal := { s.thermal with zone := s.thermal.zone.put site z' } }
  let w := s.g THM_DEGRADED_SITES (site / 32)
  let s := s.setG THM_DEGRADED_SITES (site / 32) (setBit w (site % 32) now)
  let s := s.setG THM_STATUS_DEGRADED_ANY 0 (b2n (s.g THM_DEGRADED_SITES 0 != 0 || s.g THM_DEGRADED_SITES 1 != 0))
  if now && !was then s.thmRecord 0x6010 site 63 15 else s
/-- θ_s of a site after a sample. -/
def State.setTheta (s : State) (site v : Nat) : State :=
  (({ s with thermal := { s.thermal with theta := s.thermal.theta.put site v } }).setG THM_STHETA_THETA site (min 65535 (v / 1000))).judgeTheta site

/-- THETA_UPDATE (R282): site power `watts`; `steady`: it has varied by less than 10 % over the preceding 2 s. -/
def execThetaUpdate (site : Site) (watts : Fin 65536) (steady : Bool) (s : State) : Host.Outcome State Fault Refusal :=
  let x := site.val
  let off := bitAt (s.g THM_RGSTATE_OFF 0) (regionOfSite x)
  if decide (watts.val < 150) || !steady || off || s.flag THM_STEMP_STALE 0 x then .next s
  else
    -- (T_s - T_in) / P_s in 0.000001 K/W, which may be below 0: T_s in 0.25 K, T_in in 0.05 K
    let sample : Int := ((5 * s.g THM_STEMP_TS x : Nat) - (s.g THM_COOL_T_IN 0 : Nat) : Int) * 50000 / (watts.val : Nat)
    .next ((s.setTheta x ((99 * (s.theta x : Nat) + sample) / 100).toNat).refreshSite x)

/-- REBASE (R283). -/
def State.rebase (s : State) : State := s.allSites (fun s x => s.setG THM_STHETA_BASE x (s.g THM_STHETA_THETA x))
def execRebase (path : Path) (s : State) : Host.Outcome State Fault Refusal := s.pageWrite path .thm false true State.rebase

/-! ### Monitors (R281) -/

/-- MONITOR_STALE_TIMEOUT (R281): `base`: the base-die sensor of a quadrant, else the diode of a tile; stale for more than 1 s. -/
def execMonitorStaleTimeout (base : Bool) (place : Tile) (s : State) : Host.Outcome State Fault Refusal :=
  let q := if base then place.val % 224 else quadOf place.val
  let k := if base then baseMon q else place.val
  if s.thermal.staleMon.mem k && decide (s.qstate q ≤ qIdle) && !s.thermal.failedMon.mem k then
    .next ((({ s with thermal := { s.thermal with failedMon := s.thermal.failedMon.add k } }).refreshTemp (q / 4)).thmRecord 0x6012 (q / 4) 63 15)
  else .next s

/-! ### Protections (R286 to R288) -/

/-- Conditions of Table 11-3 in its order, 0 to 8, with a place: a site for the first three, else 63, the module. -/
def epKey (cond place : Nat) : Nat := cond * 64 + place
/-- One record for each episode. -/
def State.episode (s : State) (cond place code site stack : Nat) : State :=
  if s.thermal.episodes.mem (epKey cond place) then s
  else ({ s with thermal := { s.thermal with episodes := s.thermal.episodes.add (epKey cond place) } }).thmRecord code site stack 15

/-- JUNCTION_OVER_LIMIT (R286): T_s has been above JLIMIT for 1 ms, and k_s falls at each cap window from now on. -/
def execJunctionOverLimit (site : Site) (s : State) : Host.Outcome State Fault Refusal :=
  if s.jlimit < s.g THM_STEMP_TS site.val then
    .next ({ s with thermal := { s.thermal with overLimit := s.thermal.overLimit.add site.val } }.episode 0 site.val 0x6001 site.val 63)
  else .next s
/-- JUNCTION_HOT (R286): F = 64 for 16 windows. -/
def State.junctionHot (s : State) (site : Nat) : State :=
  let s := s.episode 1 site 0x6002 site 63
  let s := { s with power := { s.power with hotWin := s.power.hotWin.put site 16 } }
  (upTo 64).foldl (fun (s : State) p => if s.runs p && (s.partSites p).contains site then s.setG CSD_PSTRETCH_FACTOR p 64 else s) s
def execJunctionHot (site : Site) (s : State) : Host.Outcome State Fault Refusal :=
  if s.jlimit + 40 < s.g THM_STEMP_TS site.val then .next (s.junctionHot site.val) else .next s
/-- JUNCTION_TRIP (R286): the raw reading of a tile diode, stale or not. -/
def execJunctionTrip (tile : Tile) (raw : Fin 1024) (s : State) : Host.Outcome State Fault Refusal :=
  let x := siteOf tile.val
  let s := s.readDiode tile.val raw.val
  if raw.val < 440 || bitAt (s.g THM_RGSTATE_OFF 0) (regionOfSite x) || s.power.darkWhy.has x then .next s
  else .next ((s.goDark x 2).episode 2 x 0x6003 x 63)

/-- STACK_HOT_85 (R286). -/
def execStackHot85 (stack : Stack) (t : Fin 256) (s : State) : Host.Outcome State Fault Refusal :=
  let s := s.setG THM_HTEMP_T stack.val t.val
  if 85 < t.val then .next ((s.setG THM_HTEMP_EXT_REFRESH stack.val 1).episode 3 63 0x6004 63 stack.val) else .next s
/-- STACK_HOT_95 (R286). -/
def execStackHot95 (stack : Stack) (t : Fin 256) (s : State) : Host.Outcome State Fault Refusal :=
  let s := s.setG THM_HTEMP_T stack.val t.val
  if 95 < t.val then .next (s.episode 4 63 0x6005 63 stack.val) else .next s
/-- INLET_HIGH (R286). -/
def execInletHigh (tIn : Fin 65536) (s : State) : Host.Outcome State Fault Refusal :=
  let s := s.setG THM_COOL_T_IN 0 tIn.val
  if 20 * s.g THM_COOLCFG_INLET_MAX 0 < tIn.val then .next ((s.setG THM_STATUS_COOLANT 0 1).episode 5 63 0x6006 63 63) else .next s
/-- FLOW_LOW (R286). -/
def execFlowLow (flow : Fin 65536) (s : State) : Host.Outcome State Fault Refusal :=
  let s := s.setG THM_FLOW_FLOW 0 flow.val
  if flow.val < 2 * s.g THM_COOLCFG_FLOW_MIN 0 then .next ((s.setG THM_STATUS_COOLANT 0 1).episode 6 63 0x6007 63 63) else .next s

/-- R287: the converters stop, and the AON domain records the event. -/
def State.shutdown (s : State) (cond code stack : Nat) : State :=
  let s := s.stopConverters
  ({ s with thermal := { s.thermal with shutdown := true } }).episode cond 63 code 63 stack
/-- MODULE_THERMAL_SHUTDOWN (R286, R287): coolant readings held for 2 s, and a stack with its temperature. -/
def execModuleThermalShutdown (tIn tOut flow : Fin 65536) (stack : Stack) (t : Fin 256) (s : State) : Host.Outcome State Fault Refusal :=
  if decide (960 < tIn.val) || decide (1300 < tOut.val) || decide (flow.val < 60) || decide (105 ≤ t.val) then
    .next (s.shutdown 7 0x6008 (if 105 ≤ t.val then stack.val else 63))
  else .next s
/-- LEAK_SENSED (R286): the trace has been wet for 10 ms. -/
def execLeakSensed (s : State) : Host.Outcome State Fault Refusal :=
  let s := s.setG THM_STATUS_LEAK 0 1
  .next (if s.flag THM_CFG_LEAK_STOP 0 0 then s.shutdown 8 0x6009 63 else s.episode 8 63 0x6009 63 63)

/-- Some stack is above a temperature. -/
def State.stackAbove (s : State) (t : Nat) : Bool := (upTo 48).any (fun h => decide (t < s.g THM_HTEMP_T h))
/-- The condition of an episode is clear by the readings in force. -/
def State.condClear (s : State) (cond place : Nat) : Bool := match cond with
  | 0 => decide (s.g THM_STEMP_TS place ≤ s.jlimit)
  | 1 => decide (s.g THM_STEMP_TS place ≤ s.jlimit + 40)
  | 2 => decide (s.g THM_STEMP_TS place < 440)
  | 3 => !s.stackAbove 85
  | 4 => !s.stackAbove 95
  | 5 => decide (s.g THM_COOL_T_IN 0 ≤ 20 * s.g THM_COOLCFG_INLET_MAX 0)
  | 6 => decide (2 * s.g THM_COOLCFG_FLOW_MIN 0 ≤ s.g THM_FLOW_FLOW 0)
  | _ => true
/-- THERMAL_EPISODE_END (R286): a condition has been clear for 1 s; what it asked for stops. -/
def execThermalEpisodeEnd (cond : Fin 9) (place : Fin 64) (s : State) : Host.Outcome State Fault Refusal :=
  if s.thermal.episodes.mem (epKey cond.val place.val) && s.condClear cond.val place.val then
    let s := { s with thermal := { s.thermal with episodes := s.thermal.episodes.del (epKey cond.val place.val) } }
    let s := if cond.val = 3 then (upTo 48).foldl (fun (s : State) h => s.setG THM_HTEMP_EXT_REFRESH h 0) s else s
    .next (if cond.val = 4 then { s with thermal := { s.thermal with cut := 0 } } else s)
  else .next s

/-- A release (R288): refused while T_s or a base-die reading of the site is above JLIMIT - 15 K. -/
def State.release' (s : State) (path : Path) (site : Nat) : State :=
  if 56 ≤ site then s.refuseWrite path .thm 0
  else
    let s := s.setG THM_CTRL_RELEASE_SITE 0 site
    let lim := s.jlimit - 60
    if decide (lim < s.g THM_STEMP_TS site) || (upTo 4).any (fun k => decide (lim < s.baseOf (site * 4 + k))) then s.refuseWrite path .thm 0
    else if s.power.darkWhy.get? site == some 2 then
      ({ s with power := { s.power with darkWhy := s.power.darkWhy.del site } }.setG THM_SPLIM_K site 50).refreshSite site
    else s
/-- SITE_RELEASE (R288). -/
def execSiteRelease (path : Path) (site : Fin 64) (s : State) : Host.Outcome State Fault Refusal :=
  s.pageWrite path .thm false true (fun s => s.release' path site.val)

/-! ### At each cap window (R284, R286) -/

/-- k_s of a site. -/
def State.stepK (s : State) (site : Nat) : State :=
  let k := s.g THM_SPLIM_K site
  let ts := s.g THM_STEMP_TS site
  if s.thermal.overLimit.mem site && decide (s.jlimit < ts) then s.setG THM_SPLIM_K site (max 30 (k - 10))
  else if ts + 8 < s.jlimit then s.setG THM_SPLIM_K site (min 100 (k + 1))
  else s
/-- The corrections, limits, the cut for hot stacks, and cooling judged by the threshold in force. -/
def State.thermalWindow (s : State) : State :=
  let s := if s.stackAbove 95 then { s with thermal := { s.thermal with cut := s.thermal.cut + 1000 } } else s
  s.allSites (fun s x => (((s.judgeOver x).stepK x).refreshSite x).judgeTheta x)

/-! ### The forecast (R289) -/

/-- Energy of `n` steps that begin at a commit index: the hinted phases within them that are in progress or announced at their ENERGY, the rest at
E_BASE. -/
def PowerEst.energy (e : PowerEst) (ci n : Nat) : Nat :=
  let per := max 1 e.period
  let seen (h : Hint) : Bool := decide (h.until per ci < n) && decide (h.until per ci ≤ h.lead)
  let steps (h : Hint) : Nat := min n (h.left per ci) + (if seen h then min (n - h.until per ci) h.length else 0)
  let hinted := (e.hints.map steps).foldl (· + ·) 0
  (e.hints.map (fun h => steps h * h.energy)).foldl (· + ·) 0 + e.eBase * (n - hinted)
/-- Mean and greatest power of a running partition over `sec` seconds; one that a command adds counts at E_BASE. -/
def State.forecastPart (s : State) (p sec : Nat) : Frac × Frac × State :=
  let e := if s.runs p then s.estOf p else { s.estOf p with hints := [] }
  let ls := s.stepLen p 0
  let n := max 1 (sec * 4800000000 / max 1 (s.intervalOf p))
  let st := s.scaleEst p e.staticW
  let m := st.2.scaleEst p (e.energy (s.part p).commitIdx n / n)
  let g := m.2.scaleEst p ((e.hints.map (·.energy)).foldl max e.eBase)
  ((Frac.ofNat st.1).add ((dynOf m.1 ls).scale 8 (s.g CSD_PSTRETCH_FACTOR p)), (Frac.ofNat st.1).add (dynOf g.1 ls), g.2)
/-- The forecast of one horizon; `changes`: partitions that a loader command in progress adds (true) or removes, with the time in ms. -/
def State.forecast (s : State) (i sec : Nat) (changes : List (Part × Bool × Fin 60001)) : State :=
  let x := (upTo 64).foldl (fun (a : Frac × Frac × State) p =>
    let c := changes.find? (fun c => c.1.val == p && decide (c.2.2.val ≤ 1000 * sec))
    let run := a.2.2.runs p
    if run || (c.map (fun c => c.2.1)).getD false then
      let f := a.2.2.forecastPart p sec
      let share := match c with
        | none => 1000 * sec
        | some c => if run then (if c.2.1 then 1000 * sec else c.2.2.val) else 1000 * sec - c.2.2.val
      (a.1.add (f.1.scale share (1000 * sec)), a.2.1.add f.2.1, f.2.2)
    else a) (Frac.zero, Frac.zero, s)
  let s := x.2.2
  let rest := Frac.ofNat (s.power.pOther + s.g THM_FLOOR_FLOOR_W 0)
  let now := s.g PWR_IN_P_PIN_W 0
  let lim := min (s.g PWR_CAP_LIMIT_W 0) (min (4000 * s.convs) (s.g THM_ALLOW_ALLOW_W 0))
  let bound (f : Frac) : Nat :=
    let w := ((f.add rest).scale 1000 (s.g PWR_IN_P_ETA 0)).floorN
    min 65535 (max (now - 100 * sec * s.g THM_RAMP_RAMP_DN 0) (min (min w lim) (now + 100 * sec * s.g THM_RAMP_RAMP_UP 0)))
  (s.setG THM_FCST_MEAN_W i (bound x.1)).setG THM_FCST_MAX_W i (bound x.2.1)
/-- FORECAST_UPDATE (R289): horizons 1 s, 10 s and 60 s. -/
def execForecastUpdate (changes : List (Part × Bool × Fin 60001)) (s : State) : Host.Outcome State Fault Refusal :=
  .next (((s.forecast 0 1 changes).forecast 1 10 changes).forecast 2 60 changes)

/-! ### Keeping warm (R290) -/

/-- A quadrant may carry the warming load. -/
def State.mayWarm (s : State) (q : Nat) : Bool :=
  decide (s.qstate q = qIdle) && !s.power.moving.has q &&
  (match s.quadOwner q with
    | none => true
    | some p => decide (s.pstate p = psEmpty) || (decide (s.pstate p = psReady) && (s.part p).starting.isNone))
/-- Quadrants that may carry `w` W each without taking the input above the thermal allowance, by the last readings of input power and efficiency. -/
def State.warmRoom (s : State) (w : Nat) : Nat :=
  let eta := s.g PWR_IN_P_ETA 0
  let now := s.thermal.warming.entries.length * s.thermal.warmW * 1000
  if w = 0 then 224 else (s.g THM_ALLOW_ALLOW_W 0 * eta - (s.g PWR_IN_P_PIN_W 0 * eta - now)) / (1000 * w)
/-- The load yields where a window leaves it less room (Table 11-4). -/
def State.yieldWarm (s : State) : State :=
  let l := s.thermal.warming.entries.map (·.1)
  { s with thermal := { s.thermal with
    warming := (l.take (s.warmRoom s.thermal.warmW)).foldl (fun (m : NatSet) q => m.add q) Map.empty } }
/-- WARMING_ROTATE (R290): the quadrants that carry the load from now on, and what each adds; the floor is judged. -/
def execWarmingRotate (quads : List Quad) (watts : Fin 61) (s : State) : Host.Outcome State Fault Refusal :=
  let on := !s.alertOn && decide (s.boot = 4) && decide (0 < s.g THM_FLOOR_FLOOR_W 0)
  let w := watts.val / 5 * 5
  let l := if on then (quads.map (·.val)).filter s.mayWarm else []
  let s : State := { s with thermal := { s.thermal with warming := (l.take (s.warmRoom w)).foldl (fun (m : NatSet) q => m.add q) Map.empty, warmW := w } }
  let short := decide (s.boot = 4) && decide (s.g PWR_IN_P_PIN_W 0 < s.g THM_FLOOR_FLOOR_W 0)
  let rec_ := short && !s.thermal.floorEp
  let s := ({ s with thermal := { s.thermal with floorEp := short } }).setG THM_STATUS_FLOOR_SHORT 0 (b2n short)
  .next (if rec_ then s.thmRecord 0x6011 63 63 15 else s)

/-! ### Regions off for heat (R292 to R294) -/

/-- Every partition that touches the region is NONE, EMPTY or READY. -/
def State.regionIdle (s : State) (r : Nat) : Bool :=
  (upTo 64).all (fun p => !(s.partRegions p).contains r || decide (s.pstate p = psEmpty) || (decide (s.pstate p = psReady) && (s.part p).starting.isNone))
/-- A write that sets the region's bit. -/
def State.regionOff (s : State) (path : Path) (r : Nat) : State :=
  if bitAt (s.g THM_RGREQ_REQ 0) r then s
  else if !s.regionIdle r then s.refuseStatic path .thm 0 (THM_RGREQ_REQ.offset 0)
  else
    let s := (s.setG THM_RGREQ_REQ 0 (setBit (s.g THM_RGREQ_REQ 0) r true)).setG THM_RGSTATE_OFF 0 (setBit (s.g THM_RGSTATE_OFF 0) r true)
    let s := { s with thermal := { s.thermal with warming := s.thermal.warming.keep (fun q _ => regionOfQuad q != r) } }
    (s.adjustQuads ((upTo 224).filter (fun q => regionOfQuad q == r))).thmRecord 0x6013 63 63 r
/-- REGION_OFF (R292). -/
def execRegionOff (path : Path) (region : Region) (s : State) : Host.Outcome State Fault Refusal :=
  s.pageWrite path .thm false true (fun s => s.regionOff path region.val)
/-- REGION_ON (R294). -/
def execRegionOn (path : Path) (region : Region) (s : State) : Host.Outcome State Fault Refusal :=
  s.pageWrite path .thm false true (fun s => s.regionBack region.val)

end Sys2Proof.Machine
end

