-- ==== Sys2Proof/Machine/Bringup.lean ====
section
/-! DEFINITION. Bring-up: cold starts, warm module resets and the ready check (13_bringup_reset_repair.md R318 to R327). -/

namespace Sys2Proof.Machine

/-! ### Firmware images (R320, R343, R346) -/

/-- Slot of a firmware kind that the flash marks active. -/
def State.fwSlot (s : State) (kind : Nat) : Nat := s.repair.fwActive.get kind 0
/-- Staged images become active at a module reset. -/
def State.activateStaged (s : State) : State :=
  { s with repair := { s.repair with
    fwActive := s.repair.fwStaged.entries.foldl (fun (m : Map Nat) e => m.put e.1 (1 - m.get e.1 0)) s.repair.fwActive, fwStaged := Map.empty } }
/-- The image checks of some kinds: a record for every image that is not started. -/
def State.checkImages (s : State) (b : BringUp) (kinds : List Nat) : State :=
  kinds.foldl (fun (s : State) k =>
    let one (s : State) : State := s.record { code := 0x7084, unit := 14 }
    if (b.fwBoth.map (·.val)).contains k then one (one s) else if (b.fwFirst.map (·.val)).contains k then one s else s) s
/-- Neither slot of a kind has an image that passes. -/
def bringUpLacks (b : BringUp) (kinds : List Nat) : Bool := kinds.any (fun k => (b.fwBoth.map (·.val)).contains k)
/-- RST_FW after a bring-up: both stewards run the image of one slot. -/
def State.showFw (s : State) (b : BringUp) : State :=
  let slot := if (b.fwFirst.map (·.val)).contains 2 then 1 - s.fwSlot 2 else s.fwSlot 2
  ((s.setG RST_FW_ACT_SLOT 0 slot).setG RST_FW_STBY_SLOT 0 slot).setG RST_FW_UPD 0 0

/-! ### The ready check (R324, R325, Table 13-5) -/

/-- HALT with a reason. PCT at a halt is not stated: a free value. -/
def State.haltWith (s : State) (why : Nat) : State :=
  let x := s.takeFree
  ((x.2.setG RST_STATE_HALTR 0 why).setG RST_STATE_PCT 0 (x.1 % 101)).setBoot 5
/-- An Aqueduct port taken out of service is disabled. -/
def State.disablePorts (s : State) : State :=
  s.repair.takenPorts.entries.foldl (fun (s : State) e => s.setG AQD_PSTAT_STATE e.1 5) s
/-- READY is declared; functions of rim dies taken out are lost as if the die failed in service (Table 13-11). DESIGN CHOICE: R24 makes the units of N0 and
N1 active at a module reset, and the spec does not say who is active where R325 has taken that die out; here its counterpart takes over as READY is
declared, with the record of a takeover (log entry 63). -/
def State.becomeReady (s : State) : State :=
  let s := s.repair.takenRims.entries.foldl (fun (s : State) e => s.rimEffects e.1) s.disablePorts
  ((s.setG RST_STATE_HALTR 0 0).setG RST_STATE_PCT 0 100).setBoot 4

/-- Items that disagree, less those taken out of service: stacks, rim dies from 64, ports from 128. -/
def State.disagree (s : State) (b : BringUp) : List Nat × List Nat :=
  let st := (b.badStacks.map (·.val)).filter (fun h => !s.repair.takenStacks.mem h)
  let rd := (b.rims.map (·.val)).filter (fun d => !s.repair.takenRims.mem d)
  let po := if s.link.chainMode then (b.ports.map (·.val)).filter (fun n => !s.repair.takenPorts.mem n) else []
  (st ++ rd.map (· + 64), po.map (· + 128))
/-- The check: READY, or HALT with the first row that disagrees; each row that disagrees has its record. -/
def State.readyCheck (s : State) (b : BringUp) : State :=
  let d := s.disagree b
  let rows : List (Bool × Nat) :=
    [(!b.recordOk, 0x7080), (!b.identityOk, 0x7081), (!d.1.isEmpty || !b.repairsIn, 0x7082), (!d.2.isEmpty, 0x7083)]
  let bad := rows.filter (·.1)
  let s := bad.foldl (fun (s : State) e => s.record { code := e.2, unit := 14 }) s
  let s := { s with repair := { s.repair with haltItems := (d.1 ++ d.2).foldl (fun (m : NatSet) k => m.add k) Map.empty } }
  match bad with
  | [] => s.becomeReady
  | e :: _ => s.haltWith (e.2 - 0x707F)

/-- ACCEPT_TOPOLOGY (R325). -/
def State.acceptTopology (s : State) : State :=
  let why := s.g RST_STATE_HALTR 0
  if s.boot ≠ 5 then s.rstRefused 0x9029
  else if why ≠ 3 && why ≠ 4 then s.rstRefused 0x7081
  else
    let items := s.repair.haltItems.entries.map (·.1)
    let r := s.repair
    let add (m : NatSet) (lo hi : Nat) : NatSet := (items.filter (fun k => decide (lo ≤ k) && decide (k < hi))).foldl (fun (m : NatSet) k => m.add (k - lo)) m
    let s := { s with repair := { r with
      takenStacks := add r.takenStacks 0 64, takenRims := add r.takenRims 64 128, takenPorts := add r.takenPorts 128 256, haltItems := Map.empty } }
    ((s.rstBegin.record { code := 0x7087, unit := 14 }).becomeReady).rstEnd 0
def execAcceptTopology (path : Path) (s : State) : Host.Outcome State Fault Refusal := s.rstWrite path State.acceptTopology

/-! ### Repairs of a self test (R320 step 12, R323) -/

/-- Tiles and spare tiles that failed are repaired; array spares found are added to the field repair map. -/
def State.testRepairs (s : State) (b : BringUp) : State :=
  let s := b.spares.foldl (fun (s : State) e =>
    let w := s.column e.1.val e.2.1.val
    s.setColumn e.1.val e.2.1.val (setBits w (if e.2.2 then 16 else 17) (if e.2.2 then 16 else 17) 1)) s
  let s := b.failed.foldl (fun (s : State) t => (s.repairTile t.val true false).1) s
  { s with repair := { s.repair with spares := s.repair.spares ++ (b.arrays.map (·.val)).filter (fun e => !s.repair.spares.contains e) } }
/-- Tiles fenced in place by the field repair map. -/
def State.refence (s : State) : State :=
  s.repair.columns.entries.foldl (fun (s : State) e =>
    if bitAt e.2 15 then
      let t := e.1 / 32 * 1024 + bits e.2 14 9 * 32 + e.1 % 32
      (s.setReg SEQ_STATUS_FENCED t 0 1).setReg RTR_STATUS_FENCED t 0 1
    else s) s
/-- After bring-up every quadrant is requested IDLE (R261), and takes that state unless its region is off for heat, its site dark, or its wake failed
twice. -/
def State.powerQuads (s : State) (b : BringUp) : State :=
  let s := b.impaired.foldl (fun (s : State) q => s.impairQuad q.val) s
  (upTo 224).foldl (fun (s : State) q =>
    (s.setG (PWR_QREQ (q % 16)) (q / 16) qIdle).setG (PWR_QSTATE (q % 16)) (q / 16) (if s.heldOff q then qOff else qIdle)) s
/-- Quadrants that stay OFF: their banks hold no trims. -/
def State.offQuads (s : State) : NatSet := ((upTo 224).filter (fun q => s.qstate q == qOff)).foldl (fun (m : NatSet) q => m.add q) Map.empty

/-! ### From the supplies to the ready check -/

/-- Registers of failed phases, converters and regulators are as new; quadrants that failed are tried again (Table 13-13). A limit that an anomaly
lowered stays (R266), and a site dark through the junction trip stays dark until it is released (R288). -/
def State.freshSupplies (s : State) : State :=
  let s := { s with
    power := { s.power with
      phases := Map.empty, darkWhy := s.power.darkWhy.keep (fun _ w => w == 2), transitFault := Map.empty, wakeFails := Map.empty }
    repair := { s.repair with withdrawn := Map.empty } }
  let s := (upTo 7).foldl (fun (s : State) n => s.setG RST_QIMP_IMPAIRED n 0) (s.setG PWR_ICONV_FAILED 0 0)
  (upTo 56).foldl (fun (s : State) site => s.setG PWR_SSTAT_PH_FAILED site 0) s

/-- θ_s of every site is its factory value again, until a valid sample (R282). -/
def State.freshTheta (s : State) : State :=
  let s := { s with thermal := { s.thermal with theta := Map.empty } }
  s.allSites (fun s x => (s.resetReg THM_STHETA_THETA 0 x).judgeTheta x)
/-- Readings taken at bring-up: fused voltages, path resistances, diodes. -/
def State.bringReadings (s : State) (b : BringUp) : State :=
  let s := { s with
    power := { s.power with
      vBase := b.base.foldl (fun (m : Map Nat) (e : Site × Fin 1024) => m.put e.1.val e.2.val) s.power.vBase
      baseRes := b.res.foldl (fun (m : Map Nat) (e : Quad × Fin 16777216) => m.put e.1.val e.2.val) s.power.baseRes }
    thermal := { s.thermal with
      diode0 := b.diode.val, diode := b.diodes.foldl (fun (m : Map Nat) (e : Tile × Fin 1024) => m.put e.1.val e.2.val) Map.empty, baseSens := Map.empty
      shutdown := false } }
  s.allSites (fun s site =>
    let s := if s.power.vBase.has site then (s.setG PWR_SCFG_VSET_MV site (max 600 (min 800 (s.rawSet site / 2)))).judgeSet site else s
    (s.refreshSite site).refreshTemp site)

/-- Every bank calibrated in foreground (R310): what it measures is new. -/
def State.calibrateAll (s : State) : State :=
  let x := s.takeFree
  { x.2 with cal := { CalSt.init with epoch := x.1 + 1, tcal0 := x.2.thermal.diode0, off := x.2.offQuads } }
/-- Trims of the snapshot restored where they pass (R326). -/
def State.restoreAll (s : State) (c : CalSt) : State :=
  (upTo 57344).foldl (fun (s : State) t => s.retrim t)
    { s with cal := { c with pass := Map.empty, passNow := Map.empty, monBusy := Map.empty, off := s.offQuads, qual := Map.empty } }

/-- From step 3 of Table 13-2, or the fast path of Table 13-6, to the ready check; `kept`: the calibration that the fast path restores. -/
def State.bringUp (s : State) (b : BringUp) (kept : Option CalSt) : State :=
  let s := ({ s with power := { s.power with convOn := true, waitMain := false, stopped := false } }.setBoot 1).lockClocks true
  let s := (s.checkImages b [1, 2, 3, 4]).showFw b
  if bringUpLacks b [1, 2, 3, 4] then s.haltWith 5
  else
    let s := (((s.freshSupplies.freshTheta).refence).powerQuads b).bringReadings b
    let s := match kept with
      | some c => s.restoreAll c
      | none =>
        let s := ((s.setBoot 2).testRepairs b).calibrateAll
        { s with repair := { s.repair with fullTestAt := s.ptp + b.took.val, failSince := false } }
    let s := { s with repair := { s.repair with failedStacks := Map.empty, failedRims := Map.empty } }
    let s := (s.setG RST_STATE_FAST 0 (b2n kept.isSome)).setBoot 3
    let s := s.repair.pubKeys.entries.foldl (fun (s : State) e => s.setKeyId e.1 (keyIdOf e.2.1 e.2.2)) s
    ((s.checkCerts (b.certs.map (·.val))).applyPlan).readyCheck b
/-- The time that a bring-up took. -/
def State.took (s : State) (b : BringUp) : State := { s with ptp := s.ptp + b.took.val }

/-! ### Cold start (R319, R320) -/

/-- The 54 V input in millivolts: bring-up goes on within its range (Table 10-1); the converters may restart above 47 V (R250). -/
def mainReady (mv : Nat) : Bool := decide (48000 ≤ mv) && decide (mv ≤ 60000)
def mainInRange (mv : Nat) : Bool := decide (47000 < mv) && decide (mv ≤ 62000)
def State.readMain (s : State) (mv : Nat) : State :=
  { (s.setG PWR_IN_VIN 0 (mv / 10)) with power := { s.power with mainOk := mainInRange mv } }

/-- COLD_START (R320): the auxiliary input comes into range; `b`: what bring-up finds. -/
def State.coldStart (s : State) (b : BringUp) : State :=
  let s := { s with power := { s.power with auxOn := true }, link := { s.link with mgmtI3c := b.i3c, slotId := b.slotId.val } }.activateStaged
  let s := (s.checkImages b [0]).readMain b.mv.val
  if bringUpLacks b [0] then s.haltWith 5
  else if mainReady b.mv.val then (s.bringUp b none).took b
  else { s with power := { s.power with waitMain := true } }
def execColdStart (found : BringUp) (s : State) : Host.Outcome State Fault Refusal := if s.power.auxOn then .next s else .next (s.coldStart found)

/-- MAIN_INPUT_IN_RANGE (R319): the 54 V input reads `found.mv`; a bring-up that waits in BOOT goes on. -/
def execMainInputInRange (found : BringUp) (s : State) : Host.Outcome State Fault Refusal :=
  if !s.power.auxOn then .next s
  else
    let s := s.readMain found.mv.val
    if s.power.waitMain && mainReady found.mv.val then .next ((s.bringUp found none).took found) else .next s

/-! ### Warm reset (R326, R327) -/

/-- R327: the fast path holds. -/
def State.fastOk (s : State) : Bool :=
  s.flag RST_CFG_FAST_EN 0 0 && !s.power.stopped && s.cal.epoch != 0 &&
    decide (s.ptp - s.repair.fullTestAt ≤ s.g RST_CFG_FULL_DAYS 0 * (86400 * 10 ^ 9)) && !s.repair.failSince
/-- All compute, the allottable Cistern area, links and partitions are lost; AON, the flash and the system area with the fault log stay. -/
def State.warmLose (s : State) : State :=
  let x := s.loseAll
  let neg (k : Nat) : Bool := k / 32 / 4096 / 65536 == Page.sec.code && k / 32 % 4096 == SEC_NEG_MAJOR.off
  { x with
    log := s.log, wcount := 0, regs := x.regs.keep (fun k _ => !neg k)
    mem := s.mem.keep (fun a _ => outside a || (decide (systemBase ≤ a) && decide (a < spillBase)))
    link := { x.link with locked := false } }
/-- A warm module reset. -/
def State.warmReset (s : State) (b : BringUp) : State :=
  if s.power.auxOn && s.power.mainOk then
    let fast := s.fastOk
    let kept := if fast then some s.cal else none
    ((((s.warmLose).activateStaged).setBoot 0).bringUp b kept).took b
  else s
/-- MODULE_WARM of RST_CMD (R334). -/
def execModuleWarm (path : Path) (found : BringUp) (s : State) : Host.Outcome State Fault Refusal := s.rstWrite path (fun s => s.warmReset found)

/-- PERST or a hot reset (R334): the controller and the host-facing state of every function, or the module. -/
def State.perst (s : State) (b : BringUp) : State :=
  if s.flag RST_CFG_PERST_MODULE 0 0 then s.warmReset b
  else
    let s := (upTo 65).foldl (fun (s : State) fn => s.resetFn fn) s
    ({ s with link := { s.link with vfEnable := false } }.closeDoe).pcieDown
def execPerst (found : BringUp) (s : State) : Host.Outcome State Fault Refusal := if s.power.auxOn then .next (s.perst found) else .next s

end Sys2Proof.Machine
end

