-- ==== Sys2Proof/Machine/Firmware.lean ====
section
/-! DEFINITION. Firmware images written in service, and the update of the steward firmware (13_bringup_reset_repair.md R343, R346). -/

namespace Sys2Proof.Machine

def updIdle : Nat := 0
def updLoading : Nat := 1
def updConfirm : Nat := 2
def updFailed : Nat := 3
def State.upd (s : State) : Nat := s.g RST_FW_UPD 0
/-- A change of RST_FW.UPD, with its interrupt. -/
def State.setUpd (s : State) (v : Nat) : State :=
  if s.upd = v then s else ({ s with repair := { s.repair with fwSince := s.ptp } }.setG RST_FW_UPD 0 v).raiseInt 0 6
def State.fwRefused (s : State) : State := s.record { code := 0x7085, unit := 14 }

/-- FW_IMAGE_WRITE (R346 step 1; R343): management writes an image into the inactive slot of a kind (0 AON, 1 rim, 2 steward, 3 Cascade root, 4 links).
A steward image is loaded by the standby; others wait for a module reset. -/
def State.fwWrite (s : State) (kind id : Nat) (signed : Bool) : State :=
  if !signed || (kind == 2 && (s.upd == updLoading || s.upd == updConfirm)) then s.fwRefused
  else
    let slot := if kind = 2 then 1 - s.g RST_FW_ACT_SLOT 0 else 1 - s.fwSlot kind
    let s := { s with repair := { s.repair with
      fwImage := s.repair.fwImage.put (kind * 2 + slot) id, fwStaged := if kind = 2 then s.repair.fwStaged else s.repair.fwStaged.add kind } }
    if kind = 2 then ((s.setG RST_FW_STBY_SLOT 0 slot).loseStandby).setUpd updLoading else s
def execFwImageWrite (kind : Fin 5) (image : Fin 18446744073709551616) (signed : Bool) (s : State) : Host.Outcome State Fault Refusal :=
  if s.power.auxOn then .next (s.fwWrite kind.val image.val signed) else .next s

/-- FW_STANDBY_READY (R346 steps 2 to 4): the standby is in step with the new image, and takes over. -/
def execFwStandbyReady (s : State) : Host.Outcome State Fault Refusal :=
  if s.upd = updLoading then .next (((s.setG STW_CTRL_STANDBY_OK 0 1).takeOver).setUpd updConfirm) else .next s
/-- FW_STANDBY_TIMEOUT (R346 step 2): no STANDBY_OK within 10 s. -/
def execFwStandbyTimeout (s : State) : Host.Outcome State Fault Refusal :=
  if s.upd = updLoading && decide (s.repair.fwSince + 10 ^ 10 ≤ s.ptp) then .next (s.fwRefused.setUpd updFailed) else .next s
/-- FW_CONFIRM_EXPIRY (R346 step 5): the former steward loads the new image and becomes standby; the slot is marked active in flash. -/
def execFwConfirmExpiry (s : State) : Host.Outcome State Fault Refusal :=
  if s.upd = updConfirm && decide (s.repair.fwSince + 10 ^ 9 * s.g RST_FW_CONFIRM_S 0 ≤ s.ptp) then
    let slot := s.g RST_FW_ACT_SLOT 0
    let s := { s with repair := { s.repair with fwActive := s.repair.fwActive.put 2 slot } }
    .next (((s.setG RST_FW_STBY_SLOT 0 slot).loseStandby).setUpd updIdle)
  else .next s

end Sys2Proof.Machine
end

