-- ==== Sys2Proof/Machine/Links.lean ====
section
/-! DEFINITION. PCI Express, Ethernet and precision time (14 R350 to R356, R377, R378). -/

namespace Sys2Proof.Machine

/-- A record of class A (R378): the port (255: none), the physical lane (15: none). -/
def State.linkRecord (s : State) (code port lane : Nat) : State := s.record { code := code, unit := 13, detail := port * 256 + lane * 16 }
/-- A record of class 7 of this chapter. -/
def State.secRecord (s : State) (code : Nat) : State := s.record { code := code, unit := 14, detail := 0xFFF0 }

/-! ### The auxiliary connector (Table 14-2) -/

/-- MOD_READY: high in state READY. -/
def State.modReadyPin (s : State) : Bool := s.boot == 4
/-- FAULT_N: low in HALT, and after a thermal shutdown or a loss of the main input until a module reset. -/
def State.faultPin (s : State) : Bool := !(s.boot == 5 || s.power.stopped)
/-- PPS_OUT: high for 1 µs at each PTP second. -/
def State.ppsPin (s : State) : Bool := s.power.auxOn && decide (s.ptp % 1000000000 < 1000)
/-- The module's address on the management bus. -/
def State.mgmtAddress (s : State) : Nat := 0x60 + s.link.slotId

/-! ### PCI Express (R350 to R352, R377) -/

/-- A rim die works. -/
def State.rimUp (s : State) (d : Nat) : Bool := !s.repair.failedRims.mem d && !s.repair.takenRims.mem d

/-- MSI-X messages that wait are sent once the function may master the bus and the vector is unmasked. -/
def State.sendPending (s : State) : State :=
  (s.link.msixPend.entries.map (·.1)).foldl (fun (s : State) k =>
    if s.fnMayMaster (k / 128) && s.link.msixOpen.mem k then
      { s with link := { s.link with msixPend := s.link.msixPend.del k } }.emit (.msix (k / 128) (k % 128))
    else s) s

/-- PCIE_LINK_UP (R319, R350): the link trains, at a speed (1 to 6) and at 1, 2, 4, 8 or 16 lanes, once the Detect hold has ended. -/
def execPcieLinkUp (speed : Fin 7) (lanes : Fin 5) (flit : Bool) (s : State) : Host.Outcome State Fault Refusal :=
  if s.boot = 0 || !s.rimUp 0 || s.link.pcieUp || speed.val = 0 then .next s
  else
    let s := ((s.setG PCI_LINK_SPEED 0 speed.val).setG PCI_LINK_WIDTH 0 (2 ^ lanes.val)).setG PCI_LINK_FLIT 0 (b2n flit)
    .next ({ s with link := { s.link with pcieUp := true } }.sendPending)
/-- PCIE_LINK_DOWN (R377): rings count as full; no record is lost. -/
def execPcieLinkDown (s : State) : Host.Outcome State Fault Refusal := .next s.pcieDown

/-- BUS_MASTER_ENABLE_CHANGE (R351): a configuration write of VF Enable, or of the Bus Master Enable of a function. -/
def execBusMasterEnableChange (change : BusChange) (s : State) : Host.Outcome State Fault Refusal :=
  if !s.link.pcieUp then .next s
  else match change with
    | .vfEnable on => .next ({ s with link := { s.link with vfEnable := on } }.sendPending)
    | .busMaster fn on =>
      if fn.val != 0 && !s.link.vfEnable then .next s
      else .next ({ s with link := { s.link with busMaster := s.link.busMaster.upd fn.val on } }.sendPending)

/-- IDE_CHECK_FAIL (R352): a TLP fails its integrity check; the read that it would have completed, if any, fails (R351). -/
def execIdeCheckFail (read : IdeRead) (s : State) : Host.Outcome State Fault Refusal :=
  if !s.link.pcieUp then .next s
  else
    let s := s.secRecord 0x7004
    match read with
    | .none => .next s
    | .prompt r => execPromptReadDone r none s
    | .resume r => execResumeReady r none true s
    | .shard p k => execShardFetchError p k s

/-! ### Ethernet (R353, R354, R377) -/

/-- The rim die of a port (Table 13-11). -/
def rimOfPort (n : Nat) : Nat := if n < 2 then 2 else 6
/-- ETH_PORT_UP (R353). -/
def execEthPortUp (port : Fin 4) (s : State) : Host.Outcome State Fault Refusal :=
  if s.boot = 0 || !s.rimUp (rimOfPort port.val) || !s.flag NET_PCFG_EN 0 port.val then .next s
  else .next (s.setG NET_STATUS_LINK 0 (setBit (s.g NET_STATUS_LINK 0) port.val true))
/-- ETH_PORT_DOWN (R377). -/
def execEthPortDown (port : Fin 4) (s : State) : Host.Outcome State Fault Refusal := .next (s.ethDown port.val)

/-- A received frame is of a use in Table 14-4: 0 a response of a READ or WRITE of the engine's, 1 any other RoCEv2 operation on its queue
pairs, 2 precision time, 3 ARP, 4 neighbour discovery, 5 ICMP echo, 6 priority flow control, 7 none. -/
def State.frameUsed (s : State) (n : Nat) (f : EthFrame) : Bool :=
  decide (f.kind.val < 7) && decide (f.bytes.val ≤ 9216) && f.mine &&
    (match f.tag with
      | none => !s.flag NET_PCFG_VLAN_EN 0 n
      | some v => s.flag NET_PCFG_VLAN_EN 0 n && v.val == s.g NET_PCFG_VID n)
/-- ETH_FRAME (R353, R202): answered where the use asks for an answer, taken by its use, or discarded and counted. -/
def execEthFrame (port : Fin 4) (frame : EthFrame) (s : State) : Host.Outcome State Fault Refusal :=
  let n := port.val
  if !bitAt (s.g NET_STATUS_LINK 0) n then .next s
  else if frame.codewordBad then .next (s.addReg NET_FEC_UNC_COUNT 0 n 1)
  else if !s.frameUsed n frame then .next (s.addReg NET_PDROP_COUNT 0 n 1)
  else if frame.kind.val = 1 || (3 ≤ frame.kind.val && frame.kind.val ≤ 5) then .next (s.emit (.frame n frame.kind.val))
  else .next s

/-! ### Precision time (R356) -/

/-- An offset measured: up to 1 ms it is slewed, beyond it PTP time is stepped once. -/
def State.correct (s : State) (ofs : Int) (port : Nat) : State :=
  if ofs.natAbs ≤ 1000000 then { s with link := { s.link with slew := -ofs } }
  else ({ s with ptp := ((s.ptp : Int) - ofs).toNat, link := { s.link with slew := 0 } }).linkRecord 0xA004 port 15
/-- NET_PTP_OFS, saturating. -/
def ofsWord (v : Int) : Nat := (max (-2147483648) (min 2147483647 v) % 4294967296).toNat
/-- The port of the time source. -/
def State.ptpPort (s : State) : Nat := if s.flag NET_PTP_SRC 0 0 then 255 else s.g NET_PTP_PORT 0

/-- PTP_MESSAGE (R356): an exchange with the master gives the module's offset from it, and the rate of the module reference over the last
second (0.01 ppm). -/
def execPtpMessage (port : Fin 4) (domain : Fin 256) (transport : Fin 4) (offset : Int) (rate : Fin 65536) (s : State) : Host.Outcome State Fault Refusal :=
  if s.flag NET_PTP_EN 0 0 && !s.flag NET_PTP_SRC 0 0 && s.g NET_PTP_PORT 0 == port.val && s.g NET_PTP_DOMAIN 0 == domain.val &&
      s.g NET_PTP_TRANSPORT 0 == transport.val && bitAt (s.g NET_STATUS_LINK 0) port.val then
    .next ((((s.setG NET_PTP_OFS_OFS 0 (ofsWord offset)).setG NET_STATUS_PTP_LOCKED 0 1).setG CLK_REF_REF_OFS 0 rate.val).correct offset port.val)
  else .next s
/-- PTP_LOCK_LOSS (R356): the time runs on from the AON oscillator. -/
def execPtpLockLoss (s : State) : Host.Outcome State Fault Refusal :=
  if s.flag NET_STATUS_PTP_LOCKED 0 0 then
    .next (({ s with link := { s.link with slew := 0 } }.setG NET_STATUS_PTP_LOCKED 0 0).linkRecord 0xA003 s.ptpPort 15)
  else .next s

/-- The second that a pulse marks: NET_TOD where it has been written since the last pulse, else the nearest. -/
def State.pulseSecond (s : State) : Nat :=
  if s.link.todNew then s.g NET_TOD_SEC 0 + s.g NET_TOD_SEC 1 * 2 ^ 32 else (s.ptp + 500000000) / 1000000000
/-- PPS_IN_PULSE (R356, R349): a pulse of `ns` nanoseconds; the filter ignores one shorter than 50 ns. -/
def execPpsInPulse (ns : Fin 1000000000) (s : State) : Host.Outcome State Fault Refusal :=
  if s.power.auxOn && s.flag NET_PTP_EN 0 0 && s.flag NET_PTP_SRC 0 0 && decide (50 ≤ ns.val) then
    let ofs : Int := (s.ptp : Int) - (s.pulseSecond * 1000000000 : Nat)
    .next ((({ s with link := { s.link with todNew := false } }.setG NET_PTP_OFS_OFS 0 (ofsWord ofs)).setG NET_STATUS_PTP_LOCKED 0 1).correct ofs 255)
  else .next s

end Sys2Proof.Machine
end

