-- ==== Sys2Proof/Machine/Aqueduct.lean ====
section
/-! DEFINITION. The Aqueduct ports: training, the link layer, lanes, and the messages of chains (14 R357 to R367). -/

namespace Sys2Proof.Machine

/-! ### Training and the peer (R358) -/

/-- The port is enabled and in service, and its supplies are up. -/
def State.portOn (s : State) (n : Nat) : Bool := s.flag AQD_PCFG_EN 0 n && !s.repair.takenPorts.mem n && s.boot != 0
/-- The port stands aligned, with or without traffic. -/
def State.portStands (s : State) (n : Nat) : Bool := decide (apQuiet ≤ s.pstat n) && decide (s.pstat n ≤ apFour)
/-- The plan's entry for a port. -/
def State.planPort (s : State) (n : Nat) : Option ChainPort := (s.link.plan.map (fun g => g.ports.find? (fun e => e.port == n))).join
/-- The peer is the one of the chain plan: identity, port, mode and chain. -/
def State.peerFits (s : State) (n : Nat) : Bool :=
  let x := s.aport n
  s.link.chainMode && x.authed && x.peerChained && (s.link.plan.map (·.chainId)) == some x.peerChain &&
    (match s.planPort n with
      | some e => e.peerPort == x.peerPort && e.peerId == x.peerId
      | none => false)
/-- AQD_PSTAT of an aligned port whose peer has authenticated itself. -/
def State.settlePort (s : State) (n : Nat) : State :=
  let fits := s.peerFits n
  (s.setG AQD_PSTAT_STATE n (if fits then (if (s.aport n).good < 8 then apFour else apUp) else apQuiet)).setG AQD_PSTAT_PEER_OK n (b2n fits)
/-- A port that carries nothing: down (0) or training (1). -/
def State.leavePort (s : State) (n st : Nat) : State :=
  ((s.setG AQD_PSTAT_STATE n st).setG AQD_PSTAT_PEER_OK n 0).updPort n (fun x => { x with authed := false })
/-- The port is down, with the record of it. -/
def State.portFails (s : State) (n lane : Nat) : State := (s.leavePort n apDown).linkRecord 0xA020 n lane
/-- The port trains its lanes again and keeps its retry buffer (R360). -/
def State.retrainPort (s : State) (n : Nat) : State :=
  let s := ((s.leavePort n apTraining).updPort n (fun x => { x with retrain := true, nakStreak := 0 })).addReg AQD_RETRY_EVENTS 0 n 1
  s.linkRecord 0xA023 n 15

/-- AQD_TRAIN_RETRY (R360): a port that is down begins its training, with every lane. -/
def execAqdTrainRetry (port : Site) (s : State) : Host.Outcome State Fault Refusal :=
  let n := port.val
  if s.portOn n && s.pstat n == apDown then
    let s := ((s.setG AQD_PSTAT_STATE n apTraining).resetReg AQD_LANEMAP_LMAP 0 n).setG AQD_PSTAT_SPARE_USED n 0
    .next (s.updPort n (fun x => { x with retrain := false, laneFailed := Map.empty }))
  else .next s
/-- AQD_RETRAIN_TIMEOUT (R360): the training has not finished in time. -/
def execAqdRetrainTimeout (port : Site) (s : State) : Host.Outcome State Fault Refusal :=
  let n := port.val
  if s.pstat n == apTraining then
    .next (if (s.aport n).retrain then s.portFails n 15 else s.leavePort n apDown)
  else .next s

/-- The LINK message of a port: major version 1, its port number, the fabric mode, the chain identifier and DEVICE_ID, in a layout of the model
(log 76); the challenge's signature is the device's own, and is not computed. -/
def State.sendLink (s : State) (n : Nat) : State :=
  let chain := (s.link.plan.map (·.chainId)).getD 0
  s.sendPlain n 5 0 [n, b2n s.link.chainMode, chain] 0 0
    (bytesOf 1 1 ++ bytesOf 1 n ++ bytesOf 1 (b2n s.link.chainMode) ++ bytesOf 2 chain ++ bytesOf 16 (s.g SEC_DEVICE_ID_DEVICE_ID 0))
/-- AQD_LINK_MESSAGE (R358): the lanes are aligned, and the ends have exchanged versions, identities and signatures. -/
def execAqdLinkMessage (port : Site) (peer : LinkPeer) (s : State) : Host.Outcome State Fault Refusal :=
  let n := port.val
  if !(s.portOn n && s.pstat n == apTraining) then .next s
  else if !(peer.majors.map (·.val)).contains 1 then .next ((s.leavePort n apDown).linkRecord 0xA027 n 15)
  else
    let s := s.sendLink n
    if !peer.signed then .next ((s.leavePort n apDown).linkRecord 0xA024 n 15)
    else
      let s := (s.updPort n (fun x => { x with
        authed := true, peerId := peer.deviceId.val, peerPort := peer.port.val, peerChained := peer.chained, peerChain := peer.chainId.val
        retrain := false })).setG AQD_PSTAT_PEER_PORT n peer.port.val
      let s := s.settlePort n
      .next (if s.link.chainMode && (s.planPort n).isSome && !s.peerFits n then s.linkRecord 0xA024 n 15 else s)

/-! ### The link layer (R359, R360) -/

/-- Every flit before FSEQ `n` has been received good. -/
def AqdPort.ackTo (x : AqdPort) (n : Nat) : AqdPort :=
  if n = x.nextSeq then { x with kept := [] }
  else if x.kept.any (fun k => k.fseq == n) then { x with kept := x.kept.dropWhile (fun k => k.fseq != n) }
  else x
/-- A CTRL NAK is sent that names the next FSEQ expected. -/
def State.sendNak (s : State) (n : Nat) : State := (s.sendCtrl n 0 (s.aport n).expect).addReg AQD_RETRY_NAKS 0 n 1
/-- A NAK received: the flits from `from_` on are sent again, unless that flit has been NAKed 8 times in succession. -/
def State.takeNak (s : State) (n from_ : Nat) : State :=
  let s := (s.addReg AQD_RETRY_NAKS 0 n 1).updPort n (fun x =>
    { x.ackTo from_ with nakFor := from_, nakStreak := if x.nakFor = from_ then x.nakStreak + 1 else 1 })
  if 8 ≤ (s.aport n).nakStreak then s.retrainPort n
  else (s.aport n).kept.foldl (fun (s : State) k => s.putFlit n k) s
/-- AQD_FLIT_RECEIVE (R360). -/
def execAqdFlitReceive (port : Site) (flit : AqdFlit) (s : State) : Host.Outcome State Fault Refusal :=
  let n := port.val
  if !(s.portStands n || s.pstat n == apTraining) then .next s
  else if !flit.crcOk then .next (s.sendNak n)
  else
    let s := if flit.av then s.updPort n (fun x => x.ackTo (nextFseq flit.ackseq.val)) else s
    if flit.ftype.val = 1 || flit.ftype.val = 3 then
      if flit.fseq.val = (s.aport n).expect then .next (s.updPort n (fun x => { x with expect := nextFseq x.expect })) else .next (s.sendNak n)
    else match flit.nak with
      | some f => if flit.ftype.val = 2 then .next (s.takeNak n f.val) else .next s
      | none => .next s
/-- AQD_ACK_TIMEOUT (R360): no acknowledgement has arrived for 10 µs. -/
def execAqdAckTimeout (port : Site) (s : State) : Host.Outcome State Fault Refusal :=
  let n := port.val
  if s.portStands n && !(s.aport n).kept.isEmpty then .next (s.retrainPort n) else .next s

/-! ### Lanes (R361) -/

def State.setLane (s : State) (n k v : Nat) : State := s.setG AQD_LANEMAP_LMAP n (setBits (s.g AQD_LANEMAP_LMAP n) (4 * k + 3) (4 * k) v)
/-- A working lane that carries none of the logical lanes in use. -/
def State.freeLane (s : State) (n : Nat) : Option Nat :=
  (upTo 9).find? (fun l => !(s.aport n).laneFailed.mem l && !((s.usedLanes n).map (s.laneMap n)).contains l)
/-- Logical lanes in use are moved off lanes that have failed. -/
def State.moveLanes (s : State) (n : Nat) : State :=
  (s.usedLanes n).foldl (fun (s : State) k =>
    if (s.aport n).laneFailed.mem (s.laneMap n k) then
      match s.freeLane n with
      | some l => s.setLane n k l
      | none => s
    else s) s
/-- AQD_LANE_SWAP (R361): a data lane is over its threshold in 3 windows, or has reported an uncorrectable codeword; `passes`: trained again,
it works. -/
def execAqdLaneSwap (port : Site) (lane : Fin 9) (passes : Bool) (s : State) : Host.Outcome State Fault Refusal :=
  let n := port.val
  let x := s.aport n
  if !s.portStands n || !((s.usedLanes n).map (s.laneMap n)).contains lane.val then .next s
  else
    let s' := s.updPort n (fun x => { x with laneFailed := x.laneFailed.add lane.val })
    if x.laneFailed.entries.isEmpty then
      let s' := (s'.sendCtrl n 1 x.nextSeq).moveLanes n
      let s' := if passes then s'.updPort n (fun x => { x with laneFailed := x.laneFailed.del lane.val }) else s'
      .next (((s'.setG AQD_PSTAT_SPARE_USED n (b2n (!passes))).addReg AQD_RETRY_EVENTS 0 n 1).linkRecord 0xA021 n lane.val)
    else if (s'.aport n).good < 4 then .next (s'.portFails n lane.val)
    else
      let s' := s'.moveLanes n
      .next ((if s'.pstat n = apQuiet then s' else s'.setG AQD_PSTAT_STATE n apFour).linkRecord 0xA022 n lane.val)

/-! ### Rows between modules (R362, R363) -/

/-- A STREAM or DELIVERY is answered: DACK (3), or DBUSY (4) with the refusal marked or not. -/
def State.dack (s : State) (n tag : Nat) : State := s.sendPlain n 3 0 [tag] 0 tag []
def State.dbusy (s : State) (n tag : Nat) (refused : Bool) : State := s.sendPlain n 4 (b2n refused) [tag] 0 tag (bytesOf 1 (b2n refused))

/-- A row that may be written: into an EMPTY row; else it is busy, and discarded after the timeout of R136. -/
def State.streamRow (s : State) (n tag p t drow : Nat) (data : List Byte) : State :=
  if s.tag t drow == 0 && s.sliceUp t then
    ((s.dlvWrite (enginePacket (srcPort n) p t drow data)).updTile t (fun x => { x with dlvWait := x.dlvWait.del (n * 65536 + tag) })).dack n tag
  else
    let k := n * 65536 + tag
    let since := (s.tile t).dlvWait.get k s.ptp
    if since + 1000 * s.reg BSN_SLUICE_CTRL_TIMEOUT_US t 0 ≤ s.ptp then
      ((s.lostRecord t drow (srcPort n)).updTile t (fun x => { x with dlvWait := x.dlvWait.del k })).dbusy n tag true
    else (s.updTile t (fun x => { x with dlvWait := x.dlvWait.put k since })).dbusy n tag false
/-- AQD_STREAM (R363): only to a tile of a chained partition, and only into its inbound window (R131). -/
def execAqdStream (port : Site) (tag : Fin 65536) (dtile : Fin 1048576) (drow : Fin 1024) (rcrc : Word32) (data : List Byte) (s : State) :
    Host.Outcome State Fault Refusal :=
  let n := port.val
  if !s.carries n then .next s
  else
    let dest := (tileOfAddr dtile.val).bind (fun t => (s.owner t).bind (fun p => if s.chained p && s.inWin t drow.val then some (p, t) else none))
    match dest with
    | none =>
      .next ((s.record { code := 0x4020, unit := 8, tile := tileOfAddr dtile.val, part := (tileOfAddr dtile.val).bind s.owner }).dbusy n tag.val true)
    | some (p, t) => if crc32c data = rcrc.toNat then .next (s.streamRow n tag.val p t drow.val data) else .next s

/-- The packet of an outbound row, in the list of those in flight. -/
def State.rowPacket (s : State) (t r : Nat) : Option (Nat × Packet) :=
  (s.flight.zipIdx.find? (fun e => e.1.src == t && e.1.row == r && e.1.remote)).map (fun e => (e.2, e.1))
/-- AQD_DACK (R363): the row has been written at the peer. -/
def execAqdDack (port : Site) (tag : Fin 65536) (s : State) : Host.Outcome State Fault Refusal :=
  match (s.aport port.val).asked.get? tag.val with
  | none => .next (s.updPort port.val (fun x => { x with told := x.told.del tag.val }))
  | some (t, r) =>
    let s := s.updPort port.val (fun x => { x with asked := x.asked.del tag.val })
    match s.rowPacket t r with
    | some (i, k) => .next ((s.setFlight i (some { k with done := true })).answer k 0)
    | none => .next s
/-- AQD_DBUSY (R363, R153): the row is busy there, and is sent again after 64 cycles; or it was refused, and is discarded. A DELIVERY is sent
again in the same way. -/
def execAqdDbusy (port : Site) (tag : Fin 65536) (refused : Bool) (s : State) : Host.Outcome State Fault Refusal :=
  let n := port.val
  match (s.aport n).asked.get? tag.val with
  | none => match (s.aport n).told.get? tag.val with
    | none => .next s
    | some (part, kind, figures) =>
      let s := s.updPort n (fun x => { x with told := x.told.del tag.val })
      .next (if refused || !s.carries n then s else s.sendTold n part kind figures)
  | some (t, r) =>
    let s := s.updPort port.val (fun x => { x with asked := x.asked.del tag.val })
    match s.rowPacket t r with
    | some (i, k) => .next (if refused then (s.setFlight i none).answer k 2 else s.answer k 1)
    | none => .next s

/-! ### Messages of a chain partition set (R366) -/

/-- A DELIVERY that reaches a port: one that its partition takes is answered DACK, any other DBUSY with the refusal marked. -/
def State.chainMsg (s : State) (port tag : Nat) (mine : Bool) (act : State → State) : Host.Outcome State Fault Refusal :=
  if !s.carries port then .next s else if mine then .next ((act s).dack port tag) else .next (s.dbusy port tag true)

/-- The shadow entry of a head's request: the one it has, or a FREE entry of the member's range. -/
def State.shadowOf (s : State) (p h : Nat) : Option Nat := match s.link.shadowEnt.get? (p * 65536 + h) with
  | some r => some r
  | none => (rowRun (s.part p).reqFirst (s.part p).reqCount).find? (fun r =>
      (s.req r).state == 0 && !s.link.shadowEnt.entries.any (fun e => e.2 == r))
/-- A shadow entry bound to a slot: pages below `lp` allocated, page lists written. -/
def State.bindShadow (s : State) (p h r lc lp slot : Nat) : State :=
  let s := { s with link := { s.link with shadowEnt := s.link.shadowEnt.put (p * 65536 + h) r } }
  let s := s.setReq r { ReqSt.clear with gen := (s.req r).gen, link := h, clen := lp, nextPos := lc }
  (s.allocPages p r lp).writeLists p r slot lp
/-- AQD_BIND (R366): request index, LC, LP, NQT and slot. -/
def execAqdBind (port : Site) (tag : Fin 65536) (part : Part) (head : Req) (lc lp : Fin 4294967296) (_nqt : Fin 65536) (slot : Fin 1024) (s : State) :
    Host.Outcome State Fault Refusal :=
  let p := part.val
  let r := s.shadowOf p head.val
  s.chainMsg port.val tag.val (s.chainMember p && r.isSome) (fun s => s.bindShadow p head.val (r.getD 0) lc.val lp.val slot.val)
/-- AQD_END (R366): the shadow entry and its pages are freed at the member's next commit boundary. -/
def execAqdEnd (port : Site) (tag : Fin 65536) (part : Part) (head : Req) (s : State) : Host.Outcome State Fault Refusal :=
  s.chainMsg port.val tag.val (s.chainMember part.val) (fun s => s.updPart part.val (fun x => { x with chainEnds := x.chainEnds.add head.val }))
/-- AQD_RESULT (R366): the result of the pass of a slot, at the head; none: it was lost on its way. -/
def execAqdResult (port : Site) (tag : Fin 65536) (part : Part) (slot : Fin 1024) (row : Option (List Byte)) (s : State) : Host.Outcome State Fault Refusal :=
  s.chainMsg port.val tag.val (s.chainHead part.val) (fun s => s.updPart part.val (fun x => { x with
    chainRes := x.chainRes.filter (fun c => c.1 != slot.val) ++ [(slot.val, row.getD [])] }))
/-- AQD_LOST (R366): positions that a member has lost; the head replays from the lowest over the chain. -/
def execAqdLost (port : Site) (tag : Fin 65536) (part : Part) (head : Req) (pos : Fin 4294967296) (s : State) : Host.Outcome State Fault Refusal :=
  s.chainMsg port.val tag.val (s.chainHead part.val) (fun s => s.updPart part.val (fun x => { x with
    chainLost := x.chainLost.put head.val (min pos.val (x.chainLost.get head.val pos.val)) }))
/-- The set's stop reaches a partition: it stops at its next boundary, or at once where it stands at one. -/
def State.setStops (s : State) (p : Nat) : State :=
  if s.runs p then
    let s := (s.updPart p (fun x => { x with setStop := true })).setPstate p psStopping
    if (s.part p).phase == .ready && (!(s.part p).goStart || s.link.markWait.has p) then s.stopReached p else s
  else s
/-- AQD_STOP (R366). -/
def execAqdStop (port : Site) (tag : Fin 65536) (part : Part) (s : State) : Host.Outcome State Fault Refusal :=
  s.chainMsg port.val tag.val (s.chained part.val) (fun s => s.setStops part.val)

/-! ### Marks (R367) -/

/-- A mark sent on. -/
def State.forwardMark (s : State) (chain head k ptp : Nat) : State :=
  s.markPorts.foldl (fun (s : State) n => s.sendMarkFlit n chain head k ptp) s
/-- The mark of a chain commit index has arrived at a partition. -/
def State.takeMark (s : State) (p k : Nat) : State :=
  let l := s.link
  let seen := max (k + 1) (l.markSeen.get p 0)
  { s with link := { l with
    markSeen := l.markSeen.put p seen, markWait := if l.chainIdx.get p 0 ≤ seen then l.markWait.del p else l.markWait } }
/-- AQD_MARK (R367): forwarded at once, it releases the next start of the partition of the set. -/
def execAqdMark (port : Site) (chain : Fin 65536) (head part : Part) (k ptp : Fin 18446744073709551616) (s : State) : Host.Outcome State Fault Refusal :=
  match s.link.plan with
  | none => .next s
  | some g =>
    if s.carries port.val && g.markPort == port.val && g.chainId == chain.val then
      let s := s.forwardMark chain.val head.val k.val ptp.val
      .next (if s.chained part.val then s.takeMark part.val k.val else s)
    else .next s
/-- MARK_TIMEOUT (R367): a follower's mark has not come for MARK_TO_US. -/
def execMarkTimeout (part : Part) (s : State) : Host.Outcome State Fault Refusal :=
  let p := part.val
  match s.link.markWait.get? p with
  | none => .next s
  | some since =>
    if since + 1000 * s.g AQD_CHAIN_MARK_TO_US 0 ≤ s.ptp then
      .next ((s.record { code := 0xA025, unit := 13, part := some p, detail := s.g AQD_PCHAIN_MPORT p * 256 + 15 * 16 }).cascadeStop p 3)
    else .next s

end Sys2Proof.Machine
end

