-- ==== Sys2Proof/Machine/Security.lean ====
section
/-! DEFINITION. Ownership, sessions, measurements, and the owner commands of fabric mode and chain plan (14 R364, R365, R371 to R374). -/

namespace Sys2Proof.Machine

/-! ### Answers -/

/-- The answer to an SPDM request: 0 accepted, 1 message refused, 2 owner command refused, 3 SessionLimitExceeded, 4 authentication failed. -/
def State.answerSpdm (s : State) (code : Nat) : State := s.emit (.spdm code [])
/-- An owner command refused: 0x7002 (R373). -/
def State.refuseOwner (s : State) : State := (s.secRecord 0x7002).answerSpdm 2
/-- Owner commands travel on the DOE mailbox and the management bus. -/
def State.spdmUp (s : State) (p : Path) : Bool := match p with
  | .pf => s.pathUp .pf
  | .vf _ => false
  | .mgmt => s.pathUp .mgmt
/-- An owner command: inside a session with an owner key, and accepted where it may be. -/
def State.ownerCmd (s : State) (p : Path) (ok : Bool) (act : State → State) : Host.Outcome State Fault Refusal :=
  if !s.spdmUp p then .next s
  else if s.openSession p && (p != .mgmt || s.answers) && ok then .next ((act s).answerSpdm 0)
  else .next s.refuseOwner

/-! ### Sessions (R373) -/

/-- First place of a path's sessions, of which there are four. -/
def sessBase (p : Path) : Nat := match p with
  | .mgmt => 4
  | _ => 0
/-- A place for one more session of a path. -/
def State.sessPlace (s : State) (p : Path) : Option Nat := ((upTo 4).map (· + sessBase p)).find? (fun k => !s.link.sessions.has k)
/-- The sessions that a path has open. -/
def State.sessCount (s : State) (p : Path) : Nat := ((upTo 4).filter (fun k => s.link.sessions.has (k + sessBase p))).length
/-- A key is in the owner store. -/
def State.ownerKey (s : State) (psk : Bool) (key : Nat) : Bool := s.link.ownerKeys.entries.any (fun e => e.2 == (psk, key))
/-- What an exchange establishes: an owner's session or another, or none where authentication fails. -/
def State.judgeAsk (s : State) (a : SessionAsk) : Option Session := match a with
  | .psk k good => if good && s.ownerKey true k.val then some ⟨true, true⟩ else none
  | .keys k good => if good then some ⟨s.ownerKey false k.val, true⟩ else none
  | .oneSided good => if good then some ⟨false, false⟩ else none

/-- SESSION_OPEN (R373). -/
def execSessionOpen (path : Path) (ask : SessionAsk) (s : State) : Host.Outcome State Fault Refusal :=
  if !s.spdmUp path then .next s
  else match s.sessPlace path with
    | none => .next ((s.secRecord 0x7005).answerSpdm 3)
    | some k => match s.judgeAsk ask with
      | none => .next ((s.secRecord 0x7001).answerSpdm 4)
      | some x => .next ({ s with link := { s.link with sessions := s.link.sessions.put k x } }.answerSpdm 0)
/-- The session of a place ends. -/
def State.endSession (s : State) (k : Nat) : State := { s with link := { s.link with sessions := s.link.sessions.del k } }
/-- SESSION_CLOSE (R373). -/
def execSessionClose (session : Fin 8) (s : State) : Host.Outcome State Fault Refusal :=
  if s.link.sessions.has session.val then .next (s.endSession session.val) else .next s
/-- SESSION_HEARTBEAT_LOSS (R373). -/
def execSessionHeartbeatLoss (session : Fin 8) (s : State) : Host.Outcome State Fault Refusal :=
  if s.link.sessions.has session.val then .next ((s.endSession session.val).secRecord 0x7003) else .next s
/-- SESSION_LOCK (R374). -/
def execSessionLock (path : Path) (s : State) : Host.Outcome State Fault Refusal :=
  s.ownerCmd path true (fun s => { s with link := { s.link with locked := true } })

/-! ### Measurements (R371, Table 14-11) -/

/-- The image number of the active slot of a firmware kind. -/
def State.activeImage (s : State) (kind : Nat) : Nat := s.repair.fwImage.get (kind * 2 + s.fwSlot kind) 0
def pairNums (m : Map Nat) : List Nat := m.entries.flatMap (fun e => [e.1, e.2])
def setNums (m : NatSet) : List Nat := m.entries.length :: m.entries.map (·.1)
/-- The chain plan as numbers. -/
def planNums (g : ChainPlan) : List Nat :=
  [g.chainId, g.markPort, g.masterId, g.ports.length] ++ g.ports.flatMap (fun e => [e.port, e.peerPort, b2n e.markOut, e.peerId]) ++
    g.parts.flatMap (fun e => [e.1, b2n e.2])
/-- The lead shard of a package copy: its manifest gives its length. -/
def State.leadBytes (s : State) (a : Nat) : List Byte := match sectOf (s.sects a) 0x13 with
  | some m => Memory.readBytes s.mem a (s.shardPlan a m.off).lead
  | none => []
/-- The contents of the item of an index. -/
def State.measured (s : State) (i : Nat) : List Nat := match i with
  | 1 => [s.activeImage 0]
  | 2 => [s.activeImage 1]
  | 3 => [s.activeImage 2]
  | 4 => [s.activeImage 3]
  | 5 => [s.activeImage 4]
  | 6 => pairNums s.repair.columns ++ s.repair.spares ++ setNums s.repair.takenStacks ++ setNums s.repair.takenRims ++ setNums s.repair.takenPorts
  | 7 => s.repair.certs.entries.flatMap (fun e => e.1 :: e.2)
  | 8 => s.repair.pubKeys.entries.flatMap (fun e => [e.1, e.2.1, e.2.2])
  | 9 => s.link.ownerKeys.entries.flatMap (fun e => [e.1, b2n e.2.1, e.2.2])
  | 10 => b2n s.link.chainMode :: ((s.link.plan.map planNums).getD [])
  | 11 => [b2n s.link.locked]
  | _ => match (s.part (i - 16)).resident with
    | some k => (s.leadBytes (cisternBase (i - 16) + k.area)).map (fun b => b.toNat)
    | none => []
/-- A measurement: 16 + p is all zero while partition p has no resident package. -/
def State.measurement (s : State) (i : Nat) : Nat :=
  if 16 ≤ i && (s.part (i - 16)).resident.isNone then 0 else Config.measure i (s.measured i)
/-- GET_MEASUREMENTS (R371), inside a session of any kind. -/
def execGetMeasurements (path : Path) (index : Fin 256) (s : State) : Host.Outcome State Fault Refusal :=
  let i := index.val
  if !s.spdmUp path then .next s
  else if s.sessCount path = 0 || (path == .mgmt && !s.answers) || i = 0 || (11 < i && i < 16) || 80 ≤ i then .next (s.answerSpdm 1)
  else .next (s.emit (.spdm 0 [i, s.measurement i]))

/-! ### Owner keys (R372) -/

def State.owned (s : State) : Bool := !s.link.ownerKeys.entries.isEmpty
def State.setOwnerKey (s : State) (slot : Nat) (k : OwnerKey) : State :=
  { s with link := { s.link with ownerKeys := s.link.ownerKeys.put slot (k.psk, k.key.val) } }
/-- TAKE_OWNERSHIP (R372): on the management bus, in a session in which the requester has not authenticated itself. -/
def execTakeOwnership (path : Path) (session : Fin 4) (key : OwnerKey) (s : State) : Host.Outcome State Fault Refusal :=
  if !s.spdmUp path then .next s
  else
    let one := match s.link.sessions.get? (4 + session.val) with
      | some x => !x.known
      | none => false
    if path == .mgmt && one && !s.owned && s.answers then .next ((s.setOwnerKey 0 key).answerSpdm 0) else .next s.refuseOwner
/-- ENROLL_OWNER (R372): fills an empty owner slot. -/
def execEnrollOwner (path : Path) (slot : Fin 4) (key : OwnerKey) (s : State) : Host.Outcome State Fault Refusal :=
  s.ownerCmd path (!s.link.ownerKeys.has slot.val) (fun s => s.setOwnerKey slot.val key)
/-- REVOKE_OWNER (R372): empties an owner slot, unless that would leave no owner key. -/
def execRevokeOwner (path : Path) (slot : Fin 4) (s : State) : Host.Outcome State Fault Refusal :=
  s.ownerCmd path (!(s.link.ownerKeys.del slot.val).entries.isEmpty)
    (fun s => { s with link := { s.link with ownerKeys := s.link.ownerKeys.del slot.val } })

/-- Aligned ports are judged anew by mode and plan. -/
def State.settlePorts (s : State) : State :=
  (upTo 56).foldl (fun (s : State) n => if s.portStands n && (s.aport n).authed then s.settlePort n else s) s
/-- RELEASE_OWNERSHIP (R372). -/
def execReleaseOwnership (path : Path) (s : State) : Host.Outcome State Fault Refusal :=
  s.ownerCmd path ((upTo 64).all (fun p => !s.partExists p)) (fun s =>
    let s := (upTo 32).foldl (fun (s : State) k => s.setKeyId k 0) { s with repair := { s.repair with pubKeys := Map.empty } }
    ({ s with link := { s.link with ownerKeys := Map.empty, plan := none, locked := false } }).applyPlan.settlePorts)

/-! ### Fabric mode and chain plan (R364, R365) -/

/-- A partition is RUNNING, STOPPING or WRITING. -/
def State.anyBusy (s : State) : Bool := (upTo 64).any (fun p => s.busyPart p)
/-- SET_FABRIC_MODE (R364): Chained needs the licence feature (R3). -/
def execSetFabricMode (path : Path) (chained : Bool) (s : State) : Host.Outcome State Fault Refusal :=
  if s.spdmUp path && s.openSession path && (path != .mgmt || s.answers) && chained && !s.feature 2 then .next ((s.licRecord 2 none).answerSpdm 2)
  else s.ownerCmd path (!s.anyBusy) (fun s => ({ s with link := { s.link with chainMode := chained } }).applyPlan.settlePorts)

/-- A number of `n` bytes at an offset of an image. -/
def imgNum (b : List Byte) (o n : Nat) : Nat := numOf ((b.drop o).take n)
/-- The chain plan of an image (Table 14-8), as far as it is one. -/
def parsePlan (b : List Byte) : Option ChainPlan :=
  let np := imgNum b 4 1
  let nq := imgNum b 5 1
  if b.length < 32 + 24 * np + 2 * nq || imgNum b 0 2 ≠ 1 || imgNum b 2 2 = 0 || 56 < np || 64 < nq then none
  else some {
    chainId := imgNum b 2 2, markPort := imgNum b 6 1, masterId := imgNum b 16 16
    ports := (upTo np).map (fun i =>
      let o := 32 + 24 * i
      ⟨imgNum b o 1, imgNum b (o + 1) 1, bitAt (imgNum b (o + 2) 1) 0, imgNum b (o + 4) 16⟩)
    parts := (upTo nq).map (fun j =>
      let w := imgNum b (32 + 24 * np + 2 * j) 2
      (w % 64, bitAt w 6)) }
/-- No number twice. -/
def noRepeat : List Nat → Bool
  | [] => true
  | a :: l => !l.contains a && noRepeat l
/-- The module's own DEVICE_ID as a number. -/
def ownDeviceId : Nat := (upTo 4).foldl (fun a i => a + Config.deviceIdWord i % 2 ^ 32 * 2 ^ (32 * i)) 0
/-- R365, as far as one module sees it: ports and partitions once each; the master receives no marks, another module receives them on a port of
the plan on which it sends none. -/
def ChainPlan.ok (g : ChainPlan) : Bool :=
  noRepeat (g.ports.map (·.port)) && noRepeat (g.parts.map (·.1)) && g.ports.all (fun e => decide (e.port < 56)) &&
    (if g.masterId = ownDeviceId then g.markPort == 255 else g.ports.any (fun e => e.port == g.markPort && !e.markOut))
/-- SET_CHAIN_PLAN (R365). -/
def execSetChainPlan (path : Path) (image : List Byte) (s : State) : Host.Outcome State Fault Refusal :=
  let g := parsePlan image
  s.ownerCmd path (!s.anyBusy && ((g.map ChainPlan.ok).getD false)) (fun s => ({ s with link := { s.link with plan := g } }).applyPlan.settlePorts)

end Sys2Proof.Machine
end

