-- ==== Sys2Proof/Machine/RegRead.lean ====
section
/-! DEFINITION. What a register access meets, and what a read of it returns (15_register_pages.md R379 to R385, R390, R391, R394, R396). -/

namespace Sys2Proof.Machine

/-! ### Places of BAR0 (R379, R380, R385, R394) -/

/-- What an offset of BAR0 names: a word of a global page, of a tile page, of another view of a tile window, of the MSI-X table or its pending
bits; or nothing (`closed`): it reads zero, and a write is discarded and counted in the PCI page. -/
inductive RegPlace where
  | page (pg : Page) (off : Nat)
  | tile (t : Nat) (pg : Page) (off : Nat)
  | view (t v sub off : Nat)
  | closed
  | msix (off : Nat)
  | pba (off : Nat)
  deriving DecidableEq, Repr

/-- Tables 15-17 and 15-16, in order. -/
def globalPages : List Page := [.sec, .int, .err, .clk, .rst, .lic, .ld, .stw, .csd, .pwr, .thm, .calg, .net, .aqd, .pci]
def tilePages : List Page := [.arr, .num, .eng, .bsn, .seq, .rtr, .cal]
/-- Pages of which a virtual function has a view (Table 15-17). -/
def viewPages : List Page := [.sec, .int, .err, .ld, .stw, .csd, .pci]

/-- An offset of a view holds something (Table 15-6). -/
def viewHolds (v sub o : Nat) : Bool := match v with
  | 1 => decide (sub = 0)
  | 2 => decide (sub = 0) && decide (o < 0x4000)
  | 3 => decide (sub ≤ 8) && decide (o % 0x8000 < 0x1004)
  | 4 => decide (sub ≤ 8)
  | 5 => decide (sub ≤ 8) && (decide (o < 0x1800) || (decide (0x2000 ≤ o) && decide (o < 0x2800)))
  | 6 => decide (sub = 0) && decide (o < imageSize)
  | 7 => decide (sub = 0) && decide (o < 4096)
  | _ => false
/-- What offset `o` of tile window `n` names for a path. -/
def State.windowPlace (s : State) (p : Path) (n o : Nat) : RegPlace :=
  let fn := fnOf p
  let v := s.reg PCI_TWIN_VIEW fn n
  let sub := s.reg PCI_TWIN_SUB fn n
  match tileOfAddr (s.reg PCI_TWIN_TILE fn n) with
  | none => .closed
  | some t =>
    let mine := match p with
      | .vf q => s.owner t == some q.val
      | _ => true
    if !s.sliceUp t || !mine then .closed
    else if v = 0 then
      match tilePages[o / 4096]? with
      | some pg => if sub = 0 then .tile t pg (o % 4096) else .closed
      | none => .closed
    else if viewHolds v sub o then .view t v sub o else .closed
/-- What an offset of BAR0 of a path names; management uses the offsets of the physical function (Tables 15-1, 15-4). -/
def State.regPlace (s : State) (p : Path) (o : Nat) : RegPlace := match p with
  | .vf _ =>
    if o < 0xF000 then
      match globalPages[o / 4096]? with
      | some pg => if viewPages.contains pg then .page pg (o % 4096) else .closed
      | none => .closed
    else if 0x10000 ≤ o && o < 0x30000 then s.windowPlace p (o / 0x10000 - 1) (o % 0x10000)
    else if 0x40000 ≤ o && o < 0x401E0 then .msix (o - 0x40000)
    else if 0x41000 ≤ o && o < 0x41008 then .pba (o - 0x41000)
    else .closed
  | _ =>
    if o < 0xF000 then
      match globalPages[o / 4096]? with
      | some pg => .page pg (o % 4096)
      | none => .closed
    else if 0x100000 ≤ o && o < 0x200000 then s.windowPlace p ((o - 0x100000) / 0x10000) (o % 0x10000)
    else if 0x200000 ≤ o && o < 0x200800 then .msix (o - 0x200000)
    else if 0x201000 ≤ o && o < 0x201010 then .pba (o - 0x201000)
    else .closed

/-! ### The fields of a word -/

/-- The index under which a field of a register set stands at a byte offset of its page. -/
def Fld.at? (f : Fld) (off : Nat) : Option Nat :=
  if f.off ≤ off && (off - f.off) % f.stride = 0 && (off - f.off) / f.stride < f.cnt then some ((off - f.off) / f.stride) else none
/-- The fields of the word at a byte offset of a page. -/
def Page.at (pg : Page) (off : Nat) : List (Fld × Nat) :=
  (pg.headerFields ++ pg.fields).filterMap (fun f => (f.at? off).map (fun i => (f, i)))
/-- Two definitions name one field. -/
def Fld.is (f g : Fld) : Bool := f.page == g.page && f.off == g.off && f.lo == g.lo
/-- The page copy that holds a field: of a tile, of a function, or the module's. -/
def fldInst (p : Path) (t : Nat) (f : Fld) : Nat := if f.page.isTile then t else if f.perFn then fnOf p else 0
/-- The page copy that holds a page's header fields. -/
def hdrInst (p : Path) (t : Nat) (pg : Page) : Nat := if pg.isTile then t else fnOf p

/-- The word at an offset of a page is one that the function of partition `q` sees (R189, R230, R380, Table 15-15). -/
def vfSees (q : Nat) (pg : Page) (off : Nat) : Bool :=
  let own (base stride : Nat) : Bool := decide (base + stride * q ≤ off) && decide (off < base + stride * (q + 1))
  decide (off < 0x28) ||
  match pg with
  | .sec => true
  | .int => decide (off < 0x48)
  | .err => decide (off < 0x100)
  | .ld => own 0x100 4 || own 0x200 4
  | .stw => own 0x800 0x20 || own 0x100 0x10
  | .csd => own 0x800 0x20
  | .pci => off == 0x80 || off == 0x84 || off == 0xC0 || off == 0xC4
  | _ => false
/-- A path sees the word at an offset of a page; a page of a tile that it reaches, it sees whole. -/
def sees (p : Path) (pg : Page) (off : Nat) : Bool := match p with
  | .vf q => pg.isTile || vfSees q.val pg off
  | _ => !(pg == .pci && (off == 0xC0 || off == 0xC4))

/-! ### Idleness (R384) -/

def State.stageOn (s : State) (n : Nat) : Bool := s.parts.entries.any (fun x => match x.2.stage with
  | some g => g.src == 2 && g.servers.any (fun e => s.g LD_SRV0_PORT e == n)
  | none => false)
/-- No STAGE, spill transfer or PTP exchange uses an Ethernet port. -/
def State.netIdle (s : State) (n : Nat) : Bool :=
  !s.stageOn n && !(s.flag NET_PTP_EN 0 0 && !s.flag NET_PTP_SRC 0 0 && s.g NET_PTP_PORT 0 == n) &&
  !s.reqs.entries.any (fun e => e.2.returning && (match e.2.spillAt with
    | some a => s.g LD_SRV0_PORT ((a - 2 ^ 70) / 2 ^ 64) == n
    | none => false))
/-- No RUNNING partition sends or receives through an Aqueduct port. -/
def State.aqdIdle (s : State) (n : Nat) : Bool :=
  !(s.carries n && ((upTo 64).any (fun p => s.pstate p == psRunning && s.chained p) || !(s.aport n).asked.entries.isEmpty))
/-- No partition is RUNNING, STOPPING or WRITING. -/
def State.quadIdle (s : State) (q : Nat) : Bool := match s.quadOwner q with
  | some p => !s.busyPart p
  | none => true
/-- Both partitions of a pairing that a write of PAIR_EN and PEER touches are neither RUNNING nor STOPPING. -/
def State.pairIdle (s : State) (p d : Nat) : Bool :=
  !(s.runs p || s.runs d || (s.flag STW_PCFG_PAIR_EN 0 p && s.runs (s.g STW_PCFG_PEER p)))
/-- The set that holds an S-class field counts as idle; `w` is the word written. -/
def State.fieldIdle (s : State) (t : Nat) (f : Fld) (i w : Nat) : Bool := match f.page with
  | .arr | .num | .eng | .bsn | .seq | .rtr | .cal => !s.busyTile t
  | .ld => if f.off < 0x600 then !s.slotRunning i else !s.serverUsed i
  | .stw => if f.is STW_PCFG_PAIR_EN || f.is STW_PCFG_PEER then s.pairIdle i (bits w 29 24) else !s.runs i
  | .csd => !s.flag CSD_PCFG_RUN 0 i
  | .pwr => if f.off < 0xC00 then s.pstate i != psRunning else s.quadIdle (16 * i + f.lo / 2)
  | .thm => (upTo 14).all (fun r => !bitAt w r || bitAt (s.g THM_RGREQ_REQ 0) r || s.regionIdle r)
  | .net => if f.off < 0x400 then s.netIdle i else s.pstate i != psRunning
  | .aqd => s.aqdIdle i
  | .clk => !s.anyBusy
  | _ => true
/-- STATUS.IDLE of a page (R384). -/
def State.pageIdle (s : State) (pg : Page) (t : Nat) : Bool := match pg with
  | .arr | .num | .eng | .bsn | .seq | .rtr | .cal => !s.busyTile t
  | .ld => (upTo 4).all (fun n => !s.slotRunning n) && (upTo 64).all (fun e => !s.serverUsed e)
  | .stw => (upTo 64).all (fun p => !s.runs p)
  | .csd => (upTo 64).all (fun p => !s.flag CSD_PCFG_RUN 0 p)
  | .pwr => (upTo 64).all (fun p => s.pstate p != psRunning) && (upTo 224).all s.quadIdle
  | .thm => (upTo 14).all s.regionIdle
  | .net => (upTo 4).all s.netIdle && (upTo 64).all (fun p => s.pstate p != psRunning)
  | .aqd => (upTo 56).all s.aqdIdle
  | .clk => !s.anyBusy
  | _ => true

/-! ### Error summaries (R390, R396) -/

/-- BLOCK_ERR: a W1C bit of the block's own status registers, that the path sees, is set. The bits of INT_STATUS and INT_PSTATE are interrupts and
no errors. -/
def State.blockErr (s : State) (p : Path) (t : Nat) (pg : Page) : Bool :=
  pg != .int && pg.fields.any (fun f => f.acc == .w1c && (upTo f.cnt).any (fun i => sees p pg (f.offset i) && s.reg f (fldInst p t f) i != 0))
/-- ERR_STATUS of a page. -/
def State.errStatus (s : State) (p : Path) (t : Nat) (pg : Page) : Nat :=
  s.reg (HDR_WRITE_REFUSED pg) (hdrInst p t pg) 0 + 2 * b2n (s.blockErr p t pg) +
    4 * (match p with
      | .vf _ => if pg.isTile then s.reg (HDR_INJECTED pg) t 0 else 0
      | _ => s.reg (HDR_INJECTED pg) (hdrInst p t pg) 0)
/-- The error summary of a page. -/
def State.summary (s : State) (p : Path) (t : Nat) (pg : Page) : Bool :=
  (upTo 3).any (fun n => bitAt (s.errStatus p t pg) n && !bitAt (s.reg (HDR_ERR_MASK pg) (hdrInst p t pg) 0) n)
/-- ERR_GSUM. -/
def State.gsum (s : State) (p : Path) : Nat :=
  globalPages.zipIdx.foldl (fun (a : Nat) (e : Page × Nat) =>
    let shown := match p with
      | .vf _ => viewPages.contains e.1
      | _ => true
    a + b2n (shown && s.summary p 0 e.1) * 2 ^ e.2) 0
/-- The summary of a quadrant. -/
def State.qsumBit (s : State) (q : Nat) : Bool := (tilesOfQuad q).any (fun t => tilePages.any (fun pg => s.summary .pf t pg))
/-- Word `n` of ERR_QSUM. -/
def State.qsum (s : State) (p : Path) (n : Nat) : Nat :=
  (upTo 32).foldl (fun a i =>
    let q := 32 * n + i
    let shown := match p with
      | .vf v => s.quadOwner q == some v.val
      | _ => true
    a + b2n (shown && s.qsumBit q) * 2 ^ i) 0

/-! ### Values that follow other state -/

/-- BSN_PAGE_STATE: the low pages of the program window, and the page table (R123); a lost page is still a cache page. -/
def State.pageStates (s : State) (t : Nat) : Nat :=
  (upTo 16).foldl (fun a k =>
    let e := (s.page (pageNo t k)).pstate
    a + (if e = 3 then 3 else if k < s.reg BSN_PROG_PROG_PAGES t 0 then 1 else if e = 0 then 0 else 2) * 4 ^ k) 0
/-- A word of BSN_TAGS: the tags of 16 rows. -/
def State.tagWord (s : State) (t w : Nat) : Nat := (upTo 16).foldl (fun a k => a + s.tag t (16 * w + k) % 4 * 4 ^ k) 0
/-- Physical rows from a tile to its neighbour on a port (Table 6-4); sites hold 34 rows each. -/
def State.physDelta (s : State) (t port : Nat) : Option Int := match neighbour t port with
  | some u => some (((siteOf u / 8 * 34 + s.physRow u : Nat) : Int) - (siteOf t / 8 * 34 + s.physRow t : Nat))
  | none => none
/-- RTR_PHYSEL as the repair map gives it (R143). -/
def State.physel (s : State) (t : Nat) (f : Fld) : Nat :=
  let off (port base dflt : Nat) : Nat := match s.physDelta t port with
    | some d => d.natAbs - base
    | none => dflt
  let two (port : Nat) : Nat := match s.physDelta t port with
    | some d => trunc 3 d
    | none => 0
  if f.lo = 8 then off 1 0 1 else if f.lo = 10 then off 3 0 1 else if f.lo = 12 then off 5 2 0 else if f.lo = 14 then off 6 2 0
  else if f.lo = 16 then two 2 else two 4
/-- Requests of a partition in given states. -/
def State.countReqs (s : State) (p : Nat) (l : List Nat) : Nat := ((s.partReqs p).filter (fun r => l.contains (s.req r).state)).length
/-- The quality word of a tile. -/
def State.qualWord (s : State) (t : Nat) : Qual :=
  (s.cal.qual.get? t).getD { stale := 0, uncal := s.cal.epoch == 0 || s.cal.off.mem (quadOf t), max_ := 0, mean := 0, min_ := 0 }
/-- The minimum that PWR_VMIN_IDX selects. -/
def State.vminNow (s : State) : Nat × Option VminRec :=
  let k := s.g PWR_VMIN_IDX_SITE 0 * 4 + s.g PWR_VMIN_IDX_POINT 0
  (k, s.power.vmin.get? k)
/-- A 32-bit half of a number. -/
def half (v i : Nat) : Nat := v / 2 ^ (32 * i) % 2 ^ 32

/-- The loader is writing or zero-filling the banks of a tile (Table 2-5). -/
def State.loading (s : State) (t : Nat) : Bool :=
  (match s.owner t with
    | some p => s.pstate p == psWriting || (s.part p).filling
    | none => false) ||
  (upTo 4).any (fun n => s.slotRunning n && (s.cmdOpc n == opCreate ||
      (s.cmdOpc n == opResize && (s.attrs n).qmask != (s.partQuads (s.cmdPart n)).foldl (fun m q => m + 2 ^ q) 0)) &&
    (bitAt (s.attrs n).qmask (quadOf t) || s.owner t == some (s.cmdPart n)))
/-- A field of the ARR page: BSTATE shows LOADING while the loader writes; the set at 0x900 shows the bank and tail configuration of the logical
array that the spare array serves (R54). -/
def State.arrLive (s : State) (t : Nat) (f : Fld) (i : Nat) : Option Nat :=
  let n := if i = 8 && f.off != ARR_CLIP_CTRL_CLIP_THRESH.off && f.off != ARR_CLIP_LAST_COUNT.off && f.off != ARR_CLIP_TOTAL_TOTAL.off &&
    f.off != ARR_SPARE_MAP_P0_ROWS.off && f.off != ARR_TROUBLE_CLIP.off then (s.servesArr t 8).getD 8 else i
  if f.is ARR_BANK_CFG0_BSTATE || f.is ARR_BANK_CFG1_BSTATE then
    some (if s.reg f t n != bsFailed && s.loading t then bsLoading else s.reg f t n)
  else some (s.reg f t n)

/-- The value of a field that follows other state; other fields hold theirs. -/
def State.live (s : State) (p : Path) (t : Nat) (f : Fld) (i : Nat) : Option Nat := match f.page with
  | .arr => s.arrLive t f i
  | .num =>
    if f.is TILE_NUM_STATUS_ATTEMPT then some ((s.owner t).elim 0 (fun q => min 7 (s.part q).attempt))
    else if f.is TILE_PRED_E_PRED then some (s.ePred t i) else none
  | .bsn => if f.is BSN_PAGE_STATE_STATE then some (s.pageStates t) else none
  | .seq => if f.is SEQ_STATUS_PROG then some ((s.progOf t).getD 3) else none
  | .rtr =>
    if f.is RTR_STATUS_OWNER then some ((s.owner t).getD 0)
    else if f.is RTR_STATUS_OWNED then some (b2n (s.owner t).isSome)
    else if f.is RTR_STATUS_TRANSIT then some (b2n (decide (2 ≤ s.qstate (quadOf t))))
    else if f.off = RTR_PHYSEL_WSEL.off then some (s.physel t f) else none
  | .cal =>
    let w := s.qualWord t
    if f.is CAL_QUAL_STALE then some w.stale else if f.is CAL_QUAL_UNCAL then some (b2n w.uncal) else if f.is CAL_QUAL_MAX then some w.max_
    else if f.is CAL_QUAL_MEAN then some w.mean else if f.is CAL_QUAL_MIN then some w.min_
    else if f.is CAL_ASTAT_STATE then (if s.cal.spare.has t && i == 8 && (s.servesArr t 8).isNone then some 7 else none)
    else if f.is CAL_ASTAT_SIGMA then some (s.sigmaReg t i)
    else if f.is CAL_ASTAT_UNCAL then some (b2n ((s.posPlanes t i).any (fun pl => !s.calibrated t i pl)))
    else if f.is CAL_ASTAT_T_CAL then some (s.tcalOf t i) else none
  | .csd =>
    if f.is CSD_WCOUNT_COUNT then some (half s.wcount i)
    else if f.is CSD_PCOUNT_LO_COUNT then some (half (s.part i).count 0)
    else if f.is CSD_PCOUNT_HI_COUNT then some (half (s.part i).count 1) else none
  | .stw =>
    if f.is STW_PCOUNT_ACTIVE then some (min 65535 (s.countReqs i [rsAdmitted, rsPrefill, rsDecode]))
    else if f.is STW_PCOUNT_PARKED then some (min 32767 (s.countReqs i [rsParked]))
    else if f.is STW_PCOUNT_RING_FULL then some (b2n (!(s.part i).queue.isEmpty)) else none
  | .pwr =>
    let x := s.vminNow
    if f.is PWR_VMIN_MV_STALE then some (b2n (s.power.vminStale.mem x.1))
    else if f.is PWR_VMIN_MV_MIN_MV then some ((x.2.map (·.mv)).getD 1023)
    else if f.is PWR_VMIN_STEP_COUNT then some (half ((x.2.map (·.wcount)).getD 0) i)
    else if f.is PWR_VMIN_PTP_PTP then some (half ((x.2.map (·.ptp)).getD 0) i) else none
  | .rst => if f.off = RST_RMAP_SHIFTS.off then some (bits (s.column (s.g RST_RMAP_IDX_SITE 0) (s.g RST_RMAP_IDX_COLUMN 0)) f.hi f.lo) else none
  | .sec =>
    if f.is SEC_OWNER_OWNED then some (b2n s.owned) else if f.is SEC_OWNER_LOCKED then some (b2n s.link.locked)
    else if f.is SEC_OWNER_SESS_MGMT then some (s.sessCount .mgmt) else if f.is SEC_OWNER_SESS_DOE then some (s.sessCount .pf) else none
  | .err =>
    if f.is ERR_GSUM_GSUM then some (s.gsum p) else if f.is ERR_QSUM_QSUM then some (s.qsum p i)
    else if f.is ERR_LOG_TAIL_TAIL then some (half s.logTail i) else none
  | _ => none

/-! ### Words -/

/-- The value that a read of a field returns: in force, or the shadow where the function has set SHADOW_VIEW (R12). -/
def State.fieldValue (s : State) (p : Path) (t : Nat) (f : Fld) (i : Nat) : Nat :=
  let inst := fldInst p t f
  let now := ((s.live p t f i).getD (s.reg f inst i)) % 2 ^ f.width
  let vf := match p with
    | .vf _ => true
    | _ => false
  if f.acc = .wo then 0
  else if f.upd = .b && s.flag (HDR_SHADOW_VIEW f.page) (hdrInst p t f.page) 0 && !(vf && f.page.isTile) then
    s.shadows.get (f.key inst i) now % 2 ^ f.width
  else if vf && f.page = .int then Nat.land now 6 else now
/-- Words of the common header without fields of their own (Table 15-5). -/
def State.headerWord (s : State) (p : Path) (t : Nat) (pg : Page) (off : Nat) : Option Nat := match off with
  | 0x00 => some (pg.code * 2 ^ 24 + (if pg.isTile then tileAddr t else 0))
  | 0x04 => some 0x10000
  | 0x08 => some (4 * b2n pg.isTile + 2 * b2n pg.session + b2n (pg.fields.any (fun f => f.upd == .b)))
  | 0x14 => some (b2n (s.pageIdle pg t))
  | 0x18 => some (s.errStatus p t pg)
  | _ => none
/-- The word at an offset of a page. -/
def State.pageWord (s : State) (p : Path) (t : Nat) (pg : Page) (off : Nat) : Nat :=
  match s.headerWord p t pg off with
  | some v => v
  | none =>
    if !sees p pg off then 0
    else if pg == .bsn && decide (0x100 ≤ off) && decide (off < 0x200) then s.tagWord t ((off - 0x100) / 4)
    else if off == 0x20 && !pg.isTile && (fnOf p != 0) then 0
    else (pg.at off).foldl (fun a e => a + s.fieldValue p t e.1 e.2 * 2 ^ e.1.lo) 0

/-- A column sum (R33): the weights of a column over 16 rows from `16 k`. -/
def State.colSum (s : State) (t pos pl k c : Nat) : Nat :=
  let fmt := s.reg (wfmtF pl) t ((s.servesArr t pos).getD 0)
  trunc 16 (((upTo 16).map (fun r => weightOf fmt (Memory.readLE s.mem (bankRow t pos pl (16 * k + r)) 64) c)).foldl (· + ·) 0)
/-- Where the bytes of a view lie in the model's memory. -/
def viewAddr (t v sub : Nat) : Nat := match v with
  | 1 => schedAddr t 0
  | 2 => routeAddr t 0
  | 3 => scaleBase t sub
  | 5 => tailBase t sub
  | _ => trimImage t
/-- The bits of byte `k` of a trim image that a field takes (Table 12-4). -/
def imageBits (k : Nat) : Nat :=
  if k = 3 || k = 7 || (decide (0x1C ≤ k) && decide (k < 0x40)) || decide (0x4BA4 ≤ k) then 0
  else if 0x4BA0 ≤ k || k < 0x40 then 255
  else
    let o := (k - 0x40) % 1072
    if o = 2 then 0x83 else if 6 ≤ o && o < 16 then 0 else 255
/-- The bits of a word of a view that its fields take; the others are reserved, read zero and keep nothing (R8). -/
def viewMask (v o : Nat) : Nat := match v with
  | 1 => if o % 16 = 8 then 0x80000000 else 0xFFFFFFFF
  | 2 => if o % 8 = 0 then 0xFFFFFFFC else 0xFFFFFFFF
  | 3 => if o % 0x8000 < 0x1000 then 0x0FFF0FFF else 0xFFFFFFFF
  | 5 => if o < 0x1000 && ((8 ≤ o % 0x400 && o % 0x400 < 0x10) || 0x110 ≤ o % 0x400) then 0 else 0xFFFFFFFF
  | 6 => imageBits o + imageBits (o + 1) * 2 ^ 8 + imageBits (o + 2) * 2 ^ 16 + imageBits (o + 3) * 2 ^ 24
  | _ => 0xFFFFFFFF
/-- A word of a view other than the pages (Table 15-6). -/
def State.viewWord (s : State) (t v sub off : Nat) : Nat := match v with
  | 4 =>
    let one (o : Nat) : Nat := s.colSum t sub (o / 0x8000) (o % 0x8000 / 512) (o % 512 / 2)
    one off + one (off + 2) * 65536
  | 7 => (s.tile t).replayExp.get (off / 4) 0 % 256
  | _ => Nat.land (Memory.readLE s.mem (viewAddr t v sub + off) 4) (viewMask v off)

/-- A word of the MSI-X table: address, data, and vector control with its mask bit. -/
def State.msixWord (s : State) (fn off : Nat) : Nat :=
  let k := fn * 128 + off / 16
  if off / 4 % 4 = 3 then b2n (!s.link.msixOpen.mem k) else s.link.msixTable.get (k * 4 + off / 4 % 4) 0
/-- A word of the pending bits. -/
def State.pbaWord (s : State) (fn off : Nat) : Nat := (upTo 32).foldl (fun a i => a + b2n (s.link.msixPend.mem (fn * 128 + off / 4 * 32 + i)) * 2 ^ i) 0

/-- A fault record as its eight words (Table 7-17). -/
def FaultRec.words (r : FaultRec) : List Nat :=
  [half r.step 0, half r.step 1, half r.ptp 0, half r.ptp 1, r.code % 65536 + r.cycle % 65536 * 65536,
   (r.tile.map tileAddr).getD 0 + r.unit * 2 ^ 20 + (r.part.getD 0) * 2 ^ 24 + b2n r.part.isSome * 2 ^ 30 + b2n r.tile.isSome * 2 ^ 31,
   r.req % 2 ^ 20 + b2n r.reqValid * 2 ^ 20 + b2n r.wafer * 2 ^ 21 + r.attempt % 8 * 2 ^ 22,
   r.seqoff % 4096 + r.prog * 4096 + r.detail % 65536 * 65536]
/-- The record that a path reads at a log index (R391): zeros outside the log, and for a virtual function where the record is not of its
partition. -/
def State.logWords (s : State) (p : Path) (idx : Nat) : List Nat :=
  let zeros := List.replicate 8 0
  if s.logTail ≤ idx || idx + 16777216 < s.logTail then zeros
  else match s.log.get? idx, p with
    | some r, .vf q => if r.part = some q.val then r.words else zeros
    | some r, _ => r.words
    | none, _ => zeros
/-- ERR_LOG_IDX of a function. -/
def State.logIdx (s : State) (fn : Nat) : Nat := s.reg ERR_LOG_IDX fn 0 + s.reg ERR_LOG_IDX fn 1 * 2 ^ 32
/-- A read of DATA0 copies the record at IDX into DATA0 to DATA7. -/
def State.copyRecord (s : State) (p : Path) : State :=
  ((s.logWords p (s.logIdx (fnOf p))).zipIdx).foldl (fun (s : State) e => s.setReg ERR_LOG_DATA (fnOf p) e.2 e.1) s
/-- IDX advances by one. -/
def State.nextRecord (s : State) (fn : Nat) : State :=
  let n := s.logIdx fn + 1
  (s.setReg ERR_LOG_IDX fn 0 (half n 0)).setReg ERR_LOG_IDX fn 1 (half n 1)

/-! ### Reads (R381) -/

/-- The offset of the _HI register of a 64-bit count or time whose _LO register lies at an offset. -/
def hiOf (pg : Page) (off : Nat) : Option Nat :=
  let lo := match pg with
    | .csd => off == 0x50 || (decide (0x800 ≤ off) && off % 0x20 == 0x10)
    | .pwr => off == 0x78 || off == 0x80
    | .err => off == 0x70
    | .net => off == 0x4C
    | _ => false
  if lo then some (off + 4) else none
def latchKey (fn : Nat) (pg : Page) (off : Nat) : Nat := fn * 2 ^ 32 + pg.code * 4096 + off
/-- A read of a word of a page, with what it does: latches, and the log registers. -/
def State.pageRead (s : State) (p : Path) (t : Nat) (pg : Page) (off : Nat) : Nat × State :=
  let fn := fnOf p
  let v := s.pageWord p t pg off
  if pg == .err && off == 0x80 then
    let s := s.copyRecord p
    (s.reg ERR_LOG_DATA fn 0, s)
  else if pg == .err && off == 0x9C then (v, s.nextRecord fn)
  else match hiOf pg off with
    | some h => if sees p pg off then (v, { s with latch := s.latch.put (latchKey fn pg h) (s.pageWord p t pg h) }) else (v, s)
    | none => match s.latch.get? (latchKey fn pg off) with
      | some h => (h, { s with latch := s.latch.del (latchKey fn pg off) })
      | none => (v, s)
/-- A read of a word at a place. -/
def State.placeRead (s : State) (p : Path) (x : RegPlace) : Nat × State := match x with
  | .page pg off => s.pageRead p 0 pg off
  | .tile t pg off => if s.inReset t then (0, s) else s.pageRead p t pg off
  | .view t v sub off => (if s.inReset t then 0 else s.viewWord t v sub off, s)
  | .closed => (0, s)
  | .msix off => (s.msixWord (fnOf p) off, s)
  | .pba off => (s.pbaWord (fnOf p) off, s)
/-- A place in the SEC page, which management may read without a session (R373). -/
def RegPlace.identity : RegPlace → Bool
  | .page .sec _ => true
  | _ => false
/-- A read by a path: its data go out. -/
def State.hostRead (s : State) (p : Path) (x : RegPlace) : Host.Outcome State Fault Refusal :=
  if !s.pathUp p then .next s
  else if p == .mgmt && (!s.answers || !(x.identity || s.anySession p)) then .next s.refuseMessage
  else
    let r := s.placeRead p x
    .next (r.2.emit (.readData (bytesOf 4 r.1) false))

/-- An entry of the Basin page table as its 64 bits (Table 9-7); REQ and FPOS are those of a CACHE page. -/
def State.pageTableWord (s : State) (n : Nat) : Nat :=
  let e := s.page n
  let st := if e.pstate = 0 && decide (n < 917504) && decide (n % 16 < s.reg BSN_PROG_PROG_PAGES (n / 16) 0) then 1 else e.pstate
  let part := if n < 917504 then (s.owner (n / 16)).getD 0 else e.part
  st * 2 ^ 61 + b2n (decide (917504 ≤ n)) * 2 ^ 60 + part % 64 * 2 ^ 54 + (if e.pstate = 2 then e.req % 2 ^ 20 * 2 ^ 34 + e.fpos % 2 ^ 32 else 0)

/-- A word read from BAR2 (R218, R230, Tables 15-2 and 15-4): of an entry, or of the page table, of which a virtual function sees the entries of its own
partition. -/
def State.bar2Word (s : State) (p : Path) (off : Nat) : Nat := match s.bar2Place p off with
  | .entry r k => (s.req r).word k
  | .page n h => if s.reaches p n then half (s.pageTableWord n) h else 0
  | .none => 0

end Sys2Proof.Machine
end

