-- ==== Sys2Proof/Machine/RegWrite.lean ====
section
/-! DEFINITION. What a write of a register does, field by field (00_scope.md R8 to R13, R395; 15_register_pages.md R379 to R385, R388, R389, R392,
R396), and the effects of the fields that do more than hold a value. -/

namespace Sys2Proof.Machine

/-! ### Fields whose write acts -/

/-- INT_ENABLE: a vector is signalled for each source that is enabled while its status bit is 1 (R389). -/
def State.setEnable (s : State) (fn v : Nat) : State :=
  let old := s.reg INT_ENABLE_ENABLE fn 0
  (upTo 8).foldl (fun (s : State) b =>
    if bitAt v b && !bitAt old b && bitAt (s.reg INT_STATUS_STATUS fn 0) b then s.msix fn b else s) (s.setReg INT_ENABLE_ENABLE fn 0 v)
/-- INT_PEN: the enables of INT_PSTATE. -/
def State.setPen (s : State) (i v : Nat) : State :=
  let old := s.g INT_PEN_PEN i
  (upTo 32).foldl (fun (s : State) b =>
    if bitAt v b && !bitAt old b && bitAt (s.g INT_PSTATE_PSTATE i) b then s.msix 0 (64 + 32 * i + b) else s) (s.setG INT_PEN_PEN i v)
/-- OP of RST_CMD (Table 13-15). What MODULE_WARM, REPAIR_TILE and PTEST find is a free value here; their own commands carry it. -/
def State.rstOp (s : State) (w : Nat) : State :=
  let x := s.takeFree
  match bits w 31 28 with
  | 1 => s.tileReset (bits w 19 0)
  | 2 => s.siteReset (bits w 19 0)
  | 3 => s.partReset (bits w 25 20)
  | 4 => s.askReset ⟨scWafer, 0⟩
  | 5 => x.2.warmReset (Config.findings x.1)
  | 6 => x.2.repairCmd (bits w 19 0) (x.1 % 2 == 0) (x.1 / 2 % 2 == 0)
  | 7 => x.2.ptest (bits w 25 20) ((Config.failing x.1).map (·.val))
  | 8 => s.acceptTopology
  | _ => s.rstRefused 0x9029
/-- OP of LIC_CMD (Table 13-17). The verdict on the signature of INSTALL is a free value here; its own command carries it. -/
def State.licOp (s : State) (w : Nat) : State := match bits w 31 28 with
  | 1 => s.takeFree.2.licInstall (s.takeFree.1 % 2 == 1)
  | 2 => s.licRemove (bits w 27 24)
  | _ => s.licRefused 0xC005 0 31
/-- The kinds of error that a page injects (Table 15-12). -/
def injectKinds (pg : Page) : List Nat := match pg with
  | .bsn => [1, 2]
  | .rtr | .seq | .arr | .stw | .aqd | .pci => [1]
  | _ => []
/-- KIND of a page's ERR_INJECT (R392). -/
def State.arm (s : State) (p : Path) (t : Nat) (pg : Page) (v : Nat) : State :=
  if v = 0 || (injectKinds pg).contains v then s.setReg (HDR_ERR_INJECT pg) (if pg.isTile then t else 0) 0 v
  else s.addReg (HDR_ERR_COUNT pg) (hdrInst p t pg) 0 1
/-- THM_RGREQ: regions that go off, and those that come back (R292, R294). -/
def State.setRgreq (s : State) (p : Path) (v : Nat) : State :=
  (upTo 14).foldl (fun (s : State) r =>
    if bitAt v r then s.regionOff p r
    else if bitAt (s.g THM_RGREQ_REQ 0) r then s.regionBack r else s) s
/-- EN of SMI_SQ_CFG: a ring taken into use begins at index 0. -/
def State.smiEnable (s : State) (p v : Nat) : State :=
  let s := if v = 1 && !s.flag SMI_SQ_CFG_EN 0 p then s.updPart p (fun x => { x with sqCons := 0, sqProd := 0 }) else s
  s.setG SMI_SQ_CFG_EN p v
/-- EN of AQD_PCFG: a disabled port reads state 5; enabled again, it is down. -/
def State.portEnable (s : State) (n v : Nat) : State :=
  let s := s.setG AQD_PCFG_EN n v
  if v = 0 then s.leavePort n 5
  else if s.pstat n = 5 && !s.repair.takenPorts.mem n then s.leavePort n apDown else s

/-- The effect of an accepted value `v` of the `i`-th field of a kind, of page copy `t` of a tile, in a word `w`. -/
abbrev FldEffect := State → Path → Nat → Nat → Nat → Nat → State

/-- The fields whose write does more than set their value. -/
def effects : List (Fld × FldEffect) :=
  [(LD_CMD_CTL_GO, fun s p _ i v _ => if v = 1 then s.runGo p i else s),
   (LD_SRV0_VALID, fun s p _ i v _ => s.writeValid p i (v == 1)),
   (STW_CTRL_SWAP, fun s _ _ _ v _ => if v = 1 then s.askSwap else s),
   (STW_PCFG_SMIFORT, fun s p _ i v _ => s.writeSmifort p i (v == 1)),
   (STW_PCFG_PAIR_EN, fun s p _ i v w => s.pairing p i (v == 1) (bits w 29 24)),
   (STW_PCFG_PEER, fun s _ _ _ _ _ => s),
   (STW_MOD_TIME_US, fun s _ _ i v _ => (s.setG STW_MOD_TIME_US i v).modCheck i),
   (STW_MOD_COUNT, fun s _ _ i v _ => (s.setG STW_MOD_COUNT i v).modCheck i),
   (STW_RING_CFG_EN, fun s p _ i v _ => if v = 1 then s.enableRing p i else s.setG STW_RING_CFG_EN i 0)]
  ++ [(SMI_SQ_CFG_EN, fun s _ _ i v _ => s.smiEnable i v),
   (CSD_CTRL_ROOT_SWAP, fun s _ _ _ v _ => if v = 1 then { s with shadows := s.shadows.put (CSD_CTRL_ROOT_SWAP.key 0 0) 1 } else s),
   (CSD_PCFG_HOLD, fun s _ _ i v _ => if v = 1 then s.setG CSD_PCFG_HOLD i 1 else s.clearHold i),
   (PWR_CTRL_VMIN_CLEAR, fun s _ _ _ v _ => if v = 1 then s.clearVmin else s),
   (PWR_PCFG_REACTIVE, fun s _ _ i v _ => if v = 1 then s.predictive i else s),
   (THM_CTRL_RELEASE, fun s p _ _ v w => if v = 1 then s.release' p (bits w 9 4) else s),
   (THM_CTRL_REBASE, fun s _ _ _ v _ => if v = 1 then s.rebase else s),
   (THM_RGREQ_REQ, fun s p _ _ v _ => s.setRgreq p v)]
  ++ [(ARR_BANK_CFG0_CMODE, fun s _ t i v _ => s.setCmode t i 0 v), (ARR_BANK_CFG1_CMODE, fun s _ t i v _ => s.setCmode t i 1 v),
   (CAL_CTRL_SNAP, fun s _ t _ v _ => if v = 1 then s.snap t else s),
   (CAL_CTRL_RESTORE, fun s _ t _ v _ => if v = 1 then (s.restoreTrims t).1 else s),
   (CAL_CTRL_PASS_REQ, fun s _ t _ v _ => s.passReq t v),
   (RST_CMD_OP, fun s _ _ _ _ w => s.rstOp w),
   (RST_CMD_LEVEL, fun s _ _ _ _ _ => s),
   (RST_CMD_PART, fun s _ _ _ _ _ => s),
   (RST_CMD_TARGET, fun s _ _ _ _ _ => s),
   (LIC_CMD_OP, fun s _ _ _ _ w => s.licOp w),
   (LIC_CMD_SLOT, fun s _ _ _ _ _ => s)]
  ++ [(NET_TOD_SEC, fun s _ _ i v _ => { (s.setG NET_TOD_SEC i v) with link := { s.link with todNew := true } }),
   (NET_PCFG_EN, fun s _ _ i v _ => if v = 1 then s.setG NET_PCFG_EN i 1 else (s.setG NET_PCFG_EN i 0).ethDown i),
   (AQD_PCFG_EN, fun s _ _ i v _ => s.portEnable i v),
   (INT_ENABLE_ENABLE, fun s p _ _ v _ => s.setEnable (fnOf p) (match p with
      | .vf _ => Nat.land v 6
      | _ => v)),
   (INT_PEN_PEN, fun s _ _ i v _ => s.setPen i v)]
/-- QREQ fields are one definition for each place of a word. -/
def effectOf (f : Fld) : Option FldEffect :=
  if f.page == .pwr && f.off == (PWR_QREQ 0).off then some (fun s p _ i v _ => s.writeQreq p (16 * i + f.lo / 2) v)
  else if f.off == 0x20 && f.lo == 0 then some (fun s p t _ v _ => s.arm p t f.page v)
  else (effects.find? (fun e => e.1.is f)).map (·.2)

/-! ### One field -/

/-- R267: the wafer step length would be too long for a hint of a resident package. -/
def State.wstepBad (s : State) (v : Nat) : Bool :=
  (upTo 64).any (fun p => (s.part p).resident.isSome && (s.estOf p).hints.any (fun h => h.short (s.part p).hdr.lenBase v))
/-- R232: a ring's address and size do not change while EN is 1. -/
def State.ringFixed (s : State) (f : Fld) (i v : Nat) : Bool :=
  (f.is STW_RING_LO_BASE_LO || f.is STW_RING_HI_BASE_HI || f.is STW_RING_CFG_LOG2N) && s.flag STW_RING_CFG_EN 0 i && v != s.g f i
/-- R256: DROOP_MV is at least SPILL_MV + 10. A field of the word that is out of its own range counts with the value it keeps. -/
def State.droopBad (s : State) (f : Fld) (w : Nat) : Bool :=
  let d := if PWR_DROOP_DROOP_MV.rng.ok (bits w 23 16) then bits w 23 16 else s.g PWR_DROOP_DROOP_MV 0
  let p := if PWR_DROOP_SPILL_MV.rng.ok (bits w 15 8) then bits w 15 8 else s.g PWR_DROOP_SPILL_MV 0
  (f.is PWR_DROOP_DROOP_MV || f.is PWR_DROOP_SPILL_MV) && decide (d < p + 10)
/-- A value of the `i`-th field of a kind is refused as in R10 (R395, and the field's own rule). -/
def State.valueBad (s : State) (f : Fld) (i v w : Nat) : Bool :=
  !f.rng.ok v || (f.is CSD_WSTEP_LEN && s.wstepBad v) || s.ringFixed f i v || s.droopBad f w
/-- An accepted value of a field is stored: at once, or in the shadow until the boundary of its class (R11, R12). -/
def State.storeField (s : State) (p : Path) (t : Nat) (f : Fld) (i v w : Nat) : State := match effectOf f with
  | some g => g s p t i v w
  | none =>
    if f.upd = .b then { s with shadows := s.shadows.put (f.key (fldInst p t f) i) v } else s.setReg f (fldInst p t f) i v
/-- W1C: each 1 written clears its bit. -/
def State.clearField (s : State) (p : Path) (t : Nat) (f : Fld) (i v w : Nat) : State := match effectOf f with
  | some g => g s p t i v w
  | none =>
    let old := s.reg f (fldInst p t f) i
    let v := match p with
      | .vf _ => if f.page = .int then Nat.land v 6 else v
      | _ => v
    s.setReg f (fldInst p t f) i (old - Nat.land old v)
/-- The write of one field of a word: the state, and whether the field refuses its value. -/
def State.putField (s : State) (p : Path) (t : Nat) (e : Fld × Nat) (w : Nat) : State × Bool :=
  let f := e.1
  let v := bits w f.hi f.lo
  match f.acc with
  | .ro => (s, false)
  | .w1c => (s.clearField p t f e.2 v w, false)
  | .wo => (s.storeField p t f e.2 v w, false)
  | .rw | .rwl =>
    if s.valueBad f e.2 v w then (if f.is SEC_NEG_MAJOR then s.setReg f (fldInst p t f) e.2 0 else s, true)
    else (s.storeField p t f e.2 v w, false)

/-! ### One word of a page -/

/-- The field needs a session (R373). -/
def needsSession (p : Path) (pg : Page) (l : List (Fld × Nat)) : Bool := match p with
  | .vf _ => false
  | _ => pg.session || l.any (fun e => e.1.acc == .rwl)
/-- An S-class field would take a new value while its set is not idle (R383). -/
def State.staticBad (s : State) (p : Path) (t : Nat) (l : List (Fld × Nat)) (w : Nat) : Bool :=
  l.any (fun e =>
    let v := bits w e.1.hi e.1.lo
    let now := if e.1.acc = .wo then 0 else s.reg e.1 (fldInst p t e.1) e.2
    e.1.upd == .s && !s.valueBad e.1 e.2 v w && v != now && !s.fieldIdle t e.1 e.2 w)
/-- The fields of a word written one by one, those that act after those that only hold their values. -/
def State.putFields (s : State) (p : Path) (t : Nat) (l : List (Fld × Nat)) (w : Nat) : State × Bool :=
  (l.filter (fun e => (effectOf e.1).isNone) ++ l.filter (fun e => (effectOf e.1).isSome)).foldl (fun (a : State × Bool) e =>
    let x := a.1.putField p t e w
    (x.1, a.2 || x.2)) (s, false)
/-- A write counted as discarded in a page. -/
def State.countWrite (s : State) (p : Path) (t : Nat) (pg : Page) : State := s.addReg (HDR_ERR_COUNT pg) (hdrInst p t pg) 0 1

/-- What a virtual function may not write of the words that it sees: its own sets of the CSD and LD pages are read-only, STW_PCFG is for the
physical function and management, and ERR_INJECT needs a session. -/
inductive VfBar where
  | none
  | ignored
  | refused
  | counted
  deriving DecidableEq, Repr
def vfBar (p : Path) (pg : Page) (off : Nat) : VfBar := match p with
  | .vf _ =>
    if off = 0x20 then .counted
    else if pg = .csd && 0x800 ≤ off then .ignored
    else if pg = .stw && 0x800 ≤ off && off % 0x20 = 0 then .refused
    else .none
  | _ => .none

/-- A whole 32-bit word written to a page (R383). DESIGN CHOICE (log entry 74): the S2 doorbells of a function in Smifort mode, whose writes are accepted
and discarded (Table 9-10), are the words of the STW page that hold no register. -/
def State.pageStore (s : State) (p : Path) (t : Nat) (pg : Page) (off w : Nat) : State :=
  let l := (pg.at off).filter (fun e => e.1.acc != .ro)
  let fn := fnOf p
  let known := !(pg.at off).isEmpty || decide (off < 0x28)
  if fn ≠ 0 && pg = .ld && 0x400 ≤ off && off < 0x600 then s.refuseWrite p pg t
  else if fn ≠ 0 && pg = .stw && !known && s.smifort (fn - 1) then s
  else if fn ≠ 0 && !(sees p pg off && known) then s.discardWrite p
  else if l.isEmpty || !sees p pg off then s
  else if pg ≠ .sec && !s.negotiated p then s.refuseWrite p pg t
  else match vfBar p pg off with
    | .ignored => s
    | .refused => s.refuseWrite p pg t
    | .counted => s.countWrite p t pg
    | .none =>
      if needsSession p pg l && !s.openSession p then s.refuseWrite p pg t
      else if s.link.locked && l.any (fun e => e.1.acc == .rwl) then s.refuseWrite p pg t
      else if s.staticBad p t l w then s.refuseStatic p pg t off
      else
        let x := s.putFields p t l w
        if x.2 then x.1.refuseWrite p pg t else x.1

/-! ### One word of another place -/

/-- The page that stands for a view, where its writes are refused and counted. -/
def viewPage (v : Nat) : Page := match v with
  | 1 => .seq
  | 2 => .rtr
  | 6 => .cal
  | _ => .arr
/-- A word written to a view (Table 15-6): 4 and 7 are read-only; 1, 2, 3 and 5 are S class. A schedule or route entry gets fresh parity, and reserved
bits are discarded (R8). DESIGN CHOICE: a view has no page of its own, so DETAIL [11:0] of the record of a refused write (R11) holds its offset in the
view modulo 4,096 (log entry 61). -/
def State.viewStore (s : State) (p : Path) (t v sub off w : Nat) : State :=
  if v = 4 || v = 7 then s
  else if v ≠ 6 && s.busyTile t then s.refuseStatic p (viewPage v) t (off % 4096)
  else
    let s := s.setMem (Memory.writeLE s.mem (viewAddr t v sub + off) 4 (Nat.land w (viewMask v off)))
    if v = 1 then s.updTile t (fun x => { x with seqBad := x.seqBad.del (off / 16) })
    else if v = 2 then s.updTile t (fun x => { x with rtrBad := x.rtrBad.del (off / 8) }) else s
/-- A word written to the MSI-X table: an unmasked vector that is pending is sent. -/
def State.msixStore (s : State) (fn off w : Nat) : State :=
  let k := fn * 128 + off / 16
  if off / 4 % 4 = 3 then { s with link := { s.link with msixOpen := s.link.msixOpen.upd k (!bitAt w 0) } }.sendPending
  else { s with link := { s.link with msixTable := s.link.msixTable.put (k * 4 + off / 4 % 4) (if off / 4 % 4 = 0 then w / 4 * 4 else w) } }
/-- A write at a place; `full`: its byte enables cover the aligned word (R381). -/
def State.placeStore (s : State) (p : Path) (x : RegPlace) (full : Bool) (w : Nat) : State :=
  let vf := fnOf p ≠ 0
  match x with
  | .closed => s.discardWrite p
  | .page pg off => if full then s.pageStore p 0 pg off w else s.countWrite p 0 pg
  | .tile t pg off =>
    if vf then s.discardWrite p else if s.inReset t then s.resetWrite p pg t else if full then s.pageStore p t pg off w else s.countWrite p t pg
  | .view t v sub off =>
    if vf || s.inReset t || !full then s.discardWrite p
    else if !s.negotiated p then s.refuseWrite p (viewPage v) t
    else s.viewStore p t v sub off w
  | .msix off =>
    if !full then s.discardWrite p else if !s.negotiated p then s.refuseWrite p .pci 0 else s.msixStore (fnOf p) off w
  | .pba _ => s
/-- A register write by a path. Over the management bus it is a message, which needs a session of some kind (R373). -/
def State.hostStore (s : State) (p : Path) (x : RegPlace) (full : Bool) (w : Nat) : Host.Outcome State Fault Refusal :=
  if !s.pathUp p then .next s
  else if p == .mgmt && (!s.answers || !s.anySession p) then .next s.refuseMessage
  else .next (s.placeStore p x full w)

end Sys2Proof.Machine
end

