-- ==== Sys2Proof/Machine/RegCmds.lean ====
section
/-! DEFINITION. The commands of the register interface (15_register_pages.md R381, R383, R388, R389, R391, R392). -/

namespace Sys2Proof.Machine

/-- A word written to BAR0, or from 64 MiB on to BAR2, which the management bus does not reach. -/
def State.barStore (s : State) (p : Path) (o : Nat) (full : Bool) (w : Nat) : State :=
  if o < 67108864 then s.placeStore p (s.regPlace p o) full w
  else if p == .mgmt then s
  else s.bar2Store p (o - 67108864) full w
/-- REGISTER_WRITE (R383, R381): an aligned 32-bit write to BAR0 or BAR2 with its byte enables, or a 64-bit write, which acts as two, the lower address
first. -/
def execRegisterWrite (path : Path) (offset : Fin 335544320) (value : Word32) (enables : Fin 16) (upper : Option (Word32 × Fin 16)) (s : State) :
    Host.Outcome State Fault Refusal :=
  if !s.pathUp path then .next s
  else if path == .mgmt && (!s.answers || !s.anySession path) then .next s.refuseMessage
  else
    let al := decide (offset.val % (if upper.isSome then 8 else 4) = 0)
    let o := offset.val / 4 * 4
    let s := s.barStore path o (al && enables.val == 15) value.toNat
    match upper with
    | none => .next s
    | some u => .next (s.barStore path (o + 4) (al && u.2.val == 15) u.1.toNat)

/-- MGMT_REGISTER_ACCESS (R388, R373): a message of the management bus with the major version of its header, at a BAR0 offset of the physical
function: a read, or a write of a word. -/
def execMgmtRegisterAccess (version : Fin 65536) (offset : Fin 67108864) (write : Option Word32) (s : State) : Host.Outcome State Fault Refusal :=
  let x := s.regPlace .mgmt (offset.val / 4 * 4)
  if !s.pathUp .mgmt then .next s
  else if version.val ≠ 1 then .next ((s.secRecord 0x7002).refuseMessage)
  else match write with
    | none => s.hostRead .mgmt x
    | some w => s.hostStore .mgmt x (decide (offset.val % 4 = 0)) w.toNat

/-- SEC_NEG_WRITE (R388): a function writes its major version to SEC_NEG.MAJOR. -/
def execSecNegWrite (path : Path) (major : Fin 65536) (s : State) : Host.Outcome State Fault Refusal :=
  s.hostStore path (.page .sec 0x80) true (major.val * 65536)

/-- INT_ENABLE_WRITE (R389): INT_ENABLE (`which` 0), or INT_PEN_LO or _HI (1, 2). -/
def execIntEnableWrite (path : Path) (which : Fin 3) (value : Word32) (s : State) : Host.Outcome State Fault Refusal :=
  s.hostStore path (.page .int (if which.val = 0 then 0x44 else 0x4C + 4 * which.val)) true value.toNat

/-- The page that a command names: a global page, or a page of a tile through a window, where the path reaches it. -/
def State.namedPlace (s : State) (p : Path) (a : PageAt) (off : Nat) : RegPlace := match a with
  | .global k =>
    match globalPages[k.val]? with
    | some pg => if fnOf p ≠ 0 && !viewPages.contains pg then .closed else .page pg off
    | none => .closed
  | .tile t k =>
    match tilePages[k.val]? with
    | some pg => if s.sliceUp t.val then .tile t.val pg off else .closed
    | none => .closed
/-- ERR_INJECT (R392): KIND of a page's ERR_INJECT. -/
def execErrInject (path : Path) (page : PageAt) (kind : Fin 256) (s : State) : Host.Outcome State Fault Refusal :=
  s.hostStore path (s.namedPlace path page 0x20) true kind.val

/-- ERR_LOG_DATA0_READ (R391): the record at ERR_LOG_IDX is copied into DATA0 to DATA7. -/
def execErrLogData0Read (path : Path) (s : State) : Host.Outcome State Fault Refusal := s.hostRead path (.page .err 0x80)
/-- ERR_LOG_DATA7_READ (R391): ERR_LOG_IDX advances by one. -/
def execErrLogData7Read (path : Path) (s : State) : Host.Outcome State Fault Refusal := s.hostRead path (.page .err 0x9C)

/-- A place that holds the low word of a 64-bit count or time. -/
def RegPlace.isLo : RegPlace → Bool
  | .page pg off => (hiOf pg off).isSome
  | _ => false
/-- SPLIT_COUNT_LO_READ (R381): a read of a _LO register latches the high word. -/
def execSplitCountLoRead (path : Path) (offset : Fin 67108864) (s : State) : Host.Outcome State Fault Refusal :=
  let x := s.regPlace path (offset.val / 4 * 4)
  if x.isLo then s.hostRead path x else .next s

end Sys2Proof.Machine
end

