-- ==== Sys2Proof/Machine/Wafer.lean ====
section
/-! DEFINITION. The wafer step boundary (06 R158; 00 R11; 10 R268 to R276; 11 R284 to R286). -/

namespace Sys2Proof.Machine

/-- PTP time goes on by what the window lasted, and by a part of what is left to slew: how much is free within 100 ppm (R356). -/
def State.passTime (s : State) (ns : Nat) : State :=
  if s.link.slew = 0 then { s with ptp := s.ptp + ns }
  else
    let x := s.takeFree
    let c := min s.link.slew.natAbs (x.1 % (ns / 10000 + 1))
    let d : Int := if s.link.slew < 0 then -(c : Int) else c
    { x.2 with ptp := ((s.ptp + ns : Nat) + d).toNat, link := { s.link with slew := s.link.slew - d } }

/-- The swaps of roots and stewards that wait for the boundary. -/
def State.takeSwaps (s : State) : State :=
  let root := s.shadows.has (CSD_CTRL_ROOT_SWAP.key 0 0)
  let stw := s.shadows.has (STW_CTRL_SWAP.key 0 0)
  let s := { s with shadows := (s.shadows.del (CSD_CTRL_ROOT_SWAP.key 0 0)).del (STW_CTRL_SWAP.key 0 0) }
  let s := if root then s.swapRoots else s
  if stw then s.takeOver else s

/-- The set point of a site moves toward what R276 gives by at most `dv` mV. -/
def State.slewSet (s : State) (dv site : Nat) : State :=
  if s.power.vBase.has site then
    let want := max 600 (min 800 (s.rawSet site / 2))
    let now := s.vset site
    s.setG PWR_SCFG_VSET_MV site (if now ≤ want then min want (now + dv) else max want (now - dv)) |>.judgeSet site
  else s

/-- The lowest readings of the sense points in the window that ends, each with the count and the time at which it was read (R259). -/
def State.takePoints (s : State) (r : WindowReadings) : State :=
  r.points.foldl (fun (s : State) e => s.senseAt e.1.val e.2.1.val e.2.2.1.val (s.ptp + min e.2.2.2.val r.elapsed.val)) s
/-- The readings of a window stored. -/
def State.takeReadings (s : State) (r : WindowReadings) (dv : Nat) : State :=
  let s := [(PWR_IN_VIN, r.vin.val), (PWR_IN_IIN, r.iin.val), (PWR_IN_P_PIN_W, r.pinW.val), (PWR_IN_P_ETA, r.eta.val), (THM_COOL_T_IN, r.tIn.val),
    (THM_COOL_T_OUT, r.tOut.val), (THM_FLOW_FLOW, r.flow.val), (THM_FLOW_DP, r.dp.val)].foldl (fun (s : State) e => s.setG e.1 0 e.2) s
  let s := s.readAmps r.amps
  let s := r.edges.foldl (fun (s : State) e => s.addReg CLK_RGSTR_EDGES 0 e.1.val e.2.val) s
  let s := r.diodes.foldl (fun (s : State) e => s.readDiode e.1.val e.2.val) s
  let s := r.bases.foldl (fun (s : State) e => s.readBase e.1.val e.2.val) s
  let s := r.hotStacks.foldl (fun (s : State) e => s.setG THM_HTEMP_T e.1.val e.2.val) s
  let s := { s with power := { s.power with vBase := r.base.foldl (fun (m : Map Nat) (e : Site × Fin 1024) => m.put e.1.val e.2.val) s.power.vBase } }
  s.allSites (fun s x => s.slewSet dv x)

/-- WAFER_STEP (R158): the wafer count advances; B-class values, swaps, the cap and the thermal corrections take effect, and quadrants take
the states they are to have. -/
def execWaferStep (readings : WindowReadings) (s : State) : Host.Outcome State Fault Refusal :=
  let dv := (s.ptp + readings.elapsed.val) / 1000 - s.ptp / 1000
  if !s.power.convOn then .next (s.passTime readings.elapsed.val)
  else
    let s := (s.takePoints readings).passTime readings.elapsed.val
    let s := { s with wcount := s.wcount + 1 }
    let s := (s.takeSwaps).applyShadows s.waferShadow
    let s := (((s.takeReadings readings dv).thermalWindow).capWindow readings).yieldWarm
    .next (s.adjustQuads (upTo 224))

end Sys2Proof.Machine
end

