-- ==== Sys2Proof/Machine/Dispatch.lean ====
section
/-! DEFINITION. The dispatch: one arm for each command. -/

namespace Sys2Proof.Machine

/-- The effect of one command on everything but the queue. -/
def exec (i : Instr) (s : State) : Host.Outcome State Fault Refusal :=
  match i with
  | .ldin op => Sys2Proof.Machine.execLdin op s
  | .mvm op => Sys2Proof.Machine.execMvm op s
  | .mvmComplete tile entry => Sys2Proof.Machine.execMvmComplete tile entry s
  | .red op => Sys2Proof.Machine.execRed op s
  | .wrb op => Sys2Proof.Machine.execWrb op s
  | .wrbComplete tile entry bad => Sys2Proof.Machine.execWrbComplete tile entry bad s
  | .rdb op => Sys2Proof.Machine.execRdb op s
  | .clv op => Sys2Proof.Machine.execClv op s
  | .mld op => Sys2Proof.Machine.execMld op s
  | .mmul op => Sys2Proof.Machine.execMmul op s
  | .mout op => Sys2Proof.Machine.execMout op s
  | .vld op => Sys2Proof.Machine.execVld op s
  | .vst op => Sys2Proof.Machine.execVst op s
  | .vadd op => Sys2Proof.Machine.execVadd op s
  | .vsub op => Sys2Proof.Machine.execVsub op s
  | .vmul op => Sys2Proof.Machine.execVmul op s
  | .vfma op => Sys2Proof.Machine.execVfma op s
  | .vmax op => Sys2Proof.Machine.execVmax op s
  | .vmin op => Sys2Proof.Machine.execVmin op s
  | .vexp2 op => Sys2Proof.Machine.execVexp2 op s
  | .vrcp op => Sys2Proof.Machine.execVrcp op s
  | .vrsq op => Sys2Proof.Machine.execVrsq op s
  | .vlog2 op => Sys2Proof.Machine.execVlog2 op s
  | .vred op => Sys2Proof.Machine.execVred op s
  | .vsel op => Sys2Proof.Machine.execVsel op s
  | .vbc op => Sys2Proof.Machine.execVbc op s
  | .vcvt op => Sys2Proof.Machine.execVcvt op s
  | .vqnt op => Sys2Proof.Machine.execVqnt op s
  | .vrot op => Sys2Proof.Machine.execVrot op s
  | .attend op => Sys2Proof.Machine.execAttend op s
  | .sample op => Sys2Proof.Machine.execSample op s
  | .cmrg op => Sys2Proof.Machine.execCmrg op s
  | .sluiceSlotIssue tile entry cycle => Sys2Proof.Machine.execSluiceSlotIssue tile entry cycle s
  | .sluiceMiss tile entry => Sys2Proof.Machine.execSluiceMiss tile entry s
  | .tagTimeout tile entry => Sys2Proof.Machine.execTagTimeout tile entry s
  | .deliverySend tile row => Sys2Proof.Machine.execDeliverySend tile row s
  | .deliveryArrive n crcOk => Sys2Proof.Machine.execDeliveryArrive n crcOk s
  | .deliveryAck n => Sys2Proof.Machine.execDeliveryAck n s
  | .deliveryBusyRetry n => Sys2Proof.Machine.execDeliveryBusyRetry n s
  | .deliveryTimeout n => Sys2Proof.Machine.execDeliveryTimeout n s
  | .restoreRowCopy tile row => Sys2Proof.Machine.execRestoreRowCopy tile row s
  | .scrubRow tile upsets => Sys2Proof.Machine.execScrubRow tile upsets s
  | .basinRowSpare tile => Sys2Proof.Machine.execBasinRowSpare tile s
  | .basinHostAccess path addr len data => Sys2Proof.Machine.execBasinHostAccess path addr len data s
  | .cisternHostAccess path addr len data => Sys2Proof.Machine.execCisternHostAccess path addr len data s
  | .routeEntry tile entry parityOk => Sys2Proof.Machine.execRouteEntry tile entry parityOk s
  | .beatArrival tile port cycle crcOk => Sys2Proof.Machine.execBeatArrival tile port cycle crcOk s
  | .expressStationPass site axis dir lane cycle crcOk => Sys2Proof.Machine.execExpressStationPass site axis dir lane cycle crcOk s
  | .crossingRelease isLane place launch reached edges => Sys2Proof.Machine.execCrossingRelease isLane place launch reached edges s
  | .programEnd tile => Sys2Proof.Machine.execProgramEnd tile s
  | .regionReport part region edges => Sys2Proof.Machine.execRegionReport part region edges s
  | .rootDeadline part mismatch => Sys2Proof.Machine.execRootDeadline part mismatch s
  | .commitBoundary part => Sys2Proof.Machine.execCommitBoundary part s
  | .replayBoundary part => Sys2Proof.Machine.execReplayBoundary part s
  | .recomputeDone part => Sys2Proof.Machine.execRecomputeDone part s
  | .faultedStepBoundary part => Sys2Proof.Machine.execFaultedStepBoundary part s
  | .attemptStart part => Sys2Proof.Machine.execAttemptStart part s
  | .abort part => Sys2Proof.Machine.execAbort part s
  | .csdHoldSet path part => Sys2Proof.Machine.execCsdHoldSet path part s
  | .csdHoldClear path part => Sys2Proof.Machine.execCsdHoldClear path part s
  | .csdRootSwap path => Sys2Proof.Machine.execCsdRootSwap path s
  | .waferStep readings => Sys2Proof.Machine.execWaferStep readings s
  | .rootTakeover part => Sys2Proof.Machine.execRootTakeover part s
  | .treeMessageRepeat part region => Sys2Proof.Machine.execTreeMessageRepeat part region s
  | .goReissue part => Sys2Proof.Machine.execGoReissue part s
  | .spareArraySubstitution tile array internal clean fails => Sys2Proof.Machine.execSpareArraySubstitution tile array internal clean fails s
  | .create path slot => Sys2Proof.Machine.execCreate path slot s
  | .resize path slot => Sys2Proof.Machine.execResize path slot s
  | .destroy path slot => Sys2Proof.Machine.execDestroy path slot s
  | .destroyComplete part => Sys2Proof.Machine.execDestroyComplete part s
  | .stage path slot => Sys2Proof.Machine.execStage path slot s
  | .leadShardVerify part data => Sys2Proof.Machine.execLeadShardVerify part data s
  | .shardVerify part shard data => Sys2Proof.Machine.execShardVerify part shard data s
  | .shardFetchError part shard => Sys2Proof.Machine.execShardFetchError part shard s
  | .discard path slot => Sys2Proof.Machine.execDiscard path slot s
  | .install path slot => Sys2Proof.Machine.execInstall path slot s
  | .installWriteComplete part info unread bad => Sys2Proof.Machine.execInstallWriteComplete part info unread bad s
  | .drainDeadline part => Sys2Proof.Machine.execDrainDeadline part s
  | .start path slot => Sys2Proof.Machine.execStart path slot s
  | .stop path slot => Sys2Proof.Machine.execStop path slot s
  | .enrollKey path slot => Sys2Proof.Machine.execEnrollKey path slot s
  | .revokeKey path slot => Sys2Proof.Machine.execRevokeKey path slot s
  | .serverEntryValid path entry valid => Sys2Proof.Machine.execServerEntryValid path entry valid s
  | .serverQpError entry => Sys2Proof.Machine.execServerQpError entry s
  | .streamPlanEntry part entry behind => Sys2Proof.Machine.execStreamPlanEntry part entry behind s
  | .requestFieldWrite path req word value => Sys2Proof.Machine.execRequestFieldWrite path req word value s
  | .submit path req gen => Sys2Proof.Machine.execSubmit path req gen s
  | .free path req gen => Sys2Proof.Machine.execFree path req gen s
  | .cancel path req gen => Sys2Proof.Machine.execCancel path req gen s
  | .pause path req gen => Sys2Proof.Machine.execPause path req gen s
  | .resume path req gen => Sys2Proof.Machine.execResume path req gen s
  | .stewardEntryScan req => Sys2Proof.Machine.execStewardEntryScan req s
  | .transcriptReserve req => Sys2Proof.Machine.execTranscriptReserve req s
  | .promptReadDone req data => Sys2Proof.Machine.execPromptReadDone req data s
  | .journalAck part => Sys2Proof.Machine.execJournalAck part s
  | .ringQueueDrain part => Sys2Proof.Machine.execRingQueueDrain part s
  | .moderationTimer part => Sys2Proof.Machine.execModerationTimer part s
  | .stwModWrite path part time count => Sys2Proof.Machine.execStwModWrite path part time count s
  | .ringEnable path part => Sys2Proof.Machine.execRingEnable path part s
  | .parcelWrite req => Sys2Proof.Machine.execParcelWrite req s
  | .rotateExpiry req => Sys2Proof.Machine.execRotateExpiry req s
  | .resumeReady req data parcelOk => Sys2Proof.Machine.execResumeReady req data parcelOk s
  | .parcelReturnDone req => Sys2Proof.Machine.execParcelReturnDone req s
  | .parcelTtlExpiry req => Sys2Proof.Machine.execParcelTtlExpiry req s
  | .hardDeadline req => Sys2Proof.Machine.execHardDeadline req s
  | .stewardTakeover => Sys2Proof.Machine.execStewardTakeover s
  | .stewardSwap path => Sys2Proof.Machine.execStewardSwap path s
  | .standbyResync => Sys2Proof.Machine.execStandbyResync s
  | .standbyLoss => Sys2Proof.Machine.execStandbyLoss s
  | .pairingWrite path part enable peer => Sys2Proof.Machine.execPairingWrite path part enable peer s
  | .smifortEnable path part enable => Sys2Proof.Machine.execSmifortEnable path part enable s
  | .smiSqPoll part producer bad => Sys2Proof.Machine.execSmiSqPoll part producer bad s
  | .s2Generate part entry => Sys2Proof.Machine.execS2Generate part entry s
  | .s2Cancel part tag => Sys2Proof.Machine.execS2Cancel part tag s
  | .auxInputLoss => Sys2Proof.Machine.execAuxInputLoss s
  | .mainInputLoss mv => Sys2Proof.Machine.execMainInputLoss mv s
  | .converterFail conv => Sys2Proof.Machine.execConverterFail conv s
  | .phaseFail site phase => Sys2Proof.Machine.execPhaseFail site phase s
  | .transitRegulatorFault site => Sys2Proof.Machine.execTransitRegulatorFault site s
  | .spillwayBoost tile mv => Sys2Proof.Machine.execSpillwayBoost tile mv s
  | .spillwayShunt tile mv => Sys2Proof.Machine.execSpillwayShunt tile mv s
  | .clockStretchStart tile mv => Sys2Proof.Machine.execClockStretchStart tile mv s
  | .clockStretchEnd region below => Sys2Proof.Machine.execClockStretchEnd region below s
  | .deepDroop site point mv => Sys2Proof.Machine.execDeepDroop site point mv s
  | .vminClear path => Sys2Proof.Machine.execVminClear path s
  | .quadrantPowerRequest path quad request => Sys2Proof.Machine.execQuadrantPowerRequest path quad request s
  | .quadrantTransitionDone quad upsets => Sys2Proof.Machine.execQuadrantTransitionDone quad upsets s
  | .wakeStart quad amps => Sys2Proof.Machine.execWakeStart quad amps s
  | .wakeWaitExpiry quad => Sys2Proof.Machine.execWakeWaitExpiry quad s
  | .wakeStageAdvance quad mv => Sys2Proof.Machine.execWakeStageAdvance quad mv s
  | .wakeFail quad => Sys2Proof.Machine.execWakeFail quad s
  | .supplyAnomaly quad reading => Sys2Proof.Machine.execSupplyAnomaly quad reading s
  | .pwrReactiveClear path part => Sys2Proof.Machine.execPwrReactiveClear path part s
  | .pwrAlertAssert => Sys2Proof.Machine.execPwrAlertAssert s
  | .pwrAlertRelease => Sys2Proof.Machine.execPwrAlertRelease s
  | .alertHoldExpiry => Sys2Proof.Machine.execAlertHoldExpiry s
  | .internalAlert pinW excursion => Sys2Proof.Machine.execInternalAlert pinW excursion s
  | .ageingMeasure site slow => Sys2Proof.Machine.execAgeingMeasure site slow s
  | .thetaUpdate site watts steady => Sys2Proof.Machine.execThetaUpdate site watts steady s
  | .rebase path => Sys2Proof.Machine.execRebase path s
  | .monitorStaleTimeout base place => Sys2Proof.Machine.execMonitorStaleTimeout base place s
  | .junctionOverLimit site => Sys2Proof.Machine.execJunctionOverLimit site s
  | .junctionHot site => Sys2Proof.Machine.execJunctionHot site s
  | .junctionTrip tile raw => Sys2Proof.Machine.execJunctionTrip tile raw s
  | .stackHot85 stack t => Sys2Proof.Machine.execStackHot85 stack t s
  | .stackHot95 stack t => Sys2Proof.Machine.execStackHot95 stack t s
  | .inletHigh tIn => Sys2Proof.Machine.execInletHigh tIn s
  | .flowLow flow => Sys2Proof.Machine.execFlowLow flow s
  | .moduleThermalShutdown tIn tOut flow stack t => Sys2Proof.Machine.execModuleThermalShutdown tIn tOut flow stack t s
  | .leakSensed => Sys2Proof.Machine.execLeakSensed s
  | .siteRelease path site => Sys2Proof.Machine.execSiteRelease path site s
  | .forecastUpdate changes => Sys2Proof.Machine.execForecastUpdate changes s
  | .warmingRotate quads watts => Sys2Proof.Machine.execWarmingRotate quads watts s
  | .regionOff path region => Sys2Proof.Machine.execRegionOff path region s
  | .regionOn path region => Sys2Proof.Machine.execRegionOn path region s
  | .calPassReq path tile mask => Sys2Proof.Machine.execCalPassReq path tile mask s
  | .calSolveDone tile pos => Sys2Proof.Machine.execCalSolveDone tile pos s
  | .snap path tile => Sys2Proof.Machine.execSnap path tile s
  | .restore path tile => Sys2Proof.Machine.execRestore path tile s
  | .monitorCalibration mon place ended ofs gain => Sys2Proof.Machine.execMonitorCalibration mon place ended ofs gain s
  | .coldStart found => Sys2Proof.Machine.execColdStart found s
  | .mainInputInRange found => Sys2Proof.Machine.execMainInputInRange found s
  | .acceptTopology path => Sys2Proof.Machine.execAcceptTopology path s
  | .tileReset path target => Sys2Proof.Machine.execTileReset path target s
  | .siteReset path target => Sys2Proof.Machine.execSiteReset path target s
  | .partReset path part => Sys2Proof.Machine.execPartReset path part s
  | .waferReset path => Sys2Proof.Machine.execWaferReset path s
  | .moduleWarm path found => Sys2Proof.Machine.execModuleWarm path found s
  | .resetDrainEnd => Sys2Proof.Machine.execResetDrainEnd s
  | .repairTile path target clean fails => Sys2Proof.Machine.execRepairTile path target clean fails s
  | .ptest path part level failed => Sys2Proof.Machine.execPtest path part level failed s
  | .perst found => Sys2Proof.Machine.execPerst found s
  | .vfFlr part => Sys2Proof.Machine.execVfFlr part s
  | .pfFlr => Sys2Proof.Machine.execPfFlr s
  | .tileFail tile cond clean fails => Sys2Proof.Machine.execTileFail tile cond clean fails s
  | .stackFail stack damaged => Sys2Proof.Machine.execStackFail stack damaged s
  | .rimDieFail rim damaged => Sys2Proof.Machine.execRimDieFail rim damaged s
  | .spareTileTest site column south first ok => Sys2Proof.Machine.execSpareTileTest site column south first ok s
  | .fwImageWrite kind image signed => Sys2Proof.Machine.execFwImageWrite kind image signed s
  | .fwStandbyReady => Sys2Proof.Machine.execFwStandbyReady s
  | .fwStandbyTimeout => Sys2Proof.Machine.execFwStandbyTimeout s
  | .fwConfirmExpiry => Sys2Proof.Machine.execFwConfirmExpiry s
  | .licInstall path signed => Sys2Proof.Machine.execLicInstall path signed s
  | .licRemove path slot => Sys2Proof.Machine.execLicRemove path slot s
  | .ideCheckFail read => Sys2Proof.Machine.execIdeCheckFail read s
  | .pcieLinkDown => Sys2Proof.Machine.execPcieLinkDown s
  | .ethPortDown port => Sys2Proof.Machine.execEthPortDown port s
  | .ethFrame port frame => Sys2Proof.Machine.execEthFrame port frame s
  | .ptpMessage port domain transport offset rate => Sys2Proof.Machine.execPtpMessage port domain transport offset rate s
  | .ptpLockLoss => Sys2Proof.Machine.execPtpLockLoss s
  | .ppsInPulse ns => Sys2Proof.Machine.execPpsInPulse ns s
  | .aqdLinkMessage port peer => Sys2Proof.Machine.execAqdLinkMessage port peer s
  | .aqdFlitReceive port flit => Sys2Proof.Machine.execAqdFlitReceive port flit s
  | .aqdAckTimeout port => Sys2Proof.Machine.execAqdAckTimeout port s
  | .aqdRetrainTimeout port => Sys2Proof.Machine.execAqdRetrainTimeout port s
  | .aqdTrainRetry port => Sys2Proof.Machine.execAqdTrainRetry port s
  | .aqdLaneSwap port lane passes => Sys2Proof.Machine.execAqdLaneSwap port lane passes s
  | .aqdStream port tag dtile drow rcrc data => Sys2Proof.Machine.execAqdStream port tag dtile drow rcrc data s
  | .aqdBind port tag part head lc lp nqt slot => Sys2Proof.Machine.execAqdBind port tag part head lc lp nqt slot s
  | .aqdEnd port tag part head => Sys2Proof.Machine.execAqdEnd port tag part head s
  | .aqdResult port tag part slot row => Sys2Proof.Machine.execAqdResult port tag part slot row s
  | .aqdLost port tag part head pos => Sys2Proof.Machine.execAqdLost port tag part head pos s
  | .aqdStop port tag part => Sys2Proof.Machine.execAqdStop port tag part s
  | .aqdDack port tag => Sys2Proof.Machine.execAqdDack port tag s
  | .aqdDbusy port tag refused => Sys2Proof.Machine.execAqdDbusy port tag refused s
  | .aqdMark port chain head part k ptp => Sys2Proof.Machine.execAqdMark port chain head part k ptp s
  | .markTimeout part => Sys2Proof.Machine.execMarkTimeout part s
  | .setFabricMode path chained => Sys2Proof.Machine.execSetFabricMode path chained s
  | .setChainPlan path image => Sys2Proof.Machine.execSetChainPlan path image s
  | .takeOwnership path session key => Sys2Proof.Machine.execTakeOwnership path session key s
  | .enrollOwner path slot key => Sys2Proof.Machine.execEnrollOwner path slot key s
  | .revokeOwner path slot => Sys2Proof.Machine.execRevokeOwner path slot s
  | .releaseOwnership path => Sys2Proof.Machine.execReleaseOwnership path s
  | .sessionLock path => Sys2Proof.Machine.execSessionLock path s
  | .sessionOpen path ask => Sys2Proof.Machine.execSessionOpen path ask s
  | .sessionHeartbeatLoss session => Sys2Proof.Machine.execSessionHeartbeatLoss session s
  | .getMeasurements path index => Sys2Proof.Machine.execGetMeasurements path index s
  | .mgmtRegisterAccess version offset write => Sys2Proof.Machine.execMgmtRegisterAccess version offset write s
  | .secNegWrite path major => Sys2Proof.Machine.execSecNegWrite path major s
  | .errInject path page kind => Sys2Proof.Machine.execErrInject path page kind s
  | .errLogData0Read path => Sys2Proof.Machine.execErrLogData0Read path s
  | .errLogData7Read path => Sys2Proof.Machine.execErrLogData7Read path s
  | .splitCountLoRead path offset => Sys2Proof.Machine.execSplitCountLoRead path offset s
  | .intEnableWrite path which value => Sys2Proof.Machine.execIntEnableWrite path which value s
  | .registerWrite path offset value enables upper => Sys2Proof.Machine.execRegisterWrite path offset value enables upper s
  | .createComplete part => Sys2Proof.Machine.execCreateComplete part s
  | .resizeComplete part => Sys2Proof.Machine.execResizeComplete part s
  | .internalAlertRelease pinW => Sys2Proof.Machine.execInternalAlertRelease pinW s
  | .spillwayReservoirRecharged quad => Sys2Proof.Machine.execSpillwayReservoirRecharged quad s
  | .thermalEpisodeEnd cond place => Sys2Proof.Machine.execThermalEpisodeEnd cond place s
  | .wakeRetry quad => Sys2Proof.Machine.execWakeRetry quad s
  | .pcieLinkUp speed lanes flit => Sys2Proof.Machine.execPcieLinkUp speed lanes flit s
  | .ethPortUp port => Sys2Proof.Machine.execEthPortUp port s
  | .sessionClose session => Sys2Proof.Machine.execSessionClose session s
  | .busMasterEnableChange change => Sys2Proof.Machine.execBusMasterEnableChange change s
  | .calTemperatureTrigger tile reading => Sys2Proof.Machine.execCalTemperatureTrigger tile reading s

end Sys2Proof.Machine
end

