-- ==== Sys2Proof/Safety.lean ====
section
/-! DEFINITION. What claims say of runs: the state after a number of steps, and the invariants that a step keeps. -/

namespace Sys2Proof.Safety

open Sys2Proof.Machine

/-- The state after `n` steps, if none of them stops. -/
def after (n : Nat) (s : State) : Option State := match n with
  | 0 => some s
  | n + 1 => match step s with
    | .next t => after n t
    | .fault _ => none
    | .refused _ => none

/-- The block never stops within `n` steps. -/
def safeFor (n : Nat) (s : State) : Prop := (after n s).isSome = true

/-- The byte memory is in canonical form (addresses strictly rising, no zero listed). -/
def memoryCanonical (s : State) : Prop := Memory.wf s.mem = true

/-- R373: sessions stand at places 0 to 7, each at most once, so that each path has at most four; owner keys stand in slots 0 to 3 (R372). -/
def sessionsLegal (s : State) : Prop :=
  Map.wf s.link.sessions = true ∧ (∀ k, s.link.sessions.has k = true → k < 8) ∧
  Map.wf s.link.ownerKeys = true ∧ (∀ k, s.link.ownerKeys.has k = true → k < 4)

/-- R186, R391: every record of the log has an index below TAIL, and is one of the 16,777,216 most recent. -/
def logLegal (s : State) : Prop := ∀ k, s.log.has k = true → k < s.logTail ∧ s.logTail ≤ k + 16777216

/-- The sequencer issues the word to unit `unit` of its tile: the tile can work, the program in force schedules the word in this cycle (R149), and
its schedule entry passes the parity check (R151, R392). -/
abbrev issuable (s : State) (i : Issue) (unit : Nat) : Prop :=
  s.tileLive i.tile.val = true ∧ s.scheduled i unit = true ∧ s.reg (HDR_ERR_INJECT .seq) i.tile.val 0 ≠ 1 ∧
  (s.tile i.tile.val).seqBad.mem i.entry.val = false

/-- The state in which the unit runs the word: SEQ_STATUS.OFFSET shows its cycle, and its entry has issued. -/
def seen (s : State) (i : Issue) : State :=
  (s.setReg SEQ_STATUS_OFFSET i.tile.val 0 i.cycle.val).updTile i.tile.val (fun x => { x with issued := x.issued.add i.entry.val })

/-- The state in which a window-mode slot runs its command (R133): SLUICE_WAIT is clear, the slot is done and waits no longer. -/
def slotTaken (s : State) (t e : Nat) : State :=
  (s.setReg SEQ_STATUS_SLUICE_WAIT t 0 0).updTile t (fun x => { x with slotDone := x.slotDone.add e, waitStart := x.waitStart.del e })

/-- No access of a command issued before falls on a cycle in which this command's accesses to these rows use the scheduled port (R116). -/
abbrev portOpen (s : State) (i : Issue) (unit : Nat) (rows : List Nat) : Prop :=
  s.portClash i.tile.val i.cycle.val unit i.word.toNat rows = false

/-- The vector engine can run a command that names these registers: no ATTEND or SAMPLE runs, and none of them is pending (R91, R93). -/
abbrev vectorFree (s : State) (i : Issue) (l : List Nat) : Prop :=
  (s.tile i.tile.val).fusedUntil ≤ i.cycle.val ∧ ∀ r ∈ l, (s.tile i.tile.val).vPend.get r 0 ≤ i.cycle.val

/-- The matrix engine is not used by an ATTEND (R93). -/
abbrev matrixFree (s : State) (i : Issue) : Prop :=
  (s.tile i.tile.val).fusedMx = true → (s.tile i.tile.val).fusedUntil ≤ i.cycle.val

/-- A write of a field of a global page by this path takes effect (R373, R388): its path is up, it has negotiated or has a session, and a
virtual function sees the field as its own. `own` and `sess` as in `State.pageWrite`. -/
def pageOpen (s : State) (path : Path) (own sess : Bool) : Bool :=
  s.pathUp path && (match path with
    | .vf _ => own && s.negotiated path
    | .pf => s.negotiated path && (!sess || s.openSession path)
    | .mgmt => s.anySession path && s.answers && (!sess || s.openSession path))

/-- A write of a field of a tile's page by this path takes effect (R380, R385, R333). -/
def tileOpen (s : State) (path : Path) (t : Nat) : Bool :=
  s.pathUp path && s.sliceUp t && !s.inReset t && (match path with
    | .vf _ => false
    | .pf => s.negotiated path
    | .mgmt => s.anySession path && s.answers)

/-- A host write of a request entry by this path reaches it (R218, R373): a virtual function reaches the entries of its own partition. -/
def reqOpen (s : State) (path : Path) (r : Nat) : Bool :=
  s.pathUp path && s.negotiated path && (match path with
    | .pf => true
    | .vf q => s.reqOwner r == some q.val
    | .mgmt => false)

/-- A register access of this path reaches the module: its path is up, and over the management bus a session is open while the global pages
answer (R373, R381). -/
def accessOpen (s : State) (path : Path) : Bool :=
  s.pathUp path && (match path with
    | .mgmt => s.answers && s.anySession path
    | _ => true)

/-- The path may write every field that needs a session: the access reaches the module, a version is negotiated, and a session with an owner key
is open (R373, R388). -/
def ownerAccess (s : State) (path : Path) : Bool := accessOpen s path && s.negotiated path && s.openSession path

/-- An owner command of this path is taken up: it travels inside a session with an owner key (R372, R373). -/
def ownerOpen (s : State) (path : Path) : Bool := s.spdmUp path && s.openSession path && (path != .mgmt || s.answers)

/-- No byte of memory differs. -/
def sameMemory (s t : State) : Prop := ∀ a, Memory.read t.mem a = Memory.read s.mem a

/-- What lies beside the tiles and their registers is the same: requests, pages, power, thermal, repair, express tables, pending shadows,
counts and time, roles, sessions and owner keys. -/
def besideTiles (s t : State) : Prop :=
  t.reqs = s.reqs ∧ t.pages = s.pages ∧ t.power = s.power ∧ t.thermal = s.thermal ∧ t.repair = s.repair ∧ t.express = s.express ∧
  t.laneOwner = s.laneOwner ∧ t.treeMsgs = s.treeMsgs ∧ t.shadows = s.shadows ∧ t.wcount = s.wcount ∧ t.ptp = s.ptp ∧ t.submits = s.submits ∧
  t.stewardHome = s.stewardHome ∧ t.rootHome = s.rootHome ∧ t.link.sessions = s.link.sessions ∧ t.link.ownerKeys = s.link.ownerKeys ∧
  t.link.plan = s.link.plan

/-! ### Which commands store nothing, and which are those of a tile's units -/

/-- The commands whose meaning stores to no byte memory. -/
def storesNothing : Instr → Bool
  | .ldin _ | .mvm _ | .clv _ | .mld _ | .mmul _ | .vld _ => true
  | .vadd _ | .vsub _ | .vmul _ | .vfma _ | .vmax _ | .vmin _ => true
  | .vexp2 _ | .vrcp _ | .vrsq _ | .vlog2 _ | .vred _ | .vsel _ => true
  | .vbc _ | .vcvt _ | .vrot _ | .tagTimeout _ _ | .deliverySend _ _ | .deliveryAck _ => true
  | .deliveryTimeout _ | .scrubRow _ _ | .basinRowSpare _ | .beatArrival _ _ _ _ | .expressStationPass _ _ _ _ _ _ | .crossingRelease _ _ _ _ _ => true
  | .programEnd _ | .regionReport _ _ _ | .rootDeadline _ _ | .replayBoundary _ | .recomputeDone _ | .faultedStepBoundary _ => true
  | .attemptStart _ | .abort _ | .csdHoldSet _ _ | .csdHoldClear _ _ | .csdRootSwap _ | .rootTakeover _ => true
  | .treeMessageRepeat _ _ | .goReissue _ | .shardFetchError _ _ | .serverEntryValid _ _ _ | .serverQpError _ | .streamPlanEntry _ _ _ => true
  | .requestFieldWrite _ _ _ _ | .submit _ _ _ | .free _ _ _ | .cancel _ _ _ | .pause _ _ _ | .resume _ _ _ => true
  | .stewardEntryScan _ | .transcriptReserve _ | .moderationTimer _ | .stwModWrite _ _ _ _ | .rotateExpiry _ | .parcelReturnDone _ => true
  | .parcelTtlExpiry _ | .hardDeadline _ | .stewardSwap _ | .standbyResync | .standbyLoss | .smifortEnable _ _ _ => true
  | .transitRegulatorFault _ | .spillwayBoost _ _ | .spillwayShunt _ _ | .clockStretchStart _ _ | .clockStretchEnd _ _ | .deepDroop _ _ _ => true
  | .vminClear _ | .quadrantPowerRequest _ _ _ | .wakeStart _ _ | .wakeWaitExpiry _ | .wakeStageAdvance _ _ | .wakeFail _ => true
  | .supplyAnomaly _ _ | .pwrReactiveClear _ _ | .pwrAlertAssert | .pwrAlertRelease | .alertHoldExpiry | .internalAlert _ _ => true
  | .ageingMeasure _ _ | .thetaUpdate _ _ _ | .rebase _ | .monitorStaleTimeout _ _ | .junctionOverLimit _ | .junctionHot _ => true
  | .stackHot85 _ _ | .stackHot95 _ _ | .inletHigh _ | .flowLow _ | .siteRelease _ _ | .warmingRotate _ _ => true
  | .regionOff _ _ | .regionOn _ _ | .calPassReq _ _ _ | .calSolveDone _ _ | .restore _ _ | .monitorCalibration _ _ _ _ _ => true
  | .tileReset _ _ | .siteReset _ _ | .partReset _ _ | .waferReset _ | .vfFlr _ | .pfFlr => true
  | .fwImageWrite _ _ _ | .fwStandbyTimeout | .fwConfirmExpiry | .licInstall _ _ | .licRemove _ _ | .pcieLinkDown => true
  | .ethPortDown _ | .ethFrame _ _ | .ptpMessage _ _ _ _ _ | .ptpLockLoss | .ppsInPulse _ | .aqdLinkMessage _ _ => true
  | .aqdFlitReceive _ _ | .aqdAckTimeout _ | .aqdRetrainTimeout _ | .aqdTrainRetry _ | .aqdLaneSwap _ _ _ | .aqdEnd _ _ _ _ => true
  | .aqdResult _ _ _ _ _ | .aqdLost _ _ _ _ _ | .aqdStop _ _ _ | .aqdDack _ _ | .aqdDbusy _ _ _ | .aqdMark _ _ _ _ _ _ => true
  | .markTimeout _ | .setFabricMode _ _ | .setChainPlan _ _ | .takeOwnership _ _ _ | .enrollOwner _ _ _ | .revokeOwner _ _ => true
  | .releaseOwnership _ | .sessionLock _ | .sessionOpen _ _ | .sessionHeartbeatLoss _ | .getMeasurements _ _ | .errLogData0Read _ => true
  | .errLogData7Read _ | .splitCountLoRead _ _ | .internalAlertRelease _ | .spillwayReservoirRecharged _ | .thermalEpisodeEnd _ _ | .wakeRetry _ => true
  | .pcieLinkUp _ _ _ | .ethPortUp _ | .sessionClose _ | .busMasterEnableChange _ | .calTemperatureTrigger _ _ => true
  | _ => false

/-- The commands of a tile's units, with their ends. -/
def unitCommand : Instr → Bool
  | .ldin _ | .mvm _ | .mvmComplete _ _ | .red _ | .wrb _ | .wrbComplete _ _ _ => true
  | .rdb _ | .clv _ | .mld _ | .mmul _ | .mout _ | .vld _ => true
  | .vst _ | .vadd _ | .vsub _ | .vmul _ | .vfma _ | .vmax _ => true
  | .vmin _ | .vexp2 _ | .vrcp _ | .vrsq _ | .vlog2 _ | .vred _ => true
  | .vsel _ | .vbc _ | .vcvt _ | .vqnt _ | .vrot _ | .attend _ => true
  | .sample _ | .cmrg _ | .sluiceSlotIssue _ _ _ => true
  | _ => false

/-- The tile whose unit a command of `unitCommand` runs. -/
def unitTile : Instr → Option Nat
  | .ldin i | .mvm i | .red i | .wrb i | .rdb i | .clv i | .mld i | .mmul i | .mout i | .vld i => some i.tile.val
  | .vst i | .vadd i | .vsub i | .vmul i | .vfma i | .vmax i | .vmin i | .vexp2 i | .vrcp i | .vrsq i => some i.tile.val
  | .vlog2 i | .vred i | .vsel i | .vbc i | .vcvt i | .vqnt i | .vrot i | .attend i | .sample i | .cmrg i => some i.tile.val
  | .mvmComplete t _ | .wrbComplete t _ _ | .sluiceSlotIssue t _ _ => some t.val
  | _ => none

/-- The commands of links, time, ownership and sessions. -/
def linkCommand : Instr → Bool
  | .pcieLinkUp _ _ _ | .pcieLinkDown | .busMasterEnableChange _ | .ethPortUp _ | .ethPortDown _ | .ethFrame _ _ => true
  | .ptpMessage _ _ _ _ _ | .ptpLockLoss | .ppsInPulse _ | .takeOwnership _ _ _ | .enrollOwner _ _ _ | .revokeOwner _ _ => true
  | .releaseOwnership _ | .sessionLock _ | .sessionOpen _ _ | .sessionClose _ | .sessionHeartbeatLoss _ | .getMeasurements _ _ => true
  | .setFabricMode _ _ | .setChainPlan _ _ => true
  | _ => false
/-- The commands by which power and heat are watched without a quadrant or a partition changing its state. -/
def watchCommand : Instr → Bool
  | .transitRegulatorFault _ | .spillwayBoost _ _ | .spillwayShunt _ _ | .spillwayReservoirRecharged _ | .clockStretchStart _ _ => true
  | .clockStretchEnd _ _ | .deepDroop _ _ _ | .vminClear _ | .supplyAnomaly _ _ | .pwrAlertAssert | .pwrAlertRelease => true
  | .alertHoldExpiry | .internalAlert _ _ | .ageingMeasure _ _ | .thetaUpdate _ _ _ | .rebase _ | .monitorStaleTimeout _ _ => true
  | .junctionOverLimit _ | .stackHot85 _ _ | .stackHot95 _ _ | .inletHigh _ | .flowLow _ | .thermalEpisodeEnd _ _ => true
  | .forecastUpdate _ | .warmingRotate _ _ => true
  | _ => false
/-- The work of the tiles and the partitions is the same: tiles, partitions, requests, pages, packets, links, calibration and the wafer count. -/
def sameWork (s t : State) : Prop :=
  t.tiles = s.tiles ∧ t.parts = s.parts ∧ t.reqs = s.reqs ∧ t.pages = s.pages ∧ t.flight = s.flight ∧ t.links = s.links ∧ t.lanes = s.lanes ∧
  t.cross = s.cross ∧ t.express = s.express ∧ t.laneOwner = s.laneOwner ∧ t.treeMsgs = s.treeMsgs ∧ t.cal = s.cal ∧ t.wcount = s.wcount ∧
  t.submits = s.submits

/-! ### Array commands that nothing refuses (Table 2-15) -/

/-- No MVM in progress on the array reads the input register that this LDIN names. -/
def inputFree (s : State) (i : Issue) (n : Nat) : Prop := s.mvmIn i.tile.val n i.cycle.val (fun m => m.insel == bits i.word.toNat 50 50) = false
/-- Basin rows that an LDIN reads. -/
def ldinRows (w : Nat) : List Nat := if bitAt w 39 then rowRun (bits w 38 29) (ceilDiv (bits w 43 40 + 1) 8) else []
/-- The beats that an LDIN takes from its source. -/
def ldinBeats (s : State) (i : Issue) : List Beat :=
  let w := i.word.toNat
  let nb := bits w 43 40 + 1
  if bitAt w 39 then ((seen s i).schedReads i.tile.val i.cycle.val (bits w 38 29) (ceilDiv nb 8)).2.take nb
  else ((seen s i).takeBeats i.tile.val 0 i.cycle.val nb).2
/-- Another MVM in progress computes on the bank in the array. -/
def laterMvm (s : State) (t e : Nat) (f : MvmF) (n : Nat) : Bool :=
  (s.tile t).mvmRun.entries.any (fun o => o.1 != e && (mvmF o.2.word).pl == f.pl && (mvmF o.2.word).arrs.contains n)
/-- The tail stages that a RED uses are free in the array. -/
def redFree (s : State) (i : Issue) (n : Nat) : Prop :=
  (s.tile i.tile.val).stageBusy n (s.redSpans i.tile.val i.cycle.val i.word.toNat (maskArrays (amaskOf i.word.toNat)) n) = false
/-- The digital read port of the array is free. -/
def portFree (s : State) (i : Issue) (n : Nat) : Prop :=
  Win.active ((s.tile i.tile.val).wrbWin.get? n) i.cycle.val = false ∧ Win.active ((s.tile i.tile.val).rdbWin.get? n) i.cycle.val = false
/-- An RDB's bank is READY, no MVM runs on it, and the read port is free. -/
def rdbFree (s : State) (i : Issue) (n : Nat) : Prop :=
  s.mvmOn i.tile.val n (bits i.word.toNat 50 50) i.cycle.val = false ∧ s.reg (bstateF (bits i.word.toNat 50 50)) i.tile.val n = bsReady ∧
  portFree s i n
/-- A WRB's bank is a stream bank that is EMPTY, READY or COMPUTE, no MVM runs on it, and the ports are free. -/
def wrbFree (s : State) (i : Issue) (n : Nat) : Prop :=
  s.mvmOn i.tile.val n (bits i.word.toNat 50 50) i.cycle.val = false ∧ s.reg (streamF (bits i.word.toNat 50 50)) i.tile.val n = 1 ∧
  s.reg (bstateF (bits i.word.toNat 50 50)) i.tile.val n ≠ bsFailed ∧ s.reg (bstateF (bits i.word.toNat 50 50)) i.tile.val n ≠ bsLoading ∧
  portFree s i n

/-- No MVM and no Clove window uses the array (R168). -/
def cloveFree (s : State) (i : Issue) (n : Nat) : Prop :=
  s.mvmIn i.tile.val n i.cycle.val (fun _ => true) = false ∧ Win.active ((s.tile i.tile.val).clvWin.get? n) i.cycle.val = false

/-! ### Engine commands -/

/-- The lane operations of Table 4-8. -/
inductive LaneOp where
  | add | sub | mul | fma | max | min | exp2 | rcp | rsq | log2 | sel
  deriving DecidableEq, Repr

def LaneOp.opc : LaneOp → Nat
  | .add => 0x03 | .sub => 0x04 | .mul => 0x05 | .fma => 0x06 | .max => 0x07 | .min => 0x08 | .exp2 => 0x09 | .rcp => 0x0A | .rsq => 0x0B
  | .log2 => 0x0C | .sel => 0x0E
def LaneOp.command (o : LaneOp) (i : Issue) : Instr := match o with
  | .add => .vadd i | .sub => .vsub i | .mul => .vmul i | .fma => .vfma i | .max => .vmax i | .min => .vmin i | .exp2 => .vexp2 i
  | .rcp => .vrcp i | .rsq => .vrsq i | .log2 => .vlog2 i | .sel => .vsel i
/-- The source registers that the operation reads. -/
def LaneOp.sources (o : LaneOp) (w : Nat) : List Nat := match o with
  | .add | .sub | .mul | .max | .min => [vA w, vB w]
  | .fma | .sel => [vA w, vB w, vC w]
  | .exp2 | .rcp | .rsq | .log2 => [vA w]
/-- The operation on FP32 lanes, and on BF16 lanes before they are rounded back. -/
def LaneOp.float : LaneOp → Nat → Nat → Nat → Nat
  | .add, a, b, _ => fadd a b | .sub, a, b, _ => fadd a (fneg b) | .mul, a, b, _ => fmul a b | .fma, a, b, c => ffma a b c
  | .max, a, b, _ => fmax a b | .min, a, b, _ => fmin a b | .exp2, a, _, _ => fexp2 a | .rcp, a, _, _ => frcp a | .rsq, a, _, _ => frsq a
  | .log2, a, _, _ => flog2 a | .sel, a, b, c => if fIsZero c then b else a
/-- The operation on INT32 lanes: the exact value where it fits, else a free lane (log entry 20). -/
def LaneOp.int : LaneOp → Nat → Nat → Nat → Nat
  | .add, a, b, _ => int32 3 a b 0 (sext 32 a + sext 32 b) | .sub, a, b, _ => int32 4 a b 0 (sext 32 a - sext 32 b)
  | .mul, a, b, _ => int32 5 a b 0 (sext 32 a * sext 32 b) | .fma, a, b, c => int32 6 a b c (sext 32 a * sext 32 b + sext 32 c)
  | .max, a, b, _ => if sext 32 a < sext 32 b then b else a | .min, a, b, _ => if sext 32 b < sext 32 a then b else a
  | .exp2, a, _, _ => Config.intLane 9 a 0 0 % 2 ^ 32 | .rcp, a, _, _ => Config.intLane 10 a 0 0 % 2 ^ 32
  | .rsq, a, _, _ => Config.intLane 11 a 0 0 % 2 ^ 32 | .log2, a, _, _ => Config.intLane 12 a 0 0 % 2 ^ 32
  | .sel, a, b, c => if c = 0 then b else a

/-- The lanes that a VROT leaves, for each TYPE; Table 4-8 gives INT32 lanes no meaning (log entry 20). -/
def rotLanes (ty : Nat) (half : Bool) (a b c : List Nat) : List Nat :=
  if ty = 1 then packBf (rotate half (bfLanes a) (bfLanes b) (bfLanes c))
  else if ty = 2 then a.map (fun x => Config.intLane 18 x 0 0 % 2 ^ 32)
  else rotate half a b c

end Sys2Proof.Safety
end

