-- ==== Sys2Proof/WellFormed.lean ====
section
/-! DEFINITION. What the operands of a command must satisfy beyond their types. A command that breaks it stands for no event of the hardware;
its meaning is total all the same. -/

namespace Sys2Proof

/-- A beat carries 64 bytes (00_scope.md, Words used: beat). -/
def Beat.wellFormed (b : Beat) : Bool := b.data.length == 64

/-- No value stands twice in a list: readings name each place once. -/
def distinct {α : Type} [BEq α] : List α → Bool
  | [] => true
  | a :: l => !l.contains a && distinct l

/-- Readings of one window name each partition, site, sense point, region, monitor and stack once. -/
def WindowReadings.wellFormed (r : WindowReadings) : Bool :=
  distinct (r.parts.map (·.1)) && distinct (r.amps.map (·.1)) && distinct (r.base.map (·.1)) && distinct (r.points.map (fun e => (e.1, e.2.1))) &&
  distinct (r.edges.map (·.1)) && distinct (r.paths.map (·.1)) && distinct (r.diodes.map (·.1)) && distinct (r.bases.map (·.1)) && distinct (r.hotStacks.map (·.1))

/-- A bring-up names each item once, and both images of a firmware kind fail only where the first does. -/
def BringUp.wellFormed (b : BringUp) : Bool :=
  distinct b.fwFirst && b.fwBoth.all (fun k => b.fwFirst.contains k) && distinct b.badStacks && distinct b.rims && distinct b.ports && distinct b.failed &&
  distinct b.spares && distinct b.impaired && distinct (b.diodes.map (·.1)) && distinct (b.base.map (·.1)) && distinct (b.res.map (·.1)) && distinct b.certs

/-- The beat that a route or a link carries, the bytes of an access, and the readings, as the spec sizes them. -/
def Instr.wellFormed : Instr → Bool
  | .basinHostAccess _ _ len data => decide (0 < len.val) && (match data with
    | some d => d.length % 512 == 0 && decide (0 < d.length)
    | none => true)
  | .cisternHostAccess _ _ len data => decide (0 < len.val) && (match data with
    | some d => d.length == len.val
    | none => true)
  | .registerWrite _ offset _ _ upper => offset.val % (if upper.isSome then 8 else 4) == 0
  | .mgmtRegisterAccess _ offset _ => offset.val % 4 == 0
  | .splitCountLoRead _ offset => offset.val % 4 == 0
  | .aqdStream _ _ _ _ _ data => data.length == 512
  | .aqdResult _ _ _ _ row => row.elim true (fun d => d.length == 512)
  | .setChainPlan _ image => decide (32 ≤ image.length) && decide (image.length ≤ 1504)
  | .waferStep r => r.wellFormed
  | .coldStart b => b.wellFormed
  | .mainInputInRange b => b.wellFormed
  | .moduleWarm _ b => b.wellFormed
  | .perst b => b.wellFormed
  | .ptest _ _ _ failed => distinct failed
  | .warmingRotate quads _ => distinct quads
  | .forecastUpdate changes => distinct (changes.map (·.1))
  | .stackFail _ damaged => distinct (damaged.map (·.1))
  | .rimDieFail _ damaged => distinct (damaged.map (·.1))
  | .pcieLinkUp speed _ _ => decide (0 < speed.val)
  | _ => true

end Sys2Proof
end

