-- ==== Sys2Proof/Certificates/Slice0/Obligations.lean ====
section
/-! DEFINITION. The statements for the provers. -/

open Sys2Proof Sys2Proof.Machine Sys2Proof.Safety

/-- A step runs the command at the front of the queue. A step with a command at the front of the queue runs it on the state with the queue's rest. (spec/95_what_each_step_holds.md) -/
def Obligations.StepRunsFrontCommand : Prop :=
  ∀ (c : Instr) (s : State) (q : List Instr),
    step { s with pending := c :: q } = exec c { s with pending := q }

/-- An empty queue leaves the block as it is (the model's choice, log entry 1). A step on an empty queue answers the same state; this is the model's own convention, log entry 1. (spec/95_what_each_step_holds.md) -/
def Obligations.EmptyQueueIdles : Prop :=
  ∀ s : State, s.pending = [] → step s = .next s

/-- Every command of the table has an effect in every state and leaves the queue alone. Whatever the state and the operands, exec answers a next state, never a fault or a refusal, and the waiting commands stay as they were. (spec/95_what_each_step_holds.md) -/
def Obligations.EveryCommandAnswers : Prop :=
  ∀ (c : Instr) (s : State), ∃ t, exec c s = .next t ∧ t.pending = s.pending

/-- The invariant holds after reset. After reset the byte memory is in canonical form, no session or owner key stands outside its places, and the log is within its capacity. (spec/14_external_interfaces.md, spec/07_compiler_contract.md) -/
def Obligations.InvariantAtReset : Prop :=
  memoryCanonical State.reset ∧ sessionsLegal State.reset ∧ logLegal State.reset

/-- Every step keeps memory canonical, sessions within their places and the log within its capacity. From every state in which the byte memory is in canonical form, sessions stand at places 0 to 7 (four for each path) and owner keys in slots 0 to 3, and the log holds at most its 16,777,216 most recent records, a step leads to such a state. (spec/14_external_interfaces.md, spec/07_compiler_contract.md) -/
def Obligations.EveryStepKeepsTheInvariant : Prop :=
  ∀ s t : State, memoryCanonical s → sessionsLegal s → logLegal s → step s = .next t →
    memoryCanonical t ∧ sessionsLegal t ∧ logLegal t

/-- A log that is full drops only its oldest record when one is appended. Appending a fault record puts it at the index TAIL and raises TAIL by one; every record among the 16,777,216 most recent is still there, unchanged. (spec/07_compiler_contract.md) -/
def Obligations.LogKeepsTheMostRecentRecords : Prop :=
  ∀ (s : State) (r : FaultRec), logLegal s →
    (s.appendLog r).log.get? s.logTail = some r ∧ (s.appendLog r).logTail = s.logTail + 1 ∧
    ∀ k, k < s.logTail → s.logTail < k + 16777216 → (s.appendLog r).log.get? k = s.log.get? k

/-- The commands that store nothing leave every byte of every memory. A command for which `storesNothing` holds (array loads and products, lane arithmetic, request commands, boundaries, power, thermal, link and session commands) leaves every byte of the Basin, of the banks, of the tables, of the Cistern and of host memory as it was. (spec/05_basin_scratchpad.md, spec/95_what_each_step_holds.md) -/
def Obligations.StoringNothingLeavesMemory : Prop :=
  ∀ (c : Instr) (s t : State), storesNothing c = true → exec c s = .next t → sameMemory s t

/-- The commands of a tile's units leave requests, pages, power, time, repair, roles and sessions alone. A command of an array, a matrix, vector or Confluence unit, or the end of one, changes nothing of the request table, the page table, power, thermal and repair state, express tables, pending boundary values, counts and time, roles, sessions, owner keys and the chain plan. (spec/02_compute_in_memory_arrays.md, spec/04_engines_attention_sampling.md) -/
def Obligations.TileCommandsLeaveTheRest : Prop :=
  ∀ (c : Instr) (s t : State), unitCommand c = true → exec c s = .next t → besideTiles s t

/-- LDIN, MVM and MVM_COMPLETE run when nothing refuses them. An LDIN that no running MVM refuses loads the beats of its source into the named register of every selected array. An MVM that no selected array refuses puts each named bank into COMPUTE, clears the clip counts and stays in progress until its completion. MVM_COMPLETE ends it: a bank in COMPUTE with no later MVM on it is READY, and the clip count can be read, held to 65,535. (spec/02_compute_in_memory_arrays.md) -/
def Obligations.ArrayLoadsAndProducts : Prop :=
  (∀ (i : Issue) (s : State), issuable s i 0 → opcOf i.word.toNat = 1 → maskArrays (amaskOf i.word.toNat) ≠ [] →
    bits i.word.toNat 28 0 = 0 → bits i.word.toNat 49 48 ≠ 3 → (∀ n ∈ maskArrays (amaskOf i.word.toNat), inputFree (seen s i) i n) →
    portOpen (seen s i) i 0 (ldinRows i.word.toNat) →
    ∃ u, exec (.ldin i) s = .next u ∧
      (u.tile i.tile.val).inElem = ((s.tile i.tile.val).loadBeats (maskArrays (amaskOf i.word.toNat)) (bits i.word.toNat 50 50)
        (bits i.word.toNat 49 48) (bits i.word.toNat 47 44) (ldinBeats s i)).inElem ∧
      (u.tile i.tile.val).inExp = ((s.tile i.tile.val).loadBeats (maskArrays (amaskOf i.word.toNat)) (bits i.word.toNat 50 50)
        (bits i.word.toNat 49 48) (bits i.word.toNat 47 44) (ldinBeats s i)).inExp) ∧
  (∀ (i : Issue) (s : State), issuable s i 0 → opcOf i.word.toNat = 2 → (mvmF i.word.toNat).arrs ≠ [] → bits i.word.toNat 14 0 = 0 →
    (mvmF i.word.toNat).out ≠ 3 → (mvmF i.word.toNat).first + (mvmF i.word.toNat).g * (mvmF i.word.toNat).size ≤ 1024 →
    (mvmF i.word.toNat).first % (mvmF i.word.toNat).size = 0 →
    (∀ n ∈ (mvmF i.word.toNat).arrs, (seen s i).mvmCode i.tile.val n i.cycle.val (mvmF i.word.toNat) (bits i.word.toNat 43 41) = none) →
    portOpen (seen s i) i 0 ((seen s i).mvmRows i.tile.val (mvmF i.word.toNat)) →
    ∃ u, exec (.mvm i) s = .next u ∧ (u.tile i.tile.val).mvmRun.has i.entry.val = true ∧
      ∀ n ∈ (mvmF i.word.toNat).arrs, u.reg (bstateF (mvmF i.word.toNat).pl) i.tile.val n = bsCompute ∧
        u.reg ARR_CLIP_LAST_COUNT i.tile.val n = 0) ∧
  (∀ (tile : Tile) (entry : Fin 4096) (s : State) (r : MvmRun), (s.tile tile.val).mvmRun.get? entry.val = some r →
    ∃ u, exec (.mvmComplete tile entry) s = .next u ∧ (u.tile tile.val).mvmRun.has entry.val = false ∧
      ∀ n ∈ (mvmF r.word).arrs, u.reg ARR_CLIP_LAST_COUNT tile.val n = min (r.clips.get n 0) 65535 ∧
        (s.reg (bstateF (mvmF r.word).pl) tile.val n = bsCompute → laterMvm s tile.val entry.val (mvmF r.word) n = false →
          u.reg (bstateF (mvmF r.word).pl) tile.val n = bsReady))

/-- Exact conversions give the exact signed dot product of a row group. For every weight format, both input formats, any rows and any weight column: if each conversion code is the ideal sum of its bit-column and slice, the inputs lie in the accepted range, and the narrow accumulator does not overflow, its value after the row group is the sum over the rows of element times signed weight (R63, for codes without conversion error). (spec/03_numerics_and_replay.md) -/
def Obligations.ConversionsGiveTheDotProduct : Prop :=
  ∀ (fmt c : Nat) (a8 : Bool) (rows : List (Nat × Int)), fmt < 4 →
    (∀ r ∈ rows, -(if a8 then 128 else 8 : Int) ≤ r.2 ∧ r.2 < (if a8 then 128 else 8 : Int)) →
    let code := fun k b g => idealSum rows a8 k (4 * g + b)
    let cs := (rows.map (fun r => weightOf fmt r.1 c)).foldl (· + ·) 0
    let v := narrowValue a8 cs (columnCodes fmt (if a8 then 4 else 2) c code)
    v.2 = false → v.1 = (rows.map (fun r => weightOf fmt r.1 c * r.2)).foldl (· + ·) 0

/-- The narrow accumulator saturates at the bound it crosses and holds there. Adding a value that takes the narrow accumulator outside -524,288 to 524,287 leaves it at the bound it crossed, marked as overflowed; once overflowed, no further value of the row group changes it; inside the range the sum is exact. (R64) -/
def Obligations.NarrowAccumulatorHoldsAtItsBound : Prop :=
  ∀ (a d : Int) (ds : List Int), -524288 ≤ a → a ≤ 524287 →
    (524287 < a + d → ds.foldl narrowAdd (narrowAdd (a, false) d) = (524287, true)) ∧
    (a + d < -524288 → ds.foldl narrowAdd (narrowAdd (a, false) d) = (-524288, true)) ∧
    (-524288 ≤ a + d → a + d ≤ 524287 → narrowAdd (a, false) d = (a + d, false))

/-- RED, RDB and WRB run when nothing refuses them. A RED whose tail stages are free leaves a beat in the first output slot of every selected tail unit. An RDB of one array on a READY bank whose rows lie in the program window writes the bank's rows to the Basin. A WRB on stream banks that nothing occupies puts them into LOADING. (spec/02_compute_in_memory_arrays.md) -/
def Obligations.ArrayOutputsAndBankWrites : Prop :=
  (∀ (i : Issue) (s : State), issuable s i 0 → opcOf i.word.toNat = 3 → maskArrays (amaskOf i.word.toNat) ≠ [] →
    bits i.word.toNat 21 0 = 0 → bits i.word.toNat 50 48 ≠ 7 → bits i.word.toNat 47 45 ≠ 7 →
    (∀ n ∈ maskArrays (amaskOf i.word.toNat), redFree (seen s i) i n) → portOpen (seen s i) i 0 (redRows i.word.toNat) →
    ∃ u, exec (.red i) s = .next u ∧ ∀ n ∈ maskArrays (amaskOf i.word.toNat), (u.tile i.tile.val).outBuf.has (8 * n) = true) ∧
  (∀ (i : Issue) (s : State) (n : Nat), issuable s i 0 → opcOf i.word.toNat = 5 → maskArrays (amaskOf i.word.toNat) = [n] →
    bits i.word.toNat 25 0 = 0 → 8 * bits i.word.toNat 49 43 + 8 * (bits i.word.toNat 42 36 + 1) ≤ 1024 → rdbFree (seen s i) i n →
    portOpen (seen s i) i 0 (bankRows i.word.toNat) →
    (∀ k ≤ bits i.word.toNat 42 36, s.inProgram i.tile.val (bits i.word.toNat 35 26 + k) = true) →
    ∃ u, exec (.rdb i) s = .next u ∧ ∀ k < 512 * (bits i.word.toNat 42 36 + 1),
      Memory.read u.mem (basinRow i.tile.val (bits i.word.toNat 35 26) + k) =
        Memory.read s.mem (bankRow i.tile.val (s.arrPos i.tile.val n) (bits i.word.toNat 50 50) (8 * bits i.word.toNat 49 43) + k)) ∧
  (∀ (i : Issue) (s : State), issuable s i 0 → opcOf i.word.toNat = 4 → maskArrays (amaskOf i.word.toNat) ≠ [] →
    bits i.word.toNat 25 0 = 0 → 8 * bits i.word.toNat 49 43 + 8 * (bits i.word.toNat 42 36 + 1) ≤ 1024 →
    (∀ n ∈ maskArrays (amaskOf i.word.toNat), wrbFree (seen s i) i n) → portOpen (seen s i) i 0 (bankRows i.word.toNat) →
    ∃ u, exec (.wrb i) s = .next u ∧ (u.tile i.tile.val).wrbRun.has i.entry.val = true ∧
      ∀ n ∈ maskArrays (amaskOf i.word.toNat), u.reg (bstateF (bits i.word.toNat 50 50)) i.tile.val n = bsLoading)

/-- WRB_COMPLETE makes the written banks READY, or EMPTY where a row does not match. The completion of a write in progress ends it in every state. For each array of the WRB: with a mismatching row among the rows written, or in array 0 with a mismatch armed for injection (R392), its bank becomes EMPTY and WB_MISMATCH is set; with none its bank becomes READY. (spec/02_compute_in_memory_arrays.md) -/
def Obligations.WrbCompleteJudgesEveryRow : Prop :=
  (∀ (tile : Tile) (entry : Fin 4096) (bad : List (Fin 8 × Fin 1024)) (s : State) (r : WrbRun),
    (s.tile tile.val).wrbRun.get? entry.val = some r →
    ∃ u, exec (.wrbComplete tile entry bad) s = .next u ∧ (u.tile tile.val).wrbRun.has entry.val = false ∧
      ∀ n ∈ maskArrays (amaskOf r.word),
        if (n = 0 ∧ s.reg (HDR_ERR_INJECT .arr) tile.val 0 = 1) ∨
            ∃ b ∈ bad, b.1.val = n ∧ 8 * bits r.word 49 43 ≤ b.2.val ∧ b.2.val < 8 * bits r.word 49 43 + 8 * (bits r.word 42 36 + 1) then
          u.reg ARR_TROUBLE_WB_MISMATCH tile.val n = 1 ∧ u.reg (bstateF (bits r.word 50 50)) tile.val n = bsEmpty
        else u.reg (bstateF (bits r.word 50 50)) tile.val n = bsReady)

/-- A WRB to a bank that is not a stream bank is refused. A well-formed WRB of which some selected array's bank has STREAM = 0 writes no bank row: every byte of every memory is unchanged, no bank changes its state and some selected array's REFUSED bit is set. With STREAM = 1 and nothing else in the way it is accepted, so that it stays in progress. (R45) -/
def Obligations.WrbNeedsAStreamBank : Prop :=
  ∀ (i : Issue) (s : State), issuable s i 0 → opcOf i.word.toNat = 4 → bits i.word.toNat 25 0 = 0 →
    8 * bits i.word.toNat 49 43 + 8 * (bits i.word.toNat 42 36 + 1) ≤ 1024 → maskArrays (amaskOf i.word.toNat) ≠ [] →
    ((∃ n ∈ maskArrays (amaskOf i.word.toNat), s.reg (streamF (bits i.word.toNat 50 50)) i.tile.val n = 0) →
      ∃ u, exec (.wrb i) s = .next u ∧ sameMemory s u ∧ (u.tile i.tile.val).wrbRun = (s.tile i.tile.val).wrbRun ∧
        (∀ n < 8, ∀ pl < 2, u.reg (bstateF pl) i.tile.val n = s.reg (bstateF pl) i.tile.val n) ∧
        ∃ n ∈ maskArrays (amaskOf i.word.toNat), u.reg ARR_TROUBLE_REFUSED i.tile.val n = 1) ∧
    ((∀ n ∈ maskArrays (amaskOf i.word.toNat), wrbFree (seen s i) i n) → portOpen (seen s i) i 0 (bankRows i.word.toNat) →
      ∃ u, exec (.wrb i) s = .next u ∧ (u.tile i.tile.val).wrbRun.has i.entry.val = true)

/-- MLD loads the vectors of its rows with their exponents. An MLD of a legal form whose rows lie in the program window, that meets no running MMUL or ATTEND and whose accesses meet no other, loads every vector it names into MA or MB: its elements are the signed bytes of its stretch of the rows, or with KIND 10 the signed nibbles of the low 128 bytes of a half row, and its exponent is the byte that lies in the exponent row. The length of a vector of KIND 01 is the free head dimension of log entry 80. (spec/04_engines_attention_sampling.md) -/
def Obligations.MldLoadsItsVectors : Prop :=
  ∀ (i : Issue) (s : State), issuable s i 1 → bits i.word.toNat 63 59 = 1 → mldBad i.word.toNat = false →
    (s.tile i.tile.val).mmulReads i.cycle.val (bits i.word.toNat 58 58) (bits i.word.toNat 39 33) (mldVecs i.word.toNat) = false → matrixFree s i →
    portOpen (seen s i) i 1 (mldRows i.word.toNat) → s.inProgram i.tile.val (mldExpRow i.word.toNat) = true →
    (∀ k ≤ bits i.word.toNat 45 40, s.inProgram i.tile.val (bits i.word.toNat 55 46 + k) = true) →
    ∃ u, exec (.mld i) s = .next u ∧ ∀ k < mldVecs i.word.toNat,
      let elems := vecElems (decide (bits i.word.toNat 57 56 = 2))
        (Memory.readBytes s.mem (basinRow i.tile.val (bits i.word.toNat 55 46) + mldDim i.word.toNat * k) (mldDim i.word.toNat))
      let e8 := (Memory.read s.mem (basinRow i.tile.val (mldExpRow i.word.toNat) + mldExpByte i.word.toNat + k)).toNat
      if bits i.word.toNat 58 58 = 0 then
        (u.tile i.tile.val).ma.get (bits i.word.toNat 39 33 + k) [] = elems ∧ (u.tile i.tile.val).maExp.get (bits i.word.toNat 39 33 + k) 0 = e8
      else
        (u.tile i.tile.val).mb.get (bits i.word.toNat 39 33 + k) [] = elems ∧ (u.tile i.tile.val).mbExp.get (bits i.word.toNat 39 33 + k) 0 = e8

/-- MMUL and MOUT run when nothing refuses them. An MMUL within its ranges on a free engine occupies it for the cycles of R86 and leaves in each accumulator, added to the old value with ACC = 1, the dot product of its two vectors with TRB = 0, and with TRB = 1 the sum over the vectors of B, each shifted to the largest of their exponents; the accumulator keeps the two exponents. A sum outside the ACC32 range is held at the bound it crosses, which is the model's choice (log entry 79). An MOUT leaves the accumulators as FP32 words in vector registers, or in Basin rows of the program window. (spec/04_engines_attention_sampling.md) -/
def Obligations.MatrixEngineCommands : Prop :=
  (∀ (i : Issue) (s : State), issuable s i 1 → bits i.word.toNat 63 59 = 2 → bits i.word.toNat 16 0 = 0 → (mmF i.word.toNat).bad = false →
    (s.tile i.tile.val).mxUntil ≤ i.cycle.val → matrixFree s i →
    let f := mmF i.word.toNat
    let x := s.tile i.tile.val
    let emax := ((upTo f.k).map (fun j => x.mbExp.get (f.b + j) 0)).foldl max 0
    ∃ u, exec (.mmul i) s = .next u ∧
      (u.tile i.tile.val).mxUntil = i.cycle.val + mmCycles f.m f.n f.k (if f.q4 then 16 else 8) + 6 ∧
      ∀ a < f.m, ∀ b < f.n,
        (u.tile i.tile.val).mc.get (f.c + (a * f.n + b)) 0 = satSym 2147483647
          ((if f.acc then x.mc.get (f.c + (a * f.n + b)) 0 else 0) +
            (if f.trb then (upTo f.k).foldl (fun sum j => sum + (x.ma.get (f.a + a) []).getD j 0 *
                (alignVec emax (x.mbExp.get (f.b + j) 0) (x.mb.get (f.b + j) [])).getD b 0) 0
              else dotK f.k (x.ma.get (f.a + a) []) (x.mb.get (f.b + b) []))) ∧
        (u.tile i.tile.val).mcExp.get (f.c + (a * f.n + b)) (0, 0) =
          (x.maExp.get (f.a + a) 0, if f.trb then emax else x.mbExp.get (f.b + b) 0)) ∧
  (∀ (i : Issue) (s : State), issuable s i 1 → bits i.word.toNat 63 59 = 3 → bits i.word.toNat 20 0 = 0 →
    bits i.word.toNat 42 32 + (bits i.word.toNat 31 21 + 1) ≤ 2048 → (s.tile i.tile.val).mxUntil ≤ i.cycle.val → matrixFree s i →
    portOpen (seen s i) i 1 (moutRows i.word.toNat) →
    (bitAt i.word.toNat 58 = true → bits i.word.toNat 47 43 + ceilDiv (bits i.word.toNat 31 21 + 1) 32 ≤ 32) →
    (bitAt i.word.toNat 58 = false → ∀ k < ceilDiv (ceilDiv (bits i.word.toNat 31 21 + 1) 16) 8,
      s.inProgram i.tile.val (bits i.word.toNat 57 48 + k) = true) →
    ∃ u, exec (.mout i) s = .next u ∧ ∀ k < bits i.word.toNat 31 21 + 1,
      if bitAt i.word.toNat 58 then
        ((u.tile i.tile.val).vr (bits i.word.toNat 47 43 + k / 32)).getD (k % 32) 0 =
          ((s.tile i.tile.val).mcValue (bits i.word.toNat 42 32 + k)).1 % 2 ^ 32
      else Memory.readLE u.mem (basinRow i.tile.val (bits i.word.toNat 57 48) + 4 * k) 4 =
          ((s.tile i.tile.val).mcValue (bits i.word.toNat 42 32 + k)).1 % 2 ^ 32)

/-- Lane arithmetic of the vector engine writes its register lane by lane and no other. VADD, VSUB, VMUL, VFMA, VMAX, VMIN, VEXP2, VRCP, VRSQ, VLOG2 and VSEL, with a TYPE that is not reserved and no busy engine or pending register, each leave in VD the lanes of Table 4-8 for TYPE (FP32, BF16 or INT32), mark VD poisoned exactly when a source register is, and leave every other register, every byte of memory and everything beside the tile as it was. (spec/04_engines_attention_sampling.md) -/
def Obligations.VectorLaneArithmetic : Prop :=
  ∀ (i : Issue) (s : State) (op : LaneOp), issuable s i 2 → bits i.word.toNat 63 58 = op.opc → vTy i.word.toNat ≠ 3 →
    vectorFree s i ((op.sources i.word.toNat) ++ [vD i.word.toNat]) →
    ∃ u, exec (op.command i) s = .next u ∧
      (u.tile i.tile.val).vr (vD i.word.toNat) = (lanes3 (vTy i.word.toNat) op.float op.int ((s.tile i.tile.val).vr (vA i.word.toNat))
        ((s.tile i.tile.val).vr (vB i.word.toNat)) ((s.tile i.tile.val).vr (vC i.word.toNat))).map (· % 2 ^ 32) ∧
      (u.tile i.tile.val).vPoison.mem (vD i.word.toNat) = (op.sources i.word.toNat).any (fun r => (s.tile i.tile.val).vPoison.mem r) ∧
      (∀ r, r ≠ vD i.word.toNat → (u.tile i.tile.val).vr r = (s.tile i.tile.val).vr r ∧
        (u.tile i.tile.val).vPoison.mem r = (s.tile i.tile.val).vPoison.mem r) ∧
      sameMemory s u ∧ besideTiles s u

/-- VBC, VRED, VCVT and VROT run when nothing refuses them. With no busy engine or pending register: VBC of FP32 or INT32 fills every lane with its immediate; VRED leaves in every lane the reduction of its source; VROT leaves the rotation of its source by the cosines and sines of VB and VC; VCVT with a defined conversion leaves the converted words in its one, two or four registers. (spec/04_engines_attention_sampling.md) -/
def Obligations.VectorWholeRegisterCommands : Prop :=
  (∀ (i : Issue) (s : State), issuable s i 2 → bits i.word.toNat 63 58 = 0x0F → vTy i.word.toNat ≠ 3 → vectorFree s i [vD i.word.toNat] →
    ∃ u, exec (.vbc i) s = .next u ∧ ∀ j < 32, ((u.tile i.tile.val).vr (vD i.word.toNat)).getD j 0 =
      (if vTy i.word.toNat = 1 then bits (vImm i.word.toNat) 15 0 * 65537 else bits (vImm i.word.toNat) 31 0)) ∧
  (∀ (i : Issue) (s : State), issuable s i 2 → bits i.word.toNat 63 58 = 0x0D → vTy i.word.toNat ≠ 3 →
    vectorFree s i [vA i.word.toNat, vD i.word.toNat] →
    ∃ u, exec (.vred i) s = .next u ∧ (u.tile i.tile.val).vr (vD i.word.toNat) =
      (reduceLanes (vTy i.word.toNat) (bitAt (vImm i.word.toNat) 0) ((s.tile i.tile.val).vr (vA i.word.toNat))).map (· % 2 ^ 32)) ∧
  (∀ (i : Issue) (s : State), issuable s i 2 → bits i.word.toNat 63 58 = 0x12 → vTy i.word.toNat ≠ 3 →
    vectorFree s i [vA i.word.toNat, vB i.word.toNat, vC i.word.toNat, vD i.word.toNat] →
    ∃ u, exec (.vrot i) s = .next u ∧ (u.tile i.tile.val).vr (vD i.word.toNat) =
      (rotLanes (vTy i.word.toNat) (bitAt (vImm i.word.toNat) 0) ((s.tile i.tile.val).vr (vA i.word.toNat))
        ((s.tile i.tile.val).vr (vB i.word.toNat)) ((s.tile i.tile.val).vr (vC i.word.toNat))).map (· % 2 ^ 32)) ∧
  (∀ (i : Issue) (s : State), issuable s i 2 → bits i.word.toNat 63 58 = 0x10 → vTy i.word.toNat ≠ 3 → vImm i.word.toNat % 16 < 7 →
    (∀ r ∈ cvtDst i.word.toNat, r < 32) → vectorFree s i (cvtSrc i.word.toNat ++ cvtDst i.word.toNat) →
    ∃ u, exec (.vcvt i) s = .next u ∧ ∀ g < (cvtDst i.word.toNat).length,
      (u.tile i.tile.val).vr (vD i.word.toNat + g) =
        (((((s.tile i.tile.val).cvt i.word.toNat).1).drop (32 * g)).take 32).map (· % 2 ^ 32))

/-- VLD, VST and VQNT move register words to and from the Basin. A VLD of a row of the program window at a free port leaves in VD the 32 words of its quarter row. A VST leaves the register's words in its quarter row and every byte outside the quarter unchanged. A VQNT on free registers, with its retention rows in the program window, leaves its 256 input words in the two retention rows. (spec/04_engines_attention_sampling.md, spec/05_basin_scratchpad.md) -/
def Obligations.VectorLoadsAndStores : Prop :=
  (∀ (i : Issue) (s : State), issuable s i 2 → bits i.word.toNat 63 58 = 0x01 → vTy i.word.toNat ≠ 3 → vectorFree s i [vD i.word.toNat] →
    (s.tile i.tile.val).portUse.has i.cycle.val = false → s.inProgram i.tile.val (bits (vImm i.word.toNat) 11 2) = true →
    ∃ u, exec (.vld i) s = .next u ∧ sameMemory s u ∧ ∀ j < 32, ((u.tile i.tile.val).vr (vD i.word.toNat)).getD j 0 =
      Memory.readLE s.mem (basinRow i.tile.val (bits (vImm i.word.toNat) 11 2) + 128 * (vImm i.word.toNat % 4) + 4 * j) 4) ∧
  (∀ (i : Issue) (s : State), issuable s i 2 → bits i.word.toNat 63 58 = 0x02 → vTy i.word.toNat ≠ 3 → vectorFree s i [vA i.word.toNat] →
    (s.tile i.tile.val).portUse.has i.cycle.val = false → s.inProgram i.tile.val (bits (vImm i.word.toNat) 11 2) = true →
    ∃ u, exec (.vst i) s = .next u ∧
      (∀ j < 32, Memory.readLE u.mem (basinRow i.tile.val (bits (vImm i.word.toNat) 11 2) + 128 * (vImm i.word.toNat % 4) + 4 * j) 4 =
        ((s.tile i.tile.val).vr (vA i.word.toNat)).getD j 0) ∧
      ∀ a, (a < basinRow i.tile.val (bits (vImm i.word.toNat) 11 2) + 128 * (vImm i.word.toNat % 4) ∨
          basinRow i.tile.val (bits (vImm i.word.toNat) 11 2) + 128 * (vImm i.word.toNat % 4) + 128 ≤ a) →
        Memory.read u.mem a = Memory.read s.mem a) ∧
  (∀ (i : Issue) (s : State), issuable s i 2 → bits i.word.toNat 63 58 = 0x11 → vD i.word.toNat % 8 = 0 → vTy i.word.toNat = 0 →
    bits i.word.toNat 5 0 = 0 → vectorFree s i ((upTo 8).map (· + vD i.word.toNat)) →
    portOpen (seen s i) i 2 (vqntRows i.word.toNat) →
    s.inProgram i.tile.val (bits i.word.toNat 15 6) = true → s.inProgram i.tile.val (bits i.word.toNat 15 6 + 1) = true →
    ∃ u, exec (.vqnt i) s = .next u ∧ ∀ j < 256,
      Memory.readLE u.mem (basinRow i.tile.val (bits i.word.toNat 15 6) + 4 * j) 4 =
        ((s.tile i.tile.val).vr (vD i.word.toNat + j / 32)).getD (j % 32) 0)

/-- ATTEND, SAMPLE and CMRG run for their fixed time when nothing refuses them. An ATTEND whose descriptor is legal, on free engines, occupies the vector engine, and the matrix engine with it, for the duration that its descriptor fixes. A SAMPLE with a legal descriptor occupies the vector engine for its own. A CMRG of a legal form on a free Confluence unit occupies it for LDELAY + NBEAT cycles and its latency. (spec/04_engines_attention_sampling.md) -/
def Obligations.FusedCommandsTakeTheirFixedTime : Prop :=
  (∀ (i : Issue) (s : State), issuable s i 2 → bits i.word.toNat 63 58 = 0x20 → bits i.word.toNat 43 0 = 0 → s.fusedBusy i true = false →
    (seen s i).inProgram i.tile.val (bits i.word.toNat 57 48) = true → (attDesc ((seen s i).descNow i.tile.val i.word.toNat)).bad = false →
    portOpen (seen s i) i 2 ((seen s i).attRows i.tile.val i.word.toNat) →
    ∃ u, exec (.attend i) s = .next u ∧ (u.tile i.tile.val).fusedMx = true ∧
      (u.tile i.tile.val).fusedUntil = i.cycle.val + (attDesc ((seen s i).descNow i.tile.val i.word.toNat)).t ∧
      (u.tile i.tile.val).mxUntil = i.cycle.val + (attDesc ((seen s i).descNow i.tile.val i.word.toNat)).t) ∧
  (∀ (i : Issue) (s : State), issuable s i 2 → bits i.word.toNat 63 58 = 0x21 → bits i.word.toNat 43 0 = 0 → s.fusedBusy i false = false →
    (seen s i).inProgram i.tile.val (bits i.word.toNat 57 48) = true → (smpDesc ((seen s i).descNow i.tile.val i.word.toNat)).bad = false →
    portOpen (seen s i) i 2 ((seen s i).smpRows i.tile.val i.word.toNat) →
    ∃ u, exec (.sample i) s = .next u ∧ (u.tile i.tile.val).fusedMx = false ∧
      (u.tile i.tile.val).fusedUntil = i.cycle.val + (smpDesc ((seen s i).descNow i.tile.val i.word.toNat)).t) ∧
  (∀ (i : Issue) (s : State), issuable s i 3 → bits i.word.toNat 63 59 = 1 → bits i.word.toNat 3 0 = 0 → (cmrgF i.word.toNat).ina ≠ 7 →
    (cmrgF i.word.toNat).inb ≠ 7 → (cmrgF i.word.toNat).loc ≠ 3 →
    ((cmrgF i.word.toNat).root = true → (cmrgF i.word.toNat).kind = 0 → (cmrgF i.word.toNat).ofmt ≠ 3) →
    (s.tile i.tile.val).cmrgUntil ≤ i.cycle.val → portOpen (seen s i) i 3 ((seen s i).cmrgRows i.tile.val i.word.toNat) →
    ∃ u, exec (.cmrg i) s = .next u ∧ (u.tile i.tile.val).cmrgUntil =
      i.cycle.val + (cmrgF i.word.toNat).ldelay + (cmrgF i.word.toNat).nb + (if (cmrgF i.word.toNat).root then 12 else 8))

/-- A Clove window opens, and passes begin and are solved. A CLV of a legal form in a step of the tile's Clove phase, on arrays whose converters and windows are free, opens a window of its length on each. CAL_PASS_REQ, where the path may write the tile's page, leaves a pass in progress on every position it names, STALE where none was. A diode reading further than TRIG from an array's T_cal does the same and is held. CAL_SOLVE_DONE of a probed pass makes it solved, with STATE 4 (shadow write). (spec/12_calibration.md, spec/07_compiler_contract.md) -/
def Obligations.CalibrationPassCommands : Prop :=
  (∀ (i : Issue) (s : State), issuable s i 0 → opcOf i.word.toNat = 6 → maskArrays (amaskOf i.word.toNat) ≠ [] → bits i.word.toNat 34 0 = 0 →
    bits i.word.toNat 50 35 ≠ 0 → (seen s i).cloveOpen i.tile.val = true → (∀ n ∈ maskArrays (amaskOf i.word.toNat), cloveFree (seen s i) i n) →
    ∃ u, exec (.clv i) s = .next u ∧ ∀ n ∈ maskArrays (amaskOf i.word.toNat),
      (u.tile i.tile.val).clvWin.get? n = some ⟨i.cycle.val, i.cycle.val + bits i.word.toNat 50 35, 0, 0⟩) ∧
  (∀ (path : Path) (t : Tile) (mask : Fin 512) (s : State), tileOpen s path t.val = true →
    ∃ u, exec (.calPassReq path t mask) s = .next u ∧ ∀ n < 9, bitAt mask.val n = true →
      (u.passAt t.val n).isSome = true ∧ (s.passAt t.val n = none → u.reg CAL_ASTAT_STALE t.val n = 1)) ∧
  (∀ (t : Tile) (reading : Fin 1024) (s : State), s.diodeStale t.val = false →
    ∃ u, exec (.calTemperatureTrigger t reading) s = .next u ∧ u.thermal.diode.get? t.val = some reading.val ∧
      ∀ n < 9, (s.servesArr t.val n).isSome = true → s.cal.epoch ≠ 0 → s.g CAL_CFG_TRIG 0 < distance reading.val (s.tcalOf t.val n) →
        (u.passAt t.val n).isSome = true ∧ (s.passAt t.val n = none → u.reg CAL_ASTAT_STALE t.val n = 1)) ∧
  (∀ (t : Tile) (pos : Fin 9) (s : State) (p : PassSt) (n : Nat), s.passAt t.val pos.val = some p → p.stage = 1 → s.servesArr t.val pos.val = some n →
    ∃ u q, exec (.calSolveDone t pos) s = .next u ∧ u.passAt t.val pos.val = some q ∧ q.stage = 2 ∧ u.reg CAL_ASTAT_STATE t.val pos.val = 4)

/-- Snapshots, restores and the calibration of monitors. SNAP leaves the trim image of the tile in its place, with its CRC, and sets SNAP_DONE. A RESTORE of a tile whose partition is idle reports in RFAIL the first whole-image check that fails; if every check of the image and of its bank records passes, RFAIL is 0, every bank is calibrated and no position is stale. Of a tile that is not idle it is refused and changes no trim. A monitor's calibration begins if the state allows it (Table 12-5) and none of its kind runs in its scope, and its end with trims in range puts them in force. (spec/12_calibration.md) -/
def Obligations.TrimImagesAndMonitors : Prop :=
  (∀ (path : Path) (t : Tile) (s : State), tileOpen s path t.val = true →
    (∃ u, exec (.snap path t) s = .next u ∧ u.reg CAL_STATUS_SNAP_DONE t.val 0 = 1 ∧
      Memory.readBytes u.mem (trimImage t.val) imageSize = s.trimImageBytes t.val (crc32c (s.trimImageBytes t.val 0))) ∧
    (s.busyTile t.val = false → ∃ u, exec (.restore path t) s = .next u ∧
      (s.imageFail t.val (Memory.readBytes s.mem (trimImage t.val) imageSize) ≠ 0 →
        u.reg CAL_STATUS_RFAIL t.val 0 = s.imageFail t.val (Memory.readBytes s.mem (trimImage t.val) imageSize)) ∧
      (s.imageFail t.val (Memory.readBytes s.mem (trimImage t.val) imageSize) = 0 →
        (∀ n < 9, ∀ pl < 2, s.bankFail t.val n pl (((Memory.readBytes s.mem (trimImage t.val) imageSize).drop (64 + 1072 * (2 * n + pl))).take 1072) = 0) →
        u.reg CAL_STATUS_RFAIL t.val 0 = 0 ∧
          ∀ n < 9, u.reg CAL_ASTAT_STALE t.val n = 0 ∧ ∀ pl < 2, u.calibrated t.val n pl = true)) ∧
    (s.busyTile t.val = true → ∃ u, exec (.restore path t) s = .next u ∧ u.reg (HDR_WRITE_REFUSED .cal) t.val 0 = 1 ∧ u.cal = s.cal)) ∧
  (∀ (mon : Fin 4) (place : Tile) (ofs gain : Int) (s : State),
    (s.monMay mon.val place.val = true → s.cal.monBusy.entries.any (fun e => e.1 / 2 ^ 17 == mon.val && monScope mon.val (e.1 % 2 ^ 17) == monScope mon.val place.val) = false →
      ∃ u, exec (.monitorCalibration mon place false ofs gain) s = .next u ∧ u.cal.monBusy.mem (mon.val * 2 ^ 17 + place.val) = true) ∧
    (s.cal.monBusy.mem (mon.val * 2 ^ 17 + place.val) = true →
      ∃ u, exec (.monitorCalibration mon place true ofs gain) s = .next u ∧ u.cal.monBusy.mem (mon.val * 2 ^ 17 + place.val) = false ∧
        if monOk mon.val ofs gain then (u.cal.monTrim.has (mon.val * 2 ^ 17 + place.val) = true)
        else u.cal.monTrim = s.cal.monTrim ∧ (u.log.get? s.logTail).map (·.code) = some 0xB007))

/-- Sluice slots issue and miss. A window-mode slot of the program in force, on a live tile, whose rows are ready within its wait runs its command as a command of its unit, with the slot marked done. A slot whose rows are not ready at its end puts MISS into the tile's report and status, marks the slot done, and counts from then on (or from its earlier miss) as waiting. (spec/05_basin_scratchpad.md) -/
def Obligations.SluiceSlotsIssueAndMiss : Prop :=
  (∀ (t : Tile) (e : Fin 4096) (c : Fin 65536) (s : State) (f : Issue → State → Host.Outcome State Fault Refusal),
    s.tileLive t.val = true → (s.sched t.val e.val).mode = 1 → (s.sched t.val e.val).off ≤ c.val →
    c.val ≤ (s.sched t.val e.val).off + (s.sched t.val e.val).wait → (s.schedInForce t.val).contains e.val = true →
    (s.tile t.val).slotDone.mem e.val = false → s.rowsReady t.val (s.sched t.val e.val).unit (s.sched t.val e.val).cmd = true →
    unitMeaning (s.sched t.val e.val).unit (s.sched t.val e.val).cmd = some f →
    ∃ u, exec (.sluiceSlotIssue t e c) s = .next u ∧
      f ⟨t, c, e, BitVec.ofNat 64 (s.sched t.val e.val).cmd⟩ (slotTaken s t.val e.val) = .next u) ∧
  (∀ (t : Tile) (e : Fin 4096) (s : State), s.tileLive t.val = true → (s.sched t.val e.val).mode = 1 →
    (s.schedInForce t.val).contains e.val = true → (s.tile t.val).slotDone.mem e.val = false →
    s.rowsReady t.val (s.sched t.val e.val).unit (s.sched t.val e.val).cmd = false →
    ∃ u, exec (.sluiceMiss t e) s = .next u ∧ (u.tile t.val).report.miss = true ∧ (u.tile t.val).slotDone.mem e.val = true ∧
      u.reg BSN_STATUS_SLUICE_MISS t.val 0 = 1 ∧ (u.tile t.val).waitStart.has e.val = true)

/-- A wait for tags of TIMEOUT_US stops the partition. A slot of a running partition that has waited TIMEOUT_US for its rows sets SLUICE_TIMEOUT; a partition held at a boundary stops with STOPR 3, another stops at its next boundary. (spec/05_basin_scratchpad.md) -/
def Obligations.TagTimeoutsStopTheirPartition : Prop :=
  (∀ (t : Tile) (e : Fin 4096) (s : State) (p since r : Nat), s.owner t.val = some p → (s.tile t.val).waitStart.get? e.val = some since →
    s.unreadyRow t.val (s.sched t.val e.val).unit (s.sched t.val e.val).cmd = some r → s.flag CSD_PCFG_RUN 0 p = true →
    (s.tile t.val).timedOut = false → since + 1000 * s.reg BSN_SLUICE_CTRL_TIMEOUT_US t.val 0 ≤ s.ptp →
    ∃ u, exec (.tagTimeout t e) s = .next u ∧ u.reg BSN_STATUS_SLUICE_TIMEOUT t.val 0 = 1 ∧
      ((s.part p).phase ≠ .ready → (u.part p).timedOut = true ∧ u.g LD_PSTATE_STOPR p = s.g LD_PSTATE_STOPR p) ∧
      ((s.part p).phase = .ready → u.g LD_PSTATE_STOPR p = 3 ∧ u.flag CSD_PCFG_RUN 0 p = false))

/-- Deliveries move a FULL outbound row into an EMPTY inbound row. DELIVERY_SEND of a FULL outbound row with no packet of it under way sends a packet of its table entry with the CRC of its data. A packet with a good CRC that its destination allows is written into an EMPTY inbound row, which becomes FULL, at its arrival or at a retry; at a row that is not EMPTY it waits from that time on, and changes neither tag nor bytes. The acknowledgement, at a source whose slice is powered, removes the packet and makes the outbound row EMPTY. A packet whose row stays not EMPTY for TIMEOUT_US is discarded with code 0x1032 and its source is told. (spec/05_basin_scratchpad.md, spec/06_fabric_and_cascade.md) -/
def Obligations.DeliveriesMoveRows : Prop :=
  (∀ (t : Tile) (r : Fin 1024) (s : State) (p : Nat), s.owner t.val = some p → s.sliceUp t.val = true → s.outWin t.val r.val = true → s.tag t.val r.val = 1 →
    (∀ k ∈ s.flight, ¬ (k.src = t.val ∧ k.row = r.val)) →
    ∃ u k, exec (.deliverySend t r) s = .next u ∧ u.flight = s.flight ++ [k] ∧ k.src = t.val ∧ k.row = r.val ∧ k.part = p ∧
      k.kind = (s.dlv t.val r.val).kind ∧ k.drow = (s.dlv t.val r.val).drow ∧ k.crc = crc32c k.data ∧ k.done = false) ∧
  (∀ (n : Nat) (s : State) (k : Packet), s.flight[n]? = some k → k.done = false → k.crc = crc32c k.data → k.kind = 1 → s.dlvAllowed k = true →
    (s.tag k.dst k.drow = 0 → s.sliceUp k.dst = true → k.data.length = 512 →
      ∃ u, exec (.deliveryArrive n true) s = .next u ∧ u.tag k.dst k.drow = 1 ∧ Memory.readBytes u.mem (basinRow k.dst k.drow) 512 = k.data) ∧
    (s.tag k.dst k.drow ≠ 0 →
      ∃ u, exec (.deliveryArrive n true) s = .next u ∧ u.tag k.dst k.drow = s.tag k.dst k.drow ∧ sameMemory s u ∧
        u.flight = s.flight.set n { k with since := k.since.or (some s.ptp) }) ∧
    (k.since.isSome = true → s.tag k.dst k.drow = 0 → s.sliceUp k.dst = true → k.data.length = 512 →
      ∃ u, exec (.deliveryBusyRetry n) s = .next u ∧ u.tag k.dst k.drow = 1 ∧ Memory.readBytes u.mem (basinRow k.dst k.drow) 512 = k.data)) ∧
  (∀ (n : Nat) (s : State) (k : Packet), s.flight[n]? = some k → k.done = true → (57344 ≤ k.src ∨ s.sliceUp k.src = true) →
    ∃ u, exec (.deliveryAck n) s = .next u ∧ u.flight = s.flight.eraseIdx n ∧
      (s.outWin k.src k.row = true → s.tag k.src k.row = 1 → u.tag k.src k.row = 0)) ∧
  (∀ (n : Nat) (s : State) (k : Packet) (since : Nat), s.flight[n]? = some k → k.done = false → k.remote = false →
    k.since = some since → since + 1000 * s.reg BSN_SLUICE_CTRL_TIMEOUT_US k.dst 0 ≤ s.ptp →
    ∃ u, exec (.deliveryTimeout n) s = .next u ∧ u.flight = s.flight.eraseIdx n ∧
      (u.log.get? s.logTail).map (·.code) = some 0x1032)

/-- Restore rows are copied, rows are scrubbed and weak rows are spared. RESTORE_ROW_COPY of a FULL restore row with a page waiting leaves the row's bytes in the page row and the row EMPTY. SCRUB_ROW with the scrubber enabled goes on to the next of the 1,024 rows. BASIN_ROW_SPARE of a held tile with a weak program row and a spare row left puts that row into a spare. (spec/05_basin_scratchpad.md, spec/09_serving_requests.md, spec/13_bringup_reset_repair.md) -/
def Obligations.BasinUpkeep : Prop :=
  (∀ (t : Tile) (r : Fin 1024) (s : State) (d : Nat), (s.tile t.val).restoreDst.get? r.val = some d → s.sliceUp t.val = true →
    s.restoreRow t.val r.val = true → s.tag t.val r.val = 1 →
    ∃ u, exec (.restoreRowCopy t r) s = .next u ∧ u.tag t.val r.val = 0 ∧
      Memory.readBytes u.mem (pageAddr (d / 64) + 512 * (d % 64)) 512 = Memory.readBytes s.mem (basinRow t.val r.val) 512) ∧
  (∀ (t : Tile) (upsets : List (Fin 1024 × Fin 64 × Fin 72)) (s : State), s.flag BSN_SCRUB_CTRL_EN t.val 0 = true → s.sliceUp t.val = true →
    ∃ u, exec (.scrubRow t upsets) s = .next u ∧ (u.tile t.val).scrubRow = ((s.tile t.val).scrubRow + 1) % 1024) ∧
  (∀ (t : Tile) (s : State) (r : Nat), (s.tile t.val).weakWait.find? (fun r => s.inProgram t.val r) = some r → s.sliceUp t.val = true →
    (∀ p, s.owner t.val = some p → (s.part p).phase = .ready ∨ (s.part p).phase = .stopped) → (s.tile t.val).sparedRows.length < 4 →
    ∃ u, exec (.basinRowSpare t) s = .next u ∧ (u.tile t.val).sparedRows = (s.tile t.val).sparedRows ++ [r] ∧ r ∉ (u.tile t.val).weakWait)

/-- Host reads and writes of the Basin and of the Cistern. A read of an active tile's page that exists and that the path reaches returns the bytes as they stand; a write of one whole row into such a page of a partition that does not run leaves its bytes there. A read of the Cistern within an allotment returns its bytes, marked poisoned where a failed stack held one; a write by the physical function in an open session, of an allotment whose partition is not running, stopping or writing and which has no byte in a failed stack, leaves its bytes there. (spec/05_basin_scratchpad.md, spec/15_register_pages.md) -/
def Obligations.HostReachesBasinAndCistern : Prop :=
  (∀ (path : Path) (addr : Fin 34359738368) (len : Fin 513) (s : State), path ≠ .mgmt → s.pathUp path = true →
    s.basinOffset path addr.val / 32768 < 917504 → s.reaches path (s.basinOffset path addr.val / 32768) = true →
    s.sliceUp (s.basinOffset path addr.val / 32768 / 16) = true →
    (∃ u ep, exec (.basinHostAccess path addr len none) s = .next u ∧ sameMemory s u ∧
      u.out.head? = some (.readData (Memory.readBytes s.mem (s.basinOffset path addr.val)
        (min len.val (512 - s.basinOffset path addr.val % 512))) ep)) ∧
    (∀ d : List Byte, d.length = 512 → s.negotiated path = true → s.basinOffset path addr.val % 512 = 0 →
      (∀ q, s.pageOwner (s.basinOffset path addr.val / 32768) = some q → s.flag CSD_PCFG_RUN 0 q = false) →
      ∃ u, exec (.basinHostAccess path addr len (some d)) s = .next u ∧
        Memory.readBytes u.mem (s.basinOffset path addr.val) 512 = d)) ∧
  (∀ (path : Path) (addr : Fin 34359738368) (len : Fin 4097) (s : State) (a q : Nat), path ≠ .mgmt → s.pathUp path = true →
    s.cistTarget path addr.val len.val = some (a, some q) →
    ∃ u, exec (.cisternHostAccess path addr len none) s = .next u ∧
      u.out = .readData (Memory.readBytes s.mem a len.val) (s.lostSpan (a - cisternBase q) len.val) :: s.out) ∧
  (∀ (addr : Fin 34359738368) (len : Fin 4097) (d : List Byte) (s : State) (a q : Nat), s.pathUp .pf = true → s.negotiated .pf = true →
    s.cistTarget .pf addr.val d.length = some (a, some q) → s.openSession .pf = true →
    s.pstate q ≠ psRunning → s.pstate q ≠ psStopping → s.pstate q ≠ psWriting → s.lostSpan (a - cisternBase q) d.length = false →
    ∃ u, exec (.cisternHostAccess .pf addr len (some d)) s = .next u ∧ Memory.readBytes u.mem a d.length = d)

/-- Routers, express stations and crossing buffers move beats. A route entry in force that is due, whose parity is right and whose input is not reserved drives each of its output ports in each cycle of its run. A beat with a good CRC that reaches its partition's tile and that an entry in force forwards or consumes is taken at its port and cycle. A station passes a good beat of its segment's owner, from the lane or from an edge tile, to the next station of its region 3 cycles on, or to the crossing buffer of a region edge, or drops it to the edge tile, as its table says; a lane is named by the station upstream of it (the model's reading, log entry 91). A crossing buffer at a tile or of a lane releases the beat launched in a cycle at that cycle + 8 + XSLACK of its owner; if the beat has not reached a tile's buffer, the tile's report carries SLIP. (spec/06_fabric_and_cascade.md) -/
def Obligations.RoutersStationsAndCrossings : Prop :=
  (∀ (t : Tile) (e : Fin 2048) (s : State), s.routeDue t.val e.val = true → s.noTransit t.val = false → (s.tile t.val).rtrBad.mem e.val = false →
    (s.route t.val e.val).inp ≠ 7 → ((s.route t.val e.val).inp = 0 → (s.route t.val e.val).lsrc ≠ 3) →
    ∃ u, exec (.routeEntry t e true) s = .next u ∧ ∀ p, 1 ≤ p → p ≤ 6 → bitAt (s.route t.val e.val).outmask p = true →
      ∀ b < (s.route t.val e.val).beats, (u.tile t.val).driven.has (p * 65536 + ((s.route t.val e.val).off + b)) = true) ∧
  (∀ (t : Tile) (port : Fin 7) (c : Fin 131072) (s : State) (b : LinkBeat), s.links.get? ((t.val * 8 + port.val) * 2 ^ 17 + c.val) = some b →
    s.noTransit t.val = false → s.owner t.val = some b.part → b.crcBad = false →
    (s.forwarded t.val port.val c.val || s.consumed t.val port.val c.val) = true →
    ∃ u, exec (.beatArrival t port c true) s = .next u ∧ u.links.has ((t.val * 8 + port.val) * 2 ^ 17 + c.val) = false ∧
      (u.tile t.val).arrived.get? (port.val * 65536 + c.val) = some b.beat) ∧
  (∀ (site : Site) (axis dir : Fin 2) (lane : Fin 104) (c : Fin 131072) (s : State) (b : LinkBeat) (added : Bool),
    s.lanes.has (laneOf site.val axis.val dir.val lane.val * 2 ^ 17 + c.val) = !added →
    s.lanes.get? ((if added then addOf (laneOf site.val axis.val dir.val lane.val) else laneOf site.val axis.val dir.val lane.val) * 2 ^ 17 + c.val) = some b →
    s.power.transitFault.mem site.val = false → b.crcBad = false →
    (∀ n, (added = true ∨ s.express.get (laneOf site.val axis.val dir.val lane.val * 2 ^ 17 + c.val) 0 = 1) →
      s.laneOwner.get? (laneOf site.val axis.val dir.val lane.val) = some b.part → nextStation site.val axis.val dir.val = some n →
      (regionOfSite n = regionOfSite site.val → s.lanes.has (laneOf n axis.val dir.val lane.val * 2 ^ 17 + (c.val + 3)) = false →
        ∃ u, exec (.expressStationPass site axis dir lane c true) s = .next u ∧
          u.lanes.get? (laneOf n axis.val dir.val lane.val * 2 ^ 17 + (c.val + 3)) = some b) ∧
      (regionOfSite n ≠ regionOfSite site.val → (s.cross.get (2 ^ 20 + laneOf n axis.val dir.val lane.val) []).any (fun e => e.1 == c.val) = false →
        (s.cross.get (2 ^ 20 + laneOf n axis.val dir.val lane.val) []).length < 128 →
        ∃ u, exec (.expressStationPass site axis dir lane c true) s = .next u ∧
          u.cross.get (2 ^ 20 + laneOf n axis.val dir.val lane.val) [] =
            s.cross.get (2 ^ 20 + laneOf n axis.val dir.val lane.val) [] ++ [(c.val, b)])) ∧
    (∀ k, added = false → s.express.get (laneOf site.val axis.val dir.val lane.val * 2 ^ 17 + c.val) 0 = k + 2 →
      s.inSegment (laneOf site.val axis.val dir.val lane.val) = some b.part →
      s.links.has (((edgeTile site.val axis.val k).1 * 8 + (edgeTile site.val axis.val k).2) * 2 ^ 17 + (c.val + 3)) = false →
      ∃ u, exec (.expressStationPass site axis dir lane c true) s = .next u ∧
        u.links.get? (((edgeTile site.val axis.val k).1 * 8 + (edgeTile site.val axis.val k).2) * 2 ^ 17 + (c.val + 3)) = some b)) ∧
  (∀ (place : Fin 524288) (launch edges : Fin 65536) (s : State) (p : Nat), s.owner (place.val / 8) = some p →
    (∀ b, ((s.cross.get place.val []).find? (fun e => e.1 == launch.val)).map (·.2) = some b →
      s.links.has (place.val * 2 ^ 17 + (launch.val + 8 + s.g CSD_PCFG_XSLACK p)) = false →
      ∃ u, exec (.crossingRelease false place launch true edges) s = .next u ∧
        u.links.get? (place.val * 2 ^ 17 + (launch.val + 8 + s.g CSD_PCFG_XSLACK p)) = some b) ∧
    ∃ u, exec (.crossingRelease false place launch false edges) s = .next u ∧ (u.tile (place.val / 8)).report.slip = true) ∧
  (∀ (place : Fin 524288) (launch edges : Fin 65536) (s : State) (p : Nat) (b : LinkBeat), s.inSegment place.val = some p →
    ((s.cross.get (2 ^ 20 + place.val) []).find? (fun e => e.1 == launch.val)).map (·.2) = some b →
    s.lanes.has (place.val * 2 ^ 17 + (launch.val + 8 + s.g CSD_PCFG_XSLACK p)) = false →
    ∃ u, exec (.crossingRelease true place launch true edges) s = .next u ∧
      u.lanes.get? (place.val * 2 ^ 17 + (launch.val + 8 + s.g CSD_PCFG_XSLACK p)) = some b)

/-- Tiles and regions report, and the root decides the boundary. A live tile of a partition in an attempt reports DONE at its program end, with FAULT and BUSY_END if a unit is still active. A region's station sends the merged report of its tiles once each has reported. With every region's report, the root decides by the rows of Table 6-12 in their order and sends GO with that decision; if the roots disagree, it sets MISMATCH and the partition stops with STOPR 2. (spec/06_fabric_and_cascade.md) -/
def Obligations.ReportsAndDecisions : Prop :=
  (∀ (t : Tile) (s : State) (p : Nat), s.owner t.val = some p → (s.part p).phase = .attempt → s.tileLive t.val = true → (s.tile t.val).report.done = false →
    ∃ u, exec (.programEnd t) s = .next u ∧ (u.tile t.val).report.done = true ∧
      (s.activeAt t.val (s.programEnd p) = true → (u.tile t.val).report.fault = true ∧ u.reg SEQ_STATUS_BUSY_END t.val 0 = 1) ∧
      (s.activeAt t.val (s.programEnd p) = false → (u.tile t.val).report.fault = (s.tile t.val).report.fault)) ∧
  (∀ (part : Part) (r : Region) (edges : Fin 65536) (s : State), (s.part part.val).phase = .attempt → (s.part part.val).regRep.has r.val = false →
    (s.partTiles part.val).filter (fun t => regionOf t == r.val) ≠ [] →
    (∀ t ∈ s.partTiles part.val, regionOf t = r.val → (s.tile t).report.done = true ∨ s.tileLive t = false) →
    ∃ u, exec (.regionReport part r edges) s = .next u ∧
      (u.part part.val).regRep.get? r.val = some (s.mergeReports part.val edges.val ((s.partTiles part.val).filter (fun t => regionOf t == r.val)))) ∧
  (∀ (part : Part) (s : State), (s.part part.val).phase = .attempt → s.allReports part.val = true →
    (∃ u, exec (.rootDeadline part false) s = .next u ∧ (u.part part.val).phase = .decided (s.part part.val).decide'.1 ∧
      u.out.head? = some (.go part.val (s.part part.val).decide'.1.code)) ∧
    ∃ u, exec (.rootDeadline part true) s = .next u ∧ u.g CSD_STATUS_MISMATCH 0 = 1 ∧ u.flag CSD_PCFG_RUN 0 part.val = false ∧
      u.g LD_PSTATE_STOPR part.val = 2) ∧
  (∀ x : PartSt, (x.anyRep (·.fault) = true → x.decide'.1 = .faulted) ∧
    (x.anyRep (·.fault) = false → (x.anyRep (·.slip) || x.anyRep (·.miss)) = true → x.decide'.1 = .sameProgram) ∧
    (x.anyRep (·.fault) = false → x.anyRep (·.slip) = false → x.anyRep (·.miss) = false →
      (x.anyRep (·.recK) || x.anyRep (·.splitK) || x.anyRep (·.wideK)) = true → x.tries < x.hdr.replayLimit →
      x.decide'.1 = .replay (x.anyRep (·.recK) && !x.anyRep (·.splitK) && !x.anyRep (·.wideK))) ∧
    (x.anyRep (·.fault) = false → x.anyRep (·.slip) = false → x.anyRep (·.miss) = false →
      (x.anyRep (·.recK) || x.anyRep (·.splitK) || x.anyRep (·.wideK)) = true → x.hdr.replayLimit ≤ x.tries → x.decide' = (.commit, true)) ∧
    (x.anyRep (·.fault) = false → x.anyRep (·.slip) = false → x.anyRep (·.miss) = false → x.anyRep (·.recK) = false →
      x.anyRep (·.splitK) = false → x.anyRep (·.wideK) = false → x.decide' = (.commit, false)))

/-- Every boundary and every abort advances the Cascade count by one, and only a commit the commit index. Acting on a decided commit raises the partition's Cascade count and commit index by one. Acting on a replay or a faulted step, and an abort of a running partition, raise the Cascade count by one and leave the commit index (R158). After a faulted step with a code that allows no retry the partition no longer runs. RECOMPUTE_DONE without a tag timeout makes the partition ready with a start; an abort leaves it stopped. (spec/06_fabric_and_cascade.md, spec/03_numerics_and_replay.md, spec/07_compiler_contract.md) -/
def Obligations.BoundariesAdvanceTheCounts : Prop :=
  ∀ (part : Part) (s : State),
    ((s.part part.val).phase = .decided .commit → ∃ u, exec (.commitBoundary part) s = .next u ∧
      (u.part part.val).count = (s.part part.val).count + 1 ∧ (u.part part.val).commitIdx = (s.part part.val).commitIdx + 1) ∧
    ((s.part part.val).phase = .decided .sameProgram ∨ (∃ rc, (s.part part.val).phase = .decided (.replay rc)) →
      ∃ u, exec (.replayBoundary part) s = .next u ∧
      (u.part part.val).count = (s.part part.val).count + 1 ∧ (u.part part.val).commitIdx = (s.part part.val).commitIdx) ∧
    ((s.part part.val).phase = .decided .faulted → ∃ u, exec (.faultedStepBoundary part) s = .next u ∧
      (u.part part.val).count = (s.part part.val).count + 1 ∧ (u.part part.val).commitIdx = (s.part part.val).commitIdx ∧
      ((s.part part.val).noRetry = true → u.flag CSD_PCFG_RUN 0 part.val = false)) ∧
    ((s.part part.val).phase = .recompute → (s.part part.val).timedOut = false → ∃ u, exec (.recomputeDone part) s = .next u ∧
      (u.part part.val).phase = .ready ∧ (u.part part.val).goStart = true ∧ (u.part part.val).count = (s.part part.val).count) ∧
    (s.flag CSD_PCFG_RUN 0 part.val = true → ∃ u, exec (.abort part) s = .next u ∧
      (u.part part.val).count = (s.part part.val).count + 1 ∧ (u.part part.val).commitIdx = (s.part part.val).commitIdx ∧
      (u.part part.val).phase = .stopped ∧ u.flag CSD_PCFG_RUN 0 part.val = false)

/-- Attempts start, HOLD holds, and the roots swap and repeat. A ready partition with a start, RUN set, no array to be replaced, no awaited mark and no held slot begins an attempt of its next program. HOLD set by a path that may write it stands; cleared, a held partition gets its start. A root swap waits for the wafer step boundary. A takeover while the standby expects a GO (of a decided boundary, or of a start) makes the other root active, sets TAKEOVER and sends that GO. An unacknowledged message is sent again, and a station that misses a start has a new GO sent with code 0x4032 recorded. (spec/06_fabric_and_cascade.md) -/
def Obligations.StartsHoldsAndRoots : Prop :=
  (∀ (part : Part) (s : State), (s.part part.val).phase = .ready → (s.part part.val).goStart = true → s.flag CSD_PCFG_RUN 0 part.val = true →
    s.spareHold part.val = false → s.link.markWait.has part.val = false → s.heldTiles part.val = [] →
    ∃ u, exec (.attemptStart part) s = .next u ∧ (u.part part.val).phase = .attempt ∧ (u.part part.val).prog = (s.part part.val).nextProg) ∧
  (∀ (path : Path) (part : Part) (s : State), pageOpen s path false true = true →
    (∃ u, exec (.csdHoldSet path part) s = .next u ∧ u.g CSD_PCFG_HOLD part.val = 1) ∧
    (∃ u, exec (.csdHoldClear path part) s = .next u ∧ u.g CSD_PCFG_HOLD part.val = 0 ∧
      (s.flag CSD_PCFG_HOLD 0 part.val = true → (s.part part.val).phase = .ready → (u.part part.val).goStart = true)) ∧
    ∃ u, exec (.csdRootSwap path) s = .next u ∧ u.shadows.get? (CSD_CTRL_ROOT_SWAP.key 0 0) = some 1 ∧ u.rootHome = s.rootHome) ∧
  (∀ (part : Part) (s : State) (c : Nat), (s.part part.val).goExpected = some c →
    ∃ u, exec (.rootTakeover part) s = .next u ∧ u.rootHome = !s.rootHome ∧ u.g CSD_STATUS_TAKEOVER 0 = 1 ∧
      u.out.head? = some (.go part.val c)) ∧
  (∀ (part : Part) (r : Fin 16) (s : State) (n : Nat), s.treeMsgs.get? (part.val * 16 + r.val) = some n →
    ∃ u, exec (.treeMessageRepeat part r) s = .next u ∧ u.treeMsgs.get? (part.val * 16 + r.val) = some (n + 1)) ∧
  (∀ (part : Part) (s : State), (s.part part.val).phase = .ready → (s.part part.val).goStart = true →
    ∃ u, exec (.goReissue part) s = .next u ∧ u.out.head? = some (.go part.val 5) ∧ (u.log.get? s.logTail).map (·.code) = some 0x4032)

/-- The steward accepts host writes of a request's fields only while it is FREE, terminal or PAUSED. A host write to bytes 4 to 51 of an entry that the path reaches and that no firmware, twin or shadow owns is accepted while the entry is FREE, in a terminal state or PAUSED: the word holds the value in the bits that carry a field. At any other time it is discarded: no request entry changes, the STW page's ERR_COUNT of the function rises by one (saturating), and a record with code 0x8002 is appended. The terminal states are COMPLETED (7), COMPLETED_CANCEL_LATE (8), CANCELLED (9), FAILED (10) and WEIGHTS_REPLACED (11). (R219) -/
def Obligations.HostWritesOfRequestFields : Prop :=
  (∀ (path : Path) (r : Req) (k : Fin 12) (v : Word32) (s : State), reqOpen s path r.val = true → s.ownedEntry r.val = false →
    ∃ u, exec (.requestFieldWrite path r k v) s = .next u ∧
      if (s.req r.val).state = rsFree ∨ (s.req r.val).terminal = true ∨ (s.req r.val).state = rsPaused then
        (u.req r.val).words.get? (k.val + 1) = some (Nat.land v.toNat (wordMask (k.val + 1))) ∧
        ∀ j, j ≠ k.val + 1 → (u.req r.val).words.get? j = (s.req r.val).words.get? j
      else
        u.reqs = s.reqs ∧ u.reg (HDR_ERR_COUNT .stw) (fnOf path) 0 = satAdd (HDR_ERR_COUNT .stw).width (s.reg (HDR_ERR_COUNT .stw) (fnOf path) 0) 1 ∧
        (u.log.get? s.logTail).map (·.code) = some 0x8002) ∧
  (∀ q : ReqSt, q.terminal = true ↔ q.state = rsCompleted ∨ q.state = rsCancelLate ∨ q.state = rsCancelled ∨ q.state = rsFailed ∨ q.state = rsReplaced)

/-- The host submits, frees, cancels, pauses and resumes a request. A write of the state word that Table 9-2 allows: SUBMIT of a FREE or terminal entry with the next GEN leaves it SUBMITTED with that GEN, its fields kept, no results, and marked; FREE of a terminal entry with its GEN leaves it FREE with OUTCNT, CLEN and REASON zero and its fields kept; CANCEL of a live request, PAUSE of a DECODE request and RESUME of a PAUSED request without a pending command note their command and mark the entry. Any other state write leaves every entry as it was and appends a record with code 0x8001. (spec/09_serving_requests.md) -/
def Obligations.HostWritesOfTheStateWord : Prop :=
  ∀ (path : Path) (r : Req) (gen : Fin 256) (s : State), reqOpen s path r.val = true →
    (if s.ownedEntry r.val = false ∧ ((s.req r.val).state = rsFree ∨ (s.req r.val).terminal = true) ∧ gen.val = ((s.req r.val).gen + 1) % 256 then
      ∃ u, exec (.submit path r gen) s = .next u ∧ (u.req r.val).state = rsSubmitted ∧ (u.req r.val).gen = gen.val ∧
        (u.req r.val).words = (s.req r.val).words ∧ (u.req r.val).marked = true ∧ (u.req r.val).outcnt = 0
    else ∃ u, exec (.submit path r gen) s = .next u ∧ u.reqs = s.reqs ∧ (u.log.get? s.logTail).map (·.code) = some 0x8001) ∧
    (if s.ownedEntry r.val = false ∧ (s.req r.val).terminal = true ∧ gen.val = (s.req r.val).gen then
      ∃ u, exec (.free path r gen) s = .next u ∧ (u.req r.val).state = rsFree ∧ (u.req r.val).gen = gen.val ∧
        (u.req r.val).words = (s.req r.val).words ∧ (u.req r.val).outcnt = 0 ∧ (u.req r.val).clen = 0 ∧ (u.req r.val).reason = 0
    else ∃ u, exec (.free path r gen) s = .next u ∧ u.reqs = s.reqs ∧ (u.log.get? s.logTail).map (·.code) = some 0x8001) ∧
    (if s.ownedEntry r.val = false ∧ (s.req r.val).live = true ∧ gen.val = (s.req r.val).gen then
      ∃ u, exec (.cancel path r gen) s = .next u ∧ (u.req r.val).hcmd = 1 ∧ (u.req r.val).marked = true ∧ (u.req r.val).state = (s.req r.val).state
    else ∃ u, exec (.cancel path r gen) s = .next u ∧ u.reqs = s.reqs ∧ (u.log.get? s.logTail).map (·.code) = some 0x8001) ∧
    (if s.ownedEntry r.val = false ∧ (s.req r.val).state = rsDecode ∧ (s.req r.val).hcmd = 0 ∧ gen.val = (s.req r.val).gen then
      ∃ u, exec (.pause path r gen) s = .next u ∧ (u.req r.val).hcmd = 2 ∧ (u.req r.val).marked = true ∧ (u.req r.val).state = (s.req r.val).state
    else ∃ u, exec (.pause path r gen) s = .next u ∧ u.reqs = s.reqs ∧ (u.log.get? s.logTail).map (·.code) = some 0x8001) ∧
    (if s.ownedEntry r.val = false ∧ (s.req r.val).state = rsPaused ∧ (s.req r.val).hcmd = 0 ∧ gen.val = (s.req r.val).gen then
      ∃ u, exec (.resume path r gen) s = .next u ∧ (u.req r.val).hcmd = 3 ∧ (u.req r.val).marked = true ∧ (u.req r.val).state = (s.req r.val).state
    else ∃ u, exec (.resume path r gen) s = .next u ∧ u.reqs = s.reqs ∧ (u.log.get? s.logTail).map (·.code) = some 0x8001)

/-- Scans, transcripts, prompts, time to live and deadlines. While a steward serves: a scan of a marked, unbound entry of a partition that does not run clears its mark, unless an event of the request waits for room in the queue of its records. A SUBMITTED request with fields in range reserves a transcript where the allotment has room, and its prompt read begins; a prompt of the right length read by a function that may master the bus is done, and a failed read is noted. A PAUSED request whose time to live has expired at a boundary ends FAILED with reason TTL (6); a live request whose hard deadline has passed ends FAILED with reason DEADLINE (5). (spec/09_serving_requests.md) -/
def Obligations.StewardHandlesPromptsAndEnds : Prop :=
  (∀ (r : Req) (s : State) (p : Nat), s.stewardUp = true → s.reqOwner r.val = some p → (s.req r.val).marked = true → (s.req r.val).slot = none → s.runs p = false →
    ∃ u, exec (.stewardEntryScan r) s = .next u ∧ (u.req r.val).marked = (u.req r.val).waitsEvent) ∧
  (∀ (r : Req) (s : State) (p : Nat) (o : Nat × Nat), s.stewardUp = true → s.reqOwner r.val = some p → (s.req r.val).state = rsSubmitted → (s.req r.val).trOff = none →
    s.mayAdmit p = true → (s.req r.val).fieldsOk 1 = true → (s.req r.val).promptLen + (s.req r.val).maxTok ≤ (s.part p).capacity →
    s.findTwo p (s.reserveLen p (s.req r.val)) = some o →
    ∃ u, exec (.transcriptReserve r) s = .next u ∧ (u.req r.val).trOff = some o ∧ (u.req r.val).promptPend = true) ∧
  (∀ (r : Req) (s : State) (p : Nat), s.stewardUp = true → s.reqOwner r.val = some p → (s.req r.val).promptPend = true →
    (∃ u, exec (.promptReadDone r none) s = .next u ∧ (u.req r.val).readErr = true ∧ (u.req r.val).promptPend = false) ∧
    ∀ l : List (Fin 1048576), l.length = (s.req r.val).promptLen → s.fnMayMaster (p + 1) = true →
      ∃ u, exec (.promptReadDone r (some l)) s = .next u ∧ (u.req r.val).promptDone = true ∧ (u.req r.val).promptPend = false) ∧
  (∀ (r : Req) (s : State) (p : Nat), s.stewardUp = true → s.reqOwner r.val = some p → (s.req r.val).twin = false → s.twinOf r.val ≠ some r.val → s.atBoundary p = true → s.deferring p = false →
    ((s.req r.val).state = rsPaused → (s.req r.val).pausedAt + 10 ^ 9 * (s.req r.val).pttl ≤ s.ptp →
      ∃ u, exec (.parcelTtlExpiry r) s = .next u ∧ (u.req r.val).state = rsFailed ∧ (u.req r.val).reason = 6) ∧
    ((s.req r.val).live = true → (s.req r.val).late s.ptp = true →
      ∃ u, exec (.hardDeadline r) s = .next u ∧ (u.req r.val).state = rsFailed ∧ (u.req r.val).reason = 5))

/-- The journal, the output ring and its moderation. While a steward serves: a journal acknowledgement takes the oldest boundary off the journal and sends its slot rows to stage one. A queue of one record that the ring has room for is drained; outside Smifort mode TAIL rises by one. A moderation timer that is due signals and starts anew. A write of the limits with COUNT not 0 puts both in force; enabling a ring that is off, of a partition that does not run, sets EN. (spec/09_serving_requests.md) -/
def Obligations.JournalRingAndModeration : Prop :=
  (∀ (part : Part) (s : State) (j : Journal) (l : List Journal), s.stewardUp = true → (s.part part.val).journal = j :: l →
    ∃ u, exec (.journalAck part) s = .next u ∧ (u.part part.val).journal = l ∧
      u.flight.length = s.flight.length + j.slotRows.length) ∧
  (∀ (part : Part) (s : State) (x : OutRec), s.stewardUp = true → (s.part part.val).queue = [x] → s.ringRoom part.val (s.recSlots part.val x) = true →
    ∃ u, exec (.ringQueueDrain part) s = .next u ∧ (u.part part.val).queue = [] ∧
      (s.smifort part.val = false → u.g STW_RING_TAIL_TAIL part.val = (s.g STW_RING_TAIL_TAIL part.val + 1) % 2 ^ 32)) ∧
  (∀ (part : Part) (s : State) (t : Nat), s.stewardUp = true → (s.part part.val).sinceSig ≠ 0 → (s.part part.val).firstUnsig = some t → s.g STW_MOD_TIME_US part.val ≠ 0 →
    t + 1000 * s.g STW_MOD_TIME_US part.val ≤ s.ptp →
    ∃ u, exec (.moderationTimer part) s = .next u ∧ (u.part part.val).sinceSig = 0 ∧ (u.part part.val).firstUnsig = none) ∧
  (∀ (path : Path) (part : Part) (time count : Fin 65536) (s : State), pageOpen s path (ownSet path part.val) true = true → count.val ≠ 0 →
    ∃ u, exec (.stwModWrite path part time count) s = .next u ∧ u.g STW_MOD_TIME_US part.val = time.val ∧ u.g STW_MOD_COUNT part.val = count.val) ∧
  (∀ (path : Path) (part : Part) (s : State), pageOpen s path (ownSet path part.val) true = true → s.flag STW_RING_CFG_EN 0 part.val = false →
    s.runs part.val = false → ∃ u, exec (.ringEnable path part) s = .next u ∧ u.flag STW_RING_CFG_EN 0 part.val = true)

/-- Requests are set aside into parcels and return. While a steward serves: a paused or parked request whose pages wait and for which there is room has a parcel and holds no page afterwards. A DECODE request that has run ROTATE_MS while a PARKED one of equal priority waits is to be parked at the next boundary. At a boundary at which admission is open, the first request in order that can return is ADMITTED, a RESUME with tokens once they have been read. A return whose rows have all been copied gives its parcel up. (spec/09_serving_requests.md) -/
def Obligations.ParcelsRotationAndReturn : Prop :=
  (∀ (r : Req) (s : State) (p : Nat) (spill : Bool) (off : Nat), s.stewardUp = true → s.reqOwner r.val = some p → (s.req r.val).parcelWait = true →
    ((s.req r.val).state = rsPaused ∨ (s.req r.val).state = rsParked) → s.parcelPlace p r.val = some (spill, off) →
    ∃ u, exec (.parcelWrite r) s = .next u ∧ (u.req r.val).parcelWait = false ∧ (u.req r.val).parcel.map (·.1) = some off ∧
      ∀ n, ¬ ((u.page n).pstate = 2 ∧ (u.page n).req = r.val)) ∧
  (∀ (r : Req) (s : State) (p : Nat), s.stewardUp = true → s.reqOwner r.val = some p → (s.req r.val).state = rsDecode → (s.req r.val).twin = false →
    s.g STW_PCFG_ROTATE_MS p ≠ 0 → (s.req r.val).decodeAt + 1000000 * s.g STW_PCFG_ROTATE_MS p ≤ s.ptp → s.smifort p = false →
    (s.partReqs p).any (fun v => (s.req v).state == rsParked && (s.req v).prio == (s.req r.val).prio) = true →
    ∃ u, exec (.rotateExpiry r) s = .next u ∧ (u.req r.val).parkNext = true) ∧
  (∀ (r : Req) (data : Option (List (Fin 1048576))) (ok : Bool) (s : State) (p : Nat), s.stewardUp = true → s.reqOwner r.val = some p → s.mayAdmit p = true →
    s.atBoundary p = true → (s.inOrder (s.partReqs p)).find? (fun v => s.canReturn p v) = some r.val →
    ((s.req r.val).state ≠ rsPaused ∨ (s.req r.val).promptLen = 0 ∨
      ∃ l, data = some l ∧ l.length = (s.req r.val).promptLen ∧ s.fnMayMaster (p + 1) = true) →
    ∃ u, exec (.resumeReady r data ok) s = .next u ∧ (u.req r.val).state = rsAdmitted) ∧
  (∀ (r : Req) (s : State), s.stewardUp = true → (s.req r.val).returning = true → (s.req r.val).restoreLeft = 0 →
    ∃ u, exec (.parcelReturnDone r) s = .next u ∧ (u.req r.val).returning = false ∧ (u.req r.val).parcel = none)

/-- Takeover, the standby, pairing and Smifort mode. A takeover with the standby in step, outside the confirmation of an update, makes the other steward active, sets TAKEOVER and clears STANDBY_OK; without a standby in step no steward serves from then on, and nothing else changes. A swap asked for by an open path waits for the wafer step boundary. The loss of a standby in step clears STANDBY_OK with code 0x800F, and its resynchronisation sets it. A pairing of two idle partitions with the feature, of whose resident packages exactly one is a draft, is enabled with its PEER. Smifort mode is set for an idle unpaired partition of at most 4,096 entries; its firmware reads the producer index, starts a request by a GENERATE entry and cancels one by its tag. (spec/09_serving_requests.md) -/
def Obligations.StewardRolesPairsAndSmifort : Prop :=
  (∀ s : State, (s.flag STW_CTRL_STANDBY_OK 0 0 = true → s.g RST_FW_UPD 0 ≠ 2 →
      ∃ u, exec .stewardTakeover s = .next u ∧ u.stewardHome = !s.stewardHome ∧ u.g STW_STATUS_TAKEOVER 0 = 1 ∧ u.flag STW_CTRL_STANDBY_OK 0 0 = false) ∧
    (s.flag STW_CTRL_STANDBY_OK 0 0 = false → exec .stewardTakeover s = .next { s with stewardUp := false } ∧ exec .standbyLoss s = .next s) ∧
    (s.flag STW_CTRL_STANDBY_OK 0 0 = true → ∃ u, exec .standbyLoss s = .next u ∧ u.flag STW_CTRL_STANDBY_OK 0 0 = false ∧
      (u.log.get? s.logTail).map (·.code) = some 0x800F) ∧
    (s.stewardUp = true → ∃ u, exec .standbyResync s = .next u ∧ u.flag STW_CTRL_STANDBY_OK 0 0 = true)) ∧
  (∀ (path : Path) (s : State), pageOpen s path false true = true →
    (∃ u, exec (.stewardSwap path) s = .next u ∧ u.shadows.get? (STW_CTRL_SWAP.key 0 0) = some 1 ∧ u.stewardHome = s.stewardHome) ∧
    (∀ p d : Part, s.flag STW_PCFG_PAIR_EN 0 p.val = false → s.runs p.val = false → s.runs d.val = false → s.feature 3 = true → d ≠ p →
      s.smifort p.val = false → s.smifort d.val = false → s.pairFlags p.val d.val = true →
      ∃ u, exec (.pairingWrite path p true d) s = .next u ∧ u.flag STW_PCFG_PAIR_EN 0 p.val = true ∧ u.g STW_PCFG_PEER p.val = d.val) ∧
    (∀ p : Part, s.smifort p.val = false → s.runs p.val = false → (s.part p.val).reqCount ≤ 4096 → s.paired p.val = false →
      ∃ u, exec (.smifortEnable path p true) s = .next u ∧ u.smifort p.val = true)) ∧
  (∀ (part : Part) (n : Fin 4294967296) (s : State), s.stewardUp = true → s.smiOn part.val = true →
    ∃ u, exec (.smiSqPoll part n none) s = .next u ∧ (u.part part.val).sqProd = n.val) ∧
  (∀ (part : Part) (s : State), s.stewardUp = true → s.smiEntry part.val = true →
    (∀ (e : S2Entry) (r : Nat), e.flags.val < 4 → s.smiFree part.val = some r →
      ∃ u, exec (.s2Generate part e) s = .next u ∧ (u.req r).state = rsSubmitted ∧ (u.part part.val).tags.get? r = some e.tag.val ∧
        (u.part part.val).sqCons = ((s.part part.val).sqCons + 1) % 2 ^ 32) ∧
    (∀ (tag : Fin 4294967296) (r : Nat), s.byTag part.val tag.val = some r →
      ∃ u, exec (.s2Cancel part tag) s = .next u ∧ (u.req r).hcmd = 1 ∧ (u.req r).marked = true ∧
        (u.part part.val).sqCons = ((s.part part.val).sqCons + 1) % 2 ^ 32))

/-- CREATE, RESIZE and DESTROY with their completions. A GO by an open path of an idle slot whose descriptor is accepted runs its command: CREATE and RESIZE with free attributes that need no missing feature, and DESTROY, of whose partition the zero fill then runs. At the end of CREATE's fill the partition is EMPTY with the descriptor's attributes, every byte of its allotment reads zero and the command is done with code 0; at the end of RESIZE's the attributes are the descriptor's; at the end of DESTROY's the partition is NONE and holds nothing. (spec/08_weights_and_partitions.md) -/
def Obligations.PartitionsAreMadeResizedAndRemoved : Prop :=
  (∀ (path : Path) (n : LdSlot) (s : State), pageOpen s path false true = true → s.slotRunning n.val = false → s.goBad n.val = false →
    (s.cmdOpc n.val = opCreate → s.attrsBad (s.cmdPart n.val) (s.attrs n.val) = false → s.lacks (s.cmdPart n.val) (s.attrs n.val) = 0 →
      ∃ u, exec (.create path n) s = .next u ∧ u.slotRunning n.val = true ∧ u.g LD_CMD_STS_CODE n.val = 0) ∧
    (s.cmdOpc n.val = opResize → s.attrsBad (s.cmdPart n.val) (s.attrs n.val) = false → s.lacks (s.cmdPart n.val) (s.attrs n.val) = 0 →
      s.cistUsed (s.cmdPart n.val) ≤ (s.attrs n.val).gb * 10 ^ 9 →
      ∃ u, exec (.resize path n) s = .next u ∧ u.slotRunning n.val = true ∧ u.g LD_CMD_STS_CODE n.val = 0) ∧
    (s.cmdOpc n.val = opDestroy →
      ∃ u, exec (.destroy path n) s = .next u ∧ u.slotRunning n.val = true ∧ (u.part (s.cmdPart n.val)).filling = true)) ∧
  (∀ (part : Part) (n : Nat) (s : State),
    (s.slotOf part.val opCreate = some n →
      ∃ u, exec (.createComplete part) s = .next u ∧ u.pstate part.val = psEmpty ∧ u.g LD_CMD_STS_STATE n = ldDone ∧ u.g LD_CMD_STS_CODE n = 0 ∧
        (u.part part.val).reqFirst = (s.attrs n).first ∧ (u.part part.val).reqCount = (s.attrs n).count ∧ (u.part part.val).cistGb = (s.attrs n).gb ∧
        ∀ a, cisternBase part.val ≤ a → a < cisternBase (part.val + 1) → Memory.read u.mem a = 0#8) ∧
    (s.slotOf part.val opResize = some n →
      ∃ u, exec (.resizeComplete part) s = .next u ∧ u.g LD_CMD_STS_STATE n = ldDone ∧ (u.part part.val).reqFirst = (s.attrs n).first ∧
        (u.part part.val).reqCount = (s.attrs n).count ∧ (u.part part.val).cistGb = (s.attrs n).gb) ∧
    (s.slotOf part.val opDestroy = some n →
      ∃ u, exec (.destroyComplete part) s = .next u ∧ u.pstate part.val = psNone ∧ u.parts.has part.val = false ∧ u.g LD_CMD_STS_STATE n = ldDone))

/-- STAGE, its shards, DISCARD and publisher keys. An accepted STAGE from host memory puts the pending package into STAGING. Its lead shard, consistent and signed with an enrolled key, is accepted; one that does not match its signature fails the STAGE with code 0x9023. The last shard whose SHA-384 is the manifest's makes the package VERIFIED; one with another hash is a failed try. A fetch error of a shard under way raises its tries by one, the fourth failing the STAGE with 0x9022. DISCARD leaves no pending package. ENROLL_KEY of a point of the curve fills an empty key slot, and REVOKE_KEY empties one. (spec/08_weights_and_partitions.md, spec/00_scope.md) -/
def Obligations.PackagesAreStagedAndVerified : Prop :=
  (∀ (path : Path) (n : LdSlot) (s : State), pageOpen s path false true = true → s.slotRunning n.val = false → s.goBad n.val = false →
    (s.cmdOpc n.val = opDiscard → ∃ u, exec (.discard path n) s = .next u ∧ u.g LD_PSTATE_PEND (s.cmdPart n.val) = 0 ∧
      (u.part (s.cmdPart n.val)).pendPkg = none ∧ (u.part (s.cmdPart n.val)).stage = none ∧ u.g LD_CMD_STS_STATE n.val = ldDone) ∧
    (∀ a, s.cmdOpc n.val = opStage → bits (s.dword n.val 4) 7 0 = 1 → bitAt (s.cmdFlags n.val) 0 = false →
      (s.updPart (s.cmdPart n.val) (fun x => { x with pendPkg := none })).findSpace (s.cmdPart n.val) (s.dword n.val 6 + s.dword n.val 7 * 2 ^ 32) = some a →
      ∃ u q, exec (.stage path n) s = .next u ∧ u.slotRunning n.val = true ∧ u.g LD_PSTATE_PEND (s.cmdPart n.val) = 1 ∧
        (u.part (s.cmdPart n.val)).stage = some q ∧ q.leadOk = false ∧ q.area = a) ∧
    (s.cmdOpc n.val = opEnroll → onCurve (s.keyNum n.val 4) (s.keyNum n.val 16) = true → s.repair.pubKeys.has (s.cmdPart n.val) = false →
      ∃ u, exec (.enrollKey path n) s = .next u ∧ u.repair.pubKeys.get? (s.cmdPart n.val) = some (s.keyNum n.val 4, s.keyNum n.val 16) ∧
        u.g LD_CMD_STS_STATE n.val = ldDone) ∧
    (s.cmdOpc n.val = opRevoke → ∃ u, exec (.revokeKey path n) s = .next u ∧ u.repair.pubKeys.has (s.cmdPart n.val) = false ∧
      u.g LD_CMD_STS_STATE n.val = ldDone)) ∧
  (∀ (part : Part) (data : List Byte) (s : State) (g : StageRun) (x m : Sect) (k : Nat × Nat), (s.part part.val).stage = some g → g.leadOk = false →
    data.length ≤ g.size →
    let a := cisternBase part.val + g.area
    let t := s.setMem (Memory.writeBytes s.mem a data)
    t.leadConsistent a data.length g.size = true → sectOf (t.sects a) 0x14 = some x → sectOf (t.sects a) 0x13 = some m →
    s.pubKeyNamed (t.pk a (x.off + 8) 8) = some k → (g.keyId = 0 ∨ g.keyId = t.pk a (x.off + 8) 8) → g.src = 1 →
    if ecdsaValid k.1 k.2 (signedMessage data x.off) (beNum (t.pkBytes a (x.off + 0x10) 48)) (beNum (t.pkBytes a (x.off + 0x40) 48)) = true then
      ∃ u q, exec (.leadShardVerify part data) s = .next u ∧ (u.part part.val).stage = some q ∧ q.leadOk = true ∧ q.signer = t.pk a (x.off + 8) 8
    else ∃ u, exec (.leadShardVerify part data) s = .next u ∧ (u.part part.val).stage = none ∧ u.g LD_PSTATE_PEND part.val = 3 ∧
      u.g LD_CMD_STS_CODE g.slot = 0x9023) ∧
  (∀ (part : Part) (k : Fin 65536) (data : List Byte) (s : State) (g : StageRun) (m : Sect), (s.part part.val).stage = some g → g.leadOk = true →
    g.verified.mem k.val = false → k.val < g.next →
    data.length = min (2 ^ g.shardLog2) (g.size - (g.leadSize + (k.val - 1) * 2 ^ g.shardLog2)) →
    let a := cisternBase part.val + g.area
    let t := s.setMem (Memory.writeBytes s.mem (a + (g.leadSize + (k.val - 1) * 2 ^ g.shardLog2)) data)
    sectOf (t.sects a) 0x13 = some m →
    if sha384 data = t.pkBytes a (m.off + 0x20 + 48 * (k.val - 1)) 48 then
      (g.verified.add k.val).entries.length = g.shards →
        ∃ u, exec (.shardVerify part k data) s = .next u ∧ (u.part part.val).stage = none ∧ u.g LD_PSTATE_PEND part.val = 2 ∧
          (u.part part.val).pendPkg = some ⟨g.area, g.size, g.signer, g.lost⟩ ∧ u.g LD_CMD_STS_STATE g.slot = ldDone
    else g.src = 1 → g.tries.get k.val 0 < 3 →
      ∃ u q, exec (.shardVerify part k data) s = .next u ∧ (u.part part.val).stage = some q ∧ q.tries.get k.val 0 = g.tries.get k.val 0 + 1) ∧
  (∀ (part : Part) (k : Fin 65536) (s : State) (g : StageRun), (s.part part.val).stage = some g → g.verified.mem k.val = false →
    k.val < g.next → (g.leadOk = false → k.val = 0) → g.src = 1 →
    (g.tries.get k.val 0 < 3 → ∃ u q, exec (.shardFetchError part k) s = .next u ∧ (u.part part.val).stage = some q ∧
      q.tries.get k.val 0 = g.tries.get k.val 0 + 1) ∧
    (3 ≤ g.tries.get k.val 0 → ∃ u, exec (.shardFetchError part k) s = .next u ∧ (u.part part.val).stage = none ∧ u.g LD_PSTATE_PEND part.val = 3 ∧
      u.g LD_CMD_STS_CODE g.slot = 0x9022))

/-- INSTALL, START and STOP. An accepted INSTALL of a verified package of an unpaired partition with room makes a RUNNING partition STOPPING and any other WRITING. When its sections have been written without a refusal, the pending package is resident and the partition READY, or RUNNING with the START flag; a refusal leaves it EMPTY with the package still pending. The rewrite of a partition from its resident copy, without an INSTALL, makes it READY. A START of a partition with its quadrants up, nothing lost and its key enrolled makes it RUNNING with RUN = 1. A STOP makes it STOPPING, or at a held boundary READY at once with STOPR 1. A drain deadline at a decided commit writes the package. (spec/08_weights_and_partitions.md, spec/06_fabric_and_cascade.md) -/
def Obligations.PackagesAreInstalledAndPartitionsRun : Prop :=
  (∀ (path : Path) (n : LdSlot) (s : State), pageOpen s path false true = true → s.slotRunning n.val = false → s.goBad n.val = false →
    (∀ k, s.cmdOpc n.val = opInstall → (s.part (s.cmdPart n.val)).pendPkg = some k → s.g LD_PSTATE_PEND (s.cmdPart n.val) = 2 →
      s.paired (s.cmdPart n.val) = false → k.size + s.cisternMin (s.cmdPart n.val) k.area ≤ s.cistBytes (s.cmdPart n.val) →
      ∃ u, exec (.install path n) s = .next u ∧ u.slotRunning n.val = true ∧
        u.pstate (s.cmdPart n.val) = if s.pstate (s.cmdPart n.val) = psRunning then psStopping else psWriting) ∧
    (∀ k key, s.cmdOpc n.val = opStart → (s.part (s.cmdPart n.val)).resident = some k → s.pubKeyNamed k.keyId = some key →
      s.pairMate (s.cmdPart n.val) = none → s.startFenced (s.cmdPart n.val) = false → s.quadsUp (s.cmdPart n.val) = true →
      (s.part (s.cmdPart n.val)).lostQuads.entries = [] →
      ∃ u, exec (.start path n) s = .next u ∧ u.pstate (s.cmdPart n.val) = psRunning ∧ u.flag CSD_PCFG_RUN 0 (s.cmdPart n.val) = true ∧
        u.g LD_CMD_STS_STATE n.val = ldDone) ∧
    (s.cmdOpc n.val = opStop → ∃ u, exec (.stop path n) s = .next u ∧
      if (s.part (s.cmdPart n.val)).phase = .ready ∧ (s.part (s.cmdPart n.val)).goStart = false then
        u.pstate (s.cmdPart n.val) = psReady ∧ u.g LD_PSTATE_STOPR (s.cmdPart n.val) = 1 ∧ u.flag CSD_PCFG_RUN 0 (s.cmdPart n.val) = false
      else u.pstate (s.cmdPart n.val) = psStopping ∧ (u.part (s.cmdPart n.val)).stopSlot = some n.val)) ∧
  (∀ (part : Part) (info : LoadInfo) (unread : Option (Fin 1048576)) (bad : List RowMiss) (s : State), s.pstate part.val = psWriting →
    s.quadsUp part.val = true → (s.writeBanks part.val bad).failedArrays part.val = [] →
    (∀ (i : InstallRun) (k : PkgRef) (n : Nat), (s.part part.val).install = some i → (s.part part.val).pendPkg = some k →
      s.slotOf part.val opInstall = some n →
      (∀ w, (s.writeBanks part.val bad).placePackage part.val k info unread = .inl w → w.failedArrays part.val = [] →
        ∃ u, exec (.installWriteComplete part info unread bad) s = .next u ∧ (u.part part.val).resident = some k ∧
          (u.part part.val).pendPkg = none ∧ u.pstate part.val = (if i.start then psRunning else psReady) ∧ u.g LD_CMD_STS_STATE n = ldDone) ∧
      (∀ r, (s.writeBanks part.val bad).placePackage part.val k info unread = .inr r →
        ∃ u, exec (.installWriteComplete part info unread bad) s = .next u ∧ (u.part part.val).resident = none ∧
          (u.part part.val).pendPkg = some k ∧ u.pstate part.val = psEmpty)) ∧
    ((s.part part.val).install = none → ((s.part part.val).resident.map (·.lost)).getD false = false →
      unreadBad (s.resSects part.val) unread = none →
      ∃ u, exec (.installWriteComplete part info unread bad) s = .next u ∧ u.pstate part.val = psReady)) ∧
  (∀ (part : Part) (s : State) (i : InstallRun), (s.part part.val).install = some i → s.replacing part.val = true →
    (s.part part.val).phase = .decided .commit →
    ∃ u, exec (.drainDeadline part) s = .next u ∧ (u.part part.val).count = (s.part part.val).count + 1)

/-- The server table and the stream engine. VALID of an entry that no STAGE uses takes the value written by an open path, and DOWN is clear where it was 0 before and is 1 now. An error of a valid entry's queue pair sets DOWN. LEAD steps before a step of matching PHASE of a running partition, each row of a plan entry goes out as a packet to its row of the tile named. (spec/08_weights_and_partitions.md) -/
def Obligations.ServersAndStreams : Prop :=
  (∀ (path : Path) (e : Fin 64) (v : Bool) (s : State), pageOpen s path false true = true → s.serverUsed e.val = false →
    ∃ u, exec (.serverEntryValid path e v) s = .next u ∧ u.flag LD_SRV0_VALID 0 e.val = v ∧
      (v = true → s.flag LD_SRV0_VALID 0 e.val = false → u.flag LD_SRV0_DOWN 0 e.val = false)) ∧
  (∀ (e : Fin 64) (s : State), s.flag LD_SRV0_VALID 0 e.val = true →
    ∃ u, exec (.serverQpError e) s = .next u ∧ u.flag LD_SRV0_DOWN 0 e.val = true) ∧
  (∀ (part : Part) (e : Fin 1048576) (behind : Bool) (s : State) (k : PkgRef) (w t : Nat), (s.part part.val).resident = some k →
    (s.part part.val).plan[e.val]? = some w → s.flag CSD_PCFG_RUN 0 part.val = true →
    ((s.part part.val).commitIdx + (s.part part.val).planLead) % (s.part part.val).planPeriod = (streamE w).phase →
    tileOfAddr (streamE w).tile = some t →
    ∃ u, exec (.streamPlanEntry part e behind) s = .next u ∧ u.flight.length = s.flight.length + (s.streamRows part.val k (streamE w)).length ∧
      ∀ j r, (s.streamRows part.val k (streamE w))[j]? = some r →
        ∃ q, u.flight[s.flight.length + j]? = some q ∧ q.dst = t ∧ q.drow = (streamE w).brow + j ∧ q.data = r.1 ∧ q.part = part.val)

/-- Cold starts, warm resets, ACCEPT_TOPOLOGY and PERST. A bring-up that finds nothing wrong ends in READY with HALT_REASON 0; one whose topology record fails its signature ends in HALT with reason 1, and one without a firmware image in HALT with reason 5. A cold start whose 54 V input is out of range waits in BOOT, and goes on when the input reads in range. In HALT with reason 3 or 4, ACCEPT_TOPOLOGY declares READY; in HALT with another reason it is refused with 0x7081, and outside HALT with 0x9029, which is the model's choice (log entry 104). MODULE_WARM does the same from an open path. PERST takes the link down, clears VF Enable and closes the sessions of the DOE mailbox. (spec/13_bringup_reset_repair.md) -/
def Obligations.BringUpReachesReadyOrHalts : Prop :=
  (∀ (b : BringUp) (s : State), b.fwBoth = [] → b.identityOk = true → b.repairsIn = true → b.badStacks = [] → b.rims = [] → b.ports = [] →
    (s.power.auxOn = false → mainReady b.mv.val = true → ∃ u, exec (.coldStart b) s = .next u ∧
      u.boot = (if b.recordOk then 4 else 5) ∧ u.g RST_STATE_HALTR 0 = (if b.recordOk then 0 else 1)) ∧
    (s.power.auxOn = false → mainReady b.mv.val = false → ∃ u, exec (.coldStart b) s = .next u ∧ u.power.waitMain = true ∧ u.power.auxOn = true) ∧
    (s.power.auxOn = true → s.power.waitMain = true → mainReady b.mv.val = true → ∃ u, exec (.mainInputInRange b) s = .next u ∧
      u.boot = (if b.recordOk then 4 else 5) ∧ u.g RST_STATE_HALTR 0 = (if b.recordOk then 0 else 1)) ∧
    (∀ path, pageOpen s path false true = true → s.power.auxOn = true → s.power.mainOk = true → ∃ u, exec (.moduleWarm path b) s = .next u ∧
      u.boot = (if b.recordOk then 4 else 5) ∧ u.g RST_STATE_HALTR 0 = (if b.recordOk then 0 else 1))) ∧
  (∀ (b : BringUp) (s : State), s.power.auxOn = false → 0 ∈ b.fwBoth →
    ∃ u, exec (.coldStart b) s = .next u ∧ u.boot = 5 ∧ u.g RST_STATE_HALTR 0 = 5) ∧
  (∀ (path : Path) (s : State), pageOpen s path false true = true → ∃ u, exec (.acceptTopology path) s = .next u ∧
    if s.boot = 5 ∧ (s.g RST_STATE_HALTR 0 = 3 ∨ s.g RST_STATE_HALTR 0 = 4) then
      u.boot = 4 ∧ u.g RST_CMD_STS_STATE 0 = 2 ∧ u.g RST_CMD_STS_CODE 0 = 0
    else u.boot = s.boot ∧ u.g RST_CMD_STS_STATE 0 = 3 ∧ u.g RST_CMD_STS_CODE 0 = (if s.boot = 5 then 0x7081 else 0x9029)) ∧
  (∀ (b : BringUp) (s : State), s.power.auxOn = true → s.flag RST_CFG_PERST_MODULE 0 0 = false →
    ∃ u, exec (.perst b) s = .next u ∧ u.link.pcieUp = false ∧ u.link.vfEnable = false ∧ ∀ k, k < 4 → u.link.sessions.has k = false)

/-- Resets of a tile, a site, a partition and the wafer compute, and function level resets. A reset of a valid scope, asked for from an open path while none runs, begins its drain with STATE running. While one runs that it does not contain, it waits behind the others. The end of the drain, unless a takeover of the steward still holds a partition, completes the reset with STATE done and starts the first that waits; the banks and tables of a tile that no partition owns then read zero. A function level reset clears the function's negotiation; of a virtual function with a partition it starts the partition's reset and disables its ring; of the physical function it clears VF Enable and closes the sessions of the DOE mailbox. (spec/13_bringup_reset_repair.md) -/
def Obligations.ResetsRunInTurn : Prop :=
  (∀ (path : Path) (c : Instr) (r : ResetRun) (s : State), pageOpen s path false true = true →
    ((∃ a t, c = .tileReset path a ∧ tileOfAddr a.val = some t ∧ r = ⟨scTile, t⟩) ∨
     (∃ a, c = .siteReset path a ∧ bits a.val 19 12 < 56 ∧ r = ⟨scSite, bits a.val 19 12⟩) ∨
     (∃ p, c = .partReset path p ∧ s.partExists p.val = true ∧ r = ⟨scPart, p.val⟩) ∨
     (c = .waferReset path ∧ r = ⟨scWafer, 0⟩)) →
    (s.repair.running = none → ∃ u, exec c s = .next u ∧ u.repair.running = some r ∧ u.g RST_CMD_STS_STATE 0 = 1) ∧
    (∀ x, s.repair.running = some x → s.contains r x = false → ∃ u, exec c s = .next u ∧
      u.repair.running = some x ∧ u.repair.waiting = s.repair.waiting ++ [r])) ∧
  (∀ (r : ResetRun) (s : State), s.repair.running = some r → s.takingOver = false →
    (s.repair.waiting = [] → ∃ u, exec .resetDrainEnd s = .next u ∧ u.repair.running = none ∧ u.g RST_CMD_STS_STATE 0 = 2 ∧
      (r.scope = scTile → s.owner r.target = none → ∀ a, computeTile a = some (r.target, false) → Memory.read u.mem a = 0#8)) ∧
    (∀ w l, s.repair.waiting = w :: l → ∃ u, exec .resetDrainEnd s = .next u ∧ u.repair.running = some w ∧ u.repair.waiting = l)) ∧
  (∀ s : State, s.takingOver = true → exec .resetDrainEnd s = .next s) ∧
  (∀ (p : Part) (s : State), s.link.pcieUp = true → s.link.vfEnable = true → s.partExists p.val = true → s.repair.running = none →
    ∃ u, exec (.vfFlr p) s = .next u ∧ u.repair.running = some ⟨scPart, p.val⟩ ∧ u.reg SEC_NEG_MAJOR (p.val + 1) 0 = 0 ∧ u.g STW_RING_CFG_EN p.val = 0) ∧
  (∀ s : State, s.link.pcieUp = true → ∃ u, exec .pfFlr s = .next u ∧ u.link.vfEnable = false ∧ u.reg SEC_NEG_MAJOR 0 0 = 0 ∧
    ∀ k, k < 4 → u.link.sessions.has k = false)

/-- Spare arrays, column shifts, fencing, self tests, and stacks and rim dies that fail. An array that needs it gets its tile's spare array at once where the tile's partition is stopped or between steps; else the need is noted, for the boundary that ends the step. A tile that fails is fenced; where a column shift is possible and its copies succeed it serves again, the column holds one more shift, and REPAIR_TILE ends with code 0; where it is not, the tile stays fenced in place and REPAIR_TILE ends with 0x4042. PTEST of a partition that is EMPTY or READY counts the partition's tiles that failed; in any other state it is refused with 0x9029. A failed stack marks every resident copy as damaged; a failed rim die takes its six stacks with it. A spare tile that fails its test is marked unusable. (spec/13_bringup_reset_repair.md, spec/02_compute_in_memory_arrays.md) -/
def Obligations.RepairsInService : Prop :=
  (∀ (tile : Tile) (n : Arr) (clean fails : Bool) (s : State), s.arrayNeeds tile.val n.val = true → s.spareUsed tile.val = false →
    s.copyLost tile.val = false →
    ((∀ p, s.owner tile.val = some p → (s.part p).phase = .stopped ∨ ((s.part p).phase = .ready ∧ (s.part p).attempt = 0)) →
      ∃ u, exec (.spareArraySubstitution tile n false clean fails) s = .next u ∧ u.flag ARR_SPARE_MAP_SPARE_ARRAY tile.val n.val = true) ∧
    (∀ p, s.owner tile.val = some p → (s.part p).phase ≠ .stopped → ((s.part p).phase = .ready → (s.part p).attempt ≠ 0) →
      ∃ u, exec (.spareArraySubstitution tile n false clean fails) s = .next u ∧ u.cal.needSpare.mem (tile.val * 8 + n.val) = true)) ∧
  (∀ (path : Path) (a : Fin 1048576) (t : Nat) (clean : Bool) (s : State), pageOpen s path false true = true → tileOfAddr a.val = some t →
    (s.shiftable t = true → s.copyLost t = false → ∃ u, exec (.repairTile path a clean false) s = .next u ∧ u.g RST_CMD_STS_STATE 0 = 2 ∧
      u.g RST_CMD_STS_CODE 0 = 0 ∧ u.flag SEQ_STATUS_FENCED t 0 = false ∧
      u.column (siteOf t) (colOf t) = shiftedWord (s.column (siteOf t) (colOf t)) (s.physRow t)) ∧
    (s.shiftable t = false → ∃ u, exec (.repairTile path a clean false) s = .next u ∧ u.g RST_CMD_STS_STATE 0 = 3 ∧
      u.g RST_CMD_STS_CODE 0 = 0x4042 ∧ u.flag SEQ_STATUS_FENCED t 0 = true)) ∧
  (∀ (tile : Tile) (cond : Fin 5) (clean fails : Bool) (s : State), s.flag SEQ_STATUS_FENCED tile.val 0 = false →
    s.failCond tile.val (cond.val + 1) = true →
    (s.flag RST_CFG_AUTO_REPAIR 0 0 = false → ∃ u, exec (.tileFail tile cond clean fails) s = .next u ∧
      u.flag SEQ_STATUS_FENCED tile.val 0 = true ∧ u.flag RTR_STATUS_FENCED tile.val 0 = true ∧ u.repair.failSince = true) ∧
    (s.flag RST_CFG_AUTO_REPAIR 0 0 = true → fails = false → s.shiftable tile.val = true → s.copyLost tile.val = false →
      ∃ u, exec (.tileFail tile cond clean fails) s = .next u ∧ u.flag SEQ_STATUS_FENCED tile.val 0 = false ∧
        u.column (siteOf tile.val) (colOf tile.val) = shiftedWord (s.column (siteOf tile.val) (colOf tile.val)) (s.physRow tile.val))) ∧
  (∀ (path : Path) (p : Part) (level : Fin 2) (failed : List Tile) (s : State), pageOpen s path false true = true →
    ∃ u, exec (.ptest path p level failed) s = .next u ∧
      if s.pstate p.val = psEmpty ∨ s.pstate p.val = psReady then
        u.g RST_CMD_STS_STATE 0 = 2 ∧
        u.g RST_CMD_STS_COUNT 0 = (((failed.map (·.val)).filter (fun t => s.owner t == some p.val)).eraseDups).length % 2 ^ 14
      else u.g RST_CMD_STS_STATE 0 = 3 ∧ u.g RST_CMD_STS_CODE 0 = 0x9029) ∧
  (∀ (h : Stack) (damaged : List (Req × Bool)) (s : State), s.repair.failedStacks.mem h.val = false → s.repair.takenStacks.mem h.val = false →
    ∃ u, exec (.stackFail h damaged) s = .next u ∧ u.repair.failedStacks.mem h.val = true ∧
      ∀ p k, (s.part p).resident = some k → (u.part p).resident = some { k with lost := true }) ∧
  (∀ (d : Fin 8) (damaged : List (Req × Bool)) (s : State), s.repair.failedRims.mem d.val = false → s.repair.takenRims.mem d.val = false →
    ∃ u, exec (.rimDieFail d damaged) s = .next u ∧ u.repair.failedRims.mem d.val = true ∧
      ∀ k, k < 6 → u.repair.failedStacks.mem (6 * d.val + k) = true ∨ u.repair.takenStacks.mem (6 * d.val + k) = true) ∧
  (∀ (site : Site) (c : Fin 32) (south first ok : Bool) (s : State), s.spareTaken site.val c.val (if south then 33 else 32) = false →
    ∃ u, exec (.spareTileTest site c south first ok) s = .next u ∧
      u.g RST_SPARE_TESTED 0 = (if first then 1 else satAdd 16 (s.g RST_SPARE_TESTED 0) 1) ∧
      (ok = false → bitAt (u.column site.val c.val) (if south then 16 else 17) = true))

/-- Firmware images, the update of the steward, and the certificate store. A signed image lands in the inactive slot of its kind: one that is not the steward's is staged for the next module reset, the steward's starts an update (loading). An image without a valid signature changes nothing of the stores. The update goes on to confirming when the standby is in step, fails after 10 s without it, and returns to idle when the confirmation time has passed. INSTALL of a certificate that is valid, bound to this device and new fills the first empty slot; one with another version fails with 0xC005, one with a bad signature with 0xC002. REMOVE empties a slot none of whose features is in use. (spec/13_bringup_reset_repair.md) -/
def Obligations.FirmwareAndCertificates : Prop :=
  (∀ (kind : Fin 5) (image : Fin 18446744073709551616) (s : State), s.power.auxOn = true →
    (kind.val ≠ 2 → ∃ u, exec (.fwImageWrite kind image true) s = .next u ∧
      u.repair.fwImage.get? (kind.val * 2 + (1 - s.fwSlot kind.val)) = some image.val ∧ u.repair.fwStaged.mem kind.val = true) ∧
    (kind.val = 2 → s.upd ≠ updLoading → s.upd ≠ updConfirm → ∃ u, exec (.fwImageWrite kind image true) s = .next u ∧
      u.repair.fwImage.get? (4 + (1 - s.g RST_FW_ACT_SLOT 0)) = some image.val ∧ u.upd = updLoading ∧
      u.g RST_FW_STBY_SLOT 0 = 1 - s.g RST_FW_ACT_SLOT 0) ∧
    (∃ u, exec (.fwImageWrite kind image false) s = .next u ∧ u.repair = s.repair ∧ u.upd = s.upd ∧ u.logTail = s.logTail + 1)) ∧
  (∀ s : State, s.upd = updLoading → (∃ u, exec .fwStandbyReady s = .next u ∧ u.upd = updConfirm) ∧
    (s.repair.fwSince + 10 ^ 10 ≤ s.ptp → ∃ u, exec .fwStandbyTimeout s = .next u ∧ u.upd = updFailed)) ∧
  (∀ s : State, s.upd = updConfirm → s.repair.fwSince + 10 ^ 9 * s.g RST_FW_CONFIRM_S 0 ≤ s.ptp →
    ∃ u, exec .fwConfirmExpiry s = .next u ∧ u.upd = updIdle ∧ u.fwSlot 2 = s.g RST_FW_ACT_SLOT 0 ∧ u.g RST_FW_STBY_SLOT 0 = s.g RST_FW_ACT_SLOT 0) ∧
  (∀ (path : Path) (s : State), pageOpen s path false true = true →
    (∀ n, certVersion s.certBuffer = 1 → certHere s.certBuffer = true →
      s.repair.certs.entries.any (fun e => certSerial e.2 == certSerial s.certBuffer) = false → s.freeCert = some n →
      ∃ u, exec (.licInstall path true) s = .next u ∧ u.repair.certs.get? n = some s.certBuffer ∧ u.g LIC_CMD_STS_STATE 0 = 2 ∧ u.g LIC_CMD_STS_CODE 0 = 0) ∧
    (certVersion s.certBuffer ≠ 1 → ∃ u, exec (.licInstall path true) s = .next u ∧ u.g LIC_CMD_STS_STATE 0 = 3 ∧ u.g LIC_CMD_STS_CODE 0 = 0xC005) ∧
    (certVersion s.certBuffer = 1 → ∃ u, exec (.licInstall path false) s = .next u ∧ u.g LIC_CMD_STS_STATE 0 = 3 ∧ u.g LIC_CMD_STS_CODE 0 = 0xC002) ∧
    (∀ n : Fin 16, (∀ f ∈ [1, 2, 3, 4], s.featureUsed f = false) →
      ∃ u, exec (.licRemove path n) s = .next u ∧ u.repair.certs.has n.val = false ∧ u.g LIC_CMD_STS_STATE 0 = 2))

/-- The wafer step boundary. At a wafer step boundary the wafer count rises by one while the converters run, and the input voltage and power read what the window measured. PTP time goes on by what the window lasted while no offset is being slewed. While the converters are stopped the count stands still. (spec/06_fabric_and_cascade.md, spec/10_power_delivery_and_capping.md) -/
def Obligations.WaferStepsAdvanceTheCount : Prop :=
  ∀ (r : WindowReadings) (s : State), ∃ u, exec (.waferStep r) s = .next u ∧
    u.wcount = (if s.power.convOn then s.wcount + 1 else s.wcount) ∧
    (s.link.slew = 0 → u.ptp = s.ptp + r.elapsed.val) ∧
    (s.power.convOn = true → u.g PWR_IN_VIN 0 = r.vin.val ∧ u.g PWR_IN_P_PIN_W 0 = r.pinW.val)

/-- Losses of supply, converters, phases and Transit regulators. The loss of the auxiliary input leaves what the module flash holds and what lies outside the module. The loss of the main input stops the converters: the module is in BOOT, its link is down, and the AON domain keeps running. A converter that fails is marked and reported; with three or fewer working, every site is dark. Failed phases of a site are counted, and with eleven the site is dark. A faulty Transit regulator is marked. (spec/10_power_delivery_and_capping.md) -/
def Obligations.SuppliesFail : Prop :=
  (∀ s : State, s.power.auxOn = true → ∃ u, exec .auxInputLoss s = .next u ∧ u.power.auxOn = false ∧ u.power.convOn = false ∧
    u.link.ownerKeys = s.link.ownerKeys ∧ u.link.chainMode = s.link.chainMode ∧ u.repair.columns = s.repair.columns ∧ u.repair.certs = s.repair.certs ∧
    u.repair.pubKeys = s.repair.pubKeys ∧ (∀ a, spillBase ≤ a → Memory.read u.mem a = Memory.read s.mem a) ∧ (∀ a, a < spillBase → Memory.read u.mem a = 0#8)) ∧
  (∀ (mv : Fin 65001) (s : State), mv.val < 45000 ∨ 62000 < mv.val → s.power.convOn = true →
    ∃ u, exec (.mainInputLoss mv) s = .next u ∧ u.power.convOn = false ∧ u.power.mainOk = false ∧ u.power.auxOn = s.power.auxOn ∧ u.boot = 0 ∧
      u.link.pcieUp = false) ∧
  (∀ (c : Fin 8) (s : State), bitAt (s.g PWR_ICONV_FAILED 0) c.val = false →
    ∃ u, exec (.converterFail c) s = .next u ∧ bitAt (u.g PWR_ICONV_FAILED 0) c.val = true ∧ u.g PWR_STATUS_CONV_FAIL 0 = 1 ∧
      ((s.setG PWR_ICONV_FAILED 0 (setBit (s.g PWR_ICONV_FAILED 0) c.val true)).convs ≤ 3 → ∀ site : Site, u.power.darkWhy.has site.val = true)) ∧
  (∀ (site : Site) (k : Fin 26) (s : State) (n : Nat), s.power.phases.mem (site.val * 32 + k.val) = false →
    n = ({ s with power := { s.power with phases := s.power.phases.add (site.val * 32 + k.val) } } : State).phasesOut site.val →
    ∃ u, exec (.phaseFail site k) s = .next u ∧ u.power.phases.mem (site.val * 32 + k.val) = true ∧ u.g PWR_SSTAT_PH_FAILED site.val = n % 32 ∧
      (11 ≤ n → u.power.darkWhy.has site.val = true)) ∧
  (∀ (site : Site) (s : State), s.power.transitFault.mem site.val = false →
    ∃ u, exec (.transitRegulatorFault site) s = .next u ∧ u.power.transitFault.mem site.val = true ∧ u.logTail = s.logTail + 1)

/-- Spillway, clock stretch, deep droop and the lowest readings. A detector that reads more than SPILL_MV below the set point makes its quadrant's Spillway source and marks the reservoir low until it is recharged; above by as much, it sinks. Below by more than DROOP_MV, the region's clock is stretched, until no tile reads within 10 mV of that. More than FLOOR_MV below, DEEP_DROOP is set for a raise of 16 windows. VMIN_CLEAR from an open path forgets the lowest readings. (spec/10_power_delivery_and_capping.md) -/
def Obligations.DroopResponses : Prop :=
  (∀ (t : Tile) (mv : Fin 1024) (s : State), s.detects t.val = true →
    (mv.val + s.g PWR_DROOP_SPILL_MV 0 < s.vset (quadOf t.val / 4) → ∃ u, exec (.spillwayBoost t mv) s = .next u ∧
      u.out = .spillway (quadOf t.val) true :: s.out ∧ u.g PWR_SSTAT_SPILL_LOW (quadOf t.val / 4) = 1 ∧ u.power.spillBusy.mem (quadOf t.val) = true) ∧
    (s.vset (quadOf t.val / 4) + s.g PWR_DROOP_SPILL_MV 0 < mv.val → exec (.spillwayShunt t mv) s = .next (s.emit (.spillway (quadOf t.val) false))) ∧
    (mv.val + s.g PWR_DROOP_DROOP_MV 0 < s.vset (siteOf t.val) → ∃ u, exec (.clockStretchStart t mv) s = .next u ∧
      u.power.stretching.mem (regionOf t.val) = true)) ∧
  (∀ (q : Quad) (s : State), ∃ u, exec (.spillwayReservoirRecharged q) s = .next u ∧ u.power.spillBusy.mem q.val = false ∧
    u.g PWR_SSTAT_SPILL_LOW (q.val / 4) = b2n (u.power.spillBusy.entries.any (fun e => e.1 / 4 == q.val / 4))) ∧
  (∀ (r : Region) (below : Fin 1024) (s : State), below.val + 10 < s.g PWR_DROOP_DROOP_MV 0 →
    ∃ u, exec (.clockStretchEnd r below) s = .next u ∧ u.power.stretching.mem r.val = false) ∧
  (∀ (site : Site) (pt : Fin 4) (mv : Fin 1024) (s : State), mv.val + s.g PWR_DROOP_FLOOR_MV 0 < s.vset site.val →
    ∃ u, exec (.deepDroop site pt mv) s = .next u ∧ u.g PWR_STATUS_DEEP_DROOP 0 = 1 ∧ u.power.deepWin.get? site.val = some 16 ∧
      u.logTail = s.logTail + 1) ∧
  (∀ (path : Path) (s : State), pageOpen s path false true = true →
    ∃ u, exec (.vminClear path) s = .next u ∧ ∀ k, u.power.vmin.get? k = none)

/-- Requests for quadrant states, transitions and wakes. A request for another state than ACTIVE, for a quadrant whose partition is not busy, is stored. A transition under way ends in its state (OFF, RETAIN, or powered). A wake that waits starts stage 1 when there is room: as a normal ramp when the neighbourhood is quiet, as a slow one when it must or when the wait has expired. A stage advances at its share of the set point. A wake that fails is given up and may be retried after 1 s as a slow ramp; a second failure impairs the quadrant. (spec/10_power_delivery_and_capping.md, spec/13_bringup_reset_repair.md) -/
def Obligations.QuadrantsChangeTheirState : Prop :=
  (∀ (path : Path) (q : Quad) (r : Fin 4) (s : State), pageOpen s path false true = true → r.val ≠ 0 →
    (∀ p, s.quadOwner q.val = some p → s.busyPart p = false) →
    ∃ u, exec (.quadrantPowerRequest path q r) s = .next u ∧ u.qreq q.val = r.val) ∧
  (∀ (q : Quad) (up : List (Fin 256 × Fin 1024 × Fin 64 × Fin 72)) (s : State), (∀ p, (s.part p).starting = none) →
    (∀ st, s.power.wakes.get? q.val = none → s.power.moving.get? q.val = some st → st = qOff ∨ st = qRetain ∨ st = qIdle →
      ∃ u, exec (.quadrantTransitionDone q up) s = .next u ∧ if st = qIdle then u.qstate q.val ≤ 1 else u.qstate q.val = st) ∧
    (∀ w, s.power.wakes.get? q.val = some w → w.stage = 4 → s.alertOn = false →
      ∃ u, exec (.quadrantTransitionDone q up) s = .next u ∧ u.qstate q.val ≤ 1 ∧ u.power.wakeFails.has q.val = false)) ∧
  (∀ (q : Quad) (amps : List (Site × Fin 65536)) (s : State) (w : WakeRun), s.power.wakes.get? q.val = some w → w.stage = 0 →
    (s.readAmps amps).wakeRoom q.val = true → w.slow = true ∨ s.g PWR_WAKE_WAIT_US 0 = 0 ∨ (s.readAmps amps).wakeQuiet q.val = true →
    ∃ u, exec (.wakeStart q amps) s = .next u ∧
      u.power.wakes.get? q.val = some ⟨1, w.slow || decide (s.g PWR_WAKE_WAIT_US 0 = 0), s.ptp⟩) ∧
  (∀ (q : Quad) (s : State) (w : WakeRun), s.power.wakes.get? q.val = some w →
    (w.stage = 0 → w.since + 1000 * s.g PWR_WAKE_WAIT_US 0 ≤ s.ptp → s.wakeRoom q.val = true →
      ∃ u, exec (.wakeWaitExpiry q) s = .next u ∧ u.power.wakes.get? q.val = some ⟨1, true, s.ptp⟩) ∧
    (∀ mv : Fin 1024, 1 ≤ w.stage → w.stage ≤ 3 → s.alertOn = false → wakePct w.stage * s.vset (q.val / 4) ≤ mv.val * 100 →
      ∃ u, exec (.wakeStageAdvance q mv) s = .next u ∧ u.power.wakes.get? q.val = some { w with stage := w.stage + 1, since := s.ptp }) ∧
    (1 ≤ w.stage → s.alertOn = false → w.since + 4 * wakeTime w.stage w.slow ≤ s.ptp →
      ∃ u, exec (.wakeFail q) s = .next u ∧ u.power.wakes.has q.val = false ∧ u.power.wakeFails.get? q.val = some s.ptp ∧
        (s.power.wakeFails.has q.val = true → u.impaired q.val = true))) ∧
  (∀ (q : Quad) (s : State) (t : Nat), s.power.wakeFails.get? q.val = some t → t + 10 ^ 9 ≤ s.ptp → s.impaired q.val = false →
    s.power.wakes.has q.val = false → s.qstate q.val = qOff →
    ∃ u, exec (.wakeRetry q) s = .next u ∧ u.power.wakes.get? q.val = some ⟨0, true, s.ptp⟩)

/-- Supply anomalies, reactive mode, alert divide and the ageing margin. A reading that shows an anomaly sets the quadrant's ANOM bit, and lowers the site's current limit when the bank voltage calls for it. PWR_ALERT starts divide and is counted; its release, with no internal alert, ends divide at once or after the hold. An internal alert starts divide too; its release puts every partition that is not there yet into reactive mode with F = 16. Clearing REACTIVE from an open path ends reactive mode. An ageing measurement never lowers a site's margin. (spec/10_power_delivery_and_capping.md) -/
def Obligations.AlertsAnomaliesAndTheCap : Prop :=
  (∀ (q : Quad) (r : PathReading) (s : State), s.anomalous q.val r = true → ∃ u, exec (.supplyAnomaly q r) s = .next u ∧
    bitAt (u.g PWR_SSTAT_ANOM (q.val / 4)) (q.val % 4) = true ∧ u.g PWR_STATUS_ANOM 0 = 1 ∧
    (950 < r.bankMv.val → r.limit.val < s.power.anomLimit.get (q.val / 4) 720 → u.power.anomLimit.get? (q.val / 4) = some r.limit.val)) ∧
  (∀ (path : Path) (p : Part) (s : State), pageOpen s path false true = true →
    ∃ u, exec (.pwrReactiveClear path p) s = .next u ∧ u.g PWR_PCFG_REACTIVE p.val = 0) ∧
  (∀ s : State, s.flag PWR_ALERT_PIN 0 0 = false → ∃ u, exec .pwrAlertAssert s = .next u ∧ u.g PWR_ALERT_PIN 0 = 1 ∧ u.alertOn = true ∧
    u.g PWR_ALERT_COUNT 0 = satAdd 15 (s.g PWR_ALERT_COUNT 0) 1) ∧
  (∀ s : State, s.flag PWR_ALERT_PIN 0 0 = true → ∃ u, exec .pwrAlertRelease s = .next u ∧ u.g PWR_ALERT_PIN 0 = 0 ∧
    (s.power.internal = false → s.alertOn = true →
      if s.g PWR_ALERT_HOLD_US 0 = 0 then u.alertOn = false else u.alertOn = true ∧ u.power.alertHold = true)) ∧
  (∀ s : State, s.power.alertHold = true → ∃ u, exec .alertHoldExpiry s = .next u ∧ u.alertOn = false ∧ u.power.alertHold = false) ∧
  (∀ (w : Fin 65536) (e : Bool) (s : State), s.power.internal = false → (if e then 34000 else 28000) < w.val →
    ∃ u, exec (.internalAlert w e) s = .next u ∧ u.power.internal = true ∧ u.alertOn = true ∧ u.g PWR_STATUS_INTERNAL_ALERT 0 = 1) ∧
  (∀ (w : Fin 65536) (s : State), s.power.internal = true → w.val < 28000 →
    ∃ u, exec (.internalAlertRelease w) s = .next u ∧ u.power.internal = false ∧
      ∀ p : Part, s.partExists p.val = true → u.flag PWR_PCFG_REACTIVE 0 p.val = true ∧
        (s.flag PWR_PCFG_REACTIVE 0 p.val = false → u.g CSD_PSTRETCH_FACTOR p.val = 16)) ∧
  (∀ (site : Site) (slow : Fin 256) (s : State), ∃ u, exec (.ageingMeasure site slow) s = .next u ∧
    u.power.mAge.get site.val 0 = max (s.power.mAge.get site.val 0) (min 100 (5 * slow.val)) ∧
    u.g PWR_SCFG_AGE_MV site.val = (10 + u.power.mAge.get site.val 0 / 2) % 256)

/-- Thermal resistances, monitors, the forecast and the warming load. In steady state with at least 150 W a site's resistance takes a hundredth of the sample, and none is held below 0, which is the model's choice (log entry 102). REBASE makes the resistances the new base. A monitor stale for too long counts as failed. The forecasts of 1 s, 10 s and 60 s stay within the ramps of the present input power. The warming load stands on those of the named quadrants that may carry it, as many as the thermal allowance leaves room for as the model takes it (log entry 103), while there is no alert, the module is READY and a floor is set. (spec/11_thermal_and_cooling.md) -/
def Obligations.HeatIsMeasured : Prop :=
  (∀ (site : Site) (watts : Fin 65536) (s : State), 150 ≤ watts.val → bitAt (s.g THM_RGSTATE_OFF 0) (regionOfSite site.val) = false →
    s.flag THM_STEMP_STALE 0 site.val = false →
    ∃ u, exec (.thetaUpdate site watts true) s = .next u ∧
      u.theta site.val = ((99 * (s.theta site.val : Int) +
        ((5 * s.g THM_STEMP_TS site.val : Nat) - (s.g THM_COOL_T_IN 0 : Nat) : Int) * 50000 / (watts.val : Int)) / 100).toNat) ∧
  (∀ (path : Path) (s : State), pageOpen s path false true = true →
    ∃ u, exec (.rebase path) s = .next u ∧ ∀ site : Site, u.g THM_STHETA_BASE site.val = s.g THM_STHETA_THETA site.val) ∧
  (∀ (t : Tile) (s : State),
    (s.thermal.staleMon.mem t.val = true → s.qstate (quadOf t.val) ≤ 1 → ∃ u, exec (.monitorStaleTimeout false t) s = .next u ∧
      u.thermal.failedMon.mem t.val = true) ∧
    (s.thermal.staleMon.mem (baseMon (t.val % 224)) = true → s.qstate (t.val % 224) ≤ 1 → ∃ u, exec (.monitorStaleTimeout true t) s = .next u ∧
      u.thermal.failedMon.mem (baseMon (t.val % 224)) = true)) ∧
  (∀ (changes : List (Part × Bool × Fin 60001)) (s : State), ∃ u, exec (.forecastUpdate changes) s = .next u ∧
    ∀ i sec, (i, sec) ∈ [(0, 1), (1, 10), (2, 60)] →
      u.g THM_FCST_MEAN_W i ≤ s.g PWR_IN_P_PIN_W 0 + 100 * sec * s.g THM_RAMP_RAMP_UP 0 ∧
      s.g PWR_IN_P_PIN_W 0 - 100 * sec * s.g THM_RAMP_RAMP_DN 0 ≤ u.g THM_FCST_MEAN_W i ∧
      u.g THM_FCST_MAX_W i ≤ s.g PWR_IN_P_PIN_W 0 + 100 * sec * s.g THM_RAMP_RAMP_UP 0) ∧
  (∀ (quads : List Quad) (w : Fin 61) (s : State), ∃ u, exec (.warmingRotate quads w) s = .next u ∧
    u.g THM_STATUS_FLOOR_SHORT 0 = b2n (decide (s.boot = 4) && decide (s.g PWR_IN_P_PIN_W 0 < s.g THM_FLOOR_FLOOR_W 0)) ∧
    ∀ q : Quad, u.thermal.warming.mem q.val =
      (!s.alertOn && decide (s.boot = 4) && decide (0 < s.g THM_FLOOR_FLOOR_W 0) &&
        (((quads.map (·.val)).filter s.mayWarm).take (s.warmRoom (w.val / 5 * 5))).contains q.val))

/-- Junction, stack, coolant and leak protections, their ends, releases and regions switched off. Above JLIMIT a site's episode begins; 10 K above, its partitions run at F = 64 for 16 windows; a diode at 110 °C makes the site dark until SITE_RELEASE finds it cool. Stacks above 85 °C refresh faster, above 95 °C lower the allowance; a hot inlet or a low flow raises COOLANT. A shutdown condition, or a leak with LEAK_STOP, stops the converters. An episode whose condition is clear ends. REGION_OFF switches off a region whose partitions are idle, and REGION_ON brings it back. (spec/11_thermal_and_cooling.md) -/
def Obligations.HeatProtections : Prop :=
  (∀ (site : Site) (s : State),
    (s.jlimit < s.g THM_STEMP_TS site.val → ∃ u, exec (.junctionOverLimit site) s = .next u ∧ u.thermal.episodes.mem (epKey 0 site.val) = true ∧
      u.thermal.overLimit.mem site.val = true) ∧
    (s.jlimit + 40 < s.g THM_STEMP_TS site.val → ∃ u, exec (.junctionHot site) s = .next u ∧ u.thermal.episodes.mem (epKey 1 site.val) = true ∧
      u.power.hotWin.get? site.val = some 16 ∧
      ∀ p : Part, s.runs p.val = true → site.val ∈ s.partSites p.val → u.g CSD_PSTRETCH_FACTOR p.val = 64)) ∧
  (∀ (t : Tile) (raw : Fin 1024) (s : State), 440 ≤ raw.val → bitAt (s.g THM_RGSTATE_OFF 0) (regionOfSite (siteOf t.val)) = false →
    s.power.darkWhy.has (siteOf t.val) = false →
    ∃ u, exec (.junctionTrip t raw) s = .next u ∧ u.power.darkWhy.get? (siteOf t.val) = some 2 ∧ u.thermal.episodes.mem (epKey 2 (siteOf t.val)) = true) ∧
  (∀ (h : Stack) (t : Fin 256) (s : State),
    (85 < t.val → ∃ u, exec (.stackHot85 h t) s = .next u ∧ u.g THM_HTEMP_T h.val = t.val ∧ u.g THM_HTEMP_EXT_REFRESH h.val = 1 ∧
      u.thermal.episodes.mem (epKey 3 63) = true) ∧
    (95 < t.val → ∃ u, exec (.stackHot95 h t) s = .next u ∧ u.g THM_HTEMP_T h.val = t.val ∧ u.thermal.episodes.mem (epKey 4 63) = true)) ∧
  (∀ (v : Fin 65536) (s : State),
    (20 * s.g THM_COOLCFG_INLET_MAX 0 < v.val → ∃ u, exec (.inletHigh v) s = .next u ∧ u.g THM_COOL_T_IN 0 = v.val ∧ u.g THM_STATUS_COOLANT 0 = 1 ∧
      u.thermal.episodes.mem (epKey 5 63) = true) ∧
    (v.val < 2 * s.g THM_COOLCFG_FLOW_MIN 0 → ∃ u, exec (.flowLow v) s = .next u ∧ u.g THM_FLOW_FLOW 0 = v.val ∧ u.g THM_STATUS_COOLANT 0 = 1 ∧
      u.thermal.episodes.mem (epKey 6 63) = true)) ∧
  (∀ (tIn tOut flow : Fin 65536) (h : Stack) (t : Fin 256) (s : State), 960 < tIn.val ∨ 1300 < tOut.val ∨ flow.val < 60 ∨ 105 ≤ t.val →
    ∃ u, exec (.moduleThermalShutdown tIn tOut flow h t) s = .next u ∧ u.power.convOn = false ∧ u.thermal.shutdown = true ∧
      u.thermal.episodes.mem (epKey 7 63) = true) ∧
  (∀ s : State, ∃ u, exec .leakSensed s = .next u ∧ u.g THM_STATUS_LEAK 0 = 1 ∧ u.thermal.episodes.mem (epKey 8 63) = true ∧
    (s.flag THM_CFG_LEAK_STOP 0 0 = true → u.power.convOn = false)) ∧
  (∀ (c : Fin 9) (k : Fin 64) (s : State), s.thermal.episodes.mem (epKey c.val k.val) = true → s.condClear c.val k.val = true →
    ∃ u, exec (.thermalEpisodeEnd c k) s = .next u ∧ u.thermal.episodes.mem (epKey c.val k.val) = false) ∧
  (∀ (path : Path) (site : Fin 64) (s : State), pageOpen s path false true = true → site.val < 56 → s.power.darkWhy.get? site.val = some 2 →
    s.g THM_STEMP_TS site.val ≤ s.jlimit - 60 → (∀ k, k < 4 → s.baseOf (site.val * 4 + k) ≤ s.jlimit - 60) →
    ∃ u, exec (.siteRelease path site) s = .next u ∧ u.power.darkWhy.has site.val = false ∧ u.g THM_SPLIM_K site.val = 50) ∧
  (∀ (path : Path) (r : Region) (s : State), pageOpen s path false true = true →
    (bitAt (s.g THM_RGREQ_REQ 0) r.val = false → s.regionIdle r.val = true → ∃ u, exec (.regionOff path r) s = .next u ∧
      bitAt (u.g THM_RGREQ_REQ 0) r.val = true ∧ bitAt (u.g THM_RGSTATE_OFF 0) r.val = true) ∧
    (∃ u, exec (.regionOn path r) s = .next u ∧ bitAt (u.g THM_RGREQ_REQ 0) r.val = false ∧ bitAt (u.g THM_RGSTATE_OFF 0) r.val = false))

/-- PCI Express, bus mastering, integrity checks and Ethernet. Outside BOOT, with its rim die working, the PCI Express link comes up with its speed, width and FLIT mode, and goes down. VF Enable and Bus Master Enable are stored while the link is up. A TLP that fails its check is recorded and the read that it would have completed fails. An enabled Ethernet port comes up and goes down. A frame with a bad codeword or of no use is counted, and an address resolution or an echo is answered. (spec/14_external_interfaces.md) -/
def Obligations.LinksAndFrames : Prop :=
  (∀ (sp : Fin 7) (l : Fin 5) (f : Bool) (s : State), s.boot ≠ 0 → s.rimUp 0 = true → s.link.pcieUp = false → sp.val ≠ 0 →
    ∃ u, exec (.pcieLinkUp sp l f) s = .next u ∧ u.link.pcieUp = true ∧ u.g PCI_LINK_SPEED 0 = sp.val ∧ u.g PCI_LINK_WIDTH 0 = 2 ^ l.val ∧
      u.g PCI_LINK_FLIT 0 = b2n f) ∧
  (∀ s : State, ∃ u, exec .pcieLinkDown s = .next u ∧ u.link.pcieUp = false) ∧
  (∀ (on : Bool) (s : State), s.link.pcieUp = true → ∃ u, exec (.busMasterEnableChange (.vfEnable on)) s = .next u ∧ u.link.vfEnable = on) ∧
  (∀ (fn : Fin 65) (on : Bool) (s : State), s.link.pcieUp = true → fn.val = 0 ∨ s.link.vfEnable = true →
    ∃ u, exec (.busMasterEnableChange (.busMaster fn on)) s = .next u ∧ u.link.busMaster.mem fn.val = on) ∧
  (∀ (x : IdeRead) (s : State), s.link.pcieUp = true → exec (.ideCheckFail x) s = match x with
    | .none => .next (s.secRecord 0x7004)
    | .prompt r => exec (.promptReadDone r none) (s.secRecord 0x7004)
    | .resume r => exec (.resumeReady r none true) (s.secRecord 0x7004)
    | .shard p k => exec (.shardFetchError p k) (s.secRecord 0x7004)) ∧
  (∀ (n : Fin 4) (s : State),
    (s.boot ≠ 0 → s.rimUp (rimOfPort n.val) = true → s.flag NET_PCFG_EN 0 n.val = true →
      ∃ u, exec (.ethPortUp n) s = .next u ∧ bitAt (u.g NET_STATUS_LINK 0) n.val = true) ∧
    (∃ u, exec (.ethPortDown n) s = .next u ∧ bitAt (u.g NET_STATUS_LINK 0) n.val = false) ∧
    (bitAt (s.g NET_STATUS_LINK 0) n.val = true → ∀ f : EthFrame,
      exec (.ethFrame n f) s = .next (
        if f.codewordBad then s.addReg NET_FEC_UNC_COUNT 0 n.val 1
        else if s.frameUsed n.val f = false then s.addReg NET_PDROP_COUNT 0 n.val 1
        else if f.kind.val = 1 ∨ f.kind.val = 3 ∨ f.kind.val = 4 ∨ f.kind.val = 5 then s.emit (.frame n.val f.kind.val) else s)))

/-- Precision time. An exchange with the selected master, or a pulse per second of at least 50 ns, locks PTP time: an offset of up to 1 ms is slewed, a larger one is stepped at once. A loss of lock clears LOCKED and the slew. (spec/14_external_interfaces.md) -/
def Obligations.TimeFollowsItsSource : Prop :=
  (∀ (n : Fin 4) (d : Fin 256) (tr : Fin 4) (ofs : Int) (rate : Fin 65536) (s : State), s.flag NET_PTP_EN 0 0 = true → s.flag NET_PTP_SRC 0 0 = false →
    s.g NET_PTP_PORT 0 = n.val → s.g NET_PTP_DOMAIN 0 = d.val → s.g NET_PTP_TRANSPORT 0 = tr.val → bitAt (s.g NET_STATUS_LINK 0) n.val = true →
    ∃ u, exec (.ptpMessage n d tr ofs rate) s = .next u ∧ u.g NET_STATUS_PTP_LOCKED 0 = 1 ∧ u.g NET_PTP_OFS_OFS 0 = ofsWord ofs ∧
      if ofs.natAbs ≤ 1000000 then u.link.slew = -ofs ∧ u.ptp = s.ptp else u.link.slew = 0 ∧ u.ptp = ((s.ptp : Int) - ofs).toNat) ∧
  (∀ (ns : Fin 1000000000) (s : State), s.power.auxOn = true → s.flag NET_PTP_EN 0 0 = true → s.flag NET_PTP_SRC 0 0 = true → 50 ≤ ns.val →
    ∃ u, exec (.ppsInPulse ns) s = .next u ∧ u.g NET_STATUS_PTP_LOCKED 0 = 1 ∧ u.link.todNew = false ∧
      if ((s.ptp : Int) - (s.pulseSecond * 1000000000 : Nat)).natAbs ≤ 1000000 then
        u.link.slew = -((s.ptp : Int) - (s.pulseSecond * 1000000000 : Nat)) ∧ u.ptp = s.ptp
      else u.link.slew = 0 ∧ u.ptp = s.pulseSecond * 1000000000) ∧
  (∀ s : State, s.g NET_STATUS_PTP_LOCKED 0 = 1 →
    ∃ u, exec .ptpLockLoss s = .next u ∧ u.g NET_STATUS_PTP_LOCKED 0 = 0 ∧ u.link.slew = 0 ∧ u.logTail = s.logTail + 1)

/-- Training, flits, acknowledgements and lanes of Aqueduct ports. A port in service that is down starts to train with every lane; one whose training takes too long is down. A peer with major version 1 and a good signature is authenticated, and the port is quiet, up or at half rate as peer and lanes allow; without that version the port is down. A good flit of the expected number advances it, a bad one is answered with a NAK. An unacknowledged flit of 10 µs makes the port train again and keep its flits. A first failing lane is replaced by the spare; with fewer lanes the port runs at half rate, and with fewer than four it is down. (spec/14_external_interfaces.md) -/
def Obligations.AqueductPortsTrainAndRetry : Prop :=
  (∀ (n : Site) (s : State), s.portOn n.val = true → s.pstat n.val = apDown →
    ∃ u, exec (.aqdTrainRetry n) s = .next u ∧ u.pstat n.val = apTraining ∧ (u.aport n.val).laneFailed.entries = [] ∧ u.g AQD_PSTAT_SPARE_USED n.val = 0) ∧
  (∀ (n : Site) (s : State), s.pstat n.val = apTraining → ∃ u, exec (.aqdRetrainTimeout n) s = .next u ∧ u.pstat n.val = apDown) ∧
  (∀ (n : Site) (peer : LinkPeer) (s : State), s.portOn n.val = true → s.pstat n.val = apTraining →
    ((peer.majors.map (·.val)).contains 1 = true → peer.signed = true → ∃ u, exec (.aqdLinkMessage n peer) s = .next u ∧
      (u.aport n.val).authed = true ∧ (u.aport n.val).peerId = peer.deviceId.val ∧ u.g AQD_PSTAT_PEER_OK n.val = b2n (u.peerFits n.val) ∧
      u.pstat n.val = (if u.peerFits n.val then (if (u.aport n.val).good < 8 then apFour else apUp) else apQuiet)) ∧
    ((peer.majors.map (·.val)).contains 1 = false → ∃ u, exec (.aqdLinkMessage n peer) s = .next u ∧ u.pstat n.val = apDown)) ∧
  (∀ (n : Site) (f : AqdFlit) (s : State), s.portStands n.val = true →
    (f.crcOk = false → exec (.aqdFlitReceive n f) s = .next (s.sendNak n.val)) ∧
    (f.crcOk = true → f.ftype.val = 1 ∨ f.ftype.val = 3 → f.fseq.val = (s.aport n.val).expect → ∃ u, exec (.aqdFlitReceive n f) s = .next u ∧
      (u.aport n.val).expect = nextFseq (s.aport n.val).expect)) ∧
  (∀ (n : Site) (s : State), s.portStands n.val = true → (s.aport n.val).kept ≠ [] →
    ∃ u, exec (.aqdAckTimeout n) s = .next u ∧ u.pstat n.val = apTraining ∧ (u.aport n.val).retrain = true ∧ (u.aport n.val).kept = (s.aport n.val).kept) ∧
  (∀ (n : Site) (l : Fin 9) (passes : Bool) (s : State), s.portStands n.val = true → ((s.usedLanes n.val).map (s.laneMap n.val)).contains l.val = true →
    ((s.aport n.val).laneFailed.entries = [] → ∃ u, exec (.aqdLaneSwap n l passes) s = .next u ∧ (u.aport n.val).laneFailed.mem l.val = !passes ∧
      u.g AQD_PSTAT_SPARE_USED n.val = b2n (!passes) ∧ u.pstat n.val = s.pstat n.val) ∧
    ((s.aport n.val).laneFailed.entries ≠ [] → ∃ u, exec (.aqdLaneSwap n l passes) s = .next u ∧
      u.pstat n.val = (if ({ s.aport n.val with laneFailed := (s.aport n.val).laneFailed.add l.val } : AqdPort).good < 4 then apDown
        else if s.pstat n.val = apQuiet then apQuiet else apFour)))

/-- Rows and messages between the modules of a chain, and marks. A STREAM that names an EMPTY inbound row of a chained partition and whose CRC holds fills it, and is acknowledged. A member binds a shadow entry and notes the ends; the head takes results and lost positions, the lowest of them; a stop makes a running partition of the set STOPPING. A DACK or DBUSY frees its tag and answers the row. A mark on the mark port is noted and ends the wait of a partition that it releases; a wait that lasts too long stops the partition with STOPR 3. (spec/14_external_interfaces.md) -/
def Obligations.ChainMessagesAreTaken : Prop :=
  (∀ (n : Site) (tag : Fin 65536) (dt : Fin 1048576) (row : Fin 1024) (crc : Word32) (data : List Byte) (s : State) (t p : Nat), s.carries n.val = true →
    tileOfAddr dt.val = some t → s.owner t = some p → s.chained p = true → s.inWin t row.val = true → crc32c data = crc.toNat → s.tag t row.val = 0 →
    s.sliceUp t = true → ∃ u, exec (.aqdStream n tag dt row crc data) s = .next u ∧ u.tag t row.val = 1 ∧ Out.aqueduct n.val 3 0 [tag.val] ∈ u.out) ∧
  (∀ (n : Site) (tag : Fin 65536) (p : Part) (h : Req) (s : State), s.carries n.val = true → s.chainMember p.val = true →
    (∀ (lc lp : Fin 4294967296) (q : Fin 65536) (slot : Fin 1024) (r : Nat), s.shadowOf p.val h.val = some r →
      ∃ u, exec (.aqdBind n tag p h lc lp q slot) s = .next u ∧ u.link.shadowEnt.get? (p.val * 65536 + h.val) = some r ∧
        Out.aqueduct n.val 3 0 [tag.val] ∈ u.out) ∧
    (∃ u, exec (.aqdEnd n tag p h) s = .next u ∧ (u.part p.val).chainEnds.mem h.val = true ∧ Out.aqueduct n.val 3 0 [tag.val] ∈ u.out)) ∧
  (∀ (n : Site) (tag : Fin 65536) (p : Part) (s : State), s.carries n.val = true → s.chainHead p.val = true →
    (∀ (slot : Fin 1024) (row : Option (List Byte)), ∃ u, exec (.aqdResult n tag p slot row) s = .next u ∧
      (u.part p.val).chainRes = (s.part p.val).chainRes.filter (fun c => c.1 != slot.val) ++ [(slot.val, row.getD [])]) ∧
    (∀ (h : Req) (pos : Fin 4294967296), ∃ u, exec (.aqdLost n tag p h pos) s = .next u ∧
      (u.part p.val).chainLost.get? h.val = some (min pos.val ((s.part p.val).chainLost.get h.val pos.val)))) ∧
  (∀ (n : Site) (tag : Fin 65536) (p : Part) (s : State), s.carries n.val = true → s.chained p.val = true → s.runs p.val = true →
    (s.part p.val).phase ≠ .ready → ∃ u, exec (.aqdStop n tag p) s = .next u ∧ u.pstate p.val = psStopping ∧ (u.part p.val).setStop = true) ∧
  (∀ (n : Site) (tag : Fin 65536) (s : State) (t r i : Nat) (k : Packet), (s.aport n.val).asked.get? tag.val = some (t, r) → s.rowPacket t r = some (i, k) →
    (∃ u, exec (.aqdDack n tag) s = .next u ∧ (u.aport n.val).asked.has tag.val = false ∧ u.flight = s.flight.set i { k with done := true } ∧
      u.out = .answer k.src k.row 0 :: s.out) ∧
    (∃ u, exec (.aqdDbusy n tag true) s = .next u ∧ (u.aport n.val).asked.has tag.val = false ∧ u.flight = s.flight.eraseIdx i ∧
      u.out = .answer k.src k.row 2 :: s.out) ∧
    (∃ u, exec (.aqdDbusy n tag false) s = .next u ∧ (u.aport n.val).asked.has tag.val = false ∧ u.flight = s.flight ∧
      u.out = .answer k.src k.row 1 :: s.out)) ∧
  (∀ (n : Site) (c : Fin 65536) (h p : Part) (k ptp : Fin 18446744073709551616) (s : State) (g : ChainPlan), s.link.plan = some g → s.carries n.val = true →
    g.markPort = n.val → g.chainId = c.val → s.chained p.val = true →
    ∃ u, exec (.aqdMark n c h p k ptp) s = .next u ∧ u.link.markSeen.get? p.val = some (max (k.val + 1) (s.link.markSeen.get p.val 0)) ∧
      (s.link.chainIdx.get p.val 0 ≤ k.val + 1 → u.link.markWait.has p.val = false)) ∧
  (∀ (p : Part) (s : State) (since : Nat), s.link.markWait.get? p.val = some since → since + 1000 * s.g AQD_CHAIN_MARK_TO_US 0 ≤ s.ptp →
    (s.part p.val).install = none →
    ∃ u, exec (.markTimeout p) s = .next u ∧ u.pstate p.val = psReady ∧ u.g LD_PSTATE_STOPR p.val = 3 ∧ u.link.markWait.has p.val = false)

/-- Ownership, sessions, measurements, fabric mode and the chain plan. An unowned module takes its first owner key on the management bus, in a session whose requester is not known. Inside a session with an owner key an empty slot is filled, a slot is emptied unless it holds the last key, the lock is set, and with no partition left the ownership, the publisher keys, the plan and the lock are released; with nothing running the fabric mode and a valid chain plan are stored. A session opens in a free place of its path, as an owner's where the key is one; with four open it is refused with 0x7005. A session ends when it is closed or its heartbeat is lost. A measurement is answered inside any session. (spec/14_external_interfaces.md) -/
def Obligations.OwnersAndSessions : Prop :=
  (∀ (k : Fin 4) (key : OwnerKey) (s : State) (x : Session), s.spdmUp .mgmt = true → s.link.sessions.get? (4 + k.val) = some x → x.known = false →
    s.owned = false → s.answers = true → ∃ u, exec (.takeOwnership .mgmt k key) s = .next u ∧
      u.link.ownerKeys.get? 0 = some (key.psk, key.key.val) ∧ u.out = .spdm 0 [] :: s.out) ∧
  (∀ (path : Path) (s : State), ownerOpen s path = true →
    (∀ (n : Fin 4) (key : OwnerKey), s.link.ownerKeys.has n.val = false → ∃ u, exec (.enrollOwner path n key) s = .next u ∧
      u.link.ownerKeys.get? n.val = some (key.psk, key.key.val) ∧ u.out = .spdm 0 [] :: s.out) ∧
    (∀ n : Fin 4, (s.link.ownerKeys.del n.val).entries ≠ [] → ∃ u, exec (.revokeOwner path n) s = .next u ∧
      u.link.ownerKeys.has n.val = false ∧ u.out = .spdm 0 [] :: s.out) ∧
    (∃ u, exec (.sessionLock path) s = .next u ∧ u.link.locked = true ∧ u.out = .spdm 0 [] :: s.out) ∧
    ((∀ p, p < 64 → s.partExists p = false) → ∃ u, exec (.releaseOwnership path) s = .next u ∧ u.link.ownerKeys.entries = [] ∧ u.link.plan = none ∧
      u.link.locked = false ∧ u.repair.pubKeys.entries = []) ∧
    (∀ chained : Bool, s.anyBusy = false → (chained = true → s.feature 2 = true) → ∃ u, exec (.setFabricMode path chained) s = .next u ∧
      u.link.chainMode = chained ∧ u.g AQD_CTRL_MODE 0 = b2n chained) ∧
    (∀ (image : List Byte) (g : ChainPlan), s.anyBusy = false → parsePlan image = some g → g.ok = true →
      ∃ u, exec (.setChainPlan path image) s = .next u ∧ u.link.plan = some g ∧ u.g AQD_CTRL_PLAN_VALID 0 = 1)) ∧
  (∀ (path : Path) (ask : SessionAsk) (s : State), s.spdmUp path = true →
    (∀ k x, s.sessPlace path = some k → s.judgeAsk ask = some x → ∃ u, exec (.sessionOpen path ask) s = .next u ∧
      u.link.sessions.get? k = some x ∧ u.out = .spdm 0 [] :: s.out) ∧
    (s.sessPlace path = none → ∃ u, exec (.sessionOpen path ask) s = .next u ∧ u.link.sessions = s.link.sessions ∧ u.logTail = s.logTail + 1) ∧
    (∀ i : Fin 256, s.sessCount path ≠ 0 → (path = .mgmt → s.answers = true) → i.val ≠ 0 → i.val ≤ 11 ∨ (16 ≤ i.val ∧ i.val < 80) →
      exec (.getMeasurements path i) s = .next (s.emit (.spdm 0 [i.val, s.measurement i.val])))) ∧
  (∀ (k : Fin 8) (s : State), s.link.sessions.has k.val = true →
    (∃ u, exec (.sessionClose k) s = .next u ∧ u.link.sessions.has k.val = false) ∧
    (∃ u, exec (.sessionHeartbeatLoss k) s = .next u ∧ u.link.sessions.has k.val = false ∧ u.logTail = s.logTail + 1))

/-- Register writes and reads over the host and the management bus. A legal write of CSD_WSTEP by an owner's path goes into its shadow and leaves the value in force; with byte enables that do not cover the word a write of a page only counts, and so does a write of a word of the Basin page table in BAR2, in the STW page (the model's choice, log entry 98). A management message reads and writes the same registers, and with another version than 1 is refused with a record. SEC_NEG.MAJOR takes version 1 and reads 0 after any other. INT_ENABLE and INT_PEN take their value, of which a virtual function sets bits 1 and 2. ERR_INJECT takes a KIND that its page lists. A read of DATA0 copies the record at IDX, a read of DATA7 advances IDX, and a read of a low word latches the high word. (spec/15_register_pages.md, spec/00_scope.md) -/
def Obligations.RegisterAccesses : Prop :=
  (∀ (path : Path) (v : Word32) (s : State), path = .pf ∨ path = .mgmt → ownerAccess s path = true → 511 ≤ bits v.toNat 15 0 → s.wstepBad (bits v.toNat 15 0) = false →
    (∃ u, exec (.registerWrite path 0x8048 v 15 none) s = .next u ∧ u.shadows.get? (CSD_WSTEP_LEN.key 0 0) = some (bits v.toNat 15 0) ∧
      u.g CSD_WSTEP_LEN 0 = s.g CSD_WSTEP_LEN 0) ∧
    (path = .mgmt → ∃ u, exec (.mgmtRegisterAccess 1 0x8048 (some v)) s = .next u ∧ u.shadows.get? (CSD_WSTEP_LEN.key 0 0) = some (bits v.toNat 15 0) ∧
      u.g CSD_WSTEP_LEN 0 = s.g CSD_WSTEP_LEN 0)) ∧
  (∀ (path : Path) (o : Fin 335544320) (v : Word32) (en : Fin 16) (pg : Page) (off : Nat) (s : State), accessOpen s path = true → en.val ≠ 15 →
    o.val < 67108864 → s.regPlace path (o.val / 4 * 4) = .page pg off → exec (.registerWrite path o v en none) s = .next (s.addReg (HDR_ERR_COUNT pg) (hdrInst path 0 pg) 0 1)) ∧
  (∀ (o : Fin 335544320) (k : Nat) (v : Word32) (s : State), accessOpen s .pf = true → o.val = 0x8000000 + 4 * k → k < 0x200000 →
    exec (.registerWrite .pf o v 15 none) s = .next (s.addReg (HDR_ERR_COUNT .stw) 0 0 1)) ∧
  (∀ (o : Fin 67108864) (s : State) (pg : Page) (off : Nat), accessOpen s .mgmt = true → s.regPlace .mgmt (o.val / 4 * 4) = .page pg off →
    (∃ u, exec (.mgmtRegisterAccess 1 o none) s = .next u ∧ u.out = .readData (bytesOf 4 (s.pageRead .mgmt 0 pg off).1) false :: s.out) ∧
    (∀ (ver : Fin 65536) (w : Option Word32), ver.val ≠ 1 → ∃ u, exec (.mgmtRegisterAccess ver o w) s = .next u ∧ u.logTail = s.logTail + 1 ∧
      u.out.head? = some (.spdm 1 []))) ∧
  (∀ (path : Path) (m : Fin 65536) (s : State), accessOpen s path = true →
    ∃ u, exec (.secNegWrite path m) s = .next u ∧ u.reg SEC_NEG_MAJOR (fnOf path) 0 = if m.val = 1 then 1 else 0) ∧
  (∀ (path : Path) (w : Fin 3) (v : Word32) (s : State), path = .pf ∨ path = .mgmt → ownerAccess s path = true →
    ∃ u, exec (.intEnableWrite path w v) s = .next u ∧
      if w.val = 0 then u.reg INT_ENABLE_ENABLE 0 0 = bits v.toNat 7 0 else u.g INT_PEN_PEN (w.val - 1) = v.toNat) ∧
  (∀ (q : Part) (v : Word32) (s : State), accessOpen s (.vf q) = true → s.negotiated (.vf q) = true →
    ∃ u, exec (.intEnableWrite (.vf q) 0 v) s = .next u ∧ u.reg INT_ENABLE_ENABLE (q.val + 1) 0 = Nat.land (bits v.toNat 7 0) 6) ∧
  (∀ (path : Path) (kind : Fin 256) (pg : Page) (s : State), path = .pf ∨ path = .mgmt → ownerAccess s path = true → s.link.locked = false →
    (injectKinds pg).contains kind.val = true →
    (∀ k : Fin 15, globalPages[k.val]? = some pg → ∃ u, exec (.errInject path (.global k) kind) s = .next u ∧ u.reg (HDR_ERR_INJECT pg) 0 0 = kind.val) ∧
    (∀ (t : Tile) (k : Fin 7), tilePages[k.val]? = some pg → s.sliceUp t.val = true → s.inReset t.val = false →
      ∃ u, exec (.errInject path (.tile t k) kind) s = .next u ∧ u.reg (HDR_ERR_INJECT pg) t.val 0 = kind.val)) ∧
  (∀ (path : Path) (s : State), accessOpen s path = true →
    (∃ u, exec (.errLogData0Read path) s = .next u ∧ ∀ i, i < 8 →
      u.reg ERR_LOG_DATA (fnOf path) i = (s.logWords path (s.logIdx (fnOf path))).getD i 0 % 2 ^ 32) ∧
    (∃ u, exec (.errLogData7Read path) s = .next u ∧ u.logIdx (fnOf path) = (s.logIdx (fnOf path) + 1) % 2 ^ 64) ∧
    (∀ (o : Fin 67108864) (pg : Page) (off h : Nat), s.regPlace path (o.val / 4 * 4) = .page pg off → hiOf pg off = some h → sees path pg off = true →
      ∃ u, exec (.splitCountLoRead path o) s = .next u ∧ u.latch.get? (latchKey (fnOf path) pg h) = some (s.pageWord path 0 pg h) ∧
        u.out = .readData (bytesOf 4 (s.pageWord path 0 pg off)) false :: s.out))

/-- A command of a tile's unit changes no other tile. A command of an array, a matrix, vector or Confluence unit of a tile, or the end of one, leaves the registers and stores that every other tile holds beside its register pages as they were. (spec/02_compute_in_memory_arrays.md, spec/04_engines_attention_sampling.md, spec/05_basin_scratchpad.md) -/
def Obligations.UnitCommandsStayInTheirTile : Prop :=
  ∀ (c : Instr) (s t : State) (x y : Nat), unitTile c = some y → x ≠ y → exec c s = .next t → t.tile x = s.tile x

/-- Link, session, power and heat commands leave the work of tiles and partitions. The commands of links, time, ownership and sessions leave tiles, partitions, requests, pages, packets, links between tiles, calibration and counts as they were, and with them the power and thermal state; the commands that watch power and heat leave the same things, and with them sessions, owner keys and the chain plan. (spec/10_power_delivery_and_capping.md, spec/11_thermal_and_cooling.md, spec/14_external_interfaces.md) -/
def Obligations.LinkAndWatchCommandsLeaveTheWork : Prop :=
  ∀ (c : Instr) (s t : State), exec c s = .next t →
    (linkCommand c = true → sameWork s t ∧ t.power = s.power ∧ t.thermal = s.thermal) ∧
    (watchCommand c = true → sameWork s t ∧ t.link.sessions = s.link.sessions ∧ t.link.ownerKeys = s.link.ownerKeys ∧ t.link.plan = s.link.plan ∧
      t.ptp = s.ptp)
end

