-- ==== Sys2Proof/Laws/Maps.lean ====
section
/-! SUPPORT. Sparse maps and the byte memory: what a read gives after each operation, and that every operation keeps the canonical form. -/

namespace Sys2Proof.Machine

/-! ### Lookup after an operation -/

theorem lookupList_putList {α : Type} (k : Nat) (v : α) (l : List (Nat × α)) (j : Nat) :
    lookupList (putList k v l) j = if k = j then some v else lookupList l j := by
  induction l with
  | nil => rfl
  | cons e r ih =>
    obtain ⟨k', v'⟩ := e
    simp only [putList]
    split
    · rfl
    · split
      · subst_vars; simp only [lookupList]; split <;> rfl
      · simp only [lookupList, ih]
        split <;> split <;> first | rfl | omega

theorem lookupList_delList {α : Type} (k : Nat) (l : List (Nat × α)) (j : Nat) :
    lookupList (delList k l) j = if k = j then none else lookupList l j := by
  induction l with
  | nil => simp [delList, lookupList]
  | cons e r ih =>
    obtain ⟨k', v'⟩ := e
    simp only [delList]
    split
    · rw [ih]; subst_vars; simp only [lookupList]; split <;> rfl
    · simp only [lookupList, ih]
      split <;> split <;> first | rfl | omega


@[simp] theorem Map.get_put_same {α : Type} (m : Map α) (k : Nat) (v d : α) : (m.put k v).get k d = v := by
  simp [Map.get, Map.put, lookupList_putList]
theorem Map.get_put {α : Type} (m : Map α) (k j : Nat) (v d : α) : (m.put k v).get j d = if k = j then v else m.get j d := by
  simp only [Map.get, Map.put, lookupList_putList]; split <;> rfl
theorem Map.get_put_other {α : Type} {k j : Nat} (h : k ≠ j) (m : Map α) (v d : α) : (m.put k v).get j d = m.get j d := by
  rw [Map.get_put, if_neg h]
@[simp] theorem Map.get?_put_same {α : Type} (m : Map α) (k : Nat) (v : α) : (m.put k v).get? k = some v := by
  simp [Map.get?, Map.put, lookupList_putList]
theorem Map.get?_put {α : Type} (m : Map α) (k j : Nat) (v : α) : (m.put k v).get? j = if k = j then some v else m.get? j := by
  simp only [Map.get?, Map.put, lookupList_putList]
@[simp] theorem Map.has_put_same {α : Type} (m : Map α) (k : Nat) (v : α) : (m.put k v).has k = true := by
  simp [Map.has]
theorem Map.has_put {α : Type} (m : Map α) (k j : Nat) (v : α) : (m.put k v).has j = (decide (k = j) || m.has j) := by
  simp only [Map.has, Map.get?_put]; split <;> simp_all
@[simp] theorem Map.get_del_same {α : Type} (m : Map α) (k : Nat) (d : α) : (m.del k).get k d = d := by
  simp [Map.get, Map.del, lookupList_delList]
theorem Map.get_del {α : Type} (m : Map α) (k j : Nat) (d : α) : (m.del k).get j d = if k = j then d else m.get j d := by
  simp only [Map.get, Map.del, lookupList_delList]; split <;> rfl
@[simp] theorem Map.get?_del_same {α : Type} (m : Map α) (k : Nat) : (m.del k).get? k = none := by
  simp [Map.get?, Map.del, lookupList_delList]
theorem Map.get?_del {α : Type} (m : Map α) (k j : Nat) : (m.del k).get? j = if k = j then none else m.get? j := by
  simp only [Map.get?, Map.del, lookupList_delList]
theorem Map.has_del {α : Type} (m : Map α) (k j : Nat) : (m.del k).has j = (decide (k ≠ j) && m.has j) := by
  simp only [Map.has, Map.get?_del]; split <;> simp_all
@[simp] theorem Map.get_empty {α : Type} (k : Nat) (d : α) : (Map.empty : Map α).get k d = d := rfl
@[simp] theorem Map.get?_empty {α : Type} (k : Nat) : (Map.empty : Map α).get? k = none := rfl
@[simp] theorem Map.has_empty {α : Type} (k : Nat) : (Map.empty : Map α).has k = false := rfl
@[simp] theorem Map.get?_mapVal {α : Type} (m : Map α) (f : Nat → α → α) (k : Nat) : (m.mapVal f).get? k = (m.get? k).map (f k) := by
  unfold Map.get? Map.mapVal
  induction m.entries with
  | nil => rfl
  | cons e l ih =>
    obtain ⟨a, v⟩ := e
    show (if a = k then some (f a v) else _) = Option.map (f k) (if a = k then some v else _)
    split
    · subst_vars; rfl
    · exact ih
/-- A key that a test on keys refuses is not listed. -/
theorem Map.get?_keep_none {α : Type} (m : Map α) (p : Nat → α → Bool) (k : Nat) (h : ∀ v, p k v = false) : (m.keep p).get? k = none := by
  unfold Map.get? Map.keep
  induction m.entries with
  | nil => rfl
  | cons e l ih =>
    obtain ⟨a, v⟩ := e
    rw [List.filter_cons]
    split
    · rename_i g
      show (if a = k then some v else _) = none
      rw [if_neg (fun e => by subst e; rw [h v] at g; cases g)]
      exact ih
    · exact ih
theorem Map.get_eq {α : Type} (m : Map α) (k : Nat) (d : α) : m.get k d = (m.get? k).getD d := rfl

/-! ### Keys that are listed -/

theorem Map.has_of_put {α : Type} {m : Map α} {k j : Nat} {v : α} (h : (m.put k v).has j = true) : j = k ∨ m.has j = true := by
  rw [Map.has_put] at h
  by_cases e : k = j
  · exact Or.inl e.symm
  · exact Or.inr (by simpa [e] using h)
theorem Map.has_of_del {α : Type} {m : Map α} {k j : Nat} (h : (m.del k).has j = true) : m.has j = true := by
  rw [Map.has_del] at h
  simp only [Bool.and_eq_true] at h
  exact h.2
theorem lookupList_filter_some {α : Type} (p : Nat × α → Bool) (k : Nat) (l : List (Nat × α)) :
    (lookupList (l.filter p) k).isSome = true → (lookupList l k).isSome = true := by
  induction l with
  | nil => exact id
  | cons e r ih =>
    intro h
    simp only [lookupList]
    split
    · rfl
    · refine ih ?_
      by_cases g : p e = true
      · simpa [List.filter_cons, g, lookupList, *] using h
      · simpa [List.filter_cons, g] using h
theorem Map.has_of_keep {α : Type} {m : Map α} {p : Nat → α → Bool} {j : Nat} (h : (m.keep p).has j = true) : m.has j = true :=
  lookupList_filter_some _ _ _ h

/-! ### Canonical form -/


/-- Fewer demands on the first key. -/
theorem risingFrom_le {α : Type} {lo lo' : Nat} (h : lo' ≤ lo) {l : List (Nat × α)} (w : risingFrom lo l = true) : risingFrom lo' l = true := by
  cases l with
  | nil => rfl
  | cons e r =>
    simp only [risingFrom, Bool.and_eq_true, decide_eq_true_eq] at *
    exact ⟨by omega, w.2⟩

theorem risingFrom_putList {α : Type} (k : Nat) (v : α) (l : List (Nat × α)) :
    ∀ lo, lo ≤ k → risingFrom lo l = true → risingFrom lo (putList k v l) = true := by
  induction l with
  | nil => intro lo h _; simp [putList, risingFrom, h]
  | cons e r ih =>
    obtain ⟨k', v'⟩ := e
    intro lo h w
    simp only [risingFrom, Bool.and_eq_true, decide_eq_true_eq] at w
    simp only [putList]
    split
    · simp only [risingFrom, Bool.and_eq_true, decide_eq_true_eq]
      exact ⟨h, by omega, w.2⟩
    · split
      · simp only [risingFrom, Bool.and_eq_true, decide_eq_true_eq]
        subst_vars; exact ⟨h, w.2⟩
      · simp only [risingFrom, Bool.and_eq_true, decide_eq_true_eq]
        exact ⟨w.1, ih (k' + 1) (by omega) w.2⟩

theorem risingFrom_delList {α : Type} (k : Nat) (l : List (Nat × α)) :
    ∀ lo, risingFrom lo l = true → risingFrom lo (delList k l) = true := by
  induction l with
  | nil => intro lo _; rfl
  | cons e r ih =>
    obtain ⟨k', v'⟩ := e
    intro lo w
    simp only [risingFrom, Bool.and_eq_true, decide_eq_true_eq] at w
    simp only [delList]
    split
    · exact risingFrom_le (by omega) (ih _ w.2)
    · simp only [risingFrom, Bool.and_eq_true, decide_eq_true_eq]
      exact ⟨w.1, ih _ w.2⟩

theorem risingFrom_filter {α : Type} (p : Nat × α → Bool) (l : List (Nat × α)) :
    ∀ lo, risingFrom lo l = true → risingFrom lo (l.filter p) = true := by
  induction l with
  | nil => intro lo _; rfl
  | cons e r ih =>
    obtain ⟨k', v'⟩ := e
    intro lo w
    simp only [risingFrom, Bool.and_eq_true, decide_eq_true_eq] at w
    simp only [List.filter_cons]
    split
    · simp only [risingFrom, Bool.and_eq_true, decide_eq_true_eq]
      exact ⟨w.1, ih _ w.2⟩
    · exact risingFrom_le (by omega) (ih _ w.2)

theorem Map.put_wf {α : Type} {m : Map α} (h : m.wf = true) (k : Nat) (v : α) : (m.put k v).wf = true :=
  risingFrom_putList k v m.entries 0 (Nat.zero_le k) h
theorem Map.del_wf {α : Type} {m : Map α} (h : m.wf = true) (k : Nat) : (m.del k).wf = true := risingFrom_delList k m.entries 0 h
theorem Map.keep_wf {α : Type} {m : Map α} (h : m.wf = true) (p : Nat → α → Bool) : (m.keep p).wf = true :=
  risingFrom_filter (fun e => p e.1 e.2) m.entries 0 h
@[simp] theorem Map.empty_wf {α : Type} : (Map.empty : Map α).wf = true := rfl

/-! ### Memory -/

theorem noZero_putList (k : Nat) (v : BitVec 8) (hv : v ≠ 0#8) (l : List Host.Cell) (w : noZero l = true) : noZero (putList k v l) = true := by
  induction l with
  | nil => simpa [putList, noZero] using hv
  | cons e r ih =>
    obtain ⟨k', v'⟩ := e
    simp only [noZero, Bool.and_eq_true, decide_eq_true_eq] at w
    simp only [putList]
    split
    · simp only [noZero, Bool.and_eq_true, decide_eq_true_eq]; exact ⟨hv, w.1, w.2⟩
    · split
      · simp only [noZero, Bool.and_eq_true, decide_eq_true_eq]; exact ⟨hv, w.2⟩
      · simp only [noZero, Bool.and_eq_true, decide_eq_true_eq]; exact ⟨w.1, ih w.2⟩

theorem noZero_delList (k : Nat) (l : List Host.Cell) (w : noZero l = true) : noZero (delList k l) = true := by
  induction l with
  | nil => rfl
  | cons e r ih =>
    obtain ⟨k', v'⟩ := e
    simp only [noZero, Bool.and_eq_true, decide_eq_true_eq] at w
    simp only [delList]
    split
    · exact ih w.2
    · simp only [noZero, Bool.and_eq_true, decide_eq_true_eq]; exact ⟨w.1, ih w.2⟩

theorem noZero_filter (p : Host.Cell → Bool) (l : List Host.Cell) (w : noZero l = true) : noZero (l.filter p) = true := by
  induction l with
  | nil => rfl
  | cons e r ih =>
    obtain ⟨k', v'⟩ := e
    simp only [noZero, Bool.and_eq_true, decide_eq_true_eq] at w
    simp only [List.filter_cons]
    split
    · simp only [noZero, Bool.and_eq_true, decide_eq_true_eq]; exact ⟨w.1, ih w.2⟩
    · exact ih w.2

theorem Memory.wf_iff (m : Memory) : Memory.wf m = true ↔ Map.wf m = true ∧ noZero m.entries = true := by
  simp [Memory.wf]
theorem Memory.empty_wf : Memory.wf Map.empty = true := rfl
theorem Memory.write_wf {m : Memory} (h : Memory.wf m = true) (a : Nat) (v : Byte) : Memory.wf (Memory.write m a v) = true := by
  rw [Memory.wf_iff] at *
  unfold Memory.write
  split
  · exact ⟨Map.del_wf h.1 a, noZero_delList a _ h.2⟩
  · exact ⟨Map.put_wf h.1 a v, noZero_putList a v ‹_› _ h.2⟩
theorem Memory.keep_wf {m : Memory} (h : Memory.wf m = true) (p : Nat → BitVec 8 → Bool) : Memory.wf (m.keep p) = true := by
  rw [Memory.wf_iff] at *
  exact ⟨Map.keep_wf h.1 p, noZero_filter _ _ h.2⟩
theorem Memory.zero_wf {m : Memory} (h : Memory.wf m = true) (a n : Nat) : Memory.wf (Memory.zero m a n) = true := Memory.keep_wf h _
theorem Memory.writeBytes_wf (l : List Byte) : ∀ {m : Memory} (_ : Memory.wf m = true) (a : Nat), Memory.wf (Memory.writeBytes m a l) = true := by
  induction l with
  | nil => intro m h a; exact h
  | cons b r ih => intro m h a; exact ih (Memory.write_wf h a b) (a + 1)
theorem Memory.writeLE_wf (n : Nat) : ∀ {m : Memory} (_ : Memory.wf m = true) (a v : Nat), Memory.wf (Memory.writeLE m a n v) = true := by
  induction n with
  | zero => intro m h a v; exact h
  | succ n ih => intro m h a v; exact ih (Memory.write_wf h a _) (a + 1) (v / 256)
theorem Memory.foldl_wf {β : Type} (f : Memory → β → Memory) (hf : ∀ m b, Memory.wf m = true → Memory.wf (f m b) = true) (l : List β) :
    ∀ {m : Memory}, Memory.wf m = true → Memory.wf (l.foldl f m) = true := by
  induction l with
  | nil => intro m h; exact h
  | cons b r ih => intro m h; exact ih (hf m b h)
theorem Memory.copy_wf {m : Memory} (h : Memory.wf m = true) (src dst n : Nat) : Memory.wf (Memory.copy m src dst n) = true :=
  Memory.foldl_wf _ (fun _ e w => Memory.write_wf w (dst + (e.1 - src)) e.2) _ (Memory.zero_wf h dst n)

/-- Reading after a write gives the byte written there, and what was there before elsewhere. -/
theorem Memory.read_write (m : Memory) (a b : Nat) (v : Byte) : Memory.read (Memory.write m a v) b = if a = b then v else Memory.read m b := by
  unfold Memory.read Memory.write
  split
  · rw [Map.get_del]; split <;> simp_all
  · rw [Map.get_put]
/-- A run of bytes written leaves every other address alone. -/
theorem Memory.read_writeBytes_outside (l : List Byte) : ∀ (m : Memory) (a b : Nat), b < a ∨ a + l.length ≤ b →
    Memory.read (Memory.writeBytes m a l) b = Memory.read m b := by
  induction l with
  | nil => intro m a b _; rfl
  | cons x r ih =>
    intro m a b h
    simp only [List.length_cons] at h
    rw [Memory.writeBytes, ih _ _ _ (by omega), Memory.read_write, if_neg (by omega)]
/-- And holds the bytes written in its place. -/
theorem Memory.read_writeBytes_inside (l : List Byte) : ∀ (m : Memory) (a k : Nat) (h : k < l.length),
    Memory.read (Memory.writeBytes m a l) (a + k) = l[k] := by
  induction l with
  | nil => intro m a k h; simp at h
  | cons x r ih =>
    intro m a k h
    rw [Memory.writeBytes]
    cases k with
    | zero => rw [Memory.read_writeBytes_outside _ _ _ _ (by omega), Memory.read_write, if_pos (by omega)]; rfl
    | succ k =>
      have := ih (Memory.write m a x) (a + 1) k (by simpa using h)
      rw [show a + (k + 1) = a + 1 + k by omega]; simpa using this
/-- A run of zeros reads zero, and every other address as before. -/
theorem lookupList_filter {α : Type} (q : Nat → Bool) (l : List (Nat × α)) (k : Nat) :
    lookupList (l.filter (fun e => q e.1)) k = if q k then lookupList l k else none := by
  induction l with
  | nil => simp [lookupList]
  | cons e r ih =>
    obtain ⟨k', v'⟩ := e
    simp only [List.filter_cons]
    split
    · simp only [lookupList, ih]
      by_cases h : k' = k
      · subst h; simp_all
      · simp [h]
    · rw [ih]; simp only [lookupList]
      by_cases h : k' = k
      · subst h; simp_all
      · simp [h]
theorem Memory.read_zero (m : Memory) (a n b : Nat) : Memory.read (Memory.zero m a n) b = if a ≤ b ∧ b < a + n then 0#8 else Memory.read m b := by
  unfold Memory.read Memory.zero Map.get Map.keep
  have := lookupList_filter (fun k => decide (k < a) || decide (a + n ≤ k)) m.entries b
  simp only [this]
  split <;> split <;> simp_all
  omega

end Sys2Proof.Machine
end

