-- ==== Sys2Proof/Laws/Follows.lean ====
section
/-! SUPPORT. What every command does to the parts of the state that the invariants speak of, as one relation: `Follows a s` says that `s`
can come after `a`. For each operation of a file Machine/<Name>.lean, the file Laws/<Name>.lean says once that it keeps the relation. -/

namespace Sys2Proof.Machine

open Sys2Proof.Safety (logLegal)

/-- `s` may come after `a`: the queue is the same; memory in canonical form, sessions and the log stay legal. -/
structure Follows (a s : State) : Prop where
  pending : s.pending = a.pending
  mem : Memory.wf a.mem = true → Memory.wf s.mem = true
  sess : Safety.sessionsLegal a → Safety.sessionsLegal s
  log : logLegal a → logLegal s

/-- The same of an outcome, and of a state that an operation may give. -/
def FollowsO (a : State) (o : Host.Outcome State Fault Refusal) : Prop := ∃ t, o = .next t ∧ Follows a t
def FollowsOpt (a : State) (o : Option State) : Prop := ∀ t, o = some t → Follows a t

theorem Follows.refl {a : State} : Follows a a := ⟨Eq.refl _, id, id, id⟩
theorem Follows.trans {a b c : State} (h : Follows a b) (k : Follows b c) : Follows a c :=
  ⟨k.1.trans h.1, k.2 ∘ h.2, k.3 ∘ h.3, k.4 ∘ h.4⟩
theorem Follows.ite {a u v : State} {c : Prop} [Decidable c] (hu : Follows a u) (hv : Follows a v) : Follows a (if c then u else v) := by
  split <;> assumption
theorem FollowsO.ite {a : State} {u v : Host.Outcome State Fault Refusal} {c : Prop} [Decidable c] (hu : FollowsO a u) (hv : FollowsO a v) :
    FollowsO a (if c then u else v) := by
  split <;> assumption
theorem FollowsOpt.ite {a : State} {u v : Option State} {c : Prop} [Decidable c] (hu : FollowsOpt a u) (hv : FollowsOpt a v) :
    FollowsOpt a (if c then u else v) := by
  split <;> assumption
theorem FollowsO.next {a s : State} (h : Follows a s) : FollowsO a (.next s) := ⟨s, Eq.refl _, h⟩
theorem FollowsOpt.some {a s : State} (h : Follows a s) : FollowsOpt a (some s) := fun t e => by injection e with e; subst e; exact h
theorem FollowsOpt.none {a : State} : FollowsOpt a none := fun t e => by cases e
theorem FollowsOpt.getD {a s : State} {o : Option State} (ho : FollowsOpt a o) (h : Follows a s) : Follows a (o.getD s) := by
  cases o with
  | none => exact h
  | some t => exact ho t (Eq.refl _)

/-- A memory stays in canonical form. -/
def MemOk (a : State) (m : Memory) : Prop := Memory.wf a.mem = true → Memory.wf m = true

theorem Follows.memOk {a s : State} (h : Follows a s) : MemOk a s.mem := h.2
theorem MemOk.write {a : State} {m : Memory} (h : MemOk a m) {k : Nat} {v : Byte} : MemOk a (Memory.write m k v) := fun w => Memory.write_wf (h w) k v
theorem MemOk.writeBytes {a : State} {m : Memory} (h : MemOk a m) {k : Nat} {l : List Byte} : MemOk a (Memory.writeBytes m k l) :=
  fun w => Memory.writeBytes_wf l (h w) k
theorem MemOk.writeLE {a : State} {m : Memory} (h : MemOk a m) {k n v : Nat} : MemOk a (Memory.writeLE m k n v) :=
  fun w => Memory.writeLE_wf n (h w) k v
theorem MemOk.zero {a : State} {m : Memory} (h : MemOk a m) {k n : Nat} : MemOk a (Memory.zero m k n) := fun w => Memory.zero_wf (h w) k n
theorem MemOk.copy {a : State} {m : Memory} (h : MemOk a m) {k d n : Nat} : MemOk a (Memory.copy m k d n) := fun w => Memory.copy_wf (h w) k d n
theorem MemOk.keep {a : State} {m : Memory} (h : MemOk a m) {p : Nat → BitVec 8 → Bool} : MemOk a (m.keep p) := fun w => Memory.keep_wf (h w) p
theorem MemOk.ite {a : State} {u v : Memory} {c : Prop} [Decidable c] (hu : MemOk a u) (hv : MemOk a v) : MemOk a (if c then u else v) := by
  split <;> assumption
theorem MemOk.foldl {a : State} {β : Type} {f : Memory → β → Memory} (hf : ∀ m b, MemOk a m → MemOk a (f m b)) {l : List β} {m : Memory}
    (h : MemOk a m) : MemOk a (l.foldl f m) := by
  induction l generalizing m with
  | nil => exact h
  | cons b r ih => exact ih (hf m b h)

/-- A change that leaves the queue, the sessions, the owner keys and the log alone. -/
theorem Follows.same {a s t : State} (h : Follows a s) (hp : t.pending = s.pending) (hm : MemOk a t.mem)
    (h1 : t.link.sessions = s.link.sessions) (h2 : t.link.ownerKeys = s.link.ownerKeys) (h3 : t.log = s.log) (h4 : t.logTail = s.logTail) :
    Follows a t := by
  refine ⟨hp.trans h.pending, hm, fun w => ?_, fun w => ?_⟩
  · have := h.sess w
    unfold Safety.sessionsLegal at this ⊢
    rw [h1, h2]
    exact this
  · have := h.log w
    unfold logLegal at this ⊢
    rw [h3, h4]
    exact this

/-- Folds keep it. -/
theorem foldl_follows {a : State} {β : Type} {f : State → β → State} (hf : ∀ s b, Follows a s → Follows a (f s b)) {l : List β} :
    ∀ {s : State}, Follows a s → Follows a (l.foldl f s) := by
  induction l with
  | nil => intro s h; exact h
  | cons b r ih => intro s h; exact ih (hf s b h)
theorem foldl_follows1 {a : State} {β γ : Type} {f : State × γ → β → State × γ} (hf : ∀ s b, Follows a s.1 → Follows a (f s b).1) {l : List β} :
    ∀ {s : State × γ}, Follows a s.1 → Follows a (l.foldl f s).1 := by
  induction l with
  | nil => intro s h; exact h
  | cons b r ih => intro s h; exact ih (hf s b h)
theorem foldl_follows2 {a : State} {β γ : Type} {f : γ × State → β → γ × State} (hf : ∀ s b, Follows a s.2 → Follows a (f s b).2) {l : List β} :
    ∀ {s : γ × State}, Follows a s.2 → Follows a (l.foldl f s).2 := by
  induction l with
  | nil => intro s h; exact h
  | cons b r ih => intro s h; exact ih (hf s b h)

theorem foldl_follows22 {a : State} {β γ δ : Type} {f : γ × δ × State → β → γ × δ × State}
    (hf : ∀ s b, Follows a s.2.2 → Follows a (f s b).2.2) {l : List β} : ∀ {s : γ × δ × State}, Follows a s.2.2 → Follows a (l.foldl f s).2.2 := by
  induction l with
  | nil => intro s h; exact h
  | cons b r ih => intro s h; exact ih (hf s b h)

end Sys2Proof.Machine
end

