-- ==== Sys2Proof/Laws/Frames.lean ====
section
/-! SUPPORT. Two more relations that the files Laws/<Name>.lean prove of the operations: `MemSame a s`, no byte of memory differs; `Beside a s`, what
lies outside the tiles, their registers and the records stays as it was. -/

namespace Sys2Proof.Machine

/-- The memory is the same. -/
structure MemSame (a s : State) : Prop where
  mem : s.mem = a.mem
def MemSameO (a : State) (o : Host.Outcome State Fault Refusal) : Prop := ∃ t, o = .next t ∧ MemSame a t
def MemSameOpt (a : State) (o : Option State) : Prop := ∀ t, o = some t → MemSame a t

theorem MemSame.refl {a : State} : MemSame a a := ⟨Eq.refl _⟩
theorem MemSame.ite {a u v : State} {c : Prop} [Decidable c] (hu : MemSame a u) (hv : MemSame a v) : MemSame a (if c then u else v) := by
  split <;> assumption
theorem MemSameO.ite {a : State} {u v : Host.Outcome State Fault Refusal} {c : Prop} [Decidable c] (hu : MemSameO a u) (hv : MemSameO a v) :
    MemSameO a (if c then u else v) := by
  split <;> assumption
theorem MemSameOpt.ite {a : State} {u v : Option State} {c : Prop} [Decidable c] (hu : MemSameOpt a u) (hv : MemSameOpt a v) :
    MemSameOpt a (if c then u else v) := by
  split <;> assumption
theorem MemSameO.next {a s : State} (h : MemSame a s) : MemSameO a (.next s) := ⟨s, Eq.refl _, h⟩
theorem MemSameOpt.some {a s : State} (h : MemSame a s) : MemSameOpt a (some s) := fun t e => by injection e with e; subst e; exact h
theorem MemSameOpt.none {a : State} : MemSameOpt a none := fun t e => by cases e
theorem MemSameOpt.getD {a s : State} {o : Option State} (ho : MemSameOpt a o) (h : MemSame a s) : MemSame a (o.getD s) := by
  cases o with
  | none => exact h
  | some t => exact ho t (Eq.refl _)
theorem MemSame.same {a s t : State} (h : MemSame a s) (h1 : t.mem = s.mem) : MemSame a t := ⟨h1.trans h.mem⟩
theorem MemSame.read {s t : State} (h : MemSame s t) (a : Nat) : Memory.read t.mem a = Memory.read s.mem a := by rw [h.mem]
theorem foldl_memSame {a : State} {β : Type} {f : State → β → State} (hf : ∀ s b, MemSame a s → MemSame a (f s b)) {l : List β} :
    ∀ {s : State}, MemSame a s → MemSame a (l.foldl f s) := by
  induction l with
  | nil => intro s h; exact h
  | cons b r ih => intro s h; exact ih (hf s b h)
theorem foldl_memSame1 {a : State} {β γ : Type} {f : State × γ → β → State × γ} (hf : ∀ s b, MemSame a s.1 → MemSame a (f s b).1) {l : List β} :
    ∀ {s : State × γ}, MemSame a s.1 → MemSame a (l.foldl f s).1 := by
  induction l with
  | nil => intro s h; exact h
  | cons b r ih => intro s h; exact ih (hf s b h)
theorem foldl_memSame2 {a : State} {β γ : Type} {f : γ × State → β → γ × State} (hf : ∀ s b, MemSame a s.2 → MemSame a (f s b).2) {l : List β} :
    ∀ {s : γ × State}, MemSame a s.2 → MemSame a (l.foldl f s).2 := by
  induction l with
  | nil => intro s h; exact h
  | cons b r ih => intro s h; exact ih (hf s b h)

/-- What lies beside the tiles is the same. -/
structure Beside (a s : State) : Prop where
  all : Safety.besideTiles a s
def BesideO (a : State) (o : Host.Outcome State Fault Refusal) : Prop := ∃ t, o = .next t ∧ Beside a t
def BesideOpt (a : State) (o : Option State) : Prop := ∀ t, o = some t → Beside a t

theorem Beside.refl {a : State} : Beside a a := ⟨by simp [Safety.besideTiles]⟩
theorem Beside.ite {a u v : State} {c : Prop} [Decidable c] (hu : Beside a u) (hv : Beside a v) : Beside a (if c then u else v) := by
  split <;> assumption
theorem BesideO.ite {a : State} {u v : Host.Outcome State Fault Refusal} {c : Prop} [Decidable c] (hu : BesideO a u) (hv : BesideO a v) :
    BesideO a (if c then u else v) := by
  split <;> assumption
theorem BesideOpt.ite {a : State} {u v : Option State} {c : Prop} [Decidable c] (hu : BesideOpt a u) (hv : BesideOpt a v) :
    BesideOpt a (if c then u else v) := by
  split <;> assumption
theorem BesideO.next {a s : State} (h : Beside a s) : BesideO a (.next s) := ⟨s, Eq.refl _, h⟩
theorem BesideOpt.some {a s : State} (h : Beside a s) : BesideOpt a (some s) := fun t e => by injection e with e; subst e; exact h
theorem BesideOpt.none {a : State} : BesideOpt a none := fun t e => by cases e
theorem BesideOpt.getD {a s : State} {o : Option State} (ho : BesideOpt a o) (h : Beside a s) : Beside a (o.getD s) := by
  cases o with
  | none => exact h
  | some t => exact ho t (Eq.refl _)
theorem Beside.same {a s t : State} (h : Beside a s) (h1 : t.reqs = s.reqs) (h2 : t.pages = s.pages) (h3 : t.power = s.power)
    (h4 : t.thermal = s.thermal) (h5 : t.repair = s.repair) (h6 : t.express = s.express) (h7 : t.laneOwner = s.laneOwner)
    (h8 : t.treeMsgs = s.treeMsgs) (h9 : t.shadows = s.shadows) (h10 : t.wcount = s.wcount) (h11 : t.ptp = s.ptp) (h12 : t.submits = s.submits)
    (h13 : t.stewardHome = s.stewardHome) (h14 : t.rootHome = s.rootHome) (h15 : t.link.sessions = s.link.sessions)
    (h16 : t.link.ownerKeys = s.link.ownerKeys) (h17 : t.link.plan = s.link.plan) : Beside a t := by
  have := h.all
  simp only [Safety.besideTiles] at this
  refine ⟨?_⟩
  simp only [Safety.besideTiles, h1, h2, h3, h4, h5, h6, h7, h8, h9, h10, h11, h12, h13, h14, h15, h16, h17]
  exact this
theorem foldl_beside {a : State} {β : Type} {f : State → β → State} (hf : ∀ s b, Beside a s → Beside a (f s b)) {l : List β} :
    ∀ {s : State}, Beside a s → Beside a (l.foldl f s) := by
  induction l with
  | nil => intro s h; exact h
  | cons b r ih => intro s h; exact ih (hf s b h)
theorem foldl_beside1 {a : State} {β γ : Type} {f : State × γ → β → State × γ} (hf : ∀ s b, Beside a s.1 → Beside a (f s b).1) {l : List β} :
    ∀ {s : State × γ}, Beside a s.1 → Beside a (l.foldl f s).1 := by
  induction l with
  | nil => intro s h; exact h
  | cons b r ih => intro s h; exact ih (hf s b h)
theorem foldl_beside2 {a : State} {β γ : Type} {f : γ × State → β → γ × State} (hf : ∀ s b, Beside a s.2 → Beside a (f s b).2) {l : List β} :
    ∀ {s : γ × State}, Beside a s.2 → Beside a (l.foldl f s).2 := by
  induction l with
  | nil => intro s h; exact h
  | cons b r ih => intro s h; exact ih (hf s b h)

end Sys2Proof.Machine
end

