-- ==== Sys2Proof/Laws/Regs.lean ====
section
/-! SUPPORT. What the operations of Machine/Regs.lean keep: one lemma for each, by the lemmas of those that it calls. -/

namespace Sys2Proof.Machine

open Sys2Proof

theorem State.setReg_follows {pre : State} {s : State} (fo : Follows pre s) {f : Fld} {inst : Nat} {i : Nat} {v : Nat} : Follows pre (s.setReg f inst i v) := by
  unfold State.setReg
  exact fo.same (Eq.refl _) fo.mem (Eq.refl _) (Eq.refl _) (Eq.refl _) (Eq.refl _)

theorem State.setG_follows {pre : State} {s : State} (fo : Follows pre s) {f : Fld} {i : Nat} {v : Nat} : Follows pre (s.setG f i v) := by
  unfold State.setG
  exact State.setReg_follows fo

theorem State.addReg_follows {pre : State} {s : State} (fo : Follows pre s) {f : Fld} {inst : Nat} {i : Nat} {d : Nat} : Follows pre (s.addReg f inst i d) := by
  unfold State.addReg
  exact State.setReg_follows fo

theorem State.orReg_follows {pre : State} {s : State} (fo : Follows pre s) {f : Fld} {inst : Nat} {i : Nat} {v : Nat} : Follows pre (s.orReg f inst i v) := by
  unfold State.orReg
  exact State.setReg_follows fo

theorem State.resetReg_follows {pre : State} {s : State} (fo : Follows pre s) {f : Fld} {inst : Nat} {i : Nat} : Follows pre (s.resetReg f inst i) := by
  unfold State.resetReg
  exact fo.same (Eq.refl _) fo.mem (Eq.refl _) (Eq.refl _) (Eq.refl _) (Eq.refl _)

theorem State.resetPage_follows {pre : State} {s : State} (fo : Follows pre s) {p : Page} {inst : Nat} : Follows pre (s.resetPage p inst) := by
  unfold State.resetPage
  extract_lets s1 s2
  exact fo.same (Eq.refl _) fo.mem (Eq.refl _) (Eq.refl _) (Eq.refl _) (Eq.refl _)

theorem State.setTile_follows {pre : State} {s : State} (fo : Follows pre s) {t : Nat} {x : TileSt} : Follows pre (s.setTile t x) := by
  unfold State.setTile
  exact fo.same (Eq.refl _) fo.mem (Eq.refl _) (Eq.refl _) (Eq.refl _) (Eq.refl _)

theorem State.updTile_follows {pre : State} {s : State} (fo : Follows pre s) {t : Nat} {f : TileSt → TileSt} : Follows pre (s.updTile t f) := by
  unfold State.updTile
  exact State.setTile_follows fo

theorem State.setPart_follows {pre : State} {s : State} (fo : Follows pre s) {p : Nat} {x : PartSt} : Follows pre (s.setPart p x) := by
  unfold State.setPart
  exact fo.same (Eq.refl _) fo.mem (Eq.refl _) (Eq.refl _) (Eq.refl _) (Eq.refl _)

theorem State.updPart_follows {pre : State} {s : State} (fo : Follows pre s) {p : Nat} {f : PartSt → PartSt} : Follows pre (s.updPart p f) := by
  unfold State.updPart
  exact State.setPart_follows fo

theorem State.setReq_follows {pre : State} {s : State} (fo : Follows pre s) {r : Nat} {x : ReqSt} : Follows pre (s.setReq r x) := by
  unfold State.setReq
  exact fo.same (Eq.refl _) fo.mem (Eq.refl _) (Eq.refl _) (Eq.refl _) (Eq.refl _)

theorem State.updReq_follows {pre : State} {s : State} (fo : Follows pre s) {r : Nat} {f : ReqSt → ReqSt} : Follows pre (s.updReq r f) := by
  unfold State.updReq
  exact State.setReq_follows fo

theorem State.setPage_follows {pre : State} {s : State} (fo : Follows pre s) {n : Nat} {e : PageEnt} : Follows pre (s.setPage n e) := by
  unfold State.setPage
  exact fo.same (Eq.refl _) fo.mem (Eq.refl _) (Eq.refl _) (Eq.refl _) (Eq.refl _)

theorem State.emit_follows {pre : State} {s : State} (fo : Follows pre s) {o : Out} : Follows pre (s.emit o) := by
  unfold State.emit
  exact fo.same (Eq.refl _) fo.mem (Eq.refl _) (Eq.refl _) (Eq.refl _) (Eq.refl _)

theorem State.setMem_follows {pre : State} {s : State} (fo : Follows pre s) {m : Memory} (fom : MemOk pre m) : Follows pre (s.setMem m) := by
  unfold State.setMem
  exact fo.same (Eq.refl _) fom (Eq.refl _) (Eq.refl _) (Eq.refl _) (Eq.refl _)

theorem State.takeFree_follows {pre : State} {s : State} (fo : Follows pre s) : Follows pre s.takeFree.snd := by
  unfold State.takeFree
  dsimp only
  exact fo.same (Eq.refl _) fo.mem (Eq.refl _) (Eq.refl _) (Eq.refl _) (Eq.refl _)

theorem State.forEach_follows {pre : State} {s : State} (fo : Follows pre s) {l : List Nat} {f : State → Nat → State} (fof : ∀ (a : State) (a_1 : Nat), Follows pre a → Follows pre (f a a_1)) : Follows pre (s.forEach l f) := by
  unfold State.forEach
  apply foldl_follows
  · intro x1 x2 h1
    apply fof
    · exact h1
  · exact fo

/-! ### Operations that leave memory alone -/

theorem State.setReg_memSame {pre : State} {s : State} (fo : MemSame pre s) {f : Fld} {inst : Nat} {i : Nat} {v : Nat} : MemSame pre (s.setReg f inst i v) := by
  unfold State.setReg
  exact fo.same (Eq.refl _)

theorem State.setG_memSame {pre : State} {s : State} (fo : MemSame pre s) {f : Fld} {i : Nat} {v : Nat} : MemSame pre (s.setG f i v) := by
  unfold State.setG
  exact State.setReg_memSame fo

theorem State.addReg_memSame {pre : State} {s : State} (fo : MemSame pre s) {f : Fld} {inst : Nat} {i : Nat} {d : Nat} : MemSame pre (s.addReg f inst i d) := by
  unfold State.addReg
  exact State.setReg_memSame fo

theorem State.orReg_memSame {pre : State} {s : State} (fo : MemSame pre s) {f : Fld} {inst : Nat} {i : Nat} {v : Nat} : MemSame pre (s.orReg f inst i v) := by
  unfold State.orReg
  exact State.setReg_memSame fo

theorem State.resetReg_memSame {pre : State} {s : State} (fo : MemSame pre s) {f : Fld} {inst : Nat} {i : Nat} : MemSame pre (s.resetReg f inst i) := by
  unfold State.resetReg
  exact fo.same (Eq.refl _)

theorem State.resetPage_memSame {pre : State} {s : State} (fo : MemSame pre s) {p : Page} {inst : Nat} : MemSame pre (s.resetPage p inst) := by
  unfold State.resetPage
  extract_lets s1 s2
  exact fo.same (Eq.refl _)

theorem State.setTile_memSame {pre : State} {s : State} (fo : MemSame pre s) {t : Nat} {x : TileSt} : MemSame pre (s.setTile t x) := by
  unfold State.setTile
  exact fo.same (Eq.refl _)

theorem State.updTile_memSame {pre : State} {s : State} (fo : MemSame pre s) {t : Nat} {f : TileSt → TileSt} : MemSame pre (s.updTile t f) := by
  unfold State.updTile
  exact State.setTile_memSame fo

theorem State.setPart_memSame {pre : State} {s : State} (fo : MemSame pre s) {p : Nat} {x : PartSt} : MemSame pre (s.setPart p x) := by
  unfold State.setPart
  exact fo.same (Eq.refl _)

theorem State.updPart_memSame {pre : State} {s : State} (fo : MemSame pre s) {p : Nat} {f : PartSt → PartSt} : MemSame pre (s.updPart p f) := by
  unfold State.updPart
  exact State.setPart_memSame fo

theorem State.setReq_memSame {pre : State} {s : State} (fo : MemSame pre s) {r : Nat} {x : ReqSt} : MemSame pre (s.setReq r x) := by
  unfold State.setReq
  exact fo.same (Eq.refl _)

theorem State.updReq_memSame {pre : State} {s : State} (fo : MemSame pre s) {r : Nat} {f : ReqSt → ReqSt} : MemSame pre (s.updReq r f) := by
  unfold State.updReq
  exact State.setReq_memSame fo

theorem State.setPage_memSame {pre : State} {s : State} (fo : MemSame pre s) {n : Nat} {e : PageEnt} : MemSame pre (s.setPage n e) := by
  unfold State.setPage
  exact fo.same (Eq.refl _)

theorem State.emit_memSame {pre : State} {s : State} (fo : MemSame pre s) {o : Out} : MemSame pre (s.emit o) := by
  unfold State.emit
  exact fo.same (Eq.refl _)

theorem State.takeFree_memSame {pre : State} {s : State} (fo : MemSame pre s) : MemSame pre s.takeFree.snd := by
  unfold State.takeFree
  dsimp only
  exact fo.same (Eq.refl _)

theorem State.forEach_memSame {pre : State} {s : State} (fo : MemSame pre s) {l : List Nat} {f : State → Nat → State} (fof : ∀ (a : State) (a_1 : Nat), MemSame pre a → MemSame pre (f a a_1)) : MemSame pre (s.forEach l f) := by
  unfold State.forEach
  apply foldl_memSame
  · intro x1 x2 h1
    apply fof
    · exact h1
  · exact fo

/-! ### Operations that leave alone what lies beside the tiles -/

theorem State.setReg_beside {pre : State} {s : State} (fo : Beside pre s) {f : Fld} {inst : Nat} {i : Nat} {v : Nat} : Beside pre (s.setReg f inst i v) := by
  unfold State.setReg
  exact fo.same (Eq.refl _) (Eq.refl _) (Eq.refl _) (Eq.refl _) (Eq.refl _) (Eq.refl _) (Eq.refl _) (Eq.refl _) (Eq.refl _) (Eq.refl _) (Eq.refl _) (Eq.refl _) (Eq.refl _) (Eq.refl _) (Eq.refl _) (Eq.refl _) (Eq.refl _)

theorem State.setG_beside {pre : State} {s : State} (fo : Beside pre s) {f : Fld} {i : Nat} {v : Nat} : Beside pre (s.setG f i v) := by
  unfold State.setG
  exact State.setReg_beside fo

theorem State.addReg_beside {pre : State} {s : State} (fo : Beside pre s) {f : Fld} {inst : Nat} {i : Nat} {d : Nat} : Beside pre (s.addReg f inst i d) := by
  unfold State.addReg
  exact State.setReg_beside fo

theorem State.orReg_beside {pre : State} {s : State} (fo : Beside pre s) {f : Fld} {inst : Nat} {i : Nat} {v : Nat} : Beside pre (s.orReg f inst i v) := by
  unfold State.orReg
  exact State.setReg_beside fo

theorem State.resetReg_beside {pre : State} {s : State} (fo : Beside pre s) {f : Fld} {inst : Nat} {i : Nat} : Beside pre (s.resetReg f inst i) := by
  unfold State.resetReg
  exact fo.same (Eq.refl _) (Eq.refl _) (Eq.refl _) (Eq.refl _) (Eq.refl _) (Eq.refl _) (Eq.refl _) (Eq.refl _) (Eq.refl _) (Eq.refl _) (Eq.refl _) (Eq.refl _) (Eq.refl _) (Eq.refl _) (Eq.refl _) (Eq.refl _) (Eq.refl _)

theorem State.setTile_beside {pre : State} {s : State} (fo : Beside pre s) {t : Nat} {x : TileSt} : Beside pre (s.setTile t x) := by
  unfold State.setTile
  exact fo.same (Eq.refl _) (Eq.refl _) (Eq.refl _) (Eq.refl _) (Eq.refl _) (Eq.refl _) (Eq.refl _) (Eq.refl _) (Eq.refl _) (Eq.refl _) (Eq.refl _) (Eq.refl _) (Eq.refl _) (Eq.refl _) (Eq.refl _) (Eq.refl _) (Eq.refl _)

theorem State.updTile_beside {pre : State} {s : State} (fo : Beside pre s) {t : Nat} {f : TileSt → TileSt} : Beside pre (s.updTile t f) := by
  unfold State.updTile
  exact State.setTile_beside fo

theorem State.setPart_beside {pre : State} {s : State} (fo : Beside pre s) {p : Nat} {x : PartSt} : Beside pre (s.setPart p x) := by
  unfold State.setPart
  exact fo.same (Eq.refl _) (Eq.refl _) (Eq.refl _) (Eq.refl _) (Eq.refl _) (Eq.refl _) (Eq.refl _) (Eq.refl _) (Eq.refl _) (Eq.refl _) (Eq.refl _) (Eq.refl _) (Eq.refl _) (Eq.refl _) (Eq.refl _) (Eq.refl _) (Eq.refl _)

theorem State.updPart_beside {pre : State} {s : State} (fo : Beside pre s) {p : Nat} {f : PartSt → PartSt} : Beside pre (s.updPart p f) := by
  unfold State.updPart
  exact State.setPart_beside fo

theorem State.emit_beside {pre : State} {s : State} (fo : Beside pre s) {o : Out} : Beside pre (s.emit o) := by
  unfold State.emit
  exact fo.same (Eq.refl _) (Eq.refl _) (Eq.refl _) (Eq.refl _) (Eq.refl _) (Eq.refl _) (Eq.refl _) (Eq.refl _) (Eq.refl _) (Eq.refl _) (Eq.refl _) (Eq.refl _) (Eq.refl _) (Eq.refl _) (Eq.refl _) (Eq.refl _) (Eq.refl _)

theorem State.setMem_beside {pre : State} {s : State} (fo : Beside pre s) {m : Memory} : Beside pre (s.setMem m) := by
  unfold State.setMem
  exact fo.same (Eq.refl _) (Eq.refl _) (Eq.refl _) (Eq.refl _) (Eq.refl _) (Eq.refl _) (Eq.refl _) (Eq.refl _) (Eq.refl _) (Eq.refl _) (Eq.refl _) (Eq.refl _) (Eq.refl _) (Eq.refl _) (Eq.refl _) (Eq.refl _) (Eq.refl _)

theorem State.takeFree_beside {pre : State} {s : State} (fo : Beside pre s) : Beside pre s.takeFree.snd := by
  unfold State.takeFree
  dsimp only
  exact fo.same (Eq.refl _) (Eq.refl _) (Eq.refl _) (Eq.refl _) (Eq.refl _) (Eq.refl _) (Eq.refl _) (Eq.refl _) (Eq.refl _) (Eq.refl _) (Eq.refl _) (Eq.refl _) (Eq.refl _) (Eq.refl _) (Eq.refl _) (Eq.refl _) (Eq.refl _)

theorem State.forEach_beside {pre : State} {s : State} (fo : Beside pre s) {l : List Nat} {f : State → Nat → State} (fof : ∀ (a : State) (a_1 : Nat), Beside pre a → Beside pre (f a a_1)) : Beside pre (s.forEach l f) := by
  unfold State.forEach
  apply foldl_beside
  · intro x1 x2 h1
    apply fof
    · exact h1
  · exact fo

end Sys2Proof.Machine
end

