-- ==== Sys2Proof/Laws/Ops.lean ====
section
/-! SUPPORT. What the operations of Machine/Ops.lean keep: one lemma for each, by the lemmas of those that it calls. -/

namespace Sys2Proof.Machine

open Sys2Proof

theorem State.msix_follows {pre : State} {s : State} (fo : Follows pre s) {fn : Nat} {vec : Nat} : Follows pre (s.msix fn vec) := by
  unfold State.msix
  extract_lets s1 s2
  apply Follows.ite
  · exact State.emit_follows fo
  · exact fo.same (Eq.refl _) fo.mem (Eq.refl _) (Eq.refl _) (Eq.refl _) (Eq.refl _)

theorem State.raiseInt_follows {pre : State} {s : State} (fo : Follows pre s) {fn : Nat} {bit : Nat} : Follows pre (s.raiseInt fn bit) := by
  unfold State.raiseInt
  extract_lets s1 s2
  have h1 : Follows pre s2 := State.setReg_follows fo
  clear_value s2
  exact Follows.ite fo (Follows.ite (State.msix_follows h1) h1)

theorem State.pstateInt_follows {pre : State} {s : State} (fo : Follows pre s) {p : Nat} : Follows pre (s.pstateInt p) := by
  unfold State.pstateInt
  extract_lets s1 s2 s3
  have h1 : Follows pre s2 := State.setG_follows fo
  clear_value s2
  have h2 : Follows pre s3 := Follows.ite fo (Follows.ite (State.msix_follows h1) h1)
  clear_value s3
  exact State.raiseInt_follows h2

theorem State.appendLog_follows {pre : State} {s : State} (h : Follows pre s) {r : FaultRec} : Follows pre (s.appendLog r) := by
  refine ⟨h.pending, h.mem, h.sess, fun w k hk => ?_⟩
  have hl := h.log w
  have key : k = s.logTail ∨ (s.log.has k = true ∧ (16777216 ≤ s.logTail → s.logTail - 16777216 ≠ k)) := by
    simp only [State.appendLog, Map.has_put] at hk
    by_cases e : s.logTail = k
    · exact Or.inl e.symm
    · refine Or.inr ?_
      simp only [e, decide_false, Bool.false_or] at hk
      split at hk
      · rw [Map.has_del] at hk
        simp only [ne_eq, decide_not, Bool.and_eq_true, Bool.not_eq_true', decide_eq_false_iff_not] at hk
        exact ⟨hk.2, fun _ => hk.1⟩
      · exact ⟨hk, fun hh => absurd hh (by assumption)⟩
  show k < s.logTail + 1 ∧ s.logTail + 1 ≤ k + 16777216
  rcases key with e | ⟨e, f⟩
  · omega
  · have := hl k e
    by_cases g : 16777216 ≤ s.logTail
    · have := f g; omega
    · omega

theorem State.recordInts_follows {pre : State} {s : State} (fo : Follows pre s) {r : FaultRec} : Follows pre (s.recordInts r) := by
  unfold State.recordInts
  extract_lets s1 s2 s3 s4 s5 s6 s7
  have h1 : Follows pre s2 := State.addReg_follows fo
  clear_value s2
  have h2 : Follows pre s3 := Follows.ite (State.raiseInt_follows h1) h1
  clear_value s3
  have h3 : Follows pre s4 := Follows.ite (State.raiseInt_follows h2) h2
  clear_value s4
  have h4 : Follows pre s5 := Follows.ite (State.raiseInt_follows h3) h3
  clear_value s5
  have h5 : Follows pre s6 := Follows.ite (State.raiseInt_follows h4) h4
  clear_value s6
  have h6 : Follows pre s7 := by
    unfold s7
    split
    · rename_i y1 y2 y3
      exact Follows.ite (State.raiseInt_follows h5) h5
    · exact h5
  clear_value s7
  exact Follows.ite (State.emit_follows h6) h6

theorem State.record_follows {pre : State} {s : State} (fo : Follows pre s) {r : Rec} : Follows pre (s.record r) := by
  unfold State.record
  extract_lets s1 s2
  have h1 : Follows pre s2 := State.recordInts_follows (State.appendLog_follows fo)
  clear_value s2
  split
  · rename_i y1 y2 y3
    exact Follows.ite (State.updPart_follows h1) h1
  · exact h1

theorem State.tileRecord_follows {pre : State} {s : State} (fo : Follows pre s) {t : Nat} {r : Rec} : Follows pre (s.tileRecord t r) := by
  unfold State.tileRecord
  exact State.record_follows fo

theorem State.tileFault_follows {pre : State} {s : State} (fo : Follows pre s) {t : Nat} {r : Rec} : Follows pre (s.tileFault t r) := by
  unfold State.tileFault
  exact State.updTile_follows (State.tileRecord_follows fo)

theorem State.setPstate_follows {pre : State} {s : State} (fo : Follows pre s) {p : Nat} {st : Nat} : Follows pre (s.setPstate p st) := by
  unfold State.setPstate
  exact Follows.ite fo (State.pstateInt_follows (State.setG_follows fo))

theorem State.setStopr_follows {pre : State} {s : State} (fo : Follows pre s) {p : Nat} {r : Nat} : Follows pre (s.setStopr p r) := by
  unfold State.setStopr
  exact Follows.ite fo (State.pstateInt_follows (State.setG_follows fo))

theorem State.setLcode_follows {pre : State} {s : State} (fo : Follows pre s) {p : Nat} {c : Nat} : Follows pre (s.setLcode p c) := by
  unfold State.setLcode
  exact Follows.ite fo (State.pstateInt_follows (State.setG_follows fo))

theorem State.setPend_follows {pre : State} {s : State} (fo : Follows pre s) {p : Nat} {c : Nat} : Follows pre (s.setPend p c) := by
  unfold State.setPend
  exact Follows.ite fo (State.pstateInt_follows (State.setG_follows fo))

theorem State.setBoot_follows {pre : State} {s : State} (fo : Follows pre s) {b : Nat} : Follows pre (s.setBoot b) := by
  unfold State.setBoot
  exact Follows.ite fo (State.raiseInt_follows (State.setG_follows fo))

/-! ### Operations that leave memory alone -/

theorem State.msix_memSame {pre : State} {s : State} (fo : MemSame pre s) {fn : Nat} {vec : Nat} : MemSame pre (s.msix fn vec) := by
  unfold State.msix
  extract_lets s1 s2
  apply MemSame.ite
  · exact State.emit_memSame fo
  · exact fo.same (Eq.refl _)

theorem State.raiseInt_memSame {pre : State} {s : State} (fo : MemSame pre s) {fn : Nat} {bit : Nat} : MemSame pre (s.raiseInt fn bit) := by
  unfold State.raiseInt
  extract_lets s1 s2
  have h1 : MemSame pre s2 := State.setReg_memSame fo
  clear_value s2
  exact MemSame.ite fo (MemSame.ite (State.msix_memSame h1) h1)

theorem State.pstateInt_memSame {pre : State} {s : State} (fo : MemSame pre s) {p : Nat} : MemSame pre (s.pstateInt p) := by
  unfold State.pstateInt
  extract_lets s1 s2 s3
  have h1 : MemSame pre s2 := State.setG_memSame fo
  clear_value s2
  have h2 : MemSame pre s3 := MemSame.ite fo (MemSame.ite (State.msix_memSame h1) h1)
  clear_value s3
  exact State.raiseInt_memSame h2

theorem State.appendLog_memSame {pre : State} {s : State} (fo : MemSame pre s) {r : FaultRec} : MemSame pre (s.appendLog r) := by
  unfold State.appendLog
  exact fo.same (Eq.refl _)

theorem State.recordInts_memSame {pre : State} {s : State} (fo : MemSame pre s) {r : FaultRec} : MemSame pre (s.recordInts r) := by
  unfold State.recordInts
  extract_lets s1 s2 s3 s4 s5 s6 s7
  have h1 : MemSame pre s2 := State.addReg_memSame fo
  clear_value s2
  have h2 : MemSame pre s3 := MemSame.ite (State.raiseInt_memSame h1) h1
  clear_value s3
  have h3 : MemSame pre s4 := MemSame.ite (State.raiseInt_memSame h2) h2
  clear_value s4
  have h4 : MemSame pre s5 := MemSame.ite (State.raiseInt_memSame h3) h3
  clear_value s5
  have h5 : MemSame pre s6 := MemSame.ite (State.raiseInt_memSame h4) h4
  clear_value s6
  have h6 : MemSame pre s7 := by
    unfold s7
    split
    · rename_i y1 y2 y3
      exact MemSame.ite (State.raiseInt_memSame h5) h5
    · exact h5
  clear_value s7
  exact MemSame.ite (State.emit_memSame h6) h6

theorem State.record_memSame {pre : State} {s : State} (fo : MemSame pre s) {r : Rec} : MemSame pre (s.record r) := by
  unfold State.record
  extract_lets s1 s2
  have h1 : MemSame pre s2 := State.recordInts_memSame (State.appendLog_memSame fo)
  clear_value s2
  split
  · rename_i y1 y2 y3
    exact MemSame.ite (State.updPart_memSame h1) h1
  · exact h1

theorem State.tileRecord_memSame {pre : State} {s : State} (fo : MemSame pre s) {t : Nat} {r : Rec} : MemSame pre (s.tileRecord t r) := by
  unfold State.tileRecord
  exact State.record_memSame fo

theorem State.tileFault_memSame {pre : State} {s : State} (fo : MemSame pre s) {t : Nat} {r : Rec} : MemSame pre (s.tileFault t r) := by
  unfold State.tileFault
  exact State.updTile_memSame (State.tileRecord_memSame fo)

theorem State.setPstate_memSame {pre : State} {s : State} (fo : MemSame pre s) {p : Nat} {st : Nat} : MemSame pre (s.setPstate p st) := by
  unfold State.setPstate
  exact MemSame.ite fo (State.pstateInt_memSame (State.setG_memSame fo))

theorem State.setStopr_memSame {pre : State} {s : State} (fo : MemSame pre s) {p : Nat} {r : Nat} : MemSame pre (s.setStopr p r) := by
  unfold State.setStopr
  exact MemSame.ite fo (State.pstateInt_memSame (State.setG_memSame fo))

theorem State.setLcode_memSame {pre : State} {s : State} (fo : MemSame pre s) {p : Nat} {c : Nat} : MemSame pre (s.setLcode p c) := by
  unfold State.setLcode
  exact MemSame.ite fo (State.pstateInt_memSame (State.setG_memSame fo))

theorem State.setPend_memSame {pre : State} {s : State} (fo : MemSame pre s) {p : Nat} {c : Nat} : MemSame pre (s.setPend p c) := by
  unfold State.setPend
  exact MemSame.ite fo (State.pstateInt_memSame (State.setG_memSame fo))

theorem State.setBoot_memSame {pre : State} {s : State} (fo : MemSame pre s) {b : Nat} : MemSame pre (s.setBoot b) := by
  unfold State.setBoot
  exact MemSame.ite fo (State.raiseInt_memSame (State.setG_memSame fo))

/-! ### Operations that leave alone what lies beside the tiles -/

theorem State.msix_beside {pre : State} {s : State} (fo : Beside pre s) {fn : Nat} {vec : Nat} : Beside pre (s.msix fn vec) := by
  unfold State.msix
  extract_lets s1 s2
  apply Beside.ite
  · exact State.emit_beside fo
  · exact fo.same (Eq.refl _) (Eq.refl _) (Eq.refl _) (Eq.refl _) (Eq.refl _) (Eq.refl _) (Eq.refl _) (Eq.refl _) (Eq.refl _) (Eq.refl _) (Eq.refl _) (Eq.refl _) (Eq.refl _) (Eq.refl _) (Eq.refl _) (Eq.refl _) (Eq.refl _)

theorem State.raiseInt_beside {pre : State} {s : State} (fo : Beside pre s) {fn : Nat} {bit : Nat} : Beside pre (s.raiseInt fn bit) := by
  unfold State.raiseInt
  extract_lets s1 s2
  have h1 : Beside pre s2 := State.setReg_beside fo
  clear_value s2
  exact Beside.ite fo (Beside.ite (State.msix_beside h1) h1)

theorem State.pstateInt_beside {pre : State} {s : State} (fo : Beside pre s) {p : Nat} : Beside pre (s.pstateInt p) := by
  unfold State.pstateInt
  extract_lets s1 s2 s3
  have h1 : Beside pre s2 := State.setG_beside fo
  clear_value s2
  have h2 : Beside pre s3 := Beside.ite fo (Beside.ite (State.msix_beside h1) h1)
  clear_value s3
  exact State.raiseInt_beside h2

theorem State.appendLog_beside {pre : State} {s : State} (fo : Beside pre s) {r : FaultRec} : Beside pre (s.appendLog r) := by
  unfold State.appendLog
  exact fo.same (Eq.refl _) (Eq.refl _) (Eq.refl _) (Eq.refl _) (Eq.refl _) (Eq.refl _) (Eq.refl _) (Eq.refl _) (Eq.refl _) (Eq.refl _) (Eq.refl _) (Eq.refl _) (Eq.refl _) (Eq.refl _) (Eq.refl _) (Eq.refl _) (Eq.refl _)

theorem State.recordInts_beside {pre : State} {s : State} (fo : Beside pre s) {r : FaultRec} : Beside pre (s.recordInts r) := by
  unfold State.recordInts
  extract_lets s1 s2 s3 s4 s5 s6 s7
  have h1 : Beside pre s2 := State.addReg_beside fo
  clear_value s2
  have h2 : Beside pre s3 := Beside.ite (State.raiseInt_beside h1) h1
  clear_value s3
  have h3 : Beside pre s4 := Beside.ite (State.raiseInt_beside h2) h2
  clear_value s4
  have h4 : Beside pre s5 := Beside.ite (State.raiseInt_beside h3) h3
  clear_value s5
  have h5 : Beside pre s6 := Beside.ite (State.raiseInt_beside h4) h4
  clear_value s6
  have h6 : Beside pre s7 := by
    unfold s7
    split
    · rename_i y1 y2 y3
      exact Beside.ite (State.raiseInt_beside h5) h5
    · exact h5
  clear_value s7
  exact Beside.ite (State.emit_beside h6) h6

theorem State.record_beside {pre : State} {s : State} (fo : Beside pre s) {r : Rec} : Beside pre (s.record r) := by
  unfold State.record
  extract_lets s1 s2
  have h1 : Beside pre s2 := State.recordInts_beside (State.appendLog_beside fo)
  clear_value s2
  split
  · rename_i y1 y2 y3
    exact Beside.ite (State.updPart_beside h1) h1
  · exact h1

theorem State.tileRecord_beside {pre : State} {s : State} (fo : Beside pre s) {t : Nat} {r : Rec} : Beside pre (s.tileRecord t r) := by
  unfold State.tileRecord
  exact State.record_beside fo

theorem State.tileFault_beside {pre : State} {s : State} (fo : Beside pre s) {t : Nat} {r : Rec} : Beside pre (s.tileFault t r) := by
  unfold State.tileFault
  exact State.updTile_beside (State.tileRecord_beside fo)

theorem State.setPstate_beside {pre : State} {s : State} (fo : Beside pre s) {p : Nat} {st : Nat} : Beside pre (s.setPstate p st) := by
  unfold State.setPstate
  exact Beside.ite fo (State.pstateInt_beside (State.setG_beside fo))

theorem State.setStopr_beside {pre : State} {s : State} (fo : Beside pre s) {p : Nat} {r : Nat} : Beside pre (s.setStopr p r) := by
  unfold State.setStopr
  exact Beside.ite fo (State.pstateInt_beside (State.setG_beside fo))

theorem State.setLcode_beside {pre : State} {s : State} (fo : Beside pre s) {p : Nat} {c : Nat} : Beside pre (s.setLcode p c) := by
  unfold State.setLcode
  exact Beside.ite fo (State.pstateInt_beside (State.setG_beside fo))

theorem State.setPend_beside {pre : State} {s : State} (fo : Beside pre s) {p : Nat} {c : Nat} : Beside pre (s.setPend p c) := by
  unfold State.setPend
  exact Beside.ite fo (State.pstateInt_beside (State.setG_beside fo))

theorem State.setBoot_beside {pre : State} {s : State} (fo : Beside pre s) {b : Nat} : Beside pre (s.setBoot b) := by
  unfold State.setBoot
  exact Beside.ite fo (State.raiseInt_beside (State.setG_beside fo))

end Sys2Proof.Machine
end

