-- ==== Sys2Proof/Laws/Access.lean ====
section
/-! SUPPORT. What the operations of Machine/Access.lean keep: one lemma for each, by the lemmas of those that it calls. -/

namespace Sys2Proof.Machine

open Sys2Proof

theorem State.refuseWrite_follows {pre : State} {s : State} (fo : Follows pre s) {p : Path} {pg : Page} {inst : Nat} : Follows pre (s.refuseWrite p pg inst) := by
  unfold State.refuseWrite
  extract_lets s1
  exact State.setReg_follows (State.addReg_follows fo)

theorem State.discardWrite_follows {pre : State} {s : State} (fo : Follows pre s) {p : Path} : Follows pre (s.discardWrite p) := by
  unfold State.discardWrite
  exact State.addReg_follows fo

theorem State.refuseStatic_follows {pre : State} {s : State} (fo : Follows pre s) {p : Path} {pg : Page} {inst : Nat} {off : Nat} : Follows pre (s.refuseStatic p pg inst off) := by
  unfold State.refuseStatic
  extract_lets s1 s2
  have h1 : Follows pre s2 := State.refuseWrite_follows fo
  clear_value s2
  exact Follows.ite (State.tileRecord_follows h1) (State.record_follows h1)

theorem State.refuseMessage_follows {pre : State} {s : State} (fo : Follows pre s) : Follows pre s.refuseMessage := by
  unfold State.refuseMessage
  exact State.emit_follows fo

theorem State.pageWrite_follows {pre : State} {s : State} (fo : Follows pre s) {p : Path} {pg : Page} {own : Bool} {sess : Bool} {act : State → State} (foact : ∀ (a : State), Follows pre a → Follows pre (act a)) : FollowsO pre (s.pageWrite p pg own sess act) := by
  unfold State.pageWrite
  apply FollowsO.ite
  · exact FollowsO.next fo
  · split
    · rename_i y1 y2
      apply FollowsO.ite
      · exact FollowsO.next (State.discardWrite_follows fo)
      · apply FollowsO.ite
        · apply FollowsO.next
          apply foact
          · exact fo
        · exact FollowsO.next (State.refuseWrite_follows fo)
    · apply FollowsO.ite
      · apply FollowsO.next
        apply foact
        · exact fo
      · exact FollowsO.next (State.refuseWrite_follows fo)
    · apply FollowsO.ite
      · exact FollowsO.next (State.refuseMessage_follows fo)
      · apply FollowsO.ite
        · apply FollowsO.next
          apply foact
          · exact fo
        · exact FollowsO.next (State.refuseWrite_follows fo)

theorem State.ownerWrite_follows {pre : State} {s : State} (fo : Follows pre s) {p : Path} {pg : Page} {seen : Bool} {act : State → State} (foact : ∀ (a : State), Follows pre a → Follows pre (act a)) : FollowsO pre (s.ownerWrite p pg seen act) := by
  unfold State.ownerWrite
  split
  · rename_i y1 y2
    apply FollowsO.ite
    · exact FollowsO.next (State.refuseWrite_follows fo)
    · apply State.pageWrite_follows
      · exact fo
      · intro x1 h1
        apply foact
        · exact h1
  · apply State.pageWrite_follows
    · exact fo
    · intro x1 h1
      apply foact
      · exact h1

theorem State.resetWrite_follows {pre : State} {s : State} (fo : Follows pre s) {p : Path} {pg : Page} {t : Nat} : Follows pre (State.resetWrite s p pg t) := by
  unfold State.resetWrite
  exact State.addReg_follows (State.discardWrite_follows fo)

theorem State.tileWrite_follows {pre : State} {s : State} (fo : Follows pre s) {p : Path} {t : Nat} {pg : Page} {act : State → State} (hact : ∀ {v1 : State}, Follows pre v1 → Follows pre (act v1)) : FollowsO pre (State.tileWrite s p t pg act) := by
  unfold State.tileWrite
  apply FollowsO.ite
  · exact FollowsO.next fo
  · split
    · exact FollowsO.next (State.discardWrite_follows fo)
    · exact FollowsO.ite (FollowsO.next (State.refuseWrite_follows fo)) (FollowsO.ite (FollowsO.next (State.discardWrite_follows fo)) (FollowsO.ite (FollowsO.next (State.resetWrite_follows fo)) (FollowsO.next (hact fo))))
    · exact FollowsO.ite (FollowsO.next (State.refuseMessage_follows fo)) (FollowsO.ite (FollowsO.next (State.discardWrite_follows fo)) (FollowsO.ite (FollowsO.next (State.resetWrite_follows fo)) (FollowsO.next (hact fo))))

theorem State.coolQuads_follows {pre : State} {s : State} (fo : Follows pre s) {l : List Nat} : Follows pre (s.coolQuads l) := by
  unfold State.coolQuads
  exact fo.same (Eq.refl _) fo.mem (Eq.refl _) (Eq.refl _) (Eq.refl _) (Eq.refl _)

/-! ### Operations that leave memory alone -/

theorem State.refuseWrite_memSame {pre : State} {s : State} (fo : MemSame pre s) {p : Path} {pg : Page} {inst : Nat} : MemSame pre (s.refuseWrite p pg inst) := by
  unfold State.refuseWrite
  extract_lets s1
  exact State.setReg_memSame (State.addReg_memSame fo)

theorem State.discardWrite_memSame {pre : State} {s : State} (fo : MemSame pre s) {p : Path} : MemSame pre (s.discardWrite p) := by
  unfold State.discardWrite
  exact State.addReg_memSame fo

theorem State.refuseStatic_memSame {pre : State} {s : State} (fo : MemSame pre s) {p : Path} {pg : Page} {inst : Nat} {off : Nat} : MemSame pre (s.refuseStatic p pg inst off) := by
  unfold State.refuseStatic
  extract_lets s1 s2
  have h1 : MemSame pre s2 := State.refuseWrite_memSame fo
  clear_value s2
  exact MemSame.ite (State.tileRecord_memSame h1) (State.record_memSame h1)

theorem State.refuseMessage_memSame {pre : State} {s : State} (fo : MemSame pre s) : MemSame pre s.refuseMessage := by
  unfold State.refuseMessage
  exact State.emit_memSame fo

theorem State.pageWrite_memSame {pre : State} {s : State} (fo : MemSame pre s) {p : Path} {pg : Page} {own : Bool} {sess : Bool} {act : State → State} (foact : ∀ (a : State), MemSame pre a → MemSame pre (act a)) : MemSameO pre (s.pageWrite p pg own sess act) := by
  unfold State.pageWrite
  apply MemSameO.ite
  · exact MemSameO.next fo
  · split
    · rename_i y1 y2
      apply MemSameO.ite
      · exact MemSameO.next (State.discardWrite_memSame fo)
      · apply MemSameO.ite
        · apply MemSameO.next
          apply foact
          · exact fo
        · exact MemSameO.next (State.refuseWrite_memSame fo)
    · apply MemSameO.ite
      · apply MemSameO.next
        apply foact
        · exact fo
      · exact MemSameO.next (State.refuseWrite_memSame fo)
    · apply MemSameO.ite
      · exact MemSameO.next (State.refuseMessage_memSame fo)
      · apply MemSameO.ite
        · apply MemSameO.next
          apply foact
          · exact fo
        · exact MemSameO.next (State.refuseWrite_memSame fo)

theorem State.ownerWrite_memSame {pre : State} {s : State} (fo : MemSame pre s) {p : Path} {pg : Page} {seen : Bool} {act : State → State} (foact : ∀ (a : State), MemSame pre a → MemSame pre (act a)) : MemSameO pre (s.ownerWrite p pg seen act) := by
  unfold State.ownerWrite
  split
  · rename_i y1 y2
    apply MemSameO.ite
    · exact MemSameO.next (State.refuseWrite_memSame fo)
    · apply State.pageWrite_memSame
      · exact fo
      · intro x1 h1
        apply foact
        · exact h1
  · apply State.pageWrite_memSame
    · exact fo
    · intro x1 h1
      apply foact
      · exact h1

theorem State.resetWrite_memSame {pre : State} {s : State} (fo : MemSame pre s) {p : Path} {pg : Page} {t : Nat} : MemSame pre (State.resetWrite s p pg t) := by
  unfold State.resetWrite
  exact State.addReg_memSame (State.discardWrite_memSame fo)

theorem State.tileWrite_memSame {pre : State} {s : State} (fo : MemSame pre s) {p : Path} {t : Nat} {pg : Page} {act : State → State} (hact : ∀ {v1 : State}, MemSame pre v1 → MemSame pre (act v1)) : MemSameO pre (State.tileWrite s p t pg act) := by
  unfold State.tileWrite
  apply MemSameO.ite
  · exact MemSameO.next fo
  · split
    · exact MemSameO.next (State.discardWrite_memSame fo)
    · exact MemSameO.ite (MemSameO.next (State.refuseWrite_memSame fo)) (MemSameO.ite (MemSameO.next (State.discardWrite_memSame fo)) (MemSameO.ite (MemSameO.next (State.resetWrite_memSame fo)) (MemSameO.next (hact fo))))
    · exact MemSameO.ite (MemSameO.next (State.refuseMessage_memSame fo)) (MemSameO.ite (MemSameO.next (State.discardWrite_memSame fo)) (MemSameO.ite (MemSameO.next (State.resetWrite_memSame fo)) (MemSameO.next (hact fo))))

theorem State.coolQuads_memSame {pre : State} {s : State} (fo : MemSame pre s) {l : List Nat} : MemSame pre (s.coolQuads l) := by
  unfold State.coolQuads
  exact fo.same (Eq.refl _)

/-! ### Operations that leave alone what lies beside the tiles -/

theorem State.refuseWrite_beside {pre : State} {s : State} (fo : Beside pre s) {p : Path} {pg : Page} {inst : Nat} : Beside pre (s.refuseWrite p pg inst) := by
  unfold State.refuseWrite
  extract_lets s1
  exact State.setReg_beside (State.addReg_beside fo)

theorem State.discardWrite_beside {pre : State} {s : State} (fo : Beside pre s) {p : Path} : Beside pre (s.discardWrite p) := by
  unfold State.discardWrite
  exact State.addReg_beside fo

theorem State.refuseStatic_beside {pre : State} {s : State} (fo : Beside pre s) {p : Path} {pg : Page} {inst : Nat} {off : Nat} : Beside pre (s.refuseStatic p pg inst off) := by
  unfold State.refuseStatic
  extract_lets s1 s2
  have h1 : Beside pre s2 := State.refuseWrite_beside fo
  clear_value s2
  exact Beside.ite (State.tileRecord_beside h1) (State.record_beside h1)

theorem State.refuseMessage_beside {pre : State} {s : State} (fo : Beside pre s) : Beside pre s.refuseMessage := by
  unfold State.refuseMessage
  exact State.emit_beside fo

theorem State.pageWrite_beside {pre : State} {s : State} (fo : Beside pre s) {p : Path} {pg : Page} {own : Bool} {sess : Bool} {act : State → State} (foact : ∀ (a : State), Beside pre a → Beside pre (act a)) : BesideO pre (s.pageWrite p pg own sess act) := by
  unfold State.pageWrite
  apply BesideO.ite
  · exact BesideO.next fo
  · split
    · rename_i y1 y2
      apply BesideO.ite
      · exact BesideO.next (State.discardWrite_beside fo)
      · apply BesideO.ite
        · apply BesideO.next
          apply foact
          · exact fo
        · exact BesideO.next (State.refuseWrite_beside fo)
    · apply BesideO.ite
      · apply BesideO.next
        apply foact
        · exact fo
      · exact BesideO.next (State.refuseWrite_beside fo)
    · apply BesideO.ite
      · exact BesideO.next (State.refuseMessage_beside fo)
      · apply BesideO.ite
        · apply BesideO.next
          apply foact
          · exact fo
        · exact BesideO.next (State.refuseWrite_beside fo)

theorem State.ownerWrite_beside {pre : State} {s : State} (fo : Beside pre s) {p : Path} {pg : Page} {seen : Bool} {act : State → State} (foact : ∀ (a : State), Beside pre a → Beside pre (act a)) : BesideO pre (s.ownerWrite p pg seen act) := by
  unfold State.ownerWrite
  split
  · rename_i y1 y2
    apply BesideO.ite
    · exact BesideO.next (State.refuseWrite_beside fo)
    · apply State.pageWrite_beside
      · exact fo
      · intro x1 h1
        apply foact
        · exact h1
  · apply State.pageWrite_beside
    · exact fo
    · intro x1 h1
      apply foact
      · exact h1

theorem State.resetWrite_beside {pre : State} {s : State} (fo : Beside pre s) {p : Path} {pg : Page} {t : Nat} : Beside pre (State.resetWrite s p pg t) := by
  unfold State.resetWrite
  exact State.addReg_beside (State.discardWrite_beside fo)

theorem State.tileWrite_beside {pre : State} {s : State} (fo : Beside pre s) {p : Path} {t : Nat} {pg : Page} {act : State → State} (hact : ∀ {v1 : State}, Beside pre v1 → Beside pre (act v1)) : BesideO pre (State.tileWrite s p t pg act) := by
  unfold State.tileWrite
  apply BesideO.ite
  · exact BesideO.next fo
  · split
    · exact BesideO.next (State.discardWrite_beside fo)
    · exact BesideO.ite (BesideO.next (State.refuseWrite_beside fo)) (BesideO.ite (BesideO.next (State.discardWrite_beside fo)) (BesideO.ite (BesideO.next (State.resetWrite_beside fo)) (BesideO.next (hact fo))))
    · exact BesideO.ite (BesideO.next (State.refuseMessage_beside fo)) (BesideO.ite (BesideO.next (State.discardWrite_beside fo)) (BesideO.ite (BesideO.next (State.resetWrite_beside fo)) (BesideO.next (hact fo))))

end Sys2Proof.Machine
end

