-- ==== Sys2Proof/Laws/Basin.lean ====
section
/-! SUPPORT. What the operations of Machine/Basin.lean keep: one lemma for each, by the lemmas of those that it calls. -/

namespace Sys2Proof.Machine

open Sys2Proof

theorem State.setTag_follows {pre : State} {s : State} (fo : Follows pre s) {t : Nat} {r : Nat} {v : Nat} : Follows pre (s.setTag t r v) := by
  unfold State.setTag
  exact State.updTile_follows fo

theorem State.weakRow_follows {pre : State} {s : State} (fo : Follows pre s) {t : Nat} {r : Nat} {cycle : Nat} : Follows pre (s.weakRow t r cycle) := by
  unfold State.weakRow
  extract_lets s1
  have h1 : Follows pre s1 := State.tileRecord_follows (State.setReg_follows (State.setReg_follows fo))
  clear_value s1
  exact State.updTile_follows h1

theorem State.lastErr_follows {pre : State} {s : State} (fo : Follows pre s) {t : Nat} {r : Nat} {w : Nat} {ue : Nat} {syn : Nat} : Follows pre (s.lastErr t r w ue syn) := by
  unfold State.lastErr
  exact State.setReg_follows (State.setReg_follows (State.setReg_follows (State.setReg_follows fo)))

theorem State.corrected_follows {pre : State} {s : State} (fo : Follows pre s) {t : Nat} {r : Nat} {w : Nat} {mask : Nat} {cycle : Nat} : Follows pre (s.corrected t r w mask cycle) := by
  unfold State.corrected
  extract_lets s1 s2 s3
  have h1 : Follows pre s1 := State.lastErr_follows (State.setReg_follows (State.addReg_follows fo))
  clear_value s1
  have h2 : Follows pre s3 := State.updTile_follows h1
  clear_value s3
  exact Follows.ite (State.weakRow_follows h2) h2

theorem State.readWord_follows {pre : State} {s : State} (fo : Follows pre s) {t : Nat} {r : Nat} {cycle : Nat} {sched : Bool} {w : Nat} : Follows pre (s.readWord t r cycle sched w).fst := by
  unfold State.readWord
  extract_lets s1 s2 s3 s4 s5
  have h1 : ∀ (s : State) (code : Nat), Follows pre s → Follows pre (s2 s code) := by
    intro x1 x2 h1
    unfold s2
    extract_lets s6
    exact Follows.ite (State.tileFault_follows h1) (State.tileRecord_follows h1)
  clear_value s2
  have h2 : Follows pre s4 := State.lastErr_follows (State.setReg_follows (State.addReg_follows fo))
  clear_value s4
  have h3 : Follows pre s5 := State.updTile_follows h2
  clear_value s5
  split
  · dsimp only
    apply h1
    · exact fo
  · split
    · exact fo
    · split
      · dsimp only
        exact State.corrected_follows fo
      · dsimp only
        apply h1
        · exact h3

theorem State.readWords_follows {pre : State} {s : State} (fo : Follows pre s) {t : Nat} {r : Nat} {cycle : Nat} {sched : Bool} : Follows pre (s.readWords t r cycle sched).fst := by
  unfold State.readWords
  apply foldl_follows1
  · intro x1 x2 h1
    extract_lets s1
    have h2 : Follows pre s1.fst := State.readWord_follows h1
    clear_value s1
    exact h2
  · exact fo

theorem State.readRow_follows {pre : State} {s : State} (fo : Follows pre s) {t : Nat} {r : Nat} {cycle : Nat} {sched : Bool} : Follows pre (s.readRow t r cycle sched).fst := by
  unfold State.readRow
  extract_lets s1
  have h1 : Follows pre s1.fst := State.readWords_follows fo
  clear_value s1
  exact h1

theorem State.boundsFault_follows {pre : State} {s : State} (fo : Follows pre s) {t : Nat} {r : Nat} {cycle : Nat} : Follows pre (s.boundsFault t r cycle) := by
  unfold State.boundsFault
  exact State.tileFault_follows (State.setReg_follows fo)

theorem State.schedRead_follows {pre : State} {s : State} (fo : Follows pre s) {t : Nat} {r : Nat} {cycle : Nat} : Follows pre (s.schedRead t r cycle).fst := by
  unfold State.schedRead
  split
  · extract_lets s1
    have h1 : Follows pre s1.fst := State.readRow_follows fo
    clear_value s1
    dsimp only
    exact Follows.ite (State.setTag_follows h1) h1
  · dsimp only
    exact State.boundsFault_follows fo

theorem State.schedReads_follows {pre : State} {t : Nat} {cycle : Nat} {r : Nat} {n : Nat} : ∀ {s : State}, Follows pre s → Follows pre (s.schedReads t cycle r n).1 := by
  induction n generalizing r with
  | zero => intro s h; exact h
  | succ n ih => intro s h; exact ih (State.schedRead_follows h)

theorem State.storeWords_follows {pre : State} {s : State} (fo : Follows pre s) {t : Nat} {r : Nat} {beats : List Beat} {mask : List Nat} : Follows pre (s.storeWords t r beats mask) := by
  unfold State.storeWords
  apply foldl_follows
  · intro x1 x2 h1
    extract_lets s1 s2 s3
    have h2 : Follows pre s3 := State.updTile_follows h1
    clear_value s3
    exact State.setMem_follows h2 (MemOk.writeBytes (Follows.memOk h2))
  · exact fo

theorem State.injectFlip_follows {pre : State} {s : State} (fo : Follows pre s) {t : Nat} {r : Nat} {mask : List Nat} : Follows pre (s.injectFlip t r mask) := by
  unfold State.injectFlip
  extract_lets s1
  split
  · exact fo
  · rename_i y1 y2 y3
    apply Follows.ite
    · extract_lets s2
      have h1 : Follows pre s2 := State.updTile_follows fo
      clear_value s2
      exact State.setReg_follows (State.setReg_follows h1)
    · exact fo

theorem State.writeTag_follows {pre : State} {s : State} (fo : Follows pre s) {t : Nat} {r : Nat} : Follows pre (s.writeTag t r) := by
  unfold State.writeTag
  exact Follows.ite (State.setTag_follows fo) fo

theorem State.schedWrite_follows {pre : State} {s : State} (fo : Follows pre s) {t : Nat} {r : Nat} {cycle : Nat} {beats : List Beat} {mask : List Nat} : Follows pre (s.schedWrite t r cycle beats mask) := by
  unfold State.schedWrite
  exact Follows.ite (State.writeTag_follows (State.injectFlip_follows (State.storeWords_follows fo))) (State.boundsFault_follows fo)

theorem State.schedWrites_follows {pre : State} {t : Nat} {cycle : Nat} {r : Nat} {bs : List Beat} {n : Nat} : ∀ {s : State}, Follows pre s → Follows pre (s.schedWrites t cycle r bs n) := by
  induction n generalizing r bs with
  | zero => intro s h; exact h
  | succ n ih => intro s h; exact ih (State.schedWrite_follows h)

theorem State.byteWrite_follows {pre : State} {s : State} (fo : Follows pre s) {t : Nat} {r : Nat} {i : Nat} {v : Nat} {poison : Bool} {trouble : Bool} {cycle : Nat} : Follows pre (State.byteWrite s t r i v poison trouble cycle) := by
  unfold State.byteWrite
  extract_lets s1 s2
  have h1 : Follows pre s2.fst := State.readWord_follows fo
  clear_value s2
  apply State.updTile_follows
  apply State.setMem_follows
  · exact h1
  · apply MemOk.write
    exact Follows.memOk h1

theorem State.poisonWords_follows {pre : State} {s : State} (fo : Follows pre s) {t : Nat} {r : Nat} {cycle : Nat} {mask : List Nat} : Follows pre (s.poisonWords t r cycle mask) := by
  unfold State.poisonWords
  exact Follows.ite (State.updTile_follows fo) (State.boundsFault_follows fo)

theorem State.zeroSlices_follows {pre : State} {s : State} (fo : Follows pre s) {p : Nat → Bool} : Follows pre (s.zeroSlices p) := by
  unfold State.zeroSlices
  exact fo.same (Eq.refl _) (MemOk.keep (Follows.memOk fo)) (Eq.refl _) (Eq.refl _) (Eq.refl _) (Eq.refl _)

/-! ### Operations that leave memory alone -/

theorem State.setTag_memSame {pre : State} {s : State} (fo : MemSame pre s) {t : Nat} {r : Nat} {v : Nat} : MemSame pre (s.setTag t r v) := by
  unfold State.setTag
  exact State.updTile_memSame fo

theorem State.weakRow_memSame {pre : State} {s : State} (fo : MemSame pre s) {t : Nat} {r : Nat} {cycle : Nat} : MemSame pre (s.weakRow t r cycle) := by
  unfold State.weakRow
  extract_lets s1
  have h1 : MemSame pre s1 := State.tileRecord_memSame (State.setReg_memSame (State.setReg_memSame fo))
  clear_value s1
  exact State.updTile_memSame h1

theorem State.lastErr_memSame {pre : State} {s : State} (fo : MemSame pre s) {t : Nat} {r : Nat} {w : Nat} {ue : Nat} {syn : Nat} : MemSame pre (s.lastErr t r w ue syn) := by
  unfold State.lastErr
  exact State.setReg_memSame (State.setReg_memSame (State.setReg_memSame (State.setReg_memSame fo)))

theorem State.corrected_memSame {pre : State} {s : State} (fo : MemSame pre s) {t : Nat} {r : Nat} {w : Nat} {mask : Nat} {cycle : Nat} : MemSame pre (s.corrected t r w mask cycle) := by
  unfold State.corrected
  extract_lets s1 s2 s3
  have h1 : MemSame pre s1 := State.lastErr_memSame (State.setReg_memSame (State.addReg_memSame fo))
  clear_value s1
  have h2 : MemSame pre s3 := State.updTile_memSame h1
  clear_value s3
  exact MemSame.ite (State.weakRow_memSame h2) h2

theorem State.readWord_memSame {pre : State} {s : State} (fo : MemSame pre s) {t : Nat} {r : Nat} {cycle : Nat} {sched : Bool} {w : Nat} : MemSame pre (s.readWord t r cycle sched w).fst := by
  unfold State.readWord
  extract_lets s1 s2 s3 s4 s5
  have h1 : ∀ (s : State) (code : Nat), MemSame pre s → MemSame pre (s2 s code) := by
    intro x1 x2 h1
    unfold s2
    extract_lets s6
    exact MemSame.ite (State.tileFault_memSame h1) (State.tileRecord_memSame h1)
  clear_value s2
  have h2 : MemSame pre s4 := State.lastErr_memSame (State.setReg_memSame (State.addReg_memSame fo))
  clear_value s4
  have h3 : MemSame pre s5 := State.updTile_memSame h2
  clear_value s5
  split
  · dsimp only
    apply h1
    · exact fo
  · split
    · exact fo
    · split
      · dsimp only
        exact State.corrected_memSame fo
      · dsimp only
        apply h1
        · exact h3

theorem State.readWords_memSame {pre : State} {s : State} (fo : MemSame pre s) {t : Nat} {r : Nat} {cycle : Nat} {sched : Bool} : MemSame pre (s.readWords t r cycle sched).fst := by
  unfold State.readWords
  apply foldl_memSame1
  · intro x1 x2 h1
    extract_lets s1
    have h2 : MemSame pre s1.fst := State.readWord_memSame h1
    clear_value s1
    exact h2
  · exact fo

theorem State.readRow_memSame {pre : State} {s : State} (fo : MemSame pre s) {t : Nat} {r : Nat} {cycle : Nat} {sched : Bool} : MemSame pre (s.readRow t r cycle sched).fst := by
  unfold State.readRow
  extract_lets s1
  have h1 : MemSame pre s1.fst := State.readWords_memSame fo
  clear_value s1
  exact h1

theorem State.boundsFault_memSame {pre : State} {s : State} (fo : MemSame pre s) {t : Nat} {r : Nat} {cycle : Nat} : MemSame pre (s.boundsFault t r cycle) := by
  unfold State.boundsFault
  exact State.tileFault_memSame (State.setReg_memSame fo)

theorem State.schedRead_memSame {pre : State} {s : State} (fo : MemSame pre s) {t : Nat} {r : Nat} {cycle : Nat} : MemSame pre (s.schedRead t r cycle).fst := by
  unfold State.schedRead
  split
  · extract_lets s1
    have h1 : MemSame pre s1.fst := State.readRow_memSame fo
    clear_value s1
    dsimp only
    exact MemSame.ite (State.setTag_memSame h1) h1
  · dsimp only
    exact State.boundsFault_memSame fo

theorem State.schedReads_memSame {pre : State} {t : Nat} {cycle : Nat} {r : Nat} {n : Nat} : ∀ {s : State}, MemSame pre s → MemSame pre (s.schedReads t cycle r n).1 := by
  induction n generalizing r with
  | zero => intro s h; exact h
  | succ n ih => intro s h; exact ih (State.schedRead_memSame h)

theorem State.injectFlip_memSame {pre : State} {s : State} (fo : MemSame pre s) {t : Nat} {r : Nat} {mask : List Nat} : MemSame pre (s.injectFlip t r mask) := by
  unfold State.injectFlip
  extract_lets s1
  split
  · exact fo
  · rename_i y1 y2 y3
    apply MemSame.ite
    · extract_lets s2
      have h1 : MemSame pre s2 := State.updTile_memSame fo
      clear_value s2
      exact State.setReg_memSame (State.setReg_memSame h1)
    · exact fo

theorem State.writeTag_memSame {pre : State} {s : State} (fo : MemSame pre s) {t : Nat} {r : Nat} : MemSame pre (s.writeTag t r) := by
  unfold State.writeTag
  exact MemSame.ite (State.setTag_memSame fo) fo

theorem State.poisonWords_memSame {pre : State} {s : State} (fo : MemSame pre s) {t : Nat} {r : Nat} {cycle : Nat} {mask : List Nat} : MemSame pre (s.poisonWords t r cycle mask) := by
  unfold State.poisonWords
  exact MemSame.ite (State.updTile_memSame fo) (State.boundsFault_memSame fo)

/-! ### Operations that leave alone what lies beside the tiles -/

theorem State.setTag_beside {pre : State} {s : State} (fo : Beside pre s) {t : Nat} {r : Nat} {v : Nat} : Beside pre (s.setTag t r v) := by
  unfold State.setTag
  exact State.updTile_beside fo

theorem State.weakRow_beside {pre : State} {s : State} (fo : Beside pre s) {t : Nat} {r : Nat} {cycle : Nat} : Beside pre (s.weakRow t r cycle) := by
  unfold State.weakRow
  extract_lets s1
  have h1 : Beside pre s1 := State.tileRecord_beside (State.setReg_beside (State.setReg_beside fo))
  clear_value s1
  exact State.updTile_beside h1

theorem State.lastErr_beside {pre : State} {s : State} (fo : Beside pre s) {t : Nat} {r : Nat} {w : Nat} {ue : Nat} {syn : Nat} : Beside pre (s.lastErr t r w ue syn) := by
  unfold State.lastErr
  exact State.setReg_beside (State.setReg_beside (State.setReg_beside (State.setReg_beside fo)))

theorem State.corrected_beside {pre : State} {s : State} (fo : Beside pre s) {t : Nat} {r : Nat} {w : Nat} {mask : Nat} {cycle : Nat} : Beside pre (s.corrected t r w mask cycle) := by
  unfold State.corrected
  extract_lets s1 s2 s3
  have h1 : Beside pre s1 := State.lastErr_beside (State.setReg_beside (State.addReg_beside fo))
  clear_value s1
  have h2 : Beside pre s3 := State.updTile_beside h1
  clear_value s3
  exact Beside.ite (State.weakRow_beside h2) h2

theorem State.readWord_beside {pre : State} {s : State} (fo : Beside pre s) {t : Nat} {r : Nat} {cycle : Nat} {sched : Bool} {w : Nat} : Beside pre (s.readWord t r cycle sched w).fst := by
  unfold State.readWord
  extract_lets s1 s2 s3 s4 s5
  have h1 : ∀ (s : State) (code : Nat), Beside pre s → Beside pre (s2 s code) := by
    intro x1 x2 h1
    unfold s2
    extract_lets s6
    exact Beside.ite (State.tileFault_beside h1) (State.tileRecord_beside h1)
  clear_value s2
  have h2 : Beside pre s4 := State.lastErr_beside (State.setReg_beside (State.addReg_beside fo))
  clear_value s4
  have h3 : Beside pre s5 := State.updTile_beside h2
  clear_value s5
  split
  · dsimp only
    apply h1
    · exact fo
  · split
    · exact fo
    · split
      · dsimp only
        exact State.corrected_beside fo
      · dsimp only
        apply h1
        · exact h3

theorem State.readWords_beside {pre : State} {s : State} (fo : Beside pre s) {t : Nat} {r : Nat} {cycle : Nat} {sched : Bool} : Beside pre (s.readWords t r cycle sched).fst := by
  unfold State.readWords
  apply foldl_beside1
  · intro x1 x2 h1
    extract_lets s1
    have h2 : Beside pre s1.fst := State.readWord_beside h1
    clear_value s1
    exact h2
  · exact fo

theorem State.readRow_beside {pre : State} {s : State} (fo : Beside pre s) {t : Nat} {r : Nat} {cycle : Nat} {sched : Bool} : Beside pre (s.readRow t r cycle sched).fst := by
  unfold State.readRow
  extract_lets s1
  have h1 : Beside pre s1.fst := State.readWords_beside fo
  clear_value s1
  exact h1

theorem State.boundsFault_beside {pre : State} {s : State} (fo : Beside pre s) {t : Nat} {r : Nat} {cycle : Nat} : Beside pre (s.boundsFault t r cycle) := by
  unfold State.boundsFault
  exact State.tileFault_beside (State.setReg_beside fo)

theorem State.schedRead_beside {pre : State} {s : State} (fo : Beside pre s) {t : Nat} {r : Nat} {cycle : Nat} : Beside pre (s.schedRead t r cycle).fst := by
  unfold State.schedRead
  split
  · extract_lets s1
    have h1 : Beside pre s1.fst := State.readRow_beside fo
    clear_value s1
    dsimp only
    exact Beside.ite (State.setTag_beside h1) h1
  · dsimp only
    exact State.boundsFault_beside fo

theorem State.schedReads_beside {pre : State} {t : Nat} {cycle : Nat} {r : Nat} {n : Nat} : ∀ {s : State}, Beside pre s → Beside pre (s.schedReads t cycle r n).1 := by
  induction n generalizing r with
  | zero => intro s h; exact h
  | succ n ih => intro s h; exact ih (State.schedRead_beside h)

theorem State.storeWords_beside {pre : State} {s : State} (fo : Beside pre s) {t : Nat} {r : Nat} {beats : List Beat} {mask : List Nat} : Beside pre (s.storeWords t r beats mask) := by
  unfold State.storeWords
  apply foldl_beside
  · intro x1 x2 h1
    extract_lets s1 s2 s3
    have h2 : Beside pre s3 := State.updTile_beside h1
    clear_value s3
    exact State.setMem_beside h2
  · exact fo

theorem State.injectFlip_beside {pre : State} {s : State} (fo : Beside pre s) {t : Nat} {r : Nat} {mask : List Nat} : Beside pre (s.injectFlip t r mask) := by
  unfold State.injectFlip
  extract_lets s1
  split
  · exact fo
  · rename_i y1 y2 y3
    apply Beside.ite
    · extract_lets s2
      have h1 : Beside pre s2 := State.updTile_beside fo
      clear_value s2
      exact State.setReg_beside (State.setReg_beside h1)
    · exact fo

theorem State.writeTag_beside {pre : State} {s : State} (fo : Beside pre s) {t : Nat} {r : Nat} : Beside pre (s.writeTag t r) := by
  unfold State.writeTag
  exact Beside.ite (State.setTag_beside fo) fo

theorem State.schedWrite_beside {pre : State} {s : State} (fo : Beside pre s) {t : Nat} {r : Nat} {cycle : Nat} {beats : List Beat} {mask : List Nat} : Beside pre (s.schedWrite t r cycle beats mask) := by
  unfold State.schedWrite
  exact Beside.ite (State.writeTag_beside (State.injectFlip_beside (State.storeWords_beside fo))) (State.boundsFault_beside fo)

theorem State.schedWrites_beside {pre : State} {t : Nat} {cycle : Nat} {r : Nat} {bs : List Beat} {n : Nat} : ∀ {s : State}, Beside pre s → Beside pre (s.schedWrites t cycle r bs n) := by
  induction n generalizing r bs with
  | zero => intro s h; exact h
  | succ n ih => intro s h; exact ih (State.schedWrite_beside h)

theorem State.byteWrite_beside {pre : State} {s : State} (fo : Beside pre s) {t : Nat} {r : Nat} {i : Nat} {v : Nat} {poison : Bool} {trouble : Bool} {cycle : Nat} : Beside pre (State.byteWrite s t r i v poison trouble cycle) := by
  unfold State.byteWrite
  extract_lets s1 s2
  have h1 : Beside pre s2.fst := State.readWord_beside fo
  clear_value s2
  exact State.updTile_beside (State.setMem_beside h1)

theorem State.poisonWords_beside {pre : State} {s : State} (fo : Beside pre s) {t : Nat} {r : Nat} {cycle : Nat} {mask : List Nat} : Beside pre (s.poisonWords t r cycle mask) := by
  unfold State.poisonWords
  exact Beside.ite (State.updTile_beside fo) (State.boundsFault_beside fo)

theorem State.zeroSlices_beside {pre : State} {s : State} (fo : Beside pre s) {p : Nat → Bool} : Beside pre (s.zeroSlices p) := by
  unfold State.zeroSlices
  exact fo.same (Eq.refl _) (Eq.refl _) (Eq.refl _) (Eq.refl _) (Eq.refl _) (Eq.refl _) (Eq.refl _) (Eq.refl _) (Eq.refl _) (Eq.refl _) (Eq.refl _) (Eq.refl _) (Eq.refl _) (Eq.refl _) (Eq.refl _) (Eq.refl _) (Eq.refl _)

end Sys2Proof.Machine
end

