-- ==== Sys2Proof/Laws/Tail.lean ====
section
/-! SUPPORT. What the operations of Machine/Tail.lean keep: one lemma for each, by the lemmas of those that it calls. -/

namespace Sys2Proof.Machine

open Sys2Proof

theorem State.quant_follows {pre : State} {s : State} (fo : Follows pre s) {t : Nat} {lim : Nat} {pred : Nat} {xs : List Nat} : Follows pre (s.quant t lim pred xs).fst := by
  unfold State.quant
  extract_lets s1 s2
  dsimp only
  exact State.updTile_follows fo

theorem State.quantAll_follows {pre : State} {t : Nat} {lim : Nat} {pred : Nat} {l : List (List Nat)} : ∀ {s : State}, Follows pre s → Follows pre (s.quantAll t lim pred l).1 := by
  induction l with
  | nil => intro s h; exact h
  | cons b r ih => intro s h; exact ih (State.quant_follows h)

theorem State.numTrouble_follows {pre : State} {s : State} (fo : Follows pre s) {t : Nat} {cycle : Nat} {entry : Nat} {code : Nat} : Follows pre (s.numTrouble t cycle entry code) := by
  unfold State.numTrouble
  exact State.tileRecord_follows fo

theorem State.reportRec_follows {pre : State} {s : State} (fo : Follows pre s) {t : Nat} : Follows pre (s.reportRec t) := by
  unfold State.reportRec
  exact State.updTile_follows fo

theorem State.reportSplit_follows {pre : State} {s : State} (fo : Follows pre s) {t : Nat} : Follows pre (s.reportSplit t) := by
  unfold State.reportSplit
  exact State.updTile_follows fo

theorem State.reportWide_follows {pre : State} {s : State} (fo : Follows pre s) {t : Nat} : Follows pre (s.reportWide t) := by
  unfold State.reportWide
  exact State.updTile_follows fo

theorem State.reportFault_follows {pre : State} {s : State} (fo : Follows pre s) {t : Nat} : Follows pre (s.reportFault t) := by
  unfold State.reportFault
  exact State.updTile_follows fo

theorem State.wideSat_follows {pre : State} {s : State} (fo : Follows pre s) {t : Nat} {cycle : Nat} {entry : Nat} {l : List Nat} : Follows pre (s.wideSat t cycle entry l) := by
  unfold State.wideSat
  exact Follows.ite fo (State.reportWide_follows (State.numTrouble_follows (State.addReg_follows (State.orReg_follows fo))))

theorem State.quantRuns_follows {pre : State} {s : State} (fo : Follows pre s) {t : Nat} {l : List ((Nat × Bool) × List Nat)} : Follows pre (State.quantRuns s t l).fst := by
  unfold State.quantRuns
  apply foldl_follows1
  · intro x1 x2 h1
    extract_lets s1
    have h2 : Follows pre s1.fst := State.quantAll_follows h1
    clear_value s1
    exact h2
  · exact fo

theorem State.blockTrouble_follows {pre : State} {s : State} (fo : Follows pre s) {t : Nat} {cycle : Nat} {entry : Nat} {outs : List TailOut} {bl : List ((Nat × Bool) × List QBlock)} : Follows pre (State.blockTrouble s t cycle entry outs bl) := by
  unfold State.blockTrouble
  extract_lets s1 s2 s3 s4
  have h1 : Follows pre s4 := Follows.ite fo (State.reportRec_follows (State.numTrouble_follows (State.addReg_follows (State.orReg_follows fo))))
  clear_value s4
  exact Follows.ite h1 (State.reportRec_follows (State.numTrouble_follows (State.addReg_follows (State.orReg_follows h1))))

theorem State.retain_follows {pre : State} {s : State} (fo : Follows pre s) {t : Nat} {cycle : Nat} {row : Nat} {vals : List (List Int)} {poison : List Bool} {trouble : List Bool} : Follows pre (State.retain s t cycle row vals poison trouble) := by
  unfold State.retain
  exact State.schedWrites_follows fo

theorem State.tailPath_follows {pre : State} {s : State} (fo : Follows pre s) {t : Nat} {cycle : Nat} {entry : Nat} {tcfg : Nat} {retRow : Nat} {arrs : List TailArr} {vals : List (List Int)} {poison : List Bool} {trouble : List Bool} : Follows pre (State.tailPath s t cycle entry tcfg retRow arrs vals poison trouble) := by
  unfold State.tailPath
  extract_lets s1 s2 s3 s4 s5 s6 s7 s8
  have h1 : Follows pre s3.fst := State.quantRuns_follows fo
  clear_value s3
  have h2 : Follows pre s5 := h1
  clear_value s5
  have h3 : Follows pre s7 := State.updTile_follows h2
  clear_value s7
  have h4 : Follows pre s8 := State.blockTrouble_follows h3
  clear_value s8
  exact Follows.ite (State.updTile_follows h4) h4

/-! ### Operations that leave memory alone -/

theorem State.quant_memSame {pre : State} {s : State} (fo : MemSame pre s) {t : Nat} {lim : Nat} {pred : Nat} {xs : List Nat} : MemSame pre (s.quant t lim pred xs).fst := by
  unfold State.quant
  extract_lets s1 s2
  dsimp only
  exact State.updTile_memSame fo

theorem State.quantAll_memSame {pre : State} {t : Nat} {lim : Nat} {pred : Nat} {l : List (List Nat)} : ∀ {s : State}, MemSame pre s → MemSame pre (s.quantAll t lim pred l).1 := by
  induction l with
  | nil => intro s h; exact h
  | cons b r ih => intro s h; exact ih (State.quant_memSame h)

theorem State.numTrouble_memSame {pre : State} {s : State} (fo : MemSame pre s) {t : Nat} {cycle : Nat} {entry : Nat} {code : Nat} : MemSame pre (s.numTrouble t cycle entry code) := by
  unfold State.numTrouble
  exact State.tileRecord_memSame fo

theorem State.reportRec_memSame {pre : State} {s : State} (fo : MemSame pre s) {t : Nat} : MemSame pre (s.reportRec t) := by
  unfold State.reportRec
  exact State.updTile_memSame fo

theorem State.reportSplit_memSame {pre : State} {s : State} (fo : MemSame pre s) {t : Nat} : MemSame pre (s.reportSplit t) := by
  unfold State.reportSplit
  exact State.updTile_memSame fo

theorem State.reportWide_memSame {pre : State} {s : State} (fo : MemSame pre s) {t : Nat} : MemSame pre (s.reportWide t) := by
  unfold State.reportWide
  exact State.updTile_memSame fo

theorem State.reportFault_memSame {pre : State} {s : State} (fo : MemSame pre s) {t : Nat} : MemSame pre (s.reportFault t) := by
  unfold State.reportFault
  exact State.updTile_memSame fo

theorem State.wideSat_memSame {pre : State} {s : State} (fo : MemSame pre s) {t : Nat} {cycle : Nat} {entry : Nat} {l : List Nat} : MemSame pre (s.wideSat t cycle entry l) := by
  unfold State.wideSat
  exact MemSame.ite fo (State.reportWide_memSame (State.numTrouble_memSame (State.addReg_memSame (State.orReg_memSame fo))))

theorem State.quantRuns_memSame {pre : State} {s : State} (fo : MemSame pre s) {t : Nat} {l : List ((Nat × Bool) × List Nat)} : MemSame pre (State.quantRuns s t l).fst := by
  unfold State.quantRuns
  apply foldl_memSame1
  · intro x1 x2 h1
    extract_lets s1
    have h2 : MemSame pre s1.fst := State.quantAll_memSame h1
    clear_value s1
    exact h2
  · exact fo

theorem State.blockTrouble_memSame {pre : State} {s : State} (fo : MemSame pre s) {t : Nat} {cycle : Nat} {entry : Nat} {outs : List TailOut} {bl : List ((Nat × Bool) × List QBlock)} : MemSame pre (State.blockTrouble s t cycle entry outs bl) := by
  unfold State.blockTrouble
  extract_lets s1 s2 s3 s4
  have h1 : MemSame pre s4 := MemSame.ite fo (State.reportRec_memSame (State.numTrouble_memSame (State.addReg_memSame (State.orReg_memSame fo))))
  clear_value s4
  exact MemSame.ite h1 (State.reportRec_memSame (State.numTrouble_memSame (State.addReg_memSame (State.orReg_memSame h1))))

theorem State.tailPath_memSame {pre : State} {s : State} (fo : MemSame pre s) {t : Nat} {cycle : Nat} {entry : Nat} {tcfg : Nat} {retRow : Nat} {arrs : List TailArr} {vals : List (List Int)} {poison : List Bool} {trouble : List Bool} : MemSame pre (State.tailPath s t cycle entry tcfg retRow arrs vals poison trouble) := by
  unfold State.tailPath
  extract_lets s1 s2 s3 s4 s5 s6 s7 s8
  have h1 : MemSame pre s3.fst := State.quantRuns_memSame fo
  clear_value s3
  have h2 : MemSame pre s5 := h1
  clear_value s5
  have h3 : MemSame pre s7 := State.updTile_memSame h2
  clear_value s7
  have h4 : MemSame pre s8 := State.blockTrouble_memSame h3
  clear_value s8
  exact MemSame.ite (State.updTile_memSame h4) h4

/-! ### Operations that leave alone what lies beside the tiles -/

theorem State.quant_beside {pre : State} {s : State} (fo : Beside pre s) {t : Nat} {lim : Nat} {pred : Nat} {xs : List Nat} : Beside pre (s.quant t lim pred xs).fst := by
  unfold State.quant
  extract_lets s1 s2
  dsimp only
  exact State.updTile_beside fo

theorem State.quantAll_beside {pre : State} {t : Nat} {lim : Nat} {pred : Nat} {l : List (List Nat)} : ∀ {s : State}, Beside pre s → Beside pre (s.quantAll t lim pred l).1 := by
  induction l with
  | nil => intro s h; exact h
  | cons b r ih => intro s h; exact ih (State.quant_beside h)

theorem State.numTrouble_beside {pre : State} {s : State} (fo : Beside pre s) {t : Nat} {cycle : Nat} {entry : Nat} {code : Nat} : Beside pre (s.numTrouble t cycle entry code) := by
  unfold State.numTrouble
  exact State.tileRecord_beside fo

theorem State.reportRec_beside {pre : State} {s : State} (fo : Beside pre s) {t : Nat} : Beside pre (s.reportRec t) := by
  unfold State.reportRec
  exact State.updTile_beside fo

theorem State.reportSplit_beside {pre : State} {s : State} (fo : Beside pre s) {t : Nat} : Beside pre (s.reportSplit t) := by
  unfold State.reportSplit
  exact State.updTile_beside fo

theorem State.reportWide_beside {pre : State} {s : State} (fo : Beside pre s) {t : Nat} : Beside pre (s.reportWide t) := by
  unfold State.reportWide
  exact State.updTile_beside fo

theorem State.reportFault_beside {pre : State} {s : State} (fo : Beside pre s) {t : Nat} : Beside pre (s.reportFault t) := by
  unfold State.reportFault
  exact State.updTile_beside fo

theorem State.wideSat_beside {pre : State} {s : State} (fo : Beside pre s) {t : Nat} {cycle : Nat} {entry : Nat} {l : List Nat} : Beside pre (s.wideSat t cycle entry l) := by
  unfold State.wideSat
  exact Beside.ite fo (State.reportWide_beside (State.numTrouble_beside (State.addReg_beside (State.orReg_beside fo))))

theorem State.quantRuns_beside {pre : State} {s : State} (fo : Beside pre s) {t : Nat} {l : List ((Nat × Bool) × List Nat)} : Beside pre (State.quantRuns s t l).fst := by
  unfold State.quantRuns
  apply foldl_beside1
  · intro x1 x2 h1
    extract_lets s1
    have h2 : Beside pre s1.fst := State.quantAll_beside h1
    clear_value s1
    exact h2
  · exact fo

theorem State.blockTrouble_beside {pre : State} {s : State} (fo : Beside pre s) {t : Nat} {cycle : Nat} {entry : Nat} {outs : List TailOut} {bl : List ((Nat × Bool) × List QBlock)} : Beside pre (State.blockTrouble s t cycle entry outs bl) := by
  unfold State.blockTrouble
  extract_lets s1 s2 s3 s4
  have h1 : Beside pre s4 := Beside.ite fo (State.reportRec_beside (State.numTrouble_beside (State.addReg_beside (State.orReg_beside fo))))
  clear_value s4
  exact Beside.ite h1 (State.reportRec_beside (State.numTrouble_beside (State.addReg_beside (State.orReg_beside h1))))

theorem State.retain_beside {pre : State} {s : State} (fo : Beside pre s) {t : Nat} {cycle : Nat} {row : Nat} {vals : List (List Int)} {poison : List Bool} {trouble : List Bool} : Beside pre (State.retain s t cycle row vals poison trouble) := by
  unfold State.retain
  exact State.schedWrites_beside fo

theorem State.tailPath_beside {pre : State} {s : State} (fo : Beside pre s) {t : Nat} {cycle : Nat} {entry : Nat} {tcfg : Nat} {retRow : Nat} {arrs : List TailArr} {vals : List (List Int)} {poison : List Bool} {trouble : List Bool} : Beside pre (State.tailPath s t cycle entry tcfg retRow arrs vals poison trouble) := by
  unfold State.tailPath
  extract_lets s1 s2 s3 s4 s5 s6 s7 s8
  have h1 : Beside pre s3.fst := State.quantRuns_beside fo
  clear_value s3
  have h2 : Beside pre s5 := h1
  clear_value s5
  have h3 : Beside pre s7 := State.updTile_beside h2
  clear_value s7
  have h4 : Beside pre s8 := State.blockTrouble_beside h3
  clear_value s8
  exact Beside.ite (State.updTile_beside h4) h4

end Sys2Proof.Machine
end

