-- ==== Sys2Proof/Laws/Issue.lean ====
section
/-! SUPPORT. What the operations of Machine/Issue.lean keep: one lemma for each, by the lemmas of those that it calls. -/

namespace Sys2Proof.Machine

open Sys2Proof

theorem State.portClaim_follows {pre : State} {s : State} (fo : Follows pre s) {t : Nat} {c : Nat} {unit : Nat} {w : Nat} {rows : List Nat} : Follows pre (State.portClaim s t c unit w rows) := by
  unfold State.portClaim
  exact State.updTile_follows fo

theorem State.portRecord_follows {pre : State} {s : State} (fo : Follows pre s) {i : Issue} {row : Nat} : Follows pre (State.portRecord s i row) := by
  unfold State.portRecord
  exact State.tileFault_follows fo

theorem State.parityFault_follows {pre : State} {s : State} (fo : Follows pre s) {t : Nat} {cycle : Nat} {entry : Nat} : Follows pre (s.parityFault t cycle entry) := by
  unfold State.parityFault
  exact State.tileFault_follows (State.addReg_follows (State.setReg_follows fo))

theorem State.parityOf_follows {pre : State} {s : State} (fo : Follows pre s) {t : Nat} {entry : Nat} : Follows pre (s.parityOf t entry).fst := by
  unfold State.parityOf
  split
  · dsimp only
    exact State.updTile_follows (State.setReg_follows (State.setReg_follows fo))
  · exact fo

theorem State.issue_follows {pre : State} {s : State} (fo : Follows pre s) {i : Issue} {unit : Nat} {refuse : State → State} (hrefuse : ∀ {v1 : State}, Follows pre v1 → Follows pre (refuse v1)) {run : State → State} (hrun : ∀ {v1 : State}, Follows pre v1 → Follows pre (run v1)) : FollowsO pre (State.issue s i unit refuse run) := by
  unfold State.issue
  extract_lets s1 s2
  have h1 : Follows pre s2.fst := State.parityOf_follows (State.updTile_follows (State.setReg_follows fo))
  clear_value s2
  exact FollowsO.ite (FollowsO.ite (FollowsO.next (hrefuse (State.parityFault_follows h1))) (FollowsO.next (hrun h1))) (FollowsO.next fo)

theorem State.takeBeat_follows {pre : State} {s : State} (fo : Follows pre s) {t : Nat} {port : Nat} {cycle : Nat} : Follows pre (s.takeBeat t port cycle).fst := by
  unfold State.takeBeat
  extract_lets s1
  split
  · rename_i y1 y2 y3
    exact fo
  · dsimp only
    exact State.tileFault_follows (State.setReg_follows fo)

theorem State.takeBeats_follows {pre : State} {t : Nat} {port : Nat} {cycle : Nat} {n : Nat} : ∀ {s : State}, Follows pre s → Follows pre (s.takeBeats t port cycle n).1 := by
  induction n generalizing cycle with
  | zero => intro s h; exact h
  | succ n ih => intro s h; exact ih (State.takeBeat_follows h)

theorem State.poisonSeen_follows {pre : State} {s : State} (fo : Follows pre s) {t : Nat} {bs : List Beat} : Follows pre (s.poisonSeen t bs) := by
  unfold State.poisonSeen
  exact Follows.ite (State.reportFault_follows fo) fo

/-! ### Operations that leave memory alone -/

theorem State.portClaim_memSame {pre : State} {s : State} (fo : MemSame pre s) {t : Nat} {c : Nat} {unit : Nat} {w : Nat} {rows : List Nat} : MemSame pre (State.portClaim s t c unit w rows) := by
  unfold State.portClaim
  exact State.updTile_memSame fo

theorem State.portRecord_memSame {pre : State} {s : State} (fo : MemSame pre s) {i : Issue} {row : Nat} : MemSame pre (State.portRecord s i row) := by
  unfold State.portRecord
  exact State.tileFault_memSame fo

theorem State.parityFault_memSame {pre : State} {s : State} (fo : MemSame pre s) {t : Nat} {cycle : Nat} {entry : Nat} : MemSame pre (s.parityFault t cycle entry) := by
  unfold State.parityFault
  exact State.tileFault_memSame (State.addReg_memSame (State.setReg_memSame fo))

theorem State.parityOf_memSame {pre : State} {s : State} (fo : MemSame pre s) {t : Nat} {entry : Nat} : MemSame pre (s.parityOf t entry).fst := by
  unfold State.parityOf
  split
  · dsimp only
    exact State.updTile_memSame (State.setReg_memSame (State.setReg_memSame fo))
  · exact fo

theorem State.issue_memSame {pre : State} {s : State} (fo : MemSame pre s) {i : Issue} {unit : Nat} {refuse : State → State} (hrefuse : ∀ {v1 : State}, MemSame pre v1 → MemSame pre (refuse v1)) {run : State → State} (hrun : ∀ {v1 : State}, MemSame pre v1 → MemSame pre (run v1)) : MemSameO pre (State.issue s i unit refuse run) := by
  unfold State.issue
  extract_lets s1 s2
  have h1 : MemSame pre s2.fst := State.parityOf_memSame (State.updTile_memSame (State.setReg_memSame fo))
  clear_value s2
  exact MemSameO.ite (MemSameO.ite (MemSameO.next (hrefuse (State.parityFault_memSame h1))) (MemSameO.next (hrun h1))) (MemSameO.next fo)

theorem State.takeBeat_memSame {pre : State} {s : State} (fo : MemSame pre s) {t : Nat} {port : Nat} {cycle : Nat} : MemSame pre (s.takeBeat t port cycle).fst := by
  unfold State.takeBeat
  extract_lets s1
  split
  · rename_i y1 y2 y3
    exact fo
  · dsimp only
    exact State.tileFault_memSame (State.setReg_memSame fo)

theorem State.takeBeats_memSame {pre : State} {t : Nat} {port : Nat} {cycle : Nat} {n : Nat} : ∀ {s : State}, MemSame pre s → MemSame pre (s.takeBeats t port cycle n).1 := by
  induction n generalizing cycle with
  | zero => intro s h; exact h
  | succ n ih => intro s h; exact ih (State.takeBeat_memSame h)

theorem State.poisonSeen_memSame {pre : State} {s : State} (fo : MemSame pre s) {t : Nat} {bs : List Beat} : MemSame pre (s.poisonSeen t bs) := by
  unfold State.poisonSeen
  exact MemSame.ite (State.reportFault_memSame fo) fo

/-! ### Operations that leave alone what lies beside the tiles -/

theorem State.portClaim_beside {pre : State} {s : State} (fo : Beside pre s) {t : Nat} {c : Nat} {unit : Nat} {w : Nat} {rows : List Nat} : Beside pre (State.portClaim s t c unit w rows) := by
  unfold State.portClaim
  exact State.updTile_beside fo

theorem State.portRecord_beside {pre : State} {s : State} (fo : Beside pre s) {i : Issue} {row : Nat} : Beside pre (State.portRecord s i row) := by
  unfold State.portRecord
  exact State.tileFault_beside fo

theorem State.parityFault_beside {pre : State} {s : State} (fo : Beside pre s) {t : Nat} {cycle : Nat} {entry : Nat} : Beside pre (s.parityFault t cycle entry) := by
  unfold State.parityFault
  exact State.tileFault_beside (State.addReg_beside (State.setReg_beside fo))

theorem State.parityOf_beside {pre : State} {s : State} (fo : Beside pre s) {t : Nat} {entry : Nat} : Beside pre (s.parityOf t entry).fst := by
  unfold State.parityOf
  split
  · dsimp only
    exact State.updTile_beside (State.setReg_beside (State.setReg_beside fo))
  · exact fo

theorem State.issue_beside {pre : State} {s : State} (fo : Beside pre s) {i : Issue} {unit : Nat} {refuse : State → State} (hrefuse : ∀ {v1 : State}, Beside pre v1 → Beside pre (refuse v1)) {run : State → State} (hrun : ∀ {v1 : State}, Beside pre v1 → Beside pre (run v1)) : BesideO pre (State.issue s i unit refuse run) := by
  unfold State.issue
  extract_lets s1 s2
  have h1 : Beside pre s2.fst := State.parityOf_beside (State.updTile_beside (State.setReg_beside fo))
  clear_value s2
  exact BesideO.ite (BesideO.ite (BesideO.next (hrefuse (State.parityFault_beside h1))) (BesideO.next (hrun h1))) (BesideO.next fo)

theorem State.takeBeat_beside {pre : State} {s : State} (fo : Beside pre s) {t : Nat} {port : Nat} {cycle : Nat} : Beside pre (s.takeBeat t port cycle).fst := by
  unfold State.takeBeat
  extract_lets s1
  split
  · rename_i y1 y2 y3
    exact fo
  · dsimp only
    exact State.tileFault_beside (State.setReg_beside fo)

theorem State.takeBeats_beside {pre : State} {t : Nat} {port : Nat} {cycle : Nat} {n : Nat} : ∀ {s : State}, Beside pre s → Beside pre (s.takeBeats t port cycle n).1 := by
  induction n generalizing cycle with
  | zero => intro s h; exact h
  | succ n ih => intro s h; exact ih (State.takeBeat_beside h)

theorem State.poisonSeen_beside {pre : State} {s : State} (fo : Beside pre s) {t : Nat} {bs : List Beat} : Beside pre (s.poisonSeen t bs) := by
  unfold State.poisonSeen
  exact Beside.ite (State.reportFault_beside fo) fo

end Sys2Proof.Machine
end

