-- ==== Sys2Proof/Laws/Arrays.lean ====
section
/-! SUPPORT. What the operations of Machine/Arrays.lean keep: one lemma for each, by the lemmas of those that it calls. -/

namespace Sys2Proof.Machine

open Sys2Proof

theorem State.refuseArray_follows {pre : State} {s : State} (fo : Follows pre s) {t : Nat} {cycle : Nat} {entry : Nat} {code : Nat} {n : Nat} {pl : Nat} {row : Nat} : Follows pre (s.refuseArray t cycle entry code n pl row) := by
  unfold State.refuseArray
  exact State.tileFault_follows (State.setReg_follows fo)

theorem State.poisonOut_follows {pre : State} {s : State} (fo : Follows pre s) {t : Nat} {arrs : List Nat} {nb : Nat → Nat} : Follows pre (State.poisonOut s t arrs nb) := by
  unfold State.poisonOut
  exact State.updTile_follows fo

theorem State.refuseAll_follows {pre : State} {s : State} (fo : Follows pre s) {t : Nat} {cycle : Nat} {entry : Nat} {pl : Nat} {row : Nat} {nb : Nat → Nat} {arrs : List Nat} {rs : Refusals} : Follows pre (State.refuseAll s t cycle entry pl row nb arrs rs) := by
  unfold State.refuseAll
  extract_lets s1
  have h1 : Follows pre s1 := by
    unfold s1
    apply foldl_follows
    · intro x1 x2 h2
      exact State.refuseArray_follows h2
    · exact fo
  clear_value s1
  exact State.poisonOut_follows h1

theorem State.refuseForm_follows {pre : State} {s : State} (fo : Follows pre s) {i : Issue} {pl : Nat} {row : Nat} {nb : Nat → Nat} : Follows pre (State.refuseForm s i pl row nb) := by
  unfold State.refuseForm
  extract_lets s1
  exact Follows.ite (State.tileFault_follows fo) (State.refuseAll_follows fo)

theorem State.otherWord_follows {pre : State} {s : State} (fo : Follows pre s) {i : Issue} : Follows pre (State.otherWord s i) := by
  unfold State.otherWord
  extract_lets s1
  exact Follows.ite (State.refuseForm_follows fo) fo

theorem State.refuseQuiet_follows {pre : State} {s : State} (fo : Follows pre s) {i : Issue} {nb : Nat → Nat} : Follows pre (State.refuseQuiet s i nb) := by
  unfold State.refuseQuiet
  extract_lets s1
  apply State.poisonOut_follows
  apply foldl_follows
  · intro x1 x2 h1
    exact State.setReg_follows h1
  · exact fo

theorem State.refusePort_follows {pre : State} {s : State} (fo : Follows pre s) {i : Issue} {row : Nat} {nb : Nat → Nat} : Follows pre (State.refusePort s i row nb) := by
  unfold State.refusePort
  exact State.portRecord_follows (State.refuseQuiet_follows fo)

theorem State.runLdin_follows {pre : State} {s : State} (fo : Follows pre s) {i : Issue} : Follows pre (State.runLdin s i) := by
  unfold State.runLdin
  extract_lets s1 s2 s3 s4 s5 s6 s7 s8 s9 s10 s11 s12
  have h1 : Follows pre s10 := State.portClaim_follows fo
  clear_value s10
  have h2 : Follows pre s11.fst := State.schedReads_follows h1
  clear_value s11
  have h3 : Follows pre s12.fst := by
    unfold s12
    split
    · exact h2
    · exact State.takeBeats_follows h1
  clear_value s12
  exact Follows.ite (State.otherWord_follows fo) (Follows.ite (State.refuseForm_follows fo) (Follows.ite (State.refuseAll_follows fo) (Follows.ite (State.refusePort_follows fo) (State.updTile_follows (State.poisonSeen_follows h3)))))

theorem execLdin_follows {pre : State} {i : Issue} {s : State} (fo : Follows pre s) : FollowsO pre (execLdin i s) := by
  unfold execLdin
  apply State.issue_follows
  · exact fo
  · intro x1 h1
    exact State.refuseQuiet_follows h1
  · intro x1 h1
    exact State.runLdin_follows h1

theorem State.redAccept_follows {pre : State} {s : State} (fo : Follows pre s) {i : Issue} : Follows pre (State.redAccept s i) := by
  unfold State.redAccept
  extract_lets s1 s2 s3 s4 s5 s6 s7 s8 s9 s10 s11 s12 s13 s14 s15 s16 s17 s18 s19 s20 s21 s22 s23 s24 s25 s26 s27 s28
  have h1 : Follows pre s12 := State.updTile_follows fo
  clear_value s12
  have h2 : Follows pre s13.fst := by
    unfold s13
    split
    · exact h1
    · exact State.takeBeats_follows h1
  clear_value s13
  have h3 : Follows pre s14.fst := by
    unfold s14
    split
    · exact h2
    · exact State.takeBeats_follows h2
  clear_value s14
  have h4 : Follows pre s15 := State.poisonSeen_follows (State.poisonSeen_follows h3)
  clear_value s15
  have h5 : Follows pre s23 := State.wideSat_follows h4
  clear_value s23
  have h6 : Follows pre s25 := Follows.ite (State.retain_follows h5) h5
  clear_value s25
  have h7 : Follows pre s28 := State.wideSat_follows h4
  clear_value s28
  exact Follows.ite (State.tailPath_follows h6) (State.updTile_follows h7)

theorem State.runRed_follows {pre : State} {s : State} (fo : Follows pre s) {i : Issue} : Follows pre (State.runRed s i) := by
  unfold State.runRed
  extract_lets s1 s2 s3 s4 s5 s6
  exact Follows.ite (State.otherWord_follows fo) (Follows.ite (State.refuseForm_follows fo) (Follows.ite (State.refuseAll_follows fo) (Follows.ite (State.refusePort_follows fo) (State.redAccept_follows (State.portClaim_follows fo)))))

theorem execRed_follows {pre : State} {i : Issue} {s : State} (fo : Follows pre s) : FollowsO pre (execRed i s) := by
  unfold execRed
  apply State.issue_follows
  · exact fo
  · intro x1 h1
    exact State.refuseQuiet_follows h1
  · intro x1 h1
    exact State.runRed_follows h1

theorem State.writeBank_follows {pre : State} {s : State} (fo : Follows pre s) {t : Nat} {pl : Nat} {arrs : List Nat} {r : Nat} {bs : List Beat} : Follows pre (s.writeBank t pl arrs r bs) := by
  unfold State.writeBank
  apply State.setMem_follows
  · exact fo
  · apply MemOk.foldl
    · intro x1 x2 h1
      apply MemOk.foldl
      · intro x3 x4 h2
        exact MemOk.writeBytes h2
      · exact h1
    · exact Follows.memOk fo

theorem State.wrbAccept_follows {pre : State} {s : State} (fo : Follows pre s) {i : Issue} : Follows pre (s.wrbAccept i) := by
  unfold State.wrbAccept
  extract_lets s1 s2 s3 s4 s5 s6 s7 s8 s9 s10 s11 s12
  have h1 : Follows pre s8.fst := State.schedReads_follows fo
  clear_value s8
  have h2 : Follows pre s9 := State.writeBank_follows (State.poisonSeen_follows h1)
  clear_value s9
  have h3 : Follows pre s10 := by
    unfold s10
    apply foldl_follows
    · intro x1 x2 h3
      exact State.setReg_follows h3
    · exact h2
  clear_value s10
  have h4 : Follows pre s12 := h3.same (Eq.refl _) h3.mem (Eq.refl _) (Eq.refl _) (Eq.refl _) (Eq.refl _)
  clear_value s12
  exact State.updTile_follows h4

theorem State.runWrb_follows {pre : State} {s : State} (fo : Follows pre s) {i : Issue} : Follows pre (State.runWrb s i) := by
  unfold State.runWrb
  extract_lets s1 s2 s3 s4 s5 s6 s7 s8
  exact Follows.ite (State.otherWord_follows fo) (Follows.ite (State.refuseForm_follows fo) (Follows.ite (State.refuseAll_follows fo) (Follows.ite (State.refusePort_follows fo) (State.wrbAccept_follows (State.portClaim_follows fo)))))

theorem execWrb_follows {pre : State} {i : Issue} {s : State} (fo : Follows pre s) : FollowsO pre (execWrb i s) := by
  unfold execWrb
  apply State.issue_follows
  · exact fo
  · intro x1 h1
    exact State.refuseQuiet_follows h1
  · intro x1 h1
    exact State.runWrb_follows h1

theorem State.emptyBank_follows {pre : State} {s : State} (fo : Follows pre s) {t : Nat} {n : Nat} {pl : Nat} : Follows pre (s.emptyBank t n pl) := by
  unfold State.emptyBank
  exact State.setReg_follows (State.setMem_follows fo (MemOk.zero (Follows.memOk fo)))

theorem State.setSpares_follows {pre : State} {s : State} (fo : Follows pre s) {f : Fld} {t : Nat} {n : Nat} {v : Nat} : Follows pre (State.setSpares s f t n v) := by
  unfold State.setSpares
  extract_lets s1
  have h1 : Follows pre s1 := State.setReg_follows fo
  clear_value s1
  exact Follows.ite (State.setReg_follows h1) h1

theorem State.needsSpare_follows {pre : State} {s : State} (fo : Follows pre s) {t : Nat} {n : Nat} : Follows pre (State.needsSpare s t n) := by
  unfold State.needsSpare
  exact fo.same (Eq.refl _) fo.mem (Eq.refl _) (Eq.refl _) (Eq.refl _) (Eq.refl _)

theorem State.giveSpare_follows {pre : State} {s : State} (fo : Follows pre s) {t : Nat} {n : Nat} : Follows pre (State.giveSpare s t n) := by
  unfold State.giveSpare
  apply foldl_follows
  · intro x1 x2 h1
    exact State.setReg_follows (State.setReg_follows (State.setReg_follows (State.setReg_follows h1)))
  · exact State.setReg_follows fo

theorem State.failBank_follows {pre : State} {s : State} (fo : Follows pre s) {t : Nat} {n : Nat} {pl : Nat} : Follows pre (State.failBank s t n pl) := by
  unfold State.failBank
  exact Follows.ite (State.setReg_follows fo) fo

theorem State.arrayFault_follows {pre : State} {s : State} (fo : Follows pre s) {t : Nat} {n : Nat} : Follows pre (State.arrayFault s t n) := by
  unfold State.arrayFault
  exact State.needsSpare_follows (State.failBank_follows (State.failBank_follows fo))

theorem State.beginRemap_follows {pre : State} {s : State} (fo : Follows pre s) {t : Nat} {n : Nat} {pl : Nat} {g : Nat} {isRow : Bool} : Follows pre (State.beginRemap s t n pl g isRow) := by
  unfold State.beginRemap
  extract_lets s1 s2 s3 s4 s5
  apply Follows.ite
  · apply State.setReg_follows
    exact fo.same (Eq.refl _) fo.mem (Eq.refl _) (Eq.refl _) (Eq.refl _) (Eq.refl _)
  · exact State.needsSpare_follows (State.failBank_follows fo)

theorem State.spareRow_follows {pre : State} {s : State} (fo : Follows pre s) {t : Nat} {n : Nat} {pl : Nat} {row : Nat} : Follows pre (State.spareRow s t n pl row) := by
  unfold State.spareRow
  extract_lets s1
  exact Follows.ite (State.updTile_follows (State.beginRemap_follows fo)) (State.updTile_follows fo)

theorem State.wrbEnd_follows {pre : State} {s : State} (fo : Follows pre s) {t : Nat} {cycle : Nat} {entry : Nat} {pl : Nat} {n : Nat} {row : Nat} {last : Nat} {bad : List Nat} : Follows pre (State.wrbEnd s t cycle entry pl n row last bad) := by
  unfold State.wrbEnd
  split
  · rename_i y1
    extract_lets s1
    exact State.updTile_follows (State.setReg_follows fo)
  · rename_i y2 y3 y4
    extract_lets s2 s3
    have h1 : Follows pre s2 := State.setReg_follows (State.emptyBank_follows fo)
    clear_value s2
    have h2 : Follows pre s3 := State.tileFault_follows h1
    clear_value s3
    apply foldl_follows
    · intro x1 x2 h3
      exact State.spareRow_follows h3
    · exact h2

theorem State.wrbInject_follows {pre : State} {s : State} (fo : Follows pre s) {t : Nat} {arrs : List Nat} : Follows pre (s.wrbInject t arrs).fst := by
  unfold State.wrbInject
  split
  · dsimp only
    exact State.setReg_follows (State.setReg_follows fo)
  · exact fo

theorem execWrbComplete_follows {pre : State} {tile : Tile} {entry : Fin 4096} {bad : List (Fin 8 × Fin 1024)} {s : State} (fo : Follows pre s) : FollowsO pre (execWrbComplete tile entry bad s) := by
  unfold execWrbComplete
  extract_lets s1
  split
  · exact FollowsO.next fo
  · rename_i y1 y2 y3
    extract_lets s2 s3 s4 s5 s6 s7
    have h1 : Follows pre s6.fst := State.wrbInject_follows fo
    clear_value s6
    have h2 : Follows pre s7 := State.updTile_follows h1
    clear_value s7
    apply FollowsO.next
    apply foldl_follows
    · intro x1 x2 h3
      extract_lets s8
      exact State.wrbEnd_follows h3
    · exact h2

theorem State.runRdb_follows {pre : State} {s : State} (fo : Follows pre s) {i : Issue} : Follows pre (State.runRdb s i) := by
  unfold State.runRdb
  extract_lets s1 s2 s3 s4 s5 s6 s7 s8 s9 s10 s11
  have h1 : Follows pre s10 := State.portClaim_follows fo
  clear_value s10
  have h2 : Follows pre s11 := by
    unfold s11
    apply foldl_follows
    · intro x1 x2 h3
      exact State.schedWrites_follows h3
    · exact h1
  clear_value s11
  exact Follows.ite (State.otherWord_follows fo) (Follows.ite (State.refuseForm_follows fo) (Follows.ite (State.refuseAll_follows fo) (Follows.ite (State.refusePort_follows fo) (State.updTile_follows h2))))

theorem execRdb_follows {pre : State} {i : Issue} {s : State} (fo : Follows pre s) : FollowsO pre (execRdb i s) := by
  unfold execRdb
  apply State.issue_follows
  · exact fo
  · intro x1 h1
    exact State.refuseQuiet_follows h1
  · intro x1 h1
    exact State.runRdb_follows h1

/-! ### Operations that leave memory alone -/

theorem State.refuseArray_memSame {pre : State} {s : State} (fo : MemSame pre s) {t : Nat} {cycle : Nat} {entry : Nat} {code : Nat} {n : Nat} {pl : Nat} {row : Nat} : MemSame pre (s.refuseArray t cycle entry code n pl row) := by
  unfold State.refuseArray
  exact State.tileFault_memSame (State.setReg_memSame fo)

theorem State.poisonOut_memSame {pre : State} {s : State} (fo : MemSame pre s) {t : Nat} {arrs : List Nat} {nb : Nat → Nat} : MemSame pre (State.poisonOut s t arrs nb) := by
  unfold State.poisonOut
  exact State.updTile_memSame fo

theorem State.refuseAll_memSame {pre : State} {s : State} (fo : MemSame pre s) {t : Nat} {cycle : Nat} {entry : Nat} {pl : Nat} {row : Nat} {nb : Nat → Nat} {arrs : List Nat} {rs : Refusals} : MemSame pre (State.refuseAll s t cycle entry pl row nb arrs rs) := by
  unfold State.refuseAll
  extract_lets s1
  have h1 : MemSame pre s1 := by
    unfold s1
    apply foldl_memSame
    · intro x1 x2 h2
      exact State.refuseArray_memSame h2
    · exact fo
  clear_value s1
  exact State.poisonOut_memSame h1

theorem State.refuseForm_memSame {pre : State} {s : State} (fo : MemSame pre s) {i : Issue} {pl : Nat} {row : Nat} {nb : Nat → Nat} : MemSame pre (State.refuseForm s i pl row nb) := by
  unfold State.refuseForm
  extract_lets s1
  exact MemSame.ite (State.tileFault_memSame fo) (State.refuseAll_memSame fo)

theorem State.otherWord_memSame {pre : State} {s : State} (fo : MemSame pre s) {i : Issue} : MemSame pre (State.otherWord s i) := by
  unfold State.otherWord
  extract_lets s1
  exact MemSame.ite (State.refuseForm_memSame fo) fo

theorem State.refuseQuiet_memSame {pre : State} {s : State} (fo : MemSame pre s) {i : Issue} {nb : Nat → Nat} : MemSame pre (State.refuseQuiet s i nb) := by
  unfold State.refuseQuiet
  extract_lets s1
  apply State.poisonOut_memSame
  apply foldl_memSame
  · intro x1 x2 h1
    exact State.setReg_memSame h1
  · exact fo

theorem State.refusePort_memSame {pre : State} {s : State} (fo : MemSame pre s) {i : Issue} {row : Nat} {nb : Nat → Nat} : MemSame pre (State.refusePort s i row nb) := by
  unfold State.refusePort
  exact State.portRecord_memSame (State.refuseQuiet_memSame fo)

theorem State.runLdin_memSame {pre : State} {s : State} (fo : MemSame pre s) {i : Issue} : MemSame pre (State.runLdin s i) := by
  unfold State.runLdin
  extract_lets s1 s2 s3 s4 s5 s6 s7 s8 s9 s10 s11 s12
  have h1 : MemSame pre s10 := State.portClaim_memSame fo
  clear_value s10
  have h2 : MemSame pre s11.fst := State.schedReads_memSame h1
  clear_value s11
  have h3 : MemSame pre s12.fst := by
    unfold s12
    split
    · exact h2
    · exact State.takeBeats_memSame h1
  clear_value s12
  exact MemSame.ite (State.otherWord_memSame fo) (MemSame.ite (State.refuseForm_memSame fo) (MemSame.ite (State.refuseAll_memSame fo) (MemSame.ite (State.refusePort_memSame fo) (State.updTile_memSame (State.poisonSeen_memSame h3)))))

theorem execLdin_memSame {pre : State} {i : Issue} {s : State} (fo : MemSame pre s) : MemSameO pre (execLdin i s) := by
  unfold execLdin
  apply State.issue_memSame
  · exact fo
  · intro x1 h1
    exact State.refuseQuiet_memSame h1
  · intro x1 h1
    exact State.runLdin_memSame h1

theorem State.setSpares_memSame {pre : State} {s : State} (fo : MemSame pre s) {f : Fld} {t : Nat} {n : Nat} {v : Nat} : MemSame pre (State.setSpares s f t n v) := by
  unfold State.setSpares
  extract_lets s1
  have h1 : MemSame pre s1 := State.setReg_memSame fo
  clear_value s1
  exact MemSame.ite (State.setReg_memSame h1) h1

theorem State.needsSpare_memSame {pre : State} {s : State} (fo : MemSame pre s) {t : Nat} {n : Nat} : MemSame pre (State.needsSpare s t n) := by
  unfold State.needsSpare
  exact fo.same (Eq.refl _)

theorem State.giveSpare_memSame {pre : State} {s : State} (fo : MemSame pre s) {t : Nat} {n : Nat} : MemSame pre (State.giveSpare s t n) := by
  unfold State.giveSpare
  apply foldl_memSame
  · intro x1 x2 h1
    exact State.setReg_memSame (State.setReg_memSame (State.setReg_memSame (State.setReg_memSame h1)))
  · exact State.setReg_memSame fo

theorem State.failBank_memSame {pre : State} {s : State} (fo : MemSame pre s) {t : Nat} {n : Nat} {pl : Nat} : MemSame pre (State.failBank s t n pl) := by
  unfold State.failBank
  exact MemSame.ite (State.setReg_memSame fo) fo

theorem State.arrayFault_memSame {pre : State} {s : State} (fo : MemSame pre s) {t : Nat} {n : Nat} : MemSame pre (State.arrayFault s t n) := by
  unfold State.arrayFault
  exact State.needsSpare_memSame (State.failBank_memSame (State.failBank_memSame fo))

theorem State.beginRemap_memSame {pre : State} {s : State} (fo : MemSame pre s) {t : Nat} {n : Nat} {pl : Nat} {g : Nat} {isRow : Bool} : MemSame pre (State.beginRemap s t n pl g isRow) := by
  unfold State.beginRemap
  extract_lets s1 s2 s3 s4 s5
  apply MemSame.ite
  · apply State.setReg_memSame
    exact fo.same (Eq.refl _)
  · exact State.needsSpare_memSame (State.failBank_memSame fo)

theorem State.spareRow_memSame {pre : State} {s : State} (fo : MemSame pre s) {t : Nat} {n : Nat} {pl : Nat} {row : Nat} : MemSame pre (State.spareRow s t n pl row) := by
  unfold State.spareRow
  extract_lets s1
  exact MemSame.ite (State.updTile_memSame (State.beginRemap_memSame fo)) (State.updTile_memSame fo)

theorem State.wrbInject_memSame {pre : State} {s : State} (fo : MemSame pre s) {t : Nat} {arrs : List Nat} : MemSame pre (s.wrbInject t arrs).fst := by
  unfold State.wrbInject
  split
  · dsimp only
    exact State.setReg_memSame (State.setReg_memSame fo)
  · exact fo

/-! ### Operations that leave alone what lies beside the tiles -/

theorem State.refuseArray_beside {pre : State} {s : State} (fo : Beside pre s) {t : Nat} {cycle : Nat} {entry : Nat} {code : Nat} {n : Nat} {pl : Nat} {row : Nat} : Beside pre (s.refuseArray t cycle entry code n pl row) := by
  unfold State.refuseArray
  exact State.tileFault_beside (State.setReg_beside fo)

theorem State.poisonOut_beside {pre : State} {s : State} (fo : Beside pre s) {t : Nat} {arrs : List Nat} {nb : Nat → Nat} : Beside pre (State.poisonOut s t arrs nb) := by
  unfold State.poisonOut
  exact State.updTile_beside fo

theorem State.refuseAll_beside {pre : State} {s : State} (fo : Beside pre s) {t : Nat} {cycle : Nat} {entry : Nat} {pl : Nat} {row : Nat} {nb : Nat → Nat} {arrs : List Nat} {rs : Refusals} : Beside pre (State.refuseAll s t cycle entry pl row nb arrs rs) := by
  unfold State.refuseAll
  extract_lets s1
  have h1 : Beside pre s1 := by
    unfold s1
    apply foldl_beside
    · intro x1 x2 h2
      exact State.refuseArray_beside h2
    · exact fo
  clear_value s1
  exact State.poisonOut_beside h1

theorem State.refuseForm_beside {pre : State} {s : State} (fo : Beside pre s) {i : Issue} {pl : Nat} {row : Nat} {nb : Nat → Nat} : Beside pre (State.refuseForm s i pl row nb) := by
  unfold State.refuseForm
  extract_lets s1
  exact Beside.ite (State.tileFault_beside fo) (State.refuseAll_beside fo)

theorem State.otherWord_beside {pre : State} {s : State} (fo : Beside pre s) {i : Issue} : Beside pre (State.otherWord s i) := by
  unfold State.otherWord
  extract_lets s1
  exact Beside.ite (State.refuseForm_beside fo) fo

theorem State.refuseQuiet_beside {pre : State} {s : State} (fo : Beside pre s) {i : Issue} {nb : Nat → Nat} : Beside pre (State.refuseQuiet s i nb) := by
  unfold State.refuseQuiet
  extract_lets s1
  apply State.poisonOut_beside
  apply foldl_beside
  · intro x1 x2 h1
    exact State.setReg_beside h1
  · exact fo

theorem State.refusePort_beside {pre : State} {s : State} (fo : Beside pre s) {i : Issue} {row : Nat} {nb : Nat → Nat} : Beside pre (State.refusePort s i row nb) := by
  unfold State.refusePort
  exact State.portRecord_beside (State.refuseQuiet_beside fo)

theorem State.runLdin_beside {pre : State} {s : State} (fo : Beside pre s) {i : Issue} : Beside pre (State.runLdin s i) := by
  unfold State.runLdin
  extract_lets s1 s2 s3 s4 s5 s6 s7 s8 s9 s10 s11 s12
  have h1 : Beside pre s10 := State.portClaim_beside fo
  clear_value s10
  have h2 : Beside pre s11.fst := State.schedReads_beside h1
  clear_value s11
  have h3 : Beside pre s12.fst := by
    unfold s12
    split
    · exact h2
    · exact State.takeBeats_beside h1
  clear_value s12
  exact Beside.ite (State.otherWord_beside fo) (Beside.ite (State.refuseForm_beside fo) (Beside.ite (State.refuseAll_beside fo) (Beside.ite (State.refusePort_beside fo) (State.updTile_beside (State.poisonSeen_beside h3)))))

theorem execLdin_beside {pre : State} {i : Issue} {s : State} (fo : Beside pre s) : BesideO pre (execLdin i s) := by
  unfold execLdin
  apply State.issue_beside
  · exact fo
  · intro x1 h1
    exact State.refuseQuiet_beside h1
  · intro x1 h1
    exact State.runLdin_beside h1

theorem State.redAccept_beside {pre : State} {s : State} (fo : Beside pre s) {i : Issue} : Beside pre (State.redAccept s i) := by
  unfold State.redAccept
  extract_lets s1 s2 s3 s4 s5 s6 s7 s8 s9 s10 s11 s12 s13 s14 s15 s16 s17 s18 s19 s20 s21 s22 s23 s24 s25 s26 s27 s28
  have h1 : Beside pre s12 := State.updTile_beside fo
  clear_value s12
  have h2 : Beside pre s13.fst := by
    unfold s13
    split
    · exact h1
    · exact State.takeBeats_beside h1
  clear_value s13
  have h3 : Beside pre s14.fst := by
    unfold s14
    split
    · exact h2
    · exact State.takeBeats_beside h2
  clear_value s14
  have h4 : Beside pre s15 := State.poisonSeen_beside (State.poisonSeen_beside h3)
  clear_value s15
  have h5 : Beside pre s23 := State.wideSat_beside h4
  clear_value s23
  have h6 : Beside pre s25 := Beside.ite (State.retain_beside h5) h5
  clear_value s25
  have h7 : Beside pre s28 := State.wideSat_beside h4
  clear_value s28
  exact Beside.ite (State.tailPath_beside h6) (State.updTile_beside h7)

theorem State.runRed_beside {pre : State} {s : State} (fo : Beside pre s) {i : Issue} : Beside pre (State.runRed s i) := by
  unfold State.runRed
  extract_lets s1 s2 s3 s4 s5 s6
  exact Beside.ite (State.otherWord_beside fo) (Beside.ite (State.refuseForm_beside fo) (Beside.ite (State.refuseAll_beside fo) (Beside.ite (State.refusePort_beside fo) (State.redAccept_beside (State.portClaim_beside fo)))))

theorem execRed_beside {pre : State} {i : Issue} {s : State} (fo : Beside pre s) : BesideO pre (execRed i s) := by
  unfold execRed
  apply State.issue_beside
  · exact fo
  · intro x1 h1
    exact State.refuseQuiet_beside h1
  · intro x1 h1
    exact State.runRed_beside h1

theorem State.writeBank_beside {pre : State} {s : State} (fo : Beside pre s) {t : Nat} {pl : Nat} {arrs : List Nat} {r : Nat} {bs : List Beat} : Beside pre (s.writeBank t pl arrs r bs) := by
  unfold State.writeBank
  exact State.setMem_beside fo

theorem State.wrbAccept_beside {pre : State} {s : State} (fo : Beside pre s) {i : Issue} : Beside pre (s.wrbAccept i) := by
  unfold State.wrbAccept
  extract_lets s1 s2 s3 s4 s5 s6 s7 s8 s9 s10 s11 s12
  have h1 : Beside pre s8.fst := State.schedReads_beside fo
  clear_value s8
  have h2 : Beside pre s9 := State.writeBank_beside (State.poisonSeen_beside h1)
  clear_value s9
  have h3 : Beside pre s10 := by
    unfold s10
    apply foldl_beside
    · intro x1 x2 h3
      exact State.setReg_beside h3
    · exact h2
  clear_value s10
  have h4 : Beside pre s12 := h3.same (Eq.refl _) (Eq.refl _) (Eq.refl _) (Eq.refl _) (Eq.refl _) (Eq.refl _) (Eq.refl _) (Eq.refl _) (Eq.refl _) (Eq.refl _) (Eq.refl _) (Eq.refl _) (Eq.refl _) (Eq.refl _) (Eq.refl _) (Eq.refl _) (Eq.refl _)
  clear_value s12
  exact State.updTile_beside h4

theorem State.runWrb_beside {pre : State} {s : State} (fo : Beside pre s) {i : Issue} : Beside pre (State.runWrb s i) := by
  unfold State.runWrb
  extract_lets s1 s2 s3 s4 s5 s6 s7 s8
  exact Beside.ite (State.otherWord_beside fo) (Beside.ite (State.refuseForm_beside fo) (Beside.ite (State.refuseAll_beside fo) (Beside.ite (State.refusePort_beside fo) (State.wrbAccept_beside (State.portClaim_beside fo)))))

theorem execWrb_beside {pre : State} {i : Issue} {s : State} (fo : Beside pre s) : BesideO pre (execWrb i s) := by
  unfold execWrb
  apply State.issue_beside
  · exact fo
  · intro x1 h1
    exact State.refuseQuiet_beside h1
  · intro x1 h1
    exact State.runWrb_beside h1

theorem State.emptyBank_beside {pre : State} {s : State} (fo : Beside pre s) {t : Nat} {n : Nat} {pl : Nat} : Beside pre (s.emptyBank t n pl) := by
  unfold State.emptyBank
  exact State.setReg_beside (State.setMem_beside fo)

theorem State.setSpares_beside {pre : State} {s : State} (fo : Beside pre s) {f : Fld} {t : Nat} {n : Nat} {v : Nat} : Beside pre (State.setSpares s f t n v) := by
  unfold State.setSpares
  extract_lets s1
  have h1 : Beside pre s1 := State.setReg_beside fo
  clear_value s1
  exact Beside.ite (State.setReg_beside h1) h1

theorem State.needsSpare_beside {pre : State} {s : State} (fo : Beside pre s) {t : Nat} {n : Nat} : Beside pre (State.needsSpare s t n) := by
  unfold State.needsSpare
  exact fo.same (Eq.refl _) (Eq.refl _) (Eq.refl _) (Eq.refl _) (Eq.refl _) (Eq.refl _) (Eq.refl _) (Eq.refl _) (Eq.refl _) (Eq.refl _) (Eq.refl _) (Eq.refl _) (Eq.refl _) (Eq.refl _) (Eq.refl _) (Eq.refl _) (Eq.refl _)

theorem State.failBank_beside {pre : State} {s : State} (fo : Beside pre s) {t : Nat} {n : Nat} {pl : Nat} : Beside pre (State.failBank s t n pl) := by
  unfold State.failBank
  exact Beside.ite (State.setReg_beside fo) fo

theorem State.arrayFault_beside {pre : State} {s : State} (fo : Beside pre s) {t : Nat} {n : Nat} : Beside pre (State.arrayFault s t n) := by
  unfold State.arrayFault
  exact State.needsSpare_beside (State.failBank_beside (State.failBank_beside fo))

theorem State.beginRemap_beside {pre : State} {s : State} (fo : Beside pre s) {t : Nat} {n : Nat} {pl : Nat} {g : Nat} {isRow : Bool} : Beside pre (State.beginRemap s t n pl g isRow) := by
  unfold State.beginRemap
  extract_lets s1 s2 s3 s4 s5
  apply Beside.ite
  · apply State.setReg_beside
    exact fo.same (Eq.refl _) (Eq.refl _) (Eq.refl _) (Eq.refl _) (Eq.refl _) (Eq.refl _) (Eq.refl _) (Eq.refl _) (Eq.refl _) (Eq.refl _) (Eq.refl _) (Eq.refl _) (Eq.refl _) (Eq.refl _) (Eq.refl _) (Eq.refl _) (Eq.refl _)
  · exact State.needsSpare_beside (State.failBank_beside fo)

theorem State.spareRow_beside {pre : State} {s : State} (fo : Beside pre s) {t : Nat} {n : Nat} {pl : Nat} {row : Nat} : Beside pre (State.spareRow s t n pl row) := by
  unfold State.spareRow
  extract_lets s1
  exact Beside.ite (State.updTile_beside (State.beginRemap_beside fo)) (State.updTile_beside fo)

theorem State.wrbEnd_beside {pre : State} {s : State} (fo : Beside pre s) {t : Nat} {cycle : Nat} {entry : Nat} {pl : Nat} {n : Nat} {row : Nat} {last : Nat} {bad : List Nat} : Beside pre (State.wrbEnd s t cycle entry pl n row last bad) := by
  unfold State.wrbEnd
  split
  · rename_i y1
    extract_lets s1
    exact State.updTile_beside (State.setReg_beside fo)
  · rename_i y2 y3 y4
    extract_lets s2 s3
    have h1 : Beside pre s2 := State.setReg_beside (State.emptyBank_beside fo)
    clear_value s2
    have h2 : Beside pre s3 := State.tileFault_beside h1
    clear_value s3
    apply foldl_beside
    · intro x1 x2 h3
      exact State.spareRow_beside h3
    · exact h2

theorem State.wrbInject_beside {pre : State} {s : State} (fo : Beside pre s) {t : Nat} {arrs : List Nat} : Beside pre (s.wrbInject t arrs).fst := by
  unfold State.wrbInject
  split
  · dsimp only
    exact State.setReg_beside (State.setReg_beside fo)
  · exact fo

theorem execWrbComplete_beside {pre : State} {tile : Tile} {entry : Fin 4096} {bad : List (Fin 8 × Fin 1024)} {s : State} (fo : Beside pre s) : BesideO pre (execWrbComplete tile entry bad s) := by
  unfold execWrbComplete
  extract_lets s1
  split
  · exact BesideO.next fo
  · rename_i y1 y2 y3
    extract_lets s2 s3 s4 s5 s6 s7
    have h1 : Beside pre s6.fst := State.wrbInject_beside fo
    clear_value s6
    have h2 : Beside pre s7 := State.updTile_beside h1
    clear_value s7
    apply BesideO.next
    apply foldl_beside
    · intro x1 x2 h3
      extract_lets s8
      exact State.wrbEnd_beside h3
    · exact h2

theorem State.runRdb_beside {pre : State} {s : State} (fo : Beside pre s) {i : Issue} : Beside pre (State.runRdb s i) := by
  unfold State.runRdb
  extract_lets s1 s2 s3 s4 s5 s6 s7 s8 s9 s10 s11
  have h1 : Beside pre s10 := State.portClaim_beside fo
  clear_value s10
  have h2 : Beside pre s11 := by
    unfold s11
    apply foldl_beside
    · intro x1 x2 h3
      exact State.schedWrites_beside h3
    · exact h1
  clear_value s11
  exact Beside.ite (State.otherWord_beside fo) (Beside.ite (State.refuseForm_beside fo) (Beside.ite (State.refuseAll_beside fo) (Beside.ite (State.refusePort_beside fo) (State.updTile_beside h2))))

theorem execRdb_beside {pre : State} {i : Issue} {s : State} (fo : Beside pre s) : BesideO pre (execRdb i s) := by
  unfold execRdb
  apply State.issue_beside
  · exact fo
  · intro x1 h1
    exact State.refuseQuiet_beside h1
  · intro x1 h1
    exact State.runRdb_beside h1

end Sys2Proof.Machine
end

