-- ==== Sys2Proof/Laws/Trims.lean ====
section
/-! SUPPORT. What the operations of Machine/Trims.lean keep: one lemma for each, by the lemmas of those that it calls. -/

namespace Sys2Proof.Machine

open Sys2Proof

theorem State.startPass_follows {pre : State} {s : State} (fo : Follows pre s) {t : Nat} {pos : Nat} : Follows pre (s.startPass t pos) := by
  unfold State.startPass
  extract_lets s1 s2
  have h1 : Follows pre s2 := fo.same (Eq.refl _) fo.mem (Eq.refl _) (Eq.refl _) (Eq.refl _) (Eq.refl _)
  clear_value s2
  exact State.setReg_follows (State.setReg_follows h1)

theorem State.requestPass_follows {pre : State} {s : State} (fo : Follows pre s) {t : Nat} {pos : Nat} : Follows pre (s.requestPass t pos) := by
  unfold State.requestPass
  split
  · exact State.startPass_follows fo
  · exact fo.same (Eq.refl _) fo.mem (Eq.refl _) (Eq.refl _) (Eq.refl _) (Eq.refl _)

/-! ### Operations that leave memory alone -/

theorem State.startPass_memSame {pre : State} {s : State} (fo : MemSame pre s) {t : Nat} {pos : Nat} : MemSame pre (s.startPass t pos) := by
  unfold State.startPass
  extract_lets s1 s2
  have h1 : MemSame pre s2 := fo.same (Eq.refl _)
  clear_value s2
  exact State.setReg_memSame (State.setReg_memSame h1)

theorem State.requestPass_memSame {pre : State} {s : State} (fo : MemSame pre s) {t : Nat} {pos : Nat} : MemSame pre (s.requestPass t pos) := by
  unfold State.requestPass
  split
  · exact State.startPass_memSame fo
  · exact fo.same (Eq.refl _)

/-! ### Operations that leave alone what lies beside the tiles -/

theorem State.startPass_beside {pre : State} {s : State} (fo : Beside pre s) {t : Nat} {pos : Nat} : Beside pre (s.startPass t pos) := by
  unfold State.startPass
  extract_lets s1 s2
  have h1 : Beside pre s2 := fo.same (Eq.refl _) (Eq.refl _) (Eq.refl _) (Eq.refl _) (Eq.refl _) (Eq.refl _) (Eq.refl _) (Eq.refl _) (Eq.refl _) (Eq.refl _) (Eq.refl _) (Eq.refl _) (Eq.refl _) (Eq.refl _) (Eq.refl _) (Eq.refl _) (Eq.refl _)
  clear_value s2
  exact State.setReg_beside (State.setReg_beside h1)

theorem State.requestPass_beside {pre : State} {s : State} (fo : Beside pre s) {t : Nat} {pos : Nat} : Beside pre (s.requestPass t pos) := by
  unfold State.requestPass
  split
  · exact State.startPass_beside fo
  · exact fo.same (Eq.refl _) (Eq.refl _) (Eq.refl _) (Eq.refl _) (Eq.refl _) (Eq.refl _) (Eq.refl _) (Eq.refl _) (Eq.refl _) (Eq.refl _) (Eq.refl _) (Eq.refl _) (Eq.refl _) (Eq.refl _) (Eq.refl _) (Eq.refl _) (Eq.refl _)

end Sys2Proof.Machine
end

