-- ==== Sys2Proof/Laws/Mvm.lean ====
section
/-! SUPPORT. What the operations of Machine/Mvm.lean keep: one lemma for each, by the lemmas of those that it calls. -/

namespace Sys2Proof.Machine

open Sys2Proof

theorem State.splitClip_follows {pre : State} {s : State} (fo : Follows pre s) {t : Nat} {c : Nat} {e : Nat} {n : Nat} {pl : Nat} {g : Nat} : Follows pre (s.splitClip t c e n pl g) := by
  unfold State.splitClip
  exact State.requestPass_follows (State.tileRecord_follows (State.setReg_follows fo))

theorem State.splitTrouble_follows {pre : State} {s : State} (fo : Follows pre s) {t : Nat} {c : Nat} {e : Nat} {code : Nat} {pl : Nat} {l : List (Nat × Nat)} : Follows pre (State.splitTrouble s t c e code pl l) := by
  unfold State.splitTrouble
  split
  · exact fo
  · exact State.reportSplit_follows (State.tileRecord_follows fo)

theorem State.mvmRunArray_follows {pre : State} {s : State} (fo : Follows pre s) {t : Nat} {c : Nat} {e : Nat} {n : Nat} {f : MvmF} : Follows pre (State.mvmRunArray s t c e n f).fst := by
  unfold State.mvmRunArray
  extract_lets s1 s2 s3 s4 s5 s6 s7 s8 s9 s10
  have h1 : Follows pre s3 := fo.same (Eq.refl _) fo.mem (Eq.refl _) (Eq.refl _) (Eq.refl _) (Eq.refl _)
  clear_value s3
  have h2 : Follows pre s6 := State.updTile_follows h1
  clear_value s6
  have h3 : Follows pre s7 := State.setReg_follows h2
  clear_value s7
  have h4 : Follows pre s8 := State.setReg_follows h3
  clear_value s8
  have h5 : Follows pre s9 := Follows.ite (State.setReg_follows h4) h4
  clear_value s9
  have h6 : Follows pre s10 := Follows.ite (State.splitClip_follows h5) h5
  clear_value s10
  exact h6

theorem State.mvmAccept_follows {pre : State} {s : State} (fo : Follows pre s) {i : Issue} {f : MvmF} : Follows pre (State.mvmAccept s i f) := by
  unfold State.mvmAccept
  extract_lets s1 s2 s3 s4 s5 s6 s7 s8 s9
  have h1 : Follows pre s5 := State.updTile_follows fo
  clear_value s5
  have h2 : Follows pre s6.fst := by
    unfold s6
    apply foldl_follows1
    · intro x1 x2 h3
      extract_lets s10 s11 s12 s13
      have h4 : Follows pre s11.fst := State.mvmRunArray_follows h3
      clear_value s11
      exact h4
    · exact h1
  clear_value s6
  have h5 : Follows pre s7 := State.splitTrouble_follows h2
  clear_value s7
  have h6 : Follows pre s8 := State.wideSat_follows h5
  clear_value s8
  have h7 : Follows pre s9 := Follows.ite (State.reportFault_follows h6) h6
  clear_value s9
  exact State.updTile_follows h7

theorem State.runMvm_follows {pre : State} {s : State} (fo : Follows pre s) {i : Issue} : Follows pre (State.runMvm s i) := by
  unfold State.runMvm
  extract_lets s1 s2 s3 s4 s5 s6
  exact Follows.ite (State.otherWord_follows fo) (Follows.ite (State.refuseForm_follows fo) (Follows.ite (State.refuseAll_follows fo) (Follows.ite (State.refusePort_follows fo) (State.mvmAccept_follows (State.portClaim_follows fo)))))

theorem execMvm_follows {pre : State} {i : Issue} {s : State} (fo : Follows pre s) : FollowsO pre (execMvm i s) := by
  unfold execMvm
  apply State.issue_follows
  · exact fo
  · intro x1 h1
    exact State.refuseQuiet_follows h1
  · intro x1 h1
    exact State.runMvm_follows h1

theorem State.mvmEndArray_follows {pre : State} {s : State} (fo : Follows pre s) {t : Nat} {e : Nat} {f : MvmF} {r : MvmRun} {n : Nat} : Follows pre (State.mvmEndArray s t e f r n) := by
  unfold State.mvmEndArray
  extract_lets s1 s2 s3 s4
  have h1 : Follows pre s2 := Follows.ite (State.setReg_follows fo) fo
  clear_value s2
  have h2 : Follows pre s3 := State.addReg_follows (State.setReg_follows h1)
  clear_value s3
  have h3 : Follows pre s4 := Follows.ite (State.setReg_follows h2) h2
  clear_value s4
  exact Follows.ite (State.setReg_follows h3) h3

theorem State.emitP24_follows {pre : State} {s : State} (fo : Follows pre s) {t : Nat} {c : Nat} {e : Nat} {had : Bool} {vals : List (Nat × List Int)} {poison : Nat → Bool} {trouble : Nat → Bool} : Follows pre (s.emitP24 t c e had vals poison trouble) := by
  unfold State.emitP24
  extract_lets s1 s2 s3
  have h1 : Follows pre s3 := Follows.ite (State.orReg_follows fo) (State.wideSat_follows fo)
  clear_value s3
  exact State.updTile_follows h1

theorem State.gatherEnd_follows {pre : State} {s : State} (fo : Follows pre s) {t : Nat} {f : MvmF} {r : MvmRun} {n : Nat} : Follows pre (s.gatherEnd t f r n) := by
  unfold State.gatherEnd
  apply Follows.ite
  · exact fo
  · extract_lets s1 s2
    exact fo.same (Eq.refl _) fo.mem (Eq.refl _) (Eq.refl _) (Eq.refl _) (Eq.refl _)

theorem State.mvmEnd_follows {pre : State} {s : State} (fo : Follows pre s) {t : Nat} {e : Nat} {r : MvmRun} : Follows pre (State.mvmEnd s t e r) := by
  unfold State.mvmEnd
  extract_lets s1 s2 s3 s4 s5 s6 s7 s8 s9
  have h1 : Follows pre s3 := by
    unfold s3
    apply foldl_follows
    · intro x1 x2 h2
      exact State.gatherEnd_follows h2
    · exact fo
  clear_value s3
  have h3 : Follows pre s4 := by
    unfold s4
    apply State.splitTrouble_follows
    apply foldl_follows
    · intro x3 x4 h4
      exact State.mvmEndArray_follows h4
    · exact h1
  clear_value s4
  have h5 : Follows pre s5 := State.updTile_follows h3
  clear_value s5
  have h6 : Follows pre s9 := Follows.ite (State.retain_follows h5) h5
  clear_value s9
  exact Follows.ite (State.emitP24_follows h6) (Follows.ite (State.tailPath_follows h6) (State.updTile_follows h6))

theorem execMvmComplete_follows {pre : State} {tile : Tile} {entry : Fin 4096} {s : State} (fo : Follows pre s) : FollowsO pre (execMvmComplete tile entry s) := by
  unfold execMvmComplete
  split
  · exact FollowsO.next fo
  · rename_i y1 y2 y3
    exact FollowsO.next (State.mvmEnd_follows fo)

/-! ### Operations that leave memory alone -/

theorem State.splitClip_memSame {pre : State} {s : State} (fo : MemSame pre s) {t : Nat} {c : Nat} {e : Nat} {n : Nat} {pl : Nat} {g : Nat} : MemSame pre (s.splitClip t c e n pl g) := by
  unfold State.splitClip
  exact State.requestPass_memSame (State.tileRecord_memSame (State.setReg_memSame fo))

theorem State.splitTrouble_memSame {pre : State} {s : State} (fo : MemSame pre s) {t : Nat} {c : Nat} {e : Nat} {code : Nat} {pl : Nat} {l : List (Nat × Nat)} : MemSame pre (State.splitTrouble s t c e code pl l) := by
  unfold State.splitTrouble
  split
  · exact fo
  · exact State.reportSplit_memSame (State.tileRecord_memSame fo)

theorem State.mvmRunArray_memSame {pre : State} {s : State} (fo : MemSame pre s) {t : Nat} {c : Nat} {e : Nat} {n : Nat} {f : MvmF} : MemSame pre (State.mvmRunArray s t c e n f).fst := by
  unfold State.mvmRunArray
  extract_lets s1 s2 s3 s4 s5 s6 s7 s8 s9 s10
  have h1 : MemSame pre s3 := fo.same (Eq.refl _)
  clear_value s3
  have h2 : MemSame pre s6 := State.updTile_memSame h1
  clear_value s6
  have h3 : MemSame pre s7 := State.setReg_memSame h2
  clear_value s7
  have h4 : MemSame pre s8 := State.setReg_memSame h3
  clear_value s8
  have h5 : MemSame pre s9 := MemSame.ite (State.setReg_memSame h4) h4
  clear_value s9
  have h6 : MemSame pre s10 := MemSame.ite (State.splitClip_memSame h5) h5
  clear_value s10
  exact h6

theorem State.mvmAccept_memSame {pre : State} {s : State} (fo : MemSame pre s) {i : Issue} {f : MvmF} : MemSame pre (State.mvmAccept s i f) := by
  unfold State.mvmAccept
  extract_lets s1 s2 s3 s4 s5 s6 s7 s8 s9
  have h1 : MemSame pre s5 := State.updTile_memSame fo
  clear_value s5
  have h2 : MemSame pre s6.fst := by
    unfold s6
    apply foldl_memSame1
    · intro x1 x2 h3
      extract_lets s10 s11 s12 s13
      have h4 : MemSame pre s11.fst := State.mvmRunArray_memSame h3
      clear_value s11
      exact h4
    · exact h1
  clear_value s6
  have h5 : MemSame pre s7 := State.splitTrouble_memSame h2
  clear_value s7
  have h6 : MemSame pre s8 := State.wideSat_memSame h5
  clear_value s8
  have h7 : MemSame pre s9 := MemSame.ite (State.reportFault_memSame h6) h6
  clear_value s9
  exact State.updTile_memSame h7

theorem State.runMvm_memSame {pre : State} {s : State} (fo : MemSame pre s) {i : Issue} : MemSame pre (State.runMvm s i) := by
  unfold State.runMvm
  extract_lets s1 s2 s3 s4 s5 s6
  exact MemSame.ite (State.otherWord_memSame fo) (MemSame.ite (State.refuseForm_memSame fo) (MemSame.ite (State.refuseAll_memSame fo) (MemSame.ite (State.refusePort_memSame fo) (State.mvmAccept_memSame (State.portClaim_memSame fo)))))

theorem execMvm_memSame {pre : State} {i : Issue} {s : State} (fo : MemSame pre s) : MemSameO pre (execMvm i s) := by
  unfold execMvm
  apply State.issue_memSame
  · exact fo
  · intro x1 h1
    exact State.refuseQuiet_memSame h1
  · intro x1 h1
    exact State.runMvm_memSame h1

theorem State.mvmEndArray_memSame {pre : State} {s : State} (fo : MemSame pre s) {t : Nat} {e : Nat} {f : MvmF} {r : MvmRun} {n : Nat} : MemSame pre (State.mvmEndArray s t e f r n) := by
  unfold State.mvmEndArray
  extract_lets s1 s2 s3 s4
  have h1 : MemSame pre s2 := MemSame.ite (State.setReg_memSame fo) fo
  clear_value s2
  have h2 : MemSame pre s3 := State.addReg_memSame (State.setReg_memSame h1)
  clear_value s3
  have h3 : MemSame pre s4 := MemSame.ite (State.setReg_memSame h2) h2
  clear_value s4
  exact MemSame.ite (State.setReg_memSame h3) h3

theorem State.emitP24_memSame {pre : State} {s : State} (fo : MemSame pre s) {t : Nat} {c : Nat} {e : Nat} {had : Bool} {vals : List (Nat × List Int)} {poison : Nat → Bool} {trouble : Nat → Bool} : MemSame pre (s.emitP24 t c e had vals poison trouble) := by
  unfold State.emitP24
  extract_lets s1 s2 s3
  have h1 : MemSame pre s3 := MemSame.ite (State.orReg_memSame fo) (State.wideSat_memSame fo)
  clear_value s3
  exact State.updTile_memSame h1

theorem State.gatherEnd_memSame {pre : State} {s : State} (fo : MemSame pre s) {t : Nat} {f : MvmF} {r : MvmRun} {n : Nat} : MemSame pre (s.gatherEnd t f r n) := by
  unfold State.gatherEnd
  apply MemSame.ite
  · exact fo
  · extract_lets s1 s2
    exact fo.same (Eq.refl _)

/-! ### Operations that leave alone what lies beside the tiles -/

theorem State.splitClip_beside {pre : State} {s : State} (fo : Beside pre s) {t : Nat} {c : Nat} {e : Nat} {n : Nat} {pl : Nat} {g : Nat} : Beside pre (s.splitClip t c e n pl g) := by
  unfold State.splitClip
  exact State.requestPass_beside (State.tileRecord_beside (State.setReg_beside fo))

theorem State.splitTrouble_beside {pre : State} {s : State} (fo : Beside pre s) {t : Nat} {c : Nat} {e : Nat} {code : Nat} {pl : Nat} {l : List (Nat × Nat)} : Beside pre (State.splitTrouble s t c e code pl l) := by
  unfold State.splitTrouble
  split
  · exact fo
  · exact State.reportSplit_beside (State.tileRecord_beside fo)

theorem State.mvmRunArray_beside {pre : State} {s : State} (fo : Beside pre s) {t : Nat} {c : Nat} {e : Nat} {n : Nat} {f : MvmF} : Beside pre (State.mvmRunArray s t c e n f).fst := by
  unfold State.mvmRunArray
  extract_lets s1 s2 s3 s4 s5 s6 s7 s8 s9 s10
  have h1 : Beside pre s3 := fo.same (Eq.refl _) (Eq.refl _) (Eq.refl _) (Eq.refl _) (Eq.refl _) (Eq.refl _) (Eq.refl _) (Eq.refl _) (Eq.refl _) (Eq.refl _) (Eq.refl _) (Eq.refl _) (Eq.refl _) (Eq.refl _) (Eq.refl _) (Eq.refl _) (Eq.refl _)
  clear_value s3
  have h2 : Beside pre s6 := State.updTile_beside h1
  clear_value s6
  have h3 : Beside pre s7 := State.setReg_beside h2
  clear_value s7
  have h4 : Beside pre s8 := State.setReg_beside h3
  clear_value s8
  have h5 : Beside pre s9 := Beside.ite (State.setReg_beside h4) h4
  clear_value s9
  have h6 : Beside pre s10 := Beside.ite (State.splitClip_beside h5) h5
  clear_value s10
  exact h6

theorem State.mvmAccept_beside {pre : State} {s : State} (fo : Beside pre s) {i : Issue} {f : MvmF} : Beside pre (State.mvmAccept s i f) := by
  unfold State.mvmAccept
  extract_lets s1 s2 s3 s4 s5 s6 s7 s8 s9
  have h1 : Beside pre s5 := State.updTile_beside fo
  clear_value s5
  have h2 : Beside pre s6.fst := by
    unfold s6
    apply foldl_beside1
    · intro x1 x2 h3
      extract_lets s10 s11 s12 s13
      have h4 : Beside pre s11.fst := State.mvmRunArray_beside h3
      clear_value s11
      exact h4
    · exact h1
  clear_value s6
  have h5 : Beside pre s7 := State.splitTrouble_beside h2
  clear_value s7
  have h6 : Beside pre s8 := State.wideSat_beside h5
  clear_value s8
  have h7 : Beside pre s9 := Beside.ite (State.reportFault_beside h6) h6
  clear_value s9
  exact State.updTile_beside h7

theorem State.runMvm_beside {pre : State} {s : State} (fo : Beside pre s) {i : Issue} : Beside pre (State.runMvm s i) := by
  unfold State.runMvm
  extract_lets s1 s2 s3 s4 s5 s6
  exact Beside.ite (State.otherWord_beside fo) (Beside.ite (State.refuseForm_beside fo) (Beside.ite (State.refuseAll_beside fo) (Beside.ite (State.refusePort_beside fo) (State.mvmAccept_beside (State.portClaim_beside fo)))))

theorem execMvm_beside {pre : State} {i : Issue} {s : State} (fo : Beside pre s) : BesideO pre (execMvm i s) := by
  unfold execMvm
  apply State.issue_beside
  · exact fo
  · intro x1 h1
    exact State.refuseQuiet_beside h1
  · intro x1 h1
    exact State.runMvm_beside h1

theorem State.mvmEndArray_beside {pre : State} {s : State} (fo : Beside pre s) {t : Nat} {e : Nat} {f : MvmF} {r : MvmRun} {n : Nat} : Beside pre (State.mvmEndArray s t e f r n) := by
  unfold State.mvmEndArray
  extract_lets s1 s2 s3 s4
  have h1 : Beside pre s2 := Beside.ite (State.setReg_beside fo) fo
  clear_value s2
  have h2 : Beside pre s3 := State.addReg_beside (State.setReg_beside h1)
  clear_value s3
  have h3 : Beside pre s4 := Beside.ite (State.setReg_beside h2) h2
  clear_value s4
  exact Beside.ite (State.setReg_beside h3) h3

theorem State.emitP24_beside {pre : State} {s : State} (fo : Beside pre s) {t : Nat} {c : Nat} {e : Nat} {had : Bool} {vals : List (Nat × List Int)} {poison : Nat → Bool} {trouble : Nat → Bool} : Beside pre (s.emitP24 t c e had vals poison trouble) := by
  unfold State.emitP24
  extract_lets s1 s2 s3
  have h1 : Beside pre s3 := Beside.ite (State.orReg_beside fo) (State.wideSat_beside fo)
  clear_value s3
  exact State.updTile_beside h1

theorem State.gatherEnd_beside {pre : State} {s : State} (fo : Beside pre s) {t : Nat} {f : MvmF} {r : MvmRun} {n : Nat} : Beside pre (s.gatherEnd t f r n) := by
  unfold State.gatherEnd
  apply Beside.ite
  · exact fo
  · extract_lets s1 s2
    exact fo.same (Eq.refl _) (Eq.refl _) (Eq.refl _) (Eq.refl _) (Eq.refl _) (Eq.refl _) (Eq.refl _) (Eq.refl _) (Eq.refl _) (Eq.refl _) (Eq.refl _) (Eq.refl _) (Eq.refl _) (Eq.refl _) (Eq.refl _) (Eq.refl _) (Eq.refl _)

theorem State.mvmEnd_beside {pre : State} {s : State} (fo : Beside pre s) {t : Nat} {e : Nat} {r : MvmRun} : Beside pre (State.mvmEnd s t e r) := by
  unfold State.mvmEnd
  extract_lets s1 s2 s3 s4 s5 s6 s7 s8 s9
  have h1 : Beside pre s3 := by
    unfold s3
    apply foldl_beside
    · intro x1 x2 h2
      exact State.gatherEnd_beside h2
    · exact fo
  clear_value s3
  have h3 : Beside pre s4 := by
    unfold s4
    apply State.splitTrouble_beside
    apply foldl_beside
    · intro x3 x4 h4
      exact State.mvmEndArray_beside h4
    · exact h1
  clear_value s4
  have h5 : Beside pre s5 := State.updTile_beside h3
  clear_value s5
  have h6 : Beside pre s9 := Beside.ite (State.retain_beside h5) h5
  clear_value s9
  exact Beside.ite (State.emitP24_beside h6) (Beside.ite (State.tailPath_beside h6) (State.updTile_beside h6))

theorem execMvmComplete_beside {pre : State} {tile : Tile} {entry : Fin 4096} {s : State} (fo : Beside pre s) : BesideO pre (execMvmComplete tile entry s) := by
  unfold execMvmComplete
  split
  · exact BesideO.next fo
  · rename_i y1 y2 y3
    exact BesideO.next (State.mvmEnd_beside fo)

end Sys2Proof.Machine
end

