-- ==== Sys2Proof/Laws/Clove.lean ====
section
/-! SUPPORT. What the operations of Machine/Clove.lean keep: one lemma for each, by the lemmas of those that it calls. -/

namespace Sys2Proof.Machine

open Sys2Proof

theorem State.setCmode_follows {pre : State} {s : State} (fo : Follows pre s) {t : Nat} {n : Nat} {pl : Nat} {v : Nat} : Follows pre (s.setCmode t n pl v) := by
  unfold State.setCmode
  apply Follows.ite
  · exact fo
  · extract_lets s1 s2 s3 s4
    have h1 : Follows pre s1 := State.setReg_follows fo
    clear_value s1
    have h2 : Follows pre s3 := h1.same (Eq.refl _) h1.mem (Eq.refl _) (Eq.refl _) (Eq.refl _) (Eq.refl _)
    clear_value s3
    apply Follows.ite
    · apply State.setReg_follows
      exact h2.same (Eq.refl _) h2.mem (Eq.refl _) (Eq.refl _) (Eq.refl _) (Eq.refl _)
    · exact h2

theorem State.foregroundOnce_follows {pre : State} {s : State} (fo : Follows pre s) {t : Nat} {pos : Nat} {pl : Nat} : Follows pre (s.foregroundOnce t pos pl) := by
  unfold State.foregroundOnce
  extract_lets s1 s2 s3 s4
  have h1 : Follows pre s1.snd := State.takeFree_follows fo
  clear_value s1
  have h2 : Follows pre s3 := h1
  clear_value s3
  exact h2.same (Eq.refl _) h2.mem (Eq.refl _) (Eq.refl _) (Eq.refl _) (Eq.refl _)

theorem State.measure_follows {pre : State} {s : State} (fo : Follows pre s) : Follows pre s.measure.snd := by
  unfold State.measure
  extract_lets s1
  have h1 : Follows pre s1.snd := State.takeFree_follows fo
  clear_value s1
  exact h1

theorem State.measurePair_follows {pre : State} {s : State} (fo : Follows pre s) {pls : List Nat} : Follows pre (s.measurePair pls).snd := by
  unfold State.measurePair
  extract_lets s1 s2
  have h1 : Follows pre s1.snd := by
    unfold s1
    split
    · exact State.measure_follows fo
    · exact fo
  clear_value s1
  have h2 : Follows pre s2.snd := by
    unfold s2
    split
    · exact State.measure_follows h1
    · exact h1
  clear_value s2
  exact h2

theorem State.putPass_follows {pre : State} {s : State} (fo : Follows pre s) {t : Nat} {pos : Nat} {p : PassSt} : Follows pre (s.putPass t pos p) := by
  unfold State.putPass
  exact fo.same (Eq.refl _) fo.mem (Eq.refl _) (Eq.refl _) (Eq.refl _) (Eq.refl _)

theorem State.calRecord_follows {pre : State} {s : State} (fo : Follows pre s) {t : Nat} {code : Nat} {cycle : Nat} {entry : Nat} {pos : Nat} {pl : Nat} {g : Nat} : Follows pre (s.calRecord t code cycle entry pos pl g) := by
  unfold State.calRecord
  extract_lets s1
  have h1 : Follows pre s1 := Follows.ite (State.addReg_follows fo) fo
  clear_value s1
  exact State.tileRecord_follows h1

theorem State.qualAll_follows {pre : State} {s : State} (fo : Follows pre s) {ts : List Nat} : Follows pre (State.qualAll s ts) := by
  unfold State.qualAll
  extract_lets s1 s2 s3
  have h1 : Follows pre s1.snd := State.takeFree_follows fo
  clear_value s1
  have h2 : Follows pre s2 := h1
  clear_value s2
  exact h2.same (Eq.refl _) h2.mem (Eq.refl _) (Eq.refl _) (Eq.refl _) (Eq.refl _)

theorem State.foreground_follows {pre : State} {s : State} (fo : Follows pre s) {t : Nat} {pos : Nat} {pl : Nat} : Follows pre (State.foreground s t pos pl) := by
  unfold State.foreground
  extract_lets s1 s2 s3 s4 s5
  have h1 : Follows pre s2 := State.foregroundOnce_follows fo
  clear_value s2
  have h2 : Follows pre s3 := Follows.ite h1 (State.foregroundOnce_follows h1)
  clear_value s3
  have h3 : Follows pre s4 := State.setReg_follows (State.calRecord_follows h2)
  clear_value s4
  have h4 : Follows pre s5 := by
    unfold s5
    apply Follows.ite
    · exact h2
    · split
      · exact State.arrayFault_follows h3
      · exact h3
  clear_value s5
  exact State.qualAll_follows h4

theorem State.passEnds_follows {pre : State} {s : State} (fo : Follows pre s) {t : Nat} {pos : Nat} {n : Nat} {sig : Nat × Nat} {cycle : Nat} {entry : Nat} : Follows pre (State.passEnds s t pos n sig cycle entry) := by
  unfold State.passEnds
  extract_lets s1 s2 s3 s4 s5 s6
  have h1 : Follows pre s5 := State.calRecord_follows fo
  clear_value s5
  apply Follows.ite
  · apply Follows.ite
    · exact fo.same (Eq.refl _) fo.mem (Eq.refl _) (Eq.refl _) (Eq.refl _) (Eq.refl _)
    · apply State.arrayFault_follows
      exact h1.same (Eq.refl _) h1.mem (Eq.refl _) (Eq.refl _) (Eq.refl _) (Eq.refl _)
  · exact fo.same (Eq.refl _) fo.mem (Eq.refl _) (Eq.refl _) (Eq.refl _) (Eq.refl _)

theorem State.passItem_follows {pre : State} {s : State} (fo : Follows pre s) {t : Nat} {n : Nat} {cycle : Nat} {entry : Nat} {w : Nat} : Follows pre (s.passItem t n cycle entry w).fst := by
  unfold State.passItem
  extract_lets s1 s2 s3 s4 s5
  have h1 : Follows pre s5.snd := State.measurePair_follows fo
  clear_value s5
  split
  · exact fo
  · rename_i y1 y2 y3
    split
    · split
      · dsimp only
        exact State.setReg_follows (State.putPass_follows h1)
      · exact fo
    · split
      · split
        · dsimp only
          exact State.setReg_follows (State.putPass_follows fo)
        · dsimp only
          exact State.putPass_follows fo
      · split
        · split
          · split
            · dsimp only
              exact State.setReg_follows (State.putPass_follows h1)
            · dsimp only
              exact State.setReg_follows (State.putPass_follows h1)
          · exact fo
        · exact fo

theorem State.passItems_follows {pre : State} {t : Nat} {n : Nat} {cycle : Nat} {entry : Nat} {fuel : Nat} {w : Nat} : ∀ {s : State}, Follows pre s → Follows pre (s.passItems t n cycle entry fuel w) := by
  induction fuel generalizing w with
  | zero => intro s h; exact h
  | succ k ih =>
    intro s h
    unfold State.passItems
    exact Follows.ite h (ih (State.passItem_follows h))

theorem State.remapWork_follows {pre : State} {s : State} (fo : Follows pre s) {t : Nat} {n : Nat} {w : Nat} : Follows pre (s.remapWork t n w).fst := by
  unfold State.remapWork
  extract_lets s1 s2
  split
  · exact fo
  · rename_i y1 y2 y3 y4
    extract_lets s3 s4
    have h1 : ∀ (r : Remap), Follows pre (s3 r) := by
      intro x1
      unfold s3
      exact fo.same (Eq.refl _) fo.mem (Eq.refl _) (Eq.refl _) (Eq.refl _) (Eq.refl _)
    clear_value s3
    split
    · exact fo
    · split
      · dsimp only
        apply h1
      · split
        · exact fo
        · dsimp only
          apply h1

theorem State.spareWork_follows {pre : State} {s : State} (fo : Follows pre s) {t : Nat} {w : Nat} : Follows pre (s.spareWork t w) := by
  unfold State.spareWork
  apply Follows.ite
  · exact fo
  · extract_lets s1 s2
    exact fo.same (Eq.refl _) fo.mem (Eq.refl _) (Eq.refl _) (Eq.refl _) (Eq.refl _)

theorem State.windowWork_follows {pre : State} {s : State} (fo : Follows pre s) {t : Nat} {cycle : Nat} {entry : Nat} {w : Nat} {n : Nat} : Follows pre (s.windowWork t cycle entry w n) := by
  unfold State.windowWork
  apply Follows.ite
  · exact fo
  · extract_lets s1 s2 s3 s4
    have h1 : Follows pre s1 := Follows.ite (State.spareWork_follows fo) fo
    clear_value s1
    have h2 : Follows pre s2.fst := State.remapWork_follows h1
    clear_value s2
    have h3 : Follows pre s3 := h2
    clear_value s3
    split
    · exact State.passItems_follows h3
    · apply foldl_follows
      · intro x1 x2 h4
        extract_lets s5 s6 s7
        have h5 : Follows pre s5.snd := State.measure_follows h4
        clear_value s5
        have h6 : Follows pre s6 := h5
        clear_value s6
        exact h6.same (Eq.refl _) h6.mem (Eq.refl _) (Eq.refl _) (Eq.refl _) (Eq.refl _)
      · exact h3

theorem State.runClv_follows {pre : State} {s : State} (fo : Follows pre s) {i : Issue} : Follows pre (State.runClv s i) := by
  unfold State.runClv
  extract_lets s1 s2 s3 s4 s5 s6 s7
  have h1 : Follows pre s7 := State.updTile_follows fo
  clear_value s7
  apply Follows.ite
  · exact State.otherWord_follows fo
  · apply Follows.ite
    · exact State.refuseForm_follows fo
    · apply Follows.ite
      · exact fo
      · apply Follows.ite
        · exact State.refuseAll_follows fo
        · apply foldl_follows
          · intro x1 x2 h2
            exact State.windowWork_follows h2
          · exact h1

theorem execClv_follows {pre : State} {i : Issue} {s : State} (fo : Follows pre s) : FollowsO pre (execClv i s) := by
  unfold execClv
  apply State.issue_follows
  · exact fo
  · intro x1 h1
    exact State.refuseQuiet_follows h1
  · intro x1 h1
    exact State.runClv_follows h1

theorem State.sigmaCheck_follows {pre : State} {s : State} (fo : Follows pre s) {t : Nat} {pos : Nat} : Follows pre (s.sigmaCheck t pos) := by
  unfold State.sigmaCheck
  exact Follows.ite (State.startPass_follows fo) fo

theorem State.setTrims_follows {pre : State} {s : State} (fo : Follows pre s) {t : Nat} {pos : Nat} {pl : Nat} {sig : Nat} : Follows pre (s.setTrims t pos pl sig) := by
  unfold State.setTrims
  extract_lets s1 s2
  exact fo.same (Eq.refl _) fo.mem (Eq.refl _) (Eq.refl _) (Eq.refl _) (Eq.refl _)

theorem State.setTcal_follows {pre : State} {s : State} (fo : Follows pre s) {t : Nat} {pos : Nat} : Follows pre (s.setTcal t pos) := by
  unfold State.setTcal
  exact fo.same (Eq.refl _) fo.mem (Eq.refl _) (Eq.refl _) (Eq.refl _) (Eq.refl _)

theorem State.trimCommit_follows {pre : State} {s : State} (fo : Follows pre s) {t : Nat} {pos : Nat} {p : PassSt} : Follows pre (s.trimCommit t pos p) := by
  unfold State.trimCommit
  extract_lets s1 s2 s3 s4 s5 s6 s7
  have h1 : Follows pre s3 := by
    unfold s3
    apply foldl_follows
    · intro x1 x2 h1
      exact State.setTrims_follows h1
    · exact fo
  clear_value s3
  have h2 : Follows pre s5 := h1.same (Eq.refl _) h1.mem (Eq.refl _) (Eq.refl _) (Eq.refl _) (Eq.refl _)
  clear_value s5
  have h3 : Follows pre s6 := State.setTcal_follows (State.setReg_follows (State.setReg_follows (State.setReg_follows h2)))
  clear_value s6
  have h4 : Follows pre s7 := State.passEnds_follows (State.addReg_follows h3)
  clear_value s7
  exact Follows.ite (State.startPass_follows h4) h4

theorem State.verifyFails_follows {pre : State} {s : State} (fo : Follows pre s) {t : Nat} {pos : Nat} {p : PassSt} : Follows pre (s.verifyFails t pos p) := by
  unfold State.verifyFails
  extract_lets s1 s2
  have h1 : Follows pre s1 := State.calRecord_follows (State.setReg_follows fo)
  clear_value s1
  have h2 : Follows pre s2 := State.passEnds_follows h1
  clear_value s2
  exact State.startPass_follows h2

theorem State.remapCommit_follows {pre : State} {s : State} (fo : Follows pre s) {t : Nat} {pos : Nat} : Follows pre (State.remapCommit s t pos) := by
  unfold State.remapCommit
  split
  · exact fo
  · rename_i y3 y4 y5 y6
    extract_lets s1 s2 s3 s4 s5 s6
    have h1 : Follows pre s3 := fo.same (Eq.refl _) fo.mem (Eq.refl _) (Eq.refl _) (Eq.refl _) (Eq.refl _)
    clear_value s3
    have h2 : Follows pre s5 := State.setSpares_follows h1
    clear_value s5
    have h3 : Follows pre s6 := Follows.ite h2 (State.setReg_follows h2)
    clear_value s6
    exact Follows.ite (State.tileRecord_follows h3) fo

theorem State.spareCommit_follows {pre : State} {s : State} (fo : Follows pre s) {t : Nat} : Follows pre (s.spareCommit t) := by
  unfold State.spareCommit
  apply Follows.ite
  · exact fo
  · apply State.foreground_follows
    apply State.foreground_follows
    exact fo.same (Eq.refl _) fo.mem (Eq.refl _) (Eq.refl _) (Eq.refl _) (Eq.refl _)

theorem State.calKeep_follows {pre : State} {s : State} (fo : Follows pre s) {p : Nat} : Follows pre (s.calKeep p) := by
  unfold State.calKeep
  exact fo.same (Eq.refl _) fo.mem (Eq.refl _) (Eq.refl _) (Eq.refl _) (Eq.refl _)

theorem State.calDiscard_follows {pre : State} {s : State} (fo : Follows pre s) {p : Nat} : Follows pre (s.calDiscard p) := by
  unfold State.calDiscard
  extract_lets s1 s2 s3 s4
  have h1 : Follows pre s4 := fo.same (Eq.refl _) fo.mem (Eq.refl _) (Eq.refl _) (Eq.refl _) (Eq.refl _)
  clear_value s4
  apply foldl_follows
  · intro x1 x2 h2
    split
    · rename_i y1 y2 y3
      exact State.setReg_follows h2
    · exact h2
  · exact h1

theorem State.calCommit_follows {pre : State} {s : State} (fo : Follows pre s) {p : Nat} : Follows pre (State.calCommit s p) := by
  unfold State.calCommit
  extract_lets s1 s2 s3 s4 s5
  have h1 : Follows pre s3 := State.calKeep_follows fo
  clear_value s3
  have h2 : Follows pre s4 := by
    unfold s4
    apply foldl_follows
    · intro x1 x2 h3
      extract_lets s6 s7 s8 s9
      have h4 : Follows pre s8 := State.remapCommit_follows h3
      clear_value s8
      have h5 : Follows pre s9 := by
        unfold s9
        split
        · exact Follows.ite (State.trimCommit_follows h4) (Follows.ite (State.verifyFails_follows h4) h4)
        · exact h4
      clear_value s9
      exact State.spareCommit_follows h5
    · exact h1
  clear_value s4
  have h6 : Follows pre s5 := by
    unfold s5
    apply foldl_follows
    · intro x3 x4 h7
      exact State.sigmaCheck_follows h7
    · exact h2
  clear_value s5
  exact State.qualAll_follows h6

/-! ### Operations that leave memory alone -/

theorem State.setCmode_memSame {pre : State} {s : State} (fo : MemSame pre s) {t : Nat} {n : Nat} {pl : Nat} {v : Nat} : MemSame pre (s.setCmode t n pl v) := by
  unfold State.setCmode
  apply MemSame.ite
  · exact fo
  · extract_lets s1 s2 s3 s4
    have h1 : MemSame pre s1 := State.setReg_memSame fo
    clear_value s1
    have h2 : MemSame pre s3 := h1.same (Eq.refl _)
    clear_value s3
    apply MemSame.ite
    · apply State.setReg_memSame
      exact h2.same (Eq.refl _)
    · exact h2

theorem State.foregroundOnce_memSame {pre : State} {s : State} (fo : MemSame pre s) {t : Nat} {pos : Nat} {pl : Nat} : MemSame pre (s.foregroundOnce t pos pl) := by
  unfold State.foregroundOnce
  extract_lets s1 s2 s3 s4
  have h1 : MemSame pre s1.snd := State.takeFree_memSame fo
  clear_value s1
  have h2 : MemSame pre s3 := h1
  clear_value s3
  exact h2.same (Eq.refl _)

theorem State.measure_memSame {pre : State} {s : State} (fo : MemSame pre s) : MemSame pre s.measure.snd := by
  unfold State.measure
  extract_lets s1
  have h1 : MemSame pre s1.snd := State.takeFree_memSame fo
  clear_value s1
  exact h1

theorem State.measurePair_memSame {pre : State} {s : State} (fo : MemSame pre s) {pls : List Nat} : MemSame pre (s.measurePair pls).snd := by
  unfold State.measurePair
  extract_lets s1 s2
  have h1 : MemSame pre s1.snd := by
    unfold s1
    split
    · exact State.measure_memSame fo
    · exact fo
  clear_value s1
  have h2 : MemSame pre s2.snd := by
    unfold s2
    split
    · exact State.measure_memSame h1
    · exact h1
  clear_value s2
  exact h2

theorem State.putPass_memSame {pre : State} {s : State} (fo : MemSame pre s) {t : Nat} {pos : Nat} {p : PassSt} : MemSame pre (s.putPass t pos p) := by
  unfold State.putPass
  exact fo.same (Eq.refl _)

theorem State.calRecord_memSame {pre : State} {s : State} (fo : MemSame pre s) {t : Nat} {code : Nat} {cycle : Nat} {entry : Nat} {pos : Nat} {pl : Nat} {g : Nat} : MemSame pre (s.calRecord t code cycle entry pos pl g) := by
  unfold State.calRecord
  extract_lets s1
  have h1 : MemSame pre s1 := MemSame.ite (State.addReg_memSame fo) fo
  clear_value s1
  exact State.tileRecord_memSame h1

theorem State.qualAll_memSame {pre : State} {s : State} (fo : MemSame pre s) {ts : List Nat} : MemSame pre (State.qualAll s ts) := by
  unfold State.qualAll
  extract_lets s1 s2 s3
  have h1 : MemSame pre s1.snd := State.takeFree_memSame fo
  clear_value s1
  have h2 : MemSame pre s2 := h1
  clear_value s2
  exact h2.same (Eq.refl _)

theorem State.foreground_memSame {pre : State} {s : State} (fo : MemSame pre s) {t : Nat} {pos : Nat} {pl : Nat} : MemSame pre (State.foreground s t pos pl) := by
  unfold State.foreground
  extract_lets s1 s2 s3 s4 s5
  have h1 : MemSame pre s2 := State.foregroundOnce_memSame fo
  clear_value s2
  have h2 : MemSame pre s3 := MemSame.ite h1 (State.foregroundOnce_memSame h1)
  clear_value s3
  have h3 : MemSame pre s4 := State.setReg_memSame (State.calRecord_memSame h2)
  clear_value s4
  have h4 : MemSame pre s5 := by
    unfold s5
    apply MemSame.ite
    · exact h2
    · split
      · exact State.arrayFault_memSame h3
      · exact h3
  clear_value s5
  exact State.qualAll_memSame h4

theorem State.passEnds_memSame {pre : State} {s : State} (fo : MemSame pre s) {t : Nat} {pos : Nat} {n : Nat} {sig : Nat × Nat} {cycle : Nat} {entry : Nat} : MemSame pre (State.passEnds s t pos n sig cycle entry) := by
  unfold State.passEnds
  extract_lets s1 s2 s3 s4 s5 s6
  have h1 : MemSame pre s5 := State.calRecord_memSame fo
  clear_value s5
  apply MemSame.ite
  · apply MemSame.ite
    · exact fo.same (Eq.refl _)
    · apply State.arrayFault_memSame
      exact h1.same (Eq.refl _)
  · exact fo.same (Eq.refl _)

theorem State.passItem_memSame {pre : State} {s : State} (fo : MemSame pre s) {t : Nat} {n : Nat} {cycle : Nat} {entry : Nat} {w : Nat} : MemSame pre (s.passItem t n cycle entry w).fst := by
  unfold State.passItem
  extract_lets s1 s2 s3 s4 s5
  have h1 : MemSame pre s5.snd := State.measurePair_memSame fo
  clear_value s5
  split
  · exact fo
  · rename_i y1 y2 y3
    split
    · split
      · dsimp only
        exact State.setReg_memSame (State.putPass_memSame h1)
      · exact fo
    · split
      · split
        · dsimp only
          exact State.setReg_memSame (State.putPass_memSame fo)
        · dsimp only
          exact State.putPass_memSame fo
      · split
        · split
          · split
            · dsimp only
              exact State.setReg_memSame (State.putPass_memSame h1)
            · dsimp only
              exact State.setReg_memSame (State.putPass_memSame h1)
          · exact fo
        · exact fo

theorem State.passItems_memSame {pre : State} {t : Nat} {n : Nat} {cycle : Nat} {entry : Nat} {fuel : Nat} {w : Nat} : ∀ {s : State}, MemSame pre s → MemSame pre (s.passItems t n cycle entry fuel w) := by
  induction fuel generalizing w with
  | zero => intro s h; exact h
  | succ k ih =>
    intro s h
    unfold State.passItems
    exact MemSame.ite h (ih (State.passItem_memSame h))

theorem State.remapWork_memSame {pre : State} {s : State} (fo : MemSame pre s) {t : Nat} {n : Nat} {w : Nat} : MemSame pre (s.remapWork t n w).fst := by
  unfold State.remapWork
  extract_lets s1 s2
  split
  · exact fo
  · rename_i y1 y2 y3 y4
    extract_lets s3 s4
    have h1 : ∀ (r : Remap), MemSame pre (s3 r) := by
      intro x1
      unfold s3
      exact fo.same (Eq.refl _)
    clear_value s3
    split
    · exact fo
    · split
      · dsimp only
        apply h1
      · split
        · exact fo
        · dsimp only
          apply h1

theorem State.spareWork_memSame {pre : State} {s : State} (fo : MemSame pre s) {t : Nat} {w : Nat} : MemSame pre (s.spareWork t w) := by
  unfold State.spareWork
  apply MemSame.ite
  · exact fo
  · extract_lets s1 s2
    exact fo.same (Eq.refl _)

theorem State.windowWork_memSame {pre : State} {s : State} (fo : MemSame pre s) {t : Nat} {cycle : Nat} {entry : Nat} {w : Nat} {n : Nat} : MemSame pre (s.windowWork t cycle entry w n) := by
  unfold State.windowWork
  apply MemSame.ite
  · exact fo
  · extract_lets s1 s2 s3 s4
    have h1 : MemSame pre s1 := MemSame.ite (State.spareWork_memSame fo) fo
    clear_value s1
    have h2 : MemSame pre s2.fst := State.remapWork_memSame h1
    clear_value s2
    have h3 : MemSame pre s3 := h2
    clear_value s3
    split
    · exact State.passItems_memSame h3
    · apply foldl_memSame
      · intro x1 x2 h4
        extract_lets s5 s6 s7
        have h5 : MemSame pre s5.snd := State.measure_memSame h4
        clear_value s5
        have h6 : MemSame pre s6 := h5
        clear_value s6
        exact h6.same (Eq.refl _)
      · exact h3

theorem State.runClv_memSame {pre : State} {s : State} (fo : MemSame pre s) {i : Issue} : MemSame pre (State.runClv s i) := by
  unfold State.runClv
  extract_lets s1 s2 s3 s4 s5 s6 s7
  have h1 : MemSame pre s7 := State.updTile_memSame fo
  clear_value s7
  apply MemSame.ite
  · exact State.otherWord_memSame fo
  · apply MemSame.ite
    · exact State.refuseForm_memSame fo
    · apply MemSame.ite
      · exact fo
      · apply MemSame.ite
        · exact State.refuseAll_memSame fo
        · apply foldl_memSame
          · intro x1 x2 h2
            exact State.windowWork_memSame h2
          · exact h1

theorem execClv_memSame {pre : State} {i : Issue} {s : State} (fo : MemSame pre s) : MemSameO pre (execClv i s) := by
  unfold execClv
  apply State.issue_memSame
  · exact fo
  · intro x1 h1
    exact State.refuseQuiet_memSame h1
  · intro x1 h1
    exact State.runClv_memSame h1

theorem State.sigmaCheck_memSame {pre : State} {s : State} (fo : MemSame pre s) {t : Nat} {pos : Nat} : MemSame pre (s.sigmaCheck t pos) := by
  unfold State.sigmaCheck
  exact MemSame.ite (State.startPass_memSame fo) fo

theorem State.setTrims_memSame {pre : State} {s : State} (fo : MemSame pre s) {t : Nat} {pos : Nat} {pl : Nat} {sig : Nat} : MemSame pre (s.setTrims t pos pl sig) := by
  unfold State.setTrims
  extract_lets s1 s2
  exact fo.same (Eq.refl _)

theorem State.setTcal_memSame {pre : State} {s : State} (fo : MemSame pre s) {t : Nat} {pos : Nat} : MemSame pre (s.setTcal t pos) := by
  unfold State.setTcal
  exact fo.same (Eq.refl _)

theorem State.trimCommit_memSame {pre : State} {s : State} (fo : MemSame pre s) {t : Nat} {pos : Nat} {p : PassSt} : MemSame pre (s.trimCommit t pos p) := by
  unfold State.trimCommit
  extract_lets s1 s2 s3 s4 s5 s6 s7
  have h1 : MemSame pre s3 := by
    unfold s3
    apply foldl_memSame
    · intro x1 x2 h1
      exact State.setTrims_memSame h1
    · exact fo
  clear_value s3
  have h2 : MemSame pre s5 := h1.same (Eq.refl _)
  clear_value s5
  have h3 : MemSame pre s6 := State.setTcal_memSame (State.setReg_memSame (State.setReg_memSame (State.setReg_memSame h2)))
  clear_value s6
  have h4 : MemSame pre s7 := State.passEnds_memSame (State.addReg_memSame h3)
  clear_value s7
  exact MemSame.ite (State.startPass_memSame h4) h4

theorem State.verifyFails_memSame {pre : State} {s : State} (fo : MemSame pre s) {t : Nat} {pos : Nat} {p : PassSt} : MemSame pre (s.verifyFails t pos p) := by
  unfold State.verifyFails
  extract_lets s1 s2
  have h1 : MemSame pre s1 := State.calRecord_memSame (State.setReg_memSame fo)
  clear_value s1
  have h2 : MemSame pre s2 := State.passEnds_memSame h1
  clear_value s2
  exact State.startPass_memSame h2

theorem State.remapCommit_memSame {pre : State} {s : State} (fo : MemSame pre s) {t : Nat} {pos : Nat} : MemSame pre (State.remapCommit s t pos) := by
  unfold State.remapCommit
  split
  · exact fo
  · rename_i y3 y4 y5 y6
    extract_lets s1 s2 s3 s4 s5 s6
    have h1 : MemSame pre s3 := fo.same (Eq.refl _)
    clear_value s3
    have h2 : MemSame pre s5 := State.setSpares_memSame h1
    clear_value s5
    have h3 : MemSame pre s6 := MemSame.ite h2 (State.setReg_memSame h2)
    clear_value s6
    exact MemSame.ite (State.tileRecord_memSame h3) fo

theorem State.spareCommit_memSame {pre : State} {s : State} (fo : MemSame pre s) {t : Nat} : MemSame pre (s.spareCommit t) := by
  unfold State.spareCommit
  apply MemSame.ite
  · exact fo
  · apply State.foreground_memSame
    apply State.foreground_memSame
    exact fo.same (Eq.refl _)

theorem State.calKeep_memSame {pre : State} {s : State} (fo : MemSame pre s) {p : Nat} : MemSame pre (s.calKeep p) := by
  unfold State.calKeep
  exact fo.same (Eq.refl _)

theorem State.calDiscard_memSame {pre : State} {s : State} (fo : MemSame pre s) {p : Nat} : MemSame pre (s.calDiscard p) := by
  unfold State.calDiscard
  extract_lets s1 s2 s3 s4
  have h1 : MemSame pre s4 := fo.same (Eq.refl _)
  clear_value s4
  apply foldl_memSame
  · intro x1 x2 h2
    split
    · rename_i y1 y2 y3
      exact State.setReg_memSame h2
    · exact h2
  · exact h1

theorem State.calCommit_memSame {pre : State} {s : State} (fo : MemSame pre s) {p : Nat} : MemSame pre (State.calCommit s p) := by
  unfold State.calCommit
  extract_lets s1 s2 s3 s4 s5
  have h1 : MemSame pre s3 := State.calKeep_memSame fo
  clear_value s3
  have h2 : MemSame pre s4 := by
    unfold s4
    apply foldl_memSame
    · intro x1 x2 h3
      extract_lets s6 s7 s8 s9
      have h4 : MemSame pre s8 := State.remapCommit_memSame h3
      clear_value s8
      have h5 : MemSame pre s9 := by
        unfold s9
        split
        · exact MemSame.ite (State.trimCommit_memSame h4) (MemSame.ite (State.verifyFails_memSame h4) h4)
        · exact h4
      clear_value s9
      exact State.spareCommit_memSame h5
    · exact h1
  clear_value s4
  have h6 : MemSame pre s5 := by
    unfold s5
    apply foldl_memSame
    · intro x3 x4 h7
      exact State.sigmaCheck_memSame h7
    · exact h2
  clear_value s5
  exact State.qualAll_memSame h6

/-! ### Operations that leave alone what lies beside the tiles -/

theorem State.setCmode_beside {pre : State} {s : State} (fo : Beside pre s) {t : Nat} {n : Nat} {pl : Nat} {v : Nat} : Beside pre (s.setCmode t n pl v) := by
  unfold State.setCmode
  apply Beside.ite
  · exact fo
  · extract_lets s1 s2 s3 s4
    have h1 : Beside pre s1 := State.setReg_beside fo
    clear_value s1
    have h2 : Beside pre s3 := h1.same (Eq.refl _) (Eq.refl _) (Eq.refl _) (Eq.refl _) (Eq.refl _) (Eq.refl _) (Eq.refl _) (Eq.refl _) (Eq.refl _) (Eq.refl _) (Eq.refl _) (Eq.refl _) (Eq.refl _) (Eq.refl _) (Eq.refl _) (Eq.refl _) (Eq.refl _)
    clear_value s3
    apply Beside.ite
    · apply State.setReg_beside
      exact h2.same (Eq.refl _) (Eq.refl _) (Eq.refl _) (Eq.refl _) (Eq.refl _) (Eq.refl _) (Eq.refl _) (Eq.refl _) (Eq.refl _) (Eq.refl _) (Eq.refl _) (Eq.refl _) (Eq.refl _) (Eq.refl _) (Eq.refl _) (Eq.refl _) (Eq.refl _)
    · exact h2

theorem State.foregroundOnce_beside {pre : State} {s : State} (fo : Beside pre s) {t : Nat} {pos : Nat} {pl : Nat} : Beside pre (s.foregroundOnce t pos pl) := by
  unfold State.foregroundOnce
  extract_lets s1 s2 s3 s4
  have h1 : Beside pre s1.snd := State.takeFree_beside fo
  clear_value s1
  have h2 : Beside pre s3 := h1
  clear_value s3
  exact h2.same (Eq.refl _) (Eq.refl _) (Eq.refl _) (Eq.refl _) (Eq.refl _) (Eq.refl _) (Eq.refl _) (Eq.refl _) (Eq.refl _) (Eq.refl _) (Eq.refl _) (Eq.refl _) (Eq.refl _) (Eq.refl _) (Eq.refl _) (Eq.refl _) (Eq.refl _)

theorem State.measure_beside {pre : State} {s : State} (fo : Beside pre s) : Beside pre s.measure.snd := by
  unfold State.measure
  extract_lets s1
  have h1 : Beside pre s1.snd := State.takeFree_beside fo
  clear_value s1
  exact h1

theorem State.measurePair_beside {pre : State} {s : State} (fo : Beside pre s) {pls : List Nat} : Beside pre (s.measurePair pls).snd := by
  unfold State.measurePair
  extract_lets s1 s2
  have h1 : Beside pre s1.snd := by
    unfold s1
    split
    · exact State.measure_beside fo
    · exact fo
  clear_value s1
  have h2 : Beside pre s2.snd := by
    unfold s2
    split
    · exact State.measure_beside h1
    · exact h1
  clear_value s2
  exact h2

theorem State.putPass_beside {pre : State} {s : State} (fo : Beside pre s) {t : Nat} {pos : Nat} {p : PassSt} : Beside pre (s.putPass t pos p) := by
  unfold State.putPass
  exact fo.same (Eq.refl _) (Eq.refl _) (Eq.refl _) (Eq.refl _) (Eq.refl _) (Eq.refl _) (Eq.refl _) (Eq.refl _) (Eq.refl _) (Eq.refl _) (Eq.refl _) (Eq.refl _) (Eq.refl _) (Eq.refl _) (Eq.refl _) (Eq.refl _) (Eq.refl _)

theorem State.calRecord_beside {pre : State} {s : State} (fo : Beside pre s) {t : Nat} {code : Nat} {cycle : Nat} {entry : Nat} {pos : Nat} {pl : Nat} {g : Nat} : Beside pre (s.calRecord t code cycle entry pos pl g) := by
  unfold State.calRecord
  extract_lets s1
  have h1 : Beside pre s1 := Beside.ite (State.addReg_beside fo) fo
  clear_value s1
  exact State.tileRecord_beside h1

theorem State.qualAll_beside {pre : State} {s : State} (fo : Beside pre s) {ts : List Nat} : Beside pre (State.qualAll s ts) := by
  unfold State.qualAll
  extract_lets s1 s2 s3
  have h1 : Beside pre s1.snd := State.takeFree_beside fo
  clear_value s1
  have h2 : Beside pre s2 := h1
  clear_value s2
  exact h2.same (Eq.refl _) (Eq.refl _) (Eq.refl _) (Eq.refl _) (Eq.refl _) (Eq.refl _) (Eq.refl _) (Eq.refl _) (Eq.refl _) (Eq.refl _) (Eq.refl _) (Eq.refl _) (Eq.refl _) (Eq.refl _) (Eq.refl _) (Eq.refl _) (Eq.refl _)

theorem State.foreground_beside {pre : State} {s : State} (fo : Beside pre s) {t : Nat} {pos : Nat} {pl : Nat} : Beside pre (State.foreground s t pos pl) := by
  unfold State.foreground
  extract_lets s1 s2 s3 s4 s5
  have h1 : Beside pre s2 := State.foregroundOnce_beside fo
  clear_value s2
  have h2 : Beside pre s3 := Beside.ite h1 (State.foregroundOnce_beside h1)
  clear_value s3
  have h3 : Beside pre s4 := State.setReg_beside (State.calRecord_beside h2)
  clear_value s4
  have h4 : Beside pre s5 := by
    unfold s5
    apply Beside.ite
    · exact h2
    · split
      · exact State.arrayFault_beside h3
      · exact h3
  clear_value s5
  exact State.qualAll_beside h4

theorem State.passEnds_beside {pre : State} {s : State} (fo : Beside pre s) {t : Nat} {pos : Nat} {n : Nat} {sig : Nat × Nat} {cycle : Nat} {entry : Nat} : Beside pre (State.passEnds s t pos n sig cycle entry) := by
  unfold State.passEnds
  extract_lets s1 s2 s3 s4 s5 s6
  have h1 : Beside pre s5 := State.calRecord_beside fo
  clear_value s5
  apply Beside.ite
  · apply Beside.ite
    · exact fo.same (Eq.refl _) (Eq.refl _) (Eq.refl _) (Eq.refl _) (Eq.refl _) (Eq.refl _) (Eq.refl _) (Eq.refl _) (Eq.refl _) (Eq.refl _) (Eq.refl _) (Eq.refl _) (Eq.refl _) (Eq.refl _) (Eq.refl _) (Eq.refl _) (Eq.refl _)
    · apply State.arrayFault_beside
      exact h1.same (Eq.refl _) (Eq.refl _) (Eq.refl _) (Eq.refl _) (Eq.refl _) (Eq.refl _) (Eq.refl _) (Eq.refl _) (Eq.refl _) (Eq.refl _) (Eq.refl _) (Eq.refl _) (Eq.refl _) (Eq.refl _) (Eq.refl _) (Eq.refl _) (Eq.refl _)
  · exact fo.same (Eq.refl _) (Eq.refl _) (Eq.refl _) (Eq.refl _) (Eq.refl _) (Eq.refl _) (Eq.refl _) (Eq.refl _) (Eq.refl _) (Eq.refl _) (Eq.refl _) (Eq.refl _) (Eq.refl _) (Eq.refl _) (Eq.refl _) (Eq.refl _) (Eq.refl _)

theorem State.passItem_beside {pre : State} {s : State} (fo : Beside pre s) {t : Nat} {n : Nat} {cycle : Nat} {entry : Nat} {w : Nat} : Beside pre (s.passItem t n cycle entry w).fst := by
  unfold State.passItem
  extract_lets s1 s2 s3 s4 s5
  have h1 : Beside pre s5.snd := State.measurePair_beside fo
  clear_value s5
  split
  · exact fo
  · rename_i y1 y2 y3
    split
    · split
      · dsimp only
        exact State.setReg_beside (State.putPass_beside h1)
      · exact fo
    · split
      · split
        · dsimp only
          exact State.setReg_beside (State.putPass_beside fo)
        · dsimp only
          exact State.putPass_beside fo
      · split
        · split
          · split
            · dsimp only
              exact State.setReg_beside (State.putPass_beside h1)
            · dsimp only
              exact State.setReg_beside (State.putPass_beside h1)
          · exact fo
        · exact fo

theorem State.passItems_beside {pre : State} {t : Nat} {n : Nat} {cycle : Nat} {entry : Nat} {fuel : Nat} {w : Nat} : ∀ {s : State}, Beside pre s → Beside pre (s.passItems t n cycle entry fuel w) := by
  induction fuel generalizing w with
  | zero => intro s h; exact h
  | succ k ih =>
    intro s h
    unfold State.passItems
    exact Beside.ite h (ih (State.passItem_beside h))

theorem State.remapWork_beside {pre : State} {s : State} (fo : Beside pre s) {t : Nat} {n : Nat} {w : Nat} : Beside pre (s.remapWork t n w).fst := by
  unfold State.remapWork
  extract_lets s1 s2
  split
  · exact fo
  · rename_i y1 y2 y3 y4
    extract_lets s3 s4
    have h1 : ∀ (r : Remap), Beside pre (s3 r) := by
      intro x1
      unfold s3
      exact fo.same (Eq.refl _) (Eq.refl _) (Eq.refl _) (Eq.refl _) (Eq.refl _) (Eq.refl _) (Eq.refl _) (Eq.refl _) (Eq.refl _) (Eq.refl _) (Eq.refl _) (Eq.refl _) (Eq.refl _) (Eq.refl _) (Eq.refl _) (Eq.refl _) (Eq.refl _)
    clear_value s3
    split
    · exact fo
    · split
      · dsimp only
        apply h1
      · split
        · exact fo
        · dsimp only
          apply h1

theorem State.spareWork_beside {pre : State} {s : State} (fo : Beside pre s) {t : Nat} {w : Nat} : Beside pre (s.spareWork t w) := by
  unfold State.spareWork
  apply Beside.ite
  · exact fo
  · extract_lets s1 s2
    exact fo.same (Eq.refl _) (Eq.refl _) (Eq.refl _) (Eq.refl _) (Eq.refl _) (Eq.refl _) (Eq.refl _) (Eq.refl _) (Eq.refl _) (Eq.refl _) (Eq.refl _) (Eq.refl _) (Eq.refl _) (Eq.refl _) (Eq.refl _) (Eq.refl _) (Eq.refl _)

theorem State.windowWork_beside {pre : State} {s : State} (fo : Beside pre s) {t : Nat} {cycle : Nat} {entry : Nat} {w : Nat} {n : Nat} : Beside pre (s.windowWork t cycle entry w n) := by
  unfold State.windowWork
  apply Beside.ite
  · exact fo
  · extract_lets s1 s2 s3 s4
    have h1 : Beside pre s1 := Beside.ite (State.spareWork_beside fo) fo
    clear_value s1
    have h2 : Beside pre s2.fst := State.remapWork_beside h1
    clear_value s2
    have h3 : Beside pre s3 := h2
    clear_value s3
    split
    · exact State.passItems_beside h3
    · apply foldl_beside
      · intro x1 x2 h4
        extract_lets s5 s6 s7
        have h5 : Beside pre s5.snd := State.measure_beside h4
        clear_value s5
        have h6 : Beside pre s6 := h5
        clear_value s6
        exact h6.same (Eq.refl _) (Eq.refl _) (Eq.refl _) (Eq.refl _) (Eq.refl _) (Eq.refl _) (Eq.refl _) (Eq.refl _) (Eq.refl _) (Eq.refl _) (Eq.refl _) (Eq.refl _) (Eq.refl _) (Eq.refl _) (Eq.refl _) (Eq.refl _) (Eq.refl _)
      · exact h3

theorem State.runClv_beside {pre : State} {s : State} (fo : Beside pre s) {i : Issue} : Beside pre (State.runClv s i) := by
  unfold State.runClv
  extract_lets s1 s2 s3 s4 s5 s6 s7
  have h1 : Beside pre s7 := State.updTile_beside fo
  clear_value s7
  apply Beside.ite
  · exact State.otherWord_beside fo
  · apply Beside.ite
    · exact State.refuseForm_beside fo
    · apply Beside.ite
      · exact fo
      · apply Beside.ite
        · exact State.refuseAll_beside fo
        · apply foldl_beside
          · intro x1 x2 h2
            exact State.windowWork_beside h2
          · exact h1

theorem execClv_beside {pre : State} {i : Issue} {s : State} (fo : Beside pre s) : BesideO pre (execClv i s) := by
  unfold execClv
  apply State.issue_beside
  · exact fo
  · intro x1 h1
    exact State.refuseQuiet_beside h1
  · intro x1 h1
    exact State.runClv_beside h1

theorem State.sigmaCheck_beside {pre : State} {s : State} (fo : Beside pre s) {t : Nat} {pos : Nat} : Beside pre (s.sigmaCheck t pos) := by
  unfold State.sigmaCheck
  exact Beside.ite (State.startPass_beside fo) fo

theorem State.setTrims_beside {pre : State} {s : State} (fo : Beside pre s) {t : Nat} {pos : Nat} {pl : Nat} {sig : Nat} : Beside pre (s.setTrims t pos pl sig) := by
  unfold State.setTrims
  extract_lets s1 s2
  exact fo.same (Eq.refl _) (Eq.refl _) (Eq.refl _) (Eq.refl _) (Eq.refl _) (Eq.refl _) (Eq.refl _) (Eq.refl _) (Eq.refl _) (Eq.refl _) (Eq.refl _) (Eq.refl _) (Eq.refl _) (Eq.refl _) (Eq.refl _) (Eq.refl _) (Eq.refl _)

theorem State.setTcal_beside {pre : State} {s : State} (fo : Beside pre s) {t : Nat} {pos : Nat} : Beside pre (s.setTcal t pos) := by
  unfold State.setTcal
  exact fo.same (Eq.refl _) (Eq.refl _) (Eq.refl _) (Eq.refl _) (Eq.refl _) (Eq.refl _) (Eq.refl _) (Eq.refl _) (Eq.refl _) (Eq.refl _) (Eq.refl _) (Eq.refl _) (Eq.refl _) (Eq.refl _) (Eq.refl _) (Eq.refl _) (Eq.refl _)

theorem State.trimCommit_beside {pre : State} {s : State} (fo : Beside pre s) {t : Nat} {pos : Nat} {p : PassSt} : Beside pre (s.trimCommit t pos p) := by
  unfold State.trimCommit
  extract_lets s1 s2 s3 s4 s5 s6 s7
  have h1 : Beside pre s3 := by
    unfold s3
    apply foldl_beside
    · intro x1 x2 h1
      exact State.setTrims_beside h1
    · exact fo
  clear_value s3
  have h2 : Beside pre s5 := h1.same (Eq.refl _) (Eq.refl _) (Eq.refl _) (Eq.refl _) (Eq.refl _) (Eq.refl _) (Eq.refl _) (Eq.refl _) (Eq.refl _) (Eq.refl _) (Eq.refl _) (Eq.refl _) (Eq.refl _) (Eq.refl _) (Eq.refl _) (Eq.refl _) (Eq.refl _)
  clear_value s5
  have h3 : Beside pre s6 := State.setTcal_beside (State.setReg_beside (State.setReg_beside (State.setReg_beside h2)))
  clear_value s6
  have h4 : Beside pre s7 := State.passEnds_beside (State.addReg_beside h3)
  clear_value s7
  exact Beside.ite (State.startPass_beside h4) h4

theorem State.verifyFails_beside {pre : State} {s : State} (fo : Beside pre s) {t : Nat} {pos : Nat} {p : PassSt} : Beside pre (s.verifyFails t pos p) := by
  unfold State.verifyFails
  extract_lets s1 s2
  have h1 : Beside pre s1 := State.calRecord_beside (State.setReg_beside fo)
  clear_value s1
  have h2 : Beside pre s2 := State.passEnds_beside h1
  clear_value s2
  exact State.startPass_beside h2

theorem State.remapCommit_beside {pre : State} {s : State} (fo : Beside pre s) {t : Nat} {pos : Nat} : Beside pre (State.remapCommit s t pos) := by
  unfold State.remapCommit
  split
  · exact fo
  · rename_i y3 y4 y5 y6
    extract_lets s1 s2 s3 s4 s5 s6
    have h1 : Beside pre s3 := fo.same (Eq.refl _) (Eq.refl _) (Eq.refl _) (Eq.refl _) (Eq.refl _) (Eq.refl _) (Eq.refl _) (Eq.refl _) (Eq.refl _) (Eq.refl _) (Eq.refl _) (Eq.refl _) (Eq.refl _) (Eq.refl _) (Eq.refl _) (Eq.refl _) (Eq.refl _)
    clear_value s3
    have h2 : Beside pre s5 := State.setSpares_beside h1
    clear_value s5
    have h3 : Beside pre s6 := Beside.ite h2 (State.setReg_beside h2)
    clear_value s6
    exact Beside.ite (State.tileRecord_beside h3) fo

theorem State.spareCommit_beside {pre : State} {s : State} (fo : Beside pre s) {t : Nat} : Beside pre (s.spareCommit t) := by
  unfold State.spareCommit
  apply Beside.ite
  · exact fo
  · apply State.foreground_beside
    apply State.foreground_beside
    exact fo.same (Eq.refl _) (Eq.refl _) (Eq.refl _) (Eq.refl _) (Eq.refl _) (Eq.refl _) (Eq.refl _) (Eq.refl _) (Eq.refl _) (Eq.refl _) (Eq.refl _) (Eq.refl _) (Eq.refl _) (Eq.refl _) (Eq.refl _) (Eq.refl _) (Eq.refl _)

theorem State.calKeep_beside {pre : State} {s : State} (fo : Beside pre s) {p : Nat} : Beside pre (s.calKeep p) := by
  unfold State.calKeep
  exact fo.same (Eq.refl _) (Eq.refl _) (Eq.refl _) (Eq.refl _) (Eq.refl _) (Eq.refl _) (Eq.refl _) (Eq.refl _) (Eq.refl _) (Eq.refl _) (Eq.refl _) (Eq.refl _) (Eq.refl _) (Eq.refl _) (Eq.refl _) (Eq.refl _) (Eq.refl _)

theorem State.calDiscard_beside {pre : State} {s : State} (fo : Beside pre s) {p : Nat} : Beside pre (s.calDiscard p) := by
  unfold State.calDiscard
  extract_lets s1 s2 s3 s4
  have h1 : Beside pre s4 := fo.same (Eq.refl _) (Eq.refl _) (Eq.refl _) (Eq.refl _) (Eq.refl _) (Eq.refl _) (Eq.refl _) (Eq.refl _) (Eq.refl _) (Eq.refl _) (Eq.refl _) (Eq.refl _) (Eq.refl _) (Eq.refl _) (Eq.refl _) (Eq.refl _) (Eq.refl _)
  clear_value s4
  apply foldl_beside
  · intro x1 x2 h2
    split
    · rename_i y1 y2 y3
      exact State.setReg_beside h2
    · exact h2
  · exact h1

theorem State.calCommit_beside {pre : State} {s : State} (fo : Beside pre s) {p : Nat} : Beside pre (State.calCommit s p) := by
  unfold State.calCommit
  extract_lets s1 s2 s3 s4 s5
  have h1 : Beside pre s3 := State.calKeep_beside fo
  clear_value s3
  have h2 : Beside pre s4 := by
    unfold s4
    apply foldl_beside
    · intro x1 x2 h3
      extract_lets s6 s7 s8 s9
      have h4 : Beside pre s8 := State.remapCommit_beside h3
      clear_value s8
      have h5 : Beside pre s9 := by
        unfold s9
        split
        · exact Beside.ite (State.trimCommit_beside h4) (Beside.ite (State.verifyFails_beside h4) h4)
        · exact h4
      clear_value s9
      exact State.spareCommit_beside h5
    · exact h1
  clear_value s4
  have h6 : Beside pre s5 := by
    unfold s5
    apply foldl_beside
    · intro x3 x4 h7
      exact State.sigmaCheck_beside h7
    · exact h2
  clear_value s5
  exact State.qualAll_beside h6

end Sys2Proof.Machine
end

