-- ==== Sys2Proof/Laws/Matrix.lean ====
section
/-! SUPPORT. What the operations of Machine/Matrix.lean keep: one lemma for each, by the lemmas of those that it calls. -/

namespace Sys2Proof.Machine

open Sys2Proof

theorem State.engRefuse_follows {pre : State} {s : State} (fo : Follows pre s) {i : Issue} {unit : Nat} {code : Nat} {f : Fld} : Follows pre (s.engRefuse i unit code f) := by
  unfold State.engRefuse
  exact State.tileFault_follows (State.setReg_follows fo)

theorem State.mxOther_follows {pre : State} {s : State} (fo : Follows pre s) {i : Issue} : Follows pre (State.mxOther s i) := by
  unfold State.mxOther
  extract_lets s1
  exact Follows.ite (State.engRefuse_follows fo) fo

theorem State.portRefuse_follows {pre : State} {s : State} (fo : Follows pre s) {i : Issue} {f : Fld} {row : Nat} : Follows pre (State.portRefuse s i f row) := by
  unfold State.portRefuse
  exact State.portRecord_follows (State.setReg_follows fo)

theorem State.mldPoison_follows {pre : State} {s : State} (fo : Follows pre s) {i : Issue} : Follows pre (s.mldPoison i) := by
  unfold State.mldPoison
  extract_lets s1 s2 s3
  exact State.updTile_follows fo

theorem State.mldAccept_follows {pre : State} {s : State} (fo : Follows pre s) {i : Issue} : Follows pre (State.mldAccept s i) := by
  unfold State.mldAccept
  extract_lets s1 s2 s3 s4 s5 s6 s7 s8 s9 s10 s11 s12 s13 s14
  have h1 : Follows pre s10.fst := State.schedReads_follows fo
  clear_value s10
  have h2 : Follows pre s11.fst := State.schedRead_follows h1
  clear_value s11
  have h3 : Follows pre s14 := State.poisonSeen_follows (State.poisonSeen_follows h2)
  clear_value s14
  exact State.updTile_follows h3

theorem State.runMld_follows {pre : State} {s : State} (fo : Follows pre s) {i : Issue} : Follows pre (State.runMld s i) := by
  unfold State.runMld
  extract_lets s1 s2 s3 s4
  exact Follows.ite (State.mxOther_follows fo) (Follows.ite (State.mldPoison_follows (State.engRefuse_follows fo)) (Follows.ite (State.mldPoison_follows (State.engRefuse_follows fo)) (Follows.ite (State.mldPoison_follows (State.portRefuse_follows fo)) (State.mldAccept_follows (State.portClaim_follows fo)))))

theorem execMld_follows {pre : State} {i : Issue} {s : State} (fo : Follows pre s) : FollowsO pre (execMld i s) := by
  unfold execMld
  apply State.issue_follows
  · exact fo
  · intro x1 h1
    exact State.mldPoison_follows (State.setReg_follows h1)
  · intro x1 h1
    exact State.runMld_follows h1

theorem State.mmulPoison_follows {pre : State} {s : State} (fo : Follows pre s) {i : Issue} : Follows pre (s.mmulPoison i) := by
  unfold State.mmulPoison
  extract_lets s1
  exact State.updTile_follows fo

theorem State.runMmul_follows {pre : State} {s : State} (fo : Follows pre s) {i : Issue} : Follows pre (State.runMmul s i) := by
  unfold State.runMmul
  extract_lets s1 s2 s3 s4 s5 s6
  exact Follows.ite (State.mxOther_follows fo) (Follows.ite (State.mmulPoison_follows (State.engRefuse_follows fo)) (Follows.ite (State.mmulPoison_follows (State.engRefuse_follows fo)) (State.updTile_follows fo)))

theorem execMmul_follows {pre : State} {i : Issue} {s : State} (fo : Follows pre s) : FollowsO pre (execMmul i s) := by
  unfold execMmul
  apply State.issue_follows
  · exact fo
  · intro x1 h1
    exact State.mmulPoison_follows (State.setReg_follows h1)
  · intro x1 h1
    exact State.runMmul_follows h1

theorem State.putBeats_follows {pre : State} {s : State} (fo : Follows pre s) {t : Nat} {c : Nat} {row : Nat} {bs : List Beat} : Follows pre (s.putBeats t c row bs) := by
  unfold State.putBeats
  exact State.schedWrites_follows fo

theorem State.poisonRows_follows {pre : State} {s : State} (fo : Follows pre s) {t : Nat} {c : Nat} {row : Nat} {n : Nat} : Follows pre (s.poisonRows t c row n) := by
  unfold State.poisonRows
  apply foldl_follows
  · intro x1 x2 h1
    exact State.poisonWords_follows h1
  · exact fo

theorem State.moutPoison_follows {pre : State} {s : State} (fo : Follows pre s) {i : Issue} : Follows pre (s.moutPoison i) := by
  unfold State.moutPoison
  extract_lets s1 s2
  exact Follows.ite (State.poisonRows_follows fo) (State.updTile_follows fo)

theorem State.moutAccept_follows {pre : State} {s : State} (fo : Follows pre s) {i : Issue} : Follows pre (s.moutAccept i) := by
  unfold State.moutAccept
  extract_lets s1 s2 s3 s4 s5 s6 s7 s8 s9 s10
  have h1 : Follows pre s10 := State.updTile_follows fo
  clear_value s10
  exact Follows.ite (State.updTile_follows h1) (State.putBeats_follows h1)

theorem State.runMout_follows {pre : State} {s : State} (fo : Follows pre s) {i : Issue} : Follows pre (State.runMout s i) := by
  unfold State.runMout
  extract_lets s1 s2 s3 s4 s5 s6 s7 s8 s9
  exact Follows.ite (State.mxOther_follows fo) (Follows.ite (State.moutPoison_follows (State.engRefuse_follows fo)) (Follows.ite (State.moutPoison_follows (State.engRefuse_follows fo)) (Follows.ite (State.moutPoison_follows (State.portRefuse_follows fo)) (State.moutAccept_follows (State.portClaim_follows fo)))))

theorem execMout_follows {pre : State} {i : Issue} {s : State} (fo : Follows pre s) : FollowsO pre (execMout i s) := by
  unfold execMout
  apply State.issue_follows
  · exact fo
  · intro x1 h1
    exact State.moutPoison_follows (State.setReg_follows h1)
  · intro x1 h1
    exact State.runMout_follows h1

/-! ### Operations that leave memory alone -/

theorem State.engRefuse_memSame {pre : State} {s : State} (fo : MemSame pre s) {i : Issue} {unit : Nat} {code : Nat} {f : Fld} : MemSame pre (s.engRefuse i unit code f) := by
  unfold State.engRefuse
  exact State.tileFault_memSame (State.setReg_memSame fo)

theorem State.mxOther_memSame {pre : State} {s : State} (fo : MemSame pre s) {i : Issue} : MemSame pre (State.mxOther s i) := by
  unfold State.mxOther
  extract_lets s1
  exact MemSame.ite (State.engRefuse_memSame fo) fo

theorem State.portRefuse_memSame {pre : State} {s : State} (fo : MemSame pre s) {i : Issue} {f : Fld} {row : Nat} : MemSame pre (State.portRefuse s i f row) := by
  unfold State.portRefuse
  exact State.portRecord_memSame (State.setReg_memSame fo)

theorem State.mldPoison_memSame {pre : State} {s : State} (fo : MemSame pre s) {i : Issue} : MemSame pre (s.mldPoison i) := by
  unfold State.mldPoison
  extract_lets s1 s2 s3
  exact State.updTile_memSame fo

theorem State.mldAccept_memSame {pre : State} {s : State} (fo : MemSame pre s) {i : Issue} : MemSame pre (State.mldAccept s i) := by
  unfold State.mldAccept
  extract_lets s1 s2 s3 s4 s5 s6 s7 s8 s9 s10 s11 s12 s13 s14
  have h1 : MemSame pre s10.fst := State.schedReads_memSame fo
  clear_value s10
  have h2 : MemSame pre s11.fst := State.schedRead_memSame h1
  clear_value s11
  have h3 : MemSame pre s14 := State.poisonSeen_memSame (State.poisonSeen_memSame h2)
  clear_value s14
  exact State.updTile_memSame h3

theorem State.runMld_memSame {pre : State} {s : State} (fo : MemSame pre s) {i : Issue} : MemSame pre (State.runMld s i) := by
  unfold State.runMld
  extract_lets s1 s2 s3 s4
  exact MemSame.ite (State.mxOther_memSame fo) (MemSame.ite (State.mldPoison_memSame (State.engRefuse_memSame fo)) (MemSame.ite (State.mldPoison_memSame (State.engRefuse_memSame fo)) (MemSame.ite (State.mldPoison_memSame (State.portRefuse_memSame fo)) (State.mldAccept_memSame (State.portClaim_memSame fo)))))

theorem execMld_memSame {pre : State} {i : Issue} {s : State} (fo : MemSame pre s) : MemSameO pre (execMld i s) := by
  unfold execMld
  apply State.issue_memSame
  · exact fo
  · intro x1 h1
    exact State.mldPoison_memSame (State.setReg_memSame h1)
  · intro x1 h1
    exact State.runMld_memSame h1

theorem State.mmulPoison_memSame {pre : State} {s : State} (fo : MemSame pre s) {i : Issue} : MemSame pre (s.mmulPoison i) := by
  unfold State.mmulPoison
  extract_lets s1
  exact State.updTile_memSame fo

theorem State.runMmul_memSame {pre : State} {s : State} (fo : MemSame pre s) {i : Issue} : MemSame pre (State.runMmul s i) := by
  unfold State.runMmul
  extract_lets s1 s2 s3 s4 s5 s6
  exact MemSame.ite (State.mxOther_memSame fo) (MemSame.ite (State.mmulPoison_memSame (State.engRefuse_memSame fo)) (MemSame.ite (State.mmulPoison_memSame (State.engRefuse_memSame fo)) (State.updTile_memSame fo)))

theorem execMmul_memSame {pre : State} {i : Issue} {s : State} (fo : MemSame pre s) : MemSameO pre (execMmul i s) := by
  unfold execMmul
  apply State.issue_memSame
  · exact fo
  · intro x1 h1
    exact State.mmulPoison_memSame (State.setReg_memSame h1)
  · intro x1 h1
    exact State.runMmul_memSame h1

theorem State.poisonRows_memSame {pre : State} {s : State} (fo : MemSame pre s) {t : Nat} {c : Nat} {row : Nat} {n : Nat} : MemSame pre (s.poisonRows t c row n) := by
  unfold State.poisonRows
  apply foldl_memSame
  · intro x1 x2 h1
    exact State.poisonWords_memSame h1
  · exact fo

theorem State.moutPoison_memSame {pre : State} {s : State} (fo : MemSame pre s) {i : Issue} : MemSame pre (s.moutPoison i) := by
  unfold State.moutPoison
  extract_lets s1 s2
  exact MemSame.ite (State.poisonRows_memSame fo) (State.updTile_memSame fo)

/-! ### Operations that leave alone what lies beside the tiles -/

theorem State.engRefuse_beside {pre : State} {s : State} (fo : Beside pre s) {i : Issue} {unit : Nat} {code : Nat} {f : Fld} : Beside pre (s.engRefuse i unit code f) := by
  unfold State.engRefuse
  exact State.tileFault_beside (State.setReg_beside fo)

theorem State.mxOther_beside {pre : State} {s : State} (fo : Beside pre s) {i : Issue} : Beside pre (State.mxOther s i) := by
  unfold State.mxOther
  extract_lets s1
  exact Beside.ite (State.engRefuse_beside fo) fo

theorem State.portRefuse_beside {pre : State} {s : State} (fo : Beside pre s) {i : Issue} {f : Fld} {row : Nat} : Beside pre (State.portRefuse s i f row) := by
  unfold State.portRefuse
  exact State.portRecord_beside (State.setReg_beside fo)

theorem State.mldPoison_beside {pre : State} {s : State} (fo : Beside pre s) {i : Issue} : Beside pre (s.mldPoison i) := by
  unfold State.mldPoison
  extract_lets s1 s2 s3
  exact State.updTile_beside fo

theorem State.mldAccept_beside {pre : State} {s : State} (fo : Beside pre s) {i : Issue} : Beside pre (State.mldAccept s i) := by
  unfold State.mldAccept
  extract_lets s1 s2 s3 s4 s5 s6 s7 s8 s9 s10 s11 s12 s13 s14
  have h1 : Beside pre s10.fst := State.schedReads_beside fo
  clear_value s10
  have h2 : Beside pre s11.fst := State.schedRead_beside h1
  clear_value s11
  have h3 : Beside pre s14 := State.poisonSeen_beside (State.poisonSeen_beside h2)
  clear_value s14
  exact State.updTile_beside h3

theorem State.runMld_beside {pre : State} {s : State} (fo : Beside pre s) {i : Issue} : Beside pre (State.runMld s i) := by
  unfold State.runMld
  extract_lets s1 s2 s3 s4
  exact Beside.ite (State.mxOther_beside fo) (Beside.ite (State.mldPoison_beside (State.engRefuse_beside fo)) (Beside.ite (State.mldPoison_beside (State.engRefuse_beside fo)) (Beside.ite (State.mldPoison_beside (State.portRefuse_beside fo)) (State.mldAccept_beside (State.portClaim_beside fo)))))

theorem execMld_beside {pre : State} {i : Issue} {s : State} (fo : Beside pre s) : BesideO pre (execMld i s) := by
  unfold execMld
  apply State.issue_beside
  · exact fo
  · intro x1 h1
    exact State.mldPoison_beside (State.setReg_beside h1)
  · intro x1 h1
    exact State.runMld_beside h1

theorem State.mmulPoison_beside {pre : State} {s : State} (fo : Beside pre s) {i : Issue} : Beside pre (s.mmulPoison i) := by
  unfold State.mmulPoison
  extract_lets s1
  exact State.updTile_beside fo

theorem State.runMmul_beside {pre : State} {s : State} (fo : Beside pre s) {i : Issue} : Beside pre (State.runMmul s i) := by
  unfold State.runMmul
  extract_lets s1 s2 s3 s4 s5 s6
  exact Beside.ite (State.mxOther_beside fo) (Beside.ite (State.mmulPoison_beside (State.engRefuse_beside fo)) (Beside.ite (State.mmulPoison_beside (State.engRefuse_beside fo)) (State.updTile_beside fo)))

theorem execMmul_beside {pre : State} {i : Issue} {s : State} (fo : Beside pre s) : BesideO pre (execMmul i s) := by
  unfold execMmul
  apply State.issue_beside
  · exact fo
  · intro x1 h1
    exact State.mmulPoison_beside (State.setReg_beside h1)
  · intro x1 h1
    exact State.runMmul_beside h1

theorem State.putBeats_beside {pre : State} {s : State} (fo : Beside pre s) {t : Nat} {c : Nat} {row : Nat} {bs : List Beat} : Beside pre (s.putBeats t c row bs) := by
  unfold State.putBeats
  exact State.schedWrites_beside fo

theorem State.poisonRows_beside {pre : State} {s : State} (fo : Beside pre s) {t : Nat} {c : Nat} {row : Nat} {n : Nat} : Beside pre (s.poisonRows t c row n) := by
  unfold State.poisonRows
  apply foldl_beside
  · intro x1 x2 h1
    exact State.poisonWords_beside h1
  · exact fo

theorem State.moutPoison_beside {pre : State} {s : State} (fo : Beside pre s) {i : Issue} : Beside pre (s.moutPoison i) := by
  unfold State.moutPoison
  extract_lets s1 s2
  exact Beside.ite (State.poisonRows_beside fo) (State.updTile_beside fo)

theorem State.moutAccept_beside {pre : State} {s : State} (fo : Beside pre s) {i : Issue} : Beside pre (s.moutAccept i) := by
  unfold State.moutAccept
  extract_lets s1 s2 s3 s4 s5 s6 s7 s8 s9 s10
  have h1 : Beside pre s10 := State.updTile_beside fo
  clear_value s10
  exact Beside.ite (State.updTile_beside h1) (State.putBeats_beside h1)

theorem State.runMout_beside {pre : State} {s : State} (fo : Beside pre s) {i : Issue} : Beside pre (State.runMout s i) := by
  unfold State.runMout
  extract_lets s1 s2 s3 s4 s5 s6 s7 s8 s9
  exact Beside.ite (State.mxOther_beside fo) (Beside.ite (State.moutPoison_beside (State.engRefuse_beside fo)) (Beside.ite (State.moutPoison_beside (State.engRefuse_beside fo)) (Beside.ite (State.moutPoison_beside (State.portRefuse_beside fo)) (State.moutAccept_beside (State.portClaim_beside fo)))))

theorem execMout_beside {pre : State} {i : Issue} {s : State} (fo : Beside pre s) : BesideO pre (execMout i s) := by
  unfold execMout
  apply State.issue_beside
  · exact fo
  · intro x1 h1
    exact State.moutPoison_beside (State.setReg_beside h1)
  · intro x1 h1
    exact State.runMout_beside h1

end Sys2Proof.Machine
end

