-- ==== Sys2Proof/Laws/Vector.lean ====
section
/-! SUPPORT. What the operations of Machine/Vector.lean keep: one lemma for each, by the lemmas of those that it calls. -/

namespace Sys2Proof.Machine

open Sys2Proof

theorem State.vxOther_follows {pre : State} {s : State} (fo : Follows pre s) {i : Issue} : Follows pre (State.vxOther s i) := by
  unfold State.vxOther
  extract_lets s1
  exact Follows.ite (State.engRefuse_follows fo) fo

theorem State.vRefuse_follows {pre : State} {s : State} (fo : Follows pre s) {i : Issue} {code : Nat} {f : Fld} {dst : List Nat} : Follows pre (s.vRefuse i code f dst) := by
  unfold State.vRefuse
  exact State.updTile_follows (State.engRefuse_follows fo)

theorem State.vIssue_follows {pre : State} {s : State} (fo : Follows pre s) {i : Issue} {bad : Bool} {src : List Nat} {dst : List Nat} {run : State → State} (forun : ∀ (a : State), Follows pre a → Follows pre (run a)) : Follows pre (s.vIssue i bad src dst run) := by
  unfold State.vIssue
  extract_lets s1 s2
  apply Follows.ite
  · exact State.vRefuse_follows fo
  · apply Follows.ite
    · exact State.vRefuse_follows fo
    · apply Follows.ite
      · exact State.vRefuse_follows fo
      · apply forun
        · exact fo

theorem State.vExec_follows {pre : State} {s : State} (fo : Follows pre s) {i : Issue} {opc : Nat} {bad : Bool} {src : List Nat} {dst : List Nat} {run : State → State} (hrun : ∀ {v1 : State}, Follows pre v1 → Follows pre (run v1)) : FollowsO pre (State.vExec s i opc bad src dst run) := by
  unfold State.vExec
  apply State.issue_follows
  · exact fo
  · intro x1 h1
    exact State.updTile_follows (State.setReg_follows h1)
  · intro x2 h2
    apply Follows.ite
    · exact State.vxOther_follows h2
    · apply State.vIssue_follows
      · exact h2
      · intro x3 h3
        exact hrun h3

theorem State.vLanes_follows {pre : State} {i : Issue} {src : List Nat} {lat : Nat} {f : Nat → Nat → Nat → Nat} {g : Nat → Nat → Nat → Nat} {s : State} (fo : Follows pre s) : Follows pre (State.vLanes i src lat f g s) := by
  unfold State.vLanes
  extract_lets s1
  exact State.updTile_follows fo

theorem State.vOp_follows {pre : State} {s : State} (fo : Follows pre s) {i : Issue} {opc : Nat} {lat : Nat} {n : Nat} {f : Nat → Nat → Nat → Nat} {g : Nat → Nat → Nat → Nat} : FollowsO pre (s.vOp i opc lat n f g) := by
  unfold State.vOp
  extract_lets s1 s2
  apply State.vExec_follows
  · exact fo
  · intro x1 h1
    exact State.vLanes_follows h1

theorem execVadd_follows {pre : State} {i : Issue} {s : State} (fo : Follows pre s) : FollowsO pre (execVadd i s) := by
  unfold execVadd
  exact State.vOp_follows fo

theorem execVsub_follows {pre : State} {i : Issue} {s : State} (fo : Follows pre s) : FollowsO pre (execVsub i s) := by
  unfold execVsub
  exact State.vOp_follows fo

theorem execVmul_follows {pre : State} {i : Issue} {s : State} (fo : Follows pre s) : FollowsO pre (execVmul i s) := by
  unfold execVmul
  exact State.vOp_follows fo

theorem execVfma_follows {pre : State} {i : Issue} {s : State} (fo : Follows pre s) : FollowsO pre (execVfma i s) := by
  unfold execVfma
  exact State.vOp_follows fo

theorem execVmax_follows {pre : State} {i : Issue} {s : State} (fo : Follows pre s) : FollowsO pre (execVmax i s) := by
  unfold execVmax
  exact State.vOp_follows fo

theorem execVmin_follows {pre : State} {i : Issue} {s : State} (fo : Follows pre s) : FollowsO pre (execVmin i s) := by
  unfold execVmin
  exact State.vOp_follows fo

theorem execVexp2_follows {pre : State} {i : Issue} {s : State} (fo : Follows pre s) : FollowsO pre (execVexp2 i s) := by
  unfold execVexp2
  exact State.vOp_follows fo

theorem execVrcp_follows {pre : State} {i : Issue} {s : State} (fo : Follows pre s) : FollowsO pre (execVrcp i s) := by
  unfold execVrcp
  exact State.vOp_follows fo

theorem execVrsq_follows {pre : State} {i : Issue} {s : State} (fo : Follows pre s) : FollowsO pre (execVrsq i s) := by
  unfold execVrsq
  exact State.vOp_follows fo

theorem execVlog2_follows {pre : State} {i : Issue} {s : State} (fo : Follows pre s) : FollowsO pre (execVlog2 i s) := by
  unfold execVlog2
  exact State.vOp_follows fo

theorem execVsel_follows {pre : State} {i : Issue} {s : State} (fo : Follows pre s) : FollowsO pre (execVsel i s) := by
  unfold execVsel
  exact State.vOp_follows fo

theorem execVred_follows {pre : State} {i : Issue} {s : State} (fo : Follows pre s) : FollowsO pre (execVred i s) := by
  unfold execVred
  extract_lets s1
  apply State.vExec_follows
  · exact fo
  · intro x1 h1
    exact State.updTile_follows h1

theorem execVbc_follows {pre : State} {i : Issue} {s : State} (fo : Follows pre s) : FollowsO pre (execVbc i s) := by
  unfold execVbc
  extract_lets s1 s2 s3
  apply State.vExec_follows
  · exact fo
  · intro x1 h1
    exact State.updTile_follows h1

theorem State.portFault_follows {pre : State} {s : State} (fo : Follows pre s) {i : Issue} : Follows pre (s.portFault i) := by
  unfold State.portFault
  exact State.tileFault_follows (State.setReg_follows fo)

theorem State.portTake_follows {pre : State} {s : State} (fo : Follows pre s) {i : Issue} : Follows pre (s.portTake i) := by
  unfold State.portTake
  exact State.updTile_follows fo

theorem execVld_follows {pre : State} {i : Issue} {s : State} (fo : Follows pre s) : FollowsO pre (execVld i s) := by
  unfold execVld
  extract_lets s1 s2 s3
  apply State.vExec_follows
  · exact fo
  · intro x1 h1
    apply Follows.ite
    · exact State.updTile_follows (State.portFault_follows h1)
    · extract_lets s4 s5 s6
      have h2 : Follows pre s4.fst := State.schedRead_follows (State.portTake_follows h1)
      clear_value s4
      exact State.updTile_follows (State.poisonSeen_follows h2)

theorem State.storeQuarter_follows {pre : State} {s : State} (fo : Follows pre s) {i : Issue} {bad : Bool} {trb : Bool} : Follows pre (State.storeQuarter s i bad trb) := by
  unfold State.storeQuarter
  extract_lets s1 s2 s3 s4 s5
  exact State.schedWrite_follows fo

theorem execVst_follows {pre : State} {i : Issue} {s : State} (fo : Follows pre s) : FollowsO pre (execVst i s) := by
  unfold execVst
  extract_lets s1 s2 s3
  have h1 : ∀ {v1 : State}, Follows pre v1 → Follows pre (s3 v1) := by
    intro x1 h2
    unfold s3
    exact State.poisonWords_follows h2
  clear_value s3
  apply State.issue_follows
  · exact fo
  · intro x2 h3
    exact h1 (State.setReg_follows h3)
  · intro x3 h4
    extract_lets s4
    exact Follows.ite (State.vxOther_follows h4) (Follows.ite (h1 (State.engRefuse_follows h4)) (Follows.ite (h1 (State.engRefuse_follows h4)) (Follows.ite (h1 (State.engRefuse_follows h4)) (Follows.ite (h1 (State.portFault_follows h4)) (State.storeQuarter_follows (State.portTake_follows h4))))))

theorem execVcvt_follows {pre : State} {i : Issue} {s : State} (fo : Follows pre s) : FollowsO pre (execVcvt i s) := by
  unfold execVcvt
  extract_lets s1
  apply State.vExec_follows
  · exact fo
  · intro x1 h1
    exact State.updTile_follows h1

theorem State.vTrouble_follows {pre : State} {s : State} (fo : Follows pre s) {i : Issue} {unit : Nat} {bl : List QBlock} : Follows pre (s.vTrouble i unit bl) := by
  unfold State.vTrouble
  extract_lets s1 s2 s3 s4 s5
  have h1 : ∀ (s : State) (code : Nat), Follows pre s → Follows pre (s4 s code) := by
    intro x1 x2 h1
    unfold s4
    exact State.reportRec_follows (State.tileRecord_follows h1)
  clear_value s4
  have h2 : Follows pre s5 := by
    unfold s5
    apply Follows.ite
    · exact fo
    · apply h1
      · exact State.addReg_follows (State.setReg_follows fo)
  clear_value s5
  apply Follows.ite
  · exact h2
  · apply h1
    · exact State.addReg_follows (State.setReg_follows h2)

theorem State.vqntPoison_follows {pre : State} {s : State} (fo : Follows pre s) {i : Issue} : Follows pre (s.vqntPoison i) := by
  unfold State.vqntPoison
  extract_lets s1 s2 s3 s4 s5
  have h1 : Follows pre s4 := State.poisonWords_follows fo
  clear_value s4
  have h2 : Follows pre s5 := State.poisonWords_follows h1
  clear_value s5
  exact State.poisonWords_follows (State.poisonWords_follows h2)

theorem State.vqntAccept_follows {pre : State} {s : State} (fo : Follows pre s) {i : Issue} : Follows pre (State.vqntAccept s i) := by
  unfold State.vqntAccept
  extract_lets s1 s2 s3 s4 s5 s6 s7 s8 s9 s10 s11 s12 s13 s14 s15 s16 s17 s18 s19
  have h1 : Follows pre s10.fst := State.quant_follows fo
  clear_value s10
  have h2 : Follows pre s15 := State.schedWrite_follows h1
  clear_value s15
  have h3 : Follows pre s17 := Follows.ite (State.writeTag_follows (State.byteWrite_follows h2)) (State.boundsFault_follows h2)
  clear_value s17
  have h4 : Follows pre s18 := State.schedWrites_follows h3
  clear_value s18
  have h5 : Follows pre s19 := State.updTile_follows (State.vTrouble_follows h4)
  clear_value s19
  exact Follows.ite (State.updTile_follows h5) h5

theorem State.runVqnt_follows {pre : State} {s : State} (fo : Follows pre s) {i : Issue} : Follows pre (State.runVqnt s i) := by
  unfold State.runVqnt
  extract_lets s1 s2 s3 s4 s5 s6
  exact Follows.ite (State.vxOther_follows fo) (Follows.ite (State.vqntPoison_follows (State.engRefuse_follows fo)) (Follows.ite (State.vqntPoison_follows (State.engRefuse_follows fo)) (Follows.ite (State.vqntPoison_follows (State.engRefuse_follows fo)) (Follows.ite (State.vqntPoison_follows (State.portRefuse_follows fo)) (State.vqntAccept_follows (State.portClaim_follows fo))))))

theorem execVqnt_follows {pre : State} {i : Issue} {s : State} (fo : Follows pre s) : FollowsO pre (execVqnt i s) := by
  unfold execVqnt
  apply State.issue_follows
  · exact fo
  · intro x1 h1
    exact State.vqntPoison_follows (State.setReg_follows h1)
  · intro x1 h1
    exact State.runVqnt_follows h1

theorem execVrot_follows {pre : State} {i : Issue} {s : State} (fo : Follows pre s) : FollowsO pre (execVrot i s) := by
  unfold execVrot
  extract_lets s1 s2 s3
  apply State.vExec_follows
  · exact fo
  · intro x1 h1
    exact State.updTile_follows h1

/-! ### Operations that leave memory alone -/

theorem State.vxOther_memSame {pre : State} {s : State} (fo : MemSame pre s) {i : Issue} : MemSame pre (State.vxOther s i) := by
  unfold State.vxOther
  extract_lets s1
  exact MemSame.ite (State.engRefuse_memSame fo) fo

theorem State.vRefuse_memSame {pre : State} {s : State} (fo : MemSame pre s) {i : Issue} {code : Nat} {f : Fld} {dst : List Nat} : MemSame pre (s.vRefuse i code f dst) := by
  unfold State.vRefuse
  exact State.updTile_memSame (State.engRefuse_memSame fo)

theorem State.vIssue_memSame {pre : State} {s : State} (fo : MemSame pre s) {i : Issue} {bad : Bool} {src : List Nat} {dst : List Nat} {run : State → State} (forun : ∀ (a : State), MemSame pre a → MemSame pre (run a)) : MemSame pre (s.vIssue i bad src dst run) := by
  unfold State.vIssue
  extract_lets s1 s2
  apply MemSame.ite
  · exact State.vRefuse_memSame fo
  · apply MemSame.ite
    · exact State.vRefuse_memSame fo
    · apply MemSame.ite
      · exact State.vRefuse_memSame fo
      · apply forun
        · exact fo

theorem State.vExec_memSame {pre : State} {s : State} (fo : MemSame pre s) {i : Issue} {opc : Nat} {bad : Bool} {src : List Nat} {dst : List Nat} {run : State → State} (hrun : ∀ {v1 : State}, MemSame pre v1 → MemSame pre (run v1)) : MemSameO pre (State.vExec s i opc bad src dst run) := by
  unfold State.vExec
  apply State.issue_memSame
  · exact fo
  · intro x1 h1
    exact State.updTile_memSame (State.setReg_memSame h1)
  · intro x2 h2
    apply MemSame.ite
    · exact State.vxOther_memSame h2
    · apply State.vIssue_memSame
      · exact h2
      · intro x3 h3
        exact hrun h3

theorem State.vLanes_memSame {pre : State} {i : Issue} {src : List Nat} {lat : Nat} {f : Nat → Nat → Nat → Nat} {g : Nat → Nat → Nat → Nat} {s : State} (fo : MemSame pre s) : MemSame pre (State.vLanes i src lat f g s) := by
  unfold State.vLanes
  extract_lets s1
  exact State.updTile_memSame fo

theorem State.vOp_memSame {pre : State} {s : State} (fo : MemSame pre s) {i : Issue} {opc : Nat} {lat : Nat} {n : Nat} {f : Nat → Nat → Nat → Nat} {g : Nat → Nat → Nat → Nat} : MemSameO pre (s.vOp i opc lat n f g) := by
  unfold State.vOp
  extract_lets s1 s2
  apply State.vExec_memSame
  · exact fo
  · intro x1 h1
    exact State.vLanes_memSame h1

theorem execVadd_memSame {pre : State} {i : Issue} {s : State} (fo : MemSame pre s) : MemSameO pre (execVadd i s) := by
  unfold execVadd
  exact State.vOp_memSame fo

theorem execVsub_memSame {pre : State} {i : Issue} {s : State} (fo : MemSame pre s) : MemSameO pre (execVsub i s) := by
  unfold execVsub
  exact State.vOp_memSame fo

theorem execVmul_memSame {pre : State} {i : Issue} {s : State} (fo : MemSame pre s) : MemSameO pre (execVmul i s) := by
  unfold execVmul
  exact State.vOp_memSame fo

theorem execVfma_memSame {pre : State} {i : Issue} {s : State} (fo : MemSame pre s) : MemSameO pre (execVfma i s) := by
  unfold execVfma
  exact State.vOp_memSame fo

theorem execVmax_memSame {pre : State} {i : Issue} {s : State} (fo : MemSame pre s) : MemSameO pre (execVmax i s) := by
  unfold execVmax
  exact State.vOp_memSame fo

theorem execVmin_memSame {pre : State} {i : Issue} {s : State} (fo : MemSame pre s) : MemSameO pre (execVmin i s) := by
  unfold execVmin
  exact State.vOp_memSame fo

theorem execVexp2_memSame {pre : State} {i : Issue} {s : State} (fo : MemSame pre s) : MemSameO pre (execVexp2 i s) := by
  unfold execVexp2
  exact State.vOp_memSame fo

theorem execVrcp_memSame {pre : State} {i : Issue} {s : State} (fo : MemSame pre s) : MemSameO pre (execVrcp i s) := by
  unfold execVrcp
  exact State.vOp_memSame fo

theorem execVrsq_memSame {pre : State} {i : Issue} {s : State} (fo : MemSame pre s) : MemSameO pre (execVrsq i s) := by
  unfold execVrsq
  exact State.vOp_memSame fo

theorem execVlog2_memSame {pre : State} {i : Issue} {s : State} (fo : MemSame pre s) : MemSameO pre (execVlog2 i s) := by
  unfold execVlog2
  exact State.vOp_memSame fo

theorem execVsel_memSame {pre : State} {i : Issue} {s : State} (fo : MemSame pre s) : MemSameO pre (execVsel i s) := by
  unfold execVsel
  exact State.vOp_memSame fo

theorem execVred_memSame {pre : State} {i : Issue} {s : State} (fo : MemSame pre s) : MemSameO pre (execVred i s) := by
  unfold execVred
  extract_lets s1
  apply State.vExec_memSame
  · exact fo
  · intro x1 h1
    exact State.updTile_memSame h1

theorem execVbc_memSame {pre : State} {i : Issue} {s : State} (fo : MemSame pre s) : MemSameO pre (execVbc i s) := by
  unfold execVbc
  extract_lets s1 s2 s3
  apply State.vExec_memSame
  · exact fo
  · intro x1 h1
    exact State.updTile_memSame h1

theorem State.portFault_memSame {pre : State} {s : State} (fo : MemSame pre s) {i : Issue} : MemSame pre (s.portFault i) := by
  unfold State.portFault
  exact State.tileFault_memSame (State.setReg_memSame fo)

theorem State.portTake_memSame {pre : State} {s : State} (fo : MemSame pre s) {i : Issue} : MemSame pre (s.portTake i) := by
  unfold State.portTake
  exact State.updTile_memSame fo

theorem execVld_memSame {pre : State} {i : Issue} {s : State} (fo : MemSame pre s) : MemSameO pre (execVld i s) := by
  unfold execVld
  extract_lets s1 s2 s3
  apply State.vExec_memSame
  · exact fo
  · intro x1 h1
    apply MemSame.ite
    · exact State.updTile_memSame (State.portFault_memSame h1)
    · extract_lets s4 s5 s6
      have h2 : MemSame pre s4.fst := State.schedRead_memSame (State.portTake_memSame h1)
      clear_value s4
      exact State.updTile_memSame (State.poisonSeen_memSame h2)

theorem execVcvt_memSame {pre : State} {i : Issue} {s : State} (fo : MemSame pre s) : MemSameO pre (execVcvt i s) := by
  unfold execVcvt
  extract_lets s1
  apply State.vExec_memSame
  · exact fo
  · intro x1 h1
    exact State.updTile_memSame h1

theorem State.vTrouble_memSame {pre : State} {s : State} (fo : MemSame pre s) {i : Issue} {unit : Nat} {bl : List QBlock} : MemSame pre (s.vTrouble i unit bl) := by
  unfold State.vTrouble
  extract_lets s1 s2 s3 s4 s5
  have h1 : ∀ (s : State) (code : Nat), MemSame pre s → MemSame pre (s4 s code) := by
    intro x1 x2 h1
    unfold s4
    exact State.reportRec_memSame (State.tileRecord_memSame h1)
  clear_value s4
  have h2 : MemSame pre s5 := by
    unfold s5
    apply MemSame.ite
    · exact fo
    · apply h1
      · exact State.addReg_memSame (State.setReg_memSame fo)
  clear_value s5
  apply MemSame.ite
  · exact h2
  · apply h1
    · exact State.addReg_memSame (State.setReg_memSame h2)

theorem State.vqntPoison_memSame {pre : State} {s : State} (fo : MemSame pre s) {i : Issue} : MemSame pre (s.vqntPoison i) := by
  unfold State.vqntPoison
  extract_lets s1 s2 s3 s4 s5
  have h1 : MemSame pre s4 := State.poisonWords_memSame fo
  clear_value s4
  have h2 : MemSame pre s5 := State.poisonWords_memSame h1
  clear_value s5
  exact State.poisonWords_memSame (State.poisonWords_memSame h2)

theorem execVrot_memSame {pre : State} {i : Issue} {s : State} (fo : MemSame pre s) : MemSameO pre (execVrot i s) := by
  unfold execVrot
  extract_lets s1 s2 s3
  apply State.vExec_memSame
  · exact fo
  · intro x1 h1
    exact State.updTile_memSame h1

/-! ### Operations that leave alone what lies beside the tiles -/

theorem State.vxOther_beside {pre : State} {s : State} (fo : Beside pre s) {i : Issue} : Beside pre (State.vxOther s i) := by
  unfold State.vxOther
  extract_lets s1
  exact Beside.ite (State.engRefuse_beside fo) fo

theorem State.vRefuse_beside {pre : State} {s : State} (fo : Beside pre s) {i : Issue} {code : Nat} {f : Fld} {dst : List Nat} : Beside pre (s.vRefuse i code f dst) := by
  unfold State.vRefuse
  exact State.updTile_beside (State.engRefuse_beside fo)

theorem State.vIssue_beside {pre : State} {s : State} (fo : Beside pre s) {i : Issue} {bad : Bool} {src : List Nat} {dst : List Nat} {run : State → State} (forun : ∀ (a : State), Beside pre a → Beside pre (run a)) : Beside pre (s.vIssue i bad src dst run) := by
  unfold State.vIssue
  extract_lets s1 s2
  apply Beside.ite
  · exact State.vRefuse_beside fo
  · apply Beside.ite
    · exact State.vRefuse_beside fo
    · apply Beside.ite
      · exact State.vRefuse_beside fo
      · apply forun
        · exact fo

theorem State.vExec_beside {pre : State} {s : State} (fo : Beside pre s) {i : Issue} {opc : Nat} {bad : Bool} {src : List Nat} {dst : List Nat} {run : State → State} (hrun : ∀ {v1 : State}, Beside pre v1 → Beside pre (run v1)) : BesideO pre (State.vExec s i opc bad src dst run) := by
  unfold State.vExec
  apply State.issue_beside
  · exact fo
  · intro x1 h1
    exact State.updTile_beside (State.setReg_beside h1)
  · intro x2 h2
    apply Beside.ite
    · exact State.vxOther_beside h2
    · apply State.vIssue_beside
      · exact h2
      · intro x3 h3
        exact hrun h3

theorem State.vLanes_beside {pre : State} {i : Issue} {src : List Nat} {lat : Nat} {f : Nat → Nat → Nat → Nat} {g : Nat → Nat → Nat → Nat} {s : State} (fo : Beside pre s) : Beside pre (State.vLanes i src lat f g s) := by
  unfold State.vLanes
  extract_lets s1
  exact State.updTile_beside fo

theorem State.vOp_beside {pre : State} {s : State} (fo : Beside pre s) {i : Issue} {opc : Nat} {lat : Nat} {n : Nat} {f : Nat → Nat → Nat → Nat} {g : Nat → Nat → Nat → Nat} : BesideO pre (s.vOp i opc lat n f g) := by
  unfold State.vOp
  extract_lets s1 s2
  apply State.vExec_beside
  · exact fo
  · intro x1 h1
    exact State.vLanes_beside h1

theorem execVadd_beside {pre : State} {i : Issue} {s : State} (fo : Beside pre s) : BesideO pre (execVadd i s) := by
  unfold execVadd
  exact State.vOp_beside fo

theorem execVsub_beside {pre : State} {i : Issue} {s : State} (fo : Beside pre s) : BesideO pre (execVsub i s) := by
  unfold execVsub
  exact State.vOp_beside fo

theorem execVmul_beside {pre : State} {i : Issue} {s : State} (fo : Beside pre s) : BesideO pre (execVmul i s) := by
  unfold execVmul
  exact State.vOp_beside fo

theorem execVfma_beside {pre : State} {i : Issue} {s : State} (fo : Beside pre s) : BesideO pre (execVfma i s) := by
  unfold execVfma
  exact State.vOp_beside fo

theorem execVmax_beside {pre : State} {i : Issue} {s : State} (fo : Beside pre s) : BesideO pre (execVmax i s) := by
  unfold execVmax
  exact State.vOp_beside fo

theorem execVmin_beside {pre : State} {i : Issue} {s : State} (fo : Beside pre s) : BesideO pre (execVmin i s) := by
  unfold execVmin
  exact State.vOp_beside fo

theorem execVexp2_beside {pre : State} {i : Issue} {s : State} (fo : Beside pre s) : BesideO pre (execVexp2 i s) := by
  unfold execVexp2
  exact State.vOp_beside fo

theorem execVrcp_beside {pre : State} {i : Issue} {s : State} (fo : Beside pre s) : BesideO pre (execVrcp i s) := by
  unfold execVrcp
  exact State.vOp_beside fo

theorem execVrsq_beside {pre : State} {i : Issue} {s : State} (fo : Beside pre s) : BesideO pre (execVrsq i s) := by
  unfold execVrsq
  exact State.vOp_beside fo

theorem execVlog2_beside {pre : State} {i : Issue} {s : State} (fo : Beside pre s) : BesideO pre (execVlog2 i s) := by
  unfold execVlog2
  exact State.vOp_beside fo

theorem execVsel_beside {pre : State} {i : Issue} {s : State} (fo : Beside pre s) : BesideO pre (execVsel i s) := by
  unfold execVsel
  exact State.vOp_beside fo

theorem execVred_beside {pre : State} {i : Issue} {s : State} (fo : Beside pre s) : BesideO pre (execVred i s) := by
  unfold execVred
  extract_lets s1
  apply State.vExec_beside
  · exact fo
  · intro x1 h1
    exact State.updTile_beside h1

theorem execVbc_beside {pre : State} {i : Issue} {s : State} (fo : Beside pre s) : BesideO pre (execVbc i s) := by
  unfold execVbc
  extract_lets s1 s2 s3
  apply State.vExec_beside
  · exact fo
  · intro x1 h1
    exact State.updTile_beside h1

theorem State.portFault_beside {pre : State} {s : State} (fo : Beside pre s) {i : Issue} : Beside pre (s.portFault i) := by
  unfold State.portFault
  exact State.tileFault_beside (State.setReg_beside fo)

theorem State.portTake_beside {pre : State} {s : State} (fo : Beside pre s) {i : Issue} : Beside pre (s.portTake i) := by
  unfold State.portTake
  exact State.updTile_beside fo

theorem execVld_beside {pre : State} {i : Issue} {s : State} (fo : Beside pre s) : BesideO pre (execVld i s) := by
  unfold execVld
  extract_lets s1 s2 s3
  apply State.vExec_beside
  · exact fo
  · intro x1 h1
    apply Beside.ite
    · exact State.updTile_beside (State.portFault_beside h1)
    · extract_lets s4 s5 s6
      have h2 : Beside pre s4.fst := State.schedRead_beside (State.portTake_beside h1)
      clear_value s4
      exact State.updTile_beside (State.poisonSeen_beside h2)

theorem State.storeQuarter_beside {pre : State} {s : State} (fo : Beside pre s) {i : Issue} {bad : Bool} {trb : Bool} : Beside pre (State.storeQuarter s i bad trb) := by
  unfold State.storeQuarter
  extract_lets s1 s2 s3 s4 s5
  exact State.schedWrite_beside fo

theorem execVst_beside {pre : State} {i : Issue} {s : State} (fo : Beside pre s) : BesideO pre (execVst i s) := by
  unfold execVst
  extract_lets s1 s2 s3
  have h1 : ∀ {v1 : State}, Beside pre v1 → Beside pre (s3 v1) := by
    intro x1 h2
    unfold s3
    exact State.poisonWords_beside h2
  clear_value s3
  apply State.issue_beside
  · exact fo
  · intro x2 h3
    exact h1 (State.setReg_beside h3)
  · intro x3 h4
    extract_lets s4
    exact Beside.ite (State.vxOther_beside h4) (Beside.ite (h1 (State.engRefuse_beside h4)) (Beside.ite (h1 (State.engRefuse_beside h4)) (Beside.ite (h1 (State.engRefuse_beside h4)) (Beside.ite (h1 (State.portFault_beside h4)) (State.storeQuarter_beside (State.portTake_beside h4))))))

theorem execVcvt_beside {pre : State} {i : Issue} {s : State} (fo : Beside pre s) : BesideO pre (execVcvt i s) := by
  unfold execVcvt
  extract_lets s1
  apply State.vExec_beside
  · exact fo
  · intro x1 h1
    exact State.updTile_beside h1

theorem State.vTrouble_beside {pre : State} {s : State} (fo : Beside pre s) {i : Issue} {unit : Nat} {bl : List QBlock} : Beside pre (s.vTrouble i unit bl) := by
  unfold State.vTrouble
  extract_lets s1 s2 s3 s4 s5
  have h1 : ∀ (s : State) (code : Nat), Beside pre s → Beside pre (s4 s code) := by
    intro x1 x2 h1
    unfold s4
    exact State.reportRec_beside (State.tileRecord_beside h1)
  clear_value s4
  have h2 : Beside pre s5 := by
    unfold s5
    apply Beside.ite
    · exact fo
    · apply h1
      · exact State.addReg_beside (State.setReg_beside fo)
  clear_value s5
  apply Beside.ite
  · exact h2
  · apply h1
    · exact State.addReg_beside (State.setReg_beside h2)

theorem State.vqntPoison_beside {pre : State} {s : State} (fo : Beside pre s) {i : Issue} : Beside pre (s.vqntPoison i) := by
  unfold State.vqntPoison
  extract_lets s1 s2 s3 s4 s5
  have h1 : Beside pre s4 := State.poisonWords_beside fo
  clear_value s4
  have h2 : Beside pre s5 := State.poisonWords_beside h1
  clear_value s5
  exact State.poisonWords_beside (State.poisonWords_beside h2)

theorem State.vqntAccept_beside {pre : State} {s : State} (fo : Beside pre s) {i : Issue} : Beside pre (State.vqntAccept s i) := by
  unfold State.vqntAccept
  extract_lets s1 s2 s3 s4 s5 s6 s7 s8 s9 s10 s11 s12 s13 s14 s15 s16 s17 s18 s19
  have h1 : Beside pre s10.fst := State.quant_beside fo
  clear_value s10
  have h2 : Beside pre s15 := State.schedWrite_beside h1
  clear_value s15
  have h3 : Beside pre s17 := Beside.ite (State.writeTag_beside (State.byteWrite_beside h2)) (State.boundsFault_beside h2)
  clear_value s17
  have h4 : Beside pre s18 := State.schedWrites_beside h3
  clear_value s18
  have h5 : Beside pre s19 := State.updTile_beside (State.vTrouble_beside h4)
  clear_value s19
  exact Beside.ite (State.updTile_beside h5) h5

theorem State.runVqnt_beside {pre : State} {s : State} (fo : Beside pre s) {i : Issue} : Beside pre (State.runVqnt s i) := by
  unfold State.runVqnt
  extract_lets s1 s2 s3 s4 s5 s6
  exact Beside.ite (State.vxOther_beside fo) (Beside.ite (State.vqntPoison_beside (State.engRefuse_beside fo)) (Beside.ite (State.vqntPoison_beside (State.engRefuse_beside fo)) (Beside.ite (State.vqntPoison_beside (State.engRefuse_beside fo)) (Beside.ite (State.vqntPoison_beside (State.portRefuse_beside fo)) (State.vqntAccept_beside (State.portClaim_beside fo))))))

theorem execVqnt_beside {pre : State} {i : Issue} {s : State} (fo : Beside pre s) : BesideO pre (execVqnt i s) := by
  unfold execVqnt
  apply State.issue_beside
  · exact fo
  · intro x1 h1
    exact State.vqntPoison_beside (State.setReg_beside h1)
  · intro x1 h1
    exact State.runVqnt_beside h1

theorem execVrot_beside {pre : State} {i : Issue} {s : State} (fo : Beside pre s) : BesideO pre (execVrot i s) := by
  unfold execVrot
  extract_lets s1 s2 s3
  apply State.vExec_beside
  · exact fo
  · intro x1 h1
    exact State.updTile_beside h1

end Sys2Proof.Machine
end

