-- ==== Sys2Proof/Laws/Attend.lean ====
section
/-! SUPPORT. What the operations of Machine/Attend.lean keep: one lemma for each, by the lemmas of those that it calls. -/

namespace Sys2Proof.Machine

open Sys2Proof

theorem State.pageRefused_follows {pre : State} {s : State} (fo : Follows pre s) {t : Nat} {cycle : Nat} {r : Nat} {k : Nat} : Follows pre (State.pageRefused s t cycle r k) := by
  unfold State.pageRefused
  exact State.tileFault_follows (State.setReg_follows fo)

theorem State.writeSlot_follows {pre : State} {s : State} (fo : Follows pre s) {t : Nat} {c : Nat} {n : Nat} {sl : Nat} {d : Nat} {qs : List Int} {e : Nat} {bad : Bool} {trb : Bool} : Follows pre (State.writeSlot s t c n sl d qs e bad trb) := by
  unfold State.writeSlot
  extract_lets s1 s2 s3 s4 s5 s6
  have h1 : Follows pre s6 := State.storeWords_follows fo
  clear_value s6
  exact State.byteWrite_follows h1

theorem State.readA8_follows {pre : State} {s : State} (fo : Follows pre s) {t : Nat} {c : Nat} {row : Nat} {nvec : Nat} {d : Nat} : Follows pre (s.readA8 t c row nvec d).fst := by
  unfold State.readA8
  extract_lets s1 s2 s3
  have h1 : Follows pre s2.fst := State.schedReads_follows fo
  clear_value s2
  have h2 : Follows pre s3.fst := State.schedReads_follows h1
  clear_value s3
  exact h2

theorem State.writeEntry_follows {pre : State} {s : State} (fo : Follows pre s) {t : Nat} {c : Nat} {a : AttDesc} {freq : Nat → Nat} {src : A8Src} {ta : Taint} {pl : PageList} {tok : Tok} {k : Nat} {h : Nat} {v : Nat} : Follows pre (State.writeEntry s t c a freq src ta pl tok k h v) := by
  unfold State.writeEntry
  extract_lets s1 s2 s3 s4 s5
  split
  · exact fo
  · exact Follows.ite (State.writeSlot_follows fo) fo

theorem State.writeToken_follows {pre : State} {s : State} (fo : Follows pre s) {t : Nat} {c : Nat} {e : Nat} {req : Nat} {a : AttDesc} {freq : Nat → Nat} {src : A8Src} {ta : Taint} {pl : PageList} {tok : Tok} {k : Nat} : Follows pre (State.writeToken s t c e req a freq src ta pl tok k) := by
  unfold State.writeToken
  apply Follows.ite
  · exact fo
  · apply Follows.ite
    · exact fo
    · apply Follows.ite
      · exact Follows.ite (State.tileFault_follows (State.setReg_follows fo)) fo
      · apply foldl_follows
        · intro x1 x2 h1
          apply foldl_follows
          · intro x3 x4 h2
            exact State.writeEntry_follows h2
          · exact h1
        · exact fo

theorem State.readPages_follows {pre : State} {s : State} (fo : Follows pre s) {t : Nat} {c : Nat} {a : AttDesc} {ns : List Nat} : Follows pre (State.readPages s t c a ns) := by
  unfold State.readPages
  apply foldl_follows
  · intro x1 x2 h1
    apply foldl_follows
    · intro x3 x4 h2
      exact State.readRow_follows h2
    · exact h1
  · exact fo

theorem State.clobberStores_follows {pre : State} {s : State} (fo : Follows pre s) {t : Nat} : Follows pre (s.clobberStores t) := by
  unfold State.clobberStores
  extract_lets s1 s2 s3 s4 s5
  apply State.updTile_follows
  exact fo.same (Eq.refl _) fo.mem (Eq.refl _) (Eq.refl _) (Eq.refl _) (Eq.refl _)

theorem State.streamOut_follows {pre : State} {s : State} (fo : Follows pre s) {t : Nat} {first : Nat} {bs : List Beat} : Follows pre (State.streamOut s t first bs) := by
  unfold State.streamOut
  exact State.updTile_follows fo

theorem State.attPoison_follows {pre : State} {s : State} (fo : Follows pre s) {i : Issue} : Follows pre (State.attPoison s i) := by
  unfold State.attPoison
  extract_lets s1 s2
  exact Follows.ite (State.poisonRows_follows fo) (State.streamOut_follows fo)

theorem State.attRefuse_follows {pre : State} {s : State} (fo : Follows pre s) {i : Issue} : Follows pre (State.attRefuse s i) := by
  unfold State.attRefuse
  exact State.attPoison_follows (State.engRefuse_follows fo)

theorem State.descBytes_follows {pre : State} {s : State} (fo : Follows pre s) {i : Issue} : Follows pre (s.descBytes i).fst := by
  unfold State.descBytes
  extract_lets s1 s2 s3
  have h1 : Follows pre s2.fst := State.schedRead_follows fo
  clear_value s2
  exact h1

theorem State.attToks_follows {pre : State} {s : State} (fo : Follows pre s) {i : Issue} {a : AttDesc} {r : SlotRec} : Follows pre (s.attToks i a r).fst := by
  unfold State.attToks
  extract_lets s1 s2 s3 s4 s5
  have h1 : Follows pre s3.fst := State.schedRead_follows fo
  clear_value s3
  have h2 : Follows pre s4.fst := State.schedRead_follows h1
  clear_value s4
  split
  · exact fo
  · exact h2

theorem State.attLists_follows {pre : State} {t : Nat} {c : Nat} {plRow : Nat} {l : List Nat} : ∀ {s : State}, Follows pre s → Follows pre (s.attLists t c plRow l).1 := by
  induction l with
  | nil => intro s h; exact h
  | cons k r ih => intro s h; exact ih (State.schedRead_follows h)

theorem State.runAttendDesc_follows {pre : State} {s : State} (fo : Follows pre s) {i : Issue} {a : AttDesc} {dta : Taint} : Follows pre (State.runAttendDesc s i a dta) := by
  unfold State.runAttendDesc
  extract_lets s1 s2 s3 s4 s5 s6 s7 s8 s9 s10 s11 s12 s13 s14 s15 s16 s17 s18 s19 s20 s21 s22 s23 s24
  have h1 : Follows pre s4.fst := State.schedRead_follows fo
  clear_value s4
  have h2 : Follows pre s6.fst := State.attToks_follows h1
  clear_value s6
  have h3 : Follows pre s8.fst := State.attLists_follows h2
  clear_value s8
  have h4 : Follows pre s10 := h3
  clear_value s10
  have h5 : Follows pre s11 := by
    unfold s11
    apply foldl_follows
    · intro x1 x2 h6
      apply foldl_follows
      · intro x3 x4 h7
        exact State.pageRefused_follows h7
      · exact h6
    · exact h4
  clear_value s11
  have h8 : Follows pre s12.fst := by
    unfold s12
    split
    · exact State.schedReads_follows h5
    · exact h5
  clear_value s12
  have h9 : Follows pre s15.fst := State.readA8_follows h8
  clear_value s15
  have h10 : Follows pre s16.fst := State.readA8_follows h9
  clear_value s16
  have h11 : Follows pre s18 := by
    unfold s18
    apply foldl_follows
    · intro x5 x6 h12
      exact State.writeToken_follows h12
    · exact h10
  clear_value s18
  have h13 : Follows pre s19 := State.readPages_follows h11
  clear_value s19
  have h14 : Follows pre s23 := State.clobberStores_follows (Follows.ite (State.reportFault_follows h13) h13)
  clear_value s23
  have h15 : Follows pre s24 := State.updTile_follows h14
  clear_value s24
  exact Follows.ite (State.putBeats_follows h15) (State.streamOut_follows h15)

theorem State.runAttend_follows {pre : State} {s : State} (fo : Follows pre s) {i : Issue} : Follows pre (State.runAttend s i) := by
  unfold State.runAttend
  extract_lets s1 s2 s3 s4 s5
  have h1 : Follows pre s4.fst := State.descBytes_follows (State.portClaim_follows fo)
  clear_value s4
  exact Follows.ite (State.vxOther_follows fo) (Follows.ite (State.attRefuse_follows fo) (Follows.ite (State.attPoison_follows (State.portRefuse_follows fo)) (Follows.ite (State.attRefuse_follows h1) (State.runAttendDesc_follows h1))))

theorem execAttend_follows {pre : State} {i : Issue} {s : State} (fo : Follows pre s) : FollowsO pre (execAttend i s) := by
  unfold execAttend
  apply State.issue_follows
  · exact fo
  · intro x1 h1
    exact State.attPoison_follows (State.setReg_follows h1)
  · intro x2 h2
    exact State.runAttend_follows h2

/-! ### Operations that leave memory alone -/

theorem State.pageRefused_memSame {pre : State} {s : State} (fo : MemSame pre s) {t : Nat} {cycle : Nat} {r : Nat} {k : Nat} : MemSame pre (State.pageRefused s t cycle r k) := by
  unfold State.pageRefused
  exact State.tileFault_memSame (State.setReg_memSame fo)

theorem State.readA8_memSame {pre : State} {s : State} (fo : MemSame pre s) {t : Nat} {c : Nat} {row : Nat} {nvec : Nat} {d : Nat} : MemSame pre (s.readA8 t c row nvec d).fst := by
  unfold State.readA8
  extract_lets s1 s2 s3
  have h1 : MemSame pre s2.fst := State.schedReads_memSame fo
  clear_value s2
  have h2 : MemSame pre s3.fst := State.schedReads_memSame h1
  clear_value s3
  exact h2

theorem State.clobberStores_memSame {pre : State} {s : State} (fo : MemSame pre s) {t : Nat} : MemSame pre (s.clobberStores t) := by
  unfold State.clobberStores
  extract_lets s1 s2 s3 s4 s5
  apply State.updTile_memSame
  exact fo.same (Eq.refl _)

theorem State.descBytes_memSame {pre : State} {s : State} (fo : MemSame pre s) {i : Issue} : MemSame pre (s.descBytes i).fst := by
  unfold State.descBytes
  extract_lets s1 s2 s3
  have h1 : MemSame pre s2.fst := State.schedRead_memSame fo
  clear_value s2
  exact h1

theorem State.attToks_memSame {pre : State} {s : State} (fo : MemSame pre s) {i : Issue} {a : AttDesc} {r : SlotRec} : MemSame pre (s.attToks i a r).fst := by
  unfold State.attToks
  extract_lets s1 s2 s3 s4 s5
  have h1 : MemSame pre s3.fst := State.schedRead_memSame fo
  clear_value s3
  have h2 : MemSame pre s4.fst := State.schedRead_memSame h1
  clear_value s4
  split
  · exact fo
  · exact h2

theorem State.attLists_memSame {pre : State} {t : Nat} {c : Nat} {plRow : Nat} {l : List Nat} : ∀ {s : State}, MemSame pre s → MemSame pre (s.attLists t c plRow l).1 := by
  induction l with
  | nil => intro s h; exact h
  | cons k r ih => intro s h; exact ih (State.schedRead_memSame h)

/-! ### Operations that leave alone what lies beside the tiles -/

theorem State.pageRefused_beside {pre : State} {s : State} (fo : Beside pre s) {t : Nat} {cycle : Nat} {r : Nat} {k : Nat} : Beside pre (State.pageRefused s t cycle r k) := by
  unfold State.pageRefused
  exact State.tileFault_beside (State.setReg_beside fo)

theorem State.writeSlot_beside {pre : State} {s : State} (fo : Beside pre s) {t : Nat} {c : Nat} {n : Nat} {sl : Nat} {d : Nat} {qs : List Int} {e : Nat} {bad : Bool} {trb : Bool} : Beside pre (State.writeSlot s t c n sl d qs e bad trb) := by
  unfold State.writeSlot
  extract_lets s1 s2 s3 s4 s5 s6
  have h1 : Beside pre s6 := State.storeWords_beside fo
  clear_value s6
  exact State.byteWrite_beside h1

theorem State.readA8_beside {pre : State} {s : State} (fo : Beside pre s) {t : Nat} {c : Nat} {row : Nat} {nvec : Nat} {d : Nat} : Beside pre (s.readA8 t c row nvec d).fst := by
  unfold State.readA8
  extract_lets s1 s2 s3
  have h1 : Beside pre s2.fst := State.schedReads_beside fo
  clear_value s2
  have h2 : Beside pre s3.fst := State.schedReads_beside h1
  clear_value s3
  exact h2

theorem State.writeEntry_beside {pre : State} {s : State} (fo : Beside pre s) {t : Nat} {c : Nat} {a : AttDesc} {freq : Nat → Nat} {src : A8Src} {ta : Taint} {pl : PageList} {tok : Tok} {k : Nat} {h : Nat} {v : Nat} : Beside pre (State.writeEntry s t c a freq src ta pl tok k h v) := by
  unfold State.writeEntry
  extract_lets s1 s2 s3 s4 s5
  split
  · exact fo
  · exact Beside.ite (State.writeSlot_beside fo) fo

theorem State.writeToken_beside {pre : State} {s : State} (fo : Beside pre s) {t : Nat} {c : Nat} {e : Nat} {req : Nat} {a : AttDesc} {freq : Nat → Nat} {src : A8Src} {ta : Taint} {pl : PageList} {tok : Tok} {k : Nat} : Beside pre (State.writeToken s t c e req a freq src ta pl tok k) := by
  unfold State.writeToken
  apply Beside.ite
  · exact fo
  · apply Beside.ite
    · exact fo
    · apply Beside.ite
      · exact Beside.ite (State.tileFault_beside (State.setReg_beside fo)) fo
      · apply foldl_beside
        · intro x1 x2 h1
          apply foldl_beside
          · intro x3 x4 h2
            exact State.writeEntry_beside h2
          · exact h1
        · exact fo

theorem State.readPages_beside {pre : State} {s : State} (fo : Beside pre s) {t : Nat} {c : Nat} {a : AttDesc} {ns : List Nat} : Beside pre (State.readPages s t c a ns) := by
  unfold State.readPages
  apply foldl_beside
  · intro x1 x2 h1
    apply foldl_beside
    · intro x3 x4 h2
      exact State.readRow_beside h2
    · exact h1
  · exact fo

theorem State.clobberStores_beside {pre : State} {s : State} (fo : Beside pre s) {t : Nat} : Beside pre (s.clobberStores t) := by
  unfold State.clobberStores
  extract_lets s1 s2 s3 s4 s5
  apply State.updTile_beside
  exact fo.same (Eq.refl _) (Eq.refl _) (Eq.refl _) (Eq.refl _) (Eq.refl _) (Eq.refl _) (Eq.refl _) (Eq.refl _) (Eq.refl _) (Eq.refl _) (Eq.refl _) (Eq.refl _) (Eq.refl _) (Eq.refl _) (Eq.refl _) (Eq.refl _) (Eq.refl _)

theorem State.streamOut_beside {pre : State} {s : State} (fo : Beside pre s) {t : Nat} {first : Nat} {bs : List Beat} : Beside pre (State.streamOut s t first bs) := by
  unfold State.streamOut
  exact State.updTile_beside fo

theorem State.attPoison_beside {pre : State} {s : State} (fo : Beside pre s) {i : Issue} : Beside pre (State.attPoison s i) := by
  unfold State.attPoison
  extract_lets s1 s2
  exact Beside.ite (State.poisonRows_beside fo) (State.streamOut_beside fo)

theorem State.attRefuse_beside {pre : State} {s : State} (fo : Beside pre s) {i : Issue} : Beside pre (State.attRefuse s i) := by
  unfold State.attRefuse
  exact State.attPoison_beside (State.engRefuse_beside fo)

theorem State.descBytes_beside {pre : State} {s : State} (fo : Beside pre s) {i : Issue} : Beside pre (s.descBytes i).fst := by
  unfold State.descBytes
  extract_lets s1 s2 s3
  have h1 : Beside pre s2.fst := State.schedRead_beside fo
  clear_value s2
  exact h1

theorem State.attToks_beside {pre : State} {s : State} (fo : Beside pre s) {i : Issue} {a : AttDesc} {r : SlotRec} : Beside pre (s.attToks i a r).fst := by
  unfold State.attToks
  extract_lets s1 s2 s3 s4 s5
  have h1 : Beside pre s3.fst := State.schedRead_beside fo
  clear_value s3
  have h2 : Beside pre s4.fst := State.schedRead_beside h1
  clear_value s4
  split
  · exact fo
  · exact h2

theorem State.attLists_beside {pre : State} {t : Nat} {c : Nat} {plRow : Nat} {l : List Nat} : ∀ {s : State}, Beside pre s → Beside pre (s.attLists t c plRow l).1 := by
  induction l with
  | nil => intro s h; exact h
  | cons k r ih => intro s h; exact ih (State.schedRead_beside h)

theorem State.runAttendDesc_beside {pre : State} {s : State} (fo : Beside pre s) {i : Issue} {a : AttDesc} {dta : Taint} : Beside pre (State.runAttendDesc s i a dta) := by
  unfold State.runAttendDesc
  extract_lets s1 s2 s3 s4 s5 s6 s7 s8 s9 s10 s11 s12 s13 s14 s15 s16 s17 s18 s19 s20 s21 s22 s23 s24
  have h1 : Beside pre s4.fst := State.schedRead_beside fo
  clear_value s4
  have h2 : Beside pre s6.fst := State.attToks_beside h1
  clear_value s6
  have h3 : Beside pre s8.fst := State.attLists_beside h2
  clear_value s8
  have h4 : Beside pre s10 := h3
  clear_value s10
  have h5 : Beside pre s11 := by
    unfold s11
    apply foldl_beside
    · intro x1 x2 h6
      apply foldl_beside
      · intro x3 x4 h7
        exact State.pageRefused_beside h7
      · exact h6
    · exact h4
  clear_value s11
  have h8 : Beside pre s12.fst := by
    unfold s12
    split
    · exact State.schedReads_beside h5
    · exact h5
  clear_value s12
  have h9 : Beside pre s15.fst := State.readA8_beside h8
  clear_value s15
  have h10 : Beside pre s16.fst := State.readA8_beside h9
  clear_value s16
  have h11 : Beside pre s18 := by
    unfold s18
    apply foldl_beside
    · intro x5 x6 h12
      exact State.writeToken_beside h12
    · exact h10
  clear_value s18
  have h13 : Beside pre s19 := State.readPages_beside h11
  clear_value s19
  have h14 : Beside pre s23 := State.clobberStores_beside (Beside.ite (State.reportFault_beside h13) h13)
  clear_value s23
  have h15 : Beside pre s24 := State.updTile_beside h14
  clear_value s24
  exact Beside.ite (State.putBeats_beside h15) (State.streamOut_beside h15)

theorem State.runAttend_beside {pre : State} {s : State} (fo : Beside pre s) {i : Issue} : Beside pre (State.runAttend s i) := by
  unfold State.runAttend
  extract_lets s1 s2 s3 s4 s5
  have h1 : Beside pre s4.fst := State.descBytes_beside (State.portClaim_beside fo)
  clear_value s4
  exact Beside.ite (State.vxOther_beside fo) (Beside.ite (State.attRefuse_beside fo) (Beside.ite (State.attPoison_beside (State.portRefuse_beside fo)) (Beside.ite (State.attRefuse_beside h1) (State.runAttendDesc_beside h1))))

theorem execAttend_beside {pre : State} {i : Issue} {s : State} (fo : Beside pre s) : BesideO pre (execAttend i s) := by
  unfold execAttend
  apply State.issue_beside
  · exact fo
  · intro x1 h1
    exact State.attPoison_beside (State.setReg_beside h1)
  · intro x2 h2
    exact State.runAttend_beside h2

end Sys2Proof.Machine
end

