-- ==== Sys2Proof/Laws/Sample.lean ====
section
/-! SUPPORT. What the operations of Machine/Sample.lean keep: one lemma for each, by the lemmas of those that it calls. -/

namespace Sys2Proof.Machine

open Sys2Proof

theorem State.smpPoison_follows {pre : State} {s : State} (fo : Follows pre s) {i : Issue} : Follows pre (State.smpPoison s i) := by
  unfold State.smpPoison
  extract_lets s1 s2 s3
  exact Follows.ite (State.poisonRows_follows fo) (State.streamOut_follows fo)

theorem State.smpRefuse_follows {pre : State} {s : State} (fo : Follows pre s) {i : Issue} : Follows pre (State.smpRefuse s i) := by
  unfold State.smpRefuse
  exact State.smpPoison_follows (State.engRefuse_follows fo)

theorem State.leafPos_follows {pre : State} {s : State} (fo : Follows pre s) {t : Nat} {c : Nat} {a : SmpDesc} {sr : SlotRec} {drafts : Nat → Nat} {ta : Taint} {p : Nat} : Follows pre (State.leafPos s t c a sr drafts ta p).fst := by
  unfold State.leafPos
  extract_lets s1 s2 s3 s4
  have h1 : Follows pre s1.fst := State.schedReads_follows fo
  clear_value s1
  dsimp only
  exact Follows.ite (State.reportFault_follows h1) h1

theorem State.runLeaf_follows {pre : State} {s : State} (fo : Follows pre s) {i : Issue} {a : SmpDesc} {sr : SlotRec} {drafts : Nat → Nat} {ta : Taint} : Follows pre (State.runLeaf s i a sr drafts ta) := by
  unfold State.runLeaf
  extract_lets s1 s2 s3 s4
  have h1 : Follows pre s3.fst := by
    unfold s3
    apply foldl_follows1
    · intro x1 x2 h2
      extract_lets s5
      have h3 : Follows pre s5.fst := State.leafPos_follows h2
      clear_value s5
      exact h3
    · exact fo
  clear_value s3
  have h4 : Follows pre s4 := State.updTile_follows h1
  clear_value s4
  exact Follows.ite (State.putBeats_follows h4) (State.streamOut_follows h4)

theorem State.noToken_follows {pre : State} {s : State} (fo : Follows pre s) {i : Issue} {sr : SlotRec} : Follows pre (s.noToken i sr) := by
  unfold State.noToken
  exact State.tileRecord_follows (State.setReg_follows fo)

theorem State.runRoot_follows {pre : State} {s : State} (fo : Follows pre s) {i : Issue} {a : SmpDesc} {sr : SlotRec} {drafts : Nat → Nat} {ta : Taint} : Follows pre (State.runRoot s i a sr drafts ta) := by
  unfold State.runRoot
  extract_lets s1 s2 s3 s4 s5 s6 s7 s8 s9 s10
  have h1 : Follows pre s4.fst := State.schedReads_follows fo
  clear_value s4
  have h2 : Follows pre s8 := Follows.ite (State.reportFault_follows h1) h1
  clear_value s8
  have h3 : Follows pre s9 := Follows.ite (State.noToken_follows h2) h2
  clear_value s9
  have h4 : Follows pre s10 := State.updTile_follows h3
  clear_value s10
  exact State.schedWrite_follows h4

theorem State.runSample_follows {pre : State} {s : State} (fo : Follows pre s) {i : Issue} : Follows pre (State.runSample s i) := by
  unfold State.runSample
  extract_lets s1 s2 s3 s4 s5 s6 s7 s8 s9 s10 s11
  have h1 : Follows pre s4.fst := State.descBytes_follows (State.portClaim_follows fo)
  clear_value s4
  have h2 : Follows pre s6.fst := State.schedRead_follows h1
  clear_value s6
  have h3 : Follows pre s8.fst := by
    unfold s8
    split
    · exact h2
    · exact State.schedRead_follows h2
  clear_value s8
  exact Follows.ite (State.vxOther_follows fo) (Follows.ite (State.smpRefuse_follows fo) (Follows.ite (State.smpPoison_follows (State.portRefuse_follows fo)) (Follows.ite (State.smpRefuse_follows h1) (Follows.ite (State.runRoot_follows h3) (State.runLeaf_follows h3)))))

theorem execSample_follows {pre : State} {i : Issue} {s : State} (fo : Follows pre s) : FollowsO pre (execSample i s) := by
  unfold execSample
  apply State.issue_follows
  · exact fo
  · intro x1 h1
    exact State.smpPoison_follows (State.setReg_follows h1)
  · intro x2 h2
    exact State.runSample_follows h2

/-! ### Operations that leave memory alone -/

theorem State.leafPos_memSame {pre : State} {s : State} (fo : MemSame pre s) {t : Nat} {c : Nat} {a : SmpDesc} {sr : SlotRec} {drafts : Nat → Nat} {ta : Taint} {p : Nat} : MemSame pre (State.leafPos s t c a sr drafts ta p).fst := by
  unfold State.leafPos
  extract_lets s1 s2 s3 s4
  have h1 : MemSame pre s1.fst := State.schedReads_memSame fo
  clear_value s1
  dsimp only
  exact MemSame.ite (State.reportFault_memSame h1) h1

theorem State.noToken_memSame {pre : State} {s : State} (fo : MemSame pre s) {i : Issue} {sr : SlotRec} : MemSame pre (s.noToken i sr) := by
  unfold State.noToken
  exact State.tileRecord_memSame (State.setReg_memSame fo)

/-! ### Operations that leave alone what lies beside the tiles -/

theorem State.smpPoison_beside {pre : State} {s : State} (fo : Beside pre s) {i : Issue} : Beside pre (State.smpPoison s i) := by
  unfold State.smpPoison
  extract_lets s1 s2 s3
  exact Beside.ite (State.poisonRows_beside fo) (State.streamOut_beside fo)

theorem State.smpRefuse_beside {pre : State} {s : State} (fo : Beside pre s) {i : Issue} : Beside pre (State.smpRefuse s i) := by
  unfold State.smpRefuse
  exact State.smpPoison_beside (State.engRefuse_beside fo)

theorem State.leafPos_beside {pre : State} {s : State} (fo : Beside pre s) {t : Nat} {c : Nat} {a : SmpDesc} {sr : SlotRec} {drafts : Nat → Nat} {ta : Taint} {p : Nat} : Beside pre (State.leafPos s t c a sr drafts ta p).fst := by
  unfold State.leafPos
  extract_lets s1 s2 s3 s4
  have h1 : Beside pre s1.fst := State.schedReads_beside fo
  clear_value s1
  dsimp only
  exact Beside.ite (State.reportFault_beside h1) h1

theorem State.runLeaf_beside {pre : State} {s : State} (fo : Beside pre s) {i : Issue} {a : SmpDesc} {sr : SlotRec} {drafts : Nat → Nat} {ta : Taint} : Beside pre (State.runLeaf s i a sr drafts ta) := by
  unfold State.runLeaf
  extract_lets s1 s2 s3 s4
  have h1 : Beside pre s3.fst := by
    unfold s3
    apply foldl_beside1
    · intro x1 x2 h2
      extract_lets s5
      have h3 : Beside pre s5.fst := State.leafPos_beside h2
      clear_value s5
      exact h3
    · exact fo
  clear_value s3
  have h4 : Beside pre s4 := State.updTile_beside h1
  clear_value s4
  exact Beside.ite (State.putBeats_beside h4) (State.streamOut_beside h4)

theorem State.noToken_beside {pre : State} {s : State} (fo : Beside pre s) {i : Issue} {sr : SlotRec} : Beside pre (s.noToken i sr) := by
  unfold State.noToken
  exact State.tileRecord_beside (State.setReg_beside fo)

theorem State.runRoot_beside {pre : State} {s : State} (fo : Beside pre s) {i : Issue} {a : SmpDesc} {sr : SlotRec} {drafts : Nat → Nat} {ta : Taint} : Beside pre (State.runRoot s i a sr drafts ta) := by
  unfold State.runRoot
  extract_lets s1 s2 s3 s4 s5 s6 s7 s8 s9 s10
  have h1 : Beside pre s4.fst := State.schedReads_beside fo
  clear_value s4
  have h2 : Beside pre s8 := Beside.ite (State.reportFault_beside h1) h1
  clear_value s8
  have h3 : Beside pre s9 := Beside.ite (State.noToken_beside h2) h2
  clear_value s9
  have h4 : Beside pre s10 := State.updTile_beside h3
  clear_value s10
  exact State.schedWrite_beside h4

theorem State.runSample_beside {pre : State} {s : State} (fo : Beside pre s) {i : Issue} : Beside pre (State.runSample s i) := by
  unfold State.runSample
  extract_lets s1 s2 s3 s4 s5 s6 s7 s8 s9 s10 s11
  have h1 : Beside pre s4.fst := State.descBytes_beside (State.portClaim_beside fo)
  clear_value s4
  have h2 : Beside pre s6.fst := State.schedRead_beside h1
  clear_value s6
  have h3 : Beside pre s8.fst := by
    unfold s8
    split
    · exact h2
    · exact State.schedRead_beside h2
  clear_value s8
  exact Beside.ite (State.vxOther_beside fo) (Beside.ite (State.smpRefuse_beside fo) (Beside.ite (State.smpPoison_beside (State.portRefuse_beside fo)) (Beside.ite (State.smpRefuse_beside h1) (Beside.ite (State.runRoot_beside h3) (State.runLeaf_beside h3)))))

theorem execSample_beside {pre : State} {i : Issue} {s : State} (fo : Beside pre s) : BesideO pre (execSample i s) := by
  unfold execSample
  apply State.issue_beside
  · exact fo
  · intro x1 h1
    exact State.smpPoison_beside (State.setReg_beside h1)
  · intro x2 h2
    exact State.runSample_beside h2

end Sys2Proof.Machine
end

