-- ==== Sys2Proof/Laws/Conf.lean ====
section
/-! SUPPORT. What the operations of Machine/Conf.lean keep: one lemma for each, by the lemmas of those that it calls. -/

namespace Sys2Proof.Machine

open Sys2Proof

theorem State.confBeat_follows {pre : State} {s : State} (fo : Follows pre s) {i : Issue} {port : Nat} {cycle : Nat} : Follows pre (State.confBeat s i port cycle).fst := by
  unfold State.confBeat
  split
  · exact fo
  · rename_i y4 y5
    extract_lets s1
    have h1 : Follows pre s1.fst := State.takeBeat_follows fo
    clear_value s1
    dsimp only
    exact State.engRefuse_follows h1

theorem State.confBeats_follows {pre : State} {i : Issue} {port : Nat} {cycle : Nat} {n : Nat} : ∀ {s : State}, Follows pre s → Follows pre (s.confBeats i port cycle n).1 := by
  induction n generalizing cycle with
  | zero => intro s h; exact h
  | succ n ih => intro s h; exact ih (State.confBeat_follows h)

theorem State.fusedBeat_follows {pre : State} {s : State} (fo : Follows pre s) {i : Issue} {cycle : Nat} : Follows pre (State.fusedBeat s i cycle).fst := by
  unfold State.fusedBeat
  split
  · exact fo
  · rename_i y4 y5
    dsimp only
    exact State.engRefuse_follows fo

theorem State.confLocal_follows {pre : State} {s : State} (fo : Follows pre s) {i : Issue} {f : CmrgF} : Follows pre (State.confLocal s i f).fst := by
  unfold State.confLocal
  split
  · rename_i y1
    extract_lets s1
    have h1 : Follows pre s1.fst := State.schedReads_follows fo
    clear_value s1
    exact h1
  · rename_i y2
    apply foldl_follows1
    · intro x1 x2 h2
      extract_lets s2
      have h3 : Follows pre s2.fst := State.fusedBeat_follows h2
      clear_value s2
      exact h3
    · exact fo

theorem State.rootA8_follows {pre : State} {s : State} (fo : Follows pre s) {i : Issue} {f : CmrgF} {xs : List Nat} {ta : Taint} : Follows pre (State.rootA8 s i f xs ta) := by
  unfold State.rootA8
  extract_lets s1 s2 s3 s4 s5 s6 s7 s8 s9 s10 s11
  have h1 : Follows pre s4.fst := State.quantAll_follows fo
  clear_value s4
  have h2 : Follows pre s6 := State.putBeats_follows h1
  clear_value s6
  have h3 : Follows pre s8 := by
    unfold s8
    apply foldl_follows
    · intro x1 x2 h4
      exact Follows.ite (State.writeTag_follows (State.byteWrite_follows h4)) (State.boundsFault_follows h4)
    · exact h2
  clear_value s8
  have h5 : Follows pre s9 := State.putBeats_follows h3
  clear_value s9
  have h6 : Follows pre s10 := State.vTrouble_follows h5
  clear_value s10
  exact State.updTile_follows h6

theorem State.cmrgPoison_follows {pre : State} {s : State} (fo : Follows pre s) {i : Issue} : Follows pre (State.cmrgPoison s i) := by
  unfold State.cmrgPoison
  extract_lets s1 s2 s3 s4
  apply Follows.ite
  · apply foldl_follows
    · intro x1 x2 h1
      exact State.poisonWords_follows h1
    · apply foldl_follows
      · intro x3 x4 h2
        exact State.poisonRows_follows h2
      · exact fo
  · exact State.updTile_follows fo

theorem State.confAttn_follows {pre : State} {s : State} (fo : Follows pre s) {i : Issue} {f : CmrgF} {streams : List (List Beat)} : Follows pre (State.confAttn s i f streams) := by
  unfold State.confAttn
  extract_lets s1
  split
  · exact State.cmrgPoison_follows (State.reportFault_follows fo)
  · rename_i y3 y4 y5 y6
    extract_lets s2 s3 s4 s5
    have h1 : Follows pre s4 := Follows.ite (State.reportFault_follows fo) fo
    clear_value s4
    exact Follows.ite (Follows.ite (State.rootA8_follows h1) (Follows.ite (State.putBeats_follows h1) (State.putBeats_follows h1))) (State.updTile_follows h1)

theorem State.confSmp_follows {pre : State} {s : State} (fo : Follows pre s) {i : Issue} {f : CmrgF} {streams : List (List Beat)} : Follows pre (s.confSmp i f streams) := by
  unfold State.confSmp
  extract_lets s1 s2 s3 s4 s5 s6
  have h1 : Follows pre s5 := Follows.ite (State.reportFault_follows fo) fo
  clear_value s5
  exact Follows.ite (State.putBeats_follows h1) (State.updTile_follows h1)

theorem State.cmrgAccept_follows {pre : State} {s : State} (fo : Follows pre s) {i : Issue} : Follows pre (s.cmrgAccept i) := by
  unfold State.cmrgAccept
  extract_lets s1 s2 s3 s4 s5 s6 s7 s8
  have h1 : Follows pre s4 := State.updTile_follows fo
  clear_value s4
  have h2 : Follows pre s5.fst := by
    unfold s5
    split
    · exact h1
    · exact State.confLocal_follows h1
  clear_value s5
  have h3 : Follows pre s6.fst := by
    unfold s6
    split
    · exact h2
    · exact State.confBeats_follows h2
  clear_value s6
  have h4 : Follows pre s7.fst := by
    unfold s7
    split
    · exact h3
    · exact State.confBeats_follows h3
  clear_value s7
  exact Follows.ite (State.confAttn_follows h4) (State.confSmp_follows h4)

theorem State.runCmrg_follows {pre : State} {s : State} (fo : Follows pre s) {i : Issue} : Follows pre (State.runCmrg s i) := by
  unfold State.runCmrg
  extract_lets s1 s2 s3 s4
  exact Follows.ite (State.cmrgPoison_follows (State.engRefuse_follows fo)) (Follows.ite (State.cmrgPoison_follows (State.portRefuse_follows fo)) (State.cmrgAccept_follows (State.portClaim_follows fo)))

theorem execCmrg_follows {pre : State} {i : Issue} {s : State} (fo : Follows pre s) : FollowsO pre (execCmrg i s) := by
  unfold execCmrg
  apply State.issue_follows
  · exact fo
  · intro x1 h1
    exact State.cmrgPoison_follows (State.setReg_follows h1)
  · intro x1 h1
    exact State.runCmrg_follows h1

/-! ### Operations that leave memory alone -/

theorem State.confBeat_memSame {pre : State} {s : State} (fo : MemSame pre s) {i : Issue} {port : Nat} {cycle : Nat} : MemSame pre (State.confBeat s i port cycle).fst := by
  unfold State.confBeat
  split
  · exact fo
  · rename_i y4 y5
    extract_lets s1
    have h1 : MemSame pre s1.fst := State.takeBeat_memSame fo
    clear_value s1
    dsimp only
    exact State.engRefuse_memSame h1

theorem State.confBeats_memSame {pre : State} {i : Issue} {port : Nat} {cycle : Nat} {n : Nat} : ∀ {s : State}, MemSame pre s → MemSame pre (s.confBeats i port cycle n).1 := by
  induction n generalizing cycle with
  | zero => intro s h; exact h
  | succ n ih => intro s h; exact ih (State.confBeat_memSame h)

theorem State.fusedBeat_memSame {pre : State} {s : State} (fo : MemSame pre s) {i : Issue} {cycle : Nat} : MemSame pre (State.fusedBeat s i cycle).fst := by
  unfold State.fusedBeat
  split
  · exact fo
  · rename_i y4 y5
    dsimp only
    exact State.engRefuse_memSame fo

theorem State.confLocal_memSame {pre : State} {s : State} (fo : MemSame pre s) {i : Issue} {f : CmrgF} : MemSame pre (State.confLocal s i f).fst := by
  unfold State.confLocal
  split
  · rename_i y1
    extract_lets s1
    have h1 : MemSame pre s1.fst := State.schedReads_memSame fo
    clear_value s1
    exact h1
  · rename_i y2
    apply foldl_memSame1
    · intro x1 x2 h2
      extract_lets s2
      have h3 : MemSame pre s2.fst := State.fusedBeat_memSame h2
      clear_value s2
      exact h3
    · exact fo

theorem State.cmrgPoison_memSame {pre : State} {s : State} (fo : MemSame pre s) {i : Issue} : MemSame pre (State.cmrgPoison s i) := by
  unfold State.cmrgPoison
  extract_lets s1 s2 s3 s4
  apply MemSame.ite
  · apply foldl_memSame
    · intro x1 x2 h1
      exact State.poisonWords_memSame h1
    · apply foldl_memSame
      · intro x3 x4 h2
        exact State.poisonRows_memSame h2
      · exact fo
  · exact State.updTile_memSame fo

/-! ### Operations that leave alone what lies beside the tiles -/

theorem State.confBeat_beside {pre : State} {s : State} (fo : Beside pre s) {i : Issue} {port : Nat} {cycle : Nat} : Beside pre (State.confBeat s i port cycle).fst := by
  unfold State.confBeat
  split
  · exact fo
  · rename_i y4 y5
    extract_lets s1
    have h1 : Beside pre s1.fst := State.takeBeat_beside fo
    clear_value s1
    dsimp only
    exact State.engRefuse_beside h1

theorem State.confBeats_beside {pre : State} {i : Issue} {port : Nat} {cycle : Nat} {n : Nat} : ∀ {s : State}, Beside pre s → Beside pre (s.confBeats i port cycle n).1 := by
  induction n generalizing cycle with
  | zero => intro s h; exact h
  | succ n ih => intro s h; exact ih (State.confBeat_beside h)

theorem State.fusedBeat_beside {pre : State} {s : State} (fo : Beside pre s) {i : Issue} {cycle : Nat} : Beside pre (State.fusedBeat s i cycle).fst := by
  unfold State.fusedBeat
  split
  · exact fo
  · rename_i y4 y5
    dsimp only
    exact State.engRefuse_beside fo

theorem State.confLocal_beside {pre : State} {s : State} (fo : Beside pre s) {i : Issue} {f : CmrgF} : Beside pre (State.confLocal s i f).fst := by
  unfold State.confLocal
  split
  · rename_i y1
    extract_lets s1
    have h1 : Beside pre s1.fst := State.schedReads_beside fo
    clear_value s1
    exact h1
  · rename_i y2
    apply foldl_beside1
    · intro x1 x2 h2
      extract_lets s2
      have h3 : Beside pre s2.fst := State.fusedBeat_beside h2
      clear_value s2
      exact h3
    · exact fo

theorem State.rootA8_beside {pre : State} {s : State} (fo : Beside pre s) {i : Issue} {f : CmrgF} {xs : List Nat} {ta : Taint} : Beside pre (State.rootA8 s i f xs ta) := by
  unfold State.rootA8
  extract_lets s1 s2 s3 s4 s5 s6 s7 s8 s9 s10 s11
  have h1 : Beside pre s4.fst := State.quantAll_beside fo
  clear_value s4
  have h2 : Beside pre s6 := State.putBeats_beside h1
  clear_value s6
  have h3 : Beside pre s8 := by
    unfold s8
    apply foldl_beside
    · intro x1 x2 h4
      exact Beside.ite (State.writeTag_beside (State.byteWrite_beside h4)) (State.boundsFault_beside h4)
    · exact h2
  clear_value s8
  have h5 : Beside pre s9 := State.putBeats_beside h3
  clear_value s9
  have h6 : Beside pre s10 := State.vTrouble_beside h5
  clear_value s10
  exact State.updTile_beside h6

theorem State.cmrgPoison_beside {pre : State} {s : State} (fo : Beside pre s) {i : Issue} : Beside pre (State.cmrgPoison s i) := by
  unfold State.cmrgPoison
  extract_lets s1 s2 s3 s4
  apply Beside.ite
  · apply foldl_beside
    · intro x1 x2 h1
      exact State.poisonWords_beside h1
    · apply foldl_beside
      · intro x3 x4 h2
        exact State.poisonRows_beside h2
      · exact fo
  · exact State.updTile_beside fo

theorem State.confAttn_beside {pre : State} {s : State} (fo : Beside pre s) {i : Issue} {f : CmrgF} {streams : List (List Beat)} : Beside pre (State.confAttn s i f streams) := by
  unfold State.confAttn
  extract_lets s1
  split
  · exact State.cmrgPoison_beside (State.reportFault_beside fo)
  · rename_i y3 y4 y5 y6
    extract_lets s2 s3 s4 s5
    have h1 : Beside pre s4 := Beside.ite (State.reportFault_beside fo) fo
    clear_value s4
    exact Beside.ite (Beside.ite (State.rootA8_beside h1) (Beside.ite (State.putBeats_beside h1) (State.putBeats_beside h1))) (State.updTile_beside h1)

theorem State.confSmp_beside {pre : State} {s : State} (fo : Beside pre s) {i : Issue} {f : CmrgF} {streams : List (List Beat)} : Beside pre (s.confSmp i f streams) := by
  unfold State.confSmp
  extract_lets s1 s2 s3 s4 s5 s6
  have h1 : Beside pre s5 := Beside.ite (State.reportFault_beside fo) fo
  clear_value s5
  exact Beside.ite (State.putBeats_beside h1) (State.updTile_beside h1)

theorem State.cmrgAccept_beside {pre : State} {s : State} (fo : Beside pre s) {i : Issue} : Beside pre (s.cmrgAccept i) := by
  unfold State.cmrgAccept
  extract_lets s1 s2 s3 s4 s5 s6 s7 s8
  have h1 : Beside pre s4 := State.updTile_beside fo
  clear_value s4
  have h2 : Beside pre s5.fst := by
    unfold s5
    split
    · exact h1
    · exact State.confLocal_beside h1
  clear_value s5
  have h3 : Beside pre s6.fst := by
    unfold s6
    split
    · exact h2
    · exact State.confBeats_beside h2
  clear_value s6
  have h4 : Beside pre s7.fst := by
    unfold s7
    split
    · exact h3
    · exact State.confBeats_beside h3
  clear_value s7
  exact Beside.ite (State.confAttn_beside h4) (State.confSmp_beside h4)

theorem State.runCmrg_beside {pre : State} {s : State} (fo : Beside pre s) {i : Issue} : Beside pre (State.runCmrg s i) := by
  unfold State.runCmrg
  extract_lets s1 s2 s3 s4
  exact Beside.ite (State.cmrgPoison_beside (State.engRefuse_beside fo)) (Beside.ite (State.cmrgPoison_beside (State.portRefuse_beside fo)) (State.cmrgAccept_beside (State.portClaim_beside fo)))

theorem execCmrg_beside {pre : State} {i : Issue} {s : State} (fo : Beside pre s) : BesideO pre (execCmrg i s) := by
  unfold execCmrg
  apply State.issue_beside
  · exact fo
  · intro x1 h1
    exact State.cmrgPoison_beside (State.setReg_beside h1)
  · intro x1 h1
    exact State.runCmrg_beside h1

end Sys2Proof.Machine
end

