-- ==== Sys2Proof/Laws/Flits.lean ====
section
/-! SUPPORT. What the operations of Machine/Flits.lean keep: one lemma for each, by the lemmas of those that it calls. -/

namespace Sys2Proof.Machine

open Sys2Proof

theorem State.updPort_follows {pre : State} {s : State} (fo : Follows pre s) {n : Nat} {f : AqdPort → AqdPort} : Follows pre (s.updPort n f) := by
  unfold State.updPort
  exact fo.same (Eq.refl _) fo.mem (Eq.refl _) (Eq.refl _) (Eq.refl _) (Eq.refl _)

theorem State.putFlit_follows {pre : State} {s : State} (fo : Follows pre s) {port : Nat} {k : Kept} : Follows pre (State.putFlit s port k) := by
  unfold State.putFlit
  extract_lets s1
  exact Follows.ite (State.emit_follows (State.setReg_follows (State.setReg_follows fo))) (State.emit_follows fo)

theorem State.sendFlit_follows {pre : State} {s : State} (fo : Follows pre s) {port : Nat} {ftype : Nat} {flags : Nat} {payload : List Byte} : Follows pre (State.sendFlit s port ftype flags payload) := by
  unfold State.sendFlit
  extract_lets s1
  exact State.updPort_follows (State.putFlit_follows fo)

theorem State.sendCtrl_follows {pre : State} {s : State} (fo : Follows pre s) {port : Nat} {purpose : Nat} {fseq : Nat} : Follows pre (State.sendCtrl s port purpose fseq) := by
  unfold State.sendCtrl
  exact State.putFlit_follows fo

theorem State.sendMarkFlit_follows {pre : State} {s : State} (fo : Follows pre s) {port : Nat} {chain : Nat} {head : Nat} {k : Nat} {ptp : Nat} : Follows pre (State.sendMarkFlit s port chain head k ptp) := by
  unfold State.sendMarkFlit
  exact State.sendFlit_follows (State.emit_follows fo)

theorem State.bumpTag_follows {pre : State} {s : State} (fo : Follows pre s) {port : Nat} : Follows pre (State.bumpTag s port) := by
  unfold State.bumpTag
  exact State.updPort_follows fo

theorem State.sendMsg_follows {pre : State} {s : State} (fo : Follows pre s) {port : Nat} {kind : Nat} {figures : List Nat} {h : MsgHead} {payload : List Byte} : Follows pre (State.sendMsg s port kind figures h payload) := by
  unfold State.sendMsg
  extract_lets s1
  apply foldl_follows
  · intro x1 x2 h1
    exact State.sendFlit_follows h1
  · exact State.emit_follows fo

theorem State.sendPlain_follows {pre : State} {s : State} (fo : Follows pre s) {port : Nat} {mtype : Nat} {kind : Nat} {figures : List Nat} {part : Nat} {tag : Nat} {payload : List Byte} : Follows pre (State.sendPlain s port mtype kind figures part tag payload) := by
  unfold State.sendPlain
  exact State.sendMsg_follows fo

theorem State.sendStream_follows {pre : State} {s : State} (fo : Follows pre s) {port : Nat} {dtile : Nat} {drow : Nat} {k : Packet} : Follows pre (State.sendStream s port dtile drow k) := by
  unfold State.sendStream
  extract_lets s1
  exact State.updPort_follows (State.sendMsg_follows (State.bumpTag_follows fo))

theorem State.sendTold_follows {pre : State} {s : State} (fo : Follows pre s) {port : Nat} {part : Nat} {kind : Nat} {figures : List Nat} : Follows pre (State.sendTold s port part kind figures) := by
  unfold State.sendTold
  extract_lets s1
  exact State.updPort_follows (State.sendPlain_follows (State.bumpTag_follows fo))

theorem State.tell_follows {pre : State} {s : State} (fo : Follows pre s) {part : Nat} {kind : Nat} {figures : List Nat} : Follows pre (State.tell s part kind figures) := by
  unfold State.tell
  split
  · rename_i y1 y2 y3
    apply foldl_follows
    · intro x1 x2 h1
      exact State.sendTold_follows h1
    · exact fo
  · exact fo

/-! ### Operations that leave memory alone -/

theorem State.updPort_memSame {pre : State} {s : State} (fo : MemSame pre s) {n : Nat} {f : AqdPort → AqdPort} : MemSame pre (s.updPort n f) := by
  unfold State.updPort
  exact fo.same (Eq.refl _)

theorem State.putFlit_memSame {pre : State} {s : State} (fo : MemSame pre s) {port : Nat} {k : Kept} : MemSame pre (State.putFlit s port k) := by
  unfold State.putFlit
  extract_lets s1
  exact MemSame.ite (State.emit_memSame (State.setReg_memSame (State.setReg_memSame fo))) (State.emit_memSame fo)

theorem State.sendFlit_memSame {pre : State} {s : State} (fo : MemSame pre s) {port : Nat} {ftype : Nat} {flags : Nat} {payload : List Byte} : MemSame pre (State.sendFlit s port ftype flags payload) := by
  unfold State.sendFlit
  extract_lets s1
  exact State.updPort_memSame (State.putFlit_memSame fo)

theorem State.sendCtrl_memSame {pre : State} {s : State} (fo : MemSame pre s) {port : Nat} {purpose : Nat} {fseq : Nat} : MemSame pre (State.sendCtrl s port purpose fseq) := by
  unfold State.sendCtrl
  exact State.putFlit_memSame fo

theorem State.bumpTag_memSame {pre : State} {s : State} (fo : MemSame pre s) {port : Nat} : MemSame pre (State.bumpTag s port) := by
  unfold State.bumpTag
  exact State.updPort_memSame fo

theorem State.sendMsg_memSame {pre : State} {s : State} (fo : MemSame pre s) {port : Nat} {kind : Nat} {figures : List Nat} {h : MsgHead} {payload : List Byte} : MemSame pre (State.sendMsg s port kind figures h payload) := by
  unfold State.sendMsg
  extract_lets s1
  apply foldl_memSame
  · intro x1 x2 h1
    exact State.sendFlit_memSame h1
  · exact State.emit_memSame fo

theorem State.sendPlain_memSame {pre : State} {s : State} (fo : MemSame pre s) {port : Nat} {mtype : Nat} {kind : Nat} {figures : List Nat} {part : Nat} {tag : Nat} {payload : List Byte} : MemSame pre (State.sendPlain s port mtype kind figures part tag payload) := by
  unfold State.sendPlain
  exact State.sendMsg_memSame fo

theorem State.sendStream_memSame {pre : State} {s : State} (fo : MemSame pre s) {port : Nat} {dtile : Nat} {drow : Nat} {k : Packet} : MemSame pre (State.sendStream s port dtile drow k) := by
  unfold State.sendStream
  extract_lets s1
  exact State.updPort_memSame (State.sendMsg_memSame (State.bumpTag_memSame fo))

theorem State.sendTold_memSame {pre : State} {s : State} (fo : MemSame pre s) {port : Nat} {part : Nat} {kind : Nat} {figures : List Nat} : MemSame pre (State.sendTold s port part kind figures) := by
  unfold State.sendTold
  extract_lets s1
  exact State.updPort_memSame (State.sendPlain_memSame (State.bumpTag_memSame fo))

theorem State.tell_memSame {pre : State} {s : State} (fo : MemSame pre s) {part : Nat} {kind : Nat} {figures : List Nat} : MemSame pre (State.tell s part kind figures) := by
  unfold State.tell
  split
  · rename_i y1 y2 y3
    apply foldl_memSame
    · intro x1 x2 h1
      exact State.sendTold_memSame h1
    · exact fo
  · exact fo

end Sys2Proof.Machine
end

