-- ==== Sys2Proof/Laws/Sluice.lean ====
section
/-! SUPPORT. What the operations of Machine/Sluice.lean keep: one lemma for each, by the lemmas of those that it calls. -/

namespace Sys2Proof.Machine

open Sys2Proof

theorem State.zeroRows_follows {pre : State} {s : State} (fo : Follows pre s) {t : Nat} {c : Nat} {unit : Nat} {w : Nat} : Follows pre (s.zeroRows t c unit w) := by
  unfold State.zeroRows
  extract_lets s1 s2 s3 s4 s5 s6 s7
  have h1 : ∀ (s : State) (r : Nat) (mask : List Nat), Follows pre s → Follows pre (s3 s r mask) := by
    intro x1 x2 x3 h1
    unfold s3
    exact Follows.ite h1 (State.schedWrite_follows h1)
  clear_value s3
  have h2 : Follows pre s6 := by
    unfold s6
    apply foldl_follows
    · intro x1 x2 h2
      apply foldl_follows
      · intro x3 x4 h3
        apply h1
        · exact h3
      · exact h2
    · exact fo
  clear_value s6
  have h3 : Follows pre s7 := by
    unfold s7
    split
    · rename_i y1 y2 y3
      apply h1
      · exact h2
    · exact h2
  clear_value s7
  apply foldl_follows
  · intro x1 x2 h4
    exact Follows.ite h4 (Follows.ite (State.writeTag_follows (State.byteWrite_follows h4)) (State.boundsFault_follows h4))
  · exact h3

theorem State.zeroDest_follows {pre : State} {s : State} (fo : Follows pre s) {i : Issue} {unit : Nat} : Follows pre (State.zeroDest s i unit) := by
  unfold State.zeroDest
  extract_lets s1 s2 s3 s4 s5 s6 s7 s8 s9 s10 s11 s12
  have h1 : Follows pre s6 := State.zeroRows_follows fo
  clear_value s6
  split
  · exact Follows.ite (State.updTile_follows h1) (Follows.ite (State.updTile_follows h1) (Follows.ite (State.updTile_follows h1) (Follows.ite (State.writeBank_follows h1) h1)))
  · exact Follows.ite (State.updTile_follows h1) h1
  · exact Follows.ite (State.updTile_follows h1) (Follows.ite (Follows.ite h1 (State.streamOut_follows h1)) (Follows.ite (Follows.ite h1 (State.streamOut_follows h1)) h1))
  · exact Follows.ite h1 (State.updTile_follows h1)

theorem State.noteMiss_follows {pre : State} {s : State} (fo : Follows pre s) {t : Nat} {e : Nat} : Follows pre (s.noteMiss t e) := by
  unfold State.noteMiss
  exact State.updTile_follows (State.setReg_follows (State.addReg_follows (State.setReg_follows fo)))

theorem execSluiceMiss_follows {pre : State} {tile : Tile} {entry : Fin 4096} {s : State} (fo : Follows pre s) : FollowsO pre (execSluiceMiss tile entry s) := by
  unfold execSluiceMiss
  extract_lets s1 s2
  exact FollowsO.ite (FollowsO.next (State.noteMiss_follows (State.zeroDest_follows fo))) (FollowsO.next fo)

theorem execDeliverySend_follows {pre : State} {tile : Tile} {row : Fin 1024} {s : State} (fo : Follows pre s) : FollowsO pre (execDeliverySend tile row s) := by
  unfold execDeliverySend
  extract_lets s1 s2 s3 s4 s5 s6
  have h1 : Follows pre s3.fst := State.readRow_follows fo
  clear_value s3
  have h2 : Follows pre s6 := h1
  clear_value s6
  split
  · exact FollowsO.next fo
  · rename_i y1 y2 y3
    apply FollowsO.ite
    · extract_lets s7
      apply FollowsO.next
      apply State.emit_follows
      exact h2.same (Eq.refl _) h2.mem (Eq.refl _) (Eq.refl _) (Eq.refl _) (Eq.refl _)
    · exact FollowsO.next fo

theorem State.setFlight_follows {pre : State} {s : State} (fo : Follows pre s) {n : Nat} {k : Option Packet} : Follows pre (s.setFlight n k) := by
  unfold State.setFlight
  exact fo.same (Eq.refl _) fo.mem (Eq.refl _) (Eq.refl _) (Eq.refl _) (Eq.refl _)

theorem State.answer_follows {pre : State} {s : State} (fo : Follows pre s) {k : Packet} {kind : Nat} : Follows pre (s.answer k kind) := by
  unfold State.answer
  exact State.emit_follows fo

theorem State.dlvRefused_follows {pre : State} {s : State} (fo : Follows pre s) {n : Nat} {k : Packet} : Follows pre (s.dlvRefused n k) := by
  unfold State.dlvRefused
  exact State.answer_follows (State.setFlight_follows (State.record_follows fo))

theorem State.dlvWrite_follows {pre : State} {s : State} (fo : Follows pre s) {k : Packet} : Follows pre (s.dlvWrite k) := by
  unfold State.dlvWrite
  extract_lets s1
  exact State.updTile_follows (State.setTag_follows (State.storeWords_follows fo))

theorem State.cistWrite_follows {pre : State} {s : State} (fo : Follows pre s) {p : Nat} {off : Nat} {data : List Byte} : Follows pre (s.cistWrite p off data) := by
  unfold State.cistWrite
  apply Follows.ite
  · apply State.setMem_follows
    · exact fo
    · apply MemOk.foldl
      · intro x1 x2 h1
        exact MemOk.ite h1 (MemOk.write h1)
      · exact Follows.memOk fo
  · exact State.setMem_follows fo (MemOk.writeBytes (Follows.memOk fo))

theorem State.dlvAccept_follows {pre : State} {s : State} (fo : Follows pre s) {n : Nat} {k : Packet} : Follows pre (s.dlvAccept n k) := by
  unfold State.dlvAccept
  extract_lets s1
  have h1 : ∀ (s : State), Follows pre s → Follows pre (s1 s) := by
    intro x1 h1
    unfold s1
    exact State.setFlight_follows h1
  clear_value s1
  apply Follows.ite
  · apply State.answer_follows
    apply h1
    · exact State.dlvWrite_follows fo
  · split
    · apply State.answer_follows
      apply h1
      · exact State.cistWrite_follows fo
    · apply State.answer_follows
      apply h1
      · exact fo
    · apply State.answer_follows
      apply State.emit_follows
      apply h1
      · exact fo
    · apply State.answer_follows
      apply h1
      · exact State.dlvWrite_follows fo

theorem State.offer_follows {pre : State} {s : State} (fo : Follows pre s) {n : Nat} {k : Packet} : Follows pre (State.offer s n k) := by
  unfold State.offer
  exact Follows.ite (State.dlvRefused_follows fo) (Follows.ite fo (Follows.ite (State.dlvAccept_follows fo) (Follows.ite (Follows.ite (State.sendStream_follows fo) fo) (Follows.ite (State.dlvAccept_follows fo) (State.answer_follows (State.setFlight_follows fo))))))

theorem execDeliveryArrive_follows {pre : State} {n : Nat} {crcOk : Bool} {s : State} (fo : Follows pre s) : FollowsO pre (execDeliveryArrive n crcOk s) := by
  unfold execDeliveryArrive
  split
  · exact FollowsO.next fo
  · rename_i y1 y2 y3
    exact FollowsO.ite (FollowsO.next fo) (FollowsO.next (State.offer_follows fo))

theorem execDeliveryAck_follows {pre : State} {n : Nat} {s : State} (fo : Follows pre s) : FollowsO pre (execDeliveryAck n s) := by
  unfold execDeliveryAck
  split
  · exact FollowsO.next fo
  · rename_i y1 y2 y3
    apply FollowsO.ite
    · extract_lets s1
      have h1 : Follows pre s1 := State.setFlight_follows fo
      clear_value s1
      exact FollowsO.next (Follows.ite (State.setTag_follows h1) h1)
    · exact FollowsO.next fo

theorem execDeliveryBusyRetry_follows {pre : State} {n : Nat} {s : State} (fo : Follows pre s) : FollowsO pre (execDeliveryBusyRetry n s) := by
  unfold execDeliveryBusyRetry
  split
  · exact FollowsO.next fo
  · rename_i y1 y2 y3
    exact FollowsO.ite (FollowsO.next (State.offer_follows fo)) (FollowsO.next fo)

theorem State.lostRecord_follows {pre : State} {s : State} (fo : Follows pre s) {t : Nat} {drow : Nat} {src : Nat} : Follows pre (State.lostRecord s t drow src) := by
  unfold State.lostRecord
  exact State.tileRecord_follows fo

theorem execDeliveryTimeout_follows {pre : State} {n : Nat} {s : State} (fo : Follows pre s) : FollowsO pre (execDeliveryTimeout n s) := by
  unfold execDeliveryTimeout
  split
  · exact FollowsO.next fo
  · rename_i y3 y4 y5
    split
    · exact FollowsO.next fo
    · exact FollowsO.ite (FollowsO.next fo) (FollowsO.next (State.answer_follows (State.setFlight_follows (State.lostRecord_follows fo))))

theorem execRestoreRowCopy_follows {pre : State} {tile : Tile} {row : Fin 1024} {s : State} (fo : Follows pre s) : FollowsO pre (execRestoreRowCopy tile row s) := by
  unfold execRestoreRowCopy
  extract_lets s1 s2 s3 s4
  have h1 : Follows pre s3.fst := State.readRow_follows fo
  clear_value s3
  split
  · exact FollowsO.next fo
  · rename_i y1 y2 y3
    extract_lets s5 s6 s7 s8 s9
    have h2 : Follows pre s7 := State.setMem_follows h1 (MemOk.writeBytes (Follows.memOk h1))
    clear_value s7
    have h3 : Follows pre s8 := State.updTile_follows h2
    clear_value s8
    have h4 : Follows pre s9 := State.updTile_follows (State.setTag_follows h3)
    clear_value s9
    exact FollowsO.ite (FollowsO.next (State.updReq_follows h4)) (FollowsO.next fo)

theorem State.upset_follows {pre : State} {s : State} (fo : Follows pre s) {t : Nat} {l : List (Fin 1024 × Fin 64 × Fin 72)} : Follows pre (s.upset t l) := by
  unfold State.upset
  exact State.updTile_follows fo

theorem execScrubRow_follows {pre : State} {tile : Tile} {upsets : List (Fin 1024 × Fin 64 × Fin 72)} {s : State} (fo : Follows pre s) : FollowsO pre (execScrubRow tile upsets s) := by
  unfold execScrubRow
  extract_lets s1 s2 s3
  have h1 : Follows pre s2 := State.upset_follows fo
  clear_value s2
  have h2 : Follows pre s3.fst := State.readRow_follows h1
  clear_value s3
  exact FollowsO.ite (FollowsO.next (State.updTile_follows h2)) (FollowsO.next h1)

theorem execBasinRowSpare_follows {pre : State} {tile : Tile} {s : State} (fo : Follows pre s) : FollowsO pre (execBasinRowSpare tile s) := by
  unfold execBasinRowSpare
  extract_lets s1 s2
  split
  · exact FollowsO.next fo
  · rename_i y1 y2 y3
    apply FollowsO.ite
    · extract_lets s3 s4
      have h1 : Follows pre s3.fst := State.readRow_follows fo
      clear_value s3
      have h2 : Follows pre s4 := State.updTile_follows h1
      clear_value s4
      exact FollowsO.next (State.tileRecord_follows h2)
    · exact FollowsO.next fo

theorem State.basinRefuse_follows {pre : State} {s : State} (fo : Follows pre s) {p : Path} {addr : Nat} : Follows pre (s.basinRefuse p addr) := by
  unfold State.basinRefuse
  extract_lets s1 s2
  have h1 : Follows pre s2 := Follows.ite (State.addReg_follows fo) fo
  clear_value s2
  exact State.record_follows h1

theorem State.basinRead_follows {pre : State} {s : State} (fo : Follows pre s) {p : Path} {addr : Nat} {len : Nat} : Follows pre (s.basinRead p addr len) := by
  unfold State.basinRead
  extract_lets s1 s2 s3 s4 s5
  have h1 : Follows pre s5.fst := by
    unfold s5
    apply foldl_follows1
    · intro x1 x2 h1
      split
      · extract_lets s6
        have h2 : Follows pre s6.fst := State.readWord_follows h1
        clear_value s6
        exact h2
      · exact h1
    · exact fo
  clear_value s5
  exact Follows.ite (State.emit_follows fo) (Follows.ite (Follows.ite (State.emit_follows fo) (State.emit_follows h1)) (State.emit_follows fo))

theorem State.basinWrite_follows {pre : State} {s : State} (fo : Follows pre s) {p : Path} {addr : Nat} {data : List Byte} : Follows pre (s.basinWrite p addr data) := by
  unfold State.basinWrite
  extract_lets s1 s2 s3
  apply Follows.ite
  · apply foldl_follows
    · intro x1 x2 h1
      extract_lets s4 s5
      exact Follows.ite (State.storeWords_follows h1) (State.setMem_follows h1 (MemOk.writeBytes (Follows.memOk h1)))
    · exact fo
  · exact State.basinRefuse_follows fo

theorem execBasinHostAccess_follows {pre : State} {path : Path} {addr : Fin 34359738368} {len : Fin 513} {data : Option (List Byte)} {s : State} (fo : Follows pre s) : FollowsO pre (execBasinHostAccess path addr len data s) := by
  unfold execBasinHostAccess
  split
  · exact FollowsO.next fo
  · apply FollowsO.ite
    · exact FollowsO.next fo
    · extract_lets s1
      split
      · exact FollowsO.next (State.basinRead_follows fo)
      · rename_i y1 y2 y3 y4
        exact FollowsO.ite (FollowsO.next (State.basinWrite_follows fo)) (FollowsO.next (State.refuseWrite_follows fo))

theorem execCisternHostAccess_follows {pre : State} {path : Path} {addr : Fin 34359738368} {len : Fin 4097} {data : Option (List Byte)} {s : State} (fo : Follows pre s) : FollowsO pre (execCisternHostAccess path addr len data s) := by
  unfold execCisternHostAccess
  split
  · exact FollowsO.next fo
  · rename_i y2 y3
    apply FollowsO.ite
    · exact FollowsO.next fo
    · split
      · rename_i y4
        extract_lets s1
        have h1 : Follows pre s1 := State.emit_follows fo
        clear_value s1
        split
        · exact FollowsO.next (State.emit_follows fo)
        · exact FollowsO.ite (FollowsO.next (State.emit_follows (State.takeFree_follows fo))) (FollowsO.next h1)
        · exact FollowsO.next h1
      · rename_i y14 y15
        apply FollowsO.ite
        · exact FollowsO.next (State.refuseWrite_follows fo)
        · split
          · exact FollowsO.ite (FollowsO.next (State.cistWrite_follows fo)) (FollowsO.next (State.record_follows fo))
          · exact FollowsO.next (State.record_follows fo)
          · exact FollowsO.next (State.record_follows fo)

/-! ### Operations that leave memory alone -/

theorem State.noteMiss_memSame {pre : State} {s : State} (fo : MemSame pre s) {t : Nat} {e : Nat} : MemSame pre (s.noteMiss t e) := by
  unfold State.noteMiss
  exact State.updTile_memSame (State.setReg_memSame (State.addReg_memSame (State.setReg_memSame fo)))

theorem execDeliverySend_memSame {pre : State} {tile : Tile} {row : Fin 1024} {s : State} (fo : MemSame pre s) : MemSameO pre (execDeliverySend tile row s) := by
  unfold execDeliverySend
  extract_lets s1 s2 s3 s4 s5 s6
  have h1 : MemSame pre s3.fst := State.readRow_memSame fo
  clear_value s3
  have h2 : MemSame pre s6 := h1
  clear_value s6
  split
  · exact MemSameO.next fo
  · rename_i y1 y2 y3
    apply MemSameO.ite
    · extract_lets s7
      apply MemSameO.next
      apply State.emit_memSame
      exact h2.same (Eq.refl _)
    · exact MemSameO.next fo

theorem State.setFlight_memSame {pre : State} {s : State} (fo : MemSame pre s) {n : Nat} {k : Option Packet} : MemSame pre (s.setFlight n k) := by
  unfold State.setFlight
  exact fo.same (Eq.refl _)

theorem State.answer_memSame {pre : State} {s : State} (fo : MemSame pre s) {k : Packet} {kind : Nat} : MemSame pre (s.answer k kind) := by
  unfold State.answer
  exact State.emit_memSame fo

theorem State.dlvRefused_memSame {pre : State} {s : State} (fo : MemSame pre s) {n : Nat} {k : Packet} : MemSame pre (s.dlvRefused n k) := by
  unfold State.dlvRefused
  exact State.answer_memSame (State.setFlight_memSame (State.record_memSame fo))

theorem execDeliveryAck_memSame {pre : State} {n : Nat} {s : State} (fo : MemSame pre s) : MemSameO pre (execDeliveryAck n s) := by
  unfold execDeliveryAck
  split
  · exact MemSameO.next fo
  · rename_i y1 y2 y3
    apply MemSameO.ite
    · extract_lets s1
      have h1 : MemSame pre s1 := State.setFlight_memSame fo
      clear_value s1
      exact MemSameO.next (MemSame.ite (State.setTag_memSame h1) h1)
    · exact MemSameO.next fo

theorem State.lostRecord_memSame {pre : State} {s : State} (fo : MemSame pre s) {t : Nat} {drow : Nat} {src : Nat} : MemSame pre (State.lostRecord s t drow src) := by
  unfold State.lostRecord
  exact State.tileRecord_memSame fo

theorem execDeliveryTimeout_memSame {pre : State} {n : Nat} {s : State} (fo : MemSame pre s) : MemSameO pre (execDeliveryTimeout n s) := by
  unfold execDeliveryTimeout
  split
  · exact MemSameO.next fo
  · rename_i y3 y4 y5
    split
    · exact MemSameO.next fo
    · exact MemSameO.ite (MemSameO.next fo) (MemSameO.next (State.answer_memSame (State.setFlight_memSame (State.lostRecord_memSame fo))))

theorem State.upset_memSame {pre : State} {s : State} (fo : MemSame pre s) {t : Nat} {l : List (Fin 1024 × Fin 64 × Fin 72)} : MemSame pre (s.upset t l) := by
  unfold State.upset
  exact State.updTile_memSame fo

theorem execScrubRow_memSame {pre : State} {tile : Tile} {upsets : List (Fin 1024 × Fin 64 × Fin 72)} {s : State} (fo : MemSame pre s) : MemSameO pre (execScrubRow tile upsets s) := by
  unfold execScrubRow
  extract_lets s1 s2 s3
  have h1 : MemSame pre s2 := State.upset_memSame fo
  clear_value s2
  have h2 : MemSame pre s3.fst := State.readRow_memSame h1
  clear_value s3
  exact MemSameO.ite (MemSameO.next (State.updTile_memSame h2)) (MemSameO.next h1)

theorem execBasinRowSpare_memSame {pre : State} {tile : Tile} {s : State} (fo : MemSame pre s) : MemSameO pre (execBasinRowSpare tile s) := by
  unfold execBasinRowSpare
  extract_lets s1 s2
  split
  · exact MemSameO.next fo
  · rename_i y1 y2 y3
    apply MemSameO.ite
    · extract_lets s3 s4
      have h1 : MemSame pre s3.fst := State.readRow_memSame fo
      clear_value s3
      have h2 : MemSame pre s4 := State.updTile_memSame h1
      clear_value s4
      exact MemSameO.next (State.tileRecord_memSame h2)
    · exact MemSameO.next fo

theorem State.basinRefuse_memSame {pre : State} {s : State} (fo : MemSame pre s) {p : Path} {addr : Nat} : MemSame pre (s.basinRefuse p addr) := by
  unfold State.basinRefuse
  extract_lets s1 s2
  have h1 : MemSame pre s2 := MemSame.ite (State.addReg_memSame fo) fo
  clear_value s2
  exact State.record_memSame h1

theorem State.basinRead_memSame {pre : State} {s : State} (fo : MemSame pre s) {p : Path} {addr : Nat} {len : Nat} : MemSame pre (s.basinRead p addr len) := by
  unfold State.basinRead
  extract_lets s1 s2 s3 s4 s5
  have h1 : MemSame pre s5.fst := by
    unfold s5
    apply foldl_memSame1
    · intro x1 x2 h1
      split
      · extract_lets s6
        have h2 : MemSame pre s6.fst := State.readWord_memSame h1
        clear_value s6
        exact h2
      · exact h1
    · exact fo
  clear_value s5
  exact MemSame.ite (State.emit_memSame fo) (MemSame.ite (MemSame.ite (State.emit_memSame fo) (State.emit_memSame h1)) (State.emit_memSame fo))

end Sys2Proof.Machine
end

