-- ==== Sys2Proof/Laws/Temps.lean ====
section
/-! SUPPORT. What the operations of Machine/Temps.lean keep: one lemma for each, by the lemmas of those that it calls. -/

namespace Sys2Proof.Machine

open Sys2Proof

theorem State.judgeOver_follows {pre : State} {s : State} (fo : Follows pre s) {site : Nat} : Follows pre (State.judgeOver s site) := by
  unfold State.judgeOver
  exact Follows.ite (fo.same (Eq.refl _) fo.mem (Eq.refl _) (Eq.refl _) (Eq.refl _) (Eq.refl _)) fo

theorem State.refreshTemp_follows {pre : State} {s : State} (fo : Follows pre s) {site : Nat} : Follows pre (State.refreshTemp s site) := by
  unfold State.refreshTemp
  extract_lets s1
  exact State.judgeOver_follows (State.setG_follows (State.setG_follows (State.setG_follows fo)))

theorem State.readDiode_follows {pre : State} {s : State} (fo : Follows pre s) {t : Nat} {v : Nat} : Follows pre (s.readDiode t v) := by
  unfold State.readDiode
  apply Follows.ite
  · exact fo
  · apply State.refreshTemp_follows
    exact fo.same (Eq.refl _) fo.mem (Eq.refl _) (Eq.refl _) (Eq.refl _) (Eq.refl _)

theorem State.readBase_follows {pre : State} {s : State} (fo : Follows pre s) {q : Nat} {v : Nat} : Follows pre (s.readBase q v) := by
  unfold State.readBase
  apply Follows.ite
  · exact fo
  · apply State.refreshTemp_follows
    exact fo.same (Eq.refl _) fo.mem (Eq.refl _) (Eq.refl _) (Eq.refl _) (Eq.refl _)

/-! ### Operations that leave memory alone -/

theorem State.judgeOver_memSame {pre : State} {s : State} (fo : MemSame pre s) {site : Nat} : MemSame pre (State.judgeOver s site) := by
  unfold State.judgeOver
  exact MemSame.ite (fo.same (Eq.refl _)) fo

theorem State.refreshTemp_memSame {pre : State} {s : State} (fo : MemSame pre s) {site : Nat} : MemSame pre (State.refreshTemp s site) := by
  unfold State.refreshTemp
  extract_lets s1
  exact State.judgeOver_memSame (State.setG_memSame (State.setG_memSame (State.setG_memSame fo)))

theorem State.readDiode_memSame {pre : State} {s : State} (fo : MemSame pre s) {t : Nat} {v : Nat} : MemSame pre (s.readDiode t v) := by
  unfold State.readDiode
  apply MemSame.ite
  · exact fo
  · apply State.refreshTemp_memSame
    exact fo.same (Eq.refl _)

theorem State.readBase_memSame {pre : State} {s : State} (fo : MemSame pre s) {q : Nat} {v : Nat} : MemSame pre (s.readBase q v) := by
  unfold State.readBase
  apply MemSame.ite
  · exact fo
  · apply State.refreshTemp_memSame
    exact fo.same (Eq.refl _)

end Sys2Proof.Machine
end

