-- ==== Sys2Proof/Laws/Calib.lean ====
section
/-! SUPPORT. What the operations of Machine/Calib.lean keep: one lemma for each, by the lemmas of those that it calls. -/

namespace Sys2Proof.Machine

open Sys2Proof

theorem State.passReq_follows {pre : State} {s : State} (fo : Follows pre s) {t : Nat} {mask : Nat} : Follows pre (s.passReq t mask) := by
  unfold State.passReq
  apply foldl_follows
  · intro x1 x2 h1
    exact State.requestPass_follows h1
  · exact fo

theorem execCalPassReq_follows {pre : State} {path : Path} {tile : Tile} {mask : Fin 512} {s : State} (fo : Follows pre s) : FollowsO pre (execCalPassReq path tile mask s) := by
  unfold execCalPassReq
  apply State.tileWrite_follows
  · exact fo
  · intro x1 h1
    exact State.passReq_follows h1

theorem execCalTemperatureTrigger_follows {pre : State} {tile : Tile} {reading : Fin 1024} {s : State} (fo : Follows pre s) : FollowsO pre (execCalTemperatureTrigger tile reading s) := by
  unfold execCalTemperatureTrigger
  extract_lets s1 s2 s3
  have h1 : Follows pre s3 := State.readDiode_follows fo
  clear_value s3
  apply FollowsO.next
  apply foldl_follows
  · intro x1 x2 h2
    exact Follows.ite (State.requestPass_follows h2) h2
  · exact h1

theorem State.startRemap_follows {pre : State} {s : State} (fo : Follows pre s) {t : Nat} {n : Nat} {pl : Nat} {g : Nat} : Follows pre (State.startRemap s t n pl g) := by
  unfold State.startRemap
  exact State.beginRemap_follows (State.calRecord_follows fo)

theorem State.storePass_follows {pre : State} {s : State} (fo : Follows pre s) {t : Nat} {pos : Nat} {p : PassSt} : Follows pre (s.storePass t pos p) := by
  unfold State.storePass
  apply Follows.ite
  · exact State.putPass_follows fo
  · exact fo.same (Eq.refl _) fo.mem (Eq.refl _) (Eq.refl _) (Eq.refl _) (Eq.refl _)

theorem execCalSolveDone_follows {pre : State} {tile : Tile} {pos : Fin 9} {s : State} (fo : Follows pre s) : FollowsO pre (execCalSolveDone tile pos s) := by
  unfold execCalSolveDone
  extract_lets s1
  split
  · rename_i y1 y2 y3 y4 y5 y6
    apply FollowsO.ite
    · exact FollowsO.next fo
    · extract_lets s2 s3 s4 s5
      have h1 : Follows pre s4.fst := by
        unfold s4
        apply foldl_follows1
        · intro x1 x2 h1
          extract_lets s6 s7 s8 s9 s10
          have h2 : Follows pre s6.snd := State.takeFree_follows h1
          clear_value s6
          have h3 : Follows pre s9 := h2
          clear_value s9
          dsimp only
          exact h3.same (Eq.refl _) h3.mem (Eq.refl _) (Eq.refl _) (Eq.refl _) (Eq.refl _)
        · exact fo
      clear_value s4
      have h2 : Follows pre s5 := State.setReg_follows (State.storePass_follows h1)
      clear_value s5
      apply FollowsO.next
      apply foldl_follows
      · intro x1 x2 h3
        exact State.startRemap_follows h3
      · exact h2
  · exact FollowsO.next fo

theorem State.snap_follows {pre : State} {s : State} (fo : Follows pre s) {t : Nat} : Follows pre (s.snap t) := by
  unfold State.snap
  exact State.setReg_follows (State.setMem_follows fo (MemOk.writeBytes (Follows.memOk fo)))

theorem execSnap_follows {pre : State} {path : Path} {tile : Tile} {s : State} (fo : Follows pre s) : FollowsO pre (execSnap path tile s) := by
  unfold execSnap
  apply State.tileWrite_follows
  · exact fo
  · intro x1 h1
    exact State.snap_follows h1

theorem State.applyBank_follows {pre : State} {s : State} (fo : Follows pre s) {t : Nat} {pos : Nat} {pl : Nat} {r : List Byte} : Follows pre (s.applyBank t pos pl r) := by
  unfold State.applyBank
  extract_lets s1 s2 s3 s4
  have h1 : Follows pre s4 := fo.same (Eq.refl _) fo.mem (Eq.refl _) (Eq.refl _) (Eq.refl _) (Eq.refl _)
  clear_value s4
  exact State.setReg_follows (State.setReg_follows h1)

theorem State.restoreTrims_follows {pre : State} {s : State} (fo : Follows pre s) {t : Nat} : Follows pre (State.restoreTrims s t).fst := by
  unfold State.restoreTrims
  extract_lets s1 s2 s3 s4 s5
  have h1 : ∀ {v1 : State} {v2 : Nat}, Follows pre v1 → Follows pre (s3 v1 v2).fst := by
    intro x1 x2 h2
    unfold s3
    extract_lets s6
    have h3 : Follows pre s6 := State.setReg_follows h2
    clear_value s6
    dsimp only
    exact Follows.ite h3 (State.calRecord_follows h3)
  clear_value s3
  have h4 : Follows pre s5.fst := by
    unfold s5
    apply foldl_follows1
    · intro x3 x4 h5
      extract_lets s7 s8
      split
      · rename_i y1
        dsimp only
        exact State.applyBank_follows h5
      · exact h5
    · exact fo
  clear_value s5
  split
  · exact h1 fo
  · exact h1 h4

theorem execRestore_follows {pre : State} {path : Path} {tile : Tile} {s : State} (fo : Follows pre s) : FollowsO pre (execRestore path tile s) := by
  unfold execRestore
  apply State.tileWrite_follows
  · exact fo
  · intro x1 h1
    exact Follows.ite (State.refuseStatic_follows h1) (State.restoreTrims_follows h1)

theorem State.monStale_follows {pre : State} {s : State} (fo : Follows pre s) {mon : Nat} {place : Nat} {on : Bool} : Follows pre (State.monStale s mon place on) := by
  unfold State.monStale
  extract_lets s1 s2 s3 s4
  apply Follows.ite
  · apply State.refreshTemp_follows
    exact fo.same (Eq.refl _) fo.mem (Eq.refl _) (Eq.refl _) (Eq.refl _) (Eq.refl _)
  · apply Follows.ite
    · apply State.refreshTemp_follows
      apply State.setReg_follows
      exact fo.same (Eq.refl _) fo.mem (Eq.refl _) (Eq.refl _) (Eq.refl _) (Eq.refl _)
    · apply Follows.ite
      · exact State.setReg_follows fo
      · exact fo.same (Eq.refl _) fo.mem (Eq.refl _) (Eq.refl _) (Eq.refl _) (Eq.refl _)

theorem execMonitorCalibration_follows {pre : State} {mon : Fin 4} {place : Tile} {ended : Bool} {ofs : Int} {gain : Int} {s : State} (fo : Follows pre s) : FollowsO pre (execMonitorCalibration mon place ended ofs gain s) := by
  unfold execMonitorCalibration
  extract_lets s1 s2 s3 s4 s5 s6
  have h1 : Follows pre s5 := by
    unfold s5
    apply State.monStale_follows
    exact fo.same (Eq.refl _) fo.mem (Eq.refl _) (Eq.refl _) (Eq.refl _) (Eq.refl _)
  clear_value s5
  apply FollowsO.ite
  · apply FollowsO.ite
    · apply FollowsO.ite
      · apply FollowsO.next
        exact h1.same (Eq.refl _) h1.mem (Eq.refl _) (Eq.refl _) (Eq.refl _) (Eq.refl _)
      · exact FollowsO.next (State.record_follows (State.addReg_follows h1))
    · exact FollowsO.next fo
  · apply FollowsO.ite
    · exact FollowsO.next fo
    · apply FollowsO.ite
      · exact FollowsO.next fo
      · apply FollowsO.next
        apply State.monStale_follows
        exact fo.same (Eq.refl _) fo.mem (Eq.refl _) (Eq.refl _) (Eq.refl _) (Eq.refl _)

/-! ### Operations that leave memory alone -/

theorem State.passReq_memSame {pre : State} {s : State} (fo : MemSame pre s) {t : Nat} {mask : Nat} : MemSame pre (s.passReq t mask) := by
  unfold State.passReq
  apply foldl_memSame
  · intro x1 x2 h1
    exact State.requestPass_memSame h1
  · exact fo

theorem execCalPassReq_memSame {pre : State} {path : Path} {tile : Tile} {mask : Fin 512} {s : State} (fo : MemSame pre s) : MemSameO pre (execCalPassReq path tile mask s) := by
  unfold execCalPassReq
  apply State.tileWrite_memSame
  · exact fo
  · intro x1 h1
    exact State.passReq_memSame h1

theorem execCalTemperatureTrigger_memSame {pre : State} {tile : Tile} {reading : Fin 1024} {s : State} (fo : MemSame pre s) : MemSameO pre (execCalTemperatureTrigger tile reading s) := by
  unfold execCalTemperatureTrigger
  extract_lets s1 s2 s3
  have h1 : MemSame pre s3 := State.readDiode_memSame fo
  clear_value s3
  apply MemSameO.next
  apply foldl_memSame
  · intro x1 x2 h2
    exact MemSame.ite (State.requestPass_memSame h2) h2
  · exact h1

theorem State.startRemap_memSame {pre : State} {s : State} (fo : MemSame pre s) {t : Nat} {n : Nat} {pl : Nat} {g : Nat} : MemSame pre (State.startRemap s t n pl g) := by
  unfold State.startRemap
  exact State.beginRemap_memSame (State.calRecord_memSame fo)

theorem State.storePass_memSame {pre : State} {s : State} (fo : MemSame pre s) {t : Nat} {pos : Nat} {p : PassSt} : MemSame pre (s.storePass t pos p) := by
  unfold State.storePass
  apply MemSame.ite
  · exact State.putPass_memSame fo
  · exact fo.same (Eq.refl _)

theorem execCalSolveDone_memSame {pre : State} {tile : Tile} {pos : Fin 9} {s : State} (fo : MemSame pre s) : MemSameO pre (execCalSolveDone tile pos s) := by
  unfold execCalSolveDone
  extract_lets s1
  split
  · rename_i y1 y2 y3 y4 y5 y6
    apply MemSameO.ite
    · exact MemSameO.next fo
    · extract_lets s2 s3 s4 s5
      have h1 : MemSame pre s4.fst := by
        unfold s4
        apply foldl_memSame1
        · intro x1 x2 h1
          extract_lets s6 s7 s8 s9 s10
          have h2 : MemSame pre s6.snd := State.takeFree_memSame h1
          clear_value s6
          have h3 : MemSame pre s9 := h2
          clear_value s9
          dsimp only
          exact h3.same (Eq.refl _)
        · exact fo
      clear_value s4
      have h2 : MemSame pre s5 := State.setReg_memSame (State.storePass_memSame h1)
      clear_value s5
      apply MemSameO.next
      apply foldl_memSame
      · intro x1 x2 h3
        exact State.startRemap_memSame h3
      · exact h2
  · exact MemSameO.next fo

theorem State.applyBank_memSame {pre : State} {s : State} (fo : MemSame pre s) {t : Nat} {pos : Nat} {pl : Nat} {r : List Byte} : MemSame pre (s.applyBank t pos pl r) := by
  unfold State.applyBank
  extract_lets s1 s2 s3 s4
  have h1 : MemSame pre s4 := fo.same (Eq.refl _)
  clear_value s4
  exact State.setReg_memSame (State.setReg_memSame h1)

theorem State.restoreTrims_memSame {pre : State} {s : State} (fo : MemSame pre s) {t : Nat} : MemSame pre (State.restoreTrims s t).fst := by
  unfold State.restoreTrims
  extract_lets s1 s2 s3 s4 s5
  have h1 : ∀ {v1 : State} {v2 : Nat}, MemSame pre v1 → MemSame pre (s3 v1 v2).fst := by
    intro x1 x2 h2
    unfold s3
    extract_lets s6
    have h3 : MemSame pre s6 := State.setReg_memSame h2
    clear_value s6
    dsimp only
    exact MemSame.ite h3 (State.calRecord_memSame h3)
  clear_value s3
  have h4 : MemSame pre s5.fst := by
    unfold s5
    apply foldl_memSame1
    · intro x3 x4 h5
      extract_lets s7 s8
      split
      · rename_i y1
        dsimp only
        exact State.applyBank_memSame h5
      · exact h5
    · exact fo
  clear_value s5
  split
  · exact h1 fo
  · exact h1 h4

theorem execRestore_memSame {pre : State} {path : Path} {tile : Tile} {s : State} (fo : MemSame pre s) : MemSameO pre (execRestore path tile s) := by
  unfold execRestore
  apply State.tileWrite_memSame
  · exact fo
  · intro x1 h1
    exact MemSame.ite (State.refuseStatic_memSame h1) (State.restoreTrims_memSame h1)

theorem State.monStale_memSame {pre : State} {s : State} (fo : MemSame pre s) {mon : Nat} {place : Nat} {on : Bool} : MemSame pre (State.monStale s mon place on) := by
  unfold State.monStale
  extract_lets s1 s2 s3 s4
  apply MemSame.ite
  · apply State.refreshTemp_memSame
    exact fo.same (Eq.refl _)
  · apply MemSame.ite
    · apply State.refreshTemp_memSame
      apply State.setReg_memSame
      exact fo.same (Eq.refl _)
    · apply MemSame.ite
      · exact State.setReg_memSame fo
      · exact fo.same (Eq.refl _)

theorem execMonitorCalibration_memSame {pre : State} {mon : Fin 4} {place : Tile} {ended : Bool} {ofs : Int} {gain : Int} {s : State} (fo : MemSame pre s) : MemSameO pre (execMonitorCalibration mon place ended ofs gain s) := by
  unfold execMonitorCalibration
  extract_lets s1 s2 s3 s4 s5 s6
  have h1 : MemSame pre s5 := by
    unfold s5
    apply State.monStale_memSame
    exact fo.same (Eq.refl _)
  clear_value s5
  apply MemSameO.ite
  · apply MemSameO.ite
    · apply MemSameO.ite
      · apply MemSameO.next
        exact h1.same (Eq.refl _)
      · exact MemSameO.next (State.record_memSame (State.addReg_memSame h1))
    · exact MemSameO.next fo
  · apply MemSameO.ite
    · exact MemSameO.next fo
    · apply MemSameO.ite
      · exact MemSameO.next fo
      · apply MemSameO.next
        apply State.monStale_memSame
        exact fo.same (Eq.refl _)

end Sys2Proof.Machine
end

