-- ==== Sys2Proof/Laws/StwBase.lean ====
section
/-! SUPPORT. What the operations of Machine/StwBase.lean keep: one lemma for each, by the lemmas of those that it calls. -/

namespace Sys2Proof.Machine

open Sys2Proof

theorem State.pickRims_follows {pre : State} {s : State} (fo : Follows pre s) : Follows pre (State.pickRims s).snd := by
  unfold State.pickRims
  extract_lets s1 s2 s3
  have h1 : Follows pre s1.snd := State.takeFree_follows fo
  clear_value s1
  have h2 : Follows pre s2.snd := State.takeFree_follows h1
  clear_value s2
  exact h2

theorem State.trWrite_follows {pre : State} {s : State} (fo : Follows pre s) {p : Nat} {r : Nat} {pos : Nat} {tok : Nat} : Follows pre (s.trWrite p r pos tok) := by
  unfold State.trWrite
  split
  · exact fo
  · rename_i y1 y2 y3
    exact State.setMem_follows fo (MemOk.writeLE (MemOk.writeLE (Follows.memOk fo)))

theorem State.allocPage_follows {pre : State} {s : State} (fo : Follows pre s) {p : Nat} {r : Nat} {a : AttTile} {j : Nat} : Follows pre (s.allocPage p r a j) := by
  unfold State.allocPage
  split
  · exact fo
  · rename_i y1 y2 y3
    extract_lets s1 s2 s3 s4
    have h1 : Follows pre s3 := State.setPage_follows fo
    clear_value s3
    have h2 : MemOk pre s4 := MemOk.zero (MemOk.zero (Follows.memOk h1))
    clear_value s4
    exact State.setMem_follows h1 h2

theorem State.allocPages_follows {pre : State} {s : State} (fo : Follows pre s) {p : Nat} {r : Nat} {lp : Nat} : Follows pre (s.allocPages p r lp) := by
  unfold State.allocPages
  apply foldl_follows
  · intro x1 x2 h1
    apply foldl_follows
    · intro x3 x4 h2
      exact State.allocPage_follows h2
    · exact h1
  · exact fo

theorem State.freeReqPages_follows {pre : State} {s : State} (fo : Follows pre s) {r : Nat} : Follows pre (s.freeReqPages r) := by
  unfold State.freeReqPages
  exact fo.same (Eq.refl _) fo.mem (Eq.refl _) (Eq.refl _) (Eq.refl _) (Eq.refl _)

theorem State.writeLists_follows {pre : State} {s : State} (fo : Follows pre s) {p : Nat} {r : Nat} {sl : Nat} {lp : Nat} : Follows pre (s.writeLists p r sl lp) := by
  unfold State.writeLists
  apply foldl_follows
  · intro x1 x2 h1
    exact State.storeWords_follows h1
  · exact fo

theorem State.pushRec_follows {pre : State} {s : State} (fo : Follows pre s) {p : Nat} {x : OutRec} : Follows pre (s.pushRec p x) := by
  unfold State.pushRec
  exact State.updPart_follows fo

theorem State.ringSignal_follows {pre : State} {s : State} (fo : Follows pre s) {p : Nat} : Follows pre (s.ringSignal p) := by
  unfold State.ringSignal
  exact State.updPart_follows (State.msix_follows fo)

theorem State.modCheck_follows {pre : State} {s : State} (fo : Follows pre s) {p : Nat} : Follows pre (s.modCheck p) := by
  unfold State.modCheck
  extract_lets s1 s2
  exact Follows.ite (State.ringSignal_follows fo) fo

theorem State.ringPut_follows {pre : State} {s : State} (fo : Follows pre s) {p : Nat} {f : Bool → List Nat} {o : List Nat → Out} : Follows pre (State.ringPut s p f o) := by
  unfold State.ringPut
  extract_lets s1 s2 s3 s4 s5 s6 s7
  have h1 : Follows pre s5 := by
    unfold s5
    apply State.setMem_follows
    · exact fo
    · apply MemOk.writeBytes
      apply MemOk.writeBytes
      exact Follows.memOk fo
  clear_value s5
  have h2 : Follows pre s6 := Follows.ite (State.record_follows (State.setReg_follows (State.setReg_follows h1))) h1
  clear_value s6
  have h3 : Follows pre s7 := State.setG_follows (State.emit_follows h2)
  clear_value s7
  exact State.modCheck_follows (State.updPart_follows h3)

theorem State.writeRec_follows {pre : State} {s : State} (fo : Follows pre s) {p : Nat} {x : OutRec} : Follows pre (s.writeRec p x) := by
  unfold State.writeRec
  apply Follows.ite
  · extract_lets s1
    apply foldl_follows
    · intro x1 x2 h1
      exact State.ringPut_follows h1
    · exact fo
  · exact State.ringPut_follows fo

theorem State.drainList_follows {pre : State} {p : Nat} {l : List OutRec} : ∀ {s : State}, Follows pre s → Follows pre (s.drainList p l) := by
  induction l with
  | nil => intro s h; exact State.updPart_follows h
  | cons x l ih =>
    intro s h
    unfold State.drainList
    exact Follows.ite (ih (State.writeRec_follows h)) (State.updPart_follows h)

theorem State.drainQueue_follows {pre : State} {s : State} (fo : Follows pre s) {p : Nat} : Follows pre (s.drainQueue p) := by
  unfold State.drainQueue
  exact Follows.ite fo (State.drainList_follows fo)

theorem State.outRec_follows {pre : State} {s : State} (fo : Follows pre s) {p : Nat} {x : OutRec} : Follows pre (s.outRec p x) := by
  unfold State.outRec
  apply Follows.ite
  · exact State.writeRec_follows fo
  · extract_lets s1
    have h1 : Follows pre s1 := Follows.ite fo (State.record_follows fo)
    clear_value s1
    exact State.updPart_follows h1

theorem State.journalCopies_follows {pre : State} {s : State} (fo : Follows pre s) : Follows pre (State.journalCopies s).snd := by
  unfold State.journalCopies
  split
  · exact fo
  · rename_i y2
    extract_lets s1
    have h1 : Follows pre s1.snd := State.pickRims_follows fo
    clear_value s1
    exact h1

theorem State.journalAcc_follows {pre : State} {s : State} (fo : Follows pre s) {p : Nat} : Follows pre (State.journalAcc s p) := by
  unfold State.journalAcc
  extract_lets s1 s2
  have h1 : Follows pre s2.snd := State.journalCopies_follows fo
  clear_value s2
  exact Follows.ite fo (State.setPart_follows h1)

theorem State.unbind_follows {pre : State} {s : State} (fo : Follows pre s) {p : Nat} {r : Nat} : Follows pre (s.unbind p r) := by
  unfold State.unbind
  exact State.updReq_follows (State.updPart_follows fo)

theorem State.endTwin_follows {pre : State} {s : State} (fo : Follows pre s) {w : Nat} : Follows pre (s.endTwin w) := by
  unfold State.endTwin
  extract_lets s1 s2
  exact State.setReq_follows (State.freeReqPages_follows (State.unbind_follows fo))

theorem State.release_follows {pre : State} {s : State} (fo : Follows pre s) {p : Nat} {r : Nat} : Follows pre (s.release p r) := by
  unfold State.release
  extract_lets s1
  have h1 : Follows pre s1 := State.updReq_follows (State.freeReqPages_follows (State.unbind_follows fo))
  clear_value s1
  split
  · rename_i y1 y2 y3
    exact State.endTwin_follows h1
  · exact h1

theorem State.endReq_follows {pre : State} {s : State} (fo : Follows pre s) {p : Nat} {r : Nat} {st : Nat} {reason : Nat} {toks : List Nat} {seq : Nat} {accepted : Nat} {degraded : Bool} : Follows pre (State.endReq s p r st reason toks seq accepted degraded) := by
  unfold State.endReq
  extract_lets s1 s2 s3 s4
  have h1 : Follows pre s2 := State.release_follows (State.updReq_follows fo)
  clear_value s2
  have h2 : Follows pre s3 := Follows.ite (State.tell_follows h1) h1
  clear_value s3
  exact State.pushRec_follows h2

theorem State.endPlain_follows {pre : State} {s : State} (fo : Follows pre s) {p : Nat} {r : Nat} {st : Nat} {reason : Nat} : Follows pre (s.endPlain p r st reason) := by
  unfold State.endPlain
  exact State.endReq_follows fo

theorem State.reqRecord_follows {pre : State} {s : State} (fo : Follows pre s) {p : Nat} {r : Nat} {code : Nat} : Follows pre (s.reqRecord p r code) := by
  unfold State.reqRecord
  exact State.record_follows fo

theorem State.failReq_follows {pre : State} {s : State} (fo : Follows pre s) {p : Nat} {r : Nat} {reason : Nat} {code : Nat} : Follows pre (s.failReq p r reason code) := by
  unfold State.failReq
  exact State.endPlain_follows (State.reqRecord_follows fo)

theorem State.setAside_follows {pre : State} {s : State} (fo : Follows pre s) {p : Nat} {r : Nat} {st : Nat} {reason : Nat} {toks : List Nat} {seq : Nat} {accepted : Nat} {degraded : Bool} : Follows pre (s.setAside p r st reason toks seq accepted degraded) := by
  unfold State.setAside
  extract_lets s1 s2 s3 s4
  have h1 : Follows pre s2 := State.updReq_follows (State.unbind_follows fo)
  clear_value s2
  have h2 : Follows pre s4 := State.pushRec_follows h1
  clear_value s4
  split
  · rename_i y1 y2 y3
    exact State.endTwin_follows h2
  · exact h2

theorem State.dropLost_follows {pre : State} {s : State} (fo : Follows pre s) {r : Nat} : Follows pre (s.dropLost r) := by
  unfold State.dropLost
  exact fo.same (Eq.refl _) fo.mem (Eq.refl _) (Eq.refl _) (Eq.refl _) (Eq.refl _)

theorem State.replayReq_follows {pre : State} {s : State} (fo : Follows pre s) {p : Nat} {r : Nat} : Follows pre (s.replayReq p r) := by
  unfold State.replayReq
  extract_lets s1 s2 s3 s4 s5 s6 s7
  have h1 : Follows pre s5 := State.updPart_follows (State.dropLost_follows fo)
  clear_value s5
  have h2 : Follows pre s6 := State.updReq_follows (State.unbind_follows h1)
  clear_value s6
  have h3 : Follows pre s7 := State.reqRecord_follows h2
  clear_value s7
  apply Follows.ite
  · exact fo
  · apply Follows.ite
    · exact State.updReq_follows (State.unbind_follows (State.dropLost_follows fo))
    · apply Follows.ite
      · exact State.failReq_follows fo
      · split
        · rename_i y1 y2 y3
          exact State.updReq_follows h3
        · exact h3

/-! ### Operations that leave memory alone -/

theorem State.pickRims_memSame {pre : State} {s : State} (fo : MemSame pre s) : MemSame pre (State.pickRims s).snd := by
  unfold State.pickRims
  extract_lets s1 s2 s3
  have h1 : MemSame pre s1.snd := State.takeFree_memSame fo
  clear_value s1
  have h2 : MemSame pre s2.snd := State.takeFree_memSame h1
  clear_value s2
  exact h2

theorem State.freeReqPages_memSame {pre : State} {s : State} (fo : MemSame pre s) {r : Nat} : MemSame pre (s.freeReqPages r) := by
  unfold State.freeReqPages
  exact fo.same (Eq.refl _)

theorem State.pushRec_memSame {pre : State} {s : State} (fo : MemSame pre s) {p : Nat} {x : OutRec} : MemSame pre (s.pushRec p x) := by
  unfold State.pushRec
  exact State.updPart_memSame fo

theorem State.ringSignal_memSame {pre : State} {s : State} (fo : MemSame pre s) {p : Nat} : MemSame pre (s.ringSignal p) := by
  unfold State.ringSignal
  exact State.updPart_memSame (State.msix_memSame fo)

theorem State.modCheck_memSame {pre : State} {s : State} (fo : MemSame pre s) {p : Nat} : MemSame pre (s.modCheck p) := by
  unfold State.modCheck
  extract_lets s1 s2
  exact MemSame.ite (State.ringSignal_memSame fo) fo

theorem State.journalCopies_memSame {pre : State} {s : State} (fo : MemSame pre s) : MemSame pre (State.journalCopies s).snd := by
  unfold State.journalCopies
  split
  · exact fo
  · rename_i y2
    extract_lets s1
    have h1 : MemSame pre s1.snd := State.pickRims_memSame fo
    clear_value s1
    exact h1

theorem State.journalAcc_memSame {pre : State} {s : State} (fo : MemSame pre s) {p : Nat} : MemSame pre (State.journalAcc s p) := by
  unfold State.journalAcc
  extract_lets s1 s2
  have h1 : MemSame pre s2.snd := State.journalCopies_memSame fo
  clear_value s2
  exact MemSame.ite fo (State.setPart_memSame h1)

theorem State.unbind_memSame {pre : State} {s : State} (fo : MemSame pre s) {p : Nat} {r : Nat} : MemSame pre (s.unbind p r) := by
  unfold State.unbind
  exact State.updReq_memSame (State.updPart_memSame fo)

theorem State.endTwin_memSame {pre : State} {s : State} (fo : MemSame pre s) {w : Nat} : MemSame pre (s.endTwin w) := by
  unfold State.endTwin
  extract_lets s1 s2
  exact State.setReq_memSame (State.freeReqPages_memSame (State.unbind_memSame fo))

theorem State.release_memSame {pre : State} {s : State} (fo : MemSame pre s) {p : Nat} {r : Nat} : MemSame pre (s.release p r) := by
  unfold State.release
  extract_lets s1
  have h1 : MemSame pre s1 := State.updReq_memSame (State.freeReqPages_memSame (State.unbind_memSame fo))
  clear_value s1
  split
  · rename_i y1 y2 y3
    exact State.endTwin_memSame h1
  · exact h1

theorem State.endReq_memSame {pre : State} {s : State} (fo : MemSame pre s) {p : Nat} {r : Nat} {st : Nat} {reason : Nat} {toks : List Nat} {seq : Nat} {accepted : Nat} {degraded : Bool} : MemSame pre (State.endReq s p r st reason toks seq accepted degraded) := by
  unfold State.endReq
  extract_lets s1 s2 s3 s4
  have h1 : MemSame pre s2 := State.release_memSame (State.updReq_memSame fo)
  clear_value s2
  have h2 : MemSame pre s3 := MemSame.ite (State.tell_memSame h1) h1
  clear_value s3
  exact State.pushRec_memSame h2

theorem State.endPlain_memSame {pre : State} {s : State} (fo : MemSame pre s) {p : Nat} {r : Nat} {st : Nat} {reason : Nat} : MemSame pre (s.endPlain p r st reason) := by
  unfold State.endPlain
  exact State.endReq_memSame fo

theorem State.reqRecord_memSame {pre : State} {s : State} (fo : MemSame pre s) {p : Nat} {r : Nat} {code : Nat} : MemSame pre (s.reqRecord p r code) := by
  unfold State.reqRecord
  exact State.record_memSame fo

theorem State.failReq_memSame {pre : State} {s : State} (fo : MemSame pre s) {p : Nat} {r : Nat} {reason : Nat} {code : Nat} : MemSame pre (s.failReq p r reason code) := by
  unfold State.failReq
  exact State.endPlain_memSame (State.reqRecord_memSame fo)

theorem State.setAside_memSame {pre : State} {s : State} (fo : MemSame pre s) {p : Nat} {r : Nat} {st : Nat} {reason : Nat} {toks : List Nat} {seq : Nat} {accepted : Nat} {degraded : Bool} : MemSame pre (s.setAside p r st reason toks seq accepted degraded) := by
  unfold State.setAside
  extract_lets s1 s2 s3 s4
  have h1 : MemSame pre s2 := State.updReq_memSame (State.unbind_memSame fo)
  clear_value s2
  have h2 : MemSame pre s4 := State.pushRec_memSame h1
  clear_value s4
  split
  · rename_i y1 y2 y3
    exact State.endTwin_memSame h2
  · exact h2

theorem State.dropLost_memSame {pre : State} {s : State} (fo : MemSame pre s) {r : Nat} : MemSame pre (s.dropLost r) := by
  unfold State.dropLost
  exact fo.same (Eq.refl _)

theorem State.replayReq_memSame {pre : State} {s : State} (fo : MemSame pre s) {p : Nat} {r : Nat} : MemSame pre (s.replayReq p r) := by
  unfold State.replayReq
  extract_lets s1 s2 s3 s4 s5 s6 s7
  have h1 : MemSame pre s5 := State.updPart_memSame (State.dropLost_memSame fo)
  clear_value s5
  have h2 : MemSame pre s6 := State.updReq_memSame (State.unbind_memSame h1)
  clear_value s6
  have h3 : MemSame pre s7 := State.reqRecord_memSame h2
  clear_value s7
  apply MemSame.ite
  · exact fo
  · apply MemSame.ite
    · exact State.updReq_memSame (State.unbind_memSame (State.dropLost_memSame fo))
    · apply MemSame.ite
      · exact State.failReq_memSame fo
      · split
        · rename_i y1 y2 y3
          exact State.updReq_memSame h3
        · exact h3

end Sys2Proof.Machine
end

