-- ==== Sys2Proof/Laws/StwBoundary.lean ====
section
/-! SUPPORT. What the operations of Machine/StwBoundary.lean keep: one lemma for each, by the lemmas of those that it calls. -/

namespace Sys2Proof.Machine

open Sys2Proof

theorem State.takeResult_follows {pre : State} {s : State} (fo : Follows pre s) {p : Nat} : Follows pre (s.takeResult p).fst := by
  unfold State.takeResult
  split
  · exact fo
  · rename_i y1 y2 y3 y4
    extract_lets s1 s2 s3
    have h1 : Follows pre s1.fst := State.readRow_follows fo
    clear_value s1
    have h2 : Follows pre s3 := h1
    clear_value s3
    split
    · dsimp only
      exact State.setReg_follows (State.setReg_follows h2)
    · exact h2

theorem State.appendToks_follows {pre : State} {p : Nat} {r : Nat} {pos : Nat} {l : List Nat} : ∀ {s : State}, Follows pre s → Follows pre (s.appendToks p r pos l) := by
  induction l generalizing pos with
  | nil => intro s h; exact h
  | cons t l ih => intro s h; exact ih (State.trWrite_follows h)

theorem State.setBack_follows {pre : State} {s : State} (fo : Follows pre s) {r : Nat} : Follows pre (s.setBack r) := by
  unfold State.setBack
  split
  · exact fo
  · rename_i y1 y2 y3
    extract_lets s1
    exact State.updReq_follows (State.updPart_follows fo)

theorem State.commitResult_follows {pre : State} {s : State} (fo : Follows pre s) {p : Nat} {b : SlotBind} {data : List Byte} : Follows pre (s.commitResult p b data).fst := by
  unfold State.commitResult
  extract_lets s1 s2 s3 s4 s5 s6 s7
  have h1 : Follows pre s6 := State.appendToks_follows fo
  clear_value s6
  have h2 : Follows pre s7 := State.setBack_follows (State.updReq_follows h1)
  clear_value s7
  split
  · dsimp only
    exact State.updReq_follows fo
  · exact h2

theorem State.resolve_follows {pre : State} {s : State} (fo : Follows pre s) {p : Nat} : Follows pre (State.resolve s p).fst := by
  unfold State.resolve
  split
  · exact fo
  · rename_i y3 y4 y5 y6
    extract_lets s1 s2 s3
    have h1 : Follows pre s2.fst := by
      unfold s2
      split
      · exact fo
      · exact State.takeResult_follows fo
    clear_value s2
    have h2 : Follows pre s3 := State.updPart_follows h1
    clear_value s3
    split
    · exact h2
    · rename_i y10
      split
      · rename_i y11
        dsimp only
        exact Follows.ite (State.updReq_follows h2) h2
      · rename_i y12
        split
        · rename_i y13 y14
          dsimp only
          exact State.replayReq_follows (State.reqRecord_follows h2)
        · rename_i y15 y16 y17
          extract_lets s4
          have h3 : Follows pre s4.fst := State.commitResult_follows h2
          clear_value s4
          exact h3

theorem State.forwardResult_follows {pre : State} {s : State} (fo : Follows pre s) {p : Nat} : Follows pre (s.forwardResult p) := by
  unfold State.forwardResult
  have h1 : Follows pre (s.takeResult p).fst := State.takeResult_follows fo
  generalize s.takeResult p = d1 at h1 ⊢
  split
  · rename_i y1 y2 y3
    exact State.tell_follows h1
  · rename_i y1 y2
    exact h1

theorem State.freeShadow_follows {pre : State} {s : State} (fo : Follows pre s) {p : Nat} {h : Nat} : Follows pre (s.freeShadow p h) := by
  unfold State.freeShadow
  split
  · exact fo
  · rename_i y1 y2 y3
    extract_lets s1 s2 s3
    have h1 : Follows pre s2 := State.setReq_follows (State.freeReqPages_follows fo)
    clear_value s2
    exact h1.same (Eq.refl _) h1.mem (Eq.refl _) (Eq.refl _) (Eq.refl _) (Eq.refl _)

theorem State.memberBoundary_follows {pre : State} {s : State} (fo : Follows pre s) {p : Nat} : Follows pre (State.memberBoundary s p) := by
  unfold State.memberBoundary
  extract_lets s1
  have h1 : Follows pre s1 := by
    unfold s1
    apply State.updPart_follows
    apply foldl_follows
    · intro x1 x2 h2
      exact State.freeShadow_follows h2
    · exact fo
  clear_value s1
  apply foldl_follows
  · intro x3 x4 h3
    apply Follows.ite
    · apply State.dropLost_follows
      apply foldl_follows
      · intro x5 x6 h4
        exact State.tell_follows h4
      · exact h3
    · exact h3
  · exact h1

theorem State.refusePause_follows {pre : State} {s : State} (fo : Follows pre s) {p : Nat} {r : Nat} : Follows pre (s.refusePause p r) := by
  unfold State.refusePause
  exact State.reqRecord_follows (State.setG_follows (State.addReg_follows (State.updReq_follows fo)))

theorem State.tokensOnly_follows {pre : State} {s : State} (fo : Follows pre s) {p : Nat} {r : Nat} {c : Commit} : Follows pre (s.tokensOnly p r c) := by
  unfold State.tokensOnly
  exact Follows.ite fo (State.updReq_follows (State.pushRec_follows fo))

theorem State.observeResume_follows {pre : State} {s : State} (fo : Follows pre s) {p : Nat} {r : Nat} : Follows pre (State.observeResume s p r) := by
  unfold State.observeResume
  extract_lets s1
  exact Follows.ite (Follows.ite (State.updReq_follows fo) (Follows.ite fo (State.failReq_follows fo))) fo

theorem State.reqEvents_follows {pre : State} {s : State} (fo : Follows pre s) {p : Nat} {r : Nat} {c : Commit} : Follows pre (State.reqEvents s p r c) := by
  unfold State.reqEvents
  extract_lets s1 s2 s3 s4 s5
  have h1 : ∀ {v1 : Nat} {v2 : Nat} {v3 : State}, Follows pre v3 → Follows pre (s4 v1 v2 v3) := by
    intro x1 x2 x3 h2
    unfold s4
    exact State.endReq_follows h2
  clear_value s4
  have h3 : ∀ {v1 : Nat} {v2 : Nat} {v3 : State}, Follows pre v3 → Follows pre (s5 v1 v2 v3) := by
    intro x4 x5 x6 h4
    unfold s5
    exact State.setAside_follows h4
  clear_value s5
  exact Follows.ite fo (Follows.ite (h1 fo) (Follows.ite (h1 fo) (Follows.ite (h1 fo) (Follows.ite (h1 (State.reqRecord_follows fo)) (Follows.ite (h1 fo) (Follows.ite (h1 (State.reqRecord_follows fo)) (Follows.ite (h3 (Follows.ite fo (State.updReq_follows (State.reqRecord_follows fo)))) (Follows.ite (Follows.ite (h3 fo) (State.tokensOnly_follows (State.refusePause_follows fo))) (Follows.ite (h3 fo) (State.observeResume_follows (State.tokensOnly_follows fo)))))))))))

theorem State.noteFull_follows {pre : State} {s : State} (fo : Follows pre s) {p : Nat} : Follows pre (State.noteFull s p) := by
  unfold State.noteFull
  exact Follows.ite (State.updPart_follows (State.record_follows fo)) fo

theorem State.allEvents_follows {pre : State} {s : State} (fo : Follows pre s) {p : Nat} {res : Option (Nat × Commit)} : Follows pre (State.allEvents s p res) := by
  unfold State.allEvents
  apply State.noteFull_follows
  apply foldl_follows
  · intro x1 x2 h1
    exact State.updReq_follows (State.reqEvents_follows h1)
  · exact fo

theorem State.makeTwin_follows {pre : State} {s : State} (fo : Follows pre s) {p : Nat} {r : Nat} : Follows pre (s.makeTwin p r) := by
  unfold State.makeTwin
  extract_lets s1 s2 s3
  split
  · exact Follows.ite fo (State.updPart_follows (State.reqRecord_follows fo))
  · rename_i y1 y2 y3
    extract_lets s4
    exact State.updReq_follows (State.setReq_follows fo)

theorem State.makeTwins_follows {pre : State} {s : State} (fo : Follows pre s) {p : Nat} : Follows pre (s.makeTwins p) := by
  unfold State.makeTwins
  apply Follows.ite
  · apply foldl_follows
    · intro x1 x2 h1
      extract_lets s1
      exact Follows.ite (State.makeTwin_follows h1) h1
    · exact fo
  · exact fo

theorem State.replayLost_follows {pre : State} {s : State} (fo : Follows pre s) {p : Nat} : Follows pre (s.replayLost p) := by
  unfold State.replayLost
  apply foldl_follows
  · intro x1 x2 h1
    exact Follows.ite (State.replayReq_follows h1) h1
  · exact fo

theorem State.retireWeak_follows {pre : State} {s : State} (fo : Follows pre s) {p : Nat} : Follows pre (s.retireWeak p) := by
  unfold State.retireWeak
  apply foldl_follows
  · intro x1 x2 h1
    extract_lets s1 s2
    have h2 : Follows pre s2 := by
      unfold s2
      apply foldl_follows
      · intro x3 x4 h2
        extract_lets s3 s4
        exact State.setPage_follows h2
      · exact h1
    clear_value s2
    exact State.updTile_follows h2
  · exact fo

theorem State.reserve_follows {pre : State} {s : State} (fo : Follows pre s) {p : Nat} {r : Nat} : Follows pre (State.reserve s p r) := by
  unfold State.reserve
  extract_lets s1 s2
  have h1 : Follows pre s2.snd := State.pickRims_follows fo
  clear_value s2
  split
  · exact fo
  · exact State.updReq_follows h1

theorem State.admitOne_follows {pre : State} {s : State} (fo : Follows pre s) {p : Nat} {r : Nat} : Follows pre (State.admitOne s p r) := by
  unfold State.admitOne
  extract_lets s1
  exact Follows.ite fo (Follows.ite fo (Follows.ite (State.failReq_follows fo) (Follows.ite (State.failReq_follows (State.setG_follows fo)) (Follows.ite (State.reserve_follows fo) (Follows.ite (State.updReq_follows fo) fo)))))

theorem State.admitRequests_follows {pre : State} {s : State} (fo : Follows pre s) {p : Nat} : Follows pre (s.admitRequests p) := by
  unfold State.admitRequests
  apply Follows.ite
  · apply foldl_follows
    · intro x1 x2 h1
      exact State.admitOne_follows h1
    · exact fo
  · exact fo

theorem State.preempt_follows {pre : State} {s : State} (fo : Follows pre s) {p : Nat} {r : Nat} {lp : Nat} {promised : List (Nat × Nat)} : Follows pre (State.preempt s p r lp promised).fst := by
  unfold State.preempt
  extract_lets s1
  split
  · exact fo
  · rename_i y3 y4 y5
    dsimp only
    apply foldl_follows
    · intro x1 x2 h1
      exact State.setAside_follows h1
    · exact fo

theorem State.preemptAll_follows {pre : State} {s : State} (fo : Follows pre s) {p : Nat} : Follows pre (State.preemptAll s p) := by
  unfold State.preemptAll
  apply Follows.ite
  · exact fo
  · apply foldl_follows1
    · intro x1 x2 h1
      extract_lets s1 s2
      have h2 : Follows pre s2.fst := by
        unfold s2
        split
        · exact h1
        · exact State.preempt_follows h1
      clear_value s2
      exact h2
    · exact fo

theorem State.pushRow_follows {pre : State} {s : State} (fo : Follows pre s) {p : Nat} {sl : Nat} {b : List Byte} : Follows pre (s.pushRow p sl b) := by
  unfold State.pushRow
  exact State.updPart_follows fo

theorem State.emptyPass_follows {pre : State} {s : State} (fo : Follows pre s) {p : Nat} {sl : Nat} {r : Option Nat} : Follows pre (s.emptyPass p sl r) := by
  unfold State.emptyPass
  extract_lets s1
  have h1 : Follows pre s1 := State.pushRow_follows fo
  clear_value s1
  split
  · rename_i y1 y2
    exact State.updReq_follows h1
  · exact h1

theorem State.bindPass_follows {pre : State} {s : State} (fo : Follows pre s) {p : Nat} {r : Nat} {sl : Nat} : Follows pre (State.bindPass s p r sl) := by
  unfold State.bindPass
  extract_lets s1 s2 s3 s4 s5 s6 s7
  have h1 : Follows pre s5 := State.pushRow_follows (State.writeLists_follows (State.allocPages_follows fo))
  clear_value s5
  have h2 : Follows pre s6 := State.updPart_follows h1
  clear_value s6
  have h3 : Follows pre s7 := State.updReq_follows h2
  clear_value s7
  exact Follows.ite (State.tell_follows h3) h3

theorem State.holderPass_follows {pre : State} {s : State} (fo : Follows pre s) {p : Nat} {r : Nat} {sl : Nat} : Follows pre (s.holderPass p r sl) := by
  unfold State.holderPass
  extract_lets s1 s2 s3
  have h1 : Follows pre s2.fst := by
    unfold s2
    split
    · exact fo
    · exact State.preempt_follows fo
  clear_value s2
  have h2 : Follows pre s3 := State.emptyPass_follows h1
  clear_value s3
  exact Follows.ite (State.emptyPass_follows fo) (Follows.ite (State.bindPass_follows fo) (Follows.ite h2 (State.updPart_follows (State.reqRecord_follows h2))))

theorem State.bindSlot_follows {pre : State} {s : State} (fo : Follows pre s) {p : Nat} : Follows pre (s.bindSlot p) := by
  unfold State.bindSlot
  extract_lets s1 s2 s3
  apply Follows.ite
  · exact State.emptyPass_follows fo
  · split
    · rename_i y1 y2 y3
      exact State.holderPass_follows fo
    · split
      · rename_i y1 y2 y3 y4 y5
        exact State.bindPass_follows fo
      · exact State.emptyPass_follows fo

theorem State.markDegraded_follows {pre : State} {s : State} (fo : Follows pre s) {p : Nat} : Follows pre (State.markDegraded s p) := by
  unfold State.markDegraded
  apply Follows.ite
  · extract_lets s1 s2
    have h1 : Follows pre s1.snd := State.takeFree_follows fo
    clear_value s1
    exact State.updPart_follows h1
  · exact fo

theorem State.stewardCommit_follows {pre : State} {s : State} (fo : Follows pre s) {p : Nat} : Follows pre (State.stewardCommit s p) := by
  unfold State.stewardCommit
  extract_lets s1 s2 s3 s4
  have h1 : Follows pre s1 := State.markDegraded_follows fo
  clear_value s1
  have h2 : Follows pre s2.fst := State.resolve_follows h1
  clear_value s2
  have h3 : Follows pre s3 := State.retireWeak_follows (State.allEvents_follows h2)
  clear_value s3
  have h4 : Follows pre s4 := Follows.ite h3 (State.bindSlot_follows (State.preemptAll_follows (State.admitRequests_follows (State.replayLost_follows (State.makeTwins_follows h3)))))
  clear_value s4
  exact Follows.ite (State.updPart_follows h1) (Follows.ite (State.updPart_follows (State.memberBoundary_follows (State.retireWeak_follows (State.forwardResult_follows h1)))) (State.updPart_follows (State.journalAcc_follows h4)))

theorem State.journalDone_follows {pre : State} {s : State} (fo : Follows pre s) {p : Nat} : Follows pre (s.journalDone p) := by
  unfold State.journalDone
  split
  · exact fo
  · rename_i y1 y2 y3 y4
    extract_lets s1 s2 s3
    have h1 : Follows pre s1 := State.updPart_follows fo
    clear_value s1
    have h2 : Follows pre s2 := by
      unfold s2
      apply foldl_follows
      · intro x1 x2 h2
        exact State.outRec_follows h2
      · exact h1
    clear_value s2
    exact h2.same (Eq.refl _) h2.mem (Eq.refl _) (Eq.refl _) (Eq.refl _) (Eq.refl _)

/-! ### Operations that leave memory alone -/

theorem State.takeResult_memSame {pre : State} {s : State} (fo : MemSame pre s) {p : Nat} : MemSame pre (s.takeResult p).fst := by
  unfold State.takeResult
  split
  · exact fo
  · rename_i y1 y2 y3 y4
    extract_lets s1 s2 s3
    have h1 : MemSame pre s1.fst := State.readRow_memSame fo
    clear_value s1
    have h2 : MemSame pre s3 := h1
    clear_value s3
    split
    · dsimp only
      exact State.setReg_memSame (State.setReg_memSame h2)
    · exact h2

theorem State.setBack_memSame {pre : State} {s : State} (fo : MemSame pre s) {r : Nat} : MemSame pre (s.setBack r) := by
  unfold State.setBack
  split
  · exact fo
  · rename_i y1 y2 y3
    extract_lets s1
    exact State.updReq_memSame (State.updPart_memSame fo)

theorem State.forwardResult_memSame {pre : State} {s : State} (fo : MemSame pre s) {p : Nat} : MemSame pre (s.forwardResult p) := by
  unfold State.forwardResult
  have h1 : MemSame pre (s.takeResult p).fst := State.takeResult_memSame fo
  generalize s.takeResult p = d1 at h1 ⊢
  split
  · rename_i y1 y2 y3
    exact State.tell_memSame h1
  · rename_i y1 y2
    exact h1

theorem State.freeShadow_memSame {pre : State} {s : State} (fo : MemSame pre s) {p : Nat} {h : Nat} : MemSame pre (s.freeShadow p h) := by
  unfold State.freeShadow
  split
  · exact fo
  · rename_i y1 y2 y3
    extract_lets s1 s2 s3
    have h1 : MemSame pre s2 := State.setReq_memSame (State.freeReqPages_memSame fo)
    clear_value s2
    exact h1.same (Eq.refl _)

theorem State.memberBoundary_memSame {pre : State} {s : State} (fo : MemSame pre s) {p : Nat} : MemSame pre (State.memberBoundary s p) := by
  unfold State.memberBoundary
  extract_lets s1
  have h1 : MemSame pre s1 := by
    unfold s1
    apply State.updPart_memSame
    apply foldl_memSame
    · intro x1 x2 h2
      exact State.freeShadow_memSame h2
    · exact fo
  clear_value s1
  apply foldl_memSame
  · intro x3 x4 h3
    apply MemSame.ite
    · apply State.dropLost_memSame
      apply foldl_memSame
      · intro x5 x6 h4
        exact State.tell_memSame h4
      · exact h3
    · exact h3
  · exact h1

theorem State.refusePause_memSame {pre : State} {s : State} (fo : MemSame pre s) {p : Nat} {r : Nat} : MemSame pre (s.refusePause p r) := by
  unfold State.refusePause
  exact State.reqRecord_memSame (State.setG_memSame (State.addReg_memSame (State.updReq_memSame fo)))

theorem State.tokensOnly_memSame {pre : State} {s : State} (fo : MemSame pre s) {p : Nat} {r : Nat} {c : Commit} : MemSame pre (s.tokensOnly p r c) := by
  unfold State.tokensOnly
  exact MemSame.ite fo (State.updReq_memSame (State.pushRec_memSame fo))

theorem State.observeResume_memSame {pre : State} {s : State} (fo : MemSame pre s) {p : Nat} {r : Nat} : MemSame pre (State.observeResume s p r) := by
  unfold State.observeResume
  extract_lets s1
  exact MemSame.ite (MemSame.ite (State.updReq_memSame fo) (MemSame.ite fo (State.failReq_memSame fo))) fo

theorem State.reqEvents_memSame {pre : State} {s : State} (fo : MemSame pre s) {p : Nat} {r : Nat} {c : Commit} : MemSame pre (State.reqEvents s p r c) := by
  unfold State.reqEvents
  extract_lets s1 s2 s3 s4 s5
  have h1 : ∀ {v1 : Nat} {v2 : Nat} {v3 : State}, MemSame pre v3 → MemSame pre (s4 v1 v2 v3) := by
    intro x1 x2 x3 h2
    unfold s4
    exact State.endReq_memSame h2
  clear_value s4
  have h3 : ∀ {v1 : Nat} {v2 : Nat} {v3 : State}, MemSame pre v3 → MemSame pre (s5 v1 v2 v3) := by
    intro x4 x5 x6 h4
    unfold s5
    exact State.setAside_memSame h4
  clear_value s5
  exact MemSame.ite fo (MemSame.ite (h1 fo) (MemSame.ite (h1 fo) (MemSame.ite (h1 fo) (MemSame.ite (h1 (State.reqRecord_memSame fo)) (MemSame.ite (h1 fo) (MemSame.ite (h1 (State.reqRecord_memSame fo)) (MemSame.ite (h3 (MemSame.ite fo (State.updReq_memSame (State.reqRecord_memSame fo)))) (MemSame.ite (MemSame.ite (h3 fo) (State.tokensOnly_memSame (State.refusePause_memSame fo))) (MemSame.ite (h3 fo) (State.observeResume_memSame (State.tokensOnly_memSame fo)))))))))))

theorem State.noteFull_memSame {pre : State} {s : State} (fo : MemSame pre s) {p : Nat} : MemSame pre (State.noteFull s p) := by
  unfold State.noteFull
  exact MemSame.ite (State.updPart_memSame (State.record_memSame fo)) fo

theorem State.allEvents_memSame {pre : State} {s : State} (fo : MemSame pre s) {p : Nat} {res : Option (Nat × Commit)} : MemSame pre (State.allEvents s p res) := by
  unfold State.allEvents
  apply State.noteFull_memSame
  apply foldl_memSame
  · intro x1 x2 h1
    exact State.updReq_memSame (State.reqEvents_memSame h1)
  · exact fo

theorem State.makeTwin_memSame {pre : State} {s : State} (fo : MemSame pre s) {p : Nat} {r : Nat} : MemSame pre (s.makeTwin p r) := by
  unfold State.makeTwin
  extract_lets s1 s2 s3
  split
  · exact MemSame.ite fo (State.updPart_memSame (State.reqRecord_memSame fo))
  · rename_i y1 y2 y3
    extract_lets s4
    exact State.updReq_memSame (State.setReq_memSame fo)

theorem State.makeTwins_memSame {pre : State} {s : State} (fo : MemSame pre s) {p : Nat} : MemSame pre (s.makeTwins p) := by
  unfold State.makeTwins
  apply MemSame.ite
  · apply foldl_memSame
    · intro x1 x2 h1
      extract_lets s1
      exact MemSame.ite (State.makeTwin_memSame h1) h1
    · exact fo
  · exact fo

theorem State.replayLost_memSame {pre : State} {s : State} (fo : MemSame pre s) {p : Nat} : MemSame pre (s.replayLost p) := by
  unfold State.replayLost
  apply foldl_memSame
  · intro x1 x2 h1
    exact MemSame.ite (State.replayReq_memSame h1) h1
  · exact fo

theorem State.retireWeak_memSame {pre : State} {s : State} (fo : MemSame pre s) {p : Nat} : MemSame pre (s.retireWeak p) := by
  unfold State.retireWeak
  apply foldl_memSame
  · intro x1 x2 h1
    extract_lets s1 s2
    have h2 : MemSame pre s2 := by
      unfold s2
      apply foldl_memSame
      · intro x3 x4 h2
        extract_lets s3 s4
        exact State.setPage_memSame h2
      · exact h1
    clear_value s2
    exact State.updTile_memSame h2
  · exact fo

theorem State.reserve_memSame {pre : State} {s : State} (fo : MemSame pre s) {p : Nat} {r : Nat} : MemSame pre (State.reserve s p r) := by
  unfold State.reserve
  extract_lets s1 s2
  have h1 : MemSame pre s2.snd := State.pickRims_memSame fo
  clear_value s2
  split
  · exact fo
  · exact State.updReq_memSame h1

theorem State.admitOne_memSame {pre : State} {s : State} (fo : MemSame pre s) {p : Nat} {r : Nat} : MemSame pre (State.admitOne s p r) := by
  unfold State.admitOne
  extract_lets s1
  exact MemSame.ite fo (MemSame.ite fo (MemSame.ite (State.failReq_memSame fo) (MemSame.ite (State.failReq_memSame (State.setG_memSame fo)) (MemSame.ite (State.reserve_memSame fo) (MemSame.ite (State.updReq_memSame fo) fo)))))

theorem State.admitRequests_memSame {pre : State} {s : State} (fo : MemSame pre s) {p : Nat} : MemSame pre (s.admitRequests p) := by
  unfold State.admitRequests
  apply MemSame.ite
  · apply foldl_memSame
    · intro x1 x2 h1
      exact State.admitOne_memSame h1
    · exact fo
  · exact fo

theorem State.preempt_memSame {pre : State} {s : State} (fo : MemSame pre s) {p : Nat} {r : Nat} {lp : Nat} {promised : List (Nat × Nat)} : MemSame pre (State.preempt s p r lp promised).fst := by
  unfold State.preempt
  extract_lets s1
  split
  · exact fo
  · rename_i y3 y4 y5
    dsimp only
    apply foldl_memSame
    · intro x1 x2 h1
      exact State.setAside_memSame h1
    · exact fo

theorem State.preemptAll_memSame {pre : State} {s : State} (fo : MemSame pre s) {p : Nat} : MemSame pre (State.preemptAll s p) := by
  unfold State.preemptAll
  apply MemSame.ite
  · exact fo
  · apply foldl_memSame1
    · intro x1 x2 h1
      extract_lets s1 s2
      have h2 : MemSame pre s2.fst := by
        unfold s2
        split
        · exact h1
        · exact State.preempt_memSame h1
      clear_value s2
      exact h2
    · exact fo

theorem State.pushRow_memSame {pre : State} {s : State} (fo : MemSame pre s) {p : Nat} {sl : Nat} {b : List Byte} : MemSame pre (s.pushRow p sl b) := by
  unfold State.pushRow
  exact State.updPart_memSame fo

theorem State.emptyPass_memSame {pre : State} {s : State} (fo : MemSame pre s) {p : Nat} {sl : Nat} {r : Option Nat} : MemSame pre (s.emptyPass p sl r) := by
  unfold State.emptyPass
  extract_lets s1
  have h1 : MemSame pre s1 := State.pushRow_memSame fo
  clear_value s1
  split
  · rename_i y1 y2
    exact State.updReq_memSame h1
  · exact h1

theorem State.markDegraded_memSame {pre : State} {s : State} (fo : MemSame pre s) {p : Nat} : MemSame pre (State.markDegraded s p) := by
  unfold State.markDegraded
  apply MemSame.ite
  · extract_lets s1 s2
    have h1 : MemSame pre s1.snd := State.takeFree_memSame fo
    clear_value s1
    exact State.updPart_memSame h1
  · exact fo

end Sys2Proof.Machine
end

