-- ==== Sys2Proof/Laws/Chain.lean ====
section
/-! SUPPORT. What the operations of Machine/Chain.lean keep: one lemma for each, by the lemmas of those that it calls. -/

namespace Sys2Proof.Machine

open Sys2Proof

theorem State.refreshChain_follows {pre : State} {s : State} (fo : Follows pre s) {p : Nat} : Follows pre (s.refreshChain p) := by
  unfold State.refreshChain
  extract_lets s1 s2 s3 s4 s5 s6
  have h1 : ∀ (s : State) (f : Fld) (v : Nat), Follows pre s → Follows pre (s6 s f v) := by
    intro x1 x2 x3 h1
    unfold s6
    exact State.setG_follows h1
  clear_value s6
  apply h1
  · apply h1
    · apply h1
      · apply h1
        · exact fo

theorem State.applyPlan_follows {pre : State} {s : State} (fo : Follows pre s) : Follows pre s.applyPlan := by
  unfold State.applyPlan
  extract_lets s1
  have h1 : Follows pre s1 := State.setG_follows (State.setG_follows (State.setG_follows fo))
  clear_value s1
  apply foldl_follows
  · intro x1 x2 h2
    exact State.refreshChain_follows h2
  · exact h1

theorem State.sendMark_follows {pre : State} {s : State} (fo : Follows pre s) {p : Nat} {k : Nat} {ptp : Nat} : Follows pre (s.sendMark p k ptp) := by
  unfold State.sendMark
  apply foldl_follows
  · intro x1 x2 h1
    exact State.sendFlit_follows (State.emit_follows h1)
  · exact fo

theorem State.chainCommit_follows {pre : State} {s : State} (fo : Follows pre s) {p : Nat} : Follows pre (s.chainCommit p) := by
  unfold State.chainCommit
  apply Follows.ite
  · exact fo
  · extract_lets s1 s2 s3 s4
    have h1 : Follows pre s3 := fo.same (Eq.refl _) fo.mem (Eq.refl _) (Eq.refl _) (Eq.refl _) (Eq.refl _)
    clear_value s3
    apply Follows.ite
    · exact State.sendMark_follows h1
    · apply Follows.ite
      · exact h1
      · exact h1.same (Eq.refl _) h1.mem (Eq.refl _) (Eq.refl _) (Eq.refl _) (Eq.refl _)

theorem State.chainStop_follows {pre : State} {s : State} (fo : Follows pre s) {p : Nat} : Follows pre (State.chainStop s p) := by
  unfold State.chainStop
  exact Follows.ite (State.tell_follows fo) fo

/-! ### Operations that leave memory alone -/

theorem State.refreshChain_memSame {pre : State} {s : State} (fo : MemSame pre s) {p : Nat} : MemSame pre (s.refreshChain p) := by
  unfold State.refreshChain
  extract_lets s1 s2 s3 s4 s5 s6
  have h1 : ∀ (s : State) (f : Fld) (v : Nat), MemSame pre s → MemSame pre (s6 s f v) := by
    intro x1 x2 x3 h1
    unfold s6
    exact State.setG_memSame h1
  clear_value s6
  apply h1
  · apply h1
    · apply h1
      · apply h1
        · exact fo

theorem State.applyPlan_memSame {pre : State} {s : State} (fo : MemSame pre s) : MemSame pre s.applyPlan := by
  unfold State.applyPlan
  extract_lets s1
  have h1 : MemSame pre s1 := State.setG_memSame (State.setG_memSame (State.setG_memSame fo))
  clear_value s1
  apply foldl_memSame
  · intro x1 x2 h2
    exact State.refreshChain_memSame h2
  · exact h1

theorem State.sendMark_memSame {pre : State} {s : State} (fo : MemSame pre s) {p : Nat} {k : Nat} {ptp : Nat} : MemSame pre (s.sendMark p k ptp) := by
  unfold State.sendMark
  apply foldl_memSame
  · intro x1 x2 h1
    exact State.sendFlit_memSame (State.emit_memSame h1)
  · exact fo

theorem State.chainCommit_memSame {pre : State} {s : State} (fo : MemSame pre s) {p : Nat} : MemSame pre (s.chainCommit p) := by
  unfold State.chainCommit
  apply MemSame.ite
  · exact fo
  · extract_lets s1 s2 s3 s4
    have h1 : MemSame pre s3 := fo.same (Eq.refl _)
    clear_value s3
    apply MemSame.ite
    · exact State.sendMark_memSame h1
    · apply MemSame.ite
      · exact h1
      · exact h1.same (Eq.refl _)

theorem State.chainStop_memSame {pre : State} {s : State} (fo : MemSame pre s) {p : Nat} : MemSame pre (State.chainStop s p) := by
  unfold State.chainStop
  exact MemSame.ite (State.tell_memSame fo) fo

end Sys2Proof.Machine
end

