-- ==== Sys2Proof/Laws/Slots.lean ====
section
/-! SUPPORT. What the operations of Machine/Slots.lean keep: one lemma for each, by the lemmas of those that it calls. -/

namespace Sys2Proof.Machine

open Sys2Proof

theorem State.reservedOpcode_follows {pre : State} {s : State} (fo : Follows pre s) {i : Issue} {unit : Nat} : Follows pre (State.reservedOpcode s i unit) := by
  unfold State.reservedOpcode
  split
  · exact State.otherWord_follows fo
  · exact State.mxOther_follows fo
  · exact State.vxOther_follows fo
  · exact fo

theorem vectorUnit_follows {pre : State} {opc : Nat} {f : Issue → State → Host.Outcome State Fault Refusal} (h : vectorUnit opc = some f) {i : Issue} {s : State} (fo : Follows pre s) : FollowsO pre (f i s) := by
  unfold vectorUnit at h
  split at h <;> cases h
  · exact execVld_follows fo
  · exact execVst_follows fo
  · exact execVadd_follows fo
  · exact execVsub_follows fo
  · exact execVmul_follows fo
  · exact execVfma_follows fo
  · exact execVmax_follows fo
  · exact execVmin_follows fo
  · exact execVexp2_follows fo
  · exact execVrcp_follows fo
  · exact execVrsq_follows fo
  · exact execVlog2_follows fo
  · exact execVred_follows fo
  · exact execVsel_follows fo
  · exact execVbc_follows fo
  · exact execVcvt_follows fo
  · exact execVqnt_follows fo
  · exact execVrot_follows fo
  · exact execAttend_follows fo
  · exact execSample_follows fo

theorem unitMeaning_follows {pre : State} {unit : Nat} {w : Nat} {f : Issue → State → Host.Outcome State Fault Refusal} (h : unitMeaning unit w = some f) {i : Issue} {s : State} (fo : Follows pre s) : FollowsO pre (f i s) := by
  unfold unitMeaning at h
  split at h
  · split at h <;> cases h
    · exact execLdin_follows fo
    · exact execMvm_follows fo
    · exact execRed_follows fo
    · exact execWrb_follows fo
    · exact execRdb_follows fo
    · exact execClv_follows fo
  · split at h <;> cases h
    · exact execMld_follows fo
    · exact execMmul_follows fo
    · exact execMout_follows fo
  · exact vectorUnit_follows h fo
  · cases h
    exact execCmrg_follows fo
  · cases h

theorem execSluiceSlotIssue_follows {pre : State} {tile : Tile} {entry : Fin 4096} {cycle : Fin 65536} {s : State} (fo : Follows pre s) : FollowsO pre (execSluiceSlotIssue tile entry cycle s) := by
  unfold execSluiceSlotIssue
  extract_lets t e s1 i
  have h1 : Follows pre s1 := State.updTile_follows (State.setReg_follows fo)
  refine FollowsO.ite ?_ (FollowsO.next fo)
  split
  · rename_i f hf
    exact unitMeaning_follows hf h1
  · exact FollowsO.next (State.reservedOpcode_follows h1)

/-! ### Operations that leave memory alone -/

theorem State.reservedOpcode_memSame {pre : State} {s : State} (fo : MemSame pre s) {i : Issue} {unit : Nat} : MemSame pre (State.reservedOpcode s i unit) := by
  unfold State.reservedOpcode
  split
  · exact State.otherWord_memSame fo
  · exact State.mxOther_memSame fo
  · exact State.vxOther_memSame fo
  · exact fo

/-! ### Operations that leave alone what lies beside the tiles -/

theorem State.reservedOpcode_beside {pre : State} {s : State} (fo : Beside pre s) {i : Issue} {unit : Nat} : Beside pre (State.reservedOpcode s i unit) := by
  unfold State.reservedOpcode
  split
  · exact State.otherWord_beside fo
  · exact State.mxOther_beside fo
  · exact State.vxOther_beside fo
  · exact fo

theorem vectorUnit_beside {pre : State} {opc : Nat} {f : Issue → State → Host.Outcome State Fault Refusal} (h : vectorUnit opc = some f) {i : Issue} {s : State} (fo : Beside pre s) : BesideO pre (f i s) := by
  unfold vectorUnit at h
  split at h <;> cases h
  · exact execVld_beside fo
  · exact execVst_beside fo
  · exact execVadd_beside fo
  · exact execVsub_beside fo
  · exact execVmul_beside fo
  · exact execVfma_beside fo
  · exact execVmax_beside fo
  · exact execVmin_beside fo
  · exact execVexp2_beside fo
  · exact execVrcp_beside fo
  · exact execVrsq_beside fo
  · exact execVlog2_beside fo
  · exact execVred_beside fo
  · exact execVsel_beside fo
  · exact execVbc_beside fo
  · exact execVcvt_beside fo
  · exact execVqnt_beside fo
  · exact execVrot_beside fo
  · exact execAttend_beside fo
  · exact execSample_beside fo

theorem unitMeaning_beside {pre : State} {unit : Nat} {w : Nat} {f : Issue → State → Host.Outcome State Fault Refusal} (h : unitMeaning unit w = some f) {i : Issue} {s : State} (fo : Beside pre s) : BesideO pre (f i s) := by
  unfold unitMeaning at h
  split at h
  · split at h <;> cases h
    · exact execLdin_beside fo
    · exact execMvm_beside fo
    · exact execRed_beside fo
    · exact execWrb_beside fo
    · exact execRdb_beside fo
    · exact execClv_beside fo
  · split at h <;> cases h
    · exact execMld_beside fo
    · exact execMmul_beside fo
    · exact execMout_beside fo
  · exact vectorUnit_beside h fo
  · cases h
    exact execCmrg_beside fo
  · cases h

theorem execSluiceSlotIssue_beside {pre : State} {tile : Tile} {entry : Fin 4096} {cycle : Fin 65536} {s : State} (fo : Beside pre s) : BesideO pre (execSluiceSlotIssue tile entry cycle s) := by
  unfold execSluiceSlotIssue
  extract_lets t e s1 i
  have h1 : Beside pre s1 := State.updTile_beside (State.setReg_beside fo)
  refine BesideO.ite ?_ (BesideO.next fo)
  split
  · rename_i f hf
    exact unitMeaning_beside hf h1
  · exact BesideO.next (State.reservedOpcode_beside h1)

end Sys2Proof.Machine
end

