-- ==== Sys2Proof/Laws/PartCtl.lean ====
section
/-! SUPPORT. What the operations of Machine/PartCtl.lean keep: one lemma for each, by the lemmas of those that it calls. -/

namespace Sys2Proof.Machine

open Sys2Proof

theorem State.onTiles_follows {pre : State} {s : State} (fo : Follows pre s) {p : Nat} {f : TileSt → TileSt} : Follows pre (s.onTiles p f) := by
  unfold State.onTiles
  exact fo.same (Eq.refl _) fo.mem (Eq.refl _) (Eq.refl _) (Eq.refl _) (Eq.refl _)

theorem State.dropBeats_follows {pre : State} {s : State} (fo : Follows pre s) {p : Nat} : Follows pre (s.dropBeats p) := by
  unfold State.dropBeats
  exact fo.same (Eq.refl _) fo.mem (Eq.refl _) (Eq.refl _) (Eq.refl _) (Eq.refl _)

theorem State.endComputes_follows {pre : State} {s : State} (fo : Follows pre s) {p : Nat} : Follows pre (s.endComputes p) := by
  unfold State.endComputes
  apply foldl_follows
  · intro x1 x2 h1
    apply foldl_follows
    · intro x3 x4 h2
      extract_lets s1
      apply foldl_follows
      · intro x5 x6 h3
        exact Follows.ite (State.setReg_follows h3) h3
      · exact h2
    · exact h1
  · exact fo

theorem State.discardAttempt_follows {pre : State} {s : State} (fo : Follows pre s) {p : Nat} : Follows pre (s.discardAttempt p) := by
  unfold State.discardAttempt
  extract_lets s1
  have h1 : Follows pre s1 := State.dropBeats_follows (State.calDiscard_follows (State.endComputes_follows fo))
  clear_value s1
  exact State.onTiles_follows h1

theorem State.predictors_follows {pre : State} {s : State} (fo : Follows pre s) {t : Nat} : Follows pre (s.predictors t) := by
  unfold State.predictors
  apply foldl_follows
  · intro x1 x2 h1
    exact State.setReg_follows h1
  · exact fo

theorem State.lastFigures_follows {pre : State} {s : State} (fo : Follows pre s) {t : Nat} : Follows pre (s.lastFigures t) := by
  unfold State.lastFigures
  extract_lets s1
  have h1 : Follows pre s1 := by
    unfold s1
    split
    · rename_i y1 y2 y3
      exact State.setReg_follows (State.setReg_follows fo)
    · exact fo
  clear_value s1
  split
  · rename_i y1 y2 y3
    exact State.setReg_follows (State.setReg_follows (State.setReg_follows h1))
  · exact h1

theorem State.applyShadows_follows {pre : State} {s : State} (fo : Follows pre s) {ok : Nat → Nat → Nat → Bool} : Follows pre (s.applyShadows ok) := by
  unfold State.applyShadows
  extract_lets s1
  exact fo.same (Eq.refl _) fo.mem (Eq.refl _) (Eq.refl _) (Eq.refl _) (Eq.refl _)

theorem State.commitTiles_follows {pre : State} {s : State} (fo : Follows pre s) {p : Nat} : Follows pre (s.commitTiles p) := by
  unfold State.commitTiles
  extract_lets s1 s2 s3
  have h1 : Follows pre s2 := by
    unfold s2
    apply foldl_follows
    · intro x1 x2 h1
      exact State.lastFigures_follows (State.predictors_follows h1)
    · exact fo
  clear_value s2
  have h2 : Follows pre s3 := State.applyShadows_follows (State.calCommit_follows h1)
  clear_value s3
  exact State.dropBeats_follows (State.onTiles_follows h2)

theorem State.ldRecord_follows {pre : State} {s : State} (fo : Follows pre s) {part : Option Nat} {code : Nat} {item : Nat} {detail : Nat} : Follows pre (s.ldRecord part code item detail) := by
  unfold State.ldRecord
  exact State.record_follows fo

theorem State.cmdEndWith_follows {pre : State} {s : State} (fo : Follows pre s) {n : Nat} {part : Option Nat} {code : Nat} {item : Nat} {detail : Nat} : Follows pre (s.cmdEndWith n part code item detail) := by
  unfold State.cmdEndWith
  extract_lets s1 s2 s3
  have h1 : Follows pre s1 := State.setG_follows (State.setG_follows fo)
  clear_value s1
  have h2 : Follows pre s2 := by
    unfold s2
    apply Follows.ite
    · exact h1
    · split
      · rename_i y1 y2
        exact Follows.ite (State.setLcode_follows h1) h1
      · exact h1
  clear_value s2
  have h3 : Follows pre s3 := Follows.ite h2 (State.ldRecord_follows h2)
  clear_value s3
  exact State.raiseInt_follows h3

theorem State.cmdEnd_follows {pre : State} {s : State} (fo : Follows pre s) {n : Nat} {part : Option Nat} {code : Nat} : Follows pre (s.cmdEnd n part code) := by
  unfold State.cmdEnd
  exact State.cmdEndWith_follows fo

theorem State.goRefused_follows {pre : State} {s : State} (fo : Follows pre s) {n : Nat} {part : Option Nat} {code : Nat} : Follows pre (s.goRefused n part code) := by
  unfold State.goRefused
  extract_lets s1 s2
  have h1 : Follows pre s1 := State.setG_follows (State.setG_follows fo)
  clear_value s1
  have h2 : Follows pre s2 := by
    unfold s2
    split
    · rename_i y1 y2
      exact Follows.ite (State.setLcode_follows h1) h1
    · exact h1
  clear_value s2
  exact State.ldRecord_follows h2

theorem State.clearBindings_follows {pre : State} {s : State} (fo : Follows pre s) {p : Nat} : Follows pre (s.clearBindings p) := by
  unfold State.clearBindings
  extract_lets s1 s2
  have h1 : Follows pre s1 := by
    unfold s1
    apply foldl_follows
    · intro x1 x2 h1
      exact Follows.ite (State.updReq_follows h1) h1
    · exact fo
  clear_value s1
  have h2 : Follows pre s2 := State.updPart_follows h1
  clear_value s2
  apply foldl_follows
  · intro x1 x2 h3
    exact State.updReq_follows h3
  · exact h2

theorem State.endReplaced_follows {pre : State} {s : State} (fo : Follows pre s) {p : Nat} {queued : Bool} : Follows pre (State.endReplaced s p queued) := by
  unfold State.endReplaced
  extract_lets s1
  apply State.journalAcc_follows
  apply foldl_follows
  · intro x1 x2 h1
    exact Follows.ite (State.updReq_follows h1) (State.endPlain_follows h1)
  · exact fo

theorem State.haltPart_follows {pre : State} {s : State} (fo : Follows pre s) {p : Nat} : Follows pre (State.haltPart s p) := by
  unfold State.haltPart
  extract_lets s1 s2
  have h1 : Follows pre s1 := State.updPart_follows (State.setG_follows (State.onTiles_follows fo))
  clear_value s1
  exact h1.same (Eq.refl _) h1.mem (Eq.refl _) (Eq.refl _) (Eq.refl _) (Eq.refl _)

theorem State.enter_follows {pre : State} {s : State} (fo : Follows pre s) {p : Nat} {st : Nat} : Follows pre (s.enter p st) := by
  unfold State.enter
  exact State.setPstate_follows (State.setG_follows fo)

theorem State.startWrite_follows {pre : State} {s : State} (fo : Follows pre s) {p : Nat} : Follows pre (s.startWrite p) := by
  unfold State.startWrite
  exact State.enter_follows (State.coolQuads_follows (State.haltPart_follows fo))

theorem State.stopReached_follows {pre : State} {s : State} (fo : Follows pre s) {p : Nat} : Follows pre (s.stopReached p) := by
  unfold State.stopReached
  extract_lets s1 s2 s3
  have h1 : Follows pre s2 := Follows.ite (State.clearBindings_follows fo) fo
  clear_value s2
  have h2 : Follows pre s3 := State.updPart_follows (State.enter_follows (State.setStopr_follows (State.haltPart_follows h1)))
  clear_value s3
  clear_value s1
  split
  · rename_i y1 y2
    exact State.cmdEnd_follows h2
  · exact h2

theorem State.streamRemaps_follows {pre : State} {s : State} (fo : Follows pre s) {p : Nat} : Follows pre (State.streamRemaps s p) := by
  unfold State.streamRemaps
  apply foldl_follows
  · intro x1 x2 h1
    split
    · exact h1
    · exact Follows.ite (State.remapCommit_follows h1) h1
  · exact fo

theorem State.cascadeStop_follows {pre : State} {s : State} (fo : Follows pre s) {p : Nat} {reason : Nat} : Follows pre (State.cascadeStop s p reason) := by
  unfold State.cascadeStop
  extract_lets s1 s2 s3
  have h1 : Follows pre s1 := State.chainStop_follows (State.clearBindings_follows (State.setStopr_follows (State.haltPart_follows (State.streamRemaps_follows fo))))
  clear_value s1
  have h2 : Follows pre s3 := State.updPart_follows (State.enter_follows h1)
  clear_value s3
  split
  · exact State.startWrite_follows (State.endReplaced_follows h1)
  · rename_i y4 y5
    clear_value s2
    split
    · exact State.cmdEnd_follows h2
    · exact h2

theorem State.countUp_follows {pre : State} {s : State} (fo : Follows pre s) {p : Nat} : Follows pre (s.countUp p) := by
  unfold State.countUp
  exact State.updPart_follows fo

theorem State.abortPart_follows {pre : State} {s : State} (fo : Follows pre s) {p : Nat} : Follows pre (s.abortPart p) := by
  unfold State.abortPart
  exact Follows.ite (State.clearBindings_follows (State.haltPart_follows (State.countUp_follows (State.onTiles_follows (State.discardAttempt_follows fo))))) fo

theorem State.abortStop_follows {pre : State} {s : State} (fo : Follows pre s) {p : Nat} {reason : Nat} : Follows pre (s.abortStop p reason) := by
  unfold State.abortStop
  exact Follows.ite (State.cascadeStop_follows (State.abortPart_follows fo)) fo

theorem State.replayAllReqs_follows {pre : State} {s : State} (fo : Follows pre s) {p : Nat} : Follows pre (s.replayAllReqs p) := by
  unfold State.replayAllReqs
  apply State.updPart_follows
  apply foldl_follows
  · intro x1 x2 h1
    exact State.replayReq_follows h1
  · exact fo

theorem State.resumePart_follows {pre : State} {s : State} (fo : Follows pre s) {p : Nat} : Follows pre (s.resumePart p) := by
  unfold State.resumePart
  apply Follows.ite
  · extract_lets s1
    have h1 : Follows pre s1 := State.updPart_follows (State.setG_follows fo)
    clear_value s1
    exact State.replayAllReqs_follows h1
  · exact fo

/-! ### Operations that leave memory alone -/

theorem State.onTiles_memSame {pre : State} {s : State} (fo : MemSame pre s) {p : Nat} {f : TileSt → TileSt} : MemSame pre (s.onTiles p f) := by
  unfold State.onTiles
  exact fo.same (Eq.refl _)

theorem State.dropBeats_memSame {pre : State} {s : State} (fo : MemSame pre s) {p : Nat} : MemSame pre (s.dropBeats p) := by
  unfold State.dropBeats
  exact fo.same (Eq.refl _)

theorem State.endComputes_memSame {pre : State} {s : State} (fo : MemSame pre s) {p : Nat} : MemSame pre (s.endComputes p) := by
  unfold State.endComputes
  apply foldl_memSame
  · intro x1 x2 h1
    apply foldl_memSame
    · intro x3 x4 h2
      extract_lets s1
      apply foldl_memSame
      · intro x5 x6 h3
        exact MemSame.ite (State.setReg_memSame h3) h3
      · exact h2
    · exact h1
  · exact fo

theorem State.discardAttempt_memSame {pre : State} {s : State} (fo : MemSame pre s) {p : Nat} : MemSame pre (s.discardAttempt p) := by
  unfold State.discardAttempt
  extract_lets s1
  have h1 : MemSame pre s1 := State.dropBeats_memSame (State.calDiscard_memSame (State.endComputes_memSame fo))
  clear_value s1
  exact State.onTiles_memSame h1

theorem State.predictors_memSame {pre : State} {s : State} (fo : MemSame pre s) {t : Nat} : MemSame pre (s.predictors t) := by
  unfold State.predictors
  apply foldl_memSame
  · intro x1 x2 h1
    exact State.setReg_memSame h1
  · exact fo

theorem State.lastFigures_memSame {pre : State} {s : State} (fo : MemSame pre s) {t : Nat} : MemSame pre (s.lastFigures t) := by
  unfold State.lastFigures
  extract_lets s1
  have h1 : MemSame pre s1 := by
    unfold s1
    split
    · rename_i y1 y2 y3
      exact State.setReg_memSame (State.setReg_memSame fo)
    · exact fo
  clear_value s1
  split
  · rename_i y1 y2 y3
    exact State.setReg_memSame (State.setReg_memSame (State.setReg_memSame h1))
  · exact h1

theorem State.applyShadows_memSame {pre : State} {s : State} (fo : MemSame pre s) {ok : Nat → Nat → Nat → Bool} : MemSame pre (s.applyShadows ok) := by
  unfold State.applyShadows
  extract_lets s1
  exact fo.same (Eq.refl _)

theorem State.commitTiles_memSame {pre : State} {s : State} (fo : MemSame pre s) {p : Nat} : MemSame pre (s.commitTiles p) := by
  unfold State.commitTiles
  extract_lets s1 s2 s3
  have h1 : MemSame pre s2 := by
    unfold s2
    apply foldl_memSame
    · intro x1 x2 h1
      exact State.lastFigures_memSame (State.predictors_memSame h1)
    · exact fo
  clear_value s2
  have h2 : MemSame pre s3 := State.applyShadows_memSame (State.calCommit_memSame h1)
  clear_value s3
  exact State.dropBeats_memSame (State.onTiles_memSame h2)

theorem State.ldRecord_memSame {pre : State} {s : State} (fo : MemSame pre s) {part : Option Nat} {code : Nat} {item : Nat} {detail : Nat} : MemSame pre (s.ldRecord part code item detail) := by
  unfold State.ldRecord
  exact State.record_memSame fo

theorem State.cmdEndWith_memSame {pre : State} {s : State} (fo : MemSame pre s) {n : Nat} {part : Option Nat} {code : Nat} {item : Nat} {detail : Nat} : MemSame pre (s.cmdEndWith n part code item detail) := by
  unfold State.cmdEndWith
  extract_lets s1 s2 s3
  have h1 : MemSame pre s1 := State.setG_memSame (State.setG_memSame fo)
  clear_value s1
  have h2 : MemSame pre s2 := by
    unfold s2
    apply MemSame.ite
    · exact h1
    · split
      · rename_i y1 y2
        exact MemSame.ite (State.setLcode_memSame h1) h1
      · exact h1
  clear_value s2
  have h3 : MemSame pre s3 := MemSame.ite h2 (State.ldRecord_memSame h2)
  clear_value s3
  exact State.raiseInt_memSame h3

theorem State.cmdEnd_memSame {pre : State} {s : State} (fo : MemSame pre s) {n : Nat} {part : Option Nat} {code : Nat} : MemSame pre (s.cmdEnd n part code) := by
  unfold State.cmdEnd
  exact State.cmdEndWith_memSame fo

theorem State.goRefused_memSame {pre : State} {s : State} (fo : MemSame pre s) {n : Nat} {part : Option Nat} {code : Nat} : MemSame pre (s.goRefused n part code) := by
  unfold State.goRefused
  extract_lets s1 s2
  have h1 : MemSame pre s1 := State.setG_memSame (State.setG_memSame fo)
  clear_value s1
  have h2 : MemSame pre s2 := by
    unfold s2
    split
    · rename_i y1 y2
      exact MemSame.ite (State.setLcode_memSame h1) h1
    · exact h1
  clear_value s2
  exact State.ldRecord_memSame h2

theorem State.clearBindings_memSame {pre : State} {s : State} (fo : MemSame pre s) {p : Nat} : MemSame pre (s.clearBindings p) := by
  unfold State.clearBindings
  extract_lets s1 s2
  have h1 : MemSame pre s1 := by
    unfold s1
    apply foldl_memSame
    · intro x1 x2 h1
      exact MemSame.ite (State.updReq_memSame h1) h1
    · exact fo
  clear_value s1
  have h2 : MemSame pre s2 := State.updPart_memSame h1
  clear_value s2
  apply foldl_memSame
  · intro x1 x2 h3
    exact State.updReq_memSame h3
  · exact h2

theorem State.endReplaced_memSame {pre : State} {s : State} (fo : MemSame pre s) {p : Nat} {queued : Bool} : MemSame pre (State.endReplaced s p queued) := by
  unfold State.endReplaced
  extract_lets s1
  apply State.journalAcc_memSame
  apply foldl_memSame
  · intro x1 x2 h1
    exact MemSame.ite (State.updReq_memSame h1) (State.endPlain_memSame h1)
  · exact fo

theorem State.haltPart_memSame {pre : State} {s : State} (fo : MemSame pre s) {p : Nat} : MemSame pre (State.haltPart s p) := by
  unfold State.haltPart
  extract_lets s1 s2
  have h1 : MemSame pre s1 := State.updPart_memSame (State.setG_memSame (State.onTiles_memSame fo))
  clear_value s1
  exact h1.same (Eq.refl _)

theorem State.enter_memSame {pre : State} {s : State} (fo : MemSame pre s) {p : Nat} {st : Nat} : MemSame pre (s.enter p st) := by
  unfold State.enter
  exact State.setPstate_memSame (State.setG_memSame fo)

theorem State.startWrite_memSame {pre : State} {s : State} (fo : MemSame pre s) {p : Nat} : MemSame pre (s.startWrite p) := by
  unfold State.startWrite
  exact State.enter_memSame (State.coolQuads_memSame (State.haltPart_memSame fo))

theorem State.stopReached_memSame {pre : State} {s : State} (fo : MemSame pre s) {p : Nat} : MemSame pre (s.stopReached p) := by
  unfold State.stopReached
  extract_lets s1 s2 s3
  have h1 : MemSame pre s2 := MemSame.ite (State.clearBindings_memSame fo) fo
  clear_value s2
  have h2 : MemSame pre s3 := State.updPart_memSame (State.enter_memSame (State.setStopr_memSame (State.haltPart_memSame h1)))
  clear_value s3
  clear_value s1
  split
  · rename_i y1 y2
    exact State.cmdEnd_memSame h2
  · exact h2

theorem State.streamRemaps_memSame {pre : State} {s : State} (fo : MemSame pre s) {p : Nat} : MemSame pre (State.streamRemaps s p) := by
  unfold State.streamRemaps
  apply foldl_memSame
  · intro x1 x2 h1
    split
    · exact h1
    · exact MemSame.ite (State.remapCommit_memSame h1) h1
  · exact fo

theorem State.cascadeStop_memSame {pre : State} {s : State} (fo : MemSame pre s) {p : Nat} {reason : Nat} : MemSame pre (State.cascadeStop s p reason) := by
  unfold State.cascadeStop
  extract_lets s1 s2 s3
  have h1 : MemSame pre s1 := State.chainStop_memSame (State.clearBindings_memSame (State.setStopr_memSame (State.haltPart_memSame (State.streamRemaps_memSame fo))))
  clear_value s1
  have h2 : MemSame pre s3 := State.updPart_memSame (State.enter_memSame h1)
  clear_value s3
  split
  · exact State.startWrite_memSame (State.endReplaced_memSame h1)
  · rename_i y4 y5
    clear_value s2
    split
    · exact State.cmdEnd_memSame h2
    · exact h2

theorem State.countUp_memSame {pre : State} {s : State} (fo : MemSame pre s) {p : Nat} : MemSame pre (s.countUp p) := by
  unfold State.countUp
  exact State.updPart_memSame fo

theorem State.abortPart_memSame {pre : State} {s : State} (fo : MemSame pre s) {p : Nat} : MemSame pre (s.abortPart p) := by
  unfold State.abortPart
  exact MemSame.ite (State.clearBindings_memSame (State.haltPart_memSame (State.countUp_memSame (State.onTiles_memSame (State.discardAttempt_memSame fo))))) fo

theorem State.abortStop_memSame {pre : State} {s : State} (fo : MemSame pre s) {p : Nat} {reason : Nat} : MemSame pre (s.abortStop p reason) := by
  unfold State.abortStop
  exact MemSame.ite (State.cascadeStop_memSame (State.abortPart_memSame fo)) fo

theorem State.replayAllReqs_memSame {pre : State} {s : State} (fo : MemSame pre s) {p : Nat} : MemSame pre (s.replayAllReqs p) := by
  unfold State.replayAllReqs
  apply State.updPart_memSame
  apply foldl_memSame
  · intro x1 x2 h1
    exact State.replayReq_memSame h1
  · exact fo

theorem State.resumePart_memSame {pre : State} {s : State} (fo : MemSame pre s) {p : Nat} : MemSame pre (s.resumePart p) := by
  unfold State.resumePart
  apply MemSame.ite
  · extract_lets s1
    have h1 : MemSame pre s1 := State.updPart_memSame (State.setG_memSame fo)
    clear_value s1
    exact State.replayAllReqs_memSame h1
  · exact fo

end Sys2Proof.Machine
end

