-- ==== Sys2Proof/Laws/Cascade.lean ====
section
/-! SUPPORT. What the operations of Machine/Cascade.lean keep: one lemma for each, by the lemmas of those that it calls. -/

namespace Sys2Proof.Machine

open Sys2Proof

theorem execProgramEnd_follows {pre : State} {tile : Tile} {s : State} (fo : Follows pre s) : FollowsO pre (execProgramEnd tile s) := by
  unfold execProgramEnd
  extract_lets s1
  split
  · exact FollowsO.next fo
  · rename_i y1 y2 y3
    apply FollowsO.ite
    · extract_lets s2 s3 s4
      have h1 : Follows pre s3 := Follows.ite (State.tileFault_follows (State.setReg_follows fo)) fo
      clear_value s3
      have h2 : Follows pre s4 := State.setReg_follows h1
      clear_value s4
      exact FollowsO.next (State.updTile_follows h2)
    · exact FollowsO.next fo

theorem execRegionReport_follows {pre : State} {part : Part} {region : Region} {edges : Fin 65536} {s : State} (fo : Follows pre s) : FollowsO pre (execRegionReport part region edges s) := by
  unfold execRegionReport
  extract_lets s1 s2 s3 s4 s5
  have h1 : Follows pre s5 := State.updPart_follows fo
  clear_value s5
  apply FollowsO.ite
  · apply FollowsO.next
    apply State.emit_follows
    exact h1.same (Eq.refl _) h1.mem (Eq.refl _) (Eq.refl _) (Eq.refl _) (Eq.refl _)
  · exact FollowsO.next fo

theorem State.overrun_follows {pre : State} {s : State} (fo : Follows pre s) {p : Nat} {r : Nat} {x : RegionRep} : Follows pre (State.overrun s p r x) := by
  unfold State.overrun
  exact Follows.ite (State.record_follows fo) fo

theorem State.overruns_follows {pre : State} {s : State} (fo : Follows pre s) {p : Nat} : Follows pre (State.overruns s p) := by
  unfold State.overruns
  extract_lets s1 s2
  have h1 : Follows pre s2 := by
    unfold s2
    apply foldl_follows
    · intro x1 x2 h2
      exact State.overrun_follows h2
    · exact fo
  clear_value s2
  exact Follows.ite (State.addReg_follows h1) h1

theorem State.sendGo_follows {pre : State} {s : State} (fo : Follows pre s) {p : Nat} {code : Nat} : Follows pre (s.sendGo p code) := by
  unfold State.sendGo
  apply State.emit_follows
  exact fo.same (Eq.refl _) fo.mem (Eq.refl _) (Eq.refl _) (Eq.refl _) (Eq.refl _)

theorem State.rootMismatch_follows {pre : State} {s : State} (fo : Follows pre s) {p : Nat} : Follows pre (s.rootMismatch p) := by
  unfold State.rootMismatch
  extract_lets s1
  have h1 : Follows pre s1 := State.record_follows (State.setG_follows fo)
  clear_value s1
  exact State.cascadeStop_follows (State.countUp_follows (State.onTiles_follows (State.discardAttempt_follows h1)))

theorem execRootDeadline_follows {pre : State} {part : Part} {mismatch : Bool} {s : State} (fo : Follows pre s) : FollowsO pre (execRootDeadline part mismatch s) := by
  unfold execRootDeadline
  extract_lets s1 s2 s3 s4 s5
  have h1 : Follows pre s2 := State.overruns_follows fo
  clear_value s2
  have h2 : Follows pre s3 := h1.same (Eq.refl _) h1.mem (Eq.refl _) (Eq.refl _) (Eq.refl _) (Eq.refl _)
  clear_value s3
  have h3 : Follows pre s5 := Follows.ite (State.record_follows h2) h2
  clear_value s5
  exact FollowsO.ite (FollowsO.ite (FollowsO.next (State.rootMismatch_follows h2)) (FollowsO.next (State.sendGo_follows (State.updPart_follows h3)))) (FollowsO.next fo)

theorem State.nextAttempt_follows {pre : State} {s : State} (fo : Follows pre s) {p : Nat} {prog : Nat} {start : Bool} : Follows pre (s.nextAttempt p prog start) := by
  unfold State.nextAttempt
  exact State.updPart_follows (State.onTiles_follows fo)

theorem State.stopAdmission_follows {pre : State} {s : State} (fo : Follows pre s) {p : Nat} : Follows pre (s.stopAdmission p) := by
  unfold State.stopAdmission
  exact State.updPart_follows fo

theorem State.admissionStopped_follows {pre : State} {s : State} (fo : Follows pre s) {p : Nat} : Follows pre (s.admissionStopped p) := by
  unfold State.admissionStopped
  exact Follows.ite fo (State.updPart_follows fo)

theorem State.afterCommit_follows {pre : State} {s : State} (fo : Follows pre s) {p : Nat} : Follows pre (s.afterCommit p) := by
  unfold State.afterCommit
  exact Follows.ite (State.startWrite_follows (State.clearBindings_follows fo)) (Follows.ite (State.cascadeStop_follows fo) (Follows.ite (State.stopReached_follows fo) (State.nextAttempt_follows fo)))

theorem State.commitPart_follows {pre : State} {s : State} (fo : Follows pre s) {p : Nat} : Follows pre (s.commitPart p) := by
  unfold State.commitPart
  extract_lets s1 s2 s3 s4
  have h1 : Follows pre s2 := State.commitTiles_follows (State.setG_follows fo)
  clear_value s2
  have h2 : Follows pre s3 := State.stewardCommit_follows (State.stopAdmission_follows h1)
  clear_value s3
  have h3 : Follows pre s4 := State.countUp_follows (State.admissionStopped_follows h2)
  clear_value s4
  exact State.chainCommit_follows (State.updPart_follows h3)

theorem execCommitBoundary_follows {pre : State} {part : Part} {s : State} (fo : Follows pre s) : FollowsO pre (execCommitBoundary part s) := by
  unfold execCommitBoundary
  extract_lets s1
  exact FollowsO.ite (FollowsO.next (State.afterCommit_follows (State.commitPart_follows fo))) (FollowsO.next fo)

theorem State.slipRecord_follows {pre : State} {s : State} (fo : Follows pre s) {p : Nat} : Follows pre (State.slipRecord s p) := by
  unfold State.slipRecord
  extract_lets s1
  exact State.record_follows fo

theorem State.sameProgram_follows {pre : State} {s : State} (fo : Follows pre s) {p : Nat} : Follows pre (State.sameProgram s p) := by
  unfold State.sameProgram
  extract_lets s1 s2 s3 s4 s5
  have h1 : Follows pre s3 := Follows.ite (State.slipRecord_follows fo) fo
  clear_value s3
  have h2 : Follows pre s4 := State.countUp_follows (State.discardAttempt_follows (Follows.ite (State.addReg_follows h1) h1))
  clear_value s4
  have h3 : Follows pre s5 := State.updPart_follows h2
  clear_value s5
  exact Follows.ite (State.cascadeStop_follows h3) (Follows.ite (State.cascadeStop_follows h3) (State.nextAttempt_follows (State.onTiles_follows h3)))

theorem State.troubleReplay_follows {pre : State} {s : State} (fo : Follows pre s) {p : Nat} {recompute : Bool} : Follows pre (s.troubleReplay p recompute) := by
  unfold State.troubleReplay
  extract_lets s1 s2 s3
  have h1 : Follows pre s2 := State.countUp_follows (State.discardAttempt_follows fo)
  clear_value s2
  have h2 : Follows pre s3 := State.updPart_follows h1
  clear_value s3
  exact Follows.ite (State.cascadeStop_follows h2) (Follows.ite (State.updPart_follows h2) (State.nextAttempt_follows (State.onTiles_follows h2)))

theorem execReplayBoundary_follows {pre : State} {part : Part} {s : State} (fo : Follows pre s) : FollowsO pre (execReplayBoundary part s) := by
  unfold execReplayBoundary
  extract_lets s1
  split
  · exact FollowsO.next (State.sameProgram_follows fo)
  · rename_i y1 y2 y3
    exact FollowsO.next (State.troubleReplay_follows fo)
  · exact FollowsO.next fo

theorem State.recomputeTile_follows {pre : State} {s : State} (fo : Follows pre s) {t : Nat} : Follows pre (s.recomputeTile t) := by
  unfold State.recomputeTile
  apply foldl_follows
  · intro x1 x2 h1
    exact State.updTile_follows h1
  · exact fo

theorem execRecomputeDone_follows {pre : State} {part : Part} {s : State} (fo : Follows pre s) : FollowsO pre (execRecomputeDone part s) := by
  unfold execRecomputeDone
  extract_lets s1 s2 s3
  have h1 : Follows pre s3 := by
    unfold s3
    apply foldl_follows
    · intro x1 x2 h1
      exact State.recomputeTile_follows h1
    · exact fo
  clear_value s3
  exact FollowsO.ite (FollowsO.ite (FollowsO.next (State.cascadeStop_follows h1)) (FollowsO.next (State.sendGo_follows (State.nextAttempt_follows h1)))) (FollowsO.next fo)

theorem State.rangeFailures_follows {pre : State} {s : State} (fo : Follows pre s) {p : Nat} : Follows pre (s.rangeFailures p) := by
  unfold State.rangeFailures
  extract_lets s1 s2
  apply State.journalAcc_follows
  apply foldl_follows
  · intro x1 x2 h1
    exact Follows.ite (State.endPlain_follows h1) h1
  · exact fo

theorem execFaultedStepBoundary_follows {pre : State} {part : Part} {s : State} (fo : Follows pre s) : FollowsO pre (execFaultedStepBoundary part s) := by
  unfold execFaultedStepBoundary
  extract_lets s1 s2 s3 s4 s5 s6
  have h1 : Follows pre s3 := Follows.ite fo (State.record_follows fo)
  clear_value s3
  have h2 : Follows pre s4 := State.rangeFailures_follows (State.discardAttempt_follows h1)
  clear_value s4
  have h3 : Follows pre s5 := State.onTiles_follows h2
  clear_value s5
  have h4 : Follows pre s6 := State.countUp_follows (State.updPart_follows h3)
  clear_value s6
  exact FollowsO.ite (FollowsO.ite (FollowsO.next (State.nextAttempt_follows h4)) (FollowsO.next (State.cascadeStop_follows h4))) (FollowsO.next fo)

theorem State.startWait_follows {pre : State} {s : State} (fo : Follows pre s) {p : Nat} {ts : List Nat} : Follows pre (State.startWait s p ts) := by
  unfold State.startWait
  apply foldl_follows
  · intro x1 x2 h1
    extract_lets s1
    exact State.updTile_follows h1
  · exact fo

theorem State.beginAttempt_follows {pre : State} {s : State} (fo : Follows pre s) {p : Nat} : Follows pre (State.beginAttempt s p) := by
  unfold State.beginAttempt
  extract_lets s1 s2
  have h1 : Follows pre s1 := by
    unfold s1
    apply foldl_follows
    · intro x1 x2 h2
      exact State.setReg_follows h2
    · exact fo
  clear_value s1
  have h3 : Follows pre s2 := State.onTiles_follows h1
  clear_value s2
  exact State.updPart_follows h3

theorem State.endTakeover_follows {pre : State} {s : State} (fo : Follows pre s) {p : Nat} : Follows pre (State.endTakeover s p) := by
  unfold State.endTakeover
  exact State.updPart_follows fo

theorem execAttemptStart_follows {pre : State} {part : Part} {s : State} (fo : Follows pre s) : FollowsO pre (execAttemptStart part s) := by
  unfold execAttemptStart
  extract_lets s1 s2 s3 s4
  have h1 : Follows pre s3 := Follows.ite (State.endTakeover_follows fo) fo
  clear_value s3
  exact FollowsO.ite (FollowsO.ite (FollowsO.next (State.beginAttempt_follows h1)) (FollowsO.next (State.startWait_follows h1))) (FollowsO.next fo)

theorem execTagTimeout_follows {pre : State} {tile : Tile} {entry : Fin 4096} {s : State} (fo : Follows pre s) : FollowsO pre (execTagTimeout tile entry s) := by
  unfold execTagTimeout
  extract_lets s1 s2
  split
  · rename_i y1 y2 y3 y4 y5 y6 y7 y8 y9
    apply FollowsO.ite
    · extract_lets s3 s4
      have h1 : Follows pre s3 := State.tileRecord_follows (State.setReg_follows fo)
      clear_value s3
      have h2 : Follows pre s4 := State.updPart_follows (State.updTile_follows h1)
      clear_value s4
      exact FollowsO.ite (FollowsO.next (State.cascadeStop_follows h2)) (FollowsO.next h2)
    · exact FollowsO.next fo
  · exact FollowsO.next fo

theorem execAbort_follows {pre : State} {part : Part} {s : State} (fo : Follows pre s) : FollowsO pre (execAbort part s) := by
  unfold execAbort
  exact FollowsO.next (State.abortPart_follows fo)

theorem execCsdHoldSet_follows {pre : State} {path : Path} {part : Part} {s : State} (fo : Follows pre s) : FollowsO pre (execCsdHoldSet path part s) := by
  unfold execCsdHoldSet
  apply FollowsO.ite
  · exact FollowsO.next fo
  · apply State.pageWrite_follows
    · exact fo
    · intro x1 h1
      exact State.setG_follows h1

theorem State.clearHold_follows {pre : State} {s : State} (fo : Follows pre s) {p : Nat} : Follows pre (s.clearHold p) := by
  unfold State.clearHold
  extract_lets s1 s2
  have h1 : Follows pre s2 := State.setG_follows fo
  clear_value s2
  exact Follows.ite (State.sendGo_follows (State.updPart_follows h1)) h1

theorem execCsdHoldClear_follows {pre : State} {path : Path} {part : Part} {s : State} (fo : Follows pre s) : FollowsO pre (execCsdHoldClear path part s) := by
  unfold execCsdHoldClear
  apply FollowsO.ite
  · exact FollowsO.next fo
  · apply State.pageWrite_follows
    · exact fo
    · intro x1 h1
      exact State.clearHold_follows h1

theorem execCsdRootSwap_follows {pre : State} {path : Path} {s : State} (fo : Follows pre s) : FollowsO pre (execCsdRootSwap path s) := by
  unfold execCsdRootSwap
  apply State.pageWrite_follows
  · exact fo
  · intro x1 h1
    exact h1.same (Eq.refl _) h1.mem (Eq.refl _) (Eq.refl _) (Eq.refl _) (Eq.refl _)

theorem State.swapRoots_follows {pre : State} {s : State} (fo : Follows pre s) : Follows pre s.swapRoots := by
  unfold State.swapRoots
  apply State.setG_follows
  exact fo.same (Eq.refl _) fo.mem (Eq.refl _) (Eq.refl _) (Eq.refl _) (Eq.refl _)

theorem execRootTakeover_follows {pre : State} {part : Part} {s : State} (fo : Follows pre s) : FollowsO pre (execRootTakeover part s) := by
  unfold execRootTakeover
  extract_lets s1 s2
  have h1 : Follows pre s2 := State.record_follows (State.setG_follows (State.swapRoots_follows fo))
  clear_value s2
  split
  · rename_i y1 y2 y3
    exact FollowsO.next (State.sendGo_follows h1)
  · exact FollowsO.next fo

theorem execTreeMessageRepeat_follows {pre : State} {part : Part} {region : Fin 16} {s : State} (fo : Follows pre s) : FollowsO pre (execTreeMessageRepeat part region s) := by
  unfold execTreeMessageRepeat
  extract_lets s1 s2
  split
  · exact FollowsO.next fo
  · rename_i y1 y2 y3
    extract_lets s3
    have h1 : Follows pre s3 := fo.same (Eq.refl _) fo.mem (Eq.refl _) (Eq.refl _) (Eq.refl _) (Eq.refl _)
    clear_value s3
    exact FollowsO.next (State.emit_follows h1)

theorem execGoReissue_follows {pre : State} {part : Part} {s : State} (fo : Follows pre s) : FollowsO pre (execGoReissue part s) := by
  unfold execGoReissue
  extract_lets s1
  exact FollowsO.ite (FollowsO.next (State.sendGo_follows (State.record_follows fo))) (FollowsO.next fo)

/-! ### Operations that leave memory alone -/

theorem execProgramEnd_memSame {pre : State} {tile : Tile} {s : State} (fo : MemSame pre s) : MemSameO pre (execProgramEnd tile s) := by
  unfold execProgramEnd
  extract_lets s1
  split
  · exact MemSameO.next fo
  · rename_i y1 y2 y3
    apply MemSameO.ite
    · extract_lets s2 s3 s4
      have h1 : MemSame pre s3 := MemSame.ite (State.tileFault_memSame (State.setReg_memSame fo)) fo
      clear_value s3
      have h2 : MemSame pre s4 := State.setReg_memSame h1
      clear_value s4
      exact MemSameO.next (State.updTile_memSame h2)
    · exact MemSameO.next fo

theorem execRegionReport_memSame {pre : State} {part : Part} {region : Region} {edges : Fin 65536} {s : State} (fo : MemSame pre s) : MemSameO pre (execRegionReport part region edges s) := by
  unfold execRegionReport
  extract_lets s1 s2 s3 s4 s5
  have h1 : MemSame pre s5 := State.updPart_memSame fo
  clear_value s5
  apply MemSameO.ite
  · apply MemSameO.next
    apply State.emit_memSame
    exact h1.same (Eq.refl _)
  · exact MemSameO.next fo

theorem State.overrun_memSame {pre : State} {s : State} (fo : MemSame pre s) {p : Nat} {r : Nat} {x : RegionRep} : MemSame pre (State.overrun s p r x) := by
  unfold State.overrun
  exact MemSame.ite (State.record_memSame fo) fo

theorem State.overruns_memSame {pre : State} {s : State} (fo : MemSame pre s) {p : Nat} : MemSame pre (State.overruns s p) := by
  unfold State.overruns
  extract_lets s1 s2
  have h1 : MemSame pre s2 := by
    unfold s2
    apply foldl_memSame
    · intro x1 x2 h2
      exact State.overrun_memSame h2
    · exact fo
  clear_value s2
  exact MemSame.ite (State.addReg_memSame h1) h1

theorem State.sendGo_memSame {pre : State} {s : State} (fo : MemSame pre s) {p : Nat} {code : Nat} : MemSame pre (s.sendGo p code) := by
  unfold State.sendGo
  apply State.emit_memSame
  exact fo.same (Eq.refl _)

theorem State.rootMismatch_memSame {pre : State} {s : State} (fo : MemSame pre s) {p : Nat} : MemSame pre (s.rootMismatch p) := by
  unfold State.rootMismatch
  extract_lets s1
  have h1 : MemSame pre s1 := State.record_memSame (State.setG_memSame fo)
  clear_value s1
  exact State.cascadeStop_memSame (State.countUp_memSame (State.onTiles_memSame (State.discardAttempt_memSame h1)))

theorem execRootDeadline_memSame {pre : State} {part : Part} {mismatch : Bool} {s : State} (fo : MemSame pre s) : MemSameO pre (execRootDeadline part mismatch s) := by
  unfold execRootDeadline
  extract_lets s1 s2 s3 s4 s5
  have h1 : MemSame pre s2 := State.overruns_memSame fo
  clear_value s2
  have h2 : MemSame pre s3 := h1.same (Eq.refl _)
  clear_value s3
  have h3 : MemSame pre s5 := MemSame.ite (State.record_memSame h2) h2
  clear_value s5
  exact MemSameO.ite (MemSameO.ite (MemSameO.next (State.rootMismatch_memSame h2)) (MemSameO.next (State.sendGo_memSame (State.updPart_memSame h3)))) (MemSameO.next fo)

theorem State.nextAttempt_memSame {pre : State} {s : State} (fo : MemSame pre s) {p : Nat} {prog : Nat} {start : Bool} : MemSame pre (s.nextAttempt p prog start) := by
  unfold State.nextAttempt
  exact State.updPart_memSame (State.onTiles_memSame fo)

theorem State.stopAdmission_memSame {pre : State} {s : State} (fo : MemSame pre s) {p : Nat} : MemSame pre (s.stopAdmission p) := by
  unfold State.stopAdmission
  exact State.updPart_memSame fo

theorem State.admissionStopped_memSame {pre : State} {s : State} (fo : MemSame pre s) {p : Nat} : MemSame pre (s.admissionStopped p) := by
  unfold State.admissionStopped
  exact MemSame.ite fo (State.updPart_memSame fo)

theorem State.afterCommit_memSame {pre : State} {s : State} (fo : MemSame pre s) {p : Nat} : MemSame pre (s.afterCommit p) := by
  unfold State.afterCommit
  exact MemSame.ite (State.startWrite_memSame (State.clearBindings_memSame fo)) (MemSame.ite (State.cascadeStop_memSame fo) (MemSame.ite (State.stopReached_memSame fo) (State.nextAttempt_memSame fo)))

theorem State.slipRecord_memSame {pre : State} {s : State} (fo : MemSame pre s) {p : Nat} : MemSame pre (State.slipRecord s p) := by
  unfold State.slipRecord
  extract_lets s1
  exact State.record_memSame fo

theorem State.sameProgram_memSame {pre : State} {s : State} (fo : MemSame pre s) {p : Nat} : MemSame pre (State.sameProgram s p) := by
  unfold State.sameProgram
  extract_lets s1 s2 s3 s4 s5
  have h1 : MemSame pre s3 := MemSame.ite (State.slipRecord_memSame fo) fo
  clear_value s3
  have h2 : MemSame pre s4 := State.countUp_memSame (State.discardAttempt_memSame (MemSame.ite (State.addReg_memSame h1) h1))
  clear_value s4
  have h3 : MemSame pre s5 := State.updPart_memSame h2
  clear_value s5
  exact MemSame.ite (State.cascadeStop_memSame h3) (MemSame.ite (State.cascadeStop_memSame h3) (State.nextAttempt_memSame (State.onTiles_memSame h3)))

theorem State.troubleReplay_memSame {pre : State} {s : State} (fo : MemSame pre s) {p : Nat} {recompute : Bool} : MemSame pre (s.troubleReplay p recompute) := by
  unfold State.troubleReplay
  extract_lets s1 s2 s3
  have h1 : MemSame pre s2 := State.countUp_memSame (State.discardAttempt_memSame fo)
  clear_value s2
  have h2 : MemSame pre s3 := State.updPart_memSame h1
  clear_value s3
  exact MemSame.ite (State.cascadeStop_memSame h2) (MemSame.ite (State.updPart_memSame h2) (State.nextAttempt_memSame (State.onTiles_memSame h2)))

theorem execReplayBoundary_memSame {pre : State} {part : Part} {s : State} (fo : MemSame pre s) : MemSameO pre (execReplayBoundary part s) := by
  unfold execReplayBoundary
  extract_lets s1
  split
  · exact MemSameO.next (State.sameProgram_memSame fo)
  · rename_i y1 y2 y3
    exact MemSameO.next (State.troubleReplay_memSame fo)
  · exact MemSameO.next fo

theorem State.recomputeTile_memSame {pre : State} {s : State} (fo : MemSame pre s) {t : Nat} : MemSame pre (s.recomputeTile t) := by
  unfold State.recomputeTile
  apply foldl_memSame
  · intro x1 x2 h1
    exact State.updTile_memSame h1
  · exact fo

theorem execRecomputeDone_memSame {pre : State} {part : Part} {s : State} (fo : MemSame pre s) : MemSameO pre (execRecomputeDone part s) := by
  unfold execRecomputeDone
  extract_lets s1 s2 s3
  have h1 : MemSame pre s3 := by
    unfold s3
    apply foldl_memSame
    · intro x1 x2 h1
      exact State.recomputeTile_memSame h1
    · exact fo
  clear_value s3
  exact MemSameO.ite (MemSameO.ite (MemSameO.next (State.cascadeStop_memSame h1)) (MemSameO.next (State.sendGo_memSame (State.nextAttempt_memSame h1)))) (MemSameO.next fo)

theorem State.rangeFailures_memSame {pre : State} {s : State} (fo : MemSame pre s) {p : Nat} : MemSame pre (s.rangeFailures p) := by
  unfold State.rangeFailures
  extract_lets s1 s2
  apply State.journalAcc_memSame
  apply foldl_memSame
  · intro x1 x2 h1
    exact MemSame.ite (State.endPlain_memSame h1) h1
  · exact fo

theorem execFaultedStepBoundary_memSame {pre : State} {part : Part} {s : State} (fo : MemSame pre s) : MemSameO pre (execFaultedStepBoundary part s) := by
  unfold execFaultedStepBoundary
  extract_lets s1 s2 s3 s4 s5 s6
  have h1 : MemSame pre s3 := MemSame.ite fo (State.record_memSame fo)
  clear_value s3
  have h2 : MemSame pre s4 := State.rangeFailures_memSame (State.discardAttempt_memSame h1)
  clear_value s4
  have h3 : MemSame pre s5 := State.onTiles_memSame h2
  clear_value s5
  have h4 : MemSame pre s6 := State.countUp_memSame (State.updPart_memSame h3)
  clear_value s6
  exact MemSameO.ite (MemSameO.ite (MemSameO.next (State.nextAttempt_memSame h4)) (MemSameO.next (State.cascadeStop_memSame h4))) (MemSameO.next fo)

theorem State.startWait_memSame {pre : State} {s : State} (fo : MemSame pre s) {p : Nat} {ts : List Nat} : MemSame pre (State.startWait s p ts) := by
  unfold State.startWait
  apply foldl_memSame
  · intro x1 x2 h1
    extract_lets s1
    exact State.updTile_memSame h1
  · exact fo

theorem State.beginAttempt_memSame {pre : State} {s : State} (fo : MemSame pre s) {p : Nat} : MemSame pre (State.beginAttempt s p) := by
  unfold State.beginAttempt
  extract_lets s1 s2
  have h1 : MemSame pre s1 := by
    unfold s1
    apply foldl_memSame
    · intro x1 x2 h2
      exact State.setReg_memSame h2
    · exact fo
  clear_value s1
  have h3 : MemSame pre s2 := State.onTiles_memSame h1
  clear_value s2
  exact State.updPart_memSame h3

theorem State.endTakeover_memSame {pre : State} {s : State} (fo : MemSame pre s) {p : Nat} : MemSame pre (State.endTakeover s p) := by
  unfold State.endTakeover
  exact State.updPart_memSame fo

theorem execAttemptStart_memSame {pre : State} {part : Part} {s : State} (fo : MemSame pre s) : MemSameO pre (execAttemptStart part s) := by
  unfold execAttemptStart
  extract_lets s1 s2 s3 s4
  have h1 : MemSame pre s3 := MemSame.ite (State.endTakeover_memSame fo) fo
  clear_value s3
  exact MemSameO.ite (MemSameO.ite (MemSameO.next (State.beginAttempt_memSame h1)) (MemSameO.next (State.startWait_memSame h1))) (MemSameO.next fo)

theorem execTagTimeout_memSame {pre : State} {tile : Tile} {entry : Fin 4096} {s : State} (fo : MemSame pre s) : MemSameO pre (execTagTimeout tile entry s) := by
  unfold execTagTimeout
  extract_lets s1 s2
  split
  · rename_i y1 y2 y3 y4 y5 y6 y7 y8 y9
    apply MemSameO.ite
    · extract_lets s3 s4
      have h1 : MemSame pre s3 := State.tileRecord_memSame (State.setReg_memSame fo)
      clear_value s3
      have h2 : MemSame pre s4 := State.updPart_memSame (State.updTile_memSame h1)
      clear_value s4
      exact MemSameO.ite (MemSameO.next (State.cascadeStop_memSame h2)) (MemSameO.next h2)
    · exact MemSameO.next fo
  · exact MemSameO.next fo

theorem execAbort_memSame {pre : State} {part : Part} {s : State} (fo : MemSame pre s) : MemSameO pre (execAbort part s) := by
  unfold execAbort
  exact MemSameO.next (State.abortPart_memSame fo)

theorem execCsdHoldSet_memSame {pre : State} {path : Path} {part : Part} {s : State} (fo : MemSame pre s) : MemSameO pre (execCsdHoldSet path part s) := by
  unfold execCsdHoldSet
  apply MemSameO.ite
  · exact MemSameO.next fo
  · apply State.pageWrite_memSame
    · exact fo
    · intro x1 h1
      exact State.setG_memSame h1

theorem State.clearHold_memSame {pre : State} {s : State} (fo : MemSame pre s) {p : Nat} : MemSame pre (s.clearHold p) := by
  unfold State.clearHold
  extract_lets s1 s2
  have h1 : MemSame pre s2 := State.setG_memSame fo
  clear_value s2
  exact MemSame.ite (State.sendGo_memSame (State.updPart_memSame h1)) h1

theorem execCsdHoldClear_memSame {pre : State} {path : Path} {part : Part} {s : State} (fo : MemSame pre s) : MemSameO pre (execCsdHoldClear path part s) := by
  unfold execCsdHoldClear
  apply MemSameO.ite
  · exact MemSameO.next fo
  · apply State.pageWrite_memSame
    · exact fo
    · intro x1 h1
      exact State.clearHold_memSame h1

theorem execCsdRootSwap_memSame {pre : State} {path : Path} {s : State} (fo : MemSame pre s) : MemSameO pre (execCsdRootSwap path s) := by
  unfold execCsdRootSwap
  apply State.pageWrite_memSame
  · exact fo
  · intro x1 h1
    exact h1.same (Eq.refl _)

theorem State.swapRoots_memSame {pre : State} {s : State} (fo : MemSame pre s) : MemSame pre s.swapRoots := by
  unfold State.swapRoots
  apply State.setG_memSame
  exact fo.same (Eq.refl _)

theorem execRootTakeover_memSame {pre : State} {part : Part} {s : State} (fo : MemSame pre s) : MemSameO pre (execRootTakeover part s) := by
  unfold execRootTakeover
  extract_lets s1 s2
  have h1 : MemSame pre s2 := State.record_memSame (State.setG_memSame (State.swapRoots_memSame fo))
  clear_value s2
  split
  · rename_i y1 y2 y3
    exact MemSameO.next (State.sendGo_memSame h1)
  · exact MemSameO.next fo

theorem execTreeMessageRepeat_memSame {pre : State} {part : Part} {region : Fin 16} {s : State} (fo : MemSame pre s) : MemSameO pre (execTreeMessageRepeat part region s) := by
  unfold execTreeMessageRepeat
  extract_lets s1 s2
  split
  · exact MemSameO.next fo
  · rename_i y1 y2 y3
    extract_lets s3
    have h1 : MemSame pre s3 := fo.same (Eq.refl _)
    clear_value s3
    exact MemSameO.next (State.emit_memSame h1)

theorem execGoReissue_memSame {pre : State} {part : Part} {s : State} (fo : MemSame pre s) : MemSameO pre (execGoReissue part s) := by
  unfold execGoReissue
  extract_lets s1
  exact MemSameO.ite (MemSameO.next (State.sendGo_memSame (State.record_memSame fo))) (MemSameO.next fo)

end Sys2Proof.Machine
end

