-- ==== Sys2Proof/Laws/Fabric.lean ====
section
/-! SUPPORT. What the operations of Machine/Fabric.lean keep: one lemma for each, by the lemmas of those that it calls. -/

namespace Sys2Proof.Machine

open Sys2Proof

theorem State.rtrFault_follows {pre : State} {s : State} (fo : Follows pre s) {t : Nat} {f : Fld} {code : Nat} {c : Nat} {port : Nat} {lane : Nat} : Follows pre (s.rtrFault t f code c port lane) := by
  unfold State.rtrFault
  exact State.tileFault_follows (State.setReg_follows fo)

theorem State.launchCrc_follows {pre : State} {s : State} (fo : Follows pre s) {t : Nat} : Follows pre (s.launchCrc t).fst := by
  unfold State.launchCrc
  split
  · dsimp only
    exact State.setReg_follows (State.setReg_follows fo)
  · exact fo

theorem State.intoCross_follows {pre : State} {s : State} (fo : Follows pre s) {k : Nat} {c : Nat} {b : LinkBeat} : Follows pre (s.intoCross k c b) := by
  unfold State.intoCross
  extract_lets s1
  apply Follows.ite
  · exact fo.same (Eq.refl _) fo.mem (Eq.refl _) (Eq.refl _) (Eq.refl _) (Eq.refl _)
  · exact fo

theorem State.intoLink_follows {pre : State} {s : State} (fo : Follows pre s) {t : Nat} {port : Nat} {c : Nat} {lane : Nat} {b : LinkBeat} : Follows pre (s.intoLink t port c lane b) := by
  unfold State.intoLink
  extract_lets s1
  apply Follows.ite
  · exact State.rtrFault_follows fo
  · exact fo.same (Eq.refl _) fo.mem (Eq.refl _) (Eq.refl _) (Eq.refl _) (Eq.refl _)

theorem State.intoLane_follows {pre : State} {s : State} (fo : Follows pre s) {l : Nat} {c : Nat} {b : LinkBeat} : Follows pre (s.intoLane l c b) := by
  unfold State.intoLane
  extract_lets s1
  apply Follows.ite
  · exact State.rtrFault_follows fo
  · exact fo.same (Eq.refl _) fo.mem (Eq.refl _) (Eq.refl _) (Eq.refl _) (Eq.refl _)

theorem State.ontoSegment_follows {pre : State} {s : State} (fo : Follows pre s) {site : Nat} {axis : Nat} {dir : Nat} {lane : Nat} {c : Nat} {b : LinkBeat} : Follows pre (State.ontoSegment s site axis dir lane c b) := by
  unfold State.ontoSegment
  split
  · exact fo
  · rename_i y3 y4 y5
    extract_lets s1
    exact Follows.ite (State.intoLane_follows fo) (Follows.ite (State.rtrFault_follows fo) (State.intoCross_follows fo))

theorem State.takeBack_follows {pre : State} {s : State} (fo : Follows pre s) {h : Hop} {t : Nat} {c : Nat} : Follows pre (State.takeBack s h t c) := by
  unfold State.takeBack
  split
  · exact fo.same (Eq.refl _) fo.mem (Eq.refl _) (Eq.refl _) (Eq.refl _) (Eq.refl _)
  · exact fo.same (Eq.refl _) fo.mem (Eq.refl _) (Eq.refl _) (Eq.refl _) (Eq.refl _)
  · exact fo.same (Eq.refl _) fo.mem (Eq.refl _) (Eq.refl _) (Eq.refl _) (Eq.refl _)
  · exact fo

theorem State.launch_follows {pre : State} {s : State} (fo : Follows pre s) {t : Nat} {e : Nat} {port : Nat} {c : Nat} {exp : Bool} {lane : Nat} {b : Beat} : Follows pre (State.launch s t e port c exp lane b) := by
  unfold State.launch
  extract_lets s1 s2 s3 s4 s5 s6 s7 s8
  have h1 : Follows pre s3 := Follows.ite (State.rtrFault_follows fo) fo
  clear_value s3
  have h2 : Follows pre s4 := by
    unfold s4
    clear_value s2
    split
    · rename_i y1 y2
      extract_lets s9
      exact State.takeBack_follows h1
    · exact h1
  clear_value s4
  have h3 : Follows pre s5 := State.updTile_follows h2
  clear_value s5
  have h4 : Follows pre s6.fst := State.launchCrc_follows h3
  clear_value s6
  have h5 : Follows pre s7 := h4
  clear_value s7
  apply Follows.ite
  · exact h1
  · split
    · exact State.intoLane_follows h5
    · exact State.intoLink_follows h5
    · exact State.intoCross_follows h5
    · exact h5

theorem State.toLocal_follows {pre : State} {s : State} (fo : Follows pre s) {t : Nat} {c : Nat} {b : Beat} : Follows pre (s.toLocal t c b) := by
  unfold State.toLocal
  exact Follows.ite (State.updTile_follows fo) (State.rtrFault_follows fo)

theorem State.fromBuffer_follows {pre : State} {s : State} (fo : Follows pre s) {t : Nat} {c : Nat} {n : Nat} {j : Nat} : Follows pre (s.fromBuffer t c n j).fst := by
  unfold State.fromBuffer
  split
  · rename_i y1 y2 y3
    dsimp only
    exact State.updTile_follows fo
  · dsimp only
    exact State.tileFault_follows fo

theorem State.fromBuffers_follows {pre : State} {s : State} (fo : Follows pre s) {t : Nat} {c : Nat} {l : List (Nat × Nat)} : Follows pre (s.fromBuffers t c l).fst := by
  unfold State.fromBuffers
  apply foldl_follows1
  · intro x1 x2 h1
    extract_lets s1
    have h2 : Follows pre s1.fst := State.fromBuffer_follows h1
    clear_value s1
    exact h2
  · exact fo

theorem State.routeSource_follows {pre : State} {s : State} (fo : Follows pre s) {t : Nat} {r : RouteE} {i : Issue} : Follows pre (State.routeSource s t r i).fst := by
  unfold State.routeSource
  split
  · rename_i y1
    split
    · exact State.fromBuffers_follows fo
    · rename_i y3
      split
      · rename_i y4
        extract_lets s1 s2
        have h1 : Follows pre s2 := State.updTile_follows fo
        clear_value s2
        dsimp only
        exact Follows.ite (State.tileFault_follows (State.setReg_follows h1)) h1
      · rename_i y5
        extract_lets s3 s4
        have h2 : Follows pre s4.fst := State.schedReads_follows (State.portClaim_follows fo)
        clear_value s4
        split
        · rename_i y6
          dsimp only
          exact State.portRecord_follows fo
        · exact h2
  · exact State.takeBeats_follows fo

theorem State.routeRows_follows {pre : State} {s : State} (fo : Follows pre s) {t : Nat} {r : RouteE} {i : Issue} {bs : List Beat} : Follows pre (State.routeRows s t r i bs) := by
  unfold State.routeRows
  extract_lets s1
  exact Follows.ite (State.portRecord_follows fo) (State.schedWrites_follows (State.portClaim_follows fo))

theorem State.routeSinks_follows {pre : State} {s : State} (fo : Follows pre s) {t : Nat} {r : RouteE} {i : Issue} {bs : List Beat} {fenced : Bool} : Follows pre (State.routeSinks s t r i bs fenced) := by
  unfold State.routeSinks
  extract_lets s1
  have h1 : Follows pre s1 := by
    unfold s1
    apply Follows.ite
    · apply Follows.ite
      · exact State.rtrFault_follows fo
      · apply Follows.ite
        · exact State.routeRows_follows fo
        · apply foldl_follows
          · intro x1 x2 h2
            exact State.toLocal_follows h2
          · exact fo
    · exact fo
  clear_value s1
  apply foldl_follows
  · intro x3 x4 h3
    apply Follows.ite
    · apply foldl_follows
      · intro x5 x6 h4
        exact State.launch_follows h4
      · exact h3
    · exact h3
  · exact h1

theorem execRouteEntry_follows {pre : State} {tile : Tile} {entry : Fin 2048} {parityOk : Bool} {s : State} (fo : Follows pre s) : FollowsO pre (execRouteEntry tile entry parityOk s) := by
  unfold execRouteEntry
  extract_lets s1 s2 s3 s4 s5 s6 s7 s8 s9
  have h1 : Follows pre s5 := State.updTile_follows fo
  clear_value s5
  have h2 : Follows pre s7 := State.rtrFault_follows (State.updTile_follows h1)
  clear_value s7
  have h3 : Follows pre s8 := State.rtrFault_follows h1
  clear_value s8
  have h4 : Follows pre s9.fst := State.routeSource_follows h1
  clear_value s9
  exact FollowsO.ite (FollowsO.next fo) (FollowsO.ite (FollowsO.next (State.routeSinks_follows h2)) (FollowsO.ite (FollowsO.next h1) (FollowsO.ite (FollowsO.next (State.routeSinks_follows h3)) (FollowsO.next (State.routeSinks_follows h4)))))

theorem State.hopRecord_follows {pre : State} {s : State} (fo : Follows pre s) {t : Nat} {code : Nat} {c : Nat} {port : Nat} {lane : Nat} {part : Nat} {unit : Nat} : Follows pre (s.hopRecord t code c port lane part unit) := by
  unfold State.hopRecord
  exact State.tileRecord_follows fo

theorem State.crcCheck_follows {pre : State} {s : State} (fo : Follows pre s) {t : Nat} {c : Nat} {port : Nat} {b : LinkBeat} {crcOk : Bool} : Follows pre (s.crcCheck t c port b crcOk).fst := by
  unfold State.crcCheck
  split
  · exact fo
  · extract_lets s1 s2
    have h1 : Follows pre s1 := State.hopRecord_follows (State.addReg_follows (State.setReg_follows fo))
    clear_value s1
    exact h1

theorem execBeatArrival_follows {pre : State} {tile : Tile} {port : Fin 7} {cycle : Fin 131072} {crcOk : Bool} {s : State} (fo : Follows pre s) : FollowsO pre (execBeatArrival tile port cycle crcOk s) := by
  unfold execBeatArrival
  extract_lets s1 s2 s3 s4
  have h1 : Follows pre s4 := fo.same (Eq.refl _) fo.mem (Eq.refl _) (Eq.refl _) (Eq.refl _) (Eq.refl _)
  clear_value s4
  split
  · exact FollowsO.next fo
  · rename_i y3 y4 y5
    apply FollowsO.ite
    · exact FollowsO.next h1
    · extract_lets s5 s6
      have h2 : Follows pre s5.fst := State.crcCheck_follows h1
      clear_value s5
      have h3 : Follows pre s6 := h2
      clear_value s6
      split
      · exact FollowsO.next h3
      · exact FollowsO.ite (FollowsO.next (State.hopRecord_follows (State.setReg_follows h3))) (FollowsO.ite (FollowsO.next (State.updTile_follows h3)) (FollowsO.next (State.rtrFault_follows h3)))

theorem State.laneFault_follows {pre : State} {s : State} (fo : Follows pre s) {b : LinkBeat} {c : Nat} {lane : Nat} : Follows pre (State.laneFault s b c lane) := by
  unfold State.laneFault
  exact State.tileRecord_follows (State.setReg_follows fo)

theorem State.station_follows {pre : State} {s : State} (fo : Follows pre s) {site : Nat} {axis : Nat} {dir : Nat} {lane : Nat} {c : Nat} {added : Bool} {b : LinkBeat} : Follows pre (State.station s site axis dir lane c added b) := by
  unfold State.station
  extract_lets s1 s2 s3
  exact Follows.ite fo (Follows.ite (State.laneFault_follows fo) (Follows.ite (State.ontoSegment_follows fo) (State.intoLink_follows fo)))

theorem execExpressStationPass_follows {pre : State} {site : Site} {axis : Fin 2} {dir : Fin 2} {lane : Fin 104} {cycle : Fin 131072} {crcOk : Bool} {s : State} (fo : Follows pre s) : FollowsO pre (execExpressStationPass site axis dir lane cycle crcOk s) := by
  unfold execExpressStationPass
  extract_lets s1 s2 s3 s4 s5
  have h1 : Follows pre s5 := fo.same (Eq.refl _) fo.mem (Eq.refl _) (Eq.refl _) (Eq.refl _) (Eq.refl _)
  clear_value s5
  split
  · exact FollowsO.next fo
  · rename_i y3 y4 y5
    apply FollowsO.ite
    · exact FollowsO.next h1
    · extract_lets s6 s7 s8 s9
      have h2 : Follows pre s7 := Follows.ite (State.hopRecord_follows h1) h1
      clear_value s7
      exact FollowsO.next (State.station_follows h2)

theorem State.slipAt_follows {pre : State} {s : State} (fo : Follows pre s) {p : Nat} {isLane : Bool} {place : Nat} {c : Nat} {edges : Nat} : Follows pre (State.slipAt s p isLane place c edges) := by
  unfold State.slipAt
  extract_lets s1 s2
  have h1 : Follows pre s2 := State.record_follows fo
  clear_value s2
  split
  · exact State.updTile_follows h1
  · exact h1

theorem execCrossingRelease_follows {pre : State} {isLane : Bool} {place : Fin 524288} {launch : Fin 65536} {reached : Bool} {edges : Fin 65536} {s : State} (fo : Follows pre s) : FollowsO pre (execCrossingRelease isLane place launch reached edges s) := by
  unfold execCrossingRelease
  extract_lets s1 s2 s3 s4 s5 s6
  have h1 : Follows pre s6 := fo.same (Eq.refl _) fo.mem (Eq.refl _) (Eq.refl _) (Eq.refl _) (Eq.refl _)
  clear_value s6
  split
  · rename_i y1 y2 y3
    clear_value s5
    split
    · exact FollowsO.next h1
    · rename_i y5 y6
      extract_lets s7 s8
      have h2 : Follows pre s8.fst := h1
      clear_value s8
      exact FollowsO.ite (FollowsO.next (State.intoLane_follows h2)) (FollowsO.next (State.intoLink_follows h2))
  · rename_i y7 y8
    clear_value s5
    split
    · exact FollowsO.next h1
    · rename_i y10 y11
      extract_lets s9 s10
      have h3 : Follows pre s10.fst := by
        unfold s10
        dsimp only
        exact State.slipAt_follows h1
      clear_value s10
      exact FollowsO.ite (FollowsO.next (State.intoLane_follows h3)) (FollowsO.next (State.intoLink_follows h3))

/-! ### Operations that leave memory alone -/

theorem State.rtrFault_memSame {pre : State} {s : State} (fo : MemSame pre s) {t : Nat} {f : Fld} {code : Nat} {c : Nat} {port : Nat} {lane : Nat} : MemSame pre (s.rtrFault t f code c port lane) := by
  unfold State.rtrFault
  exact State.tileFault_memSame (State.setReg_memSame fo)

theorem State.launchCrc_memSame {pre : State} {s : State} (fo : MemSame pre s) {t : Nat} : MemSame pre (s.launchCrc t).fst := by
  unfold State.launchCrc
  split
  · dsimp only
    exact State.setReg_memSame (State.setReg_memSame fo)
  · exact fo

theorem State.intoCross_memSame {pre : State} {s : State} (fo : MemSame pre s) {k : Nat} {c : Nat} {b : LinkBeat} : MemSame pre (s.intoCross k c b) := by
  unfold State.intoCross
  extract_lets s1
  apply MemSame.ite
  · exact fo.same (Eq.refl _)
  · exact fo

theorem State.intoLink_memSame {pre : State} {s : State} (fo : MemSame pre s) {t : Nat} {port : Nat} {c : Nat} {lane : Nat} {b : LinkBeat} : MemSame pre (s.intoLink t port c lane b) := by
  unfold State.intoLink
  extract_lets s1
  apply MemSame.ite
  · exact State.rtrFault_memSame fo
  · exact fo.same (Eq.refl _)

theorem State.intoLane_memSame {pre : State} {s : State} (fo : MemSame pre s) {l : Nat} {c : Nat} {b : LinkBeat} : MemSame pre (s.intoLane l c b) := by
  unfold State.intoLane
  extract_lets s1
  apply MemSame.ite
  · exact State.rtrFault_memSame fo
  · exact fo.same (Eq.refl _)

theorem State.ontoSegment_memSame {pre : State} {s : State} (fo : MemSame pre s) {site : Nat} {axis : Nat} {dir : Nat} {lane : Nat} {c : Nat} {b : LinkBeat} : MemSame pre (State.ontoSegment s site axis dir lane c b) := by
  unfold State.ontoSegment
  split
  · exact fo
  · rename_i y3 y4 y5
    extract_lets s1
    exact MemSame.ite (State.intoLane_memSame fo) (MemSame.ite (State.rtrFault_memSame fo) (State.intoCross_memSame fo))

theorem State.takeBack_memSame {pre : State} {s : State} (fo : MemSame pre s) {h : Hop} {t : Nat} {c : Nat} : MemSame pre (State.takeBack s h t c) := by
  unfold State.takeBack
  split
  · exact fo.same (Eq.refl _)
  · exact fo.same (Eq.refl _)
  · exact fo.same (Eq.refl _)
  · exact fo

theorem State.launch_memSame {pre : State} {s : State} (fo : MemSame pre s) {t : Nat} {e : Nat} {port : Nat} {c : Nat} {exp : Bool} {lane : Nat} {b : Beat} : MemSame pre (State.launch s t e port c exp lane b) := by
  unfold State.launch
  extract_lets s1 s2 s3 s4 s5 s6 s7 s8
  have h1 : MemSame pre s3 := MemSame.ite (State.rtrFault_memSame fo) fo
  clear_value s3
  have h2 : MemSame pre s4 := by
    unfold s4
    clear_value s2
    split
    · rename_i y1 y2
      extract_lets s9
      exact State.takeBack_memSame h1
    · exact h1
  clear_value s4
  have h3 : MemSame pre s5 := State.updTile_memSame h2
  clear_value s5
  have h4 : MemSame pre s6.fst := State.launchCrc_memSame h3
  clear_value s6
  have h5 : MemSame pre s7 := h4
  clear_value s7
  apply MemSame.ite
  · exact h1
  · split
    · exact State.intoLane_memSame h5
    · exact State.intoLink_memSame h5
    · exact State.intoCross_memSame h5
    · exact h5

theorem State.toLocal_memSame {pre : State} {s : State} (fo : MemSame pre s) {t : Nat} {c : Nat} {b : Beat} : MemSame pre (s.toLocal t c b) := by
  unfold State.toLocal
  exact MemSame.ite (State.updTile_memSame fo) (State.rtrFault_memSame fo)

theorem State.fromBuffer_memSame {pre : State} {s : State} (fo : MemSame pre s) {t : Nat} {c : Nat} {n : Nat} {j : Nat} : MemSame pre (s.fromBuffer t c n j).fst := by
  unfold State.fromBuffer
  split
  · rename_i y1 y2 y3
    dsimp only
    exact State.updTile_memSame fo
  · dsimp only
    exact State.tileFault_memSame fo

theorem State.fromBuffers_memSame {pre : State} {s : State} (fo : MemSame pre s) {t : Nat} {c : Nat} {l : List (Nat × Nat)} : MemSame pre (s.fromBuffers t c l).fst := by
  unfold State.fromBuffers
  apply foldl_memSame1
  · intro x1 x2 h1
    extract_lets s1
    have h2 : MemSame pre s1.fst := State.fromBuffer_memSame h1
    clear_value s1
    exact h2
  · exact fo

theorem State.routeSource_memSame {pre : State} {s : State} (fo : MemSame pre s) {t : Nat} {r : RouteE} {i : Issue} : MemSame pre (State.routeSource s t r i).fst := by
  unfold State.routeSource
  split
  · rename_i y1
    split
    · exact State.fromBuffers_memSame fo
    · rename_i y3
      split
      · rename_i y4
        extract_lets s1 s2
        have h1 : MemSame pre s2 := State.updTile_memSame fo
        clear_value s2
        dsimp only
        exact MemSame.ite (State.tileFault_memSame (State.setReg_memSame h1)) h1
      · rename_i y5
        extract_lets s3 s4
        have h2 : MemSame pre s4.fst := State.schedReads_memSame (State.portClaim_memSame fo)
        clear_value s4
        split
        · rename_i y6
          dsimp only
          exact State.portRecord_memSame fo
        · exact h2
  · exact State.takeBeats_memSame fo

theorem State.hopRecord_memSame {pre : State} {s : State} (fo : MemSame pre s) {t : Nat} {code : Nat} {c : Nat} {port : Nat} {lane : Nat} {part : Nat} {unit : Nat} : MemSame pre (s.hopRecord t code c port lane part unit) := by
  unfold State.hopRecord
  exact State.tileRecord_memSame fo

theorem State.crcCheck_memSame {pre : State} {s : State} (fo : MemSame pre s) {t : Nat} {c : Nat} {port : Nat} {b : LinkBeat} {crcOk : Bool} : MemSame pre (s.crcCheck t c port b crcOk).fst := by
  unfold State.crcCheck
  split
  · exact fo
  · extract_lets s1 s2
    have h1 : MemSame pre s1 := State.hopRecord_memSame (State.addReg_memSame (State.setReg_memSame fo))
    clear_value s1
    exact h1

theorem execBeatArrival_memSame {pre : State} {tile : Tile} {port : Fin 7} {cycle : Fin 131072} {crcOk : Bool} {s : State} (fo : MemSame pre s) : MemSameO pre (execBeatArrival tile port cycle crcOk s) := by
  unfold execBeatArrival
  extract_lets s1 s2 s3 s4
  have h1 : MemSame pre s4 := fo.same (Eq.refl _)
  clear_value s4
  split
  · exact MemSameO.next fo
  · rename_i y3 y4 y5
    apply MemSameO.ite
    · exact MemSameO.next h1
    · extract_lets s5 s6
      have h2 : MemSame pre s5.fst := State.crcCheck_memSame h1
      clear_value s5
      have h3 : MemSame pre s6 := h2
      clear_value s6
      split
      · exact MemSameO.next h3
      · exact MemSameO.ite (MemSameO.next (State.hopRecord_memSame (State.setReg_memSame h3))) (MemSameO.ite (MemSameO.next (State.updTile_memSame h3)) (MemSameO.next (State.rtrFault_memSame h3)))

theorem State.laneFault_memSame {pre : State} {s : State} (fo : MemSame pre s) {b : LinkBeat} {c : Nat} {lane : Nat} : MemSame pre (State.laneFault s b c lane) := by
  unfold State.laneFault
  exact State.tileRecord_memSame (State.setReg_memSame fo)

theorem State.station_memSame {pre : State} {s : State} (fo : MemSame pre s) {site : Nat} {axis : Nat} {dir : Nat} {lane : Nat} {c : Nat} {added : Bool} {b : LinkBeat} : MemSame pre (State.station s site axis dir lane c added b) := by
  unfold State.station
  extract_lets s1 s2 s3
  exact MemSame.ite fo (MemSame.ite (State.laneFault_memSame fo) (MemSame.ite (State.ontoSegment_memSame fo) (State.intoLink_memSame fo)))

theorem execExpressStationPass_memSame {pre : State} {site : Site} {axis : Fin 2} {dir : Fin 2} {lane : Fin 104} {cycle : Fin 131072} {crcOk : Bool} {s : State} (fo : MemSame pre s) : MemSameO pre (execExpressStationPass site axis dir lane cycle crcOk s) := by
  unfold execExpressStationPass
  extract_lets s1 s2 s3 s4 s5
  have h1 : MemSame pre s5 := fo.same (Eq.refl _)
  clear_value s5
  split
  · exact MemSameO.next fo
  · rename_i y3 y4 y5
    apply MemSameO.ite
    · exact MemSameO.next h1
    · extract_lets s6 s7 s8 s9
      have h2 : MemSame pre s7 := MemSame.ite (State.hopRecord_memSame h1) h1
      clear_value s7
      exact MemSameO.next (State.station_memSame h2)

theorem State.slipAt_memSame {pre : State} {s : State} (fo : MemSame pre s) {p : Nat} {isLane : Bool} {place : Nat} {c : Nat} {edges : Nat} : MemSame pre (State.slipAt s p isLane place c edges) := by
  unfold State.slipAt
  extract_lets s1 s2
  have h1 : MemSame pre s2 := State.record_memSame fo
  clear_value s2
  split
  · exact State.updTile_memSame h1
  · exact h1

theorem execCrossingRelease_memSame {pre : State} {isLane : Bool} {place : Fin 524288} {launch : Fin 65536} {reached : Bool} {edges : Fin 65536} {s : State} (fo : MemSame pre s) : MemSameO pre (execCrossingRelease isLane place launch reached edges s) := by
  unfold execCrossingRelease
  extract_lets s1 s2 s3 s4 s5 s6
  have h1 : MemSame pre s6 := fo.same (Eq.refl _)
  clear_value s6
  split
  · rename_i y1 y2 y3
    clear_value s5
    split
    · exact MemSameO.next h1
    · rename_i y5 y6
      extract_lets s7 s8
      have h2 : MemSame pre s8.fst := h1
      clear_value s8
      exact MemSameO.ite (MemSameO.next (State.intoLane_memSame h2)) (MemSameO.next (State.intoLink_memSame h2))
  · rename_i y7 y8
    clear_value s5
    split
    · exact MemSameO.next h1
    · rename_i y10 y11
      extract_lets s9 s10
      have h3 : MemSame pre s10.fst := by
        unfold s10
        dsimp only
        exact State.slipAt_memSame h1
      clear_value s10
      exact MemSameO.ite (MemSameO.next (State.intoLane_memSame h3)) (MemSameO.next (State.intoLink_memSame h3))

end Sys2Proof.Machine
end

