-- ==== Sys2Proof/Laws/Package.lean ====
section
/-! SUPPORT. What the operations of Machine/Package.lean keep: one lemma for each, by the lemmas of those that it calls. -/

namespace Sys2Proof.Machine

open Sys2Proof

theorem State.patchAt_follows {pre : State} {s : State} (fo : Follows pre s) {p : Nat} {sh : Shift} {area : Nat} {lane : Nat → Nat} {dst : Nat} {len : Nat} {r : Patch} : Follows pre (s.patchAt p sh area lane dst len r) := by
  unfold State.patchAt
  extract_lets s1 s2 s3
  split
  · rename_i y1 y2 y3
    exact State.setMem_follows fo (MemOk.writeLE (Follows.memOk fo))
  · exact fo

end Sys2Proof.Machine
end

