-- ==== Sys2Proof/Laws/Install.lean ====
section
/-! SUPPORT. What the operations of Machine/Install.lean keep: one lemma for each, by the lemmas of those that it calls. -/

namespace Sys2Proof.Machine

open Sys2Proof

theorem State.emptyBanks_follows {pre : State} {s : State} (fo : Follows pre s) {q : Nat → Bool} : Follows pre (s.emptyBanks q) := by
  unfold State.emptyBanks
  exact fo.same (Eq.refl _) (MemOk.keep (Follows.memOk fo)) (Eq.refl _) (Eq.refl _) (Eq.refl _) (Eq.refl _)

theorem State.wipeBanks_follows {pre : State} {s : State} (fo : Follows pre s) {q : Nat → Bool} : Follows pre (s.wipeBanks q) := by
  unfold State.wipeBanks
  extract_lets s1
  have h1 : Follows pre s1 := State.emptyBanks_follows fo
  clear_value s1
  exact h1.same (Eq.refl _) h1.mem (Eq.refl _) (Eq.refl _) (Eq.refl _) (Eq.refl _)

theorem State.wipeBasin_follows {pre : State} {s : State} (fo : Follows pre s) {q : Nat → Bool} : Follows pre (s.wipeBasin q) := by
  unfold State.wipeBasin
  exact fo.same (Eq.refl _) (MemOk.keep (Follows.memOk fo)) (Eq.refl _) (Eq.refl _) (Eq.refl _) (Eq.refl _)

theorem State.wipeTiles_follows {pre : State} {s : State} (fo : Follows pre s) {q : Nat → Bool} : Follows pre (s.wipeTiles q) := by
  unfold State.wipeTiles
  extract_lets s1 s2
  have h1 : Follows pre s1 := State.wipeBasin_follows (State.wipeBanks_follows fo)
  clear_value s1
  exact h1.same (Eq.refl _) h1.mem (Eq.refl _) (Eq.refl _) (Eq.refl _) (Eq.refl _)

theorem State.scratch_follows {pre : State} {s : State} (fo : Follows pre s) {g : Plan} : Follows pre (State.scratch s g).fst := by
  unfold State.scratch
  extract_lets s1 s2
  have h1 : Follows pre s1 := by
    unfold s1
    apply State.setMem_follows
    · exact fo
    · apply MemOk.copy
      exact Follows.memOk fo
  clear_value s1
  have h2 : Follows pre s2 := by
    unfold s2
    split
    · exact h1
    · rename_i y3 y4 y5
      apply foldl_follows
      · intro x1 x2 h3
        split
        · exact h3
        · exact State.patchAt_follows h3
      · exact h1
  clear_value s2
  exact h2

theorem State.endScratch_follows {pre : State} {s : State} (fo : Follows pre s) : Follows pre s.endScratch := by
  unfold State.endScratch
  exact State.setMem_follows fo (MemOk.keep (Follows.memOk fo))

theorem State.fromSect_follows {pre : State} {s : State} (fo : Follows pre s) {g : Plan} {x : Sect} {o : Nat} {dst : Nat} {n : Nat} : Follows pre (State.fromSect s g x o dst n) := by
  unfold State.fromSect
  apply State.setMem_follows
  · exact fo
  · apply MemOk.copy
    apply MemOk.zero
    exact Follows.memOk fo

theorem State.setFields_follows {pre : State} {s : State} (fo : Follows pre s) {fs : List Fld} {inst : Nat} {i : Nat} {w : Nat} : Follows pre (s.setFields fs inst i w) := by
  unfold State.setFields
  apply foldl_follows
  · intro x1 x2 h1
    exact State.setReg_follows h1
  · exact fo

theorem State.writeTables_follows {pre : State} {s : State} (fo : Follows pre s) {g : Plan} {t : Nat} : Follows pre (State.writeTables s g t) := by
  unfold State.writeTables
  extract_lets s1
  have h1 : Follows pre s1 := by
    unfold s1
    split
    · exact fo
    · rename_i y3 y4 y5
      apply foldl_follows
      · intro x1 x2 h2
        exact State.fromSect_follows h2
      · exact fo
  clear_value s1
  split
  · exact h1
  · rename_i y8 y9 y10
    apply foldl_follows
    · intro x3 x4 h3
      extract_lets s2
      have h4 : Follows pre s2 := State.fromSect_follows h3
      clear_value s2
      apply foldl_follows
      · intro x5 x6 h5
        exact State.setFields_follows h5
      · exact h4
    · exact h1

theorem State.writePrograms_follows {pre : State} {s : State} (fo : Follows pre s) {g : Plan} {t : Nat} : Follows pre (State.writePrograms s g t) := by
  unfold State.writePrograms
  extract_lets s1
  have h1 : Follows pre s1.fst := by
    unfold s1
    apply foldl_follows1
    · intro x1 x2 h2
      split
      · rename_i y1 y2
        dsimp only
        exact State.setReg_follows (State.setReg_follows h2)
      · rename_i y3 y4 y5
        extract_lets s2
        dsimp only
        exact State.setReg_follows (State.setReg_follows (State.fromSect_follows h2))
    · exact fo
  clear_value s1
  apply foldl_follows1
  · intro x3 x4 h3
    split
    · rename_i y6 y7
      dsimp only
      exact State.setReg_follows (State.setReg_follows h3)
    · rename_i y8 y9 y10
      extract_lets s3
      dsimp only
      exact State.setReg_follows (State.setReg_follows (State.fromSect_follows h3))
  · exact h1

theorem State.writeRest_follows {pre : State} {s : State} (fo : Follows pre s) {g : Plan} {t : Nat} : Follows pre (State.writeRest s g t) := by
  unfold State.writeRest
  extract_lets s1 s2 s3 s4 s5 s6 s7
  have h1 : Follows pre s1 := by
    unfold s1
    split
    · rename_i y1 y2
      apply State.setMem_follows
      · exact fo
      · apply MemOk.zero
        exact Follows.memOk fo
    · exact State.fromSect_follows fo
  clear_value s1
  have h2 : Follows pre s2 := by
    unfold s2
    split
    · rename_i y6 y7
      apply State.setMem_follows
      · exact h1
      · apply MemOk.zero
        exact Follows.memOk h1
    · exact State.fromSect_follows h1
  clear_value s2
  have h3 : Follows pre s3 := by
    unfold s3
    split
    · exact h2
    · rename_i y13 y14 y15
      apply foldl_follows
      · intro x1 x2 h4
        exact State.setFields_follows h4
      · exact h2
  clear_value s3
  have h5 : Follows pre s4 := State.setReg_follows h3
  clear_value s4
  have h6 : Follows pre s7 := by
    unfold s7
    apply foldl_follows
    · intro x3 x4 h7
      exact State.setReg_follows h7
    · exact h5
  clear_value s7
  exact State.updTile_follows h6

theorem State.setLoaded_follows {pre : State} {s : State} (fo : Follows pre s) {t : Nat} {n : Nat} {pl : Nat} {st : Nat} : Follows pre (State.setLoaded s t n pl st) := by
  unfold State.setLoaded
  exact Follows.ite fo (State.setReg_follows fo)

theorem State.writeBankImage_follows {pre : State} {s : State} (fo : Follows pre s) {g : Plan} {t : Nat} {e : Place} : Follows pre (State.writeBankImage s g t e) := by
  unfold State.writeBankImage
  extract_lets s1 s2 s3 s4
  have h1 : Follows pre s3 := State.setReg_follows (State.setCmode_follows (State.setReg_follows fo))
  clear_value s3
  split
  · rename_i y1 y2
    apply State.setLoaded_follows
    apply State.setMem_follows
    · exact h1
    · apply MemOk.zero
      exact Follows.memOk h1
  · rename_i y3 y4 y5
    extract_lets s5
    apply State.setLoaded_follows
    apply State.setMem_follows
    · exact h1
    · apply MemOk.copy
      exact Follows.memOk h1

theorem State.calibratePlaces_follows {pre : State} {s : State} (fo : Follows pre s) {l : List (Nat × Place)} : Follows pre (State.calibratePlaces s l) := by
  unfold State.calibratePlaces
  apply foldl_follows
  · intro x1 x2 h1
    exact State.foreground_follows h1
  · exact fo

theorem State.calibrateTiles_follows {pre : State} {s : State} (fo : Follows pre s) {g : Plan} {sel : Nat → Bool} : Follows pre (State.calibrateTiles s g sel) := by
  unfold State.calibrateTiles
  exact State.calibratePlaces_follows fo

theorem State.writeTiles_follows {pre : State} {s : State} (fo : Follows pre s) {g : Plan} {sel : Nat → Bool} : Follows pre (State.writeTiles s g sel) := by
  unfold State.writeTiles
  extract_lets s1 s2 s3
  have h1 : Follows pre s2 := State.wipeBanks_follows fo
  clear_value s2
  have h2 : Follows pre s3 := by
    unfold s3
    apply foldl_follows
    · intro x1 x2 h3
      exact State.writeRest_follows (State.writePrograms_follows (State.writeTables_follows h3))
    · exact h1
  clear_value s3
  apply foldl_follows
  · intro x3 x4 h4
    exact State.writeBankImage_follows h4
  · exact h2

theorem State.refusalRecord_follows {pre : State} {s : State} (fo : Follows pre s) {p : Nat} {r : LoadRefusal} : Follows pre (s.refusalRecord p r) := by
  unfold State.refusalRecord
  exact State.record_follows fo

theorem State.writePart_follows {pre : State} {s : State} (fo : Follows pre s) {g : Plan} : Follows pre (s.writePart g) := by
  unfold State.writePart
  extract_lets s1 s2 s3 s4 s5 s6 s7 s8 s9
  have h1 : Follows pre s7 := by
    unfold s7
    apply foldl_follows
    · intro x1 x2 h1
      exact State.setG_follows h1
    · exact fo
  clear_value s7
  have h2 : Follows pre s9 := h1.same (Eq.refl _) h1.mem (Eq.refl _) (Eq.refl _) (Eq.refl _) (Eq.refl _)
  clear_value s9
  exact State.updPart_follows h2

theorem State.writeExpress_follows {pre : State} {s : State} (fo : Follows pre s) {g : Plan} : Follows pre (s.writeExpress g) := by
  unfold State.writeExpress
  extract_lets s1 s2
  exact fo.same (Eq.refl _) fo.mem (Eq.refl _) (Eq.refl _) (Eq.refl _) (Eq.refl _)

theorem State.dropExpress_follows {pre : State} {s : State} (fo : Follows pre s) {p : Nat} : Follows pre (s.dropExpress p) := by
  unfold State.dropExpress
  exact fo.same (Eq.refl _) fo.mem (Eq.refl _) (Eq.refl _) (Eq.refl _) (Eq.refl _)

theorem State.rewriteTiles_follows {pre : State} {s : State} (fo : Follows pre s) {p : Nat} {sel : Nat → Bool} : Follows pre (State.rewriteTiles s p sel) := by
  unfold State.rewriteTiles
  split
  · rename_i y1 y2 y3 y4 y5 y6
    apply Follows.ite
    · exact fo
    · split
      · exact fo
      · rename_i y9 y10 y11
        extract_lets s1
        have h1 : Follows pre s1.fst := State.scratch_follows (State.coolQuads_follows fo)
        clear_value s1
        exact State.updPart_follows (State.endScratch_follows (State.calibrateTiles_follows (State.writeTiles_follows h1)))
  · exact fo

/-! ### Operations that leave memory alone -/

theorem State.setFields_memSame {pre : State} {s : State} (fo : MemSame pre s) {fs : List Fld} {inst : Nat} {i : Nat} {w : Nat} : MemSame pre (s.setFields fs inst i w) := by
  unfold State.setFields
  apply foldl_memSame
  · intro x1 x2 h1
    exact State.setReg_memSame h1
  · exact fo

theorem State.calibratePlaces_memSame {pre : State} {s : State} (fo : MemSame pre s) {l : List (Nat × Place)} : MemSame pre (State.calibratePlaces s l) := by
  unfold State.calibratePlaces
  apply foldl_memSame
  · intro x1 x2 h1
    exact State.foreground_memSame h1
  · exact fo

theorem State.calibrateTiles_memSame {pre : State} {s : State} (fo : MemSame pre s) {g : Plan} {sel : Nat → Bool} : MemSame pre (State.calibrateTiles s g sel) := by
  unfold State.calibrateTiles
  exact State.calibratePlaces_memSame fo

theorem State.refusalRecord_memSame {pre : State} {s : State} (fo : MemSame pre s) {p : Nat} {r : LoadRefusal} : MemSame pre (s.refusalRecord p r) := by
  unfold State.refusalRecord
  exact State.record_memSame fo

theorem State.writePart_memSame {pre : State} {s : State} (fo : MemSame pre s) {g : Plan} : MemSame pre (s.writePart g) := by
  unfold State.writePart
  extract_lets s1 s2 s3 s4 s5 s6 s7 s8 s9
  have h1 : MemSame pre s7 := by
    unfold s7
    apply foldl_memSame
    · intro x1 x2 h1
      exact State.setG_memSame h1
    · exact fo
  clear_value s7
  have h2 : MemSame pre s9 := h1.same (Eq.refl _)
  clear_value s9
  exact State.updPart_memSame h2

theorem State.writeExpress_memSame {pre : State} {s : State} (fo : MemSame pre s) {g : Plan} : MemSame pre (s.writeExpress g) := by
  unfold State.writeExpress
  extract_lets s1 s2
  exact fo.same (Eq.refl _)

theorem State.dropExpress_memSame {pre : State} {s : State} (fo : MemSame pre s) {p : Nat} : MemSame pre (s.dropExpress p) := by
  unfold State.dropExpress
  exact fo.same (Eq.refl _)

end Sys2Proof.Machine
end

