-- ==== Sys2Proof/Laws/Quads.lean ====
section
/-! SUPPORT. What the operations of Machine/Quads.lean keep: one lemma for each, by the lemmas of those that it calls. -/

namespace Sys2Proof.Machine

open Sys2Proof

theorem State.setQ_follows {pre : State} {s : State} (fo : Follows pre s) {q : Nat} {st : Nat} : Follows pre (State.setQ s q st) := by
  unfold State.setQ
  extract_lets s1
  have h1 : Follows pre s1 := State.setG_follows fo
  clear_value s1
  exact Follows.ite h1 (State.refreshTemp_follows h1)

theorem State.loseQuad_follows {pre : State} {s : State} (fo : Follows pre s) {q : Nat} : Follows pre (s.loseQuad q) := by
  unfold State.loseQuad
  extract_lets s1 s2 s3 s4 s5 s6 s7
  have h1 : Follows pre s2 := State.emptyBanks_follows fo
  clear_value s2
  have h2 : Follows pre s7 := h1.same (Eq.refl _) (MemOk.keep (Follows.memOk h1)) (Eq.refl _) (Eq.refl _) (Eq.refl _) (Eq.refl _)
  clear_value s7
  split
  · rename_i y1 y2 y3
    exact Follows.ite (State.updPart_follows h2) h2
  · exact h2

theorem State.dropQuad_follows {pre : State} {s : State} (fo : Follows pre s) {q : Nat} : Follows pre (s.dropQuad q) := by
  unfold State.dropQuad
  extract_lets s1 s2
  have h1 : Follows pre s2 := fo.same (Eq.refl _) fo.mem (Eq.refl _) (Eq.refl _) (Eq.refl _) (Eq.refl _)
  clear_value s2
  exact Follows.ite h1 (State.setQ_follows (State.loseQuad_follows h1))

theorem State.adjustQuad_follows {pre : State} {s : State} (fo : Follows pre s) {q : Nat} : Follows pre (s.adjustQuad q) := by
  unfold State.adjustQuad
  extract_lets s1 s2 s3 s4 s5 s6 s7
  have h1 : Follows pre s3 := by
    unfold s3
    apply Follows.ite
    · exact fo.same (Eq.refl _) fo.mem (Eq.refl _) (Eq.refl _) (Eq.refl _) (Eq.refl _)
    · exact fo
  clear_value s3
  have h2 : ∀ (s : State) (st : Nat), Follows pre s → Follows pre (s5 s st) := by
    intro x1 x2 h2
    unfold s5
    exact h2.same (Eq.refl _) h2.mem (Eq.refl _) (Eq.refl _) (Eq.refl _) (Eq.refl _)
  clear_value s5
  have h3 : Follows pre s7 := State.setQ_follows h1
  clear_value s7
  apply Follows.ite
  · exact h1
  · apply Follows.ite
    · exact h1
    · apply Follows.ite
      · exact h1.same (Eq.refl _) h1.mem (Eq.refl _) (Eq.refl _) (Eq.refl _) (Eq.refl _)
      · apply Follows.ite
        · apply h2
          · exact h1
        · apply Follows.ite
          · exact State.setQ_follows h1
          · apply Follows.ite
            · exact h3
            · apply h2
              · exact h3

theorem State.adjustQuads_follows {pre : State} {s : State} (fo : Follows pre s) {qs : List Nat} : Follows pre (s.adjustQuads qs) := by
  unfold State.adjustQuads
  apply foldl_follows
  · intro x1 x2 h1
    exact State.adjustQuad_follows h1
  · exact fo

theorem State.adjustPart_follows {pre : State} {s : State} (fo : Follows pre s) {p : Nat} : Follows pre (s.adjustPart p) := by
  unfold State.adjustPart
  exact State.adjustQuads_follows fo

theorem State.regionBack_follows {pre : State} {s : State} (fo : Follows pre s) {r : Nat} : Follows pre (s.regionBack r) := by
  unfold State.regionBack
  extract_lets s1 s2
  have h1 : Follows pre s1 := State.setG_follows fo
  clear_value s1
  have h2 : Follows pre s2 := State.record_follows (State.setG_follows h1)
  clear_value s2
  exact Follows.ite (State.adjustQuads_follows h2) h1

theorem State.regionsBack_follows {pre : State} {s : State} (fo : Follows pre s) {p : Nat} : Follows pre (s.regionsBack p) := by
  unfold State.regionsBack
  apply foldl_follows
  · intro x1 x2 h1
    exact State.regionBack_follows h1
  · exact fo

theorem State.beginStepping_follows {pre : State} {s : State} (fo : Follows pre s) {p : Nat} : Follows pre (s.beginStepping p) := by
  unfold State.beginStepping
  extract_lets s1 s2 s3 s4 s5 s6
  have h1 : Follows pre s1 := State.setG_follows (State.setPstate_follows (State.setStopr_follows fo))
  clear_value s1
  have h2 : Follows pre s2 := State.updPart_follows h1
  clear_value s2
  have h3 : Follows pre s4 := h2.same (Eq.refl _) h2.mem (Eq.refl _) (Eq.refl _) (Eq.refl _) (Eq.refl _)
  clear_value s4
  have h4 : Follows pre s5 := State.adjustPart_follows h3
  clear_value s5
  have h5 : Follows pre s6 := Follows.ite (State.replayAllReqs_follows h4) h4
  clear_value s6
  exact State.sendGo_follows h5

theorem State.restoreTiles_follows {pre : State} {s : State} (fo : Follows pre s) {p : Nat} : Follows pre (s.restoreTiles p) := by
  unfold State.restoreTiles
  extract_lets s1 s2
  have h1 : Follows pre s2 := Follows.ite fo (State.rewriteTiles_follows fo)
  clear_value s2
  split
  · rename_i y1 y2 y3 y4 y5 y6
    split
    · rename_i y7 y8 y9
      exact State.calibrateTiles_follows h1
    · exact h1
  · exact h1

theorem State.finishStart_follows {pre : State} {s : State} (fo : Follows pre s) {p : Nat} : Follows pre (s.finishStart p) := by
  unfold State.finishStart
  split
  · exact fo
  · rename_i y1 y2 y3
    exact Follows.ite (State.cmdEnd_follows (State.updPart_follows fo)) (Follows.ite (State.cmdEnd_follows (State.updPart_follows fo)) (Follows.ite (State.cmdEnd_follows (State.beginStepping_follows (State.restoreTiles_follows fo))) fo))

/-! ### Operations that leave memory alone -/

theorem State.setQ_memSame {pre : State} {s : State} (fo : MemSame pre s) {q : Nat} {st : Nat} : MemSame pre (State.setQ s q st) := by
  unfold State.setQ
  extract_lets s1
  have h1 : MemSame pre s1 := State.setG_memSame fo
  clear_value s1
  exact MemSame.ite h1 (State.refreshTemp_memSame h1)

theorem State.adjustQuad_memSame {pre : State} {s : State} (fo : MemSame pre s) {q : Nat} : MemSame pre (s.adjustQuad q) := by
  unfold State.adjustQuad
  extract_lets s1 s2 s3 s4 s5 s6 s7
  have h1 : MemSame pre s3 := by
    unfold s3
    apply MemSame.ite
    · exact fo.same (Eq.refl _)
    · exact fo
  clear_value s3
  have h2 : ∀ (s : State) (st : Nat), MemSame pre s → MemSame pre (s5 s st) := by
    intro x1 x2 h2
    unfold s5
    exact h2.same (Eq.refl _)
  clear_value s5
  have h3 : MemSame pre s7 := State.setQ_memSame h1
  clear_value s7
  apply MemSame.ite
  · exact h1
  · apply MemSame.ite
    · exact h1
    · apply MemSame.ite
      · exact h1.same (Eq.refl _)
      · apply MemSame.ite
        · apply h2
          · exact h1
        · apply MemSame.ite
          · exact State.setQ_memSame h1
          · apply MemSame.ite
            · exact h3
            · apply h2
              · exact h3

theorem State.adjustQuads_memSame {pre : State} {s : State} (fo : MemSame pre s) {qs : List Nat} : MemSame pre (s.adjustQuads qs) := by
  unfold State.adjustQuads
  apply foldl_memSame
  · intro x1 x2 h1
    exact State.adjustQuad_memSame h1
  · exact fo

theorem State.adjustPart_memSame {pre : State} {s : State} (fo : MemSame pre s) {p : Nat} : MemSame pre (s.adjustPart p) := by
  unfold State.adjustPart
  exact State.adjustQuads_memSame fo

theorem State.regionBack_memSame {pre : State} {s : State} (fo : MemSame pre s) {r : Nat} : MemSame pre (s.regionBack r) := by
  unfold State.regionBack
  extract_lets s1 s2
  have h1 : MemSame pre s1 := State.setG_memSame fo
  clear_value s1
  have h2 : MemSame pre s2 := State.record_memSame (State.setG_memSame h1)
  clear_value s2
  exact MemSame.ite (State.adjustQuads_memSame h2) h1

theorem State.regionsBack_memSame {pre : State} {s : State} (fo : MemSame pre s) {p : Nat} : MemSame pre (s.regionsBack p) := by
  unfold State.regionsBack
  apply foldl_memSame
  · intro x1 x2 h1
    exact State.regionBack_memSame h1
  · exact fo

theorem State.beginStepping_memSame {pre : State} {s : State} (fo : MemSame pre s) {p : Nat} : MemSame pre (s.beginStepping p) := by
  unfold State.beginStepping
  extract_lets s1 s2 s3 s4 s5 s6
  have h1 : MemSame pre s1 := State.setG_memSame (State.setPstate_memSame (State.setStopr_memSame fo))
  clear_value s1
  have h2 : MemSame pre s2 := State.updPart_memSame h1
  clear_value s2
  have h3 : MemSame pre s4 := h2.same (Eq.refl _)
  clear_value s4
  have h4 : MemSame pre s5 := State.adjustPart_memSame h3
  clear_value s5
  have h5 : MemSame pre s6 := MemSame.ite (State.replayAllReqs_memSame h4) h4
  clear_value s6
  exact State.sendGo_memSame h5

end Sys2Proof.Machine
end

