-- ==== Sys2Proof/Laws/Loader.lean ====
section
/-! SUPPORT. What the operations of Machine/Loader.lean keep: one lemma for each, by the lemmas of those that it calls. -/

namespace Sys2Proof.Machine

open Sys2Proof

theorem State.slotStart_follows {pre : State} {s : State} (fo : Follows pre s) {n : Nat} {total : Nat} : Follows pre (s.slotStart n total) := by
  unfold State.slotStart
  exact State.setG_follows (State.setG_follows (State.setG_follows (State.setG_follows fo)))

theorem State.cmdClose_follows {pre : State} {s : State} (fo : Follows pre s) {n : Nat} {p : Nat} {code : Nat} : Follows pre (s.cmdClose n p code) := by
  unfold State.cmdClose
  extract_lets s1
  have h1 : Follows pre s1 := State.setG_follows (State.setG_follows fo)
  clear_value s1
  exact State.raiseInt_follows (Follows.ite (State.setLcode_follows h1) h1)

theorem State.licRecord_follows {pre : State} {s : State} (fo : Follows pre s) {f : Nat} {part : Option Nat} : Follows pre (s.licRecord f part) := by
  unfold State.licRecord
  exact State.record_follows fo

theorem State.goLicence_follows {pre : State} {s : State} (fo : Follows pre s) {n : Nat} {p : Nat} {f : Nat} : Follows pre (s.goLicence n p f) := by
  unfold State.goLicence
  exact State.licRecord_follows (State.setG_follows (State.setG_follows fo))

theorem State.goCreate_follows {pre : State} {s : State} (fo : Follows pre s) {n : Nat} {p : Nat} : Follows pre (s.goCreate n p) := by
  unfold State.goCreate
  extract_lets s1
  exact Follows.ite (State.goRefused_follows fo) (Follows.ite (State.goLicence_follows fo) (State.coolQuads_follows (State.slotStart_follows fo)))

theorem State.goResize_follows {pre : State} {s : State} (fo : Follows pre s) {n : Nat} {p : Nat} : Follows pre (s.goResize n p) := by
  unfold State.goResize
  extract_lets s1
  exact Follows.ite (State.goRefused_follows fo) (Follows.ite (State.goLicence_follows fo) (Follows.ite (State.goRefused_follows fo) (State.coolQuads_follows (State.slotStart_follows fo))))

theorem State.setAttrs_follows {pre : State} {s : State} (fo : Follows pre s) {p : Nat} {a : Attrs} : Follows pre (s.setAttrs p a) := by
  unfold State.setAttrs
  extract_lets s1
  exact State.setG_follows (State.updPart_follows fo)

theorem State.wipeCistern_follows {pre : State} {s : State} (fo : Follows pre s) {p : Nat} : Follows pre (s.wipeCistern p) := by
  unfold State.wipeCistern
  exact fo.same (Eq.refl _) (MemOk.keep (Follows.memOk fo)) (Eq.refl _) (Eq.refl _) (Eq.refl _) (Eq.refl _)

theorem State.createDone_follows {pre : State} {s : State} (fo : Follows pre s) {n : Nat} {p : Nat} : Follows pre (State.createDone s n p) := by
  unfold State.createDone
  extract_lets s1 s2 s3
  have h1 : Follows pre s2 := State.wipeCistern_follows (State.setAttrs_follows (State.setPart_follows fo))
  clear_value s2
  have h2 : Follows pre s3 := State.wipeTiles_follows h1
  clear_value s3
  exact State.cmdEnd_follows (State.setPend_follows (State.setLcode_follows (State.setStopr_follows (State.enter_follows h2))))

theorem State.dropReqs_follows {pre : State} {s : State} (fo : Follows pre s) {p : Nat} {first : Nat} {count : Nat} : Follows pre (s.dropReqs p first count) := by
  unfold State.dropReqs
  extract_lets s1 s2
  have h1 : Follows pre s2 := by
    unfold s2
    apply foldl_follows
    · intro x1 x2 h1
      exact State.release_follows h1
    · exact fo
  clear_value s2
  exact h1.same (Eq.refl _) h1.mem (Eq.refl _) (Eq.refl _) (Eq.refl _) (Eq.refl _)

theorem State.unloadKeep_follows {pre : State} {s : State} (fo : Follows pre s) {p : Nat} : Follows pre (s.unloadKeep p) := by
  unfold State.unloadKeep
  split
  · exact fo
  · rename_i y1 y2 y3
    exact State.setPend_follows (State.updPart_follows fo)

theorem State.resizeDone_follows {pre : State} {s : State} (fo : Follows pre s) {n : Nat} {p : Nat} : Follows pre (s.resizeDone n p) := by
  unfold State.resizeDone
  extract_lets s1 s2 s3 s4 s5
  have h1 : Follows pre s4 := State.setAttrs_follows (State.dropReqs_follows fo)
  clear_value s4
  have h2 : Follows pre s5 := Follows.ite h1 (State.enter_follows (State.dropExpress_follows (State.unloadKeep_follows (State.clearBindings_follows (State.wipeTiles_follows h1)))))
  clear_value s5
  exact State.cmdEnd_follows h2

theorem State.failOthers_follows {pre : State} {s : State} (fo : Follows pre s) {n : Nat} {p : Nat} : Follows pre (s.failOthers n p) := by
  unfold State.failOthers
  apply foldl_follows
  · intro x1 x2 h1
    exact State.cmdEnd_follows h1
  · exact fo

theorem State.failRequests_follows {pre : State} {s : State} (fo : Follows pre s) {p : Nat} {reason : Nat} : Follows pre (s.failRequests p reason) := by
  unfold State.failRequests
  apply State.journalAcc_follows
  apply foldl_follows
  · intro x1 x2 h1
    exact Follows.ite (State.endTwin_follows h1) (Follows.ite (State.endPlain_follows h1) h1)
  · exact fo

theorem State.discardQueue_follows {pre : State} {s : State} (fo : Follows pre s) {p : Nat} : Follows pre (s.discardQueue p) := by
  unfold State.discardQueue
  extract_lets s1
  exact Follows.ite fo (State.record_follows (State.updPart_follows fo))

theorem State.goDestroy_follows {pre : State} {s : State} (fo : Follows pre s) {n : Nat} {p : Nat} : Follows pre (State.goDestroy s n p) := by
  unfold State.goDestroy
  extract_lets s1 s2 s3
  have h1 : Follows pre s1 := State.slotStart_follows (State.failOthers_follows fo)
  clear_value s1
  have h2 : Follows pre s2 := State.updPart_follows h1
  clear_value s2
  have h3 : Follows pre s3 := Follows.ite (State.chainStop_follows (State.haltPart_follows (State.abortPart_follows h2))) h2
  clear_value s3
  exact State.failRequests_follows h3

theorem State.destroyDone_follows {pre : State} {s : State} (fo : Follows pre s) {n : Nat} {p : Nat} : Follows pre (State.destroyDone s n p) := by
  unfold State.destroyDone
  extract_lets s1 s2 s3 s4 s5 s6 s7 s8
  have h1 : Follows pre s1 := by
    unfold s1
    apply State.discardQueue_follows
    apply foldl_follows
    · intro x1 x2 h2
      exact State.journalDone_follows h2
    · exact fo
  clear_value s1
  have h3 : Follows pre s4 := State.wipeCistern_follows (State.dropExpress_follows (State.wipeTiles_follows h1))
  clear_value s4
  have h4 : Follows pre s6 := h3.same (Eq.refl _) h3.mem (Eq.refl _) (Eq.refl _) (Eq.refl _) (Eq.refl _)
  clear_value s6
  have h5 : Follows pre s7 := State.setPstate_follows (State.setPend_follows (State.setStopr_follows h4))
  clear_value s7
  have h6 : Follows pre s8 := by
    unfold s8
    apply foldl_follows
    · intro x3 x4 h7
      exact State.setG_follows h7
    · exact h5
  clear_value s8
  exact State.cmdEnd_follows h6

theorem State.stageFail_follows {pre : State} {s : State} (fo : Follows pre s) {p : Nat} {code : Nat} {item : Nat} {detail : Nat} : Follows pre (State.stageFail s p code item detail) := by
  unfold State.stageFail
  split
  · exact fo
  · rename_i y3 y4 y5
    extract_lets s1
    have h1 : Follows pre s1 := State.setPend_follows (State.updPart_follows fo)
    clear_value s1
    exact State.cmdEndWith_follows (Follows.ite (State.setG_follows h1) h1)

theorem State.tryShard_follows {pre : State} {s : State} (fo : Follows pre s) {p : Nat} {k : Nat} : Follows pre (s.tryShard p k) := by
  unfold State.tryShard
  split
  · exact fo
  · rename_i y1 y2 y3
    apply Follows.ite
    · exact State.emit_follows fo
    · split
      · rename_i y4 y5 y6
        exact State.emit_follows (State.updPart_follows fo)
      · exact State.stageFail_follows fo

theorem State.failTry_follows {pre : State} {s : State} (fo : Follows pre s) {p : Nat} {k : Nat} {code : Nat} : Follows pre (s.failTry p k code) := by
  unfold State.failTry
  split
  · exact fo
  · rename_i y1 y2 y3
    extract_lets s1 s2 s3 s4
    have h1 : Follows pre s2 := State.ldRecord_follows fo
    clear_value s2
    have h2 : Follows pre s3 := by
      unfold s3
      split
      · rename_i y4 y5 y6
        exact State.addReg_follows h1
      · exact h1
    clear_value s3
    have h3 : Follows pre s4 := State.updPart_follows h2
    clear_value s4
    exact Follows.ite (State.stageFail_follows h3) (State.tryShard_follows h3)

theorem State.unloadDrop_follows {pre : State} {s : State} (fo : Follows pre s) {p : Nat} : Follows pre (State.unloadDrop s p) := by
  unfold State.unloadDrop
  exact State.enter_follows (State.updPart_follows (State.dropExpress_follows (State.wipeBanks_follows fo)))

theorem State.goStage_follows {pre : State} {s : State} (fo : Follows pre s) {n : Nat} {p : Nat} : Follows pre (State.goStage s n p) := by
  unfold State.goStage
  extract_lets s1 s2 s3 s4
  have h1 : Follows pre s3 := State.updPart_follows (State.slotStart_follows fo)
  clear_value s3
  have h2 : Follows pre s4 := Follows.ite (State.unloadDrop_follows h1) h1
  clear_value s4
  split
  · exact State.cmdEnd_follows (State.setPend_follows h1)
  · rename_i y3 y4 y5
    extract_lets s5
    exact State.tryShard_follows (State.setPend_follows (State.updPart_follows h2))

theorem State.leadAccepted_follows {pre : State} {s : State} (fo : Follows pre s) {p : Nat} {g : StageRun} {id : Nat} : Follows pre (s.leadAccepted p g id) := by
  unfold State.leadAccepted
  extract_lets s1
  split
  · exact fo
  · rename_i y1 y2 y3
    extract_lets s2 s3 s4
    have h1 : Follows pre s3 := State.updPart_follows fo
    clear_value s3
    have h2 : Follows pre s4 := State.setG_follows (State.setG_follows h1)
    clear_value s4
    apply foldl_follows
    · intro x1 x2 h3
      exact State.tryShard_follows h3
    · exact h2

theorem State.landShard_follows {pre : State} {s : State} (fo : Follows pre s) {p : Nat} {g : StageRun} {off : Nat} {data : List Byte} : Follows pre (State.landShard s p g off data).fst := by
  unfold State.landShard
  extract_lets s1 s2 s3
  have h1 : Follows pre s2 := by
    unfold s2
    apply State.setMem_follows
    · exact fo
    · apply MemOk.writeBytes
      exact Follows.memOk fo
  clear_value s2
  dsimp only
  exact State.updPart_follows h1

theorem execLeadShardVerify_follows {pre : State} {part : Part} {data : List Byte} {s : State} (fo : Follows pre s) : FollowsO pre (execLeadShardVerify part data s) := by
  unfold execLeadShardVerify
  extract_lets s1
  split
  · exact FollowsO.next fo
  · rename_i y3 y4 y5
    apply FollowsO.ite
    · exact FollowsO.next fo
    · apply FollowsO.ite
      · exact FollowsO.next (State.stageFail_follows fo)
      · extract_lets s2 s3 s4 s5
        have h1 : Follows pre s3.fst := State.landShard_follows fo
        clear_value s3
        have h2 : Follows pre s4 := h1
        clear_value s4
        apply FollowsO.ite
        · exact FollowsO.next (State.stageFail_follows h2)
        · split
          · exact FollowsO.next (State.stageFail_follows h2)
          · rename_i y8 y9 y10
            extract_lets s6
            split
            · exact FollowsO.next (State.stageFail_follows h2)
            · exact FollowsO.ite (FollowsO.next (State.stageFail_follows h2)) (FollowsO.ite (FollowsO.next (State.leadAccepted_follows h2)) (FollowsO.next (State.stageFail_follows h2)))

theorem State.shardGood_follows {pre : State} {s : State} (fo : Follows pre s) {p : Nat} {k : Nat} {g : StageRun} : Follows pre (State.shardGood s p k g) := by
  unfold State.shardGood
  extract_lets s1 s2 s3 s4
  have h1 : Follows pre s2 := State.addReg_follows fo
  clear_value s2
  have h2 : Follows pre s4 := State.updPart_follows h1
  clear_value s4
  exact Follows.ite (State.cmdEnd_follows (State.setPend_follows (State.updPart_follows h1))) (Follows.ite (State.tryShard_follows h2) h2)

theorem execShardVerify_follows {pre : State} {part : Part} {shard : Fin 65536} {data : List Byte} {s : State} (fo : Follows pre s) : FollowsO pre (execShardVerify part shard data s) := by
  unfold execShardVerify
  extract_lets s1 s2
  split
  · exact FollowsO.next fo
  · rename_i y3 y4 y5
    apply FollowsO.ite
    · exact FollowsO.next fo
    · extract_lets s3 s4 s5 s6 s7
      have h1 : Follows pre s6.fst := State.landShard_follows fo
      clear_value s6
      have h2 : Follows pre s7 := h1
      clear_value s7
      split
      · exact FollowsO.next h2
      · exact FollowsO.ite (FollowsO.next (State.shardGood_follows h2)) (FollowsO.next (State.failTry_follows h2))

theorem execShardFetchError_follows {pre : State} {part : Part} {shard : Fin 65536} {s : State} (fo : Follows pre s) : FollowsO pre (execShardFetchError part shard s) := by
  unfold execShardFetchError
  extract_lets s1 s2
  split
  · exact FollowsO.next fo
  · rename_i y1 y2 y3
    exact FollowsO.ite (FollowsO.next fo) (FollowsO.next (State.failTry_follows fo))

theorem State.goDiscard_follows {pre : State} {s : State} (fo : Follows pre s) {n : Nat} {p : Nat} : Follows pre (s.goDiscard n p) := by
  unfold State.goDiscard
  extract_lets s1 s2
  have h1 : Follows pre s1 := State.slotStart_follows fo
  clear_value s1
  have h2 : Follows pre s2 := by
    unfold s2
    split
    · rename_i y1 y2 y3
      exact State.cmdEnd_follows h1
    · exact h1
  clear_value s2
  exact State.cmdEnd_follows (State.setPend_follows (State.updPart_follows h2))

theorem State.goInstall_follows {pre : State} {s : State} (fo : Follows pre s) {n : Nat} {p : Nat} : Follows pre (s.goInstall n p) := by
  unfold State.goInstall
  split
  · exact State.goRefused_follows fo
  · rename_i y1 y2 y3
    apply Follows.ite
    · exact State.goRefused_follows fo
    · apply Follows.ite
      · exact State.goRefused_follows fo
      · apply Follows.ite
        · exact State.goRefused_follows fo
        · extract_lets s1 s2 s3 s4 s5
          have h1 : Follows pre s4 := State.regionsBack_follows (State.slotStart_follows fo)
          clear_value s4
          have h2 : Follows pre s5 := State.updPart_follows h1
          clear_value s5
          exact Follows.ite (State.clearHold_follows (State.setPstate_follows (State.updPart_follows h1))) (State.adjustPart_follows (State.startWrite_follows (State.endReplaced_follows (State.clearBindings_follows h2))))

theorem State.goStart_follows {pre : State} {s : State} (fo : Follows pre s) {n : Nat} {p : Nat} : Follows pre (s.goStart n p) := by
  unfold State.goStart
  extract_lets s1 s2
  exact Follows.ite (State.goRefused_follows fo) (Follows.ite (State.goRefused_follows fo) (Follows.ite (State.goRefused_follows fo) (State.finishStart_follows (State.adjustPart_follows (State.regionsBack_follows (State.updPart_follows (State.slotStart_follows fo)))))))

theorem State.goStop_follows {pre : State} {s : State} (fo : Follows pre s) {n : Nat} {p : Nat} : Follows pre (s.goStop n p) := by
  unfold State.goStop
  extract_lets s1 s2 s3
  have h1 : Follows pre s2 := State.setPstate_follows (State.updPart_follows (State.slotStart_follows fo))
  clear_value s2
  have h2 : Follows pre s3 := State.chainStop_follows h1
  clear_value s3
  exact Follows.ite (State.stopReached_follows h2) h2

theorem State.setKeyId_follows {pre : State} {s : State} (fo : Follows pre s) {slot : Nat} {v : Nat} : Follows pre (s.setKeyId slot v) := by
  unfold State.setKeyId
  exact State.setG_follows (State.setG_follows fo)

theorem State.goEnroll_follows {pre : State} {s : State} (fo : Follows pre s) {n : Nat} {slot : Nat} : Follows pre (s.goEnroll n slot) := by
  unfold State.goEnroll
  extract_lets s1 s2 s3 s4
  have h1 : Follows pre s4 := fo.same (Eq.refl _) fo.mem (Eq.refl _) (Eq.refl _) (Eq.refl _) (Eq.refl _)
  clear_value s4
  exact Follows.ite (State.goRefused_follows fo) (Follows.ite (State.goRefused_follows fo) (State.cmdEnd_follows (State.setKeyId_follows (State.slotStart_follows h1))))

theorem State.goRevoke_follows {pre : State} {s : State} (fo : Follows pre s) {n : Nat} {slot : Nat} : Follows pre (s.goRevoke n slot) := by
  unfold State.goRevoke
  extract_lets s1 s2
  have h1 : Follows pre s2 := fo.same (Eq.refl _) fo.mem (Eq.refl _) (Eq.refl _) (Eq.refl _) (Eq.refl _)
  clear_value s2
  exact State.cmdEnd_follows (State.setKeyId_follows (State.slotStart_follows h1))

theorem State.runGo_follows {pre : State} {s : State} (fo : Follows pre s) {path : Path} {n : Nat} : Follows pre (s.runGo path n) := by
  unfold State.runGo
  extract_lets s1 s2
  exact Follows.ite (State.refuseWrite_follows fo) (Follows.ite (State.goRefused_follows fo) (Follows.ite (State.goCreate_follows fo) (Follows.ite (State.goResize_follows fo) (Follows.ite (State.goDestroy_follows fo) (Follows.ite (State.goStage_follows fo) (Follows.ite (State.goInstall_follows fo) (Follows.ite (State.goStart_follows fo) (Follows.ite (State.goStop_follows fo) (Follows.ite (State.goDiscard_follows fo) (Follows.ite (State.goEnroll_follows fo) (State.goRevoke_follows fo)))))))))))

theorem State.goOf_follows {pre : State} {s : State} (fo : Follows pre s) {path : Path} {n : Nat} {opc : Nat} : FollowsO pre (s.goOf path n opc) := by
  unfold State.goOf
  apply State.ownerWrite_follows
  · exact fo
  · intro x1 h1
    exact Follows.ite (State.runGo_follows h1) h1

theorem execCreate_follows {pre : State} {path : Path} {slot : LdSlot} {s : State} (fo : Follows pre s) : FollowsO pre (execCreate path slot s) := by
  unfold execCreate
  exact State.goOf_follows fo

theorem execResize_follows {pre : State} {path : Path} {slot : LdSlot} {s : State} (fo : Follows pre s) : FollowsO pre (execResize path slot s) := by
  unfold execResize
  exact State.goOf_follows fo

theorem execDestroy_follows {pre : State} {path : Path} {slot : LdSlot} {s : State} (fo : Follows pre s) : FollowsO pre (execDestroy path slot s) := by
  unfold execDestroy
  exact State.goOf_follows fo

theorem execStage_follows {pre : State} {path : Path} {slot : LdSlot} {s : State} (fo : Follows pre s) : FollowsO pre (execStage path slot s) := by
  unfold execStage
  exact State.goOf_follows fo

theorem execInstall_follows {pre : State} {path : Path} {slot : LdSlot} {s : State} (fo : Follows pre s) : FollowsO pre (execInstall path slot s) := by
  unfold execInstall
  exact State.goOf_follows fo

theorem execStart_follows {pre : State} {path : Path} {slot : LdSlot} {s : State} (fo : Follows pre s) : FollowsO pre (execStart path slot s) := by
  unfold execStart
  exact State.goOf_follows fo

theorem execStop_follows {pre : State} {path : Path} {slot : LdSlot} {s : State} (fo : Follows pre s) : FollowsO pre (execStop path slot s) := by
  unfold execStop
  exact State.goOf_follows fo

theorem execDiscard_follows {pre : State} {path : Path} {slot : LdSlot} {s : State} (fo : Follows pre s) : FollowsO pre (execDiscard path slot s) := by
  unfold execDiscard
  exact State.goOf_follows fo

theorem execEnrollKey_follows {pre : State} {path : Path} {slot : LdSlot} {s : State} (fo : Follows pre s) : FollowsO pre (execEnrollKey path slot s) := by
  unfold execEnrollKey
  exact State.goOf_follows fo

theorem execRevokeKey_follows {pre : State} {path : Path} {slot : LdSlot} {s : State} (fo : Follows pre s) : FollowsO pre (execRevokeKey path slot s) := by
  unfold execRevokeKey
  exact State.goOf_follows fo

theorem State.fillDone_follows {pre : State} {s : State} (fo : Follows pre s) {p : Nat} {opc : Nat} {f : State → Nat → Nat → State} (fof : ∀ (a : State) (a_1 a_2 : Nat), Follows pre a → Follows pre (f a a_1 a_2)) : FollowsO pre (s.fillDone p opc f) := by
  unfold State.fillDone
  split
  · rename_i y1 y2 y3
    apply FollowsO.next
    apply fof
    · exact fo
  · exact FollowsO.next fo

theorem execCreateComplete_follows {pre : State} {part : Part} {s : State} (fo : Follows pre s) : FollowsO pre (execCreateComplete part s) := by
  unfold execCreateComplete
  apply State.fillDone_follows
  · exact fo
  · intro x1 x2 x3 h1
    exact State.createDone_follows h1

theorem execResizeComplete_follows {pre : State} {part : Part} {s : State} (fo : Follows pre s) : FollowsO pre (execResizeComplete part s) := by
  unfold execResizeComplete
  apply State.fillDone_follows
  · exact fo
  · intro x1 x2 x3 h1
    exact State.resizeDone_follows h1

theorem execDestroyComplete_follows {pre : State} {part : Part} {s : State} (fo : Follows pre s) : FollowsO pre (execDestroyComplete part s) := by
  unfold execDestroyComplete
  apply State.fillDone_follows
  · exact fo
  · intro x1 x2 x3 h1
    exact State.destroyDone_follows h1

theorem State.loadBank_follows {pre : State} {s : State} (fo : Follows pre s) {bad : List RowMiss} {t : Nat} {a : Nat} {n : Nat} {pl : Nat} : Follows pre (State.loadBank s bad t a n pl) := by
  unfold State.loadBank
  extract_lets s1 s2 s3 s4 s5
  have h1 : Follows pre s5 := State.setSpares_follows fo
  clear_value s5
  exact Follows.ite fo (Follows.ite h1 (State.setReg_follows h1))

theorem State.loadArray_follows {pre : State} {s : State} (fo : Follows pre s) {bad : List RowMiss} {t : Nat} {a : Nat} {n : Nat} : Follows pre (State.loadArray s bad t a n) := by
  unfold State.loadArray
  exact State.loadBank_follows (State.loadBank_follows fo)

theorem State.loadBanks_follows {pre : State} {s : State} (fo : Follows pre s) {p : Nat} {bad : List RowMiss} : Follows pre (State.loadBanks s p bad) := by
  unfold State.loadBanks
  apply foldl_follows
  · intro x1 x2 h1
    exact State.loadArray_follows h1
  · exact fo

theorem State.spareFor_follows {pre : State} {s : State} (fo : Follows pre s) {bad : List RowMiss} {l : List (Nat × Nat)} : Follows pre (State.spareFor s bad l) := by
  unfold State.spareFor
  apply foldl_follows
  · intro x1 x2 h1
    exact Follows.ite h1 (State.loadArray_follows (State.giveSpare_follows h1))
  · exact fo

theorem State.writeBanks_follows {pre : State} {s : State} (fo : Follows pre s) {p : Nat} {bad : List RowMiss} : Follows pre (State.writeBanks s p bad) := by
  unfold State.writeBanks
  exact State.spareFor_follows (State.loadBanks_follows fo)

theorem State.writeFailed_follows {pre : State} {s : State} (fo : Follows pre s) {p : Nat} {n : Nat} {r : LoadRefusal} : Follows pre (s.writeFailed p n r) := by
  unfold State.writeFailed
  extract_lets s1 s2
  have h1 : Follows pre s1 := State.dropExpress_follows (State.wipeBanks_follows fo)
  clear_value s1
  have h2 : Follows pre s2 := State.updPart_follows h1
  clear_value s2
  exact State.cmdClose_follows (State.refusalRecord_follows (State.enter_follows h2))

theorem State.writeGood_follows {pre : State} {s : State} (fo : Follows pre s) {p : Nat} {n : Nat} {k : PkgRef} {start : Bool} : Follows pre (s.writeGood p n k start) := by
  unfold State.writeGood
  extract_lets s1 s2 s3
  have h1 : Follows pre s1 := State.setPend_follows (State.updPart_follows fo)
  clear_value s1
  have h2 : Follows pre s2 := State.refreshChain_follows (State.setG_follows h1)
  clear_value s2
  have h3 : Follows pre s3 := Follows.ite (State.beginStepping_follows h2) (State.enter_follows h2)
  clear_value s3
  exact State.cmdEnd_follows h3

theorem State.cutRewrite_follows {pre : State} {s : State} (fo : Follows pre s) {p : Nat} {code : Nat} : Follows pre (s.cutRewrite p code) := by
  unfold State.cutRewrite
  extract_lets s1 s2
  have h1 : Follows pre s1 := State.dropExpress_follows (State.wipeBanks_follows fo)
  clear_value s1
  have h2 : Follows pre s2 := State.updPart_follows h1
  clear_value s2
  exact State.setLcode_follows (State.enter_follows h2)

theorem State.placePackage_follows {pre : State} {s t : State} (fo : Follows pre s) {p : Nat} {k : PkgRef} {info : LoadInfo} {u : Option (Fin 1048576)}
    (h : s.placePackage p k info u = .inl t) : Follows pre t := by
  unfold State.placePackage at h
  repeat' (split at h; · cases h)
  rename_i g0 _ _ _
  generalize hj : s.scratch g0 = j at h
  have h0 : Follows pre j.1 := hj ▸ State.scratch_follows fo
  dsimp only at h
  split at h
  · cases h
  have h1 : Follows pre (((j.1.writeTiles j.2 (fun _ => true)).writePart j.2).writeExpress j.2) :=
    State.writeExpress_follows (State.writePart_follows (State.writeTiles_follows h0))
  generalize (((j.1.writeTiles j.2 (fun _ => true)).writePart j.2).writeExpress j.2) = w at h h1
  split at h
  · cases h
  · cases h
    exact State.setG_follows (State.setG_follows (State.endScratch_follows (State.calibrateTiles_follows h1)))

theorem execInstallWriteComplete_follows {pre : State} {part : Part} {info : LoadInfo} {unread : Option (Fin 1048576)} {bad : List RowMiss} {s : State}
    (fo : Follows pre s) : FollowsO pre (execInstallWriteComplete part info unread bad s) := by
  unfold execInstallWriteComplete
  extract_lets p w left first
  have h1 : Follows pre w := State.writeBanks_follows fo
  clear_value w left first
  refine FollowsO.ite (FollowsO.next fo) ?_
  split
  · refine FollowsO.ite (FollowsO.next (State.writeFailed_follows h1)) ?_
    split
    · exact FollowsO.next (State.writeFailed_follows h1)
    · rename_i h3
      have h4 := State.placePackage_follows h1 h3
      split
      · exact FollowsO.next (State.writeGood_follows h4)
      · exact FollowsO.next (State.writeFailed_follows h4)
  · refine FollowsO.ite (FollowsO.next (State.cutRewrite_follows (State.refusalRecord_follows fo))) ?_
    refine FollowsO.ite (FollowsO.next (State.cutRewrite_follows (State.refusalRecord_follows h1))) ?_
    split
    · exact FollowsO.next (State.cutRewrite_follows (State.refusalRecord_follows h1))
    · exact FollowsO.next (State.enter_follows (State.rewriteTiles_follows h1))
  · exact FollowsO.next fo

theorem execDrainDeadline_follows {pre : State} {part : Part} {s : State} (fo : Follows pre s) : FollowsO pre (execDrainDeadline part s) := by
  unfold execDrainDeadline
  extract_lets s1
  exact FollowsO.ite (FollowsO.next (State.afterCommit_follows (State.commitPart_follows fo))) (FollowsO.next fo)

theorem State.writeValid_follows {pre : State} {s : State} (fo : Follows pre s) {path : Path} {e : Nat} {v : Bool} : Follows pre (s.writeValid path e v) := by
  unfold State.writeValid
  apply Follows.ite
  · exact State.refuseStatic_follows fo
  · extract_lets s1
    have h1 : Follows pre s1 := Follows.ite (State.setG_follows fo) fo
    clear_value s1
    exact State.setG_follows h1

theorem execServerEntryValid_follows {pre : State} {path : Path} {entry : Fin 64} {valid : Bool} {s : State} (fo : Follows pre s) : FollowsO pre (execServerEntryValid path entry valid s) := by
  unfold execServerEntryValid
  apply State.pageWrite_follows
  · exact fo
  · intro x1 h1
    exact State.writeValid_follows h1

theorem execServerQpError_follows {pre : State} {entry : Fin 64} {s : State} (fo : Follows pre s) : FollowsO pre (execServerQpError entry s) := by
  unfold execServerQpError
  exact FollowsO.ite (FollowsO.next (State.setG_follows fo)) (FollowsO.next fo)

theorem execStreamPlanEntry_follows {pre : State} {part : Part} {entry : Fin 1048576} {behind : Bool} {s : State} (fo : Follows pre s) : FollowsO pre (execStreamPlanEntry part entry behind s) := by
  unfold execStreamPlanEntry
  extract_lets s1 s2 s3
  have h1 : Follows pre s3 := Follows.ite (State.ldRecord_follows fo) fo
  clear_value s3
  split
  · rename_i y1 y2 y3 y4 y5 y6
    extract_lets s4
    apply FollowsO.ite
    · split
      · exact FollowsO.next h1
      · rename_i y7 y8 y9
        apply FollowsO.next
        exact h1.same (Eq.refl _) h1.mem (Eq.refl _) (Eq.refl _) (Eq.refl _) (Eq.refl _)
    · exact FollowsO.next fo
  · exact FollowsO.next fo

/-! ### Operations that leave memory alone -/

theorem State.slotStart_memSame {pre : State} {s : State} (fo : MemSame pre s) {n : Nat} {total : Nat} : MemSame pre (s.slotStart n total) := by
  unfold State.slotStart
  exact State.setG_memSame (State.setG_memSame (State.setG_memSame (State.setG_memSame fo)))

theorem State.cmdClose_memSame {pre : State} {s : State} (fo : MemSame pre s) {n : Nat} {p : Nat} {code : Nat} : MemSame pre (s.cmdClose n p code) := by
  unfold State.cmdClose
  extract_lets s1
  have h1 : MemSame pre s1 := State.setG_memSame (State.setG_memSame fo)
  clear_value s1
  exact State.raiseInt_memSame (MemSame.ite (State.setLcode_memSame h1) h1)

theorem State.licRecord_memSame {pre : State} {s : State} (fo : MemSame pre s) {f : Nat} {part : Option Nat} : MemSame pre (s.licRecord f part) := by
  unfold State.licRecord
  exact State.record_memSame fo

theorem State.goLicence_memSame {pre : State} {s : State} (fo : MemSame pre s) {n : Nat} {p : Nat} {f : Nat} : MemSame pre (s.goLicence n p f) := by
  unfold State.goLicence
  exact State.licRecord_memSame (State.setG_memSame (State.setG_memSame fo))

theorem State.goCreate_memSame {pre : State} {s : State} (fo : MemSame pre s) {n : Nat} {p : Nat} : MemSame pre (s.goCreate n p) := by
  unfold State.goCreate
  extract_lets s1
  exact MemSame.ite (State.goRefused_memSame fo) (MemSame.ite (State.goLicence_memSame fo) (State.coolQuads_memSame (State.slotStart_memSame fo)))

theorem State.goResize_memSame {pre : State} {s : State} (fo : MemSame pre s) {n : Nat} {p : Nat} : MemSame pre (s.goResize n p) := by
  unfold State.goResize
  extract_lets s1
  exact MemSame.ite (State.goRefused_memSame fo) (MemSame.ite (State.goLicence_memSame fo) (MemSame.ite (State.goRefused_memSame fo) (State.coolQuads_memSame (State.slotStart_memSame fo))))

theorem State.setAttrs_memSame {pre : State} {s : State} (fo : MemSame pre s) {p : Nat} {a : Attrs} : MemSame pre (s.setAttrs p a) := by
  unfold State.setAttrs
  extract_lets s1
  exact State.setG_memSame (State.updPart_memSame fo)

theorem State.dropReqs_memSame {pre : State} {s : State} (fo : MemSame pre s) {p : Nat} {first : Nat} {count : Nat} : MemSame pre (s.dropReqs p first count) := by
  unfold State.dropReqs
  extract_lets s1 s2
  have h1 : MemSame pre s2 := by
    unfold s2
    apply foldl_memSame
    · intro x1 x2 h1
      exact State.release_memSame h1
    · exact fo
  clear_value s2
  exact h1.same (Eq.refl _)

theorem State.unloadKeep_memSame {pre : State} {s : State} (fo : MemSame pre s) {p : Nat} : MemSame pre (s.unloadKeep p) := by
  unfold State.unloadKeep
  split
  · exact fo
  · rename_i y1 y2 y3
    exact State.setPend_memSame (State.updPart_memSame fo)

theorem State.failOthers_memSame {pre : State} {s : State} (fo : MemSame pre s) {n : Nat} {p : Nat} : MemSame pre (s.failOthers n p) := by
  unfold State.failOthers
  apply foldl_memSame
  · intro x1 x2 h1
    exact State.cmdEnd_memSame h1
  · exact fo

theorem State.failRequests_memSame {pre : State} {s : State} (fo : MemSame pre s) {p : Nat} {reason : Nat} : MemSame pre (s.failRequests p reason) := by
  unfold State.failRequests
  apply State.journalAcc_memSame
  apply foldl_memSame
  · intro x1 x2 h1
    exact MemSame.ite (State.endTwin_memSame h1) (MemSame.ite (State.endPlain_memSame h1) h1)
  · exact fo

theorem State.discardQueue_memSame {pre : State} {s : State} (fo : MemSame pre s) {p : Nat} : MemSame pre (s.discardQueue p) := by
  unfold State.discardQueue
  extract_lets s1
  exact MemSame.ite fo (State.record_memSame (State.updPart_memSame fo))

theorem State.goDestroy_memSame {pre : State} {s : State} (fo : MemSame pre s) {n : Nat} {p : Nat} : MemSame pre (State.goDestroy s n p) := by
  unfold State.goDestroy
  extract_lets s1 s2 s3
  have h1 : MemSame pre s1 := State.slotStart_memSame (State.failOthers_memSame fo)
  clear_value s1
  have h2 : MemSame pre s2 := State.updPart_memSame h1
  clear_value s2
  have h3 : MemSame pre s3 := MemSame.ite (State.chainStop_memSame (State.haltPart_memSame (State.abortPart_memSame h2))) h2
  clear_value s3
  exact State.failRequests_memSame h3

theorem State.stageFail_memSame {pre : State} {s : State} (fo : MemSame pre s) {p : Nat} {code : Nat} {item : Nat} {detail : Nat} : MemSame pre (State.stageFail s p code item detail) := by
  unfold State.stageFail
  split
  · exact fo
  · rename_i y3 y4 y5
    extract_lets s1
    have h1 : MemSame pre s1 := State.setPend_memSame (State.updPart_memSame fo)
    clear_value s1
    exact State.cmdEndWith_memSame (MemSame.ite (State.setG_memSame h1) h1)

theorem State.tryShard_memSame {pre : State} {s : State} (fo : MemSame pre s) {p : Nat} {k : Nat} : MemSame pre (s.tryShard p k) := by
  unfold State.tryShard
  split
  · exact fo
  · rename_i y1 y2 y3
    apply MemSame.ite
    · exact State.emit_memSame fo
    · split
      · rename_i y4 y5 y6
        exact State.emit_memSame (State.updPart_memSame fo)
      · exact State.stageFail_memSame fo

theorem State.failTry_memSame {pre : State} {s : State} (fo : MemSame pre s) {p : Nat} {k : Nat} {code : Nat} : MemSame pre (s.failTry p k code) := by
  unfold State.failTry
  split
  · exact fo
  · rename_i y1 y2 y3
    extract_lets s1 s2 s3 s4
    have h1 : MemSame pre s2 := State.ldRecord_memSame fo
    clear_value s2
    have h2 : MemSame pre s3 := by
      unfold s3
      split
      · rename_i y4 y5 y6
        exact State.addReg_memSame h1
      · exact h1
    clear_value s3
    have h3 : MemSame pre s4 := State.updPart_memSame h2
    clear_value s4
    exact MemSame.ite (State.stageFail_memSame h3) (State.tryShard_memSame h3)

theorem State.leadAccepted_memSame {pre : State} {s : State} (fo : MemSame pre s) {p : Nat} {g : StageRun} {id : Nat} : MemSame pre (s.leadAccepted p g id) := by
  unfold State.leadAccepted
  extract_lets s1
  split
  · exact fo
  · rename_i y1 y2 y3
    extract_lets s2 s3 s4
    have h1 : MemSame pre s3 := State.updPart_memSame fo
    clear_value s3
    have h2 : MemSame pre s4 := State.setG_memSame (State.setG_memSame h1)
    clear_value s4
    apply foldl_memSame
    · intro x1 x2 h3
      exact State.tryShard_memSame h3
    · exact h2

theorem State.shardGood_memSame {pre : State} {s : State} (fo : MemSame pre s) {p : Nat} {k : Nat} {g : StageRun} : MemSame pre (State.shardGood s p k g) := by
  unfold State.shardGood
  extract_lets s1 s2 s3 s4
  have h1 : MemSame pre s2 := State.addReg_memSame fo
  clear_value s2
  have h2 : MemSame pre s4 := State.updPart_memSame h1
  clear_value s4
  exact MemSame.ite (State.cmdEnd_memSame (State.setPend_memSame (State.updPart_memSame h1))) (MemSame.ite (State.tryShard_memSame h2) h2)

theorem execShardFetchError_memSame {pre : State} {part : Part} {shard : Fin 65536} {s : State} (fo : MemSame pre s) : MemSameO pre (execShardFetchError part shard s) := by
  unfold execShardFetchError
  extract_lets s1 s2
  split
  · exact MemSameO.next fo
  · rename_i y1 y2 y3
    exact MemSameO.ite (MemSameO.next fo) (MemSameO.next (State.failTry_memSame fo))

theorem State.goDiscard_memSame {pre : State} {s : State} (fo : MemSame pre s) {n : Nat} {p : Nat} : MemSame pre (s.goDiscard n p) := by
  unfold State.goDiscard
  extract_lets s1 s2
  have h1 : MemSame pre s1 := State.slotStart_memSame fo
  clear_value s1
  have h2 : MemSame pre s2 := by
    unfold s2
    split
    · rename_i y1 y2 y3
      exact State.cmdEnd_memSame h1
    · exact h1
  clear_value s2
  exact State.cmdEnd_memSame (State.setPend_memSame (State.updPart_memSame h2))

theorem State.goInstall_memSame {pre : State} {s : State} (fo : MemSame pre s) {n : Nat} {p : Nat} : MemSame pre (s.goInstall n p) := by
  unfold State.goInstall
  split
  · exact State.goRefused_memSame fo
  · rename_i y1 y2 y3
    apply MemSame.ite
    · exact State.goRefused_memSame fo
    · apply MemSame.ite
      · exact State.goRefused_memSame fo
      · apply MemSame.ite
        · exact State.goRefused_memSame fo
        · extract_lets s1 s2 s3 s4 s5
          have h1 : MemSame pre s4 := State.regionsBack_memSame (State.slotStart_memSame fo)
          clear_value s4
          have h2 : MemSame pre s5 := State.updPart_memSame h1
          clear_value s5
          exact MemSame.ite (State.clearHold_memSame (State.setPstate_memSame (State.updPart_memSame h1))) (State.adjustPart_memSame (State.startWrite_memSame (State.endReplaced_memSame (State.clearBindings_memSame h2))))

theorem State.goStop_memSame {pre : State} {s : State} (fo : MemSame pre s) {n : Nat} {p : Nat} : MemSame pre (s.goStop n p) := by
  unfold State.goStop
  extract_lets s1 s2 s3
  have h1 : MemSame pre s2 := State.setPstate_memSame (State.updPart_memSame (State.slotStart_memSame fo))
  clear_value s2
  have h2 : MemSame pre s3 := State.chainStop_memSame h1
  clear_value s3
  exact MemSame.ite (State.stopReached_memSame h2) h2

theorem State.setKeyId_memSame {pre : State} {s : State} (fo : MemSame pre s) {slot : Nat} {v : Nat} : MemSame pre (s.setKeyId slot v) := by
  unfold State.setKeyId
  exact State.setG_memSame (State.setG_memSame fo)

theorem State.goEnroll_memSame {pre : State} {s : State} (fo : MemSame pre s) {n : Nat} {slot : Nat} : MemSame pre (s.goEnroll n slot) := by
  unfold State.goEnroll
  extract_lets s1 s2 s3 s4
  have h1 : MemSame pre s4 := fo.same (Eq.refl _)
  clear_value s4
  exact MemSame.ite (State.goRefused_memSame fo) (MemSame.ite (State.goRefused_memSame fo) (State.cmdEnd_memSame (State.setKeyId_memSame (State.slotStart_memSame h1))))

theorem State.goRevoke_memSame {pre : State} {s : State} (fo : MemSame pre s) {n : Nat} {slot : Nat} : MemSame pre (s.goRevoke n slot) := by
  unfold State.goRevoke
  extract_lets s1 s2
  have h1 : MemSame pre s2 := fo.same (Eq.refl _)
  clear_value s2
  exact State.cmdEnd_memSame (State.setKeyId_memSame (State.slotStart_memSame h1))

theorem State.fillDone_memSame {pre : State} {s : State} (fo : MemSame pre s) {p : Nat} {opc : Nat} {f : State → Nat → Nat → State} (fof : ∀ (a : State) (a_1 a_2 : Nat), MemSame pre a → MemSame pre (f a a_1 a_2)) : MemSameO pre (s.fillDone p opc f) := by
  unfold State.fillDone
  split
  · rename_i y1 y2 y3
    apply MemSameO.next
    apply fof
    · exact fo
  · exact MemSameO.next fo

theorem State.loadBank_memSame {pre : State} {s : State} (fo : MemSame pre s) {bad : List RowMiss} {t : Nat} {a : Nat} {n : Nat} {pl : Nat} : MemSame pre (State.loadBank s bad t a n pl) := by
  unfold State.loadBank
  extract_lets s1 s2 s3 s4 s5
  have h1 : MemSame pre s5 := State.setSpares_memSame fo
  clear_value s5
  exact MemSame.ite fo (MemSame.ite h1 (State.setReg_memSame h1))

theorem State.loadArray_memSame {pre : State} {s : State} (fo : MemSame pre s) {bad : List RowMiss} {t : Nat} {a : Nat} {n : Nat} : MemSame pre (State.loadArray s bad t a n) := by
  unfold State.loadArray
  exact State.loadBank_memSame (State.loadBank_memSame fo)

theorem State.spareFor_memSame {pre : State} {s : State} (fo : MemSame pre s) {bad : List RowMiss} {l : List (Nat × Nat)} : MemSame pre (State.spareFor s bad l) := by
  unfold State.spareFor
  apply foldl_memSame
  · intro x1 x2 h1
    exact MemSame.ite h1 (State.loadArray_memSame (State.giveSpare_memSame h1))
  · exact fo

theorem State.writeGood_memSame {pre : State} {s : State} (fo : MemSame pre s) {p : Nat} {n : Nat} {k : PkgRef} {start : Bool} : MemSame pre (s.writeGood p n k start) := by
  unfold State.writeGood
  extract_lets s1 s2 s3
  have h1 : MemSame pre s1 := State.setPend_memSame (State.updPart_memSame fo)
  clear_value s1
  have h2 : MemSame pre s2 := State.refreshChain_memSame (State.setG_memSame h1)
  clear_value s2
  have h3 : MemSame pre s3 := MemSame.ite (State.beginStepping_memSame h2) (State.enter_memSame h2)
  clear_value s3
  exact State.cmdEnd_memSame h3

theorem State.writeValid_memSame {pre : State} {s : State} (fo : MemSame pre s) {path : Path} {e : Nat} {v : Bool} : MemSame pre (s.writeValid path e v) := by
  unfold State.writeValid
  apply MemSame.ite
  · exact State.refuseStatic_memSame fo
  · extract_lets s1
    have h1 : MemSame pre s1 := MemSame.ite (State.setG_memSame fo) fo
    clear_value s1
    exact State.setG_memSame h1

theorem execServerEntryValid_memSame {pre : State} {path : Path} {entry : Fin 64} {valid : Bool} {s : State} (fo : MemSame pre s) : MemSameO pre (execServerEntryValid path entry valid s) := by
  unfold execServerEntryValid
  apply State.pageWrite_memSame
  · exact fo
  · intro x1 h1
    exact State.writeValid_memSame h1

theorem execServerQpError_memSame {pre : State} {entry : Fin 64} {s : State} (fo : MemSame pre s) : MemSameO pre (execServerQpError entry s) := by
  unfold execServerQpError
  exact MemSameO.ite (MemSameO.next (State.setG_memSame fo)) (MemSameO.next fo)

theorem execStreamPlanEntry_memSame {pre : State} {part : Part} {entry : Fin 1048576} {behind : Bool} {s : State} (fo : MemSame pre s) : MemSameO pre (execStreamPlanEntry part entry behind s) := by
  unfold execStreamPlanEntry
  extract_lets s1 s2 s3
  have h1 : MemSame pre s3 := MemSame.ite (State.ldRecord_memSame fo) fo
  clear_value s3
  split
  · rename_i y1 y2 y3 y4 y5 y6
    extract_lets s4
    apply MemSameO.ite
    · split
      · exact MemSameO.next h1
      · rename_i y7 y8 y9
        apply MemSameO.next
        exact h1.same (Eq.refl _)
    · exact MemSameO.next fo
  · exact MemSameO.next fo

end Sys2Proof.Machine
end

