-- ==== Sys2Proof/Laws/Supply.lean ====
section
/-! SUPPORT. What the operations of Machine/Supply.lean keep: one lemma for each, by the lemmas of those that it calls. -/

namespace Sys2Proof.Machine

open Sys2Proof

theorem State.pwrRecord_follows {pre : State} {s : State} (fo : Follows pre s) {code : Nat} {site : Nat} {quad : Nat} {chk : Nat} {phase : Nat} {part : Option Nat} : Follows pre (s.pwrRecord code site quad chk phase part) := by
  unfold State.pwrRecord
  exact State.record_follows fo

theorem State.thmRecord_follows {pre : State} {s : State} (fo : Follows pre s) {code : Nat} {site : Nat} {stack : Nat} {region : Nat} : Follows pre (s.thmRecord code site stack region) := by
  unfold State.thmRecord
  exact State.record_follows fo

theorem State.refreshSite_follows {pre : State} {s : State} (fo : Follows pre s) {site : Nat} : Follows pre (s.refreshSite site) := by
  unfold State.refreshSite
  extract_lets s1 s2
  have h1 : Follows pre s1 := State.setG_follows (State.setG_follows fo)
  clear_value s1
  exact State.setG_follows h1

theorem State.allSites_follows {pre : State} {s : State} (fo : Follows pre s) {f : State → Nat → State} (fof : ∀ (a : State) (a_1 : Nat), Follows pre a → Follows pre (f a a_1)) : Follows pre (s.allSites f) := by
  unfold State.allSites
  apply foldl_follows
  · intro x1 x2 h1
    apply fof
    · exact h1
  · exact fo

theorem State.cutWrite_follows {pre : State} {s : State} (fo : Follows pre s) {p : Nat} {code : Nat} : Follows pre (s.cutWrite p code) := by
  unfold State.cutWrite
  extract_lets s1 s2 s3 s4
  have h1 : Follows pre s2 := State.dropExpress_follows (State.wipeBanks_follows fo)
  clear_value s2
  have h2 : Follows pre s3 := State.updPart_follows h1
  clear_value s3
  have h3 : Follows pre s4 := State.setLcode_follows (State.enter_follows h2)
  clear_value s4
  clear_value s1
  split
  · rename_i y1 y2
    exact State.cmdClose_follows h3
  · exact h3

theorem State.stopSite_follows {pre : State} {s : State} (fo : Follows pre s) {site : Nat} {reason : Nat} : Follows pre (s.stopSite site reason) := by
  unfold State.stopSite
  apply foldl_follows
  · intro x1 x2 h1
    exact Follows.ite (Follows.ite (State.cutWrite_follows h1) (State.abortStop_follows h1)) h1
  · exact fo

theorem State.goDark_follows {pre : State} {s : State} (fo : Follows pre s) {site : Nat} {why : Nat} : Follows pre (s.goDark site why) := by
  unfold State.goDark
  apply Follows.ite
  · exact fo
  · extract_lets s1 s2 s3 s4
    have h1 : Follows pre s1 := State.stopSite_follows fo
    clear_value s1
    have h2 : Follows pre s4 := h1.same (Eq.refl _) h1.mem (Eq.refl _) (Eq.refl _) (Eq.refl _) (Eq.refl _)
    clear_value s4
    apply State.refreshSite_follows
    apply foldl_follows
    · intro x1 x2 h3
      exact State.dropQuad_follows h3
    · exact h2

theorem State.loseAll_follows {pre : State} {s : State} (h : Follows pre s) : Follows pre s.loseAll := by
  refine ⟨h.pending, h.memOk.keep, fun w => ?_, fun _ k hk => ?_⟩
  · exact ⟨Map.keep_wf (h.sess w).1 _, fun k hk => (h.sess w).2.1 k (Map.has_of_keep hk), (h.sess w).2.2⟩
  · simp [State.loseAll, Map.has_empty] at hk

theorem State.lockClocks_follows {pre : State} {s : State} (fo : Follows pre s) {all : Bool} : Follows pre (s.lockClocks all) := by
  unfold State.lockClocks
  exact State.setG_follows (State.setG_follows (State.setG_follows fo))

theorem State.stopConverters_follows {pre : State} {s : State} (fo : Follows pre s) : Follows pre (State.stopConverters s) := by
  unfold State.stopConverters
  apply Follows.ite
  · apply State.allSites_follows
    · exact State.lockClocks_follows (State.setBoot_follows (State.loseAll_follows fo))
    · intro x1 x2 h1
      exact State.refreshTemp_follows h1
  · exact fo

theorem State.beginAlert_follows {pre : State} {s : State} (fo : Follows pre s) : Follows pre s.beginAlert := by
  unfold State.beginAlert
  extract_lets s1 s2 s3 s4 s5
  have h1 : Follows pre s2 := by
    unfold s2
    apply Follows.ite
    · exact fo
    · exact fo.same (Eq.refl _) fo.mem (Eq.refl _) (Eq.refl _) (Eq.refl _) (Eq.refl _)
  clear_value s2
  have h2 : Follows pre s3 := State.setG_follows h1
  clear_value s3
  exact h2.same (Eq.refl _) h2.mem (Eq.refl _) (Eq.refl _) (Eq.refl _) (Eq.refl _)

theorem State.endAlert_follows {pre : State} {s : State} (fo : Follows pre s) : Follows pre s.endAlert := by
  unfold State.endAlert
  extract_lets s1 s2 s3
  have h1 : Follows pre s2 := State.setG_follows fo
  clear_value s2
  exact h1.same (Eq.refl _) h1.mem (Eq.refl _) (Eq.refl _) (Eq.refl _) (Eq.refl _)

theorem State.holdAlert_follows {pre : State} {s : State} (fo : Follows pre s) : Follows pre s.holdAlert := by
  unfold State.holdAlert
  apply Follows.ite
  · exact fo
  · apply Follows.ite
    · exact State.endAlert_follows fo
    · exact fo.same (Eq.refl _) fo.mem (Eq.refl _) (Eq.refl _) (Eq.refl _) (Eq.refl _)

/-! ### Operations that leave memory alone -/

theorem State.pwrRecord_memSame {pre : State} {s : State} (fo : MemSame pre s) {code : Nat} {site : Nat} {quad : Nat} {chk : Nat} {phase : Nat} {part : Option Nat} : MemSame pre (s.pwrRecord code site quad chk phase part) := by
  unfold State.pwrRecord
  exact State.record_memSame fo

theorem State.thmRecord_memSame {pre : State} {s : State} (fo : MemSame pre s) {code : Nat} {site : Nat} {stack : Nat} {region : Nat} : MemSame pre (s.thmRecord code site stack region) := by
  unfold State.thmRecord
  exact State.record_memSame fo

theorem State.refreshSite_memSame {pre : State} {s : State} (fo : MemSame pre s) {site : Nat} : MemSame pre (s.refreshSite site) := by
  unfold State.refreshSite
  extract_lets s1 s2
  have h1 : MemSame pre s1 := State.setG_memSame (State.setG_memSame fo)
  clear_value s1
  exact State.setG_memSame h1

theorem State.allSites_memSame {pre : State} {s : State} (fo : MemSame pre s) {f : State → Nat → State} (fof : ∀ (a : State) (a_1 : Nat), MemSame pre a → MemSame pre (f a a_1)) : MemSame pre (s.allSites f) := by
  unfold State.allSites
  apply foldl_memSame
  · intro x1 x2 h1
    apply fof
    · exact h1
  · exact fo

theorem State.lockClocks_memSame {pre : State} {s : State} (fo : MemSame pre s) {all : Bool} : MemSame pre (s.lockClocks all) := by
  unfold State.lockClocks
  exact State.setG_memSame (State.setG_memSame (State.setG_memSame fo))

theorem State.beginAlert_memSame {pre : State} {s : State} (fo : MemSame pre s) : MemSame pre s.beginAlert := by
  unfold State.beginAlert
  extract_lets s1 s2 s3 s4 s5
  have h1 : MemSame pre s2 := by
    unfold s2
    apply MemSame.ite
    · exact fo
    · exact fo.same (Eq.refl _)
  clear_value s2
  have h2 : MemSame pre s3 := State.setG_memSame h1
  clear_value s3
  exact h2.same (Eq.refl _)

theorem State.endAlert_memSame {pre : State} {s : State} (fo : MemSame pre s) : MemSame pre s.endAlert := by
  unfold State.endAlert
  extract_lets s1 s2 s3
  have h1 : MemSame pre s2 := State.setG_memSame fo
  clear_value s2
  exact h1.same (Eq.refl _)

theorem State.holdAlert_memSame {pre : State} {s : State} (fo : MemSame pre s) : MemSame pre s.holdAlert := by
  unfold State.holdAlert
  apply MemSame.ite
  · exact fo
  · apply MemSame.ite
    · exact State.endAlert_memSame fo
    · exact fo.same (Eq.refl _)

end Sys2Proof.Machine
end

