-- ==== Sys2Proof/Laws/Power.lean ====
section
/-! SUPPORT. What the operations of Machine/Power.lean keep: one lemma for each, by the lemmas of those that it calls. -/

namespace Sys2Proof.Machine

open Sys2Proof

theorem State.flashOnly_follows {pre : State} {s : State} (fo : Follows pre s) : Follows pre s.flashOnly := by
  refine ⟨fo.pending, fo.memOk.keep, fun w => ⟨?_, fun k hk => ?_, (fo.sess w).2.2⟩, fun _ k hk => ?_⟩
  · exact Map.empty_wf
  · simp [State.flashOnly, LinkSt.init, Map.has_empty] at hk
  · simp [State.flashOnly, State.reset, Map.has_empty] at hk

theorem execAuxInputLoss_follows {pre : State} {s : State} (fo : Follows pre s) : FollowsO pre (execAuxInputLoss s) := by
  unfold execAuxInputLoss
  exact FollowsO.next (Follows.ite (State.flashOnly_follows fo) fo)

theorem execMainInputLoss_follows {pre : State} {mv : Fin 65001} {s : State} (fo : Follows pre s) : FollowsO pre (execMainInputLoss mv s) := by
  unfold execMainInputLoss
  apply FollowsO.ite
  · exact FollowsO.next fo
  · extract_lets s1 s2 s3
    have h1 : Follows pre s1 := State.setG_follows fo
    clear_value s1
    have h2 : Follows pre s3 := h1.same (Eq.refl _) h1.mem (Eq.refl _) (Eq.refl _) (Eq.refl _) (Eq.refl _)
    clear_value s3
    exact FollowsO.ite (FollowsO.next (State.pwrRecord_follows (State.stopConverters_follows h2))) (FollowsO.next h2)

theorem execConverterFail_follows {pre : State} {conv : Fin 8} {s : State} (fo : Follows pre s) : FollowsO pre (execConverterFail conv s) := by
  unfold execConverterFail
  extract_lets s1 s2
  have h1 : Follows pre s2 := State.pwrRecord_follows (State.setG_follows (State.setG_follows fo))
  clear_value s2
  apply FollowsO.ite
  · exact FollowsO.next fo
  · apply FollowsO.ite
    · apply FollowsO.next
      apply State.allSites_follows
      · exact h1
      · intro x1 x2 h2
        exact Follows.ite h2 (State.pwrRecord_follows (State.goDark_follows h2))
    · exact FollowsO.next h1

theorem State.slowWakes_follows {pre : State} {s : State} (fo : Follows pre s) {site : Nat} : Follows pre (s.slowWakes site) := by
  unfold State.slowWakes
  extract_lets s1 s2 s3
  have h1 : Follows pre s3 := fo.same (Eq.refl _) fo.mem (Eq.refl _) (Eq.refl _) (Eq.refl _) (Eq.refl _)
  clear_value s3
  apply foldl_follows
  · intro x1 x2 h2
    exact State.pwrRecord_follows h2
  · exact h1

theorem execPhaseFail_follows {pre : State} {site : Site} {phase : Fin 26} {s : State} (fo : Follows pre s) : FollowsO pre (execPhaseFail site phase s) := by
  unfold execPhaseFail
  extract_lets s1 s2 s3 s4 s5 s6
  have h1 : Follows pre s3 := fo.same (Eq.refl _) fo.mem (Eq.refl _) (Eq.refl _) (Eq.refl _) (Eq.refl _)
  have h2 : Follows pre s5 := State.refreshSite_follows (State.setG_follows h1)
  clear_value s5
  apply FollowsO.ite
  · exact FollowsO.next fo
  · apply FollowsO.ite
    · apply FollowsO.ite
      · apply FollowsO.next
        exact h2.same (Eq.refl _) h2.mem (Eq.refl _) (Eq.refl _) (Eq.refl _) (Eq.refl _)
      · exact FollowsO.next (State.pwrRecord_follows (State.goDark_follows h2))
    · exact FollowsO.next (State.slowWakes_follows (State.pwrRecord_follows h2))

theorem execTransitRegulatorFault_follows {pre : State} {site : Site} {s : State} (fo : Follows pre s) : FollowsO pre (execTransitRegulatorFault site s) := by
  unfold execTransitRegulatorFault
  apply FollowsO.ite
  · exact FollowsO.next fo
  · apply FollowsO.next
    apply State.pwrRecord_follows
    exact fo.same (Eq.refl _) fo.mem (Eq.refl _) (Eq.refl _) (Eq.refl _) (Eq.refl _)

theorem execSpillwayBoost_follows {pre : State} {tile : Tile} {mv : Fin 1024} {s : State} (fo : Follows pre s) : FollowsO pre (execSpillwayBoost tile mv s) := by
  unfold execSpillwayBoost
  extract_lets s1 s2
  apply FollowsO.ite
  · apply FollowsO.next
    apply State.emit_follows
    apply State.setG_follows
    exact fo.same (Eq.refl _) fo.mem (Eq.refl _) (Eq.refl _) (Eq.refl _) (Eq.refl _)
  · exact FollowsO.next fo

theorem execSpillwayShunt_follows {pre : State} {tile : Tile} {mv : Fin 1024} {s : State} (fo : Follows pre s) : FollowsO pre (execSpillwayShunt tile mv s) := by
  unfold execSpillwayShunt
  extract_lets s1
  exact FollowsO.ite (FollowsO.next (State.emit_follows fo)) (FollowsO.next fo)

theorem execSpillwayReservoirRecharged_follows {pre : State} {quad : Quad} {s : State} (fo : Follows pre s) : FollowsO pre (execSpillwayReservoirRecharged quad s) := by
  unfold execSpillwayReservoirRecharged
  extract_lets s1 s2 s3
  have h1 : Follows pre s3 := fo.same (Eq.refl _) fo.mem (Eq.refl _) (Eq.refl _) (Eq.refl _) (Eq.refl _)
  clear_value s3
  exact FollowsO.next (State.setG_follows h1)

theorem execClockStretchStart_follows {pre : State} {tile : Tile} {mv : Fin 1024} {s : State} (fo : Follows pre s) : FollowsO pre (execClockStretchStart tile mv s) := by
  unfold execClockStretchStart
  apply FollowsO.ite
  · apply FollowsO.next
    exact fo.same (Eq.refl _) fo.mem (Eq.refl _) (Eq.refl _) (Eq.refl _) (Eq.refl _)
  · exact FollowsO.next fo

theorem execClockStretchEnd_follows {pre : State} {region : Region} {below : Fin 1024} {s : State} (fo : Follows pre s) : FollowsO pre (execClockStretchEnd region below s) := by
  unfold execClockStretchEnd
  apply FollowsO.ite
  · apply FollowsO.next
    exact fo.same (Eq.refl _) fo.mem (Eq.refl _) (Eq.refl _) (Eq.refl _) (Eq.refl _)
  · exact FollowsO.next fo

theorem State.senseAt_follows {pre : State} {s : State} (fo : Follows pre s) {site : Nat} {point : Nat} {mv : Nat} {at_ : Nat} : Follows pre (State.senseAt s site point mv at_) := by
  unfold State.senseAt
  extract_lets s1 s2 s3
  exact Follows.ite (fo.same (Eq.refl _) fo.mem (Eq.refl _) (Eq.refl _) (Eq.refl _) (Eq.refl _)) fo

theorem State.sense_follows {pre : State} {s : State} (fo : Follows pre s) {site : Nat} {point : Nat} {mv : Nat} : Follows pre (State.sense s site point mv) := by
  unfold State.sense
  exact State.senseAt_follows fo

theorem execDeepDroop_follows {pre : State} {site : Site} {point : Fin 4} {mv : Fin 1024} {s : State} (fo : Follows pre s) : FollowsO pre (execDeepDroop site point mv s) := by
  unfold execDeepDroop
  extract_lets s1 s2 s3
  have h1 : Follows pre s1 := State.sense_follows fo
  clear_value s1
  have h2 : Follows pre s2 := State.pwrRecord_follows (State.setG_follows h1)
  clear_value s2
  apply FollowsO.ite
  · apply FollowsO.next
    exact h2.same (Eq.refl _) h2.mem (Eq.refl _) (Eq.refl _) (Eq.refl _) (Eq.refl _)
  · exact FollowsO.next h1

theorem State.clearVmin_follows {pre : State} {s : State} (fo : Follows pre s) : Follows pre s.clearVmin := by
  unfold State.clearVmin
  exact fo.same (Eq.refl _) fo.mem (Eq.refl _) (Eq.refl _) (Eq.refl _) (Eq.refl _)

theorem execVminClear_follows {pre : State} {path : Path} {s : State} (fo : Follows pre s) : FollowsO pre (execVminClear path s) := by
  unfold execVminClear
  apply State.pageWrite_follows
  · exact fo
  · intro x1 h1
    exact State.clearVmin_follows h1

theorem State.coolQuad_follows {pre : State} {s : State} (fo : Follows pre s) {q : Nat} : Follows pre (s.coolQuad q) := by
  unfold State.coolQuad
  exact fo.same (Eq.refl _) fo.mem (Eq.refl _) (Eq.refl _) (Eq.refl _) (Eq.refl _)

theorem State.writeQreq_follows {pre : State} {s : State} (fo : Follows pre s) {path : Path} {q : Nat} {r : Nat} : Follows pre (s.writeQreq path q r) := by
  unfold State.writeQreq
  exact Follows.ite (State.refuseWrite_follows fo) (Follows.ite fo (Follows.ite (State.refuseStatic_follows fo) (State.adjustQuad_follows (State.coolQuad_follows (State.setG_follows fo)))))

theorem execQuadrantPowerRequest_follows {pre : State} {path : Path} {quad : Quad} {request : Fin 4} {s : State} (fo : Follows pre s) : FollowsO pre (execQuadrantPowerRequest path quad request s) := by
  unfold execQuadrantPowerRequest
  apply State.pageWrite_follows
  · exact fo
  · intro x1 h1
    exact State.writeQreq_follows h1

theorem State.scrubTile_follows {pre : State} {s : State} (fo : Follows pre s) {t : Nat} : Follows pre (s.scrubTile t) := by
  unfold State.scrubTile
  apply foldl_follows
  · intro x1 x2 h1
    exact State.readRow_follows h1
  · exact fo

theorem State.arrived_follows {pre : State} {s : State} (fo : Follows pre s) {q : Nat} {st : Nat} : Follows pre (s.arrived q st) := by
  unfold State.arrived
  extract_lets s1
  have h1 : Follows pre s1 := State.adjustQuad_follows (State.coolQuad_follows (State.setQ_follows fo))
  clear_value s1
  split
  · rename_i y1 y2 y3
    exact State.finishStart_follows h1
  · exact h1

theorem execQuadrantTransitionDone_follows {pre : State} {quad : Quad} {upsets : List (Fin 256 × Fin 1024 × Fin 64 × Fin 72)} {s : State} (fo : Follows pre s) : FollowsO pre (execQuadrantTransitionDone quad upsets s) := by
  unfold execQuadrantTransitionDone
  extract_lets s1 s2 s3 s4 s5
  have h1 : Follows pre s3 := fo.same (Eq.refl _) fo.mem (Eq.refl _) (Eq.refl _) (Eq.refl _) (Eq.refl _)
  clear_value s3
  have h2 : Follows pre s5 := by
    unfold s5
    apply foldl_follows
    · intro x1 x2 h2
      exact State.upset_follows h2
    · exact h1
  clear_value s5
  split
  · rename_i y1 y2 y3
    apply FollowsO.ite
    · exact FollowsO.next fo
    · apply FollowsO.next
      apply State.arrived_follows
      exact fo.same (Eq.refl _) fo.mem (Eq.refl _) (Eq.refl _) (Eq.refl _) (Eq.refl _)
  · split
    · exact FollowsO.next fo
    · rename_i y1 y2 y3 y4 y5
      apply FollowsO.ite
      · exact FollowsO.next (State.arrived_follows (State.loseQuad_follows h1))
      · apply FollowsO.ite
        · apply FollowsO.next
          apply State.arrived_follows
          apply foldl_follows
          · intro x1 x2 h3
            exact State.scrubTile_follows h3
          · exact h2
        · exact FollowsO.next (State.arrived_follows h1)

theorem State.beginWake_follows {pre : State} {s : State} (fo : Follows pre s) {q : Nat} {slow : Bool} : Follows pre (s.beginWake q slow) := by
  unfold State.beginWake
  extract_lets s1 s2
  have h1 : Follows pre s2 := fo.same (Eq.refl _) fo.mem (Eq.refl _) (Eq.refl _) (Eq.refl _) (Eq.refl _)
  clear_value s2
  exact Follows.ite (State.pwrRecord_follows h1) h1

theorem State.readAmps_follows {pre : State} {s : State} (fo : Follows pre s) {l : List (Site × Fin 65536)} : Follows pre (s.readAmps l) := by
  unfold State.readAmps
  apply foldl_follows
  · intro x1 x2 h1
    exact State.setG_follows h1
  · exact fo

theorem execWakeStart_follows {pre : State} {quad : Quad} {amps : List (Site × Fin 65536)} {s : State} (fo : Follows pre s) : FollowsO pre (execWakeStart quad amps s) := by
  unfold execWakeStart
  extract_lets s1 s2
  have h1 : Follows pre s2 := State.readAmps_follows fo
  clear_value s2
  split
  · rename_i y1 y2 y3
    exact FollowsO.ite (FollowsO.next h1) (FollowsO.ite (FollowsO.next (State.beginWake_follows h1)) (FollowsO.ite (FollowsO.next (State.beginWake_follows h1)) (FollowsO.next h1)))
  · exact FollowsO.next h1

theorem execWakeWaitExpiry_follows {pre : State} {quad : Quad} {s : State} (fo : Follows pre s) : FollowsO pre (execWakeWaitExpiry quad s) := by
  unfold execWakeWaitExpiry
  extract_lets s1
  split
  · rename_i y1 y2 y3
    exact FollowsO.ite (FollowsO.next (State.beginWake_follows fo)) (FollowsO.next fo)
  · exact FollowsO.next fo

theorem execWakeStageAdvance_follows {pre : State} {quad : Quad} {mv : Fin 1024} {s : State} (fo : Follows pre s) : FollowsO pre (execWakeStageAdvance quad mv s) := by
  unfold execWakeStageAdvance
  extract_lets s1 s2
  split
  · rename_i y1 y2 y3
    apply FollowsO.ite
    · apply FollowsO.next
      exact fo.same (Eq.refl _) fo.mem (Eq.refl _) (Eq.refl _) (Eq.refl _) (Eq.refl _)
    · exact FollowsO.next fo
  · exact FollowsO.next fo

theorem State.impairQuad_follows {pre : State} {s : State} (fo : Follows pre s) {q : Nat} : Follows pre (s.impairQuad q) := by
  unfold State.impairQuad
  extract_lets s1 s2
  have h1 : Follows pre s1 := State.setG_follows fo
  clear_value s1
  have h2 : Follows pre s2 := by
    unfold s2
    apply foldl_follows
    · intro x1 x2 h2
      exact State.setReg_follows (State.setReg_follows h2)
    · exact h1
  clear_value s2
  exact State.record_follows h2

theorem execWakeFail_follows {pre : State} {quad : Quad} {s : State} (fo : Follows pre s) : FollowsO pre (execWakeFail quad s) := by
  unfold execWakeFail
  extract_lets s1 s2 s3 s4 s5
  have h1 : Follows pre s4 := fo.same (Eq.refl _) fo.mem (Eq.refl _) (Eq.refl _) (Eq.refl _) (Eq.refl _)
  clear_value s4
  have h2 : Follows pre s5 := State.pwrRecord_follows h1
  clear_value s5
  split
  · rename_i y1 y2 y3
    exact FollowsO.ite (FollowsO.next (Follows.ite (State.impairQuad_follows h2) h2)) (FollowsO.next fo)
  · exact FollowsO.next fo

theorem execWakeRetry_follows {pre : State} {quad : Quad} {s : State} (fo : Follows pre s) : FollowsO pre (execWakeRetry quad s) := by
  unfold execWakeRetry
  extract_lets s1 s2
  split
  · rename_i y1 y2 y3
    apply FollowsO.ite
    · apply FollowsO.next
      exact fo.same (Eq.refl _) fo.mem (Eq.refl _) (Eq.refl _) (Eq.refl _) (Eq.refl _)
    · exact FollowsO.next fo
  · exact FollowsO.next fo

theorem State.reportAnomaly_follows {pre : State} {s : State} (fo : Follows pre s) {q : Nat} {phase : Nat} : Follows pre (s.reportAnomaly q phase) := by
  unfold State.reportAnomaly
  extract_lets s1 s2 s3
  have h1 : Follows pre s3 := by
    unfold s3
    apply Follows.ite
    · exact fo
    · apply State.pwrRecord_follows
      apply State.setG_follows
      exact fo.same (Eq.refl _) fo.mem (Eq.refl _) (Eq.refl _) (Eq.refl _) (Eq.refl _)
  clear_value s3
  exact State.setG_follows h1

theorem State.takeAnomaly_follows {pre : State} {s : State} (fo : Follows pre s) {q : Nat} {reading : PathReading} : Follows pre (State.takeAnomaly s q reading) := by
  unfold State.takeAnomaly
  extract_lets s1 s2 s3
  have h1 : Follows pre s1 := State.reportAnomaly_follows fo
  clear_value s1
  have h2 : Follows pre s3 := h1.same (Eq.refl _) h1.mem (Eq.refl _) (Eq.refl _) (Eq.refl _) (Eq.refl _)
  clear_value s3
  exact Follows.ite (State.pwrRecord_follows (State.refreshSite_follows h2)) h1

theorem execSupplyAnomaly_follows {pre : State} {quad : Quad} {reading : PathReading} {s : State} (fo : Follows pre s) : FollowsO pre (execSupplyAnomaly quad reading s) := by
  unfold execSupplyAnomaly
  exact FollowsO.next (Follows.ite (State.takeAnomaly_follows fo) fo)

theorem State.predictive_follows {pre : State} {s : State} (fo : Follows pre s) {p : Nat} : Follows pre (s.predictive p) := by
  unfold State.predictive
  exact State.updPart_follows (State.setG_follows fo)

theorem execPwrReactiveClear_follows {pre : State} {path : Path} {part : Part} {s : State} (fo : Follows pre s) : FollowsO pre (execPwrReactiveClear path part s) := by
  unfold execPwrReactiveClear
  apply State.pageWrite_follows
  · exact fo
  · intro x1 h1
    exact State.predictive_follows h1

theorem execPwrAlertAssert_follows {pre : State} {s : State} (fo : Follows pre s) : FollowsO pre (execPwrAlertAssert s) := by
  unfold execPwrAlertAssert
  exact FollowsO.ite (FollowsO.next fo) (FollowsO.next (State.pwrRecord_follows (State.addReg_follows (State.setG_follows (State.beginAlert_follows fo)))))

theorem execPwrAlertRelease_follows {pre : State} {s : State} (fo : Follows pre s) : FollowsO pre (execPwrAlertRelease s) := by
  unfold execPwrAlertRelease
  exact FollowsO.ite (FollowsO.next (State.holdAlert_follows (State.setG_follows fo))) (FollowsO.next fo)

theorem execAlertHoldExpiry_follows {pre : State} {s : State} (fo : Follows pre s) : FollowsO pre (execAlertHoldExpiry s) := by
  unfold execAlertHoldExpiry
  exact FollowsO.next (Follows.ite (State.endAlert_follows fo) fo)

theorem execInternalAlert_follows {pre : State} {pinW : Fin 65536} {excursion : Bool} {s : State} (fo : Follows pre s) : FollowsO pre (execInternalAlert pinW excursion s) := by
  unfold execInternalAlert
  apply FollowsO.ite
  · exact FollowsO.next fo
  · extract_lets s1 s2 s3
    have h1 : Follows pre s1 := State.beginAlert_follows (State.setG_follows fo)
    clear_value s1
    have h2 : Follows pre s3 := h1.same (Eq.refl _) h1.mem (Eq.refl _) (Eq.refl _) (Eq.refl _) (Eq.refl _)
    clear_value s3
    exact FollowsO.next (State.pwrRecord_follows (State.setG_follows h2))

theorem State.allReactive_follows {pre : State} {s : State} (fo : Follows pre s) : Follows pre s.allReactive := by
  unfold State.allReactive
  apply foldl_follows
  · intro x1 x2 h1
    exact Follows.ite (State.updPart_follows (State.setG_follows (State.setG_follows h1))) h1
  · exact fo

theorem execInternalAlertRelease_follows {pre : State} {pinW : Fin 65536} {s : State} (fo : Follows pre s) : FollowsO pre (execInternalAlertRelease pinW s) := by
  unfold execInternalAlertRelease
  apply FollowsO.ite
  · extract_lets s1 s2
    have h1 : Follows pre s1 := State.setG_follows fo
    clear_value s1
    apply FollowsO.next
    apply State.holdAlert_follows
    apply State.allReactive_follows
    exact h1.same (Eq.refl _) h1.mem (Eq.refl _) (Eq.refl _) (Eq.refl _) (Eq.refl _)
  · exact FollowsO.next fo

theorem State.judgeSet_follows {pre : State} {s : State} (fo : Follows pre s) {site : Nat} : Follows pre (s.judgeSet site) := by
  unfold State.judgeSet
  extract_lets s1 s2
  have h1 : Follows pre s2 := State.setG_follows fo
  clear_value s2
  exact Follows.ite (State.pwrRecord_follows (State.setG_follows h1)) (State.setG_follows h1)

theorem execAgeingMeasure_follows {pre : State} {site : Site} {slow : Fin 256} {s : State} (fo : Follows pre s) : FollowsO pre (execAgeingMeasure site slow s) := by
  unfold execAgeingMeasure
  extract_lets s1 s2
  apply FollowsO.next
  apply State.judgeSet_follows
  exact fo.same (Eq.refl _) fo.mem (Eq.refl _) (Eq.refl _) (Eq.refl _) (Eq.refl _)

/-! ### Operations that leave memory alone -/

theorem State.slowWakes_memSame {pre : State} {s : State} (fo : MemSame pre s) {site : Nat} : MemSame pre (s.slowWakes site) := by
  unfold State.slowWakes
  extract_lets s1 s2 s3
  have h1 : MemSame pre s3 := fo.same (Eq.refl _)
  clear_value s3
  apply foldl_memSame
  · intro x1 x2 h2
    exact State.pwrRecord_memSame h2
  · exact h1

theorem execTransitRegulatorFault_memSame {pre : State} {site : Site} {s : State} (fo : MemSame pre s) : MemSameO pre (execTransitRegulatorFault site s) := by
  unfold execTransitRegulatorFault
  apply MemSameO.ite
  · exact MemSameO.next fo
  · apply MemSameO.next
    apply State.pwrRecord_memSame
    exact fo.same (Eq.refl _)

theorem execSpillwayBoost_memSame {pre : State} {tile : Tile} {mv : Fin 1024} {s : State} (fo : MemSame pre s) : MemSameO pre (execSpillwayBoost tile mv s) := by
  unfold execSpillwayBoost
  extract_lets s1 s2
  apply MemSameO.ite
  · apply MemSameO.next
    apply State.emit_memSame
    apply State.setG_memSame
    exact fo.same (Eq.refl _)
  · exact MemSameO.next fo

theorem execSpillwayShunt_memSame {pre : State} {tile : Tile} {mv : Fin 1024} {s : State} (fo : MemSame pre s) : MemSameO pre (execSpillwayShunt tile mv s) := by
  unfold execSpillwayShunt
  extract_lets s1
  exact MemSameO.ite (MemSameO.next (State.emit_memSame fo)) (MemSameO.next fo)

theorem execSpillwayReservoirRecharged_memSame {pre : State} {quad : Quad} {s : State} (fo : MemSame pre s) : MemSameO pre (execSpillwayReservoirRecharged quad s) := by
  unfold execSpillwayReservoirRecharged
  extract_lets s1 s2 s3
  have h1 : MemSame pre s3 := fo.same (Eq.refl _)
  clear_value s3
  exact MemSameO.next (State.setG_memSame h1)

theorem execClockStretchStart_memSame {pre : State} {tile : Tile} {mv : Fin 1024} {s : State} (fo : MemSame pre s) : MemSameO pre (execClockStretchStart tile mv s) := by
  unfold execClockStretchStart
  apply MemSameO.ite
  · apply MemSameO.next
    exact fo.same (Eq.refl _)
  · exact MemSameO.next fo

theorem execClockStretchEnd_memSame {pre : State} {region : Region} {below : Fin 1024} {s : State} (fo : MemSame pre s) : MemSameO pre (execClockStretchEnd region below s) := by
  unfold execClockStretchEnd
  apply MemSameO.ite
  · apply MemSameO.next
    exact fo.same (Eq.refl _)
  · exact MemSameO.next fo

theorem State.senseAt_memSame {pre : State} {s : State} (fo : MemSame pre s) {site : Nat} {point : Nat} {mv : Nat} {at_ : Nat} : MemSame pre (State.senseAt s site point mv at_) := by
  unfold State.senseAt
  extract_lets s1 s2 s3
  exact MemSame.ite (fo.same (Eq.refl _)) fo

theorem State.sense_memSame {pre : State} {s : State} (fo : MemSame pre s) {site : Nat} {point : Nat} {mv : Nat} : MemSame pre (State.sense s site point mv) := by
  unfold State.sense
  exact State.senseAt_memSame fo

theorem execDeepDroop_memSame {pre : State} {site : Site} {point : Fin 4} {mv : Fin 1024} {s : State} (fo : MemSame pre s) : MemSameO pre (execDeepDroop site point mv s) := by
  unfold execDeepDroop
  extract_lets s1 s2 s3
  have h1 : MemSame pre s1 := State.sense_memSame fo
  clear_value s1
  have h2 : MemSame pre s2 := State.pwrRecord_memSame (State.setG_memSame h1)
  clear_value s2
  apply MemSameO.ite
  · apply MemSameO.next
    exact h2.same (Eq.refl _)
  · exact MemSameO.next h1

theorem State.clearVmin_memSame {pre : State} {s : State} (fo : MemSame pre s) : MemSame pre s.clearVmin := by
  unfold State.clearVmin
  exact fo.same (Eq.refl _)

theorem execVminClear_memSame {pre : State} {path : Path} {s : State} (fo : MemSame pre s) : MemSameO pre (execVminClear path s) := by
  unfold execVminClear
  apply State.pageWrite_memSame
  · exact fo
  · intro x1 h1
    exact State.clearVmin_memSame h1

theorem State.coolQuad_memSame {pre : State} {s : State} (fo : MemSame pre s) {q : Nat} : MemSame pre (s.coolQuad q) := by
  unfold State.coolQuad
  exact fo.same (Eq.refl _)

theorem State.writeQreq_memSame {pre : State} {s : State} (fo : MemSame pre s) {path : Path} {q : Nat} {r : Nat} : MemSame pre (s.writeQreq path q r) := by
  unfold State.writeQreq
  exact MemSame.ite (State.refuseWrite_memSame fo) (MemSame.ite fo (MemSame.ite (State.refuseStatic_memSame fo) (State.adjustQuad_memSame (State.coolQuad_memSame (State.setG_memSame fo)))))

theorem execQuadrantPowerRequest_memSame {pre : State} {path : Path} {quad : Quad} {request : Fin 4} {s : State} (fo : MemSame pre s) : MemSameO pre (execQuadrantPowerRequest path quad request s) := by
  unfold execQuadrantPowerRequest
  apply State.pageWrite_memSame
  · exact fo
  · intro x1 h1
    exact State.writeQreq_memSame h1

theorem State.scrubTile_memSame {pre : State} {s : State} (fo : MemSame pre s) {t : Nat} : MemSame pre (s.scrubTile t) := by
  unfold State.scrubTile
  apply foldl_memSame
  · intro x1 x2 h1
    exact State.readRow_memSame h1
  · exact fo

theorem State.beginWake_memSame {pre : State} {s : State} (fo : MemSame pre s) {q : Nat} {slow : Bool} : MemSame pre (s.beginWake q slow) := by
  unfold State.beginWake
  extract_lets s1 s2
  have h1 : MemSame pre s2 := fo.same (Eq.refl _)
  clear_value s2
  exact MemSame.ite (State.pwrRecord_memSame h1) h1

theorem State.readAmps_memSame {pre : State} {s : State} (fo : MemSame pre s) {l : List (Site × Fin 65536)} : MemSame pre (s.readAmps l) := by
  unfold State.readAmps
  apply foldl_memSame
  · intro x1 x2 h1
    exact State.setG_memSame h1
  · exact fo

theorem execWakeStart_memSame {pre : State} {quad : Quad} {amps : List (Site × Fin 65536)} {s : State} (fo : MemSame pre s) : MemSameO pre (execWakeStart quad amps s) := by
  unfold execWakeStart
  extract_lets s1 s2
  have h1 : MemSame pre s2 := State.readAmps_memSame fo
  clear_value s2
  split
  · rename_i y1 y2 y3
    exact MemSameO.ite (MemSameO.next h1) (MemSameO.ite (MemSameO.next (State.beginWake_memSame h1)) (MemSameO.ite (MemSameO.next (State.beginWake_memSame h1)) (MemSameO.next h1)))
  · exact MemSameO.next h1

theorem execWakeWaitExpiry_memSame {pre : State} {quad : Quad} {s : State} (fo : MemSame pre s) : MemSameO pre (execWakeWaitExpiry quad s) := by
  unfold execWakeWaitExpiry
  extract_lets s1
  split
  · rename_i y1 y2 y3
    exact MemSameO.ite (MemSameO.next (State.beginWake_memSame fo)) (MemSameO.next fo)
  · exact MemSameO.next fo

theorem execWakeStageAdvance_memSame {pre : State} {quad : Quad} {mv : Fin 1024} {s : State} (fo : MemSame pre s) : MemSameO pre (execWakeStageAdvance quad mv s) := by
  unfold execWakeStageAdvance
  extract_lets s1 s2
  split
  · rename_i y1 y2 y3
    apply MemSameO.ite
    · apply MemSameO.next
      exact fo.same (Eq.refl _)
    · exact MemSameO.next fo
  · exact MemSameO.next fo

theorem State.impairQuad_memSame {pre : State} {s : State} (fo : MemSame pre s) {q : Nat} : MemSame pre (s.impairQuad q) := by
  unfold State.impairQuad
  extract_lets s1 s2
  have h1 : MemSame pre s1 := State.setG_memSame fo
  clear_value s1
  have h2 : MemSame pre s2 := by
    unfold s2
    apply foldl_memSame
    · intro x1 x2 h2
      exact State.setReg_memSame (State.setReg_memSame h2)
    · exact h1
  clear_value s2
  exact State.record_memSame h2

theorem execWakeFail_memSame {pre : State} {quad : Quad} {s : State} (fo : MemSame pre s) : MemSameO pre (execWakeFail quad s) := by
  unfold execWakeFail
  extract_lets s1 s2 s3 s4 s5
  have h1 : MemSame pre s4 := fo.same (Eq.refl _)
  clear_value s4
  have h2 : MemSame pre s5 := State.pwrRecord_memSame h1
  clear_value s5
  split
  · rename_i y1 y2 y3
    exact MemSameO.ite (MemSameO.next (MemSame.ite (State.impairQuad_memSame h2) h2)) (MemSameO.next fo)
  · exact MemSameO.next fo

theorem execWakeRetry_memSame {pre : State} {quad : Quad} {s : State} (fo : MemSame pre s) : MemSameO pre (execWakeRetry quad s) := by
  unfold execWakeRetry
  extract_lets s1 s2
  split
  · rename_i y1 y2 y3
    apply MemSameO.ite
    · apply MemSameO.next
      exact fo.same (Eq.refl _)
    · exact MemSameO.next fo
  · exact MemSameO.next fo

theorem State.reportAnomaly_memSame {pre : State} {s : State} (fo : MemSame pre s) {q : Nat} {phase : Nat} : MemSame pre (s.reportAnomaly q phase) := by
  unfold State.reportAnomaly
  extract_lets s1 s2 s3
  have h1 : MemSame pre s3 := by
    unfold s3
    apply MemSame.ite
    · exact fo
    · apply State.pwrRecord_memSame
      apply State.setG_memSame
      exact fo.same (Eq.refl _)
  clear_value s3
  exact State.setG_memSame h1

theorem State.takeAnomaly_memSame {pre : State} {s : State} (fo : MemSame pre s) {q : Nat} {reading : PathReading} : MemSame pre (State.takeAnomaly s q reading) := by
  unfold State.takeAnomaly
  extract_lets s1 s2 s3
  have h1 : MemSame pre s1 := State.reportAnomaly_memSame fo
  clear_value s1
  have h2 : MemSame pre s3 := h1.same (Eq.refl _)
  clear_value s3
  exact MemSame.ite (State.pwrRecord_memSame (State.refreshSite_memSame h2)) h1

theorem execSupplyAnomaly_memSame {pre : State} {quad : Quad} {reading : PathReading} {s : State} (fo : MemSame pre s) : MemSameO pre (execSupplyAnomaly quad reading s) := by
  unfold execSupplyAnomaly
  exact MemSameO.next (MemSame.ite (State.takeAnomaly_memSame fo) fo)

theorem State.predictive_memSame {pre : State} {s : State} (fo : MemSame pre s) {p : Nat} : MemSame pre (s.predictive p) := by
  unfold State.predictive
  exact State.updPart_memSame (State.setG_memSame fo)

theorem execPwrReactiveClear_memSame {pre : State} {path : Path} {part : Part} {s : State} (fo : MemSame pre s) : MemSameO pre (execPwrReactiveClear path part s) := by
  unfold execPwrReactiveClear
  apply State.pageWrite_memSame
  · exact fo
  · intro x1 h1
    exact State.predictive_memSame h1

theorem execPwrAlertAssert_memSame {pre : State} {s : State} (fo : MemSame pre s) : MemSameO pre (execPwrAlertAssert s) := by
  unfold execPwrAlertAssert
  exact MemSameO.ite (MemSameO.next fo) (MemSameO.next (State.pwrRecord_memSame (State.addReg_memSame (State.setG_memSame (State.beginAlert_memSame fo)))))

theorem execPwrAlertRelease_memSame {pre : State} {s : State} (fo : MemSame pre s) : MemSameO pre (execPwrAlertRelease s) := by
  unfold execPwrAlertRelease
  exact MemSameO.ite (MemSameO.next (State.holdAlert_memSame (State.setG_memSame fo))) (MemSameO.next fo)

theorem execAlertHoldExpiry_memSame {pre : State} {s : State} (fo : MemSame pre s) : MemSameO pre (execAlertHoldExpiry s) := by
  unfold execAlertHoldExpiry
  exact MemSameO.next (MemSame.ite (State.endAlert_memSame fo) fo)

theorem execInternalAlert_memSame {pre : State} {pinW : Fin 65536} {excursion : Bool} {s : State} (fo : MemSame pre s) : MemSameO pre (execInternalAlert pinW excursion s) := by
  unfold execInternalAlert
  apply MemSameO.ite
  · exact MemSameO.next fo
  · extract_lets s1 s2 s3
    have h1 : MemSame pre s1 := State.beginAlert_memSame (State.setG_memSame fo)
    clear_value s1
    have h2 : MemSame pre s3 := h1.same (Eq.refl _)
    clear_value s3
    exact MemSameO.next (State.pwrRecord_memSame (State.setG_memSame h2))

theorem State.allReactive_memSame {pre : State} {s : State} (fo : MemSame pre s) : MemSame pre s.allReactive := by
  unfold State.allReactive
  apply foldl_memSame
  · intro x1 x2 h1
    exact MemSame.ite (State.updPart_memSame (State.setG_memSame (State.setG_memSame h1))) h1
  · exact fo

theorem execInternalAlertRelease_memSame {pre : State} {pinW : Fin 65536} {s : State} (fo : MemSame pre s) : MemSameO pre (execInternalAlertRelease pinW s) := by
  unfold execInternalAlertRelease
  apply MemSameO.ite
  · extract_lets s1 s2
    have h1 : MemSame pre s1 := State.setG_memSame fo
    clear_value s1
    apply MemSameO.next
    apply State.holdAlert_memSame
    apply State.allReactive_memSame
    exact h1.same (Eq.refl _)
  · exact MemSameO.next fo

theorem State.judgeSet_memSame {pre : State} {s : State} (fo : MemSame pre s) {site : Nat} : MemSame pre (s.judgeSet site) := by
  unfold State.judgeSet
  extract_lets s1 s2
  have h1 : MemSame pre s2 := State.setG_memSame fo
  clear_value s2
  exact MemSame.ite (State.pwrRecord_memSame (State.setG_memSame h1)) (State.setG_memSame h1)

theorem execAgeingMeasure_memSame {pre : State} {site : Site} {slow : Fin 256} {s : State} (fo : MemSame pre s) : MemSameO pre (execAgeingMeasure site slow s) := by
  unfold execAgeingMeasure
  extract_lets s1 s2
  apply MemSameO.next
  apply State.judgeSet_memSame
  exact fo.same (Eq.refl _)

end Sys2Proof.Machine
end

