-- ==== Sys2Proof/Laws/Requests.lean ====
section
/-! SUPPORT. What the operations of Machine/Requests.lean keep: one lemma for each, by the lemmas of those that it calls. -/

namespace Sys2Proof.Machine

open Sys2Proof

theorem State.reqWrite_follows {pre : State} {s : State} (fo : Follows pre s) {path : Path} {r : Nat} {act : State → State} (foact : ∀ (a : State), Follows pre a → Follows pre (act a)) : FollowsO pre (s.reqWrite path r act) := by
  unfold State.reqWrite
  apply FollowsO.ite
  · exact FollowsO.next fo
  · split
    · rename_i y1 y2
      apply FollowsO.ite
      · exact FollowsO.next (State.refuseWrite_follows fo)
      · apply FollowsO.ite
        · apply FollowsO.next
          apply foact
          · exact fo
        · exact FollowsO.next (State.discardWrite_follows fo)
    · apply FollowsO.ite
      · apply FollowsO.next
        apply foact
        · exact fo
      · exact FollowsO.next (State.refuseWrite_follows fo)
    · exact FollowsO.next fo

theorem State.refuseState_follows {pre : State} {s : State} (fo : Follows pre s) {path : Path} {r : Nat} : Follows pre (s.refuseState path r) := by
  unfold State.refuseState
  exact State.record_follows (State.setG_follows (State.addReg_follows fo))

theorem State.refuseLocked_follows {pre : State} {s : State} (fo : Follows pre s) {path : Path} {r : Nat} : Follows pre (s.refuseLocked path r) := by
  unfold State.refuseLocked
  exact State.record_follows (State.addReg_follows fo)

theorem State.writeField_follows {pre : State} {s : State} (fo : Follows pre s) {path : Path} {r : Nat} {k : Nat} {v : Nat} : Follows pre (s.writeField path r k v) := by
  unfold State.writeField
  extract_lets s1
  exact Follows.ite (State.refuseState_follows fo) (Follows.ite (State.updReq_follows fo) (State.refuseLocked_follows fo))

theorem execRequestFieldWrite_follows {pre : State} {path : Path} {req : Req} {word : Fin 12} {value : Word32} {s : State} (fo : Follows pre s) : FollowsO pre (execRequestFieldWrite path req word value s) := by
  unfold execRequestFieldWrite
  apply State.reqWrite_follows
  · exact fo
  · intro x1 h1
    exact State.writeField_follows h1

theorem State.stateWrite_follows {pre : State} {s : State} (fo : Follows pre s) {path : Path} {r : Nat} {ok : ReqSt → Bool} {act : State → State} (foact : ∀ (a : State), Follows pre a → Follows pre (act a)) : Follows pre (s.stateWrite path r ok act) := by
  unfold State.stateWrite
  apply Follows.ite
  · apply foact
    · exact fo
  · exact State.refuseState_follows fo

theorem State.noteCmd_follows {pre : State} {s : State} (fo : Follows pre s) {fn : Nat} {r : Nat} {c : Nat} : Follows pre (State.noteCmd s fn r c) := by
  unfold State.noteCmd
  exact State.updReq_follows fo

theorem State.submit_follows {pre : State} {s : State} (fo : Follows pre s) {r : Nat} {gen : Nat} : Follows pre (s.submit r gen) := by
  unfold State.submit
  apply State.setReq_follows
  exact fo.same (Eq.refl _) fo.mem (Eq.refl _) (Eq.refl _) (Eq.refl _) (Eq.refl _)

theorem State.writeSubmit_follows {pre : State} {s : State} (fo : Follows pre s) {path : Path} {r : Nat} {gen : Nat} : Follows pre (State.writeSubmit s path r gen) := by
  unfold State.writeSubmit
  apply State.stateWrite_follows
  · exact fo
  · intro x1 h1
    exact State.submit_follows h1

theorem State.writeFree_follows {pre : State} {s : State} (fo : Follows pre s) {path : Path} {r : Nat} {gen : Nat} : Follows pre (State.writeFree s path r gen) := by
  unfold State.writeFree
  apply State.stateWrite_follows
  · exact fo
  · intro x1 h1
    exact State.setReq_follows h1

theorem State.writeCancel_follows {pre : State} {s : State} (fo : Follows pre s) {path : Path} {r : Nat} {gen : Nat} : Follows pre (State.writeCancel s path r gen) := by
  unfold State.writeCancel
  apply State.stateWrite_follows
  · exact fo
  · intro x1 h1
    exact State.noteCmd_follows h1

theorem State.writePause_follows {pre : State} {s : State} (fo : Follows pre s) {path : Path} {r : Nat} {gen : Nat} : Follows pre (State.writePause s path r gen) := by
  unfold State.writePause
  apply State.stateWrite_follows
  · exact fo
  · intro x1 h1
    exact State.noteCmd_follows h1

theorem State.writeResume_follows {pre : State} {s : State} (fo : Follows pre s) {path : Path} {r : Nat} {gen : Nat} : Follows pre (State.writeResume s path r gen) := by
  unfold State.writeResume
  apply State.stateWrite_follows
  · exact fo
  · intro x1 h1
    exact State.noteCmd_follows h1

theorem execSubmit_follows {pre : State} {path : Path} {req : Req} {gen : Fin 256} {s : State} (fo : Follows pre s) : FollowsO pre (execSubmit path req gen s) := by
  unfold execSubmit
  apply State.reqWrite_follows
  · exact fo
  · intro x1 h1
    apply State.stateWrite_follows
    · exact h1
    · intro x2 h2
      exact State.submit_follows h2

theorem execFree_follows {pre : State} {path : Path} {req : Req} {gen : Fin 256} {s : State} (fo : Follows pre s) : FollowsO pre (execFree path req gen s) := by
  unfold execFree
  apply State.reqWrite_follows
  · exact fo
  · intro x1 h1
    apply State.stateWrite_follows
    · exact h1
    · intro x2 h2
      exact State.setReq_follows h2

theorem execCancel_follows {pre : State} {path : Path} {req : Req} {gen : Fin 256} {s : State} (fo : Follows pre s) : FollowsO pre (execCancel path req gen s) := by
  unfold execCancel
  apply State.reqWrite_follows
  · exact fo
  · intro x1 h1
    apply State.stateWrite_follows
    · exact h1
    · intro x2 h2
      exact State.noteCmd_follows h2

theorem execPause_follows {pre : State} {path : Path} {req : Req} {gen : Fin 256} {s : State} (fo : Follows pre s) : FollowsO pre (execPause path req gen s) := by
  unfold execPause
  apply State.reqWrite_follows
  · exact fo
  · intro x1 h1
    apply State.stateWrite_follows
    · exact h1
    · intro x2 h2
      exact State.noteCmd_follows h2

theorem execResume_follows {pre : State} {path : Path} {req : Req} {gen : Fin 256} {s : State} (fo : Follows pre s) : FollowsO pre (execResume path req gen s) := by
  unfold execResume
  apply State.reqWrite_follows
  · exact fo
  · intro x1 h1
    apply State.stateWrite_follows
    · exact h1
    · intro x2 h2
      exact State.noteCmd_follows h2

theorem State.writeState_follows {pre : State} {s : State} (fo : Follows pre s) {path : Path} {r : Nat} {w : Nat} : Follows pre (State.writeState s path r w) := by
  unfold State.writeState
  extract_lets s1
  split
  · exact Follows.ite (State.writeSubmit_follows fo) (Follows.ite (State.writeFree_follows fo) (State.refuseState_follows fo))
  · exact State.writeCancel_follows fo
  · exact State.writePause_follows fo
  · exact State.writeResume_follows fo
  · exact State.refuseState_follows fo

theorem State.writeEntryWord_follows {pre : State} {s : State} (fo : Follows pre s) {path : Path} {r : Nat} {k : Nat} {w : Nat} : Follows pre (State.writeEntryWord s path r k w) := by
  unfold State.writeEntryWord
  exact Follows.ite (State.writeState_follows fo) (Follows.ite (State.writeField_follows fo) fo)

theorem State.bar2Store_follows {pre : State} {s : State} (fo : Follows pre s) {p : Path} {off : Nat} {full : Bool} {w : Nat} : Follows pre (State.bar2Store s p off full w) := by
  unfold State.bar2Store
  apply Follows.ite
  · exact State.addReg_follows fo
  · split
    · exact Follows.ite (State.writeEntryWord_follows fo) (State.refuseWrite_follows fo)
    · exact State.addReg_follows fo

theorem execStewardEntryScan_follows {pre : State} {req : Req} {s : State} (fo : Follows pre s) : FollowsO pre (execStewardEntryScan req s) := by
  unfold execStewardEntryScan
  apply FollowsO.ite
  · exact FollowsO.next fo
  · extract_lets s1 s2
    split
    · exact FollowsO.next fo
    · exact FollowsO.ite (FollowsO.next (State.journalAcc_follows (State.updReq_follows (State.reqEvents_follows fo)))) (FollowsO.next fo)

theorem execTranscriptReserve_follows {pre : State} {req : Req} {s : State} (fo : Follows pre s) : FollowsO pre (execTranscriptReserve req s) := by
  unfold execTranscriptReserve
  apply FollowsO.ite
  · exact FollowsO.next fo
  · extract_lets s1 s2
    split
    · exact FollowsO.next fo
    · exact FollowsO.ite (FollowsO.next (State.reserve_follows fo)) (FollowsO.next fo)

theorem execPromptReadDone_follows {pre : State} {req : Req} {data : Option (List (Fin 1048576))} {s : State} (fo : Follows pre s) : FollowsO pre (execPromptReadDone req data s) := by
  unfold execPromptReadDone
  apply FollowsO.ite
  · exact FollowsO.next fo
  · extract_lets s1
    split
    · exact FollowsO.next fo
    · rename_i y3 y4 y5
      apply FollowsO.ite
      · exact FollowsO.next fo
      · split
        · exact FollowsO.next (State.updReq_follows fo)
        · exact FollowsO.ite (FollowsO.next (State.updReq_follows (State.appendToks_follows fo))) (FollowsO.next fo)

theorem execJournalAck_follows {pre : State} {part : Part} {s : State} (fo : Follows pre s) : FollowsO pre (execJournalAck part s) := by
  unfold execJournalAck
  exact FollowsO.next (Follows.ite (State.journalDone_follows fo) fo)

theorem execRingQueueDrain_follows {pre : State} {part : Part} {s : State} (fo : Follows pre s) : FollowsO pre (execRingQueueDrain part s) := by
  unfold execRingQueueDrain
  exact FollowsO.next (Follows.ite (State.drainQueue_follows fo) fo)

theorem execModerationTimer_follows {pre : State} {part : Part} {s : State} (fo : Follows pre s) : FollowsO pre (execModerationTimer part s) := by
  unfold execModerationTimer
  exact FollowsO.next (Follows.ite (State.modCheck_follows fo) fo)

theorem State.writeMod_follows {pre : State} {s : State} (fo : Follows pre s) {path : Path} {p : Nat} {time : Nat} {count : Nat} : Follows pre (s.writeMod path p time count) := by
  unfold State.writeMod
  exact Follows.ite (State.modCheck_follows (State.refuseWrite_follows (State.setG_follows fo))) (State.modCheck_follows (State.setG_follows (State.setG_follows fo)))

theorem execStwModWrite_follows {pre : State} {path : Path} {part : Part} {time : Fin 65536} {count : Fin 65536} {s : State} (fo : Follows pre s) : FollowsO pre (execStwModWrite path part time count s) := by
  unfold execStwModWrite
  apply State.pageWrite_follows
  · exact fo
  · intro x1 h1
    exact State.writeMod_follows h1

theorem State.enableRing_follows {pre : State} {s : State} (fo : Follows pre s) {path : Path} {p : Nat} : Follows pre (s.enableRing path p) := by
  unfold State.enableRing
  exact Follows.ite fo (Follows.ite (State.refuseStatic_follows fo) (State.drainQueue_follows (State.setG_follows (State.setG_follows (State.setG_follows fo)))))

theorem execRingEnable_follows {pre : State} {path : Path} {part : Part} {s : State} (fo : Follows pre s) : FollowsO pre (execRingEnable path part s) := by
  unfold execRingEnable
  apply State.pageWrite_follows
  · exact fo
  · intro x1 h1
    exact State.enableRing_follows h1

/-! ### Operations that leave memory alone -/

theorem State.reqWrite_memSame {pre : State} {s : State} (fo : MemSame pre s) {path : Path} {r : Nat} {act : State → State} (foact : ∀ (a : State), MemSame pre a → MemSame pre (act a)) : MemSameO pre (s.reqWrite path r act) := by
  unfold State.reqWrite
  apply MemSameO.ite
  · exact MemSameO.next fo
  · split
    · rename_i y1 y2
      apply MemSameO.ite
      · exact MemSameO.next (State.refuseWrite_memSame fo)
      · apply MemSameO.ite
        · apply MemSameO.next
          apply foact
          · exact fo
        · exact MemSameO.next (State.discardWrite_memSame fo)
    · apply MemSameO.ite
      · apply MemSameO.next
        apply foact
        · exact fo
      · exact MemSameO.next (State.refuseWrite_memSame fo)
    · exact MemSameO.next fo

theorem State.refuseState_memSame {pre : State} {s : State} (fo : MemSame pre s) {path : Path} {r : Nat} : MemSame pre (s.refuseState path r) := by
  unfold State.refuseState
  exact State.record_memSame (State.setG_memSame (State.addReg_memSame fo))

theorem State.refuseLocked_memSame {pre : State} {s : State} (fo : MemSame pre s) {path : Path} {r : Nat} : MemSame pre (s.refuseLocked path r) := by
  unfold State.refuseLocked
  exact State.record_memSame (State.addReg_memSame fo)

theorem State.writeField_memSame {pre : State} {s : State} (fo : MemSame pre s) {path : Path} {r : Nat} {k : Nat} {v : Nat} : MemSame pre (s.writeField path r k v) := by
  unfold State.writeField
  extract_lets s1
  exact MemSame.ite (State.refuseState_memSame fo) (MemSame.ite (State.updReq_memSame fo) (State.refuseLocked_memSame fo))

theorem execRequestFieldWrite_memSame {pre : State} {path : Path} {req : Req} {word : Fin 12} {value : Word32} {s : State} (fo : MemSame pre s) : MemSameO pre (execRequestFieldWrite path req word value s) := by
  unfold execRequestFieldWrite
  apply State.reqWrite_memSame
  · exact fo
  · intro x1 h1
    exact State.writeField_memSame h1

theorem State.stateWrite_memSame {pre : State} {s : State} (fo : MemSame pre s) {path : Path} {r : Nat} {ok : ReqSt → Bool} {act : State → State} (foact : ∀ (a : State), MemSame pre a → MemSame pre (act a)) : MemSame pre (s.stateWrite path r ok act) := by
  unfold State.stateWrite
  apply MemSame.ite
  · apply foact
    · exact fo
  · exact State.refuseState_memSame fo

theorem State.noteCmd_memSame {pre : State} {s : State} (fo : MemSame pre s) {fn : Nat} {r : Nat} {c : Nat} : MemSame pre (State.noteCmd s fn r c) := by
  unfold State.noteCmd
  exact State.updReq_memSame fo

theorem State.submit_memSame {pre : State} {s : State} (fo : MemSame pre s) {r : Nat} {gen : Nat} : MemSame pre (s.submit r gen) := by
  unfold State.submit
  apply State.setReq_memSame
  exact fo.same (Eq.refl _)

theorem execSubmit_memSame {pre : State} {path : Path} {req : Req} {gen : Fin 256} {s : State} (fo : MemSame pre s) : MemSameO pre (execSubmit path req gen s) := by
  unfold execSubmit
  apply State.reqWrite_memSame
  · exact fo
  · intro x1 h1
    apply State.stateWrite_memSame
    · exact h1
    · intro x2 h2
      exact State.submit_memSame h2

theorem execFree_memSame {pre : State} {path : Path} {req : Req} {gen : Fin 256} {s : State} (fo : MemSame pre s) : MemSameO pre (execFree path req gen s) := by
  unfold execFree
  apply State.reqWrite_memSame
  · exact fo
  · intro x1 h1
    apply State.stateWrite_memSame
    · exact h1
    · intro x2 h2
      exact State.setReq_memSame h2

theorem execCancel_memSame {pre : State} {path : Path} {req : Req} {gen : Fin 256} {s : State} (fo : MemSame pre s) : MemSameO pre (execCancel path req gen s) := by
  unfold execCancel
  apply State.reqWrite_memSame
  · exact fo
  · intro x1 h1
    apply State.stateWrite_memSame
    · exact h1
    · intro x2 h2
      exact State.noteCmd_memSame h2

theorem execPause_memSame {pre : State} {path : Path} {req : Req} {gen : Fin 256} {s : State} (fo : MemSame pre s) : MemSameO pre (execPause path req gen s) := by
  unfold execPause
  apply State.reqWrite_memSame
  · exact fo
  · intro x1 h1
    apply State.stateWrite_memSame
    · exact h1
    · intro x2 h2
      exact State.noteCmd_memSame h2

theorem execResume_memSame {pre : State} {path : Path} {req : Req} {gen : Fin 256} {s : State} (fo : MemSame pre s) : MemSameO pre (execResume path req gen s) := by
  unfold execResume
  apply State.reqWrite_memSame
  · exact fo
  · intro x1 h1
    apply State.stateWrite_memSame
    · exact h1
    · intro x2 h2
      exact State.noteCmd_memSame h2

theorem execStewardEntryScan_memSame {pre : State} {req : Req} {s : State} (fo : MemSame pre s) : MemSameO pre (execStewardEntryScan req s) := by
  unfold execStewardEntryScan
  apply MemSameO.ite
  · exact MemSameO.next fo
  · extract_lets s1 s2
    split
    · exact MemSameO.next fo
    · exact MemSameO.ite (MemSameO.next (State.journalAcc_memSame (State.updReq_memSame (State.reqEvents_memSame fo)))) (MemSameO.next fo)

theorem execTranscriptReserve_memSame {pre : State} {req : Req} {s : State} (fo : MemSame pre s) : MemSameO pre (execTranscriptReserve req s) := by
  unfold execTranscriptReserve
  apply MemSameO.ite
  · exact MemSameO.next fo
  · extract_lets s1 s2
    split
    · exact MemSameO.next fo
    · exact MemSameO.ite (MemSameO.next (State.reserve_memSame fo)) (MemSameO.next fo)

theorem execModerationTimer_memSame {pre : State} {part : Part} {s : State} (fo : MemSame pre s) : MemSameO pre (execModerationTimer part s) := by
  unfold execModerationTimer
  exact MemSameO.next (MemSame.ite (State.modCheck_memSame fo) fo)

theorem State.writeMod_memSame {pre : State} {s : State} (fo : MemSame pre s) {path : Path} {p : Nat} {time : Nat} {count : Nat} : MemSame pre (s.writeMod path p time count) := by
  unfold State.writeMod
  exact MemSame.ite (State.modCheck_memSame (State.refuseWrite_memSame (State.setG_memSame fo))) (State.modCheck_memSame (State.setG_memSame (State.setG_memSame fo)))

theorem execStwModWrite_memSame {pre : State} {path : Path} {part : Part} {time : Fin 65536} {count : Fin 65536} {s : State} (fo : MemSame pre s) : MemSameO pre (execStwModWrite path part time count s) := by
  unfold execStwModWrite
  apply State.pageWrite_memSame
  · exact fo
  · intro x1 h1
    exact State.writeMod_memSame h1

end Sys2Proof.Machine
end

