-- ==== Sys2Proof/Laws/Parcels.lean ====
section
/-! SUPPORT. What the operations of Machine/Parcels.lean keep: one lemma for each, by the lemmas of those that it calls. -/

namespace Sys2Proof.Machine

open Sys2Proof

theorem State.readPage_follows {pre : State} {s : State} (fo : Follows pre s) {n : Nat} : Follows pre (State.readPage s n) := by
  unfold State.readPage
  apply foldl_follows
  · intro x1 x2 h1
    exact State.readWords_follows h1
  · exact fo

theorem State.writeParcel_follows {pre : State} {s : State} (fo : Follows pre s) {p : Nat} {r : Nat} {spill : Bool} {off : Nat} : Follows pre (s.writeParcel p r spill off) := by
  unfold State.writeParcel
  extract_lets s1 s2 s3 s4 s5 s6 s7
  have h0 : Follows pre s2 := foldl_follows (fun _ _ h => State.readPage_follows h) fo
  clear_value s2
  have h1 : MemOk pre s6 := MemOk.ite (MemOk.writeBytes (Follows.memOk h0)) (Follows.memOk h0)
  clear_value s6
  have h2 : MemOk pre s7 := MemOk.foldl (fun _ _ h => MemOk.copy h) h1
  clear_value s7
  exact State.updReq_follows (State.freeReqPages_follows (State.setMem_follows h0 h2))

theorem execParcelWrite_follows {pre : State} {req : Req} {s : State} (fo : Follows pre s) : FollowsO pre (execParcelWrite req s) := by
  unfold execParcelWrite
  apply FollowsO.ite
  · exact FollowsO.next fo
  · extract_lets s1
    split
    · exact FollowsO.next fo
    · rename_i y3 y4 y5
      apply FollowsO.ite
      · split
        · exact FollowsO.next (State.writeParcel_follows fo)
        · exact FollowsO.next fo
      · exact FollowsO.next fo

theorem execRotateExpiry_follows {pre : State} {req : Req} {s : State} (fo : Follows pre s) : FollowsO pre (execRotateExpiry req s) := by
  unfold execRotateExpiry
  apply FollowsO.ite
  · exact FollowsO.next fo
  · extract_lets s1 s2
    split
    · exact FollowsO.next fo
    · rename_i y3 y4 y5
      extract_lets s3
      exact FollowsO.ite (FollowsO.next (State.updReq_follows fo)) (FollowsO.next fo)

theorem State.extendTr_follows {pre : State} {s : State} (fo : Follows pre s) {p : Nat} {r : Nat} : FollowsOpt pre (State.extendTr s p r) := by
  unfold State.extendTr
  extract_lets s1 s2 s3
  apply FollowsOpt.ite
  · exact FollowsOpt.some fo
  · split
    · rename_i y1 y2 y3 y4 y5 y6
      extract_lets s4
      apply FollowsOpt.some
      apply State.updReq_follows
      apply State.setMem_follows
      · exact fo
      · apply MemOk.writeBytes
        apply MemOk.writeBytes
        exact Follows.memOk fo
    · exact FollowsOpt.none

theorem State.checkParcel_follows {pre : State} {s : State} (fo : Follows pre s) {p : Nat} {r : Nat} {crcOk : Bool} : Follows pre (State.checkParcel s p r crcOk) := by
  unfold State.checkParcel
  split
  · exact fo
  · rename_i y3 y4 y5
    extract_lets s1 s2 s3
    have h1 : Follows pre s3 := State.updReq_follows fo
    clear_value s3
    exact Follows.ite fo (State.record_follows h1)

theorem State.returnReq_follows {pre : State} {s : State} (fo : Follows pre s) {p : Nat} {r : Nat} {toks : List Nat} : Follows pre (s.returnReq p r toks) := by
  unfold State.returnReq
  extract_lets s1 s2 s3 s4 s5 s6 s7 s8
  have h1 : Follows pre s3 := FollowsOpt.getD (State.extendTr_follows fo) fo
  clear_value s3
  have h2 : Follows pre s5 := Follows.ite (State.appendToks_follows h1) h1
  clear_value s5
  have h3 : Follows pre s6 := State.updReq_follows (State.allocPages_follows h2)
  clear_value s6
  have h4 : Follows pre s8 := by
    unfold s8
    apply State.updReq_follows
    exact h3.same (Eq.refl _) h3.mem (Eq.refl _) (Eq.refl _) (Eq.refl _) (Eq.refl _)
  clear_value s8
  exact State.journalAcc_follows (State.pushRec_follows h4)

theorem execResumeReady_follows {pre : State} {req : Req} {data : Option (List (Fin 1048576))} {parcelOk : Bool} {s : State} (fo : Follows pre s) : FollowsO pre (execResumeReady req data parcelOk s) := by
  unfold execResumeReady
  apply FollowsO.ite
  · exact FollowsO.next fo
  · extract_lets s1 s2
    split
    · exact FollowsO.next fo
    · rename_i y3 y4 y5
      apply FollowsO.ite
      · apply FollowsO.ite
        · exact FollowsO.next (State.returnReq_follows (State.checkParcel_follows fo))
        · split
          · exact FollowsO.next (State.journalAcc_follows (State.failReq_follows (State.setG_follows fo)))
          · exact FollowsO.ite (FollowsO.next (State.returnReq_follows (State.checkParcel_follows fo))) (FollowsO.next fo)
      · exact FollowsO.next fo

theorem execParcelReturnDone_follows {pre : State} {req : Req} {s : State} (fo : Follows pre s) : FollowsO pre (execParcelReturnDone req s) := by
  unfold execParcelReturnDone
  apply FollowsO.ite
  · exact FollowsO.next fo
  · extract_lets s1
    exact FollowsO.ite (FollowsO.next (State.updReq_follows fo)) (FollowsO.next fo)

theorem execParcelTtlExpiry_follows {pre : State} {req : Req} {s : State} (fo : Follows pre s) : FollowsO pre (execParcelTtlExpiry req s) := by
  unfold execParcelTtlExpiry
  apply FollowsO.ite
  · exact FollowsO.next fo
  · extract_lets s1 s2
    split
    · exact FollowsO.next fo
    · exact FollowsO.ite (FollowsO.next (State.journalAcc_follows (State.failReq_follows fo))) (FollowsO.next fo)

theorem execHardDeadline_follows {pre : State} {req : Req} {s : State} (fo : Follows pre s) : FollowsO pre (execHardDeadline req s) := by
  unfold execHardDeadline
  apply FollowsO.ite
  · exact FollowsO.next fo
  · extract_lets s1 s2
    split
    · exact FollowsO.next fo
    · exact FollowsO.ite (FollowsO.next (State.journalAcc_follows (State.failReq_follows fo))) (FollowsO.next fo)

/-! ### Operations that leave memory alone -/

theorem execRotateExpiry_memSame {pre : State} {req : Req} {s : State} (fo : MemSame pre s) : MemSameO pre (execRotateExpiry req s) := by
  unfold execRotateExpiry
  apply MemSameO.ite
  · exact MemSameO.next fo
  · extract_lets s1 s2
    split
    · exact MemSameO.next fo
    · rename_i y3 y4 y5
      extract_lets s3
      exact MemSameO.ite (MemSameO.next (State.updReq_memSame fo)) (MemSameO.next fo)

theorem State.checkParcel_memSame {pre : State} {s : State} (fo : MemSame pre s) {p : Nat} {r : Nat} {crcOk : Bool} : MemSame pre (State.checkParcel s p r crcOk) := by
  unfold State.checkParcel
  split
  · exact fo
  · rename_i y3 y4 y5
    extract_lets s1 s2 s3
    have h1 : MemSame pre s3 := State.updReq_memSame fo
    clear_value s3
    exact MemSame.ite fo (State.record_memSame h1)

theorem execParcelReturnDone_memSame {pre : State} {req : Req} {s : State} (fo : MemSame pre s) : MemSameO pre (execParcelReturnDone req s) := by
  unfold execParcelReturnDone
  apply MemSameO.ite
  · exact MemSameO.next fo
  · extract_lets s1
    exact MemSameO.ite (MemSameO.next (State.updReq_memSame fo)) (MemSameO.next fo)

theorem execParcelTtlExpiry_memSame {pre : State} {req : Req} {s : State} (fo : MemSame pre s) : MemSameO pre (execParcelTtlExpiry req s) := by
  unfold execParcelTtlExpiry
  apply MemSameO.ite
  · exact MemSameO.next fo
  · extract_lets s1 s2
    split
    · exact MemSameO.next fo
    · exact MemSameO.ite (MemSameO.next (State.journalAcc_memSame (State.failReq_memSame fo))) (MemSameO.next fo)

theorem execHardDeadline_memSame {pre : State} {req : Req} {s : State} (fo : MemSame pre s) : MemSameO pre (execHardDeadline req s) := by
  unfold execHardDeadline
  apply MemSameO.ite
  · exact MemSameO.next fo
  · extract_lets s1 s2
    split
    · exact MemSameO.next fo
    · exact MemSameO.ite (MemSameO.next (State.journalAcc_memSame (State.failReq_memSame fo))) (MemSameO.next fo)

end Sys2Proof.Machine
end

