-- ==== Sys2Proof/Laws/Steward.lean ====
section
/-! SUPPORT. What the operations of Machine/Steward.lean keep: one lemma for each, by the lemmas of those that it calls. -/

namespace Sys2Proof.Machine

open Sys2Proof

theorem State.loseStandby_follows {pre : State} {s : State} (fo : Follows pre s) : Follows pre s.loseStandby := by
  unfold State.loseStandby
  exact Follows.ite (State.record_follows (State.setG_follows fo)) fo

theorem State.repeatRecs_follows {pre : State} {s : State} (fo : Follows pre s) {p : Nat} : Follows pre (s.repeatRecs p) := by
  unfold State.repeatRecs
  extract_lets s1
  have h1 : Follows pre s1 := State.updPart_follows fo
  clear_value s1
  apply foldl_follows
  · intro x1 x2 h2
    exact State.journalDone_follows h2
  · exact h1

theorem State.holdRunning_follows {pre : State} {s : State} (fo : Follows pre s) : Follows pre (State.holdRunning s) := by
  unfold State.holdRunning
  apply foldl_follows
  · intro x1 x2 h1
    exact Follows.ite (State.updPart_follows h1) h1
  · exact fo

theorem State.takeOver_follows {pre : State} {s : State} (fo : Follows pre s) : Follows pre (State.takeOver s) := by
  unfold State.takeOver
  split
  · exact fo
  · rename_i y3 y4 y5
    extract_lets s1 s2 s3 s4 s5
    have h1 : Follows pre s1 := State.holdRunning_follows (fo.same (Eq.refl _) fo.mem (Eq.refl _) (Eq.refl _) (Eq.refl _) (Eq.refl _))
    clear_value s1
    have h2 : Follows pre s2 := by
      unfold s2
      apply foldl_follows
      · intro x1 x2 h3
        exact State.repeatRecs_follows h3
      · exact h1
    clear_value s2
    have h4 : Follows pre s3 := State.setG_follows (State.setG_follows h2)
    clear_value s3
    have h5 : Follows pre s5 := State.setG_follows (State.setG_follows h4)
    clear_value s5
    exact State.loseStandby_follows (State.raiseInt_follows (State.record_follows h5))

theorem State.stewardFails_follows {pre : State} {s : State} (fo : Follows pre s) : Follows pre (State.stewardFails s) := by
  unfold State.stewardFails
  exact Follows.ite (State.record_follows (State.raiseInt_follows (State.setG_follows (State.takeOver_follows fo)))) (Follows.ite (State.takeOver_follows fo) (fo.same (Eq.refl _) fo.mem (Eq.refl _) (Eq.refl _) (Eq.refl _) (Eq.refl _)))

theorem execStewardTakeover_follows {pre : State} {s : State} (fo : Follows pre s) : FollowsO pre (execStewardTakeover s) := by
  unfold execStewardTakeover
  exact FollowsO.next (State.stewardFails_follows fo)

theorem State.askSwap_follows {pre : State} {s : State} (fo : Follows pre s) : Follows pre s.askSwap := by
  unfold State.askSwap
  exact fo.same (Eq.refl _) fo.mem (Eq.refl _) (Eq.refl _) (Eq.refl _) (Eq.refl _)

theorem execStewardSwap_follows {pre : State} {path : Path} {s : State} (fo : Follows pre s) : FollowsO pre (execStewardSwap path s) := by
  unfold execStewardSwap
  apply State.pageWrite_follows
  · exact fo
  · intro x1 h1
    exact State.askSwap_follows h1

theorem execStandbyLoss_follows {pre : State} {s : State} (fo : Follows pre s) : FollowsO pre (execStandbyLoss s) := by
  unfold execStandbyLoss
  exact FollowsO.next (State.loseStandby_follows fo)

theorem execStandbyResync_follows {pre : State} {s : State} (fo : Follows pre s) : FollowsO pre (execStandbyResync s) := by
  unfold execStandbyResync
  exact FollowsO.next (Follows.ite (State.setG_follows fo) fo)

theorem State.setPeer_follows {pre : State} {s : State} (fo : Follows pre s) {t : Nat} {d : Nat} {i : Nat} : Follows pre (s.setPeer t d i) := by
  unfold State.setPeer
  extract_lets s1
  exact Follows.ite (State.setMem_follows fo (MemOk.writeLE (Follows.memOk fo))) fo

theorem State.setPeers_follows {pre : State} {s : State} (fo : Follows pre s) {p : Nat} {d : Nat} : Follows pre (s.setPeers p d) := by
  unfold State.setPeers
  apply foldl_follows
  · intro x1 x2 h1
    apply Follows.ite
    · apply foldl_follows
      · intro x3 x4 h2
        exact State.setPeer_follows h2
      · exact h1
    · exact h1
  · exact fo

theorem State.refusePair_follows {pre : State} {s : State} (fo : Follows pre s) {path : Path} {p : Nat} : Follows pre (s.refusePair path p) := by
  unfold State.refusePair
  exact State.record_follows (State.refuseWrite_follows fo)

theorem State.endTwinsOf_follows {pre : State} {s : State} (fo : Follows pre s) {p : Nat} : Follows pre (s.endTwinsOf p) := by
  unfold State.endTwinsOf
  apply foldl_follows
  · intro x1 x2 h1
    exact State.endTwin_follows h1
  · exact fo

theorem State.unpair_follows {pre : State} {s : State} (fo : Follows pre s) {p : Nat} : Follows pre (s.unpair p) := by
  unfold State.unpair
  extract_lets s1
  exact State.setG_follows (State.endTwinsOf_follows (State.endTwinsOf_follows fo))

theorem State.pairing_follows {pre : State} {s : State} (fo : Follows pre s) {path : Path} {p : Nat} {en : Bool} {d : Nat} : Follows pre (s.pairing path p en d) := by
  unfold State.pairing
  extract_lets s1 s2 s3
  have h1 : Follows pre s3 := State.setG_follows (State.setG_follows (Follows.ite (State.unpair_follows fo) fo))
  clear_value s3
  exact Follows.ite fo (Follows.ite (State.refuseStatic_follows fo) (Follows.ite (State.setG_follows (Follows.ite (State.unpair_follows fo) fo)) (Follows.ite (State.licRecord_follows (State.refuseWrite_follows fo)) (Follows.ite (State.refusePair_follows fo) (Follows.ite (State.setPeers_follows (State.setPeers_follows h1)) h1)))))

theorem execPairingWrite_follows {pre : State} {path : Path} {part : Part} {enable : Bool} {peer : Part} {s : State} (fo : Follows pre s) : FollowsO pre (execPairingWrite path part enable peer s) := by
  unfold execPairingWrite
  apply State.ownerWrite_follows
  · exact fo
  · intro x1 h1
    exact State.pairing_follows h1

theorem State.writeSmifort_follows {pre : State} {s : State} (fo : Follows pre s) {path : Path} {p : Nat} {en : Bool} : Follows pre (s.writeSmifort path p en) := by
  unfold State.writeSmifort
  exact Follows.ite fo (Follows.ite (State.refuseStatic_follows fo) (Follows.ite (State.refuseWrite_follows fo) (State.setG_follows fo)))

theorem execSmifortEnable_follows {pre : State} {path : Path} {part : Part} {enable : Bool} {s : State} (fo : Follows pre s) : FollowsO pre (execSmifortEnable path part enable s) := by
  unfold execSmifortEnable
  apply State.ownerWrite_follows
  · exact fo
  · intro x1 h1
    exact State.writeSmifort_follows h1

theorem State.consume_follows {pre : State} {s : State} (fo : Follows pre s) {p : Nat} : Follows pre (s.consume p) := by
  unfold State.consume
  extract_lets s1 s2 s3
  have h1 : Follows pre s3 := State.updPart_follows fo
  clear_value s3
  exact State.emit_follows (State.setMem_follows h1 (MemOk.writeLE (Follows.memOk h1)))

theorem State.refuseS2_follows {pre : State} {s : State} (fo : Follows pre s) {p : Nat} {tag : Nat} : Follows pre (s.refuseS2 p tag) := by
  unfold State.refuseS2
  exact Follows.ite (State.consume_follows (State.ringPut_follows fo)) fo

theorem execSmiSqPoll_follows {pre : State} {part : Part} {producer : Fin 4294967296} {bad : Option (Fin 4294967296)} {s : State} (fo : Follows pre s) : FollowsO pre (execSmiSqPoll part producer bad s) := by
  unfold execSmiSqPoll
  apply FollowsO.ite
  · exact FollowsO.next fo
  · extract_lets s1 s2
    have h1 : Follows pre s2 := State.updPart_follows fo
    clear_value s2
    apply FollowsO.ite
    · exact FollowsO.next fo
    · split
      · exact FollowsO.next h1
      · exact FollowsO.ite (FollowsO.next (State.refuseS2_follows h1)) (FollowsO.next h1)

theorem execS2Generate_follows {pre : State} {part : Part} {entry : S2Entry} {s : State} (fo : Follows pre s) : FollowsO pre (execS2Generate part entry s) := by
  unfold execS2Generate
  apply FollowsO.ite
  · exact FollowsO.next fo
  · extract_lets s1
    apply FollowsO.ite
    · exact FollowsO.next fo
    · apply FollowsO.ite
      · exact FollowsO.next (State.refuseS2_follows fo)
      · split
        · exact FollowsO.next fo
        · rename_i y3 y4 y5
          extract_lets s2 s3 s4 s5
          have h1 : Follows pre s4 := State.setReq_follows fo
          clear_value s4
          have h2 : Follows pre s5 := State.updPart_follows (State.submit_follows h1)
          clear_value s5
          exact FollowsO.next (State.consume_follows h2)

theorem execS2Cancel_follows {pre : State} {part : Part} {tag : Fin 4294967296} {s : State} (fo : Follows pre s) : FollowsO pre (execS2Cancel part tag s) := by
  unfold execS2Cancel
  apply FollowsO.ite
  · exact FollowsO.next fo
  · extract_lets s1
    apply FollowsO.ite
    · exact FollowsO.next fo
    · split
      · exact FollowsO.next (State.consume_follows fo)
      · exact FollowsO.next (State.consume_follows (State.noteCmd_follows fo))

/-! ### Operations that leave memory alone -/

theorem State.loseStandby_memSame {pre : State} {s : State} (fo : MemSame pre s) : MemSame pre s.loseStandby := by
  unfold State.loseStandby
  exact MemSame.ite (State.record_memSame (State.setG_memSame fo)) fo

theorem State.askSwap_memSame {pre : State} {s : State} (fo : MemSame pre s) : MemSame pre s.askSwap := by
  unfold State.askSwap
  exact fo.same (Eq.refl _)

theorem execStewardSwap_memSame {pre : State} {path : Path} {s : State} (fo : MemSame pre s) : MemSameO pre (execStewardSwap path s) := by
  unfold execStewardSwap
  apply State.pageWrite_memSame
  · exact fo
  · intro x1 h1
    exact State.askSwap_memSame h1

theorem execStandbyLoss_memSame {pre : State} {s : State} (fo : MemSame pre s) : MemSameO pre (execStandbyLoss s) := by
  unfold execStandbyLoss
  exact MemSameO.next (State.loseStandby_memSame fo)

theorem execStandbyResync_memSame {pre : State} {s : State} (fo : MemSame pre s) : MemSameO pre (execStandbyResync s) := by
  unfold execStandbyResync
  exact MemSameO.next (MemSame.ite (State.setG_memSame fo) fo)

theorem State.refusePair_memSame {pre : State} {s : State} (fo : MemSame pre s) {path : Path} {p : Nat} : MemSame pre (s.refusePair path p) := by
  unfold State.refusePair
  exact State.record_memSame (State.refuseWrite_memSame fo)

theorem State.endTwinsOf_memSame {pre : State} {s : State} (fo : MemSame pre s) {p : Nat} : MemSame pre (s.endTwinsOf p) := by
  unfold State.endTwinsOf
  apply foldl_memSame
  · intro x1 x2 h1
    exact State.endTwin_memSame h1
  · exact fo

theorem State.unpair_memSame {pre : State} {s : State} (fo : MemSame pre s) {p : Nat} : MemSame pre (s.unpair p) := by
  unfold State.unpair
  extract_lets s1
  exact State.setG_memSame (State.endTwinsOf_memSame (State.endTwinsOf_memSame fo))

theorem State.writeSmifort_memSame {pre : State} {s : State} (fo : MemSame pre s) {path : Path} {p : Nat} {en : Bool} : MemSame pre (s.writeSmifort path p en) := by
  unfold State.writeSmifort
  exact MemSame.ite fo (MemSame.ite (State.refuseStatic_memSame fo) (MemSame.ite (State.refuseWrite_memSame fo) (State.setG_memSame fo)))

theorem execSmifortEnable_memSame {pre : State} {path : Path} {part : Part} {enable : Bool} {s : State} (fo : MemSame pre s) : MemSameO pre (execSmifortEnable path part enable s) := by
  unfold execSmifortEnable
  apply State.ownerWrite_memSame
  · exact fo
  · intro x1 h1
    exact State.writeSmifort_memSame h1

end Sys2Proof.Machine
end

