-- ==== Sys2Proof/Laws/Reset.lean ====
section
/-! SUPPORT. What the operations of Machine/Reset.lean keep: one lemma for each, by the lemmas of those that it calls. -/

namespace Sys2Proof.Machine

open Sys2Proof

theorem State.rstBegin_follows {pre : State} {s : State} (fo : Follows pre s) : Follows pre s.rstBegin := by
  unfold State.rstBegin
  exact State.setG_follows (State.setG_follows (State.setG_follows fo))

theorem State.rstEnd_follows {pre : State} {s : State} (fo : Follows pre s) {code : Nat} : Follows pre (s.rstEnd code) := by
  unfold State.rstEnd
  exact State.raiseInt_follows (State.setG_follows (State.setG_follows fo))

theorem State.rstRefused_follows {pre : State} {s : State} (fo : Follows pre s) {code : Nat} : Follows pre (s.rstRefused code) := by
  unfold State.rstRefused
  exact State.rstEnd_follows (State.record_follows (State.rstBegin_follows fo))

theorem State.tileEvent_follows {pre : State} {s : State} (fo : Follows pre s) {code : Nat} {t : Nat} {cond : Nat} : Follows pre (s.tileEvent code t cond) := by
  unfold State.tileEvent
  exact State.record_follows fo

theorem State.retrim_follows {pre : State} {s : State} (fo : Follows pre s) {t : Nat} : Follows pre (s.retrim t) := by
  unfold State.retrim
  extract_lets s1 s2 s3 s4
  have h1 : Follows pre s4 := fo.same (Eq.refl _) fo.mem (Eq.refl _) (Eq.refl _) (Eq.refl _) (Eq.refl _)
  clear_value s4
  clear_value s3
  clear_value s2
  clear_value s1
  split
  · exact h1
  · rename_i y1 y2 y3
    exact State.calRecord_follows (State.setReg_follows h1)

theorem State.clearTiles_follows {pre : State} {s : State} (fo : Follows pre s) {q : Nat → Bool} {basin : Bool} : Follows pre (s.clearTiles q basin) := by
  unfold State.clearTiles
  exact fo.same (Eq.refl _) (MemOk.keep (Follows.memOk fo)) (Eq.refl _) (Eq.refl _) (Eq.refl _) (Eq.refl _)

theorem State.absorb_follows {pre : State} {s : State} (fo : Follows pre s) {q : Nat → Bool} : Follows pre (State.absorb s q).fst := by
  unfold State.absorb
  extract_lets s1 s2 s3 s4 s5
  have h1 : Follows pre s2 := fo.same (Eq.refl _) fo.mem (Eq.refl _) (Eq.refl _) (Eq.refl _) (Eq.refl _)
  clear_value s2
  have h2 : Follows pre s3 := by
    unfold s3
    apply foldl_follows
    · intro x1 x2 h3
      exact Follows.ite (State.setTag_follows h3) h3
    · exact h1
  clear_value s3
  have h4 : Follows pre s5 := by
    unfold s5
    apply foldl_follows
    · intro x3 x4 h5
      exact State.answer_follows h5
    · exact h2
  clear_value s5
  dsimp only
  exact State.addReg_follows h4

theorem State.cutReturns_follows {pre : State} {s : State} (fo : Follows pre s) {p : Nat} : Follows pre (s.cutReturns p) := by
  unfold State.cutReturns
  apply foldl_follows
  · intro x1 x2 h1
    exact Follows.ite (State.updReq_follows h1) h1
  · exact fo

theorem State.resetPart_follows {pre : State} {s : State} (fo : Follows pre s) {p : Nat} : Follows pre (s.resetPart p) := by
  unfold State.resetPart
  extract_lets s1 s2 s3 s4
  have h1 : Follows pre s2 := by
    unfold s2
    split
    · rename_i y1 y2 y3
      exact State.cmdEnd_follows (State.updPart_follows fo)
    · exact fo
  clear_value s2
  have h2 : Follows pre s3 := by
    unfold s3
    split
    · rename_i y1 y2 y3
      exact State.cmdEnd_follows (State.updPart_follows h1)
    · exact h1
  clear_value s3
  have h3 : Follows pre s4 := Follows.ite (State.cascadeStop_follows h1) (Follows.ite (State.chainStop_follows (State.startWrite_follows (State.clearBindings_follows h2))) h1)
  clear_value s4
  exact State.adjustPart_follows (State.cutReturns_follows (State.updPart_follows h3))

theorem State.scopeAbort_follows {pre : State} {s : State} (fo : Follows pre s) {r : ResetRun} : Follows pre (s.scopeAbort r) := by
  unfold State.scopeAbort
  apply foldl_follows
  · intro x1 x2 h1
    exact State.abortPart_follows h1
  · exact fo

theorem State.startReset_follows {pre : State} {s : State} (fo : Follows pre s) {r : ResetRun} : Follows pre (s.startReset r) := by
  unfold State.startReset
  apply State.rstBegin_follows
  apply State.scopeAbort_follows
  exact fo.same (Eq.refl _) fo.mem (Eq.refl _) (Eq.refl _) (Eq.refl _) (Eq.refl _)

theorem State.askReset_follows {pre : State} {s : State} (fo : Follows pre s) {r : ResetRun} : Follows pre (s.askReset r) := by
  unfold State.askReset
  split
  · exact State.startReset_follows fo
  · rename_i y1 y2 y3
    apply Follows.ite
    · exact State.startReset_follows fo
    · exact fo.same (Eq.refl _) fo.mem (Eq.refl _) (Eq.refl _) (Eq.refl _) (Eq.refl _)

theorem State.rewriteResume_follows {pre : State} {s : State} (fo : Follows pre s) {p : Nat} {sel : Nat → Bool} : Follows pre (s.rewriteResume p sel) := by
  unfold State.rewriteResume
  apply Follows.ite
  · extract_lets s1
    exact State.abortStop_follows (State.ldRecord_follows (State.updPart_follows fo))
  · exact State.resumePart_follows (State.rewriteTiles_follows fo)

theorem State.afterReset_follows {pre : State} {s : State} (fo : Follows pre s) {r : ResetRun} {p : Nat} : Follows pre (s.afterReset r p) := by
  unfold State.afterReset
  apply Follows.ite
  · exact State.resetPart_follows fo
  · extract_lets s1
    have h1 : Follows pre s1 := Follows.ite (State.cutReturns_follows fo) fo
    clear_value s1
    exact Follows.ite (State.resetPart_follows h1) (Follows.ite h1 (State.rewriteResume_follows h1))

theorem State.endReset_follows {pre : State} {s : State} (fo : Follows pre s) {r : ResetRun} : Follows pre (s.endReset r) := by
  unfold State.endReset
  extract_lets s1 s2 s3 s4 s5 s6 s7 s8 s9 s10 s11
  have h1 : Follows pre s2 := State.scopeAbort_follows fo
  clear_value s2
  have h2 : Follows pre s3.fst := State.absorb_follows h1
  clear_value s3
  have h3 : Follows pre s5 := State.record_follows h2
  clear_value s5
  have h4 : Follows pre s7 := by
    unfold s7
    apply foldl_follows
    · intro x1 x2 h4
      exact State.retrim_follows h4
    · exact h3
  clear_value s7
  have h5 : Follows pre s8 := State.clearTiles_follows h4
  clear_value s8
  have h6 : Follows pre s9 := by
    unfold s9
    apply foldl_follows
    · intro x1 x2 h6
      exact State.afterReset_follows h6
    · exact h5
  clear_value s9
  have h7 : Follows pre s10 := State.record_follows h6
  clear_value s10
  split
  · apply State.rstEnd_follows
    exact h7.same (Eq.refl _) h7.mem (Eq.refl _) (Eq.refl _) (Eq.refl _) (Eq.refl _)
  · rename_i y1 y2 y3 y4
    apply State.startReset_follows
    apply State.rstEnd_follows
    exact h7.same (Eq.refl _) h7.mem (Eq.refl _) (Eq.refl _) (Eq.refl _) (Eq.refl _)

theorem execResetDrainEnd_follows {pre : State} {s : State} (fo : Follows pre s) : FollowsO pre (execResetDrainEnd s) := by
  unfold execResetDrainEnd
  split
  · exact FollowsO.next (Follows.ite fo (State.endReset_follows fo))
  · exact FollowsO.next fo

theorem State.rstWrite_follows {pre : State} {s : State} (fo : Follows pre s) {path : Path} {act : State → State} (foact : ∀ (a : State), Follows pre a → Follows pre (act a)) : FollowsO pre (s.rstWrite path act) := by
  unfold State.rstWrite
  apply State.pageWrite_follows
  · exact fo
  · intro x1 h1
    apply foact
    · exact h1

theorem State.tileReset_follows {pre : State} {s : State} (fo : Follows pre s) {target : Nat} : Follows pre (s.tileReset target) := by
  unfold State.tileReset
  split
  · rename_i y1 y2 y3
    exact State.askReset_follows fo
  · exact State.rstRefused_follows fo

theorem execTileReset_follows {pre : State} {path : Path} {target : Fin 1048576} {s : State} (fo : Follows pre s) : FollowsO pre (execTileReset path target s) := by
  unfold execTileReset
  apply State.rstWrite_follows
  · exact fo
  · intro x1 h1
    exact State.tileReset_follows h1

theorem State.siteReset_follows {pre : State} {s : State} (fo : Follows pre s) {target : Nat} : Follows pre (s.siteReset target) := by
  unfold State.siteReset
  exact Follows.ite (State.askReset_follows fo) (State.rstRefused_follows fo)

theorem execSiteReset_follows {pre : State} {path : Path} {target : Fin 1048576} {s : State} (fo : Follows pre s) : FollowsO pre (execSiteReset path target s) := by
  unfold execSiteReset
  apply State.rstWrite_follows
  · exact fo
  · intro x1 h1
    exact State.siteReset_follows h1

theorem State.partReset_follows {pre : State} {s : State} (fo : Follows pre s) {p : Nat} : Follows pre (s.partReset p) := by
  unfold State.partReset
  exact Follows.ite (State.askReset_follows fo) (State.rstRefused_follows fo)

theorem execPartReset_follows {pre : State} {path : Path} {part : Part} {s : State} (fo : Follows pre s) : FollowsO pre (execPartReset path part s) := by
  unfold execPartReset
  apply State.rstWrite_follows
  · exact fo
  · intro x1 h1
    exact State.partReset_follows h1

theorem execWaferReset_follows {pre : State} {path : Path} {s : State} (fo : Follows pre s) : FollowsO pre (execWaferReset path s) := by
  unfold execWaferReset
  apply State.rstWrite_follows
  · exact fo
  · intro x1 h1
    exact State.askReset_follows h1

theorem State.resetFn_follows {pre : State} {s : State} (fo : Follows pre s) {fn : Nat} : Follows pre (s.resetFn fn) := by
  unfold State.resetFn
  extract_lets s1
  apply State.resetPage_follows
  exact fo.same (Eq.refl _) fo.mem (Eq.refl _) (Eq.refl _) (Eq.refl _) (Eq.refl _)

theorem State.clearNeg_follows {pre : State} {s : State} (fo : Follows pre s) {fn : Nat} : Follows pre (s.clearNeg fn) := by
  unfold State.clearNeg
  exact State.resetReg_follows fo

theorem State.freeRange_follows {pre : State} {s : State} (fo : Follows pre s) {p : Nat} : Follows pre (State.freeRange s p) := by
  unfold State.freeRange
  extract_lets s1 s2
  have h1 : Follows pre s1 := State.updPart_follows fo
  clear_value s1
  apply foldl_follows
  · intro x1 x2 h2
    apply Follows.ite
    · exact State.endTwin_follows h2
    · extract_lets s3 s4
      have h3 : Follows pre s3 := Follows.ite (State.tell_follows h2) h2
      clear_value s3
      have h4 : Follows pre s4 := Follows.ite (State.release_follows h3) h3
      clear_value s4
      exact State.setReq_follows h4
  · exact h1

theorem State.vfFlr_follows {pre : State} {s : State} (fo : Follows pre s) {p : Nat} : Follows pre (s.vfFlr p) := by
  unfold State.vfFlr
  extract_lets s1 s2 s3 s4
  have h1 : Follows pre s1 := State.clearNeg_follows (State.resetFn_follows fo)
  clear_value s1
  have h2 : Follows pre s2 := State.askReset_follows h1
  clear_value s2
  have h3 : Follows pre s3 := State.resetReg_follows (State.resetReg_follows (State.setG_follows h2))
  clear_value s3
  have h4 : Follows pre s4 := State.updPart_follows h3
  clear_value s4
  exact Follows.ite (State.freeRange_follows (State.discardQueue_follows h4)) h1

theorem execVfFlr_follows {pre : State} {part : Part} {s : State} (fo : Follows pre s) : FollowsO pre (execVfFlr part s) := by
  unfold execVfFlr
  exact FollowsO.ite (FollowsO.next (State.vfFlr_follows fo)) (FollowsO.next fo)

theorem State.failHostStages_follows {pre : State} {s : State} (fo : Follows pre s) : Follows pre s.failHostStages := by
  unfold State.failHostStages
  apply foldl_follows
  · intro x1 x2 h1
    split
    · rename_i y1 y2 y3
      exact Follows.ite (State.stageFail_follows h1) h1
    · exact h1
  · exact fo

theorem State.closeDoe_follows {pre : State} {s : State} (h : Follows pre s) : Follows pre s.closeDoe :=
  ⟨h.pending, h.mem, fun w => ⟨Map.keep_wf (h.sess w).1 _, fun k hk => (h.sess w).2.1 k (Map.has_of_keep hk), (h.sess w).2.2⟩, h.log⟩

theorem State.pfFlr_follows {pre : State} {s : State} (fo : Follows pre s) : Follows pre s.pfFlr := by
  unfold State.pfFlr
  extract_lets s1 s2
  have h1 : Follows pre s1 := State.closeDoe_follows (State.clearNeg_follows (State.resetFn_follows fo))
  clear_value s1
  apply State.failHostStages_follows
  exact h1.same (Eq.refl _) h1.mem (Eq.refl _) (Eq.refl _) (Eq.refl _) (Eq.refl _)

theorem execPfFlr_follows {pre : State} {s : State} (fo : Follows pre s) : FollowsO pre (execPfFlr s) := by
  unfold execPfFlr
  exact FollowsO.ite (FollowsO.next (State.pfFlr_follows fo)) (FollowsO.next fo)

/-! ### Operations that leave memory alone -/

theorem State.rstBegin_memSame {pre : State} {s : State} (fo : MemSame pre s) : MemSame pre s.rstBegin := by
  unfold State.rstBegin
  exact State.setG_memSame (State.setG_memSame (State.setG_memSame fo))

theorem State.rstEnd_memSame {pre : State} {s : State} (fo : MemSame pre s) {code : Nat} : MemSame pre (s.rstEnd code) := by
  unfold State.rstEnd
  exact State.raiseInt_memSame (State.setG_memSame (State.setG_memSame fo))

theorem State.rstRefused_memSame {pre : State} {s : State} (fo : MemSame pre s) {code : Nat} : MemSame pre (s.rstRefused code) := by
  unfold State.rstRefused
  exact State.rstEnd_memSame (State.record_memSame (State.rstBegin_memSame fo))

theorem State.tileEvent_memSame {pre : State} {s : State} (fo : MemSame pre s) {code : Nat} {t : Nat} {cond : Nat} : MemSame pre (s.tileEvent code t cond) := by
  unfold State.tileEvent
  exact State.record_memSame fo

theorem State.retrim_memSame {pre : State} {s : State} (fo : MemSame pre s) {t : Nat} : MemSame pre (s.retrim t) := by
  unfold State.retrim
  extract_lets s1 s2 s3 s4
  have h1 : MemSame pre s4 := fo.same (Eq.refl _)
  clear_value s4
  clear_value s3
  clear_value s2
  clear_value s1
  split
  · exact h1
  · rename_i y1 y2 y3
    exact State.calRecord_memSame (State.setReg_memSame h1)

theorem State.absorb_memSame {pre : State} {s : State} (fo : MemSame pre s) {q : Nat → Bool} : MemSame pre (State.absorb s q).fst := by
  unfold State.absorb
  extract_lets s1 s2 s3 s4 s5
  have h1 : MemSame pre s2 := fo.same (Eq.refl _)
  clear_value s2
  have h2 : MemSame pre s3 := by
    unfold s3
    apply foldl_memSame
    · intro x1 x2 h3
      exact MemSame.ite (State.setTag_memSame h3) h3
    · exact h1
  clear_value s3
  have h4 : MemSame pre s5 := by
    unfold s5
    apply foldl_memSame
    · intro x3 x4 h5
      exact State.answer_memSame h5
    · exact h2
  clear_value s5
  dsimp only
  exact State.addReg_memSame h4

theorem State.cutReturns_memSame {pre : State} {s : State} (fo : MemSame pre s) {p : Nat} : MemSame pre (s.cutReturns p) := by
  unfold State.cutReturns
  apply foldl_memSame
  · intro x1 x2 h1
    exact MemSame.ite (State.updReq_memSame h1) h1
  · exact fo

theorem State.resetPart_memSame {pre : State} {s : State} (fo : MemSame pre s) {p : Nat} : MemSame pre (s.resetPart p) := by
  unfold State.resetPart
  extract_lets s1 s2 s3 s4
  have h1 : MemSame pre s2 := by
    unfold s2
    split
    · rename_i y1 y2 y3
      exact State.cmdEnd_memSame (State.updPart_memSame fo)
    · exact fo
  clear_value s2
  have h2 : MemSame pre s3 := by
    unfold s3
    split
    · rename_i y1 y2 y3
      exact State.cmdEnd_memSame (State.updPart_memSame h1)
    · exact h1
  clear_value s3
  have h3 : MemSame pre s4 := MemSame.ite (State.cascadeStop_memSame h1) (MemSame.ite (State.chainStop_memSame (State.startWrite_memSame (State.clearBindings_memSame h2))) h1)
  clear_value s4
  exact State.adjustPart_memSame (State.cutReturns_memSame (State.updPart_memSame h3))

theorem State.scopeAbort_memSame {pre : State} {s : State} (fo : MemSame pre s) {r : ResetRun} : MemSame pre (s.scopeAbort r) := by
  unfold State.scopeAbort
  apply foldl_memSame
  · intro x1 x2 h1
    exact State.abortPart_memSame h1
  · exact fo

theorem State.startReset_memSame {pre : State} {s : State} (fo : MemSame pre s) {r : ResetRun} : MemSame pre (s.startReset r) := by
  unfold State.startReset
  apply State.rstBegin_memSame
  apply State.scopeAbort_memSame
  exact fo.same (Eq.refl _)

theorem State.askReset_memSame {pre : State} {s : State} (fo : MemSame pre s) {r : ResetRun} : MemSame pre (s.askReset r) := by
  unfold State.askReset
  split
  · exact State.startReset_memSame fo
  · rename_i y1 y2 y3
    apply MemSame.ite
    · exact State.startReset_memSame fo
    · exact fo.same (Eq.refl _)

theorem State.rstWrite_memSame {pre : State} {s : State} (fo : MemSame pre s) {path : Path} {act : State → State} (foact : ∀ (a : State), MemSame pre a → MemSame pre (act a)) : MemSameO pre (s.rstWrite path act) := by
  unfold State.rstWrite
  apply State.pageWrite_memSame
  · exact fo
  · intro x1 h1
    apply foact
    · exact h1

theorem State.tileReset_memSame {pre : State} {s : State} (fo : MemSame pre s) {target : Nat} : MemSame pre (s.tileReset target) := by
  unfold State.tileReset
  split
  · rename_i y1 y2 y3
    exact State.askReset_memSame fo
  · exact State.rstRefused_memSame fo

theorem execTileReset_memSame {pre : State} {path : Path} {target : Fin 1048576} {s : State} (fo : MemSame pre s) : MemSameO pre (execTileReset path target s) := by
  unfold execTileReset
  apply State.rstWrite_memSame
  · exact fo
  · intro x1 h1
    exact State.tileReset_memSame h1

theorem State.siteReset_memSame {pre : State} {s : State} (fo : MemSame pre s) {target : Nat} : MemSame pre (s.siteReset target) := by
  unfold State.siteReset
  exact MemSame.ite (State.askReset_memSame fo) (State.rstRefused_memSame fo)

theorem execSiteReset_memSame {pre : State} {path : Path} {target : Fin 1048576} {s : State} (fo : MemSame pre s) : MemSameO pre (execSiteReset path target s) := by
  unfold execSiteReset
  apply State.rstWrite_memSame
  · exact fo
  · intro x1 h1
    exact State.siteReset_memSame h1

theorem State.partReset_memSame {pre : State} {s : State} (fo : MemSame pre s) {p : Nat} : MemSame pre (s.partReset p) := by
  unfold State.partReset
  exact MemSame.ite (State.askReset_memSame fo) (State.rstRefused_memSame fo)

theorem execPartReset_memSame {pre : State} {path : Path} {part : Part} {s : State} (fo : MemSame pre s) : MemSameO pre (execPartReset path part s) := by
  unfold execPartReset
  apply State.rstWrite_memSame
  · exact fo
  · intro x1 h1
    exact State.partReset_memSame h1

theorem execWaferReset_memSame {pre : State} {path : Path} {s : State} (fo : MemSame pre s) : MemSameO pre (execWaferReset path s) := by
  unfold execWaferReset
  apply State.rstWrite_memSame
  · exact fo
  · intro x1 h1
    exact State.askReset_memSame h1

theorem State.resetFn_memSame {pre : State} {s : State} (fo : MemSame pre s) {fn : Nat} : MemSame pre (s.resetFn fn) := by
  unfold State.resetFn
  extract_lets s1
  apply State.resetPage_memSame
  exact fo.same (Eq.refl _)

theorem State.clearNeg_memSame {pre : State} {s : State} (fo : MemSame pre s) {fn : Nat} : MemSame pre (s.clearNeg fn) := by
  unfold State.clearNeg
  exact State.resetReg_memSame fo

theorem State.freeRange_memSame {pre : State} {s : State} (fo : MemSame pre s) {p : Nat} : MemSame pre (State.freeRange s p) := by
  unfold State.freeRange
  extract_lets s1 s2
  have h1 : MemSame pre s1 := State.updPart_memSame fo
  clear_value s1
  apply foldl_memSame
  · intro x1 x2 h2
    apply MemSame.ite
    · exact State.endTwin_memSame h2
    · extract_lets s3 s4
      have h3 : MemSame pre s3 := MemSame.ite (State.tell_memSame h2) h2
      clear_value s3
      have h4 : MemSame pre s4 := MemSame.ite (State.release_memSame h3) h3
      clear_value s4
      exact State.setReq_memSame h4
  · exact h1

theorem State.vfFlr_memSame {pre : State} {s : State} (fo : MemSame pre s) {p : Nat} : MemSame pre (s.vfFlr p) := by
  unfold State.vfFlr
  extract_lets s1 s2 s3 s4
  have h1 : MemSame pre s1 := State.clearNeg_memSame (State.resetFn_memSame fo)
  clear_value s1
  have h2 : MemSame pre s2 := State.askReset_memSame h1
  clear_value s2
  have h3 : MemSame pre s3 := State.resetReg_memSame (State.resetReg_memSame (State.setG_memSame h2))
  clear_value s3
  have h4 : MemSame pre s4 := State.updPart_memSame h3
  clear_value s4
  exact MemSame.ite (State.freeRange_memSame (State.discardQueue_memSame h4)) h1

theorem execVfFlr_memSame {pre : State} {part : Part} {s : State} (fo : MemSame pre s) : MemSameO pre (execVfFlr part s) := by
  unfold execVfFlr
  exact MemSameO.ite (MemSameO.next (State.vfFlr_memSame fo)) (MemSameO.next fo)

theorem State.failHostStages_memSame {pre : State} {s : State} (fo : MemSame pre s) : MemSame pre s.failHostStages := by
  unfold State.failHostStages
  apply foldl_memSame
  · intro x1 x2 h1
    split
    · rename_i y1 y2 y3
      exact MemSame.ite (State.stageFail_memSame h1) h1
    · exact h1
  · exact fo

theorem State.closeDoe_memSame {pre : State} {s : State} (fo : MemSame pre s) : MemSame pre s.closeDoe := by
  unfold State.closeDoe
  exact fo.same (Eq.refl _)

theorem State.pfFlr_memSame {pre : State} {s : State} (fo : MemSame pre s) : MemSame pre s.pfFlr := by
  unfold State.pfFlr
  extract_lets s1 s2
  have h1 : MemSame pre s1 := State.closeDoe_memSame (State.clearNeg_memSame (State.resetFn_memSame fo))
  clear_value s1
  apply State.failHostStages_memSame
  exact h1.same (Eq.refl _)

theorem execPfFlr_memSame {pre : State} {s : State} (fo : MemSame pre s) : MemSameO pre (execPfFlr s) := by
  unfold execPfFlr
  exact MemSameO.ite (MemSameO.next (State.pfFlr_memSame fo)) (MemSameO.next fo)

end Sys2Proof.Machine
end

