-- ==== Sys2Proof/Laws/Licence.lean ====
section
/-! SUPPORT. What the operations of Machine/Licence.lean keep: one lemma for each, by the lemmas of those that it calls. -/

namespace Sys2Proof.Machine

open Sys2Proof

theorem State.certRecord_follows {pre : State} {s : State} (fo : Follows pre s) {code : Nat} {feature : Nat} {slot : Nat} : Follows pre (s.certRecord code feature slot) := by
  unfold State.certRecord
  exact State.record_follows fo

theorem State.showSlot_follows {pre : State} {s : State} (fo : Follows pre s) {n : Nat} {failed : Bool} : Follows pre (s.showSlot n failed) := by
  unfold State.showSlot
  split
  · exact State.setG_follows (State.setG_follows (State.setG_follows (State.setG_follows fo)))
  · rename_i y1 y2 y3
    exact State.setG_follows (State.setG_follows (State.setG_follows (State.setG_follows fo)))

theorem State.showLic_follows {pre : State} {s : State} (fo : Follows pre s) : Follows pre s.showLic := by
  unfold State.showLic
  exact State.setG_follows (State.setG_follows fo)

theorem State.checkCerts_follows {pre : State} {s : State} (fo : Follows pre s) {bad : List Nat} : Follows pre (s.checkCerts bad) := by
  unfold State.checkCerts
  extract_lets s1 s2
  have h1 : Follows pre s1 := by
    unfold s1
    apply foldl_follows
    · intro x1 x2 h1
      exact State.showSlot_follows h1
    · exact fo
  clear_value s1
  have h2 : Follows pre s2 := by
    unfold s2
    apply foldl_follows
    · intro x1 x2 h2
      exact Follows.ite (State.certRecord_follows h2) h2
    · exact h1
  clear_value s2
  exact State.showLic_follows h2

theorem State.licEnd_follows {pre : State} {s : State} (fo : Follows pre s) {code : Nat} : Follows pre (s.licEnd code) := by
  unfold State.licEnd
  exact State.raiseInt_follows (State.setG_follows (State.setG_follows fo))

theorem State.licRefused_follows {pre : State} {s : State} (fo : Follows pre s) {code : Nat} {feature : Nat} {slot : Nat} : Follows pre (s.licRefused code feature slot) := by
  unfold State.licRefused
  exact State.licEnd_follows (State.certRecord_follows fo)

theorem State.licInstall_follows {pre : State} {s : State} (fo : Follows pre s) {signed : Bool} : Follows pre (s.licInstall signed) := by
  unfold State.licInstall
  extract_lets s1 s2
  apply Follows.ite
  · exact State.licRefused_follows fo
  · apply Follows.ite
    · exact State.licRefused_follows fo
    · apply Follows.ite
      · exact State.licRefused_follows fo
      · apply Follows.ite
        · exact State.licEnd_follows fo
        · split
          · exact State.licRefused_follows fo
          · rename_i y1 y2 y3
            apply State.licEnd_follows
            apply State.showLic_follows
            apply State.showSlot_follows
            exact fo.same (Eq.refl _) fo.mem (Eq.refl _) (Eq.refl _) (Eq.refl _) (Eq.refl _)

theorem execLicInstall_follows {pre : State} {path : Path} {signed : Bool} {s : State} (fo : Follows pre s) : FollowsO pre (execLicInstall path signed s) := by
  unfold execLicInstall
  apply State.pageWrite_follows
  · exact fo
  · intro x1 h1
    exact State.licInstall_follows h1

theorem State.licRemove_follows {pre : State} {s : State} (fo : Follows pre s) {n : Nat} : Follows pre (s.licRemove n) := by
  unfold State.licRemove
  extract_lets s1 s2
  split
  · rename_i y1 y2 y3
    exact State.licRefused_follows fo
  · apply State.licEnd_follows
    apply State.showLic_follows
    apply State.showSlot_follows
    exact fo.same (Eq.refl _) fo.mem (Eq.refl _) (Eq.refl _) (Eq.refl _) (Eq.refl _)

theorem execLicRemove_follows {pre : State} {path : Path} {slot : Fin 16} {s : State} (fo : Follows pre s) : FollowsO pre (execLicRemove path slot s) := by
  unfold execLicRemove
  apply State.pageWrite_follows
  · exact fo
  · intro x1 h1
    exact State.licRemove_follows h1

/-! ### Operations that leave memory alone -/

theorem State.certRecord_memSame {pre : State} {s : State} (fo : MemSame pre s) {code : Nat} {feature : Nat} {slot : Nat} : MemSame pre (s.certRecord code feature slot) := by
  unfold State.certRecord
  exact State.record_memSame fo

theorem State.showSlot_memSame {pre : State} {s : State} (fo : MemSame pre s) {n : Nat} {failed : Bool} : MemSame pre (s.showSlot n failed) := by
  unfold State.showSlot
  split
  · exact State.setG_memSame (State.setG_memSame (State.setG_memSame (State.setG_memSame fo)))
  · rename_i y1 y2 y3
    exact State.setG_memSame (State.setG_memSame (State.setG_memSame (State.setG_memSame fo)))

theorem State.showLic_memSame {pre : State} {s : State} (fo : MemSame pre s) : MemSame pre s.showLic := by
  unfold State.showLic
  exact State.setG_memSame (State.setG_memSame fo)

theorem State.checkCerts_memSame {pre : State} {s : State} (fo : MemSame pre s) {bad : List Nat} : MemSame pre (s.checkCerts bad) := by
  unfold State.checkCerts
  extract_lets s1 s2
  have h1 : MemSame pre s1 := by
    unfold s1
    apply foldl_memSame
    · intro x1 x2 h1
      exact State.showSlot_memSame h1
    · exact fo
  clear_value s1
  have h2 : MemSame pre s2 := by
    unfold s2
    apply foldl_memSame
    · intro x1 x2 h2
      exact MemSame.ite (State.certRecord_memSame h2) h2
    · exact h1
  clear_value s2
  exact State.showLic_memSame h2

theorem State.licEnd_memSame {pre : State} {s : State} (fo : MemSame pre s) {code : Nat} : MemSame pre (s.licEnd code) := by
  unfold State.licEnd
  exact State.raiseInt_memSame (State.setG_memSame (State.setG_memSame fo))

theorem State.licRefused_memSame {pre : State} {s : State} (fo : MemSame pre s) {code : Nat} {feature : Nat} {slot : Nat} : MemSame pre (s.licRefused code feature slot) := by
  unfold State.licRefused
  exact State.licEnd_memSame (State.certRecord_memSame fo)

theorem State.licInstall_memSame {pre : State} {s : State} (fo : MemSame pre s) {signed : Bool} : MemSame pre (s.licInstall signed) := by
  unfold State.licInstall
  extract_lets s1 s2
  apply MemSame.ite
  · exact State.licRefused_memSame fo
  · apply MemSame.ite
    · exact State.licRefused_memSame fo
    · apply MemSame.ite
      · exact State.licRefused_memSame fo
      · apply MemSame.ite
        · exact State.licEnd_memSame fo
        · split
          · exact State.licRefused_memSame fo
          · rename_i y1 y2 y3
            apply State.licEnd_memSame
            apply State.showLic_memSame
            apply State.showSlot_memSame
            exact fo.same (Eq.refl _)

theorem execLicInstall_memSame {pre : State} {path : Path} {signed : Bool} {s : State} (fo : MemSame pre s) : MemSameO pre (execLicInstall path signed s) := by
  unfold execLicInstall
  apply State.pageWrite_memSame
  · exact fo
  · intro x1 h1
    exact State.licInstall_memSame h1

theorem State.licRemove_memSame {pre : State} {s : State} (fo : MemSame pre s) {n : Nat} : MemSame pre (s.licRemove n) := by
  unfold State.licRemove
  extract_lets s1 s2
  split
  · rename_i y1 y2 y3
    exact State.licRefused_memSame fo
  · apply State.licEnd_memSame
    apply State.showLic_memSame
    apply State.showSlot_memSame
    exact fo.same (Eq.refl _)

theorem execLicRemove_memSame {pre : State} {path : Path} {slot : Fin 16} {s : State} (fo : MemSame pre s) : MemSameO pre (execLicRemove path slot s) := by
  unfold execLicRemove
  apply State.pageWrite_memSame
  · exact fo
  · intro x1 h1
    exact State.licRemove_memSame h1

end Sys2Proof.Machine
end

