-- ==== Sys2Proof/Laws/Repair.lean ====
section
/-! SUPPORT. What the operations of Machine/Repair.lean keep: one lemma for each, by the lemmas of those that it calls. -/

namespace Sys2Proof.Machine

open Sys2Proof

theorem State.refillBanks_follows {pre : State} {s : State} (fo : Follows pre s) {t : Nat} {q : Nat → Nat → Bool} {cal : Bool} : Follows pre (State.refillBanks s t q cal) := by
  unfold State.refillBanks
  split
  · exact fo
  · rename_i y3 y4 y5
    split
    · rename_i y6 y7 y8 y9 y10 y11
      split
      · exact fo
      · rename_i y14 y15 y16
        extract_lets s1 s2 s3
        have h1 : Follows pre s1.fst := State.scratch_follows fo
        clear_value s1
        have h2 : Follows pre s3 := by
          unfold s3
          apply foldl_follows
          · intro x1 x2 h3
            exact State.writeBankImage_follows h3
          · exact h1
        clear_value s3
        exact State.endScratch_follows (Follows.ite (State.calibratePlaces_follows h2) h2)
    · exact fo

theorem State.takeSpare_follows {pre : State} {s : State} (fo : Follows pre s) {t : Nat} {n : Nat} : Follows pre (State.takeSpare s t n) := by
  unfold State.takeSpare
  extract_lets s1 s2 s3 s4 s5
  have h1 : Follows pre s1 := State.giveSpare_follows (State.coolQuads_follows fo)
  clear_value s1
  have h2 : Follows pre s4 := by
    unfold s4
    apply State.setMem_follows
    · exact h1
    · apply MemOk.copy
      apply MemOk.copy
      exact Follows.memOk h1
  clear_value s4
  have h3 : Follows pre s5 := h2.same (Eq.refl _) h2.mem (Eq.refl _) (Eq.refl _) (Eq.refl _) (Eq.refl _)
  clear_value s5
  exact State.refillBanks_follows h3

theorem State.faultNoRetry_follows {pre : State} {s : State} (fo : Follows pre s) {t : Nat} : Follows pre (s.faultNoRetry t) := by
  unfold State.faultNoRetry
  split
  · exact fo
  · rename_i y1 y2 y3
    exact State.updPart_follows (State.updTile_follows fo)

theorem State.fenceTile_follows {pre : State} {s : State} (fo : Follows pre s) {t : Nat} {cond : Nat} : Follows pre (s.fenceTile t cond) := by
  unfold State.fenceTile
  extract_lets s1 s2 s3
  have h1 : Follows pre s2 := fo.same (Eq.refl _) fo.mem (Eq.refl _) (Eq.refl _) (Eq.refl _) (Eq.refl _)
  clear_value s2
  have h2 : Follows pre s3 := State.setReg_follows (State.setReg_follows h1)
  clear_value s3
  exact State.faultNoRetry_follows (State.tileEvent_follows h2)

theorem State.fenceStop_follows {pre : State} {s : State} (fo : Follows pre s) {p : Nat} : Follows pre (s.fenceStop p) := by
  unfold State.fenceStop
  exact Follows.ite fo (State.abortStop_follows fo)

theorem State.withdrawLent_follows {pre : State} {s : State} (fo : Follows pre s) {site : Nat} {col : Nat} : Follows pre (s.withdrawLent site col) := by
  unfold State.withdrawLent
  extract_lets s1
  exact fo.same (Eq.refl _) (MemOk.zero (Follows.memOk fo)) (Eq.refl _) (Eq.refl _) (Eq.refl _) (Eq.refl _)

theorem State.setColumn_follows {pre : State} {s : State} (fo : Follows pre s) {site : Nat} {col : Nat} {w : Nat} : Follows pre (s.setColumn site col w) := by
  unfold State.setColumn
  extract_lets s1 s2 s3
  have h1 : Follows pre s3 := fo.same (Eq.refl _) fo.mem (Eq.refl _) (Eq.refl _) (Eq.refl _) (Eq.refl _)
  clear_value s3
  exact Follows.ite (State.withdrawLent_follows h1) h1

theorem State.moveArray_follows {pre : State} {s : State} (fo : Follows pre s) {t : Nat} {a : Nat} {b : Nat} : Follows pre (s.moveArray t a b) := by
  unfold State.moveArray
  apply Follows.ite
  · exact fo
  · extract_lets s1
    have h1 : MemOk pre s1 := MemOk.copy (Follows.memOk fo)
    clear_value s1
    exact State.setMem_follows fo (MemOk.copy (MemOk.copy h1))

theorem State.takePlace_follows {pre : State} {s : State} (fo : Follows pre s) {old : State} (_foold : Follows pre old) {t : Nat} {from_ : Option Nat} : Follows pre (s.takePlace old t from_) := by
  unfold State.takePlace
  extract_lets s1 s2 s3 s4 s5 s6
  have h1 : Follows pre s2 := by
    unfold s2
    apply foldl_follows
    · intro x1 x2 h1
      apply foldl_follows
      · intro x3 x4 h2
        exact State.setReg_follows h2
      · exact h1
    · exact fo
  clear_value s2
  have h2 : Follows pre s4 := State.updTile_follows h1
  clear_value s4
  have h3 : Follows pre s6 := by
    unfold s6
    apply foldl_follows
    · intro x1 x2 h3
      exact State.moveArray_follows h3
    · exact h2
  clear_value s6
  apply foldl_follows
  · intro x1 x2 h4
    exact State.moveArray_follows h4
  · exact h3

theorem State.freshBanks_follows {pre : State} {s : State} (fo : Follows pre s) {t : Nat} : Follows pre (State.freshBanks s t) := by
  unfold State.freshBanks
  extract_lets s1
  apply Follows.ite
  · exact fo
  · apply State.refillBanks_follows
    apply foldl_follows
    · intro x1 x2 h1
      exact State.setReg_follows h1
    · exact fo

theorem State.recalibrate_follows {pre : State} {s : State} (fo : Follows pre s) {t : Nat} : Follows pre (s.recalibrate t) := by
  unfold State.recalibrate
  extract_lets s1 s2 s3
  have h1 : Follows pre s3 := fo.same (Eq.refl _) fo.mem (Eq.refl _) (Eq.refl _) (Eq.refl _) (Eq.refl _)
  clear_value s3
  apply foldl_follows
  · intro x1 x2 h2
    apply foldl_follows
    · intro x3 x4 h3
      exact State.foreground_follows h3
    · exact h2
  · exact h1

theorem State.refillTile_follows {pre : State} {s : State} (fo : Follows pre s) {p : Nat} {t : Nat} {clean : Bool} : Follows pre (s.refillTile p t clean) := by
  unfold State.refillTile
  extract_lets s1 s2 s3 s4 s5 s6
  have h1 : Follows pre s4 := State.rewriteTiles_follows fo
  clear_value s4
  have h2 : MemOk pre s5 := MemOk.keep (Follows.memOk h1)
  clear_value s5
  have h3 : Follows pre s6 := State.updTile_follows h1
  clear_value s6
  apply Follows.ite
  · apply State.updTile_follows
    apply State.setMem_follows
    · exact h1
    · apply MemOk.foldl
      · intro x1 x2 h4
        exact MemOk.write h4
      · exact h2
  · exact h3.same (Eq.refl _) (MemOk.keep (Follows.memOk h1)) (Eq.refl _) (Eq.refl _) (Eq.refl _) (Eq.refl _)

theorem State.columnShift_follows {pre : State} {s : State} (fo : Follows pre s) {t : Nat} {clean : Bool} {fails : Bool} : Follows pre (State.columnShift s t clean fails).fst := by
  unfold State.columnShift
  extract_lets s1 s2 s3 s4 s5 s6 s7 s8 s9 s10 s11 s12 s13 s14 s15 s16 s17 s18 s19 s20 s21 s22 s23 s24
  have h1 : Follows pre s7 := by
    unfold s7
    apply foldl_follows
    · intro x1 x2 h2
      exact State.abortPart_follows h2
    · exact fo
  clear_value s7
  have h3 : Follows pre s8.fst := State.absorb_follows h1
  clear_value s8
  have h4 : Follows pre s9 := Follows.ite h3 (State.record_follows h3)
  clear_value s9
  have h5 : Follows pre s11 := Follows.ite (State.withdrawLent_follows h4) h4
  clear_value s11
  have h6 : Follows pre s12 := State.record_follows h5
  clear_value s12
  have h7 : Follows pre s13 := by
    unfold s13
    apply foldl_follows
    · intro x3 x4 h8
      exact State.setReg_follows (State.setReg_follows h8)
    · exact h6
  clear_value s13
  have h9 : Follows pre s15 := by
    unfold s15
    apply foldl_follows
    · intro x5 x6 h10
      exact Follows.ite h10 (State.scrubTile_follows h10)
    · exact h5
  clear_value s15
  have h11 : Follows pre s17 := h9
  clear_value s17
  have h12 : Follows pre s18 := State.setColumn_follows h9
  clear_value s18
  have h13 : Follows pre s19 := by
    unfold s19
    apply foldl_follows
    · intro x7 x8 h14
      apply State.takePlace_follows
      · exact h14
      · exact h11
    · exact h12
  clear_value s19
  have h15 : Follows pre s20 := by
    unfold s20
    apply foldl_follows
    · intro x9 x10 h16
      exact State.freshBanks_follows h16
    · exact h13
  clear_value s20
  have h17 : Follows pre s21 := State.setReg_follows (State.setReg_follows h15)
  clear_value s21
  have h18 : Follows pre s22 := by
    unfold s22
    clear_value s14
    split
    · exact State.refillTile_follows h17
    · exact h17
  clear_value s22
  have h19 : Follows pre s23 := by
    unfold s23
    apply foldl_follows
    · intro x11 x12 h20
      exact State.recalibrate_follows h20
    · exact h18
  clear_value s23
  have h21 : Follows pre s24 := by
    unfold s24
    apply foldl_follows
    · intro x13 x14 h22
      exact State.resumePart_follows h22
    · exact h19
  clear_value s24
  split
  · rename_i y4
    dsimp only
    apply foldl_follows
    · intro x15 x16 h23
      exact State.abortStop_follows h23
    · exact h7
  · rename_i y5
    dsimp only
    exact State.record_follows h21

theorem State.fenceInPlace_follows {pre : State} {s : State} (fo : Follows pre s) {t : Nat} : Follows pre (s.fenceInPlace t) := by
  unfold State.fenceInPlace
  extract_lets s1 s2 s3 s4
  have h1 : Follows pre s3 := fo.same (Eq.refl _) fo.mem (Eq.refl _) (Eq.refl _) (Eq.refl _) (Eq.refl _)
  clear_value s3
  have h2 : Follows pre s4 := State.tileEvent_follows h1
  clear_value s4
  split
  · rename_i y1 y2 y3
    exact State.abortStop_follows h2
  · exact h2

theorem State.repairTile_follows {pre : State} {s : State} (fo : Follows pre s) {t : Nat} {clean : Bool} {fails : Bool} : Follows pre (s.repairTile t clean fails).fst := by
  unfold State.repairTile
  split
  · exact State.columnShift_follows fo
  · dsimp only
    exact State.fenceInPlace_follows fo

theorem State.tileFails_follows {pre : State} {s : State} (fo : Follows pre s) {t : Nat} {cond : Nat} {clean : Bool} {fails : Bool} : Follows pre (s.tileFails t cond clean fails) := by
  unfold State.tileFails
  extract_lets s1
  have h1 : Follows pre s1 := State.fenceTile_follows fo
  clear_value s1
  apply Follows.ite
  · exact State.repairTile_follows h1
  · split
    · rename_i y1 y2 y3
      exact State.fenceStop_follows h1
    · exact h1

theorem execTileFail_follows {pre : State} {tile : Tile} {cond : Fin 5} {clean : Bool} {fails : Bool} {s : State} (fo : Follows pre s) : FollowsO pre (execTileFail tile cond clean fails s) := by
  unfold execTileFail
  extract_lets s1
  exact FollowsO.ite (FollowsO.next fo) (FollowsO.next (State.tileFails_follows fo))

theorem State.repairCmd_follows {pre : State} {s : State} (fo : Follows pre s) {target : Nat} {clean : Bool} {fails : Bool} : Follows pre (s.repairCmd target clean fails) := by
  unfold State.repairCmd
  split
  · exact State.rstRefused_follows fo
  · rename_i y1 y2 y3
    extract_lets s1
    have h1 : Follows pre s1.fst := State.repairTile_follows (State.fenceTile_follows (State.rstBegin_follows fo))
    clear_value s1
    exact State.rstEnd_follows h1

theorem execRepairTile_follows {pre : State} {path : Path} {target : Fin 1048576} {clean : Bool} {fails : Bool} {s : State} (fo : Follows pre s) : FollowsO pre (execRepairTile path target clean fails s) := by
  unfold execRepairTile
  apply State.rstWrite_follows
  · exact fo
  · intro x1 h1
    exact State.repairCmd_follows h1

theorem execSpareArraySubstitution_follows {pre : State} {tile : Tile} {array : Arr} {internal : Bool} {clean : Bool} {fails : Bool} {s : State} (fo : Follows pre s) : FollowsO pre (execSpareArraySubstitution tile array internal clean fails s) := by
  unfold execSpareArraySubstitution
  extract_lets s1 s2 s3 s4
  have h1 : Follows pre s3 := Follows.ite (State.arrayFault_follows (State.tileFault_follows fo)) fo
  clear_value s3
  apply FollowsO.ite
  · exact FollowsO.next h1
  · apply FollowsO.ite
    · exact FollowsO.ite (FollowsO.next h1) (FollowsO.next (State.tileFails_follows h1))
    · split
      · exact FollowsO.next (State.takeSpare_follows h1)
      · rename_i y3 y4 y5
        extract_lets s5
        apply FollowsO.ite
        · exact FollowsO.next (State.ldRecord_follows h1)
        · apply FollowsO.ite
          · exact FollowsO.next (State.takeSpare_follows h1)
          · apply FollowsO.ite
            · exact FollowsO.next (State.takeSpare_follows h1)
            · apply FollowsO.next
              exact h1.same (Eq.refl _) h1.mem (Eq.refl _) (Eq.refl _) (Eq.refl _) (Eq.refl _)

theorem State.ptest_follows {pre : State} {s : State} (fo : Follows pre s) {p : Nat} {failed : List Nat} : Follows pre (s.ptest p failed) := by
  unfold State.ptest
  extract_lets s1 s2 s3 s4 s5 s6 s7 s8 s9
  have h1 : Follows pre s4 := State.rstBegin_follows fo
  clear_value s4
  have h2 : Follows pre s5 := State.wipeBanks_follows h1
  clear_value s5
  have h3 : Follows pre s6 := h2.same (Eq.refl _) (MemOk.keep (Follows.memOk (State.wipeBanks_follows h1))) (Eq.refl _) (Eq.refl _) (Eq.refl _) (Eq.refl _)
  clear_value s6
  have h4 : Follows pre s7 := State.onTiles_follows h3
  clear_value s7
  have h5 : Follows pre s8 := by
    unfold s8
    apply foldl_follows
    · intro x1 x2 h5
      exact State.tileFails_follows h5
    · exact h4
  clear_value s8
  have h6 : Follows pre s9 := Follows.ite (State.rewriteResume_follows h5) h5
  clear_value s9
  exact Follows.ite (State.rstRefused_follows fo) (State.rstEnd_follows (State.setG_follows h6))

theorem execPtest_follows {pre : State} {path : Path} {part : Part} {level : Fin 2} {failed : List Tile} {s : State} (fo : Follows pre s) : FollowsO pre (execPtest path part level failed s) := by
  unfold execPtest
  apply State.rstWrite_follows
  · exact fo
  · intro x1 h1
    exact State.ptest_follows (State.setG_follows h1)

theorem State.loseParcel_follows {pre : State} {s : State} (fo : Follows pre s) {r : Nat} : Follows pre (s.loseParcel r) := by
  unfold State.loseParcel
  exact State.updReq_follows fo

theorem State.newCopy_follows {pre : State} {s : State} (fo : Follows pre s) {p n other : Nat} {room : Bool} {x : Nat × Nat × State}
    (h : s.newCopy p n other room = some x) : Follows pre x.2.2 := by
  unfold State.newCopy at h
  extract_lets l y at h
  split at h
  · cases h
  · obtain ⟨a, -, rfl⟩ := Option.map_eq_some_iff.mp h
    exact State.takeFree_follows fo

theorem State.mendTranscript_follows {pre : State} {s : State} (fo : Follows pre s) {r k : Nat} {room : Bool} : Follows pre (s.mendTranscript r k room) := by
  unfold State.mendTranscript
  split
  · extract_lets q good
    refine Follows.ite fo (Follows.ite (State.updReq_follows fo) ?_)
    split
    · rename_i h
      have h1 := State.newCopy_follows fo h
      exact State.updReq_follows (State.setMem_follows h1 (MemOk.copy (Follows.memOk h1)))
    · exact State.record_follows (State.updReq_follows fo)
  · exact fo

theorem State.loseCopies_follows {pre : State} {s : State} (fo : Follows pre s) {p : Nat} : Follows pre (s.loseCopies p) := by
  unfold State.loseCopies
  extract_lets s1 s2
  have h1 : Follows pre s2 := State.updPart_follows fo
  clear_value s2
  exact Follows.ite (State.record_follows h1) h1

theorem State.stackFails_follows {pre : State} {s : State} (fo : Follows pre s) {h : Nat} : Follows pre (s.stackFails h) := by
  unfold State.stackFails
  apply Follows.ite
  · exact fo
  · extract_lets s1 s2 s3 s4
    have h1 : Follows pre s2 := fo.same (Eq.refl _) fo.mem (Eq.refl _) (Eq.refl _) (Eq.refl _) (Eq.refl _)
    clear_value s2
    have h2 : Follows pre s3 := State.record_follows h1
    clear_value s3
    have h3 : Follows pre s4 := by
      unfold s4
      apply foldl_follows
      · intro x1 x2 h3
        exact State.loseCopies_follows h3
      · exact h2
    clear_value s4
    apply foldl_follows
    · intro x1 x2 h4
      exact State.loseParcel_follows h4
    · exact h3

theorem State.mendAll_follows {pre : State} {s : State} (fo : Follows pre s) {d : Nat} {l : List (Req × Bool)} : Follows pre (State.mendAll s d l) := by
  unfold State.mendAll
  apply foldl_follows
  · intro x1 x2 h1
    extract_lets s1
    split
    · exact State.mendTranscript_follows h1
    · exact Follows.ite (State.mendTranscript_follows h1) h1
  · exact fo

theorem execStackFail_follows {pre : State} {stack : Stack} {damaged : List (Req × Bool)} {s : State} (fo : Follows pre s) : FollowsO pre (execStackFail stack damaged s) := by
  unfold execStackFail
  exact FollowsO.ite (FollowsO.next fo) (FollowsO.next (State.mendAll_follows (State.stackFails_follows fo)))

theorem State.ethDown_follows {pre : State} {s : State} (fo : Follows pre s) {n : Nat} : Follows pre (s.ethDown n) := by
  unfold State.ethDown
  apply Follows.ite
  · extract_lets s1 s2
    have h1 : Follows pre s1 := State.setG_follows fo
    clear_value s1
    have h2 : Follows pre s2 := by
      unfold s2
      apply foldl_follows
      · intro x1 x2 h2
        exact Follows.ite (State.setG_follows h2) h2
      · exact h1
    clear_value s2
    exact State.record_follows h2
  · exact fo

theorem State.pcieDown_follows {pre : State} {s : State} (fo : Follows pre s) : Follows pre s.pcieDown := by
  unfold State.pcieDown
  apply Follows.ite
  · extract_lets s1 s2
    have h1 : Follows pre s1 := State.setG_follows (State.setG_follows (State.setG_follows fo))
    clear_value s1
    apply State.record_follows
    exact h1.same (Eq.refl _) h1.mem (Eq.refl _) (Eq.refl _) (Eq.refl _) (Eq.refl _)
  · exact fo

theorem State.rimEffects_follows {pre : State} {s : State} (fo : Follows pre s) {d : Nat} : Follows pre (State.rimEffects s d) := by
  unfold State.rimEffects
  extract_lets s1
  have h1 : ∀ {v1 : State}, Follows pre v1 → Follows pre (s1 v1) := by
    intro x1 h2
    unfold s1
    exact State.record_follows (State.setG_follows (State.swapRoots_follows h2))
  clear_value s1
  split
  · exact Follows.ite (State.stewardFails_follows (State.pcieDown_follows fo)) (State.loseStandby_follows (State.pcieDown_follows fo))
  · exact State.setG_follows (Follows.ite (h1 fo) fo)
  · exact State.ethDown_follows (State.ethDown_follows fo)
  · exact Follows.ite (State.loseStandby_follows fo) (State.stewardFails_follows fo)
  · exact State.setG_follows (Follows.ite fo (h1 fo))
  · exact State.ethDown_follows (State.ethDown_follows fo)
  · exact fo

theorem State.rimFails_follows {pre : State} {s : State} (fo : Follows pre s) {d : Nat} {damaged : List (Req × Bool)} : Follows pre (s.rimFails d damaged) := by
  unfold State.rimFails
  extract_lets s1 s2 s3 s4
  have h1 : Follows pre s2 := fo.same (Eq.refl _) fo.mem (Eq.refl _) (Eq.refl _) (Eq.refl _) (Eq.refl _)
  clear_value s2
  have h2 : Follows pre s3 := State.record_follows h1
  clear_value s3
  have h3 : Follows pre s4 := by
    unfold s4
    apply foldl_follows
    · intro x1 x2 h3
      exact State.stackFails_follows h3
    · exact h2
  clear_value s4
  exact State.rimEffects_follows (State.mendAll_follows h3)

theorem execRimDieFail_follows {pre : State} {rim : Fin 8} {damaged : List (Req × Bool)} {s : State} (fo : Follows pre s) : FollowsO pre (execRimDieFail rim damaged s) := by
  unfold execRimDieFail
  exact FollowsO.ite (FollowsO.next fo) (FollowsO.next (State.rimFails_follows fo))

theorem execSpareTileTest_follows {pre : State} {site : Site} {column : Fin 32} {south : Bool} {first : Bool} {ok : Bool} {s : State} (fo : Follows pre s) : FollowsO pre (execSpareTileTest site column south first ok s) := by
  unfold execSpareTileTest
  extract_lets s1 s2 s3 s4
  have h1 : Follows pre s2 := Follows.ite (State.setG_follows fo) (State.addReg_follows fo)
  clear_value s2
  have h2 : Follows pre s4 := State.setColumn_follows h1
  clear_value s4
  exact FollowsO.ite (FollowsO.next fo) (FollowsO.ite (FollowsO.next h1) (FollowsO.next (State.record_follows h2)))

/-! ### Operations that leave memory alone -/

theorem State.faultNoRetry_memSame {pre : State} {s : State} (fo : MemSame pre s) {t : Nat} : MemSame pre (s.faultNoRetry t) := by
  unfold State.faultNoRetry
  split
  · exact fo
  · rename_i y1 y2 y3
    exact State.updPart_memSame (State.updTile_memSame fo)

theorem State.fenceTile_memSame {pre : State} {s : State} (fo : MemSame pre s) {t : Nat} {cond : Nat} : MemSame pre (s.fenceTile t cond) := by
  unfold State.fenceTile
  extract_lets s1 s2 s3
  have h1 : MemSame pre s2 := fo.same (Eq.refl _)
  clear_value s2
  have h2 : MemSame pre s3 := State.setReg_memSame (State.setReg_memSame h1)
  clear_value s3
  exact State.faultNoRetry_memSame (State.tileEvent_memSame h2)

theorem State.fenceStop_memSame {pre : State} {s : State} (fo : MemSame pre s) {p : Nat} : MemSame pre (s.fenceStop p) := by
  unfold State.fenceStop
  exact MemSame.ite fo (State.abortStop_memSame fo)

theorem State.recalibrate_memSame {pre : State} {s : State} (fo : MemSame pre s) {t : Nat} : MemSame pre (s.recalibrate t) := by
  unfold State.recalibrate
  extract_lets s1 s2 s3
  have h1 : MemSame pre s3 := fo.same (Eq.refl _)
  clear_value s3
  apply foldl_memSame
  · intro x1 x2 h2
    apply foldl_memSame
    · intro x3 x4 h3
      exact State.foreground_memSame h3
    · exact h2
  · exact h1

theorem State.fenceInPlace_memSame {pre : State} {s : State} (fo : MemSame pre s) {t : Nat} : MemSame pre (s.fenceInPlace t) := by
  unfold State.fenceInPlace
  extract_lets s1 s2 s3 s4
  have h1 : MemSame pre s3 := fo.same (Eq.refl _)
  clear_value s3
  have h2 : MemSame pre s4 := State.tileEvent_memSame h1
  clear_value s4
  split
  · rename_i y1 y2 y3
    exact State.abortStop_memSame h2
  · exact h2

theorem State.loseParcel_memSame {pre : State} {s : State} (fo : MemSame pre s) {r : Nat} : MemSame pre (s.loseParcel r) := by
  unfold State.loseParcel
  exact State.updReq_memSame fo

theorem State.loseCopies_memSame {pre : State} {s : State} (fo : MemSame pre s) {p : Nat} : MemSame pre (s.loseCopies p) := by
  unfold State.loseCopies
  extract_lets s1 s2
  have h1 : MemSame pre s2 := State.updPart_memSame fo
  clear_value s2
  exact MemSame.ite (State.record_memSame h1) h1

theorem State.stackFails_memSame {pre : State} {s : State} (fo : MemSame pre s) {h : Nat} : MemSame pre (s.stackFails h) := by
  unfold State.stackFails
  apply MemSame.ite
  · exact fo
  · extract_lets s1 s2 s3 s4
    have h1 : MemSame pre s2 := fo.same (Eq.refl _)
    clear_value s2
    have h2 : MemSame pre s3 := State.record_memSame h1
    clear_value s3
    have h3 : MemSame pre s4 := by
      unfold s4
      apply foldl_memSame
      · intro x1 x2 h3
        exact State.loseCopies_memSame h3
      · exact h2
    clear_value s4
    apply foldl_memSame
    · intro x1 x2 h4
      exact State.loseParcel_memSame h4
    · exact h3

theorem State.ethDown_memSame {pre : State} {s : State} (fo : MemSame pre s) {n : Nat} : MemSame pre (s.ethDown n) := by
  unfold State.ethDown
  apply MemSame.ite
  · extract_lets s1 s2
    have h1 : MemSame pre s1 := State.setG_memSame fo
    clear_value s1
    have h2 : MemSame pre s2 := by
      unfold s2
      apply foldl_memSame
      · intro x1 x2 h2
        exact MemSame.ite (State.setG_memSame h2) h2
      · exact h1
    clear_value s2
    exact State.record_memSame h2
  · exact fo

theorem State.pcieDown_memSame {pre : State} {s : State} (fo : MemSame pre s) : MemSame pre s.pcieDown := by
  unfold State.pcieDown
  apply MemSame.ite
  · extract_lets s1 s2
    have h1 : MemSame pre s1 := State.setG_memSame (State.setG_memSame (State.setG_memSame fo))
    clear_value s1
    apply State.record_memSame
    exact h1.same (Eq.refl _)
  · exact fo

end Sys2Proof.Machine
end

