-- ==== Sys2Proof/Laws/Cap.lean ====
section
/-! SUPPORT. What the operations of Machine/Cap.lean keep: one lemma for each, by the lemmas of those that it calls. -/

namespace Sys2Proof.Machine

open Sys2Proof

theorem State.scaleEst_follows {pre : State} {s : State} (fo : Follows pre s) {p : Nat} {v : Nat} : Follows pre (s.scaleEst p v).snd := by
  unfold State.scaleEst
  split
  · exact fo
  · exact State.takeFree_follows fo

theorem State.capParts_follows {pre : State} {s : State} (fo : Follows pre s) {r : WindowReadings} : Follows pre (s.capParts r).snd := by
  unfold State.capParts
  apply foldl_follows2
  · intro x1 x2 h1
    extract_lets s1 s2 s3
    have h2 : Follows pre s1.snd := State.scaleEst_follows h1
    clear_value s1
    have h3 : Follows pre s2.snd := State.scaleEst_follows h2
    clear_value s2
    have h4 : Follows pre s3 := h3
    clear_value s3
    exact h4
  · exact fo

theorem State.judgeMismatch_follows {pre : State} {s : State} (fo : Follows pre s) {p : Nat} {m : Nat} {e : Nat} : Follows pre (State.judgeMismatch s p m e) := by
  unfold State.judgeMismatch
  extract_lets s1 s2 s3
  have h1 : Follows pre s2 := State.updPart_follows fo
  clear_value s2
  exact Follows.ite (Follows.ite (State.pwrRecord_follows (State.predictive_follows h1)) (State.updPart_follows h1)) (Follows.ite (State.pwrRecord_follows (State.updPart_follows (State.setG_follows (State.setG_follows h1)))) h1)

theorem State.judgeLow_follows {pre : State} {s : State} (fo : Follows pre s) {r : WindowReadings} {p : Nat} {m : Nat} {e : Nat} : Follows pre (State.judgeLow s r p m e) := by
  unfold State.judgeLow
  extract_lets s1 s2 s3
  have h1 : Follows pre s3 := by
    unfold s3
    apply foldl_follows
    · intro x1 x2 h2
      exact State.takeAnomaly_follows h2
    · exact State.updPart_follows fo
  clear_value s3
  exact Follows.ite (State.pwrRecord_follows h1) (State.updPart_follows fo)

theorem State.judgePart_follows {pre : State} {s : State} (fo : Follows pre s) {r : WindowReadings} {p : Nat} : Follows pre (State.judgePart s r p) := by
  unfold State.judgePart
  extract_lets s1 s2 s3
  have h1 : Follows pre s3 := State.judgeLow_follows (Follows.ite fo (State.judgeMismatch_follows fo))
  clear_value s3
  exact State.setG_follows (State.setG_follows (State.updPart_follows h1))

theorem State.reactF_follows {pre : State} {s : State} (fo : Follows pre s) {r : WindowReadings} {a : Frac} {p : Nat} {base : Nat} : Follows pre (s.reactF r a p base) := by
  unfold State.reactF
  extract_lets s1 s2 s3 s4
  exact Follows.ite (State.updPart_follows fo) (Follows.ite (Follows.ite (State.updPart_follows fo) (State.updPart_follows fo)) (State.updPart_follows fo))

theorem State.setFactor_follows {pre : State} {s : State} (fo : Follows pre s) {r : WindowReadings} {a : Frac} {fs : Nat × Nat} {c : CapPart} {was : Bool} : Follows pre (s.setFactor r a fs c was) := by
  unfold State.setFactor
  extract_lets s1 s2 s3
  have h1 : Follows pre s2 := Follows.ite (State.updPart_follows fo) (Follows.ite (State.reactF_follows fo) fo)
  clear_value s2
  exact State.setG_follows (State.setG_follows h1)

theorem State.capWindow_follows {pre : State} {s : State} (fo : Follows pre s) {r : WindowReadings} : Follows pre (s.capWindow r) := by
  unfold State.capWindow
  extract_lets s1 s2 s3 s4 s5 s6 s7 s8 s9 s10 s11
  have h1 : Follows pre s3 := by
    unfold s3
    apply foldl_follows
    · intro x1 x2 h1
      exact State.judgePart_follows h1
    · exact fo
  clear_value s3
  have h2 : Follows pre s5 := State.setG_follows (State.setG_follows h1)
  clear_value s5
  have h3 : Follows pre s6.snd := State.capParts_follows h2
  clear_value s6
  have h4 : Follows pre s7 := h3
  clear_value s7
  have h5 : Follows pre s9 := by
    unfold s9
    apply foldl_follows
    · intro x1 x2 h5
      exact State.setFactor_follows h5
    · exact h4
  clear_value s9
  exact h5.same (Eq.refl _) h5.mem (Eq.refl _) (Eq.refl _) (Eq.refl _) (Eq.refl _)

/-! ### Operations that leave memory alone -/

theorem State.scaleEst_memSame {pre : State} {s : State} (fo : MemSame pre s) {p : Nat} {v : Nat} : MemSame pre (s.scaleEst p v).snd := by
  unfold State.scaleEst
  split
  · exact fo
  · exact State.takeFree_memSame fo

theorem State.capParts_memSame {pre : State} {s : State} (fo : MemSame pre s) {r : WindowReadings} : MemSame pre (s.capParts r).snd := by
  unfold State.capParts
  apply foldl_memSame2
  · intro x1 x2 h1
    extract_lets s1 s2 s3
    have h2 : MemSame pre s1.snd := State.scaleEst_memSame h1
    clear_value s1
    have h3 : MemSame pre s2.snd := State.scaleEst_memSame h2
    clear_value s2
    have h4 : MemSame pre s3 := h3
    clear_value s3
    exact h4
  · exact fo

theorem State.judgeMismatch_memSame {pre : State} {s : State} (fo : MemSame pre s) {p : Nat} {m : Nat} {e : Nat} : MemSame pre (State.judgeMismatch s p m e) := by
  unfold State.judgeMismatch
  extract_lets s1 s2 s3
  have h1 : MemSame pre s2 := State.updPart_memSame fo
  clear_value s2
  exact MemSame.ite (MemSame.ite (State.pwrRecord_memSame (State.predictive_memSame h1)) (State.updPart_memSame h1)) (MemSame.ite (State.pwrRecord_memSame (State.updPart_memSame (State.setG_memSame (State.setG_memSame h1)))) h1)

theorem State.judgeLow_memSame {pre : State} {s : State} (fo : MemSame pre s) {r : WindowReadings} {p : Nat} {m : Nat} {e : Nat} : MemSame pre (State.judgeLow s r p m e) := by
  unfold State.judgeLow
  extract_lets s1 s2 s3
  have h1 : MemSame pre s3 := by
    unfold s3
    apply foldl_memSame
    · intro x1 x2 h2
      exact State.takeAnomaly_memSame h2
    · exact State.updPart_memSame fo
  clear_value s3
  exact MemSame.ite (State.pwrRecord_memSame h1) (State.updPart_memSame fo)

theorem State.judgePart_memSame {pre : State} {s : State} (fo : MemSame pre s) {r : WindowReadings} {p : Nat} : MemSame pre (State.judgePart s r p) := by
  unfold State.judgePart
  extract_lets s1 s2 s3
  have h1 : MemSame pre s3 := State.judgeLow_memSame (MemSame.ite fo (State.judgeMismatch_memSame fo))
  clear_value s3
  exact State.setG_memSame (State.setG_memSame (State.updPart_memSame h1))

theorem State.reactF_memSame {pre : State} {s : State} (fo : MemSame pre s) {r : WindowReadings} {a : Frac} {p : Nat} {base : Nat} : MemSame pre (s.reactF r a p base) := by
  unfold State.reactF
  extract_lets s1 s2 s3 s4
  exact MemSame.ite (State.updPart_memSame fo) (MemSame.ite (MemSame.ite (State.updPart_memSame fo) (State.updPart_memSame fo)) (State.updPart_memSame fo))

theorem State.setFactor_memSame {pre : State} {s : State} (fo : MemSame pre s) {r : WindowReadings} {a : Frac} {fs : Nat × Nat} {c : CapPart} {was : Bool} : MemSame pre (s.setFactor r a fs c was) := by
  unfold State.setFactor
  extract_lets s1 s2 s3
  have h1 : MemSame pre s2 := MemSame.ite (State.updPart_memSame fo) (MemSame.ite (State.reactF_memSame fo) fo)
  clear_value s2
  exact State.setG_memSame (State.setG_memSame h1)

theorem State.capWindow_memSame {pre : State} {s : State} (fo : MemSame pre s) {r : WindowReadings} : MemSame pre (s.capWindow r) := by
  unfold State.capWindow
  extract_lets s1 s2 s3 s4 s5 s6 s7 s8 s9 s10 s11
  have h1 : MemSame pre s3 := by
    unfold s3
    apply foldl_memSame
    · intro x1 x2 h1
      exact State.judgePart_memSame h1
    · exact fo
  clear_value s3
  have h2 : MemSame pre s5 := State.setG_memSame (State.setG_memSame h1)
  clear_value s5
  have h3 : MemSame pre s6.snd := State.capParts_memSame h2
  clear_value s6
  have h4 : MemSame pre s7 := h3
  clear_value s7
  have h5 : MemSame pre s9 := by
    unfold s9
    apply foldl_memSame
    · intro x1 x2 h5
      exact State.setFactor_memSame h5
    · exact h4
  clear_value s9
  exact h5.same (Eq.refl _)

end Sys2Proof.Machine
end

