-- ==== Sys2Proof/Laws/Thermal.lean ====
section
/-! SUPPORT. What the operations of Machine/Thermal.lean keep: one lemma for each, by the lemmas of those that it calls. -/

namespace Sys2Proof.Machine

open Sys2Proof

theorem State.judgeTheta_follows {pre : State} {s : State} (fo : Follows pre s) {site : Nat} : Follows pre (State.judgeTheta s site) := by
  unfold State.judgeTheta
  extract_lets s1 s2 s3 s4 s5 s6 s7 s8 s9
  have h1 : Follows pre s6 := fo.same (Eq.refl _) fo.mem (Eq.refl _) (Eq.refl _) (Eq.refl _) (Eq.refl _)
  clear_value s6
  have h2 : Follows pre s8 := State.setG_follows h1
  clear_value s8
  have h3 : Follows pre s9 := State.setG_follows h2
  clear_value s9
  exact Follows.ite (State.thmRecord_follows h3) h3

theorem State.setTheta_follows {pre : State} {s : State} (fo : Follows pre s) {site : Nat} {v : Nat} : Follows pre (State.setTheta s site v) := by
  unfold State.setTheta
  apply State.judgeTheta_follows
  apply State.setG_follows
  exact fo.same (Eq.refl _) fo.mem (Eq.refl _) (Eq.refl _) (Eq.refl _) (Eq.refl _)

theorem execThetaUpdate_follows {pre : State} {site : Site} {watts : Fin 65536} {steady : Bool} {s : State} (fo : Follows pre s) : FollowsO pre (execThetaUpdate site watts steady s) := by
  unfold execThetaUpdate
  extract_lets s1 s2 s3 s4
  exact FollowsO.ite (FollowsO.next fo) (FollowsO.next (State.refreshSite_follows (State.setTheta_follows fo)))

theorem State.rebase_follows {pre : State} {s : State} (fo : Follows pre s) : Follows pre s.rebase := by
  unfold State.rebase
  apply State.allSites_follows
  · exact fo
  · intro x1 x2 h1
    exact State.setG_follows h1

theorem execRebase_follows {pre : State} {path : Path} {s : State} (fo : Follows pre s) : FollowsO pre (execRebase path s) := by
  unfold execRebase
  apply State.pageWrite_follows
  · exact fo
  · intro x1 h1
    exact State.rebase_follows h1

theorem execMonitorStaleTimeout_follows {pre : State} {base : Bool} {place : Tile} {s : State} (fo : Follows pre s) : FollowsO pre (execMonitorStaleTimeout base place s) := by
  unfold execMonitorStaleTimeout
  extract_lets s1 s2 s3
  apply FollowsO.ite
  · apply FollowsO.next
    apply State.thmRecord_follows
    apply State.refreshTemp_follows
    exact fo.same (Eq.refl _) fo.mem (Eq.refl _) (Eq.refl _) (Eq.refl _) (Eq.refl _)
  · exact FollowsO.next fo

theorem State.episode_follows {pre : State} {s : State} (fo : Follows pre s) {cond : Nat} {place : Nat} {code : Nat} {site : Nat} {stack : Nat} : Follows pre (s.episode cond place code site stack) := by
  unfold State.episode
  apply Follows.ite
  · exact fo
  · apply State.thmRecord_follows
    exact fo.same (Eq.refl _) fo.mem (Eq.refl _) (Eq.refl _) (Eq.refl _) (Eq.refl _)

theorem execJunctionOverLimit_follows {pre : State} {site : Site} {s : State} (fo : Follows pre s) : FollowsO pre (execJunctionOverLimit site s) := by
  unfold execJunctionOverLimit
  apply FollowsO.ite
  · apply FollowsO.next
    apply State.episode_follows
    exact fo.same (Eq.refl _) fo.mem (Eq.refl _) (Eq.refl _) (Eq.refl _) (Eq.refl _)
  · exact FollowsO.next fo

theorem State.junctionHot_follows {pre : State} {s : State} (fo : Follows pre s) {site : Nat} : Follows pre (s.junctionHot site) := by
  unfold State.junctionHot
  extract_lets s1 s2 s3
  have h1 : Follows pre s1 := State.episode_follows fo
  clear_value s1
  have h2 : Follows pre s3 := h1.same (Eq.refl _) h1.mem (Eq.refl _) (Eq.refl _) (Eq.refl _) (Eq.refl _)
  clear_value s3
  apply foldl_follows
  · intro x1 x2 h3
    exact Follows.ite (State.setG_follows h3) h3
  · exact h2

theorem execJunctionHot_follows {pre : State} {site : Site} {s : State} (fo : Follows pre s) : FollowsO pre (execJunctionHot site s) := by
  unfold execJunctionHot
  exact FollowsO.ite (FollowsO.next (State.junctionHot_follows fo)) (FollowsO.next fo)

theorem execJunctionTrip_follows {pre : State} {tile : Tile} {raw : Fin 1024} {s : State} (fo : Follows pre s) : FollowsO pre (execJunctionTrip tile raw s) := by
  unfold execJunctionTrip
  extract_lets s1 s2
  have h1 : Follows pre s2 := State.readDiode_follows fo
  clear_value s2
  exact FollowsO.ite (FollowsO.next h1) (FollowsO.next (State.episode_follows (State.goDark_follows h1)))

theorem execStackHot85_follows {pre : State} {stack : Stack} {t : Fin 256} {s : State} (fo : Follows pre s) : FollowsO pre (execStackHot85 stack t s) := by
  unfold execStackHot85
  extract_lets s1
  have h1 : Follows pre s1 := State.setG_follows fo
  clear_value s1
  exact FollowsO.ite (FollowsO.next (State.episode_follows (State.setG_follows h1))) (FollowsO.next h1)

theorem execStackHot95_follows {pre : State} {stack : Stack} {t : Fin 256} {s : State} (fo : Follows pre s) : FollowsO pre (execStackHot95 stack t s) := by
  unfold execStackHot95
  extract_lets s1
  have h1 : Follows pre s1 := State.setG_follows fo
  clear_value s1
  exact FollowsO.ite (FollowsO.next (State.episode_follows h1)) (FollowsO.next h1)

theorem execInletHigh_follows {pre : State} {tIn : Fin 65536} {s : State} (fo : Follows pre s) : FollowsO pre (execInletHigh tIn s) := by
  unfold execInletHigh
  extract_lets s1
  have h1 : Follows pre s1 := State.setG_follows fo
  clear_value s1
  exact FollowsO.ite (FollowsO.next (State.episode_follows (State.setG_follows h1))) (FollowsO.next h1)

theorem execFlowLow_follows {pre : State} {flow : Fin 65536} {s : State} (fo : Follows pre s) : FollowsO pre (execFlowLow flow s) := by
  unfold execFlowLow
  extract_lets s1
  have h1 : Follows pre s1 := State.setG_follows fo
  clear_value s1
  exact FollowsO.ite (FollowsO.next (State.episode_follows (State.setG_follows h1))) (FollowsO.next h1)

theorem State.shutdown_follows {pre : State} {s : State} (fo : Follows pre s) {cond : Nat} {code : Nat} {stack : Nat} : Follows pre (s.shutdown cond code stack) := by
  unfold State.shutdown
  extract_lets s1 s2
  have h1 : Follows pre s1 := State.stopConverters_follows fo
  clear_value s1
  apply State.episode_follows
  exact h1.same (Eq.refl _) h1.mem (Eq.refl _) (Eq.refl _) (Eq.refl _) (Eq.refl _)

theorem execModuleThermalShutdown_follows {pre : State} {tIn : Fin 65536} {tOut : Fin 65536} {flow : Fin 65536} {stack : Stack} {t : Fin 256} {s : State} (fo : Follows pre s) : FollowsO pre (execModuleThermalShutdown tIn tOut flow stack t s) := by
  unfold execModuleThermalShutdown
  exact FollowsO.ite (FollowsO.next (State.shutdown_follows fo)) (FollowsO.next fo)

theorem execLeakSensed_follows {pre : State} {s : State} (fo : Follows pre s) : FollowsO pre (execLeakSensed s) := by
  unfold execLeakSensed
  extract_lets s1
  have h1 : Follows pre s1 := State.setG_follows fo
  clear_value s1
  exact FollowsO.next (Follows.ite (State.shutdown_follows h1) (State.episode_follows h1))

theorem execThermalEpisodeEnd_follows {pre : State} {cond : Fin 9} {place : Fin 64} {s : State} (fo : Follows pre s) : FollowsO pre (execThermalEpisodeEnd cond place s) := by
  unfold execThermalEpisodeEnd
  apply FollowsO.ite
  · extract_lets s1 s2 s3 s4
    have h1 : Follows pre s2 := fo.same (Eq.refl _) fo.mem (Eq.refl _) (Eq.refl _) (Eq.refl _) (Eq.refl _)
    clear_value s2
    have h2 : Follows pre s3 := by
      unfold s3
      apply Follows.ite
      · apply foldl_follows
        · intro x1 x2 h3
          exact State.setG_follows h3
        · exact h1
      · exact h1
    clear_value s3
    exact FollowsO.next (Follows.ite (h2.same (Eq.refl _) h2.mem (Eq.refl _) (Eq.refl _) (Eq.refl _) (Eq.refl _)) h2)
  · exact FollowsO.next fo

theorem State.release'_follows {pre : State} {s : State} (fo : Follows pre s) {path : Path} {site : Nat} : Follows pre (s.release' path site) := by
  unfold State.release'
  apply Follows.ite
  · exact State.refuseWrite_follows fo
  · extract_lets s1 s2 s3
    have h1 : Follows pre s1 := State.setG_follows fo
    clear_value s1
    apply Follows.ite
    · exact State.refuseWrite_follows h1
    · apply Follows.ite
      · apply State.refreshSite_follows
        apply State.setG_follows
        exact h1.same (Eq.refl _) h1.mem (Eq.refl _) (Eq.refl _) (Eq.refl _) (Eq.refl _)
      · exact h1

theorem execSiteRelease_follows {pre : State} {path : Path} {site : Fin 64} {s : State} (fo : Follows pre s) : FollowsO pre (execSiteRelease path site s) := by
  unfold execSiteRelease
  apply State.pageWrite_follows
  · exact fo
  · intro x1 h1
    exact State.release'_follows h1

theorem State.stepK_follows {pre : State} {s : State} (fo : Follows pre s) {site : Nat} : Follows pre (s.stepK site) := by
  unfold State.stepK
  extract_lets s1 s2
  exact Follows.ite (State.setG_follows fo) (Follows.ite (State.setG_follows fo) fo)

theorem State.thermalWindow_follows {pre : State} {s : State} (fo : Follows pre s) : Follows pre (State.thermalWindow s) := by
  unfold State.thermalWindow
  extract_lets s1 s2
  have h1 : Follows pre s2 := by
    unfold s2
    apply Follows.ite
    · exact fo.same (Eq.refl _) fo.mem (Eq.refl _) (Eq.refl _) (Eq.refl _) (Eq.refl _)
    · exact fo
  clear_value s2
  apply State.allSites_follows
  · exact h1
  · intro x1 x2 h2
    exact State.judgeTheta_follows (State.refreshSite_follows (State.stepK_follows (State.judgeOver_follows h2)))

theorem State.forecastPart_follows {pre : State} {s : State} (fo : Follows pre s) {p : Nat} {sec : Nat} : Follows pre (State.forecastPart s p sec).snd.snd := by
  unfold State.forecastPart
  extract_lets s1 s2 s3 s4 s5 s6 s7
  have h1 : Follows pre s5.snd := State.scaleEst_follows fo
  clear_value s5
  have h2 : Follows pre s6.snd := State.scaleEst_follows h1
  clear_value s6
  have h3 : Follows pre s7.snd := State.scaleEst_follows h2
  clear_value s7
  exact h3

theorem State.forecast_follows {pre : State} {s : State} (fo : Follows pre s) {i : Nat} {sec : Nat} {changes : List (Part × Bool × Fin 60001)} : Follows pre (s.forecast i sec changes) := by
  unfold State.forecast
  generalize upTo 64 = l
  extract_lets x s1 rest now lim bound
  have hx : Follows pre s1 := by
    refine foldl_follows22 (fun a p h => ?_) fo
    extract_lets c run f share
    have hf : Follows pre f.2.2 := State.forecastPart_follows h
    clear_value f
    split
    · dsimp only
      exact hf
    · exact h
  clear_value bound s1
  exact State.setG_follows (State.setG_follows hx)

theorem execForecastUpdate_follows {pre : State} {changes : List (Part × Bool × Fin 60001)} {s : State} (fo : Follows pre s) : FollowsO pre (execForecastUpdate changes s) := by
  unfold execForecastUpdate
  exact FollowsO.next (State.forecast_follows (State.forecast_follows (State.forecast_follows fo)))

theorem State.yieldWarm_follows {pre : State} {s : State} (fo : Follows pre s) : Follows pre (State.yieldWarm s) := by
  unfold State.yieldWarm
  extract_lets s1 s2
  exact fo.same (Eq.refl _) fo.mem (Eq.refl _) (Eq.refl _) (Eq.refl _) (Eq.refl _)

theorem execWarmingRotate_follows {pre : State} {quads : List Quad} {watts : Fin 61} {s : State} (fo : Follows pre s) : FollowsO pre (execWarmingRotate quads watts s) := by
  unfold execWarmingRotate
  extract_lets s1 s2 s3 s4 s5 s6 s7 s8 s9
  have h1 : Follows pre s5 := fo.same (Eq.refl _) fo.mem (Eq.refl _) (Eq.refl _) (Eq.refl _) (Eq.refl _)
  clear_value s5
  have h2 : Follows pre s9 := by
    unfold s9
    apply State.setG_follows
    exact h1.same (Eq.refl _) h1.mem (Eq.refl _) (Eq.refl _) (Eq.refl _) (Eq.refl _)
  clear_value s9
  exact FollowsO.next (Follows.ite (State.thmRecord_follows h2) h2)

theorem State.regionOff_follows {pre : State} {s : State} (fo : Follows pre s) {path : Path} {r : Nat} : Follows pre (s.regionOff path r) := by
  unfold State.regionOff
  apply Follows.ite
  · exact fo
  · apply Follows.ite
    · exact State.refuseStatic_follows fo
    · extract_lets s1 s2 s3
      have h1 : Follows pre s1 := State.setG_follows (State.setG_follows fo)
      clear_value s1
      have h2 : Follows pre s3 := h1.same (Eq.refl _) h1.mem (Eq.refl _) (Eq.refl _) (Eq.refl _) (Eq.refl _)
      clear_value s3
      exact State.thmRecord_follows (State.adjustQuads_follows h2)

theorem execRegionOff_follows {pre : State} {path : Path} {region : Region} {s : State} (fo : Follows pre s) : FollowsO pre (execRegionOff path region s) := by
  unfold execRegionOff
  apply State.pageWrite_follows
  · exact fo
  · intro x1 h1
    exact State.regionOff_follows h1

theorem execRegionOn_follows {pre : State} {path : Path} {region : Region} {s : State} (fo : Follows pre s) : FollowsO pre (execRegionOn path region s) := by
  unfold execRegionOn
  apply State.pageWrite_follows
  · exact fo
  · intro x1 h1
    exact State.regionBack_follows h1

/-! ### Operations that leave memory alone -/

theorem State.judgeTheta_memSame {pre : State} {s : State} (fo : MemSame pre s) {site : Nat} : MemSame pre (State.judgeTheta s site) := by
  unfold State.judgeTheta
  extract_lets s1 s2 s3 s4 s5 s6 s7 s8 s9
  have h1 : MemSame pre s6 := fo.same (Eq.refl _)
  clear_value s6
  have h2 : MemSame pre s8 := State.setG_memSame h1
  clear_value s8
  have h3 : MemSame pre s9 := State.setG_memSame h2
  clear_value s9
  exact MemSame.ite (State.thmRecord_memSame h3) h3

theorem State.setTheta_memSame {pre : State} {s : State} (fo : MemSame pre s) {site : Nat} {v : Nat} : MemSame pre (State.setTheta s site v) := by
  unfold State.setTheta
  apply State.judgeTheta_memSame
  apply State.setG_memSame
  exact fo.same (Eq.refl _)

theorem execThetaUpdate_memSame {pre : State} {site : Site} {watts : Fin 65536} {steady : Bool} {s : State} (fo : MemSame pre s) : MemSameO pre (execThetaUpdate site watts steady s) := by
  unfold execThetaUpdate
  extract_lets s1 s2 s3 s4
  exact MemSameO.ite (MemSameO.next fo) (MemSameO.next (State.refreshSite_memSame (State.setTheta_memSame fo)))

theorem State.rebase_memSame {pre : State} {s : State} (fo : MemSame pre s) : MemSame pre s.rebase := by
  unfold State.rebase
  apply State.allSites_memSame
  · exact fo
  · intro x1 x2 h1
    exact State.setG_memSame h1

theorem execRebase_memSame {pre : State} {path : Path} {s : State} (fo : MemSame pre s) : MemSameO pre (execRebase path s) := by
  unfold execRebase
  apply State.pageWrite_memSame
  · exact fo
  · intro x1 h1
    exact State.rebase_memSame h1

theorem execMonitorStaleTimeout_memSame {pre : State} {base : Bool} {place : Tile} {s : State} (fo : MemSame pre s) : MemSameO pre (execMonitorStaleTimeout base place s) := by
  unfold execMonitorStaleTimeout
  extract_lets s1 s2 s3
  apply MemSameO.ite
  · apply MemSameO.next
    apply State.thmRecord_memSame
    apply State.refreshTemp_memSame
    exact fo.same (Eq.refl _)
  · exact MemSameO.next fo

theorem State.episode_memSame {pre : State} {s : State} (fo : MemSame pre s) {cond : Nat} {place : Nat} {code : Nat} {site : Nat} {stack : Nat} : MemSame pre (s.episode cond place code site stack) := by
  unfold State.episode
  apply MemSame.ite
  · exact fo
  · apply State.thmRecord_memSame
    exact fo.same (Eq.refl _)

theorem execJunctionOverLimit_memSame {pre : State} {site : Site} {s : State} (fo : MemSame pre s) : MemSameO pre (execJunctionOverLimit site s) := by
  unfold execJunctionOverLimit
  apply MemSameO.ite
  · apply MemSameO.next
    apply State.episode_memSame
    exact fo.same (Eq.refl _)
  · exact MemSameO.next fo

theorem State.junctionHot_memSame {pre : State} {s : State} (fo : MemSame pre s) {site : Nat} : MemSame pre (s.junctionHot site) := by
  unfold State.junctionHot
  extract_lets s1 s2 s3
  have h1 : MemSame pre s1 := State.episode_memSame fo
  clear_value s1
  have h2 : MemSame pre s3 := h1.same (Eq.refl _)
  clear_value s3
  apply foldl_memSame
  · intro x1 x2 h3
    exact MemSame.ite (State.setG_memSame h3) h3
  · exact h2

theorem execJunctionHot_memSame {pre : State} {site : Site} {s : State} (fo : MemSame pre s) : MemSameO pre (execJunctionHot site s) := by
  unfold execJunctionHot
  exact MemSameO.ite (MemSameO.next (State.junctionHot_memSame fo)) (MemSameO.next fo)

theorem execStackHot85_memSame {pre : State} {stack : Stack} {t : Fin 256} {s : State} (fo : MemSame pre s) : MemSameO pre (execStackHot85 stack t s) := by
  unfold execStackHot85
  extract_lets s1
  have h1 : MemSame pre s1 := State.setG_memSame fo
  clear_value s1
  exact MemSameO.ite (MemSameO.next (State.episode_memSame (State.setG_memSame h1))) (MemSameO.next h1)

theorem execStackHot95_memSame {pre : State} {stack : Stack} {t : Fin 256} {s : State} (fo : MemSame pre s) : MemSameO pre (execStackHot95 stack t s) := by
  unfold execStackHot95
  extract_lets s1
  have h1 : MemSame pre s1 := State.setG_memSame fo
  clear_value s1
  exact MemSameO.ite (MemSameO.next (State.episode_memSame h1)) (MemSameO.next h1)

theorem execInletHigh_memSame {pre : State} {tIn : Fin 65536} {s : State} (fo : MemSame pre s) : MemSameO pre (execInletHigh tIn s) := by
  unfold execInletHigh
  extract_lets s1
  have h1 : MemSame pre s1 := State.setG_memSame fo
  clear_value s1
  exact MemSameO.ite (MemSameO.next (State.episode_memSame (State.setG_memSame h1))) (MemSameO.next h1)

theorem execFlowLow_memSame {pre : State} {flow : Fin 65536} {s : State} (fo : MemSame pre s) : MemSameO pre (execFlowLow flow s) := by
  unfold execFlowLow
  extract_lets s1
  have h1 : MemSame pre s1 := State.setG_memSame fo
  clear_value s1
  exact MemSameO.ite (MemSameO.next (State.episode_memSame (State.setG_memSame h1))) (MemSameO.next h1)

theorem execThermalEpisodeEnd_memSame {pre : State} {cond : Fin 9} {place : Fin 64} {s : State} (fo : MemSame pre s) : MemSameO pre (execThermalEpisodeEnd cond place s) := by
  unfold execThermalEpisodeEnd
  apply MemSameO.ite
  · extract_lets s1 s2 s3 s4
    have h1 : MemSame pre s2 := fo.same (Eq.refl _)
    clear_value s2
    have h2 : MemSame pre s3 := by
      unfold s3
      apply MemSame.ite
      · apply foldl_memSame
        · intro x1 x2 h3
          exact State.setG_memSame h3
        · exact h1
      · exact h1
    clear_value s3
    exact MemSameO.next (MemSame.ite (h2.same (Eq.refl _)) h2)
  · exact MemSameO.next fo

theorem State.release'_memSame {pre : State} {s : State} (fo : MemSame pre s) {path : Path} {site : Nat} : MemSame pre (s.release' path site) := by
  unfold State.release'
  apply MemSame.ite
  · exact State.refuseWrite_memSame fo
  · extract_lets s1 s2 s3
    have h1 : MemSame pre s1 := State.setG_memSame fo
    clear_value s1
    apply MemSame.ite
    · exact State.refuseWrite_memSame h1
    · apply MemSame.ite
      · apply State.refreshSite_memSame
        apply State.setG_memSame
        exact h1.same (Eq.refl _)
      · exact h1

theorem execSiteRelease_memSame {pre : State} {path : Path} {site : Fin 64} {s : State} (fo : MemSame pre s) : MemSameO pre (execSiteRelease path site s) := by
  unfold execSiteRelease
  apply State.pageWrite_memSame
  · exact fo
  · intro x1 h1
    exact State.release'_memSame h1

theorem State.stepK_memSame {pre : State} {s : State} (fo : MemSame pre s) {site : Nat} : MemSame pre (s.stepK site) := by
  unfold State.stepK
  extract_lets s1 s2
  exact MemSame.ite (State.setG_memSame fo) (MemSame.ite (State.setG_memSame fo) fo)

theorem State.thermalWindow_memSame {pre : State} {s : State} (fo : MemSame pre s) : MemSame pre (State.thermalWindow s) := by
  unfold State.thermalWindow
  extract_lets s1 s2
  have h1 : MemSame pre s2 := by
    unfold s2
    apply MemSame.ite
    · exact fo.same (Eq.refl _)
    · exact fo
  clear_value s2
  apply State.allSites_memSame
  · exact h1
  · intro x1 x2 h2
    exact State.judgeTheta_memSame (State.refreshSite_memSame (State.stepK_memSame (State.judgeOver_memSame h2)))

theorem execWarmingRotate_memSame {pre : State} {quads : List Quad} {watts : Fin 61} {s : State} (fo : MemSame pre s) : MemSameO pre (execWarmingRotate quads watts s) := by
  unfold execWarmingRotate
  extract_lets s1 s2 s3 s4 s5 s6 s7 s8 s9
  have h1 : MemSame pre s5 := fo.same (Eq.refl _)
  clear_value s5
  have h2 : MemSame pre s9 := by
    unfold s9
    apply State.setG_memSame
    exact h1.same (Eq.refl _)
  clear_value s9
  exact MemSameO.next (MemSame.ite (State.thmRecord_memSame h2) h2)

theorem State.regionOff_memSame {pre : State} {s : State} (fo : MemSame pre s) {path : Path} {r : Nat} : MemSame pre (s.regionOff path r) := by
  unfold State.regionOff
  apply MemSame.ite
  · exact fo
  · apply MemSame.ite
    · exact State.refuseStatic_memSame fo
    · extract_lets s1 s2 s3
      have h1 : MemSame pre s1 := State.setG_memSame (State.setG_memSame fo)
      clear_value s1
      have h2 : MemSame pre s3 := h1.same (Eq.refl _)
      clear_value s3
      exact State.thmRecord_memSame (State.adjustQuads_memSame h2)

theorem execRegionOff_memSame {pre : State} {path : Path} {region : Region} {s : State} (fo : MemSame pre s) : MemSameO pre (execRegionOff path region s) := by
  unfold execRegionOff
  apply State.pageWrite_memSame
  · exact fo
  · intro x1 h1
    exact State.regionOff_memSame h1

theorem execRegionOn_memSame {pre : State} {path : Path} {region : Region} {s : State} (fo : MemSame pre s) : MemSameO pre (execRegionOn path region s) := by
  unfold execRegionOn
  apply State.pageWrite_memSame
  · exact fo
  · intro x1 h1
    exact State.regionBack_memSame h1

end Sys2Proof.Machine
end

