-- ==== Sys2Proof/Laws/Bringup.lean ====
section
/-! SUPPORT. What the operations of Machine/Bringup.lean keep: one lemma for each, by the lemmas of those that it calls. -/

namespace Sys2Proof.Machine

open Sys2Proof

theorem State.activateStaged_follows {pre : State} {s : State} (fo : Follows pre s) : Follows pre s.activateStaged := by
  unfold State.activateStaged
  exact fo.same (Eq.refl _) fo.mem (Eq.refl _) (Eq.refl _) (Eq.refl _) (Eq.refl _)

theorem State.checkImages_follows {pre : State} {s : State} (fo : Follows pre s) {b : BringUp} {kinds : List Nat} : Follows pre (s.checkImages b kinds) := by
  unfold State.checkImages
  apply foldl_follows
  · intro x1 x2 h1
    extract_lets s1
    have h2 : ∀ (s : State), Follows pre s → Follows pre (s1 s) := by
      intro x3 h2
      unfold s1
      exact State.record_follows h2
    clear_value s1
    apply Follows.ite
    · apply h2
      · apply h2
        · exact h1
    · apply Follows.ite
      · apply h2
        · exact h1
      · exact h1
  · exact fo

theorem State.showFw_follows {pre : State} {s : State} (fo : Follows pre s) {b : BringUp} : Follows pre (s.showFw b) := by
  unfold State.showFw
  extract_lets s1
  exact State.setG_follows (State.setG_follows (State.setG_follows fo))

theorem State.haltWith_follows {pre : State} {s : State} (fo : Follows pre s) {why : Nat} : Follows pre (s.haltWith why) := by
  unfold State.haltWith
  extract_lets s1
  have h1 : Follows pre s1.snd := State.takeFree_follows fo
  clear_value s1
  exact State.setBoot_follows (State.setG_follows (State.setG_follows h1))

theorem State.disablePorts_follows {pre : State} {s : State} (fo : Follows pre s) : Follows pre s.disablePorts := by
  unfold State.disablePorts
  apply foldl_follows
  · intro x1 x2 h1
    exact State.setG_follows h1
  · exact fo

theorem State.becomeReady_follows {pre : State} {s : State} (fo : Follows pre s) : Follows pre s.becomeReady := by
  unfold State.becomeReady
  extract_lets s1
  have h1 : Follows pre s1 := by
    unfold s1
    apply foldl_follows
    · intro x1 x2 h1
      exact State.rimEffects_follows h1
    · exact State.disablePorts_follows fo
  clear_value s1
  exact State.setBoot_follows (State.setG_follows (State.setG_follows h1))

theorem State.readyCheck_follows {pre : State} {s : State} (fo : Follows pre s) {b : BringUp} : Follows pre (s.readyCheck b) := by
  unfold State.readyCheck
  extract_lets s1 s2 s3 s4 s5 s6
  have h1 : Follows pre s4 := by
    unfold s4
    apply foldl_follows
    · intro x1 x2 h1
      exact State.record_follows h1
    · exact fo
  clear_value s4
  have h2 : Follows pre s6 := h1.same (Eq.refl _) h1.mem (Eq.refl _) (Eq.refl _) (Eq.refl _) (Eq.refl _)
  clear_value s6
  clear_value s5
  clear_value s3
  clear_value s2
  clear_value s1
  split
  · exact State.becomeReady_follows h2
  · rename_i y1 y2 y3
    exact State.haltWith_follows h2

theorem State.acceptTopology_follows {pre : State} {s : State} (fo : Follows pre s) : Follows pre s.acceptTopology := by
  unfold State.acceptTopology
  extract_lets s1 s2 s3 s4 s5
  have h1 : Follows pre s5 := fo.same (Eq.refl _) fo.mem (Eq.refl _) (Eq.refl _) (Eq.refl _) (Eq.refl _)
  clear_value s5
  exact Follows.ite (State.rstRefused_follows fo) (Follows.ite (State.rstRefused_follows fo) (State.rstEnd_follows (State.becomeReady_follows (State.record_follows (State.rstBegin_follows h1)))))

theorem execAcceptTopology_follows {pre : State} {path : Path} {s : State} (fo : Follows pre s) : FollowsO pre (execAcceptTopology path s) := by
  unfold execAcceptTopology
  apply State.rstWrite_follows
  · exact fo
  · intro x1 h1
    exact State.acceptTopology_follows h1

theorem State.testRepairs_follows {pre : State} {s : State} (fo : Follows pre s) {b : BringUp} : Follows pre (s.testRepairs b) := by
  unfold State.testRepairs
  extract_lets s1 s2 s3
  have h1 : Follows pre s1 := by
    unfold s1
    apply foldl_follows
    · intro x1 x2 h1
      extract_lets s4
      exact State.setColumn_follows h1
    · exact fo
  clear_value s1
  have h2 : Follows pre s2 := by
    unfold s2
    apply foldl_follows
    · intro x1 x2 h2
      exact State.repairTile_follows h2
    · exact h1
  clear_value s2
  exact h2.same (Eq.refl _) h2.mem (Eq.refl _) (Eq.refl _) (Eq.refl _) (Eq.refl _)

theorem State.refence_follows {pre : State} {s : State} (fo : Follows pre s) : Follows pre s.refence := by
  unfold State.refence
  apply foldl_follows
  · intro x1 x2 h1
    apply Follows.ite
    · extract_lets s1
      exact State.setReg_follows (State.setReg_follows h1)
    · exact h1
  · exact fo

theorem State.powerQuads_follows {pre : State} {s : State} (fo : Follows pre s) {b : BringUp} : Follows pre (State.powerQuads s b) := by
  unfold State.powerQuads
  extract_lets s1
  have h1 : Follows pre s1 := by
    unfold s1
    apply foldl_follows
    · intro x1 x2 h2
      exact State.impairQuad_follows h2
    · exact fo
  clear_value s1
  apply foldl_follows
  · intro x3 x4 h3
    exact State.setG_follows (State.setG_follows h3)
  · exact h1

theorem State.freshSupplies_follows {pre : State} {s : State} (fo : Follows pre s) : Follows pre (State.freshSupplies s) := by
  unfold State.freshSupplies
  extract_lets s1 s2 s3 s4
  have h1 : Follows pre s3 := fo.same (Eq.refl _) fo.mem (Eq.refl _) (Eq.refl _) (Eq.refl _) (Eq.refl _)
  clear_value s3
  have h2 : Follows pre s4 := by
    unfold s4
    apply foldl_follows
    · intro x1 x2 h3
      exact State.setG_follows h3
    · exact State.setG_follows h1
  clear_value s4
  apply foldl_follows
  · intro x3 x4 h4
    exact State.setG_follows h4
  · exact h2

theorem State.freshTheta_follows {pre : State} {s : State} (fo : Follows pre s) : Follows pre (State.freshTheta s) := by
  unfold State.freshTheta
  extract_lets s1 s2
  have h1 : Follows pre s2 := fo.same (Eq.refl _) fo.mem (Eq.refl _) (Eq.refl _) (Eq.refl _) (Eq.refl _)
  clear_value s2
  apply State.allSites_follows
  · exact h1
  · intro x1 x2 h2
    exact State.judgeTheta_follows (State.resetReg_follows h2)

theorem State.bringReadings_follows {pre : State} {s : State} (fo : Follows pre s) {b : BringUp} : Follows pre (s.bringReadings b) := by
  unfold State.bringReadings
  extract_lets s1 s2 s3
  have h1 : Follows pre s3 := fo.same (Eq.refl _) fo.mem (Eq.refl _) (Eq.refl _) (Eq.refl _) (Eq.refl _)
  clear_value s3
  apply State.allSites_follows
  · exact h1
  · intro x1 x2 h2
    extract_lets s4
    have h3 : Follows pre s4 := Follows.ite (State.judgeSet_follows (State.setG_follows h2)) h2
    clear_value s4
    exact State.refreshTemp_follows (State.refreshSite_follows h3)

theorem State.calibrateAll_follows {pre : State} {s : State} (fo : Follows pre s) : Follows pre s.calibrateAll := by
  unfold State.calibrateAll
  extract_lets s1 s2 s3
  have h1 : Follows pre s1.snd := State.takeFree_follows fo
  clear_value s1
  have h2 : Follows pre s2 := h1
  clear_value s2
  exact h2.same (Eq.refl _) h2.mem (Eq.refl _) (Eq.refl _) (Eq.refl _) (Eq.refl _)

theorem State.restoreAll_follows {pre : State} {s : State} (fo : Follows pre s) {c : CalSt} : Follows pre (s.restoreAll c) := by
  unfold State.restoreAll
  apply foldl_follows
  · intro x1 x2 h1
    exact State.retrim_follows h1
  · exact fo.same (Eq.refl _) fo.mem (Eq.refl _) (Eq.refl _) (Eq.refl _) (Eq.refl _)

theorem State.bringUp_follows {pre : State} {s : State} (fo : Follows pre s) {b : BringUp} {kept : Option CalSt} : Follows pre (State.bringUp s b kept) := by
  unfold State.bringUp
  extract_lets s1 s2 s3 s4 s5 s6 s7 s8 s9 s10 s11
  have h1 : Follows pre s2 := by
    unfold s2
    apply State.lockClocks_follows
    apply State.setBoot_follows
    exact fo.same (Eq.refl _) fo.mem (Eq.refl _) (Eq.refl _) (Eq.refl _) (Eq.refl _)
  clear_value s2
  have h2 : Follows pre s3 := State.showFw_follows (State.checkImages_follows h1)
  clear_value s3
  have h3 : Follows pre s4 := State.bringReadings_follows (State.powerQuads_follows (State.refence_follows (State.freshTheta_follows (State.freshSupplies_follows h2))))
  clear_value s4
  have h4 : Follows pre s5 := State.calibrateAll_follows (State.testRepairs_follows (State.setBoot_follows h3))
  clear_value s5
  have h5 : Follows pre s7 := by
    unfold s7
    split
    · exact State.restoreAll_follows h3
    · exact h4.same (Eq.refl _) h4.mem (Eq.refl _) (Eq.refl _) (Eq.refl _) (Eq.refl _)
  clear_value s7
  have h6 : Follows pre s9 := h5.same (Eq.refl _) h5.mem (Eq.refl _) (Eq.refl _) (Eq.refl _) (Eq.refl _)
  clear_value s9
  have h7 : Follows pre s10 := State.setBoot_follows (State.setG_follows h6)
  clear_value s10
  have h8 : Follows pre s11 := by
    unfold s11
    apply foldl_follows
    · intro x1 x2 h9
      exact State.setKeyId_follows h9
    · exact h7
  clear_value s11
  exact Follows.ite (State.haltWith_follows h2) (State.readyCheck_follows (State.applyPlan_follows (State.checkCerts_follows h8)))

theorem State.took_follows {pre : State} {s : State} (fo : Follows pre s) {b : BringUp} : Follows pre (s.took b) := by
  unfold State.took
  exact fo.same (Eq.refl _) fo.mem (Eq.refl _) (Eq.refl _) (Eq.refl _) (Eq.refl _)

theorem State.readMain_follows {pre : State} {s : State} (fo : Follows pre s) {mv : Nat} : Follows pre (s.readMain mv) := by
  unfold State.readMain
  extract_lets s1 s2
  have h1 : Follows pre s1 := State.setG_follows fo
  clear_value s1
  exact h1.same (Eq.refl _) h1.mem (Eq.refl _) (Eq.refl _) (Eq.refl _) (Eq.refl _)

theorem State.coldStart_follows {pre : State} {s : State} (fo : Follows pre s) {b : BringUp} : Follows pre (s.coldStart b) := by
  unfold State.coldStart
  extract_lets s1 s2 s3 s4 s5
  have h1 : Follows pre s3 := by
    unfold s3
    apply State.activateStaged_follows
    exact fo.same (Eq.refl _) fo.mem (Eq.refl _) (Eq.refl _) (Eq.refl _) (Eq.refl _)
  clear_value s3
  have h2 : Follows pre s4 := State.readMain_follows (State.checkImages_follows h1)
  clear_value s4
  apply Follows.ite
  · exact State.haltWith_follows h2
  · apply Follows.ite
    · exact State.took_follows (State.bringUp_follows h2)
    · exact h2.same (Eq.refl _) h2.mem (Eq.refl _) (Eq.refl _) (Eq.refl _) (Eq.refl _)

theorem execColdStart_follows {pre : State} {found : BringUp} {s : State} (fo : Follows pre s) : FollowsO pre (execColdStart found s) := by
  unfold execColdStart
  exact FollowsO.ite (FollowsO.next fo) (FollowsO.next (State.coldStart_follows fo))

theorem execMainInputInRange_follows {pre : State} {found : BringUp} {s : State} (fo : Follows pre s) : FollowsO pre (execMainInputInRange found s) := by
  unfold execMainInputInRange
  apply FollowsO.ite
  · exact FollowsO.next fo
  · extract_lets s1
    have h1 : Follows pre s1 := State.readMain_follows fo
    clear_value s1
    exact FollowsO.ite (FollowsO.next (State.took_follows (State.bringUp_follows h1))) (FollowsO.next h1)

theorem State.warmLose_follows {pre : State} {s : State} (fo : Follows pre s) : Follows pre s.warmLose := by
  have h := State.loseAll_follows fo
  exact ⟨h.pending, fo.memOk.keep, h.sess, fo.log⟩

theorem State.warmReset_follows {pre : State} {s : State} (fo : Follows pre s) {b : BringUp} : Follows pre (s.warmReset b) := by
  unfold State.warmReset
  apply Follows.ite
  · extract_lets s1 s2
    exact State.took_follows (State.bringUp_follows (State.setBoot_follows (State.activateStaged_follows (State.warmLose_follows fo))))
  · exact fo

theorem execModuleWarm_follows {pre : State} {path : Path} {found : BringUp} {s : State} (fo : Follows pre s) : FollowsO pre (execModuleWarm path found s) := by
  unfold execModuleWarm
  apply State.rstWrite_follows
  · exact fo
  · intro x1 h1
    exact State.warmReset_follows h1

theorem State.perst_follows {pre : State} {s : State} (fo : Follows pre s) {b : BringUp} : Follows pre (s.perst b) := by
  unfold State.perst
  apply Follows.ite
  · exact State.warmReset_follows fo
  · extract_lets s1 s2
    have h1 : Follows pre s1 := by
      unfold s1
      apply foldl_follows
      · intro x1 x2 h1
        exact State.resetFn_follows h1
      · exact fo
    clear_value s1
    apply State.pcieDown_follows
    apply State.closeDoe_follows
    exact h1.same (Eq.refl _) h1.mem (Eq.refl _) (Eq.refl _) (Eq.refl _) (Eq.refl _)

theorem execPerst_follows {pre : State} {found : BringUp} {s : State} (fo : Follows pre s) : FollowsO pre (execPerst found s) := by
  unfold execPerst
  exact FollowsO.ite (FollowsO.next (State.perst_follows fo)) (FollowsO.next fo)

/-! ### Operations that leave memory alone -/

theorem State.activateStaged_memSame {pre : State} {s : State} (fo : MemSame pre s) : MemSame pre s.activateStaged := by
  unfold State.activateStaged
  exact fo.same (Eq.refl _)

theorem State.checkImages_memSame {pre : State} {s : State} (fo : MemSame pre s) {b : BringUp} {kinds : List Nat} : MemSame pre (s.checkImages b kinds) := by
  unfold State.checkImages
  apply foldl_memSame
  · intro x1 x2 h1
    extract_lets s1
    have h2 : ∀ (s : State), MemSame pre s → MemSame pre (s1 s) := by
      intro x3 h2
      unfold s1
      exact State.record_memSame h2
    clear_value s1
    apply MemSame.ite
    · apply h2
      · apply h2
        · exact h1
    · apply MemSame.ite
      · apply h2
        · exact h1
      · exact h1
  · exact fo

theorem State.showFw_memSame {pre : State} {s : State} (fo : MemSame pre s) {b : BringUp} : MemSame pre (s.showFw b) := by
  unfold State.showFw
  extract_lets s1
  exact State.setG_memSame (State.setG_memSame (State.setG_memSame fo))

theorem State.haltWith_memSame {pre : State} {s : State} (fo : MemSame pre s) {why : Nat} : MemSame pre (s.haltWith why) := by
  unfold State.haltWith
  extract_lets s1
  have h1 : MemSame pre s1.snd := State.takeFree_memSame fo
  clear_value s1
  exact State.setBoot_memSame (State.setG_memSame (State.setG_memSame h1))

theorem State.disablePorts_memSame {pre : State} {s : State} (fo : MemSame pre s) : MemSame pre s.disablePorts := by
  unfold State.disablePorts
  apply foldl_memSame
  · intro x1 x2 h1
    exact State.setG_memSame h1
  · exact fo

theorem State.refence_memSame {pre : State} {s : State} (fo : MemSame pre s) : MemSame pre s.refence := by
  unfold State.refence
  apply foldl_memSame
  · intro x1 x2 h1
    apply MemSame.ite
    · extract_lets s1
      exact State.setReg_memSame (State.setReg_memSame h1)
    · exact h1
  · exact fo

theorem State.powerQuads_memSame {pre : State} {s : State} (fo : MemSame pre s) {b : BringUp} : MemSame pre (State.powerQuads s b) := by
  unfold State.powerQuads
  extract_lets s1
  have h1 : MemSame pre s1 := by
    unfold s1
    apply foldl_memSame
    · intro x1 x2 h2
      exact State.impairQuad_memSame h2
    · exact fo
  clear_value s1
  apply foldl_memSame
  · intro x3 x4 h3
    exact State.setG_memSame (State.setG_memSame h3)
  · exact h1

theorem State.freshSupplies_memSame {pre : State} {s : State} (fo : MemSame pre s) : MemSame pre (State.freshSupplies s) := by
  unfold State.freshSupplies
  extract_lets s1 s2 s3 s4
  have h1 : MemSame pre s3 := fo.same (Eq.refl _)
  clear_value s3
  have h2 : MemSame pre s4 := by
    unfold s4
    apply foldl_memSame
    · intro x1 x2 h3
      exact State.setG_memSame h3
    · exact State.setG_memSame h1
  clear_value s4
  apply foldl_memSame
  · intro x3 x4 h4
    exact State.setG_memSame h4
  · exact h2

theorem State.bringReadings_memSame {pre : State} {s : State} (fo : MemSame pre s) {b : BringUp} : MemSame pre (s.bringReadings b) := by
  unfold State.bringReadings
  extract_lets s1 s2 s3
  have h1 : MemSame pre s3 := fo.same (Eq.refl _)
  clear_value s3
  apply State.allSites_memSame
  · exact h1
  · intro x1 x2 h2
    extract_lets s4
    have h3 : MemSame pre s4 := MemSame.ite (State.judgeSet_memSame (State.setG_memSame h2)) h2
    clear_value s4
    exact State.refreshTemp_memSame (State.refreshSite_memSame h3)

theorem State.calibrateAll_memSame {pre : State} {s : State} (fo : MemSame pre s) : MemSame pre s.calibrateAll := by
  unfold State.calibrateAll
  extract_lets s1 s2 s3
  have h1 : MemSame pre s1.snd := State.takeFree_memSame fo
  clear_value s1
  have h2 : MemSame pre s2 := h1
  clear_value s2
  exact h2.same (Eq.refl _)

theorem State.restoreAll_memSame {pre : State} {s : State} (fo : MemSame pre s) {c : CalSt} : MemSame pre (s.restoreAll c) := by
  unfold State.restoreAll
  apply foldl_memSame
  · intro x1 x2 h1
    exact State.retrim_memSame h1
  · exact fo.same (Eq.refl _)

theorem State.took_memSame {pre : State} {s : State} (fo : MemSame pre s) {b : BringUp} : MemSame pre (s.took b) := by
  unfold State.took
  exact fo.same (Eq.refl _)

theorem State.readMain_memSame {pre : State} {s : State} (fo : MemSame pre s) {mv : Nat} : MemSame pre (s.readMain mv) := by
  unfold State.readMain
  extract_lets s1 s2
  have h1 : MemSame pre s1 := State.setG_memSame fo
  clear_value s1
  exact h1.same (Eq.refl _)

end Sys2Proof.Machine
end

