-- ==== Sys2Proof/Laws/Firmware.lean ====
section
/-! SUPPORT. What the operations of Machine/Firmware.lean keep: one lemma for each, by the lemmas of those that it calls. -/

namespace Sys2Proof.Machine

open Sys2Proof

theorem State.setUpd_follows {pre : State} {s : State} (fo : Follows pre s) {v : Nat} : Follows pre (s.setUpd v) := by
  unfold State.setUpd
  apply Follows.ite
  · exact fo
  · apply State.raiseInt_follows
    apply State.setG_follows
    exact fo.same (Eq.refl _) fo.mem (Eq.refl _) (Eq.refl _) (Eq.refl _) (Eq.refl _)

theorem State.fwRefused_follows {pre : State} {s : State} (fo : Follows pre s) : Follows pre s.fwRefused := by
  unfold State.fwRefused
  exact State.record_follows fo

theorem State.fwWrite_follows {pre : State} {s : State} (fo : Follows pre s) {kind : Nat} {id : Nat} {signed : Bool} : Follows pre (s.fwWrite kind id signed) := by
  unfold State.fwWrite
  apply Follows.ite
  · exact State.fwRefused_follows fo
  · extract_lets s1 s2 s3
    have h1 : Follows pre s3 := fo.same (Eq.refl _) fo.mem (Eq.refl _) (Eq.refl _) (Eq.refl _) (Eq.refl _)
    clear_value s3
    exact Follows.ite (State.setUpd_follows (State.loseStandby_follows (State.setG_follows h1))) h1

theorem execFwImageWrite_follows {pre : State} {kind : Fin 5} {image : Fin 18446744073709551616} {signed : Bool} {s : State} (fo : Follows pre s) : FollowsO pre (execFwImageWrite kind image signed s) := by
  unfold execFwImageWrite
  exact FollowsO.ite (FollowsO.next (State.fwWrite_follows fo)) (FollowsO.next fo)

theorem execFwStandbyReady_follows {pre : State} {s : State} (fo : Follows pre s) : FollowsO pre (execFwStandbyReady s) := by
  unfold execFwStandbyReady
  exact FollowsO.ite (FollowsO.next (State.setUpd_follows (State.takeOver_follows (State.setG_follows fo)))) (FollowsO.next fo)

theorem execFwStandbyTimeout_follows {pre : State} {s : State} (fo : Follows pre s) : FollowsO pre (execFwStandbyTimeout s) := by
  unfold execFwStandbyTimeout
  exact FollowsO.ite (FollowsO.next (State.setUpd_follows (State.fwRefused_follows fo))) (FollowsO.next fo)

theorem execFwConfirmExpiry_follows {pre : State} {s : State} (fo : Follows pre s) : FollowsO pre (execFwConfirmExpiry s) := by
  unfold execFwConfirmExpiry
  apply FollowsO.ite
  · extract_lets s1 s2 s3
    have h1 : Follows pre s3 := fo.same (Eq.refl _) fo.mem (Eq.refl _) (Eq.refl _) (Eq.refl _) (Eq.refl _)
    clear_value s3
    exact FollowsO.next (State.setUpd_follows (State.loseStandby_follows (State.setG_follows h1)))
  · exact FollowsO.next fo

/-! ### Operations that leave memory alone -/

theorem State.setUpd_memSame {pre : State} {s : State} (fo : MemSame pre s) {v : Nat} : MemSame pre (s.setUpd v) := by
  unfold State.setUpd
  apply MemSame.ite
  · exact fo
  · apply State.raiseInt_memSame
    apply State.setG_memSame
    exact fo.same (Eq.refl _)

theorem State.fwRefused_memSame {pre : State} {s : State} (fo : MemSame pre s) : MemSame pre s.fwRefused := by
  unfold State.fwRefused
  exact State.record_memSame fo

theorem State.fwWrite_memSame {pre : State} {s : State} (fo : MemSame pre s) {kind : Nat} {id : Nat} {signed : Bool} : MemSame pre (s.fwWrite kind id signed) := by
  unfold State.fwWrite
  apply MemSame.ite
  · exact State.fwRefused_memSame fo
  · extract_lets s1 s2 s3
    have h1 : MemSame pre s3 := fo.same (Eq.refl _)
    clear_value s3
    exact MemSame.ite (State.setUpd_memSame (State.loseStandby_memSame (State.setG_memSame h1))) h1

theorem execFwImageWrite_memSame {pre : State} {kind : Fin 5} {image : Fin 18446744073709551616} {signed : Bool} {s : State} (fo : MemSame pre s) : MemSameO pre (execFwImageWrite kind image signed s) := by
  unfold execFwImageWrite
  exact MemSameO.ite (MemSameO.next (State.fwWrite_memSame fo)) (MemSameO.next fo)

theorem execFwStandbyTimeout_memSame {pre : State} {s : State} (fo : MemSame pre s) : MemSameO pre (execFwStandbyTimeout s) := by
  unfold execFwStandbyTimeout
  exact MemSameO.ite (MemSameO.next (State.setUpd_memSame (State.fwRefused_memSame fo))) (MemSameO.next fo)

theorem execFwConfirmExpiry_memSame {pre : State} {s : State} (fo : MemSame pre s) : MemSameO pre (execFwConfirmExpiry s) := by
  unfold execFwConfirmExpiry
  apply MemSameO.ite
  · extract_lets s1 s2 s3
    have h1 : MemSame pre s3 := fo.same (Eq.refl _)
    clear_value s3
    exact MemSameO.next (State.setUpd_memSame (State.loseStandby_memSame (State.setG_memSame h1)))
  · exact MemSameO.next fo

end Sys2Proof.Machine
end

