-- ==== Sys2Proof/Laws/Links.lean ====
section
/-! SUPPORT. What the operations of Machine/Links.lean keep: one lemma for each, by the lemmas of those that it calls. -/

namespace Sys2Proof.Machine

open Sys2Proof

theorem State.linkRecord_follows {pre : State} {s : State} (fo : Follows pre s) {code : Nat} {port : Nat} {lane : Nat} : Follows pre (s.linkRecord code port lane) := by
  unfold State.linkRecord
  exact State.record_follows fo

theorem State.secRecord_follows {pre : State} {s : State} (fo : Follows pre s) {code : Nat} : Follows pre (s.secRecord code) := by
  unfold State.secRecord
  exact State.record_follows fo

theorem State.sendPending_follows {pre : State} {s : State} (fo : Follows pre s) : Follows pre s.sendPending := by
  unfold State.sendPending
  apply foldl_follows
  · intro x1 x2 h1
    apply Follows.ite
    · apply State.emit_follows
      exact h1.same (Eq.refl _) h1.mem (Eq.refl _) (Eq.refl _) (Eq.refl _) (Eq.refl _)
    · exact h1
  · exact fo

theorem execPcieLinkUp_follows {pre : State} {speed : Fin 7} {lanes : Fin 5} {flit : Bool} {s : State} (fo : Follows pre s) : FollowsO pre (execPcieLinkUp speed lanes flit s) := by
  unfold execPcieLinkUp
  apply FollowsO.ite
  · exact FollowsO.next fo
  · extract_lets s1 s2
    have h1 : Follows pre s1 := State.setG_follows (State.setG_follows (State.setG_follows fo))
    clear_value s1
    apply FollowsO.next
    apply State.sendPending_follows
    exact h1.same (Eq.refl _) h1.mem (Eq.refl _) (Eq.refl _) (Eq.refl _) (Eq.refl _)

theorem execPcieLinkDown_follows {pre : State} {s : State} (fo : Follows pre s) : FollowsO pre (execPcieLinkDown s) := by
  unfold execPcieLinkDown
  exact FollowsO.next (State.pcieDown_follows fo)

theorem execBusMasterEnableChange_follows {pre : State} {change : BusChange} {s : State} (fo : Follows pre s) : FollowsO pre (execBusMasterEnableChange change s) := by
  unfold execBusMasterEnableChange
  apply FollowsO.ite
  · exact FollowsO.next fo
  · split
    · rename_i y1 y2
      apply FollowsO.next
      apply State.sendPending_follows
      exact fo.same (Eq.refl _) fo.mem (Eq.refl _) (Eq.refl _) (Eq.refl _) (Eq.refl _)
    · rename_i y1 y2 y3
      apply FollowsO.ite
      · exact FollowsO.next fo
      · apply FollowsO.next
        apply State.sendPending_follows
        exact fo.same (Eq.refl _) fo.mem (Eq.refl _) (Eq.refl _) (Eq.refl _) (Eq.refl _)

theorem execIdeCheckFail_follows {pre : State} {read : IdeRead} {s : State} (fo : Follows pre s) : FollowsO pre (execIdeCheckFail read s) := by
  unfold execIdeCheckFail
  apply FollowsO.ite
  · exact FollowsO.next fo
  · extract_lets s1
    have h1 : Follows pre s1 := State.secRecord_follows fo
    clear_value s1
    split
    · exact FollowsO.next h1
    · rename_i y1 y2
      exact execPromptReadDone_follows h1
    · rename_i y1 y2
      exact execResumeReady_follows h1
    · rename_i y1 y2 y3
      exact execShardFetchError_follows h1

theorem execEthPortUp_follows {pre : State} {port : Fin 4} {s : State} (fo : Follows pre s) : FollowsO pre (execEthPortUp port s) := by
  unfold execEthPortUp
  exact FollowsO.ite (FollowsO.next fo) (FollowsO.next (State.setG_follows fo))

theorem execEthPortDown_follows {pre : State} {port : Fin 4} {s : State} (fo : Follows pre s) : FollowsO pre (execEthPortDown port s) := by
  unfold execEthPortDown
  exact FollowsO.next (State.ethDown_follows fo)

theorem execEthFrame_follows {pre : State} {port : Fin 4} {frame : EthFrame} {s : State} (fo : Follows pre s) : FollowsO pre (execEthFrame port frame s) := by
  unfold execEthFrame
  extract_lets s1
  exact FollowsO.ite (FollowsO.next fo) (FollowsO.ite (FollowsO.next (State.addReg_follows fo)) (FollowsO.ite (FollowsO.next (State.addReg_follows fo)) (FollowsO.ite (FollowsO.next (State.emit_follows fo)) (FollowsO.next fo))))

theorem State.correct_follows {pre : State} {s : State} (fo : Follows pre s) {ofs : Int} {port : Nat} : Follows pre (s.correct ofs port) := by
  unfold State.correct
  apply Follows.ite
  · exact fo.same (Eq.refl _) fo.mem (Eq.refl _) (Eq.refl _) (Eq.refl _) (Eq.refl _)
  · apply State.linkRecord_follows
    exact fo.same (Eq.refl _) fo.mem (Eq.refl _) (Eq.refl _) (Eq.refl _) (Eq.refl _)

theorem execPtpMessage_follows {pre : State} {port : Fin 4} {domain : Fin 256} {transport : Fin 4} {offset : Int} {rate : Fin 65536} {s : State} (fo : Follows pre s) : FollowsO pre (execPtpMessage port domain transport offset rate s) := by
  unfold execPtpMessage
  exact FollowsO.ite (FollowsO.next (State.correct_follows (State.setG_follows (State.setG_follows (State.setG_follows fo))))) (FollowsO.next fo)

theorem execPtpLockLoss_follows {pre : State} {s : State} (fo : Follows pre s) : FollowsO pre (execPtpLockLoss s) := by
  unfold execPtpLockLoss
  apply FollowsO.ite
  · apply FollowsO.next
    apply State.linkRecord_follows
    apply State.setG_follows
    exact fo.same (Eq.refl _) fo.mem (Eq.refl _) (Eq.refl _) (Eq.refl _) (Eq.refl _)
  · exact FollowsO.next fo

theorem execPpsInPulse_follows {pre : State} {ns : Fin 1000000000} {s : State} (fo : Follows pre s) : FollowsO pre (execPpsInPulse ns s) := by
  unfold execPpsInPulse
  apply FollowsO.ite
  · extract_lets s1 s2
    apply FollowsO.next
    apply State.correct_follows
    apply State.setG_follows
    apply State.setG_follows
    exact fo.same (Eq.refl _) fo.mem (Eq.refl _) (Eq.refl _) (Eq.refl _) (Eq.refl _)
  · exact FollowsO.next fo

/-! ### Operations that leave memory alone -/

theorem State.linkRecord_memSame {pre : State} {s : State} (fo : MemSame pre s) {code : Nat} {port : Nat} {lane : Nat} : MemSame pre (s.linkRecord code port lane) := by
  unfold State.linkRecord
  exact State.record_memSame fo

theorem State.secRecord_memSame {pre : State} {s : State} (fo : MemSame pre s) {code : Nat} : MemSame pre (s.secRecord code) := by
  unfold State.secRecord
  exact State.record_memSame fo

theorem State.sendPending_memSame {pre : State} {s : State} (fo : MemSame pre s) : MemSame pre s.sendPending := by
  unfold State.sendPending
  apply foldl_memSame
  · intro x1 x2 h1
    apply MemSame.ite
    · apply State.emit_memSame
      exact h1.same (Eq.refl _)
    · exact h1
  · exact fo

theorem execPcieLinkUp_memSame {pre : State} {speed : Fin 7} {lanes : Fin 5} {flit : Bool} {s : State} (fo : MemSame pre s) : MemSameO pre (execPcieLinkUp speed lanes flit s) := by
  unfold execPcieLinkUp
  apply MemSameO.ite
  · exact MemSameO.next fo
  · extract_lets s1 s2
    have h1 : MemSame pre s1 := State.setG_memSame (State.setG_memSame (State.setG_memSame fo))
    clear_value s1
    apply MemSameO.next
    apply State.sendPending_memSame
    exact h1.same (Eq.refl _)

theorem execPcieLinkDown_memSame {pre : State} {s : State} (fo : MemSame pre s) : MemSameO pre (execPcieLinkDown s) := by
  unfold execPcieLinkDown
  exact MemSameO.next (State.pcieDown_memSame fo)

theorem execBusMasterEnableChange_memSame {pre : State} {change : BusChange} {s : State} (fo : MemSame pre s) : MemSameO pre (execBusMasterEnableChange change s) := by
  unfold execBusMasterEnableChange
  apply MemSameO.ite
  · exact MemSameO.next fo
  · split
    · rename_i y1 y2
      apply MemSameO.next
      apply State.sendPending_memSame
      exact fo.same (Eq.refl _)
    · rename_i y1 y2 y3
      apply MemSameO.ite
      · exact MemSameO.next fo
      · apply MemSameO.next
        apply State.sendPending_memSame
        exact fo.same (Eq.refl _)

theorem execEthPortUp_memSame {pre : State} {port : Fin 4} {s : State} (fo : MemSame pre s) : MemSameO pre (execEthPortUp port s) := by
  unfold execEthPortUp
  exact MemSameO.ite (MemSameO.next fo) (MemSameO.next (State.setG_memSame fo))

theorem execEthPortDown_memSame {pre : State} {port : Fin 4} {s : State} (fo : MemSame pre s) : MemSameO pre (execEthPortDown port s) := by
  unfold execEthPortDown
  exact MemSameO.next (State.ethDown_memSame fo)

theorem execEthFrame_memSame {pre : State} {port : Fin 4} {frame : EthFrame} {s : State} (fo : MemSame pre s) : MemSameO pre (execEthFrame port frame s) := by
  unfold execEthFrame
  extract_lets s1
  exact MemSameO.ite (MemSameO.next fo) (MemSameO.ite (MemSameO.next (State.addReg_memSame fo)) (MemSameO.ite (MemSameO.next (State.addReg_memSame fo)) (MemSameO.ite (MemSameO.next (State.emit_memSame fo)) (MemSameO.next fo))))

theorem State.correct_memSame {pre : State} {s : State} (fo : MemSame pre s) {ofs : Int} {port : Nat} : MemSame pre (s.correct ofs port) := by
  unfold State.correct
  apply MemSame.ite
  · exact fo.same (Eq.refl _)
  · apply State.linkRecord_memSame
    exact fo.same (Eq.refl _)

theorem execPtpMessage_memSame {pre : State} {port : Fin 4} {domain : Fin 256} {transport : Fin 4} {offset : Int} {rate : Fin 65536} {s : State} (fo : MemSame pre s) : MemSameO pre (execPtpMessage port domain transport offset rate s) := by
  unfold execPtpMessage
  exact MemSameO.ite (MemSameO.next (State.correct_memSame (State.setG_memSame (State.setG_memSame (State.setG_memSame fo))))) (MemSameO.next fo)

theorem execPtpLockLoss_memSame {pre : State} {s : State} (fo : MemSame pre s) : MemSameO pre (execPtpLockLoss s) := by
  unfold execPtpLockLoss
  apply MemSameO.ite
  · apply MemSameO.next
    apply State.linkRecord_memSame
    apply State.setG_memSame
    exact fo.same (Eq.refl _)
  · exact MemSameO.next fo

theorem execPpsInPulse_memSame {pre : State} {ns : Fin 1000000000} {s : State} (fo : MemSame pre s) : MemSameO pre (execPpsInPulse ns s) := by
  unfold execPpsInPulse
  apply MemSameO.ite
  · extract_lets s1 s2
    apply MemSameO.next
    apply State.correct_memSame
    apply State.setG_memSame
    apply State.setG_memSame
    exact fo.same (Eq.refl _)
  · exact MemSameO.next fo

end Sys2Proof.Machine
end

