-- ==== Sys2Proof/Laws/Aqueduct.lean ====
section
/-! SUPPORT. What the operations of Machine/Aqueduct.lean keep: one lemma for each, by the lemmas of those that it calls. -/

namespace Sys2Proof.Machine

open Sys2Proof

theorem State.settlePort_follows {pre : State} {s : State} (fo : Follows pre s) {n : Nat} : Follows pre (s.settlePort n) := by
  unfold State.settlePort
  extract_lets s1
  exact State.setG_follows (State.setG_follows fo)

theorem State.leavePort_follows {pre : State} {s : State} (fo : Follows pre s) {n : Nat} {st : Nat} : Follows pre (s.leavePort n st) := by
  unfold State.leavePort
  exact State.updPort_follows (State.setG_follows (State.setG_follows fo))

theorem State.portFails_follows {pre : State} {s : State} (fo : Follows pre s) {n : Nat} {lane : Nat} : Follows pre (s.portFails n lane) := by
  unfold State.portFails
  exact State.linkRecord_follows (State.leavePort_follows fo)

theorem State.retrainPort_follows {pre : State} {s : State} (fo : Follows pre s) {n : Nat} : Follows pre (s.retrainPort n) := by
  unfold State.retrainPort
  extract_lets s1
  have h1 : Follows pre s1 := State.addReg_follows (State.updPort_follows (State.leavePort_follows fo))
  clear_value s1
  exact State.linkRecord_follows h1

theorem execAqdTrainRetry_follows {pre : State} {port : Site} {s : State} (fo : Follows pre s) : FollowsO pre (execAqdTrainRetry port s) := by
  unfold execAqdTrainRetry
  extract_lets s1 s2
  have h1 : Follows pre s2 := State.setG_follows (State.resetReg_follows (State.setG_follows fo))
  clear_value s2
  exact FollowsO.ite (FollowsO.next (State.updPort_follows h1)) (FollowsO.next fo)

theorem execAqdRetrainTimeout_follows {pre : State} {port : Site} {s : State} (fo : Follows pre s) : FollowsO pre (execAqdRetrainTimeout port s) := by
  unfold execAqdRetrainTimeout
  extract_lets s1
  exact FollowsO.ite (FollowsO.next (Follows.ite (State.portFails_follows fo) (State.leavePort_follows fo))) (FollowsO.next fo)

theorem State.sendLink_follows {pre : State} {s : State} (fo : Follows pre s) {n : Nat} : Follows pre (State.sendLink s n) := by
  unfold State.sendLink
  extract_lets s1
  exact State.sendPlain_follows fo

theorem execAqdLinkMessage_follows {pre : State} {port : Site} {peer : LinkPeer} {s : State} (fo : Follows pre s) : FollowsO pre (execAqdLinkMessage port peer s) := by
  unfold execAqdLinkMessage
  extract_lets s1 s2 s3 s4
  have h1 : Follows pre s2 := State.sendLink_follows fo
  clear_value s2
  have h2 : Follows pre s3 := State.setG_follows (State.updPort_follows h1)
  clear_value s3
  have h3 : Follows pre s4 := State.settlePort_follows h2
  clear_value s4
  exact FollowsO.ite (FollowsO.next fo) (FollowsO.ite (FollowsO.next (State.linkRecord_follows (State.leavePort_follows fo))) (FollowsO.ite (FollowsO.next (State.linkRecord_follows (State.leavePort_follows h1))) (FollowsO.next (Follows.ite (State.linkRecord_follows h3) h3))))

theorem State.sendNak_follows {pre : State} {s : State} (fo : Follows pre s) {n : Nat} : Follows pre (State.sendNak s n) := by
  unfold State.sendNak
  exact State.addReg_follows (State.sendCtrl_follows fo)

theorem State.takeNak_follows {pre : State} {s : State} (fo : Follows pre s) {n : Nat} {from_ : Nat} : Follows pre (State.takeNak s n from_) := by
  unfold State.takeNak
  extract_lets s1
  have h1 : Follows pre s1 := State.updPort_follows (State.addReg_follows fo)
  clear_value s1
  apply Follows.ite
  · exact State.retrainPort_follows h1
  · apply foldl_follows
    · intro x1 x2 h2
      exact State.putFlit_follows h2
    · exact h1

theorem execAqdFlitReceive_follows {pre : State} {port : Site} {flit : AqdFlit} {s : State} (fo : Follows pre s) : FollowsO pre (execAqdFlitReceive port flit s) := by
  unfold execAqdFlitReceive
  extract_lets s1 s2
  have h1 : Follows pre s2 := Follows.ite (State.updPort_follows fo) fo
  clear_value s2
  apply FollowsO.ite
  · exact FollowsO.next fo
  · apply FollowsO.ite
    · exact FollowsO.next (State.sendNak_follows fo)
    · apply FollowsO.ite
      · exact FollowsO.ite (FollowsO.next (State.updPort_follows h1)) (FollowsO.next (State.sendNak_follows h1))
      · split
        · rename_i y1 y2 y3
          exact FollowsO.ite (FollowsO.next (State.takeNak_follows h1)) (FollowsO.next h1)
        · exact FollowsO.next h1

theorem execAqdAckTimeout_follows {pre : State} {port : Site} {s : State} (fo : Follows pre s) : FollowsO pre (execAqdAckTimeout port s) := by
  unfold execAqdAckTimeout
  extract_lets s1
  exact FollowsO.ite (FollowsO.next (State.retrainPort_follows fo)) (FollowsO.next fo)

theorem State.setLane_follows {pre : State} {s : State} (fo : Follows pre s) {n : Nat} {k : Nat} {v : Nat} : Follows pre (s.setLane n k v) := by
  unfold State.setLane
  exact State.setG_follows fo

theorem State.moveLanes_follows {pre : State} {s : State} (fo : Follows pre s) {n : Nat} : Follows pre (s.moveLanes n) := by
  unfold State.moveLanes
  apply foldl_follows
  · intro x1 x2 h1
    apply Follows.ite
    · split
      · rename_i y1 y2 y3
        exact State.setLane_follows h1
      · exact h1
    · exact h1
  · exact fo

theorem execAqdLaneSwap_follows {pre : State} {port : Site} {lane : Fin 9} {passes : Bool} {s : State} (fo : Follows pre s) : FollowsO pre (execAqdLaneSwap port lane passes s) := by
  unfold execAqdLaneSwap
  extract_lets s1 s2 s3 s4 s5 s6
  have h1 : Follows pre s3 := State.updPort_follows fo
  clear_value s3
  have h2 : Follows pre s4 := State.moveLanes_follows (State.sendCtrl_follows h1)
  clear_value s4
  have h3 : Follows pre s5 := Follows.ite (State.updPort_follows h2) h2
  clear_value s5
  have h4 : Follows pre s6 := State.moveLanes_follows h1
  clear_value s6
  exact FollowsO.ite (FollowsO.next fo) (FollowsO.ite (FollowsO.next (State.linkRecord_follows (State.addReg_follows (State.setG_follows h3)))) (FollowsO.ite (FollowsO.next (State.portFails_follows h1)) (FollowsO.next (State.linkRecord_follows (Follows.ite h4 (State.setG_follows h4))))))

theorem State.dack_follows {pre : State} {s : State} (fo : Follows pre s) {n : Nat} {tag : Nat} : Follows pre (s.dack n tag) := by
  unfold State.dack
  exact State.sendMsg_follows fo

theorem State.dbusy_follows {pre : State} {s : State} (fo : Follows pre s) {n : Nat} {tag : Nat} {refused : Bool} : Follows pre (s.dbusy n tag refused) := by
  unfold State.dbusy
  exact State.sendMsg_follows fo

theorem State.streamRow_follows {pre : State} {s : State} (fo : Follows pre s) {n : Nat} {tag : Nat} {p : Nat} {t : Nat} {drow : Nat} {data : List Byte} : Follows pre (State.streamRow s n tag p t drow data) := by
  unfold State.streamRow
  apply Follows.ite
  · exact State.dack_follows (State.updTile_follows (State.dlvWrite_follows fo))
  · extract_lets s1 s2
    exact Follows.ite (State.dbusy_follows (State.updTile_follows (State.lostRecord_follows fo))) (State.dbusy_follows (State.updTile_follows fo))

theorem execAqdStream_follows {pre : State} {port : Site} {tag : Fin 65536} {dtile : Fin 1048576} {drow : Fin 1024} {rcrc : Word32} {data : List Byte} {s : State} (fo : Follows pre s) : FollowsO pre (execAqdStream port tag dtile drow rcrc data s) := by
  unfold execAqdStream
  extract_lets s1 s2
  apply FollowsO.ite
  · exact FollowsO.next fo
  · clear_value s2
    clear_value s1
    split
    · exact FollowsO.next (State.dbusy_follows (State.record_follows fo))
    · rename_i y1 y2 y3
      exact FollowsO.ite (FollowsO.next (State.streamRow_follows fo)) (FollowsO.next fo)

theorem execAqdDack_follows {pre : State} {port : Site} {tag : Fin 65536} {s : State} (fo : Follows pre s) : FollowsO pre (execAqdDack port tag s) := by
  unfold execAqdDack
  split
  · exact FollowsO.next (State.updPort_follows fo)
  · rename_i y3 y4 y5 y6
    extract_lets s1
    have h1 : Follows pre s1 := State.updPort_follows fo
    clear_value s1
    split
    · exact FollowsO.next (State.answer_follows (State.setFlight_follows h1))
    · exact FollowsO.next h1

theorem execAqdDbusy_follows {pre : State} {port : Site} {tag : Fin 65536} {refused : Bool} {s : State} (fo : Follows pre s) : FollowsO pre (execAqdDbusy port tag refused s) := by
  unfold execAqdDbusy
  extract_lets s1 s2 s3
  have h1 : Follows pre s2 := State.updPort_follows fo
  clear_value s2
  have h2 : Follows pre s3 := State.updPort_follows fo
  clear_value s3
  split
  · rename_i y1 y2
    split
    · exact FollowsO.next fo
    · exact FollowsO.next (Follows.ite h1 (State.sendTold_follows h1))
  · rename_i y10 y11 y12 y13
    split
    · exact FollowsO.next (Follows.ite (State.answer_follows (State.setFlight_follows h2)) (State.answer_follows h2))
    · exact FollowsO.next h2

theorem State.chainMsg_follows {pre : State} {s : State} (fo : Follows pre s) {port : Nat} {tag : Nat} {mine : Bool} {act : State → State} (foact : ∀ (a : State), Follows pre a → Follows pre (act a)) : FollowsO pre (s.chainMsg port tag mine act) := by
  unfold State.chainMsg
  apply FollowsO.ite
  · exact FollowsO.next fo
  · apply FollowsO.ite
    · apply FollowsO.next
      apply State.dack_follows
      apply foact
      · exact fo
    · exact FollowsO.next (State.dbusy_follows fo)

theorem State.bindShadow_follows {pre : State} {s : State} (fo : Follows pre s) {p : Nat} {h : Nat} {r : Nat} {lc : Nat} {lp : Nat} {slot : Nat} : Follows pre (s.bindShadow p h r lc lp slot) := by
  unfold State.bindShadow
  extract_lets s1 s2 s3 s4
  have h1 : Follows pre s2 := fo.same (Eq.refl _) fo.mem (Eq.refl _) (Eq.refl _) (Eq.refl _) (Eq.refl _)
  clear_value s2
  have h2 : Follows pre s4 := State.setReq_follows h1
  clear_value s4
  exact State.writeLists_follows (State.allocPages_follows h2)

theorem execAqdBind_follows {pre : State} {port : Site} {tag : Fin 65536} {part : Part} {head : Req} {lc : Fin 4294967296} {lp : Fin 4294967296} {_nqt : Fin 65536} {slot : Fin 1024} {s : State} (fo : Follows pre s) : FollowsO pre (execAqdBind port tag part head lc lp _nqt slot s) := by
  unfold execAqdBind
  extract_lets s1 s2
  apply State.chainMsg_follows
  · exact fo
  · intro x1 h1
    exact State.bindShadow_follows h1

theorem execAqdEnd_follows {pre : State} {port : Site} {tag : Fin 65536} {part : Part} {head : Req} {s : State} (fo : Follows pre s) : FollowsO pre (execAqdEnd port tag part head s) := by
  unfold execAqdEnd
  apply State.chainMsg_follows
  · exact fo
  · intro x1 h1
    exact State.updPart_follows h1

theorem execAqdResult_follows {pre : State} {port : Site} {tag : Fin 65536} {part : Part} {slot : Fin 1024} {row : Option (List Byte)} {s : State} (fo : Follows pre s) : FollowsO pre (execAqdResult port tag part slot row s) := by
  unfold execAqdResult
  apply State.chainMsg_follows
  · exact fo
  · intro x1 h1
    exact State.updPart_follows h1

theorem execAqdLost_follows {pre : State} {port : Site} {tag : Fin 65536} {part : Part} {head : Req} {pos : Fin 4294967296} {s : State} (fo : Follows pre s) : FollowsO pre (execAqdLost port tag part head pos s) := by
  unfold execAqdLost
  apply State.chainMsg_follows
  · exact fo
  · intro x1 h1
    exact State.updPart_follows h1

theorem State.setStops_follows {pre : State} {s : State} (fo : Follows pre s) {p : Nat} : Follows pre (s.setStops p) := by
  unfold State.setStops
  apply Follows.ite
  · extract_lets s1
    have h1 : Follows pre s1 := State.setPstate_follows (State.updPart_follows fo)
    clear_value s1
    exact Follows.ite (State.stopReached_follows h1) h1
  · exact fo

theorem execAqdStop_follows {pre : State} {port : Site} {tag : Fin 65536} {part : Part} {s : State} (fo : Follows pre s) : FollowsO pre (execAqdStop port tag part s) := by
  unfold execAqdStop
  apply State.chainMsg_follows
  · exact fo
  · intro x1 h1
    exact State.setStops_follows h1

theorem State.forwardMark_follows {pre : State} {s : State} (fo : Follows pre s) {chain : Nat} {head : Nat} {k : Nat} {ptp : Nat} : Follows pre (s.forwardMark chain head k ptp) := by
  unfold State.forwardMark
  apply foldl_follows
  · intro x1 x2 h1
    exact State.sendFlit_follows (State.emit_follows h1)
  · exact fo

theorem State.takeMark_follows {pre : State} {s : State} (fo : Follows pre s) {p : Nat} {k : Nat} : Follows pre (s.takeMark p k) := by
  unfold State.takeMark
  extract_lets s1 s2
  exact fo.same (Eq.refl _) fo.mem (Eq.refl _) (Eq.refl _) (Eq.refl _) (Eq.refl _)

theorem execAqdMark_follows {pre : State} {port : Site} {chain : Fin 65536} {head : Part} {part : Part} {k : Fin 18446744073709551616} {ptp : Fin 18446744073709551616} {s : State} (fo : Follows pre s) : FollowsO pre (execAqdMark port chain head part k ptp s) := by
  unfold execAqdMark
  split
  · exact FollowsO.next fo
  · rename_i y1 y2 y3
    apply FollowsO.ite
    · extract_lets s1
      have h1 : Follows pre s1 := State.forwardMark_follows fo
      clear_value s1
      exact FollowsO.next (Follows.ite (State.takeMark_follows h1) h1)
    · exact FollowsO.next fo

theorem execMarkTimeout_follows {pre : State} {part : Part} {s : State} (fo : Follows pre s) : FollowsO pre (execMarkTimeout part s) := by
  unfold execMarkTimeout
  extract_lets s1
  split
  · exact FollowsO.next fo
  · rename_i y1 y2 y3
    exact FollowsO.ite (FollowsO.next (State.cascadeStop_follows (State.record_follows fo))) (FollowsO.next fo)

/-! ### Operations that leave memory alone -/

theorem State.settlePort_memSame {pre : State} {s : State} (fo : MemSame pre s) {n : Nat} : MemSame pre (s.settlePort n) := by
  unfold State.settlePort
  extract_lets s1
  exact State.setG_memSame (State.setG_memSame fo)

theorem State.leavePort_memSame {pre : State} {s : State} (fo : MemSame pre s) {n : Nat} {st : Nat} : MemSame pre (s.leavePort n st) := by
  unfold State.leavePort
  exact State.updPort_memSame (State.setG_memSame (State.setG_memSame fo))

theorem State.portFails_memSame {pre : State} {s : State} (fo : MemSame pre s) {n : Nat} {lane : Nat} : MemSame pre (s.portFails n lane) := by
  unfold State.portFails
  exact State.linkRecord_memSame (State.leavePort_memSame fo)

theorem State.retrainPort_memSame {pre : State} {s : State} (fo : MemSame pre s) {n : Nat} : MemSame pre (s.retrainPort n) := by
  unfold State.retrainPort
  extract_lets s1
  have h1 : MemSame pre s1 := State.addReg_memSame (State.updPort_memSame (State.leavePort_memSame fo))
  clear_value s1
  exact State.linkRecord_memSame h1

theorem execAqdTrainRetry_memSame {pre : State} {port : Site} {s : State} (fo : MemSame pre s) : MemSameO pre (execAqdTrainRetry port s) := by
  unfold execAqdTrainRetry
  extract_lets s1 s2
  have h1 : MemSame pre s2 := State.setG_memSame (State.resetReg_memSame (State.setG_memSame fo))
  clear_value s2
  exact MemSameO.ite (MemSameO.next (State.updPort_memSame h1)) (MemSameO.next fo)

theorem execAqdRetrainTimeout_memSame {pre : State} {port : Site} {s : State} (fo : MemSame pre s) : MemSameO pre (execAqdRetrainTimeout port s) := by
  unfold execAqdRetrainTimeout
  extract_lets s1
  exact MemSameO.ite (MemSameO.next (MemSame.ite (State.portFails_memSame fo) (State.leavePort_memSame fo))) (MemSameO.next fo)

theorem State.sendLink_memSame {pre : State} {s : State} (fo : MemSame pre s) {n : Nat} : MemSame pre (State.sendLink s n) := by
  unfold State.sendLink
  extract_lets s1
  exact State.sendPlain_memSame fo

theorem execAqdLinkMessage_memSame {pre : State} {port : Site} {peer : LinkPeer} {s : State} (fo : MemSame pre s) : MemSameO pre (execAqdLinkMessage port peer s) := by
  unfold execAqdLinkMessage
  extract_lets s1 s2 s3 s4
  have h1 : MemSame pre s2 := State.sendLink_memSame fo
  clear_value s2
  have h2 : MemSame pre s3 := State.setG_memSame (State.updPort_memSame h1)
  clear_value s3
  have h3 : MemSame pre s4 := State.settlePort_memSame h2
  clear_value s4
  exact MemSameO.ite (MemSameO.next fo) (MemSameO.ite (MemSameO.next (State.linkRecord_memSame (State.leavePort_memSame fo))) (MemSameO.ite (MemSameO.next (State.linkRecord_memSame (State.leavePort_memSame h1))) (MemSameO.next (MemSame.ite (State.linkRecord_memSame h3) h3))))

theorem State.sendNak_memSame {pre : State} {s : State} (fo : MemSame pre s) {n : Nat} : MemSame pre (State.sendNak s n) := by
  unfold State.sendNak
  exact State.addReg_memSame (State.sendCtrl_memSame fo)

theorem State.takeNak_memSame {pre : State} {s : State} (fo : MemSame pre s) {n : Nat} {from_ : Nat} : MemSame pre (State.takeNak s n from_) := by
  unfold State.takeNak
  extract_lets s1
  have h1 : MemSame pre s1 := State.updPort_memSame (State.addReg_memSame fo)
  clear_value s1
  apply MemSame.ite
  · exact State.retrainPort_memSame h1
  · apply foldl_memSame
    · intro x1 x2 h2
      exact State.putFlit_memSame h2
    · exact h1

theorem execAqdFlitReceive_memSame {pre : State} {port : Site} {flit : AqdFlit} {s : State} (fo : MemSame pre s) : MemSameO pre (execAqdFlitReceive port flit s) := by
  unfold execAqdFlitReceive
  extract_lets s1 s2
  have h1 : MemSame pre s2 := MemSame.ite (State.updPort_memSame fo) fo
  clear_value s2
  apply MemSameO.ite
  · exact MemSameO.next fo
  · apply MemSameO.ite
    · exact MemSameO.next (State.sendNak_memSame fo)
    · apply MemSameO.ite
      · exact MemSameO.ite (MemSameO.next (State.updPort_memSame h1)) (MemSameO.next (State.sendNak_memSame h1))
      · split
        · rename_i y1 y2 y3
          exact MemSameO.ite (MemSameO.next (State.takeNak_memSame h1)) (MemSameO.next h1)
        · exact MemSameO.next h1

theorem execAqdAckTimeout_memSame {pre : State} {port : Site} {s : State} (fo : MemSame pre s) : MemSameO pre (execAqdAckTimeout port s) := by
  unfold execAqdAckTimeout
  extract_lets s1
  exact MemSameO.ite (MemSameO.next (State.retrainPort_memSame fo)) (MemSameO.next fo)

theorem State.setLane_memSame {pre : State} {s : State} (fo : MemSame pre s) {n : Nat} {k : Nat} {v : Nat} : MemSame pre (s.setLane n k v) := by
  unfold State.setLane
  exact State.setG_memSame fo

theorem State.moveLanes_memSame {pre : State} {s : State} (fo : MemSame pre s) {n : Nat} : MemSame pre (s.moveLanes n) := by
  unfold State.moveLanes
  apply foldl_memSame
  · intro x1 x2 h1
    apply MemSame.ite
    · split
      · rename_i y1 y2 y3
        exact State.setLane_memSame h1
      · exact h1
    · exact h1
  · exact fo

theorem execAqdLaneSwap_memSame {pre : State} {port : Site} {lane : Fin 9} {passes : Bool} {s : State} (fo : MemSame pre s) : MemSameO pre (execAqdLaneSwap port lane passes s) := by
  unfold execAqdLaneSwap
  extract_lets s1 s2 s3 s4 s5 s6
  have h1 : MemSame pre s3 := State.updPort_memSame fo
  clear_value s3
  have h2 : MemSame pre s4 := State.moveLanes_memSame (State.sendCtrl_memSame h1)
  clear_value s4
  have h3 : MemSame pre s5 := MemSame.ite (State.updPort_memSame h2) h2
  clear_value s5
  have h4 : MemSame pre s6 := State.moveLanes_memSame h1
  clear_value s6
  exact MemSameO.ite (MemSameO.next fo) (MemSameO.ite (MemSameO.next (State.linkRecord_memSame (State.addReg_memSame (State.setG_memSame h3)))) (MemSameO.ite (MemSameO.next (State.portFails_memSame h1)) (MemSameO.next (State.linkRecord_memSame (MemSame.ite h4 (State.setG_memSame h4))))))

theorem State.dack_memSame {pre : State} {s : State} (fo : MemSame pre s) {n : Nat} {tag : Nat} : MemSame pre (s.dack n tag) := by
  unfold State.dack
  exact State.sendMsg_memSame fo

theorem State.dbusy_memSame {pre : State} {s : State} (fo : MemSame pre s) {n : Nat} {tag : Nat} {refused : Bool} : MemSame pre (s.dbusy n tag refused) := by
  unfold State.dbusy
  exact State.sendMsg_memSame fo

theorem execAqdDack_memSame {pre : State} {port : Site} {tag : Fin 65536} {s : State} (fo : MemSame pre s) : MemSameO pre (execAqdDack port tag s) := by
  unfold execAqdDack
  split
  · exact MemSameO.next (State.updPort_memSame fo)
  · rename_i y3 y4 y5 y6
    extract_lets s1
    have h1 : MemSame pre s1 := State.updPort_memSame fo
    clear_value s1
    split
    · exact MemSameO.next (State.answer_memSame (State.setFlight_memSame h1))
    · exact MemSameO.next h1

theorem execAqdDbusy_memSame {pre : State} {port : Site} {tag : Fin 65536} {refused : Bool} {s : State} (fo : MemSame pre s) : MemSameO pre (execAqdDbusy port tag refused s) := by
  unfold execAqdDbusy
  extract_lets s1 s2 s3
  have h1 : MemSame pre s2 := State.updPort_memSame fo
  clear_value s2
  have h2 : MemSame pre s3 := State.updPort_memSame fo
  clear_value s3
  split
  · rename_i y1 y2
    split
    · exact MemSameO.next fo
    · exact MemSameO.next (MemSame.ite h1 (State.sendTold_memSame h1))
  · rename_i y10 y11 y12 y13
    split
    · exact MemSameO.next (MemSame.ite (State.answer_memSame (State.setFlight_memSame h2)) (State.answer_memSame h2))
    · exact MemSameO.next h2

theorem State.chainMsg_memSame {pre : State} {s : State} (fo : MemSame pre s) {port : Nat} {tag : Nat} {mine : Bool} {act : State → State} (foact : ∀ (a : State), MemSame pre a → MemSame pre (act a)) : MemSameO pre (s.chainMsg port tag mine act) := by
  unfold State.chainMsg
  apply MemSameO.ite
  · exact MemSameO.next fo
  · apply MemSameO.ite
    · apply MemSameO.next
      apply State.dack_memSame
      apply foact
      · exact fo
    · exact MemSameO.next (State.dbusy_memSame fo)

theorem execAqdEnd_memSame {pre : State} {port : Site} {tag : Fin 65536} {part : Part} {head : Req} {s : State} (fo : MemSame pre s) : MemSameO pre (execAqdEnd port tag part head s) := by
  unfold execAqdEnd
  apply State.chainMsg_memSame
  · exact fo
  · intro x1 h1
    exact State.updPart_memSame h1

theorem execAqdResult_memSame {pre : State} {port : Site} {tag : Fin 65536} {part : Part} {slot : Fin 1024} {row : Option (List Byte)} {s : State} (fo : MemSame pre s) : MemSameO pre (execAqdResult port tag part slot row s) := by
  unfold execAqdResult
  apply State.chainMsg_memSame
  · exact fo
  · intro x1 h1
    exact State.updPart_memSame h1

theorem execAqdLost_memSame {pre : State} {port : Site} {tag : Fin 65536} {part : Part} {head : Req} {pos : Fin 4294967296} {s : State} (fo : MemSame pre s) : MemSameO pre (execAqdLost port tag part head pos s) := by
  unfold execAqdLost
  apply State.chainMsg_memSame
  · exact fo
  · intro x1 h1
    exact State.updPart_memSame h1

theorem State.setStops_memSame {pre : State} {s : State} (fo : MemSame pre s) {p : Nat} : MemSame pre (s.setStops p) := by
  unfold State.setStops
  apply MemSame.ite
  · extract_lets s1
    have h1 : MemSame pre s1 := State.setPstate_memSame (State.updPart_memSame fo)
    clear_value s1
    exact MemSame.ite (State.stopReached_memSame h1) h1
  · exact fo

theorem execAqdStop_memSame {pre : State} {port : Site} {tag : Fin 65536} {part : Part} {s : State} (fo : MemSame pre s) : MemSameO pre (execAqdStop port tag part s) := by
  unfold execAqdStop
  apply State.chainMsg_memSame
  · exact fo
  · intro x1 h1
    exact State.setStops_memSame h1

theorem State.forwardMark_memSame {pre : State} {s : State} (fo : MemSame pre s) {chain : Nat} {head : Nat} {k : Nat} {ptp : Nat} : MemSame pre (s.forwardMark chain head k ptp) := by
  unfold State.forwardMark
  apply foldl_memSame
  · intro x1 x2 h1
    exact State.sendFlit_memSame (State.emit_memSame h1)
  · exact fo

theorem State.takeMark_memSame {pre : State} {s : State} (fo : MemSame pre s) {p : Nat} {k : Nat} : MemSame pre (s.takeMark p k) := by
  unfold State.takeMark
  extract_lets s1 s2
  exact fo.same (Eq.refl _)

theorem execAqdMark_memSame {pre : State} {port : Site} {chain : Fin 65536} {head : Part} {part : Part} {k : Fin 18446744073709551616} {ptp : Fin 18446744073709551616} {s : State} (fo : MemSame pre s) : MemSameO pre (execAqdMark port chain head part k ptp s) := by
  unfold execAqdMark
  split
  · exact MemSameO.next fo
  · rename_i y1 y2 y3
    apply MemSameO.ite
    · extract_lets s1
      have h1 : MemSame pre s1 := State.forwardMark_memSame fo
      clear_value s1
      exact MemSameO.next (MemSame.ite (State.takeMark_memSame h1) h1)
    · exact MemSameO.next fo

theorem execMarkTimeout_memSame {pre : State} {part : Part} {s : State} (fo : MemSame pre s) : MemSameO pre (execMarkTimeout part s) := by
  unfold execMarkTimeout
  extract_lets s1
  split
  · exact MemSameO.next fo
  · rename_i y1 y2 y3
    exact MemSameO.ite (MemSameO.next (State.cascadeStop_memSame (State.record_memSame fo))) (MemSameO.next fo)

end Sys2Proof.Machine
end

