-- ==== Sys2Proof/Laws/State.lean ====
section
/-! SUPPORT. Reading a field of the state after an update: one lemma for each field and update, and the accessors of the maps. -/

namespace Sys2Proof.Machine

@[simp] theorem State.setReg_shadows (s : State) (f : Fld) (inst i v : Nat) : (s.setReg f inst i v).shadows = s.shadows := rfl
@[simp] theorem State.setReg_latch (s : State) (f : Fld) (inst i v : Nat) : (s.setReg f inst i v).latch = s.latch := rfl
@[simp] theorem State.setReg_mem (s : State) (f : Fld) (inst i v : Nat) : (s.setReg f inst i v).mem = s.mem := rfl
@[simp] theorem State.setReg_tiles (s : State) (f : Fld) (inst i v : Nat) : (s.setReg f inst i v).tiles = s.tiles := rfl
@[simp] theorem State.setReg_parts (s : State) (f : Fld) (inst i v : Nat) : (s.setReg f inst i v).parts = s.parts := rfl
@[simp] theorem State.setReg_reqs (s : State) (f : Fld) (inst i v : Nat) : (s.setReg f inst i v).reqs = s.reqs := rfl
@[simp] theorem State.setReg_pages (s : State) (f : Fld) (inst i v : Nat) : (s.setReg f inst i v).pages = s.pages := rfl
@[simp] theorem State.setReg_links (s : State) (f : Fld) (inst i v : Nat) : (s.setReg f inst i v).links = s.links := rfl
@[simp] theorem State.setReg_lanes (s : State) (f : Fld) (inst i v : Nat) : (s.setReg f inst i v).lanes = s.lanes := rfl
@[simp] theorem State.setReg_cross (s : State) (f : Fld) (inst i v : Nat) : (s.setReg f inst i v).cross = s.cross := rfl
@[simp] theorem State.setReg_express (s : State) (f : Fld) (inst i v : Nat) : (s.setReg f inst i v).express = s.express := rfl
@[simp] theorem State.setReg_laneOwner (s : State) (f : Fld) (inst i v : Nat) : (s.setReg f inst i v).laneOwner = s.laneOwner := rfl
@[simp] theorem State.setReg_flight (s : State) (f : Fld) (inst i v : Nat) : (s.setReg f inst i v).flight = s.flight := rfl
@[simp] theorem State.setReg_treeMsgs (s : State) (f : Fld) (inst i v : Nat) : (s.setReg f inst i v).treeMsgs = s.treeMsgs := rfl
@[simp] theorem State.setReg_power (s : State) (f : Fld) (inst i v : Nat) : (s.setReg f inst i v).power = s.power := rfl
@[simp] theorem State.setReg_thermal (s : State) (f : Fld) (inst i v : Nat) : (s.setReg f inst i v).thermal = s.thermal := rfl
@[simp] theorem State.setReg_cal (s : State) (f : Fld) (inst i v : Nat) : (s.setReg f inst i v).cal = s.cal := rfl
@[simp] theorem State.setReg_repair (s : State) (f : Fld) (inst i v : Nat) : (s.setReg f inst i v).repair = s.repair := rfl
@[simp] theorem State.setReg_link (s : State) (f : Fld) (inst i v : Nat) : (s.setReg f inst i v).link = s.link := rfl
@[simp] theorem State.setReg_log (s : State) (f : Fld) (inst i v : Nat) : (s.setReg f inst i v).log = s.log := rfl
@[simp] theorem State.setReg_logTail (s : State) (f : Fld) (inst i v : Nat) : (s.setReg f inst i v).logTail = s.logTail := rfl
@[simp] theorem State.setReg_wcount (s : State) (f : Fld) (inst i v : Nat) : (s.setReg f inst i v).wcount = s.wcount := rfl
@[simp] theorem State.setReg_ptp (s : State) (f : Fld) (inst i v : Nat) : (s.setReg f inst i v).ptp = s.ptp := rfl
@[simp] theorem State.setReg_submits (s : State) (f : Fld) (inst i v : Nat) : (s.setReg f inst i v).submits = s.submits := rfl
@[simp] theorem State.setReg_stewardHome (s : State) (f : Fld) (inst i v : Nat) : (s.setReg f inst i v).stewardHome = s.stewardHome := rfl
@[simp] theorem State.setReg_rootHome (s : State) (f : Fld) (inst i v : Nat) : (s.setReg f inst i v).rootHome = s.rootHome := rfl
@[simp] theorem State.setReg_stewardUp (s : State) (f : Fld) (inst i v : Nat) : (s.setReg f inst i v).stewardUp = s.stewardUp := rfl
@[simp] theorem State.setReg_freeCtr (s : State) (f : Fld) (inst i v : Nat) : (s.setReg f inst i v).freeCtr = s.freeCtr := rfl
@[simp] theorem State.setReg_out (s : State) (f : Fld) (inst i v : Nat) : (s.setReg f inst i v).out = s.out := rfl
@[simp] theorem State.setReg_pending (s : State) (f : Fld) (inst i v : Nat) : (s.setReg f inst i v).pending = s.pending := rfl

@[simp] theorem State.resetReg_shadows (s : State) (f : Fld) (inst i : Nat) : (s.resetReg f inst i).shadows = s.shadows := rfl
@[simp] theorem State.resetReg_latch (s : State) (f : Fld) (inst i : Nat) : (s.resetReg f inst i).latch = s.latch := rfl
@[simp] theorem State.resetReg_mem (s : State) (f : Fld) (inst i : Nat) : (s.resetReg f inst i).mem = s.mem := rfl
@[simp] theorem State.resetReg_tiles (s : State) (f : Fld) (inst i : Nat) : (s.resetReg f inst i).tiles = s.tiles := rfl
@[simp] theorem State.resetReg_parts (s : State) (f : Fld) (inst i : Nat) : (s.resetReg f inst i).parts = s.parts := rfl
@[simp] theorem State.resetReg_reqs (s : State) (f : Fld) (inst i : Nat) : (s.resetReg f inst i).reqs = s.reqs := rfl
@[simp] theorem State.resetReg_pages (s : State) (f : Fld) (inst i : Nat) : (s.resetReg f inst i).pages = s.pages := rfl
@[simp] theorem State.resetReg_links (s : State) (f : Fld) (inst i : Nat) : (s.resetReg f inst i).links = s.links := rfl
@[simp] theorem State.resetReg_lanes (s : State) (f : Fld) (inst i : Nat) : (s.resetReg f inst i).lanes = s.lanes := rfl
@[simp] theorem State.resetReg_cross (s : State) (f : Fld) (inst i : Nat) : (s.resetReg f inst i).cross = s.cross := rfl
@[simp] theorem State.resetReg_express (s : State) (f : Fld) (inst i : Nat) : (s.resetReg f inst i).express = s.express := rfl
@[simp] theorem State.resetReg_laneOwner (s : State) (f : Fld) (inst i : Nat) : (s.resetReg f inst i).laneOwner = s.laneOwner := rfl
@[simp] theorem State.resetReg_flight (s : State) (f : Fld) (inst i : Nat) : (s.resetReg f inst i).flight = s.flight := rfl
@[simp] theorem State.resetReg_treeMsgs (s : State) (f : Fld) (inst i : Nat) : (s.resetReg f inst i).treeMsgs = s.treeMsgs := rfl
@[simp] theorem State.resetReg_power (s : State) (f : Fld) (inst i : Nat) : (s.resetReg f inst i).power = s.power := rfl
@[simp] theorem State.resetReg_thermal (s : State) (f : Fld) (inst i : Nat) : (s.resetReg f inst i).thermal = s.thermal := rfl
@[simp] theorem State.resetReg_cal (s : State) (f : Fld) (inst i : Nat) : (s.resetReg f inst i).cal = s.cal := rfl
@[simp] theorem State.resetReg_repair (s : State) (f : Fld) (inst i : Nat) : (s.resetReg f inst i).repair = s.repair := rfl
@[simp] theorem State.resetReg_link (s : State) (f : Fld) (inst i : Nat) : (s.resetReg f inst i).link = s.link := rfl
@[simp] theorem State.resetReg_log (s : State) (f : Fld) (inst i : Nat) : (s.resetReg f inst i).log = s.log := rfl
@[simp] theorem State.resetReg_logTail (s : State) (f : Fld) (inst i : Nat) : (s.resetReg f inst i).logTail = s.logTail := rfl
@[simp] theorem State.resetReg_wcount (s : State) (f : Fld) (inst i : Nat) : (s.resetReg f inst i).wcount = s.wcount := rfl
@[simp] theorem State.resetReg_ptp (s : State) (f : Fld) (inst i : Nat) : (s.resetReg f inst i).ptp = s.ptp := rfl
@[simp] theorem State.resetReg_submits (s : State) (f : Fld) (inst i : Nat) : (s.resetReg f inst i).submits = s.submits := rfl
@[simp] theorem State.resetReg_stewardHome (s : State) (f : Fld) (inst i : Nat) : (s.resetReg f inst i).stewardHome = s.stewardHome := rfl
@[simp] theorem State.resetReg_rootHome (s : State) (f : Fld) (inst i : Nat) : (s.resetReg f inst i).rootHome = s.rootHome := rfl
@[simp] theorem State.resetReg_stewardUp (s : State) (f : Fld) (inst i : Nat) : (s.resetReg f inst i).stewardUp = s.stewardUp := rfl
@[simp] theorem State.resetReg_freeCtr (s : State) (f : Fld) (inst i : Nat) : (s.resetReg f inst i).freeCtr = s.freeCtr := rfl
@[simp] theorem State.resetReg_out (s : State) (f : Fld) (inst i : Nat) : (s.resetReg f inst i).out = s.out := rfl
@[simp] theorem State.resetReg_pending (s : State) (f : Fld) (inst i : Nat) : (s.resetReg f inst i).pending = s.pending := rfl

@[simp] theorem State.setTile_regs (s : State) (t : Nat) (x : TileSt) : (s.setTile t x).regs = s.regs := rfl
@[simp] theorem State.setTile_shadows (s : State) (t : Nat) (x : TileSt) : (s.setTile t x).shadows = s.shadows := rfl
@[simp] theorem State.setTile_latch (s : State) (t : Nat) (x : TileSt) : (s.setTile t x).latch = s.latch := rfl
@[simp] theorem State.setTile_mem (s : State) (t : Nat) (x : TileSt) : (s.setTile t x).mem = s.mem := rfl
@[simp] theorem State.setTile_parts (s : State) (t : Nat) (x : TileSt) : (s.setTile t x).parts = s.parts := rfl
@[simp] theorem State.setTile_reqs (s : State) (t : Nat) (x : TileSt) : (s.setTile t x).reqs = s.reqs := rfl
@[simp] theorem State.setTile_pages (s : State) (t : Nat) (x : TileSt) : (s.setTile t x).pages = s.pages := rfl
@[simp] theorem State.setTile_links (s : State) (t : Nat) (x : TileSt) : (s.setTile t x).links = s.links := rfl
@[simp] theorem State.setTile_lanes (s : State) (t : Nat) (x : TileSt) : (s.setTile t x).lanes = s.lanes := rfl
@[simp] theorem State.setTile_cross (s : State) (t : Nat) (x : TileSt) : (s.setTile t x).cross = s.cross := rfl
@[simp] theorem State.setTile_express (s : State) (t : Nat) (x : TileSt) : (s.setTile t x).express = s.express := rfl
@[simp] theorem State.setTile_laneOwner (s : State) (t : Nat) (x : TileSt) : (s.setTile t x).laneOwner = s.laneOwner := rfl
@[simp] theorem State.setTile_flight (s : State) (t : Nat) (x : TileSt) : (s.setTile t x).flight = s.flight := rfl
@[simp] theorem State.setTile_treeMsgs (s : State) (t : Nat) (x : TileSt) : (s.setTile t x).treeMsgs = s.treeMsgs := rfl
@[simp] theorem State.setTile_power (s : State) (t : Nat) (x : TileSt) : (s.setTile t x).power = s.power := rfl
@[simp] theorem State.setTile_thermal (s : State) (t : Nat) (x : TileSt) : (s.setTile t x).thermal = s.thermal := rfl
@[simp] theorem State.setTile_cal (s : State) (t : Nat) (x : TileSt) : (s.setTile t x).cal = s.cal := rfl
@[simp] theorem State.setTile_repair (s : State) (t : Nat) (x : TileSt) : (s.setTile t x).repair = s.repair := rfl
@[simp] theorem State.setTile_link (s : State) (t : Nat) (x : TileSt) : (s.setTile t x).link = s.link := rfl
@[simp] theorem State.setTile_log (s : State) (t : Nat) (x : TileSt) : (s.setTile t x).log = s.log := rfl
@[simp] theorem State.setTile_logTail (s : State) (t : Nat) (x : TileSt) : (s.setTile t x).logTail = s.logTail := rfl
@[simp] theorem State.setTile_wcount (s : State) (t : Nat) (x : TileSt) : (s.setTile t x).wcount = s.wcount := rfl
@[simp] theorem State.setTile_ptp (s : State) (t : Nat) (x : TileSt) : (s.setTile t x).ptp = s.ptp := rfl
@[simp] theorem State.setTile_submits (s : State) (t : Nat) (x : TileSt) : (s.setTile t x).submits = s.submits := rfl
@[simp] theorem State.setTile_stewardHome (s : State) (t : Nat) (x : TileSt) : (s.setTile t x).stewardHome = s.stewardHome := rfl
@[simp] theorem State.setTile_rootHome (s : State) (t : Nat) (x : TileSt) : (s.setTile t x).rootHome = s.rootHome := rfl
@[simp] theorem State.setTile_stewardUp (s : State) (t : Nat) (x : TileSt) : (s.setTile t x).stewardUp = s.stewardUp := rfl
@[simp] theorem State.setTile_freeCtr (s : State) (t : Nat) (x : TileSt) : (s.setTile t x).freeCtr = s.freeCtr := rfl
@[simp] theorem State.setTile_out (s : State) (t : Nat) (x : TileSt) : (s.setTile t x).out = s.out := rfl
@[simp] theorem State.setTile_pending (s : State) (t : Nat) (x : TileSt) : (s.setTile t x).pending = s.pending := rfl

@[simp] theorem State.setPart_regs (s : State) (p : Nat) (x : PartSt) : (s.setPart p x).regs = s.regs := rfl
@[simp] theorem State.setPart_shadows (s : State) (p : Nat) (x : PartSt) : (s.setPart p x).shadows = s.shadows := rfl
@[simp] theorem State.setPart_latch (s : State) (p : Nat) (x : PartSt) : (s.setPart p x).latch = s.latch := rfl
@[simp] theorem State.setPart_mem (s : State) (p : Nat) (x : PartSt) : (s.setPart p x).mem = s.mem := rfl
@[simp] theorem State.setPart_tiles (s : State) (p : Nat) (x : PartSt) : (s.setPart p x).tiles = s.tiles := rfl
@[simp] theorem State.setPart_reqs (s : State) (p : Nat) (x : PartSt) : (s.setPart p x).reqs = s.reqs := rfl
@[simp] theorem State.setPart_pages (s : State) (p : Nat) (x : PartSt) : (s.setPart p x).pages = s.pages := rfl
@[simp] theorem State.setPart_links (s : State) (p : Nat) (x : PartSt) : (s.setPart p x).links = s.links := rfl
@[simp] theorem State.setPart_lanes (s : State) (p : Nat) (x : PartSt) : (s.setPart p x).lanes = s.lanes := rfl
@[simp] theorem State.setPart_cross (s : State) (p : Nat) (x : PartSt) : (s.setPart p x).cross = s.cross := rfl
@[simp] theorem State.setPart_express (s : State) (p : Nat) (x : PartSt) : (s.setPart p x).express = s.express := rfl
@[simp] theorem State.setPart_laneOwner (s : State) (p : Nat) (x : PartSt) : (s.setPart p x).laneOwner = s.laneOwner := rfl
@[simp] theorem State.setPart_flight (s : State) (p : Nat) (x : PartSt) : (s.setPart p x).flight = s.flight := rfl
@[simp] theorem State.setPart_treeMsgs (s : State) (p : Nat) (x : PartSt) : (s.setPart p x).treeMsgs = s.treeMsgs := rfl
@[simp] theorem State.setPart_power (s : State) (p : Nat) (x : PartSt) : (s.setPart p x).power = s.power := rfl
@[simp] theorem State.setPart_thermal (s : State) (p : Nat) (x : PartSt) : (s.setPart p x).thermal = s.thermal := rfl
@[simp] theorem State.setPart_cal (s : State) (p : Nat) (x : PartSt) : (s.setPart p x).cal = s.cal := rfl
@[simp] theorem State.setPart_repair (s : State) (p : Nat) (x : PartSt) : (s.setPart p x).repair = s.repair := rfl
@[simp] theorem State.setPart_link (s : State) (p : Nat) (x : PartSt) : (s.setPart p x).link = s.link := rfl
@[simp] theorem State.setPart_log (s : State) (p : Nat) (x : PartSt) : (s.setPart p x).log = s.log := rfl
@[simp] theorem State.setPart_logTail (s : State) (p : Nat) (x : PartSt) : (s.setPart p x).logTail = s.logTail := rfl
@[simp] theorem State.setPart_wcount (s : State) (p : Nat) (x : PartSt) : (s.setPart p x).wcount = s.wcount := rfl
@[simp] theorem State.setPart_ptp (s : State) (p : Nat) (x : PartSt) : (s.setPart p x).ptp = s.ptp := rfl
@[simp] theorem State.setPart_submits (s : State) (p : Nat) (x : PartSt) : (s.setPart p x).submits = s.submits := rfl
@[simp] theorem State.setPart_stewardHome (s : State) (p : Nat) (x : PartSt) : (s.setPart p x).stewardHome = s.stewardHome := rfl
@[simp] theorem State.setPart_rootHome (s : State) (p : Nat) (x : PartSt) : (s.setPart p x).rootHome = s.rootHome := rfl
@[simp] theorem State.setPart_stewardUp (s : State) (p : Nat) (x : PartSt) : (s.setPart p x).stewardUp = s.stewardUp := rfl
@[simp] theorem State.setPart_freeCtr (s : State) (p : Nat) (x : PartSt) : (s.setPart p x).freeCtr = s.freeCtr := rfl
@[simp] theorem State.setPart_out (s : State) (p : Nat) (x : PartSt) : (s.setPart p x).out = s.out := rfl
@[simp] theorem State.setPart_pending (s : State) (p : Nat) (x : PartSt) : (s.setPart p x).pending = s.pending := rfl

@[simp] theorem State.setReq_regs (s : State) (r : Nat) (x : ReqSt) : (s.setReq r x).regs = s.regs := rfl
@[simp] theorem State.setReq_shadows (s : State) (r : Nat) (x : ReqSt) : (s.setReq r x).shadows = s.shadows := rfl
@[simp] theorem State.setReq_latch (s : State) (r : Nat) (x : ReqSt) : (s.setReq r x).latch = s.latch := rfl
@[simp] theorem State.setReq_mem (s : State) (r : Nat) (x : ReqSt) : (s.setReq r x).mem = s.mem := rfl
@[simp] theorem State.setReq_tiles (s : State) (r : Nat) (x : ReqSt) : (s.setReq r x).tiles = s.tiles := rfl
@[simp] theorem State.setReq_parts (s : State) (r : Nat) (x : ReqSt) : (s.setReq r x).parts = s.parts := rfl
@[simp] theorem State.setReq_pages (s : State) (r : Nat) (x : ReqSt) : (s.setReq r x).pages = s.pages := rfl
@[simp] theorem State.setReq_links (s : State) (r : Nat) (x : ReqSt) : (s.setReq r x).links = s.links := rfl
@[simp] theorem State.setReq_lanes (s : State) (r : Nat) (x : ReqSt) : (s.setReq r x).lanes = s.lanes := rfl
@[simp] theorem State.setReq_cross (s : State) (r : Nat) (x : ReqSt) : (s.setReq r x).cross = s.cross := rfl
@[simp] theorem State.setReq_express (s : State) (r : Nat) (x : ReqSt) : (s.setReq r x).express = s.express := rfl
@[simp] theorem State.setReq_laneOwner (s : State) (r : Nat) (x : ReqSt) : (s.setReq r x).laneOwner = s.laneOwner := rfl
@[simp] theorem State.setReq_flight (s : State) (r : Nat) (x : ReqSt) : (s.setReq r x).flight = s.flight := rfl
@[simp] theorem State.setReq_treeMsgs (s : State) (r : Nat) (x : ReqSt) : (s.setReq r x).treeMsgs = s.treeMsgs := rfl
@[simp] theorem State.setReq_power (s : State) (r : Nat) (x : ReqSt) : (s.setReq r x).power = s.power := rfl
@[simp] theorem State.setReq_thermal (s : State) (r : Nat) (x : ReqSt) : (s.setReq r x).thermal = s.thermal := rfl
@[simp] theorem State.setReq_cal (s : State) (r : Nat) (x : ReqSt) : (s.setReq r x).cal = s.cal := rfl
@[simp] theorem State.setReq_repair (s : State) (r : Nat) (x : ReqSt) : (s.setReq r x).repair = s.repair := rfl
@[simp] theorem State.setReq_link (s : State) (r : Nat) (x : ReqSt) : (s.setReq r x).link = s.link := rfl
@[simp] theorem State.setReq_log (s : State) (r : Nat) (x : ReqSt) : (s.setReq r x).log = s.log := rfl
@[simp] theorem State.setReq_logTail (s : State) (r : Nat) (x : ReqSt) : (s.setReq r x).logTail = s.logTail := rfl
@[simp] theorem State.setReq_wcount (s : State) (r : Nat) (x : ReqSt) : (s.setReq r x).wcount = s.wcount := rfl
@[simp] theorem State.setReq_ptp (s : State) (r : Nat) (x : ReqSt) : (s.setReq r x).ptp = s.ptp := rfl
@[simp] theorem State.setReq_submits (s : State) (r : Nat) (x : ReqSt) : (s.setReq r x).submits = s.submits := rfl
@[simp] theorem State.setReq_stewardHome (s : State) (r : Nat) (x : ReqSt) : (s.setReq r x).stewardHome = s.stewardHome := rfl
@[simp] theorem State.setReq_rootHome (s : State) (r : Nat) (x : ReqSt) : (s.setReq r x).rootHome = s.rootHome := rfl
@[simp] theorem State.setReq_stewardUp (s : State) (r : Nat) (x : ReqSt) : (s.setReq r x).stewardUp = s.stewardUp := rfl
@[simp] theorem State.setReq_freeCtr (s : State) (r : Nat) (x : ReqSt) : (s.setReq r x).freeCtr = s.freeCtr := rfl
@[simp] theorem State.setReq_out (s : State) (r : Nat) (x : ReqSt) : (s.setReq r x).out = s.out := rfl
@[simp] theorem State.setReq_pending (s : State) (r : Nat) (x : ReqSt) : (s.setReq r x).pending = s.pending := rfl

@[simp] theorem State.setPage_regs (s : State) (n : Nat) (e : PageEnt) : (s.setPage n e).regs = s.regs := rfl
@[simp] theorem State.setPage_shadows (s : State) (n : Nat) (e : PageEnt) : (s.setPage n e).shadows = s.shadows := rfl
@[simp] theorem State.setPage_latch (s : State) (n : Nat) (e : PageEnt) : (s.setPage n e).latch = s.latch := rfl
@[simp] theorem State.setPage_mem (s : State) (n : Nat) (e : PageEnt) : (s.setPage n e).mem = s.mem := rfl
@[simp] theorem State.setPage_tiles (s : State) (n : Nat) (e : PageEnt) : (s.setPage n e).tiles = s.tiles := rfl
@[simp] theorem State.setPage_parts (s : State) (n : Nat) (e : PageEnt) : (s.setPage n e).parts = s.parts := rfl
@[simp] theorem State.setPage_reqs (s : State) (n : Nat) (e : PageEnt) : (s.setPage n e).reqs = s.reqs := rfl
@[simp] theorem State.setPage_links (s : State) (n : Nat) (e : PageEnt) : (s.setPage n e).links = s.links := rfl
@[simp] theorem State.setPage_lanes (s : State) (n : Nat) (e : PageEnt) : (s.setPage n e).lanes = s.lanes := rfl
@[simp] theorem State.setPage_cross (s : State) (n : Nat) (e : PageEnt) : (s.setPage n e).cross = s.cross := rfl
@[simp] theorem State.setPage_express (s : State) (n : Nat) (e : PageEnt) : (s.setPage n e).express = s.express := rfl
@[simp] theorem State.setPage_laneOwner (s : State) (n : Nat) (e : PageEnt) : (s.setPage n e).laneOwner = s.laneOwner := rfl
@[simp] theorem State.setPage_flight (s : State) (n : Nat) (e : PageEnt) : (s.setPage n e).flight = s.flight := rfl
@[simp] theorem State.setPage_treeMsgs (s : State) (n : Nat) (e : PageEnt) : (s.setPage n e).treeMsgs = s.treeMsgs := rfl
@[simp] theorem State.setPage_power (s : State) (n : Nat) (e : PageEnt) : (s.setPage n e).power = s.power := rfl
@[simp] theorem State.setPage_thermal (s : State) (n : Nat) (e : PageEnt) : (s.setPage n e).thermal = s.thermal := rfl
@[simp] theorem State.setPage_cal (s : State) (n : Nat) (e : PageEnt) : (s.setPage n e).cal = s.cal := rfl
@[simp] theorem State.setPage_repair (s : State) (n : Nat) (e : PageEnt) : (s.setPage n e).repair = s.repair := rfl
@[simp] theorem State.setPage_link (s : State) (n : Nat) (e : PageEnt) : (s.setPage n e).link = s.link := rfl
@[simp] theorem State.setPage_log (s : State) (n : Nat) (e : PageEnt) : (s.setPage n e).log = s.log := rfl
@[simp] theorem State.setPage_logTail (s : State) (n : Nat) (e : PageEnt) : (s.setPage n e).logTail = s.logTail := rfl
@[simp] theorem State.setPage_wcount (s : State) (n : Nat) (e : PageEnt) : (s.setPage n e).wcount = s.wcount := rfl
@[simp] theorem State.setPage_ptp (s : State) (n : Nat) (e : PageEnt) : (s.setPage n e).ptp = s.ptp := rfl
@[simp] theorem State.setPage_submits (s : State) (n : Nat) (e : PageEnt) : (s.setPage n e).submits = s.submits := rfl
@[simp] theorem State.setPage_stewardHome (s : State) (n : Nat) (e : PageEnt) : (s.setPage n e).stewardHome = s.stewardHome := rfl
@[simp] theorem State.setPage_rootHome (s : State) (n : Nat) (e : PageEnt) : (s.setPage n e).rootHome = s.rootHome := rfl
@[simp] theorem State.setPage_stewardUp (s : State) (n : Nat) (e : PageEnt) : (s.setPage n e).stewardUp = s.stewardUp := rfl
@[simp] theorem State.setPage_freeCtr (s : State) (n : Nat) (e : PageEnt) : (s.setPage n e).freeCtr = s.freeCtr := rfl
@[simp] theorem State.setPage_out (s : State) (n : Nat) (e : PageEnt) : (s.setPage n e).out = s.out := rfl
@[simp] theorem State.setPage_pending (s : State) (n : Nat) (e : PageEnt) : (s.setPage n e).pending = s.pending := rfl

@[simp] theorem State.setMem_regs (s : State) (m : Memory) : (s.setMem m).regs = s.regs := rfl
@[simp] theorem State.setMem_shadows (s : State) (m : Memory) : (s.setMem m).shadows = s.shadows := rfl
@[simp] theorem State.setMem_latch (s : State) (m : Memory) : (s.setMem m).latch = s.latch := rfl
@[simp] theorem State.setMem_tiles (s : State) (m : Memory) : (s.setMem m).tiles = s.tiles := rfl
@[simp] theorem State.setMem_parts (s : State) (m : Memory) : (s.setMem m).parts = s.parts := rfl
@[simp] theorem State.setMem_reqs (s : State) (m : Memory) : (s.setMem m).reqs = s.reqs := rfl
@[simp] theorem State.setMem_pages (s : State) (m : Memory) : (s.setMem m).pages = s.pages := rfl
@[simp] theorem State.setMem_links (s : State) (m : Memory) : (s.setMem m).links = s.links := rfl
@[simp] theorem State.setMem_lanes (s : State) (m : Memory) : (s.setMem m).lanes = s.lanes := rfl
@[simp] theorem State.setMem_cross (s : State) (m : Memory) : (s.setMem m).cross = s.cross := rfl
@[simp] theorem State.setMem_express (s : State) (m : Memory) : (s.setMem m).express = s.express := rfl
@[simp] theorem State.setMem_laneOwner (s : State) (m : Memory) : (s.setMem m).laneOwner = s.laneOwner := rfl
@[simp] theorem State.setMem_flight (s : State) (m : Memory) : (s.setMem m).flight = s.flight := rfl
@[simp] theorem State.setMem_treeMsgs (s : State) (m : Memory) : (s.setMem m).treeMsgs = s.treeMsgs := rfl
@[simp] theorem State.setMem_power (s : State) (m : Memory) : (s.setMem m).power = s.power := rfl
@[simp] theorem State.setMem_thermal (s : State) (m : Memory) : (s.setMem m).thermal = s.thermal := rfl
@[simp] theorem State.setMem_cal (s : State) (m : Memory) : (s.setMem m).cal = s.cal := rfl
@[simp] theorem State.setMem_repair (s : State) (m : Memory) : (s.setMem m).repair = s.repair := rfl
@[simp] theorem State.setMem_link (s : State) (m : Memory) : (s.setMem m).link = s.link := rfl
@[simp] theorem State.setMem_log (s : State) (m : Memory) : (s.setMem m).log = s.log := rfl
@[simp] theorem State.setMem_logTail (s : State) (m : Memory) : (s.setMem m).logTail = s.logTail := rfl
@[simp] theorem State.setMem_wcount (s : State) (m : Memory) : (s.setMem m).wcount = s.wcount := rfl
@[simp] theorem State.setMem_ptp (s : State) (m : Memory) : (s.setMem m).ptp = s.ptp := rfl
@[simp] theorem State.setMem_submits (s : State) (m : Memory) : (s.setMem m).submits = s.submits := rfl
@[simp] theorem State.setMem_stewardHome (s : State) (m : Memory) : (s.setMem m).stewardHome = s.stewardHome := rfl
@[simp] theorem State.setMem_rootHome (s : State) (m : Memory) : (s.setMem m).rootHome = s.rootHome := rfl
@[simp] theorem State.setMem_stewardUp (s : State) (m : Memory) : (s.setMem m).stewardUp = s.stewardUp := rfl
@[simp] theorem State.setMem_freeCtr (s : State) (m : Memory) : (s.setMem m).freeCtr = s.freeCtr := rfl
@[simp] theorem State.setMem_out (s : State) (m : Memory) : (s.setMem m).out = s.out := rfl
@[simp] theorem State.setMem_pending (s : State) (m : Memory) : (s.setMem m).pending = s.pending := rfl

@[simp] theorem State.emit_regs (s : State) (o : Out) : (s.emit o).regs = s.regs := rfl
@[simp] theorem State.emit_shadows (s : State) (o : Out) : (s.emit o).shadows = s.shadows := rfl
@[simp] theorem State.emit_latch (s : State) (o : Out) : (s.emit o).latch = s.latch := rfl
@[simp] theorem State.emit_mem (s : State) (o : Out) : (s.emit o).mem = s.mem := rfl
@[simp] theorem State.emit_tiles (s : State) (o : Out) : (s.emit o).tiles = s.tiles := rfl
@[simp] theorem State.emit_parts (s : State) (o : Out) : (s.emit o).parts = s.parts := rfl
@[simp] theorem State.emit_reqs (s : State) (o : Out) : (s.emit o).reqs = s.reqs := rfl
@[simp] theorem State.emit_pages (s : State) (o : Out) : (s.emit o).pages = s.pages := rfl
@[simp] theorem State.emit_links (s : State) (o : Out) : (s.emit o).links = s.links := rfl
@[simp] theorem State.emit_lanes (s : State) (o : Out) : (s.emit o).lanes = s.lanes := rfl
@[simp] theorem State.emit_cross (s : State) (o : Out) : (s.emit o).cross = s.cross := rfl
@[simp] theorem State.emit_express (s : State) (o : Out) : (s.emit o).express = s.express := rfl
@[simp] theorem State.emit_laneOwner (s : State) (o : Out) : (s.emit o).laneOwner = s.laneOwner := rfl
@[simp] theorem State.emit_flight (s : State) (o : Out) : (s.emit o).flight = s.flight := rfl
@[simp] theorem State.emit_treeMsgs (s : State) (o : Out) : (s.emit o).treeMsgs = s.treeMsgs := rfl
@[simp] theorem State.emit_power (s : State) (o : Out) : (s.emit o).power = s.power := rfl
@[simp] theorem State.emit_thermal (s : State) (o : Out) : (s.emit o).thermal = s.thermal := rfl
@[simp] theorem State.emit_cal (s : State) (o : Out) : (s.emit o).cal = s.cal := rfl
@[simp] theorem State.emit_repair (s : State) (o : Out) : (s.emit o).repair = s.repair := rfl
@[simp] theorem State.emit_link (s : State) (o : Out) : (s.emit o).link = s.link := rfl
@[simp] theorem State.emit_log (s : State) (o : Out) : (s.emit o).log = s.log := rfl
@[simp] theorem State.emit_logTail (s : State) (o : Out) : (s.emit o).logTail = s.logTail := rfl
@[simp] theorem State.emit_wcount (s : State) (o : Out) : (s.emit o).wcount = s.wcount := rfl
@[simp] theorem State.emit_ptp (s : State) (o : Out) : (s.emit o).ptp = s.ptp := rfl
@[simp] theorem State.emit_submits (s : State) (o : Out) : (s.emit o).submits = s.submits := rfl
@[simp] theorem State.emit_stewardHome (s : State) (o : Out) : (s.emit o).stewardHome = s.stewardHome := rfl
@[simp] theorem State.emit_rootHome (s : State) (o : Out) : (s.emit o).rootHome = s.rootHome := rfl
@[simp] theorem State.emit_stewardUp (s : State) (o : Out) : (s.emit o).stewardUp = s.stewardUp := rfl
@[simp] theorem State.emit_freeCtr (s : State) (o : Out) : (s.emit o).freeCtr = s.freeCtr := rfl
@[simp] theorem State.emit_pending (s : State) (o : Out) : (s.emit o).pending = s.pending := rfl

/-! ### Accessors -/

@[simp] theorem State.setMem_mem (s : State) (m : Memory) : (s.setMem m).mem = m := rfl
@[simp] theorem State.emit_out (s : State) (o : Out) : (s.emit o).out = o :: s.out := rfl

/-- A field reads what was written, within its width. -/
theorem State.reg_setReg_same {s : State} {f : Fld} {inst i v : Nat} : (s.setReg f inst i v).reg f inst i = v % 2 ^ f.width := by
  unfold State.reg State.setReg
  rw [Map.get_put_same, Nat.mod_mod]
/-- A write of a field does not move a field with another key. -/
theorem State.reg_setReg_other {s : State} {f g : Fld} {inst j i k v : Nat} (h : f.key inst i ≠ g.key j k) :
    (s.setReg f inst i v).reg g j k = s.reg g j k := by
  unfold State.reg State.setReg
  rw [Map.get_put_other h]

@[simp] theorem State.tile_setTile_same (s : State) (k : Nat) (x : TileSt) : (s.setTile k x).tile k = x := by
  unfold State.tile State.setTile
  exact Map.get_put_same ..
theorem State.tile_setTile_other {s : State} {k j : Nat} {x : TileSt} (h : k ≠ j) : (s.setTile k x).tile j = s.tile j := by
  unfold State.tile State.setTile
  exact Map.get_put_other h ..
@[simp] theorem State.tile_updTile_same (s : State) (k : Nat) (f : TileSt → TileSt) : (s.updTile k f).tile k = f (s.tile k) := State.tile_setTile_same ..
theorem State.tile_updTile_other {s : State} {k j : Nat} {f : TileSt → TileSt} (h : k ≠ j) : (s.updTile k f).tile j = s.tile j := State.tile_setTile_other h
@[simp] theorem State.tile_setReg (s : State) (k : Nat) (f : Fld) (inst i v : Nat) : (s.setReg f inst i v).tile k = s.tile k := rfl
@[simp] theorem State.updTile_regs (s : State) (k : Nat) (f : TileSt → TileSt) : (s.updTile k f).regs = s.regs := rfl
@[simp] theorem State.updTile_mem (s : State) (k : Nat) (f : TileSt → TileSt) : (s.updTile k f).mem = s.mem := rfl
@[simp] theorem State.updTile_shadows (s : State) (k : Nat) (f : TileSt → TileSt) : (s.updTile k f).shadows = s.shadows := rfl
@[simp] theorem State.updTile_latch (s : State) (k : Nat) (f : TileSt → TileSt) : (s.updTile k f).latch = s.latch := rfl
@[simp] theorem State.updTile_parts (s : State) (k : Nat) (f : TileSt → TileSt) : (s.updTile k f).parts = s.parts := rfl
@[simp] theorem State.updTile_reqs (s : State) (k : Nat) (f : TileSt → TileSt) : (s.updTile k f).reqs = s.reqs := rfl
@[simp] theorem State.updTile_pages (s : State) (k : Nat) (f : TileSt → TileSt) : (s.updTile k f).pages = s.pages := rfl
@[simp] theorem State.updTile_links (s : State) (k : Nat) (f : TileSt → TileSt) : (s.updTile k f).links = s.links := rfl
@[simp] theorem State.updTile_lanes (s : State) (k : Nat) (f : TileSt → TileSt) : (s.updTile k f).lanes = s.lanes := rfl
@[simp] theorem State.updTile_cross (s : State) (k : Nat) (f : TileSt → TileSt) : (s.updTile k f).cross = s.cross := rfl
@[simp] theorem State.updTile_express (s : State) (k : Nat) (f : TileSt → TileSt) : (s.updTile k f).express = s.express := rfl
@[simp] theorem State.updTile_laneOwner (s : State) (k : Nat) (f : TileSt → TileSt) : (s.updTile k f).laneOwner = s.laneOwner := rfl
@[simp] theorem State.updTile_flight (s : State) (k : Nat) (f : TileSt → TileSt) : (s.updTile k f).flight = s.flight := rfl
@[simp] theorem State.updTile_treeMsgs (s : State) (k : Nat) (f : TileSt → TileSt) : (s.updTile k f).treeMsgs = s.treeMsgs := rfl
@[simp] theorem State.updTile_power (s : State) (k : Nat) (f : TileSt → TileSt) : (s.updTile k f).power = s.power := rfl
@[simp] theorem State.updTile_thermal (s : State) (k : Nat) (f : TileSt → TileSt) : (s.updTile k f).thermal = s.thermal := rfl
@[simp] theorem State.updTile_cal (s : State) (k : Nat) (f : TileSt → TileSt) : (s.updTile k f).cal = s.cal := rfl
@[simp] theorem State.updTile_repair (s : State) (k : Nat) (f : TileSt → TileSt) : (s.updTile k f).repair = s.repair := rfl
@[simp] theorem State.updTile_link (s : State) (k : Nat) (f : TileSt → TileSt) : (s.updTile k f).link = s.link := rfl
@[simp] theorem State.updTile_log (s : State) (k : Nat) (f : TileSt → TileSt) : (s.updTile k f).log = s.log := rfl
@[simp] theorem State.updTile_logTail (s : State) (k : Nat) (f : TileSt → TileSt) : (s.updTile k f).logTail = s.logTail := rfl
@[simp] theorem State.updTile_wcount (s : State) (k : Nat) (f : TileSt → TileSt) : (s.updTile k f).wcount = s.wcount := rfl
@[simp] theorem State.updTile_ptp (s : State) (k : Nat) (f : TileSt → TileSt) : (s.updTile k f).ptp = s.ptp := rfl
@[simp] theorem State.updTile_submits (s : State) (k : Nat) (f : TileSt → TileSt) : (s.updTile k f).submits = s.submits := rfl
@[simp] theorem State.updTile_stewardHome (s : State) (k : Nat) (f : TileSt → TileSt) : (s.updTile k f).stewardHome = s.stewardHome := rfl
@[simp] theorem State.updTile_rootHome (s : State) (k : Nat) (f : TileSt → TileSt) : (s.updTile k f).rootHome = s.rootHome := rfl
@[simp] theorem State.updTile_stewardUp (s : State) (k : Nat) (f : TileSt → TileSt) : (s.updTile k f).stewardUp = s.stewardUp := rfl
@[simp] theorem State.updTile_freeCtr (s : State) (k : Nat) (f : TileSt → TileSt) : (s.updTile k f).freeCtr = s.freeCtr := rfl
@[simp] theorem State.updTile_out (s : State) (k : Nat) (f : TileSt → TileSt) : (s.updTile k f).out = s.out := rfl
@[simp] theorem State.updTile_pending (s : State) (k : Nat) (f : TileSt → TileSt) : (s.updTile k f).pending = s.pending := rfl
@[simp] theorem State.reg_updTile (s : State) (k : Nat) (f : TileSt → TileSt) (g : Fld) (j i : Nat) : (s.updTile k f).reg g j i = s.reg g j i := rfl
@[simp] theorem State.part_setPart_same (s : State) (k : Nat) (x : PartSt) : (s.setPart k x).part k = x := by
  unfold State.part State.setPart
  exact Map.get_put_same ..
theorem State.part_setPart_other {s : State} {k j : Nat} {x : PartSt} (h : k ≠ j) : (s.setPart k x).part j = s.part j := by
  unfold State.part State.setPart
  exact Map.get_put_other h ..
@[simp] theorem State.part_updPart_same (s : State) (k : Nat) (f : PartSt → PartSt) : (s.updPart k f).part k = f (s.part k) := State.part_setPart_same ..
theorem State.part_updPart_other {s : State} {k j : Nat} {f : PartSt → PartSt} (h : k ≠ j) : (s.updPart k f).part j = s.part j := State.part_setPart_other h
@[simp] theorem State.part_setReg (s : State) (k : Nat) (f : Fld) (inst i v : Nat) : (s.setReg f inst i v).part k = s.part k := rfl
@[simp] theorem State.updPart_regs (s : State) (k : Nat) (f : PartSt → PartSt) : (s.updPart k f).regs = s.regs := rfl
@[simp] theorem State.updPart_mem (s : State) (k : Nat) (f : PartSt → PartSt) : (s.updPart k f).mem = s.mem := rfl
@[simp] theorem State.updPart_shadows (s : State) (k : Nat) (f : PartSt → PartSt) : (s.updPart k f).shadows = s.shadows := rfl
@[simp] theorem State.updPart_latch (s : State) (k : Nat) (f : PartSt → PartSt) : (s.updPart k f).latch = s.latch := rfl
@[simp] theorem State.updPart_tiles (s : State) (k : Nat) (f : PartSt → PartSt) : (s.updPart k f).tiles = s.tiles := rfl
@[simp] theorem State.updPart_reqs (s : State) (k : Nat) (f : PartSt → PartSt) : (s.updPart k f).reqs = s.reqs := rfl
@[simp] theorem State.updPart_pages (s : State) (k : Nat) (f : PartSt → PartSt) : (s.updPart k f).pages = s.pages := rfl
@[simp] theorem State.updPart_links (s : State) (k : Nat) (f : PartSt → PartSt) : (s.updPart k f).links = s.links := rfl
@[simp] theorem State.updPart_lanes (s : State) (k : Nat) (f : PartSt → PartSt) : (s.updPart k f).lanes = s.lanes := rfl
@[simp] theorem State.updPart_cross (s : State) (k : Nat) (f : PartSt → PartSt) : (s.updPart k f).cross = s.cross := rfl
@[simp] theorem State.updPart_express (s : State) (k : Nat) (f : PartSt → PartSt) : (s.updPart k f).express = s.express := rfl
@[simp] theorem State.updPart_laneOwner (s : State) (k : Nat) (f : PartSt → PartSt) : (s.updPart k f).laneOwner = s.laneOwner := rfl
@[simp] theorem State.updPart_flight (s : State) (k : Nat) (f : PartSt → PartSt) : (s.updPart k f).flight = s.flight := rfl
@[simp] theorem State.updPart_treeMsgs (s : State) (k : Nat) (f : PartSt → PartSt) : (s.updPart k f).treeMsgs = s.treeMsgs := rfl
@[simp] theorem State.updPart_power (s : State) (k : Nat) (f : PartSt → PartSt) : (s.updPart k f).power = s.power := rfl
@[simp] theorem State.updPart_thermal (s : State) (k : Nat) (f : PartSt → PartSt) : (s.updPart k f).thermal = s.thermal := rfl
@[simp] theorem State.updPart_cal (s : State) (k : Nat) (f : PartSt → PartSt) : (s.updPart k f).cal = s.cal := rfl
@[simp] theorem State.updPart_repair (s : State) (k : Nat) (f : PartSt → PartSt) : (s.updPart k f).repair = s.repair := rfl
@[simp] theorem State.updPart_link (s : State) (k : Nat) (f : PartSt → PartSt) : (s.updPart k f).link = s.link := rfl
@[simp] theorem State.updPart_log (s : State) (k : Nat) (f : PartSt → PartSt) : (s.updPart k f).log = s.log := rfl
@[simp] theorem State.updPart_logTail (s : State) (k : Nat) (f : PartSt → PartSt) : (s.updPart k f).logTail = s.logTail := rfl
@[simp] theorem State.updPart_wcount (s : State) (k : Nat) (f : PartSt → PartSt) : (s.updPart k f).wcount = s.wcount := rfl
@[simp] theorem State.updPart_ptp (s : State) (k : Nat) (f : PartSt → PartSt) : (s.updPart k f).ptp = s.ptp := rfl
@[simp] theorem State.updPart_submits (s : State) (k : Nat) (f : PartSt → PartSt) : (s.updPart k f).submits = s.submits := rfl
@[simp] theorem State.updPart_stewardHome (s : State) (k : Nat) (f : PartSt → PartSt) : (s.updPart k f).stewardHome = s.stewardHome := rfl
@[simp] theorem State.updPart_rootHome (s : State) (k : Nat) (f : PartSt → PartSt) : (s.updPart k f).rootHome = s.rootHome := rfl
@[simp] theorem State.updPart_stewardUp (s : State) (k : Nat) (f : PartSt → PartSt) : (s.updPart k f).stewardUp = s.stewardUp := rfl
@[simp] theorem State.updPart_freeCtr (s : State) (k : Nat) (f : PartSt → PartSt) : (s.updPart k f).freeCtr = s.freeCtr := rfl
@[simp] theorem State.updPart_out (s : State) (k : Nat) (f : PartSt → PartSt) : (s.updPart k f).out = s.out := rfl
@[simp] theorem State.updPart_pending (s : State) (k : Nat) (f : PartSt → PartSt) : (s.updPart k f).pending = s.pending := rfl
@[simp] theorem State.reg_updPart (s : State) (k : Nat) (f : PartSt → PartSt) (g : Fld) (j i : Nat) : (s.updPart k f).reg g j i = s.reg g j i := rfl
@[simp] theorem State.req_setReq_same (s : State) (k : Nat) (x : ReqSt) : (s.setReq k x).req k = x := by
  unfold State.req State.setReq
  exact Map.get_put_same ..
theorem State.req_setReq_other {s : State} {k j : Nat} {x : ReqSt} (h : k ≠ j) : (s.setReq k x).req j = s.req j := by
  unfold State.req State.setReq
  exact Map.get_put_other h ..
@[simp] theorem State.req_updReq_same (s : State) (k : Nat) (f : ReqSt → ReqSt) : (s.updReq k f).req k = f (s.req k) := State.req_setReq_same ..
theorem State.req_updReq_other {s : State} {k j : Nat} {f : ReqSt → ReqSt} (h : k ≠ j) : (s.updReq k f).req j = s.req j := State.req_setReq_other h
@[simp] theorem State.req_setReg (s : State) (k : Nat) (f : Fld) (inst i v : Nat) : (s.setReg f inst i v).req k = s.req k := rfl
@[simp] theorem State.updReq_regs (s : State) (k : Nat) (f : ReqSt → ReqSt) : (s.updReq k f).regs = s.regs := rfl
@[simp] theorem State.updReq_mem (s : State) (k : Nat) (f : ReqSt → ReqSt) : (s.updReq k f).mem = s.mem := rfl
@[simp] theorem State.updReq_shadows (s : State) (k : Nat) (f : ReqSt → ReqSt) : (s.updReq k f).shadows = s.shadows := rfl
@[simp] theorem State.updReq_latch (s : State) (k : Nat) (f : ReqSt → ReqSt) : (s.updReq k f).latch = s.latch := rfl
@[simp] theorem State.updReq_tiles (s : State) (k : Nat) (f : ReqSt → ReqSt) : (s.updReq k f).tiles = s.tiles := rfl
@[simp] theorem State.updReq_parts (s : State) (k : Nat) (f : ReqSt → ReqSt) : (s.updReq k f).parts = s.parts := rfl
@[simp] theorem State.updReq_pages (s : State) (k : Nat) (f : ReqSt → ReqSt) : (s.updReq k f).pages = s.pages := rfl
@[simp] theorem State.updReq_links (s : State) (k : Nat) (f : ReqSt → ReqSt) : (s.updReq k f).links = s.links := rfl
@[simp] theorem State.updReq_lanes (s : State) (k : Nat) (f : ReqSt → ReqSt) : (s.updReq k f).lanes = s.lanes := rfl
@[simp] theorem State.updReq_cross (s : State) (k : Nat) (f : ReqSt → ReqSt) : (s.updReq k f).cross = s.cross := rfl
@[simp] theorem State.updReq_express (s : State) (k : Nat) (f : ReqSt → ReqSt) : (s.updReq k f).express = s.express := rfl
@[simp] theorem State.updReq_laneOwner (s : State) (k : Nat) (f : ReqSt → ReqSt) : (s.updReq k f).laneOwner = s.laneOwner := rfl
@[simp] theorem State.updReq_flight (s : State) (k : Nat) (f : ReqSt → ReqSt) : (s.updReq k f).flight = s.flight := rfl
@[simp] theorem State.updReq_treeMsgs (s : State) (k : Nat) (f : ReqSt → ReqSt) : (s.updReq k f).treeMsgs = s.treeMsgs := rfl
@[simp] theorem State.updReq_power (s : State) (k : Nat) (f : ReqSt → ReqSt) : (s.updReq k f).power = s.power := rfl
@[simp] theorem State.updReq_thermal (s : State) (k : Nat) (f : ReqSt → ReqSt) : (s.updReq k f).thermal = s.thermal := rfl
@[simp] theorem State.updReq_cal (s : State) (k : Nat) (f : ReqSt → ReqSt) : (s.updReq k f).cal = s.cal := rfl
@[simp] theorem State.updReq_repair (s : State) (k : Nat) (f : ReqSt → ReqSt) : (s.updReq k f).repair = s.repair := rfl
@[simp] theorem State.updReq_link (s : State) (k : Nat) (f : ReqSt → ReqSt) : (s.updReq k f).link = s.link := rfl
@[simp] theorem State.updReq_log (s : State) (k : Nat) (f : ReqSt → ReqSt) : (s.updReq k f).log = s.log := rfl
@[simp] theorem State.updReq_logTail (s : State) (k : Nat) (f : ReqSt → ReqSt) : (s.updReq k f).logTail = s.logTail := rfl
@[simp] theorem State.updReq_wcount (s : State) (k : Nat) (f : ReqSt → ReqSt) : (s.updReq k f).wcount = s.wcount := rfl
@[simp] theorem State.updReq_ptp (s : State) (k : Nat) (f : ReqSt → ReqSt) : (s.updReq k f).ptp = s.ptp := rfl
@[simp] theorem State.updReq_submits (s : State) (k : Nat) (f : ReqSt → ReqSt) : (s.updReq k f).submits = s.submits := rfl
@[simp] theorem State.updReq_stewardHome (s : State) (k : Nat) (f : ReqSt → ReqSt) : (s.updReq k f).stewardHome = s.stewardHome := rfl
@[simp] theorem State.updReq_rootHome (s : State) (k : Nat) (f : ReqSt → ReqSt) : (s.updReq k f).rootHome = s.rootHome := rfl
@[simp] theorem State.updReq_stewardUp (s : State) (k : Nat) (f : ReqSt → ReqSt) : (s.updReq k f).stewardUp = s.stewardUp := rfl
@[simp] theorem State.updReq_freeCtr (s : State) (k : Nat) (f : ReqSt → ReqSt) : (s.updReq k f).freeCtr = s.freeCtr := rfl
@[simp] theorem State.updReq_out (s : State) (k : Nat) (f : ReqSt → ReqSt) : (s.updReq k f).out = s.out := rfl
@[simp] theorem State.updReq_pending (s : State) (k : Nat) (f : ReqSt → ReqSt) : (s.updReq k f).pending = s.pending := rfl
@[simp] theorem State.reg_updReq (s : State) (k : Nat) (f : ReqSt → ReqSt) (g : Fld) (j i : Nat) : (s.updReq k f).reg g j i = s.reg g j i := rfl

/-! ### Accessors of one map after an update of another -/

@[simp] theorem State.tile_updPart (s : State) (j : Nat) (f : PartSt → PartSt) (k : Nat) : (s.updPart j f).tile k = s.tile k := rfl
@[simp] theorem State.tile_setPart (s : State) (j : Nat) (f : PartSt) (k : Nat) : (s.setPart j f).tile k = s.tile k := rfl
@[simp] theorem State.tile_updReq (s : State) (j : Nat) (f : ReqSt → ReqSt) (k : Nat) : (s.updReq j f).tile k = s.tile k := rfl
@[simp] theorem State.tile_setReq (s : State) (j : Nat) (f : ReqSt) (k : Nat) : (s.setReq j f).tile k = s.tile k := rfl
@[simp] theorem State.tile_setPage (s : State) (j : Nat) (f : PageEnt) (k : Nat) : (s.setPage j f).tile k = s.tile k := rfl
@[simp] theorem State.tile_setMem (s : State) (f : Memory) (k : Nat) : (s.setMem f).tile k = s.tile k := rfl
@[simp] theorem State.tile_emit (s : State) (f : Out) (k : Nat) : (s.emit f).tile k = s.tile k := rfl
@[simp] theorem State.part_updTile (s : State) (j : Nat) (f : TileSt → TileSt) (k : Nat) : (s.updTile j f).part k = s.part k := rfl
@[simp] theorem State.part_setTile (s : State) (j : Nat) (f : TileSt) (k : Nat) : (s.setTile j f).part k = s.part k := rfl
@[simp] theorem State.part_updReq (s : State) (j : Nat) (f : ReqSt → ReqSt) (k : Nat) : (s.updReq j f).part k = s.part k := rfl
@[simp] theorem State.part_setReq (s : State) (j : Nat) (f : ReqSt) (k : Nat) : (s.setReq j f).part k = s.part k := rfl
@[simp] theorem State.part_setPage (s : State) (j : Nat) (f : PageEnt) (k : Nat) : (s.setPage j f).part k = s.part k := rfl
@[simp] theorem State.part_setMem (s : State) (f : Memory) (k : Nat) : (s.setMem f).part k = s.part k := rfl
@[simp] theorem State.part_emit (s : State) (f : Out) (k : Nat) : (s.emit f).part k = s.part k := rfl
@[simp] theorem State.req_updTile (s : State) (j : Nat) (f : TileSt → TileSt) (k : Nat) : (s.updTile j f).req k = s.req k := rfl
@[simp] theorem State.req_setTile (s : State) (j : Nat) (f : TileSt) (k : Nat) : (s.setTile j f).req k = s.req k := rfl
@[simp] theorem State.req_updPart (s : State) (j : Nat) (f : PartSt → PartSt) (k : Nat) : (s.updPart j f).req k = s.req k := rfl
@[simp] theorem State.req_setPart (s : State) (j : Nat) (f : PartSt) (k : Nat) : (s.setPart j f).req k = s.req k := rfl
@[simp] theorem State.req_setPage (s : State) (j : Nat) (f : PageEnt) (k : Nat) : (s.setPage j f).req k = s.req k := rfl
@[simp] theorem State.req_setMem (s : State) (f : Memory) (k : Nat) : (s.setMem f).req k = s.req k := rfl
@[simp] theorem State.req_emit (s : State) (f : Out) (k : Nat) : (s.emit f).req k = s.req k := rfl
@[simp] theorem State.page_updTile (s : State) (j : Nat) (f : TileSt → TileSt) (k : Nat) : (s.updTile j f).page k = s.page k := rfl
@[simp] theorem State.page_setTile (s : State) (j : Nat) (f : TileSt) (k : Nat) : (s.setTile j f).page k = s.page k := rfl
@[simp] theorem State.page_updPart (s : State) (j : Nat) (f : PartSt → PartSt) (k : Nat) : (s.updPart j f).page k = s.page k := rfl
@[simp] theorem State.page_setPart (s : State) (j : Nat) (f : PartSt) (k : Nat) : (s.setPart j f).page k = s.page k := rfl
@[simp] theorem State.page_updReq (s : State) (j : Nat) (f : ReqSt → ReqSt) (k : Nat) : (s.updReq j f).page k = s.page k := rfl
@[simp] theorem State.page_setReq (s : State) (j : Nat) (f : ReqSt) (k : Nat) : (s.setReq j f).page k = s.page k := rfl
@[simp] theorem State.page_setMem (s : State) (f : Memory) (k : Nat) : (s.setMem f).page k = s.page k := rfl
@[simp] theorem State.page_emit (s : State) (f : Out) (k : Nat) : (s.emit f).page k = s.page k := rfl
@[simp] theorem State.reg_setTile (s : State) (j : Nat) (f : TileSt) (g : Fld) (m k : Nat) : (s.setTile j f).reg g m k = s.reg g m k := rfl
@[simp] theorem State.reg_setPart (s : State) (j : Nat) (f : PartSt) (g : Fld) (m k : Nat) : (s.setPart j f).reg g m k = s.reg g m k := rfl
@[simp] theorem State.reg_setReq (s : State) (j : Nat) (f : ReqSt) (g : Fld) (m k : Nat) : (s.setReq j f).reg g m k = s.reg g m k := rfl
@[simp] theorem State.reg_setPage (s : State) (j : Nat) (f : PageEnt) (g : Fld) (m k : Nat) : (s.setPage j f).reg g m k = s.reg g m k := rfl
@[simp] theorem State.reg_setMem (s : State) (f : Memory) (g : Fld) (m k : Nat) : (s.setMem f).reg g m k = s.reg g m k := rfl
@[simp] theorem State.reg_emit (s : State) (f : Out) (g : Fld) (m k : Nat) : (s.emit f).reg g m k = s.reg g m k := rfl

end Sys2Proof.Machine
end

