-- ==== Sys2Proof/Laws/Issuable.lean ====
section
/-! SUPPORT. Tile commands that nothing refuses: what `State.issue` and the checks of the engines come to. -/

namespace Sys2Proof.Machine

open Sys2Proof Sys2Proof.Safety

/-- The tile that runs the word differs in its issued entries only. -/
theorem tile_seen (s : State) (i : Issue) :
    (seen s i).tile i.tile.val = { s.tile i.tile.val with issued := (s.tile i.tile.val).issued.add i.entry.val } := by
  unfold seen
  rw [State.tile_updTile_same]
  rfl
@[simp] theorem tile_seen_other {s : State} {i : Issue} {t : Nat} (h : i.tile.val ≠ t) : (seen s i).tile t = s.tile t := by
  unfold seen
  rw [State.tile_updTile_other h]
  rfl
@[simp] theorem mem_seen (s : State) (i : Issue) : (seen s i).mem = s.mem := rfl

/-- A word that the schedule issues to the unit is run by it. -/
theorem issue_runs {s : State} {i : Issue} {unit : Nat} (h : issuable s i unit) {refuse run : State → State} :
    s.issue i unit refuse run = .next (run (seen s i)) := by
  obtain ⟨h1, h2, h3, h4⟩ := h
  have e : (seen s i).reg (HDR_ERR_INJECT .seq) i.tile.val 0 = s.reg (HDR_ERR_INJECT .seq) i.tile.val 0 := by
    unfold seen
    rw [State.reg_updTile]
    apply State.reg_setReg_other
    simp only [Fld.key, SEQ_STATUS_OFFSET, HDR_ERR_INJECT, Fld.offset]
    omega
  have e2 : ((seen s i).tile i.tile.val).seqBad.mem i.entry.val = false := by rw [tile_seen]; exact h4
  have e3 : (seen s i).parityOf i.tile.val i.entry.val = (seen s i, false) := by
    unfold State.parityOf
    simp only [e, h3, if_false, e2]
  unfold State.issue
  simp only [h1, h2, Bool.and_self, if_true]
  unfold seen at e3
  rw [e3]
  rfl

/-- No array refuses. -/
theorem refusals_nil {arrs : List Nat} {f : Nat → Option Nat} (h : ∀ n ∈ arrs, f n = none) : refusals arrs f = [] := by
  unfold refusals
  rw [List.filterMap_eq_nil_iff]
  intro n hn
  simp [h n hn]

/-- A vector command that nothing refuses runs. -/
theorem vExec_runs {s : State} {i : Issue} {opc : Nat} {src dst : List Nat} {run : State → State} (h : issuable s i 2) (ho : bits i.word.toNat 63 58 = opc)
    (ht : vTy i.word.toNat ≠ 3) (hd : ∀ r ∈ dst, r < 32) (hf : vectorFree s i (src ++ dst)) :
    s.vExec i opc false src dst run = .next (run (seen s i)) := by
  have h1 : dst.any (fun r => decide (32 ≤ r)) = false := by
    rw [List.any_eq_false]
    intro r hr
    have := hd r hr
    simp; omega
  have h2 : (src ++ dst).any (fun r => decide (i.cycle.val < ((seen s i).tile i.tile.val).vPend.get r 0)) = false := by
    rw [List.any_eq_false]
    intro r hr
    have : ((seen s i).tile i.tile.val).vPend.get r 0 ≤ i.cycle.val := by rw [tile_seen]; exact hf.2 r hr
    simp only [decide_eq_true_eq]; omega
  have h3 : ¬ i.cycle.val < ((seen s i).tile i.tile.val).fusedUntil := by
    rw [tile_seen]; exact Nat.not_lt.2 hf.1
  unfold State.vExec
  rw [issue_runs h]
  simp only [ho, bne_self_eq_false, if_false, Bool.false_eq_true, State.vIssue, h1, h2, h3, Bool.or_false, Bool.false_or, beq_iff_eq, ht]

/-- Words of a quarter row stored: every byte outside the quarter reads as before. -/
theorem State.storeWords_read {s : State} {t r : Nat} {bs : List Beat} {q a : Nat} (h : a < basinRow t r + 128 * q ∨ basinRow t r + 128 * q + 128 ≤ a) :
    Memory.read (s.storeWords t r bs (quarterWords q)).mem a = Memory.read s.mem a := by
  unfold State.storeWords
  have : ∀ l : List Nat, (∀ w ∈ l, 16 * q ≤ w ∧ w < 16 * q + 16) → ∀ s : State, Memory.read (l.foldl (fun s w =>
    let b := (bs[w / 8]?).getD (Beat.zero true)
    let k := r * 64 + w
    let s := s.updTile t (fun x => { x with poisonMark := x.poisonMark.upd k b.poison, troubleMark := x.troubleMark.upd k b.trouble, flips := x.flips.del k })
    s.setMem (Memory.writeBytes s.mem (basinRow t r + 8 * w) ((b.data.drop (8 * (w % 8))).take 8))) s).mem a = Memory.read s.mem a := by
    intro l
    induction l with
    | nil => intro _ s; rfl
    | cons w l ih =>
      intro hl s
      rw [List.foldl_cons, ih (fun x hx => hl x (List.mem_cons_of_mem _ hx))]
      have hw := hl w (List.mem_cons_self ..)
      refine (Memory.read_writeBytes_outside _ _ _ _ ?_).trans rfl
      have : ((((bs[w / 8]?).getD (Beat.zero true)).data.drop (8 * (w % 8))).take 8).length ≤ 8 := by
        rw [List.length_take]; exact Nat.min_le_left ..
      omega
  refine this _ (fun w hw => ?_) s
  unfold quarterWords at hw
  obtain ⟨j, hj, rfl⟩ := List.mem_map.1 hw
  have : j < 16 := by
    have e : upTo 16 = [0, 1, 2, 3, 4, 5, 6, 7, 8, 9, 10, 11, 12, 13, 14, 15] := by decide
    rw [e] at hj
    simp only [List.mem_cons, List.not_mem_nil, or_false] at hj
    omega
  omega

/-! ### Records leave the partitions as they stand, but for `noRetry` -/

@[simp] theorem State.msix_parts (s : State) (fn vec : Nat) : (s.msix fn vec).parts = s.parts := by
  unfold State.msix
  dsimp only
  split <;> rfl
@[simp] theorem State.raiseInt_parts (s : State) (fn bit : Nat) : (s.raiseInt fn bit).parts = s.parts := by
  unfold State.raiseInt
  dsimp only
  split
  · rfl
  · split
    · rw [State.msix_parts]; rfl
    · rfl
@[simp] theorem State.recordInts_parts (s : State) (r : FaultRec) : (s.recordInts r).parts = s.parts := by
  unfold State.recordInts
  extract_lets c s1 s2 s3 s4 s5 s6
  have h1 : s1.parts = s.parts := rfl
  have h2 : s2.parts = s1.parts := by unfold s2; split <;> simp
  have h3 : s3.parts = s2.parts := by unfold s3; split <;> simp
  have h4 : s4.parts = s3.parts := by unfold s4; split <;> simp
  have h5 : s5.parts = s4.parts := by unfold s5; split <;> simp
  have h6 : s6.parts = s5.parts := by
    unfold s6
    split
    · split <;> simp
    · rfl
  have : s6.parts = s.parts := by rw [h6, h5, h4, h3, h2, h1]
  split <;> simp [this]
/-- A record may set `noRetry` of its partition, and nothing else of any partition. -/
theorem State.record_part (s : State) (r : Rec) (p : Nat) :
    (s.record r).part p = s.part p ∨ (s.record r).part p = { s.part p with noRetry := true } := by
  unfold State.record
  extract_lets fr s1
  have e : s1.parts = s.parts := by unfold s1; rw [State.recordInts_parts]; rfl
  have e2 : ∀ q, s1.part q = s.part q := fun q => by unfold State.part; rw [e]
  split
  · rename_i q _
    split
    · by_cases g : q = p
      · subst g
        rw [State.part_updPart_same, e2]
        exact Or.inr (Eq.refl _)
      · rw [State.part_updPart_other g, e2]
        exact Or.inl (Eq.refl _)
    · exact Or.inl (e2 p)
  · exact Or.inl (e2 p)
theorem State.tileRecord_phase (s : State) (t : Nat) (r : Rec) (p : Nat) : ((s.tileRecord t r).part p).phase = (s.part p).phase := by
  unfold State.tileRecord
  rcases State.record_part s { r with tile := some t, part := s.owner t } p with h | h <;> rw [h]

end Sys2Proof.Machine
end

