-- ==== Sys2Proof/Laws/Records.lean ====
section
/-! SUPPORT. What a fault record and an interrupt can change, said once: interrupts change registers of the INT page, pending
MSI-X vectors and messages; a record also appends to the log, raises a count of the ERR page, and may set `noRetry`. -/

namespace Sys2Proof.Machine

/-- Two states that differ at most in registers, in the link's state and in the messages put out. -/
def State.IntsOnly (s t : State) : Prop := ∃ regs link out, t = { s with regs := regs, link := link, out := out }

theorem State.IntsOnly.refl (s : State) : s.IntsOnly s := ⟨s.regs, s.link, s.out, rfl⟩
theorem State.IntsOnly.trans {a b c : State} (h : a.IntsOnly b) (k : b.IntsOnly c) : a.IntsOnly c := by
  obtain ⟨_, _, _, rfl⟩ := h
  obtain ⟨_, _, _, rfl⟩ := k
  exact ⟨_, _, _, rfl⟩

theorem State.IntsOnly.foldl {β : Type} {f : State → β → State} (h : ∀ s b, State.IntsOnly s (f s b)) (l : List β) : ∀ s : State, s.IntsOnly (l.foldl f s) := by
  induction l with
  | nil => intro s; exact .refl s
  | cons b l ih => intro s; exact (h s b).trans (ih (f s b))

theorem State.msix_only (s : State) (fn vec : Nat) : s.IntsOnly (s.msix fn vec) := by
  unfold State.msix
  dsimp only
  split
  · exact ⟨s.regs, s.link, _, rfl⟩
  · exact ⟨s.regs, _, s.out, rfl⟩
theorem State.setReg_only (s : State) (f : Fld) (inst i v : Nat) : s.IntsOnly (s.setReg f inst i v) := ⟨_, s.link, s.out, rfl⟩
theorem State.emit_only (s : State) (o : Out) : s.IntsOnly (s.emit o) := ⟨s.regs, s.link, _, rfl⟩
theorem State.raiseInt_only (s : State) (fn bit : Nat) : s.IntsOnly (s.raiseInt fn bit) := by
  unfold State.raiseInt
  dsimp only
  split
  · exact .refl _
  · split
    · exact (State.setReg_only ..).trans (State.msix_only ..)
    · exact State.setReg_only ..
theorem State.pstateInt_only (s : State) (p : Nat) : s.IntsOnly (s.pstateInt p) := by
  unfold State.pstateInt
  dsimp only
  refine .trans ?_ (State.raiseInt_only ..)
  split
  · exact .refl _
  · split
    · exact (State.setReg_only ..).trans (State.msix_only ..)
    · exact State.setReg_only ..
theorem State.recordInts_only (s : State) (r : FaultRec) : s.IntsOnly (s.recordInts r) := by
  unfold State.recordInts
  extract_lets c s1 s2 s3 s4 s5 s6
  have h1 : s.IntsOnly s1 := State.setReg_only ..
  have h2 : s1.IntsOnly s2 := by unfold s2; split; exact State.raiseInt_only ..; exact .refl _
  have h3 : s2.IntsOnly s3 := by unfold s3; split; exact State.raiseInt_only ..; exact .refl _
  have h4 : s3.IntsOnly s4 := by unfold s4; split; exact State.raiseInt_only ..; exact .refl _
  have h5 : s4.IntsOnly s5 := by unfold s5; split; exact State.raiseInt_only ..; exact .refl _
  have h6 : s5.IntsOnly s6 := by
    unfold s6
    split
    · split
      · exact State.raiseInt_only ..
      · exact .refl _
    · exact .refl _
  have h := ((((h1.trans h2).trans h3).trans h4).trans h5).trans h6
  split
  · exact h.trans (State.emit_only ..)
  · exact h

/-- A record: all that it can change. -/
theorem State.record_only (s : State) (r : Rec) : ∃ regs link out parts, s.record r =
    { s with regs := regs, link := link, out := out, parts := parts, log := (s.appendLog (s.stamp r)).log, logTail := s.logTail + 1 } := by
  unfold State.record
  dsimp only
  obtain ⟨regs, link, out, e⟩ := State.recordInts_only (s.appendLog (s.stamp r)) (s.stamp r)
  rw [e]
  split
  · split
    · exact ⟨regs, link, out, _, rfl⟩
    · exact ⟨regs, link, out, s.parts, rfl⟩
  · exact ⟨regs, link, out, s.parts, rfl⟩

@[simp] theorem State.record_logTail (s : State) (r : Rec) : (s.record r).logTail = s.logTail + 1 := by
  obtain ⟨_, _, _, _, e⟩ := s.record_only r; rw [e]
/-- The record appended is the one stamped in the state before. -/
@[simp] theorem State.record_log (s : State) (r : Rec) : (s.record r).log.get? s.logTail = some (s.stamp r) := by
  obtain ⟨_, _, _, _, e⟩ := s.record_only r; rw [e]
  unfold State.appendLog
  exact Map.get?_put_same ..
@[simp] theorem State.record_tiles (s : State) (r : Rec) : (s.record r).tiles = s.tiles := by
  obtain ⟨_, _, _, _, e⟩ := s.record_only r; rw [e]
@[simp] theorem State.record_tile (s : State) (r : Rec) (t : Nat) : (s.record r).tile t = s.tile t := by
  unfold State.tile; rw [State.record_tiles]
@[simp] theorem State.record_reqs (s : State) (r : Rec) : (s.record r).reqs = s.reqs := by
  obtain ⟨_, _, _, _, e⟩ := s.record_only r; rw [e]
@[simp] theorem State.record_req (s : State) (r : Rec) (q : Nat) : (s.record r).req q = s.req q := by
  unfold State.req; rw [State.record_reqs]
@[simp] theorem State.record_mem (s : State) (r : Rec) : (s.record r).mem = s.mem := by
  obtain ⟨_, _, _, _, e⟩ := s.record_only r; rw [e]
@[simp] theorem State.record_shadows (s : State) (r : Rec) : (s.record r).shadows = s.shadows := by
  obtain ⟨_, _, _, _, e⟩ := s.record_only r; rw [e]
@[simp] theorem State.record_pages (s : State) (r : Rec) : (s.record r).pages = s.pages := by
  obtain ⟨_, _, _, _, e⟩ := s.record_only r; rw [e]
@[simp] theorem State.record_flight (s : State) (r : Rec) : (s.record r).flight = s.flight := by
  obtain ⟨_, _, _, _, e⟩ := s.record_only r; rw [e]
@[simp] theorem State.record_links (s : State) (r : Rec) : (s.record r).links = s.links := by
  obtain ⟨_, _, _, _, e⟩ := s.record_only r; rw [e]
@[simp] theorem State.record_lanes (s : State) (r : Rec) : (s.record r).lanes = s.lanes := by
  obtain ⟨_, _, _, _, e⟩ := s.record_only r; rw [e]
@[simp] theorem State.record_cross (s : State) (r : Rec) : (s.record r).cross = s.cross := by
  obtain ⟨_, _, _, _, e⟩ := s.record_only r; rw [e]
@[simp] theorem State.record_express (s : State) (r : Rec) : (s.record r).express = s.express := by
  obtain ⟨_, _, _, _, e⟩ := s.record_only r; rw [e]
@[simp] theorem State.record_laneOwner (s : State) (r : Rec) : (s.record r).laneOwner = s.laneOwner := by
  obtain ⟨_, _, _, _, e⟩ := s.record_only r; rw [e]
@[simp] theorem State.record_treeMsgs (s : State) (r : Rec) : (s.record r).treeMsgs = s.treeMsgs := by
  obtain ⟨_, _, _, _, e⟩ := s.record_only r; rw [e]
@[simp] theorem State.record_power (s : State) (r : Rec) : (s.record r).power = s.power := by
  obtain ⟨_, _, _, _, e⟩ := s.record_only r; rw [e]
@[simp] theorem State.record_thermal (s : State) (r : Rec) : (s.record r).thermal = s.thermal := by
  obtain ⟨_, _, _, _, e⟩ := s.record_only r; rw [e]
@[simp] theorem State.record_cal (s : State) (r : Rec) : (s.record r).cal = s.cal := by
  obtain ⟨_, _, _, _, e⟩ := s.record_only r; rw [e]
@[simp] theorem State.record_repair (s : State) (r : Rec) : (s.record r).repair = s.repair := by
  obtain ⟨_, _, _, _, e⟩ := s.record_only r; rw [e]
@[simp] theorem State.record_ptp (s : State) (r : Rec) : (s.record r).ptp = s.ptp := by
  obtain ⟨_, _, _, _, e⟩ := s.record_only r; rw [e]
@[simp] theorem State.record_wcount (s : State) (r : Rec) : (s.record r).wcount = s.wcount := by
  obtain ⟨_, _, _, _, e⟩ := s.record_only r; rw [e]
@[simp] theorem State.record_stewardHome (s : State) (r : Rec) : (s.record r).stewardHome = s.stewardHome := by
  obtain ⟨_, _, _, _, e⟩ := s.record_only r; rw [e]
@[simp] theorem State.record_rootHome (s : State) (r : Rec) : (s.record r).rootHome = s.rootHome := by
  obtain ⟨_, _, _, _, e⟩ := s.record_only r; rw [e]

/-! ### The registers that a record writes lie in the ERR and INT pages -/

/-- No field of the INT and ERR pages, of any copy, has moved. -/
def State.IntRegs (s t : State) : Prop :=
  ∀ (f : Fld) (inst i : Nat), f.key inst i / 2 ^ 33 ≠ Page.int.code → f.key inst i / 2 ^ 33 ≠ Page.err.code → t.reg f inst i = s.reg f inst i
theorem State.IntRegs.refl (s : State) : s.IntRegs s := fun _ _ _ _ _ => rfl
theorem State.IntRegs.of_regs {s t : State} (h : t.regs = s.regs) : s.IntRegs t := fun f inst i _ _ => by unfold State.reg; rw [h]
theorem State.IntRegs.trans {a b c : State} (h : a.IntRegs b) (k : b.IntRegs c) : a.IntRegs c :=
  fun f inst i h1 h2 => (k f inst i h1 h2).trans (h f inst i h1 h2)
theorem State.msix_intRegs (s : State) (fn vec : Nat) : s.IntRegs (s.msix fn vec) := by
  unfold State.msix
  dsimp only
  split <;> exact .of_regs rfl
theorem State.raiseInt_intRegs (s : State) (fn bit : Nat) (h : fn < 65536) : s.IntRegs (s.raiseInt fn bit) := by
  unfold State.raiseInt
  dsimp only
  have hs : s.IntRegs (s.setReg INT_STATUS_STATUS fn 0 (setBit (s.reg INT_STATUS_STATUS fn 0) bit true)) := fun f inst i h1 _ =>
    State.reg_setReg_other (fun e => h1 (by rw [← e]; simp only [Fld.key, Fld.offset, INT_STATUS_STATUS, Page.code]; omega))
  split
  · exact .refl _
  · split
    · exact hs.trans (State.msix_intRegs _ _ _)
    · exact hs
theorem State.recordInts_intRegs (s : State) (r : FaultRec) (h : ∀ p, r.part = some p → p < 65535) : s.IntRegs (s.recordInts r) := by
  unfold State.recordInts
  extract_lets c s1 s2 s3 s4 s5 s6
  have hc : c < 16 := Nat.mod_lt _ (by decide)
  have h1 : s.IntRegs s1 := fun f inst i _ h2 =>
    State.reg_setReg_other (fun e => h2 (by rw [← e]; simp only [Fld.key, Fld.offset, ERR_CCOUNT_COUNT, Page.code]; omega))
  have h2 : s1.IntRegs s2 := by unfold s2; split; exact State.raiseInt_intRegs _ _ _ (by decide); exact .refl _
  have h3 : s2.IntRegs s3 := by unfold s3; split; exact State.raiseInt_intRegs _ _ _ (by decide); exact .refl _
  have h4 : s3.IntRegs s4 := by unfold s4; split; exact State.raiseInt_intRegs _ _ _ (by decide); exact .refl _
  have h5 : s4.IntRegs s5 := by unfold s5; split; exact State.raiseInt_intRegs _ _ _ (by decide); exact .refl _
  have h6 : s5.IntRegs s6 := by
    unfold s6
    split
    · rename_i p hp
      split
      · exact State.raiseInt_intRegs _ _ _ (by have := h p hp; omega)
      · exact .refl _
    · exact .refl _
  have h := ((((h1.trans h2).trans h3).trans h4).trans h5).trans h6
  split
  · exact h.trans (.of_regs rfl)
  · exact h
/-- A record moves no field outside the ERR and INT pages. -/
theorem State.record_reg {s : State} {r : Rec} {f : Fld} {inst i : Nat} (h : ∀ p, r.part = some p → p < 65535)
    (h1 : f.key inst i / 2 ^ 33 ≠ Page.int.code) (h2 : f.key inst i / 2 ^ 33 ≠ Page.err.code) : (s.record r).reg f inst i = s.reg f inst i := by
  have e : ((s.appendLog (s.stamp r)).recordInts (s.stamp r)).reg f inst i = s.reg f inst i :=
    State.recordInts_intRegs _ _ h f inst i h1 h2
  unfold State.record
  dsimp only
  split
  · split
    · exact e
    · exact e
  · exact e
/-- A record moves no partition in anything but `noRetry`. -/
theorem State.record_part_phase (s : State) (r : Rec) (p : Nat) : ((s.record r).part p).phase = (s.part p).phase := by
  rcases State.record_part s r p with h | h <;> rw [h]
/-! ### Fields after a write and after a record of class 5 -/

@[simp] theorem State.g_setG_same (s : State) (f : Fld) (i v : Nat) : (s.setG f i v).g f i = v % 2 ^ f.width := by
  unfold State.g State.setG; rw [State.reg_setReg_same]
theorem State.reg_setG_other {s : State} {f k : Fld} {i n j v : Nat} (h : f.key 0 i ≠ k.key n j) : (s.setG f i v).reg k n j = s.reg k n j := by
  unfold State.setG; rw [State.reg_setReg_other h]
theorem State.flag_setG_one (s : State) (f : Fld) (i : Nat) (h : 1 ≤ f.width) : (s.setG f i 1).flag f 0 i = true := by
  unfold State.flag State.setG
  rw [State.reg_setReg_same]
  have : 1 % 2 ^ f.width = 1 := Nat.mod_eq_of_lt (Nat.lt_of_lt_of_le (by decide : 1 < 2 ^ 1) (Nat.pow_le_pow_right (by decide) h))
  rw [this]; rfl
theorem State.flag_setG_zero (s : State) (f : Fld) (i : Nat) : (s.setG f i 0).flag f 0 i = false := by
  unfold State.flag State.setG
  rw [State.reg_setReg_same, Nat.zero_mod]; rfl
theorem State.record_reg' {s : State} {r : Rec} {f : Fld} {i j : Nat} (h : r.part = none) (h1 : f.key i j / 2 ^ 33 ≠ Page.int.code)
    (h2 : f.key i j / 2 ^ 33 ≠ Page.err.code) : (s.record r).reg f i j = s.reg f i j := State.record_reg (fun p k => by rw [h] at k; cases k) h1 h2

/-! ### Links, over interrupts and records -/

/-- The link state is the same but for pending MSI-X vectors. -/
def State.LinkKept (s t : State) : Prop := ∃ m, t.link = { s.link with msixPend := m }
theorem State.LinkKept.refl (s : State) : s.LinkKept s := ⟨s.link.msixPend, rfl⟩
theorem State.LinkKept.of_link {s t : State} (h : t.link = s.link) : s.LinkKept t := ⟨s.link.msixPend, h⟩
theorem State.LinkKept.trans {a b c : State} (h : a.LinkKept b) (k : b.LinkKept c) : a.LinkKept c := by
  obtain ⟨m, h⟩ := h
  obtain ⟨n, k⟩ := k
  exact ⟨n, by rw [k, h]⟩
theorem State.msix_linkKept (s : State) (fn vec : Nat) : s.LinkKept (s.msix fn vec) := by
  unfold State.msix
  dsimp only
  split
  · exact .refl _
  · exact ⟨_, rfl⟩
theorem State.raiseInt_linkKept (s : State) (fn bit : Nat) : s.LinkKept (s.raiseInt fn bit) := by
  unfold State.raiseInt
  dsimp only
  split
  · exact .refl _
  · have h : s.LinkKept (s.setReg INT_STATUS_STATUS fn 0 (setBit (s.reg INT_STATUS_STATUS fn 0) bit true)) := .of_link rfl
    split
    · exact h.trans (State.msix_linkKept ..)
    · exact h
theorem State.recordInts_linkKept (s : State) (r : FaultRec) : s.LinkKept (s.recordInts r) := by
  have step : ∀ (b : Prop) [Decidable b] (u : State) (fn bit : Nat), State.LinkKept u (if b then u.raiseInt fn bit else u) := fun b _ u fn bit => by
    split
    · exact State.raiseInt_linkKept ..
    · exact .refl _
  unfold State.recordInts
  extract_lets c s1 s2 s3 s4 s5 s6
  have h1 : s.LinkKept s1 := .of_link rfl
  have h5 : s.LinkKept s5 := (((h1.trans (step _ _ _ _)).trans (step _ _ _ _)).trans (step _ _ _ _)).trans (step _ _ _ _)
  have h6 : s.LinkKept s6 := by
    unfold s6
    split
    · exact h5.trans (step _ _ _ _)
    · exact h5
  split
  · exact h6.trans (.of_link rfl)
  · exact h6
theorem State.record_linkKept (s : State) (r : Rec) : s.LinkKept (s.record r) := by
  unfold State.record
  extract_lets f u
  have h : s.LinkKept u := (State.LinkKept.of_link rfl).trans (State.recordInts_linkKept (s.appendLog f) f)
  split
  · split
    · exact h.trans (.of_link rfl)
    · exact h
  · exact h
theorem State.record_parts {s : State} {r : Rec} (h : r.part = none) : (s.record r).parts = s.parts := by
  unfold State.record
  extract_lets f u
  have e : u.parts = s.parts := by
    obtain ⟨_, _, _, e⟩ := State.recordInts_only (s.appendLog f) f
    show (State.recordInts (s.appendLog f) f).parts = _
    rw [e]; rfl
  rw [h]
  exact e

end Sys2Proof.Machine
end

