-- ==== Sys2Proof/Laws/Writes.lean ====
section
/-! SUPPORT. Register writes that their path can make run their action; folds keep what each of their steps keeps. -/

namespace Sys2Proof.Machine

open Sys2Proof.Safety

theorem pageWrite_runs {s : State} {path : Path} {pg : Page} {own sess : Bool} {act : State → State} (h : pageOpen s path own sess = true) :
    s.pageWrite path pg own sess act = .next (act s) := by
  unfold pageOpen at h
  rw [Bool.and_eq_true] at h
  unfold State.pageWrite
  rw [h.1]
  cases path with
  | pf =>
    have := h.2
    dsimp only at this ⊢
    rw [this]
    rfl
  | vf v =>
    have := h.2
    dsimp only at this ⊢
    rw [Bool.and_eq_true] at this
    rw [this.1, this.2]
    rfl
  | mgmt =>
    have := h.2
    dsimp only at this ⊢
    rw [Bool.and_eq_true, Bool.and_eq_true] at this
    rw [this.1.1, this.1.2, this.2]
    rfl
theorem ownerWrite_runs {s : State} {path : Path} {pg : Page} {seen : Bool} {act : State → State} (h : pageOpen s path false true = true) :
    s.ownerWrite path pg seen act = .next (act s) := by
  unfold State.ownerWrite
  cases path with
  | vf v => unfold pageOpen at h; simp at h
  | pf => exact pageWrite_runs h
  | mgmt => exact pageWrite_runs h
theorem tileWrite_runs {s : State} {path : Path} {t : Nat} {pg : Page} {act : State → State} (h : tileOpen s path t = true) :
    s.tileWrite path t pg act = .next (act s) := by
  unfold tileOpen at h
  simp only [Bool.and_eq_true, Bool.not_eq_true'] at h
  obtain ⟨⟨⟨h1, h2⟩, h3⟩, h4⟩ := h
  unfold State.tileWrite
  cases path with
  | vf v => exact absurd h4 (by simp)
  | pf => simp only [h1, h4, h2, h3, Bool.not_true, Bool.false_eq_true, if_false]
  | mgmt =>
    obtain ⟨h5, h6⟩ := by simpa using h4
    simp only [h1, h2, h3, h5, h6, Bool.not_true, Bool.or_self, Bool.false_eq_true, if_false]

theorem reqWrite_runs {s : State} {path : Path} {r : Nat} {act : State → State} (h : reqOpen s path r = true) : s.reqWrite path r act = .next (act s) := by
  unfold reqOpen at h
  rw [Bool.and_eq_true, Bool.and_eq_true] at h
  unfold State.reqWrite
  rw [h.1.1]
  cases path with
  | mgmt => exact absurd h.2 (by simp)
  | pf => simp [h.1.2]
  | vf v =>
    have := h.2
    dsimp only at this ⊢
    rw [this]
    simp [h.1.2]

theorem foldl_keep {α β γ : Type} {f : α → β → α} (g : α → γ) (h : ∀ a b, g (f a b) = g a) (l : List β) : ∀ a, g (l.foldl f a) = g a := by
  induction l with
  | nil => intro a; rfl
  | cons b l ih => intro a; rw [List.foldl_cons, ih, h]

/-! ### A discarded attempt leaves the partitions' own state -/

@[simp] theorem State.onTiles_parts (s : State) (p : Nat) (f : TileSt → TileSt) : (s.onTiles p f).parts = s.parts := rfl
@[simp] theorem State.onTiles_part (s : State) (p q : Nat) (f : TileSt → TileSt) : (s.onTiles p f).part q = s.part q := rfl
@[simp] theorem State.sendGo_part (s : State) (p c q : Nat) : (s.sendGo p c).part q = s.part q := rfl
@[simp] theorem State.sendGo_mem (s : State) (p c : Nat) : (s.sendGo p c).mem = s.mem := rfl
@[simp] theorem State.sendGo_logTail (s : State) (p c : Nat) : (s.sendGo p c).logTail = s.logTail := rfl
@[simp] theorem State.sendGo_log (s : State) (p c : Nat) : (s.sendGo p c).log = s.log := rfl
@[simp] theorem State.sendGo_out (s : State) (p c : Nat) : (s.sendGo p c).out = .go p c :: s.out := rfl
@[simp] theorem State.sendGo_reg (s : State) (p c : Nat) (f : Fld) (i j : Nat) : (s.sendGo p c).reg f i j = s.reg f i j := rfl
@[simp] theorem State.endComputes_parts (s : State) (p : Nat) : (s.endComputes p).parts = s.parts := by
  unfold State.endComputes
  refine foldl_keep State.parts (fun a e => ?_) _ _
  refine foldl_keep State.parts (fun a r => ?_) _ _
  refine foldl_keep State.parts (fun a n => ?_) _ _
  split <;> rfl
@[simp] theorem State.calDiscard_parts (s : State) (p : Nat) : (s.calDiscard p).parts = s.parts := by
  unfold State.calDiscard
  extract_lets stand now c s1
  have h : s1.parts = s.parts := rfl
  rw [← h]
  refine foldl_keep State.parts (fun a e => ?_) _ _
  split <;> rfl
@[simp] theorem State.discardAttempt_parts (s : State) (p : Nat) : (s.discardAttempt p).parts = s.parts := by
  unfold State.discardAttempt State.dropBeats
  simp
@[simp] theorem State.discardAttempt_part (s : State) (p q : Nat) : (s.discardAttempt p).part q = s.part q := by
  unfold State.part; rw [State.discardAttempt_parts]

end Sys2Proof.Machine
end

