-- ==== Sys2Proof/Laws/PartState.lean ====
section
/-! SUPPORT. What a halt, an unbinding and a boundary do to a partition's own state. -/

namespace Sys2Proof.Machine

theorem State.unslot_keep {γ : Type} (g : State → γ) (h : ∀ s r f, g (State.updReq s r f) = g s) (f : ReqSt → ReqSt) (l : List Nat) (s : State) :
    g (l.foldl (fun s r => s.updReq r f) s) = g s := by
  refine foldl_keep g (fun a r => ?_) l s
  exact h a r f
/-- Unbinding keeps every part of State that the updates of requests, and of the partition, keep. -/
theorem State.clearBindings_keep {γ : Type} (g : State → γ) (h : ∀ s r f, g (State.updReq s r f) = g s)
    (k : ∀ s p f, g (State.updPart s p f) = g s) (s : State) (p : Nat) : g (s.clearBindings p) = g s := by
  unfold State.clearBindings
  extract_lets s1 s2
  rw [State.unslot_keep g h]
  unfold s2
  rw [k]
  unfold s1
  refine foldl_keep g (fun a r => ?_) _ _
  split
  · exact h ..
  · rfl
@[simp] theorem State.clearBindings_regs (s : State) (p : Nat) : (s.clearBindings p).regs = s.regs :=
  State.clearBindings_keep State.regs (fun _ _ _ => rfl) (fun _ _ _ => rfl) s p
@[simp] theorem State.clearBindings_reg (s : State) (p : Nat) (f : Fld) (i j : Nat) : (s.clearBindings p).reg f i j = s.reg f i j := by
  unfold State.reg; rw [State.clearBindings_regs]
@[simp] theorem State.clearBindings_link (s : State) (p : Nat) : (s.clearBindings p).link = s.link :=
  State.clearBindings_keep State.link (fun _ _ _ => rfl) (fun _ _ _ => rfl) s p
@[simp] theorem State.clearBindings_out (s : State) (p : Nat) : (s.clearBindings p).out = s.out :=
  State.clearBindings_keep State.out (fun _ _ _ => rfl) (fun _ _ _ => rfl) s p
@[simp] theorem State.clearBindings_log (s : State) (p : Nat) : (s.clearBindings p).log = s.log :=
  State.clearBindings_keep State.log (fun _ _ _ => rfl) (fun _ _ _ => rfl) s p
@[simp] theorem State.clearBindings_tiles (s : State) (p : Nat) : (s.clearBindings p).tiles = s.tiles :=
  State.clearBindings_keep State.tiles (fun _ _ _ => rfl) (fun _ _ _ => rfl) s p
@[simp] theorem State.clearBindings_part_same (s : State) (p : Nat) : (s.clearBindings p).part p = { s.part p with slots := Map.empty, replayAll := true } := by
  unfold State.clearBindings
  extract_lets s1 s2
  have h1 : s1.parts = s.parts := by
    unfold s1
    refine foldl_keep State.parts (fun a r => ?_) _ _
    split <;> rfl
  have h2 := State.unslot_keep State.parts (fun _ _ _ => rfl) (fun q => { q with slot := none, prevSlot := none }) (s2.partReqs p) s2
  have h3 : s1.part p = s.part p := by unfold State.part; rw [h1]
  have h4 : s2.part p = { s1.part p with slots := Map.empty, replayAll := true } := State.part_updPart_same ..
  rw [h3] at h4
  rw [← h4]
  show Map.get _ p _ = Map.get _ p _
  rw [h2]
@[simp] theorem State.haltPart_part_same (s : State) (p : Nat) : (s.haltPart p).part p = { s.part p with
    phase := .stopped, goStart := false, regRep := Map.empty, timedOut := false, noRetry := false, degraded := false, setStop := false } := by
  show Map.get (Map.put _ _ _) _ _ = _
  rw [Map.get_put_same]
  rfl
@[simp] theorem State.haltPart_run (s : State) (p : Nat) : (s.haltPart p).reg CSD_PCFG_RUN 0 p = 0 := by
  show (State.setReg s CSD_PCFG_RUN 0 p 0).reg CSD_PCFG_RUN 0 p = 0
  rw [State.reg_setReg_same]
  decide
@[simp] theorem State.countUp_part_same (s : State) (p : Nat) : (s.countUp p).part p = { s.part p with count := (s.part p).count + 1 } :=
  State.part_updPart_same ..

/-! ### Loader states: only registers, pending vectors and messages move -/

theorem State.IntsOnly.mem {s t : State} (h : s.IntsOnly t) : t.mem = s.mem := by obtain ⟨_, _, _, rfl⟩ := h; rfl
theorem State.IntsOnly.tiles {s t : State} (h : s.IntsOnly t) : t.tiles = s.tiles := by obtain ⟨_, _, _, rfl⟩ := h; rfl
theorem State.IntsOnly.parts {s t : State} (h : s.IntsOnly t) : t.parts = s.parts := by obtain ⟨_, _, _, rfl⟩ := h; rfl
theorem State.IntsOnly.reqs {s t : State} (h : s.IntsOnly t) : t.reqs = s.reqs := by obtain ⟨_, _, _, rfl⟩ := h; rfl
theorem State.IntsOnly.pages {s t : State} (h : s.IntsOnly t) : t.pages = s.pages := by obtain ⟨_, _, _, rfl⟩ := h; rfl
theorem State.IntsOnly.links {s t : State} (h : s.IntsOnly t) : t.links = s.links := by obtain ⟨_, _, _, rfl⟩ := h; rfl
theorem State.IntsOnly.lanes {s t : State} (h : s.IntsOnly t) : t.lanes = s.lanes := by obtain ⟨_, _, _, rfl⟩ := h; rfl
theorem State.IntsOnly.cross {s t : State} (h : s.IntsOnly t) : t.cross = s.cross := by obtain ⟨_, _, _, rfl⟩ := h; rfl
theorem State.IntsOnly.express {s t : State} (h : s.IntsOnly t) : t.express = s.express := by obtain ⟨_, _, _, rfl⟩ := h; rfl
theorem State.IntsOnly.laneOwner {s t : State} (h : s.IntsOnly t) : t.laneOwner = s.laneOwner := by obtain ⟨_, _, _, rfl⟩ := h; rfl
theorem State.IntsOnly.flight {s t : State} (h : s.IntsOnly t) : t.flight = s.flight := by obtain ⟨_, _, _, rfl⟩ := h; rfl
theorem State.IntsOnly.treeMsgs {s t : State} (h : s.IntsOnly t) : t.treeMsgs = s.treeMsgs := by obtain ⟨_, _, _, rfl⟩ := h; rfl
theorem State.IntsOnly.power {s t : State} (h : s.IntsOnly t) : t.power = s.power := by obtain ⟨_, _, _, rfl⟩ := h; rfl
theorem State.IntsOnly.thermal {s t : State} (h : s.IntsOnly t) : t.thermal = s.thermal := by obtain ⟨_, _, _, rfl⟩ := h; rfl
theorem State.IntsOnly.cal {s t : State} (h : s.IntsOnly t) : t.cal = s.cal := by obtain ⟨_, _, _, rfl⟩ := h; rfl
theorem State.IntsOnly.repair {s t : State} (h : s.IntsOnly t) : t.repair = s.repair := by obtain ⟨_, _, _, rfl⟩ := h; rfl
theorem State.IntsOnly.log {s t : State} (h : s.IntsOnly t) : t.log = s.log := by obtain ⟨_, _, _, rfl⟩ := h; rfl
theorem State.IntsOnly.logTail {s t : State} (h : s.IntsOnly t) : t.logTail = s.logTail := by obtain ⟨_, _, _, rfl⟩ := h; rfl
theorem State.IntsOnly.wcount {s t : State} (h : s.IntsOnly t) : t.wcount = s.wcount := by obtain ⟨_, _, _, rfl⟩ := h; rfl
theorem State.IntsOnly.ptp {s t : State} (h : s.IntsOnly t) : t.ptp = s.ptp := by obtain ⟨_, _, _, rfl⟩ := h; rfl
theorem State.IntsOnly.submits {s t : State} (h : s.IntsOnly t) : t.submits = s.submits := by obtain ⟨_, _, _, rfl⟩ := h; rfl
theorem State.IntsOnly.stewardHome {s t : State} (h : s.IntsOnly t) : t.stewardHome = s.stewardHome := by obtain ⟨_, _, _, rfl⟩ := h; rfl
theorem State.IntsOnly.rootHome {s t : State} (h : s.IntsOnly t) : t.rootHome = s.rootHome := by obtain ⟨_, _, _, rfl⟩ := h; rfl
theorem State.IntsOnly.freeCtr {s t : State} (h : s.IntsOnly t) : t.freeCtr = s.freeCtr := by obtain ⟨_, _, _, rfl⟩ := h; rfl
theorem State.IntsOnly.shadows {s t : State} (h : s.IntsOnly t) : t.shadows = s.shadows := by obtain ⟨_, _, _, rfl⟩ := h; rfl
theorem State.IntsOnly.latch {s t : State} (h : s.IntsOnly t) : t.latch = s.latch := by obtain ⟨_, _, _, rfl⟩ := h; rfl
theorem State.IntsOnly.pending {s t : State} (h : s.IntsOnly t) : t.pending = s.pending := by obtain ⟨_, _, _, rfl⟩ := h; rfl
theorem State.IntsOnly.part {s t : State} (h : s.IntsOnly t) (p : Nat) : t.part p = s.part p := by unfold State.part; rw [h.parts]
theorem State.IntsOnly.req {s t : State} (h : s.IntsOnly t) (p : Nat) : t.req p = s.req p := by unfold State.req; rw [h.reqs]
theorem State.setG_only (s : State) (f : Fld) (i v : Nat) : s.IntsOnly (s.setG f i v) := State.setReg_only ..
theorem State.setPstate_only (s : State) (p st : Nat) : s.IntsOnly (s.setPstate p st) := by
  unfold State.setPstate
  split
  · exact .refl _
  · exact (State.setG_only ..).trans (State.pstateInt_only ..)
theorem State.setStopr_only (s : State) (p r : Nat) : s.IntsOnly (s.setStopr p r) := by
  unfold State.setStopr
  split
  · exact .refl _
  · exact (State.setG_only ..).trans (State.pstateInt_only ..)
theorem State.setLcode_only (s : State) (p r : Nat) : s.IntsOnly (s.setLcode p r) := by
  unfold State.setLcode
  split
  · exact .refl _
  · exact (State.setG_only ..).trans (State.pstateInt_only ..)
theorem State.setPend_only (s : State) (p r : Nat) : s.IntsOnly (s.setPend p r) := by
  unfold State.setPend
  split
  · exact .refl _
  · exact (State.setG_only ..).trans (State.pstateInt_only ..)
theorem State.enter_only (s : State) (p st : Nat) : s.IntsOnly (s.enter p st) := (State.setG_only ..).trans (State.setPstate_only ..)
/-- A command that ends with code 0 moves nothing but its slot's registers and the interrupt. -/
theorem State.cmdEnd_only (s : State) (n : Nat) (o : Option Nat) : s.IntsOnly (s.cmdEnd n o 0) := by
  unfold State.cmdEnd State.cmdEndWith
  simp only [if_pos]
  exact ((State.setG_only ..).trans (State.setG_only ..)).trans (State.raiseInt_only ..)

/-! ### Their registers -/

theorem State.pstateInt_intRegs (s : State) (p : Nat) (h : p < 64) : s.IntRegs (s.pstateInt p) := by
  unfold State.pstateInt
  dsimp only
  have hs : s.IntRegs (s.setG INT_PSTATE_PSTATE (p / 32) (setBit (s.g INT_PSTATE_PSTATE (p / 32)) (p % 32) true)) := fun f inst i h1 _ =>
    State.reg_setReg_other (fun e => h1 (by rw [← e]; simp only [Fld.key, Fld.offset, INT_PSTATE_PSTATE, Page.code]; omega))
  refine .trans ?_ (State.raiseInt_intRegs _ _ _ (by omega))
  split
  · exact .refl _
  · split
    · exact hs.trans (State.msix_intRegs _ _ _)
    · exact hs
/-- A new state of a partition reads back. -/
theorem State.setPstate_pstate {s : State} {p st : Nat} (h : p < 64) (hs : st < 16) : (s.setPstate p st).pstate p = st := by
  unfold State.setPstate
  split
  · assumption
  · have e := State.pstateInt_intRegs (s.setG LD_PSTATE_STATE p st) p h LD_PSTATE_STATE 0 p
      (by simp only [Fld.key, Fld.offset, LD_PSTATE_STATE, Page.code]; omega) (by simp only [Fld.key, Fld.offset, LD_PSTATE_STATE, Page.code]; omega)
    show (State.pstateInt _ p).reg LD_PSTATE_STATE 0 p = st
    rw [e]
    unfold State.setG
    rw [State.reg_setReg_same]
    exact Nat.mod_eq_of_lt hs
/-- Every other field outside the INT and ERR pages stands. -/
theorem State.setPstate_reg {s : State} {p st : Nat} (h : p < 64) {f : Fld} {inst i : Nat} (h1 : f.key inst i / 2 ^ 33 ≠ Page.int.code)
    (h2 : f.key inst i / 2 ^ 33 ≠ Page.err.code) (h3 : LD_PSTATE_STATE.key 0 p ≠ f.key inst i) : (s.setPstate p st).reg f inst i = s.reg f inst i := by
  unfold State.setPstate
  split
  · rfl
  · rw [State.pstateInt_intRegs _ p h f inst i h1 h2]
    exact State.reg_setReg_other h3
theorem State.cmdEnd_reg {s : State} {n : Nat} {o : Option Nat} {f : Fld} {inst i : Nat} (h1 : f.key inst i / 2 ^ 33 ≠ Page.int.code)
    (h2 : f.key inst i / 2 ^ 33 ≠ Page.err.code) (h3 : LD_CMD_STS_STATE.key 0 n ≠ f.key inst i) (h4 : LD_CMD_STS_CODE.key 0 n ≠ f.key inst i) :
    (s.cmdEnd n o 0).reg f inst i = s.reg f inst i := by
  unfold State.cmdEnd State.cmdEndWith
  simp only [if_pos]
  rw [State.raiseInt_intRegs _ _ _ (by decide) f inst i h1 h2]
  unfold State.setG
  rw [State.reg_setReg_other h4, State.reg_setReg_other h3]
/-- The slot shows DONE. -/
theorem State.cmdEnd_done {s : State} {n : Nat} {o : Option Nat} (h : n < 4) : (s.cmdEnd n o 0).g LD_CMD_STS_STATE n = ldDone := by
  unfold State.cmdEnd State.cmdEndWith
  simp only [if_pos]
  unfold State.g
  rw [State.raiseInt_intRegs _ _ _ (by decide) LD_CMD_STS_STATE 0 n (by simp only [Fld.key, Fld.offset, LD_CMD_STS_STATE, Page.code]; omega)
    (by simp only [Fld.key, Fld.offset, LD_CMD_STS_STATE, Page.code]; omega)]
  unfold State.setG
  rw [State.reg_setReg_other (by simp only [Fld.key, Fld.offset, LD_CMD_STS_STATE, LD_CMD_STS_CODE]; omega), State.reg_setReg_same]
  decide

theorem State.setStopr_reg {s : State} {p v : Nat} (h : p < 64) {f : Fld} {inst i : Nat} (h1 : f.key inst i / 2 ^ 33 ≠ Page.int.code)
    (h2 : f.key inst i / 2 ^ 33 ≠ Page.err.code) (h3 : LD_PSTATE_STOPR.key 0 p ≠ f.key inst i) : (s.setStopr p v).reg f inst i = s.reg f inst i := by
  unfold State.setStopr
  split
  · rfl
  · rw [State.pstateInt_intRegs _ p h f inst i h1 h2]
    exact State.reg_setReg_other h3
/-- The state of a partition stands. -/
theorem State.setStopr_pstate {s : State} {p v : Nat} (h : p < 64) : (s.setStopr p v).pstate p = s.pstate p :=
  State.setStopr_reg h (by simp only [Fld.key, Fld.offset, LD_PSTATE_STATE, Page.code]; omega) (by simp only [Fld.key, Fld.offset, LD_PSTATE_STATE, Page.code]; omega)
    (by simp only [Fld.key, Fld.offset, LD_PSTATE_STATE, LD_PSTATE_STOPR]; omega)
theorem State.setLcode_reg {s : State} {p v : Nat} (h : p < 64) {f : Fld} {inst i : Nat} (h1 : f.key inst i / 2 ^ 33 ≠ Page.int.code)
    (h2 : f.key inst i / 2 ^ 33 ≠ Page.err.code) (h3 : LD_PSTATE_LCODE.key 0 p ≠ f.key inst i) : (s.setLcode p v).reg f inst i = s.reg f inst i := by
  unfold State.setLcode
  split
  · rfl
  · rw [State.pstateInt_intRegs _ p h f inst i h1 h2]
    exact State.reg_setReg_other h3
/-- The state of a partition stands. -/
theorem State.setLcode_pstate {s : State} {p v : Nat} (h : p < 64) : (s.setLcode p v).pstate p = s.pstate p :=
  State.setLcode_reg h (by simp only [Fld.key, Fld.offset, LD_PSTATE_STATE, Page.code]; omega) (by simp only [Fld.key, Fld.offset, LD_PSTATE_STATE, Page.code]; omega)
    (by simp only [Fld.key, Fld.offset, LD_PSTATE_STATE, LD_PSTATE_LCODE]; omega)
theorem State.setPend_reg {s : State} {p v : Nat} (h : p < 64) {f : Fld} {inst i : Nat} (h1 : f.key inst i / 2 ^ 33 ≠ Page.int.code)
    (h2 : f.key inst i / 2 ^ 33 ≠ Page.err.code) (h3 : LD_PSTATE_PEND.key 0 p ≠ f.key inst i) : (s.setPend p v).reg f inst i = s.reg f inst i := by
  unfold State.setPend
  split
  · rfl
  · rw [State.pstateInt_intRegs _ p h f inst i h1 h2]
    exact State.reg_setReg_other h3
/-- The state of a partition stands. -/
theorem State.setPend_pstate {s : State} {p v : Nat} (h : p < 64) : (s.setPend p v).pstate p = s.pstate p :=
  State.setPend_reg h (by simp only [Fld.key, Fld.offset, LD_PSTATE_STATE, Page.code]; omega) (by simp only [Fld.key, Fld.offset, LD_PSTATE_STATE, Page.code]; omega)
    (by simp only [Fld.key, Fld.offset, LD_PSTATE_STATE, LD_PSTATE_PEND]; omega)
theorem State.cmdEnd_pstate {s : State} {n p : Nat} {o : Option Nat} (hp : p < 64) : (s.cmdEnd n o 0).pstate p = s.pstate p :=
  State.cmdEnd_reg (by simp only [Fld.key, Fld.offset, LD_PSTATE_STATE, Page.code]; omega) (by simp only [Fld.key, Fld.offset, LD_PSTATE_STATE, Page.code]; omega)
    (by simp only [Fld.key, Fld.offset, LD_PSTATE_STATE, LD_CMD_STS_STATE]; omega) (by simp only [Fld.key, Fld.offset, LD_PSTATE_STATE, LD_CMD_STS_CODE]; omega)

/-! ### Memory kept by address -/

theorem Memory.read_keep (m : Memory) (q : Nat → Bool) (a : Nat) : Memory.read (m.keep (fun k _ => q k)) a = if q a then Memory.read m a else 0#8 := by
  unfold Memory.read Map.get Map.keep
  have := lookupList_filter q m.entries a
  simp only [this]
  split <;> rfl

end Sys2Proof.Machine
end

