-- ==== Sys2Proof/Laws/Security.lean ====
section
/-! SUPPORT. What the operations of Machine/Security.lean keep: one lemma for each, by the lemmas of those that it calls. -/

namespace Sys2Proof.Machine

open Sys2Proof

theorem State.answerSpdm_follows {pre : State} {s : State} (fo : Follows pre s) {code : Nat} : Follows pre (s.answerSpdm code) := by
  unfold State.answerSpdm
  exact State.emit_follows fo

theorem State.refuseOwner_follows {pre : State} {s : State} (fo : Follows pre s) : Follows pre s.refuseOwner := by
  unfold State.refuseOwner
  exact State.answerSpdm_follows (State.secRecord_follows fo)

theorem State.ownerCmd_follows {pre : State} {s : State} (fo : Follows pre s) {p : Path} {ok : Bool} {act : State → State} (foact : ∀ (a : State), Follows pre a → Follows pre (act a)) : FollowsO pre (s.ownerCmd p ok act) := by
  unfold State.ownerCmd
  apply FollowsO.ite
  · exact FollowsO.next fo
  · apply FollowsO.ite
    · apply FollowsO.next
      apply State.answerSpdm_follows
      apply foact
      · exact fo
    · exact FollowsO.next (State.refuseOwner_follows fo)

theorem sessPlace_lt {s : State} {path : Path} {k : Nat} (h : s.sessPlace path = some k) : k < 8 := by
  have hm := List.mem_of_find?_eq_some h
  obtain ⟨j, hj, rfl⟩ := List.mem_map.1 hm
  have : j < 4 := by
    have e : upTo 4 = [0, 1, 2, 3] := by decide
    rw [e] at hj
    simp only [List.mem_cons, List.not_mem_nil, or_false] at hj
    omega
  unfold sessBase
  split <;> omega

theorem execSessionOpen_follows {pre : State} {path : Path} {ask : SessionAsk} {s : State} (fo : Follows pre s) : FollowsO pre (execSessionOpen path ask s) := by
  unfold execSessionOpen
  refine FollowsO.ite (FollowsO.next fo) ?_
  split
  · exact FollowsO.next (State.answerSpdm_follows (State.secRecord_follows fo))
  · rename_i k hk
    split
    · exact FollowsO.next (State.answerSpdm_follows (State.secRecord_follows fo))
    · refine FollowsO.next (State.answerSpdm_follows ?_)
      refine ⟨fo.pending, fo.mem, fun w => ?_, fo.log⟩
      refine ⟨Map.put_wf (fo.sess w).1 _ _, fun j hj => ?_, (fo.sess w).2.2⟩
      rcases Map.has_of_put hj with e | e
      · have := sessPlace_lt hk; omega
      · exact (fo.sess w).2.1 j e

theorem State.endSession_follows {pre : State} {s : State} (h : Follows pre s) {k : Nat} : Follows pre (s.endSession k) :=
  ⟨h.pending, h.mem, fun w => ⟨Map.del_wf (h.sess w).1 _, fun j hj => (h.sess w).2.1 j (Map.has_of_del hj), (h.sess w).2.2⟩, h.log⟩

theorem execSessionClose_follows {pre : State} {session : Fin 8} {s : State} (fo : Follows pre s) : FollowsO pre (execSessionClose session s) := by
  unfold execSessionClose
  exact FollowsO.ite (FollowsO.next (State.endSession_follows fo)) (FollowsO.next fo)

theorem execSessionHeartbeatLoss_follows {pre : State} {session : Fin 8} {s : State} (fo : Follows pre s) : FollowsO pre (execSessionHeartbeatLoss session s) := by
  unfold execSessionHeartbeatLoss
  exact FollowsO.ite (FollowsO.next (State.secRecord_follows (State.endSession_follows fo))) (FollowsO.next fo)

theorem execSessionLock_follows {pre : State} {path : Path} {s : State} (fo : Follows pre s) : FollowsO pre (execSessionLock path s) := by
  unfold execSessionLock
  apply State.ownerCmd_follows
  · exact fo
  · intro x1 h1
    exact h1.same (Eq.refl _) h1.mem (Eq.refl _) (Eq.refl _) (Eq.refl _) (Eq.refl _)

theorem execGetMeasurements_follows {pre : State} {path : Path} {index : Fin 256} {s : State} (fo : Follows pre s) : FollowsO pre (execGetMeasurements path index s) := by
  unfold execGetMeasurements
  extract_lets s1
  exact FollowsO.ite (FollowsO.next fo) (FollowsO.ite (FollowsO.next (State.answerSpdm_follows fo)) (FollowsO.next (State.emit_follows fo)))

theorem State.setOwnerKey_follows {pre : State} {s : State} (h : Follows pre s) {slot : Nat} (hs : slot < 4) {k : OwnerKey} : Follows pre (s.setOwnerKey slot k) := by
  refine ⟨h.pending, h.mem, fun w => ⟨(h.sess w).1, (h.sess w).2.1, Map.put_wf (h.sess w).2.2.1 _ _, fun j hj => ?_⟩, h.log⟩
  rcases Map.has_of_put hj with e | e
  · omega
  · exact (h.sess w).2.2.2 j e

theorem execTakeOwnership_follows {pre : State} {path : Path} {session : Fin 4} {key : OwnerKey} {s : State} (fo : Follows pre s) : FollowsO pre (execTakeOwnership path session key s) := by
  unfold execTakeOwnership
  exact FollowsO.ite (FollowsO.next fo) (FollowsO.ite (FollowsO.next (State.answerSpdm_follows (State.setOwnerKey_follows fo (by omega)))) (FollowsO.next (State.refuseOwner_follows fo)))

theorem execEnrollOwner_follows {pre : State} {path : Path} {slot : Fin 4} {key : OwnerKey} {s : State} (fo : Follows pre s) : FollowsO pre (execEnrollOwner path slot key s) := by
  unfold execEnrollOwner
  exact State.ownerCmd_follows fo (fun x h => State.setOwnerKey_follows h slot.isLt)

theorem execRevokeOwner_follows {pre : State} {path : Path} {slot : Fin 4} {s : State} (fo : Follows pre s) : FollowsO pre (execRevokeOwner path slot s) := by
  unfold execRevokeOwner
  exact State.ownerCmd_follows fo (fun x h => ⟨h.pending, h.mem, fun w => ⟨(h.sess w).1, (h.sess w).2.1, Map.del_wf (h.sess w).2.2.1 _, fun j hj => (h.sess w).2.2.2 j (Map.has_of_del hj)⟩, h.log⟩)

theorem State.settlePorts_follows {pre : State} {s : State} (fo : Follows pre s) : Follows pre s.settlePorts := by
  unfold State.settlePorts
  apply foldl_follows
  · intro x1 x2 h1
    exact Follows.ite (State.settlePort_follows h1) h1
  · exact fo

theorem execReleaseOwnership_follows {pre : State} {path : Path} {s : State} (fo : Follows pre s) : FollowsO pre (execReleaseOwnership path s) := by
  unfold execReleaseOwnership
  refine State.ownerCmd_follows fo (fun x h => ?_)
  have h1 : Follows pre { x with repair := { x.repair with pubKeys := Map.empty } } :=
    h.same (Eq.refl _) h.memOk (Eq.refl _) (Eq.refl _) (Eq.refl _) (Eq.refl _)
  have h2 : Follows pre ((upTo 32).foldl (fun (s : State) k => s.setKeyId k 0) { x with repair := { x.repair with pubKeys := Map.empty } }) :=
    foldl_follows (fun y b h2 => State.setKeyId_follows h2) h1
  dsimp only
  generalize (upTo 32).foldl (fun (s : State) k => s.setKeyId k 0) { x with repair := { x.repair with pubKeys := Map.empty } } = y at h2 ⊢
  refine State.settlePorts_follows (State.applyPlan_follows ⟨h2.pending, h2.mem, fun w => ⟨(h2.sess w).1, (h2.sess w).2.1, ?_, fun k hk => ?_⟩, h2.log⟩)
  · exact Map.empty_wf
  · simp [Map.has_empty] at hk

theorem execSetFabricMode_follows {pre : State} {path : Path} {chained : Bool} {s : State} (fo : Follows pre s) : FollowsO pre (execSetFabricMode path chained s) := by
  unfold execSetFabricMode
  apply FollowsO.ite
  · exact FollowsO.next (State.answerSpdm_follows (State.licRecord_follows fo))
  · apply State.ownerCmd_follows
    · exact fo
    · intro x1 h1
      apply State.settlePorts_follows
      apply State.applyPlan_follows
      exact h1.same (Eq.refl _) h1.mem (Eq.refl _) (Eq.refl _) (Eq.refl _) (Eq.refl _)

theorem execSetChainPlan_follows {pre : State} {path : Path} {image : List Byte} {s : State} (fo : Follows pre s) : FollowsO pre (execSetChainPlan path image s) := by
  unfold execSetChainPlan
  extract_lets s1
  apply State.ownerCmd_follows
  · exact fo
  · intro x1 h1
    apply State.settlePorts_follows
    apply State.applyPlan_follows
    exact h1.same (Eq.refl _) h1.mem (Eq.refl _) (Eq.refl _) (Eq.refl _) (Eq.refl _)

/-! ### Operations that leave memory alone -/

theorem State.answerSpdm_memSame {pre : State} {s : State} (fo : MemSame pre s) {code : Nat} : MemSame pre (s.answerSpdm code) := by
  unfold State.answerSpdm
  exact State.emit_memSame fo

theorem State.refuseOwner_memSame {pre : State} {s : State} (fo : MemSame pre s) : MemSame pre s.refuseOwner := by
  unfold State.refuseOwner
  exact State.answerSpdm_memSame (State.secRecord_memSame fo)

theorem State.ownerCmd_memSame {pre : State} {s : State} (fo : MemSame pre s) {p : Path} {ok : Bool} {act : State → State} (foact : ∀ (a : State), MemSame pre a → MemSame pre (act a)) : MemSameO pre (s.ownerCmd p ok act) := by
  unfold State.ownerCmd
  apply MemSameO.ite
  · exact MemSameO.next fo
  · apply MemSameO.ite
    · apply MemSameO.next
      apply State.answerSpdm_memSame
      apply foact
      · exact fo
    · exact MemSameO.next (State.refuseOwner_memSame fo)

theorem execSessionOpen_memSame {pre : State} {path : Path} {ask : SessionAsk} {s : State} (fo : MemSame pre s) : MemSameO pre (execSessionOpen path ask s) := by
  unfold execSessionOpen
  apply MemSameO.ite
  · exact MemSameO.next fo
  · split
    · exact MemSameO.next (State.answerSpdm_memSame (State.secRecord_memSame fo))
    · rename_i y1 y2 y3
      split
      · exact MemSameO.next (State.answerSpdm_memSame (State.secRecord_memSame fo))
      · rename_i y4 y5 y6
        apply MemSameO.next
        apply State.answerSpdm_memSame
        exact fo.same (Eq.refl _)

theorem State.endSession_memSame {pre : State} {s : State} (fo : MemSame pre s) {k : Nat} : MemSame pre (s.endSession k) := by
  unfold State.endSession
  exact fo.same (Eq.refl _)

theorem execSessionClose_memSame {pre : State} {session : Fin 8} {s : State} (fo : MemSame pre s) : MemSameO pre (execSessionClose session s) := by
  unfold execSessionClose
  exact MemSameO.ite (MemSameO.next (State.endSession_memSame fo)) (MemSameO.next fo)

theorem execSessionHeartbeatLoss_memSame {pre : State} {session : Fin 8} {s : State} (fo : MemSame pre s) : MemSameO pre (execSessionHeartbeatLoss session s) := by
  unfold execSessionHeartbeatLoss
  exact MemSameO.ite (MemSameO.next (State.secRecord_memSame (State.endSession_memSame fo))) (MemSameO.next fo)

theorem execSessionLock_memSame {pre : State} {path : Path} {s : State} (fo : MemSame pre s) : MemSameO pre (execSessionLock path s) := by
  unfold execSessionLock
  apply State.ownerCmd_memSame
  · exact fo
  · intro x1 h1
    exact h1.same (Eq.refl _)

theorem execGetMeasurements_memSame {pre : State} {path : Path} {index : Fin 256} {s : State} (fo : MemSame pre s) : MemSameO pre (execGetMeasurements path index s) := by
  unfold execGetMeasurements
  extract_lets s1
  exact MemSameO.ite (MemSameO.next fo) (MemSameO.ite (MemSameO.next (State.answerSpdm_memSame fo)) (MemSameO.next (State.emit_memSame fo)))

theorem State.setOwnerKey_memSame {pre : State} {s : State} (fo : MemSame pre s) {slot : Nat} {k : OwnerKey} : MemSame pre (s.setOwnerKey slot k) := by
  unfold State.setOwnerKey
  exact fo.same (Eq.refl _)

theorem execTakeOwnership_memSame {pre : State} {path : Path} {session : Fin 4} {key : OwnerKey} {s : State} (fo : MemSame pre s) : MemSameO pre (execTakeOwnership path session key s) := by
  unfold execTakeOwnership
  apply MemSameO.ite
  · exact MemSameO.next fo
  · extract_lets s1
    exact MemSameO.ite (MemSameO.next (State.answerSpdm_memSame (State.setOwnerKey_memSame fo))) (MemSameO.next (State.refuseOwner_memSame fo))

theorem execEnrollOwner_memSame {pre : State} {path : Path} {slot : Fin 4} {key : OwnerKey} {s : State} (fo : MemSame pre s) : MemSameO pre (execEnrollOwner path slot key s) := by
  unfold execEnrollOwner
  apply State.ownerCmd_memSame
  · exact fo
  · intro x1 h1
    exact State.setOwnerKey_memSame h1

theorem execRevokeOwner_memSame {pre : State} {path : Path} {slot : Fin 4} {s : State} (fo : MemSame pre s) : MemSameO pre (execRevokeOwner path slot s) := by
  unfold execRevokeOwner
  apply State.ownerCmd_memSame
  · exact fo
  · intro x1 h1
    exact h1.same (Eq.refl _)

theorem State.settlePorts_memSame {pre : State} {s : State} (fo : MemSame pre s) : MemSame pre s.settlePorts := by
  unfold State.settlePorts
  apply foldl_memSame
  · intro x1 x2 h1
    exact MemSame.ite (State.settlePort_memSame h1) h1
  · exact fo

theorem execReleaseOwnership_memSame {pre : State} {path : Path} {s : State} (fo : MemSame pre s) : MemSameO pre (execReleaseOwnership path s) := by
  unfold execReleaseOwnership
  apply State.ownerCmd_memSame
  · exact fo
  · intro x1 h1
    extract_lets s1 s2 s3
    have h2 : MemSame pre s2 := by
      unfold s2
      apply foldl_memSame
      · intro x2 x3 h2
        exact State.setKeyId_memSame h2
      · exact h1.same (Eq.refl _)
    clear_value s2
    apply State.settlePorts_memSame
    apply State.applyPlan_memSame
    exact h2.same (Eq.refl _)

theorem execSetFabricMode_memSame {pre : State} {path : Path} {chained : Bool} {s : State} (fo : MemSame pre s) : MemSameO pre (execSetFabricMode path chained s) := by
  unfold execSetFabricMode
  apply MemSameO.ite
  · exact MemSameO.next (State.answerSpdm_memSame (State.licRecord_memSame fo))
  · apply State.ownerCmd_memSame
    · exact fo
    · intro x1 h1
      apply State.settlePorts_memSame
      apply State.applyPlan_memSame
      exact h1.same (Eq.refl _)

theorem execSetChainPlan_memSame {pre : State} {path : Path} {image : List Byte} {s : State} (fo : MemSame pre s) : MemSameO pre (execSetChainPlan path image s) := by
  unfold execSetChainPlan
  extract_lets s1
  apply State.ownerCmd_memSame
  · exact fo
  · intro x1 h1
    apply State.settlePorts_memSame
    apply State.applyPlan_memSame
    exact h1.same (Eq.refl _)

end Sys2Proof.Machine
end

