-- ==== Sys2Proof/Laws/RegRead.lean ====
section
/-! SUPPORT. What the operations of Machine/RegRead.lean keep: one lemma for each, by the lemmas of those that it calls. -/

namespace Sys2Proof.Machine

open Sys2Proof

theorem State.copyRecord_follows {pre : State} {s : State} (fo : Follows pre s) {p : Path} : Follows pre (s.copyRecord p) := by
  unfold State.copyRecord
  apply foldl_follows
  · intro x1 x2 h1
    exact State.setReg_follows h1
  · exact fo

theorem State.nextRecord_follows {pre : State} {s : State} (fo : Follows pre s) {fn : Nat} : Follows pre (s.nextRecord fn) := by
  unfold State.nextRecord
  extract_lets s1
  exact State.setReg_follows (State.setReg_follows fo)

theorem State.pageRead_follows {pre : State} {s : State} (fo : Follows pre s) {p : Path} {t : Nat} {pg : Page} {off : Nat} : Follows pre (s.pageRead p t pg off).snd := by
  unfold State.pageRead
  extract_lets s1 s2 s3
  have h1 : Follows pre s3 := State.copyRecord_follows fo
  clear_value s3
  split
  · exact h1
  · split
    · dsimp only
      exact State.nextRecord_follows fo
    · split
      · rename_i y1 y2 y3 y4 y5
        split
        · dsimp only
          exact fo.same (Eq.refl _) fo.mem (Eq.refl _) (Eq.refl _) (Eq.refl _) (Eq.refl _)
        · exact fo
      · split
        · rename_i y1 y2 y3 y4 y5 y6 y7
          dsimp only
          exact fo.same (Eq.refl _) fo.mem (Eq.refl _) (Eq.refl _) (Eq.refl _) (Eq.refl _)
        · exact fo

theorem State.placeRead_follows {pre : State} {s : State} (fo : Follows pre s) {p : Path} {x : RegPlace} : Follows pre (State.placeRead s p x).snd := by
  unfold State.placeRead
  split
  · exact State.pageRead_follows fo
  · rename_i y4 y5 y6 y7
    split
    · exact fo
    · exact State.pageRead_follows fo
  · exact fo
  · exact fo
  · exact fo
  · exact fo

theorem State.hostRead_follows {pre : State} {s : State} (fo : Follows pre s) {p : Path} {x : RegPlace} : FollowsO pre (s.hostRead p x) := by
  unfold State.hostRead
  apply FollowsO.ite
  · exact FollowsO.next fo
  · apply FollowsO.ite
    · exact FollowsO.next (State.refuseMessage_follows fo)
    · extract_lets s1
      have h1 : Follows pre s1.snd := State.placeRead_follows fo
      clear_value s1
      exact FollowsO.next (State.emit_follows h1)

/-! ### Operations that leave memory alone -/

theorem State.copyRecord_memSame {pre : State} {s : State} (fo : MemSame pre s) {p : Path} : MemSame pre (s.copyRecord p) := by
  unfold State.copyRecord
  apply foldl_memSame
  · intro x1 x2 h1
    exact State.setReg_memSame h1
  · exact fo

theorem State.nextRecord_memSame {pre : State} {s : State} (fo : MemSame pre s) {fn : Nat} : MemSame pre (s.nextRecord fn) := by
  unfold State.nextRecord
  extract_lets s1
  exact State.setReg_memSame (State.setReg_memSame fo)

theorem State.pageRead_memSame {pre : State} {s : State} (fo : MemSame pre s) {p : Path} {t : Nat} {pg : Page} {off : Nat} : MemSame pre (s.pageRead p t pg off).snd := by
  unfold State.pageRead
  extract_lets s1 s2 s3
  have h1 : MemSame pre s3 := State.copyRecord_memSame fo
  clear_value s3
  split
  · exact h1
  · split
    · dsimp only
      exact State.nextRecord_memSame fo
    · split
      · rename_i y1 y2 y3 y4 y5
        split
        · dsimp only
          exact fo.same (Eq.refl _)
        · exact fo
      · split
        · rename_i y1 y2 y3 y4 y5 y6 y7
          dsimp only
          exact fo.same (Eq.refl _)
        · exact fo

theorem State.placeRead_memSame {pre : State} {s : State} (fo : MemSame pre s) {p : Path} {x : RegPlace} : MemSame pre (State.placeRead s p x).snd := by
  unfold State.placeRead
  split
  · exact State.pageRead_memSame fo
  · rename_i y4 y5 y6 y7
    split
    · exact fo
    · exact State.pageRead_memSame fo
  · exact fo
  · exact fo
  · exact fo
  · exact fo

theorem State.hostRead_memSame {pre : State} {s : State} (fo : MemSame pre s) {p : Path} {x : RegPlace} : MemSameO pre (s.hostRead p x) := by
  unfold State.hostRead
  apply MemSameO.ite
  · exact MemSameO.next fo
  · apply MemSameO.ite
    · exact MemSameO.next (State.refuseMessage_memSame fo)
    · extract_lets s1
      have h1 : MemSame pre s1.snd := State.placeRead_memSame fo
      clear_value s1
      exact MemSameO.next (State.emit_memSame h1)

end Sys2Proof.Machine
end

