-- ==== Sys2Proof/Laws/RegWrite.lean ====
section
/-! SUPPORT. What the operations of Machine/RegWrite.lean keep: one lemma for each, by the lemmas of those that it calls. -/

namespace Sys2Proof.Machine

open Sys2Proof

theorem State.setEnable_follows {pre : State} {s : State} (fo : Follows pre s) {fn : Nat} {v : Nat} : Follows pre (s.setEnable fn v) := by
  unfold State.setEnable
  extract_lets s1
  apply foldl_follows
  · intro x1 x2 h1
    exact Follows.ite (State.msix_follows h1) h1
  · exact State.setReg_follows fo

theorem State.setPen_follows {pre : State} {s : State} (fo : Follows pre s) {i : Nat} {v : Nat} : Follows pre (s.setPen i v) := by
  unfold State.setPen
  extract_lets s1
  apply foldl_follows
  · intro x1 x2 h1
    exact Follows.ite (State.msix_follows h1) h1
  · exact State.setG_follows fo

theorem State.rstOp_follows {pre : State} {s : State} (fo : Follows pre s) {w : Nat} : Follows pre (s.rstOp w) := by
  unfold State.rstOp
  extract_lets s1
  have h1 : Follows pre s1.snd := State.takeFree_follows fo
  clear_value s1
  split
  · exact State.tileReset_follows fo
  · exact State.siteReset_follows fo
  · exact State.partReset_follows fo
  · exact State.askReset_follows fo
  · exact State.warmReset_follows h1
  · exact State.repairCmd_follows h1
  · exact State.ptest_follows h1
  · exact State.acceptTopology_follows fo
  · exact State.rstRefused_follows fo

theorem State.licOp_follows {pre : State} {s : State} (fo : Follows pre s) {w : Nat} : Follows pre (s.licOp w) := by
  unfold State.licOp
  split
  · exact State.licInstall_follows (State.takeFree_follows fo)
  · exact State.licRemove_follows fo
  · exact State.licRefused_follows fo

theorem State.arm_follows {pre : State} {s : State} (fo : Follows pre s) {p : Path} {t : Nat} {pg : Page} {v : Nat} : Follows pre (s.arm p t pg v) := by
  unfold State.arm
  exact Follows.ite (State.setReg_follows fo) (State.addReg_follows fo)

theorem State.setRgreq_follows {pre : State} {s : State} (fo : Follows pre s) {p : Path} {v : Nat} : Follows pre (s.setRgreq p v) := by
  unfold State.setRgreq
  apply foldl_follows
  · intro x1 x2 h1
    exact Follows.ite (State.regionOff_follows h1) (Follows.ite (State.regionBack_follows h1) h1)
  · exact fo

theorem State.smiEnable_follows {pre : State} {s : State} (fo : Follows pre s) {p : Nat} {v : Nat} : Follows pre (s.smiEnable p v) := by
  unfold State.smiEnable
  extract_lets s1
  have h1 : Follows pre s1 := Follows.ite (State.updPart_follows fo) fo
  clear_value s1
  exact State.setG_follows h1

theorem State.portEnable_follows {pre : State} {s : State} (fo : Follows pre s) {n : Nat} {v : Nat} : Follows pre (s.portEnable n v) := by
  unfold State.portEnable
  extract_lets s1
  have h1 : Follows pre s1 := State.setG_follows fo
  clear_value s1
  exact Follows.ite (State.leavePort_follows h1) (Follows.ite (State.leavePort_follows h1) h1)

theorem effects_follows : ∀ e ∈ effects, ∀ {pre s : State}, Follows pre s → ∀ p t i v w, Follows pre (e.2 s p t i v w) := by
  unfold effects
  simp only [List.forall_mem_append, List.forall_mem_cons, List.not_mem_nil, false_implies, implies_true, and_true]
  refine ⟨⟨⟨⟨?_, ?_, ?_, ?_, ?_, ?_, ?_, ?_, ?_⟩, ?_, ?_, ?_, ?_, ?_, ?_, ?_, ?_⟩, ?_, ?_, ?_, ?_, ?_, ?_, ?_, ?_, ?_, ?_, ?_⟩, ?_, ?_, ?_, ?_, ?_⟩ <;> intro pre s fo p t i v w
  · exact Follows.ite (State.runGo_follows fo) fo
  · exact State.writeValid_follows fo
  · exact Follows.ite (State.askSwap_follows fo) fo
  · exact State.writeSmifort_follows fo
  · exact State.pairing_follows fo
  · exact fo
  · exact State.modCheck_follows (State.setG_follows fo)
  · exact State.modCheck_follows (State.setG_follows fo)
  · exact Follows.ite (State.enableRing_follows fo) (State.setG_follows fo)
  · exact State.smiEnable_follows fo
  · exact Follows.ite (fo.same (Eq.refl _) fo.memOk (Eq.refl _) (Eq.refl _) (Eq.refl _) (Eq.refl _)) fo
  · exact Follows.ite (State.setG_follows fo) (State.clearHold_follows fo)
  · exact Follows.ite (State.clearVmin_follows fo) fo
  · exact Follows.ite (State.predictive_follows fo) fo
  · exact Follows.ite (State.release'_follows fo) fo
  · exact Follows.ite (State.rebase_follows fo) fo
  · exact State.setRgreq_follows fo
  · exact State.setCmode_follows fo
  · exact State.setCmode_follows fo
  · exact Follows.ite (State.snap_follows fo) fo
  · exact Follows.ite (State.restoreTrims_follows fo) fo
  · exact State.passReq_follows fo
  · exact State.rstOp_follows fo
  · exact fo
  · exact fo
  · exact fo
  · exact State.licOp_follows fo
  · exact fo
  · have h1 : Follows pre (s.setG NET_TOD_SEC i v) := State.setG_follows fo
    exact h1.same (Eq.refl _) h1.memOk (Eq.refl _) (Eq.refl _) (Eq.refl _) (Eq.refl _)
  · exact Follows.ite (State.setG_follows fo) (State.ethDown_follows (State.setG_follows fo))
  · exact State.portEnable_follows fo
  · exact State.setEnable_follows fo
  · exact State.setPen_follows fo

theorem effectOf_follows {f : Fld} {g : FldEffect} (h : effectOf f = some g) {pre s : State} (fo : Follows pre s) {p : Path} {t i v w : Nat} : Follows pre (g s p t i v w) := by
  unfold effectOf at h
  split at h
  · cases h
    exact State.writeQreq_follows fo
  · split at h
    · cases h
      exact State.arm_follows fo
    · obtain ⟨e, he, rfl⟩ := Option.map_eq_some_iff.1 h
      exact effects_follows e (List.mem_of_find?_eq_some he) fo p t i v w

theorem State.storeField_follows {pre : State} {s : State} (fo : Follows pre s) {p : Path} {t : Nat} {f : Fld} {i : Nat} {v : Nat} {w : Nat} : Follows pre (s.storeField p t f i v w) := by
  unfold State.storeField
  split
  · rename_i g hg
    exact effectOf_follows hg fo
  · exact Follows.ite (fo.same (Eq.refl _) fo.memOk (Eq.refl _) (Eq.refl _) (Eq.refl _) (Eq.refl _)) (State.setReg_follows fo)

theorem State.clearField_follows {pre : State} {s : State} (fo : Follows pre s) {p : Path} {t : Nat} {f : Fld} {i : Nat} {v : Nat} {w : Nat} : Follows pre (s.clearField p t f i v w) := by
  unfold State.clearField
  split
  · rename_i g hg
    exact effectOf_follows hg fo
  · exact State.setReg_follows fo

theorem State.putField_follows {pre : State} {s : State} (fo : Follows pre s) {p : Path} {t : Nat} {e : Fld × Nat} {w : Nat} : Follows pre (s.putField p t e w).fst := by
  unfold State.putField
  extract_lets s1 s2
  split
  · exact fo
  · dsimp only
    exact State.clearField_follows fo
  · dsimp only
    exact State.storeField_follows fo
  · split
    · dsimp only
      exact Follows.ite (State.setReg_follows fo) fo
    · dsimp only
      exact State.storeField_follows fo
  · split
    · dsimp only
      exact Follows.ite (State.setReg_follows fo) fo
    · dsimp only
      exact State.storeField_follows fo

theorem State.putFields_follows {pre : State} {s : State} (fo : Follows pre s) {p : Path} {t : Nat} {l : List (Fld × Nat)} {w : Nat} : Follows pre (s.putFields p t l w).fst := by
  unfold State.putFields
  apply foldl_follows1
  · intro x1 x2 h1
    extract_lets s1
    have h2 : Follows pre s1.fst := State.putField_follows h1
    clear_value s1
    exact h2
  · exact fo

theorem State.countWrite_follows {pre : State} {s : State} (fo : Follows pre s) {p : Path} {t : Nat} {pg : Page} : Follows pre (s.countWrite p t pg) := by
  unfold State.countWrite
  exact State.addReg_follows fo

theorem State.pageStore_follows {pre : State} {s : State} (fo : Follows pre s) {p : Path} {t : Nat} {pg : Page} {off : Nat} {w : Nat} : Follows pre (State.pageStore s p t pg off w) := by
  unfold State.pageStore
  extract_lets s1 s2 s3 s4
  have h1 : Follows pre s4.fst := State.putFields_follows fo
  clear_value s4
  apply Follows.ite
  · exact State.refuseWrite_follows fo
  · apply Follows.ite
    · exact fo
    · apply Follows.ite
      · exact State.discardWrite_follows fo
      · apply Follows.ite
        · exact fo
        · apply Follows.ite
          · exact State.refuseWrite_follows fo
          · split
            · exact fo
            · exact State.refuseWrite_follows fo
            · exact State.countWrite_follows fo
            · exact Follows.ite (State.refuseWrite_follows fo) (Follows.ite (State.refuseWrite_follows fo) (Follows.ite (State.refuseStatic_follows fo) (Follows.ite (State.refuseWrite_follows h1) h1)))

theorem State.viewStore_follows {pre : State} {s : State} (fo : Follows pre s) {p : Path} {t : Nat} {v : Nat} {sub : Nat} {off : Nat} {w : Nat} : Follows pre (s.viewStore p t v sub off w) := by
  unfold State.viewStore
  apply Follows.ite
  · exact fo
  · apply Follows.ite
    · exact State.refuseStatic_follows fo
    · extract_lets s1
      have h1 : Follows pre s1 := State.setMem_follows fo (MemOk.writeLE (Follows.memOk fo))
      clear_value s1
      exact Follows.ite (State.updTile_follows h1) (Follows.ite (State.updTile_follows h1) h1)

theorem State.msixStore_follows {pre : State} {s : State} (fo : Follows pre s) {fn : Nat} {off : Nat} {w : Nat} : Follows pre (s.msixStore fn off w) := by
  unfold State.msixStore
  extract_lets s1 s2
  apply Follows.ite
  · apply State.sendPending_follows
    exact fo.same (Eq.refl _) fo.mem (Eq.refl _) (Eq.refl _) (Eq.refl _) (Eq.refl _)
  · exact fo.same (Eq.refl _) fo.mem (Eq.refl _) (Eq.refl _) (Eq.refl _) (Eq.refl _)

theorem State.placeStore_follows {pre : State} {s : State} (fo : Follows pre s) {p : Path} {x : RegPlace} {full : Bool} {w : Nat} : Follows pre (State.placeStore s p x full w) := by
  unfold State.placeStore
  extract_lets s1
  split
  · exact State.discardWrite_follows fo
  · exact Follows.ite (State.pageStore_follows fo) (State.countWrite_follows fo)
  · exact Follows.ite (State.discardWrite_follows fo) (Follows.ite (State.resetWrite_follows fo) (Follows.ite (State.pageStore_follows fo) (State.countWrite_follows fo)))
  · exact Follows.ite (State.discardWrite_follows fo) (Follows.ite (State.refuseWrite_follows fo) (State.viewStore_follows fo))
  · exact Follows.ite (State.discardWrite_follows fo) (Follows.ite (State.refuseWrite_follows fo) (State.msixStore_follows fo))
  · exact fo

theorem State.hostStore_follows {pre : State} {s : State} (fo : Follows pre s) {p : Path} {x : RegPlace} {full : Bool} {w : Nat} : FollowsO pre (s.hostStore p x full w) := by
  unfold State.hostStore
  exact FollowsO.ite (FollowsO.next fo) (FollowsO.ite (FollowsO.next (State.refuseMessage_follows fo)) (FollowsO.next (State.placeStore_follows fo)))

/-! ### Operations that leave memory alone -/

theorem State.setEnable_memSame {pre : State} {s : State} (fo : MemSame pre s) {fn : Nat} {v : Nat} : MemSame pre (s.setEnable fn v) := by
  unfold State.setEnable
  extract_lets s1
  apply foldl_memSame
  · intro x1 x2 h1
    exact MemSame.ite (State.msix_memSame h1) h1
  · exact State.setReg_memSame fo

theorem State.setPen_memSame {pre : State} {s : State} (fo : MemSame pre s) {i : Nat} {v : Nat} : MemSame pre (s.setPen i v) := by
  unfold State.setPen
  extract_lets s1
  apply foldl_memSame
  · intro x1 x2 h1
    exact MemSame.ite (State.msix_memSame h1) h1
  · exact State.setG_memSame fo

theorem State.licOp_memSame {pre : State} {s : State} (fo : MemSame pre s) {w : Nat} : MemSame pre (s.licOp w) := by
  unfold State.licOp
  split
  · exact State.licInstall_memSame (State.takeFree_memSame fo)
  · exact State.licRemove_memSame fo
  · exact State.licRefused_memSame fo

theorem State.arm_memSame {pre : State} {s : State} (fo : MemSame pre s) {p : Path} {t : Nat} {pg : Page} {v : Nat} : MemSame pre (s.arm p t pg v) := by
  unfold State.arm
  exact MemSame.ite (State.setReg_memSame fo) (State.addReg_memSame fo)

theorem State.setRgreq_memSame {pre : State} {s : State} (fo : MemSame pre s) {p : Path} {v : Nat} : MemSame pre (s.setRgreq p v) := by
  unfold State.setRgreq
  apply foldl_memSame
  · intro x1 x2 h1
    exact MemSame.ite (State.regionOff_memSame h1) (MemSame.ite (State.regionBack_memSame h1) h1)
  · exact fo

theorem State.smiEnable_memSame {pre : State} {s : State} (fo : MemSame pre s) {p : Nat} {v : Nat} : MemSame pre (s.smiEnable p v) := by
  unfold State.smiEnable
  extract_lets s1
  have h1 : MemSame pre s1 := MemSame.ite (State.updPart_memSame fo) fo
  clear_value s1
  exact State.setG_memSame h1

theorem State.portEnable_memSame {pre : State} {s : State} (fo : MemSame pre s) {n : Nat} {v : Nat} : MemSame pre (s.portEnable n v) := by
  unfold State.portEnable
  extract_lets s1
  have h1 : MemSame pre s1 := State.setG_memSame fo
  clear_value s1
  exact MemSame.ite (State.leavePort_memSame h1) (MemSame.ite (State.leavePort_memSame h1) h1)

theorem State.countWrite_memSame {pre : State} {s : State} (fo : MemSame pre s) {p : Path} {t : Nat} {pg : Page} : MemSame pre (s.countWrite p t pg) := by
  unfold State.countWrite
  exact State.addReg_memSame fo

theorem State.msixStore_memSame {pre : State} {s : State} (fo : MemSame pre s) {fn : Nat} {off : Nat} {w : Nat} : MemSame pre (s.msixStore fn off w) := by
  unfold State.msixStore
  extract_lets s1 s2
  apply MemSame.ite
  · apply State.sendPending_memSame
    exact fo.same (Eq.refl _)
  · exact fo.same (Eq.refl _)

end Sys2Proof.Machine
end

