-- ==== Sys2Proof/Laws/RegCmds.lean ====
section
/-! SUPPORT. What the operations of Machine/RegCmds.lean keep: one lemma for each, by the lemmas of those that it calls. -/

namespace Sys2Proof.Machine

open Sys2Proof

theorem State.barStore_follows {pre : State} {s : State} (fo : Follows pre s) {p : Path} {o : Nat} {full : Bool} {w : Nat} : Follows pre (State.barStore s p o full w) := by
  unfold State.barStore
  exact Follows.ite (State.placeStore_follows fo) (Follows.ite fo (State.bar2Store_follows fo))

theorem execRegisterWrite_follows {pre : State} {path : Path} {offset : Fin 335544320} {value : Word32} {enables : Fin 16} {upper : Option (Word32 × Fin 16)} {s : State} (fo : Follows pre s) : FollowsO pre (execRegisterWrite path offset value enables upper s) := by
  unfold execRegisterWrite
  apply FollowsO.ite
  · exact FollowsO.next fo
  · apply FollowsO.ite
    · exact FollowsO.next (State.refuseMessage_follows fo)
    · extract_lets s1 s2 s3
      have h1 : Follows pre s3 := State.barStore_follows fo
      clear_value s3
      split
      · exact FollowsO.next h1
      · exact FollowsO.next (State.barStore_follows h1)

theorem execMgmtRegisterAccess_follows {pre : State} {version : Fin 65536} {offset : Fin 67108864} {write : Option Word32} {s : State} (fo : Follows pre s) : FollowsO pre (execMgmtRegisterAccess version offset write s) := by
  unfold execMgmtRegisterAccess
  extract_lets s1
  apply FollowsO.ite
  · exact FollowsO.next fo
  · apply FollowsO.ite
    · exact FollowsO.next (State.refuseMessage_follows (State.secRecord_follows fo))
    · split
      · exact State.hostRead_follows fo
      · rename_i y1 y2
        exact State.hostStore_follows fo

theorem execSecNegWrite_follows {pre : State} {path : Path} {major : Fin 65536} {s : State} (fo : Follows pre s) : FollowsO pre (execSecNegWrite path major s) := by
  unfold execSecNegWrite
  exact State.hostStore_follows fo

theorem execIntEnableWrite_follows {pre : State} {path : Path} {which : Fin 3} {value : Word32} {s : State} (fo : Follows pre s) : FollowsO pre (execIntEnableWrite path which value s) := by
  unfold execIntEnableWrite
  exact State.hostStore_follows fo

theorem execErrInject_follows {pre : State} {path : Path} {page : PageAt} {kind : Fin 256} {s : State} (fo : Follows pre s) : FollowsO pre (execErrInject path page kind s) := by
  unfold execErrInject
  exact State.hostStore_follows fo

theorem execErrLogData0Read_follows {pre : State} {path : Path} {s : State} (fo : Follows pre s) : FollowsO pre (execErrLogData0Read path s) := by
  unfold execErrLogData0Read
  exact State.hostRead_follows fo

theorem execErrLogData7Read_follows {pre : State} {path : Path} {s : State} (fo : Follows pre s) : FollowsO pre (execErrLogData7Read path s) := by
  unfold execErrLogData7Read
  exact State.hostRead_follows fo

theorem execSplitCountLoRead_follows {pre : State} {path : Path} {offset : Fin 67108864} {s : State} (fo : Follows pre s) : FollowsO pre (execSplitCountLoRead path offset s) := by
  unfold execSplitCountLoRead
  extract_lets s1
  exact FollowsO.ite (State.hostRead_follows fo) (FollowsO.next fo)

/-! ### Operations that leave memory alone -/

theorem execErrLogData0Read_memSame {pre : State} {path : Path} {s : State} (fo : MemSame pre s) : MemSameO pre (execErrLogData0Read path s) := by
  unfold execErrLogData0Read
  exact State.hostRead_memSame fo

theorem execErrLogData7Read_memSame {pre : State} {path : Path} {s : State} (fo : MemSame pre s) : MemSameO pre (execErrLogData7Read path s) := by
  unfold execErrLogData7Read
  exact State.hostRead_memSame fo

theorem execSplitCountLoRead_memSame {pre : State} {path : Path} {offset : Fin 67108864} {s : State} (fo : MemSame pre s) : MemSameO pre (execSplitCountLoRead path offset s) := by
  unfold execSplitCountLoRead
  extract_lets s1
  exact MemSameO.ite (State.hostRead_memSame fo) (MemSameO.next fo)

end Sys2Proof.Machine
end

