-- ==== Sys2Proof/Laws/Rows.lean ====
section
/-! SUPPORT. Rows of the Basin written whole: the bytes stored are the bytes given. -/

namespace Sys2Proof.Machine

theorem Memory.writeBytes_append (l k : List Byte) : ∀ (m : Memory) (a : Nat),
    Memory.writeBytes m a (l ++ k) = Memory.writeBytes (Memory.writeBytes m a l) (a + l.length) k := by
  induction l with
  | nil => intro m a; rfl
  | cons b l ih =>
    intro m a
    show Memory.writeBytes (Memory.write m a b) (a + 1) (l ++ k) = Memory.writeBytes (Memory.writeBytes (Memory.write m a b) (a + 1) l) (a + (l.length + 1)) k
    rw [ih, Nat.add_assoc, Nat.add_comm 1]
/-- Bytes written are read back. -/
theorem Memory.readBytes_writeBytes_inside (l : List Byte) : ∀ (m : Memory) (a k : Nat), k ≤ a →
    Memory.readBytes (Memory.writeBytes m a l) a l.length = l := by
  induction l with
  | nil => intro m a k _; rfl
  | cons b l ih =>
    intro m a k _
    show Memory.read (Memory.writeBytes (Memory.write m a b) (a + 1) l) a :: Memory.readBytes (Memory.writeBytes (Memory.write m a b) (a + 1) l) (a + 1) l.length = b :: l
    rw [ih _ _ 0 (Nat.zero_le _), Memory.read_writeBytes_outside _ _ _ _ (Or.inl (Nat.lt_succ_self a)), Memory.read_write, if_pos rfl]
theorem Memory.readBytes_writeBytes (m : Memory) (a : Nat) (l : List Byte) : Memory.readBytes (Memory.writeBytes m a l) a l.length = l :=
  Memory.readBytes_writeBytes_inside l m a 0 (Nat.zero_le _)
@[simp] theorem Memory.readBytes_length (m : Memory) (n : Nat) : ∀ a : Nat, (Memory.readBytes m a n).length = n := by
  induction n with
  | zero => intro a; rfl
  | succ n ih => intro a; show (Memory.readBytes m (a + 1) n).length + 1 = n + 1; rw [ih]

theorem State.foldl_words {f : State → Nat → State} {base : Nat} {d : List Byte} {g : Nat → List Byte}
    (hf : ∀ s w, (f s w).mem = Memory.writeBytes s.mem (base + 8 * w) (g w)) (h : d.length = 512)
    (hg : ∀ w, w < 64 → g w = (d.drop (8 * w)).take 8) (n : Nat) :
    n ≤ 64 → ∀ s : State, ((upTo n).foldl f s).mem = Memory.writeBytes s.mem base (d.take (8 * n)) := by
  induction n with
  | zero => intro _ s; rfl
  | succ n ih =>
    intro hn s
    unfold upTo
    rw [List.range_succ, List.foldl_append]
    have e := ih (by omega) s
    unfold upTo at e
    simp only [List.foldl_cons, List.foldl_nil, hf]
    rw [e, hg n (by omega)]
    have : d.take (8 * (n + 1)) = d.take (8 * n) ++ (d.drop (8 * n)).take 8 := by
      rw [Nat.mul_succ, List.take_add]
    rw [this, Memory.writeBytes_append]
    congr 1
    rw [List.length_take, h]
    omega

/-- All the words of a row of 512 bytes stored: the memory is that with the bytes written. -/
theorem State.storeWords_row {s : State} {t r : Nat} {d : List Byte} (h : d.length = 512) {p q : Bool} :
    (s.storeWords t r (beatsOf d p q) allWords).mem = Memory.writeBytes s.mem (basinRow t r) d := by
  have hw : ∀ n w, w < n → n ≤ 64 → ((((beatsOf d p q)[w / 8]?).getD (Beat.zero true)).data.drop (8 * (w % 8))).take 8 = (d.drop (8 * w)).take 8 := by
    intro n w hw hn
    have e : (beatsOf d p q)[w / 8]? = some (beatOf d (64 * (w / 8)) p q) := by
      unfold beatsOf upTo
      rw [List.getElem?_map, List.getElem?_range (by rw [h]; omega)]
      rfl
    rw [e]
    simp only [Option.getD_some, beatOf]
    have l1 : ((d.drop (64 * (w / 8))).take 64).length = 64 := by
      rw [List.length_take, List.length_drop, h]; omega
    rw [l1, Nat.sub_self, List.replicate_zero, List.append_nil, List.drop_take, List.take_take, List.drop_drop]
    have e1 : 64 * (w / 8) + 8 * (w % 8) = 8 * w := by omega
    have e2 : min 8 (64 - 8 * (w % 8)) = 8 := by omega
    rw [e1, e2]
  have e := State.foldl_words (f := fun s w =>
    let b := ((beatsOf d p q)[w / 8]?).getD (Beat.zero true)
    let k := r * 64 + w
    let s := s.updTile t (fun x => { x with poisonMark := x.poisonMark.upd k b.poison, troubleMark := x.troubleMark.upd k b.trouble, flips := x.flips.del k })
    s.setMem (Memory.writeBytes s.mem (basinRow t r + 8 * w) ((b.data.drop (8 * (w % 8))).take 8)))
    (fun s w => rfl) h (fun w hw' => hw 64 w hw' (Nat.le_refl _)) 64 (Nat.le_refl _) s
  rw [List.take_of_length_le (by omega)] at e
  exact e

end Sys2Proof.Machine
end

