-- ==== Sys2Proof/Laws/Wafer.lean ====
section
/-! SUPPORT. What the operations of Machine/Wafer.lean keep: one lemma for each, by the lemmas of those that it calls. -/

namespace Sys2Proof.Machine

open Sys2Proof

theorem State.passTime_follows {pre : State} {s : State} (fo : Follows pre s) {ns : Nat} : Follows pre (s.passTime ns) := by
  unfold State.passTime
  refine Follows.ite (fo.same (Eq.refl _) fo.memOk (Eq.refl _) (Eq.refl _) (Eq.refl _) (Eq.refl _)) ?_
  have h1 := State.takeFree_follows fo
  exact h1.same (Eq.refl _) h1.memOk (Eq.refl _) (Eq.refl _) (Eq.refl _) (Eq.refl _)

theorem State.takeSwaps_follows {pre : State} {s : State} (fo : Follows pre s) : Follows pre s.takeSwaps := by
  unfold State.takeSwaps
  extract_lets s1 s2 s3 s4
  have h1 : Follows pre s3 := fo.same (Eq.refl _) fo.mem (Eq.refl _) (Eq.refl _) (Eq.refl _) (Eq.refl _)
  clear_value s3
  have h2 : Follows pre s4 := Follows.ite (State.swapRoots_follows h1) h1
  clear_value s4
  exact Follows.ite (State.takeOver_follows h2) h2

theorem State.slewSet_follows {pre : State} {s : State} (fo : Follows pre s) {dv : Nat} {site : Nat} : Follows pre (s.slewSet dv site) := by
  unfold State.slewSet
  apply Follows.ite
  · extract_lets s1 s2
    exact State.judgeSet_follows (State.setG_follows fo)
  · exact fo

theorem State.takePoints_follows {pre : State} {s : State} (fo : Follows pre s) {r : WindowReadings} : Follows pre (State.takePoints s r) := by
  unfold State.takePoints
  apply foldl_follows
  · intro x1 x2 h1
    exact State.senseAt_follows h1
  · exact fo

theorem State.takeReadings_follows {pre : State} {s : State} (fo : Follows pre s) {r : WindowReadings} {dv : Nat} : Follows pre (State.takeReadings s r dv) := by
  unfold State.takeReadings
  extract_lets s1 s2 s3 s4 s5 s6 s7 s8
  have h1 : Follows pre s1 := by
    unfold s1
    apply foldl_follows
    · intro x1 x2 h2
      exact State.setG_follows h2
    · exact fo
  clear_value s1
  have h3 : Follows pre s2 := State.readAmps_follows h1
  clear_value s2
  have h4 : Follows pre s3 := by
    unfold s3
    apply foldl_follows
    · intro x3 x4 h5
      exact State.addReg_follows h5
    · exact h3
  clear_value s3
  have h6 : Follows pre s4 := by
    unfold s4
    apply foldl_follows
    · intro x5 x6 h7
      exact State.readDiode_follows h7
    · exact h4
  clear_value s4
  have h8 : Follows pre s5 := by
    unfold s5
    apply foldl_follows
    · intro x7 x8 h9
      exact State.readBase_follows h9
    · exact h6
  clear_value s5
  have h10 : Follows pre s6 := by
    unfold s6
    apply foldl_follows
    · intro x9 x10 h11
      exact State.setG_follows h11
    · exact h8
  clear_value s6
  have h12 : Follows pre s8 := h10.same (Eq.refl _) h10.mem (Eq.refl _) (Eq.refl _) (Eq.refl _) (Eq.refl _)
  clear_value s8
  apply State.allSites_follows
  · exact h12
  · intro x11 x12 h13
    exact State.slewSet_follows h13

theorem execWaferStep_follows {pre : State} {readings : WindowReadings} {s : State} (fo : Follows pre s) : FollowsO pre (execWaferStep readings s) := by
  unfold execWaferStep
  extract_lets s1 s2 s3 s4 s5
  have h1 : Follows pre s2 := State.passTime_follows (State.takePoints_follows fo)
  clear_value s2
  have h2 : Follows pre s3 := h1.same (Eq.refl _) h1.mem (Eq.refl _) (Eq.refl _) (Eq.refl _) (Eq.refl _)
  clear_value s3
  have h3 : Follows pre s4 := State.applyShadows_follows (State.takeSwaps_follows h2)
  clear_value s4
  have h4 : Follows pre s5 := State.yieldWarm_follows (State.capWindow_follows (State.thermalWindow_follows (State.takeReadings_follows h3)))
  clear_value s5
  exact FollowsO.ite (FollowsO.next (State.passTime_follows fo)) (FollowsO.next (State.adjustQuads_follows h4))

/-! ### Operations that leave memory alone -/

theorem State.passTime_memSame {pre : State} {s : State} (fo : MemSame pre s) {ns : Nat} : MemSame pre (s.passTime ns) := by
  unfold State.passTime
  apply MemSame.ite
  · exact fo.same (Eq.refl _)
  · extract_lets s1 s2 s3 s4 s5
    have h1 : MemSame pre s1.snd := State.takeFree_memSame fo
    clear_value s1
    have h2 : MemSame pre s4 := h1
    clear_value s4
    exact h2.same (Eq.refl _)

theorem State.slewSet_memSame {pre : State} {s : State} (fo : MemSame pre s) {dv : Nat} {site : Nat} : MemSame pre (s.slewSet dv site) := by
  unfold State.slewSet
  apply MemSame.ite
  · extract_lets s1 s2
    exact State.judgeSet_memSame (State.setG_memSame fo)
  · exact fo

theorem State.takeReadings_memSame {pre : State} {s : State} (fo : MemSame pre s) {r : WindowReadings} {dv : Nat} : MemSame pre (State.takeReadings s r dv) := by
  unfold State.takeReadings
  extract_lets s1 s2 s3 s4 s5 s6 s7 s8
  have h1 : MemSame pre s1 := by
    unfold s1
    apply foldl_memSame
    · intro x1 x2 h2
      exact State.setG_memSame h2
    · exact fo
  clear_value s1
  have h3 : MemSame pre s2 := State.readAmps_memSame h1
  clear_value s2
  have h4 : MemSame pre s3 := by
    unfold s3
    apply foldl_memSame
    · intro x3 x4 h5
      exact State.addReg_memSame h5
    · exact h3
  clear_value s3
  have h6 : MemSame pre s4 := by
    unfold s4
    apply foldl_memSame
    · intro x5 x6 h7
      exact State.readDiode_memSame h7
    · exact h4
  clear_value s4
  have h8 : MemSame pre s5 := by
    unfold s5
    apply foldl_memSame
    · intro x7 x8 h9
      exact State.readBase_memSame h9
    · exact h6
  clear_value s5
  have h10 : MemSame pre s6 := by
    unfold s6
    apply foldl_memSame
    · intro x9 x10 h11
      exact State.setG_memSame h11
    · exact h8
  clear_value s6
  have h12 : MemSame pre s8 := h10.same (Eq.refl _)
  clear_value s8
  apply State.allSites_memSame
  · exact h12
  · intro x11 x12 h13
    exact State.slewSet_memSame h13

end Sys2Proof.Machine
end

