-- ==== Sys2Proof/Tests/Slice0.lean ====
section
/-! SUPPORT. Tests of the model's own: a command that is ill-formed for each check of WellFormed, and for each statement of
Certificates/Slice0 with premises a concrete state and operands that meet them together. -/

namespace Sys2Proof.Tests

open Sys2Proof Sys2Proof.Machine Sys2Proof.Safety

-- One theorem at a time: side by side, the threads of so many evaluations pass the memory limit.
set_option Elab.async false

/-! ### States for the tests -/

/-- The state after reset with some register fields set: field, copy, index, value. -/
def withRegs (l : List (Fld × Nat × Nat × Nat)) : State := l.foldl (fun s e => s.setReg e.1 e.2.1 e.2.2.1 e.2.2.2) State.reset
/-- READY, with the link up, the register interface negotiated by the physical function, and a session with an owner key open. -/
def upWith (l : List (Fld × Nat × Nat × Nat)) : State :=
  let s := withRegs ([(SEC_NEG_MAJOR, 0, 0, 1), (RST_STATE_STATE, 0, 0, 4), (PWR_QSTATE 0, 0, 0, 0)] ++ l)
  { s with
    link := { s.link with pcieUp := true, vfEnable := true, sessions := Map.empty.put 0 ⟨true, true⟩ }
    power := { s.power with auxOn := true, convOn := true, mainOk := true } }
def up : State := upWith []
/-- A tile command of tile 0 in cycle 0, entry 0. -/
def word (w : Nat) : Issue := ⟨⟨0, by decide⟩, ⟨0, by decide⟩, ⟨0, by decide⟩, BitVec.ofNat 64 w⟩


/-- A tile command of tile 0 whose word has the fields given, each as value and lowest bit. -/
def wordOf (l : List (Nat × Nat)) : Issue := word (l.foldl (fun n e => n + e.1 * 2 ^ e.2) 0)
/-- Tile 0 changed. -/
def tile0 (s : State) (f : TileSt → TileSt) : State := s.updTile 0 f
/-- Partition 0 holds quadrant 0, with state and registers given, changed as said. -/
def owned (l : List (Fld × Nat × Nat × Nat)) (f : PartSt → PartSt) : State :=
  (upWith l).setPart 0 (f { PartSt.clear with quads := Map.empty.put 0 (), reqCount := 16, cistGb := 1 })
/-- A program window of two pages in tile 0. -/
def window2 : List (Fld × Nat × Nat × Nat) := [(BSN_PROG_PROG_PAGES, 0, 0, 2)]
/-- Partition 0 in an attempt of a program whose one schedule entry issues a word to a unit of tile 0 in cycle 0. -/
def running (l : List (Fld × Nat × Nat × Nat)) (unit : Nat) (i : Issue) : State :=
  let s := owned ([(SEQ_PROG_COUNT, 0, 0, 1), (CSD_PCFG_RUN, 0, 0, 1), (LD_PSTATE_STATE, 0, 0, psRunning)] ++ l)
    (fun x => { x with phase := .attempt, prog := 0 })
  s.setMem (Memory.writeLE s.mem (schedAddr 0 0) 16 (unit * 2 ^ 109 + i.word.toNat))
theorem no_some {α : Type} {o : Option α} (h : o = none) (P : Prop) (m : α) (e : o = some m) : P := by
  rw [h] at e; cases e

/-! ### Premises of the statements -/

theorem test_premises_paths : pageOpen up .pf false true = true ∧ tileOpen up .pf 0 = true ∧ ownerAccess up .pf = true ∧ ownerOpen up .pf = true := by
  decide +kernel

/-- ArrayLoadsAndProducts: an LDIN of array 0 from the router. -/
def ldinWord : Issue := wordOf [(1, 59), (1, 51)]
def ldinState : State := running [] 0 ldinWord
theorem test_premises_ldin : issuable ldinState ldinWord 0 ∧ opcOf ldinWord.word.toNat = 1 ∧ maskArrays (amaskOf ldinWord.word.toNat) ≠ [] ∧
    bits ldinWord.word.toNat 28 0 = 0 ∧ bits ldinWord.word.toNat 49 48 ≠ 3 ∧
    (∀ n ∈ maskArrays (amaskOf ldinWord.word.toNat), inputFree (seen ldinState ldinWord) ldinWord n) ∧
    portOpen (seen ldinState ldinWord) ldinWord 0 (ldinRows ldinWord.word.toNat) :=
  ⟨by decide +kernel, by decide +kernel, by decide +kernel, by decide +kernel, by decide +kernel, by unfold inputFree; decide +kernel,
    by decide +kernel⟩
/-- An MVM of array 0, one row group of 16, on a READY bank. -/
def mvmWord : Issue := wordOf [(2, 59), (1, 51)]
def readyBank : State := running [(bstateF 0, 0, 0, bsReady)] 0 mvmWord
theorem test_premises_mvm : issuable readyBank mvmWord 0 ∧ opcOf mvmWord.word.toNat = 2 ∧ (mvmF mvmWord.word.toNat).arrs ≠ [] ∧
    bits mvmWord.word.toNat 14 0 = 0 ∧ (mvmF mvmWord.word.toNat).out ≠ 3 ∧
    (mvmF mvmWord.word.toNat).first + (mvmF mvmWord.word.toNat).g * (mvmF mvmWord.word.toNat).size ≤ 1024 ∧
    (mvmF mvmWord.word.toNat).first % (mvmF mvmWord.word.toNat).size = 0 ∧
    (∀ n ∈ (mvmF mvmWord.word.toNat).arrs,
      (seen readyBank mvmWord).mvmCode mvmWord.tile.val n mvmWord.cycle.val (mvmF mvmWord.word.toNat) (bits mvmWord.word.toNat 43 41) = none) ∧
    portOpen (seen readyBank mvmWord) mvmWord 0 ((seen readyBank mvmWord).mvmRows 0 (mvmF mvmWord.word.toNat)) := by
  decide +kernel
theorem test_premises_mvmComplete :
    ((tile0 up (fun x => { x with mvmRun := x.mvmRun.put 0 ⟨mvmWord.word.toNat, 0, Map.empty, Map.empty, Map.empty, Map.empty, Map.empty, Map.empty,
      Map.empty, Map.empty⟩ })).tile 0).mvmRun.has 0 = true := by decide +kernel

/-- ArrayOutputsAndBankWrites, WrbNeedsAStreamBank. -/
def redWord : Issue := wordOf [(3, 59), (1, 51)]
def redState : State := running [] 0 redWord
theorem test_premises_red : issuable redState redWord 0 ∧ opcOf redWord.word.toNat = 3 ∧ maskArrays (amaskOf redWord.word.toNat) ≠ [] ∧
    bits redWord.word.toNat 21 0 = 0 ∧ bits redWord.word.toNat 50 48 ≠ 7 ∧ bits redWord.word.toNat 47 45 ≠ 7 ∧
    (∀ n ∈ maskArrays (amaskOf redWord.word.toNat), redFree (seen redState redWord) redWord n) ∧
    portOpen (seen redState redWord) redWord 0 (redRows redWord.word.toNat) :=
  ⟨by decide +kernel, by decide +kernel, by decide +kernel, by decide +kernel, by decide +kernel, by decide +kernel, by
    unfold redFree; decide +kernel, by decide +kernel⟩
def rdbWord : Issue := wordOf [(5, 59), (1, 51)]
def readyWindow : State := running ((bstateF 0, 0, 0, bsReady) :: window2) 0 rdbWord
theorem test_premises_rdb : issuable readyWindow rdbWord 0 ∧ opcOf rdbWord.word.toNat = 5 ∧ maskArrays (amaskOf rdbWord.word.toNat) = [0] ∧
    bits rdbWord.word.toNat 25 0 = 0 ∧ 8 * bits rdbWord.word.toNat 49 43 + 8 * (bits rdbWord.word.toNat 42 36 + 1) ≤ 1024 ∧
    rdbFree (seen readyWindow rdbWord) rdbWord 0 ∧ portOpen (seen readyWindow rdbWord) rdbWord 0 (bankRows rdbWord.word.toNat) ∧
    ∀ k ≤ bits rdbWord.word.toNat 42 36, readyWindow.inProgram rdbWord.tile.val (bits rdbWord.word.toNat 35 26 + k) = true :=
  ⟨by decide +kernel, by decide +kernel, by decide +kernel, by decide +kernel, by decide +kernel, by unfold rdbFree portFree; decide +kernel,
    by decide +kernel, by decide +kernel⟩
def wrbWord : Issue := wordOf [(4, 59), (1, 51)]
def streamBank : State := running [(streamF 0, 0, 0, 1)] 0 wrbWord
def noStream : State := running [] 0 wrbWord
theorem test_premises_wrb : issuable streamBank wrbWord 0 ∧ opcOf wrbWord.word.toNat = 4 ∧ maskArrays (amaskOf wrbWord.word.toNat) ≠ [] ∧
    bits wrbWord.word.toNat 25 0 = 0 ∧ 8 * bits wrbWord.word.toNat 49 43 + 8 * (bits wrbWord.word.toNat 42 36 + 1) ≤ 1024 ∧
    (∀ n ∈ maskArrays (amaskOf wrbWord.word.toNat), wrbFree (seen streamBank wrbWord) wrbWord n) ∧
    portOpen (seen streamBank wrbWord) wrbWord 0 (bankRows wrbWord.word.toNat) ∧
    issuable noStream wrbWord 0 ∧ ∃ n ∈ maskArrays (amaskOf wrbWord.word.toNat), noStream.reg (streamF (bits wrbWord.word.toNat 50 50)) 0 n = 0 :=
  ⟨by decide +kernel, by decide +kernel, by decide +kernel, by decide +kernel, by decide +kernel, by unfold wrbFree portFree; decide +kernel,
    by decide +kernel, by decide +kernel, 0, by decide +kernel, by decide +kernel⟩
/-- WrbCompleteJudgesEveryRow. -/
theorem test_premises_wrbComplete :
    ((tile0 up (fun x => { x with wrbRun := x.wrbRun.put 0 ⟨wrbWord.word.toNat, 0, false⟩ })).tile 0).wrbRun.get? 0 =
      some ⟨wrbWord.word.toNat, 0, false⟩ := by decide +kernel

/-- ConversionsGiveTheDotProduct: two rows, elements 1 and 2, whose narrow values stay in range; NarrowAccumulatorHoldsAtItsBound. -/
theorem test_premises_conversions :
    let rows : List (Nat × Int) := [(5, 1), (3, 2)]
    (∀ r ∈ rows, -(if true then 128 else 8 : Int) ≤ r.2 ∧ r.2 < (if true then 128 else 8 : Int)) ∧
    (narrowValue true ((rows.map (fun r => weightOf 0 r.1 0)).foldl (· + ·) 0)
      (columnCodes 0 4 0 (fun k b g => idealSum rows true k (4 * g + b)))).2 = false := by decide +kernel
theorem test_premises_narrow : (-524288 : Int) ≤ 524287 ∧ (524287 : Int) < 524287 + 1 ∧ (-524288 : Int) + -1 < -524288 := by decide

/-- MldLoadsItsVectors, MatrixEngineCommands. -/
def mldWord : Issue := wordOf [(1, 59)]
def mldState : State := running window2 1 mldWord
theorem test_premises_mld : issuable mldState mldWord 1 ∧ bits mldWord.word.toNat 63 59 = 1 ∧ mldBad mldWord.word.toNat = false ∧
    (mldState.tile 0).mmulReads mldWord.cycle.val (bits mldWord.word.toNat 58 58) (bits mldWord.word.toNat 39 33) (mldVecs mldWord.word.toNat) = false ∧
    matrixFree mldState mldWord ∧ portOpen (seen mldState mldWord) mldWord 1 (mldRows mldWord.word.toNat) ∧
    mldState.inProgram 0 (mldExpRow mldWord.word.toNat) = true ∧
    ∀ k ≤ bits mldWord.word.toNat 45 40, mldState.inProgram 0 (bits mldWord.word.toNat 55 46 + k) = true := by decide +kernel
/-- An MMUL of each value of TRB. -/
def mmulWord (trb : Nat) : Issue := wordOf [(2, 59), (trb, 43)]
theorem test_premises_mmul : ∀ trb < 2, issuable (running [] 1 (mmulWord trb)) (mmulWord trb) 1 ∧ bits (mmulWord trb).word.toNat 63 59 = 2 ∧
    bits (mmulWord trb).word.toNat 16 0 = 0 ∧ (mmF (mmulWord trb).word.toNat).bad = false ∧
    ((running [] 1 (mmulWord trb)).tile 0).mxUntil ≤ (mmulWord trb).cycle.val ∧ matrixFree (running [] 1 (mmulWord trb)) (mmulWord trb) ∧
    (mmF (mmulWord trb).word.toNat).trb = decide (trb = 1) := by decide +kernel
def moutWord : Issue := wordOf [(3, 59)]
def moutState : State := running window2 1 moutWord
theorem test_premises_mout : issuable moutState moutWord 1 ∧ bits moutWord.word.toNat 63 59 = 3 ∧ bits moutWord.word.toNat 20 0 = 0 ∧
    bits moutWord.word.toNat 42 32 + (bits moutWord.word.toNat 31 21 + 1) ≤ 2048 ∧ (moutState.tile 0).mxUntil ≤ moutWord.cycle.val ∧
    matrixFree moutState moutWord ∧ portOpen (seen moutState moutWord) moutWord 1 (moutRows moutWord.word.toNat) ∧
    bits moutWord.word.toNat 47 43 + ceilDiv (bits moutWord.word.toNat 31 21 + 1) 32 ≤ 32 ∧
    moutState.inProgram 0 (bits moutWord.word.toNat 57 48) = true := by decide +kernel

/-- VectorLaneArithmetic: each lane operation, of registers 0; VectorWholeRegisterCommands; VectorLoadsAndStores. -/
theorem test_premises_lanes : ∀ op ∈ [LaneOp.add, .sub, .mul, .fma, .max, .min, .exp2, .rcp, .rsq, .log2, .sel],
    issuable (running [] 2 (wordOf [(op.opc, 58)])) (wordOf [(op.opc, 58)]) 2 ∧ bits (wordOf [(op.opc, 58)]).word.toNat 63 58 = op.opc ∧ vTy (wordOf [(op.opc, 58)]).word.toNat ≠ 3 ∧
    vectorFree (running [] 2 (wordOf [(op.opc, 58)])) (wordOf [(op.opc, 58)]) (op.sources (wordOf [(op.opc, 58)]).word.toNat ++ [vD (wordOf [(op.opc, 58)]).word.toNat]) := by
  decide +kernel
theorem test_premises_whole : ∀ opc ∈ [0x0F, 0x0D, 0x12, 0x10],
    issuable (running [] 2 (wordOf [(opc, 58)])) (wordOf [(opc, 58)]) 2 ∧ bits (wordOf [(opc, 58)]).word.toNat 63 58 = opc ∧ vTy (wordOf [(opc, 58)]).word.toNat ≠ 3 ∧
    vImm (wordOf [(opc, 58)]).word.toNat % 16 < 7 ∧ (∀ r ∈ cvtDst (wordOf [(opc, 58)]).word.toNat, r < 32) ∧
    vectorFree (running [] 2 (wordOf [(opc, 58)])) (wordOf [(opc, 58)]) [0] ∧
    vectorFree (running [] 2 (wordOf [(opc, 58)])) (wordOf [(opc, 58)]) (cvtSrc (wordOf [(opc, 58)]).word.toNat ++ cvtDst (wordOf [(opc, 58)]).word.toNat) := by decide +kernel
def vecState (opc : Nat) : State := running window2 2 (wordOf [(opc, 58)])
theorem test_premises_loadsAndStores : ∀ opc ∈ [0x01, 0x02, 0x11],
    issuable (vecState opc) (wordOf [(opc, 58)]) 2 ∧ bits (wordOf [(opc, 58)]).word.toNat 63 58 = opc ∧ vTy (wordOf [(opc, 58)]).word.toNat ≠ 3 ∧
    vectorFree (vecState opc) (wordOf [(opc, 58)]) ((upTo 8).map (· + vD (wordOf [(opc, 58)]).word.toNat)) ∧
    ((vecState opc).tile 0).portUse.has 0 = false ∧ portOpen (seen (vecState opc) (wordOf [(opc, 58)])) (wordOf [(opc, 58)]) 2 (vqntRows (wordOf [(opc, 58)]).word.toNat) ∧ (vecState opc).inProgram 0 (bits (vImm (wordOf [(opc, 58)]).word.toNat) 11 2) = true ∧
    vD (wordOf [(opc, 58)]).word.toNat % 8 = 0 ∧ vTy (wordOf [(opc, 58)]).word.toNat = 0 ∧ bits (wordOf [(opc, 58)]).word.toNat 5 0 = 0 ∧
    (vecState opc).inProgram 0 (bits (wordOf [(opc, 58)]).word.toNat 15 6) = true ∧
    (vecState opc).inProgram 0 (bits (wordOf [(opc, 58)]).word.toNat 15 6 + 1) = true := by decide +kernel

/-- FusedCommandsTakeTheirFixedTime: descriptors in row 0 of the Basin: DVER 1, PPP 1 position a page, LAST. -/
def attWord : Issue := wordOf [(0x20, 58)]
def attState : State := (running window2 2 attWord).setMem (Memory.writeLE (running window2 2 attWord).mem (basinRow 0 0) 32 (2 ^ 60 + (2 ^ 49 + 2 ^ 28) * 2 ^ 128))
theorem test_premises_attend : issuable attState attWord 2 ∧ bits attWord.word.toNat 63 58 = 0x20 ∧ bits attWord.word.toNat 43 0 = 0 ∧
    attState.fusedBusy attWord true = false ∧ (seen attState attWord).inProgram 0 (bits attWord.word.toNat 57 48) = true ∧
    (attDesc ((seen attState attWord).descNow 0 attWord.word.toNat)).bad = false ∧
    portOpen (seen attState attWord) attWord 2 ((seen attState attWord).attRows 0 attWord.word.toNat) := by decide +kernel
def smpWord : Issue := wordOf [(0x21, 58)]
def smpState : State := (running window2 2 smpWord).setMem (Memory.writeLE (running window2 2 smpWord).mem (basinRow 0 0) 32 (2 ^ 60))
theorem test_premises_sample : issuable smpState smpWord 2 ∧ bits smpWord.word.toNat 63 58 = 0x21 ∧ bits smpWord.word.toNat 43 0 = 0 ∧
    smpState.fusedBusy smpWord false = false ∧ (seen smpState smpWord).inProgram 0 (bits smpWord.word.toNat 57 48) = true ∧
    (smpDesc ((seen smpState smpWord).descNow 0 smpWord.word.toNat)).bad = false ∧
    portOpen (seen smpState smpWord) smpWord 2 ((seen smpState smpWord).smpRows 0 smpWord.word.toNat) := by decide +kernel
def cmrgWord : Issue := wordOf [(1, 59)]
def cmrgState : State := running [] 3 cmrgWord
theorem test_premises_cmrg : issuable cmrgState cmrgWord 3 ∧ bits cmrgWord.word.toNat 63 59 = 1 ∧ bits cmrgWord.word.toNat 3 0 = 0 ∧
    (cmrgF cmrgWord.word.toNat).ina ≠ 7 ∧ (cmrgF cmrgWord.word.toNat).inb ≠ 7 ∧ (cmrgF cmrgWord.word.toNat).loc ≠ 3 ∧
    (cmrgF cmrgWord.word.toNat).root = false ∧ (cmrgState.tile 0).cmrgUntil ≤ cmrgWord.cycle.val ∧
    portOpen (seen cmrgState cmrgWord) cmrgWord 3 ((seen cmrgState cmrgWord).cmrgRows 0 cmrgWord.word.toNat) := by decide +kernel

/-! ### Calibration, Basin and fabric -/

/-- Partition 0 stepping, in an attempt. -/
def stepping : State := owned [(CSD_PCFG_RUN, 0, 0, 1), (LD_PSTATE_STATE, 0, 0, psRunning)] (fun x => { x with phase := .attempt, prog := 0 })
/-- Partition 0 in a phase. -/
def inPhase (ph : Phase) : State := owned [(CSD_PCFG_RUN, 0, 0, 1), (LD_PSTATE_STATE, 0, 0, psRunning)] (fun x => { x with phase := ph, goStart := true })

/-- CalibrationPassCommands. -/
def clvWord : Issue := wordOf [(6, 59), (1, 51), (32, 35)]
def clvState : State := running [] 0 clvWord
theorem test_premises_clv : issuable clvState clvWord 0 ∧ opcOf clvWord.word.toNat = 6 ∧ maskArrays (amaskOf clvWord.word.toNat) ≠ [] ∧
    bits clvWord.word.toNat 34 0 = 0 ∧ bits clvWord.word.toNat 50 35 ≠ 0 ∧ (seen clvState clvWord).cloveOpen 0 = true ∧
    ∀ n ∈ maskArrays (amaskOf clvWord.word.toNat), cloveFree (seen clvState clvWord) clvWord n :=
  ⟨by decide +kernel, by decide +kernel, by decide +kernel, by decide +kernel, by decide +kernel, by decide +kernel, by unfold cloveFree; decide +kernel⟩
theorem test_premises_passRequest : tileOpen up .pf 0 = true ∧ bitAt 1 0 = true ∧ up.passAt 0 0 = none := by decide +kernel
def calibratedUp : State := { up with cal := { up.cal with epoch := 1 } }
theorem test_premises_temperature : calibratedUp.diodeStale 0 = false ∧ (calibratedUp.servesArr 0 0).isSome = true ∧ calibratedUp.cal.epoch ≠ 0 ∧
    calibratedUp.g CAL_CFG_TRIG 0 < distance 1023 (calibratedUp.tcalOf 0 0) := by decide +kernel
def probed : State := { up with cal := { up.cal with pass := up.cal.pass.put 0 { PassSt.clear with stage := 1 } } }
theorem test_premises_solve : probed.passAt 0 0 = some { PassSt.clear with stage := 1 } ∧ probed.servesArr 0 0 = some 0 := by decide +kernel

/-- TrimImagesAndMonitors: an empty image fails its first check; a tile of a running partition is busy. -/
theorem test_premises_trimImages : tileOpen up .pf 0 = true ∧ up.busyTile 0 = false ∧
    up.imageFail 0 (List.replicate imageSize 0#8) = 1 ∧ tileOpen stepping .pf 0 = true ∧ stepping.busyTile 0 = true := by decide +kernel
theorem test_premises_monitors :
    up.cal.monBusy.entries.any (fun e => e.1 / 2 ^ 17 == 0 && monScope 0 (e.1 % 2 ^ 17) == monScope 0 0) = false ∧
    ({ up with cal := { up.cal with monBusy := up.cal.monBusy.add 0 } } : State).cal.monBusy.mem 0 = true ∧ monOk 1 0 0 = true ∧ monOk 1 32768 0 = false := by
  decide +kernel

/-- SluiceSlotsIssueAndMiss, TagTimeoutsStopTheirPartition: a window-mode LDIN from the first inbound row, which is FULL, or EMPTY. -/
def slotEntry : Nat := 2 ^ 107 + 4 * 2 ^ 95 + 2 ^ 59 + 2 ^ 51 + 2 ^ 39
def sluices : List (Fld × Nat × Nat × Nat) :=
  [(BSN_PROG_PROG_PAGES, 0, 0, 2), (BSN_SLUICE_IN_EN, 0, 0, 1), (BSN_SLUICE_IN_FIRST, 0, 0, 0), (BSN_SLUICE_IN_LAST, 0, 0, 15),
   (BSN_SLUICE_OUT_EN, 0, 0, 1), (BSN_SLUICE_OUT_FIRST, 0, 0, 16), (BSN_SLUICE_OUT_LAST, 0, 0, 31)]
def slotState (ph : Phase) (tag : Nat) : State :=
  let s := owned (sluices ++ [(CSD_PCFG_RUN, 0, 0, 1), (SEQ_PROG_COUNT, 0, 0, 1)]) (fun x => { x with phase := ph, prog := 0 })
  tile0 ((s.setMem (Memory.writeLE s.mem (schedAddr 0 0) 16 slotEntry)).setTag 0 0 tag) (fun x => { x with waitStart := x.waitStart.put 0 0 })
theorem test_premises_slotIssue : (slotState .attempt 1).tileLive 0 = true ∧ ((slotState .attempt 1).sched 0 0).mode = 1 ∧ ((slotState .attempt 1).sched 0 0).off ≤ 0 ∧
    0 ≤ ((slotState .attempt 1).sched 0 0).off + ((slotState .attempt 1).sched 0 0).wait ∧ ((slotState .attempt 1).schedInForce 0).contains 0 = true ∧ ((slotState .attempt 1).tile 0).slotDone.mem 0 = false ∧
    (slotState .attempt 1).rowsReady 0 ((slotState .attempt 1).sched 0 0).unit ((slotState .attempt 1).sched 0 0).cmd = true ∧
    (unitMeaning ((slotState .attempt 1).sched 0 0).unit ((slotState .attempt 1).sched 0 0).cmd).isSome = true := by decide +kernel
theorem test_premises_slotMiss : (slotState .attempt 0).tileLive 0 = true ∧ ((slotState .attempt 0).sched 0 0).mode = 1 ∧ ((slotState .attempt 0).schedInForce 0).contains 0 = true ∧
    ((slotState .attempt 0).tile 0).slotDone.mem 0 = false ∧
    (slotState .attempt 0).rowsReady 0 ((slotState .attempt 0).sched 0 0).unit ((slotState .attempt 0).sched 0 0).cmd = false := by decide +kernel
def slotLate (ph : Phase) : State := { slotState ph 0 with ptp := 10 ^ 12 }
theorem test_premises_tagTimeout : ∀ ph ∈ [Phase.ready, .attempt], (slotLate ph).owner 0 = some 0 ∧
    ((slotLate ph).tile 0).waitStart.get? 0 = some 0 ∧
    (slotLate ph).unreadyRow 0 ((slotLate ph).sched 0 0).unit ((slotLate ph).sched 0 0).cmd = some 0 ∧ (slotLate ph).flag CSD_PCFG_RUN 0 0 = true ∧
    ((slotLate ph).tile 0).timedOut = false ∧ 0 + 1000 * (slotLate ph).reg BSN_SLUICE_CTRL_TIMEOUT_US 0 0 ≤ (slotLate ph).ptp ∧
    ((slotLate ph).part 0).phase = ph := by decide +kernel

/-- DeliveriesMoveRows: tile 0 sends its row 16 to its own inbound row 0. -/
def dlvData : List Byte := List.replicate 512 0#8
/-- CRC-32C of 512 zeros, worked out outside the model. -/
def dlvCrc : Nat := 0x30fcedc0
def dlvPacket (done : Bool) : Packet := ⟨0, 16, 0, 0, 1, 0, 0, dlvData, [], dlvCrc, done, none⟩
def dlvState (k : List Packet) : State := { (owned sluices id).setTag 0 16 1 with flight := k }
theorem test_premises_send : (dlvState []).owner 0 = some 0 ∧ (dlvState []).sliceUp 0 = true ∧ (dlvState []).outWin 0 16 = true ∧
    (dlvState []).tag 0 16 = 1 ∧ ∀ k ∈ (dlvState []).flight, ¬ (k.src = 0 ∧ k.row = 16) := by decide +kernel
theorem test_premises_arrive : (dlvState [dlvPacket false]).flight[0]? = some (dlvPacket false) ∧ (dlvPacket false).done = false ∧
    (dlvPacket false).kind = 1 ∧ (dlvPacket false).crc = dlvCrc ∧ (dlvPacket false).remote = false :=
  ⟨by simp [dlvState], by simp [dlvPacket], by simp [dlvPacket], by simp [dlvPacket], by decide +kernel⟩
theorem test_premises_arriveRow : (dlvState [dlvPacket false]).dlvAllowed (dlvPacket false) = true ∧ (dlvState [dlvPacket false]).tag 0 0 = 0 ∧
    (dlvState [dlvPacket false]).sliceUp 0 = true ∧ (dlvPacket false).data.length = 512 ∧ ((dlvState [dlvPacket false]).setTag 0 0 1).tag 0 0 ≠ 0 ∧
    ((dlvState [dlvPacket false]).setTag 0 0 1).dlvAllowed (dlvPacket false) = true := by decide +kernel
theorem test_premises_waits : let k := { dlvPacket false with since := some 0 }
    (dlvState [k]).flight[0]? = some k ∧ k.since = some 0 ∧ k.remote = false ∧
    0 + 1000 * ({ dlvState [k] with ptp := 10 ^ 12 } : State).reg BSN_SLUICE_CTRL_TIMEOUT_US 0 0 ≤ 10 ^ 12 :=
  ⟨by simp [dlvState], rfl, by decide +kernel, by decide +kernel⟩
theorem test_premises_ack : (dlvState [dlvPacket true]).flight[0]? = some (dlvPacket true) ∧ (dlvPacket true).done = true ∧
    (dlvState [dlvPacket true]).sliceUp 0 = true ∧ (dlvState [dlvPacket true]).outWin 0 16 = true ∧ (dlvState [dlvPacket true]).tag 0 16 = 1 :=
  ⟨by simp [dlvState], by simp [dlvPacket], by decide +kernel, by decide +kernel, by decide +kernel⟩

/-- BasinUpkeep. -/
def restoreState : State := tile0 ((owned sluices id).setTag 0 15 1) (fun x => { x with restoreDst := x.restoreDst.put 15 (64 * 4), weakWait := [5] })
theorem test_premises_upkeep : (restoreState.tile 0).restoreDst.get? 15 = some 256 ∧ restoreState.sliceUp 0 = true ∧ restoreState.restoreRow 0 15 = true ∧
    restoreState.tag 0 15 = 1 ∧ (restoreState.tile 0).weakWait.find? (fun r => restoreState.inProgram 0 r) = some 5 ∧
    (restoreState.part 0).phase = .stopped ∧ (restoreState.tile 0).sparedRows.length < 4 ∧
    (upWith [(BSN_SCRUB_CTRL_EN, 0, 0, 1)]).flag BSN_SCRUB_CTRL_EN 0 0 = true := by decide +kernel

/-- HostReachesBasinAndCistern: page 0 by the physical function, and the allotment of partition 0. -/
def hostState : State := owned [(LD_PSTATE_STATE, 0, 0, psReady), (PCI_CIST_SEL_EN, 0, 0, 1)] id
theorem test_premises_hostAccess : hostState.pathUp .pf = true ∧ hostState.negotiated .pf = true ∧ hostState.openSession .pf = true ∧
    hostState.basinOffset .pf 0 / 32768 < 917504 ∧ hostState.reaches .pf 0 = true ∧ hostState.sliceUp 0 = true ∧ hostState.basinOffset .pf 0 % 512 = 0 ∧
    hostState.pageOwner 0 = some 0 ∧ hostState.flag CSD_PCFG_RUN 0 0 = false ∧ hostState.cistTarget .pf 0 4 = some (cisternBase 0, some 0) ∧
    hostState.pstate 0 ≠ psRunning ∧ hostState.pstate 0 ≠ psStopping ∧ hostState.pstate 0 ≠ psWriting ∧ hostState.lostSpan 0 4 = false := by decide +kernel

/-- RoutersStationsAndCrossings: route entry 0 of tile 0 forwards port 1 to port 3 in cycle 0; a beat waits on port 1, a lane, a crossing. -/
def aBeat : LinkBeat := ⟨Beat.zero false, 0, 0, false⟩
def routeState : State :=
  let s := owned [(RTR_TBL_COUNT, 0, 0, 1)] (fun x => { x with phase := .attempt, prog := 0 })
  let s := s.setMem (Memory.writeLE s.mem (routeAddr 0 0) 8 (2 ^ 38 + 2 ^ 44))
  { s with links := s.links.put (1 * 2 ^ 17) aBeat }
theorem test_premises_routes : routeState.routeDue 0 0 = true ∧ routeState.noTransit 0 = false ∧ (routeState.tile 0).rtrBad.mem 0 = false ∧
    (routeState.route 0 0).inp ≠ 7 ∧ ((routeState.route 0 0).inp = 0 → (routeState.route 0 0).lsrc ≠ 3) ∧
    bitAt (routeState.route 0 0).outmask 3 = true ∧ 0 < (routeState.route 0 0).beats ∧
    routeState.links.get? ((0 * 8 + 1) * 2 ^ 17 + 0) = some aBeat ∧ routeState.owner 0 = some aBeat.part ∧ aBeat.crcBad = false ∧
    (routeState.forwarded 0 1 0 || routeState.consumed 0 1 0) = true := by decide +kernel
/-- A beat on lane 0 eastwards at a station, or added there: code 1 passes, code 2 drops to edge tile 0. -/
def laneState (site code : Nat) (added : Bool) : State :=
  { up with
    lanes := up.lanes.put ((if added then addOf (laneOf site 0 0 0) else laneOf site 0 0 0) * 2 ^ 17) aBeat
    laneOwner := (up.laneOwner.put (laneOf site 0 0 0) 0).put (laneOf (site - 1) 0 0 0) 0
    express := up.express.put (laneOf site 0 0 0 * 2 ^ 17) code }
/-- Stations 0 and 1 are in one region, 3 and 4 are not. -/
theorem test_premises_stations : (∀ added ∈ [false, true], ∀ site ∈ [0, 3], (laneState site 1 added).lanes.has (laneOf site 0 0 0 * 2 ^ 17) = !added ∧
    (laneState site 1 added).lanes.get? ((if added then addOf (laneOf site 0 0 0) else laneOf site 0 0 0) * 2 ^ 17) = some aBeat ∧
    (laneState site 1 added).power.transitFault.mem site = false ∧ (laneState site 1 added).laneOwner.get? (laneOf site 0 0 0) = some 0 ∧
    (laneState site 1 added).express.get (laneOf site 0 0 0 * 2 ^ 17) 0 = 1 ∧ nextStation site 0 0 = some (site + 1) ∧
    (laneState site 1 added).lanes.has (laneOf (site + 1) 0 0 0 * 2 ^ 17 + 3) = false ∧
    (laneState site 1 added).cross.get (2 ^ 20 + laneOf (site + 1) 0 0 0) [] = []) ∧
    regionOfSite 1 = regionOfSite 0 ∧ regionOfSite 4 ≠ regionOfSite 3 ∧
    (laneState 1 2 false).express.get (laneOf 1 0 0 0 * 2 ^ 17) 0 = 0 + 2 ∧ (laneState 1 2 false).inSegment (laneOf 1 0 0 0) = some 0 ∧
    (laneState 1 2 false).links.has (((edgeTile 1 0 0).1 * 8 + (edgeTile 1 0 0).2) * 2 ^ 17 + 3) = false := by decide +kernel
/-- Crossings at port 1 of tile 0 and of a lane into station 4. -/
def crossState : State :=
  { owned [] id with cross := (up.cross.put 1 [(0, aBeat)]).put (2 ^ 20 + laneOf 4 0 0 0) [(0, aBeat)], laneOwner := up.laneOwner.put (laneOf 3 0 0 0) 0 }
theorem test_premises_crossing : crossState.owner (1 / 8) = some 0 ∧
    ((crossState.cross.get 1 []).find? (fun e => e.1 == 0)).map (·.2) = some aBeat ∧
    crossState.links.has (1 * 2 ^ 17 + (0 + 8 + crossState.g CSD_PCFG_XSLACK 0)) = false ∧
    crossState.inSegment (laneOf 4 0 0 0) = some 0 ∧
    ((crossState.cross.get (2 ^ 20 + laneOf 4 0 0 0) []).find? (fun e => e.1 == 0)).map (·.2) = some aBeat ∧
    crossState.lanes.has (laneOf 4 0 0 0 * 2 ^ 17 + (0 + 8 + crossState.g CSD_PCFG_XSLACK 0)) = false := by decide +kernel

/-- ReportsAndDecisions, BoundariesAdvanceTheCounts, StartsHoldsAndRoots. -/
def offState : State := stepping.setReg (PWR_QSTATE 0) 0 0 3
theorem test_premises_reports : stepping.owner 0 = some 0 ∧ (stepping.part 0).phase = .attempt ∧ stepping.tileLive 0 = true ∧
    (stepping.tile 0).report.done = false ∧ (stepping.part 0).regRep.has 0 = false ∧ (stepping.partTiles 0).filter (fun t => regionOf t == 0) ≠ [] ∧
    (∀ t ∈ offState.partTiles 0, regionOf t = 0 → (offState.tile t).report.done = true ∨ offState.tileLive t = false) := by decide +kernel
theorem test_premises_decision : let s := stepping.updPart 0 (fun x => { x with regRep := x.regRep.put 0 ⟨0, 0, false, false, false, false, false, false, false, true⟩ })
    (s.part 0).phase = .attempt ∧ s.allReports 0 = true := by decide +kernel
theorem test_premises_decisions :
    let rep (rec split wide miss slip fault : Bool) : PartSt := { PartSt.clear with regRep := Map.empty.put 0 ⟨0, 0, rec, split, wide, miss, slip, fault, false, true⟩ }
    (rep false false false false false true).anyRep (·.fault) = true ∧ (rep false false false true false false).anyRep (·.miss) = true ∧
    (rep false false false false true false).anyRep (·.slip) = true ∧ (rep true false false false false false).tries < ProgHdr.default.replayLimit ∧
    (rep true false false false false false).anyRep (·.recK) = true ∧ (rep false true false false false false).anyRep (·.splitK) = true ∧
    (rep false false true false false false).anyRep (·.wideK) = true ∧ (rep false false false false false false).anyRep (·.recK) = false := by decide +kernel
theorem test_premises_boundaries : ∀ d ∈ [Decision.commit, .sameProgram, .replay true, .faulted],
    ((inPhase (.decided d)).part 0).phase = .decided d ∧ ((inPhase .recompute).part 0).phase = .recompute ∧
    ((inPhase .recompute).part 0).timedOut = false ∧ (inPhase (.decided d)).flag CSD_PCFG_RUN 0 0 = true := by decide +kernel
theorem test_premises_start : let s := inPhase .ready
    (s.part 0).phase = .ready ∧ (s.part 0).goStart = true ∧ s.flag CSD_PCFG_RUN 0 0 = true ∧ s.spareHold 0 = false ∧
    s.link.markWait.has 0 = false ∧ s.heldTiles 0 = [] ∧
    (s.part 0).goExpected = some 5 ∧ ((inPhase (.decided .commit)).part 0).goExpected.isSome = true ∧
    ({ s with treeMsgs := s.treeMsgs.put 15 1 } : State).treeMsgs.get? (0 * 16 + 15) = some 1 := by decide +kernel
theorem test_premises_hold : let s := (inPhase .ready).setReg CSD_PCFG_HOLD 0 0 1
    pageOpen s .pf false true = true ∧ s.flag CSD_PCFG_HOLD 0 0 = true ∧ (s.part 0).phase = .ready := by decide +kernel

/-! ### Serving and the loader -/

/-- Partition 0 READY or RUNNING with request 0 as given; the second also has the fields given. -/
def reqState (q : ReqSt) : State := (owned [(LD_PSTATE_STATE, 0, 0, psReady)] id).setReq 0 q
def reqStateWith (l : List (Fld × Nat × Nat × Nat)) (f : PartSt → PartSt) (q : ReqSt) : State := (owned l f).setReq 0 q
def inState (st : Nat) : ReqSt := { ReqSt.clear with state := st }

/-- HostWritesOfRequestFields, HostWritesOfTheStateWord: every arm of the conditions is met by some state. -/
theorem test_premises_fieldWrites : ∀ st ∈ [rsFree, rsCompleted, rsReplaced, rsPaused, rsDecode, rsSubmitted],
    reqOpen (reqState (inState st)) .pf 0 = true ∧ (reqState (inState st)).ownedEntry 0 = false := by decide +kernel
theorem test_premises_fieldCases :
    ((reqState (inState rsFree)).req 0).state = rsFree ∧ ((reqState (inState rsReplaced)).req 0).terminal = true ∧
    ((reqState (inState rsPaused)).req 0).state = rsPaused ∧
    ¬ (((reqState (inState rsDecode)).req 0).state = rsFree ∨ ((reqState (inState rsDecode)).req 0).terminal = true ∨
      ((reqState (inState rsDecode)).req 0).state = rsPaused) := by decide +kernel
theorem test_premises_stateWord :
    (((reqState (inState rsFree)).req 0).state = rsFree ∧ 1 = (((reqState (inState rsFree)).req 0).gen + 1) % 256) ∧
    (((reqState (inState rsFailed)).req 0).terminal = true ∧ 0 = ((reqState (inState rsFailed)).req 0).gen) ∧
    ((reqState (inState rsDecode)).req 0).live = true ∧ ((reqState (inState rsDecode)).req 0).state = rsDecode ∧
    ((reqState (inState rsPaused)).req 0).state = rsPaused ∧ ((reqState (inState rsPaused)).req 0).hcmd = 0 ∧
    ((reqState (inState rsFree)).req 0).live = false := by decide +kernel

/-- StewardHandlesPromptsAndEnds. -/
def marked : State := reqState { ReqSt.clear with marked := true }
def submitted : State := reqStateWith [(LD_PSTATE_STATE, 0, 0, psRunning)] id
  { inState rsSubmitted with words := [(9, 4), (12, 2)].foldl (fun m e => m.put e.1 e.2) Map.empty }
def reading : State :=
  let s := reqState { inState rsSubmitted with promptPend := true }
  { s with link := { s.link with busMaster := s.link.busMaster.add 1 } }
def ending (st : Nat) : State := { reqState { inState st with words := (Map.empty.put 1 64).put 2 1 } with ptp := 10 ^ 12 }
theorem test_premises_scan : marked.reqOwner 0 = some 0 ∧ (marked.req 0).marked = true ∧ (marked.req 0).slot = none ∧ marked.runs 0 = false := by decide +kernel
theorem test_premises_reserve : submitted.reqOwner 0 = some 0 ∧ (submitted.req 0).state = rsSubmitted ∧ (submitted.req 0).trOff = none ∧
    submitted.mayAdmit 0 = true ∧ (submitted.req 0).fieldsOk 1 = true ∧ (submitted.req 0).promptLen + (submitted.req 0).maxTok ≤ (submitted.part 0).capacity ∧
    submitted.findTwo 0 (submitted.reserveLen 0 (submitted.req 0)) = some (0, 4096) := by decide +kernel
theorem test_premises_prompt : reading.reqOwner 0 = some 0 ∧ (reading.req 0).promptPend = true ∧ (reading.req 0).promptLen = 0 ∧
    reading.fnMayMaster 1 = true := by decide +kernel
theorem test_premises_ttl : (ending rsPaused).reqOwner 0 = some 0 ∧ ((ending rsPaused).req 0).twin = false ∧ (ending rsPaused).twinOf 0 ≠ some 0 ∧ (ending rsPaused).atBoundary 0 = true ∧
    (ending rsPaused).deferring 0 = false ∧ ((ending rsPaused).req 0).state = rsPaused ∧
    ((ending rsPaused).req 0).pausedAt + 10 ^ 9 * ((ending rsPaused).req 0).pttl ≤ (ending rsPaused).ptp ∧ ((ending rsDecode).req 0).live = true ∧
    ((ending rsDecode).req 0).late (ending rsDecode).ptp = true := by decide +kernel

/-- JournalRingAndModeration. -/
def aRec : OutRec := ⟨1, 0, 0, 0, 0, 0, rsDecode, 0, false, false, false, false, 1, [5]⟩
def journalState : State :=
  let s := owned [(STW_RING_CFG_EN, 0, 0, 1), (STW_RING_CFG_LOG2N, 0, 0, 8), (STW_MOD_TIME_US, 0, 0, 1)] (fun x => { x with
    journal := [⟨0, [aRec], [(0, [])], none⟩], queue := [aRec], sinceSig := 1, firstUnsig := some 0 })
  { s with ptp := 10 ^ 6, link := { s.link with busMaster := s.link.busMaster.add 1 } }
theorem test_premises_journal : (journalState.part 0).journal = ⟨0, [aRec], [(0, [])], none⟩ :: [] ∧ (journalState.part 0).queue = [aRec] ∧
    journalState.ringRoom 0 (journalState.recSlots 0 aRec) = true ∧ journalState.smifort 0 = false ∧ (journalState.part 0).sinceSig ≠ 0 ∧
    (journalState.part 0).firstUnsig = some 0 ∧ journalState.g STW_MOD_TIME_US 0 ≠ 0 ∧ 0 + 1000 * journalState.g STW_MOD_TIME_US 0 ≤ journalState.ptp := by
  decide +kernel
theorem test_premises_ringEnable : pageOpen up .pf (ownSet .pf 0) true = true ∧ up.flag STW_RING_CFG_EN 0 0 = false ∧ up.runs 0 = false := by decide +kernel

/-- ParcelsRotationAndReturn. -/
def parcelState (st : Nat) : State := reqState { inState st with parcelWait := true }
def rotateState : State :=
  let s := owned [(LD_PSTATE_STATE, 0, 0, psRunning), (STW_PCFG_ROTATE_MS, 0, 0, 1)] id
  { (s.setReq 0 (inState rsDecode)).setReq 1 (inState rsParked) with ptp := 10 ^ 9 }
def returnState : State := reqStateWith [(LD_PSTATE_STATE, 0, 0, psRunning)] id (inState rsParked)
def resumeState : State :=
  reqStateWith [(LD_PSTATE_STATE, 0, 0, psRunning)] id { inState rsPaused with resumePend := true }
theorem test_premises_parcelWrite : (parcelState rsPaused).reqOwner 0 = some 0 ∧ ((parcelState rsPaused).req 0).parcelWait = true ∧
    ((parcelState rsPaused).req 0).state = rsPaused ∧ (parcelState rsPaused).parcelPlace 0 0 = some (false, 0) ∧
    ((parcelState rsParked).req 0).state = rsParked ∧ (parcelState rsParked).parcelPlace 0 0 = some (false, 0) := by decide +kernel
theorem test_premises_rotate : rotateState.reqOwner 0 = some 0 ∧ (rotateState.req 0).state = rsDecode ∧ (rotateState.req 0).twin = false ∧
    rotateState.twinOf 0 ≠ some 0 ∧ rotateState.g STW_PCFG_ROTATE_MS 0 ≠ 0 ∧
    (rotateState.req 0).decodeAt + 1000000 * rotateState.g STW_PCFG_ROTATE_MS 0 ≤ rotateState.ptp ∧ rotateState.smifort 0 = false ∧
    (rotateState.partReqs 0).any (fun v => (rotateState.req v).state == rsParked && (rotateState.req v).prio == (rotateState.req 0).prio) = true := by
  decide +kernel
theorem test_premises_resume : returnState.reqOwner 0 = some 0 ∧ returnState.mayAdmit 0 = true ∧ returnState.atBoundary 0 = true ∧
    (returnState.inOrder (returnState.partReqs 0)).find? (fun v => returnState.canReturn 0 v) = some 0 ∧ (returnState.req 0).state ≠ rsPaused ∧
    (resumeState.inOrder (resumeState.partReqs 0)).find? (fun v => resumeState.canReturn 0 v) = some 0 ∧ (resumeState.req 0).promptLen = 0 := by
  decide +kernel
theorem test_premises_parcelReturn : let s := reqState { inState rsAdmitted with returning := true }
    (s.req 0).returning = true ∧ (s.req 0).restoreLeft = 0 := by decide +kernel

/-- StewardRolesPairsAndSmifort: partitions 0 and 1 whose packages are a target and a draft. -/
def aPkg : PkgRef := ⟨0, 4096, 0, false⟩
def pairState : State :=
  let s := owned [(LIC_STATUS_FEATURES, 0, 0, 15)] (fun x => { x with resident := some aPkg })
  s.setPart 1 { PartSt.clear with quads := Map.empty.put 1 (), reqFirst := 16, reqCount := 16, cistGb := 1, resident := some aPkg
                                  hdr := { ProgHdr.default with mflags := 1 } }
def smiState : State := reqStateWith [(STW_PCFG_SMIFORT, 0, 0, 1), (SMI_SQ_CFG_EN, 0, 0, 1)]
  (fun x => { x with sqProd := 1, tags := x.tags.put 0 7 }) (inState rsDecode)
def aS2 : S2Entry := ⟨0, 9, 0, 1, 1, 0, 0, 0, 0, 0⟩
theorem test_premises_takeover : (upWith [(STW_CTRL_STANDBY_OK, 0, 0, 1)]).flag STW_CTRL_STANDBY_OK 0 0 = true ∧
    (upWith [(STW_CTRL_STANDBY_OK, 0, 0, 1)]).g RST_FW_UPD 0 ≠ 2 ∧ (upWith [(STW_CTRL_STANDBY_OK, 0, 0, 0)]).flag STW_CTRL_STANDBY_OK 0 0 = false := by
  decide +kernel
theorem test_premises_pairing : pageOpen pairState .pf false true = true ∧ pairState.flag STW_PCFG_PAIR_EN 0 0 = false ∧ pairState.runs 0 = false ∧
    pairState.runs 1 = false ∧ pairState.feature 3 = true ∧ pairState.smifort 0 = false ∧ pairState.smifort 1 = false ∧ pairState.pairFlags 0 1 = true ∧
    (pairState.part 0).reqCount ≤ 4096 ∧ pairState.paired 0 = false := by decide +kernel
theorem test_premises_smi : smiState.smiOn 0 = true ∧ smiState.smiEntry 0 = true ∧ aS2.flags.val < 4 ∧ smiState.smiFree 0 = some 1 ∧
    smiState.byTag 0 7 = some 0 := by decide +kernel

/-- The steward serves in each of these states. -/
theorem test_premises_stewardUp : ∀ s ∈ [marked, submitted, reading, ending rsPaused, ending rsDecode, journalState, parcelState rsPaused, rotateState,
    returnState, resumeState, smiState, up], s.stewardUp = true := by decide +kernel

/-! Loader: slot 0 with a descriptor, and partition 0 in a state. -/

/-- Descriptor of an opcode for partition 0, with words beside the first. -/
def desc (opc : Nat) (l : List (Nat × Nat)) : List (Fld × Nat × Nat × Nat) :=
  (LD_CMD_DESC 0, 0, 0, opc + 2 ^ 16) :: l.map (fun e => (LD_CMD_DESC e.1, 0, 0, e.2))
def ldWith (opc st : Nat) (l : List (Nat × Nat)) (m : List (Fld × Nat × Nat × Nat)) (f : PartSt → PartSt) : State :=
  owned (desc opc l ++ (LD_PSTATE_STATE, 0, 0, st) :: m) f
/-- The same with the command running. -/
def ldRun (opc st : Nat) (l : List (Nat × Nat)) : State := ldWith opc st l [(LD_CMD_STS_STATE, 0, 0, ldRunning)] (fun x => { x with filling := true })
def attrWords : List (Nat × Nat) := [(4, 1), (11, 0), (12, 8), (13, 1), (14, 0)]
def accepted (s : State) : Prop := pageOpen s .pf false true = true ∧ s.slotRunning 0 = false ∧ s.goBad 0 = false

/-- PartitionsAreMadeResizedAndRemoved. -/
theorem test_premises_create : accepted (ldWith opCreate psNone attrWords [] id) ∧ (ldWith opCreate psNone attrWords [] id).cmdOpc 0 = opCreate ∧
    (ldWith opCreate psNone attrWords [] id).attrsBad 0 ((ldWith opCreate psNone attrWords [] id).attrs 0) = false ∧
    (ldWith opCreate psNone attrWords [] id).lacks 0 ((ldWith opCreate psNone attrWords [] id).attrs 0) = 0 := by unfold accepted; decide +kernel
theorem test_premises_resize : accepted (ldWith opResize psReady attrWords [] id) ∧ (ldWith opResize psReady attrWords [] id).cmdOpc 0 = opResize ∧
    (ldWith opResize psReady attrWords [] id).attrsBad 0 ((ldWith opResize psReady attrWords [] id).attrs 0) = false ∧
    (ldWith opResize psReady attrWords [] id).lacks 0 ((ldWith opResize psReady attrWords [] id).attrs 0) = 0 ∧
    (ldWith opResize psReady attrWords [] id).cistUsed 0 ≤ ((ldWith opResize psReady attrWords [] id).attrs 0).gb * 10 ^ 9 := by
  unfold accepted; decide +kernel
theorem test_premises_destroy : accepted (ldWith opDestroy psReady [] [] id) ∧ (ldWith opDestroy psReady [] [] id).cmdOpc 0 = opDestroy := by
  unfold accepted; decide +kernel
theorem test_premises_fills : (ldRun opCreate psNone attrWords).slotOf 0 opCreate = some 0 ∧ (ldRun opResize psReady attrWords).slotOf 0 opResize = some 0 ∧
    (ldRun opDestroy psReady []).slotOf 0 opDestroy = some 0 := by decide +kernel

/-- PackagesAreStagedAndVerified. -/
theorem test_premises_packageCommands :
    accepted (ldWith opDiscard psReady [] [] id) ∧ (ldWith opDiscard psReady [] [] id).cmdOpc 0 = opDiscard ∧
    accepted (ldWith opStage psReady [(4, 1), (6, 8192)] [] id) ∧ (ldWith opStage psReady [(4, 1), (6, 8192)] [] id).cmdOpc 0 = opStage ∧
    bits ((ldWith opStage psReady [(4, 1), (6, 8192)] [] id).dword 0 4) 7 0 = 1 ∧
    bitAt ((ldWith opStage psReady [(4, 1), (6, 8192)] [] id).cmdFlags 0) 0 = false ∧
    ((ldWith opStage psReady [(4, 1), (6, 8192)] [] id).updPart 0 (fun x => { x with pendPkg := none })).findSpace 0
      ((ldWith opStage psReady [(4, 1), (6, 8192)] [] id).dword 0 6 + (ldWith opStage psReady [(4, 1), (6, 8192)] [] id).dword 0 7 * 2 ^ 32) = some 0 ∧
    accepted (ldWith opRevoke psReady [] [] id) ∧ (ldWith opRevoke psReady [] [] id).cmdOpc 0 = opRevoke := by unfold accepted; decide +kernel
/-- The base point of the curve as a key. -/
def keyWords : List (Nat × Nat) := (upTo 12).flatMap (fun i =>
  let w (n : Nat) : Nat := numOf (((beBytes 48 n).drop (4 * i)).take 4)
  [(4 + i, w p384Gx), (16 + i, w p384Gy)])
theorem test_premises_enroll : accepted (ldWith opEnroll psReady keyWords [] id) ∧ (ldWith opEnroll psReady keyWords [] id).cmdOpc 0 = opEnroll ∧
    onCurve ((ldWith opEnroll psReady keyWords [] id).keyNum 0 4) ((ldWith opEnroll psReady keyWords [] id).keyNum 0 16) = true ∧
    (ldWith opEnroll psReady keyWords [] id).repair.pubKeys.has 0 = false := by unfold accepted; decide +kernel
/-- A stage whose lead has been accepted, of two shards of which the second has one byte, and one that waits for its lead. -/
def aStage : StageRun :=
  { slot := 0, inplace := false, src := 1, servers := [], size := 4097, addr := 0, keyId := 0, area := 0, leadOk := true, leadSize := 4096
    shardLog2 := 24, shards := 2, signer := 0, tries := Map.empty, used := Map.empty, verified := Map.empty.put 0 (), next := 2, crcs := Map.empty, lost := false }
def staged (g : StageRun) : State := owned [(LD_PSTATE_STATE, 0, 0, psReady)] (fun x => { x with stage := some g })
theorem test_premises_fetchError : ((staged aStage).part 0).stage = some aStage ∧ aStage.verified.mem 1 = false ∧ 1 < aStage.next ∧ 1 < aStage.shards ∧ aStage.src = 1 ∧
    aStage.tries.get 1 0 < 3 ∧ 3 ≤ ({ aStage with tries := Map.empty.put 1 3 } : StageRun).tries.get 1 0 := by decide +kernel

/-- The lead shard of a package of 4,097 bytes, as a number whose lowest byte is byte 0: header, section table at 128, shard hash manifest at 192,
signature at 272 (Tables 7-2, 7-3, 8-7, 8-8). The SHA-384 values (of the second shard, the byte 42, and of the key) and the signature, made with the
private key 1 and the nonce 2, were worked out outside the model. -/
def keyIdLE : Nat := 0xeb82b571b14d9da1
def hash42 : Nat := 0x8a5e6d9081b08ada24918c6a8697952bc7c7c92f74a3341eb4a31be93dd425c8781f88c2f2fe40d5f81018ba81a54b48
def sigR : Nat := 0x8d999057ba3d2d969260045c55b97f089025959a6f434d651d207d19fb96e9e4fe0e86ebe0e64f85b96a9c75295df61
def sigS : Nat := 0x8d6a76fc9ed36d65c3d2119b52e0b53d6e1f507cda5145008c49acba88934963fe37ce5913d4a5fd83d08c83e23ecc2b
def leadNum : Nat :=
  [(0x0C, 2), (0x10, 0x80), (0x18, 4097), (128, 0x13), (136, 192), (144, 80), (160, 0x14), (168, 272), (176, 128), (192, 1), (194, 1), (196, 2),
   (200, 4096), (208, 24), (224, numOf (beBytes 48 hash42)), (272, 1), (280, keyIdLE), (288, numOf (beBytes 48 sigR)),
   (336, numOf (beBytes 48 sigS))].foldl (fun n e => n + e.2 * 2 ^ (8 * e.1)) 0
/-- Its bytes that are not all zero, and the lead shard. -/
def leadHead : List Byte := bytesOf 400 leadNum
def leadData : List Byte := leadHead ++ List.replicate 3696 0#8
def leadState : State :=
  let s := staged { aStage with leadOk := false }
  { s with repair := { s.repair with pubKeys := Map.empty.put 0 (p384Gx, p384Gy) } }
def leadIn : State := leadState.setMem (Memory.writeBytes leadState.mem (cisternBase 0 + 0) leadHead)
/-- Zeros written where nothing is listed change nothing, so that the lead shard leaves the memory of `leadIn`. -/
theorem delList_absent {α : Type} (k : Nat) (l : List (Nat × α)) (h : ∀ e ∈ l, e.1 < k) : delList k l = l := by
  induction l with
  | nil => rfl
  | cons e l ih =>
    rw [delList, if_neg (Nat.ne_of_lt (h e (List.mem_cons_self ..))), ih (fun x hx => h x (List.mem_cons_of_mem _ hx))]
theorem writeBytes_zeros (m : Memory) (n : Nat) : ∀ a, (∀ e ∈ m.entries, e.1 < a) → Memory.writeBytes m a (List.replicate n 0#8) = m := by
  induction n with
  | zero => intro a _; rfl
  | succ n ih =>
    intro a h
    rw [List.replicate_succ, Memory.writeBytes, show Memory.write m a 0#8 = m from congrArg Map.mk (delList_absent a m.entries h)]
    exact ih (a + 1) (fun e he => Nat.lt_succ_of_lt (h e he))
theorem leadIn_eq : leadState.setMem (Memory.writeBytes leadState.mem (cisternBase 0 + 0) leadData) = leadIn := by
  rw [leadData, Memory.writeBytes_append, writeBytes_zeros]
  · rfl
  · decide +kernel

/-- PackagesAreInstalledAndPartitionsRun. The premise that a package passes every check of the loader has no witness here: the shortest package that
does writes every tile of a quadrant. -/
def installable : State := ldWith opInstall psReady [] [(LD_PSTATE_PEND, 0, 0, 2)] (fun x => { x with pendPkg := some aPkg })
theorem test_premises_install : accepted installable ∧ installable.cmdOpc 0 = opInstall ∧ (installable.part 0).pendPkg = some aPkg ∧
    installable.g LD_PSTATE_PEND 0 = 2 ∧ installable.paired 0 = false ∧ aPkg.size + installable.cisternMin 0 aPkg.area ≤ installable.cistBytes 0 := by
  unfold accepted; decide +kernel
def startable : State :=
  let s := ldWith opStart psReady [] [] (fun x => { x with resident := some { aPkg with keyId := keyIdLE } })
  { s with repair := { s.repair with pubKeys := Map.empty.put 0 (p384Gx, p384Gy) } }
theorem test_premises_startCommand : accepted startable ∧ startable.cmdOpc 0 = opStart ∧ (startable.part 0).resident = some { aPkg with keyId := keyIdLE } ∧
    startable.pubKeyNamed keyIdLE = some (p384Gx, p384Gy) ∧ startable.pairMate 0 = none ∧ startable.startFenced 0 = false ∧ startable.quadsUp 0 = true ∧
    (startable.part 0).lostQuads.entries = [] := by unfold accepted; decide +kernel
theorem test_premises_stop : accepted (ldWith opStop psRunning [] [] id) ∧ (ldWith opStop psRunning [] [] id).cmdOpc 0 = opStop ∧
    accepted (ldWith opStop psRunning [] [] (fun x => { x with phase := .ready })) ∧
    ((ldWith opStop psRunning [] [] (fun x => { x with phase := .ready })).part 0).phase = .ready ∧
    ((ldWith opStop psRunning [] [] (fun x => { x with phase := .ready })).part 0).goStart = false := by unfold accepted; decide +kernel
def anInstall : InstallRun := ⟨0, true, false, false, 0, some 0, false⟩
/-- A partition being written whose pending copy is lost: the write is refused. -/
def writing : State := ldWith opInstall psWriting [] [(LD_CMD_STS_STATE, 0, 0, ldRunning)]
  (fun x => { x with pendPkg := some { aPkg with lost := true }, install := some anInstall })
def noInfo : LoadInfo := ⟨[], [], [], [], 0, 0⟩
theorem test_premises_installWrite : writing.pstate 0 = psWriting ∧ writing.quadsUp 0 = true ∧ (writing.part 0).install = some anInstall ∧
    (writing.part 0).pendPkg = some { aPkg with lost := true } ∧ writing.slotOf 0 opInstall = some 0 ∧
    (writing.writeBanks 0 []).failedArrays 0 = [] ∧
    (writing.writeBanks 0 []).placePackage 0 { aPkg with lost := true } noInfo none = .inr ⟨0x9028, none, 3, 0, 0⟩ ∧
    unreadBad (writing.resSects 0) none = none :=
  ⟨by decide +kernel, by decide +kernel, by decide +kernel, by decide +kernel, by decide +kernel, by decide +kernel, rfl, rfl⟩
theorem test_premises_drain : let s := stepping.updPart 0 (fun x => { x with install := some anInstall, phase := .decided .commit })
    (s.part 0).install = some anInstall ∧ s.replacing 0 = true ∧ (s.part 0).phase = .decided .commit := by decide +kernel

/-- ServersAndStreams: a plan entry of phase 0 for tile 0 of a package without a stream section. -/
theorem test_premises_servers : pageOpen up .pf false true = true ∧ up.serverUsed 3 = false ∧
    (upWith [(LD_SRV0_VALID, 0, 3, 1)]).flag LD_SRV0_VALID 0 3 = true ∧ up.flag LD_SRV0_VALID 0 3 = false := by decide +kernel
def streaming : State := owned [(CSD_PCFG_RUN, 0, 0, 1)] (fun x => { x with resident := some aPkg, plan := [0] })
theorem test_premises_stream : (streaming.part 0).resident = some aPkg ∧ (streaming.part 0).plan[0]? = some 0 ∧ streaming.flag CSD_PCFG_RUN 0 0 = true ∧
    ((streaming.part 0).commitIdx + (streaming.part 0).planLead) % (streaming.part 0).planPeriod = (streamE 0).phase ∧
    tileOfAddr (streamE 0).tile = some 0 := by decide +kernel

/-! ### Bring-up, resets, repair, firmware and certificates -/

/-- A bring-up that finds nothing wrong, with the 54 V input in range. -/
def aBringUp : BringUp := { (default : BringUp) with recordOk := true, identityOk := true, repairsIn := true, mv := 54000 }
def withBoot (st halt : Nat) : State := upWith [(RST_STATE_STATE, 0, 0, st), (RST_STATE_HALTR, 0, 0, halt)]
theorem test_premises_bringUp : aBringUp.fwBoth = [] ∧ aBringUp.identityOk = true ∧ aBringUp.repairsIn = true ∧ aBringUp.badStacks = [] ∧
    aBringUp.rims = [] ∧ aBringUp.ports = [] ∧ mainReady aBringUp.mv.val = true ∧ mainReady ({ aBringUp with mv := 30000 } : BringUp).mv.val = false ∧
    State.reset.power.auxOn = false ∧ pageOpen up .pf false true = true ∧ up.power.auxOn = true ∧ up.power.mainOk = true ∧
    ({ up with power := { up.power with waitMain := true } } : State).power.waitMain = true ∧
    0 ∈ ({ aBringUp with fwBoth := [0], fwFirst := [0] } : BringUp).fwBoth ∧ aBringUp.wellFormed = true := by decide +kernel
theorem test_premises_acceptTopology : pageOpen (withBoot 5 3) .pf false true = true ∧ (withBoot 5 3).boot = 5 ∧ (withBoot 5 3).g RST_STATE_HALTR 0 = 3 ∧
    up.boot ≠ 5 ∧ up.flag RST_CFG_PERST_MODULE 0 0 = false := by decide +kernel

/-- ResetsRunInTurn. -/
def resetting (r : ResetRun) (w : List ResetRun) : State := { up with repair := { up.repair with running := some r, waiting := w } }
theorem test_premises_resets : pageOpen up .pf false true = true ∧ tileOfAddr 0 = some 0 ∧ bits 0 19 12 < 56 ∧
    (owned [(LD_PSTATE_STATE, 0, 0, psReady)] id).partExists 0 = true ∧ up.repair.running = none ∧ (resetting ⟨scTile, 5⟩ []).takingOver = false ∧
    (owned [(CSD_PCFG_RUN, 0, 0, 1)] (fun x => { x with innerHold := true })).takingOver = true ∧ (resetting ⟨scTile, 5⟩ []).repair.running = some ⟨scTile, 5⟩ ∧ (resetting ⟨scTile, 5⟩ []).contains ⟨scTile, 0⟩ ⟨scTile, 5⟩ = false ∧
    (resetting ⟨scTile, 5⟩ []).repair.waiting = [] ∧ (resetting ⟨scTile, 5⟩ []).owner 5 = none ∧
    (resetting ⟨scTile, 5⟩ [⟨scTile, 0⟩]).repair.waiting = ⟨scTile, 0⟩ :: [] := by decide +kernel
theorem test_premises_flr : up.link.pcieUp = true ∧ up.link.vfEnable = true ∧
    (owned [(LD_PSTATE_STATE, 0, 0, psReady)] id).partExists 0 = true ∧ (owned [] id).repair.running = none := by decide +kernel

/-- RepairsInService. -/
def failedBank (f : PartSt → PartSt) : State := owned [(bstateF 0, 0, 2, bsFailed)] f
theorem test_premises_spareArray : (failedBank id).arrayNeeds 0 2 = true ∧ (failedBank id).spareUsed 0 = false ∧ (failedBank id).copyLost 0 = false ∧
    (failedBank id).owner 0 = some 0 ∧ ((failedBank id).part 0).phase = .stopped ∧
    ((failedBank (fun x => { x with phase := .ready, attempt := 0 })).part 0).phase = .ready ∧
    ((failedBank (fun x => { x with phase := .ready, attempt := 1 })).part 0).attempt ≠ 0 ∧
    ((failedBank (fun x => { x with phase := .attempt })).part 0).phase = .attempt ∧
    (failedBank (fun x => { x with phase := .attempt })).arrayNeeds 0 2 = true := by decide +kernel
theorem test_premises_shift : pageOpen up .pf false true = true ∧ tileOfAddr 0 = some 0 ∧ up.shiftable 0 = true ∧ up.copyLost 0 = false ∧
    (up.setReg SEQ_STATUS_FENCED 32 0 1).shiftable 0 = false ∧ up.flag SEQ_STATUS_FENCED 0 0 = false ∧ up.failCond 0 (1 + 1) = true ∧
    (upWith [(RST_CFG_AUTO_REPAIR, 0, 0, 0)]).flag RST_CFG_AUTO_REPAIR 0 0 = false ∧
    (upWith [(RST_CFG_AUTO_REPAIR, 0, 0, 1)]).flag RST_CFG_AUTO_REPAIR 0 0 = true := by decide +kernel
theorem test_premises_ptest : (owned [(LD_PSTATE_STATE, 0, 0, psReady)] id).pstate 0 = psReady ∧ stepping.pstate 0 ≠ psEmpty ∧ stepping.pstate 0 ≠ psReady := by
  decide +kernel
theorem test_premises_stacks : up.repair.failedStacks.mem 47 = false ∧ up.repair.takenStacks.mem 47 = false ∧ up.repair.failedRims.mem 7 = false ∧
    up.repair.takenRims.mem 7 = false ∧ up.spareTaken 55 31 33 = false ∧ up.spareTaken 55 31 32 = false := by decide +kernel

/-- FirmwareAndCertificates. -/
def updating (st : Nat) : State := { upWith [(RST_FW_UPD, 0, 0, st)] with ptp := 10 ^ 15 }
theorem test_premises_firmware : up.power.auxOn = true ∧ up.upd ≠ updLoading ∧ up.upd ≠ updConfirm ∧ (updating updLoading).upd = updLoading ∧
    (updating updLoading).repair.fwSince + 10 ^ 10 ≤ (updating updLoading).ptp ∧ (updating updConfirm).upd = updConfirm ∧
    (updating updConfirm).repair.fwSince + 10 ^ 9 * (updating updConfirm).g RST_FW_CONFIRM_S 0 ≤ (updating updConfirm).ptp := by decide +kernel

/-- A certificate for this device in the buffer: version 1, serial 7. -/
def certState : State := upWith ([(LIC_CERT, 0, 0, 1), (LIC_CERT, 0, 1, 7)] ++ (upTo 4).map (fun i => (LIC_CERT, 0, 2 + i, Config.deviceIdWord i)))
theorem test_premises_certHere : certHere certState.certBuffer = true := by
  have h0 : certWord certState.certBuffer 2 = Config.deviceIdWord 0 % 2 ^ 32 % 2 ^ 32 := rfl
  have h1 : certWord certState.certBuffer 3 = Config.deviceIdWord 1 % 2 ^ 32 % 2 ^ 32 := rfl
  have h2 : certWord certState.certBuffer 4 = Config.deviceIdWord 2 % 2 ^ 32 % 2 ^ 32 := rfl
  have h3 : certWord certState.certBuffer 5 = Config.deviceIdWord 3 % 2 ^ 32 % 2 ^ 32 := rfl
  have e : upTo 4 = [0, 1, 2, 3] := by decide
  simp [certHere, e, h0, h1, h2, h3]
theorem test_premises_certificates : pageOpen certState .pf false true = true ∧ certVersion certState.certBuffer = 1 ∧
    certState.repair.certs.entries.any (fun e => certSerial e.2 == certSerial certState.certBuffer) = false ∧ certState.freeCert = some 0 ∧
    certVersion up.certBuffer ≠ 1 ∧ ∀ f ∈ [1, 2, 3, 4], up.featureUsed f = false := by decide +kernel

/-! ### Power and heat -/

theorem test_premises_supplies : up.power.auxOn = true ∧ (44999 < 45000 ∨ 62000 < 44999) ∧ up.power.convOn = true ∧
    bitAt (up.g PWR_ICONV_FAILED 0) 7 = false ∧ up.power.phases.mem (55 * 32 + 25) = false ∧ up.power.transitFault.mem 55 = false := by decide +kernel
/-- Five converters have failed; with the next, at most three work. Ten phases of site 0 have failed. -/
theorem test_premises_dark :
    ((upWith [(PWR_ICONV_FAILED, 0, 0, 31)]).setG PWR_ICONV_FAILED 0 (setBit ((upWith [(PWR_ICONV_FAILED, 0, 0, 31)]).g PWR_ICONV_FAILED 0) 7 true)).convs ≤ 3 ∧
    11 ≤ ({ up with power := { up.power with phases := ((upTo 10).foldl (fun (m : NatSet) k => m.add k) Map.empty).add (0 * 32 + 25) } } : State).phasesOut 0 := by
  decide +kernel

/-- DroopResponses. -/
def atVset : State := upWith ((upTo 2).map (fun k => (PWR_SCFG_VSET_MV, 0, k, 700)))
theorem test_premises_droop : atVset.detects 0 = true ∧ 500 + atVset.g PWR_DROOP_SPILL_MV 0 < atVset.vset (quadOf 0 / 4) ∧
    atVset.vset (quadOf 0 / 4) + atVset.g PWR_DROOP_SPILL_MV 0 < 900 ∧ 500 + atVset.g PWR_DROOP_DROOP_MV 0 < atVset.vset (siteOf 0) ∧
    0 + 10 < atVset.g PWR_DROOP_DROOP_MV 0 ∧ 500 + atVset.g PWR_DROOP_FLOOR_MV 0 < atVset.vset 0 := by decide +kernel

/-- QuadrantsChangeTheirState: quadrant 0 waits, is in a stage, failed before, or moves. -/
def waking (w : WakeRun) : State :=
  { atVset with ptp := 10 ^ 12, power := { atVset.power with wakes := Map.empty.put 0 w } }
def movingTo (st : Nat) : State := { up with power := { up.power with moving := Map.empty.put 0 st } }
def wakeFailed : State := { (atVset.setReg (PWR_QSTATE 0) 0 0 qOff) with ptp := 10 ^ 12, power := { atVset.power with wakeFails := Map.empty.put 0 0 } }
theorem test_premises_quadrants : pageOpen up .pf false true = true ∧ up.quadOwner 5 = none ∧
    (∀ st ∈ [qOff, qRetain, qIdle], (movingTo st).power.wakes.get? 0 = none ∧ (movingTo st).power.moving.get? 0 = some st) ∧
    up.parts.entries = [] ∧ (waking ⟨4, false, 0⟩).power.wakes.get? 0 = some ⟨4, false, 0⟩ ∧ up.alertOn = false := by decide +kernel
theorem test_premises_noStarting (p : Nat) : (up.part p).starting = none := rfl
theorem test_premises_wakes : (waking ⟨0, true, 0⟩).wakeRoom 0 = true ∧ ((waking ⟨0, true, 0⟩).readAmps []).wakeRoom 0 = true ∧
    ((waking ⟨0, false, 0⟩).readAmps []).wakeQuiet 0 = true ∧ 0 + 1000 * (waking ⟨0, false, 0⟩).g PWR_WAKE_WAIT_US 0 ≤ (waking ⟨0, false, 0⟩).ptp ∧
    (∀ n ∈ [1, 2, 3], (waking ⟨n, false, 0⟩).alertOn = false ∧ wakePct n * (waking ⟨n, false, 0⟩).vset (0 / 4) ≤ 1000 * 100 ∧
      0 + 4 * wakeTime n false ≤ (waking ⟨n, false, 0⟩).ptp) ∧
    wakeFailed.power.wakeFails.get? 0 = some 0 ∧ 0 + 10 ^ 9 ≤ wakeFailed.ptp ∧ wakeFailed.impaired 0 = false ∧
    wakeFailed.power.wakes.has 0 = false ∧ wakeFailed.qstate 0 = qOff := by decide +kernel

/-- AlertsAnomaliesAndTheCap. -/
def aReading : PathReading := ⟨0, 0, 0, 21, 1000, 300⟩
theorem test_premises_alerts : up.anomalous 0 aReading = true ∧ 950 < aReading.bankMv.val ∧ aReading.limit.val < up.power.anomLimit.get (0 / 4) 720 ∧
    up.flag PWR_ALERT_PIN 0 0 = false ∧ (upWith [(PWR_ALERT_PIN, 0, 0, 1), (PWR_STATUS_ALERT, 0, 0, 1)]).flag PWR_ALERT_PIN 0 0 = true ∧
    (upWith [(PWR_ALERT_PIN, 0, 0, 1), (PWR_STATUS_ALERT, 0, 0, 1)]).alertOn = true ∧ up.power.internal = false ∧
    ({ up with power := { up.power with alertHold := true } } : State).power.alertHold = true ∧
    ({ stepping with power := { stepping.power with internal := true } } : State).power.internal = true ∧ stepping.partExists 0 = true ∧
    stepping.flag PWR_PCFG_REACTIVE 0 0 = false := by decide +kernel

/-- HeatIsMeasured and HeatProtections. -/
def hotSite : State := upWith [(THM_CFG_JLIMIT, 0, 0, 90), (THM_STEMP_TS, 0, 0, 440), (THM_RGSTATE_OFF, 0, 0, 0)]
def coolDark : State :=
  let s := upWith [(THM_CFG_JLIMIT, 0, 0, 90), (THM_STEMP_TS, 0, 0, 200)]
  { s with power := { s.power with darkWhy := Map.empty.put 0 2 } }
def staleMons : State := { up with thermal := { up.thermal with staleMon := (Map.empty.put 0 ()).put (baseMon 0) () } }
theorem test_premises_heat : bitAt (hotSite.g THM_RGSTATE_OFF 0) (regionOfSite 0) = false ∧ hotSite.flag THM_STEMP_STALE 0 0 = false ∧
    staleMons.thermal.staleMon.mem 0 = true ∧ staleMons.thermal.staleMon.mem (baseMon (0 % 224)) = true ∧ staleMons.qstate (quadOf 0) ≤ 1 ∧
    staleMons.qstate (0 % 224) ≤ 1 ∧ hotSite.jlimit < hotSite.g THM_STEMP_TS 0 ∧ hotSite.jlimit + 40 < hotSite.g THM_STEMP_TS 0 ∧
    hotSite.power.darkWhy.has (siteOf 0) = false ∧ 20 * up.g THM_COOLCFG_INLET_MAX 0 < 65535 ∧ 0 < 2 * up.g THM_COOLCFG_FLOW_MIN 0 := by
  decide +kernel
theorem test_premises_release : pageOpen coolDark .pf false true = true ∧ coolDark.power.darkWhy.get? 0 = some 2 ∧
    coolDark.g THM_STEMP_TS 0 ≤ coolDark.jlimit - 60 ∧ (∀ k < 4, coolDark.baseOf (0 * 4 + k) ≤ coolDark.jlimit - 60) := by decide +kernel
theorem test_premises_regions : bitAt (up.g THM_RGREQ_REQ 0) 13 = false ∧ up.regionIdle 13 = true ∧
    (∀ c < 9, ({ coolDark with thermal := { coolDark.thermal with episodes := Map.empty.put (epKey c 0) () } } : State).thermal.episodes.mem (epKey c 0) = true) ∧
    coolDark.condClear 0 0 = true ∧ coolDark.condClear 8 63 = true := by decide +kernel

/-! ### Links, time, chain, ownership, registers -/

theorem test_premises_links : up.boot ≠ 0 ∧ up.rimUp 0 = true ∧ ({ up with link := { up.link with pcieUp := false } } : State).link.pcieUp = false ∧
    up.link.pcieUp = true ∧ up.link.vfEnable = true ∧ up.rimUp (rimOfPort 0) = true ∧ (upWith [(NET_PCFG_EN, 0, 0, 1)]).flag NET_PCFG_EN 0 0 = true ∧
    bitAt ((upWith [(NET_STATUS_LINK, 0, 0, 1)]).g NET_STATUS_LINK 0) 0 = true := by decide +kernel
def ptpState (src : Nat) : State :=
  upWith [(NET_PTP_EN, 0, 0, 1), (NET_PTP_SRC, 0, 0, src), (NET_PTP_PORT, 0, 0, 0), (NET_STATUS_LINK, 0, 0, 1), (NET_STATUS_PTP_LOCKED, 0, 0, 1)]
theorem test_premises_time : (ptpState 0).flag NET_PTP_EN 0 0 = true ∧ (ptpState 0).flag NET_PTP_SRC 0 0 = false ∧ (ptpState 0).g NET_PTP_PORT 0 = 0 ∧
    (ptpState 0).g NET_PTP_DOMAIN 0 < 256 ∧ (ptpState 0).g NET_PTP_TRANSPORT 0 < 4 ∧ bitAt ((ptpState 0).g NET_STATUS_LINK 0) 0 = true ∧
    (ptpState 1).power.auxOn = true ∧ (ptpState 1).flag NET_PTP_SRC 0 0 = true ∧ (ptpState 1).g NET_STATUS_PTP_LOCKED 0 = 1 := by decide +kernel

/-- AqueductPortsTrainAndRetry. -/
def portIn (st : Nat) (f : AqdPort → AqdPort) : State := (upWith [(AQD_PCFG_EN, 0, 0, 1), (AQD_PSTAT_STATE, 0, 0, st)]).updPort 0 f
def aKept : Kept := ⟨1, 1, 0, []⟩
theorem test_premises_ports : (portIn apDown id).portOn 0 = true ∧ (portIn apDown id).pstat 0 = apDown ∧ (portIn apTraining id).pstat 0 = apTraining ∧
    (portIn apTraining id).portOn 0 = true ∧ (portIn apUp id).portStands 0 = true ∧ (portIn apUp id).aport 0 = AqdPort.clear ∧ AqdPort.clear.expect = 1 ∧
    ((portIn apUp (fun x => { x with kept := [aKept] })).aport 0).kept ≠ [] ∧
    (((portIn apUp id).usedLanes 0).map ((portIn apUp id).laneMap 0)).contains 0 = true ∧ ((portIn apUp id).aport 0).laneFailed.entries = [] ∧
    ((portIn apUp (fun x => { x with laneFailed := Map.empty.put 8 () })).aport 0).laneFailed.entries ≠ [] ∧
    (((portIn apUp (fun x => { x with laneFailed := Map.empty.put 8 () })).usedLanes 0).map
      ((portIn apUp (fun x => { x with laneFailed := Map.empty.put 8 () })).laneMap 0)).contains 0 = true := by decide +kernel
theorem test_premises_peer : ((⟨[1, 2], 5, 0, true, 1, true⟩ : LinkPeer).majors.map (·.val)).contains 1 = true ∧
    ((⟨[2], 5, 0, true, 1, true⟩ : LinkPeer).majors.map (·.val)).contains 1 = false := by decide +kernel

/-- ChainMessagesAreTaken: partition 0 chained, as the head or as a member. -/
def chainState (head : Nat) (f : PartSt → PartSt) : State :=
  owned (sluices ++ [(AQD_PSTAT_STATE, 0, 0, apUp), (AQD_PCHAIN_CHAINED, 0, 0, 1), (AQD_PCHAIN_HEAD, 0, 0, head), (LD_PSTATE_STATE, 0, 0, psRunning)]) f
def aPlan : ChainPlan := ⟨1, 0, 0, [⟨0, 0, false, 0⟩], [(0, true)]⟩
theorem test_premises_chain : (chainState 0 id).carries 0 = true ∧ tileOfAddr 0 = some 0 ∧ (chainState 0 id).owner 0 = some 0 ∧
    (chainState 0 id).chained 0 = true ∧ (chainState 0 id).inWin 0 0 = true ∧ (chainState 0 id).tag 0 0 = 0 ∧ (chainState 0 id).sliceUp 0 = true ∧
    (chainState 0 id).chainMember 0 = true ∧ (chainState 0 id).shadowOf 0 3 = some 0 ∧ (chainState 1 id).chainHead 0 = true ∧
    (chainState 0 id).runs 0 = true ∧ ((chainState 0 id).part 0).phase ≠ .ready := by decide +kernel
/-- A packet of tile 0 to another module (kind 5) that waits for its answer under tag 9. -/
def remotePacket : Packet := ⟨0, 16, 0, 0, 5, 0, 0, [], [], 0, false, none⟩
def askedState : State := { (portIn apUp (fun x => { x with asked := Map.empty.put 9 (0, 16) })) with flight := [remotePacket] }
theorem test_premises_dack : (askedState.aport 0).asked.get? 9 = some (0, 16) ∧ askedState.rowPacket 0 16 = some (0, remotePacket) := by decide +kernel
def markState : State :=
  let s := chainState 0 id
  { s with ptp := 10 ^ 12, link := { s.link with plan := some aPlan, markWait := Map.empty.put 0 0 } }
theorem test_premises_marks : markState.link.plan = some aPlan ∧ markState.carries 0 = true ∧ aPlan.markPort = 0 ∧ aPlan.chainId = 1 ∧
    markState.chained 0 = true ∧ markState.link.chainIdx.get 0 0 ≤ 0 + 1 ∧ markState.link.markWait.get? 0 = some 0 ∧
    0 + 1000 * markState.g AQD_CHAIN_MARK_TO_US 0 ≤ markState.ptp ∧ (markState.part 0).install = none := by decide +kernel

/-- OwnersAndSessions. -/
def unownedSession : State := { up with link := { up.link with sessions := Map.empty.put 4 ⟨false, false⟩ } }
def ownedModule : State := { up with link := { up.link with ownerKeys := (Map.empty.put 0 (true, 1)).put 1 (true, 2) } }
def fullDoe : State := { up with link := { up.link with sessions := (upTo 4).foldl (fun (m : Map Session) k => m.put k ⟨true, true⟩) Map.empty } }
theorem test_premises_takeOwnership : unownedSession.spdmUp .mgmt = true ∧ unownedSession.link.sessions.get? (4 + 0) = some ⟨false, false⟩ ∧
    unownedSession.owned = false ∧ unownedSession.answers = true := by decide +kernel
theorem test_premises_owner : ownerOpen ownedModule .pf = true ∧ ownedModule.link.ownerKeys.has 3 = false ∧
    (ownedModule.link.ownerKeys.del 0).entries ≠ [] ∧ (∀ p < 64, ownedModule.partExists p = false) ∧ ownedModule.anyBusy = false ∧
    (upWith [(LIC_STATUS_FEATURES, 0, 0, 2)]).feature 2 = true := by decide +kernel
/-- Table 14-8: a plan of no ports for the master, and one of port 0 that takes the marks, for a module that is not device 0. -/
def planImage (np markPort : Nat) : List Byte := bytesOf 60 (1 + 1 * 2 ^ 16 + np * 2 ^ 32 + markPort * 2 ^ 48)
theorem test_premises_plan : ∃ image g, parsePlan image = some g ∧ g.ok = true := by
  by_cases h : ownDeviceId = 0
  · exact ⟨planImage 0 255, ⟨1, 255, 0, [], []⟩, by decide +kernel, by simp [ChainPlan.ok, h, noRepeat]⟩
  · exact ⟨planImage 1 0, ⟨1, 0, 0, [⟨0, 0, false, 0⟩], []⟩, by decide +kernel, by simp [ChainPlan.ok, Ne.symm h, noRepeat]⟩
set_option exponentiation.threshold 400 in
theorem test_premises_sessions : up.spdmUp .pf = true ∧ up.sessPlace .pf = some 1 ∧ ownedModule.judgeAsk (.psk ⟨1, Nat.one_lt_two_pow (by decide)⟩ true) = some ⟨true, true⟩ ∧
    ownedModule.judgeAsk (.oneSided true) = some ⟨false, false⟩ ∧ fullDoe.sessPlace .pf = none ∧ up.sessCount .pf ≠ 0 ∧ up.link.sessions.has 0 = true := by
  decide +kernel

/-- RegisterAccesses: CSD_WSTEP at page 8, word 0x48; tile pages and the split counts of the virtual functions' view among them. -/
def mgmtUp : State := { up with link := { up.link with sessions := Map.empty.put 4 ⟨true, true⟩ } }
theorem test_premises_registers : ownerAccess up .pf = true ∧ ownerAccess mgmtUp .mgmt = true ∧ accessOpen mgmtUp .mgmt = true ∧
    511 ≤ bits (600#32).toNat 15 0 ∧ up.wstepBad (bits (600#32).toNat 15 0) = false ∧ mgmtUp.wstepBad (bits (600#32).toNat 15 0) = false ∧
    up.regPlace .pf (0x8048 / 4 * 4) = .page .csd 0x48 ∧ mgmtUp.regPlace .mgmt (0x8048 / 4 * 4) = .page .csd 0x48 ∧
    up.regPlace .pf (0x8050 / 4 * 4) = .page .csd 0x50 ∧ hiOf .csd 0x50 = some 0x54 ∧ sees .pf .csd 0x50 = true ∧ up.link.locked = false ∧
    accessOpen up .pf = true ∧ (⟨0x8000000 + 4 * 5, by decide⟩ : Fin 335544320).val = 0x8000000 + 4 * 5 := by
  decide +kernel
theorem test_premises_vf : let s := (owned [(SEC_NEG_MAJOR, 1, 0, 1)] id)
    accessOpen s (.vf 0) = true ∧ s.negotiated (.vf 0) = true := by decide +kernel
theorem test_premises_inject : (injectKinds .stw).contains 1 = true ∧ (∃ k : Fin 15, globalPages[k.val]? = some .stw) ∧
    (injectKinds .seq).contains 1 = true ∧ (∃ k : Fin 7, tilePages[k.val]? = some .seq) ∧ up.sliceUp 0 = true := by decide +kernel

/-! ### Whole-machine statements -/

/-- EveryStepKeepsTheInvariant, LogKeepsTheMostRecentRecords: a state that is not the one after reset, with a command that waits. -/
def queued : State := { up with pending := [.pwrAlertAssert] }
theorem test_premises_invariant : memoryCanonical queued ∧ sessionsLegal queued ∧ logLegal queued ∧ ∃ t, step queued = .next t :=
  ⟨rfl, ⟨rfl, fun k h => by
      by_cases e : k = 0
      · omega
      · have : queued.link.sessions.has k = false := by
          show (lookupList [(0, (⟨true, true⟩ : Session))] k).isSome = false
          rw [lookupList, if_neg (Ne.symm e)]; rfl
        (rw [this] at h; cases h),
    rfl, fun k h => by (cases h)⟩, fun k h => by (cases h), _, rfl⟩
theorem test_premises_idle : State.reset.pending = [] := rfl
/-- StoringNothingLeavesMemory, TileCommandsLeaveTheRest, UnitCommandsStayInTheirTile, LinkAndWatchCommandsLeaveTheWork. -/
theorem test_premises_frames : (∃ t, exec (.vadd (wordOf [(3, 58)])) up = .next t) ∧ storesNothing (.vadd (wordOf [(3, 58)])) = true ∧
    unitCommand (.vadd (wordOf [(3, 58)])) = true ∧ unitTile (.vadd (wordOf [(3, 58)])) = some 0 ∧ (∃ t, exec (.sessionClose 0) up = .next t) ∧
    linkCommand (.sessionClose 0) = true ∧ (∃ t, exec .pwrAlertAssert up = .next t) ∧ watchCommand .pwrAlertAssert = true :=
  ⟨⟨_, rfl⟩, rfl, rfl, rfl, ⟨_, rfl⟩, rfl, ⟨_, rfl⟩, rfl⟩

/-! ### WellFormed refuses an ill-formed term at each of its checks -/

def someReadings : WindowReadings := ⟨0, 0, 0, 0, 0, 0, 0, 0, [], [], [], [], [], [], [], [], [], 0, 0, 0, 0⟩
theorem test_illFormed_accesses :
    (Instr.basinHostAccess .pf 0 0 none).wellFormed = false ∧ (Instr.basinHostAccess .pf 0 512 (some [0])).wellFormed = false ∧
    (Instr.basinHostAccess .pf 0 512 (some [])).wellFormed = false ∧ (Instr.cisternHostAccess .pf 0 0 none).wellFormed = false ∧
    (Instr.cisternHostAccess .pf 0 4 (some [0])).wellFormed = false ∧ (Instr.registerWrite .pf 2 0 15 none).wellFormed = false ∧
    (Instr.registerWrite .pf 4 0 15 (some (0, 15))).wellFormed = false ∧ (Instr.mgmtRegisterAccess 1 2 none).wellFormed = false ∧
    (Instr.splitCountLoRead .pf 2).wellFormed = false ∧ (Instr.aqdStream 0 0 0 0 0 [0]).wellFormed = false ∧
    (Instr.aqdResult 0 0 0 0 (some [0])).wellFormed = false ∧ (Instr.setChainPlan .pf [0]).wellFormed = false ∧
    (Instr.setChainPlan .pf (List.replicate 1505 0)).wellFormed = false ∧ (Instr.pcieLinkUp 0 0 true).wellFormed = false := by decide +kernel
theorem test_illFormed_lists :
    (Instr.ptest .pf 0 0 [1, 1]).wellFormed = false ∧ (Instr.warmingRotate [1, 1] 0).wellFormed = false ∧
    (Instr.forecastUpdate [(1, true, 0), (1, false, 0)]).wellFormed = false ∧ (Instr.stackFail 0 [(1, true), (1, false)]).wellFormed = false ∧
    (Instr.rimDieFail 0 [(1, true), (1, false)]).wellFormed = false := by decide +kernel
theorem test_illFormed_readings :
    (Instr.waferStep someReadings).wellFormed = true ∧
    (Instr.waferStep { someReadings with parts := [(1, 0), (1, 1)] }).wellFormed = false ∧
    (Instr.waferStep { someReadings with amps := [(1, 0), (1, 1)] }).wellFormed = false ∧
    (Instr.waferStep { someReadings with base := [(1, 0), (1, 1)] }).wellFormed = false ∧
    (Instr.waferStep { someReadings with points := [(1, 0, 0, 0), (1, 0, 1, 0)] }).wellFormed = false ∧
    (Instr.waferStep { someReadings with edges := [(1, 0), (1, 1)] }).wellFormed = false ∧
    (Instr.waferStep { someReadings with paths := [(1, aReading), (1, aReading)] }).wellFormed = false ∧
    (Instr.waferStep { someReadings with diodes := [(1, 0), (1, 1)] }).wellFormed = false ∧
    (Instr.waferStep { someReadings with bases := [(1, 0), (1, 1)] }).wellFormed = false ∧
    (Instr.waferStep { someReadings with hotStacks := [(1, 0), (1, 1)] }).wellFormed = false := by decide +kernel
/-- One bring-up for each check, under each command that carries one. -/
def illBringUps : List BringUp :=
  [{ aBringUp with fwFirst := [1, 1] }, { aBringUp with fwBoth := [1] }, { aBringUp with badStacks := [1, 1] }, { aBringUp with rims := [1, 1] },
   { aBringUp with ports := [1, 1] }, { aBringUp with failed := [1, 1] }, { aBringUp with spares := [(1, 1, true), (1, 1, true)] },
   { aBringUp with impaired := [1, 1] }, { aBringUp with diodes := [(1, 0), (1, 1)] }, { aBringUp with base := [(1, 0), (1, 1)] },
   { aBringUp with res := [(1, 0), (1, 1)] }, { aBringUp with certs := [1, 1] }]
theorem test_illFormed_bringUps : ∀ b ∈ illBringUps, (Instr.coldStart b).wellFormed = false ∧ (Instr.mainInputInRange b).wellFormed = false ∧
    (Instr.moduleWarm .pf b).wellFormed = false ∧ (Instr.perst b).wellFormed = false := by decide +kernel

/-! ### Slow tests -/

/-- The packet of DeliveriesMoveRows and the STREAM of ChainMessagesAreTaken pass their CRC; the values on the way were worked out outside the model. -/
def crcRun (c : Nat) : Nat := (List.replicate 64 0#8).foldl (fun c b => crc32cByte (Nat.xor c b.toNat) 8) c
theorem test_crcRuns : crcRun 0xffffffff = 0xfc371498 ∧ crcRun 0xfc371498 = 0xf7d89b24 ∧ crcRun 0xf7d89b24 = 0x8bca87cf ∧ crcRun 0x8bca87cf = 0x478d4e6f ∧
    crcRun 0x478d4e6f = 0x3d5a233 ∧ crcRun 0x3d5a233 = 0x4509d0c9 ∧ crcRun 0x4509d0c9 = 0xcc289dc7 ∧ crcRun 0xcc289dc7 = 0xcf03123f := by
  decide +kernel
theorem test_crc : crc32c dlvData = dlvCrc := by
  obtain ⟨h1, h2, h3, h4, h5, h6, h7, h8⟩ := test_crcRuns
  have e : dlvData = List.replicate 64 0#8 ++ (List.replicate 64 0#8 ++ (List.replicate 64 0#8 ++ (List.replicate 64 0#8 ++ (List.replicate 64 0#8 ++
      (List.replicate 64 0#8 ++ (List.replicate 64 0#8 ++ List.replicate 64 0#8)))))) := by
    simp only [dlvData, List.replicate_append_replicate]
  have hr : ∀ c, (List.replicate 64 0#8).foldl (fun c b => crc32cByte (Nat.xor c b.toNat) 8) c = crcRun c := fun _ => rfl
  rw [crc32c, e]
  simp only [List.foldl_append, hr, h1, h2, h3, h4, h5, h6, h7, h8]
  decide
theorem test_keyId : keyIdOf p384Gx p384Gy = keyIdLE := by decide +kernel
theorem test_sha384 : sha384 [0x42#8] = beBytes 48 hash42 := by decide +kernel
theorem test_premises_lead : leadIn.leadConsistent (cisternBase 0 + 0) 4096 4097 = true ∧
    ((sectOf (leadIn.sects (cisternBase 0 + 0)) 0x14).map (fun x => (x.off, leadIn.pk (cisternBase 0 + 0) (x.off + 8) 8))) = some (272, keyIdLE) ∧
    ((sectOf (leadIn.sects (cisternBase 0 + 0)) 0x13).map (·.off)) = some 192 ∧
    leadIn.pubKeyNamed keyIdLE = some (p384Gx, p384Gy) ∧ leadIn.pkBytes (cisternBase 0 + 0) (192 + 0x20 + 48 * (1 - 1)) 48 = sha384 [0x42#8] := by
  decide +kernel
theorem test_leadLength : leadData.length = 4096 := by simp only [leadData, List.length_append, List.length_replicate]; decide +kernel
theorem test_premises_signature : ecdsaValid p384Gx p384Gy (signedMessage leadData 272) sigR sigS = true := by decide +kernel

end Sys2Proof.Tests
end

section
/-! PROOF. R45: a WRB is taken on stream banks only. First what a refusal of array commands leaves alone (R40), then what a WRB's checks come
to, then the statement. -/

namespace Sys2Proof.Machine

open Sys2Proof Sys2Proof.Safety

/-! ### Fields that no record and no interrupt writes -/

/-- The field is none of the two that records and interrupts write, INT_STATUS of any function and the counts of the ERR page. -/
def Fld.apartFromRecords (f : Fld) (inst i : Nat) : Prop :=
  (∀ fn, INT_STATUS_STATUS.key fn 0 ≠ f.key inst i) ∧ ∀ c < 16, ERR_CCOUNT_COUNT.key 0 c ≠ f.key inst i

theorem State.raiseInt_reg_apart {f : Fld} {inst i : Nat} (h : f.apartFromRecords inst i) (s : State) (fn bit : Nat) :
    (s.raiseInt fn bit).reg f inst i = s.reg f inst i := by
  have hset : ∀ v, (s.setReg INT_STATUS_STATUS fn 0 v).reg f inst i = s.reg f inst i := fun _ => State.reg_setReg_other (h.1 fn)
  unfold State.raiseInt State.msix
  dsimp only
  split
  · rfl
  · split
    · split <;> exact hset _
    · exact hset _

/-- Whatever partition the record names, in contrast to `State.recordInts_intRegs`. -/
theorem State.recordInts_reg_apart {f : Fld} {inst i : Nat} (h : f.apartFromRecords inst i) (s : State) (r : FaultRec) :
    (s.recordInts r).reg f inst i = s.reg f inst i := by
  have raised : ∀ (b : Prop) [Decidable b] (u : State) (fn bit : Nat), (if b then u.raiseInt fn bit else u).reg f inst i = u.reg f inst i :=
    fun b _ u fn bit => by
      split
      · exact State.raiseInt_reg_apart h ..
      · rfl
  unfold State.recordInts
  extract_lets c s1 s2 s3 s4 s5 s6
  have hcount : s1.reg f inst i = s.reg f inst i := State.reg_setReg_other (h.2 c (Nat.mod_lt _ (by decide)))
  have hwafer : s5.reg f inst i = s.reg f inst i := by
    rw [← hcount]
    exact (raised ..).trans ((raised ..).trans ((raised ..).trans (raised ..)))
  have hpart : s6.reg f inst i = s5.reg f inst i := by
    unfold s6
    split
    · exact raised ..
    · rfl
  split <;> exact hpart.trans hwafer

theorem State.record_reg_apart {f : Fld} {inst i : Nat} (h : f.apartFromRecords inst i) (s : State) (r : Rec) :
    (s.record r).reg f inst i = s.reg f inst i := by
  have hints : ((s.appendLog (s.stamp r)).recordInts (s.stamp r)).reg f inst i = s.reg f inst i := State.recordInts_reg_apart h ..
  unfold State.record
  dsimp only
  split
  · split <;> exact hints
  · exact hints

theorem State.tileFault_reg_apart {f : Fld} {inst i : Nat} (h : f.apartFromRecords inst i) (s : State) (t : Nat) (r : Rec) :
    (s.tileFault t r).reg f inst i = s.reg f inst i := State.record_reg_apart h ..

/-- A fault of a tile sets FAULT in its report, and changes nothing else of it. -/
theorem State.tile_tileFault_same (s : State) (t : Nat) (r : Rec) :
    (s.tileFault t r).tile t = { s.tile t with report := { (s.tile t).report with fault := true } } := by
  unfold State.tileFault State.tileRecord
  rw [State.tile_updTile_same, State.record_tile]

/-! ### Keys of the bank fields and of REFUSED -/

theorem bstateF_key (pl t n : Nat) : ∃ d, (bstateF pl).key t n = d * 32 + 26 := by
  unfold bstateF
  split <;> exact ⟨_, rfl⟩
theorem streamF_key (pl t n : Nat) : ∃ d, (streamF pl).key t n = d * 32 + 25 := by
  unfold streamF
  split <;> exact ⟨_, rfl⟩
theorem refused_key (t n : Nat) : ARR_TROUBLE_REFUSED.key t n = (((0x20 * 65536 + t) * 4096) + (0x118 + 0x100 * n)) * 32 := rfl

theorem refused_key_ne_bstateF (pl t n m : Nat) : ARR_TROUBLE_REFUSED.key t n ≠ (bstateF pl).key t m := by
  obtain ⟨d, hd⟩ := bstateF_key pl t m
  rw [hd, refused_key]
  omega
theorem refused_key_inj {t n m : Nat} (h : ARR_TROUBLE_REFUSED.key t n = ARR_TROUBLE_REFUSED.key t m) : n = m := by
  simp only [refused_key] at h
  omega

/-- BSTATE does not start at bit 0 of its word, as the fields of records do. -/
theorem bstateF_apart (pl t n : Nat) : (bstateF pl).apartFromRecords t n := by
  obtain ⟨d, hd⟩ := bstateF_key pl t n
  refine ⟨fun fn => ?_, fun c _ => ?_⟩ <;>
    · rw [hd]
      simp only [Fld.key, INT_STATUS_STATUS, ERR_CCOUNT_COUNT, Fld.offset]
      omega
/-- REFUSED has another offset than INT_STATUS, and lies in another page than the counts. -/
theorem refused_apart (t n : Nat) : ARR_TROUBLE_REFUSED.apartFromRecords t n := by
  refine ⟨fun fn => ?_, fun c _ => ?_⟩ <;>
    · rw [refused_key]
      simp only [Fld.key, INT_STATUS_STATUS, ERR_CCOUNT_COUNT, Fld.offset, Page.code]
      omega

theorem reg_seen_other {s : State} {i : Issue} {f : Fld} {inst k : Nat} (h : SEQ_STATUS_OFFSET.key i.tile.val 0 ≠ f.key inst k) :
    (seen s i).reg f inst k = s.reg f inst k := by
  unfold seen
  rw [State.reg_updTile, State.reg_setReg_other h]
theorem reg_seen_bstateF (s : State) (i : Issue) (pl t n : Nat) : (seen s i).reg (bstateF pl) t n = s.reg (bstateF pl) t n := by
  obtain ⟨d, hd⟩ := bstateF_key pl t n
  refine reg_seen_other ?_
  rw [hd]
  simp only [Fld.key, SEQ_STATUS_OFFSET, Fld.offset]
  omega
theorem reg_seen_streamF (s : State) (i : Issue) (pl t n : Nat) : (seen s i).reg (streamF pl) t n = s.reg (streamF pl) t n := by
  obtain ⟨d, hd⟩ := streamF_key pl t n
  refine reg_seen_other ?_
  rw [hd]
  simp only [Fld.key, SEQ_STATUS_OFFSET, Fld.offset]
  omega

/-! ### What a refusal sets and what it leaves alone (R40) -/

@[simp] theorem State.reg_poisonOut (s : State) (t : Nat) (arrs : List Nat) (nb : Nat → Nat) (f : Fld) (inst i : Nat) :
    (s.poisonOut t arrs nb).reg f inst i = s.reg f inst i := rfl
theorem State.wrbRun_poisonOut (s : State) (t : Nat) (arrs : List Nat) (nb : Nat → Nat) :
    ((s.poisonOut t arrs nb).tile t).wrbRun = (s.tile t).wrbRun := by
  unfold State.poisonOut
  rw [State.tile_updTile_same]
  exact foldl_keep (f := fun x n => x.fillOut n (List.replicate (nb n) (Beat.zero true))) TileSt.wrbRun (fun _ _ => rfl) arrs _

section
variable (s : State) (t cycle entry code n pl row : Nat)

theorem State.wrbRun_refuseArray : ((s.refuseArray t cycle entry code n pl row).tile t).wrbRun = (s.tile t).wrbRun := by
  unfold State.refuseArray
  rw [State.tile_tileFault_same]
  rfl
theorem State.bstate_refuseArray (p m : Nat) :
    (s.refuseArray t cycle entry code n pl row).reg (bstateF p) t m = s.reg (bstateF p) t m :=
  (State.tileFault_reg_apart (bstateF_apart p t m) ..).trans (State.reg_setReg_other (refused_key_ne_bstateF p t n m))
theorem State.refused_refuseArray (m : Nat) :
    (s.refuseArray t cycle entry code n pl row).reg ARR_TROUBLE_REFUSED t m = if n = m then 1 else s.reg ARR_TROUBLE_REFUSED t m := by
  refine (State.tileFault_reg_apart (refused_apart t m) ..).trans ?_
  split
  case isTrue h => rw [h, State.reg_setReg_same]; rfl
  case isFalse h => exact State.reg_setReg_other (fun e => h (refused_key_inj e))
end

section
variable (s : State) (t cycle entry pl row : Nat) (nb : Nat → Nat) (arrs : List Nat) (rs : Refusals)

theorem State.wrbRun_refuseAll : ((s.refuseAll t cycle entry pl row nb arrs rs).tile t).wrbRun = (s.tile t).wrbRun := by
  unfold State.refuseAll
  rw [State.wrbRun_poisonOut]
  exact foldl_keep (fun u => (u.tile t).wrbRun) (fun u r => u.wrbRun_refuseArray t cycle entry r.2 r.1 pl row) rs s
theorem State.bstate_refuseAll (p m : Nat) :
    (s.refuseAll t cycle entry pl row nb arrs rs).reg (bstateF p) t m = s.reg (bstateF p) t m := by
  unfold State.refuseAll
  rw [State.reg_poisonOut]
  exact foldl_keep (fun u => u.reg (bstateF p) t m) (fun u r => u.bstate_refuseArray t cycle entry r.2 r.1 pl row p m) rs s
/-- Once set, REFUSED of an array stays set while the other arrays refuse. -/
theorem State.refused_refuseAll (m : Nat) (h : s.reg ARR_TROUBLE_REFUSED t m = 1 ∨ ∃ r ∈ rs, r.1 = m) :
    (s.refuseAll t cycle entry pl row nb arrs rs).reg ARR_TROUBLE_REFUSED t m = 1 := by
  unfold State.refuseAll
  rw [State.reg_poisonOut]
  induction rs generalizing s with
  | nil => simpa using h
  | cons r rs ih =>
    rw [List.foldl_cons]
    refine ih _ ?_
    rw [State.refused_refuseArray]
    rcases h with h | ⟨q, hq, hm⟩
    · left; split <;> simp [h]
    · rcases List.mem_cons.1 hq with rfl | hq
      · left; rw [if_pos hm]
      · exact .inr ⟨q, hq, hm⟩
end

/-! ### The checks of a WRB (Table 2-15, R45) -/

theorem firstCode_eq_none_iff {l : List (Bool × Nat)} : firstCode l = none ↔ ∀ e ∈ l, e.1 = false := by
  induction l with
  | nil => simp [firstCode]
  | cons e l ih =>
    obtain ⟨b, c⟩ := e
    cases b <;> simp [firstCode, ih]

theorem mem_refusals_of_code {arrs : List Nat} {f : Nat → Option Nat} {n c : Nat} (hn : n ∈ arrs) (hc : f n = some c) : (n, c) ∈ refusals arrs f :=
  List.mem_filterMap.2 ⟨n, hn, by rw [hc]; rfl⟩

/-- The code by which the array refuses the WRB, if it does: `State.runWrb` is stated by it in `State.runWrb_eq`. -/
def State.wrbCode (s : State) (i : Issue) (n : Nat) : Option Nat :=
  let t := i.tile.val
  let c := i.cycle.val
  let pl := bits i.word.toNat 50 50
  firstCode
    [(s.mvmOn t n pl c, 0x1013), (Win.activeOn ((s.tile t).rdbWin.get? n) c pl, 0x1014), (!s.flag (streamF pl) t n, 0x1018),
     (Win.active ((s.tile t).wrbWin.get? n) c || Win.active ((s.tile t).rdbWin.get? n) c, 0x101A),
     (s.reg (bstateF pl) t n == bsFailed, 0x3030), (s.reg (bstateF pl) t n == bsLoading, 0x1014)]

/-- The opcode, the form and the rows of a WRB are those that an array can take. -/
def wrbWellFormed (w : Nat) : Prop :=
  opcOf w = 4 ∧ bits w 25 0 = 0 ∧ 8 * bits w 49 43 + 8 * (bits w 42 36 + 1) ≤ 1024 ∧ maskArrays (amaskOf w) ≠ []

/-- A well-formed WRB is refused by the arrays that have a code, refused at the port, or accepted. -/
theorem State.runWrb_eq (s : State) {i : Issue} (h : wrbWellFormed i.word.toNat) :
    s.runWrb i =
      let w := i.word.toNat
      let arrs := maskArrays (amaskOf w)
      if !(refusals arrs (s.wrbCode i)).isEmpty then
        s.refuseAll i.tile.val i.cycle.val i.entry.val (bits w 50 50) (8 * bits w 49 43) (fun _ => 0) arrs (refusals arrs (s.wrbCode i))
      else if s.portClash i.tile.val i.cycle.val 0 w (bankRows w) then s.refusePort i (bits w 35 26) (fun _ => 0)
      else (s.portClaim i.tile.val i.cycle.val 0 w (bankRows w)).wrbAccept i := by
  obtain ⟨hop, hres, hrows, harrs⟩ := h
  have hpast : bankPast i.word.toNat = false := decide_eq_false (by omega)
  have hform : ((maskArrays (amaskOf i.word.toNat)).isEmpty || bits i.word.toNat 25 0 != 0 || bankPast i.word.toNat) = false := by
    simp [harrs, hres, hpast]
  unfold State.runWrb
  simp only [hop, hform, bne_self_eq_false, Bool.false_eq_true, if_false]
  rfl

/-- A bank that is no stream bank has a code, that of R45 or one before it. -/
theorem State.wrbCode_of_notStream {s : State} {i : Issue} {n : Nat} (h : s.reg (streamF (bits i.word.toNat 50 50)) i.tile.val n = 0) :
    ∃ c, s.wrbCode i n = some c := by
  refine Option.ne_none_iff_exists'.1 (fun e => ?_)
  have hs := firstCode_eq_none_iff.1 e (!s.flag (streamF (bits i.word.toNat 50 50)) i.tile.val n, 0x1018) (by simp)
  simp [State.flag, h] at hs

/-- A window that is not open is open on no plane. -/
theorem Win.activeOn_of_inactive {w : Option Win} {c : Nat} (h : Win.active w c = false) (pl : Nat) : Win.activeOn w c pl = false := by
  cases w with
  | none => rfl
  | some x =>
    have hx : (decide (x.from_ ≤ c) && decide (c < x.until_)) = false := h
    show (decide (x.from_ ≤ c) && decide (c < x.until_) && x.plane == pl) = false
    rw [hx, Bool.false_and]

/-- A stream bank that nothing occupies has no code. -/
theorem State.wrbCode_of_wrbFree {s : State} {i : Issue} {n : Nat} (h : wrbFree s i n) : s.wrbCode i n = none := by
  obtain ⟨hmvm, hstream, hfailed, hloading, hwrb, hrdb⟩ := h
  have hflag : s.flag (streamF (bits i.word.toNat 50 50)) i.tile.val n = true := by simp [State.flag, hstream]
  simp [State.wrbCode, firstCode, hmvm, hflag, hfailed, hloading, hwrb, hrdb, Win.activeOn_of_inactive hrdb]

/-- An accepted WRB is in progress until its completion. -/
theorem State.wrbAccept_inProgress (s : State) (i : Issue) : ((s.wrbAccept i).tile i.tile.val).wrbRun.has i.entry.val = true := by
  unfold State.wrbAccept
  extract_lets w t c arrs pl row nr8 b s1 s2 s3
  rw [State.tile_updTile_same]
  exact Map.has_put_same ..

theorem exec_wrb_issuable {i : Issue} {s : State} (h : issuable s i 0) : exec (.wrb i) s = .next ((seen s i).runWrb i) :=
  issue_runs (refuse := fun s => s.refuseQuiet i (fun _ => 0)) (run := fun s => s.runWrb i) h

/-- The refusal of R45: some array's REFUSED is set; memory, every bank of the tile and the WRBs in progress stay. -/
theorem wrb_refused {i : Issue} {s : State} (hi : issuable s i 0) (hw : wrbWellFormed i.word.toNat)
    (hn : ∃ n ∈ maskArrays (amaskOf i.word.toNat), s.reg (streamF (bits i.word.toNat 50 50)) i.tile.val n = 0) :
    ∃ u, exec (.wrb i) s = .next u ∧ sameMemory s u ∧ (u.tile i.tile.val).wrbRun = (s.tile i.tile.val).wrbRun ∧
      (∀ n pl, u.reg (bstateF pl) i.tile.val n = s.reg (bstateF pl) i.tile.val n) ∧
      ∃ n ∈ maskArrays (amaskOf i.word.toNat), u.reg ARR_TROUBLE_REFUSED i.tile.val n = 1 := by
  obtain ⟨n, hn, hs⟩ := hn
  obtain ⟨c, hc⟩ := State.wrbCode_of_notStream ((reg_seen_streamF s i ..).trans hs)
  have hr := mem_refusals_of_code hn hc
  rw [exec_wrb_issuable hi, State.runWrb_eq _ hw]
  dsimp only
  rw [if_pos (by simpa using List.ne_nil_of_mem hr)]
  refine ⟨_, rfl, ?_, ?_, fun m pl => ?_, n, hn, ?_⟩
  · exact (State.refuseAll_memSame ⟨mem_seen s i⟩).read
  · rw [State.wrbRun_refuseAll, tile_seen]
  · rw [State.bstate_refuseAll, reg_seen_bstateF]
  · exact State.refused_refuseAll (h := .inr ⟨_, hr, rfl⟩) ..

theorem wrb_accepted {i : Issue} {s : State} (hi : issuable s i 0) (hw : wrbWellFormed i.word.toNat)
    (hfree : ∀ n ∈ maskArrays (amaskOf i.word.toNat), wrbFree (seen s i) i n) (hport : portOpen (seen s i) i 0 (bankRows i.word.toNat)) :
    exec (.wrb i) s =
      .next (((seen s i).portClaim i.tile.val i.cycle.val 0 i.word.toNat (bankRows i.word.toNat)).wrbAccept i) := by
  rw [exec_wrb_issuable hi, State.runWrb_eq _ hw]
  dsimp only
  rw [refusals_nil (fun n hn => State.wrbCode_of_wrbFree (hfree n hn)), hport]
  rfl

/-- Settles O14: an array whose bank is no stream bank has a code, and the refusal of R40 touches neither memory nor any bank. -/
theorem wrbNeedsAStreamBank : Obligations.WrbNeedsAStreamBank := by
  unfold Obligations.WrbNeedsAStreamBank
  intro i s hi hop hres hrows harrs
  have hw : wrbWellFormed i.word.toNat := ⟨hop, hres, hrows, harrs⟩
  refine ⟨fun hn => ?_, fun hfree hport => ⟨_, wrb_accepted hi hw hfree hport, State.wrbAccept_inProgress ..⟩⟩
  obtain ⟨u, hexec, hmem, hrun, hbank, hrefused⟩ := wrb_refused hi hw hn
  exact ⟨u, hexec, hmem, hrun, fun n _ pl _ => hbank n pl, hrefused⟩

end Sys2Proof.Machine
end

section
/-! PROOF. R64: the narrow accumulator holds at the bound it crossed. First what one addition does in each of its cases, then the statement. -/

namespace Sys2Proof.Machine

open Sys2Proof

theorem narrowAdd_of_above {a d : Int} (h : 524287 < a + d) : narrowAdd (a, false) d = (524287, true) := by
  simp [narrowAdd, h]

theorem narrowAdd_of_below {a d : Int} (h : a + d < -524288) : narrowAdd (a, false) d = (-524288, true) := by
  have habove : ¬ 524287 < a + d := by omega
  simp [narrowAdd, habove, h]

theorem narrowAdd_of_inRange {a d : Int} (hlo : -524288 ≤ a + d) (hhi : a + d ≤ 524287) : narrowAdd (a, false) d = (a + d, false) := by
  simp [narrowAdd, Int.not_lt.mpr hlo, Int.not_lt.mpr hhi]

/-- An accumulator that has overflowed holds its value. -/
@[simp] theorem narrowAdd_overflowed (b d : Int) : narrowAdd (b, true) d = (b, true) := rfl

/-- It holds for the rest of the row group. -/
@[simp] theorem foldl_narrowAdd_overflowed (b : Int) (ds : List Int) : ds.foldl narrowAdd (b, true) = (b, true) := by
  induction ds with
  | nil => rfl
  | cons d ds ih => rw [List.foldl_cons, narrowAdd_overflowed, ih]

/-- Settles O11: a sum outside the range overflows at the bound it crosses, and every later value leaves an overflowed accumulator as it is. -/
theorem narrowAccumulatorHoldsAtItsBound : Obligations.NarrowAccumulatorHoldsAtItsBound := by
  unfold Obligations.NarrowAccumulatorHoldsAtItsBound
  intro a d ds _ _
  refine ⟨fun habove => ?_, fun hbelow => ?_, narrowAdd_of_inRange⟩
  · rw [narrowAdd_of_above habove, foldl_narrowAdd_overflowed]
  · rw [narrowAdd_of_below hbelow, foldl_narrowAdd_overflowed]

end Sys2Proof.Machine
end

section
/-! PROOF. R219: host writes of a request's fields. First ERR_COUNT after a record, then what the write comes to when
the steward takes it and when it discards it, then the statement. -/

namespace Sys2Proof.Machine

open Sys2Proof Sys2Proof.Safety

/-- ERR_COUNT of a page lies at another offset than INT_STATUS and the counts of the ERR page. -/
theorem errCount_apart (pg : Page) (inst : Nat) : (HDR_ERR_COUNT pg).apartFromRecords inst 0 := by
  refine ⟨fun fn => ?_, fun c _ => ?_⟩ <;>
    · simp only [Fld.key, INT_STATUS_STATUS, ERR_CCOUNT_COUNT, HDR_ERR_COUNT, Fld.offset]
      omega

theorem satAdd_lt (w v d : Nat) : satAdd w v d < 2 ^ w :=
  Nat.lt_of_le_of_lt (Nat.min_le_right ..) (Nat.sub_lt (Nat.two_pow_pos w) Nat.one_pos)

/-- A counter raised reads its saturated sum. -/
theorem State.reg_addReg_same (s : State) (f : Fld) (inst i d : Nat) : (s.addReg f inst i d).reg f inst i = satAdd f.width (s.reg f inst i) d := by
  unfold State.addReg
  rw [State.reg_setReg_same, Nat.mod_eq_of_lt (satAdd_lt ..)]

/-! ### A write that finds the entry locked (R219) -/

section
variable (s : State) (path : Path) (r : Nat)

theorem State.refuseLocked_reqs : (s.refuseLocked path r).reqs = s.reqs := State.record_reqs ..
theorem State.refuseLocked_errCount :
    (s.refuseLocked path r).reg (HDR_ERR_COUNT .stw) (fnOf path) 0 =
      satAdd (HDR_ERR_COUNT .stw).width (s.reg (HDR_ERR_COUNT .stw) (fnOf path) 0) 1 :=
  (State.record_reg_apart (errCount_apart ..) ..).trans (State.reg_addReg_same ..)
theorem State.refuseLocked_code : ((s.refuseLocked path r).log.get? s.logTail).map (·.code) = some 0x8002 :=
  congrArg (Option.map (·.code)) (State.record_log ..)
end

/-! ### The two outcomes of a field write -/

/-- The entry is FREE, in a terminal state or PAUSED: the steward takes writes of its fields (R219). -/
def ReqSt.takesFields (q : ReqSt) : Prop := q.state = rsFree ∨ q.terminal = true ∨ q.state = rsPaused

section
variable {s : State} {path : Path} {r : Nat} (k v : Nat) (hown : s.ownedEntry r = false)
include hown

theorem State.writeField_of_takesFields (h : (s.req r).takesFields) :
    s.writeField path r k v = s.updReq r (fun q => { q with words := q.words.put k (Nat.land v (wordMask k)) }) := by
  have htakes : ((s.req r).state == rsFree || (s.req r).terminal || (s.req r).state == rsPaused) = true := by
    simpa [ReqSt.takesFields, or_assoc] using h
  simp [State.writeField, hown, htakes]

theorem State.writeField_of_locked (h : ¬ (s.req r).takesFields) : s.writeField path r k v = s.refuseLocked path r := by
  have hlocked : ((s.req r).state == rsFree || (s.req r).terminal || (s.req r).state == rsPaused) = false := by
    simpa [ReqSt.takesFields, and_assoc] using h
  simp [State.writeField, hown, hlocked]
end

/-- R219: the terminal states by name. -/
theorem ReqSt.terminal_iff (q : ReqSt) :
    q.terminal = true ↔ q.state = rsCompleted ∨ q.state = rsCancelLate ∨ q.state = rsCancelled ∨ q.state = rsFailed ∨ q.state = rsReplaced := by
  simp only [ReqSt.terminal, Bool.and_eq_true, decide_eq_true_eq, rsCompleted, rsCancelLate, rsCancelled, rsFailed, rsReplaced]
  omega

theorem exec_requestFieldWrite_reached {path : Path} {r : Req} {s : State} (k : Fin 12) (v : Word32) (h : reqOpen s path r.val = true) :
    exec (.requestFieldWrite path r k v) s = .next (s.writeField path r.val (k.val + 1) v.toNat) :=
  reqWrite_runs (act := fun s => s.writeField path r.val (k.val + 1) v.toNat) h

/-- Settles O32: the entry's state alone decides whether a write that reaches it is taken, and the record of a discarded write moves neither an
entry nor the raised ERR_COUNT. -/
theorem hostWritesOfRequestFields : Obligations.HostWritesOfRequestFields := by
  unfold Obligations.HostWritesOfRequestFields
  refine ⟨fun path r k v s hopen hown => ⟨_, exec_requestFieldWrite_reached k v hopen, ?_⟩, ReqSt.terminal_iff⟩
  split
  case isTrue htakes =>
    rw [State.writeField_of_takesFields _ _ hown htakes, State.req_updReq_same]
    exact ⟨Map.get?_put_same .., fun j hj => by rw [Map.get?_put, if_neg hj.symm]⟩
  case isFalse hlocked =>
    rw [State.writeField_of_locked _ _ hown hlocked]
    exact ⟨State.refuseLocked_reqs .., State.refuseLocked_errCount .., State.refuseLocked_code ..⟩

end Sys2Proof.Machine
end

section
/-! PROOF. The dispatch: what every command keeps. Each arm of `exec` cites the lemma of its meaning, and the statements about all commands
(answers, invariant, memory, what lies beside the tiles) follow. -/

namespace Sys2Proof.Machine

open Sys2Proof Sys2Proof.Safety

/-- Every command answers a state that may come after the one before. -/
theorem exec_follows (c : Instr) (s : State) : FollowsO s (exec c s) := by
  cases c with
  | ldin => exact execLdin_follows .refl
  | mvm => exact execMvm_follows .refl
  | mvmComplete => exact execMvmComplete_follows .refl
  | red => exact execRed_follows .refl
  | wrb => exact execWrb_follows .refl
  | wrbComplete => exact execWrbComplete_follows .refl
  | rdb => exact execRdb_follows .refl
  | clv => exact execClv_follows .refl
  | mld => exact execMld_follows .refl
  | mmul => exact execMmul_follows .refl
  | mout => exact execMout_follows .refl
  | vld => exact execVld_follows .refl
  | vst => exact execVst_follows .refl
  | vadd => exact execVadd_follows .refl
  | vsub => exact execVsub_follows .refl
  | vmul => exact execVmul_follows .refl
  | vfma => exact execVfma_follows .refl
  | vmax => exact execVmax_follows .refl
  | vmin => exact execVmin_follows .refl
  | vexp2 => exact execVexp2_follows .refl
  | vrcp => exact execVrcp_follows .refl
  | vrsq => exact execVrsq_follows .refl
  | vlog2 => exact execVlog2_follows .refl
  | vred => exact execVred_follows .refl
  | vsel => exact execVsel_follows .refl
  | vbc => exact execVbc_follows .refl
  | vcvt => exact execVcvt_follows .refl
  | vqnt => exact execVqnt_follows .refl
  | vrot => exact execVrot_follows .refl
  | attend => exact execAttend_follows .refl
  | sample => exact execSample_follows .refl
  | cmrg => exact execCmrg_follows .refl
  | sluiceSlotIssue => exact execSluiceSlotIssue_follows .refl
  | sluiceMiss => exact execSluiceMiss_follows .refl
  | tagTimeout => exact execTagTimeout_follows .refl
  | deliverySend => exact execDeliverySend_follows .refl
  | deliveryArrive => exact execDeliveryArrive_follows .refl
  | deliveryAck => exact execDeliveryAck_follows .refl
  | deliveryBusyRetry => exact execDeliveryBusyRetry_follows .refl
  | deliveryTimeout => exact execDeliveryTimeout_follows .refl
  | restoreRowCopy => exact execRestoreRowCopy_follows .refl
  | scrubRow => exact execScrubRow_follows .refl
  | basinRowSpare => exact execBasinRowSpare_follows .refl
  | basinHostAccess => exact execBasinHostAccess_follows .refl
  | cisternHostAccess => exact execCisternHostAccess_follows .refl
  | routeEntry => exact execRouteEntry_follows .refl
  | beatArrival => exact execBeatArrival_follows .refl
  | expressStationPass => exact execExpressStationPass_follows .refl
  | crossingRelease => exact execCrossingRelease_follows .refl
  | programEnd => exact execProgramEnd_follows .refl
  | regionReport => exact execRegionReport_follows .refl
  | rootDeadline => exact execRootDeadline_follows .refl
  | commitBoundary => exact execCommitBoundary_follows .refl
  | replayBoundary => exact execReplayBoundary_follows .refl
  | recomputeDone => exact execRecomputeDone_follows .refl
  | faultedStepBoundary => exact execFaultedStepBoundary_follows .refl
  | attemptStart => exact execAttemptStart_follows .refl
  | abort => exact execAbort_follows .refl
  | csdHoldSet => exact execCsdHoldSet_follows .refl
  | csdHoldClear => exact execCsdHoldClear_follows .refl
  | csdRootSwap => exact execCsdRootSwap_follows .refl
  | waferStep => exact execWaferStep_follows .refl
  | rootTakeover => exact execRootTakeover_follows .refl
  | treeMessageRepeat => exact execTreeMessageRepeat_follows .refl
  | goReissue => exact execGoReissue_follows .refl
  | spareArraySubstitution => exact execSpareArraySubstitution_follows .refl
  | create => exact execCreate_follows .refl
  | resize => exact execResize_follows .refl
  | destroy => exact execDestroy_follows .refl
  | destroyComplete => exact execDestroyComplete_follows .refl
  | stage => exact execStage_follows .refl
  | leadShardVerify => exact execLeadShardVerify_follows .refl
  | shardVerify => exact execShardVerify_follows .refl
  | shardFetchError => exact execShardFetchError_follows .refl
  | discard => exact execDiscard_follows .refl
  | install => exact execInstall_follows .refl
  | installWriteComplete => exact execInstallWriteComplete_follows .refl
  | drainDeadline => exact execDrainDeadline_follows .refl
  | start => exact execStart_follows .refl
  | stop => exact execStop_follows .refl
  | enrollKey => exact execEnrollKey_follows .refl
  | revokeKey => exact execRevokeKey_follows .refl
  | serverEntryValid => exact execServerEntryValid_follows .refl
  | serverQpError => exact execServerQpError_follows .refl
  | streamPlanEntry => exact execStreamPlanEntry_follows .refl
  | requestFieldWrite => exact execRequestFieldWrite_follows .refl
  | submit => exact execSubmit_follows .refl
  | free => exact execFree_follows .refl
  | cancel => exact execCancel_follows .refl
  | pause => exact execPause_follows .refl
  | resume => exact execResume_follows .refl
  | stewardEntryScan => exact execStewardEntryScan_follows .refl
  | transcriptReserve => exact execTranscriptReserve_follows .refl
  | promptReadDone => exact execPromptReadDone_follows .refl
  | journalAck => exact execJournalAck_follows .refl
  | ringQueueDrain => exact execRingQueueDrain_follows .refl
  | moderationTimer => exact execModerationTimer_follows .refl
  | stwModWrite => exact execStwModWrite_follows .refl
  | ringEnable => exact execRingEnable_follows .refl
  | parcelWrite => exact execParcelWrite_follows .refl
  | rotateExpiry => exact execRotateExpiry_follows .refl
  | resumeReady => exact execResumeReady_follows .refl
  | parcelReturnDone => exact execParcelReturnDone_follows .refl
  | parcelTtlExpiry => exact execParcelTtlExpiry_follows .refl
  | hardDeadline => exact execHardDeadline_follows .refl
  | stewardTakeover => exact execStewardTakeover_follows .refl
  | stewardSwap => exact execStewardSwap_follows .refl
  | standbyResync => exact execStandbyResync_follows .refl
  | standbyLoss => exact execStandbyLoss_follows .refl
  | pairingWrite => exact execPairingWrite_follows .refl
  | smifortEnable => exact execSmifortEnable_follows .refl
  | smiSqPoll => exact execSmiSqPoll_follows .refl
  | s2Generate => exact execS2Generate_follows .refl
  | s2Cancel => exact execS2Cancel_follows .refl
  | auxInputLoss => exact execAuxInputLoss_follows .refl
  | mainInputLoss => exact execMainInputLoss_follows .refl
  | converterFail => exact execConverterFail_follows .refl
  | phaseFail => exact execPhaseFail_follows .refl
  | transitRegulatorFault => exact execTransitRegulatorFault_follows .refl
  | spillwayBoost => exact execSpillwayBoost_follows .refl
  | spillwayShunt => exact execSpillwayShunt_follows .refl
  | clockStretchStart => exact execClockStretchStart_follows .refl
  | clockStretchEnd => exact execClockStretchEnd_follows .refl
  | deepDroop => exact execDeepDroop_follows .refl
  | vminClear => exact execVminClear_follows .refl
  | quadrantPowerRequest => exact execQuadrantPowerRequest_follows .refl
  | quadrantTransitionDone => exact execQuadrantTransitionDone_follows .refl
  | wakeStart => exact execWakeStart_follows .refl
  | wakeWaitExpiry => exact execWakeWaitExpiry_follows .refl
  | wakeStageAdvance => exact execWakeStageAdvance_follows .refl
  | wakeFail => exact execWakeFail_follows .refl
  | supplyAnomaly => exact execSupplyAnomaly_follows .refl
  | pwrReactiveClear => exact execPwrReactiveClear_follows .refl
  | pwrAlertAssert => exact execPwrAlertAssert_follows .refl
  | pwrAlertRelease => exact execPwrAlertRelease_follows .refl
  | alertHoldExpiry => exact execAlertHoldExpiry_follows .refl
  | internalAlert => exact execInternalAlert_follows .refl
  | ageingMeasure => exact execAgeingMeasure_follows .refl
  | thetaUpdate => exact execThetaUpdate_follows .refl
  | rebase => exact execRebase_follows .refl
  | monitorStaleTimeout => exact execMonitorStaleTimeout_follows .refl
  | junctionOverLimit => exact execJunctionOverLimit_follows .refl
  | junctionHot => exact execJunctionHot_follows .refl
  | junctionTrip => exact execJunctionTrip_follows .refl
  | stackHot85 => exact execStackHot85_follows .refl
  | stackHot95 => exact execStackHot95_follows .refl
  | inletHigh => exact execInletHigh_follows .refl
  | flowLow => exact execFlowLow_follows .refl
  | moduleThermalShutdown => exact execModuleThermalShutdown_follows .refl
  | leakSensed => exact execLeakSensed_follows .refl
  | siteRelease => exact execSiteRelease_follows .refl
  | forecastUpdate => exact execForecastUpdate_follows .refl
  | warmingRotate => exact execWarmingRotate_follows .refl
  | regionOff => exact execRegionOff_follows .refl
  | regionOn => exact execRegionOn_follows .refl
  | calPassReq => exact execCalPassReq_follows .refl
  | calSolveDone => exact execCalSolveDone_follows .refl
  | snap => exact execSnap_follows .refl
  | restore => exact execRestore_follows .refl
  | monitorCalibration => exact execMonitorCalibration_follows .refl
  | coldStart => exact execColdStart_follows .refl
  | mainInputInRange => exact execMainInputInRange_follows .refl
  | acceptTopology => exact execAcceptTopology_follows .refl
  | tileReset => exact execTileReset_follows .refl
  | siteReset => exact execSiteReset_follows .refl
  | partReset => exact execPartReset_follows .refl
  | waferReset => exact execWaferReset_follows .refl
  | moduleWarm => exact execModuleWarm_follows .refl
  | resetDrainEnd => exact execResetDrainEnd_follows .refl
  | repairTile => exact execRepairTile_follows .refl
  | ptest => exact execPtest_follows .refl
  | perst => exact execPerst_follows .refl
  | vfFlr => exact execVfFlr_follows .refl
  | pfFlr => exact execPfFlr_follows .refl
  | tileFail => exact execTileFail_follows .refl
  | stackFail => exact execStackFail_follows .refl
  | rimDieFail => exact execRimDieFail_follows .refl
  | spareTileTest => exact execSpareTileTest_follows .refl
  | fwImageWrite => exact execFwImageWrite_follows .refl
  | fwStandbyReady => exact execFwStandbyReady_follows .refl
  | fwStandbyTimeout => exact execFwStandbyTimeout_follows .refl
  | fwConfirmExpiry => exact execFwConfirmExpiry_follows .refl
  | licInstall => exact execLicInstall_follows .refl
  | licRemove => exact execLicRemove_follows .refl
  | ideCheckFail => exact execIdeCheckFail_follows .refl
  | pcieLinkDown => exact execPcieLinkDown_follows .refl
  | ethPortDown => exact execEthPortDown_follows .refl
  | ethFrame => exact execEthFrame_follows .refl
  | ptpMessage => exact execPtpMessage_follows .refl
  | ptpLockLoss => exact execPtpLockLoss_follows .refl
  | ppsInPulse => exact execPpsInPulse_follows .refl
  | aqdLinkMessage => exact execAqdLinkMessage_follows .refl
  | aqdFlitReceive => exact execAqdFlitReceive_follows .refl
  | aqdAckTimeout => exact execAqdAckTimeout_follows .refl
  | aqdRetrainTimeout => exact execAqdRetrainTimeout_follows .refl
  | aqdTrainRetry => exact execAqdTrainRetry_follows .refl
  | aqdLaneSwap => exact execAqdLaneSwap_follows .refl
  | aqdStream => exact execAqdStream_follows .refl
  | aqdBind port tag part head lc lp nqt => exact execAqdBind_follows (_nqt := nqt) .refl
  | aqdEnd => exact execAqdEnd_follows .refl
  | aqdResult => exact execAqdResult_follows .refl
  | aqdLost => exact execAqdLost_follows .refl
  | aqdStop => exact execAqdStop_follows .refl
  | aqdDack => exact execAqdDack_follows .refl
  | aqdDbusy => exact execAqdDbusy_follows .refl
  | aqdMark => exact execAqdMark_follows .refl
  | markTimeout => exact execMarkTimeout_follows .refl
  | setFabricMode => exact execSetFabricMode_follows .refl
  | setChainPlan => exact execSetChainPlan_follows .refl
  | takeOwnership => exact execTakeOwnership_follows .refl
  | enrollOwner => exact execEnrollOwner_follows .refl
  | revokeOwner => exact execRevokeOwner_follows .refl
  | releaseOwnership => exact execReleaseOwnership_follows .refl
  | sessionLock => exact execSessionLock_follows .refl
  | sessionOpen => exact execSessionOpen_follows .refl
  | sessionHeartbeatLoss => exact execSessionHeartbeatLoss_follows .refl
  | getMeasurements => exact execGetMeasurements_follows .refl
  | mgmtRegisterAccess => exact execMgmtRegisterAccess_follows .refl
  | secNegWrite => exact execSecNegWrite_follows .refl
  | errInject => exact execErrInject_follows .refl
  | errLogData0Read => exact execErrLogData0Read_follows .refl
  | errLogData7Read => exact execErrLogData7Read_follows .refl
  | splitCountLoRead => exact execSplitCountLoRead_follows .refl
  | intEnableWrite => exact execIntEnableWrite_follows .refl
  | registerWrite => exact execRegisterWrite_follows .refl
  | createComplete => exact execCreateComplete_follows .refl
  | resizeComplete => exact execResizeComplete_follows .refl
  | internalAlertRelease => exact execInternalAlertRelease_follows .refl
  | spillwayReservoirRecharged => exact execSpillwayReservoirRecharged_follows .refl
  | thermalEpisodeEnd => exact execThermalEpisodeEnd_follows .refl
  | wakeRetry => exact execWakeRetry_follows .refl
  | pcieLinkUp => exact execPcieLinkUp_follows .refl
  | ethPortUp => exact execEthPortUp_follows .refl
  | sessionClose => exact execSessionClose_follows .refl
  | busMasterEnableChange => exact execBusMasterEnableChange_follows .refl
  | calTemperatureTrigger => exact execCalTemperatureTrigger_follows .refl

/-- A command that stores nothing answers a state with the same memory. -/
theorem exec_memSame {c : Instr} (h : storesNothing c = true) (s : State) : MemSameO s (exec c s) := by
  cases c with
  | ldin => exact execLdin_memSame .refl
  | mvm => exact execMvm_memSame .refl
  | clv => exact execClv_memSame .refl
  | mld => exact execMld_memSame .refl
  | mmul => exact execMmul_memSame .refl
  | vld => exact execVld_memSame .refl
  | vadd => exact execVadd_memSame .refl
  | vsub => exact execVsub_memSame .refl
  | vmul => exact execVmul_memSame .refl
  | vfma => exact execVfma_memSame .refl
  | vmax => exact execVmax_memSame .refl
  | vmin => exact execVmin_memSame .refl
  | vexp2 => exact execVexp2_memSame .refl
  | vrcp => exact execVrcp_memSame .refl
  | vrsq => exact execVrsq_memSame .refl
  | vlog2 => exact execVlog2_memSame .refl
  | vred => exact execVred_memSame .refl
  | vsel => exact execVsel_memSame .refl
  | vbc => exact execVbc_memSame .refl
  | vcvt => exact execVcvt_memSame .refl
  | vrot => exact execVrot_memSame .refl
  | tagTimeout => exact execTagTimeout_memSame .refl
  | deliverySend => exact execDeliverySend_memSame .refl
  | deliveryAck => exact execDeliveryAck_memSame .refl
  | deliveryTimeout => exact execDeliveryTimeout_memSame .refl
  | scrubRow => exact execScrubRow_memSame .refl
  | basinRowSpare => exact execBasinRowSpare_memSame .refl
  | beatArrival => exact execBeatArrival_memSame .refl
  | expressStationPass => exact execExpressStationPass_memSame .refl
  | crossingRelease => exact execCrossingRelease_memSame .refl
  | programEnd => exact execProgramEnd_memSame .refl
  | regionReport => exact execRegionReport_memSame .refl
  | rootDeadline => exact execRootDeadline_memSame .refl
  | replayBoundary => exact execReplayBoundary_memSame .refl
  | recomputeDone => exact execRecomputeDone_memSame .refl
  | faultedStepBoundary => exact execFaultedStepBoundary_memSame .refl
  | attemptStart => exact execAttemptStart_memSame .refl
  | abort => exact execAbort_memSame .refl
  | csdHoldSet => exact execCsdHoldSet_memSame .refl
  | csdHoldClear => exact execCsdHoldClear_memSame .refl
  | csdRootSwap => exact execCsdRootSwap_memSame .refl
  | rootTakeover => exact execRootTakeover_memSame .refl
  | treeMessageRepeat => exact execTreeMessageRepeat_memSame .refl
  | goReissue => exact execGoReissue_memSame .refl
  | shardFetchError => exact execShardFetchError_memSame .refl
  | serverEntryValid => exact execServerEntryValid_memSame .refl
  | serverQpError => exact execServerQpError_memSame .refl
  | streamPlanEntry => exact execStreamPlanEntry_memSame .refl
  | requestFieldWrite => exact execRequestFieldWrite_memSame .refl
  | submit => exact execSubmit_memSame .refl
  | free => exact execFree_memSame .refl
  | cancel => exact execCancel_memSame .refl
  | pause => exact execPause_memSame .refl
  | resume => exact execResume_memSame .refl
  | stewardEntryScan => exact execStewardEntryScan_memSame .refl
  | transcriptReserve => exact execTranscriptReserve_memSame .refl
  | moderationTimer => exact execModerationTimer_memSame .refl
  | stwModWrite => exact execStwModWrite_memSame .refl
  | rotateExpiry => exact execRotateExpiry_memSame .refl
  | parcelReturnDone => exact execParcelReturnDone_memSame .refl
  | parcelTtlExpiry => exact execParcelTtlExpiry_memSame .refl
  | hardDeadline => exact execHardDeadline_memSame .refl
  | stewardSwap => exact execStewardSwap_memSame .refl
  | standbyResync => exact execStandbyResync_memSame .refl
  | standbyLoss => exact execStandbyLoss_memSame .refl
  | smifortEnable => exact execSmifortEnable_memSame .refl
  | transitRegulatorFault => exact execTransitRegulatorFault_memSame .refl
  | spillwayBoost => exact execSpillwayBoost_memSame .refl
  | spillwayShunt => exact execSpillwayShunt_memSame .refl
  | clockStretchStart => exact execClockStretchStart_memSame .refl
  | clockStretchEnd => exact execClockStretchEnd_memSame .refl
  | deepDroop => exact execDeepDroop_memSame .refl
  | vminClear => exact execVminClear_memSame .refl
  | quadrantPowerRequest => exact execQuadrantPowerRequest_memSame .refl
  | wakeStart => exact execWakeStart_memSame .refl
  | wakeWaitExpiry => exact execWakeWaitExpiry_memSame .refl
  | wakeStageAdvance => exact execWakeStageAdvance_memSame .refl
  | wakeFail => exact execWakeFail_memSame .refl
  | supplyAnomaly => exact execSupplyAnomaly_memSame .refl
  | pwrReactiveClear => exact execPwrReactiveClear_memSame .refl
  | pwrAlertAssert => exact execPwrAlertAssert_memSame .refl
  | pwrAlertRelease => exact execPwrAlertRelease_memSame .refl
  | alertHoldExpiry => exact execAlertHoldExpiry_memSame .refl
  | internalAlert => exact execInternalAlert_memSame .refl
  | ageingMeasure => exact execAgeingMeasure_memSame .refl
  | thetaUpdate => exact execThetaUpdate_memSame .refl
  | rebase => exact execRebase_memSame .refl
  | monitorStaleTimeout => exact execMonitorStaleTimeout_memSame .refl
  | junctionOverLimit => exact execJunctionOverLimit_memSame .refl
  | junctionHot => exact execJunctionHot_memSame .refl
  | stackHot85 => exact execStackHot85_memSame .refl
  | stackHot95 => exact execStackHot95_memSame .refl
  | inletHigh => exact execInletHigh_memSame .refl
  | flowLow => exact execFlowLow_memSame .refl
  | siteRelease => exact execSiteRelease_memSame .refl
  | warmingRotate => exact execWarmingRotate_memSame .refl
  | regionOff => exact execRegionOff_memSame .refl
  | regionOn => exact execRegionOn_memSame .refl
  | calPassReq => exact execCalPassReq_memSame .refl
  | calSolveDone => exact execCalSolveDone_memSame .refl
  | restore => exact execRestore_memSame .refl
  | monitorCalibration => exact execMonitorCalibration_memSame .refl
  | tileReset => exact execTileReset_memSame .refl
  | siteReset => exact execSiteReset_memSame .refl
  | partReset => exact execPartReset_memSame .refl
  | waferReset => exact execWaferReset_memSame .refl
  | vfFlr => exact execVfFlr_memSame .refl
  | pfFlr => exact execPfFlr_memSame .refl
  | fwImageWrite => exact execFwImageWrite_memSame .refl
  | fwStandbyTimeout => exact execFwStandbyTimeout_memSame .refl
  | fwConfirmExpiry => exact execFwConfirmExpiry_memSame .refl
  | licInstall => exact execLicInstall_memSame .refl
  | licRemove => exact execLicRemove_memSame .refl
  | pcieLinkDown => exact execPcieLinkDown_memSame .refl
  | ethPortDown => exact execEthPortDown_memSame .refl
  | ethFrame => exact execEthFrame_memSame .refl
  | ptpMessage => exact execPtpMessage_memSame .refl
  | ptpLockLoss => exact execPtpLockLoss_memSame .refl
  | ppsInPulse => exact execPpsInPulse_memSame .refl
  | aqdLinkMessage => exact execAqdLinkMessage_memSame .refl
  | aqdFlitReceive => exact execAqdFlitReceive_memSame .refl
  | aqdAckTimeout => exact execAqdAckTimeout_memSame .refl
  | aqdRetrainTimeout => exact execAqdRetrainTimeout_memSame .refl
  | aqdTrainRetry => exact execAqdTrainRetry_memSame .refl
  | aqdLaneSwap => exact execAqdLaneSwap_memSame .refl
  | aqdEnd => exact execAqdEnd_memSame .refl
  | aqdResult => exact execAqdResult_memSame .refl
  | aqdLost => exact execAqdLost_memSame .refl
  | aqdStop => exact execAqdStop_memSame .refl
  | aqdDack => exact execAqdDack_memSame .refl
  | aqdDbusy => exact execAqdDbusy_memSame .refl
  | aqdMark => exact execAqdMark_memSame .refl
  | markTimeout => exact execMarkTimeout_memSame .refl
  | setFabricMode => exact execSetFabricMode_memSame .refl
  | setChainPlan => exact execSetChainPlan_memSame .refl
  | takeOwnership => exact execTakeOwnership_memSame .refl
  | enrollOwner => exact execEnrollOwner_memSame .refl
  | revokeOwner => exact execRevokeOwner_memSame .refl
  | releaseOwnership => exact execReleaseOwnership_memSame .refl
  | sessionLock => exact execSessionLock_memSame .refl
  | sessionOpen => exact execSessionOpen_memSame .refl
  | sessionHeartbeatLoss => exact execSessionHeartbeatLoss_memSame .refl
  | getMeasurements => exact execGetMeasurements_memSame .refl
  | errLogData0Read => exact execErrLogData0Read_memSame .refl
  | errLogData7Read => exact execErrLogData7Read_memSame .refl
  | splitCountLoRead => exact execSplitCountLoRead_memSame .refl
  | internalAlertRelease => exact execInternalAlertRelease_memSame .refl
  | spillwayReservoirRecharged => exact execSpillwayReservoirRecharged_memSame .refl
  | thermalEpisodeEnd => exact execThermalEpisodeEnd_memSame .refl
  | wakeRetry => exact execWakeRetry_memSame .refl
  | pcieLinkUp => exact execPcieLinkUp_memSame .refl
  | ethPortUp => exact execEthPortUp_memSame .refl
  | sessionClose => exact execSessionClose_memSame .refl
  | busMasterEnableChange => exact execBusMasterEnableChange_memSame .refl
  | calTemperatureTrigger => exact execCalTemperatureTrigger_memSame .refl
  | _ => exact absurd h Bool.false_ne_true

/-- A command of a tile's unit leaves what lies beside the tiles. -/
theorem exec_beside {c : Instr} (h : unitCommand c = true) (s : State) : BesideO s (exec c s) := by
  cases c with
  | ldin => exact execLdin_beside .refl
  | mvm => exact execMvm_beside .refl
  | mvmComplete => exact execMvmComplete_beside .refl
  | red => exact execRed_beside .refl
  | wrb => exact execWrb_beside .refl
  | wrbComplete => exact execWrbComplete_beside .refl
  | rdb => exact execRdb_beside .refl
  | clv => exact execClv_beside .refl
  | mld => exact execMld_beside .refl
  | mmul => exact execMmul_beside .refl
  | mout => exact execMout_beside .refl
  | vld => exact execVld_beside .refl
  | vst => exact execVst_beside .refl
  | vadd => exact execVadd_beside .refl
  | vsub => exact execVsub_beside .refl
  | vmul => exact execVmul_beside .refl
  | vfma => exact execVfma_beside .refl
  | vmax => exact execVmax_beside .refl
  | vmin => exact execVmin_beside .refl
  | vexp2 => exact execVexp2_beside .refl
  | vrcp => exact execVrcp_beside .refl
  | vrsq => exact execVrsq_beside .refl
  | vlog2 => exact execVlog2_beside .refl
  | vred => exact execVred_beside .refl
  | vsel => exact execVsel_beside .refl
  | vbc => exact execVbc_beside .refl
  | vcvt => exact execVcvt_beside .refl
  | vqnt => exact execVqnt_beside .refl
  | vrot => exact execVrot_beside .refl
  | attend => exact execAttend_beside .refl
  | sample => exact execSample_beside .refl
  | cmrg => exact execCmrg_beside .refl
  | sluiceSlotIssue => exact execSluiceSlotIssue_beside .refl
  | _ => exact absurd h Bool.false_ne_true

/-- The state that a command answers is the one that its meaning puts. -/
theorem eq_of_answers {s t u : State} {c : Instr} (h : exec c s = .next t) (k : exec c s = .next u) : u = t :=
  Host.Outcome.next.inj (k.symm.trans h)

/-- Settles O1: a step takes the front command. -/
theorem stepRunsFrontCommand : Obligations.StepRunsFrontCommand := by
  unfold Obligations.StepRunsFrontCommand
  intro c s q
  rfl

theorem step_of_empty {s : State} (h : s.pending = []) : step s = .next s := by
  simp [step, h]

theorem step_of_front {s : State} {c : Instr} {q : List Instr} (h : s.pending = c :: q) : step s = exec c { s with pending := q } := by
  simp [step, h]

/-- Settles O2: with nothing waiting, a step has nothing to run. -/
theorem emptyQueueIdles : Obligations.EmptyQueueIdles := fun _ h => step_of_empty h

/-- Settles O3: the lemma of each command's meaning gives its answer. -/
theorem everyCommandAnswers : Obligations.EveryCommandAnswers := by
  unfold Obligations.EveryCommandAnswers
  intro c s
  obtain ⟨t, hexec, hfollows⟩ := exec_follows c s
  exact ⟨t, hexec, hfollows.pending⟩

/-- Settles O4: after reset the memory, the sessions, the owner keys and the log list nothing. -/
theorem invariantAtReset : Obligations.InvariantAtReset := by
  unfold Obligations.InvariantAtReset
  refine ⟨Memory.empty_wf, ⟨Map.empty_wf, ?_, Map.empty_wf, ?_⟩, ?_⟩ <;>
    · intro k hk
      exact absurd hk Bool.false_ne_true

/-- Settles O5: taking a command off the queue moves nothing that the invariant speaks of, and every command keeps it. -/
theorem everyStepKeepsTheInvariant : Obligations.EveryStepKeepsTheInvariant := by
  unfold Obligations.EveryStepKeepsTheInvariant
  intro s t hmem hsess hlog hstep
  cases hq : s.pending with
  | nil =>
    obtain rfl : s = t := Host.Outcome.next.inj ((step_of_empty hq).symm.trans hstep)
    exact ⟨hmem, hsess, hlog⟩
  | cons c q =>
    obtain ⟨u, hexec, hfollows⟩ := exec_follows c { s with pending := q }
    obtain rfl : u = t := eq_of_answers ((step_of_front hq).symm.trans hstep) hexec
    exact ⟨hfollows.mem hmem, hfollows.sess hsess, hfollows.log hlog⟩

/-- What an appended record leaves at the other indices: it drops the record 16,777,216 before it, if there is one. -/
theorem State.appendLog_get?_other (s : State) (r : FaultRec) {k : Nat} (hk : k ≠ s.logTail) (hkept : s.logTail ≠ k + 16777216) :
    (s.appendLog r).log.get? k = s.log.get? k := by
  simp only [State.appendLog, Map.get?_put, if_neg hk.symm]
  split
  · rw [Map.get?_del, if_neg (by omega)]
  · rfl

/-- Settles O6: the record appended stands at TAIL, and the one dropped is no longer among the most recent. -/
theorem logKeepsTheMostRecentRecords : Obligations.LogKeepsTheMostRecentRecords := by
  unfold Obligations.LogKeepsTheMostRecentRecords
  intro s r _
  refine ⟨Map.get?_put_same .., rfl, fun k hk hrecent => ?_⟩
  exact s.appendLog_get?_other r (by omega) (by omega)

/-- Settles O7: each of these commands leaves the memory itself. -/
theorem storingNothingLeavesMemory : Obligations.StoringNothingLeavesMemory := by
  unfold Obligations.StoringNothingLeavesMemory
  intro c s t hc hexec
  obtain ⟨u, hu, hmem⟩ := exec_memSame hc s
  obtain rfl := eq_of_answers hexec hu
  exact hmem.read

/-- Settles O8: each unit's commands write tiles, their registers and records only. -/
theorem tileCommandsLeaveTheRest : Obligations.TileCommandsLeaveTheRest := by
  unfold Obligations.TileCommandsLeaveTheRest
  intro c s t hc hexec
  obtain ⟨u, hu, hbeside⟩ := exec_beside hc s
  obtain rfl := eq_of_answers hexec hu
  exact hbeside.all

end Sys2Proof.Machine
end

section
/-! PROOF. R63: with ideal codes the narrow accumulator holds the dot product. Without overflow it holds the sum of what it was given; the codes'
sum splits by rows; and in each row the bits of the column weigh to its signed weight and the slices to the offset element. -/

namespace Sys2Proof.Machine

open Sys2Proof

/-! ### Without overflow the accumulator holds the sum -/

theorem narrowAdd_of_kept {a d : Int} (h : (narrowAdd (a, false) d).2 = false) : narrowAdd (a, false) d = (a + d, false) := by
  by_cases habove : 524287 < a + d
  · simp [narrowAdd_of_above habove] at h
  · by_cases hbelow : a + d < -524288
    · simp [narrowAdd_of_below hbelow] at h
    · exact narrowAdd_of_inRange (by omega) (by omega)

/-- An overflow stays, so without one at the end there was none before. -/
theorem narrowAdd_kept_of_foldl {st : Int × Bool} {ds : List Int} (h : (ds.foldl narrowAdd st).2 = false) : st.2 = false := by
  obtain ⟨a, o⟩ := st
  cases o with
  | false => rfl
  | true => simp at h

theorem foldl_narrowAdd_of_kept (ds : List Int) : ∀ a : Int, (ds.foldl narrowAdd (a, false)).2 = false →
    (ds.foldl narrowAdd (a, false)).1 = a + ds.sum := by
  induction ds with
  | nil => intro a _; simp
  | cons d ds ih =>
    intro a h
    rw [List.foldl_cons] at h ⊢
    have hfirst := narrowAdd_of_kept (narrowAdd_kept_of_foldl h)
    rw [hfirst] at h ⊢
    rw [ih _ h, List.sum_cons, Int.add_assoc]

theorem narrowValue_of_kept {a8 : Bool} {cs : Int} {codes : List Int} (h : (narrowValue a8 cs codes).2 = false) :
    (narrowValue a8 cs codes).1 = -(if a8 then 128 else 8) * cs + codes.sum := by
  unfold narrowValue at h ⊢
  have hbias := narrowAdd_of_kept (narrowAdd_kept_of_foldl h)
  rw [hbias] at h ⊢
  rw [foldl_narrowAdd_of_kept _ _ h, Int.zero_add]

/-! ### The bits of a column weigh to its weight (Table 3-1) -/

/-- The conversions of a converter that read weight column `c`, and its converter. -/
def convBits (fmt c : Nat) : List Nat := if fmt = 0 then [0, 1, 2, 3] else if fmt = 1 then [0, 1, 2] else [2 * (c % 2), 2 * (c % 2) + 1]
def convGroup (fmt c : Nat) : Nat := if fmt = 0 || fmt = 1 then c else c / 2

theorem columnCodes_eq (fmt slices c : Nat) (code : Nat → Nat → Nat → Nat) :
    columnCodes fmt slices c code = (upTo slices).flatMap (fun k =>
      (convBits fmt c).map (fun b => bitWeight fmt b * (4 ^ k : Nat) * (code k b (convGroup fmt c) : Int))) := rfl

theorem b2n_bitAt (x i b : Nat) : b2n (bitAt x (i + b)) = (x >>> i) / 2 ^ b % 2 := by
  unfold b2n bitAt
  rw [Nat.shiftRight_add, Nat.shiftRight_eq_div_pow (x >>> i)]
  simp only [decide_eq_true_eq]
  split <;> omega

/-- The signed value of the bits that the conversions of a column read in one row. -/
def bitsWeighed (fmt x c : Nat) : Int := ((convBits fmt c).map (fun b => bitWeight fmt b * (b2n (bitAt x (4 * convGroup fmt c + b)) : Int))).sum

theorem bitsWeighed_k4 (x c : Nat) : bitsWeighed 0 x c = sext 4 (x >>> (4 * c)) := by
  change (1 * (b2n (bitAt x (4 * c + 0)) : Int) + (2 * (b2n (bitAt x (4 * c + 1)) : Int) + (4 * (b2n (bitAt x (4 * c + 2)) : Int) +
    (-8 * (b2n (bitAt x (4 * c + 3)) : Int) + 0)))) = _
  simp only [b2n_bitAt, sext]
  generalize x >>> (4 * c) = y
  omega

theorem bitsWeighed_k3 (x c : Nat) : bitsWeighed 1 x c = sext 3 (x >>> (4 * c)) := by
  change (1 * (b2n (bitAt x (4 * c + 0)) : Int) + (2 * (b2n (bitAt x (4 * c + 1)) : Int) + (-4 * (b2n (bitAt x (4 * c + 2)) : Int) + 0))) = _
  simp only [b2n_bitAt, sext]
  generalize x >>> (4 * c) = y
  omega

/-- The two conversions of the formats of two bits read adjacent bits. -/
theorem bitsWeighed_pair {fmt : Nat} (hfmt : 2 ≤ fmt) (x c : Nat) : bitsWeighed fmt x c =
    bitWeight fmt (2 * (c % 2)) * ((x >>> (2 * c) % 2 : Nat) : Int) + bitWeight fmt (2 * (c % 2) + 1) * ((x >>> (2 * c) / 2 % 2 : Nat) : Int) := by
  have hne0 : fmt ≠ 0 := by omega
  have hne1 : fmt ≠ 1 := by omega
  have hlow : 4 * (c / 2) + 2 * (c % 2) = 2 * c + 0 := by omega
  have hhigh : 4 * (c / 2) + (2 * (c % 2) + 1) = 2 * c + 1 := by omega
  simp only [bitsWeighed, convBits, convGroup, hne0, hne1, decide_false, Bool.or_self, Bool.false_eq_true, if_false, List.map_cons, List.map_nil,
    List.sum_cons, List.sum_nil, Int.add_zero]
  rw [hlow, hhigh, b2n_bitAt, b2n_bitAt, Nat.pow_zero, Nat.div_one, Nat.pow_one]

theorem bitsWeighed_eq_weightOf {fmt : Nat} (hfmt : fmt < 4) (x c : Nat) : bitsWeighed fmt x c = weightOf fmt x c := by
  have heven : 2 * (c % 2) % 2 = 0 := by omega
  have hodd : (2 * (c % 2) + 1) % 2 = 1 := by omega
  have hall : fmt = 0 ∨ fmt = 1 ∨ fmt = 2 ∨ fmt = 3 := by omega
  rcases hall with rfl | rfl | rfl | rfl
  · exact bitsWeighed_k4 x c
  · exact bitsWeighed_k3 x c
  · rw [bitsWeighed_pair (by decide)]
    simp only [weightOf, bitWeight, sext, heven, hodd]
    generalize x >>> (2 * c) = y
    simp
    omega
  · rw [bitsWeighed_pair (by decide)]
    simp only [weightOf, bitWeight, heven, hodd, Nat.shiftRight_add, Nat.shiftRight_succ, Nat.shiftRight_zero]
    simp [Int.sub_eq_add_neg]

/-! ### The slices weigh to the offset element (R33) -/

/-- The value of the slices of an element. -/
def slicesWeighed (a8 : Bool) (a : Int) : Int := ((upTo (if a8 then 4 else 2)).map (fun k => ((4 ^ k : Nat) : Int) * (sliceOf a8 k a : Int))).sum

theorem slicesWeighed_eq {a8 : Bool} {a : Int} (hlo : -(if a8 then 128 else 8 : Int) ≤ a) (hhi : a < (if a8 then 128 else 8 : Int)) :
    slicesWeighed a8 a = a + (if a8 then 128 else 8) := by
  cases a8 with
  | false =>
    simp only [Bool.false_eq_true, if_false] at hlo hhi
    simp [slicesWeighed, upTo, List.range_succ, sliceOf, trunc]
    omega
  | true =>
    simp only [if_true] at hlo hhi
    simp [slicesWeighed, upTo, List.range_succ, sliceOf, trunc]
    omega

/-! ### The codes of ideal conversions, row by row -/

/-- The codes of ideal conversions of the rows. -/
def idealCode (rows : List (Nat × Int)) (a8 : Bool) (k b g : Nat) : Nat := idealSum rows a8 k (4 * g + b)

section
variable {α : Type} (l : List α)

theorem sum_map_mul_const (f : α → Int) (x : Int) : (l.map f).sum * x = (l.map fun a => f a * x).sum := by
  induction l with
  | nil => exact Int.zero_mul x
  | cons a l ih => rw [List.map_cons, List.map_cons, List.sum_cons, List.sum_cons, Int.add_mul, ih]
theorem sum_map_const_mul (f : α → Int) (x : Int) : x * (l.map f).sum = (l.map fun a => x * f a).sum := by
  rw [Int.mul_comm, sum_map_mul_const]
  exact congrArg List.sum (List.map_congr_left fun a _ => Int.mul_comm ..)
theorem sum_map_add_sum_map (f g : α → Int) : (l.map f).sum + (l.map g).sum = (l.map fun a => f a + g a).sum := by
  induction l with
  | nil => rfl
  | cons a l ih =>
    simp only [List.map_cons, List.sum_cons]
    omega
theorem sum_map_zero : (l.map fun _ => (0 : Int)).sum = 0 := by
  induction l with
  | nil => rfl
  | cons a l ih => rw [List.map_cons, List.sum_cons, ih, Int.zero_add]
theorem sum_flatMap_eq (f : α → List Int) : (l.flatMap f).sum = (l.map fun a => (f a).sum).sum := by
  induction l with
  | nil => rfl
  | cons a l ih => rw [List.flatMap_cons, List.sum_append, ih, List.map_cons, List.sum_cons]
end

theorem idealSum_cons (r : Nat × Int) (rows : List (Nat × Int)) (a8 : Bool) (k bc : Nat) :
    idealSum (r :: rows) a8 k bc = b2n (bitAt r.1 bc) * sliceOf a8 k r.2 + idealSum rows a8 k bc := by
  unfold idealSum b2n
  rw [← List.sum_eq_foldl, ← List.sum_eq_foldl, List.map_cons, List.sum_cons]
  split <;> simp only [if_true, if_false, Nat.one_mul, Nat.zero_mul, *]

theorem sum_columnCodes (fmt slices c : Nat) (code : Nat → Nat → Nat → Nat) :
    (columnCodes fmt slices c code).sum = ((upTo slices).map (fun k =>
      ((convBits fmt c).map (fun b => bitWeight fmt b * (4 ^ k : Nat) * (code k b (convGroup fmt c) : Int))).sum)).sum := by
  rw [columnCodes_eq, sum_flatMap_eq]

theorem sum_columnCodes_cons (fmt c : Nat) (a8 : Bool) (r : Nat × Int) (rows : List (Nat × Int)) :
    (columnCodes fmt (if a8 then 4 else 2) c (idealCode (r :: rows) a8)).sum =
      bitsWeighed fmt r.1 c * slicesWeighed a8 r.2 + (columnCodes fmt (if a8 then 4 else 2) c (idealCode rows a8)).sum := by
  have hslice : ∀ k, ((convBits fmt c).map (fun b => bitWeight fmt b * (4 ^ k : Nat) * (idealCode (r :: rows) a8 k b (convGroup fmt c) : Int))).sum =
      bitsWeighed fmt r.1 c * (((4 ^ k : Nat) : Int) * (sliceOf a8 k r.2 : Int)) +
      ((convBits fmt c).map (fun b => bitWeight fmt b * (4 ^ k : Nat) * (idealCode rows a8 k b (convGroup fmt c) : Int))).sum := by
    intro k
    rw [bitsWeighed, sum_map_mul_const, sum_map_add_sum_map]
    refine congrArg List.sum (List.map_congr_left fun b _ => ?_)
    rw [idealCode, idealSum_cons, idealCode]
    rw [Int.natCast_add, Int.natCast_mul]
    grind
  rw [sum_columnCodes, sum_columnCodes, slicesWeighed, sum_map_const_mul, sum_map_add_sum_map]
  exact congrArg List.sum (List.map_congr_left fun k _ => hslice k)

theorem sum_columnCodes_nil (fmt slices c : Nat) (a8 : Bool) : (columnCodes fmt slices c (idealCode [] a8)).sum = 0 := by
  rw [sum_columnCodes]
  simp only [idealCode, idealSum, List.map_nil, List.foldl_nil, Int.natCast_zero, Int.mul_zero, sum_map_zero]

/-- The codes' sum is the dot product with the offset elements. -/
theorem sum_columnCodes_ideal {fmt : Nat} (hfmt : fmt < 4) (c : Nat) (a8 : Bool) (rows : List (Nat × Int))
    (hrows : ∀ r ∈ rows, -(if a8 then 128 else 8 : Int) ≤ r.2 ∧ r.2 < (if a8 then 128 else 8 : Int)) :
    (columnCodes fmt (if a8 then 4 else 2) c (idealCode rows a8)).sum =
      (rows.map (fun r => weightOf fmt r.1 c * r.2)).sum + (if a8 then 128 else 8) * (rows.map (fun r => weightOf fmt r.1 c)).sum := by
  induction rows with
  | nil => simp [sum_columnCodes_nil]
  | cons r rows ih =>
    obtain ⟨hlo, hhi⟩ := hrows r List.mem_cons_self
    rw [sum_columnCodes_cons, bitsWeighed_eq_weightOf hfmt, slicesWeighed_eq hlo hhi, ih fun q hq => hrows q (List.mem_cons_of_mem _ hq)]
    simp only [List.map_cons, List.sum_cons]
    grind

/-- Settles O10: the first addition takes away what the offset of the elements adds to the codes. -/
theorem conversionsGiveTheDotProduct : Obligations.ConversionsGiveTheDotProduct := by
  unfold Obligations.ConversionsGiveTheDotProduct
  intro fmt c a8 rows hfmt hrows code cs v hkept
  have hcodes := sum_columnCodes_ideal hfmt c a8 rows hrows
  have hcs : cs = (rows.map (fun r => weightOf fmt r.1 c)).sum := List.sum_eq_foldl.symm
  calc v.1 = -(if a8 then 128 else 8) * cs + (columnCodes fmt (if a8 then 4 else 2) c (idealCode rows a8)).sum := narrowValue_of_kept hkept
    _ = (rows.map (fun r => weightOf fmt r.1 c * r.2)).sum := by rw [hcodes, hcs]; grind
    _ = _ := List.sum_eq_foldl

end Sys2Proof.Machine
end

section
/-! PROOF. R158: the Cascade count and the commit index of every partition. Every operation but those that end an attempt keeps both, said once for
each; then what ends an attempt. -/

namespace Sys2Proof.Machine

open Sys2Proof Sys2Proof.Safety

-- One proof after another: these many small proofs would otherwise wait for each other on a thread each.
set_option Elab.async false

/-- Every partition has the Cascade count and the commit index that it had. -/
structure SameCounts (a s : State) : Prop where
  count : ∀ p, (s.part p).count = (a.part p).count
  commitIdx : ∀ p, (s.part p).commitIdx = (a.part p).commitIdx
def SameCountsOpt (a : State) (o : Option State) : Prop := ∀ t, o = some t → SameCounts a t

theorem SameCounts.refl {a : State} : SameCounts a a := ⟨fun _ => rfl, fun _ => rfl⟩
theorem SameCounts.ite {a u v : State} {c : Prop} [Decidable c] (hu : SameCounts a u) (hv : SameCounts a v) : SameCounts a (if c then u else v) := by
  split <;> assumption
theorem SameCountsOpt.ite {a : State} {u v : Option State} {c : Prop} [Decidable c] (hu : SameCountsOpt a u) (hv : SameCountsOpt a v) :
    SameCountsOpt a (if c then u else v) := by
  split <;> assumption
theorem SameCountsOpt.some {a s : State} (h : SameCounts a s) : SameCountsOpt a (some s) := fun t e => by injection e with e; subst e; exact h
theorem SameCountsOpt.none {a : State} : SameCountsOpt a none := fun t e => by cases e
/-- A change that leaves the partitions alone. -/
theorem SameCounts.same {a s t : State} (h : SameCounts a s) (hparts : t.parts = s.parts) : SameCounts a t := by
  have hpart : ∀ p, t.part p = s.part p := fun p => by unfold State.part; rw [hparts]
  exact ⟨fun p => (congrArg _ (hpart p)).trans (h.count p), fun p => (congrArg _ (hpart p)).trans (h.commitIdx p)⟩
theorem foldl_sameCounts {a : State} {β : Type} {f : State → β → State} (hf : ∀ s b, SameCounts a s → SameCounts a (f s b)) {l : List β} :
    ∀ {s : State}, SameCounts a s → SameCounts a (l.foldl f s) := by
  induction l with
  | nil => intro s h; exact h
  | cons b r ih => intro s h; exact ih (hf s b h)
theorem foldl_sameCounts1 {a : State} {β γ : Type} {f : State × γ → β → State × γ} (hf : ∀ s b, SameCounts a s.1 → SameCounts a (f s b).1) {l : List β} :
    ∀ {s : State × γ}, SameCounts a s.1 → SameCounts a (l.foldl f s).1 := by
  induction l with
  | nil => intro s h; exact h
  | cons b r ih => intro s h; exact ih (hf s b h)

theorem State.setPart_sameCounts {pre s : State} (fo : SameCounts pre s) {p : Nat} {x : PartSt}
    (hx : x.count = (s.part p).count ∧ x.commitIdx = (s.part p).commitIdx) : SameCounts pre (s.setPart p x) := by
  refine ⟨fun q => ?_, fun q => ?_⟩ <;>
    · by_cases h : p = q
      · subst h
        simp [hx, fo.count, fo.commitIdx]
      · simp [State.part_setPart_other h, fo.count, fo.commitIdx]
theorem State.updPart_sameCounts {pre s : State} (fo : SameCounts pre s) {p : Nat} {f : PartSt → PartSt}
    (hf : ∀ x : PartSt, (f x).count = x.count ∧ (f x).commitIdx = x.commitIdx := by exact fun _ => ⟨rfl, rfl⟩) : SameCounts pre (s.updPart p f) :=
  State.setPart_sameCounts fo (hf _)

theorem State.setReg_sameCounts {pre : State} {s : State} (fo : SameCounts pre s) {f : Fld} {inst : Nat} {i : Nat} {v : Nat} : SameCounts pre (s.setReg f inst i v) := by
  unfold State.setReg
  exact fo.same (Eq.refl _)

theorem State.predictors_sameCounts {pre : State} {s : State} (fo : SameCounts pre s) {t : Nat} : SameCounts pre (s.predictors t) := by
  unfold State.predictors
  apply foldl_sameCounts
  · intro x1 x2 h1
    exact State.setReg_sameCounts h1
  · exact fo

theorem State.dropBeats_sameCounts {pre : State} {s : State} (fo : SameCounts pre s) {p : Nat} : SameCounts pre (s.dropBeats p) := by
  unfold State.dropBeats
  exact fo.same (Eq.refl _)

theorem State.onTiles_sameCounts {pre : State} {s : State} (fo : SameCounts pre s) {p : Nat} {f : TileSt → TileSt} : SameCounts pre (s.onTiles p f) := by
  unfold State.onTiles
  exact fo.same (Eq.refl _)

theorem State.lastFigures_sameCounts {pre : State} {s : State} (fo : SameCounts pre s) {t : Nat} : SameCounts pre (s.lastFigures t) := by
  unfold State.lastFigures
  extract_lets s1
  have h1 : SameCounts pre s1 := by
    unfold s1
    split
    · rename_i y1 y2 y3
      exact State.setReg_sameCounts (State.setReg_sameCounts fo)
    · exact fo
  clear_value s1
  split
  · rename_i y1 y2 y3
    exact State.setReg_sameCounts (State.setReg_sameCounts (State.setReg_sameCounts h1))
  · exact h1

theorem State.applyShadows_sameCounts {pre : State} {s : State} (fo : SameCounts pre s) {ok : Nat → Nat → Nat → Bool} : SameCounts pre (s.applyShadows ok) := by
  unfold State.applyShadows
  extract_lets s1
  exact fo.same (Eq.refl _)

theorem State.takeFree_sameCounts {pre : State} {s : State} (fo : SameCounts pre s) : SameCounts pre s.takeFree.snd := by
  unfold State.takeFree
  dsimp only
  exact fo.same (Eq.refl _)

theorem State.qualAll_sameCounts {pre : State} {s : State} (fo : SameCounts pre s) {ts : List Nat} : SameCounts pre (State.qualAll s ts) := by
  unfold State.qualAll
  extract_lets s1 s2 s3
  have h1 : SameCounts pre s1.snd := State.takeFree_sameCounts fo
  clear_value s1
  have h2 : SameCounts pre s2 := h1
  clear_value s2
  exact h2.same (Eq.refl _)

theorem State.appendLog_sameCounts {pre : State} {s : State} (fo : SameCounts pre s) {r : FaultRec} : SameCounts pre (s.appendLog r) := by
  unfold State.appendLog
  exact fo.same (Eq.refl _)

theorem State.emit_sameCounts {pre : State} {s : State} (fo : SameCounts pre s) {o : Out} : SameCounts pre (s.emit o) := by
  unfold State.emit
  exact fo.same (Eq.refl _)

theorem State.msix_sameCounts {pre : State} {s : State} (fo : SameCounts pre s) {fn : Nat} {vec : Nat} : SameCounts pre (s.msix fn vec) := by
  unfold State.msix
  extract_lets s1 s2
  apply SameCounts.ite
  · exact State.emit_sameCounts fo
  · exact fo.same (Eq.refl _)

theorem State.raiseInt_sameCounts {pre : State} {s : State} (fo : SameCounts pre s) {fn : Nat} {bit : Nat} : SameCounts pre (s.raiseInt fn bit) := by
  unfold State.raiseInt
  extract_lets s1 s2
  have h1 : SameCounts pre s2 := State.setReg_sameCounts fo
  clear_value s2
  exact SameCounts.ite fo (SameCounts.ite (State.msix_sameCounts h1) h1)

theorem State.addReg_sameCounts {pre : State} {s : State} (fo : SameCounts pre s) {f : Fld} {inst : Nat} {i : Nat} {d : Nat} : SameCounts pre (s.addReg f inst i d) := by
  unfold State.addReg
  exact State.setReg_sameCounts fo

theorem State.recordInts_sameCounts {pre : State} {s : State} (fo : SameCounts pre s) {r : FaultRec} : SameCounts pre (s.recordInts r) := by
  unfold State.recordInts
  extract_lets s1 s2 s3 s4 s5 s6 s7
  have h1 : SameCounts pre s2 := State.addReg_sameCounts fo
  clear_value s2
  have h2 : SameCounts pre s3 := SameCounts.ite (State.raiseInt_sameCounts h1) h1
  clear_value s3
  have h3 : SameCounts pre s4 := SameCounts.ite (State.raiseInt_sameCounts h2) h2
  clear_value s4
  have h4 : SameCounts pre s5 := SameCounts.ite (State.raiseInt_sameCounts h3) h3
  clear_value s5
  have h5 : SameCounts pre s6 := SameCounts.ite (State.raiseInt_sameCounts h4) h4
  clear_value s6
  have h6 : SameCounts pre s7 := by
    unfold s7
    split
    · rename_i y1 y2 y3
      exact SameCounts.ite (State.raiseInt_sameCounts h5) h5
    · exact h5
  clear_value s7
  exact SameCounts.ite (State.emit_sameCounts h6) h6

theorem State.record_sameCounts {pre : State} {s : State} (fo : SameCounts pre s) {r : Rec} : SameCounts pre (s.record r) := by
  unfold State.record
  extract_lets s1 s2
  have h1 : SameCounts pre s2 := State.recordInts_sameCounts (State.appendLog_sameCounts fo)
  clear_value s2
  split
  · rename_i y1 y2 y3
    exact SameCounts.ite (State.updPart_sameCounts h1) h1
  · exact h1

theorem State.tileRecord_sameCounts {pre : State} {s : State} (fo : SameCounts pre s) {t : Nat} {r : Rec} : SameCounts pre (s.tileRecord t r) := by
  unfold State.tileRecord
  exact State.record_sameCounts fo

theorem State.setSpares_sameCounts {pre : State} {s : State} (fo : SameCounts pre s) {f : Fld} {t : Nat} {n : Nat} {v : Nat} : SameCounts pre (State.setSpares s f t n v) := by
  unfold State.setSpares
  extract_lets s1
  have h1 : SameCounts pre s1 := State.setReg_sameCounts fo
  clear_value s1
  exact SameCounts.ite (State.setReg_sameCounts h1) h1

theorem State.remapCommit_sameCounts {pre : State} {s : State} (fo : SameCounts pre s) {t : Nat} {pos : Nat} : SameCounts pre (State.remapCommit s t pos) := by
  unfold State.remapCommit
  split
  · exact fo
  · rename_i y3 y4 y5 y6
    extract_lets s1 s2 s3 s4 s5 s6
    have h1 : SameCounts pre s3 := fo.same (Eq.refl _)
    clear_value s3
    have h2 : SameCounts pre s5 := State.setSpares_sameCounts h1
    clear_value s5
    have h3 : SameCounts pre s6 := SameCounts.ite h2 (State.setReg_sameCounts h2)
    clear_value s6
    exact SameCounts.ite (State.tileRecord_sameCounts h3) fo

theorem State.calKeep_sameCounts {pre : State} {s : State} (fo : SameCounts pre s) {p : Nat} : SameCounts pre (s.calKeep p) := by
  unfold State.calKeep
  exact fo.same (Eq.refl _)

theorem State.calRecord_sameCounts {pre : State} {s : State} (fo : SameCounts pre s) {t : Nat} {code : Nat} {cycle : Nat} {entry : Nat} {pos : Nat} {pl : Nat} {g : Nat} : SameCounts pre (s.calRecord t code cycle entry pos pl g) := by
  unfold State.calRecord
  extract_lets s1
  have h1 : SameCounts pre s1 := SameCounts.ite (State.addReg_sameCounts fo) fo
  clear_value s1
  exact State.tileRecord_sameCounts h1

theorem State.startPass_sameCounts {pre : State} {s : State} (fo : SameCounts pre s) {t : Nat} {pos : Nat} : SameCounts pre (s.startPass t pos) := by
  unfold State.startPass
  extract_lets s1 s2
  have h1 : SameCounts pre s2 := fo.same (Eq.refl _)
  clear_value s2
  exact State.setReg_sameCounts (State.setReg_sameCounts h1)

theorem State.needsSpare_sameCounts {pre : State} {s : State} (fo : SameCounts pre s) {t : Nat} {n : Nat} : SameCounts pre (State.needsSpare s t n) := by
  unfold State.needsSpare
  exact fo.same (Eq.refl _)

theorem State.failBank_sameCounts {pre : State} {s : State} (fo : SameCounts pre s) {t : Nat} {n : Nat} {pl : Nat} : SameCounts pre (State.failBank s t n pl) := by
  unfold State.failBank
  exact SameCounts.ite (State.setReg_sameCounts fo) fo

theorem State.arrayFault_sameCounts {pre : State} {s : State} (fo : SameCounts pre s) {t : Nat} {n : Nat} : SameCounts pre (State.arrayFault s t n) := by
  unfold State.arrayFault
  exact State.needsSpare_sameCounts (State.failBank_sameCounts (State.failBank_sameCounts fo))

theorem State.passEnds_sameCounts {pre : State} {s : State} (fo : SameCounts pre s) {t : Nat} {pos : Nat} {n : Nat} {sig : Nat × Nat} {cycle : Nat} {entry : Nat} : SameCounts pre (State.passEnds s t pos n sig cycle entry) := by
  unfold State.passEnds
  extract_lets s1 s2 s3 s4 s5 s6
  have h1 : SameCounts pre s5 := State.calRecord_sameCounts fo
  clear_value s5
  apply SameCounts.ite
  · apply SameCounts.ite
    · exact fo.same (Eq.refl _)
    · apply State.arrayFault_sameCounts
      exact h1.same (Eq.refl _)
  · exact fo.same (Eq.refl _)

theorem State.verifyFails_sameCounts {pre : State} {s : State} (fo : SameCounts pre s) {t : Nat} {pos : Nat} {p : PassSt} : SameCounts pre (s.verifyFails t pos p) := by
  unfold State.verifyFails
  extract_lets s1 s2
  have h1 : SameCounts pre s1 := State.calRecord_sameCounts (State.setReg_sameCounts fo)
  clear_value s1
  have h2 : SameCounts pre s2 := State.passEnds_sameCounts h1
  clear_value s2
  exact State.startPass_sameCounts h2

theorem State.sigmaCheck_sameCounts {pre : State} {s : State} (fo : SameCounts pre s) {t : Nat} {pos : Nat} : SameCounts pre (s.sigmaCheck t pos) := by
  unfold State.sigmaCheck
  exact SameCounts.ite (State.startPass_sameCounts fo) fo

theorem State.setTrims_sameCounts {pre : State} {s : State} (fo : SameCounts pre s) {t : Nat} {pos : Nat} {pl : Nat} {sig : Nat} : SameCounts pre (s.setTrims t pos pl sig) := by
  unfold State.setTrims
  extract_lets s1 s2
  exact fo.same (Eq.refl _)

theorem State.setTcal_sameCounts {pre : State} {s : State} (fo : SameCounts pre s) {t : Nat} {pos : Nat} : SameCounts pre (s.setTcal t pos) := by
  unfold State.setTcal
  exact fo.same (Eq.refl _)

theorem State.trimCommit_sameCounts {pre : State} {s : State} (fo : SameCounts pre s) {t : Nat} {pos : Nat} {p : PassSt} : SameCounts pre (s.trimCommit t pos p) := by
  unfold State.trimCommit
  extract_lets s1 s2 s3 s4 s5 s6 s7
  have h1 : SameCounts pre s3 := by
    unfold s3
    apply foldl_sameCounts
    · intro x1 x2 h1
      exact State.setTrims_sameCounts h1
    · exact fo
  clear_value s3
  have h2 : SameCounts pre s5 := h1.same (Eq.refl _)
  clear_value s5
  have h3 : SameCounts pre s6 := State.setTcal_sameCounts (State.setReg_sameCounts (State.setReg_sameCounts (State.setReg_sameCounts h2)))
  clear_value s6
  have h4 : SameCounts pre s7 := State.passEnds_sameCounts (State.addReg_sameCounts h3)
  clear_value s7
  exact SameCounts.ite (State.startPass_sameCounts h4) h4

theorem State.foregroundOnce_sameCounts {pre : State} {s : State} (fo : SameCounts pre s) {t : Nat} {pos : Nat} {pl : Nat} : SameCounts pre (s.foregroundOnce t pos pl) := by
  unfold State.foregroundOnce
  extract_lets s1 s2 s3 s4
  have h1 : SameCounts pre s1.snd := State.takeFree_sameCounts fo
  clear_value s1
  have h2 : SameCounts pre s3 := h1
  clear_value s3
  exact h2.same (Eq.refl _)

theorem State.foreground_sameCounts {pre : State} {s : State} (fo : SameCounts pre s) {t : Nat} {pos : Nat} {pl : Nat} : SameCounts pre (State.foreground s t pos pl) := by
  unfold State.foreground
  extract_lets s1 s2 s3 s4 s5
  have h1 : SameCounts pre s2 := State.foregroundOnce_sameCounts fo
  clear_value s2
  have h2 : SameCounts pre s3 := SameCounts.ite h1 (State.foregroundOnce_sameCounts h1)
  clear_value s3
  have h3 : SameCounts pre s4 := State.setReg_sameCounts (State.calRecord_sameCounts h2)
  clear_value s4
  have h4 : SameCounts pre s5 := by
    unfold s5
    apply SameCounts.ite
    · exact h2
    · split
      · exact State.arrayFault_sameCounts h3
      · exact h3
  clear_value s5
  exact State.qualAll_sameCounts h4

theorem State.spareCommit_sameCounts {pre : State} {s : State} (fo : SameCounts pre s) {t : Nat} : SameCounts pre (s.spareCommit t) := by
  unfold State.spareCommit
  apply SameCounts.ite
  · exact fo
  · apply State.foreground_sameCounts
    apply State.foreground_sameCounts
    exact fo.same (Eq.refl _)

theorem State.calCommit_sameCounts {pre : State} {s : State} (fo : SameCounts pre s) {p : Nat} : SameCounts pre (State.calCommit s p) := by
  unfold State.calCommit
  extract_lets s1 s2 s3 s4 s5
  have h1 : SameCounts pre s3 := State.calKeep_sameCounts fo
  clear_value s3
  have h2 : SameCounts pre s4 := by
    unfold s4
    apply foldl_sameCounts
    · intro x1 x2 h3
      extract_lets s6 s7 s8 s9
      have h4 : SameCounts pre s8 := State.remapCommit_sameCounts h3
      clear_value s8
      have h5 : SameCounts pre s9 := by
        unfold s9
        split
        · exact SameCounts.ite (State.trimCommit_sameCounts h4) (SameCounts.ite (State.verifyFails_sameCounts h4) h4)
        · exact h4
      clear_value s9
      exact State.spareCommit_sameCounts h5
    · exact h1
  clear_value s4
  have h6 : SameCounts pre s5 := by
    unfold s5
    apply foldl_sameCounts
    · intro x3 x4 h7
      exact State.sigmaCheck_sameCounts h7
    · exact h2
  clear_value s5
  exact State.qualAll_sameCounts h6

theorem State.commitTiles_sameCounts {pre : State} {s : State} (fo : SameCounts pre s) {p : Nat} : SameCounts pre (s.commitTiles p) := by
  unfold State.commitTiles
  extract_lets s1 s2 s3
  have h1 : SameCounts pre s2 := by
    unfold s2
    apply foldl_sameCounts
    · intro x1 x2 h1
      exact State.lastFigures_sameCounts (State.predictors_sameCounts h1)
    · exact fo
  clear_value s2
  have h2 : SameCounts pre s3 := State.applyShadows_sameCounts (State.calCommit_sameCounts h1)
  clear_value s3
  exact State.dropBeats_sameCounts (State.onTiles_sameCounts h2)

theorem State.putFlit_sameCounts {pre : State} {s : State} (fo : SameCounts pre s) {port : Nat} {k : Kept} : SameCounts pre (State.putFlit s port k) := by
  unfold State.putFlit
  extract_lets s1
  exact SameCounts.ite (State.emit_sameCounts (State.setReg_sameCounts (State.setReg_sameCounts fo))) (State.emit_sameCounts fo)

theorem State.updPort_sameCounts {pre : State} {s : State} (fo : SameCounts pre s) {n : Nat} {f : AqdPort → AqdPort} : SameCounts pre (s.updPort n f) := by
  unfold State.updPort
  exact fo.same (Eq.refl _)

theorem State.sendFlit_sameCounts {pre : State} {s : State} (fo : SameCounts pre s) {port : Nat} {ftype : Nat} {flags : Nat} {payload : List Byte} : SameCounts pre (State.sendFlit s port ftype flags payload) := by
  unfold State.sendFlit
  extract_lets s1
  exact State.updPort_sameCounts (State.putFlit_sameCounts fo)

theorem State.sendMsg_sameCounts {pre : State} {s : State} (fo : SameCounts pre s) {port : Nat} {kind : Nat} {figures : List Nat} {h : MsgHead} {payload : List Byte} : SameCounts pre (State.sendMsg s port kind figures h payload) := by
  unfold State.sendMsg
  extract_lets s1
  apply foldl_sameCounts
  · intro x1 x2 h1
    exact State.sendFlit_sameCounts h1
  · exact State.emit_sameCounts fo

theorem State.sendPlain_sameCounts {pre : State} {s : State} (fo : SameCounts pre s) {port : Nat} {mtype : Nat} {kind : Nat} {figures : List Nat} {part : Nat} {tag : Nat} {payload : List Byte} : SameCounts pre (State.sendPlain s port mtype kind figures part tag payload) := by
  unfold State.sendPlain
  exact State.sendMsg_sameCounts fo

theorem State.bumpTag_sameCounts {pre : State} {s : State} (fo : SameCounts pre s) {port : Nat} : SameCounts pre (State.bumpTag s port) := by
  unfold State.bumpTag
  exact State.updPort_sameCounts fo

theorem State.sendTold_sameCounts {pre : State} {s : State} (fo : SameCounts pre s) {port : Nat} {part : Nat} {kind : Nat} {figures : List Nat} : SameCounts pre (State.sendTold s port part kind figures) := by
  unfold State.sendTold
  extract_lets s1
  exact State.updPort_sameCounts (State.sendPlain_sameCounts (State.bumpTag_sameCounts fo))

theorem State.tell_sameCounts {pre : State} {s : State} (fo : SameCounts pre s) {part : Nat} {kind : Nat} {figures : List Nat} : SameCounts pre (State.tell s part kind figures) := by
  unfold State.tell
  split
  · rename_i y1 y2 y3
    apply foldl_sameCounts
    · intro x1 x2 h1
      exact State.sendTold_sameCounts h1
    · exact fo
  · exact fo

theorem State.freeReqPages_sameCounts {pre : State} {s : State} (fo : SameCounts pre s) {r : Nat} : SameCounts pre (s.freeReqPages r) := by
  unfold State.freeReqPages
  exact fo.same (Eq.refl _)

theorem State.setReq_sameCounts {pre : State} {s : State} (fo : SameCounts pre s) {r : Nat} {x : ReqSt} : SameCounts pre (s.setReq r x) := by
  unfold State.setReq
  exact fo.same (Eq.refl _)

theorem State.freeShadow_sameCounts {pre : State} {s : State} (fo : SameCounts pre s) {p : Nat} {h : Nat} : SameCounts pre (s.freeShadow p h) := by
  unfold State.freeShadow
  split
  · exact fo
  · rename_i y1 y2 y3
    extract_lets s1 s2 s3
    have h1 : SameCounts pre s2 := State.setReq_sameCounts (State.freeReqPages_sameCounts fo)
    clear_value s2
    exact h1.same (Eq.refl _)

theorem State.dropLost_sameCounts {pre : State} {s : State} (fo : SameCounts pre s) {r : Nat} : SameCounts pre (s.dropLost r) := by
  unfold State.dropLost
  exact fo.same (Eq.refl _)

theorem State.memberBoundary_sameCounts {pre : State} {s : State} (fo : SameCounts pre s) {p : Nat} : SameCounts pre (State.memberBoundary s p) := by
  unfold State.memberBoundary
  extract_lets s1
  have h1 : SameCounts pre s1 := by
    unfold s1
    refine State.updPart_sameCounts ?_
    apply foldl_sameCounts
    · intro x1 x2 h2
      exact State.freeShadow_sameCounts h2
    · exact fo
  clear_value s1
  apply foldl_sameCounts
  · intro x3 x4 h3
    apply SameCounts.ite
    · apply State.dropLost_sameCounts
      apply foldl_sameCounts
      · intro x5 x6 h4
        exact State.tell_sameCounts h4
      · exact h3
    · exact h3
  · exact h1

theorem State.setPage_sameCounts {pre : State} {s : State} (fo : SameCounts pre s) {n : Nat} {e : PageEnt} : SameCounts pre (s.setPage n e) := by
  unfold State.setPage
  exact fo.same (Eq.refl _)

theorem State.setTile_sameCounts {pre : State} {s : State} (fo : SameCounts pre s) {t : Nat} {x : TileSt} : SameCounts pre (s.setTile t x) := by
  unfold State.setTile
  exact fo.same (Eq.refl _)

theorem State.updTile_sameCounts {pre : State} {s : State} (fo : SameCounts pre s) {t : Nat} {f : TileSt → TileSt} : SameCounts pre (s.updTile t f) := by
  unfold State.updTile
  exact State.setTile_sameCounts fo

theorem State.retireWeak_sameCounts {pre : State} {s : State} (fo : SameCounts pre s) {p : Nat} : SameCounts pre (s.retireWeak p) := by
  unfold State.retireWeak
  apply foldl_sameCounts
  · intro x1 x2 h1
    extract_lets s1 s2
    have h2 : SameCounts pre s2 := by
      unfold s2
      apply foldl_sameCounts
      · intro x3 x4 h2
        extract_lets s3 s4
        exact State.setPage_sameCounts h2
      · exact h1
    clear_value s2
    exact State.updTile_sameCounts h2
  · exact fo

theorem State.setMem_sameCounts {pre : State} {s : State} (fo : SameCounts pre s) {m : Memory} : SameCounts pre (s.setMem m) := by
  unfold State.setMem
  exact fo.same (Eq.refl _)

theorem State.trWrite_sameCounts {pre : State} {s : State} (fo : SameCounts pre s) {p : Nat} {r : Nat} {pos : Nat} {tok : Nat} : SameCounts pre (s.trWrite p r pos tok) := by
  unfold State.trWrite
  split
  · exact fo
  · rename_i y1 y2 y3
    exact State.setMem_sameCounts fo

theorem State.appendToks_sameCounts {pre : State} {p : Nat} {r : Nat} {pos : Nat} {l : List Nat} : ∀ {s : State}, SameCounts pre s → SameCounts pre (s.appendToks p r pos l) := by
  induction l generalizing pos with
  | nil => intro s h; exact h
  | cons t l ih => intro s h; exact ih (State.trWrite_sameCounts h)

theorem State.updReq_sameCounts {pre : State} {s : State} (fo : SameCounts pre s) {r : Nat} {f : ReqSt → ReqSt} : SameCounts pre (s.updReq r f) := by
  unfold State.updReq
  exact State.setReq_sameCounts fo

theorem State.setBack_sameCounts {pre : State} {s : State} (fo : SameCounts pre s) {r : Nat} : SameCounts pre (s.setBack r) := by
  unfold State.setBack
  split
  · exact fo
  · rename_i y1 y2 y3
    extract_lets s1
    exact State.updReq_sameCounts (State.updPart_sameCounts fo)

theorem State.commitResult_sameCounts {pre : State} {s : State} (fo : SameCounts pre s) {p : Nat} {b : SlotBind} {data : List Byte} : SameCounts pre (s.commitResult p b data).fst := by
  unfold State.commitResult
  extract_lets s1 s2 s3 s4 s5 s6 s7
  have h1 : SameCounts pre s6 := State.appendToks_sameCounts fo
  clear_value s6
  have h2 : SameCounts pre s7 := State.setBack_sameCounts (State.updReq_sameCounts h1)
  clear_value s7
  split
  · dsimp only
    exact State.updReq_sameCounts fo
  · exact h2

theorem State.weakRow_sameCounts {pre : State} {s : State} (fo : SameCounts pre s) {t : Nat} {r : Nat} {cycle : Nat} : SameCounts pre (s.weakRow t r cycle) := by
  unfold State.weakRow
  extract_lets s1
  have h1 : SameCounts pre s1 := State.tileRecord_sameCounts (State.setReg_sameCounts (State.setReg_sameCounts fo))
  clear_value s1
  exact State.updTile_sameCounts h1

theorem State.lastErr_sameCounts {pre : State} {s : State} (fo : SameCounts pre s) {t : Nat} {r : Nat} {w : Nat} {ue : Nat} {syn : Nat} : SameCounts pre (s.lastErr t r w ue syn) := by
  unfold State.lastErr
  exact State.setReg_sameCounts (State.setReg_sameCounts (State.setReg_sameCounts (State.setReg_sameCounts fo)))

theorem State.corrected_sameCounts {pre : State} {s : State} (fo : SameCounts pre s) {t : Nat} {r : Nat} {w : Nat} {mask : Nat} {cycle : Nat} : SameCounts pre (s.corrected t r w mask cycle) := by
  unfold State.corrected
  extract_lets s1 s2 s3
  have h1 : SameCounts pre s1 := State.lastErr_sameCounts (State.setReg_sameCounts (State.addReg_sameCounts fo))
  clear_value s1
  have h2 : SameCounts pre s3 := State.updTile_sameCounts h1
  clear_value s3
  exact SameCounts.ite (State.weakRow_sameCounts h2) h2

theorem State.tileFault_sameCounts {pre : State} {s : State} (fo : SameCounts pre s) {t : Nat} {r : Rec} : SameCounts pre (s.tileFault t r) := by
  unfold State.tileFault
  exact State.updTile_sameCounts (State.tileRecord_sameCounts fo)

theorem State.readWord_sameCounts {pre : State} {s : State} (fo : SameCounts pre s) {t : Nat} {r : Nat} {cycle : Nat} {sched : Bool} {w : Nat} : SameCounts pre (s.readWord t r cycle sched w).fst := by
  unfold State.readWord
  extract_lets s1 s2 s3 s4 s5
  have h1 : ∀ (s : State) (code : Nat), SameCounts pre s → SameCounts pre (s2 s code) := by
    intro x1 x2 h1
    unfold s2
    extract_lets s6
    exact SameCounts.ite (State.tileFault_sameCounts h1) (State.tileRecord_sameCounts h1)
  clear_value s2
  have h2 : SameCounts pre s4 := State.lastErr_sameCounts (State.setReg_sameCounts (State.addReg_sameCounts fo))
  clear_value s4
  have h3 : SameCounts pre s5 := State.updTile_sameCounts h2
  clear_value s5
  split
  · dsimp only
    apply h1
    · exact fo
  · split
    · exact fo
    · split
      · dsimp only
        exact State.corrected_sameCounts fo
      · dsimp only
        apply h1
        · exact h3

theorem State.readWords_sameCounts {pre : State} {s : State} (fo : SameCounts pre s) {t : Nat} {r : Nat} {cycle : Nat} {sched : Bool} : SameCounts pre (s.readWords t r cycle sched).fst := by
  unfold State.readWords
  apply foldl_sameCounts1
  · intro x1 x2 h1
    extract_lets s1
    have h2 : SameCounts pre s1.fst := State.readWord_sameCounts h1
    clear_value s1
    exact h2
  · exact fo

theorem State.readRow_sameCounts {pre : State} {s : State} (fo : SameCounts pre s) {t : Nat} {r : Nat} {cycle : Nat} {sched : Bool} : SameCounts pre (s.readRow t r cycle sched).fst := by
  unfold State.readRow
  extract_lets s1
  have h1 : SameCounts pre s1.fst := State.readWords_sameCounts fo
  clear_value s1
  exact h1

theorem State.takeResult_sameCounts {pre : State} {s : State} (fo : SameCounts pre s) {p : Nat} : SameCounts pre (s.takeResult p).fst := by
  unfold State.takeResult
  split
  · exact fo
  · rename_i y1 y2 y3 y4
    extract_lets s1 s2 s3
    have h1 : SameCounts pre s1.fst := State.readRow_sameCounts fo
    clear_value s1
    have h2 : SameCounts pre s3 := h1
    clear_value s3
    split
    · dsimp only
      exact State.setReg_sameCounts (State.setReg_sameCounts h2)
    · exact h2

theorem State.reqRecord_sameCounts {pre : State} {s : State} (fo : SameCounts pre s) {p : Nat} {r : Nat} {code : Nat} : SameCounts pre (s.reqRecord p r code) := by
  unfold State.reqRecord
  exact State.record_sameCounts fo

theorem State.pushRec_sameCounts {pre : State} {s : State} (fo : SameCounts pre s) {p : Nat} {x : OutRec} : SameCounts pre (s.pushRec p x) := by
  unfold State.pushRec
  exact State.updPart_sameCounts fo

theorem State.unbind_sameCounts {pre : State} {s : State} (fo : SameCounts pre s) {p : Nat} {r : Nat} : SameCounts pre (s.unbind p r) := by
  unfold State.unbind
  exact State.updReq_sameCounts (State.updPart_sameCounts fo)

theorem State.endTwin_sameCounts {pre : State} {s : State} (fo : SameCounts pre s) {w : Nat} : SameCounts pre (s.endTwin w) := by
  unfold State.endTwin
  extract_lets s1 s2
  exact State.setReq_sameCounts (State.freeReqPages_sameCounts (State.unbind_sameCounts fo))

theorem State.release_sameCounts {pre : State} {s : State} (fo : SameCounts pre s) {p : Nat} {r : Nat} : SameCounts pre (s.release p r) := by
  unfold State.release
  extract_lets s1
  have h1 : SameCounts pre s1 := State.updReq_sameCounts (State.freeReqPages_sameCounts (State.unbind_sameCounts fo))
  clear_value s1
  split
  · rename_i y1 y2 y3
    exact State.endTwin_sameCounts h1
  · exact h1

theorem State.endReq_sameCounts {pre : State} {s : State} (fo : SameCounts pre s) {p : Nat} {r : Nat} {st : Nat} {reason : Nat} {toks : List Nat} {seq : Nat} {accepted : Nat} {degraded : Bool} : SameCounts pre (State.endReq s p r st reason toks seq accepted degraded) := by
  unfold State.endReq
  extract_lets s1 s2 s3 s4
  have h1 : SameCounts pre s2 := State.release_sameCounts (State.updReq_sameCounts fo)
  clear_value s2
  have h2 : SameCounts pre s3 := SameCounts.ite (State.tell_sameCounts h1) h1
  clear_value s3
  exact State.pushRec_sameCounts h2

theorem State.endPlain_sameCounts {pre : State} {s : State} (fo : SameCounts pre s) {p : Nat} {r : Nat} {st : Nat} {reason : Nat} : SameCounts pre (s.endPlain p r st reason) := by
  unfold State.endPlain
  exact State.endReq_sameCounts fo

theorem State.failReq_sameCounts {pre : State} {s : State} (fo : SameCounts pre s) {p : Nat} {r : Nat} {reason : Nat} {code : Nat} : SameCounts pre (s.failReq p r reason code) := by
  unfold State.failReq
  exact State.endPlain_sameCounts (State.reqRecord_sameCounts fo)

theorem State.replayReq_sameCounts {pre : State} {s : State} (fo : SameCounts pre s) {p : Nat} {r : Nat} : SameCounts pre (s.replayReq p r) := by
  unfold State.replayReq
  extract_lets s1 s2 s3 s4 s5 s6 s7
  have h1 : SameCounts pre s5 := State.updPart_sameCounts (State.dropLost_sameCounts fo)
  clear_value s5
  have h2 : SameCounts pre s6 := State.updReq_sameCounts (State.unbind_sameCounts h1)
  clear_value s6
  have h3 : SameCounts pre s7 := State.reqRecord_sameCounts h2
  clear_value s7
  apply SameCounts.ite
  · exact fo
  · apply SameCounts.ite
    · exact State.updReq_sameCounts (State.unbind_sameCounts (State.dropLost_sameCounts fo))
    · apply SameCounts.ite
      · exact State.failReq_sameCounts fo
      · split
        · rename_i y1 y2 y3
          exact State.updReq_sameCounts h3
        · exact h3

theorem State.resolve_sameCounts {pre : State} {s : State} (fo : SameCounts pre s) {p : Nat} : SameCounts pre (State.resolve s p).fst := by
  unfold State.resolve
  split
  · exact fo
  · rename_i y3 y4 y5 y6
    extract_lets s1 s2 s3
    have h1 : SameCounts pre s2.fst := by
      unfold s2
      split
      · exact fo
      · exact State.takeResult_sameCounts fo
    clear_value s2
    have h2 : SameCounts pre s3 := State.updPart_sameCounts h1
    clear_value s3
    split
    · exact h2
    · rename_i y10
      split
      · rename_i y11
        dsimp only
        exact SameCounts.ite (State.updReq_sameCounts h2) h2
      · rename_i y12
        split
        · rename_i y13 y14
          dsimp only
          exact State.replayReq_sameCounts (State.reqRecord_sameCounts h2)
        · rename_i y15 y16 y17
          extract_lets s4
          have h3 : SameCounts pre s4.fst := State.commitResult_sameCounts h2
          clear_value s4
          exact h3

theorem State.noteFull_sameCounts {pre : State} {s : State} (fo : SameCounts pre s) {p : Nat} : SameCounts pre (State.noteFull s p) := by
  unfold State.noteFull
  exact SameCounts.ite (State.updPart_sameCounts (State.record_sameCounts fo)) fo

theorem State.setAside_sameCounts {pre : State} {s : State} (fo : SameCounts pre s) {p : Nat} {r : Nat} {st : Nat} {reason : Nat} {toks : List Nat} {seq : Nat} {accepted : Nat} {degraded : Bool} : SameCounts pre (s.setAside p r st reason toks seq accepted degraded) := by
  unfold State.setAside
  extract_lets s1 s2 s3 s4
  have h1 : SameCounts pre s2 := State.updReq_sameCounts (State.unbind_sameCounts fo)
  clear_value s2
  have h2 : SameCounts pre s4 := State.pushRec_sameCounts h1
  clear_value s4
  split
  · rename_i y1 y2 y3
    exact State.endTwin_sameCounts h2
  · exact h2

theorem State.observeResume_sameCounts {pre : State} {s : State} (fo : SameCounts pre s) {p : Nat} {r : Nat} : SameCounts pre (State.observeResume s p r) := by
  unfold State.observeResume
  extract_lets s1
  exact SameCounts.ite (SameCounts.ite (State.updReq_sameCounts fo) (SameCounts.ite fo (State.failReq_sameCounts fo))) fo

theorem State.setG_sameCounts {pre : State} {s : State} (fo : SameCounts pre s) {f : Fld} {i : Nat} {v : Nat} : SameCounts pre (s.setG f i v) := by
  unfold State.setG
  exact State.setReg_sameCounts fo

theorem State.refusePause_sameCounts {pre : State} {s : State} (fo : SameCounts pre s) {p : Nat} {r : Nat} : SameCounts pre (s.refusePause p r) := by
  unfold State.refusePause
  exact State.reqRecord_sameCounts (State.setG_sameCounts (State.addReg_sameCounts (State.updReq_sameCounts fo)))

theorem State.tokensOnly_sameCounts {pre : State} {s : State} (fo : SameCounts pre s) {p : Nat} {r : Nat} {c : Commit} : SameCounts pre (s.tokensOnly p r c) := by
  unfold State.tokensOnly
  exact SameCounts.ite fo (State.updReq_sameCounts (State.pushRec_sameCounts fo))

theorem State.reqEvents_sameCounts {pre : State} {s : State} (fo : SameCounts pre s) {p : Nat} {r : Nat} {c : Commit} : SameCounts pre (State.reqEvents s p r c) := by
  unfold State.reqEvents
  extract_lets s1 s2 s3 s4 s5
  have h1 : ∀ {v1 : Nat} {v2 : Nat} {v3 : State}, SameCounts pre v3 → SameCounts pre (s4 v1 v2 v3) := by
    intro x1 x2 x3 h2
    unfold s4
    exact State.endReq_sameCounts h2
  clear_value s4
  have h3 : ∀ {v1 : Nat} {v2 : Nat} {v3 : State}, SameCounts pre v3 → SameCounts pre (s5 v1 v2 v3) := by
    intro x4 x5 x6 h4
    unfold s5
    exact State.setAside_sameCounts h4
  clear_value s5
  exact SameCounts.ite fo (SameCounts.ite (h1 fo) (SameCounts.ite (h1 fo) (SameCounts.ite (h1 fo) (SameCounts.ite (h1 (State.reqRecord_sameCounts fo)) (SameCounts.ite (h1 fo) (SameCounts.ite (h1 (State.reqRecord_sameCounts fo)) (SameCounts.ite (h3 (SameCounts.ite fo (State.updReq_sameCounts (State.reqRecord_sameCounts fo)))) (SameCounts.ite (SameCounts.ite (h3 fo) (State.tokensOnly_sameCounts (State.refusePause_sameCounts fo))) (SameCounts.ite (h3 fo) (State.observeResume_sameCounts (State.tokensOnly_sameCounts fo)))))))))))

theorem State.allEvents_sameCounts {pre : State} {s : State} (fo : SameCounts pre s) {p : Nat} {res : Option (Nat × Commit)} : SameCounts pre (State.allEvents s p res) := by
  unfold State.allEvents
  apply State.noteFull_sameCounts
  apply foldl_sameCounts
  · intro x1 x2 h1
    exact State.updReq_sameCounts (State.reqEvents_sameCounts h1)
  · exact fo

theorem State.pickRims_sameCounts {pre : State} {s : State} (fo : SameCounts pre s) : SameCounts pre (State.pickRims s).snd := by
  unfold State.pickRims
  extract_lets s1 s2 s3
  have h1 : SameCounts pre s1.snd := State.takeFree_sameCounts fo
  clear_value s1
  have h2 : SameCounts pre s2.snd := State.takeFree_sameCounts h1
  clear_value s2
  exact h2

theorem State.reserve_sameCounts {pre : State} {s : State} (fo : SameCounts pre s) {p : Nat} {r : Nat} : SameCounts pre (State.reserve s p r) := by
  unfold State.reserve
  extract_lets s1 s2
  have h1 : SameCounts pre s2.snd := State.pickRims_sameCounts fo
  clear_value s2
  split
  · exact fo
  · exact State.updReq_sameCounts h1

theorem State.admitOne_sameCounts {pre : State} {s : State} (fo : SameCounts pre s) {p : Nat} {r : Nat} : SameCounts pre (State.admitOne s p r) := by
  unfold State.admitOne
  extract_lets s1
  exact SameCounts.ite fo (SameCounts.ite fo (SameCounts.ite (State.failReq_sameCounts fo) (SameCounts.ite (State.failReq_sameCounts (State.setG_sameCounts fo)) (SameCounts.ite (State.reserve_sameCounts fo) (SameCounts.ite (State.updReq_sameCounts fo) fo)))))

theorem State.admitRequests_sameCounts {pre : State} {s : State} (fo : SameCounts pre s) {p : Nat} : SameCounts pre (s.admitRequests p) := by
  unfold State.admitRequests
  apply SameCounts.ite
  · apply foldl_sameCounts
    · intro x1 x2 h1
      exact State.admitOne_sameCounts h1
    · exact fo
  · exact fo

theorem State.replayLost_sameCounts {pre : State} {s : State} (fo : SameCounts pre s) {p : Nat} : SameCounts pre (s.replayLost p) := by
  unfold State.replayLost
  apply foldl_sameCounts
  · intro x1 x2 h1
    exact SameCounts.ite (State.replayReq_sameCounts h1) h1
  · exact fo

theorem State.forwardResult_sameCounts {pre : State} {s : State} (fo : SameCounts pre s) {p : Nat} : SameCounts pre (s.forwardResult p) := by
  unfold State.forwardResult
  have h1 : SameCounts pre (s.takeResult p).fst := State.takeResult_sameCounts fo
  generalize s.takeResult p = d1 at h1 ⊢
  split
  · rename_i y1 y2 y3
    exact State.tell_sameCounts h1
  · rename_i y1 y2
    exact h1

theorem State.makeTwin_sameCounts {pre : State} {s : State} (fo : SameCounts pre s) {p : Nat} {r : Nat} : SameCounts pre (s.makeTwin p r) := by
  unfold State.makeTwin
  extract_lets s1 s2 s3
  split
  · exact SameCounts.ite fo (State.updPart_sameCounts (State.reqRecord_sameCounts fo))
  · rename_i y1 y2 y3
    extract_lets s4
    exact State.updReq_sameCounts (State.setReq_sameCounts fo)

theorem State.makeTwins_sameCounts {pre : State} {s : State} (fo : SameCounts pre s) {p : Nat} : SameCounts pre (s.makeTwins p) := by
  unfold State.makeTwins
  apply SameCounts.ite
  · apply foldl_sameCounts
    · intro x1 x2 h1
      extract_lets s1
      exact SameCounts.ite (State.makeTwin_sameCounts h1) h1
    · exact fo
  · exact fo

theorem State.journalCopies_sameCounts {pre : State} {s : State} (fo : SameCounts pre s) : SameCounts pre (State.journalCopies s).snd := by
  unfold State.journalCopies
  split
  · exact fo
  · rename_i y2
    extract_lets s1
    have h1 : SameCounts pre s1.snd := State.pickRims_sameCounts fo
    clear_value s1
    exact h1

theorem State.journalAcc_sameCounts {pre : State} {s : State} (fo : SameCounts pre s) {p : Nat} : SameCounts pre (State.journalAcc s p) := by
  unfold State.journalAcc
  extract_lets s1 s2
  have hcopies : SameCounts s s2.snd := State.journalCopies_sameCounts .refl
  have h1 : SameCounts pre s2.snd := State.journalCopies_sameCounts fo
  clear_value s2
  exact SameCounts.ite fo (State.setPart_sameCounts h1 ⟨(hcopies.count p).symm, (hcopies.commitIdx p).symm⟩)

theorem State.preempt_sameCounts {pre : State} {s : State} (fo : SameCounts pre s) {p : Nat} {r : Nat} {lp : Nat} {promised : List (Nat × Nat)} : SameCounts pre (State.preempt s p r lp promised).fst := by
  unfold State.preempt
  extract_lets s1
  split
  · exact fo
  · rename_i y3 y4 y5
    dsimp only
    apply foldl_sameCounts
    · intro x1 x2 h1
      exact State.setAside_sameCounts h1
    · exact fo

theorem State.preemptAll_sameCounts {pre : State} {s : State} (fo : SameCounts pre s) {p : Nat} : SameCounts pre (State.preemptAll s p) := by
  unfold State.preemptAll
  apply SameCounts.ite
  · exact fo
  · apply foldl_sameCounts1
    · intro x1 x2 h1
      extract_lets s1 s2
      have h2 : SameCounts pre s2.fst := by
        unfold s2
        split
        · exact h1
        · exact State.preempt_sameCounts h1
      clear_value s2
      exact h2
    · exact fo

theorem State.markDegraded_sameCounts {pre : State} {s : State} (fo : SameCounts pre s) {p : Nat} : SameCounts pre (State.markDegraded s p) := by
  unfold State.markDegraded
  apply SameCounts.ite
  · extract_lets s1 s2
    have h1 : SameCounts pre s1.snd := State.takeFree_sameCounts fo
    clear_value s1
    exact State.updPart_sameCounts h1
  · exact fo

theorem State.allocPage_sameCounts {pre : State} {s : State} (fo : SameCounts pre s) {p : Nat} {r : Nat} {a : AttTile} {j : Nat} : SameCounts pre (s.allocPage p r a j) := by
  unfold State.allocPage
  split
  · exact fo
  · rename_i y1 y2 y3
    extract_lets s1 s2 s3 s4
    have h1 : SameCounts pre s3 := State.setPage_sameCounts fo
    clear_value s3
    exact State.setMem_sameCounts h1

theorem State.allocPages_sameCounts {pre : State} {s : State} (fo : SameCounts pre s) {p : Nat} {r : Nat} {lp : Nat} : SameCounts pre (s.allocPages p r lp) := by
  unfold State.allocPages
  apply foldl_sameCounts
  · intro x1 x2 h1
    apply foldl_sameCounts
    · intro x3 x4 h2
      exact State.allocPage_sameCounts h2
    · exact h1
  · exact fo

theorem State.storeWords_sameCounts {pre : State} {s : State} (fo : SameCounts pre s) {t : Nat} {r : Nat} {beats : List Beat} {mask : List Nat} : SameCounts pre (s.storeWords t r beats mask) := by
  unfold State.storeWords
  apply foldl_sameCounts
  · intro x1 x2 h1
    extract_lets s1 s2 s3
    have h2 : SameCounts pre s3 := State.updTile_sameCounts h1
    clear_value s3
    exact State.setMem_sameCounts h2
  · exact fo

theorem State.writeLists_sameCounts {pre : State} {s : State} (fo : SameCounts pre s) {p : Nat} {r : Nat} {sl : Nat} {lp : Nat} : SameCounts pre (s.writeLists p r sl lp) := by
  unfold State.writeLists
  apply foldl_sameCounts
  · intro x1 x2 h1
    exact State.storeWords_sameCounts h1
  · exact fo

theorem State.pushRow_sameCounts {pre : State} {s : State} (fo : SameCounts pre s) {p : Nat} {sl : Nat} {b : List Byte} : SameCounts pre (s.pushRow p sl b) := by
  unfold State.pushRow
  exact State.updPart_sameCounts fo

theorem State.bindPass_sameCounts {pre : State} {s : State} (fo : SameCounts pre s) {p : Nat} {r : Nat} {sl : Nat} : SameCounts pre (State.bindPass s p r sl) := by
  unfold State.bindPass
  extract_lets s1 s2 s3 s4 s5 s6 s7
  have h1 : SameCounts pre s5 := State.pushRow_sameCounts (State.writeLists_sameCounts (State.allocPages_sameCounts fo))
  clear_value s5
  have h2 : SameCounts pre s6 := State.updPart_sameCounts h1
  clear_value s6
  have h3 : SameCounts pre s7 := State.updReq_sameCounts h2
  clear_value s7
  exact SameCounts.ite (State.tell_sameCounts h3) h3

theorem State.emptyPass_sameCounts {pre : State} {s : State} (fo : SameCounts pre s) {p : Nat} {sl : Nat} {r : Option Nat} : SameCounts pre (s.emptyPass p sl r) := by
  unfold State.emptyPass
  extract_lets s1
  have h1 : SameCounts pre s1 := State.pushRow_sameCounts fo
  clear_value s1
  split
  · rename_i y1 y2
    exact State.updReq_sameCounts h1
  · exact h1

theorem State.holderPass_sameCounts {pre : State} {s : State} (fo : SameCounts pre s) {p : Nat} {r : Nat} {sl : Nat} : SameCounts pre (s.holderPass p r sl) := by
  unfold State.holderPass
  extract_lets s1 s2 s3
  have h1 : SameCounts pre s2.fst := by
    unfold s2
    split
    · exact fo
    · exact State.preempt_sameCounts fo
  clear_value s2
  have h2 : SameCounts pre s3 := State.emptyPass_sameCounts h1
  clear_value s3
  exact SameCounts.ite (State.emptyPass_sameCounts fo) (SameCounts.ite (State.bindPass_sameCounts fo) (SameCounts.ite h2 (State.updPart_sameCounts (State.reqRecord_sameCounts h2))))

theorem State.bindSlot_sameCounts {pre : State} {s : State} (fo : SameCounts pre s) {p : Nat} : SameCounts pre (s.bindSlot p) := by
  unfold State.bindSlot
  extract_lets s1 s2 s3
  apply SameCounts.ite
  · exact State.emptyPass_sameCounts fo
  · split
    · rename_i y1 y2 y3
      exact State.holderPass_sameCounts fo
    · split
      · rename_i y1 y2 y3 y4 y5
        exact State.bindPass_sameCounts fo
      · exact State.emptyPass_sameCounts fo

theorem State.stewardCommit_sameCounts {pre : State} {s : State} (fo : SameCounts pre s) {p : Nat} : SameCounts pre (State.stewardCommit s p) := by
  unfold State.stewardCommit
  extract_lets s1 s2 s3 s4
  have h1 : SameCounts pre s1 := State.markDegraded_sameCounts fo
  clear_value s1
  have h2 : SameCounts pre s2.fst := State.resolve_sameCounts h1
  clear_value s2
  have h3 : SameCounts pre s3 := State.retireWeak_sameCounts (State.allEvents_sameCounts h2)
  clear_value s3
  have h4 : SameCounts pre s4 := SameCounts.ite h3 (State.bindSlot_sameCounts (State.preemptAll_sameCounts (State.admitRequests_sameCounts (State.replayLost_sameCounts (State.makeTwins_sameCounts h3)))))
  clear_value s4
  exact SameCounts.ite (State.updPart_sameCounts h1) (SameCounts.ite (State.updPart_sameCounts (State.memberBoundary_sameCounts (State.retireWeak_sameCounts (State.forwardResult_sameCounts h1)))) (State.updPart_sameCounts (State.journalAcc_sameCounts h4)))

theorem State.sendMark_sameCounts {pre : State} {s : State} (fo : SameCounts pre s) {p : Nat} {k : Nat} {ptp : Nat} : SameCounts pre (s.sendMark p k ptp) := by
  unfold State.sendMark
  apply foldl_sameCounts
  · intro x1 x2 h1
    exact State.sendFlit_sameCounts (State.emit_sameCounts h1)
  · exact fo

theorem State.chainCommit_sameCounts {pre : State} {s : State} (fo : SameCounts pre s) {p : Nat} : SameCounts pre (s.chainCommit p) := by
  unfold State.chainCommit
  apply SameCounts.ite
  · exact fo
  · extract_lets s1 s2 s3 s4
    have h1 : SameCounts pre s3 := fo.same (Eq.refl _)
    clear_value s3
    apply SameCounts.ite
    · exact State.sendMark_sameCounts h1
    · apply SameCounts.ite
      · exact h1
      · exact h1.same (Eq.refl _)

theorem State.nextAttempt_sameCounts {pre : State} {s : State} (fo : SameCounts pre s) {p : Nat} {prog : Nat} {start : Bool} : SameCounts pre (s.nextAttempt p prog start) := by
  unfold State.nextAttempt
  exact State.updPart_sameCounts (State.onTiles_sameCounts fo)

theorem State.pstateInt_sameCounts {pre : State} {s : State} (fo : SameCounts pre s) {p : Nat} : SameCounts pre (s.pstateInt p) := by
  unfold State.pstateInt
  extract_lets s1 s2 s3
  have h1 : SameCounts pre s2 := State.setG_sameCounts fo
  clear_value s2
  have h2 : SameCounts pre s3 := SameCounts.ite fo (SameCounts.ite (State.msix_sameCounts h1) h1)
  clear_value s3
  exact State.raiseInt_sameCounts h2

theorem State.setStopr_sameCounts {pre : State} {s : State} (fo : SameCounts pre s) {p : Nat} {r : Nat} : SameCounts pre (s.setStopr p r) := by
  unfold State.setStopr
  exact SameCounts.ite fo (State.pstateInt_sameCounts (State.setG_sameCounts fo))

theorem State.clearBindings_sameCounts {pre : State} {s : State} (fo : SameCounts pre s) {p : Nat} : SameCounts pre (s.clearBindings p) := by
  unfold State.clearBindings
  extract_lets s1 s2
  have h1 : SameCounts pre s1 := by
    unfold s1
    apply foldl_sameCounts
    · intro x1 x2 h1
      exact SameCounts.ite (State.updReq_sameCounts h1) h1
    · exact fo
  clear_value s1
  have h2 : SameCounts pre s2 := State.updPart_sameCounts h1
  clear_value s2
  apply foldl_sameCounts
  · intro x1 x2 h3
    exact State.updReq_sameCounts h3
  · exact h2

theorem State.setLcode_sameCounts {pre : State} {s : State} (fo : SameCounts pre s) {p : Nat} {c : Nat} : SameCounts pre (s.setLcode p c) := by
  unfold State.setLcode
  exact SameCounts.ite fo (State.pstateInt_sameCounts (State.setG_sameCounts fo))

theorem State.ldRecord_sameCounts {pre : State} {s : State} (fo : SameCounts pre s) {part : Option Nat} {code : Nat} {item : Nat} {detail : Nat} : SameCounts pre (s.ldRecord part code item detail) := by
  unfold State.ldRecord
  exact State.record_sameCounts fo

theorem State.cmdEndWith_sameCounts {pre : State} {s : State} (fo : SameCounts pre s) {n : Nat} {part : Option Nat} {code : Nat} {item : Nat} {detail : Nat} : SameCounts pre (s.cmdEndWith n part code item detail) := by
  unfold State.cmdEndWith
  extract_lets s1 s2 s3
  have h1 : SameCounts pre s1 := State.setG_sameCounts (State.setG_sameCounts fo)
  clear_value s1
  have h2 : SameCounts pre s2 := by
    unfold s2
    apply SameCounts.ite
    · exact h1
    · split
      · rename_i y1 y2
        exact SameCounts.ite (State.setLcode_sameCounts h1) h1
      · exact h1
  clear_value s2
  have h3 : SameCounts pre s3 := SameCounts.ite h2 (State.ldRecord_sameCounts h2)
  clear_value s3
  exact State.raiseInt_sameCounts h3

theorem State.cmdEnd_sameCounts {pre : State} {s : State} (fo : SameCounts pre s) {n : Nat} {part : Option Nat} {code : Nat} : SameCounts pre (s.cmdEnd n part code) := by
  unfold State.cmdEnd
  exact State.cmdEndWith_sameCounts fo

theorem State.setPstate_sameCounts {pre : State} {s : State} (fo : SameCounts pre s) {p : Nat} {st : Nat} : SameCounts pre (s.setPstate p st) := by
  unfold State.setPstate
  exact SameCounts.ite fo (State.pstateInt_sameCounts (State.setG_sameCounts fo))

theorem State.enter_sameCounts {pre : State} {s : State} (fo : SameCounts pre s) {p : Nat} {st : Nat} : SameCounts pre (s.enter p st) := by
  unfold State.enter
  exact State.setPstate_sameCounts (State.setG_sameCounts fo)

theorem State.haltPart_sameCounts {pre : State} {s : State} (fo : SameCounts pre s) {p : Nat} : SameCounts pre (State.haltPart s p) := by
  unfold State.haltPart
  extract_lets s1 s2
  have h1 : SameCounts pre s1 := State.updPart_sameCounts (State.setG_sameCounts (State.onTiles_sameCounts fo))
  clear_value s1
  exact h1.same (Eq.refl _)

theorem State.stopReached_sameCounts {pre : State} {s : State} (fo : SameCounts pre s) {p : Nat} : SameCounts pre (s.stopReached p) := by
  unfold State.stopReached
  extract_lets s1 s2 s3
  have h1 : SameCounts pre s2 := SameCounts.ite (State.clearBindings_sameCounts fo) fo
  clear_value s2
  have h2 : SameCounts pre s3 := State.updPart_sameCounts (State.enter_sameCounts (State.setStopr_sameCounts (State.haltPart_sameCounts h1)))
  clear_value s3
  clear_value s1
  split
  · rename_i y1 y2
    exact State.cmdEnd_sameCounts h2
  · exact h2

theorem State.endReplaced_sameCounts {pre : State} {s : State} (fo : SameCounts pre s) {p : Nat} {queued : Bool} : SameCounts pre (State.endReplaced s p queued) := by
  unfold State.endReplaced
  extract_lets s1
  apply State.journalAcc_sameCounts
  apply foldl_sameCounts
  · intro x1 x2 h1
    exact SameCounts.ite (State.updReq_sameCounts h1) (State.endPlain_sameCounts h1)
  · exact fo

theorem State.streamRemaps_sameCounts {pre : State} {s : State} (fo : SameCounts pre s) {p : Nat} : SameCounts pre (State.streamRemaps s p) := by
  unfold State.streamRemaps
  apply foldl_sameCounts
  · intro x1 x2 h1
    split
    · exact h1
    · exact SameCounts.ite (State.remapCommit_sameCounts h1) h1
  · exact fo

theorem State.chainStop_sameCounts {pre : State} {s : State} (fo : SameCounts pre s) {p : Nat} : SameCounts pre (State.chainStop s p) := by
  unfold State.chainStop
  exact SameCounts.ite (State.tell_sameCounts fo) fo

theorem State.coolQuads_sameCounts {pre : State} {s : State} (fo : SameCounts pre s) {l : List Nat} : SameCounts pre (s.coolQuads l) := by
  unfold State.coolQuads
  exact fo.same (Eq.refl _)

theorem State.startWrite_sameCounts {pre : State} {s : State} (fo : SameCounts pre s) {p : Nat} : SameCounts pre (s.startWrite p) := by
  unfold State.startWrite
  exact State.enter_sameCounts (State.coolQuads_sameCounts (State.haltPart_sameCounts fo))

theorem State.cascadeStop_sameCounts {pre : State} {s : State} (fo : SameCounts pre s) {p : Nat} {reason : Nat} : SameCounts pre (State.cascadeStop s p reason) := by
  unfold State.cascadeStop
  extract_lets s1 s2 s3
  have h1 : SameCounts pre s1 := State.chainStop_sameCounts (State.clearBindings_sameCounts (State.setStopr_sameCounts (State.haltPart_sameCounts (State.streamRemaps_sameCounts fo))))
  clear_value s1
  have h2 : SameCounts pre s3 := State.updPart_sameCounts (State.enter_sameCounts h1)
  clear_value s3
  split
  · exact State.startWrite_sameCounts (State.endReplaced_sameCounts h1)
  · rename_i y4 y5
    clear_value s2
    split
    · exact State.cmdEnd_sameCounts h2
    · exact h2

theorem State.afterCommit_sameCounts {pre : State} {s : State} (fo : SameCounts pre s) {p : Nat} : SameCounts pre (s.afterCommit p) := by
  unfold State.afterCommit
  exact SameCounts.ite (State.startWrite_sameCounts (State.clearBindings_sameCounts fo)) (SameCounts.ite (State.cascadeStop_sameCounts fo) (SameCounts.ite (State.stopReached_sameCounts fo) (State.nextAttempt_sameCounts fo)))

theorem State.endComputes_sameCounts {pre : State} {s : State} (fo : SameCounts pre s) {p : Nat} : SameCounts pre (s.endComputes p) := by
  unfold State.endComputes
  apply foldl_sameCounts
  · intro x1 x2 h1
    apply foldl_sameCounts
    · intro x3 x4 h2
      extract_lets s1
      apply foldl_sameCounts
      · intro x5 x6 h3
        exact SameCounts.ite (State.setReg_sameCounts h3) h3
      · exact h2
    · exact h1
  · exact fo

theorem State.calDiscard_sameCounts {pre : State} {s : State} (fo : SameCounts pre s) {p : Nat} : SameCounts pre (s.calDiscard p) := by
  unfold State.calDiscard
  extract_lets s1 s2 s3 s4
  have h1 : SameCounts pre s4 := fo.same (Eq.refl _)
  clear_value s4
  apply foldl_sameCounts
  · intro x1 x2 h2
    split
    · rename_i y1 y2 y3
      exact State.setReg_sameCounts h2
    · exact h2
  · exact h1

theorem State.discardAttempt_sameCounts {pre : State} {s : State} (fo : SameCounts pre s) {p : Nat} : SameCounts pre (s.discardAttempt p) := by
  unfold State.discardAttempt
  extract_lets s1
  have h1 : SameCounts pre s1 := State.dropBeats_sameCounts (State.calDiscard_sameCounts (State.endComputes_sameCounts fo))
  clear_value s1
  exact State.onTiles_sameCounts h1

theorem State.slipRecord_sameCounts {pre : State} {s : State} (fo : SameCounts pre s) {p : Nat} : SameCounts pre (State.slipRecord s p) := by
  unfold State.slipRecord
  extract_lets s1
  exact State.record_sameCounts fo

theorem State.rangeFailures_sameCounts {pre : State} {s : State} (fo : SameCounts pre s) {p : Nat} : SameCounts pre (s.rangeFailures p) := by
  unfold State.rangeFailures
  extract_lets s1 s2
  apply State.journalAcc_sameCounts
  apply foldl_sameCounts
  · intro x1 x2 h1
    exact SameCounts.ite (State.endPlain_sameCounts h1) h1
  · exact fo

theorem State.sendGo_sameCounts {pre : State} {s : State} (fo : SameCounts pre s) {p : Nat} {code : Nat} : SameCounts pre (s.sendGo p code) := by
  unfold State.sendGo
  apply State.emit_sameCounts
  exact fo.same (Eq.refl _)

theorem State.recomputeTile_sameCounts {pre : State} {s : State} (fo : SameCounts pre s) {t : Nat} : SameCounts pre (s.recomputeTile t) := by
  unfold State.recomputeTile
  apply foldl_sameCounts
  · intro x1 x2 h1
    exact State.updTile_sameCounts h1
  · exact fo

/-! ### What ends an attempt -/

/-- The counts after a partition's own: the Cascade count raised by one, the commit index by `d`. -/
def CountedUp (d : Nat) (a s : State) (p : Nat) : Prop :=
  (s.part p).count = (a.part p).count + 1 ∧ (s.part p).commitIdx = (a.part p).commitIdx + d

theorem CountedUp.then {d : Nat} {a s t : State} {p : Nat} (h : CountedUp d a s p) (k : SameCounts s t) : CountedUp d a t p :=
  ⟨(k.count p).trans h.1, (k.commitIdx p).trans h.2⟩
theorem SameCounts.thenCountUp {a s : State} (h : SameCounts a s) (p : Nat) : CountedUp 0 a (s.countUp p) p := by
  refine ⟨?_, ?_⟩
  · rw [State.countUp_part_same]
    exact congrArg (· + 1) (h.count p)
  · rw [State.countUp_part_same]
    exact h.commitIdx p

theorem State.stopAdmission_sameCounts {pre s : State} (fo : SameCounts pre s) {p : Nat} : SameCounts pre (s.stopAdmission p) := by
  unfold State.stopAdmission
  exact State.updPart_sameCounts fo
theorem State.admissionStopped_sameCounts {pre s : State} (fo : SameCounts pre s) {p : Nat} : SameCounts pre (s.admissionStopped p) := by
  unfold State.admissionStopped
  exact SameCounts.ite fo (State.updPart_sameCounts fo)

/-- A commit: the one boundary that raises the commit index. -/
theorem State.commitPart_countedUp (s : State) (p : Nat) : CountedUp 1 s (s.commitPart p) p := by
  unfold State.commitPart
  extract_lets big s1 s2 s3
  have hcommit : SameCounts s s2 :=
    State.stewardCommit_sameCounts (State.stopAdmission_sameCounts (State.commitTiles_sameCounts (State.setG_sameCounts .refl)))
  have hcount : CountedUp 0 s s3 p := (State.admissionStopped_sameCounts hcommit).thenCountUp p
  clear_value s3
  refine CountedUp.then ?_ (State.chainCommit_sameCounts .refl)
  refine ⟨?_, ?_⟩
  · rw [State.part_updPart_same]
    exact hcount.1
  · rw [State.part_updPart_same]
    exact congrArg (· + 1) hcount.2

/-- A discarded attempt counts as a Cascade step, and is no commit. -/
theorem State.discardCountUp (s : State) (p : Nat) : CountedUp 0 s ((s.discardAttempt p).countUp p) p :=
  (State.discardAttempt_sameCounts .refl).thenCountUp p

theorem State.sameProgram_countedUp (s : State) (p : Nat) : CountedUp 0 s (s.sameProgram p) p := by
  unfold State.sameProgram
  extract_lets slip stop s1 s2 s3
  have hslip : SameCounts s (if slip then s1.addReg CSD_POVR_SLIPS 0 p 1 else s1) := by
    have h1 : SameCounts s s1 := SameCounts.ite (State.slipRecord_sameCounts .refl) .refl
    exact SameCounts.ite (State.addReg_sameCounts h1) h1
  have hcount : CountedUp 0 s s2 p := (State.discardAttempt_sameCounts hslip).thenCountUp p
  have hnext : CountedUp 0 s s3 p := hcount.then (State.updPart_sameCounts .refl)
  refine hnext.then (SameCounts.ite (State.cascadeStop_sameCounts .refl) (SameCounts.ite (State.cascadeStop_sameCounts .refl) ?_))
  exact State.nextAttempt_sameCounts (State.onTiles_sameCounts .refl)

theorem State.troubleReplay_countedUp (s : State) (p : Nat) (rc : Bool) : CountedUp 0 s (s.troubleReplay p rc) p := by
  unfold State.troubleReplay
  extract_lets prog s1 s2
  have hnext : CountedUp 0 s s2 p := (s.discardCountUp p).then (State.updPart_sameCounts .refl)
  refine hnext.then (SameCounts.ite (State.cascadeStop_sameCounts .refl) (SameCounts.ite (State.updPart_sameCounts .refl) ?_))
  exact State.nextAttempt_sameCounts (State.onTiles_sameCounts .refl)

theorem State.abortPart_countedUp {s : State} {p : Nat} (hrun : s.flag CSD_PCFG_RUN 0 p = true) : CountedUp 0 s (s.abortPart p) p := by
  unfold State.abortPart
  rw [if_pos hrun]
  have hdrop : SameCounts s ((s.discardAttempt p).onTiles p TileSt.newAttempt) := State.onTiles_sameCounts (State.discardAttempt_sameCounts .refl)
  exact (hdrop.thenCountUp p).then (State.clearBindings_sameCounts (State.haltPart_sameCounts .refl))

end Sys2Proof.Machine
end

section
/-! PROOF. Fields that start above bit 1 of their word: what keeps them, said once for each operation. The fields that records, interrupts and sent
flits write start at bit 0, or are the one bit INJECTED of the Aqueduct page, so none of them is hit, whatever number a partition or a tile has. -/

namespace Sys2Proof.Machine

open Sys2Proof Sys2Proof.Safety

/-- Fields that start at different bits have different keys. -/
theorem Fld.key_ne_of_lo {f g : Fld} (hf : f.lo < 32) (hg : g.lo < 32) (h : f.lo ≠ g.lo) {inst i jnst j : Nat} : f.key inst i ≠ g.key jnst j := by
  simp only [Fld.key]
  omega

/-- A field that starts above bit 1 and is not INJECTED of the Aqueduct page. -/
def Fld.upper (f : Fld) (inst i : Nat) : Prop := 1 < f.lo ∧ f.lo < 32 ∧ (HDR_INJECTED .aqd).key 0 0 ≠ f.key inst i
theorem Fld.upper_of_lo {f : Fld} {inst i : Nat} (h2 : 2 < f.lo) (h32 : f.lo < 32) : f.upper inst i :=
  ⟨Nat.lt_of_succ_lt h2, h32, Fld.key_ne_of_lo (by decide) h32 (Nat.ne_of_lt h2)⟩

/-- Every such field reads as it did. -/
structure SameUpper (a s : State) : Prop where
  reg : ∀ (f : Fld) (inst i : Nat), f.upper inst i → s.reg f inst i = a.reg f inst i

theorem SameUpper.refl {a : State} : SameUpper a a := ⟨fun _ _ _ _ => rfl⟩
theorem SameUpper.ite {a u v : State} {c : Prop} [Decidable c] (hu : SameUpper a u) (hv : SameUpper a v) : SameUpper a (if c then u else v) := by
  split <;> assumption
/-- A change that leaves the registers alone. -/
theorem SameUpper.same {a s t : State} (h : SameUpper a s) (hregs : t.regs = s.regs) : SameUpper a t :=
  ⟨fun f inst i hu => Eq.trans (by unfold State.reg; rw [hregs]) (h.reg f inst i hu)⟩
theorem foldl_sameUpper {a : State} {β : Type} {f : State → β → State} (hf : ∀ s b, SameUpper a s → SameUpper a (f s b)) {l : List β} :
    ∀ {s : State}, SameUpper a s → SameUpper a (l.foldl f s) := by
  induction l with
  | nil => intro s h; exact h
  | cons b r ih => intro s h; exact ih (hf s b h)
theorem State.setReg_sameUpper {pre s : State} (fo : SameUpper pre s) {f : Fld} {inst i v : Nat} (hlow : f.lo ≤ 1 := by exact Nat.le_of_ble_eq_true rfl) :
    SameUpper pre (s.setReg f inst i v) :=
  ⟨fun g jnst j hu => (State.reg_setReg_other (Fld.key_ne_of_lo (Nat.lt_of_le_of_lt hlow (by decide)) hu.2.1
    (Nat.ne_of_lt (Nat.lt_of_le_of_lt hlow hu.1)))).trans (fo.reg g jnst j hu)⟩
theorem State.setInjected_sameUpper {pre s : State} (fo : SameUpper pre s) {v : Nat} : SameUpper pre (s.setReg (HDR_INJECTED .aqd) 0 0 v) :=
  ⟨fun g jnst j hu => (State.reg_setReg_other hu.2.2).trans (fo.reg g jnst j hu)⟩

theorem State.appendLog_sameUpper {pre : State} {s : State} (fo : SameUpper pre s) {r : FaultRec} : SameUpper pre (s.appendLog r) := by
  unfold State.appendLog
  exact fo.same (Eq.refl _)

theorem State.setReq_sameUpper {pre : State} {s : State} (fo : SameUpper pre s) {r : Nat} {x : ReqSt} : SameUpper pre (s.setReq r x) := by
  unfold State.setReq
  exact fo.same (Eq.refl _)

theorem State.updReq_sameUpper {pre : State} {s : State} (fo : SameUpper pre s) {r : Nat} {f : ReqSt → ReqSt} : SameUpper pre (s.updReq r f) := by
  unfold State.updReq
  exact State.setReq_sameUpper fo

theorem State.takeFree_sameUpper {pre : State} {s : State} (fo : SameUpper pre s) : SameUpper pre s.takeFree.snd := by
  unfold State.takeFree
  dsimp only
  exact fo.same (Eq.refl _)

theorem State.pickRims_sameUpper {pre : State} {s : State} (fo : SameUpper pre s) : SameUpper pre (State.pickRims s).snd := by
  unfold State.pickRims
  extract_lets s1 s2 s3
  have h1 : SameUpper pre s1.snd := State.takeFree_sameUpper fo
  clear_value s1
  have h2 : SameUpper pre s2.snd := State.takeFree_sameUpper h1
  clear_value s2
  exact h2

theorem State.journalCopies_sameUpper {pre : State} {s : State} (fo : SameUpper pre s) : SameUpper pre (State.journalCopies s).snd := by
  unfold State.journalCopies
  split
  · exact fo
  · rename_i y2
    extract_lets s1
    have h1 : SameUpper pre s1.snd := State.pickRims_sameUpper fo
    clear_value s1
    exact h1

theorem State.setPart_sameUpper {pre : State} {s : State} (fo : SameUpper pre s) {p : Nat} {x : PartSt} : SameUpper pre (s.setPart p x) := by
  unfold State.setPart
  exact fo.same (Eq.refl _)

theorem State.journalAcc_sameUpper {pre : State} {s : State} (fo : SameUpper pre s) {p : Nat} : SameUpper pre (State.journalAcc s p) := by
  unfold State.journalAcc
  extract_lets s1 s2
  have h1 : SameUpper pre s2.snd := State.journalCopies_sameUpper fo
  clear_value s2
  exact SameUpper.ite fo (State.setPart_sameUpper h1)

theorem State.updPart_sameUpper {pre : State} {s : State} (fo : SameUpper pre s) {p : Nat} {f : PartSt → PartSt} : SameUpper pre (s.updPart p f) := by
  unfold State.updPart
  exact State.setPart_sameUpper fo

theorem State.pushRec_sameUpper {pre : State} {s : State} (fo : SameUpper pre s) {p : Nat} {x : OutRec} : SameUpper pre (s.pushRec p x) := by
  unfold State.pushRec
  exact State.updPart_sameUpper fo

theorem State.unbind_sameUpper {pre : State} {s : State} (fo : SameUpper pre s) {p : Nat} {r : Nat} : SameUpper pre (s.unbind p r) := by
  unfold State.unbind
  exact State.updReq_sameUpper (State.updPart_sameUpper fo)

theorem State.freeReqPages_sameUpper {pre : State} {s : State} (fo : SameUpper pre s) {r : Nat} : SameUpper pre (s.freeReqPages r) := by
  unfold State.freeReqPages
  exact fo.same (Eq.refl _)

theorem State.endTwin_sameUpper {pre : State} {s : State} (fo : SameUpper pre s) {w : Nat} : SameUpper pre (s.endTwin w) := by
  unfold State.endTwin
  extract_lets s1 s2
  exact State.setReq_sameUpper (State.freeReqPages_sameUpper (State.unbind_sameUpper fo))

theorem State.release_sameUpper {pre : State} {s : State} (fo : SameUpper pre s) {p : Nat} {r : Nat} : SameUpper pre (s.release p r) := by
  unfold State.release
  extract_lets s1
  have h1 : SameUpper pre s1 := State.updReq_sameUpper (State.freeReqPages_sameUpper (State.unbind_sameUpper fo))
  clear_value s1
  split
  · rename_i y1 y2 y3
    exact State.endTwin_sameUpper h1
  · exact h1

theorem State.updPort_sameUpper {pre : State} {s : State} (fo : SameUpper pre s) {n : Nat} {f : AqdPort → AqdPort} : SameUpper pre (s.updPort n f) := by
  unfold State.updPort
  exact fo.same (Eq.refl _)

theorem State.bumpTag_sameUpper {pre : State} {s : State} (fo : SameUpper pre s) {port : Nat} : SameUpper pre (State.bumpTag s port) := by
  unfold State.bumpTag
  exact State.updPort_sameUpper fo

theorem State.emit_sameUpper {pre : State} {s : State} (fo : SameUpper pre s) {o : Out} : SameUpper pre (s.emit o) := by
  unfold State.emit
  exact fo.same (Eq.refl _)

theorem State.putFlit_sameUpper {pre : State} {s : State} (fo : SameUpper pre s) {port : Nat} {k : Kept} : SameUpper pre (State.putFlit s port k) := by
  unfold State.putFlit
  extract_lets s1
  exact SameUpper.ite (State.emit_sameUpper (State.setInjected_sameUpper (State.setReg_sameUpper fo))) (State.emit_sameUpper fo)

theorem State.sendFlit_sameUpper {pre : State} {s : State} (fo : SameUpper pre s) {port : Nat} {ftype : Nat} {flags : Nat} {payload : List Byte} : SameUpper pre (State.sendFlit s port ftype flags payload) := by
  unfold State.sendFlit
  extract_lets s1
  exact State.updPort_sameUpper (State.putFlit_sameUpper fo)

theorem State.sendMsg_sameUpper {pre : State} {s : State} (fo : SameUpper pre s) {port : Nat} {kind : Nat} {figures : List Nat} {h : MsgHead} {payload : List Byte} : SameUpper pre (State.sendMsg s port kind figures h payload) := by
  unfold State.sendMsg
  extract_lets s1
  apply foldl_sameUpper
  · intro x1 x2 h1
    exact State.sendFlit_sameUpper h1
  · exact State.emit_sameUpper fo

theorem State.sendPlain_sameUpper {pre : State} {s : State} (fo : SameUpper pre s) {port : Nat} {mtype : Nat} {kind : Nat} {figures : List Nat} {part : Nat} {tag : Nat} {payload : List Byte} : SameUpper pre (State.sendPlain s port mtype kind figures part tag payload) := by
  unfold State.sendPlain
  exact State.sendMsg_sameUpper fo

theorem State.sendTold_sameUpper {pre : State} {s : State} (fo : SameUpper pre s) {port : Nat} {part : Nat} {kind : Nat} {figures : List Nat} : SameUpper pre (State.sendTold s port part kind figures) := by
  unfold State.sendTold
  extract_lets s1
  exact State.updPort_sameUpper (State.sendPlain_sameUpper (State.bumpTag_sameUpper fo))

theorem State.tell_sameUpper {pre : State} {s : State} (fo : SameUpper pre s) {part : Nat} {kind : Nat} {figures : List Nat} : SameUpper pre (State.tell s part kind figures) := by
  unfold State.tell
  split
  · rename_i y1 y2 y3
    apply foldl_sameUpper
    · intro x1 x2 h1
      exact State.sendTold_sameUpper h1
    · exact fo
  · exact fo

theorem State.endReq_sameUpper {pre : State} {s : State} (fo : SameUpper pre s) {p : Nat} {r : Nat} {st : Nat} {reason : Nat} {toks : List Nat} {seq : Nat} {accepted : Nat} {degraded : Bool} : SameUpper pre (State.endReq s p r st reason toks seq accepted degraded) := by
  unfold State.endReq
  extract_lets s1 s2 s3 s4
  have h1 : SameUpper pre s2 := State.release_sameUpper (State.updReq_sameUpper fo)
  clear_value s2
  have h2 : SameUpper pre s3 := SameUpper.ite (State.tell_sameUpper h1) h1
  clear_value s3
  exact State.pushRec_sameUpper h2

theorem State.endPlain_sameUpper {pre : State} {s : State} (fo : SameUpper pre s) {p : Nat} {r : Nat} {st : Nat} {reason : Nat} : SameUpper pre (s.endPlain p r st reason) := by
  unfold State.endPlain
  exact State.endReq_sameUpper fo

theorem State.endReplaced_sameUpper {pre : State} {s : State} (fo : SameUpper pre s) {p : Nat} {queued : Bool} : SameUpper pre (State.endReplaced s p queued) := by
  unfold State.endReplaced
  extract_lets s1
  apply State.journalAcc_sameUpper
  apply foldl_sameUpper
  · intro x1 x2 h1
    exact SameUpper.ite (State.updReq_sameUpper h1) (State.endPlain_sameUpper h1)
  · exact fo

theorem State.addReg_sameUpper {pre : State} {s : State} (fo : SameUpper pre s) {f : Fld} {inst : Nat} {i : Nat} {d : Nat} (hlow : f.lo ≤ 1 := by exact Nat.le_of_ble_eq_true rfl) : SameUpper pre (s.addReg f inst i d) := by
  unfold State.addReg
  exact State.setReg_sameUpper fo hlow

theorem State.msix_sameUpper {pre : State} {s : State} (fo : SameUpper pre s) {fn : Nat} {vec : Nat} : SameUpper pre (s.msix fn vec) := by
  unfold State.msix
  extract_lets s1 s2
  apply SameUpper.ite
  · exact State.emit_sameUpper fo
  · exact fo.same (Eq.refl _)

theorem State.raiseInt_sameUpper {pre : State} {s : State} (fo : SameUpper pre s) {fn : Nat} {bit : Nat} : SameUpper pre (s.raiseInt fn bit) := by
  unfold State.raiseInt
  extract_lets s1 s2
  have h1 : SameUpper pre s2 := State.setReg_sameUpper fo
  clear_value s2
  exact SameUpper.ite fo (SameUpper.ite (State.msix_sameUpper h1) h1)

theorem State.recordInts_sameUpper {pre : State} {s : State} (fo : SameUpper pre s) {r : FaultRec} : SameUpper pre (s.recordInts r) := by
  unfold State.recordInts
  extract_lets s1 s2 s3 s4 s5 s6 s7
  have h1 : SameUpper pre s2 := State.addReg_sameUpper fo
  clear_value s2
  have h2 : SameUpper pre s3 := SameUpper.ite (State.raiseInt_sameUpper h1) h1
  clear_value s3
  have h3 : SameUpper pre s4 := SameUpper.ite (State.raiseInt_sameUpper h2) h2
  clear_value s4
  have h4 : SameUpper pre s5 := SameUpper.ite (State.raiseInt_sameUpper h3) h3
  clear_value s5
  have h5 : SameUpper pre s6 := SameUpper.ite (State.raiseInt_sameUpper h4) h4
  clear_value s6
  have h6 : SameUpper pre s7 := by
    unfold s7
    split
    · rename_i y1 y2 y3
      exact SameUpper.ite (State.raiseInt_sameUpper h5) h5
    · exact h5
  clear_value s7
  exact SameUpper.ite (State.emit_sameUpper h6) h6

theorem State.record_sameUpper {pre : State} {s : State} (fo : SameUpper pre s) {r : Rec} : SameUpper pre (s.record r) := by
  unfold State.record
  extract_lets s1 s2
  have h1 : SameUpper pre s2 := State.recordInts_sameUpper (State.appendLog_sameUpper fo)
  clear_value s2
  split
  · rename_i y1 y2 y3
    exact SameUpper.ite (State.updPart_sameUpper h1) h1
  · exact h1

theorem State.setG_sameUpper {pre : State} {s : State} (fo : SameUpper pre s) {f : Fld} {i : Nat} {v : Nat} (hlow : f.lo ≤ 1 := by exact Nat.le_of_ble_eq_true rfl) : SameUpper pre (s.setG f i v) := by
  unfold State.setG
  exact State.setReg_sameUpper fo hlow

theorem State.pstateInt_sameUpper {pre : State} {s : State} (fo : SameUpper pre s) {p : Nat} : SameUpper pre (s.pstateInt p) := by
  unfold State.pstateInt
  extract_lets s1 s2 s3
  have h1 : SameUpper pre s2 := State.setG_sameUpper fo
  clear_value s2
  have h2 : SameUpper pre s3 := SameUpper.ite fo (SameUpper.ite (State.msix_sameUpper h1) h1)
  clear_value s3
  exact State.raiseInt_sameUpper h2

theorem State.chainStop_sameUpper {pre : State} {s : State} (fo : SameUpper pre s) {p : Nat} : SameUpper pre (State.chainStop s p) := by
  unfold State.chainStop
  exact SameUpper.ite (State.tell_sameUpper fo) fo

theorem State.clearBindings_sameUpper {pre : State} {s : State} (fo : SameUpper pre s) {p : Nat} : SameUpper pre (s.clearBindings p) := by
  unfold State.clearBindings
  extract_lets s1 s2
  have h1 : SameUpper pre s1 := by
    unfold s1
    apply foldl_sameUpper
    · intro x1 x2 h1
      exact SameUpper.ite (State.updReq_sameUpper h1) h1
    · exact fo
  clear_value s1
  have h2 : SameUpper pre s2 := State.updPart_sameUpper h1
  clear_value s2
  apply foldl_sameUpper
  · intro x1 x2 h3
    exact State.updReq_sameUpper h3
  · exact h2

theorem State.tileRecord_sameUpper {pre : State} {s : State} (fo : SameUpper pre s) {t : Nat} {r : Rec} : SameUpper pre (s.tileRecord t r) := by
  unfold State.tileRecord
  exact State.record_sameUpper fo

theorem State.setTile_sameUpper {pre : State} {s : State} (fo : SameUpper pre s) {t : Nat} {x : TileSt} : SameUpper pre (s.setTile t x) := by
  unfold State.setTile
  exact fo.same (Eq.refl _)

theorem State.updTile_sameUpper {pre : State} {s : State} (fo : SameUpper pre s) {t : Nat} {f : TileSt → TileSt} : SameUpper pre (s.updTile t f) := by
  unfold State.updTile
  exact State.setTile_sameUpper fo

theorem State.tileFault_sameUpper {pre : State} {s : State} (fo : SameUpper pre s) {t : Nat} {r : Rec} : SameUpper pre (s.tileFault t r) := by
  unfold State.tileFault
  exact State.updTile_sameUpper (State.tileRecord_sameUpper fo)

theorem State.sendMark_sameUpper {pre : State} {s : State} (fo : SameUpper pre s) {p : Nat} {k : Nat} {ptp : Nat} : SameUpper pre (s.sendMark p k ptp) := by
  unfold State.sendMark
  apply foldl_sameUpper
  · intro x1 x2 h1
    exact State.sendFlit_sameUpper (State.emit_sameUpper h1)
  · exact fo

/-! ### Stops of a partition -/

section
variable (s : State) (p v : Nat) {f : Fld} {inst i : Nat} (hu : f.upper inst i)
include hu

theorem State.setPstate_reg_upper (hne : f.lo ≠ 28) : (s.setPstate p v).reg f inst i = s.reg f inst i := by
  unfold State.setPstate
  split
  · rfl
  · exact ((State.pstateInt_sameUpper .refl).reg f inst i hu).trans (State.reg_setG_other (Fld.key_ne_of_lo (by decide) hu.2.1 hne.symm))
theorem State.setStopr_reg_upper (hne : f.lo ≠ 22) : (s.setStopr p v).reg f inst i = s.reg f inst i := by
  unfold State.setStopr
  split
  · rfl
  · exact ((State.pstateInt_sameUpper .refl).reg f inst i hu).trans (State.reg_setG_other (Fld.key_ne_of_lo (by decide) hu.2.1 hne.symm))
theorem State.enter_reg_upper (hstate : f.lo ≠ 28) (hhold : f.lo ≠ 30) : (s.enter p v).reg f inst i = s.reg f inst i :=
  (State.setPstate_reg_upper _ p v hu hstate).trans (State.reg_setG_other (Fld.key_ne_of_lo (by decide) hu.2.1 hhold.symm))
/-- A command of the loader that ends with code 0 writes STATE (from bit 30) and CODE (from bit 0) of its slot. -/
theorem State.cmdEnd_reg_upper (o : Option Nat) (hstate : f.lo ≠ 30) : (s.cmdEnd v o 0).reg f inst i = s.reg f inst i := by
  unfold State.cmdEnd State.cmdEndWith
  simp only [if_pos]
  refine ((State.raiseInt_sameUpper .refl).reg f inst i hu).trans ?_
  exact (State.reg_setG_other (Fld.key_ne_of_lo (by decide) hu.2.1 (Nat.ne_of_lt (Nat.lt_of_succ_lt hu.1)))).trans
    (State.reg_setG_other (Fld.key_ne_of_lo (by decide) hu.2.1 hstate.symm))
theorem State.haltPart_reg_upper (hrun : f.lo ≠ 31) : (s.haltPart p).reg f inst i = s.reg f inst i :=
  State.reg_setG_other (f := CSD_PCFG_RUN) (Fld.key_ne_of_lo (by decide) hu.2.1 hrun.symm)
theorem State.startWrite_reg_upper (hrun : f.lo ≠ 31) (hstate : f.lo ≠ 28) (hhold : f.lo ≠ 30) :
    (s.startWrite p).reg f inst i = s.reg f inst i := by
  unfold State.startWrite
  rw [State.enter_reg_upper _ p _ hu hstate hhold]
  exact State.haltPart_reg_upper s p hu hrun
end

section
variable (s : State) (p r : Nat)

/-- A new stop reason reads back. -/
theorem State.setStopr_stopr : (s.setStopr p (r % 16)).g LD_PSTATE_STOPR p = r % 16 := by
  unfold State.setStopr
  split
  · assumption
  · refine ((State.pstateInt_sameUpper .refl).reg _ _ _ (Fld.upper_of_lo (by decide) (by decide))).trans ?_
    exact (State.g_setG_same ..).trans (Nat.mod_mod ..)

theorem State.startWrite_run : (s.startWrite p).reg CSD_PCFG_RUN 0 p = 0 := by
  unfold State.startWrite
  rw [State.enter_reg_upper _ p _ (Fld.upper_of_lo (by decide) (by decide)) (by decide) (by decide)]
  exact State.haltPart_run s p

/-- A stopped partition does not run. -/
theorem State.cascadeStop_run : (s.cascadeStop p r).reg CSD_PCFG_RUN 0 p = 0 := by
  unfold State.cascadeStop
  extract_lets s1 slot s2
  have hhalt : s1.reg CSD_PCFG_RUN 0 p = 0 := by
    refine ((State.chainStop_sameUpper (State.clearBindings_sameUpper .refl)).reg _ _ _ (Fld.upper_of_lo (by decide) (by decide))).trans ?_
    exact (State.setStopr_reg_upper _ p r (Fld.upper_of_lo (by decide) (by decide)) (by decide)).trans (State.haltPart_run _ p)
  clear_value s1
  split
  · exact State.startWrite_run _ p
  · have henter : s2.reg CSD_PCFG_RUN 0 p = 0 :=
      (State.enter_reg_upper s1 p psReady (Fld.upper_of_lo (by decide) (by decide)) (by decide) (by decide)).trans hhalt
    clear_value slot s2
    cases slot with
    | some n => exact (State.cmdEnd_reg_upper s2 n (Fld.upper_of_lo (by decide) (by decide)) _ (by decide)).trans henter
    | none => exact henter

section
variable {f : Fld} {inst i : Nat} (hu : f.upper inst i) (hlow : f.lo < 18)
include hu hlow

/-- The remaps of stream banks write counts of spares and DEGRADED, which start above bit 17. -/
theorem State.streamRemaps_reg_low : (s.streamRemaps p).reg f inst i = s.reg f inst i := by
  have hset : ∀ (a : State) (g : Fld) (t n v : Nat), 18 ≤ g.lo → g.lo < 32 → (a.setReg g t n v).reg f inst i = a.reg f inst i := fun a g t n v h18 h32 =>
    State.reg_setReg_other (Fld.key_ne_of_lo h32 hu.2.1 (Nat.ne_of_gt (Nat.lt_of_lt_of_le hlow h18)))
  have hdegraded : ∀ pl, 18 ≤ (degradedF pl).lo ∧ (degradedF pl).lo < 32 := fun pl => by unfold degradedF; split <;> decide
  have hspares : ∀ (row : Bool) (pl : Nat), 18 ≤ (if row then spareRowsF pl else spareGroupsF pl).lo ∧ (if row then spareRowsF pl else spareGroupsF pl).lo < 32 :=
    fun row pl => by unfold spareRowsF spareGroupsF; cases row <;> by_cases h : pl = 0 <;> simp only [h, if_true, if_false] <;> decide
  unfold State.streamRemaps
  refine foldl_keep (fun a : State => a.reg f inst i) (fun a e => ?_) _ s
  split
  · rfl
  · split
    · unfold State.remapCommit
      split
      · rfl
      · extract_lets n src u g v w
        have hv : v.reg f inst i = a.reg f inst i := by
          unfold v State.setSpares
          dsimp only
          split
          · exact (hset _ _ _ _ _ (hspares ..).1 (hspares ..).2).trans (hset _ _ _ _ _ (hspares ..).1 (hspares ..).2)
          · exact hset _ _ _ _ _ (hspares ..).1 (hspares ..).2
        have hw : w.reg f inst i = a.reg f inst i := by
          unfold w
          split
          · exact hv
          · exact (hset _ _ _ _ _ (hdegraded _).1 (hdegraded _).2).trans hv
        split
        · exact ((State.tileRecord_sameUpper .refl).reg f inst i hu).trans hw
        · rfl
    · rfl

/-- What a stop keeps of the registers: fields that start below bit 18 but not at bit 0. -/
theorem State.cascadeStop_reg_low (r : Nat) : (s.cascadeStop p r).reg f inst i = s.reg f inst i := by
  unfold State.cascadeStop
  extract_lets s1 slot s2
  have hhalt : s1.reg f inst i = s.reg f inst i := by
    refine ((State.chainStop_sameUpper (State.clearBindings_sameUpper .refl)).reg _ _ _ hu).trans ?_
    rw [State.setStopr_reg_upper _ p r hu (by omega), State.haltPart_reg_upper _ p hu (by omega)]
    exact State.streamRemaps_reg_low s p hu hlow
  clear_value s1
  split
  · refine (State.startWrite_reg_upper _ p hu (by omega) (by omega) (by omega)).trans ?_
    exact ((State.endReplaced_sameUpper .refl).reg _ _ _ hu).trans hhalt
  · have henter : s2.reg f inst i = s.reg f inst i := (State.enter_reg_upper s1 p psReady hu (by omega) (by omega)).trans hhalt
    clear_value slot s2
    cases slot with
    | some n => exact (State.cmdEnd_reg_upper s2 n hu _ (by omega)).trans henter
    | none => exact henter
end

/-- The stop reason of a stop reads back, whether or not a replacement of weights begins with it. -/
theorem State.cascadeStop_stopr : (s.cascadeStop p (r % 16)).g LD_PSTATE_STOPR p = r % 16 := by
  unfold State.cascadeStop
  extract_lets s1 slot s2
  have hstop : s1.reg LD_PSTATE_STOPR 0 p = r % 16 := by
    refine ((State.chainStop_sameUpper (State.clearBindings_sameUpper .refl)).reg _ _ _ (Fld.upper_of_lo (by decide) (by decide))).trans ?_
    exact State.setStopr_stopr _ p r
  clear_value s1
  split
  · refine (State.startWrite_reg_upper _ p (Fld.upper_of_lo (by decide) (by decide)) (by decide) (by decide) (by decide)).trans ?_
    exact ((State.endReplaced_sameUpper .refl).reg _ _ _ (Fld.upper_of_lo (by decide) (by decide))).trans hstop
  · have henter : s2.reg LD_PSTATE_STOPR 0 p = r % 16 :=
      (State.enter_reg_upper s1 p psReady (Fld.upper_of_lo (by decide) (by decide)) (by decide) (by decide)).trans hstop
    clear_value slot s2
    cases slot with
    | some n => exact (State.cmdEnd_reg_upper s2 n (Fld.upper_of_lo (by decide) (by decide)) _ (by decide)).trans henter
    | none => exact henter
end

end Sys2Proof.Machine
end

section
/-! PROOF. R158, R184: what a boundary and an abort leave of a partition, from the counts above and the stop that follows them. -/

namespace Sys2Proof.Machine

open Sys2Proof Sys2Proof.Safety

theorem exec_commitBoundary_decided {part : Part} {s : State} (h : (s.part part.val).phase = .decided .commit) :
    exec (.commitBoundary part) s = .next ((s.commitPart part.val).afterCommit part.val) := by
  simp [exec, execCommitBoundary, h]

/-! ### Faulted steps -/

/-- The faulted step is discarded and counted. -/
theorem faultedStep_countedUp {part : Part} {s : State} (h : (s.part part.val).phase = .decided .faulted) :
    ∃ u, CountedUp 0 s u part.val ∧ exec (.faultedStepBoundary part) s = .next
      (if (s.part part.val).retries then u.nextAttempt part.val (u.part part.val).prog true
       else u.cascadeStop part.val (if (u.part part.val).timedOut then 3 else 2)) := by
  show ∃ u, _ ∧ execFaultedStepBoundary part s = _
  unfold execFaultedStepBoundary
  extract_lets p again s1 s2 s3 s4
  have h1 : SameCounts s s1 := SameCounts.ite .refl (State.record_sameCounts .refl)
  have h3 : SameCounts s s3 := State.onTiles_sameCounts (State.rangeFailures_sameCounts (State.discardAttempt_sameCounts h1))
  refine ⟨s4, (State.updPart_sameCounts h3).thenCountUp p, ?_⟩
  rw [if_pos (by simp [p, h])]
  split <;> rfl

theorem PartSt.retries_of_noRetry {x : PartSt} (h : x.noRetry = true) : x.retries = false := by
  simp [PartSt.retries, h]

/-! ### Recompute passes and aborts -/

theorem State.recomputeTile_parts (s : State) (t : Nat) : (s.recomputeTile t).parts = s.parts := by
  unfold State.recomputeTile
  refine foldl_keep State.parts (fun a o => ?_) _ _
  rfl

theorem State.recompute_part (s : State) (ts : List Nat) (p : Nat) : (ts.foldl (fun s t => s.recomputeTile t) s).part p = s.part p := by
  unfold State.part
  rw [foldl_keep State.parts (fun u t => u.recomputeTile_parts t)]

theorem State.nextAttempt_part_same (s : State) (p prog : Nat) (start : Bool) : (s.nextAttempt p prog start).part p =
    { s.part p with phase := .ready, nextProg := prog, goStart := start, regRep := Map.empty, noRetry := false } :=
  State.part_updPart_same ..

theorem exec_recomputeDone_ready {part : Part} {s : State} (h : (s.part part.val).phase = .recompute) (hkept : (s.part part.val).timedOut = false) :
    ∃ u : State, u.part part.val = s.part part.val ∧
      exec (.recomputeDone part) s = .next ((u.nextAttempt part.val (u.part part.val).nextProg true).sendGo part.val 5) := by
  show ∃ u : State, _ ∧ execRecomputeDone part s = _
  unfold execRecomputeDone
  extract_lets p ts s1
  have hpart : s1.part p = s.part p := State.recompute_part ..
  refine ⟨s1, hpart, ?_⟩
  rw [if_pos (by simp [p, h]), if_neg (by simp [hpart, p, hkept])]

theorem State.abortPart_stopped {s : State} {p : Nat} (hrun : s.flag CSD_PCFG_RUN 0 p = true) :
    ((s.abortPart p).part p).phase = .stopped ∧ (s.abortPart p).flag CSD_PCFG_RUN 0 p = false := by
  unfold State.abortPart
  rw [if_pos hrun, State.clearBindings_part_same, State.haltPart_part_same]
  exact ⟨rfl, by simp [State.flag]⟩

/-- Settles O30: each boundary's own lemma above gives the counts, and the stop that follows a fault without retry clears RUN. -/
theorem boundariesAdvanceTheCounts : Obligations.BoundariesAdvanceTheCounts := by
  unfold Obligations.BoundariesAdvanceTheCounts
  intro part s
  refine ⟨fun h => ?_, fun h => ?_, fun h => ?_, fun h hkept => ?_, fun hrun => ?_⟩
  · exact ⟨_, exec_commitBoundary_decided h, (s.commitPart_countedUp part.val).then (State.afterCommit_sameCounts .refl)⟩
  · rcases h with h | ⟨rc, h⟩
    · exact ⟨_, by simp only [exec, execReplayBoundary, h], s.sameProgram_countedUp part.val⟩
    · exact ⟨_, by simp only [exec, execReplayBoundary, h], s.troubleReplay_countedUp part.val rc⟩
  · obtain ⟨u, hcount, hexec⟩ := faultedStep_countedUp h
    refine ⟨_, hexec, ?_⟩
    obtain ⟨hc, hi⟩ := hcount.then (SameCounts.ite (c := (s.part part.val).retries = true) (State.nextAttempt_sameCounts .refl) (State.cascadeStop_sameCounts .refl))
    refine ⟨hc, hi, fun hno => ?_⟩
    rw [if_neg (by simp [PartSt.retries_of_noRetry hno])]
    simp [State.flag, State.cascadeStop_run]
  · obtain ⟨u, hpart, hexec⟩ := exec_recomputeDone_ready h hkept
    refine ⟨_, hexec, ?_⟩
    rw [State.sendGo_part, State.nextAttempt_part_same, hpart]
    exact ⟨rfl, rfl, rfl⟩
  · obtain ⟨hc, hi⟩ := State.abortPart_countedUp hrun
    obtain ⟨hphase, hstopped⟩ := State.abortPart_stopped hrun
    exact ⟨_, rfl, hc, hi, hphase, hstopped⟩

end Sys2Proof.Machine
end

section
/-! PROOF. What the commands of links, sessions, power and heat leave of the work of tiles and partitions: one relation for each of the two families, one
lemma for each operation, then the statement. -/

namespace Sys2Proof.Machine

open Sys2Proof Sys2Proof.Safety

-- One proof after another: these many small proofs would otherwise wait for each other on a thread each.
set_option Elab.async false

/-! ### Commands of links, time, ownership and sessions -/

/-- The work, the power state and the thermal state are the same. -/
structure LinkFrame (s t : State) : Prop where
  all : sameWork s t ∧ t.power = s.power ∧ t.thermal = s.thermal
def LinkFrameO (a : State) (o : Host.Outcome State Fault Refusal) : Prop := ∃ t, o = .next t ∧ LinkFrame a t

theorem LinkFrame.refl {a : State} : LinkFrame a a := ⟨by simp [sameWork]⟩
theorem LinkFrame.trans {a s t : State} (h : LinkFrame a s) (k : LinkFrame s t) : LinkFrame a t := by
  obtain ⟨hwork, h⟩ := h
  obtain ⟨kwork, k⟩ := k
  simp only [sameWork] at hwork kwork
  exact ⟨by simp only [sameWork, kwork, hwork, k, h, and_self]⟩
/-- A change of nothing that the frame names. -/
theorem LinkFrame.same {a s t : State} (h : LinkFrame a s)
    (k : sameWork s t ∧ t.power = s.power ∧ t.thermal = s.thermal := by exact ⟨⟨rfl, rfl, rfl, rfl, rfl, rfl, rfl, rfl, rfl, rfl, rfl, rfl, rfl, rfl⟩, rfl, rfl⟩) : LinkFrame a t := h.trans ⟨k⟩
theorem LinkFrame.ite {a u v : State} {c : Prop} [Decidable c] (hu : LinkFrame a u) (hv : LinkFrame a v) : LinkFrame a (if c then u else v) := by
  split <;> assumption
theorem LinkFrameO.ite {a : State} {u v : Host.Outcome State Fault Refusal} {c : Prop} [Decidable c] (hu : LinkFrameO a u) (hv : LinkFrameO a v) :
    LinkFrameO a (if c then u else v) := by
  split <;> assumption
theorem LinkFrameO.next {a s : State} (h : LinkFrame a s) : LinkFrameO a (.next s) := ⟨s, rfl, h⟩
theorem foldl_linkFrame {a : State} {β : Type} {f : State → β → State} (hf : ∀ s b, LinkFrame a s → LinkFrame a (f s b)) {l : List β} :
    ∀ {s : State}, LinkFrame a s → LinkFrame a (l.foldl f s) := by
  induction l with
  | nil => intro s h; exact h
  | cons b r ih => intro s h; exact ih (hf s b h)

theorem State.emit_linkFrame {pre s : State} (fo : LinkFrame pre s) {o : Out} : LinkFrame pre (s.emit o) := fo.same
theorem State.setReg_linkFrame {pre s : State} (fo : LinkFrame pre s) {f : Fld} {inst i v : Nat} : LinkFrame pre (s.setReg f inst i v) := fo.same
theorem State.setG_linkFrame {pre s : State} (fo : LinkFrame pre s) {f : Fld} {i v : Nat} : LinkFrame pre (s.setG f i v) := fo.same
theorem State.addReg_linkFrame {pre s : State} (fo : LinkFrame pre s) {f : Fld} {inst i v : Nat} : LinkFrame pre (s.addReg f inst i v) := fo.same
theorem State.IntsOnly.linkFrame {s t : State} (h : s.IntsOnly t) : LinkFrame s t := by
  obtain ⟨_, _, _, rfl⟩ := h
  exact LinkFrame.refl.same
theorem State.raiseInt_linkFrame {pre s : State} (fo : LinkFrame pre s) {fn bit : Nat} : LinkFrame pre (s.raiseInt fn bit) :=
  fo.trans (State.raiseInt_only ..).linkFrame
theorem State.msix_linkFrame {pre s : State} (fo : LinkFrame pre s) {fn vec : Nat} : LinkFrame pre (s.msix fn vec) :=
  fo.trans (State.msix_only ..).linkFrame
/-- A record that names no partition moves none. -/
theorem State.record_linkFrame {pre s : State} (fo : LinkFrame pre s) {r : Rec} (hpart : r.part = none := by exact rfl) : LinkFrame pre (s.record r) := by
  have hparts := s.record_parts hpart
  obtain ⟨_, _, _, _, e⟩ := s.record_only r
  rw [e] at hparts ⊢
  obtain rfl := hparts
  exact fo.same

theorem State.pcieDown_linkFrame {pre : State} {s : State} (fo : LinkFrame pre s) : LinkFrame pre s.pcieDown := by
  unfold State.pcieDown
  apply LinkFrame.ite
  · extract_lets s1 s2
    have h1 : LinkFrame pre s1 := State.setG_linkFrame (State.setG_linkFrame (State.setG_linkFrame fo))
    clear_value s1
    refine State.record_linkFrame ?_
    exact h1.same
  · exact fo

theorem execPcieLinkDown_linkFrame {pre : State} {s : State} (fo : LinkFrame pre s) : LinkFrameO pre (execPcieLinkDown s) := by
  unfold execPcieLinkDown
  exact LinkFrameO.next (State.pcieDown_linkFrame fo)

theorem State.ethDown_linkFrame {pre : State} {s : State} (fo : LinkFrame pre s) {n : Nat} : LinkFrame pre (s.ethDown n) := by
  unfold State.ethDown
  apply LinkFrame.ite
  · extract_lets s1 s2
    have h1 : LinkFrame pre s1 := State.setG_linkFrame fo
    clear_value s1
    have h2 : LinkFrame pre s2 := by
      unfold s2
      apply foldl_linkFrame
      · intro x1 x2 h2
        exact LinkFrame.ite (State.setG_linkFrame h2) h2
      · exact h1
    clear_value s2
    exact State.record_linkFrame h2
  · exact fo

theorem execEthPortDown_linkFrame {pre : State} {port : Fin 4} {s : State} (fo : LinkFrame pre s) : LinkFrameO pre (execEthPortDown port s) := by
  unfold execEthPortDown
  exact LinkFrameO.next (State.ethDown_linkFrame fo)

theorem execEthFrame_linkFrame {pre : State} {port : Fin 4} {frame : EthFrame} {s : State} (fo : LinkFrame pre s) : LinkFrameO pre (execEthFrame port frame s) := by
  unfold execEthFrame
  extract_lets s1
  exact LinkFrameO.ite (LinkFrameO.next fo) (LinkFrameO.ite (LinkFrameO.next (State.addReg_linkFrame fo)) (LinkFrameO.ite (LinkFrameO.next (State.addReg_linkFrame fo)) (LinkFrameO.ite (LinkFrameO.next (State.emit_linkFrame fo)) (LinkFrameO.next fo))))

theorem State.linkRecord_linkFrame {pre : State} {s : State} (fo : LinkFrame pre s) {code : Nat} {port : Nat} {lane : Nat} : LinkFrame pre (s.linkRecord code port lane) := by
  unfold State.linkRecord
  exact State.record_linkFrame fo

theorem State.correct_linkFrame {pre : State} {s : State} (fo : LinkFrame pre s) {ofs : Int} {port : Nat} : LinkFrame pre (s.correct ofs port) := by
  unfold State.correct
  apply LinkFrame.ite
  · exact fo.same
  · apply State.linkRecord_linkFrame
    exact fo.same

theorem execPtpMessage_linkFrame {pre : State} {port : Fin 4} {domain : Fin 256} {transport : Fin 4} {offset : Int} {rate : Fin 65536} {s : State} (fo : LinkFrame pre s) : LinkFrameO pre (execPtpMessage port domain transport offset rate s) := by
  unfold execPtpMessage
  exact LinkFrameO.ite (LinkFrameO.next (State.correct_linkFrame (State.setG_linkFrame (State.setG_linkFrame (State.setG_linkFrame fo))))) (LinkFrameO.next fo)

theorem execPtpLockLoss_linkFrame {pre : State} {s : State} (fo : LinkFrame pre s) : LinkFrameO pre (execPtpLockLoss s) := by
  unfold execPtpLockLoss
  apply LinkFrameO.ite
  · apply LinkFrameO.next
    apply State.linkRecord_linkFrame
    apply State.setG_linkFrame
    exact fo.same
  · exact LinkFrameO.next fo

theorem execPpsInPulse_linkFrame {pre : State} {ns : Fin 1000000000} {s : State} (fo : LinkFrame pre s) : LinkFrameO pre (execPpsInPulse ns s) := by
  unfold execPpsInPulse
  apply LinkFrameO.ite
  · extract_lets s1 s2
    apply LinkFrameO.next
    apply State.correct_linkFrame
    apply State.setG_linkFrame
    apply State.setG_linkFrame
    exact fo.same
  · exact LinkFrameO.next fo

theorem State.licRecord_linkFrame {pre : State} {s : State} (fo : LinkFrame pre s) {f : Nat} {part : Option Nat} (hpart : part = none := by exact rfl) : LinkFrame pre (s.licRecord f part) := by
  unfold State.licRecord
  exact State.record_linkFrame fo hpart

theorem State.answerSpdm_linkFrame {pre : State} {s : State} (fo : LinkFrame pre s) {code : Nat} : LinkFrame pre (s.answerSpdm code) := by
  unfold State.answerSpdm
  exact State.emit_linkFrame fo

theorem State.settlePort_linkFrame {pre : State} {s : State} (fo : LinkFrame pre s) {n : Nat} : LinkFrame pre (s.settlePort n) := by
  unfold State.settlePort
  extract_lets s1
  exact State.setG_linkFrame (State.setG_linkFrame fo)

theorem State.settlePorts_linkFrame {pre : State} {s : State} (fo : LinkFrame pre s) : LinkFrame pre s.settlePorts := by
  unfold State.settlePorts
  apply foldl_linkFrame
  · intro x1 x2 h1
    exact LinkFrame.ite (State.settlePort_linkFrame h1) h1
  · exact fo

theorem State.refreshChain_linkFrame {pre : State} {s : State} (fo : LinkFrame pre s) {p : Nat} : LinkFrame pre (s.refreshChain p) := by
  unfold State.refreshChain
  extract_lets s1 s2 s3 s4 s5 s6
  have h1 : ∀ (s : State) (f : Fld) (v : Nat), LinkFrame pre s → LinkFrame pre (s6 s f v) := by
    intro x1 x2 x3 h1
    unfold s6
    exact State.setG_linkFrame h1
  clear_value s6
  apply h1
  · apply h1
    · apply h1
      · apply h1
        · exact fo

theorem State.applyPlan_linkFrame {pre : State} {s : State} (fo : LinkFrame pre s) : LinkFrame pre s.applyPlan := by
  unfold State.applyPlan
  extract_lets s1
  have h1 : LinkFrame pre s1 := State.setG_linkFrame (State.setG_linkFrame (State.setG_linkFrame fo))
  clear_value s1
  apply foldl_linkFrame
  · intro x1 x2 h2
    exact State.refreshChain_linkFrame h2
  · exact h1

theorem State.secRecord_linkFrame {pre : State} {s : State} (fo : LinkFrame pre s) {code : Nat} : LinkFrame pre (s.secRecord code) := by
  unfold State.secRecord
  exact State.record_linkFrame fo

theorem State.refuseOwner_linkFrame {pre : State} {s : State} (fo : LinkFrame pre s) : LinkFrame pre s.refuseOwner := by
  unfold State.refuseOwner
  exact State.answerSpdm_linkFrame (State.secRecord_linkFrame fo)

theorem State.ownerCmd_linkFrame {pre : State} {s : State} (fo : LinkFrame pre s) {p : Path} {ok : Bool} {act : State → State} (foact : ∀ (a : State), LinkFrame pre a → LinkFrame pre (act a)) : LinkFrameO pre (s.ownerCmd p ok act) := by
  unfold State.ownerCmd
  apply LinkFrameO.ite
  · exact LinkFrameO.next fo
  · apply LinkFrameO.ite
    · apply LinkFrameO.next
      apply State.answerSpdm_linkFrame
      apply foact
      · exact fo
    · exact LinkFrameO.next (State.refuseOwner_linkFrame fo)

theorem execSetFabricMode_linkFrame {pre : State} {path : Path} {chained : Bool} {s : State} (fo : LinkFrame pre s) : LinkFrameO pre (execSetFabricMode path chained s) := by
  unfold execSetFabricMode
  apply LinkFrameO.ite
  · exact LinkFrameO.next (State.answerSpdm_linkFrame (State.licRecord_linkFrame fo))
  · apply State.ownerCmd_linkFrame
    · exact fo
    · intro x1 h1
      apply State.settlePorts_linkFrame
      apply State.applyPlan_linkFrame
      exact h1.same

theorem execSetChainPlan_linkFrame {pre : State} {path : Path} {image : List Byte} {s : State} (fo : LinkFrame pre s) : LinkFrameO pre (execSetChainPlan path image s) := by
  unfold execSetChainPlan
  extract_lets s1
  apply State.ownerCmd_linkFrame
  · exact fo
  · intro x1 h1
    apply State.settlePorts_linkFrame
    apply State.applyPlan_linkFrame
    exact h1.same

theorem State.setOwnerKey_linkFrame {pre : State} {s : State} (h : LinkFrame pre s) {slot : Nat} {k : OwnerKey} : LinkFrame pre (s.setOwnerKey slot k) := by
  unfold State.setOwnerKey
  exact h.same

theorem execTakeOwnership_linkFrame {pre : State} {path : Path} {session : Fin 4} {key : OwnerKey} {s : State} (fo : LinkFrame pre s) : LinkFrameO pre (execTakeOwnership path session key s) := by
  unfold execTakeOwnership
  exact LinkFrameO.ite (LinkFrameO.next fo) (LinkFrameO.ite (LinkFrameO.next (State.answerSpdm_linkFrame (State.setOwnerKey_linkFrame fo))) (LinkFrameO.next (State.refuseOwner_linkFrame fo)))

theorem execEnrollOwner_linkFrame {pre : State} {path : Path} {slot : Fin 4} {key : OwnerKey} {s : State} (fo : LinkFrame pre s) : LinkFrameO pre (execEnrollOwner path slot key s) := by
  unfold execEnrollOwner
  exact State.ownerCmd_linkFrame fo (fun x h => State.setOwnerKey_linkFrame h)

theorem execRevokeOwner_linkFrame {pre : State} {path : Path} {slot : Fin 4} {s : State} (fo : LinkFrame pre s) : LinkFrameO pre (execRevokeOwner path slot s) := by
  unfold execRevokeOwner
  exact State.ownerCmd_linkFrame fo (fun x h => h.same)

theorem State.setKeyId_linkFrame {pre : State} {s : State} (fo : LinkFrame pre s) {slot : Nat} {v : Nat} : LinkFrame pre (s.setKeyId slot v) := by
  unfold State.setKeyId
  exact State.setG_linkFrame (State.setG_linkFrame fo)

theorem execReleaseOwnership_linkFrame {pre : State} {path : Path} {s : State} (fo : LinkFrame pre s) : LinkFrameO pre (execReleaseOwnership path s) := by
  unfold execReleaseOwnership
  refine State.ownerCmd_linkFrame fo (fun x h => ?_)
  have h1 : LinkFrame pre { x with repair := { x.repair with pubKeys := Map.empty } } :=
    h.same
  have h2 : LinkFrame pre ((upTo 32).foldl (fun (s : State) k => s.setKeyId k 0) { x with repair := { x.repair with pubKeys := Map.empty } }) :=
    foldl_linkFrame (fun y b h2 => State.setKeyId_linkFrame h2) h1
  dsimp only
  generalize (upTo 32).foldl (fun (s : State) k => s.setKeyId k 0) { x with repair := { x.repair with pubKeys := Map.empty } } = y at h2 ⊢
  refine State.settlePorts_linkFrame (State.applyPlan_linkFrame ?_)
  exact h2.same

theorem execSessionLock_linkFrame {pre : State} {path : Path} {s : State} (fo : LinkFrame pre s) : LinkFrameO pre (execSessionLock path s) := by
  unfold execSessionLock
  apply State.ownerCmd_linkFrame
  · exact fo
  · intro x1 h1
    exact h1.same

theorem execSessionOpen_linkFrame {pre : State} {path : Path} {ask : SessionAsk} {s : State} (fo : LinkFrame pre s) : LinkFrameO pre (execSessionOpen path ask s) := by
  unfold execSessionOpen
  refine LinkFrameO.ite (LinkFrameO.next fo) ?_
  split
  · exact LinkFrameO.next (State.answerSpdm_linkFrame (State.secRecord_linkFrame fo))
  · split
    · exact LinkFrameO.next (State.answerSpdm_linkFrame (State.secRecord_linkFrame fo))
    · refine LinkFrameO.next (State.answerSpdm_linkFrame ?_)
      exact fo.same

theorem State.endSession_linkFrame {pre : State} {s : State} (h : LinkFrame pre s) {k : Nat} : LinkFrame pre (s.endSession k) := by
  unfold State.endSession
  exact h.same

theorem execSessionHeartbeatLoss_linkFrame {pre : State} {session : Fin 8} {s : State} (fo : LinkFrame pre s) : LinkFrameO pre (execSessionHeartbeatLoss session s) := by
  unfold execSessionHeartbeatLoss
  exact LinkFrameO.ite (LinkFrameO.next (State.secRecord_linkFrame (State.endSession_linkFrame fo))) (LinkFrameO.next fo)

theorem execGetMeasurements_linkFrame {pre : State} {path : Path} {index : Fin 256} {s : State} (fo : LinkFrame pre s) : LinkFrameO pre (execGetMeasurements path index s) := by
  unfold execGetMeasurements
  extract_lets s1
  exact LinkFrameO.ite (LinkFrameO.next fo) (LinkFrameO.ite (LinkFrameO.next (State.answerSpdm_linkFrame fo)) (LinkFrameO.next (State.emit_linkFrame fo)))

theorem State.sendPending_linkFrame {pre : State} {s : State} (fo : LinkFrame pre s) : LinkFrame pre s.sendPending := by
  unfold State.sendPending
  apply foldl_linkFrame
  · intro x1 x2 h1
    apply LinkFrame.ite
    · apply State.emit_linkFrame
      exact h1.same
    · exact h1
  · exact fo

theorem execPcieLinkUp_linkFrame {pre : State} {speed : Fin 7} {lanes : Fin 5} {flit : Bool} {s : State} (fo : LinkFrame pre s) : LinkFrameO pre (execPcieLinkUp speed lanes flit s) := by
  unfold execPcieLinkUp
  apply LinkFrameO.ite
  · exact LinkFrameO.next fo
  · extract_lets s1 s2
    have h1 : LinkFrame pre s1 := State.setG_linkFrame (State.setG_linkFrame (State.setG_linkFrame fo))
    clear_value s1
    apply LinkFrameO.next
    apply State.sendPending_linkFrame
    exact h1.same

theorem execEthPortUp_linkFrame {pre : State} {port : Fin 4} {s : State} (fo : LinkFrame pre s) : LinkFrameO pre (execEthPortUp port s) := by
  unfold execEthPortUp
  exact LinkFrameO.ite (LinkFrameO.next fo) (LinkFrameO.next (State.setG_linkFrame fo))

theorem execSessionClose_linkFrame {pre : State} {session : Fin 8} {s : State} (fo : LinkFrame pre s) : LinkFrameO pre (execSessionClose session s) := by
  unfold execSessionClose
  exact LinkFrameO.ite (LinkFrameO.next (State.endSession_linkFrame fo)) (LinkFrameO.next fo)

theorem execBusMasterEnableChange_linkFrame {pre : State} {change : BusChange} {s : State} (fo : LinkFrame pre s) : LinkFrameO pre (execBusMasterEnableChange change s) := by
  unfold execBusMasterEnableChange
  apply LinkFrameO.ite
  · exact LinkFrameO.next fo
  · split
    · rename_i y1 y2
      apply LinkFrameO.next
      apply State.sendPending_linkFrame
      exact fo.same
    · rename_i y1 y2 y3
      apply LinkFrameO.ite
      · exact LinkFrameO.next fo
      · apply LinkFrameO.next
        apply State.sendPending_linkFrame
        exact fo.same

/-- Commands of links, time, ownership and sessions leave the work, power and heat alone. -/
theorem exec_linkFrame {c : Instr} (h : linkCommand c = true) (s : State) : LinkFrameO s (exec c s) := by
  cases c with
  | pcieLinkDown => exact execPcieLinkDown_linkFrame .refl
  | ethPortDown => exact execEthPortDown_linkFrame .refl
  | ethFrame => exact execEthFrame_linkFrame .refl
  | ptpMessage => exact execPtpMessage_linkFrame .refl
  | ptpLockLoss => exact execPtpLockLoss_linkFrame .refl
  | ppsInPulse => exact execPpsInPulse_linkFrame .refl
  | setFabricMode => exact execSetFabricMode_linkFrame .refl
  | setChainPlan => exact execSetChainPlan_linkFrame .refl
  | takeOwnership => exact execTakeOwnership_linkFrame .refl
  | enrollOwner => exact execEnrollOwner_linkFrame .refl
  | revokeOwner => exact execRevokeOwner_linkFrame .refl
  | releaseOwnership => exact execReleaseOwnership_linkFrame .refl
  | sessionLock => exact execSessionLock_linkFrame .refl
  | sessionOpen => exact execSessionOpen_linkFrame .refl
  | sessionHeartbeatLoss => exact execSessionHeartbeatLoss_linkFrame .refl
  | getMeasurements => exact execGetMeasurements_linkFrame .refl
  | pcieLinkUp => exact execPcieLinkUp_linkFrame .refl
  | ethPortUp => exact execEthPortUp_linkFrame .refl
  | sessionClose => exact execSessionClose_linkFrame .refl
  | busMasterEnableChange => exact execBusMasterEnableChange_linkFrame .refl
  | _ => exact absurd h Bool.false_ne_true

/-! ### Commands that watch power and heat -/

/-- The work, sessions, owner keys, the chain plan and PTP time are the same. -/
structure WatchFrame (s t : State) : Prop where
  all : sameWork s t ∧ t.link.sessions = s.link.sessions ∧ t.link.ownerKeys = s.link.ownerKeys ∧ t.link.plan = s.link.plan ∧ t.ptp = s.ptp
def WatchFrameO (a : State) (o : Host.Outcome State Fault Refusal) : Prop := ∃ t, o = .next t ∧ WatchFrame a t

theorem WatchFrame.refl {a : State} : WatchFrame a a := ⟨by simp [sameWork]⟩
theorem WatchFrame.trans {a s t : State} (h : WatchFrame a s) (k : WatchFrame s t) : WatchFrame a t := by
  obtain ⟨hwork, h⟩ := h
  obtain ⟨kwork, k⟩ := k
  simp only [sameWork] at hwork kwork
  exact ⟨by simp only [sameWork, kwork, hwork, k, h, and_self]⟩
/-- A change of nothing that the frame names. -/
theorem WatchFrame.same {a s t : State} (h : WatchFrame a s)
    (k : sameWork s t ∧ t.link.sessions = s.link.sessions ∧ t.link.ownerKeys = s.link.ownerKeys ∧ t.link.plan = s.link.plan ∧ t.ptp = s.ptp := by exact ⟨⟨rfl, rfl, rfl, rfl, rfl, rfl, rfl, rfl, rfl, rfl, rfl, rfl, rfl, rfl⟩, rfl, rfl, rfl, rfl⟩) : WatchFrame a t := h.trans ⟨k⟩
theorem WatchFrame.ite {a u v : State} {c : Prop} [Decidable c] (hu : WatchFrame a u) (hv : WatchFrame a v) : WatchFrame a (if c then u else v) := by
  split <;> assumption
theorem WatchFrameO.ite {a : State} {u v : Host.Outcome State Fault Refusal} {c : Prop} [Decidable c] (hu : WatchFrameO a u) (hv : WatchFrameO a v) :
    WatchFrameO a (if c then u else v) := by
  split <;> assumption
theorem WatchFrameO.next {a s : State} (h : WatchFrame a s) : WatchFrameO a (.next s) := ⟨s, rfl, h⟩
theorem foldl_watchFrame {a : State} {β : Type} {f : State → β → State} (hf : ∀ s b, WatchFrame a s → WatchFrame a (f s b)) {l : List β} :
    ∀ {s : State}, WatchFrame a s → WatchFrame a (l.foldl f s) := by
  induction l with
  | nil => intro s h; exact h
  | cons b r ih => intro s h; exact ih (hf s b h)

theorem foldl_watchFrame22 {a : State} {β γ δ : Type} {f : γ × δ × State → β → γ × δ × State}
    (hf : ∀ s b, WatchFrame a s.2.2 → WatchFrame a (f s b).2.2) {l : List β} : ∀ {s : γ × δ × State}, WatchFrame a s.2.2 → WatchFrame a (l.foldl f s).2.2 := by
  induction l with
  | nil => intro s h; exact h
  | cons b r ih => intro s h; exact ih (hf s b h)

theorem State.emit_watchFrame {pre s : State} (fo : WatchFrame pre s) {o : Out} : WatchFrame pre (s.emit o) := fo.same
theorem State.setReg_watchFrame {pre s : State} (fo : WatchFrame pre s) {f : Fld} {inst i v : Nat} : WatchFrame pre (s.setReg f inst i v) := fo.same
theorem State.setG_watchFrame {pre s : State} (fo : WatchFrame pre s) {f : Fld} {i v : Nat} : WatchFrame pre (s.setG f i v) := fo.same
theorem State.addReg_watchFrame {pre s : State} (fo : WatchFrame pre s) {f : Fld} {inst i v : Nat} : WatchFrame pre (s.addReg f inst i v) := fo.same
/-- Interrupts leave of the links everything but pending vectors. -/
theorem WatchFrame.of_ints {s t : State} (h : s.IntsOnly t) (k : s.LinkKept t) : WatchFrame s t := by
  obtain ⟨_, _, _, rfl⟩ := h
  obtain ⟨_, e⟩ := k
  obtain rfl := e
  exact WatchFrame.refl.same
theorem State.raiseInt_watchFrame {pre s : State} (fo : WatchFrame pre s) {fn bit : Nat} : WatchFrame pre (s.raiseInt fn bit) :=
  fo.trans (.of_ints (State.raiseInt_only ..) (State.raiseInt_linkKept ..))
/-- A record that names no partition moves none. -/
theorem State.record_watchFrame {pre s : State} (fo : WatchFrame pre s) {r : Rec} (hpart : r.part = none := by exact rfl) : WatchFrame pre (s.record r) := by
  have hparts := s.record_parts hpart
  obtain ⟨_, hlink⟩ := s.record_linkKept r
  obtain ⟨_, _, _, _, e⟩ := s.record_only r
  rw [e] at hparts hlink ⊢
  obtain rfl := hparts
  obtain rfl := hlink
  exact fo.same

theorem State.pwrRecord_watchFrame {pre : State} {s : State} (fo : WatchFrame pre s) {code : Nat} {site : Nat} {quad : Nat} {chk : Nat} {phase : Nat} {part : Option Nat} (hpart : part = none := by exact rfl) : WatchFrame pre (s.pwrRecord code site quad chk phase part) := by
  unfold State.pwrRecord
  exact State.record_watchFrame fo hpart

theorem execTransitRegulatorFault_watchFrame {pre : State} {site : Site} {s : State} (fo : WatchFrame pre s) : WatchFrameO pre (execTransitRegulatorFault site s) := by
  unfold execTransitRegulatorFault
  apply WatchFrameO.ite
  · exact WatchFrameO.next fo
  · apply WatchFrameO.next
    refine State.pwrRecord_watchFrame ?_
    exact fo.same

theorem execSpillwayBoost_watchFrame {pre : State} {tile : Tile} {mv : Fin 1024} {s : State} (fo : WatchFrame pre s) : WatchFrameO pre (execSpillwayBoost tile mv s) := by
  unfold execSpillwayBoost
  extract_lets s1 s2
  apply WatchFrameO.ite
  · apply WatchFrameO.next
    apply State.emit_watchFrame
    apply State.setG_watchFrame
    exact fo.same
  · exact WatchFrameO.next fo

theorem execSpillwayShunt_watchFrame {pre : State} {tile : Tile} {mv : Fin 1024} {s : State} (fo : WatchFrame pre s) : WatchFrameO pre (execSpillwayShunt tile mv s) := by
  unfold execSpillwayShunt
  extract_lets s1
  exact WatchFrameO.ite (WatchFrameO.next (State.emit_watchFrame fo)) (WatchFrameO.next fo)

theorem execClockStretchStart_watchFrame {pre : State} {tile : Tile} {mv : Fin 1024} {s : State} (fo : WatchFrame pre s) : WatchFrameO pre (execClockStretchStart tile mv s) := by
  unfold execClockStretchStart
  apply WatchFrameO.ite
  · apply WatchFrameO.next
    exact fo.same
  · exact WatchFrameO.next fo

theorem execClockStretchEnd_watchFrame {pre : State} {region : Region} {below : Fin 1024} {s : State} (fo : WatchFrame pre s) : WatchFrameO pre (execClockStretchEnd region below s) := by
  unfold execClockStretchEnd
  apply WatchFrameO.ite
  · apply WatchFrameO.next
    exact fo.same
  · exact WatchFrameO.next fo

theorem State.senseAt_watchFrame {pre : State} {s : State} (fo : WatchFrame pre s) {site : Nat} {point : Nat} {mv : Nat} {at_ : Nat} : WatchFrame pre (State.senseAt s site point mv at_) := by
  unfold State.senseAt
  extract_lets s1 s2 s3
  exact WatchFrame.ite (fo.same) fo

theorem State.sense_watchFrame {pre : State} {s : State} (fo : WatchFrame pre s) {site : Nat} {point : Nat} {mv : Nat} : WatchFrame pre (State.sense s site point mv) := by
  unfold State.sense
  exact State.senseAt_watchFrame fo

theorem execDeepDroop_watchFrame {pre : State} {site : Site} {point : Fin 4} {mv : Fin 1024} {s : State} (fo : WatchFrame pre s) : WatchFrameO pre (execDeepDroop site point mv s) := by
  unfold execDeepDroop
  extract_lets s1 s2 s3
  have h1 : WatchFrame pre s1 := State.sense_watchFrame fo
  clear_value s1
  have h2 : WatchFrame pre s2 := State.pwrRecord_watchFrame (State.setG_watchFrame h1)
  clear_value s2
  apply WatchFrameO.ite
  · apply WatchFrameO.next
    exact h2.same
  · exact WatchFrameO.next h1

theorem State.clearVmin_watchFrame {pre : State} {s : State} (fo : WatchFrame pre s) : WatchFrame pre s.clearVmin := by
  unfold State.clearVmin
  exact fo.same

theorem State.refuseMessage_watchFrame {pre : State} {s : State} (fo : WatchFrame pre s) : WatchFrame pre s.refuseMessage := by
  unfold State.refuseMessage
  exact State.emit_watchFrame fo

theorem State.refuseWrite_watchFrame {pre : State} {s : State} (fo : WatchFrame pre s) {p : Path} {pg : Page} {inst : Nat} : WatchFrame pre (s.refuseWrite p pg inst) := by
  unfold State.refuseWrite
  extract_lets s1
  exact State.setReg_watchFrame (State.addReg_watchFrame fo)

theorem State.discardWrite_watchFrame {pre : State} {s : State} (fo : WatchFrame pre s) {p : Path} : WatchFrame pre (s.discardWrite p) := by
  unfold State.discardWrite
  exact State.addReg_watchFrame fo

theorem State.pageWrite_watchFrame {pre : State} {s : State} (fo : WatchFrame pre s) {p : Path} {pg : Page} {own : Bool} {sess : Bool} {act : State → State} (foact : ∀ (a : State), WatchFrame pre a → WatchFrame pre (act a)) : WatchFrameO pre (s.pageWrite p pg own sess act) := by
  unfold State.pageWrite
  apply WatchFrameO.ite
  · exact WatchFrameO.next fo
  · split
    · rename_i y1 y2
      apply WatchFrameO.ite
      · exact WatchFrameO.next (State.discardWrite_watchFrame fo)
      · apply WatchFrameO.ite
        · apply WatchFrameO.next
          apply foact
          · exact fo
        · exact WatchFrameO.next (State.refuseWrite_watchFrame fo)
    · apply WatchFrameO.ite
      · apply WatchFrameO.next
        apply foact
        · exact fo
      · exact WatchFrameO.next (State.refuseWrite_watchFrame fo)
    · apply WatchFrameO.ite
      · exact WatchFrameO.next (State.refuseMessage_watchFrame fo)
      · apply WatchFrameO.ite
        · apply WatchFrameO.next
          apply foact
          · exact fo
        · exact WatchFrameO.next (State.refuseWrite_watchFrame fo)

theorem execVminClear_watchFrame {pre : State} {path : Path} {s : State} (fo : WatchFrame pre s) : WatchFrameO pre (execVminClear path s) := by
  unfold execVminClear
  apply State.pageWrite_watchFrame
  · exact fo
  · intro x1 h1
    exact State.clearVmin_watchFrame h1

theorem State.refreshSite_watchFrame {pre : State} {s : State} (fo : WatchFrame pre s) {site : Nat} : WatchFrame pre (s.refreshSite site) := by
  unfold State.refreshSite
  extract_lets s1 s2
  have h1 : WatchFrame pre s1 := State.setG_watchFrame (State.setG_watchFrame fo)
  clear_value s1
  exact State.setG_watchFrame h1

theorem State.reportAnomaly_watchFrame {pre : State} {s : State} (fo : WatchFrame pre s) {q : Nat} {phase : Nat} : WatchFrame pre (s.reportAnomaly q phase) := by
  unfold State.reportAnomaly
  extract_lets s1 s2 s3
  have h1 : WatchFrame pre s3 := by
    unfold s3
    apply WatchFrame.ite
    · exact fo
    · refine State.pwrRecord_watchFrame ?_
      apply State.setG_watchFrame
      exact fo.same
  clear_value s3
  exact State.setG_watchFrame h1

theorem State.takeAnomaly_watchFrame {pre : State} {s : State} (fo : WatchFrame pre s) {q : Nat} {reading : PathReading} : WatchFrame pre (State.takeAnomaly s q reading) := by
  unfold State.takeAnomaly
  extract_lets s1 s2 s3
  have h1 : WatchFrame pre s1 := State.reportAnomaly_watchFrame fo
  clear_value s1
  have h2 : WatchFrame pre s3 := h1.same
  clear_value s3
  exact WatchFrame.ite (State.pwrRecord_watchFrame (State.refreshSite_watchFrame h2)) h1

theorem execSupplyAnomaly_watchFrame {pre : State} {quad : Quad} {reading : PathReading} {s : State} (fo : WatchFrame pre s) : WatchFrameO pre (execSupplyAnomaly quad reading s) := by
  unfold execSupplyAnomaly
  exact WatchFrameO.next (WatchFrame.ite (State.takeAnomaly_watchFrame fo) fo)

theorem State.beginAlert_watchFrame {pre : State} {s : State} (fo : WatchFrame pre s) : WatchFrame pre s.beginAlert := by
  unfold State.beginAlert
  extract_lets s1 s2 s3 s4 s5
  have h1 : WatchFrame pre s2 := by
    unfold s2
    apply WatchFrame.ite
    · exact fo
    · exact fo.same
  clear_value s2
  have h2 : WatchFrame pre s3 := State.setG_watchFrame h1
  clear_value s3
  exact h2.same

theorem execPwrAlertAssert_watchFrame {pre : State} {s : State} (fo : WatchFrame pre s) : WatchFrameO pre (execPwrAlertAssert s) := by
  unfold execPwrAlertAssert
  exact WatchFrameO.ite (WatchFrameO.next fo) (WatchFrameO.next (State.pwrRecord_watchFrame (State.addReg_watchFrame (State.setG_watchFrame (State.beginAlert_watchFrame fo)))))

theorem State.endAlert_watchFrame {pre : State} {s : State} (fo : WatchFrame pre s) : WatchFrame pre s.endAlert := by
  unfold State.endAlert
  extract_lets s1 s2 s3
  have h1 : WatchFrame pre s2 := State.setG_watchFrame fo
  clear_value s2
  exact h1.same

theorem State.holdAlert_watchFrame {pre : State} {s : State} (fo : WatchFrame pre s) : WatchFrame pre s.holdAlert := by
  unfold State.holdAlert
  apply WatchFrame.ite
  · exact fo
  · apply WatchFrame.ite
    · exact State.endAlert_watchFrame fo
    · exact fo.same

theorem execPwrAlertRelease_watchFrame {pre : State} {s : State} (fo : WatchFrame pre s) : WatchFrameO pre (execPwrAlertRelease s) := by
  unfold execPwrAlertRelease
  exact WatchFrameO.ite (WatchFrameO.next (State.holdAlert_watchFrame (State.setG_watchFrame fo))) (WatchFrameO.next fo)

theorem execAlertHoldExpiry_watchFrame {pre : State} {s : State} (fo : WatchFrame pre s) : WatchFrameO pre (execAlertHoldExpiry s) := by
  unfold execAlertHoldExpiry
  exact WatchFrameO.next (WatchFrame.ite (State.endAlert_watchFrame fo) fo)

theorem execInternalAlert_watchFrame {pre : State} {pinW : Fin 65536} {excursion : Bool} {s : State} (fo : WatchFrame pre s) : WatchFrameO pre (execInternalAlert pinW excursion s) := by
  unfold execInternalAlert
  apply WatchFrameO.ite
  · exact WatchFrameO.next fo
  · extract_lets s1 s2 s3
    have h1 : WatchFrame pre s1 := State.beginAlert_watchFrame (State.setG_watchFrame fo)
    clear_value s1
    have h2 : WatchFrame pre s3 := h1.same
    clear_value s3
    exact WatchFrameO.next (State.pwrRecord_watchFrame (State.setG_watchFrame h2))

theorem State.judgeSet_watchFrame {pre : State} {s : State} (fo : WatchFrame pre s) {site : Nat} : WatchFrame pre (s.judgeSet site) := by
  unfold State.judgeSet
  extract_lets s1 s2
  have h1 : WatchFrame pre s2 := State.setG_watchFrame fo
  clear_value s2
  exact WatchFrame.ite (State.pwrRecord_watchFrame (State.setG_watchFrame h1)) (State.setG_watchFrame h1)

theorem execAgeingMeasure_watchFrame {pre : State} {site : Site} {slow : Fin 256} {s : State} (fo : WatchFrame pre s) : WatchFrameO pre (execAgeingMeasure site slow s) := by
  unfold execAgeingMeasure
  extract_lets s1 s2
  apply WatchFrameO.next
  apply State.judgeSet_watchFrame
  exact fo.same

theorem State.thmRecord_watchFrame {pre : State} {s : State} (fo : WatchFrame pre s) {code : Nat} {site : Nat} {stack : Nat} {region : Nat} : WatchFrame pre (s.thmRecord code site stack region) := by
  unfold State.thmRecord
  exact State.record_watchFrame fo

theorem State.judgeTheta_watchFrame {pre : State} {s : State} (fo : WatchFrame pre s) {site : Nat} : WatchFrame pre (State.judgeTheta s site) := by
  unfold State.judgeTheta
  extract_lets s1 s2 s3 s4 s5 s6 s7 s8 s9
  have h1 : WatchFrame pre s6 := fo.same
  clear_value s6
  have h2 : WatchFrame pre s8 := State.setG_watchFrame h1
  clear_value s8
  have h3 : WatchFrame pre s9 := State.setG_watchFrame h2
  clear_value s9
  exact WatchFrame.ite (State.thmRecord_watchFrame h3) h3

theorem State.setTheta_watchFrame {pre : State} {s : State} (fo : WatchFrame pre s) {site : Nat} {v : Nat} : WatchFrame pre (State.setTheta s site v) := by
  unfold State.setTheta
  apply State.judgeTheta_watchFrame
  apply State.setG_watchFrame
  exact fo.same

theorem execThetaUpdate_watchFrame {pre : State} {site : Site} {watts : Fin 65536} {steady : Bool} {s : State} (fo : WatchFrame pre s) : WatchFrameO pre (execThetaUpdate site watts steady s) := by
  unfold execThetaUpdate
  extract_lets s1 s2 s3 s4
  exact WatchFrameO.ite (WatchFrameO.next fo) (WatchFrameO.next (State.refreshSite_watchFrame (State.setTheta_watchFrame fo)))

theorem State.allSites_watchFrame {pre : State} {s : State} (fo : WatchFrame pre s) {f : State → Nat → State} (fof : ∀ (a : State) (a_1 : Nat), WatchFrame pre a → WatchFrame pre (f a a_1)) : WatchFrame pre (s.allSites f) := by
  unfold State.allSites
  apply foldl_watchFrame
  · intro x1 x2 h1
    apply fof
    · exact h1
  · exact fo

theorem State.rebase_watchFrame {pre : State} {s : State} (fo : WatchFrame pre s) : WatchFrame pre s.rebase := by
  unfold State.rebase
  apply State.allSites_watchFrame
  · exact fo
  · intro x1 x2 h1
    exact State.setG_watchFrame h1

theorem execRebase_watchFrame {pre : State} {path : Path} {s : State} (fo : WatchFrame pre s) : WatchFrameO pre (execRebase path s) := by
  unfold execRebase
  apply State.pageWrite_watchFrame
  · exact fo
  · intro x1 h1
    exact State.rebase_watchFrame h1

theorem State.judgeOver_watchFrame {pre : State} {s : State} (fo : WatchFrame pre s) {site : Nat} : WatchFrame pre (State.judgeOver s site) := by
  unfold State.judgeOver
  exact WatchFrame.ite (fo.same) fo

theorem State.refreshTemp_watchFrame {pre : State} {s : State} (fo : WatchFrame pre s) {site : Nat} : WatchFrame pre (State.refreshTemp s site) := by
  unfold State.refreshTemp
  extract_lets s1
  exact State.judgeOver_watchFrame (State.setG_watchFrame (State.setG_watchFrame (State.setG_watchFrame fo)))

theorem execMonitorStaleTimeout_watchFrame {pre : State} {base : Bool} {place : Tile} {s : State} (fo : WatchFrame pre s) : WatchFrameO pre (execMonitorStaleTimeout base place s) := by
  unfold execMonitorStaleTimeout
  extract_lets s1 s2 s3
  apply WatchFrameO.ite
  · apply WatchFrameO.next
    apply State.thmRecord_watchFrame
    apply State.refreshTemp_watchFrame
    exact fo.same
  · exact WatchFrameO.next fo

theorem State.episode_watchFrame {pre : State} {s : State} (fo : WatchFrame pre s) {cond : Nat} {place : Nat} {code : Nat} {site : Nat} {stack : Nat} : WatchFrame pre (s.episode cond place code site stack) := by
  unfold State.episode
  apply WatchFrame.ite
  · exact fo
  · apply State.thmRecord_watchFrame
    exact fo.same

theorem execJunctionOverLimit_watchFrame {pre : State} {site : Site} {s : State} (fo : WatchFrame pre s) : WatchFrameO pre (execJunctionOverLimit site s) := by
  unfold execJunctionOverLimit
  apply WatchFrameO.ite
  · apply WatchFrameO.next
    apply State.episode_watchFrame
    exact fo.same
  · exact WatchFrameO.next fo

theorem execStackHot85_watchFrame {pre : State} {stack : Stack} {t : Fin 256} {s : State} (fo : WatchFrame pre s) : WatchFrameO pre (execStackHot85 stack t s) := by
  unfold execStackHot85
  extract_lets s1
  have h1 : WatchFrame pre s1 := State.setG_watchFrame fo
  clear_value s1
  exact WatchFrameO.ite (WatchFrameO.next (State.episode_watchFrame (State.setG_watchFrame h1))) (WatchFrameO.next h1)

theorem execStackHot95_watchFrame {pre : State} {stack : Stack} {t : Fin 256} {s : State} (fo : WatchFrame pre s) : WatchFrameO pre (execStackHot95 stack t s) := by
  unfold execStackHot95
  extract_lets s1
  have h1 : WatchFrame pre s1 := State.setG_watchFrame fo
  clear_value s1
  exact WatchFrameO.ite (WatchFrameO.next (State.episode_watchFrame h1)) (WatchFrameO.next h1)

theorem execInletHigh_watchFrame {pre : State} {tIn : Fin 65536} {s : State} (fo : WatchFrame pre s) : WatchFrameO pre (execInletHigh tIn s) := by
  unfold execInletHigh
  extract_lets s1
  have h1 : WatchFrame pre s1 := State.setG_watchFrame fo
  clear_value s1
  exact WatchFrameO.ite (WatchFrameO.next (State.episode_watchFrame (State.setG_watchFrame h1))) (WatchFrameO.next h1)

theorem execFlowLow_watchFrame {pre : State} {flow : Fin 65536} {s : State} (fo : WatchFrame pre s) : WatchFrameO pre (execFlowLow flow s) := by
  unfold execFlowLow
  extract_lets s1
  have h1 : WatchFrame pre s1 := State.setG_watchFrame fo
  clear_value s1
  exact WatchFrameO.ite (WatchFrameO.next (State.episode_watchFrame (State.setG_watchFrame h1))) (WatchFrameO.next h1)

theorem State.takeFree_watchFrame {pre : State} {s : State} (fo : WatchFrame pre s) : WatchFrame pre s.takeFree.snd := by
  unfold State.takeFree
  dsimp only
  exact fo.same

theorem State.scaleEst_watchFrame {pre : State} {s : State} (fo : WatchFrame pre s) {p : Nat} {v : Nat} : WatchFrame pre (s.scaleEst p v).snd := by
  unfold State.scaleEst
  split
  · exact fo
  · exact State.takeFree_watchFrame fo

theorem State.forecastPart_watchFrame {pre : State} {s : State} (fo : WatchFrame pre s) {p : Nat} {sec : Nat} : WatchFrame pre (State.forecastPart s p sec).snd.snd := by
  unfold State.forecastPart
  extract_lets s1 s2 s3 s4 s5 s6 s7
  have h1 : WatchFrame pre s5.snd := State.scaleEst_watchFrame fo
  clear_value s5
  have h2 : WatchFrame pre s6.snd := State.scaleEst_watchFrame h1
  clear_value s6
  have h3 : WatchFrame pre s7.snd := State.scaleEst_watchFrame h2
  clear_value s7
  exact h3

theorem State.forecast_watchFrame {pre : State} {s : State} (fo : WatchFrame pre s) {i : Nat} {sec : Nat} {changes : List (Part × Bool × Fin 60001)} : WatchFrame pre (s.forecast i sec changes) := by
  unfold State.forecast
  generalize upTo 64 = l
  extract_lets x s1 rest now lim bound
  have hx : WatchFrame pre s1 := by
    refine foldl_watchFrame22 (fun a p h => ?_) fo
    extract_lets c run f share
    have hf : WatchFrame pre f.2.2 := State.forecastPart_watchFrame h
    clear_value f
    split
    · dsimp only
      exact hf
    · exact h
  clear_value bound s1
  exact State.setG_watchFrame (State.setG_watchFrame hx)

theorem execForecastUpdate_watchFrame {pre : State} {changes : List (Part × Bool × Fin 60001)} {s : State} (fo : WatchFrame pre s) : WatchFrameO pre (execForecastUpdate changes s) := by
  unfold execForecastUpdate
  exact WatchFrameO.next (State.forecast_watchFrame (State.forecast_watchFrame (State.forecast_watchFrame fo)))

theorem execWarmingRotate_watchFrame {pre : State} {quads : List Quad} {watts : Fin 61} {s : State} (fo : WatchFrame pre s) : WatchFrameO pre (execWarmingRotate quads watts s) := by
  unfold execWarmingRotate
  extract_lets s1 s2 s3 s4 s5 s6 s7 s8 s9
  have h1 : WatchFrame pre s5 := fo.same
  clear_value s5
  have h2 : WatchFrame pre s9 := by
    unfold s9
    apply State.setG_watchFrame
    exact h1.same
  clear_value s9
  exact WatchFrameO.next (WatchFrame.ite (State.thmRecord_watchFrame h2) h2)

theorem execSpillwayReservoirRecharged_watchFrame {pre : State} {quad : Quad} {s : State} (fo : WatchFrame pre s) : WatchFrameO pre (execSpillwayReservoirRecharged quad s) := by
  unfold execSpillwayReservoirRecharged
  extract_lets s1 s2 s3
  have h1 : WatchFrame pre s3 := fo.same
  clear_value s3
  exact WatchFrameO.next (State.setG_watchFrame h1)

theorem execThermalEpisodeEnd_watchFrame {pre : State} {cond : Fin 9} {place : Fin 64} {s : State} (fo : WatchFrame pre s) : WatchFrameO pre (execThermalEpisodeEnd cond place s) := by
  unfold execThermalEpisodeEnd
  apply WatchFrameO.ite
  · extract_lets s1 s2 s3 s4
    have h1 : WatchFrame pre s2 := fo.same
    clear_value s2
    have h2 : WatchFrame pre s3 := by
      unfold s3
      apply WatchFrame.ite
      · apply foldl_watchFrame
        · intro x1 x2 h3
          exact State.setG_watchFrame h3
        · exact h1
      · exact h1
    clear_value s3
    exact WatchFrameO.next (WatchFrame.ite (h2.same) h2)
  · exact WatchFrameO.next fo

/-- Commands that watch power and heat leave the work, the sessions and the time alone. -/
theorem exec_watchFrame {c : Instr} (h : watchCommand c = true) (s : State) : WatchFrameO s (exec c s) := by
  cases c with
  | transitRegulatorFault => exact execTransitRegulatorFault_watchFrame .refl
  | spillwayBoost => exact execSpillwayBoost_watchFrame .refl
  | spillwayShunt => exact execSpillwayShunt_watchFrame .refl
  | clockStretchStart => exact execClockStretchStart_watchFrame .refl
  | clockStretchEnd => exact execClockStretchEnd_watchFrame .refl
  | deepDroop => exact execDeepDroop_watchFrame .refl
  | vminClear => exact execVminClear_watchFrame .refl
  | supplyAnomaly => exact execSupplyAnomaly_watchFrame .refl
  | pwrAlertAssert => exact execPwrAlertAssert_watchFrame .refl
  | pwrAlertRelease => exact execPwrAlertRelease_watchFrame .refl
  | alertHoldExpiry => exact execAlertHoldExpiry_watchFrame .refl
  | internalAlert => exact execInternalAlert_watchFrame .refl
  | ageingMeasure => exact execAgeingMeasure_watchFrame .refl
  | thetaUpdate => exact execThetaUpdate_watchFrame .refl
  | rebase => exact execRebase_watchFrame .refl
  | monitorStaleTimeout => exact execMonitorStaleTimeout_watchFrame .refl
  | junctionOverLimit => exact execJunctionOverLimit_watchFrame .refl
  | stackHot85 => exact execStackHot85_watchFrame .refl
  | stackHot95 => exact execStackHot95_watchFrame .refl
  | inletHigh => exact execInletHigh_watchFrame .refl
  | flowLow => exact execFlowLow_watchFrame .refl
  | forecastUpdate => exact execForecastUpdate_watchFrame .refl
  | warmingRotate => exact execWarmingRotate_watchFrame .refl
  | spillwayReservoirRecharged => exact execSpillwayReservoirRecharged_watchFrame .refl
  | thermalEpisodeEnd => exact execThermalEpisodeEnd_watchFrame .refl
  | _ => exact absurd h Bool.false_ne_true

/-- Settles O60: each family's frame, at the state that the command answers. -/
theorem linkAndWatchCommandsLeaveTheWork : Obligations.LinkAndWatchCommandsLeaveTheWork := by
  unfold Obligations.LinkAndWatchCommandsLeaveTheWork
  intro c s t hexec
  refine ⟨fun hc => ?_, fun hc => ?_⟩
  · obtain ⟨u, hu, hframe⟩ := exec_linkFrame hc s
    obtain rfl := eq_of_answers hexec hu
    exact hframe.all
  · obtain ⟨u, hu, hframe⟩ := exec_watchFrame hc s
    obtain rfl := eq_of_answers hexec hu
    exact hframe.all

end Sys2Proof.Machine
end

section
/-! PROOF. A command of a tile's unit writes no other tile: one relation, one lemma for each operation of the units, then the statement. -/

namespace Sys2Proof.Machine

open Sys2Proof Sys2Proof.Safety

-- One proof after another: these many small proofs would otherwise wait for each other on a thread each.
set_option Elab.async false

/-- No tile but `t` has changed. -/
structure InTile (t : Nat) (a s : State) : Prop where
  other : ∀ x, x ≠ t → s.tile x = a.tile x
def InTileO (t : Nat) (a : State) (o : Host.Outcome State Fault Refusal) : Prop := ∃ u, o = .next u ∧ InTile t a u
def InTileOpt (t : Nat) (a : State) (o : Option State) : Prop := ∀ u, o = some u → InTile t a u

section
variable {t : Nat} {a s u v : State}

theorem InTile.refl : InTile t a a := ⟨fun _ _ => rfl⟩
/-- A change that leaves the tiles alone. -/
theorem InTile.same (h : InTile t a s) (htiles : u.tiles = s.tiles := by exact rfl) : InTile t a u :=
  ⟨fun x hx => (by unfold State.tile; rw [htiles] : u.tile x = s.tile x).trans (h.other x hx)⟩
theorem InTile.ite {c : Prop} [Decidable c] (hu : InTile t a u) (hv : InTile t a v) : InTile t a (if c then u else v) := by
  split <;> assumption
theorem InTileO.next (h : InTile t a s) : InTileO t a (.next s) := ⟨s, rfl, h⟩
theorem InTileO.ite {o o' : Host.Outcome State Fault Refusal} {c : Prop} [Decidable c] (hu : InTileO t a o) (hv : InTileO t a o') :
    InTileO t a (if c then o else o') := by
  split <;> assumption
theorem InTileOpt.some (h : InTile t a s) : InTileOpt t a (some s) := fun _ e => by injection e with e; subst e; exact h
theorem InTileOpt.none : InTileOpt t a none := fun _ e => by cases e
theorem InTileOpt.ite {o o' : Option State} {c : Prop} [Decidable c] (hu : InTileOpt t a o) (hv : InTileOpt t a o') :
    InTileOpt t a (if c then o else o') := by
  split <;> assumption
theorem InTileOpt.getD {o : Option State} (ho : InTileOpt t a o) (h : InTile t a s) : InTile t a (o.getD s) := by
  cases o with
  | none => exact h
  | some u => exact ho u rfl
theorem foldl_inTile {β : Type} {f : State → β → State} (hf : ∀ s b, InTile t a s → InTile t a (f s b)) {l : List β} :
    ∀ {s : State}, InTile t a s → InTile t a (l.foldl f s) := by
  induction l with
  | nil => intro s h; exact h
  | cons b r ih => intro s h; exact ih (hf s b h)
theorem foldl_inTile1 {β γ : Type} {f : State × γ → β → State × γ} (hf : ∀ s b, InTile t a s.1 → InTile t a (f s b).1) {l : List β} :
    ∀ {s : State × γ}, InTile t a s.1 → InTile t a (l.foldl f s).1 := by
  induction l with
  | nil => intro s h; exact h
  | cons b r ih => intro s h; exact ih (hf s b h)
theorem foldl_inTile2 {β γ : Type} {f : γ × State → β → γ × State} (hf : ∀ s b, InTile t a s.2 → InTile t a (f s b).2) {l : List β} :
    ∀ {s : γ × State}, InTile t a s.2 → InTile t a (l.foldl f s).2 := by
  induction l with
  | nil => intro s h; exact h
  | cons b r ih => intro s h; exact ih (hf s b h)

theorem State.setTile_inTile (fo : InTile t a s) {x : TileSt} : InTile t a (s.setTile t x) :=
  ⟨fun _ hy => (State.tile_setTile_other hy.symm).trans (fo.other _ hy)⟩
theorem State.updTile_inTile (fo : InTile t a s) {f : TileSt → TileSt} : InTile t a (s.updTile t f) := State.setTile_inTile fo
theorem State.setReg_inTile (fo : InTile t a s) {f : Fld} {inst i w : Nat} : InTile t a (s.setReg f inst i w) := fo.same
theorem State.addReg_inTile (fo : InTile t a s) {f : Fld} {inst i w : Nat} : InTile t a (s.addReg f inst i w) := fo.same
theorem State.orReg_inTile (fo : InTile t a s) {f : Fld} {inst i w : Nat} : InTile t a (s.orReg f inst i w) := fo.same
theorem State.setG_inTile (fo : InTile t a s) {f : Fld} {i w : Nat} : InTile t a (s.setG f i w) := fo.same
theorem State.emit_inTile (fo : InTile t a s) {o : Out} : InTile t a (s.emit o) := fo.same
theorem State.setMem_inTile (fo : InTile t a s) {m : Memory} : InTile t a (s.setMem m) := fo.same
theorem State.takeFree_inTile (fo : InTile t a s) : InTile t a s.takeFree.2 := fo.same
theorem State.record_inTile (fo : InTile t a s) {r : Rec} : InTile t a (s.record r) := fo.same (State.record_tiles ..)
theorem State.forEach_inTile (fo : InTile t a s) {l : List Nat} {f : State → Nat → State} (hf : ∀ s n, InTile t a s → InTile t a (f s n)) :
    InTile t a (s.forEach l f) := foldl_inTile hf fo
end

theorem State.poisonOut_inTile {pre : State} {t : Nat} {s : State} (fo : InTile t pre s) {arrs : List Nat} {nb : Nat → Nat} : InTile t pre (State.poisonOut s t arrs nb) := by
  unfold State.poisonOut
  exact State.updTile_inTile fo

theorem State.refuseQuiet_inTile {pre : State} {i : Issue} {s : State} (fo : InTile (i.tile.val) pre s) {nb : Nat → Nat} : InTile (i.tile.val) pre (State.refuseQuiet s i nb) := by
  unfold State.refuseQuiet
  extract_lets s1
  apply State.poisonOut_inTile
  apply foldl_inTile
  · intro x1 x2 h1
    exact State.setReg_inTile h1
  · exact fo

theorem State.portClaim_inTile {pre : State} {t : Nat} {s : State} (fo : InTile t pre s) {c : Nat} {unit : Nat} {w : Nat} {rows : List Nat} : InTile t pre (State.portClaim s t c unit w rows) := by
  unfold State.portClaim
  exact State.updTile_inTile fo

theorem State.tileRecord_inTile {pre : State} {t : Nat} {s : State} (fo : InTile t pre s) {r : Rec} : InTile t pre (s.tileRecord t r) := by
  unfold State.tileRecord
  exact State.record_inTile fo

theorem State.tileFault_inTile {pre : State} {t : Nat} {s : State} (fo : InTile t pre s) {r : Rec} : InTile t pre (s.tileFault t r) := by
  unfold State.tileFault
  exact State.updTile_inTile (State.tileRecord_inTile fo)

theorem State.takeBeat_inTile {pre : State} {t : Nat} {s : State} (fo : InTile t pre s) {port : Nat} {cycle : Nat} : InTile t pre (s.takeBeat t port cycle).fst := by
  unfold State.takeBeat
  extract_lets s1
  split
  · rename_i y1 y2 y3
    exact fo
  · dsimp only
    exact State.tileFault_inTile (State.setReg_inTile fo)

theorem State.takeBeats_inTile {pre : State} {t : Nat} {port : Nat} {cycle : Nat} {n : Nat} : ∀ {s : State}, InTile t pre s → InTile t pre (s.takeBeats t port cycle n).1 := by
  induction n generalizing cycle with
  | zero => intro s h; exact h
  | succ n ih => intro s h; exact ih (State.takeBeat_inTile h)

theorem State.refuseArray_inTile {pre : State} {t : Nat} {s : State} (fo : InTile t pre s) {cycle : Nat} {entry : Nat} {code : Nat} {n : Nat} {pl : Nat} {row : Nat} : InTile t pre (s.refuseArray t cycle entry code n pl row) := by
  unfold State.refuseArray
  exact State.tileFault_inTile (State.setReg_inTile fo)

theorem State.refuseAll_inTile {pre : State} {t : Nat} {s : State} (fo : InTile t pre s) {cycle : Nat} {entry : Nat} {pl : Nat} {row : Nat} {nb : Nat → Nat} {arrs : List Nat} {rs : Refusals} : InTile t pre (State.refuseAll s t cycle entry pl row nb arrs rs) := by
  unfold State.refuseAll
  extract_lets s1
  have h1 : InTile t pre s1 := by
    unfold s1
    apply foldl_inTile
    · intro x1 x2 h2
      exact State.refuseArray_inTile h2
    · exact fo
  clear_value s1
  exact State.poisonOut_inTile h1

theorem State.refuseForm_inTile {pre : State} {i : Issue} {s : State} (fo : InTile (i.tile.val) pre s) {pl : Nat} {row : Nat} {nb : Nat → Nat} : InTile (i.tile.val) pre (State.refuseForm s i pl row nb) := by
  unfold State.refuseForm
  extract_lets s1
  exact InTile.ite (State.tileFault_inTile fo) (State.refuseAll_inTile fo)

theorem State.lastErr_inTile {pre : State} {t : Nat} {s : State} (fo : InTile t pre s) {r : Nat} {w : Nat} {ue : Nat} {syn : Nat} : InTile t pre (s.lastErr t r w ue syn) := by
  unfold State.lastErr
  exact State.setReg_inTile (State.setReg_inTile (State.setReg_inTile (State.setReg_inTile fo)))

theorem State.weakRow_inTile {pre : State} {t : Nat} {s : State} (fo : InTile t pre s) {r : Nat} {cycle : Nat} : InTile t pre (s.weakRow t r cycle) := by
  unfold State.weakRow
  extract_lets s1
  have h1 : InTile t pre s1 := State.tileRecord_inTile (State.setReg_inTile (State.setReg_inTile fo))
  clear_value s1
  exact State.updTile_inTile h1

theorem State.corrected_inTile {pre : State} {t : Nat} {s : State} (fo : InTile t pre s) {r : Nat} {w : Nat} {mask : Nat} {cycle : Nat} : InTile t pre (s.corrected t r w mask cycle) := by
  unfold State.corrected
  extract_lets s1 s2 s3
  have h1 : InTile t pre s1 := State.lastErr_inTile (State.setReg_inTile (State.addReg_inTile fo))
  clear_value s1
  have h2 : InTile t pre s3 := State.updTile_inTile h1
  clear_value s3
  exact InTile.ite (State.weakRow_inTile h2) h2

theorem State.readWord_inTile {pre : State} {t : Nat} {s : State} (fo : InTile t pre s) {r : Nat} {cycle : Nat} {sched : Bool} {w : Nat} : InTile t pre (s.readWord t r cycle sched w).fst := by
  unfold State.readWord
  extract_lets s1 s2 s3 s4 s5
  have h1 : ∀ (s : State) (code : Nat), InTile t pre s → InTile t pre (s2 s code) := by
    intro x1 x2 h1
    unfold s2
    extract_lets s6
    exact InTile.ite (State.tileFault_inTile h1) (State.tileRecord_inTile h1)
  clear_value s2
  have h2 : InTile t pre s4 := State.lastErr_inTile (State.setReg_inTile (State.addReg_inTile fo))
  clear_value s4
  have h3 : InTile t pre s5 := State.updTile_inTile h2
  clear_value s5
  split
  · dsimp only
    apply h1
    · exact fo
  · split
    · exact fo
    · split
      · dsimp only
        exact State.corrected_inTile fo
      · dsimp only
        apply h1
        · exact h3

theorem State.readWords_inTile {pre : State} {t : Nat} {s : State} (fo : InTile t pre s) {r : Nat} {cycle : Nat} {sched : Bool} : InTile t pre (s.readWords t r cycle sched).fst := by
  unfold State.readWords
  apply foldl_inTile1
  · intro x1 x2 h1
    extract_lets s1
    have h2 : InTile t pre s1.fst := State.readWord_inTile h1
    clear_value s1
    exact h2
  · exact fo

theorem State.readRow_inTile {pre : State} {t : Nat} {s : State} (fo : InTile t pre s) {r : Nat} {cycle : Nat} {sched : Bool} : InTile t pre (s.readRow t r cycle sched).fst := by
  unfold State.readRow
  extract_lets s1
  have h1 : InTile t pre s1.fst := State.readWords_inTile fo
  clear_value s1
  exact h1

theorem State.setTag_inTile {pre : State} {t : Nat} {s : State} (fo : InTile t pre s) {r : Nat} {v : Nat} : InTile t pre (s.setTag t r v) := by
  unfold State.setTag
  exact State.updTile_inTile fo

theorem State.boundsFault_inTile {pre : State} {t : Nat} {s : State} (fo : InTile t pre s) {r : Nat} {cycle : Nat} : InTile t pre (s.boundsFault t r cycle) := by
  unfold State.boundsFault
  exact State.tileFault_inTile (State.setReg_inTile fo)

theorem State.schedRead_inTile {pre : State} {t : Nat} {s : State} (fo : InTile t pre s) {r : Nat} {cycle : Nat} : InTile t pre (s.schedRead t r cycle).fst := by
  unfold State.schedRead
  split
  · extract_lets s1
    have h1 : InTile t pre s1.fst := State.readRow_inTile fo
    clear_value s1
    dsimp only
    exact InTile.ite (State.setTag_inTile h1) h1
  · dsimp only
    exact State.boundsFault_inTile fo

theorem State.schedReads_inTile {pre : State} {t : Nat} {cycle : Nat} {r : Nat} {n : Nat} : ∀ {s : State}, InTile t pre s → InTile t pre (s.schedReads t cycle r n).1 := by
  induction n generalizing r with
  | zero => intro s h; exact h
  | succ n ih => intro s h; exact ih (State.schedRead_inTile h)

theorem State.otherWord_inTile {pre : State} {i : Issue} {s : State} (fo : InTile (i.tile.val) pre s) : InTile (i.tile.val) pre (State.otherWord s i) := by
  unfold State.otherWord
  extract_lets s1
  exact InTile.ite (State.refuseForm_inTile fo) fo

theorem State.portRecord_inTile {pre : State} {i : Issue} {s : State} (fo : InTile (i.tile.val) pre s) {row : Nat} : InTile (i.tile.val) pre (State.portRecord s i row) := by
  unfold State.portRecord
  exact State.tileFault_inTile fo

theorem State.refusePort_inTile {pre : State} {i : Issue} {s : State} (fo : InTile (i.tile.val) pre s) {row : Nat} {nb : Nat → Nat} : InTile (i.tile.val) pre (State.refusePort s i row nb) := by
  unfold State.refusePort
  exact State.portRecord_inTile (State.refuseQuiet_inTile fo)

theorem State.reportFault_inTile {pre : State} {t : Nat} {s : State} (fo : InTile t pre s) : InTile t pre (s.reportFault t) := by
  unfold State.reportFault
  exact State.updTile_inTile fo

theorem State.poisonSeen_inTile {pre : State} {t : Nat} {s : State} (fo : InTile t pre s) {bs : List Beat} : InTile t pre (s.poisonSeen t bs) := by
  unfold State.poisonSeen
  exact InTile.ite (State.reportFault_inTile fo) fo

theorem State.runLdin_inTile {pre : State} {i : Issue} {s : State} (fo : InTile (i.tile.val) pre s) : InTile (i.tile.val) pre (State.runLdin s i) := by
  unfold State.runLdin
  extract_lets s1 s2 s3 s4 s5 s6 s7 s8 s9 s10 s11 s12
  have h1 : InTile (i.tile.val) pre s10 := State.portClaim_inTile fo
  clear_value s10
  have h2 : InTile (i.tile.val) pre s11.fst := State.schedReads_inTile h1
  clear_value s11
  have h3 : InTile (i.tile.val) pre s12.fst := by
    unfold s12
    split
    · exact h2
    · exact State.takeBeats_inTile h1
  clear_value s12
  exact InTile.ite (State.otherWord_inTile fo) (InTile.ite (State.refuseForm_inTile fo) (InTile.ite (State.refuseAll_inTile fo) (InTile.ite (State.refusePort_inTile fo) (State.updTile_inTile (State.poisonSeen_inTile h3)))))

theorem State.parityOf_inTile {pre : State} {t : Nat} {s : State} (fo : InTile t pre s) {entry : Nat} : InTile t pre (s.parityOf t entry).fst := by
  unfold State.parityOf
  split
  · dsimp only
    exact State.updTile_inTile (State.setReg_inTile (State.setReg_inTile fo))
  · exact fo

theorem State.parityFault_inTile {pre : State} {t : Nat} {s : State} (fo : InTile t pre s) {cycle : Nat} {entry : Nat} : InTile t pre (s.parityFault t cycle entry) := by
  unfold State.parityFault
  exact State.tileFault_inTile (State.addReg_inTile (State.setReg_inTile fo))

theorem State.issue_inTile {pre : State} {i : Issue} {s : State} (fo : InTile (i.tile.val) pre s) {unit : Nat} {refuse : State → State} (hrefuse : ∀ {v1 : State}, InTile (i.tile.val) pre v1 → InTile (i.tile.val) pre (refuse v1)) {run : State → State} (hrun : ∀ {v1 : State}, InTile (i.tile.val) pre v1 → InTile (i.tile.val) pre (run v1)) : InTileO (i.tile.val) pre (State.issue s i unit refuse run) := by
  unfold State.issue
  extract_lets s1 s2
  have h1 : InTile (i.tile.val) pre s2.fst := State.parityOf_inTile (State.updTile_inTile (State.setReg_inTile fo))
  clear_value s2
  exact InTileO.ite (InTileO.ite (InTileO.next (hrefuse (State.parityFault_inTile h1))) (InTileO.next (hrun h1))) (InTileO.next fo)

theorem execLdin_inTile {pre : State} {i : Issue} {s : State} (fo : InTile (i.tile.val) pre s) : InTileO (i.tile.val) pre (execLdin i s) := by
  unfold execLdin
  apply State.issue_inTile
  · exact fo
  · intro x1 h1
    exact State.refuseQuiet_inTile h1
  · intro x1 h1
    exact State.runLdin_inTile h1

theorem State.reportWide_inTile {pre : State} {t : Nat} {s : State} (fo : InTile t pre s) : InTile t pre (s.reportWide t) := by
  unfold State.reportWide
  exact State.updTile_inTile fo

theorem State.numTrouble_inTile {pre : State} {t : Nat} {s : State} (fo : InTile t pre s) {cycle : Nat} {entry : Nat} {code : Nat} : InTile t pre (s.numTrouble t cycle entry code) := by
  unfold State.numTrouble
  exact State.tileRecord_inTile fo

theorem State.wideSat_inTile {pre : State} {t : Nat} {s : State} (fo : InTile t pre s) {cycle : Nat} {entry : Nat} {l : List Nat} : InTile t pre (s.wideSat t cycle entry l) := by
  unfold State.wideSat
  exact InTile.ite fo (State.reportWide_inTile (State.numTrouble_inTile (State.addReg_inTile (State.orReg_inTile fo))))

theorem State.reportSplit_inTile {pre : State} {t : Nat} {s : State} (fo : InTile t pre s) : InTile t pre (s.reportSplit t) := by
  unfold State.reportSplit
  exact State.updTile_inTile fo

theorem State.splitTrouble_inTile {pre : State} {t : Nat} {s : State} (fo : InTile t pre s) {c : Nat} {e : Nat} {code : Nat} {pl : Nat} {l : List (Nat × Nat)} : InTile t pre (State.splitTrouble s t c e code pl l) := by
  unfold State.splitTrouble
  split
  · exact fo
  · exact State.reportSplit_inTile (State.tileRecord_inTile fo)

theorem State.startPass_inTile {pre : State} {t : Nat} {s : State} (fo : InTile t pre s) {pos : Nat} : InTile t pre (s.startPass t pos) := by
  unfold State.startPass
  extract_lets s1 s2
  have h1 : InTile t pre s2 := fo.same
  clear_value s2
  exact State.setReg_inTile (State.setReg_inTile h1)

theorem State.requestPass_inTile {pre : State} {t : Nat} {s : State} (fo : InTile t pre s) {pos : Nat} : InTile t pre (s.requestPass t pos) := by
  unfold State.requestPass
  split
  · exact State.startPass_inTile fo
  · exact fo.same

theorem State.splitClip_inTile {pre : State} {t : Nat} {s : State} (fo : InTile t pre s) {c : Nat} {e : Nat} {n : Nat} {pl : Nat} {g : Nat} : InTile t pre (s.splitClip t c e n pl g) := by
  unfold State.splitClip
  exact State.requestPass_inTile (State.tileRecord_inTile (State.setReg_inTile fo))

theorem State.mvmRunArray_inTile {pre : State} {t : Nat} {s : State} (fo : InTile t pre s) {c : Nat} {e : Nat} {n : Nat} {f : MvmF} : InTile t pre (State.mvmRunArray s t c e n f).fst := by
  unfold State.mvmRunArray
  extract_lets s1 s2 s3 s4 s5 s6 s7 s8 s9 s10
  have h1 : InTile t pre s3 := fo.same
  clear_value s3
  have h2 : InTile t pre s6 := State.updTile_inTile h1
  clear_value s6
  have h3 : InTile t pre s7 := State.setReg_inTile h2
  clear_value s7
  have h4 : InTile t pre s8 := State.setReg_inTile h3
  clear_value s8
  have h5 : InTile t pre s9 := InTile.ite (State.setReg_inTile h4) h4
  clear_value s9
  have h6 : InTile t pre s10 := InTile.ite (State.splitClip_inTile h5) h5
  clear_value s10
  exact h6

theorem State.mvmAccept_inTile {pre : State} {i : Issue} {s : State} (fo : InTile (i.tile.val) pre s) {f : MvmF} : InTile (i.tile.val) pre (State.mvmAccept s i f) := by
  unfold State.mvmAccept
  extract_lets s1 s2 s3 s4 s5 s6 s7 s8 s9
  have h1 : InTile (i.tile.val) pre s5 := State.updTile_inTile fo
  clear_value s5
  have h2 : InTile (i.tile.val) pre s6.fst := by
    unfold s6
    apply foldl_inTile1
    · intro x1 x2 h3
      extract_lets s10 s11 s12 s13
      have h4 : InTile (i.tile.val) pre s11.fst := State.mvmRunArray_inTile h3
      clear_value s11
      exact h4
    · exact h1
  clear_value s6
  have h5 : InTile (i.tile.val) pre s7 := State.splitTrouble_inTile h2
  clear_value s7
  have h6 : InTile (i.tile.val) pre s8 := State.wideSat_inTile h5
  clear_value s8
  have h7 : InTile (i.tile.val) pre s9 := InTile.ite (State.reportFault_inTile h6) h6
  clear_value s9
  exact State.updTile_inTile h7

theorem State.runMvm_inTile {pre : State} {i : Issue} {s : State} (fo : InTile (i.tile.val) pre s) : InTile (i.tile.val) pre (State.runMvm s i) := by
  unfold State.runMvm
  extract_lets s1 s2 s3 s4 s5 s6
  exact InTile.ite (State.otherWord_inTile fo) (InTile.ite (State.refuseForm_inTile fo) (InTile.ite (State.refuseAll_inTile fo) (InTile.ite (State.refusePort_inTile fo) (State.mvmAccept_inTile (State.portClaim_inTile fo)))))

theorem execMvm_inTile {pre : State} {i : Issue} {s : State} (fo : InTile (i.tile.val) pre s) : InTileO (i.tile.val) pre (execMvm i s) := by
  unfold execMvm
  apply State.issue_inTile
  · exact fo
  · intro x1 h1
    exact State.refuseQuiet_inTile h1
  · intro x1 h1
    exact State.runMvm_inTile h1

theorem State.reportRec_inTile {pre : State} {t : Nat} {s : State} (fo : InTile t pre s) : InTile t pre (s.reportRec t) := by
  unfold State.reportRec
  exact State.updTile_inTile fo

theorem State.blockTrouble_inTile {pre : State} {t : Nat} {s : State} (fo : InTile t pre s) {cycle : Nat} {entry : Nat} {outs : List TailOut} {bl : List ((Nat × Bool) × List QBlock)} : InTile t pre (State.blockTrouble s t cycle entry outs bl) := by
  unfold State.blockTrouble
  extract_lets s1 s2 s3 s4
  have h1 : InTile t pre s4 := InTile.ite fo (State.reportRec_inTile (State.numTrouble_inTile (State.addReg_inTile (State.orReg_inTile fo))))
  clear_value s4
  exact InTile.ite h1 (State.reportRec_inTile (State.numTrouble_inTile (State.addReg_inTile (State.orReg_inTile h1))))

theorem State.quant_inTile {pre : State} {t : Nat} {s : State} (fo : InTile t pre s) {lim : Nat} {pred : Nat} {xs : List Nat} : InTile t pre (s.quant t lim pred xs).fst := by
  unfold State.quant
  extract_lets s1 s2
  dsimp only
  exact State.updTile_inTile fo

theorem State.quantAll_inTile {pre : State} {t : Nat} {lim : Nat} {pred : Nat} {l : List (List Nat)} : ∀ {s : State}, InTile t pre s → InTile t pre (s.quantAll t lim pred l).1 := by
  induction l with
  | nil => intro s h; exact h
  | cons b r ih => intro s h; exact ih (State.quant_inTile h)

theorem State.quantRuns_inTile {pre : State} {t : Nat} {s : State} (fo : InTile t pre s) {l : List ((Nat × Bool) × List Nat)} : InTile t pre (State.quantRuns s t l).fst := by
  unfold State.quantRuns
  apply foldl_inTile1
  · intro x1 x2 h1
    extract_lets s1
    have h2 : InTile t pre s1.fst := State.quantAll_inTile h1
    clear_value s1
    exact h2
  · exact fo

theorem State.tailPath_inTile {pre : State} {t : Nat} {s : State} (fo : InTile t pre s) {cycle : Nat} {entry : Nat} {tcfg : Nat} {retRow : Nat} {arrs : List TailArr} {vals : List (List Int)} {poison : List Bool} {trouble : List Bool} : InTile t pre (State.tailPath s t cycle entry tcfg retRow arrs vals poison trouble) := by
  unfold State.tailPath
  extract_lets s1 s2 s3 s4 s5 s6 s7 s8
  have h1 : InTile t pre s3.fst := State.quantRuns_inTile fo
  clear_value s3
  have h2 : InTile t pre s5 := h1
  clear_value s5
  have h3 : InTile t pre s7 := State.updTile_inTile h2
  clear_value s7
  have h4 : InTile t pre s8 := State.blockTrouble_inTile h3
  clear_value s8
  exact InTile.ite (State.updTile_inTile h4) h4

theorem State.mvmEndArray_inTile {pre : State} {t : Nat} {s : State} (fo : InTile t pre s) {e : Nat} {f : MvmF} {r : MvmRun} {n : Nat} : InTile t pre (State.mvmEndArray s t e f r n) := by
  unfold State.mvmEndArray
  extract_lets s1 s2 s3 s4
  have h1 : InTile t pre s2 := InTile.ite (State.setReg_inTile fo) fo
  clear_value s2
  have h2 : InTile t pre s3 := State.addReg_inTile (State.setReg_inTile h1)
  clear_value s3
  have h3 : InTile t pre s4 := InTile.ite (State.setReg_inTile h2) h2
  clear_value s4
  exact InTile.ite (State.setReg_inTile h3) h3

theorem State.gatherEnd_inTile {pre : State} {t : Nat} {s : State} (fo : InTile t pre s) {f : MvmF} {r : MvmRun} {n : Nat} : InTile t pre (s.gatherEnd t f r n) := by
  unfold State.gatherEnd
  apply InTile.ite
  · exact fo
  · extract_lets s1 s2
    exact fo.same

theorem State.emitP24_inTile {pre : State} {t : Nat} {s : State} (fo : InTile t pre s) {c : Nat} {e : Nat} {had : Bool} {vals : List (Nat × List Int)} {poison : Nat → Bool} {trouble : Nat → Bool} : InTile t pre (s.emitP24 t c e had vals poison trouble) := by
  unfold State.emitP24
  extract_lets s1 s2 s3
  have h1 : InTile t pre s3 := InTile.ite (State.orReg_inTile fo) (State.wideSat_inTile fo)
  clear_value s3
  exact State.updTile_inTile h1

theorem State.writeTag_inTile {pre : State} {t : Nat} {s : State} (fo : InTile t pre s) {r : Nat} : InTile t pre (s.writeTag t r) := by
  unfold State.writeTag
  exact InTile.ite (State.setTag_inTile fo) fo

theorem State.storeWords_inTile {pre : State} {t : Nat} {s : State} (fo : InTile t pre s) {r : Nat} {beats : List Beat} {mask : List Nat} : InTile t pre (s.storeWords t r beats mask) := by
  unfold State.storeWords
  apply foldl_inTile
  · intro x1 x2 h1
    extract_lets s1 s2 s3
    have h2 : InTile t pre s3 := State.updTile_inTile h1
    clear_value s3
    exact State.setMem_inTile h2
  · exact fo

theorem State.injectFlip_inTile {pre : State} {t : Nat} {s : State} (fo : InTile t pre s) {r : Nat} {mask : List Nat} : InTile t pre (s.injectFlip t r mask) := by
  unfold State.injectFlip
  extract_lets s1
  split
  · exact fo
  · rename_i y1 y2 y3
    apply InTile.ite
    · extract_lets s2
      have h1 : InTile t pre s2 := State.updTile_inTile fo
      clear_value s2
      exact State.setReg_inTile (State.setReg_inTile h1)
    · exact fo

theorem State.schedWrite_inTile {pre : State} {t : Nat} {s : State} (fo : InTile t pre s) {r : Nat} {cycle : Nat} {beats : List Beat} {mask : List Nat} : InTile t pre (s.schedWrite t r cycle beats mask) := by
  unfold State.schedWrite
  exact InTile.ite (State.writeTag_inTile (State.injectFlip_inTile (State.storeWords_inTile fo))) (State.boundsFault_inTile fo)

theorem State.schedWrites_inTile {pre : State} {t : Nat} {cycle : Nat} {r : Nat} {bs : List Beat} {n : Nat} : ∀ {s : State}, InTile t pre s → InTile t pre (s.schedWrites t cycle r bs n) := by
  induction n generalizing r bs with
  | zero => intro s h; exact h
  | succ n ih => intro s h; exact ih (State.schedWrite_inTile h)

theorem State.retain_inTile {pre : State} {t : Nat} {s : State} (fo : InTile t pre s) {cycle : Nat} {row : Nat} {vals : List (List Int)} {poison : List Bool} {trouble : List Bool} : InTile t pre (State.retain s t cycle row vals poison trouble) := by
  unfold State.retain
  exact State.schedWrites_inTile fo

theorem State.mvmEnd_inTile {pre : State} {t : Nat} {s : State} (fo : InTile t pre s) {e : Nat} {r : MvmRun} : InTile t pre (State.mvmEnd s t e r) := by
  unfold State.mvmEnd
  extract_lets s1 s2 s3 s4 s5 s6 s7 s8 s9
  have h1 : InTile t pre s3 := by
    unfold s3
    apply foldl_inTile
    · intro x1 x2 h2
      exact State.gatherEnd_inTile h2
    · exact fo
  clear_value s3
  have h3 : InTile t pre s4 := by
    unfold s4
    apply State.splitTrouble_inTile
    apply foldl_inTile
    · intro x3 x4 h4
      exact State.mvmEndArray_inTile h4
    · exact h1
  clear_value s4
  have h5 : InTile t pre s5 := State.updTile_inTile h3
  clear_value s5
  have h6 : InTile t pre s9 := InTile.ite (State.retain_inTile h5) h5
  clear_value s9
  exact InTile.ite (State.emitP24_inTile h6) (InTile.ite (State.tailPath_inTile h6) (State.updTile_inTile h6))

theorem execMvmComplete_inTile {pre : State} {tile : Tile} {entry : Fin 4096} {s : State} (fo : InTile (tile.val) pre s) : InTileO (tile.val) pre (execMvmComplete tile entry s) := by
  unfold execMvmComplete
  split
  · exact InTileO.next fo
  · rename_i y1 y2 y3
    exact InTileO.next (State.mvmEnd_inTile fo)

theorem State.redAccept_inTile {pre : State} {i : Issue} {s : State} (fo : InTile (i.tile.val) pre s) : InTile (i.tile.val) pre (State.redAccept s i) := by
  unfold State.redAccept
  extract_lets s1 s2 s3 s4 s5 s6 s7 s8 s9 s10 s11 s12 s13 s14 s15 s16 s17 s18 s19 s20 s21 s22 s23 s24 s25 s26 s27 s28
  have h1 : InTile (i.tile.val) pre s12 := State.updTile_inTile fo
  clear_value s12
  have h2 : InTile (i.tile.val) pre s13.fst := by
    unfold s13
    split
    · exact h1
    · exact State.takeBeats_inTile h1
  clear_value s13
  have h3 : InTile (i.tile.val) pre s14.fst := by
    unfold s14
    split
    · exact h2
    · exact State.takeBeats_inTile h2
  clear_value s14
  have h4 : InTile (i.tile.val) pre s15 := State.poisonSeen_inTile (State.poisonSeen_inTile h3)
  clear_value s15
  have h5 : InTile (i.tile.val) pre s23 := State.wideSat_inTile h4
  clear_value s23
  have h6 : InTile (i.tile.val) pre s25 := InTile.ite (State.retain_inTile h5) h5
  clear_value s25
  have h7 : InTile (i.tile.val) pre s28 := State.wideSat_inTile h4
  clear_value s28
  exact InTile.ite (State.tailPath_inTile h6) (State.updTile_inTile h7)

theorem State.runRed_inTile {pre : State} {i : Issue} {s : State} (fo : InTile (i.tile.val) pre s) : InTile (i.tile.val) pre (State.runRed s i) := by
  unfold State.runRed
  extract_lets s1 s2 s3 s4 s5 s6
  exact InTile.ite (State.otherWord_inTile fo) (InTile.ite (State.refuseForm_inTile fo) (InTile.ite (State.refuseAll_inTile fo) (InTile.ite (State.refusePort_inTile fo) (State.redAccept_inTile (State.portClaim_inTile fo)))))

theorem execRed_inTile {pre : State} {i : Issue} {s : State} (fo : InTile (i.tile.val) pre s) : InTileO (i.tile.val) pre (execRed i s) := by
  unfold execRed
  apply State.issue_inTile
  · exact fo
  · intro x1 h1
    exact State.refuseQuiet_inTile h1
  · intro x1 h1
    exact State.runRed_inTile h1

theorem State.writeBank_inTile {pre : State} {t : Nat} {s : State} (fo : InTile t pre s) {pl : Nat} {arrs : List Nat} {r : Nat} {bs : List Beat} : InTile t pre (s.writeBank t pl arrs r bs) := by
  unfold State.writeBank
  exact State.setMem_inTile fo

theorem State.wrbAccept_inTile {pre : State} {i : Issue} {s : State} (fo : InTile (i.tile.val) pre s) : InTile (i.tile.val) pre (s.wrbAccept i) := by
  unfold State.wrbAccept
  extract_lets s1 s2 s3 s4 s5 s6 s7 s8 s9 s10 s11 s12
  have h1 : InTile (i.tile.val) pre s8.fst := State.schedReads_inTile fo
  clear_value s8
  have h2 : InTile (i.tile.val) pre s9 := State.writeBank_inTile (State.poisonSeen_inTile h1)
  clear_value s9
  have h3 : InTile (i.tile.val) pre s10 := by
    unfold s10
    apply foldl_inTile
    · intro x1 x2 h3
      exact State.setReg_inTile h3
    · exact h2
  clear_value s10
  have h4 : InTile (i.tile.val) pre s12 := h3.same
  clear_value s12
  exact State.updTile_inTile h4

theorem State.runWrb_inTile {pre : State} {i : Issue} {s : State} (fo : InTile (i.tile.val) pre s) : InTile (i.tile.val) pre (State.runWrb s i) := by
  unfold State.runWrb
  extract_lets s1 s2 s3 s4 s5 s6 s7 s8
  exact InTile.ite (State.otherWord_inTile fo) (InTile.ite (State.refuseForm_inTile fo) (InTile.ite (State.refuseAll_inTile fo) (InTile.ite (State.refusePort_inTile fo) (State.wrbAccept_inTile (State.portClaim_inTile fo)))))

theorem execWrb_inTile {pre : State} {i : Issue} {s : State} (fo : InTile (i.tile.val) pre s) : InTileO (i.tile.val) pre (execWrb i s) := by
  unfold execWrb
  apply State.issue_inTile
  · exact fo
  · intro x1 h1
    exact State.refuseQuiet_inTile h1
  · intro x1 h1
    exact State.runWrb_inTile h1

theorem State.wrbInject_inTile {pre : State} {t : Nat} {s : State} (fo : InTile t pre s) {arrs : List Nat} : InTile t pre (s.wrbInject t arrs).fst := by
  unfold State.wrbInject
  split
  · dsimp only
    exact State.setReg_inTile (State.setReg_inTile fo)
  · exact fo

theorem State.emptyBank_inTile {pre : State} {t : Nat} {s : State} (fo : InTile t pre s) {n : Nat} {pl : Nat} : InTile t pre (s.emptyBank t n pl) := by
  unfold State.emptyBank
  exact State.setReg_inTile (State.setMem_inTile fo)

theorem State.failBank_inTile {pre : State} {t : Nat} {s : State} (fo : InTile t pre s) {n : Nat} {pl : Nat} : InTile t pre (State.failBank s t n pl) := by
  unfold State.failBank
  exact InTile.ite (State.setReg_inTile fo) fo

theorem State.needsSpare_inTile {pre : State} {t : Nat} {s : State} (fo : InTile t pre s) {n : Nat} : InTile t pre (State.needsSpare s t n) := by
  unfold State.needsSpare
  exact fo.same

theorem State.beginRemap_inTile {pre : State} {t : Nat} {s : State} (fo : InTile t pre s) {n : Nat} {pl : Nat} {g : Nat} {isRow : Bool} : InTile t pre (State.beginRemap s t n pl g isRow) := by
  unfold State.beginRemap
  extract_lets s1 s2 s3 s4 s5
  apply InTile.ite
  · apply State.setReg_inTile
    exact fo.same
  · exact State.needsSpare_inTile (State.failBank_inTile fo)

theorem State.spareRow_inTile {pre : State} {t : Nat} {s : State} (fo : InTile t pre s) {n : Nat} {pl : Nat} {row : Nat} : InTile t pre (State.spareRow s t n pl row) := by
  unfold State.spareRow
  extract_lets s1
  exact InTile.ite (State.updTile_inTile (State.beginRemap_inTile fo)) (State.updTile_inTile fo)

theorem State.wrbEnd_inTile {pre : State} {t : Nat} {s : State} (fo : InTile t pre s) {cycle : Nat} {entry : Nat} {pl : Nat} {n : Nat} {row : Nat} {last : Nat} {bad : List Nat} : InTile t pre (State.wrbEnd s t cycle entry pl n row last bad) := by
  unfold State.wrbEnd
  split
  · rename_i y1
    extract_lets s1
    exact State.updTile_inTile (State.setReg_inTile fo)
  · rename_i y2 y3 y4
    extract_lets s2 s3
    have h1 : InTile t pre s2 := State.setReg_inTile (State.emptyBank_inTile fo)
    clear_value s2
    have h2 : InTile t pre s3 := State.tileFault_inTile h1
    clear_value s3
    apply foldl_inTile
    · intro x1 x2 h3
      exact State.spareRow_inTile h3
    · exact h2

theorem execWrbComplete_inTile {pre : State} {tile : Tile} {entry : Fin 4096} {bad : List (Fin 8 × Fin 1024)} {s : State} (fo : InTile (tile.val) pre s) : InTileO (tile.val) pre (execWrbComplete tile entry bad s) := by
  unfold execWrbComplete
  extract_lets s1
  split
  · exact InTileO.next fo
  · rename_i y1 y2 y3
    extract_lets s2 s3 s4 s5 s6 s7
    have h1 : InTile (tile.val) pre s6.fst := State.wrbInject_inTile fo
    clear_value s6
    have h2 : InTile (tile.val) pre s7 := State.updTile_inTile h1
    clear_value s7
    apply InTileO.next
    apply foldl_inTile
    · intro x1 x2 h3
      extract_lets s8
      exact State.wrbEnd_inTile h3
    · exact h2

theorem State.runRdb_inTile {pre : State} {i : Issue} {s : State} (fo : InTile (i.tile.val) pre s) : InTile (i.tile.val) pre (State.runRdb s i) := by
  unfold State.runRdb
  extract_lets s1 s2 s3 s4 s5 s6 s7 s8 s9 s10 s11
  have h1 : InTile (i.tile.val) pre s10 := State.portClaim_inTile fo
  clear_value s10
  have h2 : InTile (i.tile.val) pre s11 := by
    unfold s11
    apply foldl_inTile
    · intro x1 x2 h3
      exact State.schedWrites_inTile h3
    · exact h1
  clear_value s11
  exact InTile.ite (State.otherWord_inTile fo) (InTile.ite (State.refuseForm_inTile fo) (InTile.ite (State.refuseAll_inTile fo) (InTile.ite (State.refusePort_inTile fo) (State.updTile_inTile h2))))

theorem execRdb_inTile {pre : State} {i : Issue} {s : State} (fo : InTile (i.tile.val) pre s) : InTileO (i.tile.val) pre (execRdb i s) := by
  unfold execRdb
  apply State.issue_inTile
  · exact fo
  · intro x1 h1
    exact State.refuseQuiet_inTile h1
  · intro x1 h1
    exact State.runRdb_inTile h1

theorem State.remapWork_inTile {pre : State} {t : Nat} {s : State} (fo : InTile t pre s) {n : Nat} {w : Nat} : InTile t pre (s.remapWork t n w).fst := by
  unfold State.remapWork
  extract_lets s1 s2
  split
  · exact fo
  · rename_i y1 y2 y3 y4
    extract_lets s3 s4
    have h1 : ∀ (r : Remap), InTile t pre (s3 r) := by
      intro x1
      unfold s3
      exact fo.same
    clear_value s3
    split
    · exact fo
    · split
      · dsimp only
        apply h1
      · split
        · exact fo
        · dsimp only
          apply h1

theorem State.spareWork_inTile {pre : State} {t : Nat} {s : State} (fo : InTile t pre s) {w : Nat} : InTile t pre (s.spareWork t w) := by
  unfold State.spareWork
  apply InTile.ite
  · exact fo
  · extract_lets s1 s2
    exact fo.same

theorem State.putPass_inTile {pre : State} {t : Nat} {s : State} (fo : InTile t pre s) {pos : Nat} {p : PassSt} : InTile t pre (s.putPass t pos p) := by
  unfold State.putPass
  exact fo.same

theorem State.measure_inTile {pre : State} {t : Nat} {s : State} (fo : InTile t pre s) : InTile t pre s.measure.snd := by
  unfold State.measure
  extract_lets s1
  have h1 : InTile t pre s1.snd := State.takeFree_inTile fo
  clear_value s1
  exact h1

theorem State.measurePair_inTile {pre : State} {t : Nat} {s : State} (fo : InTile t pre s) {pls : List Nat} : InTile t pre (s.measurePair pls).snd := by
  unfold State.measurePair
  extract_lets s1 s2
  have h1 : InTile t pre s1.snd := by
    unfold s1
    split
    · exact State.measure_inTile fo
    · exact fo
  clear_value s1
  have h2 : InTile t pre s2.snd := by
    unfold s2
    split
    · exact State.measure_inTile h1
    · exact h1
  clear_value s2
  exact h2

theorem State.passItem_inTile {pre : State} {t : Nat} {s : State} (fo : InTile t pre s) {n : Nat} {cycle : Nat} {entry : Nat} {w : Nat} : InTile t pre (s.passItem t n cycle entry w).fst := by
  unfold State.passItem
  extract_lets s1 s2 s3 s4 s5
  have h1 : InTile t pre s5.snd := State.measurePair_inTile fo
  clear_value s5
  split
  · exact fo
  · rename_i y1 y2 y3
    split
    · split
      · dsimp only
        exact State.setReg_inTile (State.putPass_inTile h1)
      · exact fo
    · split
      · split
        · dsimp only
          exact State.setReg_inTile (State.putPass_inTile fo)
        · dsimp only
          exact State.putPass_inTile fo
      · split
        · split
          · split
            · dsimp only
              exact State.setReg_inTile (State.putPass_inTile h1)
            · dsimp only
              exact State.setReg_inTile (State.putPass_inTile h1)
          · exact fo
        · exact fo

theorem State.passItems_inTile {pre : State} {t : Nat} {n : Nat} {cycle : Nat} {entry : Nat} {fuel : Nat} {w : Nat} : ∀ {s : State}, InTile t pre s → InTile t pre (s.passItems t n cycle entry fuel w) := by
  induction fuel generalizing w with
  | zero => intro s h; exact h
  | succ k ih =>
    intro s h
    unfold State.passItems
    exact InTile.ite h (ih (State.passItem_inTile h))

theorem State.windowWork_inTile {pre : State} {t : Nat} {s : State} (fo : InTile t pre s) {cycle : Nat} {entry : Nat} {w : Nat} {n : Nat} : InTile t pre (s.windowWork t cycle entry w n) := by
  unfold State.windowWork
  apply InTile.ite
  · exact fo
  · extract_lets s1 s2 s3 s4
    have h1 : InTile t pre s1 := InTile.ite (State.spareWork_inTile fo) fo
    clear_value s1
    have h2 : InTile t pre s2.fst := State.remapWork_inTile h1
    clear_value s2
    have h3 : InTile t pre s3 := h2
    clear_value s3
    split
    · exact State.passItems_inTile h3
    · apply foldl_inTile
      · intro x1 x2 h4
        extract_lets s5 s6 s7
        have h5 : InTile t pre s5.snd := State.measure_inTile h4
        clear_value s5
        have h6 : InTile t pre s6 := h5
        clear_value s6
        exact h6.same
      · exact h3

theorem State.runClv_inTile {pre : State} {i : Issue} {s : State} (fo : InTile (i.tile.val) pre s) : InTile (i.tile.val) pre (State.runClv s i) := by
  unfold State.runClv
  extract_lets s1 s2 s3 s4 s5 s6 s7
  have h1 : InTile (i.tile.val) pre s7 := State.updTile_inTile fo
  clear_value s7
  apply InTile.ite
  · exact State.otherWord_inTile fo
  · apply InTile.ite
    · exact State.refuseForm_inTile fo
    · apply InTile.ite
      · exact fo
      · apply InTile.ite
        · exact State.refuseAll_inTile fo
        · apply foldl_inTile
          · intro x1 x2 h2
            exact State.windowWork_inTile h2
          · exact h1

theorem execClv_inTile {pre : State} {i : Issue} {s : State} (fo : InTile (i.tile.val) pre s) : InTileO (i.tile.val) pre (execClv i s) := by
  unfold execClv
  apply State.issue_inTile
  · exact fo
  · intro x1 h1
    exact State.refuseQuiet_inTile h1
  · intro x1 h1
    exact State.runClv_inTile h1

theorem State.mldPoison_inTile {pre : State} {i : Issue} {s : State} (fo : InTile (i.tile.val) pre s) : InTile (i.tile.val) pre (s.mldPoison i) := by
  unfold State.mldPoison
  extract_lets s1 s2 s3
  exact State.updTile_inTile fo

theorem State.engRefuse_inTile {pre : State} {i : Issue} {s : State} (fo : InTile (i.tile.val) pre s) {unit : Nat} {code : Nat} {f : Fld} : InTile (i.tile.val) pre (s.engRefuse i unit code f) := by
  unfold State.engRefuse
  exact State.tileFault_inTile (State.setReg_inTile fo)

theorem State.mxOther_inTile {pre : State} {i : Issue} {s : State} (fo : InTile (i.tile.val) pre s) : InTile (i.tile.val) pre (State.mxOther s i) := by
  unfold State.mxOther
  extract_lets s1
  exact InTile.ite (State.engRefuse_inTile fo) fo

theorem State.mldAccept_inTile {pre : State} {i : Issue} {s : State} (fo : InTile (i.tile.val) pre s) : InTile (i.tile.val) pre (State.mldAccept s i) := by
  unfold State.mldAccept
  extract_lets s1 s2 s3 s4 s5 s6 s7 s8 s9 s10 s11 s12 s13 s14
  have h1 : InTile (i.tile.val) pre s10.fst := State.schedReads_inTile fo
  clear_value s10
  have h2 : InTile (i.tile.val) pre s11.fst := State.schedRead_inTile h1
  clear_value s11
  have h3 : InTile (i.tile.val) pre s14 := State.poisonSeen_inTile (State.poisonSeen_inTile h2)
  clear_value s14
  exact State.updTile_inTile h3

theorem State.portRefuse_inTile {pre : State} {i : Issue} {s : State} (fo : InTile (i.tile.val) pre s) {f : Fld} {row : Nat} : InTile (i.tile.val) pre (State.portRefuse s i f row) := by
  unfold State.portRefuse
  exact State.portRecord_inTile (State.setReg_inTile fo)

theorem State.runMld_inTile {pre : State} {i : Issue} {s : State} (fo : InTile (i.tile.val) pre s) : InTile (i.tile.val) pre (State.runMld s i) := by
  unfold State.runMld
  extract_lets s1 s2 s3 s4
  exact InTile.ite (State.mxOther_inTile fo) (InTile.ite (State.mldPoison_inTile (State.engRefuse_inTile fo)) (InTile.ite (State.mldPoison_inTile (State.engRefuse_inTile fo)) (InTile.ite (State.mldPoison_inTile (State.portRefuse_inTile fo)) (State.mldAccept_inTile (State.portClaim_inTile fo)))))

theorem execMld_inTile {pre : State} {i : Issue} {s : State} (fo : InTile (i.tile.val) pre s) : InTileO (i.tile.val) pre (execMld i s) := by
  unfold execMld
  apply State.issue_inTile
  · exact fo
  · intro x1 h1
    exact State.mldPoison_inTile (State.setReg_inTile h1)
  · intro x1 h1
    exact State.runMld_inTile h1

theorem State.mmulPoison_inTile {pre : State} {i : Issue} {s : State} (fo : InTile (i.tile.val) pre s) : InTile (i.tile.val) pre (s.mmulPoison i) := by
  unfold State.mmulPoison
  extract_lets s1
  exact State.updTile_inTile fo

theorem State.runMmul_inTile {pre : State} {i : Issue} {s : State} (fo : InTile (i.tile.val) pre s) : InTile (i.tile.val) pre (State.runMmul s i) := by
  unfold State.runMmul
  extract_lets s1 s2 s3 s4 s5 s6
  exact InTile.ite (State.mxOther_inTile fo) (InTile.ite (State.mmulPoison_inTile (State.engRefuse_inTile fo)) (InTile.ite (State.mmulPoison_inTile (State.engRefuse_inTile fo)) (State.updTile_inTile fo)))

theorem execMmul_inTile {pre : State} {i : Issue} {s : State} (fo : InTile (i.tile.val) pre s) : InTileO (i.tile.val) pre (execMmul i s) := by
  unfold execMmul
  apply State.issue_inTile
  · exact fo
  · intro x1 h1
    exact State.mmulPoison_inTile (State.setReg_inTile h1)
  · intro x1 h1
    exact State.runMmul_inTile h1

theorem State.putBeats_inTile {pre : State} {t : Nat} {s : State} (fo : InTile t pre s) {c : Nat} {row : Nat} {bs : List Beat} : InTile t pre (s.putBeats t c row bs) := by
  unfold State.putBeats
  exact State.schedWrites_inTile fo

theorem State.moutAccept_inTile {pre : State} {i : Issue} {s : State} (fo : InTile (i.tile.val) pre s) : InTile (i.tile.val) pre (s.moutAccept i) := by
  unfold State.moutAccept
  extract_lets s1 s2 s3 s4 s5 s6 s7 s8 s9 s10
  have h1 : InTile (i.tile.val) pre s10 := State.updTile_inTile fo
  clear_value s10
  exact InTile.ite (State.updTile_inTile h1) (State.putBeats_inTile h1)

theorem State.poisonWords_inTile {pre : State} {t : Nat} {s : State} (fo : InTile t pre s) {r : Nat} {cycle : Nat} {mask : List Nat} : InTile t pre (s.poisonWords t r cycle mask) := by
  unfold State.poisonWords
  exact InTile.ite (State.updTile_inTile fo) (State.boundsFault_inTile fo)

theorem State.poisonRows_inTile {pre : State} {t : Nat} {s : State} (fo : InTile t pre s) {c : Nat} {row : Nat} {n : Nat} : InTile t pre (s.poisonRows t c row n) := by
  unfold State.poisonRows
  apply foldl_inTile
  · intro x1 x2 h1
    exact State.poisonWords_inTile h1
  · exact fo

theorem State.moutPoison_inTile {pre : State} {i : Issue} {s : State} (fo : InTile (i.tile.val) pre s) : InTile (i.tile.val) pre (s.moutPoison i) := by
  unfold State.moutPoison
  extract_lets s1 s2
  exact InTile.ite (State.poisonRows_inTile fo) (State.updTile_inTile fo)

theorem State.runMout_inTile {pre : State} {i : Issue} {s : State} (fo : InTile (i.tile.val) pre s) : InTile (i.tile.val) pre (State.runMout s i) := by
  unfold State.runMout
  extract_lets s1 s2 s3 s4 s5 s6 s7 s8 s9
  exact InTile.ite (State.mxOther_inTile fo) (InTile.ite (State.moutPoison_inTile (State.engRefuse_inTile fo)) (InTile.ite (State.moutPoison_inTile (State.engRefuse_inTile fo)) (InTile.ite (State.moutPoison_inTile (State.portRefuse_inTile fo)) (State.moutAccept_inTile (State.portClaim_inTile fo)))))

theorem execMout_inTile {pre : State} {i : Issue} {s : State} (fo : InTile (i.tile.val) pre s) : InTileO (i.tile.val) pre (execMout i s) := by
  unfold execMout
  apply State.issue_inTile
  · exact fo
  · intro x1 h1
    exact State.moutPoison_inTile (State.setReg_inTile h1)
  · intro x1 h1
    exact State.runMout_inTile h1

theorem State.portTake_inTile {pre : State} {i : Issue} {s : State} (fo : InTile (i.tile.val) pre s) : InTile (i.tile.val) pre (s.portTake i) := by
  unfold State.portTake
  exact State.updTile_inTile fo

theorem State.portFault_inTile {pre : State} {i : Issue} {s : State} (fo : InTile (i.tile.val) pre s) : InTile (i.tile.val) pre (s.portFault i) := by
  unfold State.portFault
  exact State.tileFault_inTile (State.setReg_inTile fo)

theorem State.vxOther_inTile {pre : State} {i : Issue} {s : State} (fo : InTile (i.tile.val) pre s) : InTile (i.tile.val) pre (State.vxOther s i) := by
  unfold State.vxOther
  extract_lets s1
  exact InTile.ite (State.engRefuse_inTile fo) fo

theorem State.vRefuse_inTile {pre : State} {i : Issue} {s : State} (fo : InTile (i.tile.val) pre s) {code : Nat} {f : Fld} {dst : List Nat} : InTile (i.tile.val) pre (s.vRefuse i code f dst) := by
  unfold State.vRefuse
  exact State.updTile_inTile (State.engRefuse_inTile fo)

theorem State.vIssue_inTile {pre : State} {i : Issue} {s : State} (fo : InTile (i.tile.val) pre s) {bad : Bool} {src : List Nat} {dst : List Nat} {run : State → State} (forun : ∀ (a : State), InTile (i.tile.val) pre a → InTile (i.tile.val) pre (run a)) : InTile (i.tile.val) pre (s.vIssue i bad src dst run) := by
  unfold State.vIssue
  extract_lets s1 s2
  apply InTile.ite
  · exact State.vRefuse_inTile fo
  · apply InTile.ite
    · exact State.vRefuse_inTile fo
    · apply InTile.ite
      · exact State.vRefuse_inTile fo
      · apply forun
        · exact fo

theorem State.vExec_inTile {pre : State} {i : Issue} {s : State} (fo : InTile (i.tile.val) pre s) {opc : Nat} {bad : Bool} {src : List Nat} {dst : List Nat} {run : State → State} (hrun : ∀ {v1 : State}, InTile (i.tile.val) pre v1 → InTile (i.tile.val) pre (run v1)) : InTileO (i.tile.val) pre (State.vExec s i opc bad src dst run) := by
  unfold State.vExec
  apply State.issue_inTile
  · exact fo
  · intro x1 h1
    exact State.updTile_inTile (State.setReg_inTile h1)
  · intro x2 h2
    apply InTile.ite
    · exact State.vxOther_inTile h2
    · apply State.vIssue_inTile
      · exact h2
      · intro x3 h3
        exact hrun h3

theorem execVld_inTile {pre : State} {i : Issue} {s : State} (fo : InTile (i.tile.val) pre s) : InTileO (i.tile.val) pre (execVld i s) := by
  unfold execVld
  extract_lets s1 s2 s3
  apply State.vExec_inTile
  · exact fo
  · intro x1 h1
    apply InTile.ite
    · exact State.updTile_inTile (State.portFault_inTile h1)
    · extract_lets s4 s5 s6
      have h2 : InTile (i.tile.val) pre s4.fst := State.schedRead_inTile (State.portTake_inTile h1)
      clear_value s4
      exact State.updTile_inTile (State.poisonSeen_inTile h2)

theorem State.storeQuarter_inTile {pre : State} {i : Issue} {s : State} (fo : InTile (i.tile.val) pre s) {bad : Bool} {trb : Bool} : InTile (i.tile.val) pre (State.storeQuarter s i bad trb) := by
  unfold State.storeQuarter
  extract_lets s1 s2 s3 s4 s5
  exact State.schedWrite_inTile fo

theorem execVst_inTile {pre : State} {i : Issue} {s : State} (fo : InTile (i.tile.val) pre s) : InTileO (i.tile.val) pre (execVst i s) := by
  unfold execVst
  extract_lets s1 s2 s3
  have h1 : ∀ {v1 : State}, InTile (i.tile.val) pre v1 → InTile (i.tile.val) pre (s3 v1) := by
    intro x1 h2
    unfold s3
    exact State.poisonWords_inTile h2
  clear_value s3
  apply State.issue_inTile
  · exact fo
  · intro x2 h3
    exact h1 (State.setReg_inTile h3)
  · intro x3 h4
    extract_lets s4
    exact InTile.ite (State.vxOther_inTile h4) (InTile.ite (h1 (State.engRefuse_inTile h4)) (InTile.ite (h1 (State.engRefuse_inTile h4)) (InTile.ite (h1 (State.engRefuse_inTile h4)) (InTile.ite (h1 (State.portFault_inTile h4)) (State.storeQuarter_inTile (State.portTake_inTile h4))))))

theorem State.vLanes_inTile {pre : State} {i : Issue} {src : List Nat} {lat : Nat} {f : Nat → Nat → Nat → Nat} {g : Nat → Nat → Nat → Nat} {s : State} (fo : InTile (i.tile.val) pre s) : InTile (i.tile.val) pre (State.vLanes i src lat f g s) := by
  unfold State.vLanes
  extract_lets s1
  exact State.updTile_inTile fo

theorem State.vOp_inTile {pre : State} {i : Issue} {s : State} (fo : InTile (i.tile.val) pre s) {opc : Nat} {lat : Nat} {n : Nat} {f : Nat → Nat → Nat → Nat} {g : Nat → Nat → Nat → Nat} : InTileO (i.tile.val) pre (s.vOp i opc lat n f g) := by
  unfold State.vOp
  extract_lets s1 s2
  apply State.vExec_inTile
  · exact fo
  · intro x1 h1
    exact State.vLanes_inTile h1

theorem execVadd_inTile {pre : State} {i : Issue} {s : State} (fo : InTile (i.tile.val) pre s) : InTileO (i.tile.val) pre (execVadd i s) := by
  unfold execVadd
  exact State.vOp_inTile fo

theorem execVsub_inTile {pre : State} {i : Issue} {s : State} (fo : InTile (i.tile.val) pre s) : InTileO (i.tile.val) pre (execVsub i s) := by
  unfold execVsub
  exact State.vOp_inTile fo

theorem execVmul_inTile {pre : State} {i : Issue} {s : State} (fo : InTile (i.tile.val) pre s) : InTileO (i.tile.val) pre (execVmul i s) := by
  unfold execVmul
  exact State.vOp_inTile fo

theorem execVfma_inTile {pre : State} {i : Issue} {s : State} (fo : InTile (i.tile.val) pre s) : InTileO (i.tile.val) pre (execVfma i s) := by
  unfold execVfma
  exact State.vOp_inTile fo

theorem execVmax_inTile {pre : State} {i : Issue} {s : State} (fo : InTile (i.tile.val) pre s) : InTileO (i.tile.val) pre (execVmax i s) := by
  unfold execVmax
  exact State.vOp_inTile fo

theorem execVmin_inTile {pre : State} {i : Issue} {s : State} (fo : InTile (i.tile.val) pre s) : InTileO (i.tile.val) pre (execVmin i s) := by
  unfold execVmin
  exact State.vOp_inTile fo

theorem execVexp2_inTile {pre : State} {i : Issue} {s : State} (fo : InTile (i.tile.val) pre s) : InTileO (i.tile.val) pre (execVexp2 i s) := by
  unfold execVexp2
  exact State.vOp_inTile fo

theorem execVrcp_inTile {pre : State} {i : Issue} {s : State} (fo : InTile (i.tile.val) pre s) : InTileO (i.tile.val) pre (execVrcp i s) := by
  unfold execVrcp
  exact State.vOp_inTile fo

theorem execVrsq_inTile {pre : State} {i : Issue} {s : State} (fo : InTile (i.tile.val) pre s) : InTileO (i.tile.val) pre (execVrsq i s) := by
  unfold execVrsq
  exact State.vOp_inTile fo

theorem execVlog2_inTile {pre : State} {i : Issue} {s : State} (fo : InTile (i.tile.val) pre s) : InTileO (i.tile.val) pre (execVlog2 i s) := by
  unfold execVlog2
  exact State.vOp_inTile fo

theorem execVred_inTile {pre : State} {i : Issue} {s : State} (fo : InTile (i.tile.val) pre s) : InTileO (i.tile.val) pre (execVred i s) := by
  unfold execVred
  extract_lets s1
  apply State.vExec_inTile
  · exact fo
  · intro x1 h1
    exact State.updTile_inTile h1

theorem execVsel_inTile {pre : State} {i : Issue} {s : State} (fo : InTile (i.tile.val) pre s) : InTileO (i.tile.val) pre (execVsel i s) := by
  unfold execVsel
  exact State.vOp_inTile fo

theorem execVbc_inTile {pre : State} {i : Issue} {s : State} (fo : InTile (i.tile.val) pre s) : InTileO (i.tile.val) pre (execVbc i s) := by
  unfold execVbc
  extract_lets s1 s2 s3
  apply State.vExec_inTile
  · exact fo
  · intro x1 h1
    exact State.updTile_inTile h1

theorem execVcvt_inTile {pre : State} {i : Issue} {s : State} (fo : InTile (i.tile.val) pre s) : InTileO (i.tile.val) pre (execVcvt i s) := by
  unfold execVcvt
  extract_lets s1
  apply State.vExec_inTile
  · exact fo
  · intro x1 h1
    exact State.updTile_inTile h1

theorem State.vqntPoison_inTile {pre : State} {i : Issue} {s : State} (fo : InTile (i.tile.val) pre s) : InTile (i.tile.val) pre (s.vqntPoison i) := by
  unfold State.vqntPoison
  extract_lets s1 s2 s3 s4 s5
  have h1 : InTile (i.tile.val) pre s4 := State.poisonWords_inTile fo
  clear_value s4
  have h2 : InTile (i.tile.val) pre s5 := State.poisonWords_inTile h1
  clear_value s5
  exact State.poisonWords_inTile (State.poisonWords_inTile h2)

theorem State.byteWrite_inTile {pre : State} {t : Nat} {s : State} (fo : InTile t pre s) {r : Nat} {i : Nat} {v : Nat} {poison : Bool} {trouble : Bool} {cycle : Nat} : InTile t pre (State.byteWrite s t r i v poison trouble cycle) := by
  unfold State.byteWrite
  extract_lets s1 s2
  have h1 : InTile t pre s2.fst := State.readWord_inTile fo
  clear_value s2
  apply State.updTile_inTile
  exact State.setMem_inTile h1

theorem State.vTrouble_inTile {pre : State} {i : Issue} {s : State} (fo : InTile (i.tile.val) pre s) {unit : Nat} {bl : List QBlock} : InTile (i.tile.val) pre (s.vTrouble i unit bl) := by
  unfold State.vTrouble
  extract_lets s1 s2 s3 s4 s5
  have h1 : ∀ (s : State) (code : Nat), InTile (i.tile.val) pre s → InTile (i.tile.val) pre (s4 s code) := by
    intro x1 x2 h1
    unfold s4
    exact State.reportRec_inTile (State.tileRecord_inTile h1)
  clear_value s4
  have h2 : InTile (i.tile.val) pre s5 := by
    unfold s5
    apply InTile.ite
    · exact fo
    · apply h1
      · exact State.addReg_inTile (State.setReg_inTile fo)
  clear_value s5
  apply InTile.ite
  · exact h2
  · apply h1
    · exact State.addReg_inTile (State.setReg_inTile h2)

theorem State.vqntAccept_inTile {pre : State} {i : Issue} {s : State} (fo : InTile (i.tile.val) pre s) : InTile (i.tile.val) pre (State.vqntAccept s i) := by
  unfold State.vqntAccept
  extract_lets s1 s2 s3 s4 s5 s6 s7 s8 s9 s10 s11 s12 s13 s14 s15 s16 s17 s18 s19
  have h1 : InTile (i.tile.val) pre s10.fst := State.quant_inTile fo
  clear_value s10
  have h2 : InTile (i.tile.val) pre s15 := State.schedWrite_inTile h1
  clear_value s15
  have h3 : InTile (i.tile.val) pre s17 := InTile.ite (State.writeTag_inTile (State.byteWrite_inTile h2)) (State.boundsFault_inTile h2)
  clear_value s17
  have h4 : InTile (i.tile.val) pre s18 := State.schedWrites_inTile h3
  clear_value s18
  have h5 : InTile (i.tile.val) pre s19 := State.updTile_inTile (State.vTrouble_inTile h4)
  clear_value s19
  exact InTile.ite (State.updTile_inTile h5) h5

theorem State.runVqnt_inTile {pre : State} {i : Issue} {s : State} (fo : InTile (i.tile.val) pre s) : InTile (i.tile.val) pre (State.runVqnt s i) := by
  unfold State.runVqnt
  extract_lets s1 s2 s3 s4 s5 s6
  exact InTile.ite (State.vxOther_inTile fo) (InTile.ite (State.vqntPoison_inTile (State.engRefuse_inTile fo)) (InTile.ite (State.vqntPoison_inTile (State.engRefuse_inTile fo)) (InTile.ite (State.vqntPoison_inTile (State.engRefuse_inTile fo)) (InTile.ite (State.vqntPoison_inTile (State.portRefuse_inTile fo)) (State.vqntAccept_inTile (State.portClaim_inTile fo))))))

theorem execVqnt_inTile {pre : State} {i : Issue} {s : State} (fo : InTile (i.tile.val) pre s) : InTileO (i.tile.val) pre (execVqnt i s) := by
  unfold execVqnt
  apply State.issue_inTile
  · exact fo
  · intro x1 h1
    exact State.vqntPoison_inTile (State.setReg_inTile h1)
  · intro x1 h1
    exact State.runVqnt_inTile h1

theorem execVrot_inTile {pre : State} {i : Issue} {s : State} (fo : InTile (i.tile.val) pre s) : InTileO (i.tile.val) pre (execVrot i s) := by
  unfold execVrot
  extract_lets s1 s2 s3
  apply State.vExec_inTile
  · exact fo
  · intro x1 h1
    exact State.updTile_inTile h1

theorem State.streamOut_inTile {pre : State} {t : Nat} {s : State} (fo : InTile t pre s) {first : Nat} {bs : List Beat} : InTile t pre (State.streamOut s t first bs) := by
  unfold State.streamOut
  exact State.updTile_inTile fo

theorem State.attPoison_inTile {pre : State} {i : Issue} {s : State} (fo : InTile (i.tile.val) pre s) : InTile (i.tile.val) pre (State.attPoison s i) := by
  unfold State.attPoison
  extract_lets s1 s2
  exact InTile.ite (State.poisonRows_inTile fo) (State.streamOut_inTile fo)

theorem State.attRefuse_inTile {pre : State} {i : Issue} {s : State} (fo : InTile (i.tile.val) pre s) : InTile (i.tile.val) pre (State.attRefuse s i) := by
  unfold State.attRefuse
  exact State.attPoison_inTile (State.engRefuse_inTile fo)

theorem State.descBytes_inTile {pre : State} {i : Issue} {s : State} (fo : InTile (i.tile.val) pre s) : InTile (i.tile.val) pre (s.descBytes i).fst := by
  unfold State.descBytes
  extract_lets s1 s2 s3
  have h1 : InTile (i.tile.val) pre s2.fst := State.schedRead_inTile fo
  clear_value s2
  exact h1

theorem State.clobberStores_inTile {pre : State} {t : Nat} {s : State} (fo : InTile t pre s) : InTile t pre (s.clobberStores t) := by
  unfold State.clobberStores
  extract_lets s1 s2 s3 s4 s5
  apply State.updTile_inTile
  exact fo.same

theorem State.pageRefused_inTile {pre : State} {t : Nat} {s : State} (fo : InTile t pre s) {cycle : Nat} {r : Nat} {k : Nat} : InTile t pre (State.pageRefused s t cycle r k) := by
  unfold State.pageRefused
  exact State.tileFault_inTile (State.setReg_inTile fo)

theorem State.readPages_inTile {pre : State} {t : Nat} {s : State} (fo : InTile t pre s) {c : Nat} {a : AttDesc} {ns : List Nat} : InTile t pre (State.readPages s t c a ns) := by
  unfold State.readPages
  apply foldl_inTile
  · intro x1 x2 h1
    apply foldl_inTile
    · intro x3 x4 h2
      exact State.readRow_inTile h2
    · exact h1
  · exact fo

theorem State.readA8_inTile {pre : State} {t : Nat} {s : State} (fo : InTile t pre s) {c : Nat} {row : Nat} {nvec : Nat} {d : Nat} : InTile t pre (s.readA8 t c row nvec d).fst := by
  unfold State.readA8
  extract_lets s1 s2 s3
  have h1 : InTile t pre s2.fst := State.schedReads_inTile fo
  clear_value s2
  have h2 : InTile t pre s3.fst := State.schedReads_inTile h1
  clear_value s3
  exact h2

theorem State.attToks_inTile {pre : State} {i : Issue} {s : State} (fo : InTile (i.tile.val) pre s) {a : AttDesc} {r : SlotRec} : InTile (i.tile.val) pre (s.attToks i a r).fst := by
  unfold State.attToks
  extract_lets s1 s2 s3 s4 s5
  have h1 : InTile (i.tile.val) pre s3.fst := State.schedRead_inTile fo
  clear_value s3
  have h2 : InTile (i.tile.val) pre s4.fst := State.schedRead_inTile h1
  clear_value s4
  split
  · exact fo
  · exact h2

theorem State.writeSlot_inTile {pre : State} {t : Nat} {s : State} (fo : InTile t pre s) {c : Nat} {n : Nat} {sl : Nat} {d : Nat} {qs : List Int} {e : Nat} {bad : Bool} {trb : Bool} : InTile t pre (State.writeSlot s t c n sl d qs e bad trb) := by
  unfold State.writeSlot
  extract_lets s1 s2 s3 s4 s5 s6
  have h1 : InTile t pre s6 := State.storeWords_inTile fo
  clear_value s6
  exact State.byteWrite_inTile h1

theorem State.writeEntry_inTile {pre : State} {t : Nat} {s : State} (fo : InTile t pre s) {c : Nat} {a : AttDesc} {freq : Nat → Nat} {src : A8Src} {ta : Taint} {pl : PageList} {tok : Tok} {k : Nat} {h : Nat} {v : Nat} : InTile t pre (State.writeEntry s t c a freq src ta pl tok k h v) := by
  unfold State.writeEntry
  extract_lets s1 s2 s3 s4 s5
  split
  · exact fo
  · exact InTile.ite (State.writeSlot_inTile fo) fo

theorem State.writeToken_inTile {pre : State} {t : Nat} {s : State} (fo : InTile t pre s) {c : Nat} {e : Nat} {req : Nat} {a : AttDesc} {freq : Nat → Nat} {src : A8Src} {ta : Taint} {pl : PageList} {tok : Tok} {k : Nat} : InTile t pre (State.writeToken s t c e req a freq src ta pl tok k) := by
  unfold State.writeToken
  apply InTile.ite
  · exact fo
  · apply InTile.ite
    · exact fo
    · apply InTile.ite
      · exact InTile.ite (State.tileFault_inTile (State.setReg_inTile fo)) fo
      · apply foldl_inTile
        · intro x1 x2 h1
          apply foldl_inTile
          · intro x3 x4 h2
            exact State.writeEntry_inTile h2
          · exact h1
        · exact fo

theorem State.attLists_inTile {pre : State} {t : Nat} {c : Nat} {plRow : Nat} {l : List Nat} : ∀ {s : State}, InTile t pre s → InTile t pre (s.attLists t c plRow l).1 := by
  induction l with
  | nil => intro s h; exact h
  | cons k r ih => intro s h; exact ih (State.schedRead_inTile h)

theorem State.runAttendDesc_inTile {pre : State} {i : Issue} {s : State} (fo : InTile (i.tile.val) pre s) {a : AttDesc} {dta : Taint} : InTile (i.tile.val) pre (State.runAttendDesc s i a dta) := by
  unfold State.runAttendDesc
  extract_lets s1 s2 s3 s4 s5 s6 s7 s8 s9 s10 s11 s12 s13 s14 s15 s16 s17 s18 s19 s20 s21 s22 s23 s24
  have h1 : InTile (i.tile.val) pre s4.fst := State.schedRead_inTile fo
  clear_value s4
  have h2 : InTile (i.tile.val) pre s6.fst := State.attToks_inTile h1
  clear_value s6
  have h3 : InTile (i.tile.val) pre s8.fst := State.attLists_inTile h2
  clear_value s8
  have h4 : InTile (i.tile.val) pre s10 := h3
  clear_value s10
  have h5 : InTile (i.tile.val) pre s11 := by
    unfold s11
    apply foldl_inTile
    · intro x1 x2 h6
      apply foldl_inTile
      · intro x3 x4 h7
        exact State.pageRefused_inTile h7
      · exact h6
    · exact h4
  clear_value s11
  have h8 : InTile (i.tile.val) pre s12.fst := by
    unfold s12
    split
    · exact State.schedReads_inTile h5
    · exact h5
  clear_value s12
  have h9 : InTile (i.tile.val) pre s15.fst := State.readA8_inTile h8
  clear_value s15
  have h10 : InTile (i.tile.val) pre s16.fst := State.readA8_inTile h9
  clear_value s16
  have h11 : InTile (i.tile.val) pre s18 := by
    unfold s18
    apply foldl_inTile
    · intro x5 x6 h12
      exact State.writeToken_inTile h12
    · exact h10
  clear_value s18
  have h13 : InTile (i.tile.val) pre s19 := State.readPages_inTile h11
  clear_value s19
  have h14 : InTile (i.tile.val) pre s23 := State.clobberStores_inTile (InTile.ite (State.reportFault_inTile h13) h13)
  clear_value s23
  have h15 : InTile (i.tile.val) pre s24 := State.updTile_inTile h14
  clear_value s24
  exact InTile.ite (State.putBeats_inTile h15) (State.streamOut_inTile h15)

theorem State.runAttend_inTile {pre : State} {i : Issue} {s : State} (fo : InTile (i.tile.val) pre s) : InTile (i.tile.val) pre (State.runAttend s i) := by
  unfold State.runAttend
  extract_lets s1 s2 s3 s4 s5
  have h1 : InTile (i.tile.val) pre s4.fst := State.descBytes_inTile (State.portClaim_inTile fo)
  clear_value s4
  exact InTile.ite (State.vxOther_inTile fo) (InTile.ite (State.attRefuse_inTile fo) (InTile.ite (State.attPoison_inTile (State.portRefuse_inTile fo)) (InTile.ite (State.attRefuse_inTile h1) (State.runAttendDesc_inTile h1))))

theorem execAttend_inTile {pre : State} {i : Issue} {s : State} (fo : InTile (i.tile.val) pre s) : InTileO (i.tile.val) pre (execAttend i s) := by
  unfold execAttend
  apply State.issue_inTile
  · exact fo
  · intro x1 h1
    exact State.attPoison_inTile (State.setReg_inTile h1)
  · intro x2 h2
    exact State.runAttend_inTile h2

theorem State.noToken_inTile {pre : State} {i : Issue} {s : State} (fo : InTile (i.tile.val) pre s) {sr : SlotRec} : InTile (i.tile.val) pre (s.noToken i sr) := by
  unfold State.noToken
  exact State.tileRecord_inTile (State.setReg_inTile fo)

theorem State.runRoot_inTile {pre : State} {i : Issue} {s : State} (fo : InTile (i.tile.val) pre s) {a : SmpDesc} {sr : SlotRec} {drafts : Nat → Nat} {ta : Taint} : InTile (i.tile.val) pre (State.runRoot s i a sr drafts ta) := by
  unfold State.runRoot
  extract_lets s1 s2 s3 s4 s5 s6 s7 s8 s9 s10
  have h1 : InTile (i.tile.val) pre s4.fst := State.schedReads_inTile fo
  clear_value s4
  have h2 : InTile (i.tile.val) pre s8 := InTile.ite (State.reportFault_inTile h1) h1
  clear_value s8
  have h3 : InTile (i.tile.val) pre s9 := InTile.ite (State.noToken_inTile h2) h2
  clear_value s9
  have h4 : InTile (i.tile.val) pre s10 := State.updTile_inTile h3
  clear_value s10
  exact State.schedWrite_inTile h4

theorem State.leafPos_inTile {pre : State} {t : Nat} {s : State} (fo : InTile t pre s) {c : Nat} {a : SmpDesc} {sr : SlotRec} {drafts : Nat → Nat} {ta : Taint} {p : Nat} : InTile t pre (State.leafPos s t c a sr drafts ta p).fst := by
  unfold State.leafPos
  extract_lets s1 s2 s3 s4
  have h1 : InTile t pre s1.fst := State.schedReads_inTile fo
  clear_value s1
  dsimp only
  exact InTile.ite (State.reportFault_inTile h1) h1

theorem State.runLeaf_inTile {pre : State} {i : Issue} {s : State} (fo : InTile (i.tile.val) pre s) {a : SmpDesc} {sr : SlotRec} {drafts : Nat → Nat} {ta : Taint} : InTile (i.tile.val) pre (State.runLeaf s i a sr drafts ta) := by
  unfold State.runLeaf
  extract_lets s1 s2 s3 s4
  have h1 : InTile (i.tile.val) pre s3.fst := by
    unfold s3
    apply foldl_inTile1
    · intro x1 x2 h2
      extract_lets s5
      have h3 : InTile (i.tile.val) pre s5.fst := State.leafPos_inTile h2
      clear_value s5
      exact h3
    · exact fo
  clear_value s3
  have h4 : InTile (i.tile.val) pre s4 := State.updTile_inTile h1
  clear_value s4
  exact InTile.ite (State.putBeats_inTile h4) (State.streamOut_inTile h4)

theorem State.smpPoison_inTile {pre : State} {i : Issue} {s : State} (fo : InTile (i.tile.val) pre s) : InTile (i.tile.val) pre (State.smpPoison s i) := by
  unfold State.smpPoison
  extract_lets s1 s2 s3
  exact InTile.ite (State.poisonRows_inTile fo) (State.streamOut_inTile fo)

theorem State.smpRefuse_inTile {pre : State} {i : Issue} {s : State} (fo : InTile (i.tile.val) pre s) : InTile (i.tile.val) pre (State.smpRefuse s i) := by
  unfold State.smpRefuse
  exact State.smpPoison_inTile (State.engRefuse_inTile fo)

theorem State.runSample_inTile {pre : State} {i : Issue} {s : State} (fo : InTile (i.tile.val) pre s) : InTile (i.tile.val) pre (State.runSample s i) := by
  unfold State.runSample
  extract_lets s1 s2 s3 s4 s5 s6 s7 s8 s9 s10 s11
  have h1 : InTile (i.tile.val) pre s4.fst := State.descBytes_inTile (State.portClaim_inTile fo)
  clear_value s4
  have h2 : InTile (i.tile.val) pre s6.fst := State.schedRead_inTile h1
  clear_value s6
  have h3 : InTile (i.tile.val) pre s8.fst := by
    unfold s8
    split
    · exact h2
    · exact State.schedRead_inTile h2
  clear_value s8
  exact InTile.ite (State.vxOther_inTile fo) (InTile.ite (State.smpRefuse_inTile fo) (InTile.ite (State.smpPoison_inTile (State.portRefuse_inTile fo)) (InTile.ite (State.smpRefuse_inTile h1) (InTile.ite (State.runRoot_inTile h3) (State.runLeaf_inTile h3)))))

theorem execSample_inTile {pre : State} {i : Issue} {s : State} (fo : InTile (i.tile.val) pre s) : InTileO (i.tile.val) pre (execSample i s) := by
  unfold execSample
  apply State.issue_inTile
  · exact fo
  · intro x1 h1
    exact State.smpPoison_inTile (State.setReg_inTile h1)
  · intro x2 h2
    exact State.runSample_inTile h2

theorem State.cmrgPoison_inTile {pre : State} {i : Issue} {s : State} (fo : InTile (i.tile.val) pre s) : InTile (i.tile.val) pre (State.cmrgPoison s i) := by
  unfold State.cmrgPoison
  extract_lets s1 s2 s3 s4
  apply InTile.ite
  · apply foldl_inTile
    · intro x1 x2 h1
      exact State.poisonWords_inTile h1
    · apply foldl_inTile
      · intro x3 x4 h2
        exact State.poisonRows_inTile h2
      · exact fo
  · exact State.updTile_inTile fo

theorem State.fusedBeat_inTile {pre : State} {i : Issue} {s : State} (fo : InTile (i.tile.val) pre s) {cycle : Nat} : InTile (i.tile.val) pre (State.fusedBeat s i cycle).fst := by
  unfold State.fusedBeat
  split
  · exact fo
  · rename_i y4 y5
    dsimp only
    exact State.engRefuse_inTile fo

theorem State.confLocal_inTile {pre : State} {i : Issue} {s : State} (fo : InTile (i.tile.val) pre s) {f : CmrgF} : InTile (i.tile.val) pre (State.confLocal s i f).fst := by
  unfold State.confLocal
  split
  · rename_i y1
    extract_lets s1
    have h1 : InTile (i.tile.val) pre s1.fst := State.schedReads_inTile fo
    clear_value s1
    exact h1
  · rename_i y2
    apply foldl_inTile1
    · intro x1 x2 h2
      extract_lets s2
      have h3 : InTile (i.tile.val) pre s2.fst := State.fusedBeat_inTile h2
      clear_value s2
      exact h3
    · exact fo

theorem State.rootA8_inTile {pre : State} {i : Issue} {s : State} (fo : InTile (i.tile.val) pre s) {f : CmrgF} {xs : List Nat} {ta : Taint} : InTile (i.tile.val) pre (State.rootA8 s i f xs ta) := by
  unfold State.rootA8
  extract_lets s1 s2 s3 s4 s5 s6 s7 s8 s9 s10 s11
  have h1 : InTile (i.tile.val) pre s4.fst := State.quantAll_inTile fo
  clear_value s4
  have h2 : InTile (i.tile.val) pre s6 := State.putBeats_inTile h1
  clear_value s6
  have h3 : InTile (i.tile.val) pre s8 := by
    unfold s8
    apply foldl_inTile
    · intro x1 x2 h4
      exact InTile.ite (State.writeTag_inTile (State.byteWrite_inTile h4)) (State.boundsFault_inTile h4)
    · exact h2
  clear_value s8
  have h5 : InTile (i.tile.val) pre s9 := State.putBeats_inTile h3
  clear_value s9
  have h6 : InTile (i.tile.val) pre s10 := State.vTrouble_inTile h5
  clear_value s10
  exact State.updTile_inTile h6

theorem State.confAttn_inTile {pre : State} {i : Issue} {s : State} (fo : InTile (i.tile.val) pre s) {f : CmrgF} {streams : List (List Beat)} : InTile (i.tile.val) pre (State.confAttn s i f streams) := by
  unfold State.confAttn
  extract_lets s1
  split
  · exact State.cmrgPoison_inTile (State.reportFault_inTile fo)
  · rename_i y3 y4 y5 y6
    extract_lets s2 s3 s4 s5
    have h1 : InTile (i.tile.val) pre s4 := InTile.ite (State.reportFault_inTile fo) fo
    clear_value s4
    exact InTile.ite (InTile.ite (State.rootA8_inTile h1) (InTile.ite (State.putBeats_inTile h1) (State.putBeats_inTile h1))) (State.updTile_inTile h1)

theorem State.confBeat_inTile {pre : State} {i : Issue} {s : State} (fo : InTile (i.tile.val) pre s) {port : Nat} {cycle : Nat} : InTile (i.tile.val) pre (State.confBeat s i port cycle).fst := by
  unfold State.confBeat
  split
  · exact fo
  · rename_i y4 y5
    extract_lets s1
    have h1 : InTile (i.tile.val) pre s1.fst := State.takeBeat_inTile fo
    clear_value s1
    dsimp only
    exact State.engRefuse_inTile h1

theorem State.confBeats_inTile {pre : State} {i : Issue} {port : Nat} {cycle : Nat} {n : Nat} : ∀ {s : State}, InTile (i.tile.val) pre s → InTile (i.tile.val) pre (s.confBeats i port cycle n).1 := by
  induction n generalizing cycle with
  | zero => intro s h; exact h
  | succ n ih => intro s h; exact ih (State.confBeat_inTile h)

theorem State.confSmp_inTile {pre : State} {i : Issue} {s : State} (fo : InTile (i.tile.val) pre s) {f : CmrgF} {streams : List (List Beat)} : InTile (i.tile.val) pre (s.confSmp i f streams) := by
  unfold State.confSmp
  extract_lets s1 s2 s3 s4 s5 s6
  have h1 : InTile (i.tile.val) pre s5 := InTile.ite (State.reportFault_inTile fo) fo
  clear_value s5
  exact InTile.ite (State.putBeats_inTile h1) (State.updTile_inTile h1)

theorem State.cmrgAccept_inTile {pre : State} {i : Issue} {s : State} (fo : InTile (i.tile.val) pre s) : InTile (i.tile.val) pre (s.cmrgAccept i) := by
  unfold State.cmrgAccept
  extract_lets s1 s2 s3 s4 s5 s6 s7 s8
  have h1 : InTile (i.tile.val) pre s4 := State.updTile_inTile fo
  clear_value s4
  have h2 : InTile (i.tile.val) pre s5.fst := by
    unfold s5
    split
    · exact h1
    · exact State.confLocal_inTile h1
  clear_value s5
  have h3 : InTile (i.tile.val) pre s6.fst := by
    unfold s6
    split
    · exact h2
    · exact State.confBeats_inTile h2
  clear_value s6
  have h4 : InTile (i.tile.val) pre s7.fst := by
    unfold s7
    split
    · exact h3
    · exact State.confBeats_inTile h3
  clear_value s7
  exact InTile.ite (State.confAttn_inTile h4) (State.confSmp_inTile h4)

theorem State.runCmrg_inTile {pre : State} {i : Issue} {s : State} (fo : InTile (i.tile.val) pre s) : InTile (i.tile.val) pre (State.runCmrg s i) := by
  unfold State.runCmrg
  extract_lets s1 s2 s3 s4
  exact InTile.ite (State.cmrgPoison_inTile (State.engRefuse_inTile fo)) (InTile.ite (State.cmrgPoison_inTile (State.portRefuse_inTile fo)) (State.cmrgAccept_inTile (State.portClaim_inTile fo)))

theorem execCmrg_inTile {pre : State} {i : Issue} {s : State} (fo : InTile (i.tile.val) pre s) : InTileO (i.tile.val) pre (execCmrg i s) := by
  unfold execCmrg
  apply State.issue_inTile
  · exact fo
  · intro x1 h1
    exact State.cmrgPoison_inTile (State.setReg_inTile h1)
  · intro x1 h1
    exact State.runCmrg_inTile h1

theorem State.reservedOpcode_inTile {pre : State} {i : Issue} {s : State} (fo : InTile (i.tile.val) pre s) {unit : Nat} : InTile (i.tile.val) pre (State.reservedOpcode s i unit) := by
  unfold State.reservedOpcode
  split
  · exact State.otherWord_inTile fo
  · exact State.mxOther_inTile fo
  · exact State.vxOther_inTile fo
  · exact fo

theorem vectorUnit_inTile {pre : State} {i : Issue} {opc : Nat} {f : Issue → State → Host.Outcome State Fault Refusal} (h : vectorUnit opc = some f) {s : State} (fo : InTile (i.tile.val) pre s) : InTileO (i.tile.val) pre (f i s) := by
  unfold vectorUnit at h
  split at h <;> cases h
  · exact execVld_inTile fo
  · exact execVst_inTile fo
  · exact execVadd_inTile fo
  · exact execVsub_inTile fo
  · exact execVmul_inTile fo
  · exact execVfma_inTile fo
  · exact execVmax_inTile fo
  · exact execVmin_inTile fo
  · exact execVexp2_inTile fo
  · exact execVrcp_inTile fo
  · exact execVrsq_inTile fo
  · exact execVlog2_inTile fo
  · exact execVred_inTile fo
  · exact execVsel_inTile fo
  · exact execVbc_inTile fo
  · exact execVcvt_inTile fo
  · exact execVqnt_inTile fo
  · exact execVrot_inTile fo
  · exact execAttend_inTile fo
  · exact execSample_inTile fo

theorem unitMeaning_inTile {pre : State} {i : Issue} {unit : Nat} {w : Nat} {f : Issue → State → Host.Outcome State Fault Refusal} (h : unitMeaning unit w = some f) {s : State} (fo : InTile (i.tile.val) pre s) : InTileO (i.tile.val) pre (f i s) := by
  unfold unitMeaning at h
  split at h
  · split at h <;> cases h
    · exact execLdin_inTile fo
    · exact execMvm_inTile fo
    · exact execRed_inTile fo
    · exact execWrb_inTile fo
    · exact execRdb_inTile fo
    · exact execClv_inTile fo
  · split at h <;> cases h
    · exact execMld_inTile fo
    · exact execMmul_inTile fo
    · exact execMout_inTile fo
  · exact vectorUnit_inTile h fo
  · cases h
    exact execCmrg_inTile fo
  · cases h

theorem execSluiceSlotIssue_inTile {pre : State} {tile : Tile} {entry : Fin 4096} {cycle : Fin 65536} {s : State} (fo : InTile (tile.val) pre s) : InTileO (tile.val) pre (execSluiceSlotIssue tile entry cycle s) := by
  unfold execSluiceSlotIssue
  extract_lets t e s1 i
  have h1 : InTile (tile.val) pre s1 := State.updTile_inTile (State.setReg_inTile fo)
  refine InTileO.ite ?_ (InTileO.next fo)
  split
  · rename_i f hf
    exact unitMeaning_inTile hf h1
  · exact InTileO.next (State.reservedOpcode_inTile (i := i) h1)

/-- A command of a tile's unit writes its tile only. -/
theorem exec_inTile {c : Instr} {t : Nat} (h : unitTile c = some t) (s : State) : InTileO t s (exec c s) := by
  cases c with
  | ldin => obtain rfl := Option.some.inj h; exact execLdin_inTile .refl
  | mvm => obtain rfl := Option.some.inj h; exact execMvm_inTile .refl
  | mvmComplete => obtain rfl := Option.some.inj h; exact execMvmComplete_inTile .refl
  | red => obtain rfl := Option.some.inj h; exact execRed_inTile .refl
  | wrb => obtain rfl := Option.some.inj h; exact execWrb_inTile .refl
  | wrbComplete => obtain rfl := Option.some.inj h; exact execWrbComplete_inTile .refl
  | rdb => obtain rfl := Option.some.inj h; exact execRdb_inTile .refl
  | clv => obtain rfl := Option.some.inj h; exact execClv_inTile .refl
  | mld => obtain rfl := Option.some.inj h; exact execMld_inTile .refl
  | mmul => obtain rfl := Option.some.inj h; exact execMmul_inTile .refl
  | mout => obtain rfl := Option.some.inj h; exact execMout_inTile .refl
  | vld => obtain rfl := Option.some.inj h; exact execVld_inTile .refl
  | vst => obtain rfl := Option.some.inj h; exact execVst_inTile .refl
  | vadd => obtain rfl := Option.some.inj h; exact execVadd_inTile .refl
  | vsub => obtain rfl := Option.some.inj h; exact execVsub_inTile .refl
  | vmul => obtain rfl := Option.some.inj h; exact execVmul_inTile .refl
  | vfma => obtain rfl := Option.some.inj h; exact execVfma_inTile .refl
  | vmax => obtain rfl := Option.some.inj h; exact execVmax_inTile .refl
  | vmin => obtain rfl := Option.some.inj h; exact execVmin_inTile .refl
  | vexp2 => obtain rfl := Option.some.inj h; exact execVexp2_inTile .refl
  | vrcp => obtain rfl := Option.some.inj h; exact execVrcp_inTile .refl
  | vrsq => obtain rfl := Option.some.inj h; exact execVrsq_inTile .refl
  | vlog2 => obtain rfl := Option.some.inj h; exact execVlog2_inTile .refl
  | vred => obtain rfl := Option.some.inj h; exact execVred_inTile .refl
  | vsel => obtain rfl := Option.some.inj h; exact execVsel_inTile .refl
  | vbc => obtain rfl := Option.some.inj h; exact execVbc_inTile .refl
  | vcvt => obtain rfl := Option.some.inj h; exact execVcvt_inTile .refl
  | vqnt => obtain rfl := Option.some.inj h; exact execVqnt_inTile .refl
  | vrot => obtain rfl := Option.some.inj h; exact execVrot_inTile .refl
  | attend => obtain rfl := Option.some.inj h; exact execAttend_inTile .refl
  | sample => obtain rfl := Option.some.inj h; exact execSample_inTile .refl
  | cmrg => obtain rfl := Option.some.inj h; exact execCmrg_inTile .refl
  | sluiceSlotIssue => obtain rfl := Option.some.inj h; exact execSluiceSlotIssue_inTile .refl
  | _ => exact absurd h (Option.some_ne_none _).symm

/-- Settles O59: the tile that the command runs in is the only one it writes. -/
theorem unitCommandsStayInTheirTile : Obligations.UnitCommandsStayInTheirTile := by
  unfold Obligations.UnitCommandsStayInTheirTile
  intro c s t x y hc hne hexec
  obtain ⟨u, hu, hframe⟩ := exec_inTile hc s
  obtain rfl := eq_of_answers hexec hu
  exact hframe.other x hne

end Sys2Proof.Machine
end

section
/-! PROOF. Small facts that the later parts share: bits of a number, sets of numbers, global fields, and what a record of no partition keeps. -/

namespace Sys2Proof.Machine

open Sys2Proof Sys2Proof.Safety

/-! ### Bits -/

theorem bitAt_eq_testBit (v i : Nat) : bitAt v i = v.testBit i := by
  unfold bitAt Nat.testBit
  rw [Nat.one_and_eq_mod_two]
  rcases Nat.mod_two_eq_zero_or_one (v >>> i) with h | h <;> rw [h] <;> rfl

theorem bitAt_mod {w i : Nat} (h : i < w) (v : Nat) : bitAt (v % 2 ^ w) i = bitAt v i := by
  rw [bitAt_eq_testBit, bitAt_eq_testBit, Nat.testBit_mod_two_pow, decide_eq_true h, Bool.true_and]

@[simp] theorem bitAt_setBit_same (v i : Nat) (b : Bool) : bitAt (setBit v i b) i = b := by
  unfold setBit setBits bitAt
  have e : i - i + 1 = 1 := by omega
  simp only [e, Nat.pow_one, Nat.shiftRight_eq_div_pow]
  have hq : v = v / 2 ^ i * 2 ^ i + v % 2 ^ i := by rw [Nat.mul_comm]; exact (Nat.div_add_mod v (2 ^ i)).symm
  have hlt : v % 2 ^ i < 2 ^ i := Nat.mod_lt _ (Nat.two_pow_pos i)
  generalize v / 2 ^ i = q at *
  generalize v % 2 ^ i = r at *
  have hs : v - q % 2 * 2 ^ i + (if b then 1 else 0) % 2 * 2 ^ i = (2 * (q / 2) + b.toNat) * 2 ^ i + r := by
    have hqd : q * 2 ^ i = 2 * (q / 2) * 2 ^ i + q % 2 * 2 ^ i := by rw [← Nat.add_mul, Nat.div_add_mod]
    cases b <;> simp only [Bool.toNat_true, Bool.toNat_false, Nat.add_mul, if_true, if_false, Bool.false_eq_true] <;> omega
  rw [hs, Nat.add_comm, Nat.add_mul_div_right _ _ (Nat.two_pow_pos i), Nat.div_eq_of_lt hlt]
  cases b <;> simp

/-! ### Sets of numbers -/

@[simp] theorem NatSet.mem_add_same (m : NatSet) (k : Nat) : (m.add k).mem k = true := Map.has_put_same m k ()
theorem NatSet.mem_add (m : NatSet) (k j : Nat) : (m.add k).mem j = (decide (k = j) || m.mem j) := Map.has_put m k j ()
@[simp] theorem Map.has_del_same {α : Type} (m : Map α) (k : Nat) : (m.del k).has k = false := by
  rw [Map.has_del]
  simp
@[simp] theorem NatSet.mem_del_same (m : NatSet) (k : Nat) : NatSet.mem (Map.del m k) k = false := Map.has_del_same m k
@[simp] theorem NatSet.mem_upd_same (m : NatSet) (k : Nat) (b : Bool) : (m.upd k b).mem k = b := by
  unfold NatSet.upd
  cases b
  · exact Map.has_del_same m k
  · exact Map.has_put_same m k ()

/-! ### Global fields -/

theorem State.g_setG_other {s : State} {f k : Fld} {i j v : Nat} (h : f.key 0 i ≠ k.key 0 j) : (s.setG f i v).g k j = s.g k j :=
  State.reg_setG_other h
theorem State.flag_setG_other {s : State} {f k : Fld} {i n j v : Nat} (h : f.key 0 i ≠ k.key n j) : (s.setG f i v).flag k n j = s.flag k n j := by
  unfold State.flag
  rw [State.reg_setG_other h]
theorem State.flag_of_g {s : State} {f : Fld} {i : Nat} (h : s.g f i = 1) : s.flag f 0 i = true := by
  unfold State.flag
  unfold State.g at h
  rw [h]
  rfl

/-! ### Records of no partition -/

/-- A record of no partition keeps a global field that lies outside the ERR and INT pages. -/
theorem State.record_g {s : State} {r : Rec} {f : Fld} {i : Nat} (h : r.part = none) (h1 : f.key 0 i / 2 ^ 33 ≠ Page.int.code)
    (h2 : f.key 0 i / 2 ^ 33 ≠ Page.err.code) : (s.record r).g f i = s.g f i := State.record_reg' h h1 h2
theorem State.record_flag {s : State} {r : Rec} {f : Fld} {i j : Nat} (h : r.part = none) (h1 : f.key i j / 2 ^ 33 ≠ Page.int.code)
    (h2 : f.key i j / 2 ^ 33 ≠ Page.err.code) : (s.record r).flag f i j = s.flag f i j := by
  unfold State.flag
  rw [State.record_reg' h h1 h2]
/-- What of the link state does not depend on pending vectors is kept by a record. -/
theorem State.LinkKept.proj {s t : State} (h : s.LinkKept t) {β : Type} (f : LinkSt → β) (hf : ∀ l m, f { l with msixPend := m } = f l) : f t.link = f s.link := by
  obtain ⟨m, h⟩ := h
  rw [h, hf]
theorem State.record_link {β : Type} (s : State) (r : Rec) (f : LinkSt → β) (hf : ∀ l m, f { l with msixPend := m } = f l) : f (s.record r).link = f s.link :=
  (State.record_linkKept s r).proj f hf

end Sys2Proof.Machine
end

section
/-! PROOF. PCI Express, Ethernet and precision time (14 R350 to R356, R377): O53 and O54. -/

namespace Sys2Proof.Machine

open Sys2Proof Sys2Proof.Safety

/-! ### Precision time (R356) -/

theorem State.correct_g {s : State} {ofs : Int} {port : Nat} {f : Fld} {i : Nat} (h1 : f.key 0 i / 2 ^ 33 ≠ Page.int.code)
    (h2 : f.key 0 i / 2 ^ 33 ≠ Page.err.code) : (s.correct ofs port).g f i = s.g f i := by
  unfold State.correct
  split
  · rfl
  · exact State.record_g rfl h1 h2

theorem State.correct_todNew (s : State) (ofs : Int) (port : Nat) : (s.correct ofs port).link.todNew = s.link.todNew := by
  unfold State.correct
  split
  · rfl
  · exact State.record_link _ _ (·.todNew) fun _ _ => rfl

theorem State.correct_slews {s : State} {ofs : Int} {port : Nat} (h : ofs.natAbs ≤ 1000000) :
    (s.correct ofs port).link.slew = -ofs ∧ (s.correct ofs port).ptp = s.ptp := by
  unfold State.correct
  rw [if_pos h]
  exact ⟨rfl, rfl⟩

theorem State.correct_steps {s : State} {ofs : Int} {port : Nat} (h : ¬ ofs.natAbs ≤ 1000000) :
    (s.correct ofs port).link.slew = 0 ∧ (s.correct ofs port).ptp = ((s.ptp : Int) - ofs).toNat := by
  unfold State.correct State.linkRecord
  rw [if_neg h]
  exact ⟨State.record_link _ _ (·.slew) fun _ _ => rfl, State.record_ptp ..⟩

/-- Settles O54: an offset within 1 ms is slewed, a larger one stepped, and LOCKED is set before the correction, which keeps it. -/
theorem timeFollowsItsSource : Obligations.TimeFollowsItsSource := by
  unfold Obligations.TimeFollowsItsSource
  refine ⟨fun n d tr ofs rate s hen hsrc hport hdom htr hlink => ?_, fun ns s haux hen hsrc hns => ?_, fun s hlock => ?_⟩
  · refine ⟨_, by simp only [exec, execPtpMessage, hen, hsrc, hport, hdom, htr, hlink, beq_self_eq_true, Bool.not_false, Bool.and_self, if_true]; rfl, ?_, ?_, ?_⟩
    · rw [State.correct_g (by decide) (by decide), State.g_setG_other (by decide), State.g_setG_same]
      rfl
    · rw [State.correct_g (by decide) (by decide), State.g_setG_other (by decide), State.g_setG_other (by decide), State.g_setG_same]
      refine Nat.mod_eq_of_lt ?_
      unfold ofsWord
      show _ < 2 ^ 32
      omega
    · split
      · exact State.correct_slews ‹_›
      · exact State.correct_steps ‹_›
  · refine ⟨_, by simp only [exec, execPpsInPulse, haux, hen, hsrc, hns, decide_true, Bool.and_self, if_true]; rfl, ?_, ?_, ?_⟩
    · rw [State.correct_g (by decide) (by decide), State.g_setG_same]
      rfl
    · exact State.correct_todNew ..
    · split
      · exact State.correct_slews ‹_›
      · obtain ⟨h1, h2⟩ := State.correct_steps (s := ({ s with link := { s.link with todNew := false } }.setG NET_PTP_OFS_OFS 0
          (ofsWord ((s.ptp : Int) - (s.pulseSecond * 1000000000 : Nat)))).setG NET_STATUS_PTP_LOCKED 0 1) (port := 255) ‹_›
        refine ⟨h1, h2.trans ?_⟩
        show ((s.ptp : Int) - ((s.ptp : Int) - (s.pulseSecond * 1000000000 : Nat))).toNat = _
        omega
  · refine ⟨_, if_pos (State.flag_of_g hlock), ?_, ?_, State.record_logTail ..⟩
    · refine (State.record_g rfl (by decide) (by decide)).trans ?_
      rw [State.g_setG_same]
      rfl
    · exact State.record_link _ _ (·.slew) fun _ _ => rfl

/-! ### PCI Express (R350 to R352) -/

/-- Sending what waits moves pending vectors and messages only. -/
theorem State.sendPending_linkKept (s : State) : s.LinkKept s.sendPending := by
  unfold State.sendPending
  generalize List.map (·.1) s.link.msixPend.entries = l
  induction l generalizing s with
  | nil => exact .refl s
  | cons k l ih =>
    rw [List.foldl_cons]
    refine State.LinkKept.trans ?_ (ih _)
    split
    · exact ⟨_, rfl⟩
    · exact .refl s
theorem State.sendPending_link {β : Type} (s : State) (f : LinkSt → β) (hf : ∀ l m, f { l with msixPend := m } = f l) : f s.sendPending.link = f s.link :=
  (State.sendPending_linkKept s).proj f hf
theorem State.sendPending_regs (s : State) : s.sendPending.regs = s.regs := by
  unfold State.sendPending
  refine foldl_keep State.regs (fun a k => ?_) _ s
  split <;> rfl
@[simp] theorem State.sendPending_g (s : State) (f : Fld) (i : Nat) : s.sendPending.g f i = s.g f i := by
  unfold State.g State.reg
  rw [State.sendPending_regs]

theorem State.pcieDown_pcieUp (s : State) : s.pcieDown.link.pcieUp = false := by
  unfold State.pcieDown
  split
  · exact State.record_link _ _ (·.pcieUp) fun _ _ => rfl
  · exact Bool.eq_false_iff.2 ‹_›

theorem pcieLinkUp_sets {sp : Fin 7} {l : Fin 5} {f : Bool} {s : State} (hb : s.boot ≠ 0) (hr : s.rimUp 0 = true) (hd : s.link.pcieUp = false)
    (hs : sp.val ≠ 0) : ∃ u, exec (.pcieLinkUp sp l f) s = .next u ∧ u.link.pcieUp = true ∧ u.g PCI_LINK_SPEED 0 = sp.val ∧
      u.g PCI_LINK_WIDTH 0 = 2 ^ l.val ∧ u.g PCI_LINK_FLIT 0 = b2n f := by
  refine ⟨_, by simp only [exec, execPcieLinkUp, hb, hr, hd, hs, decide_false, Bool.not_true, Bool.or_self, Bool.false_eq_true, if_false]; rfl, ?_, ?_, ?_, ?_⟩
  · exact State.sendPending_link _ (·.pcieUp) fun _ _ => rfl
  · rw [State.sendPending_g]
    refine (State.g_setG_other (by decide)).trans ((State.g_setG_other (by decide)).trans ((State.g_setG_same ..).trans ?_))
    exact Nat.mod_eq_of_lt (Nat.lt_of_lt_of_le sp.isLt (by decide))
  · rw [State.sendPending_g]
    refine (State.g_setG_other (by decide)).trans ((State.g_setG_same ..).trans ?_)
    exact Nat.mod_eq_of_lt (Nat.lt_of_le_of_lt (Nat.pow_le_pow_right (by decide) (Nat.le_of_lt_succ l.isLt)) (by decide : 2 ^ 4 < 2 ^ PCI_LINK_WIDTH.width))
  · rw [State.sendPending_g]
    refine (State.g_setG_same ..).trans ?_
    cases f <;> rfl

theorem busMaster_sets {fn : Fin 65} {on : Bool} {s : State} (hu : s.link.pcieUp = true) (h : fn.val = 0 ∨ s.link.vfEnable = true) :
    ∃ u, exec (.busMasterEnableChange (.busMaster fn on)) s = .next u ∧ u.link.busMaster.mem fn.val = on := by
  have hc : (fn.val != 0 && !s.link.vfEnable) = false := by
    rcases h with h | h <;> simp [h]
  refine ⟨_, by simp only [exec, execBusMasterEnableChange, hu, hc, Bool.not_true, Bool.false_eq_true, if_false]; rfl, ?_⟩
  refine (congrArg (NatSet.mem · fn.val) (State.sendPending_link _ (·.busMaster) fun _ _ => rfl)).trans ?_
  exact NatSet.mem_upd_same ..

/-! ### Ethernet (R353, R377) -/

theorem linkBits_setBit (s : State) (n : Fin 4) (b : Bool) :
    bitAt ((s.setG NET_STATUS_LINK 0 (setBit (s.g NET_STATUS_LINK 0) n.val b)).g NET_STATUS_LINK 0) n.val = b := by
  rw [State.g_setG_same]
  exact (bitAt_mod n.isLt _).trans (bitAt_setBit_same ..)

theorem State.ethDown_bit (s : State) (n : Fin 4) : bitAt ((s.ethDown n.val).g NET_STATUS_LINK 0) n.val = false := by
  unfold State.ethDown
  split
  · rw [State.record_g rfl (by decide) (by decide)]
    have hk : ∀ (a : State) (e : Nat), (if a.flag LD_SRV0_VALID 0 e && a.g LD_SRV0_PORT e = n.val then a.setG LD_SRV0_DOWN e 1 else a).g NET_STATUS_LINK 0 =
        a.g NET_STATUS_LINK 0 := fun a e => by
      split
      · exact State.g_setG_other (by simp only [Fld.key, Fld.offset, NET_STATUS_LINK, LD_SRV0_DOWN]; omega)
      · rfl
    rw [foldl_keep (fun a : State => a.g NET_STATUS_LINK 0) hk]
    exact linkBits_setBit ..
  · exact Bool.eq_false_iff.2 ‹_›

theorem ethFrame_answers {n : Fin 4} {s : State} (hl : bitAt (s.g NET_STATUS_LINK 0) n.val = true) (f : EthFrame) : exec (.ethFrame n f) s = .next (
    if f.codewordBad then s.addReg NET_FEC_UNC_COUNT 0 n.val 1
    else if s.frameUsed n.val f = false then s.addReg NET_PDROP_COUNT 0 n.val 1
    else if f.kind.val = 1 ∨ f.kind.val = 3 ∨ f.kind.val = 4 ∨ f.kind.val = 5 then s.emit (.frame n.val f.kind.val) else s) := by
  have hk : (decide (f.kind.val = 1) || (decide (3 ≤ f.kind.val) && decide (f.kind.val ≤ 5))) =
      decide (f.kind.val = 1 ∨ f.kind.val = 3 ∨ f.kind.val = 4 ∨ f.kind.val = 5) := by
    rw [← Bool.decide_and, ← Bool.decide_or]
    exact decide_eq_decide.2 (by omega)
  simp only [exec, execEthFrame, hl, hk, Bool.not_true, Bool.false_eq_true, if_false, Bool.not_eq_true', decide_eq_true_eq]
  split
  · rfl
  · split
    · rfl
    · split <;> rfl

/-- Settles O53: each command's gate is open, and what it stores is not touched by the messages sent after it. -/
theorem linksAndFrames : Obligations.LinksAndFrames := by
  unfold Obligations.LinksAndFrames
  refine ⟨fun sp l f s hb hr hd hs => pcieLinkUp_sets hb hr hd hs, fun s => ⟨_, rfl, State.pcieDown_pcieUp s⟩, fun on s hu => ?_,
    fun fn on s hu h => busMaster_sets hu h, fun x s hu => ?_, fun n s => ⟨fun hb hr hen => ?_, ⟨_, rfl, State.ethDown_bit s n⟩, ethFrame_answers⟩⟩
  · exact ⟨_, by simp only [exec, execBusMasterEnableChange, hu, Bool.not_true, Bool.false_eq_true, if_false]; rfl,
      State.sendPending_link _ (·.vfEnable) fun _ _ => rfl⟩
  · cases x <;> simp only [exec, execIdeCheckFail, hu, Bool.not_true, Bool.false_eq_true, if_false]
  · exact ⟨_, by simp only [exec, execEthPortUp, hb, hr, hen, decide_false, Bool.not_true, Bool.or_self, Bool.false_eq_true, if_false]; rfl,
      linkBits_setBit ..⟩

end Sys2Proof.Machine
end

section
/-! PROOF. Droop responses (10 R256 to R259): O48. -/

namespace Sys2Proof.Machine

open Sys2Proof Sys2Proof.Safety

theorem State.senseAt_regs (s : State) (site point mv a : Nat) : (s.senseAt site point mv a).regs = s.regs := by
  unfold State.senseAt
  extract_lets k low
  split <;> rfl
theorem State.senseAt_logTail (s : State) (site point mv a : Nat) : (s.senseAt site point mv a).logTail = s.logTail := by
  unfold State.senseAt
  extract_lets k low
  split <;> rfl
theorem State.sense_g (s : State) (site point mv : Nat) (f : Fld) (i : Nat) : (s.sense site point mv).g f i = s.g f i := by
  unfold State.g State.reg
  rw [show (s.sense site point mv).regs = s.regs from State.senseAt_regs ..]

theorem deepDroop_sets {site : Site} {pt : Fin 4} {mv : Fin 1024} {s : State} (h : mv.val + s.g PWR_DROOP_FLOOR_MV 0 < s.vset site.val) :
    ∃ u, exec (.deepDroop site pt mv) s = .next u ∧ u.g PWR_STATUS_DEEP_DROOP 0 = 1 ∧ u.power.deepWin.get? site.val = some 16 ∧
      u.logTail = s.logTail + 1 := by
  have h' : mv.val + (s.sense site.val pt.val mv.val).g PWR_DROOP_FLOOR_MV 0 < (s.sense site.val pt.val mv.val).vset site.val := by
    unfold State.vset at h ⊢
    rwa [State.sense_g, State.sense_g]
  refine ⟨_, if_pos h', (State.record_g rfl (by decide) (by decide)).trans ((State.g_setG_same ..).trans rfl), Map.get?_put_same .., ?_⟩
  exact (State.record_logTail ..).trans (congrArg (· + 1) (State.senseAt_logTail s ..))

/-- Settles O48: each response's threshold is crossed, so its branch runs. -/
theorem droopResponses : Obligations.DroopResponses := by
  unfold Obligations.DroopResponses
  refine ⟨fun t mv s hd => ⟨fun h => ?_, fun h => ?_, fun h => ?_⟩, fun q s => ⟨_, rfl, ?_, ?_⟩, fun r below s h => ⟨_, if_pos h, ?_⟩,
    fun site pt mv s h => deepDroop_sets h, fun path s h => ⟨_, pageWrite_runs h, fun k => rfl⟩⟩
  · have hc : (s.detects t.val && decide (mv.val + s.g PWR_DROOP_SPILL_MV 0 < s.vset (quadOf t.val / 4))) = true := by
      rw [hd, decide_eq_true h]; rfl
    exact ⟨_, if_pos hc, rfl, (State.g_setG_same ..).trans rfl, NatSet.mem_add_same ..⟩
  · have hc : (s.detects t.val && decide (s.vset (quadOf t.val / 4) + s.g PWR_DROOP_SPILL_MV 0 < mv.val)) = true := by
      rw [hd, decide_eq_true h]; rfl
    exact if_pos hc
  · have hc : (s.detects t.val && decide (mv.val + s.g PWR_DROOP_DROOP_MV 0 < s.vset (siteOf t.val))) = true := by
      rw [hd, decide_eq_true h]; rfl
    exact ⟨_, if_pos hc, NatSet.mem_add_same ..⟩
  · exact NatSet.mem_del_same ..
  · refine (State.g_setG_same ..).trans (Nat.mod_eq_of_lt ?_)
    unfold b2n
    show _ < 2
    split <;> decide
  · exact NatSet.mem_del_same ..

end Sys2Proof.Machine
end

section
/-! PROOF. Firmware images, the update of the steward, and the certificate store (13 R328 to R330, R343, R346): O45. -/

namespace Sys2Proof.Machine

open Sys2Proof Sys2Proof.Safety

theorem State.raiseInt_g {s : State} {fn bit : Nat} {f : Fld} {i : Nat} (hfn : fn < 65536) (h1 : f.key 0 i / 2 ^ 33 ≠ Page.int.code)
    (h2 : f.key 0 i / 2 ^ 33 ≠ Page.err.code) : (s.raiseInt fn bit).g f i = s.g f i := State.raiseInt_intRegs s fn bit hfn f 0 i h1 h2

/-! ### The update of the steward -/

theorem State.loseStandby_g {s : State} {f : Fld} {i : Nat} (h1 : f.key 0 i / 2 ^ 33 ≠ Page.int.code) (h2 : f.key 0 i / 2 ^ 33 ≠ Page.err.code)
    (h3 : STW_CTRL_STANDBY_OK.key 0 0 ≠ f.key 0 i) : s.loseStandby.g f i = s.g f i := by
  unfold State.loseStandby
  split
  · exact (State.record_g rfl h1 h2).trans (State.g_setG_other h3)
  · rfl
theorem State.loseStandby_repair (s : State) : s.loseStandby.repair = s.repair := by
  unfold State.loseStandby
  split
  · exact State.record_repair ..
  · rfl

theorem State.setUpd_upd {s : State} {v : Nat} (h : v < 4) : (s.setUpd v).upd = v := by
  unfold State.setUpd
  split
  · assumption
  · exact (State.raiseInt_g (by decide) (by decide) (by decide)).trans ((State.g_setG_same ..).trans (Nat.mod_eq_of_lt h))
theorem State.setUpd_g {s : State} {v : Nat} {f : Fld} {i : Nat} (h1 : f.key 0 i / 2 ^ 33 ≠ Page.int.code) (h2 : f.key 0 i / 2 ^ 33 ≠ Page.err.code)
    (h3 : RST_FW_UPD.key 0 0 ≠ f.key 0 i) : (s.setUpd v).g f i = s.g f i := by
  unfold State.setUpd
  split
  · rfl
  · exact (State.raiseInt_g (by decide) h1 h2).trans (State.g_setG_other h3)
/-- What an update's state change leaves of the repair state. -/
theorem State.setUpd_repair {β : Type} (s : State) (v : Nat) (f : RepairSt → β) (hf : ∀ r t, f { r with fwSince := t } = f r) :
    f (s.setUpd v).repair = f s.repair := by
  unfold State.setUpd
  split
  · rfl
  · rw [(State.raiseInt_only ..).repair]
    exact hf ..

theorem fwImageWrite_stages {kind : Fin 5} {image : Fin 18446744073709551616} {s : State} (haux : s.power.auxOn = true) (hk : kind.val ≠ 2) :
    ∃ u, exec (.fwImageWrite kind image true) s = .next u ∧
      u.repair.fwImage.get? (kind.val * 2 + (1 - s.fwSlot kind.val)) = some image.val ∧ u.repair.fwStaged.mem kind.val = true := by
  have hu : (s.fwWrite kind.val image.val true).repair = { s.repair with
      fwImage := s.repair.fwImage.put (kind.val * 2 + (1 - s.fwSlot kind.val)) image.val, fwStaged := s.repair.fwStaged.add kind.val } := by
    simp [State.fwWrite, hk]
  refine ⟨_, if_pos haux, ?_, ?_⟩
  · rw [hu]; exact Map.get?_put_same ..
  · rw [hu]; exact NatSet.mem_add_same ..

theorem fwImageWrite_starts {kind : Fin 5} {image : Fin 18446744073709551616} {s : State} (haux : s.power.auxOn = true) (hk : kind.val = 2)
    (hl : s.upd ≠ updLoading) (hc : s.upd ≠ updConfirm) : ∃ u, exec (.fwImageWrite kind image true) s = .next u ∧
      u.repair.fwImage.get? (4 + (1 - s.g RST_FW_ACT_SLOT 0)) = some image.val ∧ u.upd = updLoading ∧ u.g RST_FW_STBY_SLOT 0 = 1 - s.g RST_FW_ACT_SLOT 0 := by
  have hb : (!true || (kind.val == 2 && (s.upd == updLoading || s.upd == updConfirm))) = false := by simp [hl, hc]
  refine ⟨_, if_pos haux, ?_, ?_, ?_⟩
  all_goals
    simp only [State.fwWrite, hb, Bool.false_eq_true, if_false]
    rw [if_pos hk, hk]
  · refine (congrArg (Map.get? · _) (State.setUpd_repair _ _ (·.fwImage) fun _ _ => rfl)).trans ?_
    rw [State.loseStandby_repair]
    exact Map.get?_put_same ..
  · exact State.setUpd_upd (by decide)
  · rw [State.setUpd_g (by decide) (by decide) (by decide), State.loseStandby_g (by decide) (by decide) (by decide), State.g_setG_same]
    exact Nat.mod_eq_of_lt (Nat.lt_of_le_of_lt (Nat.sub_le ..) (by decide))

theorem fwImageWrite_refused {kind : Fin 5} {image : Fin 18446744073709551616} {s : State} (haux : s.power.auxOn = true) :
    ∃ u, exec (.fwImageWrite kind image false) s = .next u ∧ u.repair = s.repair ∧ u.upd = s.upd ∧ u.logTail = s.logTail + 1 := by
  have hu : s.fwWrite kind.val image.val false = s.fwRefused := by simp [State.fwWrite]
  refine ⟨_, if_pos haux, ?_⟩
  rw [hu]
  exact ⟨State.record_repair .., State.record_g rfl (by decide) (by decide), State.record_logTail ..⟩

theorem fwConfirmExpiry_ends {s : State} (hc : s.upd = updConfirm) (ht : s.repair.fwSince + 10 ^ 9 * s.g RST_FW_CONFIRM_S 0 ≤ s.ptp) :
    ∃ u, exec .fwConfirmExpiry s = .next u ∧ u.upd = updIdle ∧ u.fwSlot 2 = s.g RST_FW_ACT_SLOT 0 ∧ u.g RST_FW_STBY_SLOT 0 = s.g RST_FW_ACT_SLOT 0 := by
  refine ⟨_, if_pos (by rw [hc, decide_eq_true ht]; rfl), State.setUpd_upd (by decide), ?_, ?_⟩
  · refine (congrArg (Map.get · 2 0) (State.setUpd_repair _ _ (·.fwActive) fun _ _ => rfl)).trans ?_
    rw [State.loseStandby_repair]
    exact Map.get_put_same ..
  · rw [State.setUpd_g (by decide) (by decide) (by decide), State.loseStandby_g (by decide) (by decide) (by decide), State.g_setG_same]
    exact Nat.mod_mod ..

/-! ### Certificates -/

theorem State.licEnd_state {s : State} {code : Nat} : (s.licEnd code).g LIC_CMD_STS_STATE 0 = if code = 0 then 2 else 3 := by
  unfold State.licEnd
  rw [State.raiseInt_g (by decide) (by decide) (by decide), State.g_setG_other (by decide), State.g_setG_same]
  split <;> rfl
theorem State.licEnd_code {s : State} {code : Nat} (h : code < 65536) : (s.licEnd code).g LIC_CMD_STS_CODE 0 = code := by
  unfold State.licEnd
  rw [State.raiseInt_g (by decide) (by decide) (by decide), State.g_setG_same]
  exact Nat.mod_eq_of_lt h
theorem State.licEnd_repair (s : State) (code : Nat) : (s.licEnd code).repair = s.repair := (State.raiseInt_only ..).repair
theorem State.showSlot_repair (s : State) (n : Nat) (failed : Bool) : (s.showSlot n failed).repair = s.repair := by
  unfold State.showSlot
  split <;> rfl

theorem licInstall_refused {path : Path} {signed : Bool} {code : Nat} {s : State} (ho : pageOpen s path false true = true)
    (hr : s.licInstall signed = s.licRefused code 0 31) (h0 : code ≠ 0) (h : code < 65536) :
    ∃ u, exec (.licInstall path signed) s = .next u ∧ u.g LIC_CMD_STS_STATE 0 = 3 ∧ u.g LIC_CMD_STS_CODE 0 = code := by
  refine ⟨s.licInstall signed, pageWrite_runs (pg := .lic) (act := fun s => s.licInstall signed) ho, ?_⟩
  rw [hr]
  exact ⟨State.licEnd_state.trans (if_neg h0), State.licEnd_code h⟩

theorem licInstall_fills {path : Path} {s : State} {n : Nat} (ho : pageOpen s path false true = true) (hv : certVersion s.certBuffer = 1)
    (hh : certHere s.certBuffer = true) (hnew : s.repair.certs.entries.any (fun e => certSerial e.2 == certSerial s.certBuffer) = false)
    (hfree : s.freeCert = some n) : ∃ u, exec (.licInstall path true) s = .next u ∧ u.repair.certs.get? n = some s.certBuffer ∧
      u.g LIC_CMD_STS_STATE 0 = 2 ∧ u.g LIC_CMD_STS_CODE 0 = 0 := by
  have hu : s.licInstall true =
      (({ s with repair := { s.repair with certs := s.repair.certs.put n s.certBuffer } }.showSlot n false).showLic).licEnd 0 := by
    simp only [State.licInstall, hv, hh, hnew, hfree, ne_eq, not_true_eq_false, if_false, Bool.not_true, Bool.false_eq_true]
  refine ⟨s.licInstall true, pageWrite_runs (pg := .lic) (act := fun s => s.licInstall true) ho, ?_⟩
  rw [hu]
  refine ⟨?_, State.licEnd_state, State.licEnd_code (by decide)⟩
  rw [State.licEnd_repair]
  refine (congrArg (fun r : RepairSt => r.certs.get? n) (State.showSlot_repair ..)).trans ?_
  exact Map.get?_put_same ..

theorem licRemove_empties {path : Path} {s : State} {n : Fin 16} (ho : pageOpen s path false true = true)
    (hf : ∀ f ∈ [1, 2, 3, 4], s.featureUsed f = false) :
    ∃ u, exec (.licRemove path n) s = .next u ∧ u.repair.certs.has n.val = false ∧ u.g LIC_CMD_STS_STATE 0 = 2 := by
  have hnone : [1, 2, 3, 4].find? (fun f => s.feature f && !bitAt (s.featuresBut (fun k => k == n.val)) (f - 1) && s.featureUsed f) = none := by
    rw [List.find?_eq_none]
    intro f hmem
    rw [hf f hmem, Bool.and_false]
    exact Bool.false_ne_true
  have hu : s.licRemove n.val = (({ s with repair := { s.repair with certs := s.repair.certs.del n.val } }.showSlot n.val false).showLic).licEnd 0 := by
    simp only [State.licRemove, hnone]
  refine ⟨s.licRemove n.val, pageWrite_runs (pg := .lic) (act := fun s => s.licRemove n.val) ho, ?_⟩
  rw [hu]
  refine ⟨?_, State.licEnd_state⟩
  rw [State.licEnd_repair]
  refine (congrArg (fun r : RepairSt => r.certs.has n.val) (State.showSlot_repair ..)).trans ?_
  exact Map.has_del_same ..

/-- Settles O45: each branch of the writes and of the command register, at the field that the branch sets last. -/
theorem firmwareAndCertificates : Obligations.FirmwareAndCertificates := by
  unfold Obligations.FirmwareAndCertificates
  refine ⟨fun kind image s haux => ⟨fwImageWrite_stages haux, fwImageWrite_starts haux, fwImageWrite_refused haux⟩,
    fun s hl => ⟨⟨_, if_pos hl, State.setUpd_upd (by decide)⟩, fun ht => ⟨_, if_pos (by rw [hl, decide_eq_true ht]; rfl), State.setUpd_upd (by decide)⟩⟩,
    fun s hc ht => fwConfirmExpiry_ends hc ht,
    fun path s ho => ⟨fun n hv hh hnew hfree => licInstall_fills ho hv hh hnew hfree, fun hv => ?_, fun hv => ?_, fun n hf => licRemove_empties ho hf⟩⟩
  · exact licInstall_refused ho (by unfold State.licInstall; exact if_pos hv) (by decide) (by decide)
  · exact licInstall_refused ho (by simp [State.licInstall, hv]) (by decide) (by decide)

end Sys2Proof.Machine
end

section
/-! PROOF. Supply anomalies, reactive mode, alert divide and the ageing margin (10 R265, R266, R272 to R276): O50. -/

namespace Sys2Proof.Machine

open Sys2Proof Sys2Proof.Safety

theorem foldl_eq_of_mem {α β : Type} {f g : α → β → α} : ∀ {l : List β} (_ : ∀ a, ∀ b ∈ l, f a b = g a b) (a : α), l.foldl f a = l.foldl g a
  | [], _, _ => rfl
  | b :: l, h, a => by
    rw [List.foldl_cons, List.foldl_cons, h a b (List.mem_cons_self ..)]
    exact foldl_eq_of_mem (fun a c hc => h a c (List.mem_cons_of_mem _ hc)) _
/-- A fold whose other steps keep a reading ends with the reading that the one step leaves. -/
theorem foldl_step_at {α β γ : Type} {f : α → β → α} {p : β} (g : α → γ) (hkeep : ∀ a b, b ≠ p → g (f a b) = g a) {l : List β} (hnd : l.Nodup) (hp : p ∈ l) :
    ∀ a, ∃ a', g a' = g a ∧ g (l.foldl f a) = g (f a' p) := by
  induction l with
  | nil => exact absurd hp (List.not_mem_nil)
  | cons b l ih =>
    intro a
    obtain ⟨hb, hl⟩ := List.nodup_cons.1 hnd
    rw [List.foldl_cons]
    by_cases hbp : b = p
    · subst hbp
      refine ⟨a, rfl, ?_⟩
      have hrest : ∀ c ∈ l, c ≠ b := fun c hc e => hb (e ▸ hc)
      clear ih hnd hl hb hp
      generalize f a b = x
      induction l generalizing x with
      | nil => rfl
      | cons c l ih =>
        rw [List.foldl_cons, ih (fun d hd => hrest d (List.mem_cons_of_mem _ hd)), hkeep _ _ (hrest c (List.mem_cons_self ..))]
    · obtain ⟨a', h1, h2⟩ := ih hl ((List.mem_cons.1 hp).resolve_left (Ne.symm hbp)) (f a b)
      exact ⟨a', h1.trans (hkeep _ _ hbp), h2⟩

/-! ### Alert divide (R273, R274) -/

theorem State.endAlert_alertOn (s : State) : s.endAlert.alertOn = false := by
  show (s.setG PWR_STATUS_ALERT 0 0).flag PWR_STATUS_ALERT 0 0 = false
  exact State.flag_setG_zero ..
theorem State.beginAlert_alertOn (s : State) : s.beginAlert.alertOn = true := by
  unfold State.beginAlert
  extract_lets src u
  show (u.setG PWR_STATUS_ALERT 0 1).flag PWR_STATUS_ALERT 0 0 = true
  exact State.flag_setG_one _ _ _ (by decide)
theorem State.beginAlert_g {s : State} {f : Fld} {i : Nat} (h : PWR_STATUS_ALERT.key 0 0 ≠ f.key 0 i) : s.beginAlert.g f i = s.g f i := by
  unfold State.beginAlert
  extract_lets src u
  have hu : u.g f i = s.g f i := by unfold u; split <;> rfl
  exact (State.g_setG_other h).trans hu
theorem State.holdAlert_g {s : State} {f : Fld} {i : Nat} (h : PWR_STATUS_ALERT.key 0 0 ≠ f.key 0 i) : s.holdAlert.g f i = s.g f i := by
  unfold State.holdAlert
  split
  · rfl
  · split
    · exact State.g_setG_other h
    · rfl
theorem State.holdAlert_internal (s : State) : s.holdAlert.power.internal = s.power.internal := by
  unfold State.holdAlert
  split
  · rfl
  · split <;> rfl
theorem State.holdAlert_holds {s : State} (hpin : s.flag PWR_ALERT_PIN 0 0 = false) (hint : s.power.internal = false) (hon : s.alertOn = true) :
    if s.g PWR_ALERT_HOLD_US 0 = 0 then s.holdAlert.alertOn = false else s.holdAlert.alertOn = true ∧ s.holdAlert.power.alertHold = true := by
  unfold State.holdAlert
  simp only [hpin, hint, hon, Bool.not_true, Bool.or_self, Bool.false_eq_true, if_false]
  split
  · exact State.endAlert_alertOn s
  · exact ⟨hon, rfl⟩

theorem State.flag_eq_of_g {s t : State} {f : Fld} {i : Nat} (h : t.g f i = s.g f i) : t.flag f 0 i = s.flag f 0 i := by
  unfold State.g at h
  unfold State.flag
  rw [h]

theorem pwrAlertAssert_counts {s : State} (h : s.flag PWR_ALERT_PIN 0 0 = false) : ∃ u, exec .pwrAlertAssert s = .next u ∧ u.g PWR_ALERT_PIN 0 = 1 ∧
    u.alertOn = true ∧ u.g PWR_ALERT_COUNT 0 = satAdd 15 (s.g PWR_ALERT_COUNT 0) 1 := by
  refine ⟨_, if_neg (by rw [h]; exact Bool.false_ne_true), ?_, ?_, ?_⟩
  · refine (State.record_g rfl (by decide) (by decide)).trans ((State.g_setG_other (f := PWR_ALERT_COUNT) (by decide)).trans ((State.g_setG_same ..).trans rfl))
  · refine (State.flag_eq_of_g ((State.record_g rfl (by decide) (by decide)).trans ((State.g_setG_other (f := PWR_ALERT_COUNT) (by decide)).trans
      (State.g_setG_other (by decide))))).trans (State.beginAlert_alertOn s)
  · refine (State.record_g rfl (by decide) (by decide)).trans ((State.reg_addReg_same ..).trans ?_)
    show satAdd 15 ((s.beginAlert.setG PWR_ALERT_PIN 0 1).g PWR_ALERT_COUNT 0) 1 = _
    rw [State.g_setG_other (by decide), State.beginAlert_g (by decide)]

theorem pwrAlertRelease_holds {s : State} (h : s.flag PWR_ALERT_PIN 0 0 = true) : ∃ u, exec .pwrAlertRelease s = .next u ∧ u.g PWR_ALERT_PIN 0 = 0 ∧
    (s.power.internal = false → s.alertOn = true →
      if s.g PWR_ALERT_HOLD_US 0 = 0 then u.alertOn = false else u.alertOn = true ∧ u.power.alertHold = true) := by
  refine ⟨(s.setG PWR_ALERT_PIN 0 0).holdAlert, if_pos h, ?_, fun hint hon => ?_⟩
  · exact (State.holdAlert_g (by decide)).trans (State.g_setG_same ..)
  · have := State.holdAlert_holds (s := s.setG PWR_ALERT_PIN 0 0) (State.flag_setG_zero ..) hint ((State.flag_setG_other (by decide)).trans hon)
    rwa [State.g_setG_other (by decide)] at this

theorem internalAlert_begins {w : Fin 65536} {e : Bool} {s : State} (hint : s.power.internal = false) (hw : (if e then 34000 else 28000) < w.val) :
    ∃ u, exec (.internalAlert w e) s = .next u ∧ u.power.internal = true ∧ u.alertOn = true ∧ u.g PWR_STATUS_INTERNAL_ALERT 0 = 1 := by
  have hc : ¬ (s.power.internal || decide (w.val ≤ if e then 34000 else 28000)) = true := by
    rw [hint, Bool.false_or, decide_eq_true_eq]
    omega
  refine ⟨_, if_neg hc, ?_, ?_, ?_⟩
  · exact (congrArg PowerSt.internal (State.record_power ..)).trans rfl
  · refine (State.flag_eq_of_g ((State.record_g rfl (by decide) (by decide)).trans (State.g_setG_other (by decide)))).trans ?_
    exact State.beginAlert_alertOn _
  · exact (State.record_g rfl (by decide) (by decide)).trans ((State.g_setG_same ..).trans rfl)

/-! ### Reactive mode (R272, R274) -/

/-- What the entry of every partition into reactive mode reads and writes of one partition. -/
def State.reactiveView (s : State) (p : Nat) : Nat × Nat × Bool := (s.g PWR_PCFG_REACTIVE p, s.g CSD_PSTRETCH_FACTOR p, s.partExists p)

/-- The step of one partition. -/
def State.enterReactive (s : State) (p : Nat) : State :=
  if s.partExists p && !s.flag PWR_PCFG_REACTIVE 0 p then
    (((s.setG PWR_PCFG_REACTIVE p 1).setG CSD_PSTRETCH_FACTOR p 16).updPart p (fun x => { x with capF := 16, okStreak := 0, coolWin := 0 }))
  else s
theorem State.allReactive_eq (s : State) : s.allReactive = (upTo 64).foldl State.enterReactive s := rfl

theorem State.enterReactive_view_other {s : State} {p q : Nat} (h : q ≠ p) (hp : p < 64) (hq : q < 64) :
    (s.enterReactive q).reactiveView p = s.reactiveView p := by
  unfold State.enterReactive
  split
  · have h1 : ((s.setG PWR_PCFG_REACTIVE q 1).setG CSD_PSTRETCH_FACTOR q 16).g PWR_PCFG_REACTIVE p = s.g PWR_PCFG_REACTIVE p :=
      (State.g_setG_other (by simp only [Fld.key, Fld.offset, PWR_PCFG_REACTIVE, CSD_PSTRETCH_FACTOR, Page.code]; omega)).trans
        (State.g_setG_other (by simp only [Fld.key, Fld.offset, PWR_PCFG_REACTIVE, Page.code]; omega))
    have h2 : ((s.setG PWR_PCFG_REACTIVE q 1).setG CSD_PSTRETCH_FACTOR q 16).g CSD_PSTRETCH_FACTOR p = s.g CSD_PSTRETCH_FACTOR p :=
      (State.g_setG_other (by simp only [Fld.key, Fld.offset, CSD_PSTRETCH_FACTOR, Page.code]; omega)).trans
        (State.g_setG_other (by simp only [Fld.key, Fld.offset, PWR_PCFG_REACTIVE, CSD_PSTRETCH_FACTOR, Page.code]; omega))
    have h3 : ((s.setG PWR_PCFG_REACTIVE q 1).setG CSD_PSTRETCH_FACTOR q 16).g LD_PSTATE_STATE p = s.g LD_PSTATE_STATE p :=
      (State.g_setG_other (by simp only [Fld.key, Fld.offset, LD_PSTATE_STATE, CSD_PSTRETCH_FACTOR, Page.code]; omega)).trans
        (State.g_setG_other (by simp only [Fld.key, Fld.offset, PWR_PCFG_REACTIVE, LD_PSTATE_STATE, Page.code]; omega))
    show (_, _, decide (((s.setG PWR_PCFG_REACTIVE q 1).setG CSD_PSTRETCH_FACTOR q 16).g LD_PSTATE_STATE p ≠ 0)) = _
    rw [h3]
    exact Prod.ext h1 (Prod.ext h2 rfl)
  · rfl

theorem State.enterReactive_sets {s : State} {p : Nat} (he : s.partExists p = true) : (s.enterReactive p).flag PWR_PCFG_REACTIVE 0 p = true ∧
    (s.flag PWR_PCFG_REACTIVE 0 p = false → (s.enterReactive p).g CSD_PSTRETCH_FACTOR p = 16) := by
  unfold State.enterReactive
  cases hr : s.flag PWR_PCFG_REACTIVE 0 p with
  | true =>
    simp only [he, Bool.not_true, Bool.and_false, Bool.false_eq_true, if_false]
    exact ⟨hr, nofun⟩
  | false =>
    simp only [he, Bool.not_false, Bool.and_self, if_true]
    refine ⟨?_, fun _ => State.g_setG_same ..⟩
    refine (State.flag_setG_other (f := CSD_PSTRETCH_FACTOR) ?_).trans (State.flag_setG_one _ _ _ (by decide))
    simp only [Fld.key, Fld.offset, PWR_PCFG_REACTIVE, CSD_PSTRETCH_FACTOR, Page.code]
    omega

theorem State.allReactive_sets {s : State} {p : Nat} (hp : p < 64) (he : s.partExists p = true) : s.allReactive.flag PWR_PCFG_REACTIVE 0 p = true ∧
    (s.flag PWR_PCFG_REACTIVE 0 p = false → s.allReactive.g CSD_PSTRETCH_FACTOR p = 16) := by
  have hfold : s.allReactive = (upTo 64).foldl (fun a q => if q < 64 then State.enterReactive a q else a) s := by
    rw [State.allReactive_eq]
    refine foldl_eq_of_mem (fun a q hq => ?_) _
    rw [if_pos (List.mem_range.1 hq)]
  have hkeep : ∀ (a : State) (q : Nat), q ≠ p → (if q < 64 then a.enterReactive q else a).reactiveView p = a.reactiveView p := fun a q hq => by
    split
    · exact State.enterReactive_view_other hq hp ‹_›
    · rfl
  obtain ⟨a, ha, hres⟩ := foldl_step_at (fun a : State => a.reactiveView p) hkeep (List.nodup_range (n := 64)) (List.mem_range.2 hp) s
  rw [if_pos hp] at hres
  replace hres := (congrArg (fun a : State => a.reactiveView p) hfold).trans hres
  simp only [State.reactiveView, Prod.mk.injEq] at ha hres
  obtain ⟨ha1, -, ha3⟩ := ha
  obtain ⟨hr1, hr2, -⟩ := hres
  obtain ⟨h1, h2⟩ := State.enterReactive_sets (ha3.trans he)
  refine ⟨(State.flag_eq_of_g hr1).trans h1, fun hf => hr2.trans (h2 ?_)⟩
  exact (State.flag_eq_of_g ha1).trans hf
theorem State.allReactive_power (s : State) : s.allReactive.power = s.power := by
  rw [State.allReactive_eq]
  refine foldl_keep State.power (fun a p => ?_) _ s
  unfold State.enterReactive
  split <;> rfl

theorem internalAlertRelease_reacts {w : Fin 65536} {s : State} (hint : s.power.internal = true) (hw : w.val < 28000) :
    ∃ u, exec (.internalAlertRelease w) s = .next u ∧ u.power.internal = false ∧
      ∀ p : Part, s.partExists p.val = true → u.flag PWR_PCFG_REACTIVE 0 p.val = true ∧
        (s.flag PWR_PCFG_REACTIVE 0 p.val = false → u.g CSD_PSTRETCH_FACTOR p.val = 16) := by
  refine ⟨_, if_pos (by rw [hint, decide_eq_true hw]; rfl), ?_, fun p he => ?_⟩
  · rw [State.holdAlert_internal, State.allReactive_power]
  · have hp := p.isLt
    have he' : (s.setG PWR_IN_P_PIN_W 0 w.val).partExists p.val = true := by
      unfold State.partExists at he ⊢
      rwa [State.g_setG_other (by simp only [Fld.key, Fld.offset, PWR_IN_P_PIN_W, LD_PSTATE_STATE, Page.code]; omega)]
    obtain ⟨h1, h2⟩ := State.allReactive_sets (s := { s.setG PWR_IN_P_PIN_W 0 w.val with power := { s.power with internal := false } }) hp he'
    refine ⟨(State.flag_eq_of_g (State.holdAlert_g (by simp only [Fld.key, Fld.offset, PWR_STATUS_ALERT, PWR_PCFG_REACTIVE, Page.code]; omega))).trans h1, fun hf => ?_⟩
    refine (State.holdAlert_g (by simp only [Fld.key, Fld.offset, PWR_STATUS_ALERT, CSD_PSTRETCH_FACTOR, Page.code]; omega)).trans (h2 ?_)
    exact (State.flag_setG_other (by simp only [Fld.key, Fld.offset, PWR_IN_P_PIN_W, PWR_PCFG_REACTIVE, Page.code]; omega)).trans hf

/-! ### Anomalies (R265, R266) and the ageing margin (R276) -/

theorem State.refreshSite_power (s : State) (site : Nat) : (s.refreshSite site).power = s.power := rfl
theorem State.refreshSite_g {s : State} {site : Nat} {f : Fld} {i : Nat} (h1 : THM_SPLIM_PTH_W.key 0 site ≠ f.key 0 i) (h2 : PWR_SSTAT_ILIM_A.key 0 site ≠ f.key 0 i)
    (h3 : PWR_SSTAT_STATE.key 0 site ≠ f.key 0 i) : (s.refreshSite site).g f i = s.g f i :=
  (State.g_setG_other h3).trans ((State.g_setG_other h2).trans (State.g_setG_other h1))

theorem State.reportAnomaly_sets {s : State} {q phase : Nat} (hq : q < 224) : bitAt ((s.reportAnomaly q phase).g PWR_SSTAT_ANOM (q / 4)) (q % 4) = true ∧
    (s.reportAnomaly q phase).g PWR_STATUS_ANOM 0 = 1 := by
  unfold State.reportAnomaly
  extract_lets w src u
  have hu : bitAt (u.g PWR_SSTAT_ANOM (q / 4)) (q % 4) = true := by
    unfold u
    split
    · assumption
    · rw [show State.g (State.pwrRecord _ _ _ _ _ _ _) PWR_SSTAT_ANOM (q / 4) = _ from State.record_g rfl
        (by simp only [Fld.key, Fld.offset, PWR_SSTAT_ANOM, Page.code]; omega) (by simp only [Fld.key, Fld.offset, PWR_SSTAT_ANOM, Page.code]; omega), State.g_setG_same]
      exact (bitAt_mod (show q % 4 < 4 by omega) _).trans (bitAt_setBit_same ..)
  refine ⟨?_, (State.g_setG_same ..).trans rfl⟩
  rw [State.g_setG_other (by simp only [Fld.key, Fld.offset, PWR_SSTAT_ANOM, PWR_STATUS_ANOM, Page.code]; omega)]
  exact hu

theorem State.reportAnomaly_power (s : State) (q phase : Nat) : (s.reportAnomaly q phase).power = s.power := by
  unfold State.reportAnomaly
  extract_lets w src u
  show u.power = s.power
  unfold u
  split
  · rfl
  · exact State.record_power ..

theorem supplyAnomaly_reports {q : Quad} {r : PathReading} {s : State} (ha : s.anomalous q.val r = true) : ∃ u, exec (.supplyAnomaly q r) s = .next u ∧
    bitAt (u.g PWR_SSTAT_ANOM (q.val / 4)) (q.val % 4) = true ∧ u.g PWR_STATUS_ANOM 0 = 1 ∧
    (950 < r.bankMv.val → r.limit.val < s.power.anomLimit.get (q.val / 4) 720 → u.power.anomLimit.get? (q.val / 4) = some r.limit.val) := by
  have hq := q.isLt
  refine ⟨s.takeAnomaly q.val r, congrArg Host.Outcome.next (if_pos ha), ?_⟩
  unfold State.takeAnomaly
  extract_lets u src v
  obtain ⟨h1, h2⟩ := State.reportAnomaly_sets (s := s) (phase := if 20 < r.share.val then r.phase.val else 0) hq
  split
  · have hg : ∀ {f : Fld} {i : Nat}, f.key 0 i / 2 ^ 33 ≠ Page.int.code → f.key 0 i / 2 ^ 33 ≠ Page.err.code → THM_SPLIM_PTH_W.key 0 (q.val / 4) ≠ f.key 0 i →
        PWR_SSTAT_ILIM_A.key 0 (q.val / 4) ≠ f.key 0 i → PWR_SSTAT_STATE.key 0 (q.val / 4) ≠ f.key 0 i →
        ((v.refreshSite (q.val / 4)).pwrRecord 0x5002 (q.val / 4) (q.val % 4) 0 0 none).g f i = u.g f i := fun k1 k2 k3 k4 k5 =>
      (State.record_g rfl k1 k2).trans (State.refreshSite_g k3 k4 k5)
    refine ⟨?_, ?_, fun _ _ => ?_⟩
    · rw [hg]
      · exact h1
      all_goals (simp only [Fld.key, Fld.offset, PWR_SSTAT_ANOM, THM_SPLIM_PTH_W, PWR_SSTAT_ILIM_A, PWR_SSTAT_STATE, Page.code]; omega)
    · rw [hg]
      · exact h2
      all_goals (simp only [Fld.key, Fld.offset, PWR_STATUS_ANOM, THM_SPLIM_PTH_W, PWR_SSTAT_ILIM_A, PWR_SSTAT_STATE, Page.code]; omega)
    · refine (congrArg (fun x : PowerSt => x.anomLimit.get? (q.val / 4)) (State.record_power ..)).trans ?_
      exact Map.get?_put_same ..
  · rename_i hc
    refine ⟨h1, h2, fun hb hl => absurd ?_ hc⟩
    rw [decide_eq_true hb, Bool.true_and, decide_eq_true_eq]
    exact (congrArg (fun x : PowerSt => r.limit.val < x.anomLimit.get (q.val / 4) 720) (State.reportAnomaly_power ..)).mpr hl

theorem State.judgeSet_sets (s : State) (site : Site) : (s.judgeSet site.val).power = s.power ∧
    (s.judgeSet site.val).g PWR_SCFG_AGE_MV site.val = (10 + s.power.mAge.get site.val 0 / 2) % 256 := by
  have hs := site.isLt
  unfold State.judgeSet
  extract_lets beyond u
  have hu : u.g PWR_SCFG_AGE_MV site.val = (10 + s.power.mAge.get site.val 0 / 2) % 256 := State.g_setG_same ..
  have hk : PWR_SSTAT_AGE_LIMIT.key 0 site.val ≠ PWR_SCFG_AGE_MV.key 0 site.val := by
    simp only [Fld.key, Fld.offset, PWR_SSTAT_AGE_LIMIT, PWR_SCFG_AGE_MV, Page.code]
    omega
  split
  · refine ⟨State.record_power .., Eq.trans (State.record_g rfl ?_ ?_) ((State.g_setG_other hk).trans hu)⟩ <;>
      (simp only [Fld.key, Fld.offset, PWR_SCFG_AGE_MV, Page.code]; omega)
  · exact ⟨rfl, (State.g_setG_other hk).trans hu⟩

/-- Settles O50: thresholds and masks of the readings are met, so each branch runs; the fold over the partitions is read at one of them. -/
theorem alertsAnomaliesAndTheCap : Obligations.AlertsAnomaliesAndTheCap := by
  unfold Obligations.AlertsAnomaliesAndTheCap
  refine ⟨fun q r s ha => supplyAnomaly_reports ha, fun path p s ho => ?_, fun s h => pwrAlertAssert_counts h, fun s h => pwrAlertRelease_holds h,
    fun s h => ⟨s.endAlert, congrArg Host.Outcome.next (if_pos h), State.endAlert_alertOn s, rfl⟩, fun w e s hint hw => internalAlert_begins hint hw,
    fun w s hint hw => internalAlertRelease_reacts hint hw, fun site slow s => ?_⟩
  · exact ⟨s.predictive p.val, pageWrite_runs (pg := .pwr) (act := fun s => s.predictive p.val) ho, State.g_setG_same ..⟩
  · obtain ⟨h1, h2⟩ := State.judgeSet_sets { s with power := { s.power with
      mAge := s.power.mAge.put site.val (max (s.power.mAge.get site.val 0) (min 100 (5 * slow.val))) } } site
    refine ⟨_, rfl, ?_, ?_⟩
    · rw [h1]
      exact Map.get_put_same ..
    · rw [h2, h1]

end Sys2Proof.Machine
end

section
/-! PROOF. Reads of rows and faults of tiles leave every partition as it stands, but for `noRetry`: one lemma for each operation. -/

namespace Sys2Proof.Machine

open Sys2Proof Sys2Proof.Safety

-- One proof after another: these many small proofs would otherwise wait for each other on a thread each.
set_option Elab.async false

/-- Every partition is as it was, but for `noRetry`. -/
structure PartsMarked (a s : State) : Prop where
  part : ∀ p, ∃ b, s.part p = { a.part p with noRetry := b }

theorem PartsMarked.refl {a : State} : PartsMarked a a := ⟨fun p => ⟨(a.part p).noRetry, rfl⟩⟩
theorem PartsMarked.trans {a s t : State} (h : PartsMarked a s) (k : PartsMarked s t) : PartsMarked a t := by
  refine ⟨fun p => ?_⟩
  obtain ⟨b, hb⟩ := h.part p
  obtain ⟨c, hc⟩ := k.part p
  exact ⟨c, by rw [hc, hb]⟩
theorem PartsMarked.ite {a u v : State} {c : Prop} [Decidable c] (hu : PartsMarked a u) (hv : PartsMarked a v) : PartsMarked a (if c then u else v) := by
  split <;> assumption
/-- A change that leaves the partitions alone. -/
theorem PartsMarked.same {a s t : State} (h : PartsMarked a s) (hparts : t.parts = s.parts) : PartsMarked a t :=
  h.trans ⟨fun p => ⟨(s.part p).noRetry, by unfold State.part; rw [hparts]⟩⟩
theorem foldl_partsMarked {a : State} {β : Type} {f : State → β → State} (hf : ∀ s b, PartsMarked a s → PartsMarked a (f s b)) {l : List β} :
    ∀ {s : State}, PartsMarked a s → PartsMarked a (l.foldl f s) := by
  induction l with
  | nil => intro s h; exact h
  | cons b r ih => intro s h; exact ih (hf s b h)
theorem foldl_partsMarked1 {a : State} {β γ : Type} {f : State × γ → β → State × γ} (hf : ∀ s b, PartsMarked a s.1 → PartsMarked a (f s b).1) {l : List β} :
    ∀ {s : State × γ}, PartsMarked a s.1 → PartsMarked a (l.foldl f s).1 := by
  induction l with
  | nil => intro s h; exact h
  | cons b r ih => intro s h; exact ih (hf s b h)

theorem State.record_partsMarked {pre s : State} (fo : PartsMarked pre s) {r : Rec} : PartsMarked pre (s.record r) := by
  refine fo.trans ⟨fun p => ?_⟩
  rcases State.record_part s r p with h | h
  · exact ⟨(s.part p).noRetry, by rw [h]⟩
  · exact ⟨true, h⟩

theorem State.setReg_partsMarked {pre : State} {s : State} (fo : PartsMarked pre s) {f : Fld} {inst : Nat} {i : Nat} {v : Nat} : PartsMarked pre (s.setReg f inst i v) := by
  unfold State.setReg
  exact fo.same (Eq.refl _)

theorem State.addReg_partsMarked {pre : State} {s : State} (fo : PartsMarked pre s) {f : Fld} {inst : Nat} {i : Nat} {d : Nat} : PartsMarked pre (s.addReg f inst i d) := by
  unfold State.addReg
  exact State.setReg_partsMarked fo

theorem State.tileRecord_partsMarked {pre : State} {s : State} (fo : PartsMarked pre s) {t : Nat} {r : Rec} : PartsMarked pre (s.tileRecord t r) := by
  unfold State.tileRecord
  exact State.record_partsMarked fo

theorem State.setTile_partsMarked {pre : State} {s : State} (fo : PartsMarked pre s) {t : Nat} {x : TileSt} : PartsMarked pre (s.setTile t x) := by
  unfold State.setTile
  exact fo.same (Eq.refl _)

theorem State.updTile_partsMarked {pre : State} {s : State} (fo : PartsMarked pre s) {t : Nat} {f : TileSt → TileSt} : PartsMarked pre (s.updTile t f) := by
  unfold State.updTile
  exact State.setTile_partsMarked fo

theorem State.tileFault_partsMarked {pre : State} {s : State} (fo : PartsMarked pre s) {t : Nat} {r : Rec} : PartsMarked pre (s.tileFault t r) := by
  unfold State.tileFault
  exact State.updTile_partsMarked (State.tileRecord_partsMarked fo)

theorem State.lastErr_partsMarked {pre : State} {s : State} (fo : PartsMarked pre s) {t : Nat} {r : Nat} {w : Nat} {ue : Nat} {syn : Nat} : PartsMarked pre (s.lastErr t r w ue syn) := by
  unfold State.lastErr
  exact State.setReg_partsMarked (State.setReg_partsMarked (State.setReg_partsMarked (State.setReg_partsMarked fo)))

theorem State.weakRow_partsMarked {pre : State} {s : State} (fo : PartsMarked pre s) {t : Nat} {r : Nat} {cycle : Nat} : PartsMarked pre (s.weakRow t r cycle) := by
  unfold State.weakRow
  extract_lets s1
  have h1 : PartsMarked pre s1 := State.tileRecord_partsMarked (State.setReg_partsMarked (State.setReg_partsMarked fo))
  clear_value s1
  exact State.updTile_partsMarked h1

theorem State.corrected_partsMarked {pre : State} {s : State} (fo : PartsMarked pre s) {t : Nat} {r : Nat} {w : Nat} {mask : Nat} {cycle : Nat} : PartsMarked pre (s.corrected t r w mask cycle) := by
  unfold State.corrected
  extract_lets s1 s2 s3
  have h1 : PartsMarked pre s1 := State.lastErr_partsMarked (State.setReg_partsMarked (State.addReg_partsMarked fo))
  clear_value s1
  have h2 : PartsMarked pre s3 := State.updTile_partsMarked h1
  clear_value s3
  exact PartsMarked.ite (State.weakRow_partsMarked h2) h2

theorem State.readWord_partsMarked {pre : State} {s : State} (fo : PartsMarked pre s) {t : Nat} {r : Nat} {cycle : Nat} {sched : Bool} {w : Nat} : PartsMarked pre (s.readWord t r cycle sched w).fst := by
  unfold State.readWord
  extract_lets s1 s2 s3 s4 s5
  have h1 : ∀ (s : State) (code : Nat), PartsMarked pre s → PartsMarked pre (s2 s code) := by
    intro x1 x2 h1
    unfold s2
    extract_lets s6
    exact PartsMarked.ite (State.tileFault_partsMarked h1) (State.tileRecord_partsMarked h1)
  clear_value s2
  have h2 : PartsMarked pre s4 := State.lastErr_partsMarked (State.setReg_partsMarked (State.addReg_partsMarked fo))
  clear_value s4
  have h3 : PartsMarked pre s5 := State.updTile_partsMarked h2
  clear_value s5
  split
  · dsimp only
    apply h1
    · exact fo
  · split
    · exact fo
    · split
      · dsimp only
        exact State.corrected_partsMarked fo
      · dsimp only
        apply h1
        · exact h3

theorem State.readWords_partsMarked {pre : State} {s : State} (fo : PartsMarked pre s) {t : Nat} {r : Nat} {cycle : Nat} {sched : Bool} : PartsMarked pre (s.readWords t r cycle sched).fst := by
  unfold State.readWords
  apply foldl_partsMarked1
  · intro x1 x2 h1
    extract_lets s1
    have h2 : PartsMarked pre s1.fst := State.readWord_partsMarked h1
    clear_value s1
    exact h2
  · exact fo

theorem State.readRow_partsMarked {pre : State} {s : State} (fo : PartsMarked pre s) {t : Nat} {r : Nat} {cycle : Nat} {sched : Bool} : PartsMarked pre (s.readRow t r cycle sched).fst := by
  unfold State.readRow
  extract_lets s1
  have h1 : PartsMarked pre s1.fst := State.readWords_partsMarked fo
  clear_value s1
  exact h1

theorem State.scrubTile_partsMarked {pre : State} {s : State} (fo : PartsMarked pre s) {t : Nat} : PartsMarked pre (s.scrubTile t) := by
  unfold State.scrubTile
  apply foldl_partsMarked
  · intro x1 x2 h1
    exact State.readRow_partsMarked h1
  · exact fo

theorem State.upset_partsMarked {pre : State} {s : State} (fo : PartsMarked pre s) {t : Nat} {l : List (Fin 1024 × Fin 64 × Fin 72)} : PartsMarked pre (s.upset t l) := by
  unfold State.upset
  exact State.updTile_partsMarked fo

end Sys2Proof.Machine
end

section
/-! PROOF. Requests for quadrant states, transitions and wakes (10 R260 to R264; 13 R341): O49. -/

namespace Sys2Proof.Machine

open Sys2Proof Sys2Proof.Safety

/-! ### What a new state of a quadrant writes -/

theorem State.judgeOver_g (s : State) (site : Nat) (f : Fld) (i : Nat) : (s.judgeOver site).g f i = s.g f i := by
  unfold State.judgeOver
  split <;> rfl
theorem State.judgeOver_power (s : State) (site : Nat) : (s.judgeOver site).power = s.power := by
  unfold State.judgeOver
  split <;> rfl
/-- The field is none of those that show the temperature of a site. -/
def Fld.apartFromTemps (f : Fld) (i : Nat) : Prop :=
  ∀ site < 56, THM_STEMP_TS.key 0 site ≠ f.key 0 i ∧ THM_STEMP_MAX_SEEN.key 0 site ≠ f.key 0 i ∧ THM_STEMP_STALE.key 0 site ≠ f.key 0 i
theorem Fld.apartFromTemps_of_page {f : Fld} {i : Nat} (h : f.key 0 i / 2 ^ 33 ≠ Page.thm.code) : f.apartFromTemps i := by
  refine fun site hs => ⟨?_, ?_, ?_⟩
  all_goals
    intro e
    rw [← e] at h
    simp only [Fld.key, Fld.offset, THM_STEMP_TS, THM_STEMP_MAX_SEEN, THM_STEMP_STALE, Page.code] at h
    omega
theorem State.refreshTemp_g {s : State} {site : Nat} (hs : site < 56) {f : Fld} {i : Nat} (h : f.apartFromTemps i) :
    (s.refreshTemp site).g f i = s.g f i := by
  obtain ⟨h1, h2, h3⟩ := h site hs
  unfold State.refreshTemp
  extract_lets ts
  rw [State.judgeOver_g, State.g_setG_other h3, State.g_setG_other h2, State.g_setG_other h1]
theorem State.refreshTemp_power (s : State) (site : Nat) : (s.refreshTemp site).power = s.power := by
  unfold State.refreshTemp
  rw [State.judgeOver_power]
  rfl
theorem State.refreshTemp_parts (s : State) (site : Nat) : (s.refreshTemp site).parts = s.parts := by
  unfold State.refreshTemp State.judgeOver
  extract_lets ts
  split <;> rfl

theorem State.setQ_power (s : State) (q st : Nat) : (s.setQ q st).power = s.power := by
  unfold State.setQ
  extract_lets x
  split
  · rfl
  · exact State.refreshTemp_power ..
theorem State.setQ_parts (s : State) (q st : Nat) : (s.setQ q st).parts = s.parts := by
  unfold State.setQ
  extract_lets x
  split
  · rfl
  · exact State.refreshTemp_parts ..
theorem State.setQ_g {s : State} {q st : Nat} (hq : q < 224) {f : Fld} {i : Nat} (h : f.apartFromTemps i)
    (hk : (PWR_QSTATE (q % 16)).key 0 (q / 16) ≠ f.key 0 i) : (s.setQ q st).g f i = s.g f i := by
  unfold State.setQ
  extract_lets x
  split
  · exact State.g_setG_other hk
  · exact (State.refreshTemp_g (by omega) h).trans (State.g_setG_other hk)
theorem State.setQ_qstate {s : State} {q st : Nat} (hq : q < 224) (hst : st < 4) : (s.setQ q st).qstate q = st := by
  have hw : ((s.setG (PWR_QSTATE (q % 16)) (q / 16) st)).qstate q = st := by
    refine (State.g_setG_same ..).trans (Nat.mod_eq_of_lt (Nat.lt_of_lt_of_le hst ?_))
    have : (PWR_QSTATE (q % 16)).width = 2 := by
      simp only [Fld.width, PWR_QSTATE]
      omega
    rw [this]
    decide
  unfold State.setQ
  extract_lets x
  split
  · exact hw
  · refine (State.refreshTemp_g (by omega) (Fld.apartFromTemps_of_page ?_)).trans hw
    simp only [Fld.key, Fld.offset, PWR_QSTATE, Page.code]
    omega

/-! ### A step toward the state that a quadrant is to take (Table 10-6) -/

/-- A step writes the power sequencer's own state, which keeps the failed wakes; only a powered quadrant changes its state at once, to ACTIVE or IDLE. -/
theorem State.adjustQuad_cases (s : State) (q : Nat) : ∃ a b, b.wakeFails = s.power.wakeFails ∧
    (s.adjustQuad q = { s with power := b } ∨
      s.qstate q ≠ qOff ∧ s.qstate q ≠ qRetain ∧ ∃ st, st ≤ 1 ∧ s.adjustQuad q = { ({ s with power := a } : State).setQ q st with power := b }) := by
  unfold State.adjustQuad
  extract_lets want src u cur move src' w
  have hu : ∃ a, u = { s with power := a } ∧ a.wakeFails = s.power.wakeFails := by
    unfold u
    split
    · exact ⟨_, rfl, rfl⟩
    · exact ⟨_, rfl, rfl⟩
  obtain ⟨a, hu, ha⟩ := hu
  have hcur : cur = s.qstate q := by unfold cur; rw [hu]; rfl
  have hset : ∀ st, (u.setQ q st).power.wakeFails = s.power.wakeFails := fun st => by rw [State.setQ_power, hu]; exact ha
  have hsrc : src'.wakeFails = s.power.wakeFails := by unfold src'; rw [hu]; exact ha
  have hself : ∀ x y : State, x = y → x = { y with power := x.power } := fun _ _ h => by subst h; rfl
  have hw : w = u.setQ q qIdle := rfl
  clear_value u cur src' w
  subst hu
  split
  · exact ⟨a, a, ha, .inl rfl⟩
  · split
    · exact ⟨a, a, ha, .inl rfl⟩
    · split
      · exact ⟨a, { src' with wakes := a.wakes.put q ⟨0, false, s.ptp⟩ }, hsrc, .inl rfl⟩
      · split
        · exact ⟨a, { a with moving := a.moving.put q qIdle }, ha, .inl rfl⟩
        · have h1 : s.qstate q ≠ qOff := hcur ▸ ‹¬ cur = qOff›
          have h2 : s.qstate q ≠ qRetain := hcur ▸ ‹¬ cur = qRetain›
          split
          · exact ⟨a, _, hset qActive, .inr ⟨h1, h2, qActive, by decide, hself _ _ rfl⟩⟩
          · split
            · exact ⟨a, _, hw ▸ hset qIdle, .inr ⟨h1, h2, qIdle, by decide, hself _ _ hw⟩⟩
            · exact ⟨a, { w.power with moving := w.power.moving.put q want }, hw ▸ hset qIdle, .inr ⟨h1, h2, qIdle, by decide, by rw [hw]⟩⟩

theorem State.adjustQuad_parts (s : State) (q : Nat) : (s.adjustQuad q).parts = s.parts := by
  obtain ⟨a, b, -, h | ⟨-, -, st, -, h⟩⟩ := s.adjustQuad_cases q <;> rw [h]
  exact State.setQ_parts ..
theorem State.adjustQuad_wakeFails (s : State) (q : Nat) : (s.adjustQuad q).power.wakeFails = s.power.wakeFails := by
  obtain ⟨a, b, hb, h | ⟨-, -, st, -, h⟩⟩ := s.adjustQuad_cases q <;> rw [h] <;> exact hb
theorem State.adjustQuad_g {s : State} {q : Nat} (hq : q < 224) {f : Fld} {i : Nat} (h : f.apartFromTemps i)
    (hk : (PWR_QSTATE (q % 16)).key 0 (q / 16) ≠ f.key 0 i) : (s.adjustQuad q).g f i = s.g f i := by
  obtain ⟨a, b, -, e | ⟨-, -, st, -, e⟩⟩ := s.adjustQuad_cases q <;> rw [e]
  · rfl
  · exact (State.setQ_g hq h hk).trans rfl
/-- A powered quadrant stays powered. -/
theorem State.adjustQuad_powered {s : State} {q : Nat} (hq : q < 224) (h : s.qstate q ≤ 1) : (s.adjustQuad q).qstate q ≤ 1 := by
  obtain ⟨a, b, -, e | ⟨-, -, st, hst, e⟩⟩ := s.adjustQuad_cases q <;> rw [e]
  · exact h
  · exact Nat.le_trans (Nat.le_of_eq (State.setQ_qstate hq (by omega))) hst
/-- A quadrant in RETAIN or OFF stays there at once. -/
theorem State.adjustQuad_unpowered {s : State} {q : Nat} (h : s.qstate q = qOff ∨ s.qstate q = qRetain) : (s.adjustQuad q).qstate q = s.qstate q := by
  obtain ⟨a, b, -, e | ⟨h1, h2, st, hst, e⟩⟩ := s.adjustQuad_cases q
  · rw [e]; rfl
  · exact absurd h (not_or.2 ⟨h1, h2⟩)

theorem State.finishStart_of_none {s : State} {p : Nat} (h : (s.part p).starting = none) : s.finishStart p = s := by
  unfold State.finishStart
  rw [h]

/-- Where no partition is starting, an arrival is the new state and a step toward the state that the quadrant is to take. -/
theorem State.arrived_eq {s : State} (hn : ∀ p, (s.part p).starting = none) (q st : Nat) : s.arrived q st = ((s.setQ q st).coolQuad q).adjustQuad q := by
  unfold State.arrived
  extract_lets u
  have hp : ∀ p, u.part p = s.part p := fun p => by
    unfold State.part
    rw [show u.parts = s.parts from (State.adjustQuad_parts ..).trans (State.setQ_parts ..)]
  split
  · exact State.finishStart_of_none (by rw [hp]; exact hn _)
  · rfl
theorem State.arrived_powered {s : State} {q st : Nat} (hq : q < 224) (hst : st ≤ 1) (hn : ∀ p, (s.part p).starting = none) : (s.arrived q st).qstate q ≤ 1 := by
  rw [State.arrived_eq hn]
  exact State.adjustQuad_powered hq (Nat.le_trans (Nat.le_of_eq (State.setQ_qstate hq (by omega))) hst)
theorem State.arrived_unpowered {s : State} {q st : Nat} (hq : q < 224) (hst : st = qOff ∨ st = qRetain) (hn : ∀ p, (s.part p).starting = none) :
    (s.arrived q st).qstate q = st := by
  have hq' : ((s.setQ q st).coolQuad q).qstate q = st := State.setQ_qstate hq (by rcases hst with rfl | rfl <;> decide)
  rw [State.arrived_eq hn, State.adjustQuad_unpowered (by rwa [hq']), hq']
theorem State.arrived_wakeFails {s : State} {q st : Nat} (hn : ∀ p, (s.part p).starting = none) : (s.arrived q st).power.wakeFails = s.power.wakeFails := by
  rw [State.arrived_eq hn, State.adjustQuad_wakeFails]
  exact congrArg PowerSt.wakeFails (State.setQ_power ..)

theorem PartsMarked.starting {a s : State} (h : PartsMarked a s) (hn : ∀ p, (a.part p).starting = none) (p : Nat) : (s.part p).starting = none := by
  obtain ⟨b, hb⟩ := h.part p
  rw [hb]
  exact hn p

theorem State.emptyBanks_parts (s : State) (inQ : Nat → Bool) : (s.emptyBanks inQ).parts = s.parts := rfl
theorem State.loseQuad_starting {s : State} (hn : ∀ p, (s.part p).starting = none) (q p : Nat) : ((s.loseQuad q).part p).starting = none := by
  unfold State.loseQuad
  extract_lets inQ u bankOut posOut c src v
  have hv : ∀ p, v.part p = s.part p := fun _ => rfl
  split
  · rename_i o _
    split
    · by_cases h : o = p
      · subst h
        rw [State.part_updPart_same, hv]
        exact hn o
      · rw [State.part_updPart_other h, hv]
        exact hn p
    · rw [hv]
      exact hn p
  · rw [hv]
    exact hn p

theorem quadrantTransitionDone_arrives {q : Quad} {up : List (Fin 256 × Fin 1024 × Fin 64 × Fin 72)} {s : State} (hn : ∀ p, (s.part p).starting = none) {st : Nat}
    (hw : s.power.wakes.get? q.val = none) (hm : s.power.moving.get? q.val = some st) (hst : st = qOff ∨ st = qRetain ∨ st = qIdle) :
    ∃ u, exec (.quadrantTransitionDone q up) s = .next u ∧ if st = qIdle then u.qstate q.val ≤ 1 else u.qstate q.val = st := by
  have hq := q.isLt
  rcases hst with rfl | rfl | rfl
  · refine ⟨_, by simp only [exec, execQuadrantTransitionDone, hw, hm, if_true]; rfl, ?_⟩
    exact State.arrived_unpowered hq (.inl rfl) (State.loseQuad_starting (s := { s with power := { s.power with moving := s.power.moving.del q.val } }) hn q.val)
  · refine ⟨_, by simp only [exec, execQuadrantTransitionDone, hw, hm, qOff, qRetain, qIdle]; rfl, ?_⟩
    exact State.arrived_unpowered hq (.inr rfl) hn
  · refine ⟨_, by simp only [exec, execQuadrantTransitionDone, hw, hm, qOff, qIdle]; rfl, ?_⟩
    rw [if_pos rfl]
    refine State.arrived_powered hq (by decide) (PartsMarked.starting ?_ hn)
    refine foldl_partsMarked (fun a t h => State.scrubTile_partsMarked h) ?_
    exact foldl_partsMarked (fun a u h => State.upset_partsMarked h) (PartsMarked.refl.same (Eq.refl _))

/-! ### Wakes (R262 to R264) -/

theorem State.readAmps_power (s : State) (l : List (Site × Fin 65536)) : (s.readAmps l).power = s.power :=
  foldl_keep (f := fun (s : State) (e : Site × Fin 65536) => s.setG PWR_SCUR_I e.1.val e.2.val) State.power (fun _ _ => rfl) l s
theorem State.readAmps_ptp (s : State) (l : List (Site × Fin 65536)) : (s.readAmps l).ptp = s.ptp :=
  foldl_keep (f := fun (s : State) (e : Site × Fin 65536) => s.setG PWR_SCUR_I e.1.val e.2.val) State.ptp (fun _ _ => rfl) l s
theorem State.readAmps_wait (s : State) (l : List (Site × Fin 65536)) : (s.readAmps l).g PWR_WAKE_WAIT_US 0 = s.g PWR_WAKE_WAIT_US 0 := by
  refine foldl_keep (fun s : State => s.g PWR_WAKE_WAIT_US 0) (fun a e => State.g_setG_other ?_) l s
  simp only [Fld.key, Fld.offset, PWR_WAKE_WAIT_US, PWR_SCUR_I, Page.code]
  omega

theorem State.beginWake_wakes (s : State) (q : Nat) (slow : Bool) : (s.beginWake q slow).power.wakes.get? q = some ⟨1, slow, s.ptp⟩ := by
  unfold State.beginWake
  extract_lets src u
  split
  · rw [show (State.pwrRecord _ _ _ _ _ _ _).power = _ from State.record_power ..]
    exact Map.get?_put_same ..
  · exact Map.get?_put_same ..

theorem wakeStart_begins {q : Quad} {amps : List (Site × Fin 65536)} {s : State} {w : WakeRun} (hw : s.power.wakes.get? q.val = some w) (h0 : w.stage = 0)
    (hr : (s.readAmps amps).wakeRoom q.val = true) (hk : w.slow = true ∨ s.g PWR_WAKE_WAIT_US 0 = 0 ∨ (s.readAmps amps).wakeQuiet q.val = true) :
    ∃ u, exec (.wakeStart q amps) s = .next u ∧
      u.power.wakes.get? q.val = some ⟨1, w.slow || decide (s.g PWR_WAKE_WAIT_US 0 = 0), s.ptp⟩ := by
  have hw' : (s.readAmps amps).power.wakes.get? q.val = some w := by rw [State.readAmps_power]; exact hw
  have hwake : ∀ b, ((s.readAmps amps).beginWake q.val b).power.wakes.get? q.val = some ⟨1, b, s.ptp⟩ := fun b => by
    rw [State.beginWake_wakes, State.readAmps_ptp]
  by_cases hc : w.slow = true ∨ s.g PWR_WAKE_WAIT_US 0 = 0
  · have hb : (w.slow || decide (s.g PWR_WAKE_WAIT_US 0 = 0)) = true := by rw [Bool.or_eq_true, decide_eq_true_eq]; exact hc
    refine ⟨_, ?_, (hwake true).trans (by rw [hb])⟩
    simp [exec, execWakeStart, hw', h0, hr, State.readAmps_wait, hc]
  · have hb : (w.slow || decide (s.g PWR_WAKE_WAIT_US 0 = 0)) = false := by rw [Bool.eq_false_iff, ne_eq, Bool.or_eq_true, decide_eq_true_eq]; exact hc
    have hquiet : (s.readAmps amps).wakeQuiet q.val = true := (hk.resolve_left fun h => hc (.inl h)).resolve_left fun h => hc (.inr h)
    refine ⟨_, ?_, (hwake false).trans (by rw [hb])⟩
    simp [exec, execWakeStart, hw', h0, hr, State.readAmps_wait, hc, hquiet]

theorem State.impairQuad_power (s : State) (q : Nat) : (s.impairQuad q).power = s.power := by
  unfold State.impairQuad
  extract_lets u v
  rw [State.record_power]
  refine foldl_keep State.power (fun a t => ?_) _ u
  rfl
theorem State.impairQuad_impaired {s : State} {q : Nat} (hq : q < 224) : (s.impairQuad q).impaired q = true := by
  unfold State.impairQuad
  extract_lets u v
  have hu : u.impaired q = true := by
    show bitAt (u.g RST_QIMP_IMPAIRED (q / 32)) (q % 32) = true
    rw [State.g_setG_same]
    exact (bitAt_mod (show q % 32 < 32 by omega) _).trans (bitAt_setBit_same ..)
  have hv : v.g RST_QIMP_IMPAIRED (q / 32) = u.g RST_QIMP_IMPAIRED (q / 32) := by
    refine foldl_keep (fun a : State => a.g RST_QIMP_IMPAIRED (q / 32)) (fun a t => ?_) _ _
    unfold State.g
    rw [State.reg_setReg_other, State.reg_setReg_other]
    all_goals
      simp only [Fld.key, Fld.offset, RST_QIMP_IMPAIRED, SEQ_STATUS_FENCED, RTR_STATUS_FENCED, Page.code]
      omega
  have happ : RST_QIMP_IMPAIRED.apartFromRecords 0 (q / 32) := by
    refine ⟨fun fn => ?_, fun c hc => ?_⟩ <;>
      · simp only [Fld.key, Fld.offset, INT_STATUS_STATUS, ERR_CCOUNT_COUNT, RST_QIMP_IMPAIRED, Page.code]
        omega
  have hrec : (v.record { code := 0x4045, unit := 15, tile := some ((tilesOfQuad q).getD 0 0), part := v.quadOwner q }).g RST_QIMP_IMPAIRED (q / 32) =
      v.g RST_QIMP_IMPAIRED (q / 32) := State.record_reg_apart happ ..
  show bitAt (State.g _ RST_QIMP_IMPAIRED (q / 32)) (q % 32) = true
  rw [hrec, hv]
  exact hu

theorem quadrantTransitionDone_wakes {q : Quad} {up : List (Fin 256 × Fin 1024 × Fin 64 × Fin 72)} {s : State} (hn : ∀ p, (s.part p).starting = none) {w : WakeRun}
    (hw : s.power.wakes.get? q.val = some w) (h4 : w.stage = 4) (ha : s.alertOn = false) :
    ∃ u, exec (.quadrantTransitionDone q up) s = .next u ∧ u.qstate q.val ≤ 1 ∧ u.power.wakeFails.has q.val = false := by
  let x : State := { s with power := { s.power with wakes := s.power.wakes.del q.val, wakeFails := s.power.wakeFails.del q.val } }
  have hx : ∀ p, (x.part p).starting = none := hn
  refine ⟨x.arrived q.val qIdle, ?_, State.arrived_powered q.isLt (by decide) hx, ?_⟩
  · simp only [exec, execQuadrantTransitionDone, hw, h4, ha, ne_eq, not_true_eq_false, decide_false, Bool.or_self, Bool.false_eq_true, if_false]
    rfl
  rw [State.arrived_wakeFails hx]
  exact Map.has_del_same ..

theorem wakeWaitExpiry_begins {q : Quad} {s : State} {w : WakeRun} (hw : s.power.wakes.get? q.val = some w) (h0 : w.stage = 0)
    (ht : w.since + 1000 * s.g PWR_WAKE_WAIT_US 0 ≤ s.ptp) (hr : s.wakeRoom q.val = true) :
    ∃ u, exec (.wakeWaitExpiry q) s = .next u ∧ u.power.wakes.get? q.val = some ⟨1, true, s.ptp⟩ := by
  refine ⟨_, ?_, State.beginWake_wakes s q.val true⟩
  simp only [exec, execWakeWaitExpiry, hw, h0, ht, hr, decide_true, Bool.and_self, if_true]

theorem wakeFail_gives_up {q : Quad} {s : State} {w : WakeRun} (hw : s.power.wakes.get? q.val = some w) (h1 : 1 ≤ w.stage) (ha : s.alertOn = false)
    (ht : w.since + 4 * wakeTime w.stage w.slow ≤ s.ptp) : ∃ u, exec (.wakeFail q) s = .next u ∧ u.power.wakes.has q.val = false ∧
      u.power.wakeFails.get? q.val = some s.ptp ∧ (s.power.wakeFails.has q.val = true → u.impaired q.val = true) := by
  let x : State := ({ s with power := { s.power with wakes := s.power.wakes.del q.val, wakeFails := s.power.wakeFails.put q.val s.ptp } }).pwrRecord 0x5032
    (q.val / 4) (q.val % 4) 0 0 none
  have hx : x.power = { s.power with wakes := s.power.wakes.del q.val, wakeFails := s.power.wakeFails.put q.val s.ptp } := State.record_power ..
  have hpower : (if s.power.wakeFails.has q.val then x.impairQuad q.val else x).power = x.power := by
    split
    · exact State.impairQuad_power ..
    · rfl
  refine ⟨if s.power.wakeFails.has q.val then x.impairQuad q.val else x, ?_, ?_, ?_, fun hf => ?_⟩
  · simp only [exec, execWakeFail, hw, h1, ha, ht, decide_true, Bool.not_false, Bool.and_self, if_true]
    rfl
  · rw [hpower, hx]
    exact Map.has_del_same ..
  · rw [hpower, hx]
    exact Map.get?_put_same ..
  · rw [if_pos hf]
    exact State.impairQuad_impaired q.isLt

theorem quadrantPowerRequest_stores {path : Path} {q : Quad} {r : Fin 4} {s : State} (ho : pageOpen s path false true = true) (hr : r.val ≠ 0)
    (hb : ∀ p, s.quadOwner q.val = some p → s.busyPart p = false) : ∃ u, exec (.quadrantPowerRequest path q r) s = .next u ∧ u.qreq q.val = r.val := by
  have hq := q.isLt
  refine ⟨s.writeQreq path q.val r.val, pageWrite_runs (pg := .pwr) (act := fun s => s.writeQreq path q.val r.val) ho, ?_⟩
  have hset : (((s.setG (PWR_QREQ (q.val % 16)) (q.val / 16) r.val).coolQuad q.val).adjustQuad q.val).qreq q.val = r.val := by
    refine (State.adjustQuad_g hq (Fld.apartFromTemps_of_page ?_) ?_).trans ((State.g_setG_same ..).trans (Nat.mod_eq_of_lt (Nat.lt_of_lt_of_le r.isLt ?_)))
    · simp only [Fld.key, Fld.offset, PWR_QREQ, Page.code]
      omega
    · simp only [Fld.key, Fld.offset, PWR_QREQ, PWR_QSTATE, Page.code]
      omega
    · have : (PWR_QREQ (q.val % 16)).width = 2 := by
        simp only [Fld.width, PWR_QREQ]
        omega
      rw [this]
      decide
  unfold State.writeQreq
  rw [if_neg hr]
  split
  · assumption
  · cases howner : s.quadOwner q.val with
    | none => exact hset
    | some p =>
      simp only [hb p howner, Bool.false_eq_true, if_false]
      exact hset

/-- Settles O49: an arrival is followed by one step toward the wanted state, which leaves a powered quadrant powered; wakes are read off their own entry. -/
theorem quadrantsChangeTheirState : Obligations.QuadrantsChangeTheirState := by
  unfold Obligations.QuadrantsChangeTheirState
  refine ⟨fun path q r s ho hr hb => quadrantPowerRequest_stores ho hr hb,
    fun q up s hn => ⟨fun st hw hm hst => quadrantTransitionDone_arrives hn hw hm hst, fun w hw h4 ha => quadrantTransitionDone_wakes hn hw h4 ha⟩,
    fun q amps s w hw h0 hr hk => wakeStart_begins hw h0 hr hk,
    fun q s w hw => ⟨fun h0 ht hr => wakeWaitExpiry_begins hw h0 ht hr, fun mv h1 h3 ha hv => ?_, fun h1 ha ht => wakeFail_gives_up hw h1 ha ht⟩,
    fun q s t hf ht hi hw hq => ?_⟩
  · refine ⟨_, by simp only [exec, execWakeStageAdvance, hw, h1, h3, ha, hv, decide_true, Bool.not_false, Bool.and_self, if_true]; rfl, ?_⟩
    exact Map.get?_put_same ..
  · refine ⟨_, by simp only [exec, execWakeRetry, hf, ht, hi, hw, hq, decide_true, Bool.not_false, Bool.and_self, if_true]; rfl, ?_⟩
    exact Map.get?_put_same ..

end Sys2Proof.Machine
end

section
/-! PROOF. Thermal resistances, monitors, the forecast and the warming load (11 R281 to R283, R289, R290): O51. -/

namespace Sys2Proof.Machine

open Sys2Proof Sys2Proof.Safety

/-! ### Thermal resistance (R282, R283) -/

theorem State.judgeTheta_theta (s : State) (site : Nat) : (s.judgeTheta site).thermal.theta = s.thermal.theta := by
  unfold State.judgeTheta
  extract_lets z z' was now src u w v x
  split
  · exact (congrArg ThermalSt.theta (State.record_thermal ..)).trans rfl
  · rfl

/-- θ_s after a sample stands as it was put, whatever the judgement records. -/
theorem State.setTheta_theta (s : State) (site v : Nat) : (s.setTheta site v).thermal.theta = s.thermal.theta.put site v := by
  unfold State.setTheta
  rw [State.judgeTheta_theta]
  rfl

theorem State.refreshSite_thermal (s : State) (site : Nat) : (s.refreshSite site).thermal = s.thermal := rfl

theorem thetaUpdate_filters {site : Site} {watts : Fin 65536} {s : State} (hw : 150 ≤ watts.val)
    (hoff : bitAt (s.g THM_RGSTATE_OFF 0) (regionOfSite site.val) = false) (hst : s.flag THM_STEMP_STALE 0 site.val = false) :
    ∃ u, exec (.thetaUpdate site watts true) s = .next u ∧ u.theta site.val = ((99 * (s.theta site.val : Int) +
      ((5 * s.g THM_STEMP_TS site.val : Nat) - (s.g THM_COOL_T_IN 0 : Nat) : Int) * 50000 / (watts.val : Int)) / 100).toNat := by
  have hc : ¬ (decide (watts.val < 150) || !true || bitAt (s.g THM_RGSTATE_OFF 0) (regionOfSite site.val) || s.flag THM_STEMP_STALE 0 site.val) = true := by
    rw [hoff, hst, decide_eq_false (Nat.not_lt.2 hw)]
    decide
  refine ⟨_, if_neg hc, ?_⟩
  rw [State.theta, State.refreshSite_thermal, State.setTheta_theta]
  exact Map.get_put_same ..

/-- The two resistances that a site shows. -/
def State.thetaView (s : State) (site : Nat) : Nat × Nat := (s.g THM_STHETA_BASE site, s.g THM_STHETA_THETA site)
theorem State.rebase_base (s : State) (site : Site) : s.rebase.g THM_STHETA_BASE site.val = s.g THM_STHETA_THETA site.val := by
  have hkeep : ∀ (a : State) (x : Nat), x ≠ site.val → (a.setG THM_STHETA_BASE x (a.g THM_STHETA_THETA x)).thetaView site.val = a.thetaView site.val :=
    fun a x hx => by
      unfold State.thetaView
      rw [State.g_setG_other, State.g_setG_other]
      all_goals
        simp only [Fld.key, Fld.offset, THM_STHETA_BASE, THM_STHETA_THETA, Page.code]
        omega
  obtain ⟨a, ha, hres⟩ := foldl_step_at (fun a : State => a.thetaView site.val) hkeep (List.nodup_range (n := 56)) (List.mem_range.2 site.isLt) s
  refine (congrArg Prod.fst hres).trans ((State.g_setG_same ..).trans ?_)
  exact (Nat.mod_eq_of_lt (Nat.mod_lt _ (Nat.two_pow_pos 16))).trans (congrArg Prod.snd ha)

/-! ### Monitors (R281) -/

theorem State.refreshTemp_failedMon (s : State) (site : Nat) : (s.refreshTemp site).thermal.failedMon = s.thermal.failedMon := by
  unfold State.refreshTemp State.judgeOver
  extract_lets ts
  split <;> rfl

theorem monitorStaleTimeout_fails {base : Bool} {t : Tile} {s : State} {q k : Nat} (hq : q = if base then t.val % 224 else quadOf t.val)
    (hk : k = if base then baseMon q else t.val) (hs : s.thermal.staleMon.mem k = true) (hp : s.qstate q ≤ 1) :
    ∃ u, exec (.monitorStaleTimeout base t) s = .next u ∧ u.thermal.failedMon.mem k = true := by
  by_cases hf : s.thermal.failedMon.mem k = true
  · refine ⟨s, if_neg ?_, hf⟩
    rw [← hq, ← hk, hf, Bool.not_true, Bool.and_false]
    exact Bool.false_ne_true
  · refine ⟨_, if_pos ?_, ?_⟩
    · rw [← hq, ← hk, hs, Bool.eq_false_iff.2 hf, decide_eq_true (show s.qstate q ≤ qIdle from hp)]
      rfl
    · rw [show (State.thmRecord _ _ _ _ _).thermal = _ from State.record_thermal .., State.refreshTemp_failedMon, ← hq, ← hk]
      exact NatSet.mem_add_same ..

/-! ### The forecast (R289) -/

theorem State.scaleEst_regs (s : State) (p v : Nat) : (s.scaleEst p v).2.regs = s.regs := by
  unfold State.scaleEst
  split <;> rfl
theorem State.forecastPart_regs (s : State) (p sec : Nat) : (s.forecastPart p sec).2.2.regs = s.regs := by
  unfold State.forecastPart
  extract_lets src e ls n st m g
  have h1 : st.2.regs = s.regs := State.scaleEst_regs ..
  clear_value st
  have h2 : m.2.regs = st.2.regs := State.scaleEst_regs ..
  clear_value m
  have h3 : g.2.regs = m.2.regs := State.scaleEst_regs ..
  clear_value g
  exact h3.trans (h2.trans h1)

/-- A horizon's figures lie within the ramps of the input power, and no other field moves. -/
theorem State.forecast_bounds (s : State) (i sec : Nat) (changes : List (Part × Bool × Fin 60001)) :
    (s.forecast i sec changes).g THM_FCST_MEAN_W i ≤ s.g PWR_IN_P_PIN_W 0 + 100 * sec * s.g THM_RAMP_RAMP_UP 0 ∧
    s.g PWR_IN_P_PIN_W 0 - 100 * sec * s.g THM_RAMP_RAMP_DN 0 ≤ (s.forecast i sec changes).g THM_FCST_MEAN_W i ∧
    (s.forecast i sec changes).g THM_FCST_MAX_W i ≤ s.g PWR_IN_P_PIN_W 0 + 100 * sec * s.g THM_RAMP_RAMP_UP 0 ∧
    ∀ (f : Fld) (j : Nat), THM_FCST_MEAN_W.key 0 i ≠ f.key 0 j → THM_FCST_MAX_W.key 0 i ≠ f.key 0 j → (s.forecast i sec changes).g f j = s.g f j := by
  unfold State.forecast
  generalize upTo 64 = l
  extract_lets x u rest now lim bound
  have hu : u.regs = s.regs := by
    refine foldl_keep (fun a : Frac × Frac × State => a.2.2.regs) (fun a p => ?_) l (Frac.zero, Frac.zero, s)
    extract_lets c run f share
    have hf : f.2.2.regs = a.2.2.regs := State.forecastPart_regs ..
    clear_value f share run c
    split
    · exact hf
    · rfl
  have hg : ∀ (f : Fld) (j : Nat), u.g f j = s.g f j := fun f j => by unfold State.g State.reg; rw [hu]
  have hnow : now < 65536 := Nat.mod_lt _ (Nat.two_pow_pos 16)
  have hb : ∀ f, bound f ≤ 65535 ∧ bound f ≤ now + 100 * sec * u.g THM_RAMP_RAMP_UP 0 ∧ now - 100 * sec * u.g THM_RAMP_RAMP_DN 0 ≤ bound f := fun f => by
    have : bound f ≤ 65535 ∧ bound f ≤ now + 100 * sec * u.g THM_RAMP_RAMP_UP 0 ∧ now - 100 * sec * u.g THM_RAMP_RAMP_DN 0 ≤ bound f := by
      unfold bound
      extract_lets w
      generalize 100 * sec * u.g THM_RAMP_RAMP_UP 0 = a
      generalize 100 * sec * u.g THM_RAMP_RAMP_DN 0 = b
      omega
    exact this
  have hn : now = s.g PWR_IN_P_PIN_W 0 := hg ..
  rw [hg, hg, hn] at hb
  clear_value bound
  have hmean : ((u.setG THM_FCST_MEAN_W i (bound x.1)).setG THM_FCST_MAX_W i (bound x.2.1)).g THM_FCST_MEAN_W i = bound x.1 := by
    rw [State.g_setG_other (by simp only [Fld.key, Fld.offset, THM_FCST_MEAN_W, THM_FCST_MAX_W, Page.code]; omega), State.g_setG_same]
    exact Nat.mod_eq_of_lt (Nat.lt_succ_of_le (hb x.1).1)
  have hmax : ((u.setG THM_FCST_MEAN_W i (bound x.1)).setG THM_FCST_MAX_W i (bound x.2.1)).g THM_FCST_MAX_W i = bound x.2.1 := by
    rw [State.g_setG_same]
    exact Nat.mod_eq_of_lt (Nat.lt_succ_of_le (hb x.2.1).1)
  refine ⟨?_, ?_, ?_, fun f j h1 h2 => ?_⟩
  · rw [hmean]; exact (hb _).2.1
  · rw [hmean]; exact (hb _).2.2
  · rw [hmax]; exact (hb _).2.1
  · rw [State.g_setG_other h2, State.g_setG_other h1, hg]

theorem forecastUpdate_bounds (changes : List (Part × Bool × Fin 60001)) (s : State) : ∃ u, exec (.forecastUpdate changes) s = .next u ∧
    ∀ i sec, (i, sec) ∈ [(0, 1), (1, 10), (2, 60)] →
      u.g THM_FCST_MEAN_W i ≤ s.g PWR_IN_P_PIN_W 0 + 100 * sec * s.g THM_RAMP_RAMP_UP 0 ∧
      s.g PWR_IN_P_PIN_W 0 - 100 * sec * s.g THM_RAMP_RAMP_DN 0 ≤ u.g THM_FCST_MEAN_W i ∧
      u.g THM_FCST_MAX_W i ≤ s.g PWR_IN_P_PIN_W 0 + 100 * sec * s.g THM_RAMP_RAMP_UP 0 := by
  obtain ⟨a1, a2, a3, ka⟩ := s.forecast_bounds 0 1 changes
  obtain ⟨b1, b2, b3, kb⟩ := (s.forecast 0 1 changes).forecast_bounds 1 10 changes
  obtain ⟨c1, c2, c3, kc⟩ := ((s.forecast 0 1 changes).forecast 1 10 changes).forecast_bounds 2 60 changes
  refine ⟨_, rfl, fun i sec h => ?_⟩
  simp only [List.mem_cons, Prod.mk.injEq, List.not_mem_nil, or_false] at h
  rcases h with ⟨rfl, rfl⟩ | ⟨rfl, rfl⟩ | ⟨rfl, rfl⟩
  · rw [kc _ _ (by decide) (by decide), kc _ _ (by decide) (by decide), kb _ _ (by decide) (by decide), kb _ _ (by decide) (by decide)]
    exact ⟨a1, a2, a3⟩
  · rw [kc _ _ (by decide) (by decide), kc _ _ (by decide) (by decide)]
    rw [ka _ _ (by decide) (by decide), ka _ _ (by decide) (by decide)] at b1 b3
    rw [ka _ _ (by decide) (by decide), ka _ _ (by decide) (by decide)] at b2
    exact ⟨b1, b2, b3⟩
  · rw [kb _ _ (by decide) (by decide), kb _ _ (by decide) (by decide), ka _ _ (by decide) (by decide), ka _ _ (by decide) (by decide)] at c1 c2 c3
    exact ⟨c1, c2, c3⟩

/-! ### Keeping warm (R290) -/

theorem mem_foldl_add (l : List Nat) (q : Nat) : ∀ m : NatSet, (l.foldl (fun (m : NatSet) q => m.add q) m).mem q = (m.mem q || l.contains q) := by
  induction l with
  | nil => intro m; simp
  | cons a l ih =>
    intro m
    rw [List.foldl_cons, ih, NatSet.mem_add, List.contains_cons]
    by_cases h : a = q
    · simp [h]
    · have hqa : (q == a) = false := beq_eq_false_iff_ne.2 (Ne.symm h)
      rw [decide_eq_false h, hqa, Bool.false_or, Bool.false_or]

theorem warmingRotate_carries (quads : List Quad) (w : Fin 61) (s : State) : ∃ u, exec (.warmingRotate quads w) s = .next u ∧
    u.g THM_STATUS_FLOOR_SHORT 0 = b2n (decide (s.boot = 4) && decide (s.g PWR_IN_P_PIN_W 0 < s.g THM_FLOOR_FLOOR_W 0)) ∧
    ∀ q : Quad, u.thermal.warming.mem q.val = (!s.alertOn && decide (s.boot = 4) && decide (0 < s.g THM_FLOOR_FLOOR_W 0) &&
      (((quads.map (·.val)).filter s.mayWarm).take (s.warmRoom (w.val / 5 * 5))).contains q.val) := by
  show ∃ u, execWarmingRotate quads w s = .next u ∧ _
  unfold execWarmingRotate
  extract_lets on w' l src x short rec_ src2 v
  have hv : v.g THM_STATUS_FLOOR_SHORT 0 = b2n short := (State.g_setG_same ..).trans (by cases short <;> rfl)
  have hx : ∀ q : Nat, x.thermal.warming.mem q = (l.take (s.warmRoom w')).contains q := fun q => (mem_foldl_add ..).trans (Bool.false_or _)
  refine ⟨_, rfl, ?_, fun q => ?_⟩
  · split
    · exact (State.record_g rfl (by decide) (by decide)).trans hv
    · exact hv
  · have hout : (if rec_ then v.thmRecord 0x6011 63 63 15 else v).thermal.warming = x.thermal.warming := by
      split
      · exact (congrArg ThermalSt.warming (State.record_thermal ..)).trans rfl
      · rfl
    rw [hout, hx]
    have hon : on = (!s.alertOn && decide (s.boot = 4) && decide (0 < s.g THM_FLOOR_FLOOR_W 0)) := rfl
    rw [← hon]
    unfold l
    cases on with
    | true => rfl
    | false => simp

/-- Settles O51: each figure is read off the update that writes it last. -/
theorem heatIsMeasured : Obligations.HeatIsMeasured := by
  unfold Obligations.HeatIsMeasured
  refine ⟨fun site watts s hw hoff hst => thetaUpdate_filters hw hoff hst,
    fun path s ho => ⟨s.rebase, pageWrite_runs (pg := .thm) (act := State.rebase) ho, fun site => State.rebase_base s site⟩,
    fun t s => ⟨fun hs hp => monitorStaleTimeout_fails rfl rfl hs hp, fun hs hp => monitorStaleTimeout_fails rfl rfl hs hp⟩,
    fun changes s => forecastUpdate_bounds changes s, fun quads w s => warmingRotate_carries quads w s⟩

end Sys2Proof.Machine
end

section
/-! PROOF. Junction, stack, coolant and leak protections, and regions off for heat (11 R286 to R288, R292, R294): O52. -/

namespace Sys2Proof.Machine

open Sys2Proof Sys2Proof.Safety

theorem foldl_keep_mem {α β γ : Type} {f : α → β → α} (g : α → γ) : ∀ (l : List β) (_ : ∀ a, ∀ b ∈ l, g (f a b) = g a) (a : α), g (l.foldl f a) = g a
  | [], _, _ => rfl
  | b :: l, h, a => (foldl_keep_mem g l (fun a c hc => h a c (List.mem_cons_of_mem _ hc)) (f a b)).trans (h a b (List.mem_cons_self ..))

/-! ### Episodes -/

theorem State.episode_mem (s : State) (cond place code site stack : Nat) : (s.episode cond place code site stack).thermal.episodes.mem (epKey cond place) = true := by
  unfold State.episode
  split
  · assumption
  · exact (congrArg (fun x : ThermalSt => x.episodes.mem (epKey cond place)) (State.record_thermal ..)).trans (NatSet.mem_add_same ..)
/-- An episode keeps of the thermal state all but the list of episodes. -/
theorem State.episode_thermal {β : Type} (s : State) (cond place code site stack : Nat) (f : ThermalSt → β) (hf : ∀ x e, f { x with episodes := e } = f x) :
    f (s.episode cond place code site stack).thermal = f s.thermal := by
  unfold State.episode
  split
  · rfl
  · exact (congrArg f (State.record_thermal ..)).trans (hf ..)
theorem State.episode_power (s : State) (cond place code site stack : Nat) : (s.episode cond place code site stack).power = s.power := by
  unfold State.episode
  split
  · rfl
  · exact State.record_power ..
theorem State.episode_parts (s : State) (cond place code site stack : Nat) : (s.episode cond place code site stack).parts = s.parts := by
  unfold State.episode
  split
  · rfl
  · exact State.record_parts rfl
theorem State.episode_g {s : State} {cond place code site stack : Nat} {f : Fld} {i : Nat} (h1 : f.key 0 i / 2 ^ 33 ≠ Page.int.code)
    (h2 : f.key 0 i / 2 ^ 33 ≠ Page.err.code) : (s.episode cond place code site stack).g f i = s.g f i := by
  unfold State.episode
  split
  · rfl
  · exact State.record_g rfl h1 h2

/-! ### Junctions (R286) -/

/-- What the slowing of a hot site's partitions reads and writes of one partition. -/
def State.hotView (s : State) (p : Nat) : Nat × Nat × PartSt := (s.g CSD_PSTRETCH_FACTOR p, s.pstate p, s.part p)
/-- The step of one partition. -/
def State.stretchAt (s : State) (site p : Nat) : State := if s.runs p && (s.partSites p).contains site then s.setG CSD_PSTRETCH_FACTOR p 64 else s

theorem State.stretchAt_view_other {s : State} {site p q : Nat} (h : q ≠ p) (hp : p < 64) (hq : q < 64) : (s.stretchAt site q).hotView p = s.hotView p := by
  unfold State.stretchAt State.hotView State.pstate
  split
  · rw [State.g_setG_other, State.g_setG_other]
    · rfl
    all_goals
      simp only [Fld.key, Fld.offset, CSD_PSTRETCH_FACTOR, LD_PSTATE_STATE, Page.code]
      omega
  · rfl

theorem junctionHot_slows {site : Site} {s : State} (h : s.jlimit + 40 < s.g THM_STEMP_TS site.val) : ∃ u, exec (.junctionHot site) s = .next u ∧
    u.thermal.episodes.mem (epKey 1 site.val) = true ∧ u.power.hotWin.get? site.val = some 16 ∧
    ∀ p : Part, s.runs p.val = true → site.val ∈ s.partSites p.val → u.g CSD_PSTRETCH_FACTOR p.val = 64 := by
  refine ⟨s.junctionHot site.val, if_pos h, ?_, ?_, fun p hr hs => ?_⟩
  · unfold State.junctionHot
    generalize upTo 64 = l
    refine (congrArg (fun x : ThermalSt => x.episodes.mem _) (foldl_keep State.thermal (fun a p => ?_) l _)).trans (State.episode_mem ..)
    split <;> rfl
  · unfold State.junctionHot
    generalize upTo 64 = l
    refine (congrArg (fun x : PowerSt => x.hotWin.get? _) (foldl_keep State.power (fun a p => ?_) l _)).trans (Map.get?_put_same ..)
    split <;> rfl
  · unfold State.junctionHot
    extract_lets e src u
    have hp := p.isLt
    have hfold : (upTo 64).foldl (fun (s : State) p => if s.runs p && (s.partSites p).contains site.val then s.setG CSD_PSTRETCH_FACTOR p 64 else s) u =
        (upTo 64).foldl (fun a q => if q < 64 then State.stretchAt a site.val q else a) u :=
      foldl_eq_of_mem (fun a q hq => by rw [if_pos (List.mem_range.1 hq)]; rfl) _
    have hkeep : ∀ (a : State) (q : Nat), q ≠ p.val → (if q < 64 then State.stretchAt a site.val q else a).hotView p.val = a.hotView p.val := fun a q hq => by
      split
      · exact State.stretchAt_view_other hq hp ‹_›
      · rfl
    obtain ⟨a, ha, hres⟩ := foldl_step_at (fun a : State => a.hotView p.val) hkeep (List.nodup_range (n := 64)) (List.mem_range.2 hp) u
    rw [hfold]
    rw [if_pos hp] at hres
    refine (congrArg Prod.fst hres).trans ?_
    have hu : u.hotView p.val = (u.g CSD_PSTRETCH_FACTOR p.val, s.pstate p.val, s.part p.val) := by
      refine Prod.ext rfl (Prod.ext ?_ ?_)
      · refine State.episode_g ?_ ?_ <;> (simp only [Fld.key, Fld.offset, LD_PSTATE_STATE, Page.code]; omega)
      · show Map.get (State.parts _) _ _ = _
        rw [show u.parts = s.parts from State.episode_parts ..]
        rfl
    rw [hu] at ha
    have hst : a.pstate p.val = s.pstate p.val := congrArg (fun x => x.2.1) ha
    have hpt : a.part p.val = s.part p.val := congrArg (fun x => x.2.2) ha
    have hc : (a.runs p.val && (a.partSites p.val).contains site.val) = true := by
      unfold State.runs at hr ⊢
      unfold State.partSites State.partQuads at hs ⊢
      rw [hst, hpt, hr, Bool.true_and]
      exact List.contains_iff_mem.2 hs
    show (a.stretchAt site.val p.val).g CSD_PSTRETCH_FACTOR p.val = 64
    unfold State.stretchAt
    rw [if_pos hc]
    exact State.g_setG_same ..

theorem State.dropQuad_darkWhy (s : State) (q : Nat) : (s.dropQuad q).power.darkWhy = s.power.darkWhy := by
  unfold State.dropQuad
  extract_lets src u
  have hl : (u.loseQuad q).power = u.power := by
    unfold State.loseQuad
    extract_lets inQ v bankOut posOut c src w
    split
    · split <;> rfl
    · rfl
  split
  · rfl
  · rw [State.setQ_power, hl]
theorem State.goDark_darkWhy_same (s : State) {site : Nat} (why : Nat) (h : s.power.darkWhy.has site = false) :
    (s.goDark site why).power.darkWhy.get? site = some why := by
  unfold State.goDark
  rw [h, if_neg Bool.false_ne_true]
  extract_lets u src src' v
  rw [State.refreshSite_power, foldl_keep (fun a : State => a.power.darkWhy) (fun a k => State.dropQuad_darkWhy ..)]
  exact Map.get?_put_same ..

theorem State.readDiode_power (s : State) (t v : Nat) : (s.readDiode t v).power = s.power := by
  unfold State.readDiode
  split
  · rfl
  · exact State.refreshTemp_power ..
theorem State.readDiode_g {s : State} {t v : Nat} (ht : t < 57344) {f : Fld} {i : Nat} (h : f.apartFromTemps i) : (s.readDiode t v).g f i = s.g f i := by
  unfold State.readDiode
  split
  · rfl
  · exact State.refreshTemp_g (by unfold siteOf; omega) h

theorem rgstate_apartFromTemps : THM_RGSTATE_OFF.apartFromTemps 0 := by
  refine fun site hs => ⟨?_, ?_, ?_⟩ <;>
    · simp only [Fld.key, Fld.offset, THM_STEMP_TS, THM_STEMP_MAX_SEEN, THM_STEMP_STALE, THM_RGSTATE_OFF]
      omega
theorem rgreq_apartFromTemps : THM_RGREQ_REQ.apartFromTemps 0 := by
  refine fun site hs => ⟨?_, ?_, ?_⟩ <;>
    · simp only [Fld.key, Fld.offset, THM_STEMP_TS, THM_STEMP_MAX_SEEN, THM_STEMP_STALE, THM_RGREQ_REQ]
      omega

theorem junctionTrip_darkens {t : Tile} {raw : Fin 1024} {s : State} (hraw : 440 ≤ raw.val)
    (hoff : bitAt (s.g THM_RGSTATE_OFF 0) (regionOfSite (siteOf t.val)) = false) (hd : s.power.darkWhy.has (siteOf t.val) = false) :
    ∃ u, exec (.junctionTrip t raw) s = .next u ∧ u.power.darkWhy.get? (siteOf t.val) = some 2 ∧ u.thermal.episodes.mem (epKey 2 (siteOf t.val)) = true := by
  have hd' : (s.readDiode t.val raw.val).power.darkWhy.has (siteOf t.val) = false := by rw [State.readDiode_power]; exact hd
  have hc : ¬ (raw.val < 440 || bitAt ((s.readDiode t.val raw.val).g THM_RGSTATE_OFF 0) (regionOfSite (siteOf t.val)) ||
      (s.readDiode t.val raw.val).power.darkWhy.has (siteOf t.val)) = true := by
    rw [State.readDiode_g t.isLt rgstate_apartFromTemps, hoff, hd', decide_eq_false (Nat.not_lt.2 hraw)]
    exact Bool.false_ne_true
  refine ⟨_, if_neg hc, ?_, State.episode_mem ..⟩
  rw [State.episode_power]
  exact State.goDark_darkWhy_same _ 2 hd'

/-! ### The converters stop (R287) -/

theorem State.stopConverters_convOn (s : State) : s.stopConverters.power.convOn = false := by
  unfold State.stopConverters
  split
  · unfold State.allSites
    generalize upTo 56 = l
    rw [foldl_keep State.power (fun a site => State.refreshTemp_power ..)]
    unfold State.lockClocks State.setBoot
    split
    · rfl
    · exact congrArg PowerSt.convOn (State.raiseInt_only ..).power
  · exact Bool.eq_false_iff.2 ‹_›
theorem State.shutdown_stops (s : State) (cond code stack : Nat) : (s.shutdown cond code stack).power.convOn = false ∧
    (s.shutdown cond code stack).thermal.shutdown = true ∧ (s.shutdown cond code stack).thermal.episodes.mem (epKey cond 63) = true := by
  unfold State.shutdown
  extract_lets u src
  refine ⟨?_, State.episode_thermal _ _ _ _ _ _ (·.shutdown) fun _ _ => rfl, State.episode_mem ..⟩
  rw [State.episode_power]
  exact State.stopConverters_convOn s

/-- A stored field that the AON domain keeps when the converters stop. -/
theorem Map.get_keep {α : Type} (m : Map α) (q : Nat → Bool) (k : Nat) (d : α) : (m.keep (fun k _ => q k)).get k d = if q k then m.get k d else d := by
  unfold Map.get Map.keep
  simp only [lookupList_filter q m.entries k]
  split <;> rfl
theorem State.loseAll_g {s : State} {f : Fld} {i : Nat} (ha : aonPage (f.key 0 i / 32 / 4096 / 65536) = true) (hq : isQstate (f.key 0 i) = false) :
    s.loseAll.g f i = s.g f i := by
  unfold State.g State.reg
  refine congrArg (· % 2 ^ f.width) ?_
  refine (Map.get_keep s.regs (fun k => aonPage (k / 32 / 4096 / 65536) && !isQstate k) _ _).trans (if_pos ?_)
  rw [ha, hq]
  rfl
theorem State.setBoot_g {s : State} {b : Nat} {f : Fld} {i : Nat} (h1 : f.key 0 i / 2 ^ 33 ≠ Page.int.code) (h2 : f.key 0 i / 2 ^ 33 ≠ Page.err.code)
    (h3 : RST_STATE_STATE.key 0 0 ≠ f.key 0 i) : (s.setBoot b).g f i = s.g f i := by
  unfold State.setBoot
  split
  · rfl
  · exact (State.raiseInt_g (by decide) h1 h2).trans (State.g_setG_other h3)
theorem State.lockClocks_g {s : State} {b : Bool} {f : Fld} {i : Nat} (h : f.key 0 i / 2 ^ 33 ≠ Page.clk.code) : (s.lockClocks b).g f i = s.g f i := by
  unfold State.lockClocks
  rw [State.g_setG_other, State.g_setG_other, State.g_setG_other]
  all_goals
    exact fun e => h (e ▸ by decide)
theorem State.allSites_refreshTemp_g {s : State} {f : Fld} {i : Nat} (h : f.apartFromTemps i) : (s.allSites (fun s site => s.refreshTemp site)).g f i = s.g f i :=
  foldl_keep_mem (fun a : State => a.g f i) (upTo 56) (fun _ _ hb => State.refreshTemp_g (List.mem_range.1 hb) h) s
/-- A field of an AON page, other than QSTATE, the module's state, the locks and the temperatures, stays when the converters stop. -/
theorem State.stopConverters_g {s : State} {f : Fld} {i : Nat} (ha : aonPage (f.key 0 i / 32 / 4096 / 65536) = true) (hq : isQstate (f.key 0 i) = false)
    (hint : f.key 0 i / 2 ^ 33 ≠ Page.int.code) (herr : f.key 0 i / 2 ^ 33 ≠ Page.err.code) (hclk : f.key 0 i / 2 ^ 33 ≠ Page.clk.code)
    (hboot : RST_STATE_STATE.key 0 0 ≠ f.key 0 i) (ht : f.apartFromTemps i) : s.stopConverters.g f i = s.g f i := by
  unfold State.stopConverters
  split
  · rw [State.allSites_refreshTemp_g ht, State.lockClocks_g hclk, State.setBoot_g hint herr hboot, State.loseAll_g ha hq]
  · rfl

theorem leak_apartFromTemps : THM_STATUS_LEAK.apartFromTemps 0 := by
  refine fun site hs => ⟨?_, ?_, ?_⟩ <;>
    · simp only [Fld.key, Fld.offset, THM_STEMP_TS, THM_STEMP_MAX_SEEN, THM_STEMP_STALE, THM_STATUS_LEAK]
      omega

theorem leakSensed_stops (s : State) : ∃ u, exec .leakSensed s = .next u ∧ u.g THM_STATUS_LEAK 0 = 1 ∧ u.thermal.episodes.mem (epKey 8 63) = true ∧
    (s.flag THM_CFG_LEAK_STOP 0 0 = true → u.power.convOn = false) := by
  have hl : (s.setG THM_STATUS_LEAK 0 1).g THM_STATUS_LEAK 0 = 1 := (State.g_setG_same ..).trans rfl
  have hf : (s.setG THM_STATUS_LEAK 0 1).flag THM_CFG_LEAK_STOP 0 0 = s.flag THM_CFG_LEAK_STOP 0 0 := State.flag_setG_other (by decide)
  refine ⟨_, rfl, ?_⟩
  rw [hf]
  split
  · obtain ⟨hconv, -, hep⟩ := State.shutdown_stops (s.setG THM_STATUS_LEAK 0 1) 8 0x6009 63
    refine ⟨?_, hep, fun _ => hconv⟩
    unfold State.shutdown
    refine (State.episode_g (by decide) (by decide)).trans (Eq.trans ?_ hl)
    exact State.stopConverters_g (by decide) (by decide) (by decide) (by decide) (by decide) (by decide) leak_apartFromTemps
  · exact ⟨(State.episode_g (by decide) (by decide)).trans hl, State.episode_mem .., fun h => absurd h ‹_›⟩

/-! ### Stacks and coolant (R286) -/

theorem stackHot85_refreshes {h : Stack} {t : Fin 256} {s : State} (ht : 85 < t.val) : ∃ u, exec (.stackHot85 h t) s = .next u ∧ u.g THM_HTEMP_T h.val = t.val ∧
    u.g THM_HTEMP_EXT_REFRESH h.val = 1 ∧ u.thermal.episodes.mem (epKey 3 63) = true := by
  have hh := h.isLt
  refine ⟨_, if_pos ht, (State.episode_g ?_ ?_).trans ((State.g_setG_other ?_).trans ((State.g_setG_same ..).trans (Nat.mod_eq_of_lt t.isLt))),
    (State.episode_g ?_ ?_).trans ((State.g_setG_same ..).trans rfl), State.episode_mem ..⟩
  all_goals
    simp only [Fld.key, Fld.offset, THM_HTEMP_T, THM_HTEMP_EXT_REFRESH, Page.code]
    omega
theorem stackHot95_notes {h : Stack} {t : Fin 256} {s : State} (ht : 95 < t.val) : ∃ u, exec (.stackHot95 h t) s = .next u ∧ u.g THM_HTEMP_T h.val = t.val ∧
    u.thermal.episodes.mem (epKey 4 63) = true := by
  have hh := h.isLt
  refine ⟨_, if_pos ht, (State.episode_g ?_ ?_).trans ((State.g_setG_same ..).trans (Nat.mod_eq_of_lt t.isLt)), State.episode_mem ..⟩
  all_goals
    simp only [Fld.key, Fld.offset, THM_HTEMP_T, Page.code]
    omega

theorem inletHigh_raises {v : Fin 65536} {s : State} (h : 20 * s.g THM_COOLCFG_INLET_MAX 0 < v.val) : ∃ u, exec (.inletHigh v) s = .next u ∧
    u.g THM_COOL_T_IN 0 = v.val ∧ u.g THM_STATUS_COOLANT 0 = 1 ∧ u.thermal.episodes.mem (epKey 5 63) = true := by
  have h' : 20 * (s.setG THM_COOL_T_IN 0 v.val).g THM_COOLCFG_INLET_MAX 0 < v.val := by rwa [State.g_setG_other (by decide)]
  exact ⟨_, if_pos h', (State.episode_g (by decide) (by decide)).trans ((State.g_setG_other (by decide)).trans ((State.g_setG_same ..).trans (Nat.mod_eq_of_lt v.isLt))),
    (State.episode_g (by decide) (by decide)).trans ((State.g_setG_same ..).trans rfl), State.episode_mem ..⟩
theorem flowLow_raises {v : Fin 65536} {s : State} (h : v.val < 2 * s.g THM_COOLCFG_FLOW_MIN 0) : ∃ u, exec (.flowLow v) s = .next u ∧
    u.g THM_FLOW_FLOW 0 = v.val ∧ u.g THM_STATUS_COOLANT 0 = 1 ∧ u.thermal.episodes.mem (epKey 6 63) = true := by
  have h' : v.val < 2 * (s.setG THM_FLOW_FLOW 0 v.val).g THM_COOLCFG_FLOW_MIN 0 := by rwa [State.g_setG_other (by decide)]
  exact ⟨_, if_pos h', (State.episode_g (by decide) (by decide)).trans ((State.g_setG_other (by decide)).trans ((State.g_setG_same ..).trans (Nat.mod_eq_of_lt v.isLt))),
    (State.episode_g (by decide) (by decide)).trans ((State.g_setG_same ..).trans rfl), State.episode_mem ..⟩

theorem thermalEpisodeEnd_ends {c : Fin 9} {k : Fin 64} {s : State} (hm : s.thermal.episodes.mem (epKey c.val k.val) = true)
    (hc : s.condClear c.val k.val = true) : ∃ u, exec (.thermalEpisodeEnd c k) s = .next u ∧ u.thermal.episodes.mem (epKey c.val k.val) = false := by
  refine ⟨_, if_pos (by rw [hm, hc]; rfl), ?_⟩
  generalize upTo 48 = l
  split
  · split
    · refine (congrArg (fun x : ThermalSt => x.episodes.mem _) (foldl_keep State.thermal (fun a h => ?_) l _)).trans (NatSet.mem_del_same ..)
      rfl
    · exact NatSet.mem_del_same ..
  · split
    · refine (congrArg (fun x : ThermalSt => x.episodes.mem _) (foldl_keep State.thermal (fun a h => ?_) l _)).trans (NatSet.mem_del_same ..)
      rfl
    · exact NatSet.mem_del_same ..

/-! ### Releases and regions (R288, R292, R294) -/

theorem siteRelease_releases {path : Path} {site : Fin 64} {s : State} (ho : pageOpen s path false true = true) (hs : site.val < 56)
    (hd : s.power.darkWhy.get? site.val = some 2) (ht : s.g THM_STEMP_TS site.val ≤ s.jlimit - 60) (hb : ∀ k, k < 4 → s.baseOf (site.val * 4 + k) ≤ s.jlimit - 60) :
    ∃ u, exec (.siteRelease path site) s = .next u ∧ u.power.darkWhy.has site.val = false ∧ u.g THM_SPLIM_K site.val = 50 := by
  refine ⟨s.release' path site.val, pageWrite_runs (pg := .thm) (act := fun s => s.release' path site.val) ho, ?_⟩
  unfold State.release'
  rw [if_neg (by omega)]
  extract_lets u lim src
  have hlim : lim = s.jlimit - 60 := by
    show 4 * u.g THM_CFG_JLIMIT 0 - 60 = 4 * s.g THM_CFG_JLIMIT 0 - 60
    rw [show u.g THM_CFG_JLIMIT 0 = s.g THM_CFG_JLIMIT 0 from State.g_setG_other (by decide)]
  have hts : u.g THM_STEMP_TS site.val = s.g THM_STEMP_TS site.val :=
    State.g_setG_other (by simp only [Fld.key, Fld.offset, THM_CTRL_RELEASE_SITE, THM_STEMP_TS]; omega)
  have hc : ¬ (decide (lim < u.g THM_STEMP_TS site.val) || (upTo 4).any (fun k => decide (lim < u.baseOf (site.val * 4 + k)))) = true := by
    rw [hts, hlim, decide_eq_false (Nat.not_lt.2 ht), Bool.false_or, List.any_eq_true]
    rintro ⟨k, hk, hk'⟩
    exact Nat.not_lt.2 (hb k (List.mem_range.1 hk)) (of_decide_eq_true hk')
  rw [if_neg hc, if_pos (show (u.power.darkWhy.get? site.val == some 2) = true by rw [show u.power.darkWhy = s.power.darkWhy from rfl, hd]; rfl)]
  refine ⟨Map.has_del_same .., ?_⟩
  rw [State.refreshSite_g, State.g_setG_same]
  · rfl
  all_goals
    simp only [Fld.key, Fld.offset, THM_SPLIM_PTH_W, THM_SPLIM_K, PWR_SSTAT_ILIM_A, PWR_SSTAT_STATE, Page.code]
    omega

theorem State.adjustQuads_g {s : State} {l : List Nat} (hl : ∀ q ∈ l, q < 224) {f : Fld} {i : Nat} (h : f.apartFromTemps i)
    (hk : ∀ q < 224, (PWR_QSTATE (q % 16)).key 0 (q / 16) ≠ f.key 0 i) : (s.adjustQuads l).g f i = s.g f i :=
  foldl_keep_mem (fun a : State => a.g f i) l (fun _ q hq => State.adjustQuad_g (hl q hq) h (hk q (hl q hq))) s
theorem regionQuads_lt {r q : Nat} (h : q ∈ (upTo 224).filter (fun q => regionOfQuad q == r)) : q < 224 := List.mem_range.1 (List.mem_filter.1 h).1

theorem regionOff_switches {path : Path} {r : Region} {s : State} (ho : pageOpen s path false true = true) (hr : bitAt (s.g THM_RGREQ_REQ 0) r.val = false)
    (hi : s.regionIdle r.val = true) : ∃ u, exec (.regionOff path r) s = .next u ∧ bitAt (u.g THM_RGREQ_REQ 0) r.val = true ∧
      bitAt (u.g THM_RGSTATE_OFF 0) r.val = true := by
  refine ⟨s.regionOff path r.val, pageWrite_runs (pg := .thm) (act := fun s => s.regionOff path r.val) ho, ?_⟩
  unfold State.regionOff
  rw [if_neg (by rw [hr]; exact Bool.false_ne_true), if_neg (by rw [hi]; exact Bool.false_ne_true)]
  extract_lets u src v
  have hkeep : ∀ (f : Fld), f.key 0 0 / 2 ^ 33 ≠ Page.int.code → f.key 0 0 / 2 ^ 33 ≠ Page.err.code → f.apartFromTemps 0 →
      (∀ q < 224, (PWR_QSTATE (q % 16)).key 0 (q / 16) ≠ f.key 0 0) →
      ((v.adjustQuads ((upTo 224).filter (fun q => regionOfQuad q == r.val))).thmRecord 0x6013 63 63 r.val).g f 0 = u.g f 0 := fun f h1 h2 h3 h4 =>
    (State.record_g rfl h1 h2).trans (State.adjustQuads_g (fun q hq => regionQuads_lt hq) h3 h4)
  refine ⟨?_, ?_⟩
  · rw [hkeep _ (by decide) (by decide) rgreq_apartFromTemps fun q hq => by simp only [Fld.key, Fld.offset, PWR_QSTATE, THM_RGREQ_REQ, Page.code]; omega]
    rw [show u.g THM_RGREQ_REQ 0 = _ from (State.g_setG_other (by decide)).trans (State.g_setG_same ..)]
    exact (bitAt_mod r.isLt _).trans (bitAt_setBit_same ..)
  · rw [hkeep _ (by decide) (by decide) rgstate_apartFromTemps fun q hq => by simp only [Fld.key, Fld.offset, PWR_QSTATE, THM_RGSTATE_OFF, Page.code]; omega]
    rw [show u.g THM_RGSTATE_OFF 0 = _ from State.g_setG_same ..]
    exact (bitAt_mod r.isLt _).trans (bitAt_setBit_same ..)

theorem regionOn_brings_back {path : Path} {r : Region} {s : State} (ho : pageOpen s path false true = true) :
    ∃ u, exec (.regionOn path r) s = .next u ∧ bitAt (u.g THM_RGREQ_REQ 0) r.val = false ∧ bitAt (u.g THM_RGSTATE_OFF 0) r.val = false := by
  refine ⟨s.regionBack r.val, pageWrite_runs (pg := .thm) (act := fun s => s.regionBack r.val) ho, ?_⟩
  unfold State.regionBack
  extract_lets u v
  have hreq : bitAt (u.g THM_RGREQ_REQ 0) r.val = false := by
    rw [show u.g THM_RGREQ_REQ 0 = _ from State.g_setG_same ..]
    exact (bitAt_mod r.isLt _).trans (bitAt_setBit_same ..)
  split
  · have hkeep : ∀ (f : Fld), f.apartFromTemps 0 → (∀ q < 224, (PWR_QSTATE (q % 16)).key 0 (q / 16) ≠ f.key 0 0) →
        (v.adjustQuads ((upTo 224).filter (fun q => regionOfQuad q == r.val))).g f 0 = v.g f 0 := fun f h3 h4 =>
      State.adjustQuads_g (fun q hq => regionQuads_lt hq) h3 h4
    refine ⟨?_, ?_⟩
    · rw [hkeep _ rgreq_apartFromTemps fun q hq => by simp only [Fld.key, Fld.offset, PWR_QSTATE, THM_RGREQ_REQ, Page.code]; omega]
      rw [show v.g THM_RGREQ_REQ 0 = _ from (State.record_g rfl (by decide) (by decide)).trans (State.g_setG_other (by decide))]
      exact hreq
    · rw [hkeep _ rgstate_apartFromTemps fun q hq => by simp only [Fld.key, Fld.offset, PWR_QSTATE, THM_RGSTATE_OFF, Page.code]; omega]
      rw [show v.g THM_RGSTATE_OFF 0 = _ from (State.record_g rfl (by decide) (by decide)).trans (State.g_setG_same ..)]
      exact (bitAt_mod r.isLt _).trans (bitAt_setBit_same ..)
  · exact ⟨hreq, Bool.eq_false_iff.2 ‹_›⟩

/-- Settles O52: the threshold of each protection is crossed, so its branch runs; what it sets is read off the update that sets it last. -/
theorem heatProtections : Obligations.HeatProtections := by
  unfold Obligations.HeatProtections
  refine ⟨fun site s => ⟨fun h => ⟨_, if_pos h, State.episode_mem .., ?_⟩, fun h => junctionHot_slows h⟩, fun t raw s hraw hoff hd => junctionTrip_darkens hraw hoff hd,
    fun h t s => ⟨fun ht => stackHot85_refreshes ht, fun ht => stackHot95_notes ht⟩, fun v s => ⟨fun h => inletHigh_raises h, fun h => flowLow_raises h⟩,
    fun tIn tOut flow h t s hc => ⟨_, if_pos ?_, State.shutdown_stops ..⟩, fun s => leakSensed_stops s, fun c k s hm hc => thermalEpisodeEnd_ends hm hc,
    fun path site s ho hs hd ht hb => siteRelease_releases ho hs hd ht hb, fun path r s ho => ⟨fun hr hi => regionOff_switches ho hr hi, regionOn_brings_back ho⟩⟩
  · exact (State.episode_thermal _ _ _ _ _ _ (fun x => x.overLimit.mem site.val) fun _ _ => rfl).trans (NatSet.mem_add_same ..)
  · simpa only [Bool.or_eq_true, decide_eq_true_eq, or_assoc] using hc

end Sys2Proof.Machine
end

section
/-! PROOF. Tag timeouts, program ends, reports, decisions, starts and the roots (05 R135; 06 R149, R150, R159 to R163): O24, O29 and O31. -/

namespace Sys2Proof.Machine

open Sys2Proof Sys2Proof.Safety

/-- Settles O24: SLUICE_TIMEOUT is set before the stop, which leaves it; a stop by the Cascade carries its reason. -/
theorem tagTimeoutsStopTheirPartition : Obligations.TagTimeoutsStopTheirPartition := by
  unfold Obligations.TagTimeoutsStopTheirPartition
  intro t e s p since r ho hw hr hrun hout hlate
  let x : State := (((s.setReg BSN_STATUS_SLUICE_TIMEOUT t.val 0 1).tileRecord t.val
    { code := 0x1031, unit := 6, seqoff := e.val, detail := r * 64 + s.tag t.val r % 4 }).updTile t.val (fun x =>
      { x with timedOut := true, waitStart := x.waitStart.del e.val })).updPart p (fun x => { x with timedOut := true })
  have hrun' : exec (.tagTimeout t e) s = if (x.part p).phase == .ready then .next (x.cascadeStop p 3) else .next x := by
    show execTagTimeout t e s = _
    unfold execTagTimeout
    simp only [ho, hw, hr, hrun, hout, decide_eq_true hlate, Bool.not_false, Bool.and_self, if_true]
    rfl
  have hupper : ∀ {f : Fld} {inst i : Nat}, f.upper inst i → BSN_STATUS_SLUICE_TIMEOUT.key t.val 0 ≠ f.key inst i → x.reg f inst i = s.reg f inst i := fun hu hne =>
    ((State.tileRecord_sameUpper .refl).reg _ _ _ hu).trans (State.reg_setReg_other hne)
  have hset : x.reg BSN_STATUS_SLUICE_TIMEOUT t.val 0 = 1 :=
    ((State.tileRecord_sameUpper .refl).reg _ _ _ (Fld.upper_of_lo (by decide) (by decide))).trans (State.reg_setReg_same ..)
  have hpart : x.part p = { ((s.setReg BSN_STATUS_SLUICE_TIMEOUT t.val 0 1).tileRecord t.val
      { code := 0x1031, unit := 6, seqoff := e.val, detail := r * 64 + s.tag t.val r % 4 }).part p with timedOut := true } := State.part_updPart_same ..
  have hphase : (x.part p).phase = (s.part p).phase := by
    rw [hpart]
    exact State.record_part_phase ..
  have hstopr : x.g LD_PSTATE_STOPR p = s.g LD_PSTATE_STOPR p :=
    hupper (Fld.upper_of_lo (by decide) (by decide)) (Fld.key_ne_of_lo (by decide) (by decide) (by decide))
  by_cases h : (s.part p).phase = .ready
  · refine ⟨_, hrun'.trans (if_pos (by rw [hphase, h]; rfl)), ?_, fun hn => absurd h hn, fun _ => ⟨State.cascadeStop_stopr x p 3, ?_⟩⟩
    · exact (State.cascadeStop_reg_low x p (Fld.upper_of_lo (by decide) (by decide)) (by decide) 3).trans hset
    · simp [State.flag, State.cascadeStop_run]
  · refine ⟨_, hrun'.trans (if_neg (by rw [hphase]; simpa using h)), hset, fun _ => ⟨by rw [hpart], hstopr⟩, fun hr => absurd hr h⟩

/-! ### Reports and decisions -/

theorem programEnd_reports {t : Tile} {s : State} {p : Nat} (ho : s.owner t.val = some p) (hp : (s.part p).phase = .attempt)
    (hl : s.tileLive t.val = true) (hd : (s.tile t.val).report.done = false) :
    ∃ u, exec (.programEnd t) s = .next u ∧ (u.tile t.val).report.done = true ∧
      (s.activeAt t.val (s.programEnd p) = true → (u.tile t.val).report.fault = true ∧ u.reg SEQ_STATUS_BUSY_END t.val 0 = 1) ∧
      (s.activeAt t.val (s.programEnd p) = false → (u.tile t.val).report.fault = (s.tile t.val).report.fault) := by
  refine ⟨_, by
    simp only [exec, execProgramEnd, ho, hp, hl, hd, beq_self_eq_true, Bool.not_false, Bool.and_self, if_true]
    rfl, ?_, fun ha => ⟨?_, ?_⟩, fun ha => ?_⟩
  · rw [State.tile_updTile_same]
  · rw [State.tile_updTile_same, ha, if_pos rfl]
    show ((State.tileFault _ _ _).tile t.val).report.fault = true
    unfold State.tileFault
    rw [State.tile_updTile_same]
  · rw [ha, if_pos rfl, State.reg_updTile, State.reg_setReg_other (Fld.key_ne_of_lo (by decide) (by decide) (by decide))]
    exact ((State.tileFault_sameUpper .refl).reg _ _ _ (Fld.upper_of_lo (by decide) (by decide))).trans (State.reg_setReg_same ..)
  · rw [State.tile_updTile_same, ha]
    rfl

/-- A discarded attempt writes bank states, which start at bit 26, and states of passes, at bit 20. -/
theorem State.discardAttempt_reg (s : State) (p : Nat) {f : Fld} {inst i : Nat} (h32 : f.lo < 32) (hbank : f.lo ≠ 26) (hpass : f.lo ≠ 20) :
    (s.discardAttempt p).reg f inst i = s.reg f inst i := by
  have hset : ∀ (a : State) (pl t n v : Nat), (a.setReg (bstateF pl) t n v).reg f inst i = a.reg f inst i := fun a pl t n v => by
    have hlo : (bstateF pl).lo = 26 := by unfold bstateF; split <;> rfl
    exact State.reg_setReg_other (Fld.key_ne_of_lo (hlo ▸ by decide) h32 (hlo ▸ hbank.symm))
  have hends : (s.endComputes p).reg f inst i = s.reg f inst i := by
    unfold State.endComputes
    refine foldl_keep (fun a : State => a.reg f inst i) (fun a e => ?_) _ s
    refine foldl_keep (fun a : State => a.reg f inst i) (fun a r => ?_) _ a
    refine foldl_keep (fun a : State => a.reg f inst i) (fun a n => ?_) _ a
    split
    · exact hset ..
    · rfl
  refine Eq.trans ?_ hends
  show ((s.endComputes p).calDiscard p).reg f inst i = _
  generalize s.endComputes p = u
  unfold State.calDiscard
  refine (foldl_keep (fun a : State => a.reg f inst i) (fun a e => ?_) _ _).trans rfl
  split
  · exact State.reg_setReg_other (Fld.key_ne_of_lo (by decide) h32 hpass.symm)
  · rfl

theorem State.rootMismatch_stops {s : State} {p : Nat} (hp : p < 64) : (s.rootMismatch p).g CSD_STATUS_MISMATCH 0 = 1 ∧
    (s.rootMismatch p).flag CSD_PCFG_RUN 0 p = false ∧ (s.rootMismatch p).g LD_PSTATE_STOPR p = 2 := by
  unfold State.rootMismatch
  extract_lets u
  refine ⟨?_, by simp [State.flag, State.cascadeStop_run], State.cascadeStop_stopr _ p 2⟩
  have hu : CSD_STATUS_MISMATCH.upper 0 0 := ⟨by decide, by decide, by decide⟩
  have hset : u.reg CSD_STATUS_MISMATCH 0 0 = 1 := ((State.record_sameUpper .refl).reg _ _ _ hu).trans ((State.g_setG_same ..).trans rfl)
  clear_value u
  have hdiscard : (((u.discardAttempt p).onTiles p TileSt.newAttempt).countUp p).reg CSD_STATUS_MISMATCH 0 0 = 1 :=
    (State.discardAttempt_reg u p (by decide) (by decide) (by decide)).trans hset
  generalize ((u.discardAttempt p).onTiles p TileSt.newAttempt).countUp p = v at hdiscard ⊢
  exact (State.cascadeStop_reg_low v p hu (by decide) 2).trans hdiscard

/-- What an attempt's decision reads of a partition, a step overrun leaves. -/
theorem State.overruns_part (s : State) (p : Nat) : ∃ b, (s.overruns p).part p = { s.part p with noRetry := b } := by
  have h : PartsMarked s (s.overruns p) := by
    unfold State.overruns
    refine PartsMarked.ite (State.addReg_partsMarked ?_) ?_
    all_goals
      refine foldl_partsMarked (fun a e ha => ?_) .refl
      exact PartsMarked.ite (State.record_partsMarked ha) ha
  exact h.part p
theorem State.overruns_decide' (s : State) (p : Nat) : ((s.overruns p).part p).decide' = (s.part p).decide' := by
  obtain ⟨b, hb⟩ := s.overruns_part p
  rw [hb]
  rfl

/-- The root sends GO with a decision, and the partition acts on it. -/
def State.decided (s : State) (p : Nat) (d : Decision × Bool) : State :=
  let s := if d.2 then s.record { code := 0x2006, unit := 9, part := some p } else s
  (s.updPart p (fun x => { x with phase := .decided d.1, degraded := d.2 })).sendGo p d.1.code
theorem State.decided_phase (s : State) (p : Nat) (d : Decision × Bool) : ((s.decided p d).part p).phase = .decided d.1 := by
  unfold State.decided
  rw [State.sendGo_part, State.part_updPart_same]
theorem State.decided_out (s : State) (p : Nat) (d : Decision × Bool) : (s.decided p d).out.head? = some (.go p d.1.code) := rfl

/-- The messages of the attempt are acknowledged once the root has decided. -/
def State.acknowledged (s : State) (p : Nat) : State := { s with treeMsgs := s.treeMsgs.keep (fun k _ => k / 16 != p) }

@[simp] theorem State.acknowledged_part (s : State) (p q : Nat) : (s.acknowledged p).part q = s.part q := rfl

theorem exec_rootDeadline {part : Part} {s : State} (mismatch : Bool) (hp : (s.part part.val).phase = .attempt) (ha : s.allReports part.val = true) :
    exec (.rootDeadline part mismatch) s = .next (if mismatch then ((s.overruns part.val).acknowledged part.val).rootMismatch part.val
      else ((s.overruns part.val).acknowledged part.val).decided part.val (s.part part.val).decide') := by
  have hd : (((s.overruns part.val).acknowledged part.val).part part.val).decide' = (s.part part.val).decide' := by
    rw [State.acknowledged_part]
    exact s.overruns_decide' part.val
  rw [← hd]
  show execRootDeadline part mismatch s = _
  unfold execRootDeadline
  rw [if_pos (by rw [hp, ha]; rfl)]
  cases mismatch
  · exact (if_neg Bool.false_ne_true).trans (congrArg Host.Outcome.next (if_neg Bool.false_ne_true).symm)
  · exact (if_pos rfl).trans (congrArg Host.Outcome.next (if_pos rfl).symm)

theorem PartSt.decide'_table (x : PartSt) : (x.anyRep (·.fault) = true → x.decide'.1 = .faulted) ∧
    (x.anyRep (·.fault) = false → (x.anyRep (·.slip) || x.anyRep (·.miss)) = true → x.decide'.1 = .sameProgram) ∧
    (x.anyRep (·.fault) = false → x.anyRep (·.slip) = false → x.anyRep (·.miss) = false →
      (x.anyRep (·.recK) || x.anyRep (·.splitK) || x.anyRep (·.wideK)) = true → x.tries < x.hdr.replayLimit →
      x.decide'.1 = .replay (x.anyRep (·.recK) && !x.anyRep (·.splitK) && !x.anyRep (·.wideK))) ∧
    (x.anyRep (·.fault) = false → x.anyRep (·.slip) = false → x.anyRep (·.miss) = false →
      (x.anyRep (·.recK) || x.anyRep (·.splitK) || x.anyRep (·.wideK)) = true → x.hdr.replayLimit ≤ x.tries → x.decide' = (.commit, true)) ∧
    (x.anyRep (·.fault) = false → x.anyRep (·.slip) = false → x.anyRep (·.miss) = false → x.anyRep (·.recK) = false →
      x.anyRep (·.splitK) = false → x.anyRep (·.wideK) = false → x.decide' = (.commit, false)) := by
  unfold PartSt.decide'
  refine ⟨fun hf => ?_, fun hf hs => ?_, fun hf hs hm hr ht => ?_, fun hf hs hm hr ht => ?_, fun hf hs hm hr hp hw => ?_⟩
  · simp only [hf, if_true]
  · simp only [hf, hs, Bool.false_eq_true, if_false, if_true]
  · simp only [hf, hs, hm, hr, Nat.not_le.2 ht, Bool.or_self, Bool.false_eq_true, if_false, if_true]
  · simp only [hf, hs, hm, hr, ht, Bool.or_self, Bool.false_eq_true, if_false, if_true]
  · simp only [hf, hs, hm, hr, hp, hw, Bool.or_self, Bool.false_eq_true, if_false]

/-- Settles O29: the reports by the conditions of R150 and R159, the decision by the rows of Table 6-12. -/
theorem reportsAndDecisions : Obligations.ReportsAndDecisions := by
  unfold Obligations.ReportsAndDecisions
  refine ⟨fun t s p ho hp hl hd => programEnd_reports ho hp hl hd, fun part r edges s hp hr hne hall => ?_, fun part s hp ha => ⟨⟨_, (exec_rootDeadline false hp ha).trans (congrArg _ (if_neg Bool.false_ne_true)), State.decided_phase .., State.decided_out ..⟩,
      _, (exec_rootDeadline true hp ha).trans (congrArg _ (if_pos rfl)), State.rootMismatch_stops part.isLt⟩,
    PartSt.decide'_table⟩
  have hdone : ((s.partTiles part.val).filter (fun t => regionOf t == r.val)).all (fun t => (s.tile t).report.done || !s.tileLive t) = true := by
    refine List.all_eq_true.2 fun t ht => ?_
    obtain ⟨hmem, hreg⟩ := List.mem_filter.1 ht
    rcases hall t hmem (by simpa using hreg) with h | h <;> simp [h]
  let rep := s.mergeReports part.val edges.val ((s.partTiles part.val).filter (fun t => regionOf t == r.val))
  let u := s.updPart part.val (fun x => { x with regRep := x.regRep.put r.val rep })
  have hu : u.part part.val = { s.part part.val with regRep := (s.part part.val).regRep.put r.val rep } := State.part_updPart_same ..
  refine ⟨({ u with treeMsgs := u.treeMsgs.put (part.val * 16 + r.val) 1 } : State).emit (.report part.val r.val), ?_, ?_⟩
  · exact if_pos (by rw [hp, hr, hdone]; simpa using hne)
  · show (u.part part.val).regRep.get? r.val = some rep
    rw [hu]
    exact Map.get?_put_same ..

/-! ### Starts, holds and the roots -/

theorem State.endTakeover_part (s : State) (p : Nat) : (s.endTakeover p).part p = { s.part p with
    innerHold := false, slots := (s.part p).slots.keep (fun _ b => b.dead || (s.req b.req).active) } := State.part_updPart_same ..
/-- The end of a takeover's hold holds back no tile. -/
theorem State.endTakeover_heldTiles (s : State) (p : Nat) : (s.endTakeover p).heldTiles p = s.heldTiles p := by
  unfold State.heldTiles State.partTiles State.partQuads
  rw [State.endTakeover_part]
  rfl

theorem attemptStart_begins {part : Part} {s : State} (hp : (s.part part.val).phase = .ready) (hg : (s.part part.val).goStart = true)
    (hrun : s.flag CSD_PCFG_RUN 0 part.val = true) (hsp : s.spareHold part.val = false) (hm : s.link.markWait.has part.val = false)
    (hheld : s.heldTiles part.val = []) :
    ∃ u, exec (.attemptStart part) s = .next u ∧ (u.part part.val).phase = .attempt ∧ (u.part part.val).prog = (s.part part.val).nextProg := by
  have hk : ((s.part part.val).phase == .ready && (s.part part.val).goStart && s.flag CSD_PCFG_RUN 0 part.val && !s.link.markWait.has part.val &&
      !s.spareHold part.val) = true := by
    rw [hp, hg, hrun, hm, hsp]
    rfl
  have hbegin : ∀ u : State, (u.part part.val).nextProg = (s.part part.val).nextProg → ((u.beginAttempt part.val).part part.val).phase = .attempt ∧
      ((u.beginAttempt part.val).part part.val).prog = (s.part part.val).nextProg := fun u hn => by
    unfold State.beginAttempt
    rw [State.part_updPart_same]
    refine ⟨rfl, Eq.trans ?_ hn⟩
    refine congrArg PartSt.nextProg ?_
    show State.part (State.onTiles _ _ _) part.val = _
    unfold State.part
    rw [State.onTiles_parts]
    exact congrArg (Map.get · part.val PartSt.clear) (foldl_keep (f := fun s t => State.setReg s SEQ_STATUS_OFFSET t 0 0) State.parts (fun a t => rfl) _ u)
  cases hi : ((s.part part.val).innerHold && (s.part part.val).attempt == 0)
  · refine ⟨s.beginAttempt part.val, ?_, hbegin s rfl⟩
    show execAttemptStart part s = _
    unfold execAttemptStart
    rw [if_pos hk, hi, if_neg Bool.false_ne_true]
    exact if_pos (congrArg List.isEmpty hheld)
  · refine ⟨(s.endTakeover part.val).beginAttempt part.val, ?_, hbegin _ (by rw [State.endTakeover_part])⟩
    show execAttemptStart part s = _
    unfold execAttemptStart
    rw [if_pos hk, hi, if_pos rfl]
    exact if_pos (congrArg List.isEmpty ((State.endTakeover_heldTiles s part.val).trans hheld))

/-- A cleared HOLD gives a held partition its start. -/
theorem State.clearHold_starts (s : State) (p : Nat) : (s.clearHold p).g CSD_PCFG_HOLD p = 0 ∧
    (s.flag CSD_PCFG_HOLD 0 p = true → (s.part p).phase = .ready → ((s.clearHold p).part p).goStart = true) := by
  have hset : (s.setG CSD_PCFG_HOLD p 0).g CSD_PCFG_HOLD p = 0 := State.g_setG_same ..
  unfold State.clearHold
  extract_lets held u
  split
  next hheld =>
    refine ⟨hset, fun _ _ => ?_⟩
    rw [State.sendGo_part, State.part_updPart_same]
  next hheld =>
    refine ⟨hset, fun hf hp => ?_⟩
    show (s.part p).goStart = true
    refine Classical.byContradiction fun hg => ?_
    exact hheld (by unfold held; rw [hf, hp, Bool.eq_false_iff.2 hg]; rfl)

/-- Settles O31: each start, hold, swap, takeover and repeat by its own rule. -/
theorem startsHoldsAndRoots : Obligations.StartsHoldsAndRoots := by
  unfold Obligations.StartsHoldsAndRoots
  refine ⟨fun part s hp hg hrun hsp hm hheld => attemptStart_begins hp hg hrun hsp hm hheld, fun path part s ho => ?_, fun part s c hc => ?_,
    fun part r s n hn => ?_, fun part s hp hg => ?_⟩
  · have hown : ownSet path part.val = false := by
      cases path with
      | vf v => exact absurd ho (by simp [pageOpen])
      | pf => rfl
      | mgmt => rfl
    have hset : ∀ v, (s.setG CSD_PCFG_HOLD part.val v).g CSD_PCFG_HOLD part.val = v % 2 ^ CSD_PCFG_HOLD.width := fun v => State.g_setG_same ..
    refine ⟨⟨_, (if_neg (by rw [hown]; exact Bool.false_ne_true)).trans (pageWrite_runs (pg := .csd) (act := fun s => s.setG CSD_PCFG_HOLD part.val 1) ho), hset 1⟩,
      ⟨_, (if_neg (by rw [hown]; exact Bool.false_ne_true)).trans (pageWrite_runs (pg := .csd) (act := fun s => s.clearHold part.val) ho), ?_⟩,
      _, pageWrite_runs (pg := .csd) (act := fun s => { s with shadows := s.shadows.put (CSD_CTRL_ROOT_SWAP.key 0 0) 1 }) ho, Map.get?_put_same .., rfl⟩
    exact s.clearHold_starts part.val
  · refine ⟨_, by simp only [exec, execRootTakeover, hc]; rfl, ?_, ?_, rfl⟩
    · exact State.record_rootHome ..
    · refine (State.record_reg (fun p e => by cases e; exact Nat.lt_trans part.isLt (by decide)) (by decide) (by decide)).trans ?_
      exact (State.g_setG_same ..).trans rfl
  · refine ⟨_, by simp only [exec, execTreeMessageRepeat, hn]; rfl, Map.get?_put_same ..⟩
  · refine ⟨_, if_pos (by rw [hp, hg]; rfl), rfl, ?_⟩
    exact congrArg (Option.map (·.code)) (State.record_log ..)

end Sys2Proof.Machine
end

section
/-! PROOF. Host writes of a request's state word (09 R220, Table 9-2): O33. -/

namespace Sys2Proof.Machine

open Sys2Proof Sys2Proof.Safety

/-- A refused state write changes no entry, and its record has code 0x8001. -/
theorem State.refuseState_records (s : State) (path : Path) (r : Nat) : (s.refuseState path r).reqs = s.reqs ∧
    ((s.refuseState path r).log.get? s.logTail).map (·.code) = some 0x8001 :=
  ⟨State.record_reqs .., congrArg (Option.map (·.code)) (State.record_log ..)⟩

/-- A state write does what Table 9-2 allows it, and is refused otherwise. -/
theorem stateWrite_answers {c : Instr} {path : Path} {r : Nat} {s : State} {ok : ReqSt → Bool} {act : State → State}
    (hrun : exec c s = .next (s.stateWrite path r ok act)) {allowed : Prop} [Decidable allowed] (hok : allowed ↔ (!s.ownedEntry r && ok (s.req r)) = true)
    {post : State → Prop} (hpost : post (act s)) :
    if allowed then ∃ u, exec c s = .next u ∧ post u
    else ∃ u, exec c s = .next u ∧ u.reqs = s.reqs ∧ (u.log.get? s.logTail).map (·.code) = some 0x8001 := by
  split
  next h => exact ⟨_, hrun.trans (congrArg Host.Outcome.next (if_pos (hok.1 h))), hpost⟩
  next h => exact ⟨_, hrun.trans (congrArg Host.Outcome.next (if_neg (mt hok.2 h))), s.refuseState_records path r⟩

/-- A command noted for the steward marks the entry and keeps its state. -/
theorem State.noteCmd_notes (s : State) (fn r c : Nat) : ((s.noteCmd fn r c).req r).hcmd = c ∧ ((s.noteCmd fn r c).req r).marked = true ∧
    ((s.noteCmd fn r c).req r).state = (s.req r).state := by
  unfold State.noteCmd
  rw [State.req_updReq_same]
  exact ⟨rfl, rfl, rfl⟩

/-- Settles O33: each command by the condition of its row of Table 9-2. -/
theorem hostWritesOfTheStateWord : Obligations.HostWritesOfTheStateWord := by
  unfold Obligations.HostWritesOfTheStateWord
  intro path r gen s ho
  refine ⟨?_, ?_, ?_, ?_, ?_⟩
  · refine stateWrite_answers (c := .submit path r gen) (s := s) (path := path) (reqWrite_runs (act := fun s => s.writeSubmit path r.val gen.val) ho) (by simp) ?_
    unfold State.submit
    rw [State.req_setReq_same]
    exact ⟨rfl, rfl, rfl, rfl, rfl⟩
  · refine stateWrite_answers (c := .free path r gen) (s := s) (path := path) (reqWrite_runs (act := fun s => s.writeFree path r.val gen.val) ho) (by simp) ?_
    rw [State.req_setReq_same]
    exact ⟨rfl, rfl, rfl, rfl, rfl, rfl⟩
  · exact stateWrite_answers (c := .cancel path r gen) (s := s) (path := path) (reqWrite_runs (act := fun s => s.writeCancel path r.val gen.val) ho) (by simp) (s.noteCmd_notes ..)
  · exact stateWrite_answers (c := .pause path r gen) (s := s) (path := path) (reqWrite_runs (act := fun s => s.writePause path r.val gen.val) ho) (by simp [and_assoc]) (s.noteCmd_notes ..)
  · exact stateWrite_answers (c := .resume path r gen) (s := s) (path := path) (reqWrite_runs (act := fun s => s.writeResume path r.val gen.val) ho) (by simp [and_assoc]) (s.noteCmd_notes ..)

end Sys2Proof.Machine
end

section
/-! PROOF. Owner keys, sessions, measurements, fabric mode and the chain plan (14 R364, R365, R371 to R374): O57. -/

namespace Sys2Proof.Machine

open Sys2Proof Sys2Proof.Safety

/-! ### What the plan and the ports' states write -/

/-- Only registers differ. -/
def RegsOnly (s t : State) : Prop := ∃ regs, t = { s with regs := regs }

theorem RegsOnly.refl (s : State) : RegsOnly s s := ⟨s.regs, rfl⟩
theorem RegsOnly.trans {s t u : State} (h : RegsOnly s t) (k : RegsOnly t u) : RegsOnly s u := by
  obtain ⟨r, rfl⟩ := h
  obtain ⟨q, rfl⟩ := k
  exact ⟨q, rfl⟩
theorem foldl_regsOnly {β : Type} {f : State → β → State} (h : ∀ a b, RegsOnly a (f a b)) : ∀ (l : List β) (s : State), RegsOnly s (l.foldl f s)
  | [], s => .refl s
  | b :: l, s => (h s b).trans (foldl_regsOnly h l (f s b))
theorem RegsOnly.link {s t : State} (h : RegsOnly s t) : t.link = s.link := by obtain ⟨r, rfl⟩ := h; rfl
theorem RegsOnly.repair {s t : State} (h : RegsOnly s t) : t.repair = s.repair := by obtain ⟨r, rfl⟩ := h; rfl

theorem State.refreshChain_regsOnly (s : State) (p : Nat) : RegsOnly s (s.refreshChain p) := ⟨_, rfl⟩
theorem State.applyPlan_regsOnly (s : State) : RegsOnly s s.applyPlan := by
  unfold State.applyPlan
  generalize upTo 64 = l
  exact RegsOnly.trans ⟨_, rfl⟩ (foldl_regsOnly State.refreshChain_regsOnly l _)
theorem State.settlePorts_regsOnly (s : State) : RegsOnly s s.settlePorts := by
  unfold State.settlePorts
  refine foldl_regsOnly (fun a n => ?_) (upTo 56) s
  split
  · exact ⟨_, rfl⟩
  · exact .refl a

/-- The fields of AQD_CTRL are none of those of a port or of a partition in the chain. -/
theorem State.settlePorts_g {s : State} {f : Fld} (hp : f.page = .aqd) (ho : f.off = 0x40) (hl : f.lo < 32) : s.settlePorts.g f 0 = s.g f 0 := by
  unfold State.settlePorts
  refine foldl_keep_mem (fun a : State => a.g f 0) (upTo 56) (fun a n hn => ?_) s
  have hlt : n < 56 := List.mem_range.1 hn
  split
  · unfold State.settlePort
    rw [State.g_setG_other, State.g_setG_other]
    all_goals
      simp only [Fld.key, Fld.offset, hp, ho, AQD_PSTAT_STATE, AQD_PSTAT_PEER_OK, Page.code]
      omega
  · rfl
theorem State.applyPlan_g {s : State} {f : Fld} (hp : f.page = .aqd) (ho : f.off = 0x40) (hl : f.lo < 32) : s.applyPlan.g f 0 =
    (((s.setG AQD_CTRL_PLAN_VALID 0 (b2n s.link.plan.isSome)).setG AQD_CTRL_MASTER 0
      (b2n ((s.link.plan.map (fun g => g.markPort == 255)).getD false))).setG AQD_CTRL_MODE 0 (b2n s.link.chainMode)).g f 0 := by
  unfold State.applyPlan
  refine foldl_keep_mem (fun a : State => a.g f 0) (upTo 64) (fun a p hm => ?_) _
  have hlt : p < 64 := List.mem_range.1 hm
  unfold State.refreshChain
  extract_lets e x on id mp
  rw [State.g_setG_other, State.g_setG_other, State.g_setG_other, State.g_setG_other]
  all_goals
    simp only [Fld.key, Fld.offset, hp, ho, AQD_PCHAIN_CHAINED, AQD_PCHAIN_HEAD, AQD_PCHAIN_MPORT, AQD_PCHAIN_CHAIN_ID, Page.code]
    omega

/-- The mode and the plan in the flash, after the ports have settled. -/
theorem State.settledPlan_mode (s : State) : s.applyPlan.settlePorts.g AQD_CTRL_MODE 0 = b2n s.link.chainMode := by
  rw [State.settlePorts_g rfl rfl (by decide), State.applyPlan_g rfl rfl (by decide), State.g_setG_same]
  cases s.link.chainMode <;> rfl
theorem State.settledPlan_valid (s : State) : s.applyPlan.settlePorts.g AQD_CTRL_PLAN_VALID 0 = b2n s.link.plan.isSome := by
  rw [State.settlePorts_g rfl rfl (by decide), State.applyPlan_g rfl rfl (by decide), State.g_setG_other (by decide), State.g_setG_other (by decide),
    State.g_setG_same]
  cases s.link.plan.isSome <;> rfl
theorem State.settledPlan_regsOnly (s : State) : RegsOnly s s.applyPlan.settlePorts := s.applyPlan_regsOnly.trans (State.settlePorts_regsOnly _)

/-! ### Owner commands and sessions -/

/-- An owner command inside an owner's session is answered, where it is accepted. -/
theorem ownerCmd_answers {s : State} {path : Path} {ok : Bool} {act : State → State} (ho : ownerOpen s path = true) (hok : ok = true) :
    s.ownerCmd path ok act = .next ((act s).answerSpdm 0) := by
  unfold ownerOpen at ho
  rw [Bool.and_eq_true, Bool.and_eq_true] at ho
  obtain ⟨⟨hup, hopen⟩, hans⟩ := ho
  unfold State.ownerCmd
  rw [hup, hopen, hans, hok]
  rfl

/-- Release forgets the publisher keys, and then owner keys, plan and lock. -/
def State.forgetPublishers (s : State) : State := (upTo 32).foldl (fun (s : State) k => s.setKeyId k 0) { s with repair := { s.repair with pubKeys := Map.empty } }
def State.disown (s : State) : State := { s with link := { s.link with ownerKeys := Map.empty, plan := none, locked := false } }

theorem State.forgetPublishers_pubKeys (s : State) : s.forgetPublishers.repair.pubKeys = Map.empty := by
  unfold State.forgetPublishers
  generalize upTo 32 = l
  exact congrArg RepairSt.pubKeys (foldl_regsOnly (f := fun s k => State.setKeyId s k 0) (fun _ _ => ⟨_, rfl⟩) l _).repair

theorem releaseOwnership_releases {path : Path} {s : State} (ho : ownerOpen s path = true) (hnone : ∀ p, p < 64 → s.partExists p = false) :
    ∃ u, exec (.releaseOwnership path) s = .next u ∧ u.link.ownerKeys.entries = [] ∧ u.link.plan = none ∧
      u.link.locked = false ∧ u.repair.pubKeys.entries = [] := by
  have hall : (upTo 64).all (fun p => !s.partExists p) = true := List.all_eq_true.2 fun p hp => by rw [hnone p (List.mem_range.1 hp)]; rfl
  have hset : RegsOnly s.forgetPublishers.disown s.forgetPublishers.disown.applyPlan.settlePorts := State.settledPlan_regsOnly _
  refine ⟨s.forgetPublishers.disown.applyPlan.settlePorts.answerSpdm 0, ownerCmd_answers (act := fun s => s.forgetPublishers.disown.applyPlan.settlePorts) ho hall, ?_⟩
  generalize s.forgetPublishers.disown.applyPlan.settlePorts = u at hset ⊢
  show u.link.ownerKeys.entries = [] ∧ u.link.plan = none ∧ u.link.locked = false ∧ u.repair.pubKeys.entries = []
  rw [hset.link, hset.repair]
  exact ⟨rfl, rfl, rfl, congrArg Map.entries s.forgetPublishers_pubKeys⟩

theorem setFabricMode_sets {path : Path} {s : State} {chained : Bool} (ho : ownerOpen s path = true) (hb : s.anyBusy = false)
    (hf : chained = true → s.feature 2 = true) : ∃ u, exec (.setFabricMode path chained) s = .next u ∧ u.link.chainMode = chained ∧ u.g AQD_CTRL_MODE 0 = b2n chained := by
  have hc : (chained && !s.feature 2) = false := by
    cases chained
    · rfl
    · rw [hf rfl]; rfl
  have hset := State.settledPlan_regsOnly { s with link := { s.link with chainMode := chained } }
  have hmode := State.settledPlan_mode { s with link := { s.link with chainMode := chained } }
  refine ⟨({ s with link := { s.link with chainMode := chained } } : State).applyPlan.settlePorts.answerSpdm 0, (if_neg ?_).trans
    (ownerCmd_answers (act := fun s => ({ s with link := { s.link with chainMode := chained } } : State).applyPlan.settlePorts) ho (by rw [hb]; rfl)), ?_, ?_⟩
  · rw [Bool.and_assoc (_ && _), hc, Bool.and_false]
    exact Bool.false_ne_true
  all_goals
    generalize ({ s with link := { s.link with chainMode := chained } } : State).applyPlan.settlePorts = u at hset hmode ⊢
  · exact congrArg LinkSt.chainMode hset.link
  · exact hmode

theorem ownerCommands_act {path : Path} {s : State} (ho : ownerOpen s path = true) :
    (∀ (n : Fin 4) (key : OwnerKey), s.link.ownerKeys.has n.val = false → ∃ u, exec (.enrollOwner path n key) s = .next u ∧
      u.link.ownerKeys.get? n.val = some (key.psk, key.key.val) ∧ u.out = .spdm 0 [] :: s.out) ∧
    (∀ n : Fin 4, (s.link.ownerKeys.del n.val).entries ≠ [] → ∃ u, exec (.revokeOwner path n) s = .next u ∧
      u.link.ownerKeys.has n.val = false ∧ u.out = .spdm 0 [] :: s.out) ∧
    (∃ u, exec (.sessionLock path) s = .next u ∧ u.link.locked = true ∧ u.out = .spdm 0 [] :: s.out) := by
  refine ⟨fun n key h => ⟨_, ownerCmd_answers (act := fun s => s.setOwnerKey n.val key) ho (by rw [h]; rfl), Map.get?_put_same .., rfl⟩,
    fun n h => ⟨_, ownerCmd_answers (act := fun s => { s with link := { s.link with ownerKeys := s.link.ownerKeys.del n.val } }) ho ?_, Map.has_del_same .., rfl⟩,
    _, ownerCmd_answers (act := fun s => { s with link := { s.link with locked := true } }) ho rfl, rfl, rfl⟩
  rw [Bool.not_eq_true', List.isEmpty_eq_false_iff]
  exact h

theorem setChainPlan_sets {path : Path} {s : State} {image : List Byte} {g : ChainPlan} (ho : ownerOpen s path = true) (hb : s.anyBusy = false)
    (hp : parsePlan image = some g) (hok : g.ok = true) :
    ∃ u, exec (.setChainPlan path image) s = .next u ∧ u.link.plan = some g ∧ u.g AQD_CTRL_PLAN_VALID 0 = 1 := by
  have hset := State.settledPlan_regsOnly { s with link := { s.link with plan := parsePlan image } }
  have hvalid := State.settledPlan_valid { s with link := { s.link with plan := parsePlan image } }
  refine ⟨({ s with link := { s.link with plan := parsePlan image } } : State).applyPlan.settlePorts.answerSpdm 0,
    ownerCmd_answers (act := fun s => ({ s with link := { s.link with plan := parsePlan image } } : State).applyPlan.settlePorts) ho ?_, ?_, ?_⟩
  · rw [hb, hp]
    exact hok
  all_goals
    generalize ({ s with link := { s.link with plan := parsePlan image } } : State).applyPlan.settlePorts = u at hset hvalid ⊢
  · exact (congrArg LinkSt.plan hset.link).trans hp
  · refine hvalid.trans ?_
    rw [hp]
    rfl

theorem sessionOpen_opens {path : Path} {ask : SessionAsk} {s : State} (hu : s.spdmUp path = true) :
    (∀ k x, s.sessPlace path = some k → s.judgeAsk ask = some x → ∃ u, exec (.sessionOpen path ask) s = .next u ∧
      u.link.sessions.get? k = some x ∧ u.out = .spdm 0 [] :: s.out) ∧
    (s.sessPlace path = none → ∃ u, exec (.sessionOpen path ask) s = .next u ∧ u.link.sessions = s.link.sessions ∧ u.logTail = s.logTail + 1) := by
  have hn : (!s.spdmUp path) = false := by rw [hu]; rfl
  refine ⟨fun k x hk hx => ⟨_, by simp only [exec, execSessionOpen, hn, hk, hx, Bool.false_eq_true, if_false]; rfl, Map.get?_put_same .., rfl⟩,
    fun hk => ⟨(s.secRecord 0x7005).answerSpdm 3, by simp only [exec, execSessionOpen, hn, hk, Bool.false_eq_true, if_false], ?_, State.record_logTail ..⟩⟩
  exact State.record_link _ _ (·.sessions) fun _ _ => rfl

/-- An item of a session's measurements is answered with its contents. -/
theorem getMeasurements_answers {path : Path} {s : State} {i : Fin 256} (hu : s.spdmUp path = true) (hs : s.sessCount path ≠ 0)
    (ha : path = .mgmt → s.answers = true) (h0 : i.val ≠ 0) (hi : i.val ≤ 11 ∨ (16 ≤ i.val ∧ i.val < 80)) :
    exec (.getMeasurements path i) s = .next (s.emit (.spdm 0 [i.val, s.measurement i.val])) := by
  have hm : (path == .mgmt && !s.answers) = false := by
    by_cases h : path = .mgmt
    · rw [ha h, Bool.not_true, Bool.and_false]
    · rw [beq_false_of_ne h, Bool.false_and]
  show execGetMeasurements path i s = _
  unfold execGetMeasurements
  simp only [hu, hs, hm, h0, Bool.not_true, Bool.false_eq_true, decide_false, Bool.or_self, Bool.false_or, if_false]
  exact if_neg (by simp only [Bool.or_eq_true, Bool.and_eq_true, decide_eq_true_eq]; omega)

/-- Settles O57: the owner commands by their common rule, sessions by places, the fabric mode and the plan with the registers that show them. -/
theorem ownersAndSessions : Obligations.OwnersAndSessions := by
  unfold Obligations.OwnersAndSessions
  refine ⟨fun k key s x hu hk hx ho ha => ?_, fun path s ho => ?_, fun path ask s hu => ?_, fun k s hk => ?_⟩
  · refine ⟨_, by simp only [exec, execTakeOwnership, hu, hk, hx, ho, ha, Bool.not_true, Bool.not_false, Bool.false_eq_true, if_false, beq_self_eq_true, Bool.and_self, if_true]; rfl,
      Map.get?_put_same .., rfl⟩
  · obtain ⟨henroll, hrevoke, hlock⟩ := ownerCommands_act ho
    exact ⟨henroll, hrevoke, hlock, fun h => releaseOwnership_releases ho h, fun chained hb hf => setFabricMode_sets ho hb hf,
      fun image g hb hp hok => setChainPlan_sets ho hb hp hok⟩
  · obtain ⟨hopen, hfull⟩ := sessionOpen_opens (ask := ask) hu
    exact ⟨hopen, hfull, fun i hs ha h0 hi => getMeasurements_answers hu hs ha h0 hi⟩
  · refine ⟨⟨_, if_pos hk, Map.has_del_same ..⟩, _, if_pos hk, ?_, State.record_logTail ..⟩
    exact (congrArg (fun m : Map Session => m.has k.val) (State.record_link _ _ (·.sessions) fun _ _ => rfl)).trans (Map.has_del_same ..)

end Sys2Proof.Machine
end

section
/-! PROOF. Register accesses (15 R379 to R383, R388 to R392): O58. A write that no rule refuses comes to the write of the word's fields, said once for a
word of one field. -/

namespace Sys2Proof.Machine

open Sys2Proof Sys2Proof.Safety

/-! ### Accesses that reach the module -/

theorem hostStore_runs {s : State} {path : Path} {x : RegPlace} {full : Bool} {w : Nat} (h : accessOpen s path = true) :
    s.hostStore path x full w = .next (s.placeStore path x full w) := by
  unfold accessOpen at h
  rw [Bool.and_eq_true] at h
  unfold State.hostStore
  rw [h.1]
  cases path with
  | pf => rfl
  | vf v => rfl
  | mgmt =>
    obtain ⟨ha, hs⟩ := Bool.and_eq_true_iff.1 h.2
    rw [ha, hs]
    rfl
theorem hostRead_runs {s : State} {path : Path} {x : RegPlace} (h : accessOpen s path = true) :
    s.hostRead path x = .next ((s.placeRead path x).2.emit (.readData (bytesOf 4 (s.placeRead path x).1) false)) := by
  unfold accessOpen at h
  rw [Bool.and_eq_true] at h
  unfold State.hostRead
  rw [h.1]
  cases path with
  | pf => rfl
  | vf v => rfl
  | mgmt =>
    obtain ⟨ha, hs⟩ := Bool.and_eq_true_iff.1 h.2
    rw [ha, hs, Bool.or_true]
    rfl
theorem registerWrite_runs {s : State} {path : Path} {o : Fin 335544320} {v : Word32} {en : Fin 16} (h : accessOpen s path = true) :
    exec (.registerWrite path o v en none) s =
      .next (s.barStore path (o.val / 4 * 4) (decide (o.val % 4 = 0) && en.val == 15) v.toNat) := by
  unfold accessOpen at h
  rw [Bool.and_eq_true] at h
  show execRegisterWrite path o v en none s = _
  unfold execRegisterWrite
  rw [h.1]
  cases path with
  | pf => rfl
  | vf v => rfl
  | mgmt =>
    obtain ⟨ha, hs⟩ := Bool.and_eq_true_iff.1 h.2
    rw [ha, hs]
    rfl

theorem accessOpen_of_owner {s : State} {path : Path} (h : ownerAccess s path = true) :
    accessOpen s path = true ∧ s.negotiated path = true ∧ s.openSession path = true := by
  unfold ownerAccess at h
  rw [Bool.and_eq_true, Bool.and_eq_true] at h
  exact ⟨h.1.1, h.1.2, h.2⟩

/-! ### A word of one writable field -/

theorem State.putFields_singleton (s : State) (path : Path) (t : Nat) (e : Fld × Nat) (w : Nat) : s.putFields path t [e] w = s.putField path t e w := by
  unfold State.putFields
  cases h : effectOf e.1 <;>
    simp only [List.filter_cons, List.filter_nil, h, Option.isNone_none, Option.isSome_none, Option.isNone_some, Option.isSome_some, if_true,
      Bool.false_eq_true, if_false, List.append_nil, List.nil_append, List.foldl_cons, List.foldl_nil, Bool.false_or]

/-- A write of a word of one writable field that path, session, lock and set allow is the write of the field. -/
theorem State.pageStore_field {s : State} {path : Path} {t : Nat} {pg : Page} {off w : Nat} {e : Fld × Nat}
    (hat : (pg.at off).filter (fun e => e.1.acc != .ro) = [e]) (hsees : sees path pg off = true) (hbar : vfBar path pg off = .none) (hld : pg ≠ .ld)
    (hneg : pg = .sec ∨ s.negotiated path = true) (hsess : needsSession path pg [e] = false ∨ s.openSession path = true)
    (hlock : s.link.locked = false ∨ e.1.acc ≠ .rwl) (hupd : e.1.upd ≠ .s) :
    s.pageStore path t pg off w = if (s.putField path t e w).2 then (s.putField path t e w).1.refuseWrite path pg t else (s.putField path t e w).1 := by
  have hknown : (pg.at off).isEmpty = false := by
    cases hl : pg.at off with
    | nil => rw [hl] at hat; cases hat
    | cons a l => rfl
  have hstatic : s.staticBad path t [e] w = false := by
    simp only [State.staticBad, List.any_cons, List.any_nil, beq_false_of_ne hupd, Bool.false_and, Bool.or_self]
  have hs : (needsSession path pg [e] && !s.openSession path) = false := by
    rcases hsess with h | h <;> simp [h]
  have hl : (s.link.locked && e.1.acc == .rwl) = false := by
    rcases hlock with h | h <;> simp [h]
  have hn : (!decide (pg = .sec) && !s.negotiated path) = false := by
    rcases hneg with h | h <;> simp [h]
  unfold State.pageStore
  simp only [hat, hknown, hsees, hbar, hld, hn, hs, hl, hstatic, State.putFields_singleton, List.any_cons, List.any_nil, List.isEmpty_cons, Bool.or_false,
    Bool.not_false, Bool.true_or, Bool.not_true, Bool.and_false, Bool.false_and, Bool.and_self, decide_false, decide_not, Bool.false_eq_true, if_false]

/-- An accepted value of a field is stored, and the write is not refused. -/
theorem State.putField_accepts {s : State} {path : Path} {t : Nat} {e : Fld × Nat} {w : Nat} (hacc : e.1.acc = .rw ∨ e.1.acc = .rwl)
    (hv : s.valueBad e.1 e.2 (bits w e.1.hi e.1.lo) w = false) :
    s.putField path t e w = (s.storeField path t e.1 e.2 (bits w e.1.hi e.1.lo) w, false) := by
  unfold State.putField
  rcases hacc with h | h <;> simp only [h, hv, Bool.false_eq_true, if_false]

theorem sees_whole {path : Path} {pg : Page} {off : Nat} (hp : path = .pf ∨ path = .mgmt) (hpg : pg ≠ .pci ∨ (off ≠ 0xC0 ∧ off ≠ 0xC4)) :
    sees path pg off = true := by
  have h : (!(pg == .pci && (off == 0xC0 || off == 0xC4))) = true := by
    rcases hpg with h | ⟨h1, h2⟩
    · rw [beq_false_of_ne h]; rfl
    · rw [beq_false_of_ne h1, beq_false_of_ne h2, Bool.or_self, Bool.and_false]; rfl
  rcases hp with rfl | rfl <;> exact h
theorem vfBar_whole {path : Path} (hp : path = .pf ∨ path = .mgmt) (pg : Page) (off : Nat) : vfBar path pg off = .none := by
  rcases hp with rfl | rfl <;> rfl

/-! ### The registers of the statement -/

theorem wstep_written {s : State} {path : Path} {v : Word32} (hp : path = .pf ∨ path = .mgmt) (ha : ownerAccess s path = true)
    (hlow : 511 ≤ bits v.toNat 15 0) (hbad : s.wstepBad (bits v.toNat 15 0) = false) :
    s.pageStore path 0 .csd 0x48 v.toNat = { s with shadows := s.shadows.put (CSD_WSTEP_LEN.key 0 0) (bits v.toNat 15 0) } := by
  obtain ⟨-, hneg, hsess⟩ := accessOpen_of_owner ha
  have hhigh : bits v.toNat 15 0 ≤ 65535 := Nat.le_of_lt_succ (Nat.mod_lt _ (by decide))
  have hrng : CSD_WSTEP_LEN.rng.ok (bits v.toNat 15 0) = true := by simp [CSD_WSTEP_LEN, Range.ok, hlow, hhigh]
  have hv : s.valueBad CSD_WSTEP_LEN 0 (bits v.toNat 15 0) v.toNat = false := by
    unfold State.valueBad
    rw [hrng, hbad, Bool.and_false]
    rfl
  rw [State.pageStore_field (e := (CSD_WSTEP_LEN, 0)) rfl (sees_whole hp (.inl (by decide))) (vfBar_whole hp ..) (by decide) (.inr hneg) (.inr hsess)
    (.inr (by decide)) (by decide), State.putField_accepts (.inl rfl) hv]
  rcases hp with rfl | rfl <;> rfl

theorem secNeg_written {s : State} {path : Path} (m : Fin 65536) :
    (s.pageStore path 0 .sec 0x80 (m.val * 65536)).reg SEC_NEG_MAJOR (fnOf path) 0 = if m.val = 1 then 1 else 0 := by
  have hb : bits (m.val * 65536) 31 16 = m.val := by
    have := m.isLt
    unfold bits
    rw [Nat.shiftRight_eq_div_pow, Nat.mul_div_cancel _ (by decide)]
    exact Nat.mod_eq_of_lt this
  have hsees : sees path .sec 0x80 = true := by cases path <;> rfl
  have hbar : vfBar path .sec 0x80 = .none := by cases path <;> rfl
  have hsess : needsSession path .sec [(SEC_NEG_MAJOR, 0)] = false := by cases path <;> rfl
  rw [State.pageStore_field (e := (SEC_NEG_MAJOR, 0)) rfl hsees hbar (by decide) (.inl rfl) (.inl hsess) (.inr (by decide)) (by decide)]
  have hvalue : s.valueBad SEC_NEG_MAJOR 0 (bits (m.val * 65536) 31 16) (m.val * 65536) = !decide (m.val = 1) := by
    have hrng : SEC_NEG_MAJOR.rng.ok m.val = decide (m.val = 1) := by
      simp only [SEC_NEG_MAJOR, Range.ok]
      by_cases h : m.val = 1 <;> simp [h]
      omega
    unfold State.valueBad
    rw [hb, hrng]
    exact (Bool.or_false _).trans ((Bool.or_false _).trans (Bool.or_false _))
  by_cases hm : m.val = 1
  · rw [State.putField_accepts (.inl rfl) (hvalue.trans (congrArg not (decide_eq_true hm))), if_pos hm]
    refine (State.reg_setReg_same ..).trans ?_
    exact (congrArg (· % 2 ^ 16) (hb.trans hm)).trans (Nat.mod_eq_of_lt (by decide))
  · have hput : s.putField path 0 (SEC_NEG_MAJOR, 0) (m.val * 65536) = (s.setReg SEC_NEG_MAJOR (fnOf path) 0 0, true) := by
      have hbad := hvalue.trans (congrArg not (decide_eq_false hm))
      show (if s.valueBad SEC_NEG_MAJOR 0 (bits (m.val * 65536) 31 16) (m.val * 65536) then _ else _) = _
      rw [hbad]
      rfl
    rw [hput, if_pos rfl, if_neg hm]
    unfold State.refuseWrite State.addReg
    dsimp only
    rw [State.reg_setReg_other (Fld.key_ne_of_lo (by decide) (by decide) (by decide)), State.reg_setReg_other (Fld.key_ne_of_lo (by decide) (by decide) (by decide)),
      State.reg_setReg_same]
    rfl

@[simp] theorem State.msix_reg (s : State) (fn vec : Nat) (f : Fld) (inst i : Nat) : (s.msix fn vec).reg f inst i = s.reg f inst i := by
  unfold State.msix
  dsimp only
  split <;> rfl
theorem State.setEnable_reg (s : State) (fn v : Nat) : (s.setEnable fn v).reg INT_ENABLE_ENABLE fn 0 = v % 2 ^ 8 := by
  unfold State.setEnable
  refine (foldl_keep (fun a : State => a.reg INT_ENABLE_ENABLE fn 0) (fun a b => ?_) (upTo 8) _).trans (State.reg_setReg_same ..)
  split
  · rw [State.msix_reg]
  · rfl
theorem State.setPen_g (s : State) (i v : Nat) : (s.setPen i v).g INT_PEN_PEN i = v % 2 ^ 32 := by
  unfold State.setPen
  generalize upTo 32 = l
  refine (foldl_keep (fun a : State => a.g INT_PEN_PEN i) (fun a b => ?_) l _).trans (State.g_setG_same ..)
  split
  · unfold State.g
    rw [State.msix_reg]
  · rfl

theorem intEnable_written {s : State} {path : Path} {w : Fin 3} {v : Word32} (hp : path = .pf ∨ path = .mgmt) (ha : ownerAccess s path = true) :
    ∃ u, exec (.intEnableWrite path w v) s = .next u ∧
      if w.val = 0 then u.reg INT_ENABLE_ENABLE 0 0 = bits v.toNat 7 0 else u.g INT_PEN_PEN (w.val - 1) = v.toNat := by
  obtain ⟨hopen, hneg, hsess⟩ := accessOpen_of_owner ha
  refine ⟨_, hostStore_runs hopen, ?_⟩
  have hstore : ∀ (f : Fld) (i off : Nat), ((Page.int.at off).filter (fun e => e.1.acc != .ro) = [(f, i)]) → f.acc = .rw → f.upd ≠ .s →
      s.valueBad f i (bits v.toNat f.hi f.lo) v.toNat = false → s.pageStore path 0 .int off v.toNat = s.storeField path 0 f i (bits v.toNat f.hi f.lo) v.toNat :=
    fun f i off hat hacc hupd hv => by
      rw [State.pageStore_field hat (sees_whole hp (.inl (by decide))) (vfBar_whole hp ..) (by decide) (.inr hneg) (.inr hsess)
        (.inr (by rw [hacc]; decide)) hupd, State.putField_accepts (.inl hacc) hv]
      rfl
  have hpen : ∀ i, i < 2 → (s.pageStore path 0 .int (0x50 + 4 * i) v.toNat).g INT_PEN_PEN i = v.toNat := fun i hi => by
    have hat : (Page.int.at (0x50 + 4 * i)).filter (fun e => e.1.acc != .ro) = [(INT_PEN_PEN, i)] := by
      match i, hi with
      | 0, _ => rfl
      | 1, _ => rfl
    rw [hstore INT_PEN_PEN i _ hat rfl (by decide) rfl]
    refine (State.setPen_g ..).trans ?_
    exact (Nat.mod_mod ..).trans (Nat.mod_eq_of_lt v.isLt)
  match w with
  | 0 =>
    show (s.pageStore path 0 .int 0x44 v.toNat).reg INT_ENABLE_ENABLE 0 0 = bits v.toNat 7 0
    rw [hstore INT_ENABLE_ENABLE 0 0x44 rfl rfl (by decide) rfl]
    have hset : (s.setEnable 0 (bits v.toNat 7 0)).reg INT_ENABLE_ENABLE 0 0 = bits v.toNat 7 0 := (State.setEnable_reg ..).trans (Nat.mod_mod ..)
    rcases hp with rfl | rfl <;> exact hset
  | 1 => exact hpen 0 (by decide)
  | 2 => exact hpen 1 (by decide)

theorem errInject_arms {s : State} {path : Path} {kind : Fin 256} {pg : Page} {t : Nat} (hp : path = .pf ∨ path = .mgmt) (hneg : s.negotiated path = true)
    (hsess : s.openSession path = true) (hlock : s.link.locked = false) (hk : (injectKinds pg).contains kind.val = true) :
    (s.pageStore path t pg 0x20 kind.val).reg (HDR_ERR_INJECT pg) (if pg.isTile then t else 0) 0 = kind.val := by
  have hld : pg ≠ .ld := by
    rintro rfl
    exact absurd hk (by simp [injectKinds])
  have hat : (pg.at 0x20).filter (fun e => e.1.acc != .ro) = [(HDR_ERR_INJECT pg, 0)] := by
    cases pg <;> rfl
  have hbits : bits kind.val 7 0 = kind.val := Nat.mod_eq_of_lt kind.isLt
  have hv : s.valueBad (HDR_ERR_INJECT pg) 0 (bits kind.val 7 0) kind.val = false := by
    cases pg <;> rfl
  have hstore : s.storeField path t (HDR_ERR_INJECT pg) 0 (bits kind.val 7 0) kind.val = s.arm path t pg (bits kind.val 7 0) := by
    cases pg <;> rfl
  rw [State.pageStore_field hat (sees_whole hp (.inr (by decide))) (vfBar_whole hp ..) hld (.inr hneg) (.inr hsess) (.inl hlock) (by decide : UpdClass.l ≠ .s),
    State.putField_accepts (.inr rfl) hv]
  show (s.storeField path t (HDR_ERR_INJECT pg) 0 (bits kind.val 7 0) kind.val).reg _ _ _ = _
  rw [hstore, hbits]
  unfold State.arm
  rw [if_pos (by rw [hk, Bool.or_true])]
  exact (State.reg_setReg_same ..).trans (Nat.mod_eq_of_lt kind.isLt)

/-! ### Reads -/

theorem State.pageRead_out (s : State) (path : Path) (t : Nat) (pg : Page) (off : Nat) : (s.pageRead path t pg off).2.out = s.out := by
  unfold State.pageRead
  extract_lets fn v u
  have hcopy : u.out = s.out := by
    unfold u State.copyRecord
    exact foldl_keep (f := fun (s : State) (e : Nat × Nat) => s.setReg ERR_LOG_DATA (fnOf path) e.2 e.1) State.out (fun _ _ => rfl) _ s
  split
  · exact hcopy
  · split
    · rfl
    · split
      · split <;> rfl
      · split <;> rfl

theorem State.logWords_length (s : State) (path : Path) (n : Nat) : (s.logWords path n).length = 8 := by
  unfold State.logWords
  extract_lets zeros
  split
  · rfl
  · split
    · split <;> rfl
    · rfl
    · rfl

/-- Words stored one after another read back. -/
theorem State.copyWords_reg (f : Fld) (fn : Nat) (hf : ∀ i j, i ≠ j → f.key fn i ≠ f.key fn j) : ∀ (l : List Nat) (k : Nat) (s : State) (i : Nat),
    i < l.length → ((l.zipIdx k).foldl (fun (s : State) e => s.setReg f fn e.2 e.1) s).reg f fn (k + i) = l.getD i 0 % 2 ^ f.width := by
  intro l
  induction l with
  | nil => exact fun k s i hi => absurd hi (Nat.not_lt_zero i)
  | cons a l ih =>
    intro k s i hi
    rw [List.zipIdx_cons, List.foldl_cons]
    cases i with
    | zero =>
      refine Eq.trans ?_ (State.reg_setReg_same (s := s) (inst := fn) (i := k) ..)
      refine foldl_keep_mem (fun u : State => u.reg f fn k) _ (fun u e he => State.reg_setReg_other (hf _ _ ?_)) _
      have := List.snd_lt_of_mem_zipIdx he
      have := List.le_snd_of_mem_zipIdx he
      omega
    | succ i =>
      rw [show k + (i + 1) = k + 1 + i by omega]
      exact ih (k + 1) _ i (Nat.lt_of_succ_lt_succ hi)

theorem State.nextRecord_logIdx (s : State) (fn : Nat) : (s.nextRecord fn).logIdx fn = (s.logIdx fn + 1) % 2 ^ 64 := by
  unfold State.nextRecord
  extract_lets n
  unfold State.logIdx
  rw [State.reg_setReg_same, State.reg_setReg_other (by simp only [Fld.key, Fld.offset, ERR_LOG_IDX]; omega), State.reg_setReg_same]
  show half n 0 % 2 ^ 32 + half n 1 % 2 ^ 32 * 2 ^ 32 = n % 2 ^ 64
  unfold half
  omega

/-- Reads of DATA0 and DATA7 act on the log registers. -/
theorem State.pageRead_data0 (s : State) (path : Path) : (s.pageRead path 0 .err 0x80).2 = s.copyRecord path := by
  unfold State.pageRead
  rfl
theorem State.pageRead_data7 (s : State) (path : Path) : (s.pageRead path 0 .err 0x9C).2 = s.nextRecord (fnOf path) := by
  unfold State.pageRead
  rfl

theorem State.emit_reg (s : State) (o : Out) (f : Fld) (inst i : Nat) : (s.emit o).reg f inst i = s.reg f inst i := rfl
theorem State.emit_logIdx (s : State) (o : Out) (fn : Nat) : (s.emit o).logIdx fn = s.logIdx fn := rfl
theorem State.placeRead_page (s : State) (path : Path) (pg : Page) (off : Nat) : s.placeRead path (.page pg off) = s.pageRead path 0 pg off := rfl

theorem logReads {path : Path} {s : State} (ha : accessOpen s path = true) :
    (∃ u, exec (.errLogData0Read path) s = .next u ∧ ∀ i, i < 8 →
      u.reg ERR_LOG_DATA (fnOf path) i = (s.logWords path (s.logIdx (fnOf path))).getD i 0 % 2 ^ 32) ∧
    (∃ u, exec (.errLogData7Read path) s = .next u ∧ u.logIdx (fnOf path) = (s.logIdx (fnOf path) + 1) % 2 ^ 64) := by
  refine ⟨⟨_, hostRead_runs (x := .page .err 0x80) ha, fun i hi => ?_⟩, _, hostRead_runs (x := .page .err 0x9C) ha, ?_⟩
  · have h := State.copyWords_reg ERR_LOG_DATA (fnOf path) (fun i j hij => by simp only [Fld.key, Fld.offset, ERR_LOG_DATA]; omega)
      (s.logWords path (s.logIdx (fnOf path))) 0 s i (by rw [State.logWords_length]; exact hi)
    rw [Nat.zero_add] at h
    rw [State.emit_reg, State.placeRead_page, State.pageRead_data0]
    exact h
  · rw [State.emit_logIdx, State.placeRead_page, State.pageRead_data7]
    exact State.nextRecord_logIdx s (fnOf path)

theorem splitCount_latches {path : Path} {s : State} {o : Fin 67108864} {pg : Page} {off h : Nat} (ha : accessOpen s path = true)
    (hplace : s.regPlace path (o.val / 4 * 4) = .page pg off) (hhi : hiOf pg off = some h) (hsees : sees path pg off = true) :
    ∃ u, exec (.splitCountLoRead path o) s = .next u ∧ u.latch.get? (latchKey (fnOf path) pg h) = some (s.pageWord path 0 pg h) ∧
      u.out = .readData (bytesOf 4 (s.pageWord path 0 pg off)) false :: s.out := by
  have hlog : (pg == .err && off == 0x80) = false ∧ (pg == .err && off == 0x9C) = false := by
    by_cases hpg : pg = .err
    · subst hpg
      have hoff : off = 0x70 := by
        unfold hiOf at hhi
        refine Classical.byContradiction fun hne => ?_
        simp [hne] at hhi
      subst hoff
      exact ⟨rfl, rfl⟩
    · rw [beq_false_of_ne hpg]
      exact ⟨rfl, rfl⟩
  have hread : s.placeRead path (.page pg off) =
      (s.pageWord path 0 pg off, { s with latch := s.latch.put (latchKey (fnOf path) pg h) (s.pageWord path 0 pg h) }) := by
    show s.pageRead path 0 pg off = _
    unfold State.pageRead
    simp only [hlog.1, hlog.2, hhi, hsees, Bool.false_eq_true, if_false, if_true]
  have hrun : exec (.splitCountLoRead path o) s = s.hostRead path (.page pg off) := by
    show execSplitCountLoRead path o s = _
    unfold execSplitCountLoRead
    rw [hplace]
    exact if_pos (congrArg Option.isSome hhi)
  refine ⟨_, hrun.trans (hostRead_runs ha), ?_, ?_⟩
  · rw [hread]
    exact Map.get?_put_same ..
  · rw [hread]
    rfl

/-! ### Messages of the management bus -/

theorem mgmtAccess_runs {s : State} {o : Fin 67108864} (ha : accessOpen s .mgmt = true) :
    (∀ v, exec (.mgmtRegisterAccess 1 o (some v)) s =
      .next (s.placeStore .mgmt (s.regPlace .mgmt (o.val / 4 * 4)) (decide (o.val % 4 = 0)) v.toNat)) ∧
    exec (.mgmtRegisterAccess 1 o none) s = s.hostRead .mgmt (s.regPlace .mgmt (o.val / 4 * 4)) ∧
    ∀ (ver : Fin 65536) (w : Option Word32), ver.val ≠ 1 → exec (.mgmtRegisterAccess ver o w) s = .next ((s.secRecord 0x7002).refuseMessage) := by
  have hup : (!s.pathUp .mgmt) = false := by
    unfold accessOpen at ha
    rw [(Bool.and_eq_true_iff.1 ha).1]
    rfl
  refine ⟨fun v => Eq.trans ?_ (hostStore_runs ha), ?_, fun ver w hver => ?_⟩
  · show execMgmtRegisterAccess 1 o (some v) s = _
    unfold execMgmtRegisterAccess
    simp only [hup, Bool.false_eq_true, if_false]
    rfl
  · show execMgmtRegisterAccess 1 o none s = _
    unfold execMgmtRegisterAccess
    simp only [hup, Bool.false_eq_true, if_false]
    rfl
  · show execMgmtRegisterAccess ver o w s = _
    unfold execMgmtRegisterAccess
    simp only [hup, Bool.false_eq_true, if_false]
    exact if_pos hver

theorem vfEnable_written {q : Part} {v : Word32} {s : State} (ha : accessOpen s (.vf q) = true) (hneg : s.negotiated (.vf q) = true) :
    ∃ u, exec (.intEnableWrite (.vf q) 0 v) s = .next u ∧ u.reg INT_ENABLE_ENABLE (q.val + 1) 0 = Nat.land (bits v.toNat 7 0) 6 := by
  refine ⟨_, hostStore_runs ha, ?_⟩
  show (s.pageStore (.vf q) 0 .int 0x44 v.toNat).reg _ _ _ = _
  rw [State.pageStore_field (e := (INT_ENABLE_ENABLE, 0)) rfl rfl rfl (by decide) (.inr hneg) (.inl rfl) (.inr (by decide)) (by decide),
    State.putField_accepts (.inl rfl) rfl]
  refine (State.setEnable_reg s (q.val + 1) (Nat.land (bits v.toNat 7 0) 6)).trans (Nat.mod_eq_of_lt ?_)
  exact Nat.lt_of_le_of_lt Nat.and_le_right (by decide)

/-- Settles O58: the accesses reach the module, their places are those of BAR0 and BAR2, and each word written holds one field. -/
theorem registerAccesses : Obligations.RegisterAccesses := by
  unfold Obligations.RegisterAccesses
  refine ⟨fun path v s hp ha hlow hbad => ?_, fun path o v en pg off s ha hen hlt hplace => ?_, fun o k v s ha ho hk => ?_, fun o s pg off ha hplace => ?_,
    fun path m s ha => ⟨_, hostStore_runs ha, secNeg_written m⟩, fun path w v s hp ha => intEnable_written hp ha, fun q v s ha hneg => vfEnable_written ha hneg,
    fun path kind pg s hp ha hlock hk => ?_, fun path s ha => ?_⟩
  · have hopen := (accessOpen_of_owner ha).1
    have hbar : exec (.registerWrite path 0x8048 v 15 none) s = .next (s.pageStore path 0 .csd 0x48 v.toNat) := by
      refine (registerWrite_runs hopen).trans (congrArg Host.Outcome.next ?_)
      rcases hp with rfl | rfl <;> rfl
    have hmgmt : path = .mgmt → exec (.mgmtRegisterAccess 1 0x8048 (some v)) s = .next (s.pageStore path 0 .csd 0x48 v.toNat) := by
      rintro rfl
      exact (mgmtAccess_runs hopen).1 v
    rw [wstep_written hp ha hlow hbad] at hbar hmgmt
    exact ⟨⟨_, hbar, Map.get?_put_same .., rfl⟩, fun hm => ⟨_, hmgmt hm, Map.get?_put_same .., rfl⟩⟩
  · rw [registerWrite_runs ha, beq_false_of_ne hen, Bool.and_false]
    unfold State.barStore
    rw [if_pos (by omega), hplace]
    rfl
  · have hoff : o.val / 4 * 4 = 0x8000000 + 4 * k := by omega
    rw [registerWrite_runs ha, hoff, decide_eq_true (by omega)]
    have hplace : s.bar2Place .pf (0x8000000 + 4 * k - 67108864) = .page ((0x8000000 + 4 * k - 67108864 - 0x4000000) / 8)
        ((0x8000000 + 4 * k - 67108864) / 4 % 2) := by
      unfold State.bar2Place
      dsimp only
      rw [if_neg (by omega), if_pos (by omega)]
    unfold State.barStore State.bar2Store
    rw [if_neg (by omega), if_neg (by decide), hplace]
    rfl
  · obtain ⟨-, hread, hver⟩ := mgmtAccess_runs (o := o) ha
    refine ⟨⟨_, hread.trans (hostRead_runs ha), ?_⟩, fun ver w h => ⟨_, hver ver w h, State.record_logTail .., rfl⟩⟩
    rw [hplace]
    exact congrArg (_ :: ·) (State.pageRead_out ..)
  · obtain ⟨hopen, hneg, hsess⟩ := accessOpen_of_owner ha
    have harm : ∀ t, (s.pageStore path t pg 0x20 kind.val).reg (HDR_ERR_INJECT pg) (if pg.isTile then t else 0) 0 = kind.val := fun t =>
      errInject_arms hp hneg hsess hlock hk
    have hfn : fnOf path = 0 := by rcases hp with rfl | rfl <;> rfl
    refine ⟨fun k hpg => ⟨_, hostStore_runs hopen, ?_⟩, fun t k hpg hup hres => ⟨_, hostStore_runs hopen, ?_⟩⟩
    · have hnot : pg.isTile = false := (by decide : ∀ pg ∈ globalPages, pg.isTile = false) pg (List.mem_of_getElem? hpg)
      have hplace : s.namedPlace path (.global k) 0x20 = .page pg 0x20 := by
        unfold State.namedPlace
        simp only [hpg, hfn]
        rfl
      rw [hplace]
      have h := harm 0
      rw [hnot] at h
      exact h
    · have hnot : pg.isTile = true := (by decide : ∀ pg ∈ tilePages, pg.isTile = true) pg (List.mem_of_getElem? hpg)
      have hplace : s.namedPlace path (.tile t k) 0x20 = .tile t.val pg 0x20 := by
        unfold State.namedPlace
        simp only [hpg, hup]
        rfl
      have h := harm t.val
      rw [hnot] at h
      rw [hplace]
      unfold State.placeStore
      simp only [hfn, hres]
      exact h
  · obtain ⟨h0, h7⟩ := logReads ha
    exact ⟨h0, h7, fun o pg off h hplace hhi hsees => splitCount_latches ha hplace hhi hsees⟩

end Sys2Proof.Machine
end

section
/-! PROOF. Lists in groups, the registers of the vector engine and its lane and whole-register commands (04 R90, R91, R101, R103): O17 and O18. -/

namespace Sys2Proof.Machine

open Sys2Proof Sys2Proof.Safety

/-! ### Lists in groups -/

/-- A group is the stretch of the list at its number. -/
theorem chunksOf_getElem? {α : Type} {k : Nat} (hk : 0 < k) : ∀ (n : Nat) (l : List α) (g : Nat), l.length ≤ n →
    (chunksOf k n l)[g]? = if k * g < l.length then some ((l.drop (k * g)).take k) else none := by
  intro n
  induction n with
  | zero =>
    intro l g h
    rw [if_neg (by omega)]
    rfl
  | succ n ih =>
    intro l g h
    unfold chunksOf
    cases l with
    | nil => rfl
    | cons a l =>
      rw [List.isEmpty_cons, if_neg Bool.false_ne_true]
      cases g with
      | zero => rw [Nat.mul_zero, if_pos (by simp)]; rfl
      | succ g =>
        have hlen : ((a :: l).drop k).length = (a :: l).length - k := List.length_drop ..
        rw [List.getElem?_cons_succ, ih _ g (by rw [hlen]; simp at h ⊢; omega), hlen, List.drop_drop, Nat.mul_succ]
        have hc : (k * g < (a :: l).length - k) ↔ (k * g + k < (a :: l).length) := by omega
        simp only [hc, Nat.add_comm k (k * g)]
/-- A list of whole groups has so many. -/
theorem chunksOf_length {α : Type} {k : Nat} (hk : 0 < k) : ∀ (m n : Nat) (l : List α), l.length = k * m → m ≤ n → (chunksOf k n l).length = m := by
  intro m
  induction m with
  | zero =>
    intro n l h _
    rw [List.eq_nil_of_length_eq_zero h]
    cases n <;> rfl
  | succ m ih =>
    intro n l h hn
    obtain ⟨n, rfl⟩ : ∃ n', n = n' + 1 := ⟨n - 1, by omega⟩
    have hne : l.isEmpty = false := by
      cases l with
      | nil =>
        rw [List.length_nil, Nat.mul_succ] at h
        omega
      | cons a l => rfl
    unfold chunksOf
    rw [hne, if_neg Bool.false_ne_true, List.length_cons, ih n (l.drop k) (by rw [List.length_drop, h, Nat.mul_succ, Nat.add_sub_cancel]) (by omega)]

/-- Each value of a list is put at its number and stays there. -/
theorem foldl_zipIdx_at {σ α γ : Type} {f : σ → α × Nat → σ} {read : σ → Nat → γ} {val : α → γ} (hset : ∀ x a k, read (f x (a, k)) k = val a)
    (hkeep : ∀ x a k j, j ≠ k → read (f x (a, k)) j = read x j) : ∀ (l : List α) (k : Nat) (x : σ) (i : Nat) (a : α), l[i]? = some a →
    read ((l.zipIdx k).foldl f x) (k + i) = val a := by
  intro l
  induction l with
  | nil => exact fun k x i a h => nomatch h
  | cons b l ih =>
    intro k x i a h
    rw [List.zipIdx_cons, List.foldl_cons]
    cases i with
    | zero =>
      cases h
      refine Eq.trans ?_ (hset x b k)
      refine foldl_keep_mem (fun y => read y k) _ (fun y e he => hkeep _ _ _ _ ?_) _
      have := List.le_snd_of_mem_zipIdx he
      omega
    | succ i =>
      rw [show k + (i + 1) = k + 1 + i by omega]
      exact ih (k + 1) _ i a h

/-! ### Registers of the vector engine -/

theorem upTo_length (n : Nat) : (upTo n).length = n := List.length_range
theorem vr_length (x : TileSt) (r : Nat) : (x.vr r).length = 32 := by
  unfold TileSt.vr
  rw [List.length_map, upTo_length]
/-- A full register reads back its words. -/
theorem vr_of_vreg {x : TileSt} {r : Nat} {l : List Nat} (h : x.vreg.get r [] = l) (hl : l.length = 32) : x.vr r = l.map (· % 2 ^ 32) := by
  unfold TileSt.vr
  rw [h]
  refine List.ext_getElem ?_ fun j h1 h2 => ?_
  · rw [List.length_map, List.length_map, upTo_length, hl]
  · rw [List.getElem_map, List.getElem_map]
    have hj : (upTo 32)[j]'(by rw [List.length_map] at h1; exact h1) = j := List.getElem_range ..
    rw [hj, List.getD_eq_getElem?_getD, List.getElem?_eq_getElem (by rw [List.length_map] at h2; exact h2)]
    rfl

section
variable (x : TileSt) (r : Nat) (l : List Nat) (bad trb : Bool) (c lat : Nat)

theorem putV_vr_same (hl : l.length = 32) : (x.putV r l bad trb c lat).vr r = l.map (· % 2 ^ 32) := by
  refine vr_of_vreg ?_ hl
  exact congrArg (Option.getD · []) (Map.get?_put_same ..)
theorem putV_vr_other {q : Nat} (h : q ≠ r) : (x.putV r l bad trb c lat).vr q = x.vr q := by
  unfold TileSt.vr
  have hget : (x.putV r l bad trb c lat).vreg.get q [] = x.vreg.get q [] := by
    unfold Map.get TileSt.putV
    exact congrArg (Option.getD · []) ((Map.get?_put ..).trans (if_neg h.symm))
  rw [hget]
theorem putV_vPoison_same : (x.putV r l bad trb c lat).vPoison.mem r = bad := NatSet.mem_upd_same ..
theorem putV_vPoison_other {q : Nat} (h : q ≠ r) : (x.putV r l bad trb c lat).vPoison.mem q = x.vPoison.mem q := by
  unfold TileSt.putV NatSet.upd
  cases bad
  · exact (Map.has_del ..).trans (by simp [h.symm]; rfl)
  · exact (NatSet.mem_add ..).trans (by simp [h.symm])
end

theorem vD_lt (w : Nat) : vD w < 32 := Nat.mod_lt _ (by decide)

/-! ### Lanes -/

theorem bytesOf_length (n v : Nat) : (bytesOf n v).length = n := by
  induction n generalizing v with
  | zero => rfl
  | succ n ih => exact congrArg (· + 1) (ih _)
theorem wordBytes_length (l : List Nat) : (l.flatMap (bytesOf 4)).length = 4 * l.length := by
  induction l with
  | nil => rfl
  | cons a l ih => rw [List.flatMap_cons, List.length_append, ih, bytesOf_length, List.length_cons]; omega

theorem flatMap_pair_length {α β : Type} (f g : α → β) (l : List α) : (l.flatMap (fun a => [f a, g a])).length = 2 * l.length := by
  induction l with
  | nil => rfl
  | cons a l ih => rw [List.flatMap_cons, List.length_append, ih, List.length_cons]; simp; omega
theorem bfLanes_length (l : List Nat) : (bfLanes l).length = 2 * l.length :=
  flatMap_pair_length _ _ l
theorem packBf_length {l : List Nat} {n : Nat} (h : l.length = 2 * n) : (packBf l).length = n := by
  unfold packBf
  rw [List.length_map, chunksOf_length (by decide) n _ _ (by rw [List.length_map, h]) (by omega)]
theorem lanes3_length {ty : Nat} {f g : Nat → Nat → Nat → Nat} {a b c : List Nat} {n : Nat} (ha : a.length = n) (hb : b.length = n) (hc : c.length = n) :
    (lanes3 ty f g a b c).length = n := by
  unfold lanes3
  dsimp only
  have hz : ∀ (h : Nat → Nat → Nat → Nat) (a b c : List Nat) (m : Nat), a.length = m → b.length = m → c.length = m →
      ((a.zip (b.zip c)).map (fun e => h e.1 e.2.1 e.2.2)).length = m := fun h a b c m ha hb hc => by
    rw [List.length_map, List.length_zip, List.length_zip, ha, hb, hc, Nat.min_self, Nat.min_self]
  split
  · exact packBf_length (hz _ _ _ _ _ (by rw [bfLanes_length, ha]) (by rw [bfLanes_length, hb]) (by rw [bfLanes_length, hc]))
  · split
    · exact hz _ _ _ _ _ ha hb hc
    · exact hz _ _ _ _ _ ha hb hc
theorem reduceLanes_length (ty : Nat) (mx : Bool) {l : List Nat} : (reduceLanes ty mx l).length = l.length := by
  unfold reduceLanes
  split
  · rw [List.length_map]
  · dsimp only
    split
    · exact packBf_length (by rw [List.length_map, bfLanes_length])
    · rw [List.length_map]
theorem rotate_length (half : Bool) (l cs ss : List Nat) : (rotate half l cs ss).length = l.length := by
  unfold rotate
  rw [List.length_map, upTo_length]
theorem rotLanes_length (ty : Nat) (half : Bool) (a b c : List Nat) : (rotLanes ty half a b c).length = a.length := by
  unfold rotLanes
  split
  · exact packBf_length (by rw [rotate_length, bfLanes_length])
  · split
    · rw [List.length_map]
    · exact rotate_length ..

/-! ### The commands -/

/-- The lane operation runs on the registers that it names. -/
theorem exec_laneOp {i : Issue} {s : State} (op : LaneOp) (h : issuable s i 2) (ho : bits i.word.toNat 63 58 = op.opc) (ht : vTy i.word.toNat ≠ 3)
    (hf : vectorFree s i (op.sources i.word.toNat ++ [vD i.word.toNat])) :
    ∃ lat, exec (op.command i) s = .next (State.vLanes i (op.sources i.word.toNat) lat op.float op.int (seen s i)) := by
  have hd : ∀ r ∈ [vD i.word.toNat], r < 32 := fun r hr => by rw [List.mem_singleton.1 hr]; exact vD_lt _
  cases op <;> exact ⟨_, vExec_runs h ho ht hd hf⟩

/-- Settles O17: every lane operation writes VD from the registers as they stood. -/
theorem vectorLaneArithmetic : Obligations.VectorLaneArithmetic := by
  unfold Obligations.VectorLaneArithmetic
  intro i s op h ho ht hf
  obtain ⟨lat, hrun⟩ := exec_laneOp op h ho ht hf
  have hl := fun f g => lanes3_length (ty := vTy i.word.toNat) (f := f) (g := g) (vr_length (s.tile i.tile.val) (vA i.word.toNat))
    (vr_length (s.tile i.tile.val) (vB i.word.toNat)) (vr_length (s.tile i.tile.val) (vC i.word.toNat))
  refine ⟨_, hrun, ?_, ?_, fun r hr => ?_, fun a => rfl, ?_⟩
  all_goals unfold State.vLanes
  · rw [State.tile_updTile_same, tile_seen]
    exact putV_vr_same _ _ _ _ _ _ _ (hl ..)
  · rw [State.tile_updTile_same, tile_seen]
    exact putV_vPoison_same ..
  · rw [State.tile_updTile_same, tile_seen]
    exact ⟨putV_vr_other _ _ _ _ _ _ _ hr, putV_vPoison_other _ _ _ _ _ _ _ hr⟩
  · exact ⟨rfl, rfl, rfl, rfl, rfl, rfl, rfl, rfl, rfl, rfl, rfl, rfl, rfl, rfl, rfl, rfl, rfl⟩

/-- The lane that a broadcast fills: the immediate, or its low half twice. -/
theorem broadcast_lane (ty v : Nat) : (if ty = 1 then bits v 31 0 % 65536 * 65537 else bits v 31 0) % 2 ^ 32 =
    if ty = 1 then bits v 15 0 * 65537 else bits v 31 0 := by
  unfold bits
  simp only [Nat.shiftRight_zero]
  split
  · show v % 4294967296 % 65536 * 65537 % 4294967296 = v % 65536 * 65537
    rw [Nat.mod_mod_of_dvd v (by decide : 65536 ∣ 4294967296)]
    have := Nat.mod_lt v (by decide : 0 < 65536)
    exact Nat.mod_eq_of_lt (by omega)
  · exact Nat.mod_mod ..

/-- The conversions of Table 4-9 fill their registers. -/
theorem cvt_length (x : TileSt) {w : Nat} (hk : vImm w % 16 < 7) : (x.cvt w).1.length = 32 * (cvtDst w).length := by
  have ha := vr_length x (vA w)
  have hb := vr_length x (vB w)
  have hbytes : (((x.vr (vA w)).flatMap (bytesOf 4)).take 64).length = 64 := by
    rw [List.length_take, wordBytes_length, ha]
    rfl
  unfold TileSt.cvt cvtDst
  rw [List.length_map, upTo_length]
  generalize vImm w % 16 = k at hk ⊢
  match k, hk with
  | 0, _ => exact (List.length_map ..).trans hbytes
  | 1, _ => exact (flatMap_pair_length _ _ _).trans (congrArg (2 * ·) hbytes)
  | 2, _ => exact (List.length_map ..).trans ha
  | 3, _ => exact (List.length_take ..).trans (by rw [bfLanes_length, ha]; rfl)
  | 4, _ => exact packBf_length (n := 32) (by rw [List.length_append, ha, hb])
  | 5, _ => exact (List.length_map ..).trans ha
  | 6, _ => exact (List.length_map ..).trans ha

/-- Registers of a list hold its stretches. -/
theorem putRegs_vr (x : TileSt) (vd : Nat) (l : List Nat) (bad trb : Bool) (c lat g : Nat) (hg : 32 * (g + 1) ≤ l.length) :
    (putRegs x vd l bad trb c lat).vr (vd + g) = ((l.drop (32 * g)).take 32).map (· % 2 ^ 32) := by
  have hgroup : (chunksOf 32 l.length l)[g]? = some ((l.drop (32 * g)).take 32) := (chunksOf_getElem? (by decide) _ l g (Nat.le_refl _)).trans (if_pos (by omega))
  have hget : (putRegs x vd l bad trb c lat).vreg.get (vd + g) [] = (l.drop (32 * g)).take 32 := by
    have h := foldl_zipIdx_at (f := fun (x : TileSt) (g : List Nat × Nat) => x.putV (vd + g.2) g.1 bad trb c lat) (read := fun x k => x.vreg.get (vd + k) [])
      (val := id) (fun x a k => congrArg (Option.getD · []) (Map.get?_put_same ..))
      (fun x a k j hj => congrArg (Option.getD · []) ((Map.get?_put ..).trans (if_neg (by omega)))) _ 0 x g _ hgroup
    rw [Nat.zero_add] at h
    exact h
  exact vr_of_vreg hget (by rw [List.length_take, List.length_drop]; omega)

/-- Settles O18: each command's result fills 32 words of every register that it names. -/
theorem vectorWholeRegisterCommands : Obligations.VectorWholeRegisterCommands := by
  unfold Obligations.VectorWholeRegisterCommands
  have hd : ∀ i : Issue, ∀ r ∈ [vD i.word.toNat], r < 32 := fun i r hr => by rw [List.mem_singleton.1 hr]; exact vD_lt _
  refine ⟨fun i s h ho ht hf => ⟨_, vExec_runs (src := []) h ho ht (hd i) hf, fun j hj => ?_⟩, fun i s h ho ht hf => ⟨_, vExec_runs (src := [vA i.word.toNat]) h ho ht (hd i) hf, ?_⟩,
    fun i s h ho ht hf => ⟨_, vExec_runs (src := [vA i.word.toNat, vB i.word.toNat, vC i.word.toNat]) h ho ht (hd i) hf, ?_⟩, fun i s h ho ht hk hd hf => ?_⟩
  · rw [State.tile_updTile_same, putV_vr_same _ _ _ _ _ _ _ (List.length_replicate ..), List.map_replicate, List.getD_eq_getElem?_getD,
      List.getElem?_replicate, if_pos hj, Option.getD_some]
    exact broadcast_lane ..
  · rw [State.tile_updTile_same, tile_seen]
    exact putV_vr_same _ _ _ _ _ _ _ ((reduceLanes_length ..).trans (vr_length ..))
  · rw [State.tile_updTile_same, tile_seen]
    exact putV_vr_same _ _ _ _ _ _ _ ((rotLanes_length ..).trans (vr_length ..))
  · have hlen := cvt_length (s.tile i.tile.val) hk
    have hform : decide (7 ≤ vImm i.word.toNat % 16) = false := decide_eq_false (Nat.not_le.2 hk)
    refine ⟨_, (congrArg (fun b => s.vExec i 0x10 b (cvtSrc i.word.toNat) (cvtDst i.word.toNat) _) hform).trans (vExec_runs h ho ht hd hf), fun g hg => ?_⟩
    rw [State.tile_updTile_same, tile_seen]
    refine putRegs_vr _ _ _ _ _ _ _ _ (Nat.le_trans ?_ (Nat.le_of_eq hlen.symm))
    omega

end Sys2Proof.Machine
end

section
/-! PROOF. The Aqueduct ports: training, flits, acknowledgements and lanes (14 R357 to R361): O55. -/

namespace Sys2Proof.Machine

open Sys2Proof Sys2Proof.Safety

/-! ### What a port's operations leave of its state and status -/

@[simp] theorem State.aport_updPort_same (s : State) (n : Nat) (f : AqdPort → AqdPort) : (s.updPort n f).aport n = f (s.aport n) := Map.get_put_same ..
@[simp] theorem State.aport_setG (s : State) (f : Fld) (i v n : Nat) : (s.setG f i v).aport n = s.aport n := rfl
@[simp] theorem State.aport_addReg (s : State) (f : Fld) (j i d n : Nat) : (s.addReg f j i d).aport n = s.aport n := rfl
@[simp] theorem State.aport_linkRecord (s : State) (code port lane n : Nat) : (s.linkRecord code port lane).aport n = s.aport n :=
  State.record_link _ _ (fun l => l.ports.get n AqdPort.clear) fun _ _ => rfl
theorem State.addReg_g {s : State} {f k : Fld} {i j d : Nat} (h : f.key 0 i ≠ k.key 0 j) : (s.addReg f 0 i d).g k j = s.g k j :=
  State.reg_setReg_other h

/-- A field of the Aqueduct page that lies in the status word of a port, above the port number. -/
def Fld.portStatus (f : Fld) : Prop := f.page = .aqd ∧ f.off = 0x400 ∧ f.stride = 0x10 ∧ 25 < f.lo ∧ f.lo < 32

theorem Fld.portStatus.page_ne {f : Fld} (hf : f.portStatus) {n : Nat} (hn : n < 56) :
    f.key 0 n / 2 ^ 33 ≠ Page.int.code ∧ f.key 0 n / 2 ^ 33 ≠ Page.err.code := by
  obtain ⟨hp, ho, hs, hl, hl'⟩ := hf
  have he : f.key 0 n / 2 ^ 33 = Page.aqd.code := by
    simp only [Fld.key, Fld.offset, hp, ho, hs, Page.code]
    omega
  rw [he]
  decide
theorem Fld.portStatus.key_ne {f g : Fld} (hf : f.portStatus) (hg : g.lo ≤ 25) {inst i n : Nat} : g.key inst i ≠ f.key 0 n :=
  Fld.key_ne_of_lo (Nat.lt_of_le_of_lt hg (by decide)) hf.2.2.2.2 (Nat.ne_of_lt (Nat.lt_of_le_of_lt hg hf.2.2.2.1))

theorem portStatus_state : AQD_PSTAT_STATE.portStatus := by unfold Fld.portStatus; decide
theorem portStatus_peerOk : AQD_PSTAT_PEER_OK.portStatus := by unfold Fld.portStatus; decide
theorem portStatus_spare : AQD_PSTAT_SPARE_USED.portStatus := by unfold Fld.portStatus; decide

theorem State.linkRecord_status {s : State} {f : Fld} (hf : f.portStatus) {code port lane n : Nat} (hn : n < 56) :
    (s.linkRecord code port lane).g f n = s.g f n := by
  obtain ⟨h1, h2⟩ := hf.page_ne hn
  exact State.record_g rfl h1 h2

theorem State.resetReg_g {s : State} {f k : Fld} {i j : Nat} (h : f.key 0 i ≠ k.key 0 j) : (s.resetReg f 0 i).g k j = s.g k j := by
  unfold State.g State.reg State.resetReg
  rw [Map.get_del, if_neg h]

theorem State.putFlit_status {s : State} {f : Fld} (hf : f.portStatus) {port n : Nat} {k : Kept} : (s.putFlit port k).g f n = s.g f n := by
  unfold State.putFlit
  split
  · exact (State.reg_setReg_other (hf.key_ne (by decide))).trans (State.reg_setReg_other (hf.key_ne (by decide)))
  · rfl
theorem State.putFlit_link (s : State) (port : Nat) (k : Kept) : (s.putFlit port k).link = s.link := by
  unfold State.putFlit
  split <;> rfl

theorem State.setLane_status {s : State} {f : Fld} (hf : f.portStatus) {n k v : Nat} : (s.setLane n k v).g f n = s.g f n :=
  State.g_setG_other (hf.key_ne (by decide))
theorem State.moveLanes_status {s : State} {f : Fld} (hf : f.portStatus) {n : Nat} : (s.moveLanes n).g f n = s.g f n := by
  unfold State.moveLanes
  refine foldl_keep (fun a : State => a.g f n) (fun a k => ?_) _ s
  split
  · split
    · exact State.setLane_status hf
    · rfl
  · rfl
theorem State.moveLanes_link (s : State) (n : Nat) : (s.moveLanes n).link = s.link := by
  unfold State.moveLanes
  refine foldl_keep State.link (fun a k => ?_) _ s
  split
  · split <;> rfl
  · rfl

theorem State.leavePort_pstat {s : State} {n v : Nat} (hv : v < 16) : (s.leavePort n v).pstat n = v := by
  show ((s.setG AQD_PSTAT_STATE n v).setG AQD_PSTAT_PEER_OK n 0).g AQD_PSTAT_STATE n = v
  rw [State.g_setG_other (Fld.key_ne_of_lo (by decide) (by decide) (by decide)), State.g_setG_same]
  exact Nat.mod_eq_of_lt hv
theorem State.portFails_pstat {s : State} {n lane : Nat} (hn : n < 56) : (s.portFails n lane).pstat n = apDown :=
  (State.linkRecord_status portStatus_state hn).trans (State.leavePort_pstat (by decide))

/-- A retrained port trains and keeps its unacknowledged flits. -/
theorem State.retrainPort_sets {s : State} {n : Nat} (hn : n < 56) : (s.retrainPort n).pstat n = apTraining ∧
    ((s.retrainPort n).aport n).retrain = true ∧ ((s.retrainPort n).aport n).kept = (s.aport n).kept := by
  unfold State.retrainPort
  refine ⟨?_, ?_, ?_⟩
  · refine (State.linkRecord_status portStatus_state hn).trans ((State.addReg_g (portStatus_state.key_ne (by decide))).trans ?_)
    exact State.leavePort_pstat (by decide)
  · rw [State.aport_linkRecord, State.aport_addReg, State.aport_updPort_same]
  · rw [State.aport_linkRecord, State.aport_addReg, State.aport_updPort_same]
    unfold State.leavePort
    rw [State.aport_updPort_same]
    rfl

/-! ### Training and the peer -/

theorem aqdTrainRetry_trains {n : Site} {s : State} (ho : s.portOn n.val = true) (hd : s.pstat n.val = apDown) :
    ∃ u, exec (.aqdTrainRetry n) s = .next u ∧ u.pstat n.val = apTraining ∧ (u.aport n.val).laneFailed.entries = [] ∧
      u.g AQD_PSTAT_SPARE_USED n.val = 0 := by
  refine ⟨_, if_pos (by rw [ho, hd]; rfl), ?_, ?_, ?_⟩
  · refine (State.g_setG_other (Fld.key_ne_of_lo (by decide) (by decide) (by decide))).trans ((State.resetReg_g
      (portStatus_state.key_ne (by decide))).trans ?_)
    exact State.g_setG_same ..
  · rw [State.aport_updPort_same]; rfl
  · exact State.g_setG_same ..

theorem aqdRetrainTimeout_downs {n : Site} {s : State} (ht : s.pstat n.val = apTraining) :
    ∃ u, exec (.aqdRetrainTimeout n) s = .next u ∧ u.pstat n.val = apDown := by
  refine ⟨_, if_pos (by rw [ht]; rfl), ?_⟩
  split
  · exact State.portFails_pstat n.isLt
  · exact State.leavePort_pstat (by decide)

/-- The settled port's state and PEER_OK, as its peer and its lanes allow. -/
theorem State.settlePort_sets (s : State) (n : Nat) : (s.settlePort n).g AQD_PSTAT_PEER_OK n = b2n (s.peerFits n) ∧
    (s.settlePort n).pstat n = if s.peerFits n then (if (s.aport n).good < 8 then apFour else apUp) else apQuiet := by
  unfold State.settlePort State.pstat
  refine ⟨?_, ?_⟩
  · rw [State.g_setG_same]
    cases s.peerFits n <;> rfl
  · rw [State.g_setG_other (Fld.key_ne_of_lo (by decide) (by decide) (by decide)), State.g_setG_same]
    split
    · split <;> rfl
    · rfl

/-- What the match of a peer reads of the state. -/
theorem State.peerFits_of_link {s u : State} {n : Nat} (ha : u.aport n = s.aport n) (hm : u.link.chainMode = s.link.chainMode) (hp : u.link.plan = s.link.plan) :
    u.peerFits n = s.peerFits n := by
  unfold State.peerFits State.planPort
  rw [ha, hm, hp]

theorem aqdLinkMessage_authenticates {n : Site} {peer : LinkPeer} {s : State} (ho : s.portOn n.val = true) (ht : s.pstat n.val = apTraining)
    (hmaj : (peer.majors.map (·.val)).contains 1 = true) (hs : peer.signed = true) : ∃ u, exec (.aqdLinkMessage n peer) s = .next u ∧
      (u.aport n.val).authed = true ∧ (u.aport n.val).peerId = peer.deviceId.val ∧ u.g AQD_PSTAT_PEER_OK n.val = b2n (u.peerFits n.val) ∧
      u.pstat n.val = (if u.peerFits n.val then (if (u.aport n.val).good < 8 then apFour else apUp) else apQuiet) := by
  have hg : (s.portOn n.val && s.pstat n.val == apTraining) = true := by rw [ho, ht]; rfl
  refine ⟨_, by simp only [exec, execAqdLinkMessage, hg, hmaj, hs, Bool.not_true, Bool.false_eq_true, if_false]; rfl, ?_⟩
  generalize hv : State.setG _ AQD_PSTAT_PEER_PORT _ _ = v
  have hauth : (v.aport n.val).authed = true ∧ (v.aport n.val).peerId = peer.deviceId.val := by
    rw [← hv, State.aport_setG, State.aport_updPort_same]
    exact ⟨rfl, rfl⟩
  have hfits : (v.settlePort n.val).peerFits n.val = v.peerFits n.val := rfl
  obtain ⟨hok, hst⟩ := State.settlePort_sets v n.val
  split
  · have hf : ((v.settlePort n.val).linkRecord 0xA024 n.val 15).peerFits n.val = v.peerFits n.val := by
      refine (State.peerFits_of_link ?_ ?_ ?_).trans hfits
      · exact State.aport_linkRecord ..
      · exact State.record_link _ _ (·.chainMode) fun _ _ => rfl
      · exact State.record_link _ _ (·.plan) fun _ _ => rfl
    rw [State.aport_linkRecord, State.linkRecord_status portStatus_peerOk n.isLt, hf]
    exact ⟨hauth.1, hauth.2, hok, (State.linkRecord_status portStatus_state n.isLt).trans hst⟩
  · exact ⟨hauth.1, hauth.2, hok, hst⟩

theorem aqdLinkMessage_downs {n : Site} {peer : LinkPeer} {s : State} (ho : s.portOn n.val = true) (ht : s.pstat n.val = apTraining)
    (hmaj : (peer.majors.map (·.val)).contains 1 = false) : ∃ u, exec (.aqdLinkMessage n peer) s = .next u ∧ u.pstat n.val = apDown := by
  have hg : (s.portOn n.val && s.pstat n.val == apTraining) = true := by rw [ho, ht]; rfl
  refine ⟨_, by simp only [exec, execAqdLinkMessage, hg, hmaj, Bool.not_true, Bool.not_false, Bool.false_eq_true, if_false, if_true]; rfl, ?_⟩
  exact (State.linkRecord_status portStatus_state n.isLt).trans (State.leavePort_pstat (by decide))

/-! ### Flits -/

theorem AqdPort.ackTo_expect (x : AqdPort) (n : Nat) : (x.ackTo n).expect = x.expect := by
  unfold AqdPort.ackTo
  split
  · rfl
  · split <;> rfl

theorem aqdFlitReceive_naks {n : Site} {f : AqdFlit} {s : State} (ho : s.portStands n.val = true) (hc : f.crcOk = false) :
    exec (.aqdFlitReceive n f) s = .next (s.sendNak n.val) := by
  simp only [exec, execAqdFlitReceive, ho, hc, Bool.true_or, Bool.not_true, Bool.not_false, Bool.false_eq_true, if_false, if_true]

theorem aqdFlitReceive_advances {n : Site} {f : AqdFlit} {s : State} (ho : s.portStands n.val = true) (hc : f.crcOk = true)
    (hty : f.ftype.val = 1 ∨ f.ftype.val = 3) (hseq : f.fseq.val = (s.aport n.val).expect) :
    ∃ u, exec (.aqdFlitReceive n f) s = .next u ∧ (u.aport n.val).expect = nextFseq (s.aport n.val).expect := by
  generalize ha : (if f.av then s.updPort n.val (fun x => x.ackTo (nextFseq f.ackseq.val)) else s) = a
  have he : (a.aport n.val).expect = (s.aport n.val).expect := by
    rw [← ha]
    split
    · rw [State.aport_updPort_same, AqdPort.ackTo_expect]
    · rfl
  have hty' : (decide (f.ftype.val = 1) || decide (f.ftype.val = 3)) = true := by simpa using hty
  refine ⟨a.updPort n.val (fun x => { x with expect := nextFseq x.expect }), ?_, ?_⟩
  · simp only [exec, execAqdFlitReceive, ho, hc, hty', ha, hseq, he, Bool.true_or, Bool.not_true, Bool.false_eq_true, if_false, if_true]
  · rw [State.aport_updPort_same, he]

/-! ### Lanes -/

theorem aqdLaneSwap_spare {n : Site} {l : Fin 9} {passes : Bool} {s : State} (ho : s.portStands n.val = true)
    (hu : ((s.usedLanes n.val).map (s.laneMap n.val)).contains l.val = true) (hnone : (s.aport n.val).laneFailed.entries = []) :
    ∃ u, exec (.aqdLaneSwap n l passes) s = .next u ∧ (u.aport n.val).laneFailed.mem l.val = !passes ∧
      u.g AQD_PSTAT_SPARE_USED n.val = b2n (!passes) ∧ u.pstat n.val = s.pstat n.val := by
  refine ⟨_, by simp only [exec, execAqdLaneSwap, ho, hu, hnone, Bool.not_true, Bool.or_self, Bool.false_eq_true, if_false, List.isEmpty_nil, if_true]; rfl, ?_⟩
  generalize hv : State.moveLanes _ n.val = v
  have hap : (v.aport n.val).laneFailed = (s.aport n.val).laneFailed.add l.val := by
    rw [← hv]
    unfold State.aport
    rw [State.moveLanes_link, State.sendCtrl, State.putFlit_link]
    exact congrArg AqdPort.laneFailed (State.aport_updPort_same ..)
  have hst : v.pstat n.val = s.pstat n.val := by
    rw [← hv]
    exact (State.moveLanes_status portStatus_state).trans (State.putFlit_status portStatus_state)
  rw [State.aport_linkRecord, State.aport_addReg, State.aport_setG, State.linkRecord_status portStatus_spare n.isLt,
    State.addReg_g (portStatus_spare.key_ne (by decide)), State.g_setG_same]
  refine ⟨?_, by cases passes <;> rfl, (State.linkRecord_status portStatus_state n.isLt).trans ((State.addReg_g
    (portStatus_state.key_ne (by decide))).trans ((State.g_setG_other (Fld.key_ne_of_lo (by decide) (by decide) (by decide))).trans ?_))⟩
  · cases passes
    · rw [if_neg Bool.false_ne_true, hap]
      exact NatSet.mem_add_same ..
    · rw [if_pos rfl, State.aport_updPort_same]
      exact NatSet.mem_del_same ..
  · cases passes <;> exact hst

theorem aqdLaneSwap_halves {n : Site} {l : Fin 9} {passes : Bool} {s : State} (ho : s.portStands n.val = true)
    (hu : ((s.usedLanes n.val).map (s.laneMap n.val)).contains l.val = true) (hsome : (s.aport n.val).laneFailed.entries ≠ []) :
    ∃ u, exec (.aqdLaneSwap n l passes) s = .next u ∧
      u.pstat n.val = (if ({ s.aport n.val with laneFailed := (s.aport n.val).laneFailed.add l.val } : AqdPort).good < 4 then apDown
        else if s.pstat n.val = apQuiet then apQuiet else apFour) := by
  have hne : (s.aport n.val).laneFailed.entries.isEmpty = false := by simpa using hsome
  generalize hw : s.updPort n.val (fun x => { x with laneFailed := x.laneFailed.add l.val }) = w
  have hx : w.aport n.val = { s.aport n.val with laneFailed := (s.aport n.val).laneFailed.add l.val } := by rw [← hw, State.aport_updPort_same]
  have hws : w.pstat n.val = s.pstat n.val := by rw [← hw]; rfl
  have hm : (w.moveLanes n.val).pstat n.val = s.pstat n.val := (State.moveLanes_status portStatus_state).trans hws
  rw [← hx]
  by_cases hg : (w.aport n.val).good < 4
  · refine ⟨w.portFails n.val l.val, ?_, (State.portFails_pstat n.isLt).trans (if_pos hg).symm⟩
    simp only [exec, execAqdLaneSwap, ho, hu, hne, hw, hg, Bool.not_true, Bool.or_self, Bool.false_eq_true, if_false, if_true]
  · refine ⟨(if (w.moveLanes n.val).pstat n.val = apQuiet then w.moveLanes n.val
      else (w.moveLanes n.val).setG AQD_PSTAT_STATE n.val apFour).linkRecord 0xA022 n.val l.val, ?_, ?_⟩
    · simp only [exec, execAqdLaneSwap, ho, hu, hne, hw, hg, Bool.not_true, Bool.or_self, Bool.false_eq_true, if_false]
    · refine (State.linkRecord_status portStatus_state n.isLt).trans ?_
      rw [if_neg hg, hm]
      split
      · exact hm.trans ‹_›
      · exact State.g_setG_same ..

/-- Settles O55: each command at a port that stands or trains, and the status bits that its flits, lanes and records leave. -/
theorem aqueductPortsTrainAndRetry : Obligations.AqueductPortsTrainAndRetry := by
  unfold Obligations.AqueductPortsTrainAndRetry
  refine ⟨fun n s => aqdTrainRetry_trains, fun n s => aqdRetrainTimeout_downs, fun n peer s ho ht => ⟨aqdLinkMessage_authenticates ho ht, aqdLinkMessage_downs ho ht⟩,
    fun n f s ho => ⟨aqdFlitReceive_naks ho, aqdFlitReceive_advances ho⟩, fun n s ho hk => ⟨_, if_pos ?_, State.retrainPort_sets n.isLt⟩,
    fun n l passes s ho hu => ⟨aqdLaneSwap_spare ho hu, aqdLaneSwap_halves ho hu⟩⟩
  rw [ho]
  simpa using hk

end Sys2Proof.Machine
end

section
/-! PROOF. The journal, the output ring and its moderation, the steward's roles, pairing and Smifort mode
(09 R214 to R217, R232 to R237, R242, R248, R249): O35 and O37. -/

namespace Sys2Proof.Machine

open Sys2Proof Sys2Proof.Safety

/-! ### What writing output records leaves -/

/-- A field of the STW page other than TAIL of a ring. -/
def Fld.besideTails (f : Fld) (i : Nat) : Prop := f.key 0 i / 2 ^ 33 = Page.stw.code ∧ ∀ p, STW_RING_TAIL_TAIL.key 0 p ≠ f.key 0 i

/-- What the writing of output records leaves: packets, roles, requests, journals, and (for a partition number in range) the STW page beside TAIL. -/
structure RingWork (p : Nat) (a s : State) : Prop where
  flight : s.flight = a.flight
  home : s.stewardHome = a.stewardHome
  reqs : s.reqs = a.reqs
  journal : ∀ q, (s.part q).journal = (a.part q).journal
  stw : p < 64 → ∀ (f : Fld) (i : Nat), f.besideTails i → s.g f i = a.g f i

theorem RingWork.refl {p : Nat} {a : State} : RingWork p a a := ⟨rfl, rfl, rfl, fun _ => rfl, fun _ _ _ _ => rfl⟩
theorem RingWork.trans {p : Nat} {a s t : State} (h : RingWork p a s) (k : RingWork p s t) : RingWork p a t :=
  ⟨k.flight.trans h.flight, k.home.trans h.home, k.reqs.trans h.reqs, fun q => (k.journal q).trans (h.journal q),
    fun hp f i hf => (k.stw hp f i hf).trans (h.stw hp f i hf)⟩
theorem RingWork.foldl {p : Nat} {β : Type} {f : State → β → State} (h : ∀ s b, RingWork p s (f s b)) : ∀ (l : List β) (s : State), RingWork p s (l.foldl f s)
  | [], _ => .refl
  | b :: l, s => (h s b).trans (RingWork.foldl h l (f s b))
/-- A change of a partition that leaves its journal. -/
theorem State.updPart_ringWork {p : Nat} (s : State) {q : Nat} {f : PartSt → PartSt} (hf : ∀ x, (f x).journal = x.journal) : RingWork p s (s.updPart q f) :=
  ⟨rfl, rfl, rfl, fun k => by
    rcases Decidable.em (q = k) with rfl | h
    · rw [State.part_updPart_same, hf]
    · rw [State.part_updPart_other h], fun _ _ _ _ => rfl⟩
/-- A change of registers, memory, messages out and links, none of the STW page beside TAIL. -/
theorem RingWork.of_regs {p : Nat} {a s : State} (hf : s.flight = a.flight) (hh : s.stewardHome = a.stewardHome) (hr : s.reqs = a.reqs) (hp : s.parts = a.parts)
    (hs : ∀ (f : Fld) (i : Nat), f.besideTails i → s.g f i = a.g f i) : RingWork p a s :=
  ⟨hf, hh, hr, fun q => by unfold State.part; rw [hp], fun _ => hs⟩
theorem State.record_ringWork {p : Nat} (s : State) {r : Rec} (h : ∀ q, r.part = some q → q = p) : RingWork p s (s.record r) := by
  refine ⟨State.record_flight .., State.record_stewardHome .., State.record_reqs .., fun q => ?_, fun hp f i hf => ?_⟩
  · rcases State.record_part s r q with e | e <;> rw [e]
  · exact State.record_reg (fun q k => by have := h q k; omega) (by rw [hf.1]; decide) (by rw [hf.1]; decide)

theorem State.modCheck_regs (s : State) (p : Nat) : (s.modCheck p).regs = s.regs := by
  unfold State.modCheck
  extract_lets x due
  split
  · unfold State.ringSignal State.msix
    dsimp only
    split <;> rfl
  · rfl
@[simp] theorem State.modCheck_g (s : State) (p : Nat) (f : Fld) (i : Nat) : (s.modCheck p).g f i = s.g f i := by
  unfold State.g State.reg
  rw [State.modCheck_regs]
theorem State.modCheck_ringWork (s : State) (p : Nat) : RingWork p s (s.modCheck p) := by
  unfold State.modCheck
  extract_lets x due
  split
  · refine RingWork.trans ?_ (State.updPart_ringWork _ fun _ => rfl)
    unfold State.msix
    dsimp only
    split <;> exact .of_regs rfl rfl rfl rfl fun _ _ _ => rfl
  · exact .refl

theorem HDR_pci_ne {f : Fld} {i : Nat} (hf : f.besideTails i) {h : Fld} (hh : h.key 0 0 / 2 ^ 33 = Page.pci.code) : h.key 0 0 ≠ f.key 0 i := fun e => by
  have h1 := hf.1
  rw [← e, hh] at h1
  exact absurd h1 (by decide)

theorem State.ringPut_ringWork (s : State) (p : Nat) (f : Bool → List Nat) (o : List Nat → Out) : RingWork p s (s.ringPut p f o) := by
  unfold State.ringPut
  extract_lets t w a b s1 s2 s3
  have h1 : RingWork p s s1 := .of_regs rfl rfl rfl rfl fun _ _ _ => rfl
  have h2 : RingWork p s1 s2 := by
    unfold s2
    split
    · refine RingWork.trans ?_ (State.record_ringWork _ fun q hq => nomatch hq)
      exact .of_regs rfl rfl rfl rfl fun f i hf => (State.reg_setReg_other (HDR_pci_ne hf rfl)).trans (State.reg_setReg_other (HDR_pci_ne hf rfl))
    · exact .refl
  have h3 : RingWork p s2 s3 := .of_regs rfl rfl rfl rfl fun f i hf => State.g_setG_other (hf.2 p)
  have h := (h1.trans h2).trans h3
  clear_value s3
  refine h.trans (RingWork.trans ?_ (State.modCheck_ringWork _ p))
  refine State.updPart_ringWork s3 ?_
  exact fun _ => rfl
theorem State.ringPut_tail {s : State} {p : Nat} (f : Bool → List Nat) (o : List Nat → Out) :
    (s.ringPut p f o).g STW_RING_TAIL_TAIL p = (s.g STW_RING_TAIL_TAIL p + 1) % 2 ^ 32 := by
  unfold State.ringPut
  rw [State.modCheck_g]
  exact State.g_setG_same ..
theorem State.writeRec_ringWork (s : State) (p : Nat) (x : OutRec) : RingWork p s (s.writeRec p x) := by
  unfold State.writeRec
  split
  · exact RingWork.foldl (fun a e => State.ringPut_ringWork ..) _ s
  · exact State.ringPut_ringWork ..
theorem State.drainList_ringWork (p : Nat) (l : List OutRec) : ∀ s : State, RingWork p s (s.drainList p l) := by
  induction l with
  | nil => exact fun s => State.updPart_ringWork s fun _ => rfl
  | cons x l ih =>
    intro s
    unfold State.drainList
    split
    · exact (State.writeRec_ringWork s p x).trans (ih _)
    · exact State.updPart_ringWork s fun _ => rfl
theorem State.drainQueue_ringWork (s : State) (p : Nat) : RingWork p s (s.drainQueue p) := by
  unfold State.drainQueue
  split
  · exact .refl
  · exact State.drainList_ringWork p _ s
theorem State.outRec_ringWork (s : State) (p : Nat) (x : OutRec) : RingWork p s (s.outRec p x) := by
  unfold State.outRec
  split
  · exact State.writeRec_ringWork s p x
  · refine RingWork.trans ?_ (State.updPart_ringWork _ fun _ => rfl)
    split
    · exact .refl
    · exact State.record_ringWork s fun q hq => (Option.some.inj hq).symm

/-- An acknowledged boundary leaves the journal, and its slot rows go out. -/
theorem State.journalDone_takes {s : State} {p : Nat} {j : Journal} {l : List Journal} (h : (s.part p).journal = j :: l) :
    ((s.journalDone p).part p).journal = l ∧ (s.journalDone p).flight.length = s.flight.length + j.slotRows.length := by
  unfold State.journalDone
  rw [h]
  dsimp only
  have hw : RingWork p (s.updPart p fun x => { x with journal := l }) (j.recs.foldl (fun s x => s.outRec p x) (s.updPart p fun x => { x with journal := l })) :=
    RingWork.foldl (fun a x => State.outRec_ringWork a p x) j.recs _
  refine ⟨(hw.journal p).trans ?_, ?_⟩
  · rw [State.part_updPart_same]
  · rw [List.length_append, List.length_map, hw.flight]
    rfl
theorem State.journalDone_home (s : State) (p : Nat) : (s.journalDone p).stewardHome = s.stewardHome := by
  unfold State.journalDone
  split
  · rfl
  · exact (RingWork.foldl (fun a x => State.outRec_ringWork a p x) _ _).home

/-! ### The ring's commands -/

theorem ringQueueDrain_takes {part : Part} {s : State} {x : OutRec} (hup : s.stewardUp = true) (hq : (s.part part.val).queue = [x])
    (hr : s.ringRoom part.val (s.recSlots part.val x) = true) : ∃ u, exec (.ringQueueDrain part) s = .next u ∧ (u.part part.val).queue = [] ∧
      (s.smifort part.val = false → u.g STW_RING_TAIL_TAIL part.val = (s.g STW_RING_TAIL_TAIL part.val + 1) % 2 ^ 32) := by
  have hu : s.drainQueue part.val = (s.writeRec part.val x).drainList part.val [] := by
    unfold State.drainQueue
    rw [hq]
    exact if_pos hr
  refine ⟨_, congrArg Host.Outcome.next ((if_pos hup).trans hu), ?_, fun hs => ?_⟩
  · unfold State.drainList
    rw [State.part_updPart_same]
  · show (s.writeRec part.val x).g STW_RING_TAIL_TAIL part.val = _
    unfold State.writeRec
    rw [hs]
    exact State.ringPut_tail ..

theorem moderationTimer_signals {part : Part} {s : State} {t : Nat} (hup : s.stewardUp = true) (hs : (s.part part.val).sinceSig ≠ 0)
    (hf : (s.part part.val).firstUnsig = some t) (hm : s.g STW_MOD_TIME_US part.val ≠ 0) (ht : t + 1000 * s.g STW_MOD_TIME_US part.val ≤ s.ptp) :
    ∃ u, exec (.moderationTimer part) s = .next u ∧ (u.part part.val).sinceSig = 0 ∧ (u.part part.val).firstUnsig = none := by
  have hu : s.modCheck part.val = s.ringSignal part.val := by
    unfold State.modCheck
    simp only [hf, hs, hm, ht, ne_eq, not_false_eq_true, decide_true, Bool.and_self, Bool.or_true, if_true]
  refine ⟨_, congrArg Host.Outcome.next ((if_pos hup).trans hu), ?_, ?_⟩
  all_goals
    unfold State.ringSignal
    rw [State.part_updPart_same]

theorem besideTails_en {p : Nat} (hp : p < 64) : STW_RING_CFG_EN.besideTails p :=
  ⟨by simp only [Fld.key, Fld.offset, STW_RING_CFG_EN, Page.code]; omega, fun q => Fld.key_ne_of_lo (by decide) (by decide) (by decide)⟩

/-- Settles O35: each command at the ring or the journal of its partition, with what the records it writes leave. -/
theorem journalRingAndModeration : Obligations.JournalRingAndModeration := by
  unfold Obligations.JournalRingAndModeration
  refine ⟨fun part s j l hup hj => ⟨_, congrArg Host.Outcome.next (if_pos hup), State.journalDone_takes hj⟩, fun part s x => ringQueueDrain_takes,
    fun part s t => moderationTimer_signals, fun path part time count s ho hc => ?_, fun path part s ho hoff hrun => ?_⟩
  · refine ⟨s.writeMod path part.val time.val count.val,
      pageWrite_runs (pg := .stw) (act := fun s => s.writeMod path part.val time.val count.val) ho, ?_, ?_⟩
    all_goals
      unfold State.writeMod
      rw [if_neg hc, State.modCheck_g]
    · rw [State.g_setG_other (Fld.key_ne_of_lo (by decide) (by decide) (by decide)), State.g_setG_same]
      exact Nat.mod_eq_of_lt time.isLt
    · rw [State.g_setG_same]
      exact Nat.mod_eq_of_lt count.isLt
  · refine ⟨s.enableRing path part.val, pageWrite_runs (pg := .stw) (act := fun s => s.enableRing path part.val) ho, State.flag_of_g ?_⟩
    unfold State.enableRing
    rw [hoff, hrun, if_neg Bool.false_ne_true, if_neg Bool.false_ne_true, (State.drainQueue_ringWork _ part.val).stw part.isLt _ _ (besideTails_en part.isLt)]
    refine (State.g_setG_other (Fld.key_ne_of_lo (by decide) (by decide) (by decide))).trans ((State.g_setG_other
      (Fld.key_ne_of_lo (by decide) (by decide) (by decide))).trans ?_)
    exact State.g_setG_same ..

/-! ### Takeover and the standby -/

theorem State.loseStandby_standby (s : State) : s.loseStandby.flag STW_CTRL_STANDBY_OK 0 0 = false := by
  unfold State.loseStandby
  split
  · rw [State.record_flag rfl (by decide) (by decide)]
    exact decide_eq_false fun h => h (State.g_setG_same ..)
  · exact Bool.eq_false_iff.2 ‹_›
theorem State.loseStandby_home (s : State) : s.loseStandby.stewardHome = s.stewardHome := by
  unfold State.loseStandby
  split
  · exact State.record_stewardHome ..
  · rfl
theorem State.holdRunning_home (s : State) : s.holdRunning.stewardHome = s.stewardHome := by
  unfold State.holdRunning
  refine foldl_keep State.stewardHome (fun a e => ?_) _ s
  split <;> rfl
theorem State.repeatRecs_home (s : State) (p : Nat) : (s.repeatRecs p).stewardHome = s.stewardHome := by
  unfold State.repeatRecs
  exact foldl_keep State.stewardHome (fun a _ => State.journalDone_home a p) _ _

theorem stewardTakeover_swaps {s : State} (hs : s.flag STW_CTRL_STANDBY_OK 0 0 = true) (hu : s.g RST_FW_UPD 0 ≠ 2) :
    ∃ u, exec .stewardTakeover s = .next u ∧ u.stewardHome = !s.stewardHome ∧ u.g STW_STATUS_TAKEOVER 0 = 1 ∧ u.flag STW_CTRL_STANDBY_OK 0 0 = false := by
  have ht : s.stewardFails = s.takeOver := by
    unfold State.stewardFails
    simp [hs, hu]
  refine ⟨_, congrArg Host.Outcome.next ht, ?_⟩
  unfold State.takeOver State.mirror
  rw [if_pos hs]
  dsimp only
  generalize hv : List.foldl (fun (s : State) (e : Nat × PartSt) => s.repeatRecs e.1) _ _ = v
  have hh : v.stewardHome = !s.stewardHome := by
    rw [← hv]
    exact (foldl_keep State.stewardHome (fun (a : State) (e : Nat × PartSt) => State.repeatRecs_home a e.1) _ _).trans (State.holdRunning_home _)
  refine ⟨?_, ?_, State.loseStandby_standby _⟩
  · refine (State.loseStandby_home _).trans ?_
    obtain ⟨_, _, _, he⟩ := State.raiseInt_only (State.record ((((v.setG STW_CTRL_ACTIVE 0 (1 - v.g STW_CTRL_ACTIVE 0)).setG STW_STATUS_TAKEOVER 0 1).setG
      RST_FW_ACT_SLOT 0 (((v.setG STW_CTRL_ACTIVE 0 (1 - v.g STW_CTRL_ACTIVE 0)).setG STW_STATUS_TAKEOVER 0 1).g RST_FW_STBY_SLOT 0)).setG RST_FW_STBY_SLOT 0
      (((v.setG STW_CTRL_ACTIVE 0 (1 - v.g STW_CTRL_ACTIVE 0)).setG STW_STATUS_TAKEOVER 0 1).g RST_FW_ACT_SLOT 0)) { code := 0x800C, unit := 10 }) 0 6
    rw [he]
    exact (State.record_stewardHome ..).trans hh
  · rw [State.loseStandby_g (by decide) (by decide) (by decide), State.raiseInt_g (by decide) (by decide) (by decide), State.record_g rfl (by decide) (by decide),
      State.g_setG_other (by decide), State.g_setG_other (by decide), State.g_setG_same]
    rfl

theorem standbyLoss_clears {s : State} (hs : s.flag STW_CTRL_STANDBY_OK 0 0 = true) : ∃ u, exec .standbyLoss s = .next u ∧
    u.flag STW_CTRL_STANDBY_OK 0 0 = false ∧ (u.log.get? s.logTail).map (·.code) = some 0x800F := by
  refine ⟨_, rfl, State.loseStandby_standby s, ?_⟩
  unfold State.loseStandby
  rw [if_pos hs]
  have hl := State.record_log (s.setG STW_CTRL_STANDBY_OK 0 0) { code := 0x800F, unit := 10 }
  have ht : (s.setG STW_CTRL_STANDBY_OK 0 0).logTail = s.logTail := rfl
  rw [ht] at hl
  rw [hl]
  rfl

/-! ### Pairing and Smifort mode -/

theorem State.setPeer_regs (s : State) (t d i : Nat) : (s.setPeer t d i).regs = s.regs := by
  unfold State.setPeer
  extract_lets x
  split
  · exact State.setMem_regs ..
  · rfl
theorem State.setPeers_regs (s : State) (p d : Nat) : (s.setPeers p d).regs = s.regs := by
  unfold State.setPeers
  refine foldl_keep State.regs (fun a t => ?_) _ s
  split
  · generalize upTo _ = l
    exact foldl_keep State.regs (fun b i => State.setPeer_regs b t d i) l a
  · rfl
theorem State.setPeers_g (s : State) (p d : Nat) (f : Fld) (i : Nat) : (s.setPeers p d).g f i = s.g f i := by
  unfold State.g State.reg
  rw [State.setPeers_regs]

theorem pairingWrite_pairs {path : Path} {s : State} {p d : Part} (ho : pageOpen s path false true = true) (hoff : s.flag STW_PCFG_PAIR_EN 0 p.val = false)
    (hp : s.runs p.val = false) (hd : s.runs d.val = false) (hfeat : s.feature 3 = true) (hne : d ≠ p) (hsp : s.smifort p.val = false)
    (hsd : s.smifort d.val = false) (hpf : s.pairFlags p.val d.val = true) : ∃ u, exec (.pairingWrite path p true d) s = .next u ∧
      u.flag STW_PCFG_PAIR_EN 0 p.val = true ∧ u.g STW_PCFG_PEER p.val = d.val := by
  generalize hw : (s.setG STW_PCFG_PAIR_EN p.val 1).setG STW_PCFG_PEER p.val d.val = w
  have hen : w.g STW_PCFG_PAIR_EN p.val = 1 := by
    rw [← hw, State.g_setG_other (Fld.key_ne_of_lo (by decide) (by decide) (by decide)), State.g_setG_same]
    rfl
  have hpeer : w.g STW_PCFG_PEER p.val = d.val := by
    rw [← hw, State.g_setG_same]
    exact Nat.mod_eq_of_lt d.isLt
  refine ⟨if (w.pairMate p.val).isSome then (w.setPeers p.val d.val).setPeers d.val p.val else w, ?_, State.flag_of_g ?_, ?_⟩
  · refine (ownerWrite_runs (pg := .stw) (act := fun s => s.pairing path p.val true d.val) ho).trans (congrArg Host.Outcome.next ?_)
    have hv : d.val ≠ p.val := fun h => hne (Fin.ext h)
    simp [State.pairing, hoff, hp, hd, hfeat, hv, hsp, hsd, hpf, hw]
  · split
    · rw [State.setPeers_g, State.setPeers_g, hen]
    · exact hen
  · split
    · rw [State.setPeers_g, State.setPeers_g, hpeer]
    · exact hpeer

theorem smifortEnable_sets {path : Path} {s : State} {p : Part} (ho : pageOpen s path false true = true) (hoff : s.smifort p.val = false)
    (hp : s.runs p.val = false) (hn : (s.part p.val).reqCount ≤ 4096) (hpair : s.paired p.val = false) :
    ∃ u, exec (.smifortEnable path p true) s = .next u ∧ u.smifort p.val = true := by
  refine ⟨s.setG STW_PCFG_SMIFORT p.val 1, ?_, State.flag_of_g (State.g_setG_same ..)⟩
  refine (ownerWrite_runs (pg := .stw) (act := fun s => s.writeSmifort path p.val true) ho).trans (congrArg Host.Outcome.next ?_)
  simp [State.writeSmifort, hoff, hp, hpair, Nat.not_lt.2 hn, b2n]

/-- An entry consumed raises the consumer index; the partition's tags and every request stay. -/
theorem State.consume_sets (s : State) (p : Nat) : ((s.consume p).part p).sqCons = ((s.part p).sqCons + 1) % 2 ^ 32 ∧
    ((s.consume p).part p).tags = (s.part p).tags ∧ ∀ r, (s.consume p).req r = s.req r := by
  unfold State.consume
  extract_lets n a s1
  have hp : s1.part p = { s.part p with sqCons := n } := State.part_updPart_same s p fun x => { x with sqCons := n }
  have hr : ∀ r, s1.req r = s.req r := fun _ => rfl
  clear_value s1
  rw [State.part_emit, State.part_setMem, hp]
  exact ⟨rfl, rfl, hr⟩

theorem s2Generate_submits {part : Part} {e : S2Entry} {s : State} {r : Nat} (hup : s.stewardUp = true) (he : s.smiEntry part.val = true) (hf : e.flags.val < 4)
    (hr : s.smiFree part.val = some r) : ∃ u, exec (.s2Generate part e) s = .next u ∧ (u.req r).state = rsSubmitted ∧
      (u.part part.val).tags.get? r = some e.tag.val ∧ (u.part part.val).sqCons = ((s.part part.val).sqCons + 1) % 2 ^ 32 := by
  refine ⟨_, by simp only [exec, execS2Generate, hup, he, hr, Nat.not_le.2 hf, Bool.not_true, Bool.false_eq_true, if_false]; rfl, ?_⟩
  generalize hv : State.updPart _ part.val _ = v
  obtain ⟨hc, ht, hreq⟩ := v.consume_sets part.val
  rw [hc, ht, hreq, ← hv]
  refine ⟨?_, ?_, ?_⟩
  · rw [State.req_updPart]
    unfold State.submit
    rw [State.req_setReq_same]
  · rw [State.part_updPart_same]
    exact Map.get?_put_same ..
  · rw [State.part_updPart_same]
    rfl

theorem s2Cancel_notes {part : Part} {tag : Fin 4294967296} {s : State} {r : Nat} (hup : s.stewardUp = true) (he : s.smiEntry part.val = true)
    (hr : s.byTag part.val tag.val = some r) : ∃ u, exec (.s2Cancel part tag) s = .next u ∧ (u.req r).hcmd = 1 ∧ (u.req r).marked = true ∧
      (u.part part.val).sqCons = ((s.part part.val).sqCons + 1) % 2 ^ 32 := by
  refine ⟨_, by simp only [exec, execS2Cancel, hup, he, hr, Bool.not_true, Bool.false_eq_true, if_false]; rfl, ?_⟩
  obtain ⟨hc, -, hreq⟩ := (s.noteCmd (part.val + 1) r 1).consume_sets part.val
  rw [hc, hreq]
  unfold State.noteCmd
  rw [State.req_updReq_same]
  exact ⟨rfl, rfl, rfl⟩

/-- Settles O37: each role change, write and entry at the field that it sets last. -/
theorem stewardRolesPairsAndSmifort : Obligations.StewardRolesPairsAndSmifort := by
  unfold Obligations.StewardRolesPairsAndSmifort
  refine ⟨fun s => ⟨stewardTakeover_swaps, fun hs => ⟨?_, ?_⟩, standbyLoss_clears, fun hup => ⟨_, congrArg Host.Outcome.next (if_pos hup), ?_⟩⟩,
    fun path s ho => ⟨⟨_, pageWrite_runs (pg := .stw) (act := State.askSwap) ho, Map.get?_put_same .., rfl⟩, fun p d => pairingWrite_pairs ho,
      fun p => smifortEnable_sets ho⟩,
    fun part n s hup hon => ⟨s.updPart part.val fun x => { x with sqProd := n.val }, ?_, ?_⟩,
    fun part s hup he => ⟨fun e r => s2Generate_submits hup he, fun tag r => s2Cancel_notes hup he⟩⟩
  · refine congrArg Host.Outcome.next ?_
    unfold State.stewardFails
    simp [hs]
  · refine congrArg Host.Outcome.next ?_
    unfold State.loseStandby
    simp [hs]
  · exact State.flag_of_g (State.g_setG_same ..)
  · simp only [exec, execSmiSqPoll, hup, hon, Bool.not_true, Bool.false_eq_true, if_false]
  · rw [State.part_updPart_same]

end Sys2Proof.Machine
end

section
/-! PROOF. Scans, transcripts, prompts, time to live and deadlines; parcels, rotation and return (09 R221 to R226, R239, R240): O34 and O36. -/

namespace Sys2Proof.Machine

open Sys2Proof Sys2Proof.Safety

/-! ### What leaves the request table as it is -/

theorem State.putFlit_only (s : State) (port : Nat) (k : Kept) : s.IntsOnly (s.putFlit port k) := by
  unfold State.putFlit
  split
  · exact ((State.setReg_only ..).trans (State.setReg_only ..)).trans (State.emit_only ..)
  · exact State.emit_only ..
theorem State.updPort_only (s : State) (n : Nat) (f : AqdPort → AqdPort) : s.IntsOnly (s.updPort n f) := ⟨s.regs, _, s.out, rfl⟩
theorem State.sendFlit_only (s : State) (port ftype flags : Nat) (payload : List Byte) : s.IntsOnly (s.sendFlit port ftype flags payload) := by
  unfold State.sendFlit
  exact (State.putFlit_only ..).trans (State.updPort_only ..)
theorem State.sendMsg_only (s : State) (port kind : Nat) (figures : List Nat) (h : MsgHead) (payload : List Byte) :
    s.IntsOnly (s.sendMsg port kind figures h payload) := by
  unfold State.sendMsg
  extract_lets count
  generalize (pieces count (h.bytes ++ payload)).zipIdx = l
  exact (State.emit_only ..).trans (State.IntsOnly.foldl (fun a e => State.sendFlit_only ..) l _)
theorem State.sendTold_only (s : State) (port part kind : Nat) (figures : List Nat) : s.IntsOnly (s.sendTold port part kind figures) := by
  unfold State.sendTold State.sendPlain State.bumpTag
  exact ((State.updPort_only ..).trans (State.sendMsg_only ..)).trans (State.updPort_only ..)
theorem State.tell_only (s : State) (part kind : Nat) (figures : List Nat) : s.IntsOnly (s.tell part kind figures) := by
  unfold State.tell
  split
  · exact State.IntsOnly.foldl (fun a n => State.sendTold_only ..) _ s
  · exact .refl s

theorem State.journalAcc_reqs (s : State) (p : Nat) : (s.journalAcc p).reqs = s.reqs := by
  unfold State.journalAcc State.journalCopies
  dsimp only
  split
  · rfl
  · split <;> rfl
theorem State.journalAcc_req (s : State) (p r : Nat) : (s.journalAcc p).req r = s.req r := by
  unfold State.req
  rw [State.journalAcc_reqs]

/-! ### The end of a request -/

/-- A value that is no twin, put where no twin of `r` is found, leaves which twin is found. -/
theorem find?_putList_of_not {P : Nat × ReqSt → Bool} {r : Nat} {v : ReqSt} (hv : P (r, v) = false) :
    ∀ l : List (Nat × ReqSt), (l.find? P).map (·.1) ≠ some r → (putList r v l).find? P = l.find? P
  | [], _ => by simp [putList, hv]
  | (k, w) :: l, h => by
    unfold putList
    rw [List.find?_cons] at h ⊢
    split
    · rw [List.find?_cons, hv, List.find?_cons]
    · split
      · next hk =>
        rw [List.find?_cons, hv]
        subst hk
        cases hp : P (k, w) with
        | true => simp [hp] at h
        | false => rfl
      · rw [List.find?_cons]
        cases hp : P (k, w) with
        | true => rfl
        | false =>
          simp only [hp] at h
          exact find?_putList_of_not hv l h
theorem State.twinOf_updReq {s : State} {r : Nat} {f : ReqSt → ReqSt} (ht : (f (s.req r)).twin = false) (h : s.twinOf r ≠ some r) :
    (s.updReq r f).twinOf r = s.twinOf r := 
  congrArg (Option.map Prod.fst) (find?_putList_of_not (P := fun e => e.2.twin && e.2.link == r) (v := f (s.req r)) (by simp [ht]) s.reqs.entries h)

theorem State.unbind_req (s : State) (p r : Nat) : (s.unbind p r).req r = { s.req r with prevSlot := none, slot := none } := State.req_updReq_same ..
theorem State.unbind_other {s : State} {p r k : Nat} (h : r ≠ k) : (s.unbind p r).req k = s.req k := State.req_updReq_other h
theorem State.endTwin_other {s : State} {w r : Nat} (h : w ≠ r) : (s.endTwin w).req r = s.req r := (State.req_setReq_other h).trans (State.unbind_other h)

/-- A release keeps the request's state and reason, unless the request is found as its own twin. -/
theorem State.release_keeps {s : State} {p r : Nat} (ht : (s.req r).twin = false) (hw : s.twinOf r ≠ some r) :
    ((s.release p r).req r).state = (s.req r).state ∧ ((s.release p r).req r).reason = (s.req r).reason := by
  have hu : (s.unbind p r).twinOf r = s.twinOf r := State.twinOf_updReq ht hw
  unfold State.release
  extract_lets s1
  have h1 : s1.twinOf r = s.twinOf r := by
    refine (State.twinOf_updReq ?_ ?_).trans hu
    · exact (congrArg ReqSt.twin (State.unbind_req s p r)).trans ht
    · rw [show ((s.unbind p r).freeReqPages r).twinOf r = (s.unbind p r).twinOf r from rfl, hu]
      exact hw
  have hs : (s1.req r).state = (s.req r).state ∧ (s1.req r).reason = (s.req r).reason := by
    unfold s1
    rw [State.req_updReq_same, show ((s.unbind p r).freeReqPages r).req r = (s.unbind p r).req r from rfl, State.unbind_req]
    exact ⟨rfl, rfl⟩
  clear_value s1
  split
  · next w hsome =>
    rw [State.endTwin_other fun e => hw (by rw [← h1, hsome, e])]
    exact hs
  · exact hs

theorem State.failReq_ends {s : State} {p r reason code : Nat} (ht : (s.req r).twin = false) (hw : s.twinOf r ≠ some r) :
    ((s.failReq p r reason code).req r).state = rsFailed ∧ ((s.failReq p r reason code).req r).reason = reason := by
  unfold State.failReq State.endPlain State.reqRecord
  generalize hv : s.record _ = v
  have hr : v.reqs = s.reqs := by rw [← hv]; exact State.record_reqs ..
  have hvt : (v.req r).twin = false := by unfold State.req; rw [hr]; exact ht
  have hvw : v.twinOf r ≠ some r := by unfold State.twinOf; rw [hr]; exact hw
  generalize (v.req r).outcnt = n
  unfold State.endReq
  extract_lets rep s1 s2
  have h1 := State.release_keeps (s := v.updReq r fun q => { q with state := rsFailed, reason := reason, hcmd := 0, marked := false }) (p := p) (r := r)
    (by rw [State.req_updReq_same]; exact hvt) (by rw [State.twinOf_updReq hvt hvw]; exact hvw)
  rw [State.req_updReq_same] at h1
  have h2 : s2.req r = s1.req r := by
    unfold s2
    split
    · exact (State.tell_only ..).req r
    · rfl
  clear_value s2
  unfold State.pushRec
  rw [State.req_updPart, h2]
  exact h1

/-! ### The steward's commands -/

theorem stewardEntryScan_unmarks {r : Req} {s : State} {p : Nat} (hup : s.stewardUp = true) (ho : s.reqOwner r.val = some p) (hm : (s.req r.val).marked = true)
    (hs : (s.req r.val).slot = none) (hr : s.runs p = false) : ∃ u, exec (.stewardEntryScan r) s = .next u ∧
      (u.req r.val).marked = (u.req r.val).waitsEvent := by
  refine ⟨_, by simp only [exec, execStewardEntryScan, hup, ho, hm, hs, hr, Bool.not_true, Bool.not_false, Bool.false_eq_true, if_false, Option.isNone_none,
    Bool.and_self, if_true]; rfl, ?_⟩
  rw [State.journalAcc_req, State.req_updReq_same]
  rfl

theorem transcriptReserve_reserves {r : Req} {s : State} {p : Nat} {o : Nat × Nat} (hup : s.stewardUp = true) (ho : s.reqOwner r.val = some p)
    (hst : (s.req r.val).state = rsSubmitted) (htr : (s.req r.val).trOff = none) (hadm : s.mayAdmit p = true) (hf : (s.req r.val).fieldsOk 1 = true)
    (hc : (s.req r.val).promptLen + (s.req r.val).maxTok ≤ (s.part p).capacity) (h2 : s.findTwo p (s.reserveLen p (s.req r.val)) = some o) :
    ∃ u, exec (.transcriptReserve r) s = .next u ∧ (u.req r.val).trOff = some o ∧ (u.req r.val).promptPend = true := by
  refine ⟨s.reserve p r.val, ?_, ?_⟩
  · simp [exec, execTranscriptReserve, hup, ho, hst, htr, hadm, hf, hc]
  · unfold State.reserve
    extract_lets n
    rw [h2]
    dsimp only
    rw [State.req_updReq_same]
    exact ⟨rfl, rfl⟩

theorem promptReadDone_ends {r : Req} {s : State} {p : Nat} (hup : s.stewardUp = true) (ho : s.reqOwner r.val = some p) (hp : (s.req r.val).promptPend = true) :
    (∃ u, exec (.promptReadDone r none) s = .next u ∧ (u.req r.val).readErr = true ∧ (u.req r.val).promptPend = false) ∧
    ∀ l : List (Fin 1048576), l.length = (s.req r.val).promptLen → s.fnMayMaster (p + 1) = true →
      ∃ u, exec (.promptReadDone r (some l)) s = .next u ∧ (u.req r.val).promptDone = true ∧ (u.req r.val).promptPend = false := by
  refine ⟨⟨s.updReq r.val fun q => { q with promptPend := false, readErr := true }, ?_, ?_⟩, fun l hl hm =>
    ⟨(s.appendToks p r.val 0 (l.map (·.val))).updReq r.val fun q => { q with promptPend := false, promptDone := true }, ?_, ?_⟩⟩
  · simp only [exec, execPromptReadDone, hup, ho, hp, Bool.not_true, Bool.false_eq_true, if_false, Option.isSome_none, Bool.false_and, Bool.or_self]
  · rw [State.req_updReq_same]
    exact ⟨rfl, rfl⟩
  · simp only [exec, execPromptReadDone, hup, ho, hp, hl, hm, Bool.not_true, Bool.false_eq_true, if_false, Bool.and_false, Bool.or_self, if_true]
  · rw [State.req_updReq_same]
    exact ⟨rfl, rfl⟩

theorem parcelTtlExpiry_ends {r : Req} {s : State} {p : Nat} (hup : s.stewardUp = true) (ho : s.reqOwner r.val = some p) (ht : (s.req r.val).twin = false)
    (hw : s.twinOf r.val ≠ some r.val) (hb : s.atBoundary p = true) (hd : s.deferring p = false) (hst : (s.req r.val).state = rsPaused)
    (htime : (s.req r.val).pausedAt + 10 ^ 9 * (s.req r.val).pttl ≤ s.ptp) :
    ∃ u, exec (.parcelTtlExpiry r) s = .next u ∧ (u.req r.val).state = rsFailed ∧ (u.req r.val).reason = 6 := by
  refine ⟨(s.failReq p r.val 6 0x8007).journalAcc p, ?_, ?_⟩
  · simp only [exec, execParcelTtlExpiry, hup, ho, hst, hb, hd, htime, beq_self_eq_true, decide_true, Bool.not_true, Bool.not_false, Bool.and_self,
      Bool.false_eq_true, if_false, if_true]
  · rw [State.journalAcc_req]
    exact State.failReq_ends ht hw
theorem hardDeadline_ends {r : Req} {s : State} {p : Nat} (hup : s.stewardUp = true) (ho : s.reqOwner r.val = some p) (ht : (s.req r.val).twin = false)
    (hw : s.twinOf r.val ≠ some r.val) (hb : s.atBoundary p = true) (hd : s.deferring p = false) (hl : (s.req r.val).live = true)
    (hlate : (s.req r.val).late s.ptp = true) : ∃ u, exec (.hardDeadline r) s = .next u ∧ (u.req r.val).state = rsFailed ∧ (u.req r.val).reason = 5 := by
  refine ⟨(s.failReq p r.val 5 0x8006).journalAcc p, ?_, ?_⟩
  · simp [exec, execHardDeadline, hup, ho, hl, hlate, hb, hd, ht]
  · rw [State.journalAcc_req]
    exact State.failReq_ends ht hw

/-- Settles O34: each command at its request, and the end of a request, whose release leaves its state and reason. -/
theorem stewardHandlesPromptsAndEnds : Obligations.StewardHandlesPromptsAndEnds := by
  unfold Obligations.StewardHandlesPromptsAndEnds
  exact ⟨fun r s p => stewardEntryScan_unmarks, fun r s p o => transcriptReserve_reserves, fun r s p => promptReadDone_ends,
    fun r s p hup ho ht hw hb hd => ⟨parcelTtlExpiry_ends hup ho ht hw hb hd, hardDeadline_ends hup ho ht hw hb hd⟩⟩

/-! ### Parcels, rotation and return -/

/-- What is kept of a map passes the test. -/
theorem Map.get?_keep_some {α : Type} {m : Map α} {p : Nat → α → Bool} {k : Nat} {v : α} (h : (m.keep p).get? k = some v) : p k v = true := by
  unfold Map.keep Map.get? at h
  generalize m.entries = l at h
  induction l with
  | nil => cases h
  | cons e l ih =>
    rw [List.filter_cons] at h
    split at h
    · next he =>
      unfold lookupList at h
      split at h
      · next hk => cases h; rw [← hk]; exact he
      · exact ih h
    · exact ih h

/-- No page is held by a request whose pages have been freed. -/
theorem State.freeReqPages_none (s : State) (r n : Nat) : ¬ (((s.freeReqPages r).page n).pstate = 2 ∧ ((s.freeReqPages r).page n).req = r) := by
  have hg : (s.freeReqPages r).page n = (((s.pages.keep fun _ e => !((e.pstate == 2 || e.pstate == 4) && e.req == r)).get? n).getD PageEnt.free) := rfl
  rw [hg]
  intro ⟨h2, hr⟩
  generalize hk : Map.get? _ n = o at h2 hr
  cases o with
  | none => exact absurd h2 (by decide)
  | some e =>
    have hp := Map.get?_keep_some hk
    rw [Option.getD_some] at h2 hr
    simp [h2, hr] at hp

theorem parcelWrite_writes {r : Req} {s : State} {p : Nat} {spill : Bool} {off : Nat} (hup : s.stewardUp = true) (ho : s.reqOwner r.val = some p)
    (hw : (s.req r.val).parcelWait = true) (hst : (s.req r.val).state = rsPaused ∨ (s.req r.val).state = rsParked)
    (hpl : s.parcelPlace p r.val = some (spill, off)) : ∃ u, exec (.parcelWrite r) s = .next u ∧ (u.req r.val).parcelWait = false ∧
      (u.req r.val).parcel.map (·.1) = some off ∧ ∀ n, ¬ ((u.page n).pstate = 2 ∧ (u.page n).req = r.val) := by
  have hc : ((s.req r.val).parcelWait && ((s.req r.val).state == rsPaused || (s.req r.val).state == rsParked)) = true := by
    rw [hw]
    rcases hst with h | h <;> rw [h] <;> rfl
  refine ⟨s.writeParcel p r.val spill off, ?_, ?_⟩
  · simp only [exec, execParcelWrite, hup, ho, hc, hpl, Bool.not_true, Bool.false_eq_true, if_false, if_true]
  · unfold State.writeParcel
    extract_lets pages s1 good low at_ mem0 mem
    clear_value mem
    refine ⟨?_, ?_, fun n => State.freeReqPages_none (s1.setMem mem) r.val n⟩
    · rw [State.req_updReq_same]
    · rw [State.req_updReq_same]
      rfl

theorem State.returnReq_state (s : State) (p r : Nat) (toks : List Nat) : ((s.returnReq p r toks).req r).state = rsAdmitted := by
  unfold State.returnReq
  extract_lets q paused s1 lp s2 s3 ps s4
  rw [State.journalAcc_req]
  unfold State.pushRec
  rw [State.req_updPart]
  unfold s4
  rw [State.req_updReq_same]
  show (s3.req r).state = rsAdmitted
  unfold s3
  rw [State.req_updReq_same]

theorem resumeReady_admits {r : Req} {data : Option (List (Fin 1048576))} {ok : Bool} {s : State} {p : Nat} (hup : s.stewardUp = true)
    (ho : s.reqOwner r.val = some p) (hadm : s.mayAdmit p = true) (hb : s.atBoundary p = true)
    (hf : (s.inOrder (s.partReqs p)).find? (fun v => s.canReturn p v) = some r.val)
    (hd : (s.req r.val).state ≠ rsPaused ∨ (s.req r.val).promptLen = 0 ∨
      ∃ l, data = some l ∧ l.length = (s.req r.val).promptLen ∧ s.fnMayMaster (p + 1) = true) :
    ∃ u, exec (.resumeReady r data ok) s = .next u ∧ (u.req r.val).state = rsAdmitted := by
  have hg : (s.mayAdmit p && s.atBoundary p && (s.inOrder (s.partReqs p)).find? (fun v => s.canReturn p v) == some r.val) = true := by
    rw [hadm, hb, hf]
    exact beq_self_eq_true _
  by_cases hn : (if (s.req r.val).state = rsPaused then (s.req r.val).promptLen else 0) = 0
  · refine ⟨_, ?_, State.returnReq_state (s.checkParcel p r.val ok) p r.val []⟩
    simp only [exec, execResumeReady, hup, ho, hg, hn, Bool.not_true, Bool.false_eq_true, if_false, if_true]
  · have hp : (s.req r.val).state = rsPaused := by
      refine Classical.byContradiction fun h => ?_
      exact hn (if_neg h)
    rw [if_pos hp] at hn
    rcases hd with h | h | ⟨l, rfl, hl, hm⟩
    · exact absurd hp h
    · exact absurd h hn
    · refine ⟨_, ?_, State.returnReq_state (s.checkParcel p r.val ok) p r.val (l.map (·.val))⟩
      simp only [exec, execResumeReady, hup, ho, hg, hp, hn, hl, hm, decide_true, Bool.and_self, Bool.not_true, Bool.false_eq_true, if_false, if_true]

theorem rotateExpiry_notes {r : Req} {s : State} {p : Nat} (hup : s.stewardUp = true) (ho : s.reqOwner r.val = some p) (hst : (s.req r.val).state = rsDecode)
    (ht : (s.req r.val).twin = false) (hms : s.g STW_PCFG_ROTATE_MS p ≠ 0) (hat : (s.req r.val).decodeAt + 1000000 * s.g STW_PCFG_ROTATE_MS p ≤ s.ptp)
    (hsm : s.smifort p = false) (hany : (s.partReqs p).any (fun v => (s.req v).state == rsParked && (s.req v).prio == (s.req r.val).prio) = true) :
    ∃ u, exec (.rotateExpiry r) s = .next u ∧ (u.req r.val).parkNext = true := by
  have hne : (s.g STW_PCFG_ROTATE_MS p != 0) = true := bne_iff_ne.2 hms
  refine ⟨_, by simp only [exec, execRotateExpiry, hup, ho, hst, ht, hne, hat, hsm, hany, beq_self_eq_true, decide_true, Bool.not_true, Bool.not_false,
    Bool.and_self, Bool.false_eq_true, if_false, if_true]; rfl, ?_⟩
  rw [State.req_updReq_same]

theorem parcelReturnDone_ends {r : Req} {s : State} (hup : s.stewardUp = true) (hr : (s.req r.val).returning = true) (hl : (s.req r.val).restoreLeft = 0) :
    ∃ u, exec (.parcelReturnDone r) s = .next u ∧ (u.req r.val).returning = false ∧ (u.req r.val).parcel = none := by
  refine ⟨_, by simp only [exec, execParcelReturnDone, hup, hr, hl, beq_self_eq_true, Bool.not_true, Bool.and_self, Bool.false_eq_true, if_false, if_true]; rfl, ?_⟩
  rw [State.req_updReq_same]
  exact ⟨rfl, rfl⟩

/-- Settles O36: each command at its request, and the pages that a written parcel frees. -/
theorem parcelsRotationAndReturn : Obligations.ParcelsRotationAndReturn := by
  unfold Obligations.ParcelsRotationAndReturn
  exact ⟨fun r s p spill off => parcelWrite_writes, fun r s p => rotateExpiry_notes, fun r data ok s p => resumeReady_admits,
    fun r s => parcelReturnDone_ends⟩

end Sys2Proof.Machine
end

section
/-! PROOF. The server table and the stream engine (08 R203, R212): O41. -/

namespace Sys2Proof.Machine

open Sys2Proof Sys2Proof.Safety

/-! ### What the rows of a plan entry depend on -/

/-- Memory, partitions and repair state are the same: what a package copy and its translation are read from. -/
structure SameCopy (a s : State) : Prop where
  mem : s.mem = a.mem
  parts : s.parts = a.parts
  repair : s.repair = a.repair

theorem SameCopy.rewrite {a s : State} (h : SameCopy a s) (p : Nat) (sh : Shift) (area : Nat) (lane : Nat → Nat) (typ v : Nat) :
    s.rewrite p sh area lane typ v = a.rewrite p sh area lane typ v := by
  unfold State.rewrite State.owner State.quadOwner State.part
  rw [h.parts]
theorem SameCopy.setMem {a s : State} (h : SameCopy a s) {m : Memory} : SameCopy (a.setMem m) (s.setMem m) := ⟨rfl, h.parts, h.repair⟩
theorem SameCopy.patchAt {a s : State} (h : SameCopy a s) (p : Nat) (sh : Shift) (area : Nat) (lane : Nat → Nat) (dst len : Nat) (r : Patch) :
    SameCopy (a.patchAt p sh area lane dst len r) (s.patchAt p sh area lane dst len r) := by
  unfold State.patchAt
  extract_lets n u w u'
  have hu : u' = u := by unfold u u'; rw [h.mem]
  rw [hu, h.rewrite, h.mem]
  generalize State.rewrite a p sh area lane r.typ _ = o
  cases o with
  | none => exact h
  | some v => exact h.setMem
theorem SameCopy.foldl {β : Type} {f : State → β → State} (hf : ∀ a s b, SameCopy a s → SameCopy (f a b) (f s b)) :
    ∀ (l : List β) {a s : State}, SameCopy a s → SameCopy (l.foldl f a) (l.foldl f s)
  | [], _, _, h => h
  | b :: l, a, s, h => SameCopy.foldl hf l (hf a s b h)
theorem SameCopy.pk {a s : State} (h : SameCopy a s) (x o n : Nat) : s.pk x o n = a.pk x o n := by unfold State.pk; rw [h.mem]
theorem SameCopy.patches {a s : State} (h : SameCopy a s) (b : Nat) (x : Sect) : s.patches b x = a.patches b x := by
  unfold State.patches
  simp only [h.pk]
theorem SameCopy.sects {a s : State} (h : SameCopy a s) (x : Nat) : s.sects x = a.sects x := by
  unfold State.sects
  simp only [h.pk]
theorem SameCopy.pkgHdr {a s : State} (h : SameCopy a s) (x o : Nat) : s.pkgHdr x o = a.pkgHdr x o := by
  unfold State.pkgHdr
  simp only [h.pk]
theorem SameCopy.scratch {a s : State} (h : SameCopy a s) (g : Plan) : SameCopy (a.scratch g).1 (s.scratch g).1 := by
  unfold State.scratch
  extract_lets s1 s2 a1 a2
  have h1 : SameCopy s1 a1 := by
    unfold s1 a1
    rw [h.pk, h.mem]
    exact h.setMem
  show SameCopy s2 a2
  clear_value s1 a1
  unfold s2 a2
  generalize sectOf g.sects 0x10 = y
  cases y with
  | none => exact h1
  | some y =>
    dsimp only
    rw [h1.patches]
    refine SameCopy.foldl (fun b t r hb => ?_) _ h1
    cases g.sects.find? (fun x => x.idx == r.sect) with
    | none => exact hb
    | some x => exact hb.patchAt ..
theorem SameCopy.planOf {a s : State} (h : SameCopy a s) (p area : Nat) (i : LoadInfo) : s.planOf p area i = a.planOf p area i := by
  unfold State.planOf State.partQuads State.part
  simp only [h.sects, h.pkgHdr, h.parts]
theorem SameCopy.lostSpan {a s : State} (h : SameCopy a s) (o n : Nat) : s.lostSpan o n = a.lostSpan o n := by
  unfold State.lostSpan State.lostByte
  rw [h.repair]
theorem SameCopy.streamRows {a s : State} (h : SameCopy a s) (p : Nat) (k : PkgRef) (e : StreamE) : s.streamRows p k e = a.streamRows p k e := by
  have hp : s.part p = a.part p := by unfold State.part; rw [h.parts]
  unfold State.streamRows
  simp only [hp, h.sects, h.planOf, h.lostSpan]
  generalize (a.part p).info.bind _ = g
  cases g with
  | none => dsimp only; rw [h.mem]
  | some g => dsimp only; rw [(h.scratch g).mem]

/-- A record whose code leaves the step to another attempt leaves the partitions. -/
theorem State.record_parts_of_retry {s : State} {r : Rec} (h : noRetryCode r.code = false) : (s.record r).parts = s.parts := by
  have he : ((s.appendLog (s.stamp r)).recordInts (s.stamp r)).parts = s.parts := State.recordInts_parts ..
  unfold State.record
  extract_lets fr s1
  split
  · rw [h, if_neg Bool.false_ne_true]
    exact he
  · exact he

/-! ### The commands -/

theorem serverEntryValid_sets {path : Path} {e : Fin 64} {v : Bool} {s : State} (ho : pageOpen s path false true = true) (hu : s.serverUsed e.val = false) :
    ∃ u, exec (.serverEntryValid path e v) s = .next u ∧ u.flag LD_SRV0_VALID 0 e.val = v ∧
      (v = true → s.flag LD_SRV0_VALID 0 e.val = false → u.flag LD_SRV0_DOWN 0 e.val = false) := by
  refine ⟨_, pageWrite_runs (pg := .ld) (act := fun s => s.writeValid path e.val v) ho, ?_⟩
  unfold State.writeValid
  rw [hu, if_neg Bool.false_ne_true]
  generalize hw : (if v && !s.flag LD_SRV0_VALID 0 e.val then s.setG LD_SRV0_DOWN e.val 0 else s) = w
  refine ⟨?_, fun hv hoff => ?_⟩
  · cases v
    · exact State.flag_setG_zero ..
    · exact State.flag_of_g (State.g_setG_same ..)
  · refine (State.flag_setG_other (Fld.key_ne_of_lo (by decide) (by decide) (by decide))).trans ?_
    rw [← hw, hv, hoff]
    exact State.flag_setG_zero ..

theorem streamPlanEntry_sends {part : Part} {e : Fin 1048576} {behind : Bool} {s : State} {k : PkgRef} {w t : Nat} (hk : (s.part part.val).resident = some k)
    (hw : (s.part part.val).plan[e.val]? = some w) (hrun : s.flag CSD_PCFG_RUN 0 part.val = true)
    (hph : ((s.part part.val).commitIdx + (s.part part.val).planLead) % (s.part part.val).planPeriod = (streamE w).phase)
    (ht : tileOfAddr (streamE w).tile = some t) :
    ∃ u, exec (.streamPlanEntry part e behind) s = .next u ∧ u.flight.length = s.flight.length + (s.streamRows part.val k (streamE w)).length ∧
      ∀ j r, (s.streamRows part.val k (streamE w))[j]? = some r →
        ∃ q, u.flight[s.flight.length + j]? = some q ∧ q.dst = t ∧ q.drow = (streamE w).brow + j ∧ q.data = r.1 ∧ q.part = part.val := by
  generalize hb : (if behind then s.ldRecord (some part.val) 0x902B 0 0 else s) = b
  have hc : SameCopy s b ∧ b.flight = s.flight := by
    rw [← hb]
    split
    · exact ⟨⟨State.record_mem .., State.record_parts_of_retry (show noRetryCode 0x902B = false by decide), State.record_repair ..⟩, State.record_flight ..⟩
    · exact ⟨⟨rfl, rfl, rfl⟩, rfl⟩
  obtain ⟨hc, hf⟩ := hc
  refine ⟨_, by simp only [exec, execStreamPlanEntry, hk, hw, hrun, hph, ht, hb, beq_self_eq_true, Bool.and_self, if_true]; rfl, ?_⟩
  dsimp only
  rw [hf, hc.streamRows]
  refine ⟨by rw [List.length_append, List.length_map, List.length_zipIdx], fun j r hj => ?_⟩
  rw [List.getElem?_append_right (Nat.le_add_right ..), Nat.add_sub_cancel_left, List.getElem?_map, List.getElem?_zipIdx, hj]
  exact ⟨_, rfl, rfl, by rw [Nat.zero_add]; rfl, rfl, rfl⟩

/-- Settles O41: the entry's flags, and the packets of a plan entry, which a record of the lag does not change. -/
theorem serversAndStreams : Obligations.ServersAndStreams := by
  unfold Obligations.ServersAndStreams
  exact ⟨fun path e v s => serverEntryValid_sets, fun e s hv => ⟨_, if_pos hv, State.flag_of_g (State.g_setG_same ..)⟩,
    fun part e behind s k w t => streamPlanEntry_sends⟩

end Sys2Proof.Machine
end

section
/-! PROOF. CREATE, RESIZE and DESTROY with their completions (08 R189 to R194): O38. -/

namespace Sys2Proof.Machine

open Sys2Proof Sys2Proof.Safety

/-! ### A partition's resources and its fill -/

/-- What a partition holds, and whether it is being filled with zeros. -/
def PartSt.held (x : PartSt) : Bool × Nat × Nat × Nat := (x.filling, x.reqFirst, x.reqCount, x.cistGb)
/-- Every partition holds what it held. -/
structure SameHeld (a s : State) : Prop where
  held : ∀ p, (s.part p).held = (a.part p).held

theorem SameHeld.refl {a : State} : SameHeld a a := ⟨fun _ => rfl⟩
theorem SameHeld.same {a s t : State} (h : SameHeld a s) (hparts : t.parts = s.parts) : SameHeld a t :=
  ⟨fun p => Eq.trans (by unfold State.part; rw [hparts]) (h.held p)⟩
theorem SameHeld.only {a s t : State} (h : SameHeld a s) (k : s.IntsOnly t) : SameHeld a t := h.same k.parts
theorem SameHeld.foldl {a : State} {β : Type} {f : State → β → State} (hf : ∀ s b, SameHeld a s → SameHeld a (f s b)) (l : List β) :
    ∀ {s : State}, SameHeld a s → SameHeld a (l.foldl f s) := by
  induction l with
  | nil => exact fun h => h
  | cons b r ih => exact fun h => ih (hf _ b h)
theorem State.updPart_sameHeld {a s : State} (h : SameHeld a s) {p : Nat} {f : PartSt → PartSt}
    (hf : ∀ x : PartSt, (f x).held = x.held := by exact fun _ => rfl) : SameHeld a (s.updPart p f) := by
  refine ⟨fun q => ?_⟩
  rcases Decidable.em (p = q) with rfl | hne
  · rw [State.part_updPart_same, hf, h.held]
  · rw [State.part_updPart_other hne, h.held]
theorem State.journalAcc_sameHeld {a s : State} (h : SameHeld a s) {p : Nat} : SameHeld a (s.journalAcc p) := by
  unfold State.journalAcc
  extract_lets x c
  split
  · exact h
  · have hc : c.2.parts = s.parts := by
      unfold c State.journalCopies
      split <;> rfl
    have hx : c.2.part p = x := by unfold State.part; rw [hc]; rfl
    have hu : c.2.setPart p { x with journal := x.journal ++ [⟨x.count, x.acc, x.accRows, c.1⟩], acc := [], accRows := [] } =
        c.2.updPart p fun x => { x with journal := x.journal ++ [⟨x.count, x.acc, x.accRows, c.1⟩], acc := [], accRows := [] } := by
      unfold State.updPart
      rw [hx]
    rw [hu]
    exact State.updPart_sameHeld (h.same hc)
theorem State.clearBindings_sameHeld {a s : State} (h : SameHeld a s) {p : Nat} : SameHeld a (s.clearBindings p) := by
  unfold State.clearBindings
  extract_lets s1 s2
  have h1 : SameHeld a s1 := SameHeld.foldl (fun b r hb => by split; exact hb.same rfl; exact hb) _ h
  have h2 : SameHeld a s2 := State.updPart_sameHeld h1
  clear_value s2
  refine SameHeld.foldl (fun b r hb => ?_) _ h2
  exact hb.same rfl
theorem State.unbind_sameHeld {a s : State} (h : SameHeld a s) {p r : Nat} : SameHeld a (s.unbind p r) :=
  (State.updPart_sameHeld (f := fun x => { x with slots := x.slots.mapVal fun _ b => if b.req = r then { b with dead := true } else b }) h).same rfl
theorem State.endTwin_sameHeld {a s : State} (h : SameHeld a s) {w : Nat} : SameHeld a (s.endTwin w) := by
  unfold State.endTwin
  exact (State.unbind_sameHeld h).same rfl
theorem State.release_sameHeld {a s : State} (h : SameHeld a s) {p r : Nat} : SameHeld a (s.release p r) := by
  unfold State.release
  extract_lets s1
  have h1 : SameHeld a s1 := (State.unbind_sameHeld (p := p) (r := r) h).same rfl
  clear_value s1
  split
  · exact State.endTwin_sameHeld h1
  · exact h1
theorem State.endPlain_sameHeld {a s : State} (h : SameHeld a s) {p r st reason : Nat} : SameHeld a (s.endPlain p r st reason) := by
  unfold State.endPlain State.endReq
  extract_lets rep s1 s2
  have h1 : SameHeld a s1 := by
    refine State.release_sameHeld ?_
    exact h.same rfl
  have h2 : SameHeld a s2 := by
    unfold s2
    split
    · exact h1.only (State.tell_only ..)
    · exact h1
  clear_value s2
  unfold State.pushRec
  exact State.updPart_sameHeld h2
theorem State.failRequests_sameHeld {a s : State} (h : SameHeld a s) {p reason : Nat} : SameHeld a (s.failRequests p reason) := by
  unfold State.failRequests
  refine State.journalAcc_sameHeld (SameHeld.foldl (fun b r hb => ?_) _ h)
  split
  · exact State.endTwin_sameHeld hb
  · split
    · exact State.endPlain_sameHeld hb
    · exact hb
theorem State.haltPart_sameHeld {a s : State} (h : SameHeld a s) {p : Nat} : SameHeld a (s.haltPart p) := by
  unfold State.haltPart
  extract_lets s1
  have h1 : SameHeld a s1 := by
    unfold s1
    refine State.updPart_sameHeld (SameHeld.same h ?_)
    rfl
  exact h1.same rfl
theorem State.abortPart_sameHeld {a s : State} (h : SameHeld a s) {p : Nat} : SameHeld a (s.abortPart p) := by
  unfold State.abortPart
  split
  · have hd : SameHeld a ((s.discardAttempt p).onTiles p TileSt.newAttempt) := h.same (State.discardAttempt_parts s p)
    generalize (s.discardAttempt p).onTiles p TileSt.newAttempt = u at hd
    refine State.clearBindings_sameHeld ?_
    have hc : SameHeld a (u.countUp p) := State.updPart_sameHeld hd
    generalize u.countUp p = v at hc
    exact State.haltPart_sameHeld hc
  · exact h

/-! ### The slot's status -/

theorem State.abortPart_reg_upper (s : State) (p : Nat) {f : Fld} {inst i : Nat} (hu : f.upper inst i) (hbank : f.lo ≠ 26) (hpass : f.lo ≠ 20)
    (hrun : f.lo ≠ 31) : (s.abortPart p).reg f inst i = s.reg f inst i := by
  unfold State.abortPart
  split
  · refine ((State.clearBindings_sameUpper .refl).reg f inst i hu).trans ((State.haltPart_reg_upper _ p hu hrun).trans ?_)
    exact State.discardAttempt_reg s p hu.2.1 hbank hpass
  · rfl
theorem State.failRequests_sameUpper {a s : State} (h : SameUpper a s) {p reason : Nat} : SameUpper a (s.failRequests p reason) := by
  unfold State.failRequests
  refine State.journalAcc_sameUpper (foldl_sameUpper (fun b r hb => ?_) h)
  split
  · exact State.endTwin_sameUpper hb
  · split
    · exact State.endPlain_sameUpper hb
    · exact hb

theorem State.slotStart_sets {s : State} {n t : Nat} (hn : n < 4) :
    (s.slotStart n t).slotRunning n = true ∧ (s.slotStart n t).g LD_CMD_STS_CODE n = 0 := by
  unfold State.slotStart State.slotRunning
  refine ⟨beq_iff_eq.2 ?_, ?_⟩
  · rw [State.g_setG_other (Fld.key_ne_of_lo (by decide) (by decide) (by decide)), State.g_setG_other (Fld.key_ne_of_lo (by decide) (by decide) (by decide)),
      State.g_setG_other (Fld.key_ne_of_lo (by decide) (by decide) (by decide)), State.g_setG_same]
    decide
  · rw [State.g_setG_other (by simp only [Fld.key, Fld.offset, LD_CMD_PROG_TOTAL, LD_CMD_STS_CODE]; omega),
      State.g_setG_other (Fld.key_ne_of_lo (by decide) (by decide) (by decide)), State.g_setG_same]
    rfl

/-! ### The commands -/

/-- DESTROY's slot runs, and its partition fills, through all that the command ends. -/
theorem State.goDestroy_sets {s : State} {m p : Nat} (hm : m < 4) : (s.goDestroy m p).slotRunning m = true ∧ ((s.goDestroy m p).part p).filling = true := by
  unfold State.goDestroy
  extract_lets s1 s2 s3
  have hs1 : s1.g LD_CMD_STS_STATE m = ldRunning := beq_iff_eq.1 (State.slotStart_sets hm).1
  clear_value s1
  have hu : LD_CMD_STS_STATE.upper 0 m := Fld.upper_of_lo (by decide) (by decide)
  have hs2 : s2.g LD_CMD_STS_STATE m = ldRunning := hs1
  have hf2 : ((s2.part p).held).1 = true := by
    unfold s2
    rw [State.part_updPart_same]
    rfl
  clear_value s2
  have hs3 : s3.g LD_CMD_STS_STATE m = s2.g LD_CMD_STS_STATE m ∧ SameHeld s2 s3 := by
    unfold s3
    split
    · refine ⟨?_, SameHeld.only (State.haltPart_sameHeld (p := p) (State.abortPart_sameHeld (p := p) .refl)) ?_⟩
      · refine ((State.chainStop_sameUpper .refl).reg _ _ _ hu).trans ((State.haltPart_reg_upper _ p hu (by decide)).trans ?_)
        exact State.abortPart_reg_upper s2 p hu (by decide) (by decide) (by decide)
      · unfold State.chainStop
        split
        · exact State.tell_only ..
        · exact .refl _
    · exact ⟨rfl, .refl⟩
  obtain ⟨hg3, hh3⟩ := hs3
  refine ⟨beq_iff_eq.2 ?_, ?_⟩
  · exact ((State.failRequests_sameUpper .refl).reg _ _ _ hu).trans (hg3.trans hs2)
  · exact (congrArg (·.1) ((State.failRequests_sameHeld hh3).held p)).trans hf2

section
variable {path : Path} {n : LdSlot} {s : State} (ho : pageOpen s path false true = true) (hr : s.slotRunning n.val = false) (hg : s.goBad n.val = false)
include ho hr hg

theorem create_runs (hop : s.cmdOpc n.val = opCreate) (ha : s.attrsBad (s.cmdPart n.val) (s.attrs n.val) = false)
    (hl : s.lacks (s.cmdPart n.val) (s.attrs n.val) = 0) :
    ∃ u, exec (.create path n) s = .next u ∧ u.slotRunning n.val = true ∧ u.g LD_CMD_STS_CODE n.val = 0 := by
  refine ⟨(s.slotStart n.val 0).coolQuads (quadsOf (s.attrs n.val).qmask), ?_, State.slotStart_sets n.isLt⟩
  refine (ownerWrite_runs (pg := .ld) (act := fun s => if s.cmdOpc n.val = opCreate then s.runGo path n.val else s) ho).trans (congrArg Host.Outcome.next ?_)
  simp [State.runGo, State.goCreate, hop, hr, hg, ha, hl]

theorem resize_runs (hop : s.cmdOpc n.val = opResize) (ha : s.attrsBad (s.cmdPart n.val) (s.attrs n.val) = false)
    (hl : s.lacks (s.cmdPart n.val) (s.attrs n.val) = 0) (hc : s.cistUsed (s.cmdPart n.val) ≤ (s.attrs n.val).gb * 10 ^ 9) :
    ∃ u, exec (.resize path n) s = .next u ∧ u.slotRunning n.val = true ∧ u.g LD_CMD_STS_CODE n.val = 0 := by
  refine ⟨(s.slotStart n.val 0).coolQuads (s.partQuads (s.cmdPart n.val) ++ quadsOf (s.attrs n.val).qmask), ?_, State.slotStart_sets n.isLt⟩
  refine (ownerWrite_runs (pg := .ld) (act := fun s => if s.cmdOpc n.val = opResize then s.runGo path n.val else s) ho).trans (congrArg Host.Outcome.next ?_)
  have hne : opResize ≠ opCreate := by decide
  simp only [State.runGo, State.goResize, hop, hr, hg, ha, hl, hne, Nat.not_lt.2 hc, ne_eq, not_true_eq_false, Bool.false_eq_true, if_false, if_true]

theorem destroy_runs (hop : s.cmdOpc n.val = opDestroy) :
    ∃ u, exec (.destroy path n) s = .next u ∧ u.slotRunning n.val = true ∧ (u.part (s.cmdPart n.val)).filling = true := by
  refine ⟨s.goDestroy n.val (s.cmdPart n.val), ?_, State.goDestroy_sets n.isLt⟩
  refine (ownerWrite_runs (pg := .ld) (act := fun s => if s.cmdOpc n.val = opDestroy then s.runGo path n.val else s) ho).trans (congrArg Host.Outcome.next ?_)
  have hne : opDestroy ≠ opCreate ∧ opDestroy ≠ opResize := by decide
  simp only [State.runGo, hop, hr, hg, hne, Bool.false_eq_true, if_false, if_true]
end

/-! ### Their ends -/

theorem State.slotOf_lt {s : State} {p o n : Nat} (h : s.slotOf p o = some n) : n < 4 :=
  List.mem_range.1 (List.mem_filter.1 (List.mem_of_find?_eq_some h)).1

theorem State.cmdEnd_code {s : State} {n : Nat} {o : Option Nat} (hn : n < 4) : (s.cmdEnd n o 0).g LD_CMD_STS_CODE n = 0 := by
  unfold State.cmdEnd State.cmdEndWith
  simp only [if_pos]
  rw [State.raiseInt_g (by decide) (by simp only [Fld.key, Fld.offset, LD_CMD_STS_CODE, Page.code]; omega)
    (by simp only [Fld.key, Fld.offset, LD_CMD_STS_CODE, Page.code]; omega), State.g_setG_same]
  rfl

/-- The figures that a partition's new attributes put. -/
theorem State.setAttrs_held (s : State) (p : Nat) (a : Attrs) : ((s.setAttrs p a).part p).held = ((s.part p).filling, a.first, a.count, a.gb) := by
  unfold State.setAttrs
  extract_lets qs
  have h : ∀ (v : State) (f : Fld) (i w : Nat), (v.setG f i w).part p = v.part p := fun _ _ _ _ => rfl
  rw [h, State.part_updPart_same]
  rfl
theorem State.wipeTiles_parts (s : State) (q : Nat → Bool) : (s.wipeTiles q).parts = s.parts := rfl
theorem State.wipeTiles_zero {s : State} {q : Nat → Bool} {a : Nat} (h : Memory.read s.mem a = 0#8) : Memory.read (s.wipeTiles q).mem a = 0#8 := by
  have hk : ∀ (m : Memory) (g : Nat → Bool), Memory.read m a = 0#8 → Memory.read (m.keep fun k _ => g k) a = 0#8 := fun m g hm => by
    rw [Memory.read_keep, hm]
    exact ite_self _
  exact hk _ _ (hk _ _ h)
theorem State.wipeCistern_zero {s : State} {p a : Nat} (h1 : cisternBase p ≤ a) (h2 : a < cisternBase (p + 1)) : Memory.read (s.wipeCistern p).mem a = 0#8 := by
  refine (Memory.read_keep s.mem (fun k => decide (k < cisternBase p) || decide (cisternBase (p + 1) ≤ k)) a).trans (if_neg ?_)
  rw [decide_eq_false (Nat.not_lt.2 h1), decide_eq_false (Nat.not_le.2 h2)]
  exact Bool.false_ne_true

theorem State.createDone_ends {s : State} {n : Nat} (hn : n < 4) (p : Part) : (s.createDone n p.val).pstate p.val = psEmpty ∧
    (s.createDone n p.val).g LD_CMD_STS_STATE n = ldDone ∧ (s.createDone n p.val).g LD_CMD_STS_CODE n = 0 ∧
    ((s.createDone n p.val).part p.val).reqFirst = (s.attrs n).first ∧ ((s.createDone n p.val).part p.val).reqCount = (s.attrs n).count ∧
    ((s.createDone n p.val).part p.val).cistGb = (s.attrs n).gb ∧
    ∀ a, cisternBase p.val ≤ a → a < cisternBase (p.val + 1) → Memory.read (s.createDone n p.val).mem a = 0#8 := by
  unfold State.createDone
  extract_lets a s1 s2
  have hheld : (s2.part p.val).held = (false, a.first, a.count, a.gb) := by
    have h := State.setAttrs_held (s.setPart p.val PartSt.clear) p.val a
    rw [State.part_setPart_same] at h
    exact h
  have hmem : ∀ b, cisternBase p.val ≤ b → b < cisternBase (p.val + 1) → Memory.read s2.mem b = 0#8 := fun b h1 h2 =>
    State.wipeTiles_zero (State.wipeCistern_zero h1 h2)
  clear_value s1 s2
  have honly : s2.IntsOnly (((((s2.enter p.val psEmpty).setStopr p.val 0).setLcode p.val 0).setPend p.val 0).cmdEnd n (some p.val) 0) :=
    ((((State.enter_only ..).trans (State.setStopr_only ..)).trans (State.setLcode_only ..)).trans (State.setPend_only ..)).trans (State.cmdEnd_only ..)
  rw [honly.part, honly.mem]
  refine ⟨?_, State.cmdEnd_done hn, State.cmdEnd_code hn, congrArg (·.2.1) hheld, congrArg (·.2.2.1) hheld, congrArg (·.2.2.2) hheld, hmem⟩
  rw [State.cmdEnd_pstate p.isLt, State.setPend_pstate p.isLt, State.setLcode_pstate p.isLt, State.setStopr_pstate p.isLt]
  exact State.setPstate_pstate p.isLt (by decide)

theorem State.unloadKeep_sameHeld {a s : State} (h : SameHeld a s) {p : Nat} : SameHeld a (s.unloadKeep p) := by
  unfold State.unloadKeep
  split
  · exact h
  · exact SameHeld.only (State.updPart_sameHeld h) (State.setPend_only ..)
theorem State.resizeDone_ends {s : State} {n : Nat} (hn : n < 4) (p : Nat) : (s.resizeDone n p).g LD_CMD_STS_STATE n = ldDone ∧
    ((s.resizeDone n p).part p).reqFirst = (s.attrs n).first ∧ ((s.resizeDone n p).part p).reqCount = (s.attrs n).count ∧
    ((s.resizeDone n p).part p).cistGb = (s.attrs n).gb := by
  unfold State.resizeDone
  extract_lets a old qs s1 s2
  have h1 : (s1.part p).held.2 = (a.first, a.count, a.gb) := congrArg (·.2) (State.setAttrs_held (s.dropReqs p a.first a.count) p a)
  have h2 : SameHeld s1 s2 := by
    unfold s2
    clear_value s1
    split
    · exact .refl
    · refine SameHeld.only ?_ (State.enter_only ..)
      have hw : SameHeld s1 ((((s1.wipeTiles (inQuads (old ++ qs))).clearBindings p).unloadKeep p)) :=
        State.unloadKeep_sameHeld (State.clearBindings_sameHeld (SameHeld.refl.same (State.wipeTiles_parts ..)))
      exact hw.same rfl
  have hheld : (s2.part p).held.2 = (a.first, a.count, a.gb) := (congrArg (·.2) (h2.held p)).trans h1
  clear_value s1 s2
  rw [(State.cmdEnd_only s2 n (some p)).part]
  exact ⟨State.cmdEnd_done hn, congrArg (·.1) hheld, congrArg (·.2.1) hheld, congrArg (·.2.2) hheld⟩

theorem State.destroyDone_ends {s : State} {n : Nat} (hn : n < 4) (p : Part) : (s.destroyDone n p.val).pstate p.val = psNone ∧
    (s.destroyDone n p.val).parts.has p.val = false ∧ (s.destroyDone n p.val).g LD_CMD_STS_STATE n = ldDone := by
  unfold State.destroyDone
  extract_lets s1 qs rs s2 pw s3 s4 s5
  have h3 : s3.parts.has p.val = false := Map.has_del_same ..
  clear_value s3
  have h4 : s3.IntsOnly s4 := ((State.setStopr_only ..).trans (State.setPend_only ..)).trans (State.setPstate_only ..)
  have hp4 : s4.pstate p.val = psNone := State.setPstate_pstate p.isLt (by decide)
  have h5 : s4.IntsOnly s5 := State.IntsOnly.foldl (fun a f => State.setG_only ..) _ s4
  have hp5 : s5.pstate p.val = s4.pstate p.val := by
    unfold s5 State.pstate
    refine foldl_keep_mem (fun a : State => a.g LD_PSTATE_STATE p.val) _ (fun a f hf => State.g_setG_other ?_) s4
    have hlt := p.isLt
    simp only [List.mem_cons, List.not_mem_nil, or_false] at hf
    rcases hf with rfl | rfl | rfl | rfl | rfl | rfl <;>
      simp only [Fld.key, Fld.offset, LD_PSTATE_STATE, CSD_PCFG_RUN, CSD_PCFG_HOLD, CSD_PCFG_RMASK, LD_PPROF_PROFILE, LD_PPROF_PAD_T7, LD_PPROF_PAD_SETUP,
        Page.code] <;> omega
  clear_value s4 s5
  refine ⟨(State.cmdEnd_pstate p.isLt).trans (hp5.trans hp4), ?_, State.cmdEnd_done hn⟩
  rw [((h4.trans h5).trans (State.cmdEnd_only s5 n (some p.val))).parts]
  exact h3

theorem State.fillDone_runs {s : State} {p opc n : Nat} {f : State → Nat → Nat → State} (h : s.slotOf p opc = some n) :
    s.fillDone p opc f = .next (f s n p) := by
  unfold State.fillDone
  rw [h]

/-- Settles O38: each command's slot, and each completion at the fields that it sets. -/
theorem partitionsAreMadeResizedAndRemoved : Obligations.PartitionsAreMadeResizedAndRemoved := by
  unfold Obligations.PartitionsAreMadeResizedAndRemoved
  refine ⟨fun path n s ho hr hg => ⟨create_runs ho hr hg, resize_runs ho hr hg, destroy_runs ho hr hg⟩, fun part n s => ⟨fun h => ?_, fun h => ?_, fun h => ?_⟩⟩
  · exact ⟨_, State.fillDone_runs h, State.createDone_ends (State.slotOf_lt h) part⟩
  · exact ⟨_, State.fillDone_runs h, State.resizeDone_ends (State.slotOf_lt h) part.val⟩
  · exact ⟨_, State.fillDone_runs h, State.destroyDone_ends (State.slotOf_lt h) part⟩

end Sys2Proof.Machine
end

section
/-! PROOF. Host reads and writes of the Basin and of the Cistern (05 R127; 15 R386, R387): O27. -/

namespace Sys2Proof.Machine

open Sys2Proof Sys2Proof.Safety

/-- A read of one row of an active tile's page answers its bytes. -/
theorem State.basinRead_answers {s : State} {p : Path} {addr len : Nat} (hn : addr / 32768 < 917504) (hr : s.reaches p (addr / 32768) = true)
    (hs : s.sliceUp (addr / 32768 / 16) = true) : ∃ ep, (s.basinRead p addr len).out.head? = some (.readData (Memory.readBytes s.mem addr len) ep) := by
  have hx : s.pageExists (addr / 32768) = true := by
    unfold State.pageExists
    rw [decide_eq_true hn, Bool.true_or]
  unfold State.basinRead
  extract_lets n t r b x
  have hm : x.1.mem = s.mem := by
    have h : MemSame s x.1 := by
      refine foldl_memSame1 (fun a w ha => ?_) .refl
      split
      · exact State.readWord_memSame ha
      · exact ha
    exact h.mem
  clear_value x
  unfold t n
  rw [hx, hr, hs, if_pos hn, hm]
  exact ⟨_, rfl⟩

/-- A write of one whole row leaves its bytes there. -/
theorem State.basinWrite_stores {s : State} {p : Path} {addr : Nat} {d : List Byte} (hn : addr / 32768 < 917504) (hr : s.reaches p (addr / 32768) = true)
    (hs : s.sliceUp (addr / 32768 / 16) = true) (hd : d.length = 512) (ha : addr % 512 = 0)
    (hrun : ∀ q, s.pageOwner (addr / 32768) = some q → s.flag CSD_PCFG_RUN 0 q = false) :
    Memory.readBytes (s.basinWrite p addr d).mem addr 512 = d := by
  have hx : s.pageExists (addr / 32768) = true := by
    unfold State.pageExists
    rw [decide_eq_true hn, Bool.true_or]
  have hone : ceilDiv (addr % 32768 + 512) 32768 = 1 := by
    unfold ceilDiv
    omega
  have hrow : basinRow (addr / 524288) (addr / 512 % 1024) = addr := by
    unfold basinRow
    omega
  have hu : s.basinWrite p addr d = s.storeWords (addr / 524288) (addr / 512 % 1024) (beatsOf d false false) allWords := by
    have h1 : upTo 1 = [0] := rfl
    have hdt : List.take 512 d = d := by rw [← hd]; exact List.take_length
    have hg : ∀ o, s.pageOwner (addr / 32768) = o → s.basinWrite p addr d =
        s.storeWords (addr / 524288) (addr / 512 % 1024) (beatsOf d false false) allWords := fun o ho => by
      cases o with
      | none => simp [State.basinWrite, hd, hone, h1, ha, hx, hr, hs, ho, hn, hdt]
      | some q => simp [State.basinWrite, hd, hone, h1, ha, hx, hr, hs, ho, hrun q ho, hn, hdt]
    exact hg _ rfl
  rw [hu, State.storeWords_row hd, hrow, ← hd]
  exact Memory.readBytes_writeBytes ..

theorem cisternHostAccess_writes {addr : Fin 34359738368} {len : Fin 4097} {d : List Byte} {s : State} {a q : Nat} (hup : s.pathUp .pf = true)
    (hneg : s.negotiated .pf = true) (ht : s.cistTarget .pf addr.val d.length = some (a, some q)) (hs : s.openSession .pf = true) (h1 : s.pstate q ≠ psRunning)
    (h2 : s.pstate q ≠ psStopping) (h3 : s.pstate q ≠ psWriting) (hl : s.lostSpan (a - cisternBase q) d.length = false) :
    ∃ u, exec (.cisternHostAccess .pf addr len (some d)) s = .next u ∧ Memory.readBytes u.mem a d.length = d := by
  have ha : cisternBase q + (a - cisternBase q) = a := by
    have hle : cisternBase q ≤ a := by
      unfold State.cistTarget at ht
      dsimp only at ht
      split at ht
      · cases ht
      · split at ht
        · split at ht
          · cases ht
            exact Nat.le_add_right ..
          · cases ht
        · split at ht <;> cases ht
    omega
  refine ⟨s.cistWrite q (a - cisternBase q) d, ?_, ?_⟩
  · simp only [exec, execCisternHostAccess, hup, hneg, ht, hs, h1, h2, h3, ne_eq, not_false_eq_true, decide_true, Bool.and_self, Bool.not_true,
      Bool.false_eq_true, if_false, if_true]
  · unfold State.cistWrite
    rw [hl, if_neg Bool.false_ne_true, ha]
    exact Memory.readBytes_writeBytes ..

/-- Settles O27: one row through the Basin aperture, and a range of an allotment through the Cistern aperture. -/
theorem hostReachesBasinAndCistern : Obligations.HostReachesBasinAndCistern := by
  unfold Obligations.HostReachesBasinAndCistern
  refine ⟨fun path addr len s hpath hup hn hr hs => ⟨?_, fun d hd hneg ha hrun => ?_⟩, fun path addr len s a q hpath hup ht => ?_,
    fun addr len d s a q => cisternHostAccess_writes⟩
  · obtain ⟨ep, hout⟩ := State.basinRead_answers (len := min len.val (512 - s.basinOffset path addr.val % 512)) hn hr hs
    refine ⟨_, ep, ?_, fun b => ?_, hout⟩
    · cases path with
      | mgmt => exact absurd rfl hpath
      | pf | vf v => simp only [exec, execBasinHostAccess, hup, Bool.not_true, Bool.false_eq_true, if_false]
    · rw [(State.basinRead_memSame .refl).mem]
  · refine ⟨_, ?_, State.basinWrite_stores hn hr hs hd ha hrun⟩
    cases path with
    | mgmt => exact absurd rfl hpath
    | pf | vf v => simp only [exec, execBasinHostAccess, hup, hneg, Bool.not_true, Bool.false_eq_true, if_false, if_true]
  · refine ⟨s.emit (.readData (Memory.readBytes s.mem a len.val) (s.lostSpan (a - cisternBase q) len.val)), ?_, rfl⟩
    cases path with
    | mgmt => exact absurd rfl hpath
    | pf | vf v => simp only [exec, execCisternHostAccess, hup, ht, Bool.not_true, Bool.false_eq_true, if_false]

end Sys2Proof.Machine
end

section
/-! PROOF. Rows of the Basin: what reading and writing them leaves of the tiles and of the registers, the bytes that a scheduled read answers and a
scheduled write leaves, and the taking of beats (05 R114 to R124; 06 R146). -/

namespace Sys2Proof.Machine

open Sys2Proof Sys2Proof.Safety

-- One proof after another: these many small proofs would otherwise wait for each other on a thread each.
set_option Elab.async false

/-! ### What row accesses leave -/

/-- The place of a field in its page: bit by bit, from the page's first byte. -/
def Fld.place (f : Fld) (i : Nat) : Nat := f.offset i * 32 + f.lo
/-- The places that row accesses, and the records that they make, write. -/
def rowPlaces : List Nat :=
  [BSN_WEAK_ROW_VALID, BSN_WEAK_ROW_ROW, BSN_LAST_ERR_UE, BSN_LAST_ERR_ROW, BSN_LAST_ERR_WORD, BSN_LAST_ERR_SYNDROME, BSN_CE_COUNT_COUNT, BSN_STATUS_CE,
    BSN_UE_COUNT_COUNT, BSN_STATUS_UE, BSN_STATUS_BOUNDS, HDR_ERR_INJECT .bsn, HDR_INJECTED .bsn, RTR_STATUS_MISSING, INT_STATUS_STATUS].map (·.place 0) ++
  (upTo 16).map ERR_CCOUNT_COUNT.place
/-- A field at none of them. -/
def Fld.besideRows (f : Fld) (i : Nat) : Prop := f.offset i < 4096 ∧ f.lo < 32 ∧ f.place i ∉ rowPlaces

theorem Fld.besideRows.key_ne {f g : Fld} {i j : Nat} (hf : f.besideRows i) (ho : g.offset j < 4096) (hl : g.lo < 32) (hg : g.place j ∈ rowPlaces) {inst jnst : Nat} :
    g.key jnst j ≠ f.key inst i := fun e => by
  obtain ⟨hfo, hfl, hf⟩ := hf
  refine hf ?_
  have hp : f.place i = g.place j := by
    unfold Fld.place
    unfold Fld.key at e
    omega
  rw [hp]
  exact hg

/-- What a tile holds beside its rows' marks, tags and report. -/
def TileSt.beyondRows (x : TileSt) : TileSt := { x with
  poisonMark := Map.empty, troubleMark := Map.empty, flips := Map.empty, tags := Map.empty, tracked := [], weakWait := [], report := Report.empty }

/-- Of the tiles, only marks, tags and reports of rows differ, and of the registers only those that row accesses write. -/
structure RowsOnly (a s : State) : Prop where
  tile : ∀ t, (s.tile t).beyondRows = (a.tile t).beyondRows
  reg : ∀ (f : Fld) (inst i : Nat), f.besideRows i → s.reg f inst i = a.reg f inst i

theorem RowsOnly.refl {a : State} : RowsOnly a a := ⟨fun _ => rfl, fun _ _ _ _ => rfl⟩
theorem RowsOnly.trans {a s t : State} (h : RowsOnly a s) (k : RowsOnly s t) : RowsOnly a t :=
  ⟨fun u => (k.tile u).trans (h.tile u), fun f inst i hf => (k.reg f inst i hf).trans (h.reg f inst i hf)⟩
theorem RowsOnly.ite {a u v : State} {c : Prop} [Decidable c] (hu : RowsOnly a u) (hv : RowsOnly a v) : RowsOnly a (if c then u else v) := by
  split <;> assumption
/-- A change that leaves tiles and registers alone. -/
theorem RowsOnly.same {a s t : State} (h : RowsOnly a s) (htiles : t.tiles = s.tiles) (hregs : t.regs = s.regs) : RowsOnly a t :=
  ⟨fun u => Eq.trans (by unfold State.tile; rw [htiles]) (h.tile u), fun f inst i hf => Eq.trans (by unfold State.reg; rw [hregs]) (h.reg f inst i hf)⟩
theorem foldl_rowsOnly {a : State} {β : Type} {f : State → β → State} (hf : ∀ s b, RowsOnly a s → RowsOnly a (f s b)) {l : List β} :
    ∀ {s : State}, RowsOnly a s → RowsOnly a (l.foldl f s) := by
  induction l with
  | nil => intro s h; exact h
  | cons b r ih => intro s h; exact ih (hf s b h)
theorem foldl_rowsOnly1 {a : State} {β γ : Type} {f : State × γ → β → State × γ} (hf : ∀ s b, RowsOnly a s.1 → RowsOnly a (f s b).1) {l : List β} :
    ∀ {s : State × γ}, RowsOnly a s.1 → RowsOnly a (l.foldl f s).1 := by
  induction l with
  | nil => intro s h; exact h
  | cons b r ih => intro s h; exact ih (hf s b h)

theorem State.setReg_rowsOnly {pre s : State} (fo : RowsOnly pre s) {f : Fld} {inst i v : Nat}
    (hf : f.offset i < 4096 ∧ f.lo < 32 ∧ f.place i ∈ rowPlaces := by decide) : RowsOnly pre (s.setReg f inst i v) :=
  ⟨fo.tile, fun g jnst j hg => (State.reg_setReg_other (hg.key_ne hf.1 hf.2.1 hf.2.2)).trans (fo.reg g jnst j hg)⟩
theorem State.addReg_rowsOnly {pre s : State} (fo : RowsOnly pre s) {f : Fld} {inst i d : Nat}
    (hf : f.offset i < 4096 ∧ f.lo < 32 ∧ f.place i ∈ rowPlaces := by decide) : RowsOnly pre (s.addReg f inst i d) := State.setReg_rowsOnly fo hf
theorem State.updTile_rowsOnly {pre s : State} (fo : RowsOnly pre s) {t : Nat} {f : TileSt → TileSt}
    (hf : ∀ x, (f x).beyondRows = x.beyondRows := by exact fun _ => rfl) : RowsOnly pre (s.updTile t f) := by
  refine ⟨fun u => ?_, fo.reg⟩
  rcases Decidable.em (t = u) with rfl | hne
  · rw [State.tile_updTile_same, hf, fo.tile]
  · rw [State.tile_updTile_other hne, fo.tile]
theorem State.updPart_rowsOnly {pre s : State} (fo : RowsOnly pre s) {p : Nat} {f : PartSt → PartSt} : RowsOnly pre (s.updPart p f) := fo.same rfl rfl
theorem State.setMem_rowsOnly {pre s : State} (fo : RowsOnly pre s) {m : Memory} : RowsOnly pre (s.setMem m) := fo.same rfl rfl
theorem State.emit_rowsOnly {pre s : State} (fo : RowsOnly pre s) {o : Out} : RowsOnly pre (s.emit o) := fo.same rfl rfl
theorem State.msix_rowsOnly {pre s : State} (fo : RowsOnly pre s) {fn vec : Nat} : RowsOnly pre (s.msix fn vec) := by
  unfold State.msix
  dsimp only
  split <;> exact fo.same rfl rfl
theorem State.raiseInt_rowsOnly {pre s : State} (fo : RowsOnly pre s) {fn bit : Nat} : RowsOnly pre (s.raiseInt fn bit) := by
  unfold State.raiseInt
  extract_lets st s1
  have h1 : RowsOnly pre s1 := State.setReg_rowsOnly fo
  clear_value s1
  exact RowsOnly.ite fo (RowsOnly.ite (State.msix_rowsOnly h1) h1)
theorem State.recordInts_rowsOnly {pre s : State} (fo : RowsOnly pre s) {r : FaultRec} : RowsOnly pre (s.recordInts r) := by
  unfold State.recordInts
  extract_lets c s1 s2 s3 s4 s5 s6
  have h1 : RowsOnly pre s1 := by
    have hc : c < 16 := Nat.mod_lt _ (by decide)
    have hall : ∀ k < 16, ERR_CCOUNT_COUNT.offset k < 4096 ∧ ERR_CCOUNT_COUNT.lo < 32 ∧ ERR_CCOUNT_COUNT.place k ∈ rowPlaces := by decide
    exact State.addReg_rowsOnly fo (hall c hc)
  clear_value s1 c
  have hint : ∀ {u : State} {b : Prop} [Decidable b] {fn bit : Nat}, RowsOnly pre u → RowsOnly pre (if b then u.raiseInt fn bit else u) :=
    fun h => RowsOnly.ite (State.raiseInt_rowsOnly h) h
  have h5 : RowsOnly pre s5 := hint (hint (hint (hint h1)))
  clear_value s5
  have h6 : RowsOnly pre s6 := by
    unfold s6
    split
    · exact hint h5
    · exact h5
  clear_value s6
  exact RowsOnly.ite (State.emit_rowsOnly h6) h6
theorem State.record_rowsOnly {pre s : State} (fo : RowsOnly pre s) {r : Rec} : RowsOnly pre (s.record r) := by
  unfold State.record
  extract_lets fr s1
  have h1 : RowsOnly pre s1 := by
    unfold s1
    refine State.recordInts_rowsOnly ?_
    exact fo.same rfl rfl
  clear_value s1
  split
  · exact RowsOnly.ite (State.updPart_rowsOnly h1) h1
  · exact h1

theorem State.setTag_rowsOnly {pre : State} {s : State} (fo : RowsOnly pre s) {t : Nat} {r : Nat} {v : Nat} : RowsOnly pre (s.setTag t r v) := by
  unfold State.setTag
  exact State.updTile_rowsOnly fo

theorem State.tileRecord_rowsOnly {pre : State} {s : State} (fo : RowsOnly pre s) {t : Nat} {r : Rec} : RowsOnly pre (s.tileRecord t r) := by
  unfold State.tileRecord
  exact State.record_rowsOnly fo

theorem State.tileFault_rowsOnly {pre : State} {s : State} (fo : RowsOnly pre s) {t : Nat} {r : Rec} : RowsOnly pre (s.tileFault t r) := by
  unfold State.tileFault
  exact State.updTile_rowsOnly (State.tileRecord_rowsOnly fo)

theorem State.boundsFault_rowsOnly {pre : State} {s : State} (fo : RowsOnly pre s) {t : Nat} {r : Nat} {cycle : Nat} : RowsOnly pre (s.boundsFault t r cycle) := by
  unfold State.boundsFault
  exact State.tileFault_rowsOnly (State.setReg_rowsOnly fo)

theorem State.lastErr_rowsOnly {pre : State} {s : State} (fo : RowsOnly pre s) {t : Nat} {r : Nat} {w : Nat} {ue : Nat} {syn : Nat} : RowsOnly pre (s.lastErr t r w ue syn) := by
  unfold State.lastErr
  exact State.setReg_rowsOnly (State.setReg_rowsOnly (State.setReg_rowsOnly (State.setReg_rowsOnly fo)))

theorem State.weakRow_rowsOnly {pre : State} {s : State} (fo : RowsOnly pre s) {t : Nat} {r : Nat} {cycle : Nat} : RowsOnly pre (s.weakRow t r cycle) := by
  unfold State.weakRow
  extract_lets s1
  have h1 : RowsOnly pre s1 := State.tileRecord_rowsOnly (State.setReg_rowsOnly (State.setReg_rowsOnly fo))
  clear_value s1
  exact State.updTile_rowsOnly h1

theorem State.corrected_rowsOnly {pre : State} {s : State} (fo : RowsOnly pre s) {t : Nat} {r : Nat} {w : Nat} {mask : Nat} {cycle : Nat} : RowsOnly pre (s.corrected t r w mask cycle) := by
  unfold State.corrected
  extract_lets s1 s2 s3
  have h1 : RowsOnly pre s1 := State.lastErr_rowsOnly (State.setReg_rowsOnly (State.addReg_rowsOnly fo))
  clear_value s1
  have h2 : RowsOnly pre s3 := State.updTile_rowsOnly h1
  clear_value s3
  exact RowsOnly.ite (State.weakRow_rowsOnly h2) h2

theorem State.readWord_rowsOnly {pre : State} {s : State} (fo : RowsOnly pre s) {t : Nat} {r : Nat} {cycle : Nat} {sched : Bool} {w : Nat} : RowsOnly pre (s.readWord t r cycle sched w).fst := by
  unfold State.readWord
  extract_lets s1 s2 s3 s4 s5
  have h1 : ∀ (s : State) (code : Nat), RowsOnly pre s → RowsOnly pre (s2 s code) := by
    intro x1 x2 h1
    unfold s2
    extract_lets s6
    exact RowsOnly.ite (State.tileFault_rowsOnly h1) (State.tileRecord_rowsOnly h1)
  clear_value s2
  have h2 : RowsOnly pre s4 := State.lastErr_rowsOnly (State.setReg_rowsOnly (State.addReg_rowsOnly fo))
  clear_value s4
  have h3 : RowsOnly pre s5 := State.updTile_rowsOnly h2
  clear_value s5
  split
  · dsimp only
    apply h1
    · exact fo
  · split
    · exact fo
    · split
      · dsimp only
        exact State.corrected_rowsOnly fo
      · dsimp only
        apply h1
        · exact h3

theorem State.readWords_rowsOnly {pre : State} {s : State} (fo : RowsOnly pre s) {t : Nat} {r : Nat} {cycle : Nat} {sched : Bool} : RowsOnly pre (s.readWords t r cycle sched).fst := by
  unfold State.readWords
  apply foldl_rowsOnly1
  · intro x1 x2 h1
    extract_lets s1
    have h2 : RowsOnly pre s1.fst := State.readWord_rowsOnly h1
    clear_value s1
    exact h2
  · exact fo

theorem State.readRow_rowsOnly {pre : State} {s : State} (fo : RowsOnly pre s) {t : Nat} {r : Nat} {cycle : Nat} {sched : Bool} : RowsOnly pre (s.readRow t r cycle sched).fst := by
  unfold State.readRow
  extract_lets s1
  have h1 : RowsOnly pre s1.fst := State.readWords_rowsOnly fo
  clear_value s1
  exact h1

theorem State.schedRead_rowsOnly {pre : State} {s : State} (fo : RowsOnly pre s) {t : Nat} {r : Nat} {cycle : Nat} : RowsOnly pre (s.schedRead t r cycle).fst := by
  unfold State.schedRead
  split
  · extract_lets s1
    have h1 : RowsOnly pre s1.fst := State.readRow_rowsOnly fo
    clear_value s1
    dsimp only
    exact RowsOnly.ite (State.setTag_rowsOnly h1) h1
  · dsimp only
    exact State.boundsFault_rowsOnly fo

theorem State.schedReads_rowsOnly {pre : State} {t : Nat} {cycle : Nat} {r : Nat} {n : Nat} : ∀ {s : State}, RowsOnly pre s → RowsOnly pre (s.schedReads t cycle r n).1 := by
  induction n generalizing r with
  | zero => intro s h; exact h
  | succ n ih => intro s h; exact ih (State.schedRead_rowsOnly h)

theorem State.takeBeat_rowsOnly {pre : State} {s : State} (fo : RowsOnly pre s) {t : Nat} {port : Nat} {cycle : Nat} : RowsOnly pre (s.takeBeat t port cycle).fst := by
  unfold State.takeBeat
  extract_lets s1
  split
  · rename_i y1 y2 y3
    exact fo
  · dsimp only
    exact State.tileFault_rowsOnly (State.setReg_rowsOnly fo)

theorem State.takeBeats_rowsOnly {pre : State} {t : Nat} {port : Nat} {cycle : Nat} {n : Nat} : ∀ {s : State}, RowsOnly pre s → RowsOnly pre (s.takeBeats t port cycle n).1 := by
  induction n generalizing cycle with
  | zero => intro s h; exact h
  | succ n ih => intro s h; exact ih (State.takeBeat_rowsOnly h)

theorem State.injectFlip_rowsOnly {pre : State} {s : State} (fo : RowsOnly pre s) {t : Nat} {r : Nat} {mask : List Nat} : RowsOnly pre (s.injectFlip t r mask) := by
  unfold State.injectFlip
  extract_lets s1
  split
  · exact fo
  · rename_i y1 y2 y3
    apply RowsOnly.ite
    · extract_lets s2
      have h1 : RowsOnly pre s2 := State.updTile_rowsOnly fo
      clear_value s2
      exact State.setReg_rowsOnly (State.setReg_rowsOnly h1)
    · exact fo

theorem State.storeWords_rowsOnly {pre : State} {s : State} (fo : RowsOnly pre s) {t : Nat} {r : Nat} {beats : List Beat} {mask : List Nat} : RowsOnly pre (s.storeWords t r beats mask) := by
  unfold State.storeWords
  apply foldl_rowsOnly
  · intro x1 x2 h1
    extract_lets s1 s2 s3
    have h2 : RowsOnly pre s3 := State.updTile_rowsOnly h1
    clear_value s3
    exact State.setMem_rowsOnly h2
  · exact fo

theorem State.writeTag_rowsOnly {pre : State} {s : State} (fo : RowsOnly pre s) {t : Nat} {r : Nat} : RowsOnly pre (s.writeTag t r) := by
  unfold State.writeTag
  exact RowsOnly.ite (State.setTag_rowsOnly fo) fo

theorem State.schedWrite_rowsOnly {pre : State} {s : State} (fo : RowsOnly pre s) {t : Nat} {r : Nat} {cycle : Nat} {beats : List Beat} {mask : List Nat} : RowsOnly pre (s.schedWrite t r cycle beats mask) := by
  unfold State.schedWrite
  exact RowsOnly.ite (State.writeTag_rowsOnly (State.injectFlip_rowsOnly (State.storeWords_rowsOnly fo))) (State.boundsFault_rowsOnly fo)

theorem State.schedWrites_rowsOnly {pre : State} {t : Nat} {cycle : Nat} {r : Nat} {bs : List Beat} {n : Nat} : ∀ {s : State}, RowsOnly pre s → RowsOnly pre (s.schedWrites t cycle r bs n) := by
  induction n generalizing r bs with
  | zero => intro s h; exact h
  | succ n ih => intro s h; exact ih (State.schedWrite_rowsOnly h)

theorem State.byteWrite_rowsOnly {pre : State} {s : State} (fo : RowsOnly pre s) {t : Nat} {r : Nat} {i : Nat} {v : Nat} {poison : Bool} {trouble : Bool} {cycle : Nat} : RowsOnly pre (State.byteWrite s t r i v poison trouble cycle) := by
  unfold State.byteWrite
  extract_lets s1 s2
  have h1 : RowsOnly pre s2.fst := State.readWord_rowsOnly fo
  clear_value s2
  exact State.updTile_rowsOnly (State.setMem_rowsOnly h1)

theorem State.reportFault_rowsOnly {pre : State} {s : State} (fo : RowsOnly pre s) {t : Nat} : RowsOnly pre (s.reportFault t) := by
  unfold State.reportFault
  exact State.updTile_rowsOnly fo

theorem State.poisonSeen_rowsOnly {pre : State} {s : State} (fo : RowsOnly pre s) {t : Nat} {bs : List Beat} : RowsOnly pre (s.poisonSeen t bs) := by
  unfold State.poisonSeen
  exact RowsOnly.ite (State.reportFault_rowsOnly fo) fo

/-! ### Bytes of the memory as lists and numbers -/

theorem Memory.readBytes_add (m : Memory) (n k : Nat) : ∀ a : Nat, Memory.readBytes m a (n + k) = Memory.readBytes m a n ++ Memory.readBytes m (a + n) k := by
  induction n with
  | zero => intro a; simp [Memory.readBytes]
  | succ n ih =>
    intro a
    rw [Nat.succ_add]
    simp only [Memory.readBytes, List.cons_append]
    rw [ih, Nat.add_assoc, Nat.add_comm 1]

/-- A stretch of the bytes read is the bytes of the stretch. -/
theorem Memory.readBytes_stretch (m : Memory) {a n o l : Nat} (h : o + l ≤ n) : ((Memory.readBytes m a n).drop o).take l = Memory.readBytes m (a + o) l := by
  obtain ⟨k, rfl⟩ : ∃ k, n = o + (l + k) := ⟨n - (o + l), by omega⟩
  rw [Memory.readBytes_add, List.drop_left' (Memory.readBytes_length m o a), Memory.readBytes_add, List.take_left' (Memory.readBytes_length m l _)]

theorem Memory.readBytes_getElem? (m : Memory) (n : Nat) : ∀ {a k : Nat}, k < n → (Memory.readBytes m a n)[k]? = some (Memory.read m (a + k)) := by
  induction n with
  | zero => intro a k h; omega
  | succ n ih =>
    intro a k h
    cases k with
    | zero => rfl
    | succ k =>
      simp only [Memory.readBytes, List.getElem?_cons_succ]
      rw [ih (by omega), Nat.add_assoc, Nat.add_comm 1]

theorem numOf_readBytes (m : Memory) (n : Nat) : ∀ a : Nat, numOf (Memory.readBytes m a n) = Memory.readLE m a n := by
  induction n with
  | zero => intro a; rfl
  | succ n ih => intro a; simp only [Memory.readBytes, numOf, Memory.readLE, ih]

theorem Memory.readLE_lt (m : Memory) (n : Nat) : ∀ a : Nat, Memory.readLE m a n < 256 ^ n := by
  induction n with
  | zero => intro a; exact Nat.one_pos
  | succ n ih =>
    intro a
    have h := ih (a + 1)
    have hb := (Memory.read m a).isLt
    simp only [Memory.readLE]
    rw [show 256 ^ (n + 1) = 256 * 256 ^ n by rw [Nat.pow_succ, Nat.mul_comm]]
    omega

theorem word32_readBytes (m : Memory) {a n j : Nat} (h : 4 * j + 4 ≤ n) : word32 (Memory.readBytes m a n) j = Memory.readLE m (a + 4 * j) 4 := by
  unfold word32
  rw [Memory.readBytes_stretch m h, numOf_readBytes]

theorem numOf_bytesOf (n : Nat) : ∀ v : Nat, numOf (bytesOf n v) = v % 256 ^ n := by
  induction n with
  | zero => intro v; simp [numOf, bytesOf, Nat.mod_one]
  | succ n ih =>
    intro v
    simp only [bytesOf, numOf, ih, BitVec.toNat_ofNat]
    rw [show 256 ^ (n + 1) = 256 * 256 ^ n by rw [Nat.pow_succ, Nat.mul_comm], Nat.mod_mul]

/-- Word `k` of words laid out as bytes. -/
theorem word32_words : ∀ (l : List Nat) (z : List Byte) (k : Nat), k < l.length → word32 (l.flatMap (bytesOf 4) ++ z) k = l.getD k 0 % 2 ^ 32 := by
  intro l
  induction l with
  | nil => intro z k h; simp at h
  | cons v l ih =>
    intro z k h
    rw [List.flatMap_cons, List.append_assoc]
    cases k with
    | zero =>
      unfold word32
      rw [Nat.mul_zero, List.drop_zero, List.take_left' (bytesOf_length 4 v), numOf_bytesOf]
      rfl
    | succ k =>
      have e : word32 (bytesOf 4 v ++ (l.flatMap (bytesOf 4) ++ z)) (k + 1) = word32 (l.flatMap (bytesOf 4) ++ z) k := by
        unfold word32
        rw [show 4 * (k + 1) = 4 + 4 * k by omega, ← List.drop_drop, List.drop_left' (bytesOf_length 4 v)]
      rw [e, ih z k (by simpa using h)]
      rfl

/-- A word of bytes written is read back. -/
theorem Memory.readLE_writeBytes (m : Memory) {a k : Nat} {l : List Byte} (h : 4 * k + 4 ≤ l.length) :
    Memory.readLE (Memory.writeBytes m a l) (a + 4 * k) 4 = word32 l k := by
  rw [← word32_readBytes _ h, Memory.readBytes_writeBytes]

/-! ### Beats and their bytes -/

/-- Beats of 64 bytes each. -/
def WholeBeats (bs : List Beat) : Prop := ∀ b ∈ bs, b.data.length = 64

theorem WholeBeats.of_cons {b : Beat} {bs : List Beat} (h : WholeBeats (b :: bs)) : b.data.length = 64 ∧ WholeBeats bs :=
  ⟨h b List.mem_cons_self, fun c hc => h c (List.mem_cons_of_mem _ hc)⟩
theorem WholeBeats.take {bs : List Beat} (h : WholeBeats bs) (k : Nat) : WholeBeats (bs.take k) := fun b hb => h b (List.mem_of_mem_take hb)
theorem WholeBeats.drop {bs : List Beat} (h : WholeBeats bs) (k : Nat) : WholeBeats (bs.drop k) := fun b hb => h b (List.mem_of_mem_drop hb)
theorem WholeBeats.append {bs cs : List Beat} (h : WholeBeats bs) (k : WholeBeats cs) : WholeBeats (bs ++ cs) :=
  fun b hb => (List.mem_append.1 hb).elim (h b) (k b)
theorem wholeBeats_zero {n : Nat} {p : Bool} : WholeBeats (List.replicate n (Beat.zero p)) := fun b hb => by
  rw [List.eq_of_mem_replicate hb]
  rfl
theorem beatOf_length (l : List Byte) (off : Nat) (p q : Bool) : (beatOf l off p q).data.length = 64 := by
  unfold beatOf
  simp only [List.length_append, List.length_replicate, List.length_take]
  omega

@[simp] theorem beatBytes_nil : beatBytes [] = [] := rfl
@[simp] theorem beatBytes_cons (b : Beat) (bs : List Beat) : beatBytes (b :: bs) = b.data ++ beatBytes bs := rfl
@[simp] theorem beatBytes_append (bs cs : List Beat) : beatBytes (bs ++ cs) = beatBytes bs ++ beatBytes cs := List.flatMap_append
theorem WholeBeats.length : ∀ {bs : List Beat}, WholeBeats bs → (beatBytes bs).length = 64 * bs.length := by
  intro bs
  induction bs with
  | nil => intro _; rfl
  | cons b bs ih =>
    intro h
    obtain ⟨hb, hs⟩ := h.of_cons
    rw [beatBytes_cons, List.length_append, ih hs, hb, List.length_cons]
    omega
theorem WholeBeats.drop_bytes : ∀ {bs : List Beat} (k : Nat), WholeBeats bs → beatBytes (bs.drop k) = (beatBytes bs).drop (64 * k) := by
  intro bs
  induction bs with
  | nil => intro k _; simp
  | cons b bs ih =>
    intro k h
    obtain ⟨hb, hs⟩ := h.of_cons
    cases k with
    | zero => rfl
    | succ k => rw [List.drop_succ_cons, ih k hs, beatBytes_cons, show 64 * (k + 1) = 64 + 64 * k by omega, ← List.drop_drop, List.drop_left' hb]
theorem WholeBeats.take_bytes : ∀ {bs : List Beat} (k : Nat), WholeBeats bs → beatBytes (bs.take k) = (beatBytes bs).take (64 * k) := by
  intro bs
  induction bs with
  | nil => intro k _; simp
  | cons b bs ih =>
    intro k h
    obtain ⟨hb, hs⟩ := h.of_cons
    cases k with
    | zero => rfl
    | succ k =>
      rw [List.take_succ_cons, beatBytes_cons, ih k hs, beatBytes_cons, List.take_append, hb, show 64 * (k + 1) - 64 = 64 * k by omega,
        List.take_of_length_le (l := b.data) (by omega)]
/-- The data of one beat among their bytes. -/
theorem WholeBeats.get {bs : List Beat} {k : Nat} {b : Beat} (h : WholeBeats bs) (hb : bs[k]? = some b) : b.data = ((beatBytes bs).drop (64 * k)).take 64 := by
  have e : (bs.drop k).take 1 = [b] := by
    obtain ⟨hk, rfl⟩ := List.getElem?_eq_some_iff.1 hb
    rw [List.drop_eq_getElem_cons hk]
    rfl
  have := (h.drop k).take_bytes 1
  rw [e, h.drop_bytes k] at this
  simpa using this

/-! ### Rows read -/

theorem flatMap_readBytes (m : Memory) (a l n : Nat) : (upTo n).flatMap (fun b => Memory.readBytes m (a + l * b) l) = Memory.readBytes m a (l * n) := by
  induction n with
  | zero => rfl
  | succ n ih =>
    unfold upTo at ih ⊢
    rw [List.range_succ, List.flatMap_append, ih, Nat.mul_succ, Memory.readBytes_add]
    simp

theorem State.rowBeats_data (s : State) (t r : Nat) (bad : List Nat) : beatBytes (s.rowBeats t r bad) = Memory.readBytes s.mem (basinRow t r) 512 := by
  rw [← flatMap_readBytes s.mem (basinRow t r) 64 8]
  unfold State.rowBeats beatBytes
  rw [List.flatMap_map]
theorem State.rowBeats_whole (s : State) (t r : Nat) (bad : List Nat) : WholeBeats (s.rowBeats t r bad) := by
  intro b hb
  unfold State.rowBeats at hb
  obtain ⟨k, -, rfl⟩ := List.mem_map.1 hb
  exact Memory.readBytes_length _ _ _
theorem State.rowBeats_length (s : State) (t r : Nat) (bad : List Nat) : (s.rowBeats t r bad).length = 8 := by
  unfold State.rowBeats
  rw [List.length_map, upTo_length]

theorem State.readRow_mem (s : State) (t r c : Nat) (sched : Bool) : (s.readRow t r c sched).1.mem = s.mem := (State.readRow_memSame .refl).mem
theorem State.readRow_data (s : State) (t r c : Nat) (sched : Bool) : beatBytes (s.readRow t r c sched).2 = Memory.readBytes s.mem (basinRow t r) 512 := by
  have hm := s.readRow_mem t r c sched
  unfold State.readRow at hm ⊢
  dsimp only at hm ⊢
  rw [State.rowBeats_data, hm]

theorem RowsOnly.inProgram {a s : State} (h : RowsOnly a s) (t r : Nat) : s.inProgram t r = a.inProgram t r := by
  unfold State.inProgram
  rw [h.reg BSN_PROG_PROG_PAGES t 0 (by unfold Fld.besideRows; decide)]

theorem State.schedRead_mem (s : State) (t r c : Nat) : (s.schedRead t r c).1.mem = s.mem := (State.schedRead_memSame .refl).mem
/-- A scheduled read of a row of the program window answers the row's eight beats. -/
theorem State.schedRead_program {s : State} {t r c : Nat} (h : s.inProgram t r = true) :
    WholeBeats (s.schedRead t r c).2 ∧ (s.schedRead t r c).2.length = 8 ∧ beatBytes (s.schedRead t r c).2 = Memory.readBytes s.mem (basinRow t r) 512 := by
  have e : (s.schedRead t r c).2 = (s.readRow t r c true).2 := by
    unfold State.schedRead
    rw [if_pos h]
  rw [e]
  exact ⟨State.rowBeats_whole _ _ _ _, State.rowBeats_length _ _ _ _, State.readRow_data _ _ _ _ _⟩

theorem basinRow_succ (t r : Nat) : basinRow t (r + 1) = basinRow t r + 512 := by
  unfold basinRow
  omega

theorem State.schedReads_mem (s : State) (t c r n : Nat) : (s.schedReads t c r n).1.mem = s.mem := (State.schedReads_memSame .refl).mem
/-- Scheduled reads of rows of the program window answer their beats in turn. -/
theorem State.schedReads_program {t c : Nat} (n : Nat) : ∀ {s : State} {r : Nat}, (∀ k < n, s.inProgram t (r + k) = true) →
    WholeBeats (s.schedReads t c r n).2 ∧ (s.schedReads t c r n).2.length = 8 * n ∧
      beatBytes (s.schedReads t c r n).2 = Memory.readBytes s.mem (basinRow t r) (512 * n) := by
  induction n with
  | zero => intro s r _; exact ⟨fun b hb => absurd hb (by simp [State.schedReads]), rfl, rfl⟩
  | succ n ih =>
    intro s r h
    obtain ⟨w, l, d⟩ := State.schedRead_program (c := c) (h 0 (Nat.succ_pos n))
    have hk : ∀ k < n, (s.schedRead t r c).1.inProgram t (r + 1 + k) = true := fun k hk => by
      rw [(State.schedRead_rowsOnly .refl).inProgram, Nat.add_assoc, Nat.add_comm 1 k]
      exact h (k + 1) (by omega)
    obtain ⟨w', l', d'⟩ := ih hk
    rw [Nat.add_zero] at w l d
    unfold State.schedReads
    refine ⟨w.append w', ?_, ?_⟩
    · rw [List.length_append, l, l']
      omega
    · rw [beatBytes_append, d, d', State.schedRead_mem, basinRow_succ, show 512 * (n + 1) = 512 + 512 * n by omega, Memory.readBytes_add]

/-! ### Rows written -/

/-- The words that whole beats fill of a row, after the words of `pre`. -/
theorem State.storeWords_from {s : State} {t r : Nat} {pre bs : List Beat} (hw : WholeBeats bs) (hl : bs.length ≤ 8) :
    (s.storeWords t r (pre ++ bs) ((upTo (8 * bs.length)).map (· + 8 * pre.length))).mem =
      Memory.writeBytes s.mem (basinRow t r + 64 * pre.length) (beatBytes bs) := by
  have hpad : WholeBeats (bs ++ List.replicate (8 - bs.length) (Beat.zero true)) := hw.append wholeBeats_zero
  have hlen : (bs ++ List.replicate (8 - bs.length) (Beat.zero true)).length = 8 := by
    rw [List.length_append, List.length_replicate]
    omega
  have hget : ∀ w, w < 64 → (((((pre ++ bs)[(w + 8 * pre.length) / 8]?).getD (Beat.zero true)).data.drop (8 * ((w + 8 * pre.length) % 8))).take 8) =
      ((beatBytes (bs ++ List.replicate (8 - bs.length) (Beat.zero true))).drop (8 * w)).take 8 := by
    intro w hw64
    have e : (bs ++ List.replicate (8 - bs.length) (Beat.zero true))[w / 8]? = some (((pre ++ bs)[(w + 8 * pre.length) / 8]?).getD (Beat.zero true)) := by
      rw [show (w + 8 * pre.length) / 8 = w / 8 + pre.length by omega, List.getElem?_append_right (Nat.le_add_left _ _), Nat.add_sub_cancel]
      rcases Nat.lt_or_ge (w / 8) bs.length with h | h
      · rw [List.getElem?_append_left h, List.getElem?_eq_getElem h]
        rfl
      · rw [List.getElem?_append_right h, List.getElem?_replicate, if_pos (by omega), List.getElem?_eq_none h]
        rfl
    rw [hpad.get e, List.drop_take, List.take_take, List.drop_drop]
    congr 2 <;> omega
  have h512 : (beatBytes (bs ++ List.replicate (8 - bs.length) (Beat.zero true))).length = 512 := by rw [hpad.length, hlen]
  unfold State.storeWords
  rw [List.foldl_map, State.foldl_words (base := basinRow t r + 64 * pre.length) (d := beatBytes (bs ++ List.replicate (8 - bs.length) (Beat.zero true)))
    (g := fun w => ((((pre ++ bs)[(w + 8 * pre.length) / 8]?).getD (Beat.zero true)).data.drop (8 * ((w + 8 * pre.length) % 8))).take 8)
    (fun s w => ?_) h512 hget _ (by omega)]
  · rw [beatBytes_append, show 8 * (8 * bs.length) = 64 * bs.length by omega, List.take_left' hw.length]
  · rw [show basinRow t r + 64 * pre.length + 8 * w = basinRow t r + 8 * (w + 8 * pre.length) by omega]
    rfl
/-- The words that whole beats fill of a row from its first. -/
theorem State.storeWords_beats {s : State} {t r : Nat} {bs : List Beat} (hw : WholeBeats bs) (hl : bs.length ≤ 8) :
    (s.storeWords t r bs (upTo (8 * bs.length))).mem = Memory.writeBytes s.mem (basinRow t r) (beatBytes bs) := by
  have h := State.storeWords_from (s := s) (t := t) (r := r) (pre := []) hw hl
  simpa using h

theorem State.injectFlip_mem (s : State) (t r : Nat) (mask : List Nat) : (s.injectFlip t r mask).mem = s.mem := by
  unfold State.injectFlip
  dsimp only
  split
  · rfl
  · split <;> rfl
theorem State.writeTag_mem (s : State) (t r : Nat) : (s.writeTag t r).mem = s.mem := by
  unfold State.writeTag
  split <;> rfl
theorem State.schedWrite_mem {s : State} {t r c : Nat} {bs : List Beat} {mask : List Nat} (h : s.inProgram t r = true) :
    (s.schedWrite t r c bs mask).mem = (s.storeWords t r bs mask).mem := by
  unfold State.schedWrite
  rw [if_pos h, State.writeTag_mem, State.injectFlip_mem]

/-- Whole rows, and a last short one, written within the program window hold the bytes of the beats. -/
theorem State.schedWrites_program {t c : Nat} (n : Nat) : ∀ {s : State} {r : Nat} {bs : List Beat}, WholeBeats bs → bs.length ≤ 8 * n →
    (∀ k < n, s.inProgram t (r + k) = true) → (s.schedWrites t c r bs n).mem = Memory.writeBytes s.mem (basinRow t r) (beatBytes bs) := by
  induction n with
  | zero =>
    intro s r bs _ hl _
    rw [List.eq_nil_of_length_eq_zero (by omega : bs.length = 0)]
    rfl
  | succ n ih =>
    intro s r bs hw hl hp
    unfold State.schedWrites
    have hk : ∀ k < n, (s.schedWrite t r c (bs.take 8) (upTo (8 * (bs.take 8).length))).inProgram t (r + 1 + k) = true := fun k hk => by
      rw [(State.schedWrite_rowsOnly .refl).inProgram, Nat.add_assoc, Nat.add_comm 1 k]
      exact hp (k + 1) (by omega)
    have h0 : s.inProgram t r = true := hp 0 (Nat.succ_pos n)
    rw [ih (hw.drop 8) (by rw [List.length_drop]; omega) hk, State.schedWrite_mem h0,
      State.storeWords_beats (hw.take 8) (by rw [List.length_take]; omega), basinRow_succ]
    rcases Nat.lt_or_ge bs.length 8 with h | h
    · rw [List.drop_eq_nil_of_le (by omega), List.take_of_length_le (by omega)]
      rfl
    · rw [show basinRow t r + 512 = basinRow t r + (beatBytes (bs.take 8)).length by rw [(hw.take 8).length, List.length_take, Nat.min_eq_left h],
        ← Memory.writeBytes_append, ← beatBytes_append, List.take_append_drop]

/-! ### Words and bytes as beats -/

theorem beatsOf_whole (l : List Byte) (p q : Bool) : WholeBeats (beatsOf l p q) := by
  intro b hb
  unfold beatsOf at hb
  obtain ⟨k, -, rfl⟩ := List.mem_map.1 hb
  exact beatOf_length _ _ _ _
theorem beatsOf_length (l : List Byte) (p q : Bool) : (beatsOf l p q).length = (l.length + 63) / 64 := by
  unfold beatsOf
  rw [List.length_map, upTo_length]
/-- The bytes of beats that whole beats of bytes make. -/
theorem beatsOf_data {l : List Byte} {n : Nat} (h : l.length = 64 * n) (p q : Bool) : beatBytes (beatsOf l p q) = l := by
  have hn : (l.length + 63) / 64 = n := by omega
  unfold beatsOf
  rw [hn]
  have hk : ∀ k ≤ n, beatBytes ((upTo k).map (fun k => beatOf l (64 * k) p q)) = l.take (64 * k) := by
    intro k
    induction k with
    | zero => intro _; simp [upTo]
    | succ k ih =>
      intro hkn
      have hik := ih (by omega)
      unfold upTo at hik ⊢
      rw [List.range_succ, List.map_append, beatBytes_append, hik]
      have hd : ((l.drop (64 * k)).take 64).length = 64 := by
        rw [List.length_take, List.length_drop]
        omega
      rw [show 64 * (k + 1) = 64 * k + 64 by omega, List.take_add]
      unfold beatBytes beatOf
      simp only [List.map_cons, List.map_nil, List.flatMap_cons, List.flatMap_nil, List.append_nil, hd, Nat.sub_self, List.replicate_zero]
  rw [hk n (Nat.le_refl n), ← h, List.take_length]

theorem wordBeats_eq (l : List (Nat × Bool × Bool)) : wordBeats l =
    (chunksOf 16 l.length l).map (fun g => beatOf (g.flatMap (fun v => bytesOf 4 v.1)) 0 (g.any (·.2.1)) (g.any (·.2.2))) := rfl
/-- The beats of words: one to sixteen of them. -/
theorem wordBeats_length (l : List (Nat × Bool × Bool)) : (wordBeats l).length = ceilDiv l.length 16 := by
  rw [wordBeats_eq, List.length_map]
  have hget := fun g => chunksOf_getElem? (k := 16) (by omega) l.length l g (Nat.le_refl _)
  unfold ceilDiv
  apply Nat.le_antisymm
  · refine Classical.byContradiction fun hc => ?_
    have := hget ((l.length + 16 - 1) / 16)
    rw [if_neg (by omega), List.getElem?_eq_none_iff] at this
    omega
  · refine Classical.byContradiction fun hc => ?_
    have := hget ((chunksOf 16 l.length l).length)
    rw [List.getElem?_eq_none (Nat.le_refl _), if_pos (by omega)] at this
    exact absurd this (by simp)
theorem wordBeats_whole (l : List (Nat × Bool × Bool)) : WholeBeats (wordBeats l) := by
  intro b hb
  rw [wordBeats_eq] at hb
  obtain ⟨g, -, rfl⟩ := List.mem_map.1 hb
  exact beatOf_length _ _ _ _
/-- Word `k` of the beats of words. -/
theorem wordBeats_word {l : List (Nat × Bool × Bool)} {k : Nat} (h : k < l.length) : word32 (beatBytes (wordBeats l)) k = (l.getD k (0, false, false)).1 % 2 ^ 32 := by
  have hg := chunksOf_getElem? (k := 16) (by omega) l.length l (k / 16) (Nat.le_refl _)
  rw [if_pos (by omega)] at hg
  have hb : (wordBeats l)[k / 16]? = some (beatOf (((l.drop (16 * (k / 16))).take 16).flatMap (fun v => bytesOf 4 v.1)) 0
      (((l.drop (16 * (k / 16))).take 16).any (·.2.1)) (((l.drop (16 * (k / 16))).take 16).any (·.2.2))) := by
    rw [wordBeats_eq, List.getElem?_map, hg]
    rfl
  have hd := (wordBeats_whole l).get hb
  have e : word32 (beatBytes (wordBeats l)) k = word32 (((beatBytes (wordBeats l)).drop (64 * (k / 16))).take 64) (k % 16) := by
    unfold word32
    rw [List.drop_take, List.take_take, List.drop_drop, Nat.min_eq_left (by omega), show 64 * (k / 16) + 4 * (k % 16) = 4 * k by omega]
  rw [e, ← hd]
  generalize hgd : (l.drop (16 * (k / 16))).take 16 = g at *
  have hlen : g.length ≤ 16 := by rw [← hgd, List.length_take]; omega
  have hfm : g.flatMap (fun v => bytesOf 4 v.1) = (g.map (·.1)).flatMap (bytesOf 4) := (List.flatMap_map ..).symm
  have hk : k % 16 < g.length := by
    rw [← hgd, List.length_take, List.length_drop]
    omega
  unfold beatOf
  rw [List.drop_zero, hfm, List.take_of_length_le (by rw [wordBytes_length, List.length_map]; omega),
    word32_words (g.map (·.1)) _ _ (by simpa using hk)]
  have hgk : g[k % 16]? = l[k]? := by
    rw [← hgd, List.getElem?_take, if_pos (by omega), List.getElem?_drop]
    congr 1
    omega
  rw [List.getD_eq_getElem?_getD, List.getElem?_map, hgk, List.getD_eq_getElem?_getD, List.getElem?_eq_getElem h]
  rfl

end Sys2Proof.Machine
end

section
/-! PROOF. Upkeep of the Basin: restore rows, the scrubber and spare rows (05 R120, R121; 09 R239; 13 R340). -/

namespace Sys2Proof.Machine

open Sys2Proof Sys2Proof.Safety

/-- The state after the copy of restore row `r`, read as `x`, into row `d % 64` of page `d / 64`. -/
def restoreCopied (t r d : Nat) (x : State × List Beat) : State :=
  let page := d / 64
  let prow := d % 64
  let b := packBeats x.2
  let s := x.1.setMem (Memory.writeBytes x.1.mem (pageAddr page + 512 * prow) b.1)
  let s := s.updTile (page / 16) (fun y => { y with
    poisonMark := allWords.foldl (fun m w => m.upd ((page % 16 * 64 + prow) * 64 + w) (b.2.contains (w / 8))) y.poisonMark
    flips := y.flips.keep (fun k _ => k / 64 != page % 16 * 64 + prow) })
  let s := (s.setTag t r 0).updTile t (fun y => { y with restoreDst := y.restoreDst.del r })
  s.updReq (s.page page).req (fun q => { q with restoreLeft := q.restoreLeft - 1 })

theorem restoreCopied_mem (t r d : Nat) (x : State × List Beat) :
    (restoreCopied t r d x).mem = Memory.writeBytes x.1.mem (pageAddr (d / 64) + 512 * (d % 64)) (beatBytes x.2) := rfl
theorem restoreCopied_tag (t r d : Nat) (x : State × List Beat) : (restoreCopied t r d x).tag t r = 0 := by
  unfold restoreCopied State.tag State.setTag
  extract_lets page prow b s1 s2 s3
  rw [State.tile_updReq]
  unfold s3
  rw [State.tile_updTile_same, State.tile_updTile_same]
  exact Map.get_del_same _ _ _

theorem execRestoreRowCopy_copies {t : Tile} {r : Fin 1024} {s : State} {d : Nat} (hd : (s.tile t.val).restoreDst.get? r.val = some d)
    (h : (s.sliceUp t.val && s.restoreRow t.val r.val && s.tag t.val r.val == 1) = true) :
    exec (.restoreRowCopy t r) s = .next (restoreCopied t.val r.val d (s.readRow t.val r.val 0 false)) := by
  show execRestoreRowCopy t r s = _
  unfold execRestoreRowCopy
  simp only [hd]
  exact if_pos h

/-- A copied restore row stands in its page row and is EMPTY. -/
theorem restoreRowCopy_copies {t : Tile} {r : Fin 1024} {s : State} {d : Nat} (hd : (s.tile t.val).restoreDst.get? r.val = some d)
    (hu : s.sliceUp t.val = true) (hr : s.restoreRow t.val r.val = true) (ht : s.tag t.val r.val = 1) :
    ∃ u, exec (.restoreRowCopy t r) s = .next u ∧ u.tag t.val r.val = 0 ∧
      Memory.readBytes u.mem (pageAddr (d / 64) + 512 * (d % 64)) 512 = Memory.readBytes s.mem (basinRow t.val r.val) 512 := by
  refine ⟨_, execRestoreRowCopy_copies hd (by rw [hu, hr, ht]; rfl), restoreCopied_tag _ _ _ _, ?_⟩
  rw [restoreCopied_mem, s.readRow_data]
  have := Memory.readBytes_writeBytes (s.readRow t.val r.val 0 false).1.mem (pageAddr (d / 64) + 512 * (d % 64)) (Memory.readBytes s.mem (basinRow t.val r.val) 512)
  rwa [Memory.readBytes_length] at this

theorem RowsOnly.scrubRow {a s : State} (h : RowsOnly a s) (t : Nat) : (s.tile t).scrubRow = (a.tile t).scrubRow := by
  have e := h.tile t
  unfold TileSt.beyondRows at e
  injection e
theorem RowsOnly.sparedRows {a s : State} (h : RowsOnly a s) (t : Nat) : (s.tile t).sparedRows = (a.tile t).sparedRows := by
  have e := h.tile t
  unfold TileSt.beyondRows at e
  injection e
theorem upset_scrubRow (l : List (Fin 1024 × Fin 64 × Fin 72)) (s : State) (t : Nat) : ((s.upset t l).tile t).scrubRow = (s.tile t).scrubRow := by
  unfold State.upset
  rw [State.tile_updTile_same]
  exact List.foldlRecOn (motive := fun x : TileSt => x.scrubRow = (s.tile t).scrubRow) l _ rfl (fun x hx u _ => hx)

/-- The scrubber goes on to the next row. -/
theorem scrubRow_advances {t : Tile} {upsets : List (Fin 1024 × Fin 64 × Fin 72)} {s : State} (he : s.flag BSN_SCRUB_CTRL_EN t.val 0 = true)
    (hu : s.sliceUp t.val = true) :
    ∃ u, exec (.scrubRow t upsets) s = .next u ∧ (u.tile t.val).scrubRow = ((s.tile t.val).scrubRow + 1) % 1024 := by
  have he' : (s.upset t.val upsets).flag BSN_SCRUB_CTRL_EN t.val 0 = true := he
  have hu' : (s.upset t.val upsets).sliceUp t.val = true := hu
  have hrow := upset_scrubRow upsets s t.val
  have hexec : exec (.scrubRow t upsets) s = if (s.upset t.val upsets).flag BSN_SCRUB_CTRL_EN t.val 0 && (s.upset t.val upsets).sliceUp t.val then
      .next (((s.upset t.val upsets).readRow t.val (((s.upset t.val upsets).tile t.val).scrubRow % 1024) 0 false).1.updTile t.val
        (fun y => { y with scrubRow := (y.scrubRow + 1) % 1024 })) else .next (s.upset t.val upsets) := rfl
  rw [he', hu'] at hexec
  refine ⟨_, hexec, ?_⟩
  rw [State.tile_updTile_same]
  show (TileSt.scrubRow _ + 1) % 1024 = _
  rw [(State.readRow_rowsOnly .refl).scrubRow, hrow]

/-- A weak program row of a held tile takes a spare row. -/
theorem basinRowSpare_spares {t : Tile} {s : State} {r : Nat} (hw : (s.tile t.val).weakWait.find? (fun r => s.inProgram t.val r) = some r)
    (hu : s.sliceUp t.val = true) (hh : ∀ p, s.owner t.val = some p → (s.part p).phase = .ready ∨ (s.part p).phase = .stopped)
    (hl : (s.tile t.val).sparedRows.length < 4) :
    ∃ u, exec (.basinRowSpare t) s = .next u ∧ (u.tile t.val).sparedRows = (s.tile t.val).sparedRows ++ [r] ∧ r ∉ (u.tile t.val).weakWait := by
  have hs : ((s.readRow t.val r 0 false).1.tile t.val).sparedRows = (s.tile t.val).sparedRows := (State.readRow_rowsOnly .refl).sparedRows _
  generalize hx : s.readRow t.val r 0 false = x at hs
  refine ⟨(x.1.updTile t.val (fun y => { y with
      sparedRows := y.sparedRows ++ [r], weakWait := y.weakWait.filter (· != r), tracked := y.tracked.filter (fun e => e.1 != r) })).tileRecord t.val { code := 0x4044, unit := 5, detail := r * 64 }, ?_, ?_⟩
  · show execBasinRowSpare t s = _
    unfold execBasinRowSpare
    simp only [hw, hx]
    refine if_pos ?_
    rw [hu, decide_eq_true hl]
    cases ho : s.owner t.val with
    | none => rfl
    | some p => rcases hh p ho with h | h <;> simp [h]
  · unfold State.tileRecord
    rw [State.record_tile, State.tile_updTile_same]
    refine ⟨congrArg (· ++ [r]) hs, ?_⟩
    simp

/-- Settles O26: the copy is one write of the row's bytes, the scrubber's read leaves its row number alone, and a spared row leaves the list of weak ones. -/
theorem basinUpkeep : Obligations.BasinUpkeep :=
  ⟨fun _ _ _ _ => restoreRowCopy_copies, fun _ _ _ => scrubRow_advances, fun _ _ _ => basinRowSpare_spares⟩

end Sys2Proof.Machine
end

section
/-! PROOF. The commands of the vector engine that reach the Basin: VLD, VST and VQNT (04 R84 to R92). -/

namespace Sys2Proof.Machine

open Sys2Proof Sys2Proof.Safety

/-! ### The program window in the state that runs a command -/

theorem seen_inProgram (s : State) (i : Issue) (t r : Nat) : (seen s i).inProgram t r = s.inProgram t r := by
  unfold State.inProgram
  rw [reg_seen_other (by simp only [Fld.key, Fld.offset, SEQ_STATUS_OFFSET, BSN_PROG_PROG_PAGES]; omega)]
theorem updTile_inProgram (s : State) (t : Nat) (f : TileSt → TileSt) (u r : Nat) : (s.updTile t f).inProgram u r = s.inProgram u r := rfl

/-! ### VLD and VST -/

/-- A quarter of a row that a scheduled read of the program window answers. -/
theorem schedRead_quarter {s : State} {t r c q : Nat} (hp : s.inProgram t r = true) (hq : q < 4) :
    beatBytes (((s.schedRead t r c).2.drop (2 * q)).take 2) = Memory.readBytes s.mem (basinRow t r + 128 * q) 128 := by
  obtain ⟨w, -, d⟩ := State.schedRead_program (c := c) hp
  rw [(w.drop _).take_bytes, w.drop_bytes, d, Memory.readBytes_stretch _ (by omega)]
  congr 1
  omega

/-- A VLD leaves the words of its quarter row in its register. -/
theorem vld_loads {i : Issue} {s : State} (hi : issuable s i 2) (ho : bits i.word.toNat 63 58 = 0x01) (ht : vTy i.word.toNat ≠ 3)
    (hf : vectorFree s i [vD i.word.toNat]) (hm : (s.tile i.tile.val).portUse.has i.cycle.val = false)
    (hp : s.inProgram i.tile.val (bits (vImm i.word.toNat) 11 2) = true) :
    ∃ u, exec (.vld i) s = .next u ∧ sameMemory s u ∧ ∀ j < 32, ((u.tile i.tile.val).vr (vD i.word.toNat)).getD j 0 =
      Memory.readLE s.mem (basinRow i.tile.val (bits (vImm i.word.toNat) 11 2) + 128 * (vImm i.word.toNat % 4) + 4 * j) 4 := by
  have hmeet : (seen s i).portMeet i = false := by
    unfold State.portMeet
    rw [tile_seen]
    exact hm
  have hp' : ((seen s i).portTake i).inProgram i.tile.val (bits (vImm i.word.toNat) 11 2) = true := (seen_inProgram s i _ _).trans hp
  have hq := schedRead_quarter (c := i.cycle.val) hp' (Nat.mod_lt (vImm i.word.toNat) (by omega : 0 < 4))
  have hmem : (((seen s i).portTake i).schedRead i.tile.val (bits (vImm i.word.toNat) 11 2) i.cycle.val).1.mem = s.mem := State.schedRead_mem _ _ _ _
  have hrun := vExec_runs (src := []) (dst := [vD i.word.toNat]) (run := fun s =>
    if s.portMeet i then (s.portFault i).updTile i.tile.val (fun x => { x with vPoison := x.vPoison.add (vD i.word.toNat) })
    else
      let r := (s.portTake i).schedRead i.tile.val (bits (vImm i.word.toNat) 11 2) i.cycle.val
      let bs := (r.2.drop (2 * (vImm i.word.toNat % 4))).take 2
      let d := beatBytes bs
      (r.1.poisonSeen i.tile.val bs).updTile i.tile.val (fun x =>
        x.putV (vD i.word.toNat) ((upTo 32).map (word32 d)) (bs.any (·.poison)) (bs.any (·.trouble)) i.cycle.val 3))
    hi ho ht (by simpa using vD_lt _) hf
  dsimp only at hrun
  rw [hmeet] at hrun
  have hmm : ((seen s i).portTake i).mem = s.mem := rfl
  rw [hmm] at hq
  clear hmm hp'
  generalize ((seen s i).portTake i).schedRead i.tile.val (bits (vImm i.word.toNat) 11 2) i.cycle.val = x at hrun hmem hq
  refine ⟨_, hrun, fun a => ?_, fun j hj => ?_⟩
  · rw [if_neg Bool.false_ne_true, State.updTile_mem, (State.poisonSeen_memSame .refl).mem, hmem]
  · rw [if_neg Bool.false_ne_true, State.tile_updTile_same, putV_vr_same _ _ _ _ _ _ _ (by rw [List.length_map, upTo_length]), hq, List.map_map, List.getD_eq_getElem?_getD, List.getElem?_map]
    unfold upTo
    rw [List.getElem?_range hj]
    show word32 _ j % 2 ^ 32 = _
    rw [word32_readBytes _ (by omega), Nat.mod_eq_of_lt (Nat.lt_of_lt_of_eq (Memory.readLE_lt _ 4 _) (by decide))]

/-- What a store of a quarter row writes. -/
theorem storeQuarter_mem {s : State} {i : Issue} {bad trb : Bool} (hp : s.inProgram i.tile.val (bits (vImm i.word.toNat) 11 2) = true) :
    (s.storeQuarter i bad trb).mem = Memory.writeBytes s.mem (basinRow i.tile.val (bits (vImm i.word.toNat) 11 2) + 128 * (vImm i.word.toNat % 4))
      (((s.tile i.tile.val).vr (vA i.word.toNat)).flatMap (bytesOf 4)) := by
  unfold State.storeQuarter
  dsimp only
  rw [State.schedWrite_mem hp]
  generalize hd : ((s.tile i.tile.val).vr (vA i.word.toNat)).flatMap (bytesOf 4) = d
  have hlen : d.length = 64 * 2 := by rw [← hd, wordBytes_length, vr_length]
  have hw : WholeBeats [beatOf d 0 bad trb, beatOf d 64 bad trb] := by
    intro b hb
    rcases List.mem_cons.1 hb with rfl | hb
    · exact beatOf_length _ _ _ _
    · rw [List.mem_singleton.1 hb]
      exact beatOf_length _ _ _ _
  have h := State.storeWords_from (s := s) (t := i.tile.val) (r := bits (vImm i.word.toNat) 11 2)
    (pre := List.replicate (2 * (vImm i.word.toNat % 4)) (Beat.zero bad)) hw (by simp)
  rw [List.length_replicate] at h
  have hb : beatBytes [beatOf d 0 bad trb, beatOf d 64 bad trb] = d := by
    have := beatsOf_data hlen bad trb
    unfold beatsOf at this
    rw [hlen] at this
    exact this
  have hq : quarterWords (vImm i.word.toNat % 4) = (upTo (8 * [beatOf d 0 bad trb, beatOf d 64 bad trb].length)).map (· + 8 * (2 * (vImm i.word.toNat % 4))) := by
    unfold quarterWords
    rw [show 8 * (2 * (vImm i.word.toNat % 4)) = 16 * (vImm i.word.toNat % 4) by omega]
    rfl
  rw [hq, h, hb, show 64 * (2 * (vImm i.word.toNat % 4)) = 128 * (vImm i.word.toNat % 4) by omega]

theorem vr_word_lt (x : TileSt) (r j : Nat) : (x.vr r).getD j 0 < 2 ^ 32 := by
  unfold TileSt.vr
  rw [List.getD_eq_getElem?_getD, List.getElem?_map]
  cases (upTo 32)[j]? with
  | none => exact Nat.two_pow_pos 32
  | some k => exact Nat.mod_lt _ (by decide)

/-- A VST leaves its register's words in its quarter row and every other byte alone. -/
theorem vst_stores {i : Issue} {s : State} (hi : issuable s i 2) (ho : bits i.word.toNat 63 58 = 0x02) (ht : vTy i.word.toNat ≠ 3)
    (hf : vectorFree s i [vA i.word.toNat]) (hm : (s.tile i.tile.val).portUse.has i.cycle.val = false)
    (hp : s.inProgram i.tile.val (bits (vImm i.word.toNat) 11 2) = true) :
    ∃ u, exec (.vst i) s = .next u ∧
      (∀ j < 32, Memory.readLE u.mem (basinRow i.tile.val (bits (vImm i.word.toNat) 11 2) + 128 * (vImm i.word.toNat % 4) + 4 * j) 4 =
        ((s.tile i.tile.val).vr (vA i.word.toNat)).getD j 0) ∧
      ∀ a, (a < basinRow i.tile.val (bits (vImm i.word.toNat) 11 2) + 128 * (vImm i.word.toNat % 4) ∨
          basinRow i.tile.val (bits (vImm i.word.toNat) 11 2) + 128 * (vImm i.word.toNat % 4) + 128 ≤ a) →
        Memory.read u.mem a = Memory.read s.mem a := by
  obtain ⟨hfu, hpend⟩ := hf
  have hpend := hpend _ (List.mem_singleton_self _)
  have hseen := tile_seen s i
  have hexec : exec (.vst i) s = .next (((seen s i).portTake i).storeQuarter i (((seen s i).tile i.tile.val).vBad [vA i.word.toNat])
      (((seen s i).tile i.tile.val).vFlag [vA i.word.toNat])) := by
    show execVst i s = _
    unfold execVst
    rw [issue_runs hi]
    have hmeet : (seen s i).portMeet i = false := by
      unfold State.portMeet
      rw [hseen]
      exact hm
    have h1 : ¬ (i.cycle.val < ((seen s i).tile i.tile.val).fusedUntil) := by rw [hseen]; exact Nat.not_lt.2 hfu
    have h2 : ¬ (i.cycle.val < ((seen s i).tile i.tile.val).vPend.get (vA i.word.toNat) 0) := by rw [hseen]; exact Nat.not_lt.2 hpend
    have ht' : (vTy i.word.toNat == 3) = false := beq_false_of_ne ht
    dsimp only
    rw [ho, if_neg (by decide), ht', if_neg Bool.false_ne_true, if_neg h1, if_neg h2, hmeet, if_neg Bool.false_ne_true]
  have hmem := storeQuarter_mem (s := (seen s i).portTake i) (bad := ((seen s i).tile i.tile.val).vBad [vA i.word.toNat])
    (trb := ((seen s i).tile i.tile.val).vFlag [vA i.word.toNat]) ((seen_inProgram s i _ _).trans hp)
  have hv : ((((seen s i).portTake i).tile i.tile.val).vr (vA i.word.toNat)) = (s.tile i.tile.val).vr (vA i.word.toNat) := by
    unfold State.portTake
    rw [State.tile_updTile_same, hseen]
    rfl
  have hsm : ((seen s i).portTake i).mem = s.mem := rfl
  rw [hv, hsm] at hmem
  have hlen : (((s.tile i.tile.val).vr (vA i.word.toNat)).flatMap (bytesOf 4)).length = 128 := by rw [wordBytes_length, vr_length]
  refine ⟨_, hexec, fun j hj => ?_, fun a ha => ?_⟩
  · rw [hmem, Memory.readLE_writeBytes _ (by rw [hlen]; omega)]
    have h := word32_words ((s.tile i.tile.val).vr (vA i.word.toNat)) [] j (by rw [vr_length]; exact hj)
    rw [List.append_nil] at h
    rw [h, Nat.mod_eq_of_lt (vr_word_lt _ _ _)]
  · rw [hmem]
    exact Memory.read_writeBytes_outside _ _ _ _ (by rw [hlen]; omega)

/-! ### VQNT -/

/-- The words of eight registers, in order. -/
theorem vqnt_words (x : TileSt) (v j : Nat) (h : j < 256) :
    (((upTo 8).map (· + v)).flatMap x.vr).getD j 0 = (x.vr (v + j / 32)).getD (j % 32) 0 := by
  have hk : ∀ (n k : Nat), k < 32 * n → (((upTo n).map (· + v)).flatMap x.vr).length = 32 * n ∧
      (((upTo n).map (· + v)).flatMap x.vr).getD k 0 = (x.vr (v + k / 32)).getD (k % 32) 0 := by
    intro n
    induction n with
    | zero => intro k hk; omega
    | succ n ih =>
      intro k hk
      have hlen : (((upTo n).map (· + v)).flatMap x.vr).length = 32 * n := by
        cases n with
        | zero => rfl
        | succ n => exact (ih 0 (by omega)).1
      have e : ((upTo (n + 1)).map (· + v)).flatMap x.vr = ((upTo n).map (· + v)).flatMap x.vr ++ x.vr (n + v) := by
        unfold upTo
        rw [List.range_succ, List.map_append, List.flatMap_append]
        simp
      rw [e]
      refine ⟨by rw [List.length_append, hlen, vr_length]; omega, ?_⟩
      rcases Nat.lt_or_ge k (32 * n) with h | h
      · rw [List.getD_eq_getElem?_getD, List.getElem?_append_left (by rw [hlen]; exact h), ← List.getD_eq_getElem?_getD]
        exact (ih k h).2
      · rw [List.getD_eq_getElem?_getD, List.getElem?_append_right (by rw [hlen]; exact h), ← List.getD_eq_getElem?_getD, hlen, show n + v = v + k / 32 by omega, show k - 32 * n = k % 32 by omega]
  exact (hk 8 j h).2
theorem vqnt_words_length (x : TileSt) (v : Nat) : (((upTo 8).map (· + v)).flatMap x.vr).length = 256 := by
  rw [List.length_flatMap, List.map_map, show ((fun l => (x.vr l).length) ∘ (· + v)) = fun _ => 32 from funext fun k => vr_length x (k + v)]
  rfl

/-- The state of an accepted VQNT before its retention rows: the output block and its exponent stand. -/
def State.vqntBlock (s : State) (i : Issue) : State :=
  let w := i.word.toNat
  let t := i.tile.val
  let c := i.cycle.val
  let x := s.tile t
  let src := (upTo 8).map (· + vD w)
  let q := s.quant t (limOf (bitAt w 16)) (bits w 20 17) (src.flatMap x.vr)
  let trb := x.vFlag src || q.2.sat || q.2.undf
  let data := beatsOf (if bitAt w 16 then packA4 q.2.qs else packA8 q.2.qs) (x.vBad src) trb
  let s := q.1.schedWrite t (bits w 50 41) c (List.replicate (4 * bits w 40 40) (Beat.zero false) ++ data) (qntWords (bits w 40 40) (bitAt w 16))
  if s.inProgram t (bits w 39 30) then (s.byteWrite t (bits w 39 30) (bits w 29 21) q.2.e8 (x.vBad src) trb c).writeTag t (bits w 39 30)
  else s.boundsFault t (bits w 39 30) c

theorem vqntBlock_inProgram (s : State) (i : Issue) (t r : Nat) : (s.vqntBlock i).inProgram t r = s.inProgram t r := by
  unfold State.vqntBlock
  extract_lets w t1 c x src q trb data s1
  have hq : q.1.inProgram t r = s.inProgram t r := rfl
  clear_value q data trb x src
  have h1 : RowsOnly q.1 s1 := State.schedWrite_rowsOnly .refl
  clear_value s1
  rw [← hq]
  exact (RowsOnly.ite (State.writeTag_rowsOnly (State.byteWrite_rowsOnly h1)) (State.boundsFault_rowsOnly h1)).inProgram t r

/-- What an accepted VQNT stores last: its retention rows. -/
theorem vqntAccept_mem (s : State) (i : Issue) : ∃ bad trb : Bool, (s.vqntAccept i).mem =
    ((s.vqntBlock i).schedWrites i.tile.val i.cycle.val (bits i.word.toNat 15 6)
      (beatsOf (wordBytes (((upTo 8).map (· + vD i.word.toNat)).flatMap (s.tile i.tile.val).vr)) bad trb) 2).mem := by
  refine ⟨(s.tile i.tile.val).vBad ((upTo 8).map (· + vD i.word.toNat)), (s.tile i.tile.val).vFlag ((upTo 8).map (· + vD i.word.toNat)), ?_⟩
  unfold State.vqntAccept State.vqntBlock
  extract_lets w t c a4 x src xs bad lim q trb first half data s1 er s2 s3 s4
  have h4 : s4.mem = s3.mem := (State.vTrouble_memSame (s := s3) .refl).mem
  clear_value s4
  split
  · exact h4
  · exact h4

/-- A VQNT leaves its input words in its retention rows. -/
theorem vqnt_retains {i : Issue} {s : State} (hi : issuable s i 2) (ho : bits i.word.toNat 63 58 = 0x11) (hd : vD i.word.toNat % 8 = 0)
    (ht : vTy i.word.toNat = 0) (hz : bits i.word.toNat 5 0 = 0) (hf : vectorFree s i ((upTo 8).map (· + vD i.word.toNat)))
    (hport : portOpen (seen s i) i 2 (vqntRows i.word.toNat)) (hp : s.inProgram i.tile.val (bits i.word.toNat 15 6) = true)
    (hp' : s.inProgram i.tile.val (bits i.word.toNat 15 6 + 1) = true) :
    ∃ u, exec (.vqnt i) s = .next u ∧ ∀ j < 256, Memory.readLE u.mem (basinRow i.tile.val (bits i.word.toNat 15 6) + 4 * j) 4 =
      ((s.tile i.tile.val).vr (vD i.word.toNat + j / 32)).getD (j % 32) 0 := by
  obtain ⟨hfu, hpend⟩ := hf
  have hseen := tile_seen s i
  have hexec : exec (.vqnt i) s = .next (((seen s i).portClaim i.tile.val i.cycle.val 2 i.word.toNat (vqntRows i.word.toNat)).vqntAccept i) := by
    show execVqnt i s = _
    unfold execVqnt
    rw [issue_runs hi]
    have h1 : ¬ (i.cycle.val < ((seen s i).tile i.tile.val).fusedUntil) := by rw [hseen]; exact Nat.not_lt.2 hfu
    have h2 : ((upTo 8).map (· + vD i.word.toNat)).any (fun r => decide (i.cycle.val < ((seen s i).tile i.tile.val).vPend.get r 0)) = false := by
      rw [List.any_eq_false]
      intro r hr
      rw [hseen, decide_eq_true_eq]
      exact Nat.not_lt.2 (hpend r hr)
    unfold portOpen at hport
    unfold State.runVqnt
    dsimp only
    rw [ho, hd, ht, hz, if_neg (by decide), if_neg (by decide), if_neg h1, h2, if_neg Bool.false_ne_true, hport, if_neg Bool.false_ne_true]
  obtain ⟨bad, trb, hmem⟩ := vqntAccept_mem ((seen s i).portClaim i.tile.val i.cycle.val 2 i.word.toNat (vqntRows i.word.toNat)) i
  refine ⟨_, hexec, fun j hj => ?_⟩
  have hv : (((seen s i).portClaim i.tile.val i.cycle.val 2 i.word.toNat (vqntRows i.word.toNat)).tile i.tile.val).vr = (s.tile i.tile.val).vr := by
    unfold State.portClaim
    rw [State.tile_updTile_same, hseen]
    rfl
  rw [hv] at hmem
  have hprog : ∀ r, (((seen s i).portClaim i.tile.val i.cycle.val 2 i.word.toNat (vqntRows i.word.toNat)).vqntBlock i).inProgram i.tile.val r =
      s.inProgram i.tile.val r := fun r => (vqntBlock_inProgram _ _ _ _).trans (seen_inProgram s i _ _)
  generalize ((seen s i).portClaim i.tile.val i.cycle.val 2 i.word.toNat (vqntRows i.word.toNat)).vqntBlock i = b at hmem hprog
  have hlen := vqnt_words_length (s.tile i.tile.val) (vD i.word.toNat)
  have hword := vqnt_words (s.tile i.tile.val) (vD i.word.toNat) j hj
  have hlt : (((upTo 8).map (· + vD i.word.toNat)).flatMap (s.tile i.tile.val).vr).getD j 0 < 2 ^ 32 := by rw [hword]; exact vr_word_lt _ _ _
  generalize ((upTo 8).map (· + vD i.word.toNat)).flatMap (s.tile i.tile.val).vr = l at hmem hlen hword hlt
  have hbytes : (wordBytes l).length = 64 * 16 := by
    unfold wordBytes
    rw [wordBytes_length]
    omega
  have hin : ∀ k < 2, b.inProgram i.tile.val (bits i.word.toNat 15 6 + k) = true := by
    intro k hk
    rw [hprog]
    obtain rfl | rfl : k = 0 ∨ k = 1 := by omega
    · exact hp
    · exact hp'
  rw [hmem, State.schedWrites_program 2 (beatsOf_whole _ _ _) (by rw [beatsOf_length]; omega) hin, beatsOf_data hbytes,
    Memory.readLE_writeBytes _ (by rw [hbytes]; omega)]
  have h := word32_words l [] j (by rw [hlen]; exact hj)
  rw [List.append_nil] at h
  unfold wordBytes
  rw [h, Nat.mod_eq_of_lt hlt, hword]

/-- Settles O19: a VLD reads a quarter row, a VST and the retention rows of a VQNT are writes of the registers' words. -/
theorem vectorLoadsAndStores : Obligations.VectorLoadsAndStores :=
  ⟨fun _ _ => vld_loads, fun _ _ => vst_stores, fun _ _ => vqnt_retains⟩

end Sys2Proof.Machine
end

section
/-! PROOF. The commands of the matrix engine: MLD, MMUL and MOUT (04 R84 to R89). -/

namespace Sys2Proof.Machine

open Sys2Proof Sys2Proof.Safety

/-- What the one step that writes a place of a state leaves there. -/
theorem foldl_at {α β γ : Type} {f : α → β → α} {p : β} {v : γ} (g : α → γ) {l : List β} {a : α} (hkeep : ∀ a b, b ≠ p → g (f a b) = g a)
    (hset : ∀ a, g (f a p) = v) (hnd : l.Nodup) (hp : p ∈ l) : g (l.foldl f a) = v :=
  let ⟨a', _, h⟩ := foldl_step_at g hkeep hnd hp a
  h.trans (hset a')

/-- No ATTEND that uses the matrix engine runs. -/
theorem matrixFree_idle {s : State} {i : Issue} (h : matrixFree s i) :
    (decide (i.cycle.val < ((seen s i).tile i.tile.val).fusedUntil) && ((seen s i).tile i.tile.val).fusedMx) = false := by
  rw [tile_seen, Bool.and_eq_false_iff, decide_eq_false_iff_not]
  by_cases hm : (s.tile i.tile.val).fusedMx = true
  · exact Or.inl (Nat.not_lt.2 (h hm))
  · exact Or.inr (Bool.not_eq_true _ ▸ hm)

/-! ### MLD -/

theorem TileSt.putMa_ma (x : TileSt) (v : Nat) (l : List Int) (e : Nat) (bad trb : Bool) (j : Nat) :
    (x.putMa v l e bad trb).ma.get j [] = if v = j then l else x.ma.get j [] := Map.get_put ..
theorem TileSt.putMa_maExp (x : TileSt) (v : Nat) (l : List Int) (e : Nat) (bad trb : Bool) (j : Nat) :
    (x.putMa v l e bad trb).maExp.get j 0 = if v = j then e else x.maExp.get j 0 := Map.get_put ..
theorem TileSt.putMb_mb (x : TileSt) (v : Nat) (l : List Int) (e : Nat) (bad trb : Bool) (j : Nat) :
    (x.putMb v l e bad trb).mb.get j [] = if v = j then l else x.mb.get j [] := Map.get_put ..
theorem TileSt.putMb_mbExp (x : TileSt) (v : Nat) (l : List Int) (e : Nat) (bad trb : Bool) (j : Nat) :
    (x.putMb v l e bad trb).mbExp.get j 0 = if v = j then e else x.mbExp.get j 0 := Map.get_put ..

section
variable {v0 n k : Nat} {l : Nat → List Int} {e : Nat → Nat} {bad trb : Nat → Bool} {x : TileSt}

/-- Vectors loaded one after another into MA: each is as it was loaded. -/
theorem foldl_putMa (hk : k < n) :
    ((upTo n).foldl (fun x k => x.putMa (v0 + k) (l k) (e k) (bad k) (trb k)) x).ma.get (v0 + k) [] = l k ∧
    ((upTo n).foldl (fun x k => x.putMa (v0 + k) (l k) (e k) (bad k) (trb k)) x).maExp.get (v0 + k) 0 = e k := by
  refine Prod.mk.inj (foldl_at (p := k) (fun x : TileSt => (x.ma.get (v0 + k) [], x.maExp.get (v0 + k) 0)) (fun x j hj => ?_) (fun x => ?_) List.nodup_range
    (List.mem_range.2 hk))
  · rw [TileSt.putMa_ma, TileSt.putMa_maExp, if_neg (by omega), if_neg (by omega)]
  · rw [TileSt.putMa_ma, TileSt.putMa_maExp, if_pos rfl, if_pos rfl]
/-- Vectors loaded one after another into MB. -/
theorem foldl_putMb (hk : k < n) :
    ((upTo n).foldl (fun x k => x.putMb (v0 + k) (l k) (e k) (bad k) (trb k)) x).mb.get (v0 + k) [] = l k ∧
    ((upTo n).foldl (fun x k => x.putMb (v0 + k) (l k) (e k) (bad k) (trb k)) x).mbExp.get (v0 + k) 0 = e k := by
  refine Prod.mk.inj (foldl_at (p := k) (fun x : TileSt => (x.mb.get (v0 + k) [], x.mbExp.get (v0 + k) 0)) (fun x j hj => ?_) (fun x => ?_) List.nodup_range
    (List.mem_range.2 hk))
  · rw [TileSt.putMb_mb, TileSt.putMb_mbExp, if_neg (by omega), if_neg (by omega)]
  · rw [TileSt.putMb_mb, TileSt.putMb_mbExp, if_pos rfl, if_pos rfl]
end

/-- The head dimensions of a K8 page, and the 256 elements of another vector. -/
theorem mldDim_cases (w : Nat) : mldDim w = 64 ∨ mldDim w = 128 ∨ mldDim w = 256 := by
  unfold mldDim
  split
  · have h : Config.headDim w % 3 < 3 := Nat.mod_lt _ (by decide)
    generalize Config.headDim w % 3 = m at h
    obtain rfl | rfl | rfl : m = 0 ∨ m = 1 ∨ m = 2 := by omega
    · exact Or.inl rfl
    · exact Or.inr (Or.inl rfl)
    · exact Or.inr (Or.inr rfl)
  · exact Or.inr (Or.inr rfl)
/-- A vector lies in the rows of its MLD. -/
theorem mldVecs_fit {w k : Nat} (hk : k < mldVecs w) : mldDim w * k + mldDim w ≤ 512 * (bits w 45 40 + 1) := by
  unfold mldVecs at hk
  rcases mldDim_cases w with h | h | h <;> rw [h] at hk ⊢ <;> omega
/-- Its exponent lies in the exponent row. -/
theorem mldExpByte_fit {w k : Nat} (hb : mldBad w = false) (hk : k < mldVecs w) : mldExpByte w + k < 512 := by
  have hn : bits w 45 40 < 64 := Nat.mod_lt _ (by decide)
  unfold mldVecs at hk
  unfold mldExpByte
  split
  · next hkind =>
    have hrows : bits w 55 46 % 64 + (bits w 45 40 + 1) ≤ 64 := by
      unfold mldBad at hb
      simp only [Bool.or_eq_false_iff, Bool.and_eq_false_iff, hkind, beq_self_eq_true, Bool.true_eq_false, false_or, decide_eq_false_iff_not] at hb
      omega
    rcases mldDim_cases w with h | h | h <;> rw [h] at hk ⊢ <;> omega
  · next hkind =>
    have h : mldDim w = 256 := by
      unfold mldDim
      rw [if_neg hkind]
    rw [h] at hk
    omega

/-- What an accepted MLD loads. -/
theorem mldAccept_loads {s : State} {i : Issue} (hb : mldBad i.word.toNat = false) (he : s.inProgram i.tile.val (mldExpRow i.word.toNat) = true)
    (hp : ∀ k < bits i.word.toNat 45 40 + 1, s.inProgram i.tile.val (bits i.word.toNat 55 46 + k) = true) {k : Nat} (hk : k < mldVecs i.word.toNat) :
    let elems := vecElems (decide (bits i.word.toNat 57 56 = 2))
      (Memory.readBytes s.mem (basinRow i.tile.val (bits i.word.toNat 55 46) + mldDim i.word.toNat * k) (mldDim i.word.toNat))
    let e8 := (Memory.read s.mem (basinRow i.tile.val (mldExpRow i.word.toNat) + mldExpByte i.word.toNat + k)).toNat
    if bits i.word.toNat 58 58 = 0 then
      ((s.mldAccept i).tile i.tile.val).ma.get (bits i.word.toNat 39 33 + k) [] = elems ∧
        ((s.mldAccept i).tile i.tile.val).maExp.get (bits i.word.toNat 39 33 + k) 0 = e8
    else
      ((s.mldAccept i).tile i.tile.val).mb.get (bits i.word.toNat 39 33 + k) [] = elems ∧
        ((s.mldAccept i).tile i.tile.val).mbExp.get (bits i.word.toNat 39 33 + k) 0 = e8 := by
  intro elems e8
  unfold State.mldAccept
  extract_lets w t c dst kind nr v0 dim e0 d e db eb s1
  obtain ⟨-, -, hd⟩ := State.schedReads_program (c := c) (bits w 45 40 + 1) hp
  have he' : d.1.inProgram t (mldExpRow w) = true := (State.schedReads_rowsOnly .refl).inProgram _ _ |>.trans he
  obtain ⟨-, -, hx⟩ := State.schedRead_program (c := c) he'
  have hdm : d.1.mem = s.mem := State.schedReads_mem _ _ _ _ _
  rw [hdm] at hx
  have hdb : vecElems (decide (kind = 2)) ((db.drop (dim * k)).take dim) = elems := by
    unfold db d
    rw [hd, Memory.readBytes_stretch _ (mldVecs_fit hk)]
  have heb : ((eb[e0 + k]?).getD 0#8).toNat = e8 := by
    unfold eb e
    rw [hx, Memory.readBytes_getElem? _ _ (mldExpByte_fit hb hk), ← Nat.add_assoc]
    rfl
  clear_value db eb s1 d e
  rw [State.tile_updTile_same]
  by_cases h : bits i.word.toNat 58 58 = 0
  · have h' : dst = 0 := h
    rw [if_pos h, ← hdb, ← heb]
    simp only [if_pos h']
    exact foldl_putMa hk
  · have h' : ¬ dst = 0 := h
    rw [if_neg h, ← hdb, ← heb]
    simp only [if_neg h']
    exact foldl_putMb hk

/-- Settles O15: the beats of the rows are their bytes, and each vector is put once. -/
theorem mldLoadsItsVectors : Obligations.MldLoadsItsVectors := by
  unfold Obligations.MldLoadsItsVectors
  intro i s hi ho hb hr hfree hport he hp
  have hseen := tile_seen s i
  have hexec : exec (.mld i) s = .next (((seen s i).portClaim i.tile.val i.cycle.val 1 i.word.toNat (mldRows i.word.toNat)).mldAccept i) := by
    show execMld i s = _
    unfold execMld
    rw [issue_runs hi]
    have h2 : ((seen s i).tile i.tile.val).mmulReads i.cycle.val (bits i.word.toNat 58 58) (bits i.word.toNat 39 33) (mldVecs i.word.toNat) = false := by
      rw [hseen]
      exact hr
    unfold portOpen at hport
    unfold State.runMld
    dsimp only
    rw [ho, if_neg (by decide), matrixFree_idle hfree, if_neg Bool.false_ne_true, hb, h2, if_neg (by decide), hport, if_neg Bool.false_ne_true]
  refine ⟨_, hexec, fun k hk => ?_⟩
  have hprog : ∀ r, ((seen s i).portClaim i.tile.val i.cycle.val 1 i.word.toNat (mldRows i.word.toNat)).inProgram i.tile.val r = s.inProgram i.tile.val r :=
    fun r => seen_inProgram s i _ r
  exact mldAccept_loads hb ((hprog _).trans he) (fun k hk => (hprog _).trans (hp k (Nat.lt_succ_iff.1 hk))) hk

/-! ### MMUL -/

/-- The sum that MMUL adds to the accumulator of row `a` of A and vector or lane `b` of B. -/
def mmulSum (x : TileSt) (f : MmF) (a b : Nat) : Int :=
  let emax := ((upTo f.k).map (fun j => x.mbExp.get (f.b + j) 0)).foldl max 0
  if f.trb then (upTo f.k).foldl (fun sum j => sum + (x.ma.get (f.a + a) []).getD j 0 *
      (alignVec emax (x.mbExp.get (f.b + j) 0) (x.mb.get (f.b + j) [])).getD b 0) 0
  else dotK f.k (x.ma.get (f.a + a) []) (x.mb.get (f.b + b) [])

theorem getD_map_upTo {α : Type} (g : Nat → α) (d : α) {n k : Nat} (h : k < n) : ((upTo n).map g).getD k d = g k := by
  unfold upTo
  rw [List.getD_eq_getElem?_getD, List.getElem?_map, List.getElem?_range h]
  rfl
theorem foldl_congr_mem {α β : Type} {f g : α → β → α} {l : List β} : (∀ b ∈ l, ∀ a, f a b = g a b) → ∀ a, l.foldl f a = l.foldl g a := by
  induction l with
  | nil => intro _ a; rfl
  | cons b l ih => intro h a; rw [List.foldl_cons, List.foldl_cons, h b List.mem_cons_self a, ih (fun c hc => h c (List.mem_cons_of_mem _ hc))]

/-- The product's element: its sum and its exponents. -/
theorem mmElem_sum (x : TileSt) (f : MmF) {a b : Nat} (hb : b < f.n) :
    let emax := ((upTo f.bCount).map (fun k => x.mbExp.get (f.b + k) 0)).foldl max 0
    let bs := (upTo f.bCount).map (fun k => if f.trb then alignVec emax (x.mbExp.get (f.b + k) 0) (x.mb.get (f.b + k) []) else x.mb.get (f.b + k) [])
    (x.mmElem f bs emax a b).1 = mmulSum x f a b ∧
    (x.mmElem f bs emax a b).2.1 = (x.maExp.get (f.a + a) 0, if f.trb then ((upTo f.k).map (fun j => x.mbExp.get (f.b + j) 0)).foldl max 0 else x.mbExp.get (f.b + b) 0) := by
  intro emax bs
  unfold TileSt.mmElem mmulSum
  cases ht : f.trb with
  | true =>
    have hcount : f.bCount = f.k := if_pos ht
    have hemax : emax = ((upTo f.k).map (fun j => x.mbExp.get (f.b + j) 0)).foldl max 0 := by unfold emax; rw [hcount]
    simp only [if_true]
    refine ⟨foldl_congr_mem (fun j hj sum => ?_) 0, by rw [hemax]⟩
    have hbs : bs.getD j [] = alignVec emax (x.mbExp.get (f.b + j) 0) (x.mb.get (f.b + j) []) := by
      unfold bs
      rw [hcount, getD_map_upTo _ _ (List.mem_range.1 hj), if_pos ht]
    rw [hbs, hemax]
  | false =>
    have hcount : f.bCount = f.n := if_neg (by rw [ht]; exact Bool.false_ne_true)
    have hbs : bs.getD b [] = x.mb.get (f.b + b) [] := by
      unfold bs
      rw [hcount, getD_map_upTo _ _ hb, if_neg (by rw [ht]; exact Bool.false_ne_true)]
    simp only [Bool.false_eq_true, if_false, hbs, and_self]

/-- The accumulators after a product. -/
theorem mmul_accumulates (x : TileSt) (f : MmF) {a b : Nat} (ha : a < f.m) (hb : b < f.n) :
    (x.mmul f).mc.get (f.c + (a * f.n + b)) 0 = satSym 2147483647 ((if f.acc then x.mc.get (f.c + (a * f.n + b)) 0 else 0) + mmulSum x f a b) ∧
    (x.mmul f).mcExp.get (f.c + (a * f.n + b)) (0, 0) =
      (x.maExp.get (f.a + a) 0, if f.trb then ((upTo f.k).map (fun j => x.mbExp.get (f.b + j) 0)).foldl max 0 else x.mbExp.get (f.b + b) 0) := by
  have hq : a * f.n + b < f.m * f.n := by
    calc a * f.n + b < a * f.n + f.n := by omega
      _ = (a + 1) * f.n := by rw [Nat.succ_mul]
      _ ≤ f.m * f.n := Nat.mul_le_mul_right _ ha
  have hdiv : (a * f.n + b) / f.n = a := by rw [Nat.mul_comm, Nat.mul_add_div (by omega), Nat.div_eq_of_lt hb, Nat.add_zero]
  have hmod : (a * f.n + b) % f.n = b := by rw [Nat.mul_comm, Nat.mul_add_mod, Nat.mod_eq_of_lt hb]
  obtain ⟨hsum, hexp⟩ := mmElem_sum x f (a := a) hb
  unfold TileSt.mmul
  extract_lets es emax bs
  refine Prod.mk.inj ?_
  generalize hk : a * f.n + b = k at *
  refine foldl_at (p := k) (fun y : TileSt => (y.mc.get (f.c + k) 0, y.mcExp.get (f.c + k) (0, 0))) (fun y q hne => ?_) (fun y => ?_) List.nodup_range
    (List.mem_range.2 hq)
  · exact Prod.ext (Map.get_put_other (by omega) _ _ _) (Map.get_put_other (by omega) _ _ _)
  · refine Prod.ext ((Map.get_put_same ..).trans ?_) ((Map.get_put_same ..).trans ?_)
    · rw [hdiv, hmod]
      exact congrArg (fun v => satSym 2147483647 (_ + v)) hsum
    · rw [hdiv, hmod]
      exact hexp

/-! ### MOUT -/

/-- Register `vd + k` takes the words of a group of accumulators. -/
def TileSt.putOut (x : TileSt) (vd pend : Nat) (g : List (Nat × Bool × Bool)) (k : Nat) : TileSt := { x with
  vreg := x.vreg.put (vd + k) ((g.map (·.1)) ++ List.replicate (32 - g.length) 0)
  vPoison := x.vPoison.upd (vd + k) (g.any (·.2.1))
  vTrouble := x.vTrouble.upd (vd + k) (g.any (·.2.2))
  vPend := x.vPend.put (vd + k) pend }

/-- The words of accumulators that fill registers. -/
theorem foldl_vreg (vd : Nat) (upd : TileSt → List (Nat × Bool × Bool) → Nat → TileSt) (x : TileSt)
    (hupd : ∀ x g k, (upd x g k).vreg = x.vreg.put (vd + k) ((g.map (·.1)) ++ List.replicate (32 - g.length) 0))
    {l : List (Nat × Bool × Bool)} {n k : Nat} (hn : l.length ≤ n) (hk : k < l.length) :
    (((chunksOf 32 n l).zipIdx.foldl (fun x g => upd x g.1 g.2) x).vr (vd + k / 32)).getD (k % 32) 0 = (l.getD k (0, false, false)).1 % 2 ^ 32 := by
  have hgroup : (chunksOf 32 n l)[k / 32]? = some ((l.drop (32 * (k / 32))).take 32) := (chunksOf_getElem? (by decide) _ l _ hn).trans (if_pos (by omega))
  have hget := foldl_zipIdx_at (f := fun (x : TileSt) (g : List (Nat × Bool × Bool) × Nat) => upd x g.1 g.2) (read := fun x j => x.vreg.get (vd + j) [])
    (val := fun g => (g.map (·.1)) ++ List.replicate (32 - g.length) 0) (fun x a j => by rw [hupd]; exact Map.get_put_same ..)
    (fun x a j j' hj => by rw [hupd]; exact Map.get_put_other (by omega) _ _ _) _ 0 x _ _ hgroup
  rw [Nat.zero_add] at hget
  generalize hg : (l.drop (32 * (k / 32))).take 32 = g at hget
  have hlen : g.length ≤ 32 := by rw [← hg, List.length_take]; omega
  rw [vr_of_vreg hget (by rw [List.length_append, List.length_map, List.length_replicate]; omega)]
  have hkg : k % 32 < g.length := by rw [← hg, List.length_take, List.length_drop]; omega
  have hgk : g[k % 32]? = l[k]? := by
    rw [← hg, List.getElem?_take, if_pos (by omega), List.getElem?_drop]
    congr 1
    omega
  rw [List.getD_eq_getElem?_getD, List.getElem?_map, List.getElem?_append_left (by rw [List.length_map]; exact hkg), List.getElem?_map, hgk,
    List.getD_eq_getElem?_getD, List.getElem?_eq_getElem hk]
  rfl

/-- The words and their marks that a MOUT of `n` accumulators from `cs` on takes. -/
def moutVals (x : TileSt) (cs n : Nat) : List (Nat × Bool × Bool) :=
  (upTo n).map (fun k => ((x.mcValue (cs + k)).1, (x.mcValue (cs + k)).2, x.mxTrouble.mem (mcKey (cs + k))))
theorem moutVals_length (x : TileSt) (cs n : Nat) : (moutVals x cs n).length = n := by
  unfold moutVals
  rw [List.length_map, upTo_length]
theorem moutVals_word (x : TileSt) (cs : Nat) {n k : Nat} (h : k < n) : ((moutVals x cs n).getD k (0, false, false)).1 = (x.mcValue (cs + k)).1 := by
  unfold moutVals
  rw [getD_map_upTo _ _ h]

/-- What an accepted MOUT leaves in vector registers. -/
theorem moutAccept_registers {s : State} {i : Issue} (hv : bitAt i.word.toNat 58 = true) {k : Nat} (hk : k < bits i.word.toNat 31 21 + 1) :
    (((s.moutAccept i).tile i.tile.val).vr (bits i.word.toNat 47 43 + k / 32)).getD (k % 32) 0 =
      ((s.tile i.tile.val).mcValue (bits i.word.toNat 42 32 + k)).1 % 2 ^ 32 := by
  have hlen := moutVals_length (s.tile i.tile.val) (bits i.word.toNat 42 32) (bits i.word.toNat 31 21 + 1)
  unfold State.moutAccept
  dsimp only
  rw [if_pos hv, State.tile_updTile_same, ← moutVals_word _ _ hk]
  exact foldl_vreg _ (fun x => x.putOut (bits i.word.toNat 47 43) (i.cycle.val + ceilDiv (bits i.word.toNat 31 21 + 1) 32 + 4)) _ (fun x g k => rfl)
    (Nat.le_of_eq hlen) (Nat.lt_of_lt_of_eq hk hlen.symm)

/-- What an accepted MOUT leaves in rows of the program window. -/
theorem moutAccept_rows {s : State} {i : Issue} (hv : bitAt i.word.toNat 58 = false)
    (hp : ∀ k < ceilDiv (ceilDiv (bits i.word.toNat 31 21 + 1) 16) 8, s.inProgram i.tile.val (bits i.word.toNat 57 48 + k) = true)
    {k : Nat} (hk : k < bits i.word.toNat 31 21 + 1) :
    Memory.readLE (s.moutAccept i).mem (basinRow i.tile.val (bits i.word.toNat 57 48) + 4 * k) 4 =
      ((s.tile i.tile.val).mcValue (bits i.word.toNat 42 32 + k)).1 % 2 ^ 32 := by
  have hlen := moutVals_length (s.tile i.tile.val) (bits i.word.toNat 42 32) (bits i.word.toNat 31 21 + 1)
  have hbeats := wordBeats_length (moutVals (s.tile i.tile.val) (bits i.word.toNat 42 32) (bits i.word.toNat 31 21 + 1))
  have hword := wordBeats_word (l := moutVals (s.tile i.tile.val) (bits i.word.toNat 42 32) (bits i.word.toNat 31 21 + 1)) (k := k) (by rw [hlen]; exact hk)
  have hwhole := wordBeats_whole (moutVals (s.tile i.tile.val) (bits i.word.toNat 42 32) (bits i.word.toNat 31 21 + 1))
  rw [moutVals_word _ _ hk] at hword
  rw [hlen] at hbeats
  have hfit : 4 * k + 4 ≤ (beatBytes (wordBeats (moutVals (s.tile i.tile.val) (bits i.word.toNat 42 32) (bits i.word.toNat 31 21 + 1)))).length := by
    rw [hwhole.length, hbeats]
    unfold ceilDiv
    omega
  have hmem : (s.moutAccept i).mem = Memory.writeBytes s.mem (basinRow i.tile.val (bits i.word.toNat 57 48))
      (beatBytes (wordBeats (moutVals (s.tile i.tile.val) (bits i.word.toNat 42 32) (bits i.word.toNat 31 21 + 1)))) := by
    unfold State.moutAccept State.putBeats
    dsimp only
    rw [if_neg (by rw [hv]; exact Bool.false_ne_true)]
    refine State.schedWrites_program _ hwhole ?_ ?_
    · show _ ≤ 8 * ceilDiv _ 8
      unfold ceilDiv
      omega
    · show ∀ k < ceilDiv (wordBeats (moutVals _ _ _)).length 8, _
      rw [hbeats]
      exact hp
  rw [hmem, Memory.readLE_writeBytes _ hfit, hword]

/-- Settles O16: the product is one pass over the accumulators, and the output takes their words sixteen to a beat. -/
theorem matrixEngineCommands : Obligations.MatrixEngineCommands := by
  unfold Obligations.MatrixEngineCommands
  refine ⟨fun i s hi ho hz hb hfree hm => ?_, fun i s hi ho hz hc hfree hm hport hvr hp => ?_⟩
  · intro f x emax
    have hseen := tile_seen s i
    have hexec : exec (.mmul i) s = .next ((seen s i).updTile i.tile.val (fun x => { (x.mmul f) with
        mxUntil := i.cycle.val + mmCycles f.m f.n f.k (if f.q4 then 16 else 8) + 6
        mmulUntil := i.cycle.val + mmCycles f.m f.n f.k (if f.q4 then 16 else 8) + 6
        mxA := (f.a, f.m), mxB := (f.b, f.bCount) })) := by
      show execMmul i s = _
      unfold execMmul
      rw [issue_runs hi]
      have h2 : decide (i.cycle.val < ((seen s i).tile i.tile.val).mxUntil) = false := by
        rw [hseen, decide_eq_false_iff_not]
        exact Nat.not_lt.2 hfree
      unfold State.runMmul
      dsimp only
      rw [ho, if_neg (by decide), matrixFree_idle hm, if_neg Bool.false_ne_true, hz, hb, h2, if_neg (by decide)]
    refine ⟨_, hexec, ?_, fun a ha b hb => ?_⟩
    · rw [State.tile_updTile_same]
    · rw [State.tile_updTile_same, hseen]
      exact mmul_accumulates _ f ha hb
  · have hseen := tile_seen s i
    have hexec : exec (.mout i) s = .next (((seen s i).portClaim i.tile.val i.cycle.val 1 i.word.toNat (moutRows i.word.toNat)).moutAccept i) := by
      show execMout i s = _
      unfold execMout
      rw [issue_runs hi]
      have h2 : decide (i.cycle.val < ((seen s i).tile i.tile.val).mxUntil) = false := by
        rw [hseen, decide_eq_false_iff_not]
        exact Nat.not_lt.2 hfree
      have h3 : decide (2048 < bits i.word.toNat 42 32 + (bits i.word.toNat 31 21 + 1)) = false := decide_eq_false (Nat.not_lt.2 hc)
      have h4 : (bitAt i.word.toNat 58 && decide (32 < bits i.word.toNat 47 43 + ceilDiv (bits i.word.toNat 31 21 + 1) 32)) = false := by
        rw [Bool.and_eq_false_iff, decide_eq_false_iff_not]
        by_cases hv : bitAt i.word.toNat 58 = true
        · exact Or.inr (Nat.not_lt.2 (hvr hv))
        · exact Or.inl (Bool.not_eq_true _ ▸ hv)
      unfold portOpen at hport
      unfold State.runMout
      dsimp only
      rw [ho, if_neg (by decide), matrixFree_idle hm, if_neg Bool.false_ne_true, hz, h2, h3, h4, if_neg (by decide), hport, if_neg Bool.false_ne_true]
    have htile : ∀ k, (((seen s i).portClaim i.tile.val i.cycle.val 1 i.word.toNat (moutRows i.word.toNat)).tile i.tile.val).mcValue k =
        (s.tile i.tile.val).mcValue k := fun k => by
      unfold State.portClaim
      rw [State.tile_updTile_same, hseen]
      rfl
    refine ⟨_, hexec, fun k hk => ?_⟩
    rw [← htile]
    cases hv : bitAt i.word.toNat 58 with
    | true =>
      rw [if_pos rfl]
      exact moutAccept_registers hv hk
    | false =>
      rw [if_neg Bool.false_ne_true]
      refine moutAccept_rows hv (fun k hk => ?_) hk
      exact (seen_inProgram s i _ _).trans (hp hv k hk)

end Sys2Proof.Machine
end

section
/-! PROOF. The fused commands ATTEND and SAMPLE, and CMRG, occupy their units for their fixed times (04 R93, R94, R107, R110). -/

namespace Sys2Proof.Machine

open Sys2Proof Sys2Proof.Safety

-- One proof after another: these many small proofs would otherwise wait for each other on a thread each.
set_option Elab.async false

/-! ### What carrying out a CMRG leaves: one lemma for each operation -/

/-- Every tile's Confluence unit is occupied as long as it was. -/
structure MergeKept (a s : State) : Prop where
  tile : ∀ t, (s.tile t).cmrgUntil = (a.tile t).cmrgUntil

theorem MergeKept.refl {a : State} : MergeKept a a := ⟨fun _ => rfl⟩
theorem MergeKept.ite {a u v : State} {c : Prop} [Decidable c] (hu : MergeKept a u) (hv : MergeKept a v) : MergeKept a (if c then u else v) := by
  split <;> assumption
/-- A change that leaves the tiles alone. -/
theorem MergeKept.same {a s t : State} (h : MergeKept a s) (htiles : t.tiles = s.tiles) : MergeKept a t :=
  ⟨fun u => Eq.trans (by unfold State.tile; rw [htiles]) (h.tile u)⟩
theorem foldl_mergeKept {a : State} {β : Type} {f : State → β → State} (hf : ∀ s b, MergeKept a s → MergeKept a (f s b)) {l : List β} :
    ∀ {s : State}, MergeKept a s → MergeKept a (l.foldl f s) := by
  induction l with
  | nil => intro s h; exact h
  | cons b r ih => intro s h; exact ih (hf s b h)
theorem foldl_mergeKept1 {a : State} {β γ : Type} {f : State × γ → β → State × γ} (hf : ∀ s b, MergeKept a s.1 → MergeKept a (f s b).1) {l : List β} :
    ∀ {s : State × γ}, MergeKept a s.1 → MergeKept a (l.foldl f s).1 := by
  induction l with
  | nil => intro s h; exact h
  | cons b r ih => intro s h; exact ih (hf s b h)
theorem State.setReg_mergeKept {pre s : State} (fo : MergeKept pre s) {f : Fld} {inst i v : Nat} : MergeKept pre (s.setReg f inst i v) := fo.same rfl
theorem State.addReg_mergeKept {pre s : State} (fo : MergeKept pre s) {f : Fld} {inst i d : Nat} : MergeKept pre (s.addReg f inst i d) := fo.same rfl
theorem State.setMem_mergeKept {pre s : State} (fo : MergeKept pre s) {m : Memory} : MergeKept pre (s.setMem m) := fo.same rfl
theorem State.record_mergeKept {pre s : State} (fo : MergeKept pre s) {r : Rec} : MergeKept pre (s.record r) := fo.same (State.record_tiles s r)
theorem State.updTile_mergeKept {pre s : State} (fo : MergeKept pre s) {t : Nat} {f : TileSt → TileSt}
    (hf : ∀ x, (f x).cmrgUntil = x.cmrgUntil := by exact fun _ => rfl) : MergeKept pre (s.updTile t f) := by
  refine ⟨fun u => ?_⟩
  rcases Decidable.em (t = u) with rfl | hne
  · rw [State.tile_updTile_same, hf, fo.tile]
  · rw [State.tile_updTile_other hne, fo.tile]

theorem State.tileRecord_mergeKept {pre : State} {s : State} (fo : MergeKept pre s) {t : Nat} {r : Rec} : MergeKept pre (s.tileRecord t r) := by
  unfold State.tileRecord
  exact State.record_mergeKept fo

theorem State.tileFault_mergeKept {pre : State} {s : State} (fo : MergeKept pre s) {t : Nat} {r : Rec} : MergeKept pre (s.tileFault t r) := by
  unfold State.tileFault
  exact State.updTile_mergeKept (State.tileRecord_mergeKept fo)

theorem State.boundsFault_mergeKept {pre : State} {s : State} (fo : MergeKept pre s) {t : Nat} {r : Nat} {cycle : Nat} : MergeKept pre (s.boundsFault t r cycle) := by
  unfold State.boundsFault
  exact State.tileFault_mergeKept (State.setReg_mergeKept fo)

theorem State.injectFlip_mergeKept {pre : State} {s : State} (fo : MergeKept pre s) {t : Nat} {r : Nat} {mask : List Nat} : MergeKept pre (s.injectFlip t r mask) := by
  unfold State.injectFlip
  extract_lets s1
  split
  · exact fo
  · rename_i y1 y2 y3
    apply MergeKept.ite
    · extract_lets s2
      have h1 : MergeKept pre s2 := State.updTile_mergeKept fo
      clear_value s2
      exact State.setReg_mergeKept (State.setReg_mergeKept h1)
    · exact fo

theorem State.setTag_mergeKept {pre : State} {s : State} (fo : MergeKept pre s) {t : Nat} {r : Nat} {v : Nat} : MergeKept pre (s.setTag t r v) := by
  unfold State.setTag
  exact State.updTile_mergeKept fo

theorem State.writeTag_mergeKept {pre : State} {s : State} (fo : MergeKept pre s) {t : Nat} {r : Nat} : MergeKept pre (s.writeTag t r) := by
  unfold State.writeTag
  exact MergeKept.ite (State.setTag_mergeKept fo) fo

theorem State.storeWords_mergeKept {pre : State} {s : State} (fo : MergeKept pre s) {t : Nat} {r : Nat} {beats : List Beat} {mask : List Nat} : MergeKept pre (s.storeWords t r beats mask) := by
  unfold State.storeWords
  apply foldl_mergeKept
  · intro x1 x2 h1
    extract_lets s1 s2 s3
    have h2 : MergeKept pre s3 := State.updTile_mergeKept h1
    clear_value s3
    exact State.setMem_mergeKept h2
  · exact fo

theorem State.schedWrite_mergeKept {pre : State} {s : State} (fo : MergeKept pre s) {t : Nat} {r : Nat} {cycle : Nat} {beats : List Beat} {mask : List Nat} : MergeKept pre (s.schedWrite t r cycle beats mask) := by
  unfold State.schedWrite
  exact MergeKept.ite (State.writeTag_mergeKept (State.injectFlip_mergeKept (State.storeWords_mergeKept fo))) (State.boundsFault_mergeKept fo)

theorem State.schedWrites_mergeKept {pre : State} {t : Nat} {cycle : Nat} {r : Nat} {bs : List Beat} {n : Nat} : ∀ {s : State}, MergeKept pre s → MergeKept pre (s.schedWrites t cycle r bs n) := by
  induction n generalizing r bs with
  | zero => intro s h; exact h
  | succ n ih => intro s h; exact ih (State.schedWrite_mergeKept h)

theorem State.putBeats_mergeKept {pre : State} {s : State} (fo : MergeKept pre s) {t : Nat} {c : Nat} {row : Nat} {bs : List Beat} : MergeKept pre (s.putBeats t c row bs) := by
  unfold State.putBeats
  exact State.schedWrites_mergeKept fo

theorem State.poisonWords_mergeKept {pre : State} {s : State} (fo : MergeKept pre s) {t : Nat} {r : Nat} {cycle : Nat} {mask : List Nat} : MergeKept pre (s.poisonWords t r cycle mask) := by
  unfold State.poisonWords
  exact MergeKept.ite (State.updTile_mergeKept fo) (State.boundsFault_mergeKept fo)

theorem State.poisonRows_mergeKept {pre : State} {s : State} (fo : MergeKept pre s) {t : Nat} {c : Nat} {row : Nat} {n : Nat} : MergeKept pre (s.poisonRows t c row n) := by
  unfold State.poisonRows
  apply foldl_mergeKept
  · intro x1 x2 h1
    exact State.poisonWords_mergeKept h1
  · exact fo

theorem State.cmrgPoison_mergeKept {pre : State} {s : State} (fo : MergeKept pre s) {i : Issue} : MergeKept pre (State.cmrgPoison s i) := by
  unfold State.cmrgPoison
  extract_lets s1 s2 s3 s4
  apply MergeKept.ite
  · apply foldl_mergeKept
    · intro x1 x2 h1
      exact State.poisonWords_mergeKept h1
    · apply foldl_mergeKept
      · intro x3 x4 h2
        exact State.poisonRows_mergeKept h2
      · exact fo
  · exact State.updTile_mergeKept fo

theorem State.reportFault_mergeKept {pre : State} {s : State} (fo : MergeKept pre s) {t : Nat} : MergeKept pre (s.reportFault t) := by
  unfold State.reportFault
  exact State.updTile_mergeKept fo

theorem State.quant_mergeKept {pre : State} {s : State} (fo : MergeKept pre s) {t : Nat} {lim : Nat} {pred : Nat} {xs : List Nat} : MergeKept pre (s.quant t lim pred xs).fst := by
  unfold State.quant
  dsimp only
  refine State.updTile_mergeKept fo ?_
  intro x
  show (TileSt.noteNeed x pred _).cmrgUntil = x.cmrgUntil
  unfold TileSt.noteNeed
  split <;> rfl

theorem State.quantAll_mergeKept {pre : State} {t : Nat} {lim : Nat} {pred : Nat} {l : List (List Nat)} : ∀ {s : State}, MergeKept pre s → MergeKept pre (s.quantAll t lim pred l).1 := by
  induction l with
  | nil => intro s h; exact h
  | cons b r ih => intro s h; exact ih (State.quant_mergeKept h)

theorem State.reportRec_mergeKept {pre : State} {s : State} (fo : MergeKept pre s) {t : Nat} : MergeKept pre (s.reportRec t) := by
  unfold State.reportRec
  exact State.updTile_mergeKept fo

theorem State.vTrouble_mergeKept {pre : State} {s : State} (fo : MergeKept pre s) {i : Issue} {unit : Nat} {bl : List QBlock} : MergeKept pre (s.vTrouble i unit bl) := by
  unfold State.vTrouble
  extract_lets s1 s2 s3 s4 s5
  have h1 : ∀ (s : State) (code : Nat), MergeKept pre s → MergeKept pre (s4 s code) := by
    intro x1 x2 h1
    unfold s4
    exact State.reportRec_mergeKept (State.tileRecord_mergeKept h1)
  clear_value s4
  have h2 : MergeKept pre s5 := by
    unfold s5
    apply MergeKept.ite
    · exact fo
    · apply h1
      · exact State.addReg_mergeKept (State.setReg_mergeKept fo)
  clear_value s5
  apply MergeKept.ite
  · exact h2
  · apply h1
    · exact State.addReg_mergeKept (State.setReg_mergeKept h2)

theorem State.weakRow_mergeKept {pre : State} {s : State} (fo : MergeKept pre s) {t : Nat} {r : Nat} {cycle : Nat} : MergeKept pre (s.weakRow t r cycle) := by
  unfold State.weakRow
  extract_lets s1
  have h1 : MergeKept pre s1 := State.tileRecord_mergeKept (State.setReg_mergeKept (State.setReg_mergeKept fo))
  clear_value s1
  exact State.updTile_mergeKept h1

theorem State.lastErr_mergeKept {pre : State} {s : State} (fo : MergeKept pre s) {t : Nat} {r : Nat} {w : Nat} {ue : Nat} {syn : Nat} : MergeKept pre (s.lastErr t r w ue syn) := by
  unfold State.lastErr
  exact State.setReg_mergeKept (State.setReg_mergeKept (State.setReg_mergeKept (State.setReg_mergeKept fo)))

theorem State.corrected_mergeKept {pre : State} {s : State} (fo : MergeKept pre s) {t : Nat} {r : Nat} {w : Nat} {mask : Nat} {cycle : Nat} : MergeKept pre (s.corrected t r w mask cycle) := by
  unfold State.corrected
  extract_lets s1 s2 s3
  have h1 : MergeKept pre s1 := State.lastErr_mergeKept (State.setReg_mergeKept (State.addReg_mergeKept fo))
  clear_value s1
  have h2 : MergeKept pre s3 := State.updTile_mergeKept h1
  clear_value s3
  exact MergeKept.ite (State.weakRow_mergeKept h2) h2

theorem State.readWord_mergeKept {pre : State} {s : State} (fo : MergeKept pre s) {t : Nat} {r : Nat} {cycle : Nat} {sched : Bool} {w : Nat} : MergeKept pre (s.readWord t r cycle sched w).fst := by
  unfold State.readWord
  extract_lets s1 s2 s3 s4 s5
  have h1 : ∀ (s : State) (code : Nat), MergeKept pre s → MergeKept pre (s2 s code) := by
    intro x1 x2 h1
    unfold s2
    extract_lets s6
    exact MergeKept.ite (State.tileFault_mergeKept h1) (State.tileRecord_mergeKept h1)
  clear_value s2
  have h2 : MergeKept pre s4 := State.lastErr_mergeKept (State.setReg_mergeKept (State.addReg_mergeKept fo))
  clear_value s4
  have h3 : MergeKept pre s5 := State.updTile_mergeKept h2
  clear_value s5
  split
  · dsimp only
    apply h1
    · exact fo
  · split
    · exact fo
    · split
      · dsimp only
        exact State.corrected_mergeKept fo
      · dsimp only
        apply h1
        · exact h3

theorem State.byteWrite_mergeKept {pre : State} {s : State} (fo : MergeKept pre s) {t : Nat} {r : Nat} {i : Nat} {v : Nat} {poison : Bool} {trouble : Bool} {cycle : Nat} : MergeKept pre (State.byteWrite s t r i v poison trouble cycle) := by
  unfold State.byteWrite
  extract_lets s1 s2
  have h1 : MergeKept pre s2.fst := State.readWord_mergeKept fo
  clear_value s2
  exact State.updTile_mergeKept (State.setMem_mergeKept h1)

theorem State.rootA8_mergeKept {pre : State} {s : State} (fo : MergeKept pre s) {i : Issue} {f : CmrgF} {xs : List Nat} {ta : Taint} : MergeKept pre (State.rootA8 s i f xs ta) := by
  unfold State.rootA8
  extract_lets s1 s2 s3 s4 s5 s6 s7 s8 s9 s10 s11
  have h1 : MergeKept pre s4.fst := State.quantAll_mergeKept fo
  clear_value s4
  have h2 : MergeKept pre s6 := State.putBeats_mergeKept h1
  clear_value s6
  have h3 : MergeKept pre s8 := by
    unfold s8
    apply foldl_mergeKept
    · intro x1 x2 h4
      exact MergeKept.ite (State.writeTag_mergeKept (State.byteWrite_mergeKept h4)) (State.boundsFault_mergeKept h4)
    · exact h2
  clear_value s8
  have h5 : MergeKept pre s9 := State.putBeats_mergeKept h3
  clear_value s9
  have h6 : MergeKept pre s10 := State.vTrouble_mergeKept h5
  clear_value s10
  exact State.updTile_mergeKept h6

theorem State.confAttn_mergeKept {pre : State} {s : State} (fo : MergeKept pre s) {i : Issue} {f : CmrgF} {streams : List (List Beat)} : MergeKept pre (State.confAttn s i f streams) := by
  unfold State.confAttn
  extract_lets s1
  split
  · exact State.cmrgPoison_mergeKept (State.reportFault_mergeKept fo)
  · rename_i y3 y4 y5 y6
    extract_lets s2 s3 s4 s5
    have h1 : MergeKept pre s4 := MergeKept.ite (State.reportFault_mergeKept fo) fo
    clear_value s4
    exact MergeKept.ite (MergeKept.ite (State.rootA8_mergeKept h1) (MergeKept.ite (State.putBeats_mergeKept h1) (State.putBeats_mergeKept h1))) (State.updTile_mergeKept h1)

theorem State.confSmp_mergeKept {pre : State} {s : State} (fo : MergeKept pre s) {i : Issue} {f : CmrgF} {streams : List (List Beat)} : MergeKept pre (s.confSmp i f streams) := by
  unfold State.confSmp
  extract_lets s1 s2 s3 s4 s5 s6
  have h1 : MergeKept pre s5 := MergeKept.ite (State.reportFault_mergeKept fo) fo
  clear_value s5
  exact MergeKept.ite (State.putBeats_mergeKept h1) (State.updTile_mergeKept h1)

theorem State.readWords_mergeKept {pre : State} {s : State} (fo : MergeKept pre s) {t : Nat} {r : Nat} {cycle : Nat} {sched : Bool} : MergeKept pre (s.readWords t r cycle sched).fst := by
  unfold State.readWords
  apply foldl_mergeKept1
  · intro x1 x2 h1
    extract_lets s1
    have h2 : MergeKept pre s1.fst := State.readWord_mergeKept h1
    clear_value s1
    exact h2
  · exact fo

theorem State.readRow_mergeKept {pre : State} {s : State} (fo : MergeKept pre s) {t : Nat} {r : Nat} {cycle : Nat} {sched : Bool} : MergeKept pre (s.readRow t r cycle sched).fst := by
  unfold State.readRow
  extract_lets s1
  have h1 : MergeKept pre s1.fst := State.readWords_mergeKept fo
  clear_value s1
  exact h1

theorem State.schedRead_mergeKept {pre : State} {s : State} (fo : MergeKept pre s) {t : Nat} {r : Nat} {cycle : Nat} : MergeKept pre (s.schedRead t r cycle).fst := by
  unfold State.schedRead
  split
  · extract_lets s1
    have h1 : MergeKept pre s1.fst := State.readRow_mergeKept fo
    clear_value s1
    dsimp only
    exact MergeKept.ite (State.setTag_mergeKept h1) h1
  · dsimp only
    exact State.boundsFault_mergeKept fo

theorem State.schedReads_mergeKept {pre : State} {t : Nat} {cycle : Nat} {r : Nat} {n : Nat} : ∀ {s : State}, MergeKept pre s → MergeKept pre (s.schedReads t cycle r n).1 := by
  induction n generalizing r with
  | zero => intro s h; exact h
  | succ n ih => intro s h; exact ih (State.schedRead_mergeKept h)

theorem State.engRefuse_mergeKept {pre : State} {s : State} (fo : MergeKept pre s) {i : Issue} {unit : Nat} {code : Nat} {f : Fld} : MergeKept pre (s.engRefuse i unit code f) := by
  unfold State.engRefuse
  exact State.tileFault_mergeKept (State.setReg_mergeKept fo)

theorem State.fusedBeat_mergeKept {pre : State} {s : State} (fo : MergeKept pre s) {i : Issue} {cycle : Nat} : MergeKept pre (State.fusedBeat s i cycle).fst := by
  unfold State.fusedBeat
  split
  · exact fo
  · rename_i y4 y5
    dsimp only
    exact State.engRefuse_mergeKept fo

theorem State.confLocal_mergeKept {pre : State} {s : State} (fo : MergeKept pre s) {i : Issue} {f : CmrgF} : MergeKept pre (State.confLocal s i f).fst := by
  unfold State.confLocal
  split
  · rename_i y1
    extract_lets s1
    have h1 : MergeKept pre s1.fst := State.schedReads_mergeKept fo
    clear_value s1
    exact h1
  · rename_i y2
    apply foldl_mergeKept1
    · intro x1 x2 h2
      extract_lets s2
      have h3 : MergeKept pre s2.fst := State.fusedBeat_mergeKept h2
      clear_value s2
      exact h3
    · exact fo

theorem State.takeBeat_mergeKept {pre : State} {s : State} (fo : MergeKept pre s) {t : Nat} {port : Nat} {cycle : Nat} : MergeKept pre (s.takeBeat t port cycle).fst := by
  unfold State.takeBeat
  extract_lets s1
  split
  · rename_i y1 y2 y3
    exact fo
  · dsimp only
    exact State.tileFault_mergeKept (State.setReg_mergeKept fo)

theorem State.confBeat_mergeKept {pre : State} {s : State} (fo : MergeKept pre s) {i : Issue} {port : Nat} {cycle : Nat} : MergeKept pre (State.confBeat s i port cycle).fst := by
  unfold State.confBeat
  split
  · exact fo
  · rename_i y4 y5
    extract_lets s1
    have h1 : MergeKept pre s1.fst := State.takeBeat_mergeKept fo
    clear_value s1
    dsimp only
    exact State.engRefuse_mergeKept h1

theorem State.confBeats_mergeKept {pre : State} {i : Issue} {port : Nat} {cycle : Nat} {n : Nat} : ∀ {s : State}, MergeKept pre s → MergeKept pre (s.confBeats i port cycle n).1 := by
  induction n generalizing cycle with
  | zero => intro s h; exact h
  | succ n ih => intro s h; exact ih (State.confBeat_mergeKept h)

/-! ### The descriptor that a fused command reads -/

theorem RowsOnly.fused {a s : State} (h : RowsOnly a s) (t : Nat) : (s.tile t).fusedUntil = (a.tile t).fusedUntil ∧
    (s.tile t).fusedMx = (a.tile t).fusedMx ∧ (s.tile t).mxUntil = (a.tile t).mxUntil := by
  have e := h.tile t
  have e1 := congrArg TileSt.fusedUntil e
  have e2 := congrArg TileSt.fusedMx e
  have e3 := congrArg TileSt.mxUntil e
  exact ⟨e1, e2, e3⟩
theorem streamOut_fused (s : State) (t first : Nat) (bs : List Beat) : ((s.streamOut t first bs).tile t).fusedUntil = (s.tile t).fusedUntil ∧
    ((s.streamOut t first bs).tile t).fusedMx = (s.tile t).fusedMx ∧ ((s.streamOut t first bs).tile t).mxUntil = (s.tile t).mxUntil := by
  unfold State.streamOut
  rw [State.tile_updTile_same]
  exact ⟨rfl, rfl, rfl⟩
theorem State.putBeats_rowsOnly {pre s : State} (fo : RowsOnly pre s) {t c row : Nat} {bs : List Beat} : RowsOnly pre (s.putBeats t c row bs) :=
  State.schedWrites_rowsOnly fo

/-- A descriptor in the program window is read as it stands. -/
theorem descBytes_now {s : State} {i : Issue} (h : s.inProgram i.tile.val (bits i.word.toNat 57 48) = true) :
    (s.descBytes i).2.1 = s.descNow i.tile.val i.word.toNat := by
  obtain ⟨-, -, hd⟩ := State.schedRead_program (c := i.cycle.val) h
  unfold State.descBytes State.descNow State.rowNow State.rowBytes
  dsimp only
  rw [hd, Nat.add_zero]

/-! ### ATTEND -/

/-- The state of a carried-out ATTEND before its record goes out. -/
theorem runAttendDesc_lasts (s : State) (i : Issue) (a : AttDesc) (dta : Taint) :
    ((s.runAttendDesc i a dta).tile i.tile.val).fusedUntil = i.cycle.val + a.t ∧ ((s.runAttendDesc i a dta).tile i.tile.val).fusedMx = true ∧
      ((s.runAttendDesc i a dta).tile i.tile.val).mxUntil = i.cycle.val + a.t := by
  unfold State.runAttendDesc
  extract_lets t c e sr r tk toks ls pl s1 s2 fr fb freq q kn ta s3 s4 ps recd seen s5 s6
  have h6 : (s6.tile t).fusedUntil = c + a.t ∧ (s6.tile t).fusedMx = true ∧ (s6.tile t).mxUntil = c + a.t := by
    unfold s6
    clear_value s5
    rw [State.tile_updTile_same]
    exact ⟨rfl, rfl, rfl⟩
  clear_value s6
  obtain ⟨hu, hm, hx⟩ := h6
  split
  · obtain ⟨e1, e2, e3⟩ := (State.putBeats_rowsOnly (s := s6) (t := t) (c := c) (row := a.orow) (bs := recd) .refl).fused t
    exact ⟨e1.trans hu, e2.trans hm, e3.trans hx⟩
  · obtain ⟨e1, e2, e3⟩ := streamOut_fused s6 t (s6.attFirst i a) recd
    exact ⟨e1.trans hu, e2.trans hm, e3.trans hx⟩

/-- Neither ATTEND nor SAMPLE runs, nor the matrix engine where it is needed. -/
theorem seen_fusedBusy (s : State) (i : Issue) (m : Bool) : (seen s i).fusedBusy i m = s.fusedBusy i m := by
  unfold State.fusedBusy
  dsimp only
  rw [tile_seen]

theorem attend_lasts {i : Issue} {s : State} (hi : issuable s i 2) (ho : bits i.word.toNat 63 58 = 0x20) (hz : bits i.word.toNat 43 0 = 0)
    (hf : s.fusedBusy i true = false) (hp : (seen s i).inProgram i.tile.val (bits i.word.toNat 57 48) = true)
    (hb : (attDesc ((seen s i).descNow i.tile.val i.word.toNat)).bad = false) (hport : portOpen (seen s i) i 2 ((seen s i).attRows i.tile.val i.word.toNat)) :
    ∃ u, exec (.attend i) s = .next u ∧ (u.tile i.tile.val).fusedMx = true ∧
      (u.tile i.tile.val).fusedUntil = i.cycle.val + (attDesc ((seen s i).descNow i.tile.val i.word.toNat)).t ∧
      (u.tile i.tile.val).mxUntil = i.cycle.val + (attDesc ((seen s i).descNow i.tile.val i.word.toNat)).t := by
  have hd := descBytes_now (s := (seen s i).portClaim i.tile.val i.cycle.val 2 i.word.toNat ((seen s i).attRows i.tile.val i.word.toNat)) (i := i) hp
  have hn : ((seen s i).portClaim i.tile.val i.cycle.val 2 i.word.toNat ((seen s i).attRows i.tile.val i.word.toNat)).descNow i.tile.val i.word.toNat =
    (seen s i).descNow i.tile.val i.word.toNat := rfl
  rw [hn] at hd
  have hexec : exec (.attend i) s = .next ((seen s i).runAttend i) := by
    show execAttend i s = _
    unfold execAttend
    rw [issue_runs hi]
  unfold portOpen at hport
  unfold State.runAttend at hexec
  dsimp only at hexec
  rw [ho, hz, seen_fusedBusy, hf, hb, hport, hd, hb, Bool.and_false] at hexec
  obtain ⟨hu, hm, hx⟩ := runAttendDesc_lasts (((seen s i).portClaim i.tile.val i.cycle.val 2 i.word.toNat ((seen s i).attRows i.tile.val i.word.toNat)).descBytes i).1 i
    (attDesc ((seen s i).descNow i.tile.val i.word.toNat))
    (((seen s i).portClaim i.tile.val i.cycle.val 2 i.word.toNat ((seen s i).attRows i.tile.val i.word.toNat)).descBytes i).2.2
  exact ⟨_, hexec, hm, hu, hx⟩

/-! ### SAMPLE -/

theorem runLeaf_lasts (s : State) (i : Issue) (a : SmpDesc) (sr : SlotRec) (drafts : Nat → Nat) (ta : Taint) :
    ((s.runLeaf i a sr drafts ta).tile i.tile.val).fusedUntil = i.cycle.val + a.t ∧ ((s.runLeaf i a sr drafts ta).tile i.tile.val).fusedMx = false := by
  unfold State.runLeaf
  extract_lets t c r s1
  have h1 : (s1.tile t).fusedUntil = c + a.t ∧ (s1.tile t).fusedMx = false := by
    unfold s1
    clear_value r
    rw [State.tile_updTile_same]
    exact ⟨rfl, rfl⟩
  clear_value s1
  obtain ⟨hu, hm⟩ := h1
  split
  · obtain ⟨e1, e2, -⟩ := (State.putBeats_rowsOnly (s := s1) (t := t) (c := c) (row := a.orow) (bs := r.2) .refl).fused t
    exact ⟨e1.trans hu, e2.trans hm⟩
  · obtain ⟨e1, e2, -⟩ := streamOut_fused s1 t (s1.smpFirst i a r.2.length) r.2
    exact ⟨e1.trans hu, e2.trans hm⟩

theorem runRoot_lasts (s : State) (i : Issue) (a : SmpDesc) (sr : SlotRec) (drafts : Nat → Nat) (ta : Taint) :
    ((s.runRoot i a sr drafts ta).tile i.tile.val).fusedUntil = i.cycle.val + a.t ∧ ((s.runRoot i a sr drafts ta).tile i.tile.val).fusedMx = false := by
  unfold State.runRoot
  extract_lets t c n r recs o ta' s1 s2 s3
  have h3 : (s3.tile t).fusedUntil = c + a.t ∧ (s3.tile t).fusedMx = false := by
    unfold s3
    clear_value s2
    rw [State.tile_updTile_same]
    exact ⟨rfl, rfl⟩
  clear_value s3
  obtain ⟨hu, hm⟩ := h3
  obtain ⟨e1, e2, -⟩ := (State.schedWrite_rowsOnly (s := s3) (t := t) (r := a.orow) (cycle := c)
    (beats := beatsOf (wordBytes (resultWords o)) ta'.bad ta'.trb) (mask := upTo 8) .refl).fused t
  exact ⟨e1.trans hu, e2.trans hm⟩

theorem sample_lasts {i : Issue} {s : State} (hi : issuable s i 2) (ho : bits i.word.toNat 63 58 = 0x21) (hz : bits i.word.toNat 43 0 = 0)
    (hf : s.fusedBusy i false = false) (hp : (seen s i).inProgram i.tile.val (bits i.word.toNat 57 48) = true)
    (hb : (smpDesc ((seen s i).descNow i.tile.val i.word.toNat)).bad = false) (hport : portOpen (seen s i) i 2 ((seen s i).smpRows i.tile.val i.word.toNat)) :
    ∃ u, exec (.sample i) s = .next u ∧ (u.tile i.tile.val).fusedMx = false ∧
      (u.tile i.tile.val).fusedUntil = i.cycle.val + (smpDesc ((seen s i).descNow i.tile.val i.word.toNat)).t := by
  have hd := descBytes_now (s := (seen s i).portClaim i.tile.val i.cycle.val 2 i.word.toNat ((seen s i).smpRows i.tile.val i.word.toNat)) (i := i) hp
  have hn : ((seen s i).portClaim i.tile.val i.cycle.val 2 i.word.toNat ((seen s i).smpRows i.tile.val i.word.toNat)).descNow i.tile.val i.word.toNat =
    (seen s i).descNow i.tile.val i.word.toNat := rfl
  rw [hn] at hd
  have hexec : exec (.sample i) s = .next ((seen s i).runSample i) := by
    show execSample i s = _
    unfold execSample
    rw [issue_runs hi]
  unfold portOpen at hport
  unfold State.runSample at hexec
  dsimp only at hexec
  rw [ho, hz, seen_fusedBusy, hf, hb, hport, hd, hb, Bool.and_false] at hexec
  generalize ((seen s i).portClaim i.tile.val i.cycle.val 2 i.word.toNat ((seen s i).smpRows i.tile.val i.word.toNat)).descBytes i = d at hexec
  generalize smpDesc ((seen s i).descNow i.tile.val i.word.toNat) = a at hexec
  refine ⟨_, hexec, ?_⟩
  show TileSt.fusedMx (State.tile (if a.root then _ else _) _) = false ∧ TileSt.fusedUntil (State.tile (if a.root then _ else _) _) = _
  cases a.root with
  | true =>
    obtain ⟨hu, hm⟩ := runRoot_lasts _ i a _ _ _
    exact ⟨hm, hu⟩
  | false =>
    obtain ⟨hu, hm⟩ := runLeaf_lasts _ i a _ _ _
    exact ⟨hm, hu⟩

/-! ### CMRG -/

theorem cmrgAccept_lasts (s : State) (i : Issue) : ((s.cmrgAccept i).tile i.tile.val).cmrgUntil =
    i.cycle.val + (cmrgF i.word.toNat).ldelay + (cmrgF i.word.toNat).nb + (if (cmrgF i.word.toNat).root then 12 else 8) := by
  unfold State.cmrgAccept
  extract_lets t c f s1 l a b streams
  have h1 : (s1.tile t).cmrgUntil = c + f.ldelay + f.nb + (if f.root then 12 else 8) := by
    unfold s1
    rw [State.tile_updTile_same]
  have hl : MergeKept s1 l.1 := by
    unfold l
    split
    · exact .refl
    · exact State.confLocal_mergeKept .refl
  have ha : MergeKept s1 a.1 := by
    unfold a
    split
    · exact hl
    · exact State.confBeats_mergeKept hl
  have hb : MergeKept s1 b.1 := by
    unfold b
    split
    · exact ha
    · exact State.confBeats_mergeKept ha
  clear_value s1 l a b streams
  have h : MergeKept s1 (if f.kind = 0 then b.1.confAttn i f streams else b.1.confSmp i f streams) :=
    MergeKept.ite (State.confAttn_mergeKept hb) (State.confSmp_mergeKept hb)
  exact (h.tile t).trans h1

theorem cmrg_lasts {i : Issue} {s : State} (hi : issuable s i 3) (ho : bits i.word.toNat 63 59 = 1) (hz : bits i.word.toNat 3 0 = 0)
    (ha : (cmrgF i.word.toNat).ina ≠ 7) (hb : (cmrgF i.word.toNat).inb ≠ 7) (hl : (cmrgF i.word.toNat).loc ≠ 3)
    (hr : (cmrgF i.word.toNat).root = true → (cmrgF i.word.toNat).kind = 0 → (cmrgF i.word.toNat).ofmt ≠ 3)
    (hu : (s.tile i.tile.val).cmrgUntil ≤ i.cycle.val) (hport : portOpen (seen s i) i 3 ((seen s i).cmrgRows i.tile.val i.word.toNat)) :
    ∃ u, exec (.cmrg i) s = .next u ∧ (u.tile i.tile.val).cmrgUntil =
      i.cycle.val + (cmrgF i.word.toNat).ldelay + (cmrgF i.word.toNat).nb + (if (cmrgF i.word.toNat).root then 12 else 8) := by
  refine ⟨((seen s i).portClaim i.tile.val i.cycle.val 3 i.word.toNat ((seen s i).cmrgRows i.tile.val i.word.toNat)).cmrgAccept i, ?_, cmrgAccept_lasts _ i⟩
  show execCmrg i s = _
  unfold execCmrg
  rw [issue_runs hi]
  have hfree : decide (i.cycle.val < ((seen s i).tile i.tile.val).cmrgUntil) = false := by
    rw [tile_seen, decide_eq_false_iff_not]
    exact Nat.not_lt.2 hu
  have hroot : ((cmrgF i.word.toNat).root && (cmrgF i.word.toNat).kind == 0 && (cmrgF i.word.toNat).ofmt == 3) = false := by
    refine Classical.byContradiction fun hc => ?_
    simp only [Bool.not_eq_false, Bool.and_eq_true, beq_iff_eq] at hc
    obtain ⟨⟨h1, h2⟩, h3⟩ := hc
    exact hr h1 h2 h3
  unfold portOpen at hport
  unfold State.runCmrg
  dsimp only
  rw [ho, hz, beq_false_of_ne ha, beq_false_of_ne hb, beq_false_of_ne hl, hroot, hfree, hport]
  rfl

/-- Settles O20: the durations are set once the results stand, and only rows or streams are written after. -/
theorem fusedCommandsTakeTheirFixedTime : Obligations.FusedCommandsTakeTheirFixedTime :=
  ⟨fun _ _ => attend_lasts, fun _ _ => sample_lasts, fun _ _ => cmrg_lasts⟩

end Sys2Proof.Machine
end

section
/-! PROOF. STAGE and its shards, DISCARD and the publisher keys (08 R198 to R205). -/

namespace Sys2Proof.Machine

open Sys2Proof Sys2Proof.Safety

/-! ### The end of a slot's command, with any code (R191) -/

theorem State.IntsOnly.partsMarked {s t : State} (h : s.IntsOnly t) : PartsMarked s t := PartsMarked.same .refl h.parts
theorem PartsMarked.stage {a s : State} (h : PartsMarked a s) (p : Nat) : (s.part p).stage = (a.part p).stage := by
  obtain ⟨b, hb⟩ := h.part p
  rw [hb]
theorem PartsMarked.pendPkg {a s : State} (h : PartsMarked a s) (p : Nat) : (s.part p).pendPkg = (a.part p).pendPkg := by
  obtain ⟨b, hb⟩ := h.part p
  rw [hb]

theorem State.cmdEndWith_partsMarked (s : State) (n p code item detail : Nat) : PartsMarked s (s.cmdEndWith n (some p) code item detail) := by
  unfold State.cmdEndWith
  extract_lets s1 s2 s3
  have h2 : PartsMarked s s2 := by
    unfold s2
    split
    · exact .same .refl rfl
    · dsimp only
      split
      · exact .same .refl (State.setLcode_only ..).parts
      · exact .same .refl rfl
  clear_value s2
  have h3 : PartsMarked s s3 := by
    unfold s3
    split
    · exact h2
    · exact State.record_partsMarked h2
  clear_value s3
  exact h3.same (State.raiseInt_only ..).parts

section
variable {s : State} {n p code item detail : Nat} (hp : p < 64) {f : Fld} {inst i : Nat} (h1 : f.key inst i / 2 ^ 33 ≠ Page.int.code)
  (h2 : f.key inst i / 2 ^ 33 ≠ Page.err.code) (h3 : LD_PSTATE_LCODE.key 0 p ≠ f.key inst i)
include hp h1 h2 h3

/-- Beside the slot's status and the partition's LCODE, the end of a command leaves every field outside the INT and ERR pages. -/
theorem State.cmdEndWith_reg_set : (s.cmdEndWith n (some p) code item detail).reg f inst i =
    ((s.setG LD_CMD_STS_STATE n (if code = 0 then ldDone else ldFailed)).setG LD_CMD_STS_CODE n code).reg f inst i := by
  unfold State.cmdEndWith
  extract_lets s1 s2 s3
  have e2 : s2.reg f inst i = s1.reg f inst i := by
    unfold s2
    split
    · rfl
    · dsimp only
      split
      · exact State.setLcode_reg hp h1 h2 h3
      · rfl
  have e3 : s3.reg f inst i = s2.reg f inst i := by
    unfold s3
    split
    · rfl
    · refine State.record_reg (fun q hq => ?_) h1 h2
      obtain rfl := Option.some.inj hq
      omega
  rw [State.raiseInt_intRegs _ _ _ (by decide) f inst i h1 h2, e3, e2]
end

theorem State.cmdEndWith_code {s : State} {n p code item detail : Nat} (hp : p < 64) :
    (s.cmdEndWith n (some p) code item detail).g LD_CMD_STS_CODE n = code % 2 ^ 16 := by
  unfold State.g
  rw [State.cmdEndWith_reg_set hp (by simp only [Fld.key, Fld.offset, LD_CMD_STS_CODE, Page.code]; omega)
    (by simp only [Fld.key, Fld.offset, LD_CMD_STS_CODE, Page.code]; omega) (by simp only [Fld.key, Fld.offset, LD_PSTATE_LCODE, LD_CMD_STS_CODE]; omega)]
  exact State.g_setG_same ..
theorem State.cmdEndWith_state {s : State} {n p code item detail : Nat} (hp : p < 64) :
    (s.cmdEndWith n (some p) code item detail).g LD_CMD_STS_STATE n = if code = 0 then ldDone else ldFailed := by
  unfold State.g
  rw [State.cmdEndWith_reg_set hp (by simp only [Fld.key, Fld.offset, LD_CMD_STS_STATE, Page.code]; omega)
    (by simp only [Fld.key, Fld.offset, LD_CMD_STS_STATE, Page.code]; omega) (by simp only [Fld.key, Fld.offset, LD_PSTATE_LCODE, LD_CMD_STS_STATE]; omega)]
  unfold State.setG
  rw [State.reg_setReg_other (Fld.key_ne_of_lo (by decide) (by decide) (by decide)), State.reg_setReg_same]
  split <;> decide
theorem State.cmdEndWith_pend {s : State} {n p code item detail : Nat} (hp : p < 64) :
    (s.cmdEndWith n (some p) code item detail).g LD_PSTATE_PEND p = s.g LD_PSTATE_PEND p := by
  unfold State.g
  rw [State.cmdEndWith_reg_set hp (by simp only [Fld.key, Fld.offset, LD_PSTATE_PEND, Page.code]; omega)
    (by simp only [Fld.key, Fld.offset, LD_PSTATE_PEND, Page.code]; omega) (by simp only [Fld.key, Fld.offset, LD_PSTATE_LCODE, LD_PSTATE_PEND]; omega)]
  unfold State.setG
  rw [State.reg_setReg_other (Fld.key_ne_of_lo (by decide) (by decide) (by decide)),
    State.reg_setReg_other (Fld.key_ne_of_lo (by decide) (by decide) (by decide))]

theorem State.setPend_pend {s : State} {p v : Nat} (hp : p < 64) (hv : v < 4) : (s.setPend p v).g LD_PSTATE_PEND p = v := by
  unfold State.setPend
  split
  · assumption
  · unfold State.g
    rw [State.pstateInt_intRegs _ p hp _ _ _ (by simp only [Fld.key, Fld.offset, LD_PSTATE_PEND, Page.code]; omega)
      (by simp only [Fld.key, Fld.offset, LD_PSTATE_PEND, Page.code]; omega)]
    exact (State.reg_setReg_same ..).trans (Nat.mod_eq_of_lt hv)
theorem State.setPend_sts {s : State} {p v n : Nat} (hp : p < 64) : (s.setPend p v).g LD_CMD_STS_STATE n = s.g LD_CMD_STS_STATE n :=
  State.setPend_reg hp (by simp only [Fld.key, Fld.offset, LD_CMD_STS_STATE, Page.code]; omega)
    (by simp only [Fld.key, Fld.offset, LD_CMD_STS_STATE, Page.code]; omega) (Fld.key_ne_of_lo (by decide) (by decide) (by decide))

/-! ### DISCARD -/

/-- The partition's pending package goes, and the slot's command ends. -/
theorem State.goDiscard_discards {s : State} {n p : Nat} (hp : p < 64) : (s.goDiscard n p).g LD_PSTATE_PEND p = 0 ∧
    ((s.goDiscard n p).part p).pendPkg = none ∧ ((s.goDiscard n p).part p).stage = none ∧ (s.goDiscard n p).g LD_CMD_STS_STATE n = ldDone := by
  unfold State.goDiscard
  extract_lets s1 s2
  clear_value s2
  have hm := (State.setPend_only (s2.updPart p (fun x => { x with stage := none, pendPkg := none })) p 0).partsMarked
  have hx : (s2.updPart p (fun x => { x with stage := none, pendPkg := none })).part p = { s2.part p with stage := none, pendPkg := none } := State.part_updPart_same ..
  have hd := State.setPend_pend (s := s2.updPart p (fun x => { x with stage := none, pendPkg := none })) hp (by decide : 0 < 4)
  generalize (s2.updPart p (fun x => { x with stage := none, pendPkg := none })).setPend p 0 = u at hm hd
  have hc := State.cmdEndWith_partsMarked u n p 0 0 0
  refine ⟨(State.cmdEndWith_pend hp).trans hd, ?_, ?_, State.cmdEndWith_state hp⟩
  · exact (hc.pendPkg p).trans ((hm.pendPkg p).trans (by rw [hx]))
  · exact (hc.stage p).trans ((hm.stage p).trans (by rw [hx]))

/-! ### STAGE -/

theorem State.dword_slotStart (s : State) (n t k : Nat) (hk : k < 29) : (s.slotStart n t).dword n k = s.dword n k := by
  unfold State.slotStart State.dword
  rw [State.g_setG_other (by simp only [Fld.key, Fld.offset, LD_CMD_PROG_TOTAL, LD_CMD_DESC]; omega),
    State.g_setG_other (by simp only [Fld.key, Fld.offset, LD_CMD_PROG_DONE, LD_CMD_DESC]; omega),
    State.g_setG_other (by simp only [Fld.key, Fld.offset, LD_CMD_STS_CODE, LD_CMD_DESC]; omega),
    State.g_setG_other (by simp only [Fld.key, Fld.offset, LD_CMD_STS_STATE, LD_CMD_DESC]; omega)]

/-- A fetch from host memory only goes out. -/
theorem State.tryShard_host {s : State} {p k : Nat} {g : StageRun} (hg : (s.part p).stage = some g) (hs : g.src = 1) :
    s.tryShard p k = s.emit (.fetch p k 255) := by
  unfold State.tryShard
  rw [hg]
  exact if_pos hs

/-- The run that an accepted STAGE from host memory begins. -/
def stageOf (s v : State) (n a : Nat) : StageRun :=
  { slot := n, inplace := false, src := bits (v.dword n 4) 7 0, servers := v.stageServers n, size := s.dword n 6 + s.dword n 7 * 2 ^ 32
    addr := v.dword n 8 + v.dword n 9 * 2 ^ 32, keyId := v.dword n 10 + v.dword n 11 * 2 ^ 32, area := a, leadOk := false
    leadSize := 0, shardLog2 := 24, shards := 0, signer := 0, tries := Map.empty, used := Map.empty, verified := Map.empty, next := 1
    crcs := Map.empty, lost := false }

theorem State.goStage_eq {s : State} {n p a : Nat} (hi : bitAt (s.cmdFlags n) 0 = false)
    (hf : (s.updPart p (fun x => { x with pendPkg := none })).findSpace p (s.dword n 6 + s.dword n 7 * 2 ^ 32) = some a) :
    let v := (s.slotStart n 0).updPart p (fun x => { x with pendPkg := none })
    s.goStage n p = ((v.updPart p (fun x => { x with stage := some (stageOf s v n a) })).setPend p 1).tryShard p 0 := by
  intro v
  have hspace : v.stageSpace p (s.dword n 6 + s.dword n 7 * 2 ^ 32) false = some a := hf
  unfold State.goStage
  rw [hi]
  dsimp only
  rw [hspace]
  rfl

/-- An accepted STAGE from host memory puts the pending package into STAGING. -/
theorem State.goStage_stages {s : State} {n p a : Nat} (hp : p < 64) (hn : n < 4) (hsrc : bits (s.dword n 4) 7 0 = 1) (hi : bitAt (s.cmdFlags n) 0 = false)
    (hf : (s.updPart p (fun x => { x with pendPkg := none })).findSpace p (s.dword n 6 + s.dword n 7 * 2 ^ 32) = some a) :
    ∃ q, (s.goStage n p).slotRunning n = true ∧ (s.goStage n p).g LD_PSTATE_PEND p = 1 ∧ ((s.goStage n p).part p).stage = some q ∧ q.leadOk = false ∧ q.area = a := by
  have e := State.goStage_eq hi hf
  dsimp only at e
  have hd : ((s.slotStart n 0).updPart p (fun x => { x with pendPkg := none })).dword n 4 = s.dword n 4 := State.dword_slotStart s n 0 4 (by decide)
  have hrun : ((s.slotStart n 0).updPart p (fun x => { x with pendPkg := none })).g LD_CMD_STS_STATE n = ldRunning := beq_iff_eq.1 (State.slotStart_sets hn).1
  generalize (s.slotStart n 0).updPart p (fun x => { x with pendPkg := none }) = v at e hd hrun
  have hq : (stageOf s v n a).src = 1 := by
    show bits (v.dword n 4) 7 0 = 1
    rw [hd]
    exact hsrc
  have hst : (((v.updPart p (fun x => { x with stage := some (stageOf s v n a) })).setPend p 1).part p).stage = some (stageOf s v n a) := by
    rw [(State.setPend_only ..).part, State.part_updPart_same]
  rw [State.tryShard_host hst hq] at e
  rw [e]
  refine ⟨stageOf s v n a, beq_iff_eq.2 ?_, ?_, hst, rfl, rfl⟩
  · exact (State.setPend_sts hp).trans hrun
  · exact State.setPend_pend hp (by decide)

/-! ### Publisher keys -/

theorem State.goEnroll_enrolls {s : State} {n k : Nat} (hn : n < 4) (hc : onCurve (s.keyNum n 4) (s.keyNum n 16) = true) (hh : s.repair.pubKeys.has k = false) :
    (s.goEnroll n k).repair.pubKeys.get? k = some (s.keyNum n 4, s.keyNum n 16) ∧ (s.goEnroll n k).g LD_CMD_STS_STATE n = ldDone := by
  unfold State.goEnroll
  dsimp only
  rw [hc, hh]
  simp only [Bool.not_true, Bool.false_eq_true, if_false]
  refine ⟨?_, State.cmdEnd_done hn⟩
  rw [(State.cmdEnd_only ..).repair]
  exact Map.get?_put_same ..
theorem State.goRevoke_revokes {s : State} {n k : Nat} (hn : n < 4) : (s.goRevoke n k).repair.pubKeys.has k = false ∧
    (s.goRevoke n k).g LD_CMD_STS_STATE n = ldDone := by
  unfold State.goRevoke
  extract_lets s1 s2
  refine ⟨?_, State.cmdEnd_done hn⟩
  rw [(State.cmdEnd_only ..).repair]
  show (s.repair.pubKeys.del k).has k = false
  exact Map.has_del_same ..

section
variable {path : Path} {n : LdSlot} {s : State} (ho : pageOpen s path false true = true) (hr : s.slotRunning n.val = false) (hg : s.goBad n.val = false)
include ho

/-- An accepted GO of a slot with the named command runs it. -/
theorem goOf_runs {opc : Nat} (hop : s.cmdOpc n.val = opc) : s.goOf path n.val opc = .next (s.runGo path n.val) :=
  (ownerWrite_runs (pg := .ld) (act := fun s => if s.cmdOpc n.val = opc then s.runGo path n.val else s) ho).trans
    (congrArg Host.Outcome.next (if_pos hop))
include hr hg

theorem discard_runs (hop : s.cmdOpc n.val = opDiscard) : exec (.discard path n) s = .next (s.goDiscard n.val (s.cmdPart n.val)) := by
  refine (goOf_runs ho hop).trans (congrArg Host.Outcome.next ?_)
  have hne : opDiscard ≠ opCreate ∧ opDiscard ≠ opResize ∧ opDiscard ≠ opDestroy ∧ opDiscard ≠ opStage ∧ opDiscard ≠ opInstall ∧ opDiscard ≠ opStart ∧ opDiscard ≠ opStop := by decide
  simp only [State.runGo, hop, hr, hg, hne, Bool.false_eq_true, if_false, if_true]
theorem stage_runs (hop : s.cmdOpc n.val = opStage) : exec (.stage path n) s = .next (s.goStage n.val (s.cmdPart n.val)) := by
  refine (goOf_runs ho hop).trans (congrArg Host.Outcome.next ?_)
  have hne : opStage ≠ opCreate ∧ opStage ≠ opResize ∧ opStage ≠ opDestroy := by decide
  simp only [State.runGo, hop, hr, hg, hne, Bool.false_eq_true, if_false, if_true]
theorem enrollKey_runs (hop : s.cmdOpc n.val = opEnroll) : exec (.enrollKey path n) s = .next (s.goEnroll n.val (s.cmdPart n.val)) := by
  refine (goOf_runs ho hop).trans (congrArg Host.Outcome.next ?_)
  have hne : opEnroll ≠ opCreate ∧ opEnroll ≠ opResize ∧ opEnroll ≠ opDestroy ∧ opEnroll ≠ opStage ∧ opEnroll ≠ opInstall ∧ opEnroll ≠ opStart ∧ opEnroll ≠ opStop ∧ opEnroll ≠ opDiscard := by decide
  simp only [State.runGo, hop, hr, hg, hne, Bool.false_eq_true, if_false, if_true]
theorem revokeKey_runs (hop : s.cmdOpc n.val = opRevoke) : exec (.revokeKey path n) s = .next (s.goRevoke n.val (s.cmdPart n.val)) := by
  refine (goOf_runs ho hop).trans (congrArg Host.Outcome.next ?_)
  have hne : opRevoke ≠ opCreate ∧ opRevoke ≠ opResize ∧ opRevoke ≠ opDestroy ∧ opRevoke ≠ opStage ∧ opRevoke ≠ opInstall ∧ opRevoke ≠ opStart ∧ opRevoke ≠ opStop ∧ opRevoke ≠ opDiscard ∧ opRevoke ≠ opEnroll := by decide
  simp only [State.runGo, hop, hr, hg, hne, Bool.false_eq_true, if_false]
end

/-! ### Shards -/

/-- A failed STAGE: its run and its pending package are gone, and its slot shows the code. -/
theorem State.stageFail_fails {s : State} {p code item detail : Nat} {g : StageRun} (hp : p < 64) (hg : (s.part p).stage = some g) :
    ((s.stageFail p code item detail).part p).stage = none ∧ (s.stageFail p code item detail).g LD_PSTATE_PEND p = 3 ∧
      (s.stageFail p code item detail).g LD_CMD_STS_CODE g.slot = code % 2 ^ 16 := by
  unfold State.stageFail
  rw [hg]
  dsimp only
  have hx : ((s.updPart p (fun x => { x with stage := none, pendPkg := none })).part p).stage = none := by rw [State.part_updPart_same]
  generalize s.updPart p (fun x => { x with stage := none, pendPkg := none }) = v at hx
  have hst : ((v.setPend p 3).part p).stage = none := by rw [(State.setPend_only ..).part, hx]
  have hpd := State.setPend_pend (s := v) hp (by decide : 3 < 4)
  generalize v.setPend p 3 = u at hst hpd
  have hu : ∀ w : State, w = (if code = 0x9022 then u.setG LD_CMD_PROG_DONE g.slot item else u) → (w.part p).stage = none ∧ w.g LD_PSTATE_PEND p = 3 := by
    intro w hw
    subst hw
    split
    · exact ⟨hst, (State.g_setG_other (Fld.key_ne_of_lo (by decide) (by decide) (by decide))).trans hpd⟩
    · exact ⟨hst, hpd⟩
  obtain ⟨hst', hpd'⟩ := hu _ rfl
  generalize (if code = 0x9022 then u.setG LD_CMD_PROG_DONE g.slot item else u) = w at hst' hpd'
  exact ⟨((State.cmdEndWith_partsMarked ..).stage p).trans hst', (State.cmdEndWith_pend hp).trans hpd', State.cmdEndWith_code hp⟩

/-- A failed try of a STAGE from host memory: one more try of the shard, or after the fourth the STAGE fails. -/
theorem State.failTry_counts {s : State} {p k code : Nat} {g : StageRun} (hg : (s.part p).stage = some g) (hs : g.src = 1) (ht : g.tries.get k 0 < 3) :
    ∃ q, ((s.failTry p k code).part p).stage = some q ∧ q.tries.get k 0 = g.tries.get k 0 + 1 := by
  refine ⟨{ g with tries := g.tries.put k (g.tries.get k 0 + 1) }, ?_, Map.get_put_same ..⟩
  unfold State.failTry
  rw [hg]
  dsimp only
  rw [hs]
  simp only [show (1 : Nat) ≠ 2 by decide, if_false, Nat.not_le.2 (show g.tries.get k 0 + 1 < 4 by omega)]
  generalize s.ldRecord (some p) code k (s.shardDetail p g k) = v
  have hx : ((v.updPart p (fun x => { x with stage := some { g with tries := g.tries.put k (g.tries.get k 0 + 1) } })).part p).stage =
      some { g with tries := g.tries.put k (g.tries.get k 0 + 1) } := by rw [State.part_updPart_same]
  have hsrc : ({ g with tries := g.tries.put k (g.tries.get k 0 + 1) } : StageRun).src = 1 := hs
  rw [hs] at hx hsrc
  rw [State.tryShard_host hx hsrc]
  exact hx
theorem State.failTry_fails {s : State} {p k code : Nat} {g : StageRun} (hp : p < 64) (hg : (s.part p).stage = some g) (hs : g.src = 1) (ht : 3 ≤ g.tries.get k 0) :
    ((s.failTry p k code).part p).stage = none ∧ (s.failTry p k code).g LD_PSTATE_PEND p = 3 ∧ (s.failTry p k code).g LD_CMD_STS_CODE g.slot = 0x9022 := by
  unfold State.failTry
  rw [hg]
  dsimp only
  rw [hs]
  simp only [show (1 : Nat) ≠ 2 by decide, if_false, show 4 ≤ g.tries.get k 0 + 1 by omega, if_true]
  generalize s.ldRecord (some p) code k (s.shardDetail p g k) = v
  have hx : ((v.updPart p (fun x => { x with stage := some { g with tries := g.tries.put k (g.tries.get k 0 + 1) } })).part p).stage =
      some { g with tries := g.tries.put k (g.tries.get k 0 + 1) } := by rw [State.part_updPart_same]
  rw [hs] at hx
  obtain ⟨h1, h2, h3⟩ := State.stageFail_fails hp hx
  exact ⟨h1, h2, h3⟩

/-- The run of a STAGE whose shard has landed: the checks of its 4 KiB units stand beside it. -/
def StageRun.landed (g : StageRun) (s : State) (p off n : Nat) : StageRun :=
  { g with crcs := (unitCrcs s.mem (cisternBase p + g.area) (off / 4096) n).foldl (fun m e => m.put e.1 e.2) g.crcs }
theorem State.landShard_eq (s : State) (p : Nat) (g : StageRun) (off : Nat) (data : List Byte) : s.landShard p g off data =
    ((s.setMem (Memory.writeBytes s.mem (cisternBase p + g.area + off) data)).updPart p (fun x => { x with
        stage := some (g.landed (s.setMem (Memory.writeBytes s.mem (cisternBase p + g.area + off) data)) p off data.length) }),
      g.landed (s.setMem (Memory.writeBytes s.mem (cisternBase p + g.area + off) data)) p off data.length) := rfl

/-- Puts of entries with different keys are all found. -/
theorem foldl_put_get? {l : List (Nat × Nat)} (h : (l.map (·.1)).Nodup) {m : Map Nat} {e : Nat × Nat} (he : e ∈ l) :
    (l.foldl (fun m e => m.put e.1 e.2) m).get? e.1 = some e.2 := by
  have hkeep : ∀ (l : List (Nat × Nat)) (m : Map Nat), (∀ c ∈ l, c.1 ≠ e.1) → (l.foldl (fun m e => m.put e.1 e.2) m).get? e.1 = m.get? e.1 := by
    intro l
    induction l with
    | nil => intro m _; rfl
    | cons c l ih =>
      intro m hc
      rw [List.foldl_cons, ih _ (fun d hd => hc d (List.mem_cons_of_mem _ hd)), Map.get?_put, if_neg (hc c List.mem_cons_self)]
  induction l generalizing m with
  | nil => exact absurd he List.not_mem_nil
  | cons b l ih =>
    obtain ⟨hb, hl⟩ := List.nodup_cons.1 (List.map_cons ▸ h)
    rw [List.foldl_cons]
    rcases List.mem_cons.1 he with rfl | he
    · rw [hkeep l _ (fun c hc heq => hb (heq ▸ List.mem_map_of_mem hc))]
      exact Map.get?_put_same ..
    · exact ih hl he

/-- A shard that has just landed reads back with the checks stored beside it (R201). -/
theorem State.crcsAgree_landed {s : State} {p : Nat} {g : StageRun} {off n : Nat} : s.crcsAgree p (g.landed s p off n) off n = true := by
  unfold State.crcsAgree StageRun.landed
  rw [List.all_eq_true]
  intro e he
  refine beq_iff_eq.2 (foldl_put_get? ?_ he)
  unfold unitCrcs upTo
  rw [List.map_map]
  exact List.pairwise_map.2 (List.nodup_range.imp fun hne h => hne (Nat.add_left_cancel h))

/-- The lead shard accepted: the plan of the shards stands with its signer. -/
theorem State.leadAccepted_accepts {s : State} {p : Nat} {g : StageRun} {id : Nat} {m : Sect} (hm : sectOf (s.sects (cisternBase p + g.area)) 0x13 = some m)
    (hs : g.src = 1) : ∃ q, ((s.leadAccepted p g id).part p).stage = some q ∧ q.leadOk = true ∧ q.signer = id := by
  unfold State.leadAccepted
  dsimp only
  rw [hm]
  dsimp only
  generalize hq : ({ g with
    leadOk := true, leadSize := (s.shardPlan (cisternBase p + g.area) m.off).lead, shardLog2 := (s.shardPlan (cisternBase p + g.area) m.off).log2
    shards := (s.shardPlan (cisternBase p + g.area) m.off).count, signer := id, verified := g.verified.add 0
    next := min 33 (s.shardPlan (cisternBase p + g.area) m.off).count } : StageRun) = q
  refine ⟨q, ?_, by rw [← hq], by rw [← hq]⟩
  have hsrc : q.src = 1 := by rw [← hq]; exact hs
  have h0 : ((((s.updPart p (fun x => { x with stage := some q })).setG LD_CMD_PROG_TOTAL g.slot (s.shardPlan (cisternBase p + g.area) m.off).count).setG
      LD_CMD_PROG_DONE g.slot 1).part p).stage = some q := by
    show ((s.updPart p (fun x => { x with stage := some q })).part p).stage = some q
    rw [State.part_updPart_same]
  generalize ((s.updPart p (fun x => { x with stage := some q })).setG LD_CMD_PROG_TOTAL g.slot (s.shardPlan (cisternBase p + g.area) m.off).count).setG
      LD_CMD_PROG_DONE g.slot 1 = v at h0
  refine List.foldlRecOn (motive := fun w : State => (w.part p).stage = some q) _ _ h0 (fun w hw k _ => ?_)
  rw [State.tryShard_host hw hsrc]
  exact hw

/-- The last shard: the package is VERIFIED, and the STAGE done. -/
theorem State.shardGood_last {s : State} {p k : Nat} {g : StageRun} (hp : p < 64) (hv : (g.verified.add k).entries.length = g.shards) :
    ((s.shardGood p k g).part p).stage = none ∧ (s.shardGood p k g).g LD_PSTATE_PEND p = 2 ∧
      ((s.shardGood p k g).part p).pendPkg = some ⟨g.area, g.size, g.signer, g.lost⟩ ∧ (s.shardGood p k g).g LD_CMD_STS_STATE g.slot = ldDone := by
  unfold State.shardGood
  extract_lets v s1
  rw [if_pos hv]
  clear_value s1
  have hx : (s1.updPart p (fun x => { x with stage := none, pendPkg := some ⟨g.area, g.size, g.signer, g.lost⟩ })).part p =
    { s1.part p with stage := none, pendPkg := some ⟨g.area, g.size, g.signer, g.lost⟩ } := State.part_updPart_same ..
  generalize s1.updPart p (fun x => { x with stage := none, pendPkg := some ⟨g.area, g.size, g.signer, g.lost⟩ }) = w at hx
  have hm := (State.setPend_only w p 2).part p
  have hd := State.setPend_pend (s := w) hp (by decide : 2 < 4)
  generalize w.setPend p 2 = u at hm hd
  have hc := State.cmdEndWith_partsMarked u g.slot p 0 0 0
  refine ⟨?_, (State.cmdEndWith_pend hp).trans hd, ?_, State.cmdEndWith_state hp⟩
  · exact (hc.stage p).trans (by rw [hm, hx])
  · exact (hc.pendPkg p).trans (by rw [hm, hx])

/-- A lead shard that is consistent and signed with an enrolled key is accepted, one whose signature fails fails the STAGE. -/
theorem leadShardVerify_judges {part : Part} {data : List Byte} {s : State} {g : StageRun} {x m : Sect} {k : Nat × Nat} (hg : (s.part part.val).stage = some g)
    (hl : g.leadOk = false) (hd : data.length ≤ g.size) :
    let a := cisternBase part.val + g.area
    let t := s.setMem (Memory.writeBytes s.mem a data)
    t.leadConsistent a data.length g.size = true → sectOf (t.sects a) 0x14 = some x → sectOf (t.sects a) 0x13 = some m →
    s.pubKeyNamed (t.pk a (x.off + 8) 8) = some k → (g.keyId = 0 ∨ g.keyId = t.pk a (x.off + 8) 8) → g.src = 1 →
    if ecdsaValid k.1 k.2 (signedMessage data x.off) (beNum (t.pkBytes a (x.off + 0x10) 48)) (beNum (t.pkBytes a (x.off + 0x40) 48)) = true then
      ∃ u q, exec (.leadShardVerify part data) s = .next u ∧ (u.part part.val).stage = some q ∧ q.leadOk = true ∧ q.signer = t.pk a (x.off + 8) 8
    else ∃ u, exec (.leadShardVerify part data) s = .next u ∧ (u.part part.val).stage = none ∧ u.g LD_PSTATE_PEND part.val = 3 ∧
      u.g LD_CMD_STS_CODE g.slot = 0x9023 := by
  intro a t hc hx hm hk hid hs
  have hland := State.landShard_eq s part.val g 0 data
  rw [Nat.add_zero] at hland
  have hexec : exec (.leadShardVerify part data) s = execLeadShardVerify part data s := rfl
  unfold execLeadShardVerify at hexec
  dsimp only at hexec
  rw [hg] at hexec
  dsimp only at hexec
  rw [hl, if_neg Bool.false_ne_true, if_neg (Nat.not_lt.2 hd), hland] at hexec
  have hst : ((t.updPart part.val (fun x => { x with stage := some (g.landed t part.val 0 data.length) })).part part.val).stage =
      some (g.landed t part.val 0 data.length) := by rw [State.part_updPart_same]
  have hc' : (t.updPart part.val (fun x => { x with stage := some (g.landed t part.val 0 data.length) })).leadConsistent a data.length g.size = true := hc
  have hx' : sectOf ((t.updPart part.val (fun x => { x with stage := some (g.landed t part.val 0 data.length) })).sects a) 0x14 = some x := hx
  have hm' : sectOf ((t.updPart part.val (fun x => { x with stage := some (g.landed t part.val 0 data.length) })).sects a) 0x13 = some m := hm
  have hpk : (t.updPart part.val (fun x => { x with stage := some (g.landed t part.val 0 data.length) })).pk = t.pk := rfl
  have hpb : (t.updPart part.val (fun x => { x with stage := some (g.landed t part.val 0 data.length) })).pkBytes = t.pkBytes := rfl
  have hkey : (t.updPart part.val (fun x => { x with stage := some (g.landed t part.val 0 data.length) })).pubKeyNamed (t.pk a (x.off + 8) 8) = some k := hk
  generalize t.updPart part.val (fun x => { x with stage := some (g.landed t part.val 0 data.length) }) = v at *
  have hid' : ¬ (decide ((g.landed t part.val 0 data.length).keyId ≠ 0) && decide ((g.landed t part.val 0 data.length).keyId ≠ t.pk a (x.off + 8) 8)) = true := by
    rcases hid with h | h <;> simp [StageRun.landed, h]
  change exec _ s = (if !v.leadConsistent a data.length g.size then _ else _) at hexec
  rw [hc', Bool.not_true, if_neg Bool.false_ne_true, hx'] at hexec
  dsimp only at hexec
  rw [hpk, hkey] at hexec
  dsimp only at hexec
  rw [hpb, if_neg hid'] at hexec
  split
  · next hsig =>
    rw [if_pos hsig] at hexec
    obtain ⟨q, hq⟩ := State.leadAccepted_accepts (id := t.pk a (x.off + 8) 8) (g := g.landed t part.val 0 data.length) hm' hs
    exact ⟨_, q, hexec, hq⟩
  · next hsig =>
    rw [if_neg hsig] at hexec
    exact ⟨_, hexec, State.stageFail_fails (g := g.landed t part.val 0 data.length) part.isLt hst⟩

/-- A shard whose hash is the manifest's is good, and the last one makes the package VERIFIED; one with another hash is a failed try. -/
theorem shardVerify_judges {part : Part} {k : Fin 65536} {data : List Byte} {s : State} {g : StageRun} {m : Sect} (hg : (s.part part.val).stage = some g)
    (hl : g.leadOk = true) (hv : g.verified.mem k.val = false) (hk : k.val < g.next)
    (hd : data.length = min (2 ^ g.shardLog2) (g.size - (g.leadSize + (k.val - 1) * 2 ^ g.shardLog2))) :
    let a := cisternBase part.val + g.area
    let t := s.setMem (Memory.writeBytes s.mem (a + (g.leadSize + (k.val - 1) * 2 ^ g.shardLog2)) data)
    sectOf (t.sects a) 0x13 = some m →
    if sha384 data = t.pkBytes a (m.off + 0x20 + 48 * (k.val - 1)) 48 then
      (g.verified.add k.val).entries.length = g.shards →
        ∃ u, exec (.shardVerify part k data) s = .next u ∧ (u.part part.val).stage = none ∧ u.g LD_PSTATE_PEND part.val = 2 ∧
          (u.part part.val).pendPkg = some ⟨g.area, g.size, g.signer, g.lost⟩ ∧ u.g LD_CMD_STS_STATE g.slot = ldDone
    else g.src = 1 → g.tries.get k.val 0 < 3 →
      ∃ u q, exec (.shardVerify part k data) s = .next u ∧ (u.part part.val).stage = some q ∧ q.tries.get k.val 0 = g.tries.get k.val 0 + 1 := by
  intro a t hm
  have hexec : exec (.shardVerify part k data) s = execShardVerify part k data s := rfl
  have hland := State.landShard_eq s part.val g (g.leadSize + (k.val - 1) * 2 ^ g.shardLog2) data
  have hback : Memory.readBytes t.mem (a + (g.leadSize + (k.val - 1) * 2 ^ g.shardLog2)) data.length = data := Memory.readBytes_writeBytes _ _ _
  unfold execShardVerify at hexec
  dsimp only at hexec
  let off := g.leadSize + (k.val - 1) * 2 ^ g.shardLog2
  rw [hg] at hexec
  dsimp only at hexec
  rw [hl, hv, decide_eq_false (Nat.not_le.2 hk), ← hd, List.take_length, hland] at hexec
  have hst : ((t.updPart part.val (fun x => { x with stage := some (g.landed t part.val off data.length) })).part part.val).stage =
      some (g.landed t part.val off data.length) := by rw [State.part_updPart_same]
  have hm' : sectOf ((t.updPart part.val (fun x => { x with stage := some (g.landed t part.val off data.length) })).sects a) 0x13 = some m := hm
  have hmem : (t.updPart part.val (fun x => { x with stage := some (g.landed t part.val off data.length) })).mem = t.mem := rfl
  have hpb : (t.updPart part.val (fun x => { x with stage := some (g.landed t part.val off data.length) })).pkBytes = t.pkBytes := rfl
  have hcrc : (t.updPart part.val (fun x => { x with stage := some (g.landed t part.val off data.length) })).crcsAgree part.val
      (g.landed t part.val off data.length) off data.length = true := State.crcsAgree_landed (s := t)
  generalize t.updPart part.val (fun x => { x with stage := some (g.landed t part.val off data.length) }) = v at *
  dsimp only at hexec
  rw [hm'] at hexec
  dsimp only at hexec
  rw [hmem, hback, hpb, hcrc, decide_eq_true rfl, Bool.and_true, Bool.true_and] at hexec
  split
  · next hsha =>
    intro hlast
    rw [beq_iff_eq.2 hsha] at hexec
    exact ⟨_, hexec, State.shardGood_last (g := g.landed t part.val off data.length) part.isLt hlast⟩
  · next hsha =>
    intro hs ht
    rw [beq_false_of_ne hsha] at hexec
    obtain ⟨q, hq⟩ := State.failTry_counts (code := 0x9020) hst hs ht
    exact ⟨_, q, hexec, hq⟩

/-- Settles O39: each GO runs its command, and a landed shard reads back as it was written. -/
theorem packagesAreStagedAndVerified : Obligations.PackagesAreStagedAndVerified := by
  have hpart : ∀ (s : State) (n : Nat), s.cmdPart n < 64 := fun s n => Nat.mod_lt _ (by decide)
  refine ⟨fun path n s ho hr hg => ⟨fun hop => ?_, fun a hop hsrc hi hf => ?_, fun hop hc hh => ?_, fun hop => ?_⟩, fun part data s g x m k hg hl hd => leadShardVerify_judges hg hl hd,
    fun part k data s g m hg hl hv hk hd => shardVerify_judges hg hl hv hk hd, fun part k s g hg hv hk h0 hs => ?_⟩
  · exact ⟨_, discard_runs ho hr hg hop, State.goDiscard_discards (hpart ..)⟩
  · obtain ⟨q, hq⟩ := State.goStage_stages (hpart s n.val) n.isLt hsrc hi hf
    exact ⟨_, q, stage_runs ho hr hg hop, hq⟩
  · exact ⟨_, enrollKey_runs ho hr hg hop, State.goEnroll_enrolls n.isLt hc hh⟩
  · exact ⟨_, revokeKey_runs ho hr hg hop, State.goRevoke_revokes n.isLt⟩
  · have hlead : (k.val != 0 && !g.leadOk) = false := by
      cases hlo : g.leadOk with
      | true => simp
      | false => simp [h0 hlo]
    have hexec : exec (.shardFetchError part k) s = .next (s.failTry part.val k.val 0x9027) := by
      show execShardFetchError part k s = _
      unfold execShardFetchError
      dsimp only
      rw [hg]
      dsimp only
      rw [hv, hlead, decide_eq_false (Nat.not_le.2 hk), hs]
      rfl
    refine ⟨fun ht => ?_, fun ht => ?_⟩
    · obtain ⟨q, hq⟩ := State.failTry_counts (code := 0x9027) hg hs ht
      exact ⟨_, q, hexec, hq⟩
    · exact ⟨_, hexec, State.failTry_fails part.isLt hg hs ht⟩

end Sys2Proof.Machine
end

section
/-! PROOF. Bring-up, ACCEPT_TOPOLOGY and PERST (13 R318 to R327, R334). -/

namespace Sys2Proof.Machine

open Sys2Proof Sys2Proof.Safety

/-! ### The module's state and the end of bring-up -/

theorem State.setBoot_boot {s : State} {b : Nat} (hb : b < 16) : (s.setBoot b).boot = b := by
  unfold State.setBoot
  split
  · assumption
  · unfold State.boot
    rw [State.raiseInt_g (by decide) (by decide) (by decide), State.g_setG_same]
    exact Nat.mod_eq_of_lt hb

theorem State.haltWith_halts {s : State} {why : Nat} (hw : why < 256) : (s.haltWith why).boot = 5 ∧ (s.haltWith why).g RST_STATE_HALTR 0 = why := by
  unfold State.haltWith
  extract_lets x
  refine ⟨State.setBoot_boot (by decide), ?_⟩
  rw [State.setBoot_g (by decide) (by decide) (by decide), State.g_setG_other (by decide), State.g_setG_same]
  exact Nat.mod_eq_of_lt hw
theorem State.becomeReady_ready (s : State) : s.becomeReady.boot = 4 ∧ s.becomeReady.g RST_STATE_HALTR 0 = 0 := by
  unfold State.becomeReady
  extract_lets s1
  refine ⟨State.setBoot_boot (by decide), ?_⟩
  rw [State.setBoot_g (by decide) (by decide) (by decide), State.g_setG_other (by decide), State.g_setG_same]
  rfl

/-- Where only the topology record may be wrong, the ready check declares READY, or HALT with reason 1. -/
theorem State.readyCheck_judges {s : State} {b : BringUp} (hi : b.identityOk = true) (hr : b.repairsIn = true) (hst : b.badStacks = []) (hrim : b.rims = [])
    (hpo : b.ports = []) : (s.readyCheck b).boot = (if b.recordOk then 4 else 5) ∧ (s.readyCheck b).g RST_STATE_HALTR 0 = (if b.recordOk then 0 else 1) := by
  have hd : s.disagree b = ([], []) := by
    unfold State.disagree
    rw [hst, hrim, hpo]
    simp
  unfold State.readyCheck
  rw [hd, hi, hr]
  cases b.recordOk with
  | true => exact State.becomeReady_ready _
  | false => exact State.haltWith_halts (by decide)

theorem bringUpLacks_nil {b : BringUp} (h : b.fwBoth = []) (l : List Nat) : bringUpLacks b l = false := by
  unfold bringUpLacks
  rw [h]
  simp
/-- A bring-up with every firmware image ends in the ready check. -/
theorem State.bringUp_ends (s : State) (b : BringUp) (kept : Option CalSt) (hf : b.fwBoth = []) : ∃ v : State, s.bringUp b kept = v.readyCheck b := by
  unfold State.bringUp
  extract_lets s1 s2 s3 s4 s5 s6 s7
  rw [bringUpLacks_nil hf]
  exact ⟨_, rfl⟩
theorem State.bringUp_judges {s : State} {b : BringUp} {kept : Option CalSt} (hf : b.fwBoth = []) (hi : b.identityOk = true) (hr : b.repairsIn = true)
    (hst : b.badStacks = []) (hrim : b.rims = []) (hpo : b.ports = []) :
    ((s.bringUp b kept).took b).boot = (if b.recordOk then 4 else 5) ∧ ((s.bringUp b kept).took b).g RST_STATE_HALTR 0 = (if b.recordOk then 0 else 1) := by
  obtain ⟨v, hv⟩ := s.bringUp_ends b kept hf
  rw [hv]
  exact State.readyCheck_judges hi hr hst hrim hpo

/-! ### Cold starts -/

/-- What a cold start has checked and read before the supplies come up. -/
def State.coldRead (s : State) (b : BringUp) : State :=
  let s := { s with power := { s.power with auxOn := true }, link := { s.link with mgmtI3c := b.i3c, slotId := b.slotId.val } }.activateStaged
  (s.checkImages b [0]).readMain b.mv.val
theorem State.coldStart_eq (s : State) (b : BringUp) : s.coldStart b = if bringUpLacks b [0] then (s.coldRead b).haltWith 5
    else if mainReady b.mv.val then ((s.coldRead b).bringUp b none).took b
    else { s.coldRead b with power := { (s.coldRead b).power with waitMain := true } } := rfl
theorem State.checkImages_power (s : State) (b : BringUp) (kinds : List Nat) : (s.checkImages b kinds).power = s.power := by
  unfold State.checkImages
  refine foldl_keep State.power (fun a k => ?_) _ _
  dsimp only
  split
  · rw [State.record_power, State.record_power]
  · split
    · rw [State.record_power]
    · rfl
theorem State.coldRead_auxOn (s : State) (b : BringUp) : (s.coldRead b).power.auxOn = true := by
  unfold State.coldRead
  extract_lets power link v
  show ((v.checkImages b [0]).power).auxOn = true
  rw [State.checkImages_power]
  rfl
theorem coldStart_runs {s : State} {b : BringUp} (h : s.power.auxOn = false) : exec (.coldStart b) s = .next (s.coldStart b) := by
  show execColdStart b s = _
  unfold execColdStart
  rw [h]
  rfl

/-! ### ACCEPT_TOPOLOGY -/

theorem State.rstEnd_g {s : State} {code : Nat} {f : Fld} {i : Nat} (h1 : f.key 0 i / 2 ^ 33 ≠ Page.int.code) (h2 : f.key 0 i / 2 ^ 33 ≠ Page.err.code)
    (h3 : RST_CMD_STS_CODE.key 0 0 ≠ f.key 0 i) (h4 : RST_CMD_STS_STATE.key 0 0 ≠ f.key 0 i) : (s.rstEnd code).g f i = s.g f i := by
  unfold State.rstEnd
  rw [State.raiseInt_g (by decide) h1 h2, State.g_setG_other h3, State.g_setG_other h4]
theorem State.rstEnd_sts {s : State} {code : Nat} (hc : code < 65536) : (s.rstEnd code).g RST_CMD_STS_STATE 0 = (if code = 0 then 2 else 3) ∧
    (s.rstEnd code).g RST_CMD_STS_CODE 0 = code := by
  unfold State.rstEnd
  rw [State.raiseInt_g (by decide) (by decide) (by decide), State.raiseInt_g (by decide) (by decide) (by decide), State.g_setG_other (by decide),
    State.g_setG_same, State.g_setG_same]
  refine ⟨?_, Nat.mod_eq_of_lt hc⟩
  split <;> rfl
theorem State.rstBegin_g {s : State} {f : Fld} {i : Nat} (h : RST_CMD_STS_CODE.key 0 0 ≠ f.key 0 i) (h' : RST_CMD_STS_STATE.key 0 0 ≠ f.key 0 i)
    (h'' : RST_CMD_STS_COUNT.key 0 0 ≠ f.key 0 i) : s.rstBegin.g f i = s.g f i := by
  unfold State.rstBegin
  rw [State.g_setG_other h, State.g_setG_other h'', State.g_setG_other h']
/-- A refused reset command leaves the module's state. -/
theorem State.rstRefused_refuses {s : State} {code : Nat} (hc : code < 65536) (h0 : code ≠ 0) : (s.rstRefused code).boot = s.boot ∧
    (s.rstRefused code).g RST_CMD_STS_STATE 0 = 3 ∧ (s.rstRefused code).g RST_CMD_STS_CODE 0 = code := by
  unfold State.rstRefused
  obtain ⟨hs, hcode⟩ := State.rstEnd_sts (s := s.rstBegin.record { code := code, unit := 14 }) hc
  rw [if_neg h0] at hs
  refine ⟨?_, hs, hcode⟩
  unfold State.boot
  rw [State.rstEnd_g (by decide) (by decide) (by decide) (by decide), State.record_g rfl (by decide) (by decide), State.rstBegin_g (by decide) (by decide) (by decide)]

theorem State.acceptTopology_answers (s : State) :
    if s.boot = 5 ∧ (s.g RST_STATE_HALTR 0 = 3 ∨ s.g RST_STATE_HALTR 0 = 4) then
      s.acceptTopology.boot = 4 ∧ s.acceptTopology.g RST_CMD_STS_STATE 0 = 2 ∧ s.acceptTopology.g RST_CMD_STS_CODE 0 = 0
    else s.acceptTopology.boot = s.boot ∧ s.acceptTopology.g RST_CMD_STS_STATE 0 = 3 ∧
      s.acceptTopology.g RST_CMD_STS_CODE 0 = (if s.boot = 5 then 0x7081 else 0x9029) := by
  unfold State.acceptTopology
  extract_lets why items r add s1
  by_cases hb : s.boot = 5
  · by_cases hw : why = 3 ∨ why = 4
    · have hc : (decide (why ≠ 3) && decide (why ≠ 4)) = false := by rcases hw with h | h <;> simp [h]
      rw [if_pos ⟨hb, hw⟩, if_neg (not_not_intro hb), hc, if_neg Bool.false_ne_true]
      generalize s1.rstBegin.record { code := 0x7087, unit := 14 } = v
      obtain ⟨hs, hcode⟩ := State.rstEnd_sts (s := v.becomeReady) (by decide : 0 < 65536)
      refine ⟨?_, hs, hcode⟩
      unfold State.boot
      rw [State.rstEnd_g (by decide) (by decide) (by decide) (by decide)]
      exact v.becomeReady_ready.1
    · have hc : (decide (why ≠ 3) && decide (why ≠ 4)) = true := by
        rw [not_or] at hw
        simp [hw]
      rw [if_neg (fun h => hw h.2), if_neg (not_not_intro hb), hc, if_pos rfl, if_pos hb]
      exact State.rstRefused_refuses (by decide) (by decide)
  · rw [if_neg (fun h => hb h.1), if_pos hb, if_neg hb]
    exact State.rstRefused_refuses (by decide) (by decide)

/-! ### PERST -/

/-- The link is down; every other part of the link state is as it was. -/
theorem State.pcieDown_link (s : State) : s.pcieDown.link.pcieUp = false ∧ s.pcieDown.link.vfEnable = s.link.vfEnable ∧ s.pcieDown.link.sessions = s.link.sessions := by
  unfold State.pcieDown
  split
  · rw [State.record_link _ _ (fun l => l.pcieUp) (fun _ _ => rfl), State.record_link _ _ (fun l => l.vfEnable) (fun _ _ => rfl),
      State.record_link _ _ (fun l => l.sessions) (fun _ _ => rfl)]
    exact ⟨rfl, rfl, rfl⟩
  · exact ⟨Bool.eq_false_iff.2 ‹_›, rfl, rfl⟩
/-- The sessions of the DOE mailbox are closed. -/
theorem State.closeDoe_sessions (s : State) {k : Nat} (hk : k < 4) : s.closeDoe.link.sessions.has k = false := by
  unfold State.closeDoe Map.has
  rw [Map.get?_keep_none _ _ _ (fun _ => decide_eq_false (Nat.not_le.2 hk))]
  rfl
theorem State.perst_takesDown {s : State} {b : BringUp} (h : s.flag RST_CFG_PERST_MODULE 0 0 = false) : (s.perst b).link.pcieUp = false ∧
    (s.perst b).link.vfEnable = false ∧ ∀ k, k < 4 → (s.perst b).link.sessions.has k = false := by
  unfold State.perst
  rw [h, if_neg Bool.false_ne_true]
  generalize (upTo 65).foldl (fun (s : State) fn => s.resetFn fn) s = v
  obtain ⟨hup, hvf, hse⟩ := State.pcieDown_link { v with link := { v.link with vfEnable := false } }.closeDoe
  refine ⟨hup, hvf, fun k hk => ?_⟩
  rw [hse]
  exact State.closeDoe_sessions _ hk

/-- Settles O42: every bring-up ends in the ready check, whose last writes are the state and the reason. -/
theorem bringUpReachesReadyOrHalts : Obligations.BringUpReachesReadyOrHalts := by
  refine ⟨fun b s hf hi hr hst hrim hpo => ⟨fun ha hm => ?_, fun ha hm => ?_, fun ha hw hm => ?_, fun path ho ha hm => ?_⟩, fun b s ha hf => ?_, fun path s ho => ?_, fun b s ha hc => ?_⟩
  · refine ⟨_, coldStart_runs ha, ?_⟩
    rw [State.coldStart_eq, bringUpLacks_nil hf, if_neg Bool.false_ne_true, if_pos hm]
    exact State.bringUp_judges hf hi hr hst hrim hpo
  · refine ⟨_, coldStart_runs ha, ?_⟩
    rw [State.coldStart_eq, bringUpLacks_nil hf, if_neg Bool.false_ne_true, hm, if_neg Bool.false_ne_true]
    exact ⟨rfl, State.coldRead_auxOn s b⟩
  · have hexec : exec (.mainInputInRange b) s = .next (((s.readMain b.mv.val).bringUp b none).took b) := by
      show execMainInputInRange b s = _
      unfold execMainInputInRange
      have hw' : (s.readMain b.mv.val).power.waitMain = true := hw
      dsimp only
      rw [ha, hw', hm]
      rfl
    exact ⟨_, hexec, State.bringUp_judges hf hi hr hst hrim hpo⟩
  · refine ⟨_, pageWrite_runs (pg := .rst) (act := fun s => s.warmReset b) ho, ?_⟩
    unfold State.warmReset
    rw [ha, hm]
    exact State.bringUp_judges hf hi hr hst hrim hpo
  · have hl : bringUpLacks b [0] = true := by
      unfold bringUpLacks
      simp only [List.any_cons, List.any_nil, Bool.or_false, List.contains_iff_mem, List.mem_map]
      exact ⟨0, hf, rfl⟩
    refine ⟨_, coldStart_runs ha, ?_⟩
    rw [State.coldStart_eq, hl, if_pos rfl]
    exact State.haltWith_halts (by decide)
  · exact ⟨_, pageWrite_runs (pg := .rst) (act := State.acceptTopology) ho, State.acceptTopology_answers s⟩
  · exact ⟨_, if_pos ha, State.perst_takesDown hc⟩

end Sys2Proof.Machine
end

section
/-! PROOF. Slots of the Sluice, routers, express stations and crossing buffers (05 R133, R134; 06 R144 to R146, R154, R155): O23 and O28. -/

namespace Sys2Proof.Machine

open Sys2Proof Sys2Proof.Safety

/-! ### Slots -/

theorem State.noteMiss_misses (s : State) (t e : Nat) :
    ((s.noteMiss t e).tile t).report.miss = true ∧ ((s.noteMiss t e).tile t).slotDone.mem e = true ∧
      (s.noteMiss t e).reg BSN_STATUS_SLUICE_MISS t 0 = 1 ∧ ((s.noteMiss t e).tile t).waitStart.has e = true := by
  unfold State.noteMiss
  refine ⟨?_, ?_, ?_, ?_⟩
  · rw [State.tile_updTile_same]
  · rw [State.tile_updTile_same]
    exact Map.has_put_same ..
  · rw [State.reg_updTile, State.reg_setReg_other (Fld.key_ne_of_lo (by decide) (by decide) (by decide)), State.addReg,
      State.reg_setReg_other (Fld.key_ne_of_lo (by decide) (by decide) (by decide))]
    exact State.reg_setReg_same ..
  · rw [State.tile_updTile_same]
    exact Map.has_put_same ..

/-- Settles O23: the slot's command runs in the state in which the slot is taken, and every command answers; a miss is noted at its end. -/
theorem sluiceSlotsIssueAndMiss : Obligations.SluiceSlotsIssueAndMiss := by
  unfold Obligations.SluiceSlotsIssueAndMiss
  refine ⟨fun t e c s f hlive hmode hoff hwait hin hdone hready hf => ?_, fun t e s hlive hmode hin hdone hready => ?_⟩
  · obtain ⟨u, hu, -⟩ := unitMeaning_follows hf (i := ⟨t, c, e, BitVec.ofNat 64 (s.sched t.val e.val).cmd⟩) (s := slotTaken s t.val e.val) .refl
    have hexec : exec (.sluiceSlotIssue t e c) s = f ⟨t, c, e, BitVec.ofNat 64 (s.sched t.val e.val).cmd⟩ (slotTaken s t.val e.val) := by
      show execSluiceSlotIssue t e c s = _
      unfold execSluiceSlotIssue
      simp only [hlive, hmode, hin, hdone, hready, decide_eq_true hoff, decide_eq_true hwait, beq_self_eq_true, Bool.not_false, Bool.and_self, if_true, hf]
      rfl
    exact ⟨u, hexec.trans hu, hu⟩
  · have hexec : exec (.sluiceMiss t e) s = .next ((s.zeroDest ⟨t, Fin.ofNat 65536 ((s.sched t.val e.val).off + (s.sched t.val e.val).wait), e,
        BitVec.ofNat 64 (s.sched t.val e.val).cmd⟩ (s.sched t.val e.val).unit).noteMiss t.val e.val) := by
      show execSluiceMiss t e s = _
      unfold execSluiceMiss
      simp only [hlive, hmode, hin, hdone, hready, beq_self_eq_true, Bool.not_false, Bool.and_self, if_true]
    exact ⟨_, hexec, State.noteMiss_misses _ t.val e.val⟩

/-! ### What a router's command leaves of the ports it has driven -/

/-- A fault of the router of one tile changes of the tiles only a mark of the report. -/
theorem State.rtrFault_tile {β : Type} (g : TileSt → β) (hg : ∀ x b, g { x with report := { x.report with fault := b } } = g x)
    (s : State) (t : Nat) (f : Fld) (code c port lane u : Nat) : g ((s.rtrFault t f code c port lane).tile u) = g (s.tile u) := by
  unfold State.rtrFault State.tileFault State.tileRecord
  by_cases h : t = u
  · subst h
    rw [State.tile_updTile_same, hg, State.record_tile]
    rfl
  · rw [State.tile_updTile_other h, State.record_tile]
    rfl

/-- A port of the tile that is driven in a cycle stays so. -/
structure DrivenKept (t : Nat) (a s : State) : Prop where
  keeps : ∀ k, (a.tile t).driven.has k = true → (s.tile t).driven.has k = true

theorem DrivenKept.refl {t : Nat} {a : State} : DrivenKept t a a := ⟨fun _ h => h⟩
theorem DrivenKept.trans {t : Nat} {a b s : State} (h : DrivenKept t a b) (k : DrivenKept t b s) : DrivenKept t a s := ⟨fun i hi => k.keeps i (h.keeps i hi)⟩
theorem DrivenKept.of_eq {t : Nat} {a s : State} (h : (s.tile t).driven = (a.tile t).driven) : DrivenKept t a s := ⟨fun _ hk => h ▸ hk⟩
theorem DrivenKept.foldl {β : Type} {t : Nat} {f : State → β → State} (hf : ∀ s b, DrivenKept t s (f s b)) :
    ∀ (l : List β) (s : State), DrivenKept t s (l.foldl f s)
  | [], _ => .refl
  | b :: l, s => (hf s b).trans (DrivenKept.foldl hf l (f s b))
theorem RowsOnly.drivenKept {t : Nat} {a s : State} (h : RowsOnly a s) : DrivenKept t a s := by
  have e := h.tile t
  have hd := congrArg TileSt.driven e
  exact .of_eq hd

theorem State.rtrFault_drivenKept {t : Nat} (s : State) (u : Nat) (f : Fld) (code c port lane : Nat) : DrivenKept t s (s.rtrFault u f code c port lane) :=
  .of_eq (s.rtrFault_tile TileSt.driven (fun _ _ => rfl) u f code c port lane t)

theorem State.intoLink_drivenKept {t : Nat} (s : State) (u port c lane : Nat) (b : LinkBeat) : DrivenKept t s (s.intoLink u port c lane b) := by
  unfold State.intoLink
  dsimp only
  split
  · exact s.rtrFault_drivenKept ..
  · exact .of_eq rfl
theorem State.intoLane_drivenKept {t : Nat} (s : State) (l c : Nat) (b : LinkBeat) : DrivenKept t s (s.intoLane l c b) := by
  unfold State.intoLane
  dsimp only
  split
  · exact s.rtrFault_drivenKept ..
  · exact .of_eq rfl
theorem State.intoCross_drivenKept {t : Nat} (s : State) (k c : Nat) (b : LinkBeat) : DrivenKept t s (s.intoCross k c b) := by
  unfold State.intoCross
  dsimp only
  split <;> exact .of_eq rfl
theorem State.takeBack_drivenKept {t : Nat} (s : State) (h : Hop) (u c : Nat) : DrivenKept t s (s.takeBack h u c) := by
  cases h <;> exact .of_eq rfl
theorem State.launchCrc_drivenKept {t : Nat} (s : State) (u : Nat) : DrivenKept t s (s.launchCrc u).1 := by
  unfold State.launchCrc
  split <;> exact .of_eq rfl

/-- What is driven stays so, and a place is driven. -/
structure Drives (t k : Nat) (a s : State) : Prop where
  kept : DrivenKept t a s
  there : (s.tile t).driven.has k = true
theorem Drives.ite {t k : Nat} {a u v : State} {c : Prop} [Decidable c] (hu : c → Drives t k a u) (hv : Drives t k a v) : Drives t k a (if c then u else v) := by
  split
  next h => exact hu h
  · exact hv

/-- A launch leaves its port driven in its cycle. -/
theorem State.launch_drives (s : State) (t e port c : Nat) (exp : Bool) (lane : Nat) (b : Beat) :
    Drives t (port * 65536 + c) s (s.launch t e port c exp lane b) := by
  unfold State.launch
  extract_lets k before s1 s2 s3 j s4 lb
  have h1 : DrivenKept t s s1 := by
    unfold s1
    split
    · exact s.rtrFault_drivenKept ..
    · exact .refl
  refine Drives.ite (fun hb => ⟨h1, h1.keeps k ?_⟩) ?_
  · cases hd : (s.tile t).driven.get? k with
    | none => rw [show before = none from hd] at hb; exact absurd hb Bool.false_ne_true
    | some d => exact congrArg Option.isSome hd
  · have h2 : DrivenKept t s1 s2 := by
      unfold s2
      cases before with
      | none => exact .refl
      | some d => exact State.takeBack_drivenKept ..
    have h3 : DrivenKept t s2 s3 := ⟨fun i hi => by
      unfold s3
      rw [State.tile_updTile_same]
      dsimp only
      rw [Map.has_put, hi, Bool.or_true]⟩
    have h3k : (s3.tile t).driven.has k = true := by
      unfold s3
      rw [State.tile_updTile_same]
      exact Map.has_put_same ..
    have h4 : DrivenKept t s3 s4 := s3.launchCrc_drivenKept t
    have hend : ∀ u, DrivenKept t s4 u → Drives t k s u := fun u hu =>
      ⟨(((h1.trans h2).trans h3).trans h4).trans hu, (h4.trans hu).keeps k h3k⟩
    cases hopOf t port c exp lane with
    | lane key => exact hend _ (State.intoLane_drivenKept ..)
    | link key => exact hend _ (State.intoLink_drivenKept ..)
    | cross key => exact hend _ (State.intoCross_drivenKept ..)
    | edge => exact hend _ .refl

theorem State.toLocal_drivenKept (s : State) (t c : Nat) (b : Beat) : DrivenKept t s (s.toLocal t c b) := by
  unfold State.toLocal
  split
  · exact .of_eq (by rw [State.tile_updTile_same])
  · exact s.rtrFault_drivenKept ..
theorem State.routeRows_drivenKept (s : State) (t : Nat) (r : RouteE) (i : Issue) (bs : List Beat) : DrivenKept t s (s.routeRows t r i bs) := by
  unfold State.routeRows
  extract_lets rows
  split
  · exact (State.tileFault_rowsOnly .refl).drivenKept
  · refine DrivenKept.trans (.of_eq ?_) (State.schedWrites_rowsOnly .refl).drivenKept
    unfold State.portClaim
    rw [State.tile_updTile_same]

/-- The beats of a run, launched one after another from a cycle, leave the port driven in each of their cycles. -/
theorem State.launches_drive {t e p off : Nat} {exp : Bool} {lane : Nat} : ∀ (bs : List Beat) (n : Nat) (s : State),
    DrivenKept t s ((bs.zipIdx n).foldl (fun s b => s.launch t e p (off + b.2) exp lane b.1) s) ∧
      ∀ b < bs.length, ((((bs.zipIdx n).foldl (fun s b => s.launch t e p (off + b.2) exp lane b.1) s)).tile t).driven.has (p * 65536 + (off + (n + b))) = true
  | [], _, _ => ⟨.refl, fun b hb => absurd hb (Nat.not_lt_zero b)⟩
  | x :: bs, n, s => by
    rw [List.zipIdx_cons, List.foldl_cons]
    obtain ⟨hkeep, hhead⟩ := s.launch_drives t e p (off + n) exp lane x
    obtain ⟨hrest, htail⟩ := State.launches_drive (t := t) (e := e) (p := p) (off := off) (exp := exp) (lane := lane) bs (n + 1)
      (s.launch t e p (off + n) exp lane x)
    refine ⟨hkeep.trans hrest, fun b hb => ?_⟩
    cases b with
    | zero => exact hrest.keeps _ hhead
    | succ b =>
      have h := htail b (by simpa using hb)
      rwa [show n + 1 + b = n + (b + 1) by omega] at h

/-- The sinks of an entry's run drive each of its output ports in each cycle of the run. -/
theorem State.routeSinks_drive (s : State) (t : Nat) (r : RouteE) (i : Issue) (bs : List Beat) (fenced : Bool) {p : Nat} (h1 : 1 ≤ p) (h6 : p ≤ 6)
    (hp : bitAt r.outmask p = true) : ∀ b < bs.length, ((s.routeSinks t r i bs fenced).tile t).driven.has (p * 65536 + (r.off + b)) = true := by
  intro b hb
  unfold State.routeSinks
  extract_lets s1
  have hmem : p ∈ (upTo 6).map (· + 1) := List.mem_map.mpr ⟨p - 1, List.mem_range.2 (by omega), by omega⟩
  obtain ⟨l1, l2, hl⟩ := List.append_of_mem hmem
  rw [hl, List.foldl_append, List.foldl_cons]
  refine (DrivenKept.foldl (fun a q => ?_) l2 _).keeps _ ?_
  · split
    · exact (State.launches_drive bs 0 a).1
    · exact .refl
  · rw [if_pos hp]
    have h := fun a => (State.launches_drive (t := t) (e := i.entry.val) (p := p) (off := r.off) (exp := r.exp && (outward t p).isSome) (lane := r.lane)
      bs 0 a).2 b hb
    simp only [Nat.zero_add] at h
    exact h _

/-! ### The beats of a run -/

theorem State.fromBuffers_length (s : State) (t c : Nat) (l : List (Nat × Nat)) : (s.fromBuffers t c l).2.length = l.length := by
  have h : ∀ (l : List ((Nat × Nat) × Nat)) (a : State × List Beat), (l.foldl (fun (a : State × List Beat) e =>
      let x := a.1.fromBuffer t (c + e.2) e.1.1 e.1.2
      (x.1, a.2 ++ [x.2])) a).2.length = a.2.length + l.length := fun l => by
    induction l with
    | nil => intro a; rfl
    | cons e l ih =>
      intro a
      rw [List.foldl_cons, ih, List.length_append]
      simp only [List.length_cons, List.length_nil]
      omega
  unfold State.fromBuffers
  rw [h, List.length_zipIdx]
  exact Nat.zero_add _
theorem State.takeBeats_length (t port : Nat) : ∀ (n c : Nat) (s : State), (s.takeBeats t port c n).2.length = n
  | 0, _, _ => rfl
  | n + 1, c, s => congrArg (· + 1) (State.takeBeats_length t port n (c + 1) (s.takeBeat t port c).1)
theorem State.schedRead_length (s : State) (t r c : Nat) : (s.schedRead t r c).2.length = 8 := by
  unfold State.schedRead
  split
  · exact State.rowBeats_length ..
  · rfl
theorem State.schedReads_length (t c : Nat) : ∀ (n r : Nat) (s : State), (s.schedReads t c r n).2.length = 8 * n
  | 0, _, _ => rfl
  | n + 1, r, s => by
    unfold State.schedReads
    dsimp only
    rw [List.length_append, State.schedRead_length, State.schedReads_length t c n]
    omega

theorem RouteE.beats_eq (r : RouteE) : r.beats = if r.inp = 0 ∧ r.lsrc = 0 then r.nb * (maskArrays r.tumask).length else r.nb := by
  simp [RouteE.beats]

/-- A run has as many beats as its entry says, whatever its source holds. -/
theorem State.routeSource_length (s : State) (t : Nat) (r : RouteE) (i : Issue) : (s.routeSource t r i).2.length = r.beats := by
  unfold State.routeSource
  rw [RouteE.beats_eq]
  by_cases hinp : r.inp = 0
  · rw [if_pos hinp]
    by_cases h0 : r.lsrc = 0
    · rw [if_pos h0, State.fromBuffers_length, if_pos ⟨hinp, h0⟩]
      have hl : ∀ l : List Nat, (l.flatMap (fun n => (upTo r.nb).map (fun j => (n, j)))).length = r.nb * l.length := fun l => by
        induction l with
        | nil => rfl
        | cons n l ih =>
          rw [List.flatMap_cons, List.length_append, ih, List.length_map, upTo_length, List.length_cons, Nat.mul_succ, Nat.add_comm]
      exact hl _
    · rw [if_neg h0, if_neg (c := r.inp = 0 ∧ r.lsrc = 0) (fun h => h0 h.2)]
      by_cases h1 : r.lsrc = 1
      · rw [if_pos h1]
        dsimp only
        rw [List.length_append, List.length_replicate]
        have := List.length_take_le r.nb (s.tile t).confOut
        omega
      · rw [if_neg h1]
        dsimp only
        split
        · exact List.length_replicate
        · rw [List.length_take, State.schedReads_length]
          unfold ceilDiv
          omega
  · rw [if_neg hinp, if_neg (c := r.inp = 0 ∧ r.lsrc = 0) (fun h => hinp h.1)]
    exact State.takeBeats_length ..

theorem routeEntry_drives {t : Tile} {e : Fin 2048} {s : State} (hdue : s.routeDue t.val e.val = true) (htr : s.noTransit t.val = false)
    (hbad : (s.tile t.val).rtrBad.mem e.val = false) (h7 : (s.route t.val e.val).inp ≠ 7)
    (h3 : (s.route t.val e.val).inp = 0 → (s.route t.val e.val).lsrc ≠ 3) :
    ∃ u, exec (.routeEntry t e true) s = .next u ∧ ∀ p, 1 ≤ p → p ≤ 6 → bitAt (s.route t.val e.val).outmask p = true →
      ∀ b < (s.route t.val e.val).beats, (u.tile t.val).driven.has (p * 65536 + ((s.route t.val e.val).off + b)) = true := by
  show ∃ u, execRouteEntry t e true s = .next u ∧ _
  unfold execRouteEntry
  dsimp only
  rw [hdue, htr]
  rw [State.tile_updTile_same, if_neg (by decide)]
  dsimp only
  rw [hbad, if_neg (by decide), if_neg (by simpa [h7] using h3)]
  split
  · exact ⟨_, rfl, fun p h1 h6 hp b hb => State.routeSinks_drive _ _ _ _ _ _ h1 h6 hp b (by rwa [List.length_replicate])⟩
  · exact ⟨_, rfl, fun p h1 h6 hp b hb => State.routeSinks_drive _ _ _ _ _ _ h1 h6 hp b (by rwa [State.routeSource_length])⟩

/-! ### Stations and crossings -/

/-- The state after a beat has left the place where it waited. -/
def State.leftLink (s : State) (k : Nat) : State := { s with links := s.links.del k }
def State.leftLane (s : State) (k : Nat) : State := { s with lanes := s.lanes.del k }

theorem beatArrival_taken {t : Tile} {port : Fin 7} {c : Fin 131072} {s : State} {b : LinkBeat}
    (hb : s.links.get? ((t.val * 8 + port.val) * 2 ^ 17 + c.val) = some b) (htr : s.noTransit t.val = false) (ho : s.owner t.val = some b.part)
    (hcrc : b.crcBad = false) (hf : (s.forwarded t.val port.val c.val || s.consumed t.val port.val c.val) = true) :
    ∃ u, exec (.beatArrival t port c true) s = .next u ∧ u.links.has ((t.val * 8 + port.val) * 2 ^ 17 + c.val) = false ∧
      (u.tile t.val).arrived.get? (port.val * 65536 + c.val) = some b.beat := by
  let v := s.leftLink ((t.val * 8 + port.val) * 2 ^ 17 + c.val)
  have hexec : exec (.beatArrival t port c true) s =
      .next (v.updTile t.val (fun y => { y with arrived := y.arrived.put (port.val * 65536 + c.val) b.beat })) := by
    show execBeatArrival t port c true s = _
    unfold execBeatArrival
    dsimp only
    rw [hb]
    show (if v.noTransit t.val then _ else _) = _
    rw [show v.noTransit t.val = false from htr, if_neg Bool.false_ne_true]
    unfold State.crcCheck
    rw [hcrc, Bool.not_false, Bool.and_self, if_pos rfl]
    show (match v.owner t.val with
      | none => _
      | some p => _) = _
    rw [show v.owner t.val = some b.part from ho]
    dsimp only
    rw [if_neg (fun h => h rfl)]
    show (if (v.forwarded t.val port.val c.val || v.consumed t.val port.val c.val) = true then _ else _) = _
    rw [show (v.forwarded t.val port.val c.val || v.consumed t.val port.val c.val) = true from hf, if_pos rfl]
    rfl
  refine ⟨_, hexec, Map.has_del_same .., ?_⟩
  rw [State.tile_updTile_same]
  exact Map.get?_put_same ..

theorem LinkBeat.passed (b : LinkBeat) (h : b.crcBad = false) : { b with beat := { b.beat with poison := b.beat.poison || false }, crcBad := false } = b := by
  rw [Bool.or_false, ← h]

/-- A beat at a station, on the lane or added by an edge tile, is taken from there and handled. -/
theorem expressStationPass_station {site : Site} {axis dir : Fin 2} {lane : Fin 104} {c : Fin 131072} {s : State} {b : LinkBeat} {added : Bool}
    (hl : s.lanes.has (laneOf site.val axis.val dir.val lane.val * 2 ^ 17 + c.val) = !added)
    (hb : s.lanes.get? ((if added then addOf (laneOf site.val axis.val dir.val lane.val) else laneOf site.val axis.val dir.val lane.val) * 2 ^ 17 + c.val) = some b)
    (htr : s.power.transitFault.mem site.val = false) (hcrc : b.crcBad = false) :
    exec (.expressStationPass site axis dir lane c true) s = .next ((s.leftLane
      ((if added then addOf (laneOf site.val axis.val dir.val lane.val) else laneOf site.val axis.val dir.val lane.val) * 2 ^ 17 + c.val)).station
        site.val axis.val dir.val lane.val c.val added b) := by
  show execExpressStationPass site axis dir lane c true s = _
  unfold execExpressStationPass
  dsimp only
  rw [hl, Bool.not_not, hb]
  dsimp only
  rw [htr, if_neg Bool.false_ne_true, hcrc, Bool.not_true, Bool.or_self, if_neg Bool.false_ne_true]
  congr 2
  exact LinkBeat.passed b hcrc

theorem State.intoLane_puts {s : State} {l c : Nat} {b : LinkBeat} (h : s.lanes.has (l * 2 ^ 17 + c) = false) :
    (s.intoLane l c b).lanes.get? (l * 2 ^ 17 + c) = some b := by
  unfold State.intoLane
  dsimp only
  rw [h, if_neg Bool.false_ne_true]
  exact Map.get?_put_same ..
theorem State.intoLink_puts {s : State} {t port c lane : Nat} {b : LinkBeat} (h : s.links.has ((t * 8 + port) * 2 ^ 17 + c) = false) :
    (s.intoLink t port c lane b).links.get? ((t * 8 + port) * 2 ^ 17 + c) = some b := by
  unfold State.intoLink
  dsimp only
  rw [h, if_neg Bool.false_ne_true]
  exact Map.get?_put_same ..
theorem Map.has_del_of_not {α : Type} {m : Map α} {k j : Nat} (h : m.has j = false) : (m.del k).has j = false := by
  rw [Map.has_del, h, Bool.and_false]

/-- A station that passes a beat of the segment's owner on puts it onto the segment. -/
theorem State.station_passes {s : State} {site axis dir lane c : Nat} {added : Bool} {b : LinkBeat}
    (he : added = true ∨ s.express.get (laneOf site axis dir lane * 2 ^ 17 + c) 0 = 1) (ho : s.laneOwner.get? (laneOf site axis dir lane) = some b.part) :
    s.station site axis dir lane c added b = s.ontoSegment site axis dir lane c b := by
  have h1 : (if added then 1 else s.express.get (laneOf site axis dir lane * 2 ^ 17 + c) 0) = 1 := by
    rcases he with h | h
    · rw [if_pos h]
    · rw [h, ite_self]
  unfold State.station
  dsimp only
  rw [h1, if_neg (by decide), if_pos rfl, if_neg (not_not_intro ho), if_pos rfl]
/-- A station that drops a beat of its own segment's owner puts it on the edge tile's port. -/
theorem State.station_drops {s : State} {site axis dir lane c k : Nat} {b : LinkBeat}
    (he : s.express.get (laneOf site axis dir lane * 2 ^ 17 + c) 0 = k + 2) (ho : s.inSegment (laneOf site axis dir lane) = some b.part) :
    s.station site axis dir lane c false b = s.intoLink (edgeTile site axis k).1 (edgeTile site axis k).2 (c + 3) lane b := by
  unfold State.station
  dsimp only
  rw [if_neg Bool.false_ne_true, he, if_neg (by omega), if_neg (by omega : ¬ k + 2 = 1), if_neg (not_not_intro ho), if_neg (by omega)]
  rfl

/-- A segment within a region leads to the next station, one at a region edge into its crossing buffer. -/
theorem State.ontoSegment_near {s : State} {site axis dir lane c n : Nat} {b : LinkBeat} (hn : nextStation site axis dir = some n)
    (hr : regionOfSite n = regionOfSite site) : s.ontoSegment site axis dir lane c b = s.intoLane (laneOf n axis dir lane) (c + 3) b := by
  unfold State.ontoSegment
  rw [hn]
  exact if_pos hr
theorem State.ontoSegment_crosses {s : State} {site axis dir lane c n : Nat} {b : LinkBeat} (hn : nextStation site axis dir = some n)
    (hr : regionOfSite n ≠ regionOfSite site) (hfree : (s.cross.get (2 ^ 20 + laneOf n axis dir lane) []).any (fun e => e.1 == c) = false)
    (hroom : (s.cross.get (2 ^ 20 + laneOf n axis dir lane) []).length < 128) :
    (s.ontoSegment site axis dir lane c b).cross.get (2 ^ 20 + laneOf n axis dir lane) [] =
      s.cross.get (2 ^ 20 + laneOf n axis dir lane) [] ++ [(c, b)] := by
  unfold State.ontoSegment State.intoCross
  rw [hn]
  dsimp only
  rw [if_neg hr, hfree, if_neg Bool.false_ne_true, if_pos hroom]
  exact Map.get_put_same ..

/-- The state after the beat launched in a cycle has left a crossing buffer. -/
def State.leftCross (s : State) (k launch : Nat) : State :=
  { s with cross := if ((s.cross.get k []).filter (fun e => e.1 != launch)).isEmpty then s.cross.del k
                    else s.cross.put k ((s.cross.get k []).filter (fun e => e.1 != launch)) }

theorem crossingRelease_link {place : Fin 524288} {launch edges : Fin 65536} {s : State} {p : Nat} (ho : s.owner (place.val / 8) = some p) {b : LinkBeat}
    (hb : ((s.cross.get place.val []).find? (fun e => e.1 == launch.val)).map (·.2) = some b)
    (hfree : s.links.has (place.val * 2 ^ 17 + (launch.val + 8 + s.g CSD_PCFG_XSLACK p)) = false) :
    ∃ u, exec (.crossingRelease false place launch true edges) s = .next u ∧
      u.links.get? (place.val * 2 ^ 17 + (launch.val + 8 + s.g CSD_PCFG_XSLACK p)) = some b := by
  have hexec : exec (.crossingRelease false place launch true edges) s = .next ((s.leftCross place.val launch.val).intoLink (place.val / 8) (place.val % 8)
      (launch.val + 8 + s.g CSD_PCFG_XSLACK p) 0 b) := by
    show execCrossingRelease false place launch true edges s = _
    unfold execCrossingRelease State.crossPart
    simp only [Bool.false_eq_true, if_false, ho, Option.some_or, if_true, hb]
    rfl
  have hplace : place.val / 8 * 8 + place.val % 8 = place.val := by omega
  refine ⟨_, hexec, ?_⟩
  have h := State.intoLink_puts (s := s.leftCross place.val launch.val) (t := place.val / 8) (port := place.val % 8)
    (c := launch.val + 8 + s.g CSD_PCFG_XSLACK p) (lane := 0) (b := b) (by rw [hplace]; exact hfree)
  rwa [hplace] at h

theorem crossingRelease_slips {place : Fin 524288} {launch edges : Fin 65536} {s : State} {p : Nat} (ho : s.owner (place.val / 8) = some p) :
    ∃ u, exec (.crossingRelease false place launch false edges) s = .next u ∧ (u.tile (place.val / 8)).report.slip = true := by
  have hexec : exec (.crossingRelease false place launch false edges) s =
      .next (((s.leftCross place.val launch.val).slipAt p false place.val (launch.val + 8 + s.g CSD_PCFG_XSLACK p) edges.val).intoLink
        (place.val / 8) (place.val % 8) (launch.val + 8 + s.g CSD_PCFG_XSLACK p) 0 ⟨Beat.zero false, p, place.val / 8, false⟩) := by
    show execCrossingRelease false place launch false edges s = _
    unfold execCrossingRelease State.crossPart
    simp only [Bool.false_eq_true, if_false, ho, Option.some_or]
    rfl
  have hslip : (((s.leftCross place.val launch.val).slipAt p false place.val (launch.val + 8 + s.g CSD_PCFG_XSLACK p) edges.val).tile
      (place.val / 8)).report.slip = true := by
    unfold State.slipAt State.slipTile
    dsimp only
    rw [if_neg (c := false = true) Bool.false_ne_true]
    dsimp only
    rw [State.tile_updTile_same]
  refine ⟨_, hexec, ?_⟩
  unfold State.intoLink
  dsimp only
  split
  · exact (State.rtrFault_tile (·.report.slip) (fun _ _ => rfl) _ _ _ _ _ _ _ _).trans hslip
  · exact hslip

theorem crossingRelease_lane {place : Fin 524288} {launch edges : Fin 65536} {s : State} {p : Nat} {b : LinkBeat} (ho : s.inSegment place.val = some p)
    (hb : ((s.cross.get (2 ^ 20 + place.val) []).find? (fun e => e.1 == launch.val)).map (·.2) = some b)
    (hfree : s.lanes.has (place.val * 2 ^ 17 + (launch.val + 8 + s.g CSD_PCFG_XSLACK p)) = false) :
    ∃ u, exec (.crossingRelease true place launch true edges) s = .next u ∧
      u.lanes.get? (place.val * 2 ^ 17 + (launch.val + 8 + s.g CSD_PCFG_XSLACK p)) = some b := by
  have hexec : exec (.crossingRelease true place launch true edges) s =
      .next ((s.leftCross (2 ^ 20 + place.val) launch.val).intoLane place.val (launch.val + 8 + s.g CSD_PCFG_XSLACK p) b) := by
    show execCrossingRelease true place launch true edges s = _
    unfold execCrossingRelease State.crossPart
    simp only [if_true, ho, Option.some_or, hb]
    rfl
  exact ⟨_, hexec, State.intoLane_puts (s := s.leftCross (2 ^ 20 + place.val) launch.val) hfree⟩

/-- Settles O28: each beat is found where it waits and put, unpoisoned, into the free place to which its entry, station or buffer sends it. -/
theorem routersStationsAndCrossings : Obligations.RoutersStationsAndCrossings := by
  unfold Obligations.RoutersStationsAndCrossings
  refine ⟨fun t e s hdue htr hbad h7 h3 => routeEntry_drives hdue htr hbad h7 h3, fun t port c s b hb htr ho hcrc hf => beatArrival_taken hb htr ho hcrc hf,
    fun site axis dir lane c s b added hl hb htr hcrc => ⟨fun n he ho hn => ⟨fun hr hfree => ?_, fun hr hfree hroom => ?_⟩, fun k ha he ho hfree => ?_⟩,
    fun place launch edges s p ho => ⟨fun b hb hfree => crossingRelease_link ho hb hfree, crossingRelease_slips ho⟩,
    fun place launch edges s p b ho hb hfree => crossingRelease_lane ho hb hfree⟩
  · refine ⟨_, expressStationPass_station hl hb htr hcrc, ?_⟩
    rw [State.station_passes (s := s.leftLane _) he ho, State.ontoSegment_near hn hr]
    exact State.intoLane_puts (s := s.leftLane _) (Map.has_del_of_not hfree)
  · refine ⟨_, expressStationPass_station hl hb htr hcrc, ?_⟩
    rw [State.station_passes (s := s.leftLane _) he ho]
    exact State.ontoSegment_crosses (s := s.leftLane _) hn hr hfree hroom
  · subst ha
    refine ⟨_, expressStationPass_station hl hb htr hcrc, ?_⟩
    rw [State.station_drops (s := s.leftLane _) he ho]
    exact State.intoLink_puts (s := s.leftLane _) hfree

end Sys2Proof.Machine
end

section
/-! PROOF. The end of a WRB (02 R46): O13. -/

namespace Sys2Proof.Machine

open Sys2Proof Sys2Proof.Safety

theorem maskArrays_nodup (m : Nat) : (maskArrays m).Nodup := List.nodup_range.filter _
theorem maskArrays_lt {m n : Nat} (h : n ∈ maskArrays m) : n < 8 := List.mem_range.1 (List.mem_filter.1 h).1

/-! ### Keys of the fields of banks -/

theorem bstateF_lo (pl : Nat) : (bstateF pl).lo = 26 := by
  unfold bstateF
  split <;> rfl
theorem degradedF_lo (pl : Nat) : (degradedF pl).lo = 24 := by
  unfold degradedF
  split <;> rfl
theorem bstateF_width (pl : Nat) : (bstateF pl).width = 3 := by
  unfold bstateF
  split <;> rfl
theorem bstateF_upper (pl t n : Nat) : (bstateF pl).upper t n := Fld.upper_of_lo (bstateF_lo pl ▸ by decide) (bstateF_lo pl ▸ by decide)
theorem bstateF_key_ne_of_lo {f : Fld} (h32 : f.lo < 32) (h : f.lo ≠ 26) {pl t n inst i : Nat} : (bstateF pl).key t n ≠ f.key inst i :=
  Fld.key_ne_of_lo (bstateF_lo pl ▸ by decide) h32 (bstateF_lo pl ▸ h.symm)
theorem degradedF_key_ne_of_lo {f : Fld} (h32 : f.lo < 32) (h : f.lo ≠ 24) {pl t n inst i : Nat} : (degradedF pl).key t n ≠ f.key inst i :=
  Fld.key_ne_of_lo (degradedF_lo pl ▸ by decide) h32 (degradedF_lo pl ▸ h.symm)
theorem degradedF_key_ne_bstateF {pl ql t n u m : Nat} : (degradedF pl).key t n ≠ (bstateF ql).key u m :=
  degradedF_key_ne_of_lo (bstateF_lo ql ▸ by decide) (bstateF_lo ql ▸ by decide)
/-- The states of different arrays, or of the two banks of an array, are different registers. -/
theorem bstateF_key_ne {pl ql t n m : Nat} (h : n ≠ m) : (bstateF pl).key t n ≠ (bstateF ql).key t m := by
  unfold bstateF
  split <;> split <;>
    · simp only [Fld.key, Fld.offset, ARR_BANK_CFG0_BSTATE, ARR_BANK_CFG1_BSTATE]
      omega
theorem State.setReg_bstate (s : State) (pl t n : Nat) {v : Nat} (h : v < 8) : (s.setReg (bstateF pl) t n v).reg (bstateF pl) t n = v := by
  rw [State.reg_setReg_same, bstateF_width]
  exact Nat.mod_eq_of_lt h

/-! ### One array at the end of a WRB -/

theorem State.failBank_of_empty {s : State} {t n pl : Nat} (h : s.reg (bstateF pl) t n = bsEmpty) : s.failBank t n pl = s := by
  unfold State.failBank
  rw [h]
  exact if_neg (by decide)
/-- A remap sets DEGRADED where the bank has a spare left, and is given up with the bank and the array elsewhere. -/
theorem State.beginRemap_cases (s : State) (t n pl g : Nat) (isRow : Bool) :
    (∃ m m', s.beginRemap t n pl g isRow = ({ s with cal := { s.cal with remap := m, remapNow := m' } } : State).setReg (degradedF pl) t n 1) ∨
      s.beginRemap t n pl g isRow = (s.failBank t n pl).needsSpare t n :=
  (Decidable.em _).imp (fun h => ⟨_, _, if_pos h⟩) (fun h => if_neg h)
/-- Noting a mismatching row of an empty bank writes no register but DEGRADED. -/
theorem State.spareRow_reg {s : State} {t n pl row : Nat} (he : s.reg (bstateF pl) t n = bsEmpty) {f : Fld} {inst i : Nat}
    (hd : (degradedF pl).key t n ≠ f.key inst i) : (s.spareRow t n pl row).reg f inst i = s.reg f inst i := by
  have hr : (s.beginRemap t n pl row true).reg f inst i = s.reg f inst i := by
    rcases s.beginRemap_cases t n pl row true with ⟨m, m', h⟩ | h
    · rw [h, State.reg_setReg_other hd]
      rfl
    · rw [h, State.failBank_of_empty he]
      rfl
  unfold State.spareRow
  dsimp only
  split
  · exact hr
  · rfl
theorem State.spareRows_reg {t n pl : Nat} {f : Fld} {inst i : Nat} (hd : (degradedF pl).key t n ≠ f.key inst i) :
    ∀ (l : List Nat) {s : State}, s.reg (bstateF pl) t n = bsEmpty → (l.foldl (fun s r => s.spareRow t n pl r) s).reg f inst i = s.reg f inst i
  | [], _, _ => rfl
  | r :: l, s, he => by
    have hr : (s.spareRow t n pl r).reg (bstateF pl) t n = bsEmpty :=
      (State.spareRow_reg he degradedF_key_ne_bstateF).trans he
    rw [List.foldl_cons, State.spareRows_reg hd l hr, State.spareRow_reg he hd]

/-- The bank of an array with mismatching rows, before the rows are noted. -/
def State.mismatched (s : State) (t cycle entry pl n r : Nat) : State :=
  ((s.emptyBank t n pl).setReg ARR_TROUBLE_WB_MISMATCH t n 1).tileFault t
    { code := 0x3031, unit := 0, cycle := cycle, seqoff := entry, detail := n * 4096 + pl * 2048 + r }
theorem State.mismatched_reg {s : State} {t cycle entry pl n r : Nat} {f : Fld} {inst i : Nat} (hu : f.upper inst i) :
    (s.mismatched t cycle entry pl n r).reg f inst i = ((s.emptyBank t n pl).setReg ARR_TROUBLE_WB_MISMATCH t n 1).reg f inst i :=
  (State.tileFault_sameUpper .refl).reg _ _ _ hu
theorem State.mismatched_bstate (s : State) (t cycle entry pl n r : Nat) : (s.mismatched t cycle entry pl n r).reg (bstateF pl) t n = bsEmpty := by
  rw [State.mismatched_reg (bstateF_upper ..), State.reg_setReg_other (bstateF_key_ne_of_lo (by decide) (by decide)).symm]
  exact State.setReg_bstate _ _ _ _ (by decide)

/-- The end of a write in an array changes, among the states of banks and the mismatch bits, only its own. -/
theorem State.wrbEnd_reg {s : State} {t cycle entry pl n row last : Nat} {bad : List Nat} {f : Fld} {inst i : Nat} (hu : f.upper inst i)
    (hb : (bstateF pl).key t n ≠ f.key inst i) (hw : ARR_TROUBLE_WB_MISMATCH.key t n ≠ f.key inst i) (hd : (degradedF pl).key t n ≠ f.key inst i) :
    (s.wrbEnd t cycle entry pl n row last bad).reg f inst i = s.reg f inst i := by
  cases bad with
  | nil => exact State.reg_setReg_other hb
  | cons r bad =>
    refine (State.spareRows_reg hd (r :: bad) (s.mismatched_bstate t cycle entry pl n r)).trans ?_
    rw [State.mismatched_reg hu, State.reg_setReg_other hw]
    exact State.reg_setReg_other hb
theorem State.wrbEnd_ready (s : State) (t cycle entry pl n row last : Nat) : (s.wrbEnd t cycle entry pl n row last []).reg (bstateF pl) t n = bsReady :=
  State.setReg_bstate _ _ _ _ (by decide)
theorem State.wrbEnd_empty (s : State) (t cycle entry pl n row last : Nat) {bad : List Nat} (h : bad ≠ []) :
    (s.wrbEnd t cycle entry pl n row last bad).reg ARR_TROUBLE_WB_MISMATCH t n = 1 ∧
      (s.wrbEnd t cycle entry pl n row last bad).reg (bstateF pl) t n = bsEmpty := by
  cases bad with
  | nil => exact absurd rfl h
  | cons r bad =>
    constructor
    · refine (State.spareRows_reg (degradedF_key_ne_of_lo (by decide) (by decide)) (r :: bad) (s.mismatched_bstate t cycle entry pl n r)).trans ?_
      rw [State.mismatched_reg (Fld.upper_of_lo (by decide) (by decide))]
      exact State.reg_setReg_same ..
    · exact (State.spareRows_reg degradedF_key_ne_bstateF (r :: bad)
        (s.mismatched_bstate t cycle entry pl n r)).trans (s.mismatched_bstate t cycle entry pl n r)

/-- The end of a write leaves the writes in progress as they are. -/
theorem State.wrbEnd_wrbRun (s : State) (t cycle entry pl n row last : Nat) (bad : List Nat) :
    ((s.wrbEnd t cycle entry pl n row last bad).tile t).wrbRun = (s.tile t).wrbRun := by
  have hspare : ∀ (a : State) (r : Nat), ((a.spareRow t n pl r).tile t).wrbRun = (a.tile t).wrbRun := fun a r => by
    have hremap : (a.beginRemap t n pl r true).tile t = a.tile t := by
      rcases a.beginRemap_cases t n pl r true with ⟨m, m', h⟩ | h
      · rw [h]
        rfl
      · rw [h]
        unfold State.failBank
        split <;> rfl
    unfold State.spareRow
    dsimp only
    split <;> rw [State.tile_updTile_same]
    rw [hremap]
  cases bad with
  | nil =>
    unfold State.wrbEnd
    rw [State.tile_updTile_same]
    rfl
  | cons r bad =>
    refine (foldl_keep (fun a : State => (a.tile t).wrbRun) (fun a b => hspare a b) (r :: bad) _).trans ?_
    rw [State.tile_tileFault_same]
    rfl

/-! ### The completion -/

theorem mem_rowRun {r n k : Nat} : k ∈ rowRun r n ↔ r ≤ k ∧ k < r + n := by
  unfold rowRun upTo
  rw [List.mem_map]
  refine ⟨fun ⟨j, hj, h⟩ => ?_, fun h => ⟨k - r, List.mem_range.2 (by omega), by omega⟩⟩
  have := List.mem_range.1 hj
  omega

/-- The rows of a write that read back unequal in an array: those found, and the first one where a mismatch is injected (R392). -/
def unequalRows (injected : Bool) (bad : List (Fin 8 × Fin 1024)) (row last n : Nat) : List Nat :=
  (rowRun row (last - row)).filter (fun k => (injected && n == 0 && k == row) || bad.any (fun b => b.1.val == n && b.2.val == k))
theorem unequalRows_ne_nil {injected : Bool} {bad : List (Fin 8 × Fin 1024)} {row last n : Nat} (h : row < last) :
    unequalRows injected bad row last n ≠ [] ↔
      (injected = true ∧ n = 0) ∨ ∃ b ∈ bad, b.1.val = n ∧ row ≤ b.2.val ∧ b.2.val < last := by
  rw [← List.length_pos_iff, List.length_pos_iff_exists_mem]
  unfold unequalRows
  simp only [List.mem_filter, mem_rowRun, Bool.or_eq_true, Bool.and_eq_true, beq_iff_eq, List.any_eq_true]
  constructor
  · rintro ⟨k, hk, ⟨⟨hi, hn⟩, -⟩ | ⟨b, hb, hbn, rfl⟩⟩
    · exact Or.inl ⟨hi, hn⟩
    · exact Or.inr ⟨b, hb, hbn, hk.1, by omega⟩
  · rintro (⟨hi, hn⟩ | ⟨b, hb, hbn, hrow, hlast⟩)
    · exact ⟨row, by omega, Or.inl ⟨⟨hi, hn⟩, rfl⟩⟩
    · exact ⟨b.2.val, by omega, Or.inr ⟨b, hb, hbn, rfl⟩⟩

/-- The state in which a write's arrays are judged: the injection is spent, and the write is no longer in progress. -/
def State.wrbOver (s : State) (t entry : Nat) (arrs : List Nat) : State :=
  (s.wrbInject t arrs).1.updTile t (fun x => { x with wrbRun := x.wrbRun.del entry })
theorem State.wrbInject_on (s : State) {t : Nat} {arrs : List Nat} (h : 0 ∈ arrs) :
    (s.wrbInject t arrs).2 = decide (s.reg (HDR_ERR_INJECT .arr) t 0 = 1) := by
  unfold State.wrbInject
  rw [List.contains_iff_mem.2 h, Bool.true_and]
  by_cases hr : s.reg (HDR_ERR_INJECT .arr) t 0 = 1 <;> simp [hr]

/-- Each array of the write is judged by its own rows, whatever the others do. -/
theorem wrbEnds_judge {a : State} {t cycle entry pl row last : Nat} {arrs : List Nat} {n : Nat} (hnd : arrs.Nodup) (hn : n ∈ arrs) (bad : Nat → List Nat) :
    let u := arrs.foldl (fun s n => s.wrbEnd t cycle entry pl n row last (bad n)) a
    if bad n ≠ [] then u.reg ARR_TROUBLE_WB_MISMATCH t n = 1 ∧ u.reg (bstateF pl) t n = bsEmpty else u.reg (bstateF pl) t n = bsReady := by
  intro u
  obtain ⟨b, -, hb⟩ := foldl_step_at (f := fun s n => State.wrbEnd s t cycle entry pl n row last (bad n)) (p := n)
    (fun s : State => (s.reg ARR_TROUBLE_WB_MISMATCH t n, s.reg (bstateF pl) t n)) (fun s m hm => by
      have hne : ARR_TROUBLE_WB_MISMATCH.key t m ≠ ARR_TROUBLE_WB_MISMATCH.key t n := by
        simp only [Fld.key, Fld.offset, ARR_TROUBLE_WB_MISMATCH]
        omega
      rw [Prod.mk.injEq]
      exact ⟨State.wrbEnd_reg (Fld.upper_of_lo (by decide) (by decide)) (bstateF_key_ne_of_lo (by decide) (by decide)) hne
          (degradedF_key_ne_of_lo (by decide) (by decide)),
        State.wrbEnd_reg (bstateF_upper ..) (bstateF_key_ne hm) (bstateF_key_ne_of_lo (by decide) (by decide)).symm degradedF_key_ne_bstateF⟩) hnd hn a
  obtain ⟨hw, hs⟩ := Prod.mk.inj hb
  by_cases hbad : bad n = []
  · rw [if_neg (not_not_intro hbad)]
    refine hs.trans ?_
    rw [hbad]
    exact b.wrbEnd_ready ..
  · rw [if_pos hbad]
    obtain ⟨hm, he⟩ := b.wrbEnd_empty t cycle entry pl n row last hbad
    exact ⟨hw.trans hm, hs.trans he⟩

/-- Settles O13: every array of the write is judged by its own rows, and the write is no longer in progress. -/
theorem wrbCompleteJudgesEveryRow : Obligations.WrbCompleteJudgesEveryRow := by
  unfold Obligations.WrbCompleteJudgesEveryRow
  intro tile entry bad s r hr
  let arrs := maskArrays (amaskOf r.word)
  let row := 8 * bits r.word 49 43
  let last := row + 8 * (bits r.word 42 36 + 1)
  let rows := unequalRows (s.wrbInject tile.val arrs).2 bad row last
  let u := arrs.foldl (fun s n => s.wrbEnd tile.val (r.cycle + last - row + 10) entry.val (bits r.word 50 50) n row last (rows n))
    (s.wrbOver tile.val entry.val arrs)
  have hexec : exec (.wrbComplete tile entry bad) s = .next u := by
    show execWrbComplete tile entry bad s = _
    unfold execWrbComplete
    dsimp only
    rw [hr]
    rfl
  refine ⟨u, hexec, ?_, fun n hn => ?_⟩
  · have hrun : (u.tile tile.val).wrbRun = ((s.wrbOver tile.val entry.val arrs).tile tile.val).wrbRun :=
      foldl_keep (fun a : State => (a.tile tile.val).wrbRun) (fun a m => a.wrbEnd_wrbRun ..) arrs _
    rw [hrun]
    unfold State.wrbOver
    rw [State.tile_updTile_same]
    exact Map.has_del_same ..
  · have hj := wrbEnds_judge (a := s.wrbOver tile.val entry.val arrs) (t := tile.val) (cycle := r.cycle + last - row + 10) (entry := entry.val)
      (pl := bits r.word 50 50) (row := row) (last := last) (maskArrays_nodup _) hn rows
    have hrows : rows n ≠ [] ↔ (n = 0 ∧ s.reg (HDR_ERR_INJECT .arr) tile.val 0 = 1) ∨ ∃ b ∈ bad, b.1.val = n ∧ row ≤ b.2.val ∧ b.2.val < last := by
      refine (unequalRows_ne_nil (by omega)).trans (or_congr_left ⟨fun ⟨hi, h0⟩ => ⟨h0, ?_⟩, fun ⟨h0, hi⟩ => ⟨?_, h0⟩⟩)
      · rw [State.wrbInject_on s (h0 ▸ hn)] at hi
        exact of_decide_eq_true hi
      · rw [State.wrbInject_on s (h0 ▸ hn)]
        exact decide_eq_true hi
    by_cases h : rows n ≠ []
    · rw [if_pos (hrows.1 h)]
      exact (if_pos h ▸ hj :)
    · rw [if_neg (fun hc => h (hrows.2 hc))]
      exact (if_neg h ▸ hj :)

end Sys2Proof.Machine
end

section
/-! PROOF. RED, RDB and WRB (02 R44, R45, R55 to R58): O12. -/

namespace Sys2Proof.Machine

open Sys2Proof Sys2Proof.Safety

/-! ### Output buffers -/

/-- A buffer slot that holds a beat stays so, whatever a run of beats puts into the buffer. -/
theorem putBeats_has {g : Nat → Nat} {k : Nat} : ∀ (l : List (Beat × Nat)) (m : Map Beat), m.has k = true →
    (l.foldl (fun m e => m.put (g e.2) e.1) m).has k = true
  | [], _, h => h
  | e :: l, m, h => putBeats_has l _ (by rw [Map.has_put, h, Bool.or_true])
theorem TileSt.fillOut_has {x : TileSt} {k : Nat} (h : x.outBuf.has k = true) (n : Nat) (bs : List Beat) : (x.fillOut n bs).outBuf.has k = true :=
  putBeats_has (g := fun j => n * 8 + j % 8) _ _ h
/-- A run of one beat or more fills the first slot of its buffer. -/
theorem TileSt.fillOut_first (x : TileSt) (n : Nat) {bs : List Beat} (h : bs ≠ []) : (x.fillOut n bs).outBuf.has (8 * n) = true := by
  cases bs with
  | nil => exact absurd rfl h
  | cons b bs =>
    have h0 : (x.outBuf.put (n * 8 + 0 % 8) b).has (8 * n) = true := by
      rw [show n * 8 + 0 % 8 = 8 * n by omega]
      exact Map.has_put_same ..
    exact putBeats_has (g := fun j => n * 8 + j % 8) (bs.zipIdx 1) _ h0
/-- Each run of a list fills the first slot of its buffer. -/
theorem fillOuts_first {β : Type} {arr : β → Nat} {run : β → List Beat} {l : List β} {e : β} (hrun : run e ≠ []) (he : e ∈ l) (x : TileSt) :
    (l.foldl (fun x e => x.fillOut (arr e) (run e)) x).outBuf.has (8 * arr e) = true := by
  have hkeep : ∀ (l : List β) (x : TileSt), x.outBuf.has (8 * arr e) = true →
      (l.foldl (fun x e => x.fillOut (arr e) (run e)) x).outBuf.has (8 * arr e) = true := fun l => by
    induction l with
    | nil => exact fun _ h => h
    | cons b l ih => exact fun x h => ih _ (TileSt.fillOut_has h ..)
  obtain ⟨l1, l2, rfl⟩ := List.append_of_mem he
  rw [List.foldl_append, List.foldl_cons]
  exact hkeep l2 _ (TileSt.fillOut_first _ _ hrun)

/-! ### RED -/

theorem State.tileRecord_tile (s : State) (t : Nat) (r : Rec) (u : Nat) : (s.tileRecord t r).tile u = s.tile u := State.record_tile ..
theorem State.blockTrouble_outBuf (s : State) (t cycle entry : Nat) (outs : List TailOut) (bl : List ((Nat × Bool) × List QBlock)) :
    ((s.blockTrouble t cycle entry outs bl).tile t).outBuf = (s.tile t).outBuf := by
  have hrec : ∀ a : State, ∀ code, (((a.numTrouble t cycle entry code).reportRec t).tile t).outBuf = (a.tile t).outBuf := fun a code => by
    unfold State.reportRec State.numTrouble
    rw [State.tile_updTile_same, State.tileRecord_tile]
  unfold State.blockTrouble
  extract_lets all sats unds s1
  have h1 : (s1.tile t).outBuf = (s.tile t).outBuf := by
    unfold s1
    split
    · rfl
    · rw [hrec]
      rfl
  clear_value s1
  split
  · exact h1
  · rw [hrec]
    exact h1

theorem mem_placeOuts {l : List TailOut} {o : TailOut} (h : o ∈ l) : ∃ q ∈ placeOuts l, q.of_ = o.of_ := by
  obtain ⟨k, hk⟩ := List.mem_iff_getElem?.1 h
  unfold placeOuts
  refine ⟨_, List.mem_map.2 ⟨(o, k), List.mem_zipIdx_iff_getElem?.2 hk, rfl⟩, rfl⟩
/-- Each array of an operation has its outputs. -/
theorem State.mem_tailOuts (s : State) (t tcfg : Nat) {arrs : List TailArr} {vals : List (List Int)} (hl : arrs.length = vals.length) {a : TailArr}
    (ha : a ∈ arrs) : ∃ o ∈ s.tailOuts t tcfg arrs vals, o.of_ = a := by
  obtain ⟨k, hk, rfl⟩ := List.mem_iff_getElem.1 ha
  have hz : (arrs[k], vals[k]'(hl ▸ hk)) ∈ arrs.zip vals := List.mem_iff_getElem.2 ⟨k, by simp [← hl, hk], List.getElem_zip⟩
  obtain ⟨q, hq, hof⟩ := mem_placeOuts (List.mem_map_of_mem (f := fun e : TailArr × List Int => (⟨e.1, s.reg (ARR_TCFG_PRED tcfg) t e.1.arr,
    s.flag (ARR_TCFG_OFMT tcfg) t e.1.arr, 0, s.tailVals t e.1.arr e.1.plane tcfg e.2⟩ : TailOut)) hz)
  exact ⟨q, hq, hof⟩

/-- The tail of an operation leaves a beat in the first slot of each of its arrays. -/
theorem State.tailPath_first (s : State) (t cycle entry tcfg retRow : Nat) {arrs : List TailArr} {vals : List (List Int)} (poison trouble : List Bool)
    (hl : arrs.length = vals.length) {a : TailArr} (ha : a ∈ arrs) :
    ((s.tailPath t cycle entry tcfg retRow arrs vals poison trouble).tile t).outBuf.has (8 * a.arr) = true := by
  obtain ⟨o, ho, hof⟩ := s.mem_tailOuts t tcfg hl ha
  obtain ⟨k, hk⟩ := List.mem_iff_getElem?.1 ho
  have hz : (o, k) ∈ (s.tailOuts t tcfg arrs vals).zipIdx := List.mem_zipIdx_iff_getElem?.2 hk
  unfold State.tailPath
  extract_lets outs first q bl s1 bad s2 s3
  have h2 : (s2.tile t).outBuf.has (8 * a.arr) = true := by
    unfold s2
    rw [State.tile_updTile_same]
    have h := fillOuts_first (arr := fun e : TailOut × Nat => e.1.of_.arr) (run := fun e => outBeats e.1.off e.1.xs.length e.1.a4 (blocksOf bl e.1)
      ((poison[e.2]?).getD false) (((trouble[e.2]?).getD false) || bad)) (List.cons_ne_nil _ _) hz (s1.tile t)
    dsimp only at h
    rwa [hof] at h
  have h3 : (s3.tile t).outBuf.has (8 * a.arr) = true := by
    unfold s3
    rw [State.blockTrouble_outBuf]
    exact h2
  clear_value s3
  split
  · rw [State.tile_updTile_same]
    exact h3
  · exact h3

theorem redVals_pos {nb : Nat} (h : 1 ≤ nb) : 21 ≤ redVals nb := by
  unfold redVals
  omega
theorem packP24_length (vs : List Int) : (packP24 vs).length = 3 * vs.length := by
  unfold packP24
  induction vs with
  | nil => rfl
  | cons v vs ih =>
    rw [List.flatMap_cons, List.length_append, ih, bytesOf_length, List.length_cons]
    omega
/-- The values of a stream, packed, make beats; the first of them stays. -/
theorem packedBeats_ne_nil {l : List Int} (h : l ≠ []) {nb : Nat} (hnb : 1 ≤ nb) (p q : Bool) : (beatsOf (packP24 l) p q).take nb ≠ [] := by
  have hl := List.length_pos_iff.2 h
  refine List.ne_nil_of_length_pos ?_
  rw [List.length_take, beatsOf_length, packP24_length]
  omega

/-- The beats that an array's sums make without a tail. -/
def packedRun (sums : List (List (Int × Bool))) (nb : Nat) (poison trouble : List Bool) (q : Bool) (a : Nat × Nat) : List Beat :=
  (beatsOf (packP24 (((sums[a.2]?).getD []).map (fun v => satSym 8388607 v.1))) ((poison[a.2]?).getD false) (((trouble[a.2]?).getD false) || q)).take nb
theorem packedRun_ne_nil {sums : List (List (Int × Bool))} {nb : Nat} {a : Nat × Nat} (hs : (sums[a.2]?).getD [] ≠ []) (hnb : 1 ≤ nb)
    (poison trouble : List Bool) (q : Bool) : packedRun sums nb poison trouble q a ≠ [] :=
  packedBeats_ne_nil (fun h => hs (List.map_eq_nil_iff.1 h)) hnb _ _
/-- The sums of an operation without a tail, packed, fill the first slot of each array whose sums are not empty. -/
theorem packedOuts_first {arrs : List Nat} {sums : List (List (Int × Bool))} {n k nb : Nat} (hk : arrs[k]? = some n) (hs : (sums[k]?).getD [] ≠ [])
    (hnb : 1 ≤ nb) (poison trouble : List Bool) (q : Bool) (x : TileSt) :
    (arrs.zipIdx.foldl (fun x a => x.fillOut a.1 (packedRun sums nb poison trouble q a)) x).outBuf.has (8 * n) = true :=
  fillOuts_first (arr := Prod.fst) (run := packedRun sums nb poison trouble q) (e := (n, k)) (packedRun_ne_nil hs hnb poison trouble q)
    (List.mem_zipIdx_iff_getElem?.2 hk) x

/-- An accepted RED leaves a beat in the first slot of each selected tail unit. -/
theorem State.redAccept_first (s : State) (i : Issue) {n : Nat} (hn : n ∈ maskArrays (amaskOf i.word.toNat)) :
    ((s.redAccept i).tile i.tile.val).outBuf.has (8 * n) = true := by
  unfold State.redAccept
  extract_lets w t c e arrs ina inb loc nb tot spans s1 ra rb s2 streams sums poison trouble isWide wides wideArrs s3 bad s4 isPast pastArrs s5
  have hsums : sums.length = arrs.length := by
    unfold sums
    rw [List.length_map, List.length_zipIdx]
  obtain ⟨k, hk⟩ := List.mem_iff_getElem?.1 hn
  split
  · exact State.tailPath_first _ _ _ _ _ _ _ _ (by simp [wides, hsums]) (a := ⟨n, _, _⟩) (List.mem_map_of_mem hn)
  · rw [State.tile_updTile_same]
    have hk' : 0 < ((sums[k]?).getD []).length := by
      have hs : sums[k]? = some (t4Sums ((streams k n).map (fun l => p24Of (l.flatMap (·.data)))) (redVals nb)) := by
        unfold sums
        rw [List.getElem?_map, List.getElem?_zipIdx, hk, Option.map_some, Option.map_some, Nat.zero_add]
      rw [hs, Option.getD_some]
      unfold t4Sums
      rw [List.length_map, upTo_length]
      exact Nat.lt_of_lt_of_le (by decide) (redVals_pos (Nat.succ_pos _))
    exact packedOuts_first hk (List.ne_nil_of_length_pos hk') (Nat.succ_pos _) poison trouble _ _

theorem red_runs {i : Issue} {s : State} (hi : issuable s i 0) (hop : opcOf i.word.toNat = 3) (harrs : maskArrays (amaskOf i.word.toNat) ≠ [])
    (hres : bits i.word.toNat 21 0 = 0) (ha : bits i.word.toNat 50 48 ≠ 7) (hb : bits i.word.toNat 47 45 ≠ 7)
    (hfree : ∀ n ∈ maskArrays (amaskOf i.word.toNat), redFree (seen s i) i n) (hport : portOpen (seen s i) i 0 (redRows i.word.toNat)) :
    exec (.red i) s = .next (((seen s i).portClaim i.tile.val i.cycle.val 0 i.word.toNat (redRows i.word.toNat)).redAccept i) := by
  have hform : ((maskArrays (amaskOf i.word.toNat)).isEmpty || bits i.word.toNat 21 0 != 0 || bits i.word.toNat 50 48 == 7 || bits i.word.toNat 47 45 == 7) = false := by
    simp [harrs, hres, ha, hb]
  have hcodes : refusals (maskArrays (amaskOf i.word.toNat)) (fun n => firstCode [(((seen s i).tile i.tile.val).stageBusy n
      ((seen s i).redSpans i.tile.val i.cycle.val i.word.toNat (maskArrays (amaskOf i.word.toNat)) n), 0x1017)]) = [] :=
    refusals_nil (fun n hn => by rw [show TileSt.stageBusy _ _ _ = false from hfree n hn]; rfl)
  show execRed i s = _
  unfold execRed
  rw [issue_runs hi]
  unfold State.runRed
  dsimp only
  rw [hop, bne_self_eq_false, if_neg Bool.false_ne_true, hform, if_neg Bool.false_ne_true, hcodes, List.isEmpty_nil, Bool.not_true,
    if_neg Bool.false_ne_true, hport, if_neg Bool.false_ne_true]

/-! ### RDB -/

/-- The bytes of a run of 64-byte rows of a bank. -/
theorem State.bankBeats_bytes (s : State) (t n pl r k : Nat) : WholeBeats (s.bankBeats t n pl r k) ∧ (s.bankBeats t n pl r k).length = k ∧
    beatBytes (s.bankBeats t n pl r k) = Memory.readBytes s.mem (bankRow t (s.arrPos t n) pl r) (64 * k) := by
  unfold State.bankBeats
  refine ⟨fun b hb => ?_, ?_, ?_⟩
  · obtain ⟨j, -, rfl⟩ := List.mem_map.1 hb
    exact Memory.readBytes_length ..
  · rw [List.length_map, upTo_length]
  · rw [← flatMap_readBytes]
    unfold beatBytes
    rw [List.flatMap_map]
    rw [List.flatMap_def, List.flatMap_def]
    refine congrArg List.flatten (List.map_congr_left fun j _ => ?_)
    rw [show bankRow t (s.arrPos t n) pl (r + j) = bankRow t (s.arrPos t n) pl r + 64 * j by unfold bankRow; omega]

theorem rdb_runs {i : Issue} {s : State} {n : Nat} (hi : issuable s i 0) (hop : opcOf i.word.toNat = 5) (harrs : maskArrays (amaskOf i.word.toNat) = [n])
    (hres : bits i.word.toNat 25 0 = 0) (hrows : 8 * bits i.word.toNat 49 43 + 8 * (bits i.word.toNat 42 36 + 1) ≤ 1024) (hfree : rdbFree (seen s i) i n)
    (hport : portOpen (seen s i) i 0 (bankRows i.word.toNat)) :
    ∃ u, exec (.rdb i) s = .next u ∧ u.mem = (((seen s i).portClaim i.tile.val i.cycle.val 0 i.word.toNat (bankRows i.word.toNat)).schedWrites i.tile.val
      i.cycle.val (bits i.word.toNat 35 26) (((seen s i).portClaim i.tile.val i.cycle.val 0 i.word.toNat (bankRows i.word.toNat)).bankBeats i.tile.val n
        (bits i.word.toNat 50 50) (8 * bits i.word.toNat 49 43) (8 * (bits i.word.toNat 42 36 + 1))) (bits i.word.toNat 42 36 + 1)).mem := by
  obtain ⟨hmvm, hready, hwrb, hrdb⟩ := hfree
  have hpast : bankPast i.word.toNat = false := decide_eq_false (by omega)
  have hcodes : refusals [n] (fun n => firstCode [(Win.active (((seen s i).tile i.tile.val).wrbWin.get? n) i.cycle.val ||
      Win.active (((seen s i).tile i.tile.val).rdbWin.get? n) i.cycle.val, 0x101A), ((seen s i).mvmOn i.tile.val n (bits i.word.toNat 50 50) i.cycle.val ||
      (seen s i).reg (bstateF (bits i.word.toNat 50 50)) i.tile.val n != bsReady, 0x1014)]) = [] :=
    refusals_nil (fun m hm => by
      obtain rfl := List.mem_singleton.1 hm
      simp [firstCode, hmvm, hready, hwrb, hrdb])
  show ∃ u, execRdb i s = .next u ∧ _
  unfold execRdb
  rw [issue_runs hi]
  refine ⟨_, rfl, ?_⟩
  unfold State.runRdb
  dsimp only
  rw [hop, bne_self_eq_false, if_neg Bool.false_ne_true, harrs, hres, hpast, List.isEmpty_cons, bne_self_eq_false, Bool.or_self, Bool.or_self,
    if_neg Bool.false_ne_true, hcodes, List.isEmpty_nil, Bool.not_true, if_neg Bool.false_ne_true, hport, if_neg Bool.false_ne_true]
  rfl

/-! ### The three commands -/

/-- Settles O12: a RED's streams are never empty, an RDB's rows go where its window lets them, and a WRB puts each of its banks into LOADING. -/
theorem arrayOutputsAndBankWrites : Obligations.ArrayOutputsAndBankWrites := by
  unfold Obligations.ArrayOutputsAndBankWrites
  refine ⟨fun i s hi hop harrs hres ha hb hfree hport => ?_, fun i s n hi hop harrs hres hrows hfree hport hprog => ?_,
    fun i s hi hop harrs hres hrows hfree hport => ?_⟩
  · exact ⟨_, red_runs hi hop harrs hres ha hb hfree hport, fun n hn => State.redAccept_first _ _ hn⟩
  · obtain ⟨u, hu, hm⟩ := rdb_runs hi hop harrs hres hrows hfree hport
    refine ⟨u, hu, fun k hk => ?_⟩
    let v := (seen s i).portClaim i.tile.val i.cycle.val 0 i.word.toNat (bankRows i.word.toNat)
    obtain ⟨hw, hl, hd⟩ := v.bankBeats_bytes i.tile.val n (bits i.word.toNat 50 50) (8 * bits i.word.toNat 49 43) (8 * (bits i.word.toNat 42 36 + 1))
    have hp : ∀ j < bits i.word.toNat 42 36 + 1, v.inProgram i.tile.val (bits i.word.toNat 35 26 + j) = true := fun j hj =>
      (seen_inProgram s i _ _).trans (hprog j (by omega))
    rw [hm, State.schedWrites_program _ hw (by omega) hp, hd]
    have hk' : k < 64 * (8 * (bits i.word.toNat 42 36 + 1)) := by omega
    have hlen : (Memory.readBytes v.mem (bankRow i.tile.val (v.arrPos i.tile.val n) (bits i.word.toNat 50 50) (8 * bits i.word.toNat 49 43))
        (64 * (8 * (bits i.word.toNat 42 36 + 1)))).length = 64 * (8 * (bits i.word.toNat 42 36 + 1)) := Memory.readBytes_length ..
    have hpos : v.arrPos i.tile.val n = s.arrPos i.tile.val n := by
      unfold State.arrPos State.flag
      rw [show v.reg ARR_SPARE_MAP_SPARE_ARRAY i.tile.val n = (seen s i).reg ARR_SPARE_MAP_SPARE_ARRAY i.tile.val n from rfl,
        reg_seen_other (Fld.key_ne_of_lo (by decide) (by decide) (by decide))]
    refine (Memory.read_writeBytes_inside _ _ _ _ (Nat.lt_of_lt_of_eq hk' hlen.symm)).trans ?_
    refine Option.some.inj ((List.getElem?_eq_getElem _).symm.trans ((Memory.readBytes_getElem? _ _ hk').trans ?_))
    rw [hpos, show v.mem = s.mem from mem_seen s i]
  · refine ⟨_, wrb_accepted hi ⟨hop, hres, hrows, harrs⟩ hfree hport, State.wrbAccept_inProgress .., fun n hn => ?_⟩
    unfold State.wrbAccept
    extract_lets w t c arrs pl row nr8 b s1 s2 s3
    rw [State.reg_updTile]
    show s2.reg (bstateF pl) t n = bsLoading
    exact foldl_at (fun a : State => a.reg (bstateF pl) t n) (fun a m hm => State.reg_setReg_other (bstateF_key_ne hm))
      (fun a => a.setReg_bstate _ _ _ (by decide)) (maskArrays_nodup _) hn

end Sys2Proof.Machine
end

section
/-! PROOF. LDIN, MVM and MVM_COMPLETE (02 R33, R41, R42, R48, R49): O9. -/

namespace Sys2Proof.Machine

open Sys2Proof Sys2Proof.Safety

-- One proof after another: these many small proofs would otherwise wait for each other on a thread each.
set_option Elab.async false

/-! ### The beats that a row gives depend on its bytes and marks alone -/

/-- The marks of words and the beats that have arrived: what the reads of a tile meet. -/
structure ReadMarks where
  poison : NatSet
  flips : Map Nat
  trouble : NatSet
  arrived : Map Beat
/-- What the reads of a tile meet. -/
def TileSt.readMarks (x : TileSt) : ReadMarks := ⟨x.poisonMark, x.flips, x.troubleMark, x.arrived⟩
/-- The marks after a read of a word: a single flipped bit is corrected, more leave the word poisoned. -/
def ReadMarks.afterWord (m : ReadMarks) (k : Nat) : ReadMarks :=
  if m.poison.mem k then m
  else if m.flips.get k 0 = 0 then m
  else if popCount 72 (m.flips.get k 0) = 1 then { m with flips := m.flips.del k }
  else { m with flips := m.flips.del k, poison := m.poison.add k }
/-- A read of the word finds it poisoned. -/
def ReadMarks.badWord (m : ReadMarks) (k : Nat) : Bool :=
  m.poison.mem k || !(decide (m.flips.get k 0 = 0) || decide (popCount 72 (m.flips.get k 0) = 1))

theorem State.record_readMarks (s : State) (r : Rec) (t : Nat) : ((s.record r).tile t).readMarks = (s.tile t).readMarks :=
  congrArg TileSt.readMarks (State.record_tile ..)
theorem State.tileFault_readMarks (s : State) (t : Nat) (r : Rec) : ((s.tileFault t r).tile t).readMarks = (s.tile t).readMarks := by
  rw [State.tile_tileFault_same]
  rfl
theorem State.corrected_readMarks (s : State) (t r w mask cycle : Nat) :
    ((s.corrected t r w mask cycle).tile t).readMarks = { (s.tile t).readMarks with flips := (s.tile t).readMarks.flips.del (r * 64 + w) } := by
  have hweak : ∀ a : State, ((a.weakRow t r cycle).tile t).readMarks = (a.tile t).readMarks := fun a => by
    unfold State.weakRow
    dsimp only
    rw [State.tile_updTile_same]
    exact State.record_readMarks ..
  unfold State.corrected
  extract_lets s1 tr s2
  have h2 : (s2.tile t).readMarks = { (s.tile t).readMarks with flips := (s.tile t).readMarks.flips.del (r * 64 + w) } := by
    unfold s2
    rw [State.tile_updTile_same]
    rfl
  clear_value s2
  split
  · rw [hweak, h2]
  · exact h2
theorem State.readWord_readMarks (s : State) (t r cycle : Nat) (sched : Bool) (w : Nat) :
    ((s.readWord t r cycle sched w).1.tile t).readMarks = (s.tile t).readMarks.afterWord (r * 64 + w) ∧
      (s.readWord t r cycle sched w).2 = (s.tile t).readMarks.badWord (r * 64 + w) := by
  unfold State.readWord
  extract_lets k rec1 m s1 s2
  have hrec : ∀ a code, ((rec1 a code).tile t).readMarks = (a.tile t).readMarks := fun a code => by
    unfold rec1
    dsimp only
    split
    · exact State.tileFault_readMarks ..
    · exact State.record_readMarks ..
  have h2 : (s2.tile t).readMarks = { (s.tile t).readMarks with flips := (s.tile t).readMarks.flips.del k, poison := (s.tile t).readMarks.poison.add k } := by
    unfold s2
    rw [State.tile_updTile_same]
    rfl
  clear_value rec1 s2
  unfold ReadMarks.afterWord ReadMarks.badWord
  by_cases hp : (s.tile t).poisonMark.mem k = true
  · have hp' : (s.tile t).readMarks.poison.mem (r * 64 + w) = true := hp
    rw [if_pos hp, if_pos hp']
    exact ⟨hrec _ _, by rw [hp', Bool.true_or]⟩
  · have hp' : (s.tile t).readMarks.poison.mem (r * 64 + w) = false := Bool.eq_false_iff.2 hp
    rw [if_neg hp, hp', if_neg Bool.false_ne_true, Bool.false_or]
    by_cases h0 : m = 0
    · have h0' : (s.tile t).readMarks.flips.get (r * 64 + w) 0 = 0 := h0
      rw [if_pos h0, if_pos h0']
      exact ⟨rfl, by rw [decide_eq_true h0']; rfl⟩
    · have h0' : ¬ (s.tile t).readMarks.flips.get (r * 64 + w) 0 = 0 := h0
      rw [if_neg h0, if_neg h0', decide_eq_false h0', Bool.false_or]
      by_cases h1 : popCount 72 m = 1
      · have h1' : popCount 72 ((s.tile t).readMarks.flips.get (r * 64 + w) 0) = 1 := h1
        rw [if_pos h1, if_pos h1']
        exact ⟨State.corrected_readMarks .., by rw [decide_eq_true h1']; rfl⟩
      · have h1' : ¬ popCount 72 ((s.tile t).readMarks.flips.get (r * 64 + w) 0) = 1 := h1
        rw [if_neg h1, if_neg h1']
        exact ⟨(hrec _ _).trans h2, by rw [decide_eq_false h1']; rfl⟩

/-- What the reads of a tile meet is the same in two states. -/
structure ReadsAlike (t : Nat) (a s : State) : Prop where
  mem : s.mem = a.mem
  marks : (s.tile t).readMarks = (a.tile t).readMarks
  program : ∀ r, s.inProgram t r = a.inProgram t r

theorem ReadsAlike.readWord {t : Nat} {a s : State} (h : ReadsAlike t a s) (r cycle : Nat) (sched : Bool) (w : Nat) :
    ReadsAlike t (a.readWord t r cycle sched w).1 (s.readWord t r cycle sched w).1 ∧ (s.readWord t r cycle sched w).2 = (a.readWord t r cycle sched w).2 := by
  obtain ⟨ha, hab⟩ := a.readWord_readMarks t r cycle sched w
  obtain ⟨hs, hsb⟩ := s.readWord_readMarks t r cycle sched w
  refine ⟨⟨?_, ?_, fun q => ?_⟩, ?_⟩
  · rw [(State.readWord_memSame .refl).mem, (State.readWord_memSame .refl).mem, h.mem]
  · rw [hs, ha, h.marks]
  · rw [(State.readWord_rowsOnly .refl).inProgram, (State.readWord_rowsOnly .refl).inProgram, h.program]
  · rw [hsb, hab, h.marks]
theorem ReadsAlike.readWords {t : Nat} {a s : State} (h : ReadsAlike t a s) (r cycle : Nat) (sched : Bool) :
    ReadsAlike t (a.readWords t r cycle sched).1 (s.readWords t r cycle sched).1 ∧ (s.readWords t r cycle sched).2 = (a.readWords t r cycle sched).2 := by
  have hfold : ∀ (l : List Nat) (x y : State × List Nat), ReadsAlike t x.1 y.1 → y.2 = x.2 →
      let step := fun (a : State × List Nat) w =>
        let x := a.1.readWord t r cycle sched w
        (x.1, if x.2 then w :: a.2 else a.2)
      ReadsAlike t (l.foldl step x).1 (l.foldl step y).1 ∧ (l.foldl step y).2 = (l.foldl step x).2 := fun l => by
    induction l with
    | nil => exact fun x y h e => ⟨h, e⟩
    | cons w l ih =>
      intro x y h e
      obtain ⟨hw, hb⟩ := h.readWord r cycle sched w
      exact ih _ _ hw (by dsimp only; rw [hb, e])
  exact hfold _ (a, []) (s, []) h rfl
theorem ReadsAlike.rowBeats {t : Nat} {a s : State} (h : ReadsAlike t a s) (r : Nat) (bad : List Nat) : s.rowBeats t r bad = a.rowBeats t r bad := by
  have ht : (s.tile t).troubleMark = (a.tile t).troubleMark := by
    have e := congrArg ReadMarks.trouble h.marks
    exact e
  unfold State.rowBeats
  rw [h.mem, ht]
theorem ReadsAlike.setTag {t : Nat} {a s : State} (h : ReadsAlike t a s) {c d : Bool} (r v : Nat) :
    ReadsAlike t (if c then a.setTag t r v else a) (if d then s.setTag t r v else s) := by
  have hset : ∀ (c : Bool) (a : State), ((if c then a.setTag t r v else a).tile t).readMarks = (a.tile t).readMarks := fun c a => by
    cases c with
    | false => rfl
    | true =>
      rw [if_pos rfl]
      unfold State.setTag
      rw [State.tile_updTile_same]
      rfl
  refine ⟨?_, ?_, fun q => ?_⟩
  · cases c <;> cases d <;> exact h.mem
  · rw [hset, hset, h.marks]
  · cases c <;> cases d <;> exact h.program q
theorem ReadsAlike.schedRead {t : Nat} {a s : State} (h : ReadsAlike t a s) (r c : Nat) :
    ReadsAlike t (a.schedRead t r c).1 (s.schedRead t r c).1 ∧ (s.schedRead t r c).2 = (a.schedRead t r c).2 := by
  obtain ⟨hw, hb⟩ := h.readWords r c true
  unfold State.schedRead State.readRow
  rw [h.program]
  split
  · generalize a.readWords t r c true = x at hw hb ⊢
    generalize s.readWords t r c true = y at hw hb ⊢
    dsimp only
    exact ⟨hw.setTag r 2, by rw [hb, hw.rowBeats]⟩
  · refine ⟨⟨?_, ?_, fun q => ?_⟩, rfl⟩
    · rw [(State.boundsFault_memSame .refl).mem, (State.boundsFault_memSame .refl).mem, h.mem]
    · unfold State.boundsFault
      rw [State.tileFault_readMarks, State.tileFault_readMarks]
      exact h.marks
    · rw [(State.boundsFault_rowsOnly .refl).inProgram, (State.boundsFault_rowsOnly .refl).inProgram, h.program]
theorem ReadsAlike.schedReads {t c : Nat} : ∀ (n : Nat) {r : Nat} {a s : State}, ReadsAlike t a s → (s.schedReads t c r n).2 = (a.schedReads t c r n).2
  | 0, _, _, _, _ => rfl
  | n + 1, r, a, s, h => by
    obtain ⟨hr, hb⟩ := h.schedRead r c
    unfold State.schedReads
    dsimp only
    rw [hb, ReadsAlike.schedReads n hr]
theorem ReadsAlike.takeBeat {t : Nat} {a s : State} (h : ReadsAlike t a s) (port c : Nat) :
    ReadsAlike t (a.takeBeat t port c).1 (s.takeBeat t port c).1 ∧ (s.takeBeat t port c).2 = (a.takeBeat t port c).2 := by
  have harr : (s.tile t).arrived = (a.tile t).arrived := by
    have e := congrArg ReadMarks.arrived h.marks
    exact e
  unfold State.takeBeat
  dsimp only
  rw [harr]
  cases (a.tile t).arrived.get? (port * 65536 + c) with
  | some b => exact ⟨h, rfl⟩
  | none =>
    refine ⟨⟨?_, ?_, fun q => ?_⟩, rfl⟩
    · rw [(State.tileFault_memSame .refl).mem, (State.tileFault_memSame .refl).mem]
      exact h.mem
    · rw [State.tileFault_readMarks, State.tileFault_readMarks]
      exact h.marks
    · rw [(State.tileFault_rowsOnly .refl).inProgram, (State.tileFault_rowsOnly .refl).inProgram]
      have hset : ∀ b : State, (b.setReg RTR_STATUS_MISSING t 0 1).inProgram t q = b.inProgram t q := fun b =>
        (State.setReg_rowsOnly .refl).inProgram t q
      rw [hset, hset, h.program]
theorem ReadsAlike.takeBeats {t port : Nat} : ∀ (n : Nat) {c : Nat} {a s : State}, ReadsAlike t a s → (s.takeBeats t port c n).2 = (a.takeBeats t port c n).2
  | 0, _, _, _, _ => rfl
  | n + 1, c, a, s, h => by
    obtain ⟨hr, hb⟩ := h.takeBeat port c
    unfold State.takeBeats
    dsimp only
    rw [hb, ReadsAlike.takeBeats n hr]
/-- A claim of the port changes nothing that a read meets. -/
theorem State.portClaim_readsAlike (s : State) (t c unit w : Nat) (rows : List Nat) : ReadsAlike t s (s.portClaim t c unit w rows) := by
  refine ⟨rfl, ?_, fun _ => rfl⟩
  unfold State.portClaim
  rw [State.tile_updTile_same]
  rfl

/-! ### LDIN -/

/-- Beats loaded into registers that hold the same leave the same. -/
theorem TileSt.loadBeats_alike (arrs : List Nat) (insel kind start : Nat) (bs : List Beat) {x y : TileSt} (he : x.inElem = y.inElem) (hx : x.inExp = y.inExp) :
    (x.loadBeats arrs insel kind start bs).inElem = (y.loadBeats arrs insel kind start bs).inElem ∧
      (x.loadBeats arrs insel kind start bs).inExp = (y.loadBeats arrs insel kind start bs).inExp := by
  have hbeats : ∀ (n : Nat) (l : List (Beat × Nat)) (x y : TileSt), x.inElem = y.inElem ∧ x.inExp = y.inExp →
      let step := fun (x : TileSt) (e : Beat × Nat) => if kind = 2 then x.loadExp (n * 2 + insel) e.1 else x.loadData (n * 2 + insel) (start + e.2) (decide (kind = 0)) e.1
      (l.foldl step x).inElem = (l.foldl step y).inElem ∧ (l.foldl step x).inExp = (l.foldl step y).inExp := fun n l => by
    induction l with
    | nil => exact fun x y h => h
    | cons e l ih =>
      intro x y h
      refine ih _ _ ?_
      dsimp only
      split
      · unfold TileSt.loadExp
        exact ⟨h.1, by dsimp only; rw [h.2]⟩
      · unfold TileSt.loadData
        exact ⟨by dsimp only; rw [h.1], h.2⟩
  unfold TileSt.loadBeats
  induction arrs generalizing x y with
  | nil => exact ⟨he, hx⟩
  | cons n arrs ih =>
    obtain ⟨he', hx'⟩ := hbeats n bs.zipIdx x y ⟨he, hx⟩
    exact ih he' hx'

theorem RowsOnly.inElem {a s : State} (h : RowsOnly a s) (t : Nat) : (s.tile t).inElem = (a.tile t).inElem := by
  have e := congrArg TileSt.inElem (h.tile t)
  exact e
theorem RowsOnly.inExp {a s : State} (h : RowsOnly a s) (t : Nat) : (s.tile t).inExp = (a.tile t).inExp := by
  have e := congrArg TileSt.inExp (h.tile t)
  exact e

/-- The beats of an LDIN, and the state in which it has taken them. -/
def State.ldinTake (s : State) (i : Issue) : State × List Beat :=
  let w := i.word.toNat
  let nb := bits w 43 40 + 1
  if bitAt w 39 then
    let r := s.schedReads i.tile.val i.cycle.val (bits w 38 29) (ceilDiv nb 8)
    (r.1, r.2.take nb)
  else s.takeBeats i.tile.val 0 i.cycle.val nb
theorem State.ldinTake_beats (s : State) (i : Issue) (rows : List Nat) :
    (((seen s i).portClaim i.tile.val i.cycle.val 0 i.word.toNat rows).ldinTake i).2 = ldinBeats s i := by
  have h := (seen s i).portClaim_readsAlike i.tile.val i.cycle.val 0 i.word.toNat rows
  unfold State.ldinTake ldinBeats
  dsimp only
  split
  · dsimp only
    exact congrArg (List.take _) (h.schedReads _)
  · exact h.takeBeats _
theorem State.ldinTake_rowsOnly (s : State) (i : Issue) : RowsOnly s (s.ldinTake i).1 := by
  unfold State.ldinTake
  dsimp only
  split
  · exact State.schedReads_rowsOnly .refl
  · exact State.takeBeats_rowsOnly .refl

theorem ldin_runs {i : Issue} {s : State} (hi : issuable s i 0) (hop : opcOf i.word.toNat = 1) (harrs : maskArrays (amaskOf i.word.toNat) ≠ [])
    (hres : bits i.word.toNat 28 0 = 0) (hkind : bits i.word.toNat 49 48 ≠ 3) (hfree : ∀ n ∈ maskArrays (amaskOf i.word.toNat), inputFree (seen s i) i n)
    (hport : portOpen (seen s i) i 0 (ldinRows i.word.toNat)) :
    let b := ((seen s i).portClaim i.tile.val i.cycle.val 0 i.word.toNat (ldinRows i.word.toNat)).ldinTake i
    exec (.ldin i) s = .next ((b.1.poisonSeen i.tile.val b.2).updTile i.tile.val (fun x => x.loadBeats (maskArrays (amaskOf i.word.toNat))
      (bits i.word.toNat 50 50) (bits i.word.toNat 49 48) (bits i.word.toNat 47 44) b.2)) := by
  intro b
  have hform : ((maskArrays (amaskOf i.word.toNat)).isEmpty || bits i.word.toNat 28 0 != 0 || bits i.word.toNat 49 48 == 3) = false := by
    simp [harrs, hres, hkind]
  have hcodes : refusals (maskArrays (amaskOf i.word.toNat)) (fun n => firstCode [((seen s i).mvmIn i.tile.val n i.cycle.val
      (fun m => m.insel == bits i.word.toNat 50 50), 0x1011)]) = [] :=
    refusals_nil (fun n hn => by rw [show State.mvmIn _ _ _ _ _ = false from hfree n hn]; rfl)
  have hport' : (seen s i).portClash i.tile.val i.cycle.val 0 i.word.toNat (if bitAt i.word.toNat 39 then rowRun (bits i.word.toNat 38 29)
    (ceilDiv (bits i.word.toNat 43 40 + 1) 8) else []) = false := hport
  show execLdin i s = _
  unfold execLdin
  rw [issue_runs hi]
  unfold State.runLdin
  dsimp only
  rw [hop, bne_self_eq_false, if_neg Bool.false_ne_true, hform, if_neg Bool.false_ne_true, hcodes, List.isEmpty_nil, Bool.not_true,
    if_neg Bool.false_ne_true, hport', if_neg Bool.false_ne_true]
  rfl

theorem ldin_loads {i : Issue} {s : State} (hi : issuable s i 0) (hop : opcOf i.word.toNat = 1) (harrs : maskArrays (amaskOf i.word.toNat) ≠ [])
    (hres : bits i.word.toNat 28 0 = 0) (hkind : bits i.word.toNat 49 48 ≠ 3) (hfree : ∀ n ∈ maskArrays (amaskOf i.word.toNat), inputFree (seen s i) i n)
    (hport : portOpen (seen s i) i 0 (ldinRows i.word.toNat)) :
    ∃ u, exec (.ldin i) s = .next u ∧
      (u.tile i.tile.val).inElem = ((s.tile i.tile.val).loadBeats (maskArrays (amaskOf i.word.toNat)) (bits i.word.toNat 50 50)
        (bits i.word.toNat 49 48) (bits i.word.toNat 47 44) (ldinBeats s i)).inElem ∧
      (u.tile i.tile.val).inExp = ((s.tile i.tile.val).loadBeats (maskArrays (amaskOf i.word.toNat)) (bits i.word.toNat 50 50)
        (bits i.word.toNat 49 48) (bits i.word.toNat 47 44) (ldinBeats s i)).inExp := by
  let v := (seen s i).portClaim i.tile.val i.cycle.val 0 i.word.toNat (ldinRows i.word.toNat)
  have hrows : RowsOnly v ((v.ldinTake i).1.poisonSeen i.tile.val (v.ldinTake i).2) := State.poisonSeen_rowsOnly (v.ldinTake_rowsOnly i)
  have hv : (v.tile i.tile.val).inElem = (s.tile i.tile.val).inElem ∧ (v.tile i.tile.val).inExp = (s.tile i.tile.val).inExp := by
    unfold v State.portClaim
    rw [State.tile_updTile_same, tile_seen]
    exact ⟨rfl, rfl⟩
  have he := hrows.inElem i.tile.val
  have hx := hrows.inExp i.tile.val
  have hload := TileSt.loadBeats_alike (maskArrays (amaskOf i.word.toNat)) (bits i.word.toNat 50 50) (bits i.word.toNat 49 48) (bits i.word.toNat 47 44)
    (v.ldinTake i).2 (he.trans hv.1) (hx.trans hv.2)
  refine ⟨_, ldin_runs hi hop harrs hres hkind hfree hport, ?_⟩
  rw [State.tile_updTile_same, ← s.ldinTake_beats i (ldinRows i.word.toNat)]
  exact hload

/-! ### MVM -/

theorem clipLast_key_ne {t n m : Nat} (h : n ≠ m) : ARR_CLIP_LAST_COUNT.key t n ≠ ARR_CLIP_LAST_COUNT.key t m := by
  simp only [Fld.key, Fld.offset, ARR_CLIP_LAST_COUNT]
  omega
/-- CLIP_LAST has another offset than INT_STATUS, and lies in another page than the counts of records. -/
theorem clipLast_apart (t n : Nat) : ARR_CLIP_LAST_COUNT.apartFromRecords t n := by
  refine ⟨fun fn => ?_, fun c _ => ?_⟩ <;>
    · simp only [Fld.key, ARR_CLIP_LAST_COUNT, INT_STATUS_STATUS, ERR_CCOUNT_COUNT, Fld.offset, Page.code]
      omega

/-- A request for a pass writes no register but STALE and STATE of its position. -/
theorem State.requestPass_reg (s : State) (t pos : Nat) {f : Fld} {inst i : Nat} (h32 : f.lo < 32) (h19 : f.lo ≠ 19) (h20 : f.lo ≠ 20) :
    (s.requestPass t pos).reg f inst i = s.reg f inst i := by
  unfold State.requestPass
  split
  · unfold State.startPass
    dsimp only
    rw [State.reg_setReg_other (Fld.key_ne_of_lo (by decide) h32 h20.symm), State.reg_setReg_other (Fld.key_ne_of_lo (by decide) h32 h19.symm)]
    rfl
  · rfl
theorem State.requestPass_tile (s : State) (t pos u : Nat) : (s.requestPass t pos).tile u = s.tile u := by
  unfold State.requestPass
  split <;> rfl
theorem State.splitClip_reg (s : State) (t c e n pl g : Nat) {f : Fld} {inst i : Nat} (hrec : f.apartFromRecords inst i) (h32 : f.lo < 32)
    (h4 : f.lo ≠ 4) (h19 : f.lo ≠ 19) (h20 : f.lo ≠ 20) : (s.splitClip t c e n pl g).reg f inst i = s.reg f inst i := by
  unfold State.splitClip
  rw [State.requestPass_reg _ _ _ h32 h19 h20]
  exact (State.record_reg_apart hrec _ _).trans (State.reg_setReg_other (Fld.key_ne_of_lo (by decide) h32 h4.symm))

/-- An MVM in an array, up to its trouble: its bank computes, and its count of clips is cleared. -/
def State.mvmBegun (s : State) (t n : Nat) (f : MvmF) : State :=
  (s.setReg (bstateF f.pl) t n bsCompute).setReg ARR_CLIP_LAST_COUNT t n 0
theorem State.mvmBegun_bstate (s : State) (t n : Nat) (f : MvmF) : (s.mvmBegun t n f).reg (bstateF f.pl) t n = bsCompute :=
  (State.reg_setReg_other (bstateF_key_ne_of_lo (by decide) (by decide)).symm).trans (s.setReg_bstate _ _ _ (by decide))
theorem State.mvmBegun_clips (s : State) (t n : Nat) (f : MvmF) : (s.mvmBegun t n f).reg ARR_CLIP_LAST_COUNT t n = 0 := State.reg_setReg_same ..
theorem State.mvmBegun_reg (s : State) (t n : Nat) (f : MvmF) {g : Fld} {inst i : Nat} (hb : (bstateF f.pl).key t n ≠ g.key inst i)
    (hc : ARR_CLIP_LAST_COUNT.key t n ≠ g.key inst i) : (s.mvmBegun t n f).reg g inst i = s.reg g inst i :=
  (State.reg_setReg_other hc).trans (State.reg_setReg_other hb)

/-- After its beginning, an MVM in an array writes no register but those of its trouble. -/
theorem State.mvmRunArray_reg (s : State) (t c e n : Nat) (f : MvmF) : ∃ a : State, a.regs = s.regs ∧
    ∀ (g : Fld) (inst i : Nat), g.apartFromRecords inst i → g.lo < 32 → g.lo ∉ [2, 4, 19, 20] →
      (s.mvmRunArray t c e n f).1.reg g inst i = (a.mvmBegun t n f).reg g inst i := by
  unfold State.mvmRunArray
  extract_lets fmt res s1 poison trouble s2 s3 s4 s5 s6
  refine ⟨s2, rfl, fun g inst i hrec h32 hlo => ?_⟩
  simp only [List.mem_cons, List.not_mem_nil, or_false, not_or] at hlo
  obtain ⟨h2, h4, h19, h20⟩ := hlo
  have h5 : s5.reg g inst i = s4.reg g inst i := by
    unfold s5
    split
    · exact State.reg_setReg_other (Fld.key_ne_of_lo (by decide) h32 (Ne.symm h2))
    · rfl
  have h6 : s6.reg g inst i = s5.reg g inst i := by
    unfold s6
    split
    · exact State.splitClip_reg _ _ _ _ _ _ _ hrec h32 h4 h19 h20
    · rfl
  exact h6.trans h5

/-- What the bank and the clips of an array read. -/
def State.computeView (s : State) (pl t n : Nat) : Nat × Nat := (s.reg (bstateF pl) t n, s.reg ARR_CLIP_LAST_COUNT t n)

theorem bstateF_lo_quiet (pl : Nat) : (bstateF pl).lo ∉ [2, 4, 19, 20] := bstateF_lo pl ▸ by decide
theorem bstateF_lo_lt (pl : Nat) : (bstateF pl).lo < 32 := bstateF_lo pl ▸ by decide
theorem State.mvmRunArray_sets (s : State) (t c e n : Nat) (f : MvmF) : (s.mvmRunArray t c e n f).1.computeView f.pl t n = (bsCompute, 0) := by
  obtain ⟨a, -, h⟩ := s.mvmRunArray_reg t c e n f
  unfold State.computeView
  rw [h _ _ _ (bstateF_apart ..) (bstateF_lo_lt _) (bstateF_lo_quiet _), h _ _ _ (clipLast_apart ..) (by decide) (by decide), State.mvmBegun_bstate, State.mvmBegun_clips]
theorem State.mvmRunArray_other (s : State) (t c e : Nat) {n m : Nat} (hne : m ≠ n) (f : MvmF) :
    (s.mvmRunArray t c e m f).1.computeView f.pl t n = s.computeView f.pl t n := by
  obtain ⟨a, ha, h⟩ := s.mvmRunArray_reg t c e m f
  have hreg : ∀ g inst i, a.reg g inst i = s.reg g inst i := fun g inst i => by
    unfold State.reg
    rw [ha]
  unfold State.computeView
  rw [h _ _ _ (bstateF_apart ..) (bstateF_lo_lt _) (bstateF_lo_quiet _), h _ _ _ (clipLast_apart ..) (by decide) (by decide),
    State.mvmBegun_reg _ _ _ _ (bstateF_key_ne hne) (bstateF_key_ne_of_lo (by decide) (by decide)).symm,
    State.mvmBegun_reg _ _ _ _ (bstateF_key_ne_of_lo (by decide) (by decide)) (clipLast_key_ne hne), hreg, hreg]

/-! ### What reports, retention and the tail leave -/

/-- The places of a tile's registers that retention and the numeric trouble of outputs write. -/
def outputPlaces : List Nat :=
  [TILE_NUM_STATUS_SAT, TILE_NUM_STATUS_UNDF, TILE_NUM_STATUS_WSAT, TILE_SAT_TOTAL_TOTAL, TILE_UNDF_TOTAL_TOTAL, TILE_WSAT_TOTAL_TOTAL, BSN_STATUS_BOUNDS,
    HDR_ERR_INJECT .bsn, HDR_INJECTED .bsn].map (·.place 0)
/-- A field at none of them, that no record writes. -/
structure Fld.besideOutput (f : Fld) (inst i : Nat) : Prop where
  records : f.apartFromRecords inst i
  offset : f.offset i < 4096
  lo : f.lo < 32
  place : f.place i ∉ outputPlaces
/-- The MVMs in progress, and the registers beside those of outputs, are as they were. -/
structure OutputOnly (a s : State) : Prop where
  run : ∀ t, (s.tile t).mvmRun = (a.tile t).mvmRun
  reg : ∀ (f : Fld) (inst i : Nat), f.besideOutput inst i → s.reg f inst i = a.reg f inst i

theorem OutputOnly.refl {a : State} : OutputOnly a a := ⟨fun _ => rfl, fun _ _ _ _ => rfl⟩
theorem OutputOnly.ite {a u v : State} {c : Prop} [Decidable c] (hu : OutputOnly a u) (hv : OutputOnly a v) : OutputOnly a (if c then u else v) := by
  split <;> assumption
/-- A change that leaves tiles and registers alone. -/
theorem OutputOnly.same {a s t : State} (h : OutputOnly a s) (htiles : t.tiles = s.tiles) (hregs : t.regs = s.regs) : OutputOnly a t :=
  ⟨fun u => Eq.trans (by unfold State.tile; rw [htiles]) (h.run u), fun f inst i hf => Eq.trans (by unfold State.reg; rw [hregs]) (h.reg f inst i hf)⟩
theorem foldl_outputOnly {a : State} {β : Type} {f : State → β → State} (hf : ∀ s b, OutputOnly a s → OutputOnly a (f s b)) {l : List β} :
    ∀ {s : State}, OutputOnly a s → OutputOnly a (l.foldl f s) := by
  induction l with
  | nil => intro s h; exact h
  | cons b r ih => intro s h; exact ih (hf s b h)
theorem foldl_outputOnly1 {a : State} {β γ : Type} {f : State × γ → β → State × γ} (hf : ∀ s b, OutputOnly a s.1 → OutputOnly a (f s b).1) {l : List β} :
    ∀ {s : State × γ}, OutputOnly a s.1 → OutputOnly a (l.foldl f s).1 := by
  induction l with
  | nil => intro s h; exact h
  | cons b r ih => intro s h; exact ih (hf s b h)
theorem State.updTile_outputOnly {pre s : State} (fo : OutputOnly pre s) {t : Nat} {f : TileSt → TileSt}
    (hf : ∀ x, (f x).mvmRun = x.mvmRun := by exact fun _ => rfl) : OutputOnly pre (s.updTile t f) := by
  refine ⟨fun u => ?_, fo.reg⟩
  rcases Decidable.em (t = u) with rfl | hne
  · rw [State.tile_updTile_same, hf, fo.run]
  · rw [State.tile_updTile_other hne, fo.run]
theorem State.setReg_outputOnly {pre s : State} (fo : OutputOnly pre s) {g : Fld} {inst i v : Nat}
    (hg : g.offset i < 4096 ∧ g.lo < 32 ∧ g.place i ∈ outputPlaces := by decide) : OutputOnly pre (s.setReg g inst i v) := by
  refine ⟨fo.run, fun f jnst j hf => (State.reg_setReg_other (fun e => hf.place ?_)).trans (fo.reg f jnst j hf)⟩
  have hfo := hf.offset
  have hfl := hf.lo
  obtain ⟨hgo, hgl, hg⟩ := hg
  have hp : f.place j = g.place i := by
    unfold Fld.place
    unfold Fld.key at e
    omega
  rw [hp]
  exact hg
theorem State.addReg_outputOnly {pre s : State} (fo : OutputOnly pre s) {g : Fld} {inst i d : Nat}
    (hg : g.offset i < 4096 ∧ g.lo < 32 ∧ g.place i ∈ outputPlaces := by decide) : OutputOnly pre (s.addReg g inst i d) := State.setReg_outputOnly fo hg
theorem State.orReg_outputOnly {pre s : State} (fo : OutputOnly pre s) {g : Fld} {inst i d : Nat}
    (hg : g.offset i < 4096 ∧ g.lo < 32 ∧ g.place i ∈ outputPlaces := by decide) : OutputOnly pre (s.orReg g inst i d) := State.setReg_outputOnly fo hg
theorem State.setMem_outputOnly {pre s : State} (fo : OutputOnly pre s) {m : Memory} : OutputOnly pre (s.setMem m) := fo.same rfl rfl
theorem State.record_outputOnly {pre s : State} (fo : OutputOnly pre s) {r : Rec} : OutputOnly pre (s.record r) :=
  ⟨fun u => (congrArg TileSt.mvmRun (State.record_tile s r u)).trans (fo.run u), fun f inst i hf => (State.record_reg_apart hf.records s r).trans (fo.reg f inst i hf)⟩
theorem TileSt.noteNeed_mvmRun (x : TileSt) (pred : Nat) (need : Option Nat) : (x.noteNeed pred need).mvmRun = x.mvmRun := by
  unfold TileSt.noteNeed
  split <;> rfl
theorem TileSt.fillOuts_mvmRun {β : Type} {f : TileSt → β → TileSt} (l : List β) (hf : ∀ x e, (f x e).mvmRun = x.mvmRun := by exact fun _ _ => rfl)
    (x : TileSt) : (l.foldl f x).mvmRun = x.mvmRun := foldl_keep (fun x : TileSt => x.mvmRun) hf l x

theorem State.tileRecord_outputOnly {pre : State} {s : State} (fo : OutputOnly pre s) {t : Nat} {r : Rec} : OutputOnly pre (s.tileRecord t r) := by
  unfold State.tileRecord
  exact State.record_outputOnly fo

theorem State.reportSplit_outputOnly {pre : State} {s : State} (fo : OutputOnly pre s) {t : Nat} : OutputOnly pre (s.reportSplit t) := by
  unfold State.reportSplit
  exact State.updTile_outputOnly fo

theorem State.splitTrouble_outputOnly {pre : State} {s : State} (fo : OutputOnly pre s) {t : Nat} {c : Nat} {e : Nat} {code : Nat} {pl : Nat} {l : List (Nat × Nat)} : OutputOnly pre (State.splitTrouble s t c e code pl l) := by
  unfold State.splitTrouble
  split
  · exact fo
  · exact State.reportSplit_outputOnly (State.tileRecord_outputOnly fo)

theorem State.numTrouble_outputOnly {pre : State} {s : State} (fo : OutputOnly pre s) {t : Nat} {cycle : Nat} {entry : Nat} {code : Nat} : OutputOnly pre (s.numTrouble t cycle entry code) := by
  unfold State.numTrouble
  exact State.tileRecord_outputOnly fo

theorem State.reportWide_outputOnly {pre : State} {s : State} (fo : OutputOnly pre s) {t : Nat} : OutputOnly pre (s.reportWide t) := by
  unfold State.reportWide
  exact State.updTile_outputOnly fo

theorem State.wideSat_outputOnly {pre : State} {s : State} (fo : OutputOnly pre s) {t : Nat} {cycle : Nat} {entry : Nat} {l : List Nat} : OutputOnly pre (s.wideSat t cycle entry l) := by
  unfold State.wideSat
  exact OutputOnly.ite fo (State.reportWide_outputOnly (State.numTrouble_outputOnly (State.addReg_outputOnly (State.orReg_outputOnly fo))))

theorem State.storeWords_outputOnly {pre : State} {s : State} (fo : OutputOnly pre s) {t : Nat} {r : Nat} {beats : List Beat} {mask : List Nat} : OutputOnly pre (s.storeWords t r beats mask) := by
  unfold State.storeWords
  apply foldl_outputOnly
  · intro x1 x2 h1
    extract_lets s1 s2 s3
    have h2 : OutputOnly pre s3 := State.updTile_outputOnly h1
    clear_value s3
    exact State.setMem_outputOnly h2
  · exact fo

theorem State.setTag_outputOnly {pre : State} {s : State} (fo : OutputOnly pre s) {t : Nat} {r : Nat} {v : Nat} : OutputOnly pre (s.setTag t r v) := by
  unfold State.setTag
  exact State.updTile_outputOnly fo

theorem State.writeTag_outputOnly {pre : State} {s : State} (fo : OutputOnly pre s) {t : Nat} {r : Nat} : OutputOnly pre (s.writeTag t r) := by
  unfold State.writeTag
  exact OutputOnly.ite (State.setTag_outputOnly fo) fo

theorem State.tileFault_outputOnly {pre : State} {s : State} (fo : OutputOnly pre s) {t : Nat} {r : Rec} : OutputOnly pre (s.tileFault t r) := by
  unfold State.tileFault
  exact State.updTile_outputOnly (State.tileRecord_outputOnly fo)

theorem State.boundsFault_outputOnly {pre : State} {s : State} (fo : OutputOnly pre s) {t : Nat} {r : Nat} {cycle : Nat} : OutputOnly pre (s.boundsFault t r cycle) := by
  unfold State.boundsFault
  exact State.tileFault_outputOnly (State.setReg_outputOnly fo)

theorem State.injectFlip_outputOnly {pre : State} {s : State} (fo : OutputOnly pre s) {t : Nat} {r : Nat} {mask : List Nat} : OutputOnly pre (s.injectFlip t r mask) := by
  unfold State.injectFlip
  extract_lets s1
  split
  · exact fo
  · rename_i y1 y2 y3
    apply OutputOnly.ite
    · extract_lets s2
      have h1 : OutputOnly pre s2 := State.updTile_outputOnly fo
      clear_value s2
      exact State.setReg_outputOnly (State.setReg_outputOnly h1)
    · exact fo

theorem State.schedWrite_outputOnly {pre : State} {s : State} (fo : OutputOnly pre s) {t : Nat} {r : Nat} {cycle : Nat} {beats : List Beat} {mask : List Nat} : OutputOnly pre (s.schedWrite t r cycle beats mask) := by
  unfold State.schedWrite
  exact OutputOnly.ite (State.writeTag_outputOnly (State.injectFlip_outputOnly (State.storeWords_outputOnly fo))) (State.boundsFault_outputOnly fo)

theorem State.schedWrites_outputOnly {pre : State} {t : Nat} {cycle : Nat} {r : Nat} {bs : List Beat} {n : Nat} : ∀ {s : State}, OutputOnly pre s → OutputOnly pre (s.schedWrites t cycle r bs n) := by
  induction n generalizing r bs with
  | zero => intro s h; exact h
  | succ n ih => intro s h; exact ih (State.schedWrite_outputOnly h)

theorem State.retain_outputOnly {pre : State} {s : State} (fo : OutputOnly pre s) {t : Nat} {cycle : Nat} {row : Nat} {vals : List (List Int)} {poison : List Bool} {trouble : List Bool} : OutputOnly pre (State.retain s t cycle row vals poison trouble) := by
  unfold State.retain
  exact State.schedWrites_outputOnly fo

theorem State.reportRec_outputOnly {pre : State} {s : State} (fo : OutputOnly pre s) {t : Nat} : OutputOnly pre (s.reportRec t) := by
  unfold State.reportRec
  exact State.updTile_outputOnly fo

theorem State.blockTrouble_outputOnly {pre : State} {s : State} (fo : OutputOnly pre s) {t : Nat} {cycle : Nat} {entry : Nat} {outs : List TailOut} {bl : List ((Nat × Bool) × List QBlock)} : OutputOnly pre (State.blockTrouble s t cycle entry outs bl) := by
  unfold State.blockTrouble
  extract_lets s1 s2 s3 s4
  have h1 : OutputOnly pre s4 := OutputOnly.ite fo (State.reportRec_outputOnly (State.numTrouble_outputOnly (State.addReg_outputOnly (State.orReg_outputOnly fo))))
  clear_value s4
  exact OutputOnly.ite h1 (State.reportRec_outputOnly (State.numTrouble_outputOnly (State.addReg_outputOnly (State.orReg_outputOnly h1))))

theorem State.quant_outputOnly {pre : State} {s : State} (fo : OutputOnly pre s) {t : Nat} {lim : Nat} {pred : Nat} {xs : List Nat} : OutputOnly pre (s.quant t lim pred xs).fst := by
  unfold State.quant
  dsimp only
  refine State.updTile_outputOnly fo ?_
  exact fun x => TileSt.noteNeed_mvmRun x ..

theorem State.quantAll_outputOnly {pre : State} {t : Nat} {lim : Nat} {pred : Nat} {l : List (List Nat)} : ∀ {s : State}, OutputOnly pre s → OutputOnly pre (s.quantAll t lim pred l).1 := by
  induction l with
  | nil => intro s h; exact h
  | cons b r ih => intro s h; exact ih (State.quant_outputOnly h)

theorem State.quantRuns_outputOnly {pre : State} {s : State} (fo : OutputOnly pre s) {t : Nat} {l : List ((Nat × Bool) × List Nat)} : OutputOnly pre (State.quantRuns s t l).fst := by
  unfold State.quantRuns
  apply foldl_outputOnly1
  · intro x1 x2 h1
    extract_lets s1
    have h2 : OutputOnly pre s1.fst := State.quantAll_outputOnly h1
    clear_value s1
    exact h2
  · exact fo

theorem State.tailPath_outputOnly {pre : State} {s : State} (fo : OutputOnly pre s) {t : Nat} {cycle : Nat} {entry : Nat} {tcfg : Nat} {retRow : Nat} {arrs : List TailArr} {vals : List (List Int)} {poison : List Bool} {trouble : List Bool} : OutputOnly pre (State.tailPath s t cycle entry tcfg retRow arrs vals poison trouble) := by
  unfold State.tailPath
  extract_lets s1 s2 s3 s4 s5 s6 s7 s8
  have h1 : OutputOnly pre s3.fst := State.quantRuns_outputOnly fo
  clear_value s3
  have h2 : OutputOnly pre s5 := h1
  clear_value s5
  have h3 : OutputOnly pre s7 := State.updTile_outputOnly h2 (TileSt.fillOuts_mvmRun _)
  clear_value s7
  have h4 : OutputOnly pre s8 := State.blockTrouble_outputOnly h3
  clear_value s8
  exact OutputOnly.ite (State.updTile_outputOnly h4) h4

theorem State.emitP24_outputOnly {pre : State} {s : State} (fo : OutputOnly pre s) {t : Nat} {c : Nat} {e : Nat} {had : Bool} {vals : List (Nat × List Int)} {poison : Nat → Bool} {trouble : Nat → Bool} : OutputOnly pre (s.emitP24 t c e had vals poison trouble) := by
  unfold State.emitP24
  extract_lets s1 s2 s3
  have h1 : OutputOnly pre s3 := OutputOnly.ite (State.orReg_outputOnly fo) (State.wideSat_outputOnly fo)
  clear_value s3
  exact State.updTile_outputOnly h1 (TileSt.fillOuts_mvmRun _)

theorem State.reportFault_outputOnly {pre : State} {s : State} (fo : OutputOnly pre s) {t : Nat} : OutputOnly pre (s.reportFault t) := by
  unfold State.reportFault
  exact State.updTile_outputOnly fo

/-! ### The commands -/

theorem bstateF_besideOutput (pl t : Nat) {n : Nat} (h : n < 8) : (bstateF pl).besideOutput t n := by
  have hplace : (bstateF pl).offset n < 4096 ∧ (bstateF pl).place n ∉ outputPlaces := by
    unfold bstateF
    split
    · exact (by decide : ∀ n < 8, ARR_BANK_CFG0_BSTATE.offset n < 4096 ∧ ARR_BANK_CFG0_BSTATE.place n ∉ outputPlaces) n h
    · exact (by decide : ∀ n < 8, ARR_BANK_CFG1_BSTATE.offset n < 4096 ∧ ARR_BANK_CFG1_BSTATE.place n ∉ outputPlaces) n h
  exact ⟨bstateF_apart pl t n, hplace.1, bstateF_lo_lt pl, hplace.2⟩
theorem clipLast_besideOutput (t : Nat) {n : Nat} (h : n < 8) : ARR_CLIP_LAST_COUNT.besideOutput t n := by
  obtain ⟨ho, hp⟩ := (by decide : ∀ n < 8, ARR_CLIP_LAST_COUNT.offset n < 4096 ∧ ARR_CLIP_LAST_COUNT.place n ∉ outputPlaces) n h
  exact ⟨clipLast_apart t n, ho, by decide, hp⟩
theorem OutputOnly.computeView {a s : State} (h : OutputOnly a s) (pl t : Nat) {n : Nat} (hn : n < 8) : s.computeView pl t n = a.computeView pl t n := by
  unfold State.computeView
  rw [h.reg _ _ _ (bstateF_besideOutput pl t hn), h.reg _ _ _ (clipLast_besideOutput t hn)]

/-- An accepted MVM has every array compute, with no clips yet, and is in progress. -/
theorem State.mvmAccept_computes (s : State) (i : Issue) (f : MvmF) (hnd : f.arrs.Nodup) (hlt : ∀ n ∈ f.arrs, n < 8) :
    ((s.mvmAccept i f).tile i.tile.val).mvmRun.has i.entry.val = true ∧
      ∀ n ∈ f.arrs, (s.mvmAccept i f).computeView f.pl i.tile.val n = (bsCompute, 0) := by
  unfold State.mvmAccept
  extract_lets t c e spans s1 r s2 s3 s4
  refine ⟨?_, fun n hn => ?_⟩
  · rw [State.tile_updTile_same]
    exact Map.has_put_same ..
  · have hr : r.1.computeView f.pl t n = (bsCompute, 0) := by
      unfold r
      exact foldl_at (fun a : State × MvmRun => a.1.computeView f.pl t n) (fun a m hm => a.1.mvmRunArray_other t c e hm f)
        (fun a => a.1.mvmRunArray_sets t c e n f) hnd hn
    have h3 : OutputOnly r.1 s3 := State.wideSat_outputOnly (State.splitTrouble_outputOnly .refl)
    have h4 : OutputOnly r.1 s4 := OutputOnly.ite (State.reportFault_outputOnly h3) h3
    exact (h4.computeView f.pl t (hlt n hn)).trans hr

theorem mvm_computes {i : Issue} {s : State} (hi : issuable s i 0) (hop : opcOf i.word.toNat = 2) (harrs : (mvmF i.word.toNat).arrs ≠ [])
    (hres : bits i.word.toNat 14 0 = 0) (hout : (mvmF i.word.toNat).out ≠ 3)
    (hrows : (mvmF i.word.toNat).first + (mvmF i.word.toNat).g * (mvmF i.word.toNat).size ≤ 1024)
    (hfirst : (mvmF i.word.toNat).first % (mvmF i.word.toNat).size = 0)
    (hfree : ∀ n ∈ (mvmF i.word.toNat).arrs, (seen s i).mvmCode i.tile.val n i.cycle.val (mvmF i.word.toNat) (bits i.word.toNat 43 41) = none)
    (hport : portOpen (seen s i) i 0 ((seen s i).mvmRows i.tile.val (mvmF i.word.toNat))) :
    ∃ u, exec (.mvm i) s = .next u ∧ (u.tile i.tile.val).mvmRun.has i.entry.val = true ∧
      ∀ n ∈ (mvmF i.word.toNat).arrs, u.reg (bstateF (mvmF i.word.toNat).pl) i.tile.val n = bsCompute ∧
        u.reg ARR_CLIP_LAST_COUNT i.tile.val n = 0 := by
  have hbad : (mvmF i.word.toNat).rowsBad = false := by
    unfold MvmF.rowsBad
    rw [decide_eq_false (by omega), hfirst]
    rfl
  have hform : ((mvmF i.word.toNat).arrs.isEmpty || bits i.word.toNat 14 0 != 0 || (mvmF i.word.toNat).out == 3 ||
      (decide (bits i.word.toNat 43 41 < 5) && (mvmF i.word.toNat).rowsBad)) = false := by
    simp [harrs, hres, hout, hbad]
  have hexec : exec (.mvm i) s = .next (((seen s i).portClaim i.tile.val i.cycle.val 0 i.word.toNat ((seen s i).mvmRows i.tile.val (mvmF i.word.toNat))).mvmAccept
      i (mvmF i.word.toNat)) := by
    show execMvm i s = _
    unfold execMvm
    rw [issue_runs hi]
    unfold State.runMvm
    dsimp only
    rw [hop, bne_self_eq_false, if_neg Bool.false_ne_true, hform, if_neg Bool.false_ne_true, refusals_nil hfree, List.isEmpty_nil, Bool.not_true,
      if_neg Bool.false_ne_true, hport, if_neg Bool.false_ne_true]
  obtain ⟨hrun, hview⟩ := State.mvmAccept_computes ((seen s i).portClaim i.tile.val i.cycle.val 0 i.word.toNat
    ((seen s i).mvmRows i.tile.val (mvmF i.word.toNat))) i (mvmF i.word.toNat) (maskArrays_nodup _) (fun n hn => maskArrays_lt hn)
  exact ⟨_, hexec, hrun, fun n hn => Prod.mk.inj (hview n hn)⟩

/-! ### MVM_COMPLETE -/

/-- The bank of an array at the end of an MVM: READY, unless a later MVM computes on it. -/
def State.bankEnd (s : State) (t e : Nat) (f : MvmF) (n : Nat) : State :=
  if s.reg (bstateF f.pl) t n == bsCompute && !laterMvm s t e f n then s.setReg (bstateF f.pl) t n bsReady else s
theorem State.bankEnd_ready {s : State} {t e : Nat} {f : MvmF} {n : Nat} (hs : s.reg (bstateF f.pl) t n = bsCompute) (hl : laterMvm s t e f n = false) :
    (s.bankEnd t e f n).reg (bstateF f.pl) t n = bsReady := by
  unfold State.bankEnd
  rw [hs, hl, if_pos (by decide)]
  exact s.setReg_bstate _ _ _ (by decide)
theorem State.bankEnd_reg (s : State) (t e : Nat) (f : MvmF) (n : Nat) {g : Fld} {inst i : Nat} (hb : (bstateF f.pl).key t n ≠ g.key inst i) :
    (s.bankEnd t e f n).reg g inst i = s.reg g inst i := by
  unfold State.bankEnd
  split
  · exact State.reg_setReg_other hb
  · rfl
theorem State.bankEnd_tile (s : State) (t e : Nat) (f : MvmF) (n u : Nat) : (s.bankEnd t e f n).tile u = s.tile u := by
  unfold State.bankEnd
  split <;> rfl

/-- The end of an MVM in an array sets its bank's state and its clip count, and after them the total and the trouble of clips. -/
theorem State.mvmEndArray_reg (s : State) (t e : Nat) (f : MvmF) (r : MvmRun) (n : Nat) {g : Fld} {inst i : Nat} (h32 : g.lo < 32) (h1 : g.lo ≠ 1)
    (h16 : g.lo ≠ 16) (ht : ARR_CLIP_TOTAL_TOTAL.key t n ≠ g.key inst i) :
    (s.mvmEndArray t e f r n).reg g inst i = ((s.bankEnd t e f n).setReg ARR_CLIP_LAST_COUNT t n (min (r.clips.get n 0) 65535)).reg g inst i := by
  unfold State.mvmEndArray
  extract_lets later s1 s2 s3
  have h2 : s2.reg g inst i = (s1.setReg ARR_CLIP_LAST_COUNT t n (min (r.clips.get n 0) 65535)).reg g inst i := State.reg_setReg_other ht
  have h3 : s3.reg g inst i = s2.reg g inst i := by
    unfold s3
    split
    · exact State.reg_setReg_other (Fld.key_ne_of_lo (by decide) h32 h16.symm)
    · rfl
  refine Eq.trans ?_ (h3.trans h2)
  split
  · exact State.reg_setReg_other (Fld.key_ne_of_lo (by decide) h32 h1.symm)
  · rfl
theorem State.mvmEndArray_tile (s : State) (t e : Nat) (f : MvmF) (r : MvmRun) (n u : Nat) : (s.mvmEndArray t e f r n).tile u = s.tile u := by
  unfold State.mvmEndArray
  extract_lets later s1 s2 s3
  have h3 : s3.tile u = s.tile u := by
    have h1 : s1.tile u = s.tile u := s.bankEnd_tile t e f n u
    unfold s3
    split <;> exact h1
  split <;> exact h3

theorem clipTotal_key_ne_clipLast {t n m : Nat} : ARR_CLIP_TOTAL_TOTAL.key t m ≠ ARR_CLIP_LAST_COUNT.key t n := by
  simp only [Fld.key, Fld.offset, ARR_CLIP_TOTAL_TOTAL, ARR_CLIP_LAST_COUNT]
  omega
theorem State.mvmEndArray_view (s : State) (t e : Nat) (f : MvmF) (r : MvmRun) (n m : Nat) :
    (s.mvmEndArray t e f r m).computeView f.pl t n =
      ((s.bankEnd t e f m).setReg ARR_CLIP_LAST_COUNT t m (min (r.clips.get m 0) 65535)).computeView f.pl t n := by
  unfold State.computeView
  rw [State.mvmEndArray_reg s t e f r m (bstateF_lo_lt _) (bstateF_lo _ ▸ by decide) (bstateF_lo _ ▸ by decide)
      (bstateF_key_ne_of_lo (by decide) (by decide)).symm,
    State.mvmEndArray_reg s t e f r m (by decide) (by decide) (by decide) clipTotal_key_ne_clipLast]
theorem State.mvmEndArray_other (s : State) (t e : Nat) (f : MvmF) (r : MvmRun) {n m : Nat} (hne : m ≠ n) :
    (s.mvmEndArray t e f r m).computeView f.pl t n = s.computeView f.pl t n := by
  rw [State.mvmEndArray_view s t e f r n m]
  unfold State.computeView
  rw [State.reg_setReg_other (bstateF_key_ne_of_lo (by decide) (by decide)).symm, State.reg_setReg_other (clipLast_key_ne hne),
    State.bankEnd_reg _ _ _ _ _ (bstateF_key_ne hne), State.bankEnd_reg _ _ _ _ _ (bstateF_key_ne_of_lo (by decide) (by decide))]
theorem State.mvmEndArray_clips (s : State) (t e : Nat) (f : MvmF) (r : MvmRun) (n : Nat) :
    (s.mvmEndArray t e f r n).reg ARR_CLIP_LAST_COUNT t n = min (r.clips.get n 0) 65535 := by
  have h := congrArg Prod.snd (s.mvmEndArray_view t e f r n n)
  refine Eq.trans h ((State.reg_setReg_same ..).trans (Nat.mod_eq_of_lt ?_))
  exact Nat.lt_of_le_of_lt (Nat.min_le_right _ _) (by decide)
theorem State.mvmEndArray_bank (s : State) (t e : Nat) (f : MvmF) (r : MvmRun) {n : Nat} (hs : s.reg (bstateF f.pl) t n = bsCompute)
    (hl : laterMvm s t e f n = false) : (s.mvmEndArray t e f r n).reg (bstateF f.pl) t n = bsReady := by
  have h := congrArg Prod.fst (s.mvmEndArray_view t e f r n n)
  exact Eq.trans h ((State.reg_setReg_other (bstateF_key_ne_of_lo (by decide) (by decide)).symm).trans (State.bankEnd_ready hs hl))

/-- What the end of an MVM in an array reads: the bank's state, the clip count, and the MVMs in progress. -/
def State.endView (s : State) (pl t n : Nat) : (Nat × Nat) × Map MvmRun := (s.computeView pl t n, (s.tile t).mvmRun)

/-- The end of an MVM in its arrays, whose banks and MVMs in progress each finds as they were before the first. -/
theorem mvmEndArrays_view (a : State) (t e : Nat) (f : MvmF) (r : MvmRun) {n : Nat} (hnd : f.arrs.Nodup) (hn : n ∈ f.arrs) :
    let u := f.arrs.foldl (fun s n => s.mvmEndArray t e f r n) a
    u.reg ARR_CLIP_LAST_COUNT t n = min (r.clips.get n 0) 65535 ∧
      (a.reg (bstateF f.pl) t n = bsCompute → laterMvm a t e f n = false → u.reg (bstateF f.pl) t n = bsReady) := by
  obtain ⟨b, hb, hu⟩ := foldl_step_at (f := fun s n => State.mvmEndArray s t e f r n) (p := n) (fun s : State => s.endView f.pl t n) (fun s m hm => by
    unfold State.endView
    rw [State.mvmEndArray_other s t e f r hm, State.mvmEndArray_tile]) hnd hn a
  obtain ⟨hbv, hbr⟩ := Prod.mk.inj hb
  obtain ⟨huv, -⟩ := Prod.mk.inj hu
  obtain ⟨hub, huc⟩ := Prod.mk.inj huv
  refine ⟨huc.trans (b.mvmEndArray_clips t e f r n), fun hs hl => hub.trans (b.mvmEndArray_bank t e f r ?_ ?_)⟩
  · exact (Prod.mk.inj hbv).1.trans hs
  · unfold laterMvm at hl ⊢
    rw [show (b.tile t).mvmRun = (a.tile t).mvmRun from hbr]
    exact hl

theorem State.gatherEnds_same (s : State) (t : Nat) (f : MvmF) (r : MvmRun) (l : List Nat) :
    (l.foldl (fun s n => s.gatherEnd t f r n) s).regs = s.regs ∧ (l.foldl (fun s n => s.gatherEnd t f r n) s).tiles = s.tiles := by
  have h := foldl_keep (f := fun s n => State.gatherEnd s t f r n) (fun s : State => (s.regs, s.tiles)) (fun s n => by
    unfold State.gatherEnd
    split <;> rfl) l s
  exact Prod.mk.inj h

/-- The state in which the outputs of an MVM that has ended are put out: its arrays judged, its clipping reported, and the MVM no longer in progress. -/
def State.mvmOver (s : State) (t e : Nat) (r : MvmRun) : State :=
  let f := mvmF r.word
  let s1 := f.arrs.foldl (fun s n => s.gatherEnd t f r n) s
  ((f.arrs.foldl (fun s n => s.mvmEndArray t e f r n) s1).splitTrouble t r.cycle e 0x2003 f.pl
    ((f.arrs.filter (fun n => s.clipOver t n r)).map (fun n => (n, r.clipGroup.get n 0)))).updTile t (fun x => { x with mvmRun := x.mvmRun.del e })
theorem State.mvmEnd_outputs (s : State) (t e : Nat) (r : MvmRun) : OutputOnly (s.mvmOver t e r) (s.mvmEnd t e r) := by
  unfold State.mvmEnd
  extract_lets f beyond s1 s2 s3 vals poison trouble s4
  have h3 : OutputOnly (s.mvmOver t e r) s3 := .refl
  have h4 : OutputOnly (s.mvmOver t e r) s4 := OutputOnly.ite (State.retain_outputOnly h3) h3
  exact OutputOnly.ite (State.emitP24_outputOnly h4) (OutputOnly.ite (State.tailPath_outputOnly h4) (State.updTile_outputOnly h4))

/-- Settles O9: each command runs its arrays one by one, and what one leaves in its own registers the others do not write. -/
theorem arrayLoadsAndProducts : Obligations.ArrayLoadsAndProducts := by
  unfold Obligations.ArrayLoadsAndProducts
  refine ⟨fun i s hi hop harrs hres hkind hfree hport => ldin_loads hi hop harrs hres hkind hfree hport,
    fun i s hi hop harrs hres hout hrows hfirst hfree hport => mvm_computes hi hop harrs hres hout hrows hfirst hfree hport,
    fun tile entry s r hr => ?_⟩
  have hexec : exec (.mvmComplete tile entry) s = .next (s.mvmEnd tile.val entry.val r) := by
    show execMvmComplete tile entry s = _
    unfold execMvmComplete
    rw [hr]
  have hout := s.mvmEnd_outputs tile.val entry.val r
  refine ⟨_, hexec, ?_, fun n hn => ?_⟩
  · rw [hout.run]
    unfold State.mvmOver
    rw [State.tile_updTile_same]
    exact Map.has_del_same ..
  · obtain ⟨hregs, htiles⟩ := s.gatherEnds_same tile.val (mvmF r.word) r (mvmF r.word).arrs
    obtain ⟨hclips, hbank⟩ := mvmEndArrays_view ((mvmF r.word).arrs.foldl (fun s n => s.gatherEnd tile.val (mvmF r.word) r n) s) tile.val entry.val
      (mvmF r.word) r (maskArrays_nodup _) hn
    have hlt : n < 8 := maskArrays_lt hn
    have hover : ∀ g inst i, g.besideOutput inst i → (s.mvmEnd tile.val entry.val r).reg g inst i =
        ((mvmF r.word).arrs.foldl (fun s n => s.mvmEndArray tile.val entry.val (mvmF r.word) r n)
          ((mvmF r.word).arrs.foldl (fun s n => s.gatherEnd tile.val (mvmF r.word) r n) s)).reg g inst i := fun g inst i hg =>
      (hout.reg g inst i hg).trans ((State.splitTrouble_outputOnly .refl).reg g inst i hg)
    refine ⟨(hover _ _ _ (clipLast_besideOutput _ hlt)).trans hclips, fun hs hl => (hover _ _ _ (bstateF_besideOutput _ _ hlt)).trans (hbank ?_ ?_)⟩
    · unfold State.reg
      rw [hregs]
      exact hs
    · unfold laterMvm State.tile
      rw [htiles]
      exact hl

end Sys2Proof.Machine
end

section
/-! PROOF. Clove windows, requests for passes and the solve (07 R168; 12 R299 to R306): O21. -/

namespace Sys2Proof.Machine

open Sys2Proof Sys2Proof.Safety

/-! ### Clove windows -/

theorem State.measurePair_tiles (s : State) (pls : List Nat) : (s.measurePair pls).2.tiles = s.tiles := by
  unfold State.measurePair
  extract_lets a b
  have ha : a.2.tiles = s.tiles := by
    unfold a
    split <;> rfl
  have hb : b.2.tiles = a.2.tiles := by
    unfold b
    split <;> rfl
  exact hb.trans ha
/-- An item of a pass changes nothing of a tile. -/
theorem State.passItem_tiles (s : State) (t n cycle entry w : Nat) : (s.passItem t n cycle entry w).1.tiles = s.tiles := by
  unfold State.passItem
  extract_lets pos pls cost mvm
  cases s.passAt t pos with
  | none => rfl
  | some p =>
    dsimp only
    split
    · split
      · exact s.measurePair_tiles pls
      · rfl
    · split
      · split <;> rfl
      · split
        · split
          · split <;> exact s.measurePair_tiles pls
          · rfl
        · rfl
theorem State.passItems_tiles (t n cycle entry : Nat) : ∀ (k w : Nat) (s : State), (s.passItems t n cycle entry k w).tiles = s.tiles
  | 0, _, _ => rfl
  | k + 1, w, s => by
    unfold State.passItems
    split
    · rfl
    · exact (State.passItems_tiles t n cycle entry k _ _).trans (s.passItem_tiles ..)
theorem fst_tiles_ite {c : Prop} [Decidable c] {x y : State × Nat} {m : Map TileSt} (hx : x.1.tiles = m) (hy : y.1.tiles = m) :
    (if c then x else y).1.tiles = m := by
  split <;> assumption
theorem State.remapWork_tiles (s : State) (t n w : Nat) : (s.remapWork t n w).1.tiles = s.tiles := by
  unfold State.remapWork
  dsimp only
  split
  · rfl
  · exact fst_tiles_ite rfl (fst_tiles_ite rfl (fst_tiles_ite rfl rfl))
theorem State.spareWork_tiles (s : State) (t w : Nat) : (s.spareWork t w).tiles = s.tiles := by
  unfold State.spareWork
  split <;> rfl
/-- The work of a window changes nothing of a tile. -/
theorem State.windowWork_tiles (s : State) (t cycle entry w n : Nat) : (s.windowWork t cycle entry w n).tiles = s.tiles := by
  unfold State.windowWork
  split
  · rfl
  · extract_lets s1 r s2 pos
    have h1 : s1.tiles = s.tiles := by
      unfold s1
      split
      · exact s.spareWork_tiles t w
      · rfl
    have h2 : s2.tiles = s.tiles := (s1.remapWork_tiles t n w).trans h1
    split
    · exact (State.passItems_tiles ..).trans h2
    · refine (foldl_keep (fun a : State => a.tiles) ?_ _ s2).trans h2
      exact fun _ _ => rfl

theorem foldl_put_same_get? {α : Type} {v : α} {n : Nat} : ∀ {l : List Nat} {m : Map α}, n ∈ l ∨ m.get? n = some v →
    (l.foldl (fun m k => m.put k v) m).get? n = some v
  | [], _, h => h.resolve_left List.not_mem_nil
  | k :: l, m, h => by
    refine foldl_put_same_get? (l := l) ?_
    rw [Map.get?_put]
    by_cases hk : k = n
    · exact Or.inr (if_pos hk)
    · rw [if_neg hk]
      exact h.imp_left (fun hm => (List.mem_cons.1 hm).resolve_left (fun e => hk e.symm))

theorem clv_opens {i : Issue} {s : State} (hi : issuable s i 0) (hop : opcOf i.word.toNat = 6) (harrs : maskArrays (amaskOf i.word.toNat) ≠ [])
    (hres : bits i.word.toNat 34 0 = 0) (hlen : bits i.word.toNat 50 35 ≠ 0) (hopen : (seen s i).cloveOpen i.tile.val = true)
    (hfree : ∀ n ∈ maskArrays (amaskOf i.word.toNat), cloveFree (seen s i) i n) :
    ∃ u, exec (.clv i) s = .next u ∧ ∀ n ∈ maskArrays (amaskOf i.word.toNat),
      (u.tile i.tile.val).clvWin.get? n = some ⟨i.cycle.val, i.cycle.val + bits i.word.toNat 50 35, 0, 0⟩ := by
  have hform : ((maskArrays (amaskOf i.word.toNat)).isEmpty || bits i.word.toNat 34 0 != 0 || bits i.word.toNat 50 35 == 0) = false := by
    simp [harrs, hres, hlen]
  have hcodes : refusals (maskArrays (amaskOf i.word.toNat)) (fun n => firstCode [((seen s i).mvmIn i.tile.val n i.cycle.val (fun _ => true), 0x1012),
      (Win.active (((seen s i).tile i.tile.val).clvWin.get? n) i.cycle.val, 0x1016)]) = [] :=
    refusals_nil (fun n hn => by
      obtain ⟨hm, hw⟩ := hfree n hn
      rw [hm, hw]
      rfl)
  let w : Win := ⟨i.cycle.val, i.cycle.val + bits i.word.toNat 50 35, 0, 0⟩
  let v := (seen s i).updTile i.tile.val (fun x => { x with clvWin := (maskArrays (amaskOf i.word.toNat)).foldl (fun m n => m.put n w) x.clvWin })
  have hexec : exec (.clv i) s = .next ((maskArrays (amaskOf i.word.toNat)).foldl
      (fun s n => s.windowWork i.tile.val i.cycle.val i.entry.val (bits i.word.toNat 50 35) n) v) := by
    show execClv i s = _
    unfold execClv
    rw [issue_runs hi]
    unfold State.runClv
    dsimp only
    rw [hop, bne_self_eq_false, if_neg Bool.false_ne_true, hform, if_neg Bool.false_ne_true, hopen, Bool.not_true, if_neg Bool.false_ne_true, hcodes,
      List.isEmpty_nil, Bool.not_true, if_neg Bool.false_ne_true]
  have htiles := foldl_keep (fun a : State => a.tiles)
    (fun a n => State.windowWork_tiles a i.tile.val i.cycle.val i.entry.val (bits i.word.toNat 50 35) n) (maskArrays (amaskOf i.word.toNat)) v
  refine ⟨_, hexec, fun n hn => ?_⟩
  unfold State.tile
  rw [htiles]
  show (v.tile i.tile.val).clvWin.get? n = some w
  unfold v
  rw [State.tile_updTile_same]
  exact foldl_put_same_get? (Or.inl hn)

/-! ### Requests for passes -/

/-- The pass of a position, and whether it is stale. -/
def State.passView (s : State) (t pos : Nat) : Option PassSt × Nat := (s.passAt t pos, s.reg CAL_ASTAT_STALE t pos)
theorem stale_key_ne {t n m : Nat} (h : n ≠ m) : CAL_ASTAT_STALE.key t n ≠ CAL_ASTAT_STALE.key t m := by
  simp only [Fld.key, Fld.offset, CAL_ASTAT_STALE]
  omega
theorem posKey_ne {t n m : Nat} (h : n ≠ m) : posKey t n ≠ posKey t m := by
  unfold posKey
  omega
/-- A request leaves a pass in progress, which is stale where there was none. -/
theorem State.requestPass_passes (s : State) (t pos : Nat) : ((s.requestPass t pos).passAt t pos).isSome = true ∧
    (s.passAt t pos = none → (s.requestPass t pos).reg CAL_ASTAT_STALE t pos = 1) := by
  unfold State.requestPass
  cases hp : s.passAt t pos with
  | none =>
    dsimp only
    unfold State.startPass
    dsimp only
    refine ⟨?_, fun _ => ?_⟩
    · unfold State.passAt
      dsimp only [State.setReg_cal]
      rw [Map.get?_del_same, Map.get?_put_same]
      rfl
    · rw [State.reg_setReg_other (Fld.key_ne_of_lo (by decide) (by decide) (by decide))]
      exact State.reg_setReg_same ..
  | some p =>
    refine ⟨?_, fun h => absurd h (by simp)⟩
    unfold State.passAt at hp ⊢
    dsimp only
    rw [Map.get?_mapVal, Map.get?_mapVal]
    cases hn : s.cal.passNow.get? (posKey t pos) with
    | some q => rfl
    | none =>
      rw [hn] at hp
      rw [show s.cal.pass.get? (posKey t pos) = some p from hp]
      rfl
/-- A request for another position changes nothing of it. -/
theorem State.requestPass_other (s : State) {t pos m : Nat} (h : m ≠ pos) : (s.requestPass t m).passView t pos = s.passView t pos := by
  have hk := posKey_ne (t := t) h
  unfold State.requestPass State.passView
  cases s.passAt t m with
  | none =>
    dsimp only
    unfold State.startPass
    dsimp only
    rw [State.reg_setReg_other (Fld.key_ne_of_lo (by decide) (by decide) (by decide)), State.reg_setReg_other (stale_key_ne h)]
    unfold State.passAt
    dsimp only [State.setReg_cal]
    rw [Map.get?_del, Map.get?_put, if_neg hk, if_neg hk]
    rfl
  | some p =>
    dsimp only
    unfold State.passAt
    dsimp only
    simp only [Map.get?_mapVal, hk.symm, if_false]
    cases s.cal.passNow.get? (posKey t pos) <;> cases s.cal.pass.get? (posKey t pos) <;> rfl

/-- Requests at the positions of a list, each on its condition, leave a pass in progress at a position whose condition holds where it has none. -/
theorem requests_pass {t pos : Nat} {req : State → Nat → Bool} {l : List Nat} (hnd : l.Nodup) (hp : pos ∈ l)
    (hreq : ∀ a : State, a.passAt t pos = none → req a pos = true) (s : State) :
    let u := l.foldl (fun s pos => if req s pos then s.requestPass t pos else s) s
    (u.passAt t pos).isSome = true ∧ (s.passAt t pos = none → u.reg CAL_ASTAT_STALE t pos = 1) := by
  intro u
  obtain ⟨a, ha, hu⟩ := foldl_step_at (f := fun s pos => if req s pos then State.requestPass s t pos else s) (p := pos)
    (fun a : State => a.passView t pos) (fun a m hm => by
      split
      · exact a.requestPass_other hm
      · rfl) hnd hp s
  obtain ⟨hap, -⟩ := Prod.mk.inj ha
  obtain ⟨hup, hus⟩ := Prod.mk.inj hu
  by_cases hr : req a pos = true
  · rw [if_pos hr] at hup hus
    obtain ⟨hsome, hstale⟩ := a.requestPass_passes t pos
    exact ⟨hup ▸ hsome, fun hs => hus.trans (hstale (hap.trans hs))⟩
  · rw [if_neg hr] at hup hus
    refine ⟨?_, fun hs => absurd (hreq a (hap.trans hs)) hr⟩
    cases hc : a.passAt t pos with
    | none => exact absurd (hreq a hc) hr
    | some p => rw [hup, hc]; rfl

/-! ### Diodes -/

theorem State.judgeOver_cal (s : State) (site : Nat) : (s.judgeOver site).cal = s.cal := by
  unfold State.judgeOver
  split <;> rfl
theorem State.judgeOver_diode (s : State) (site : Nat) : (s.judgeOver site).thermal.diode = s.thermal.diode ∧
    (s.judgeOver site).thermal.diode0 = s.thermal.diode0 := by
  unfold State.judgeOver
  split <;> exact ⟨rfl, rfl⟩
theorem State.judgeOver_reg (s : State) (site : Nat) (f : Fld) (inst i : Nat) : (s.judgeOver site).reg f inst i = s.reg f inst i := by
  unfold State.judgeOver
  split <;> rfl
/-- A site's readings refreshed: only its temperature registers, and the mark of a site above its limit, change. -/
theorem State.refreshTemp_reg (s : State) (site : Nat) {f : Fld} {inst i : Nat} (h32 : f.lo < 32) (hlo : f.lo ∉ [0, 16, 31]) :
    (s.refreshTemp site).reg f inst i = s.reg f inst i := by
  simp only [List.mem_cons, List.not_mem_nil, or_false, not_or] at hlo
  obtain ⟨h0, h16, h31⟩ := hlo
  unfold State.refreshTemp
  dsimp only
  rw [State.judgeOver_reg]
  exact ((State.reg_setReg_other (Fld.key_ne_of_lo (by decide) h32 (Ne.symm h31))).trans
    (State.reg_setReg_other (Fld.key_ne_of_lo (by decide) h32 (Ne.symm h16)))).trans (State.reg_setReg_other (Fld.key_ne_of_lo (by decide) h32 (Ne.symm h0)))
theorem State.refreshTemp_cal (s : State) (site : Nat) : (s.refreshTemp site).cal = s.cal := by
  unfold State.refreshTemp
  dsimp only
  rw [State.judgeOver_cal]
  rfl
theorem State.refreshTemp_diode (s : State) (site : Nat) : (s.refreshTemp site).thermal.diode = s.thermal.diode := by
  unfold State.refreshTemp
  dsimp only
  rw [(State.judgeOver_diode _ site).1]
  rfl

/-- A fresh reading is held, and the positions that it finds warmed are those further from it than TRIG. -/
theorem State.readDiode_holds {s : State} {t v : Nat} (h : s.diodeStale t = false) : (s.readDiode t v).thermal.diode.get? t = some v := by
  unfold State.readDiode
  rw [h, if_neg Bool.false_ne_true, State.refreshTemp_diode]
  exact Map.get?_put_same ..
theorem State.readDiode_cal (s : State) (t v : Nat) : (s.readDiode t v).cal = s.cal := by
  unfold State.readDiode
  split
  · rfl
  · exact State.refreshTemp_cal ..
theorem State.readDiode_reg (s : State) (t v : Nat) {f : Fld} {inst i : Nat} (h32 : f.lo < 32) (hlo : f.lo ∉ [0, 16, 31]) :
    (s.readDiode t v).reg f inst i = s.reg f inst i := by
  unfold State.readDiode
  split
  · rfl
  · exact State.refreshTemp_reg _ _ h32 hlo
theorem State.readDiode_warms {s : State} {t v n : Nat} (h : s.diodeStale t = false) (hs : (s.servesArr t n).isSome = true) (he : s.cal.epoch ≠ 0)
    (hfar : s.g CAL_CFG_TRIG 0 < distance v (s.tcalOf t n)) : (s.readDiode t v).warmed t n = true := by
  have hserves : (s.readDiode t v).servesArr t n = s.servesArr t n := by
    unfold State.servesArr State.arrPos State.flag
    simp only [State.readDiode_reg s t v (f := ARR_SPARE_MAP_SPARE_ARRAY) (by decide) (by decide)]
  have htrig : (s.readDiode t v).g CAL_CFG_TRIG 0 = s.g CAL_CFG_TRIG 0 := s.readDiode_reg t v (by decide) (by decide)
  have hdiode : (s.readDiode t v).diodeOf t = v := by
    unfold State.diodeOf
    rw [Map.get_eq, State.readDiode_holds h]
    rfl
  have htcal : (s.readDiode t v).tcalOf t n = s.tcalOf t n := by
    unfold State.tcalOf
    rw [State.readDiode_cal]
  unfold State.warmed
  rw [hserves, hs, State.readDiode_cal, htrig, hdiode, htcal, decide_eq_true hfar, Bool.true_and, Bool.and_true, bne_iff_ne]
  exact he
theorem State.requestPass_thermal (s : State) (t pos : Nat) : (s.requestPass t pos).thermal = s.thermal := by
  unfold State.requestPass
  split <;> rfl

theorem temperatureTrigger_requests {t : Tile} {reading : Fin 1024} {s : State} (h : s.diodeStale t.val = false) :
    ∃ u, exec (.calTemperatureTrigger t reading) s = .next u ∧ u.thermal.diode.get? t.val = some reading.val ∧
      ∀ n < 9, (s.servesArr t.val n).isSome = true → s.cal.epoch ≠ 0 → s.g CAL_CFG_TRIG 0 < distance reading.val (s.tcalOf t.val n) →
        (u.passAt t.val n).isSome = true ∧ (s.passAt t.val n = none → u.reg CAL_ASTAT_STALE t.val n = 1) := by
  refine ⟨_, rfl, ?_, fun n hn hs he hfar => ?_⟩
  · have hth : ∀ (l : List Nat) (a : State) (was : List Nat), (l.foldl (fun s pos => if (s.passAt t.val pos).isNone || !was.contains pos then
        s.requestPass t.val pos else s) a).thermal = a.thermal := fun l a was =>
      foldl_keep (fun a : State => a.thermal) (fun a pos => by
        split
        · exact a.requestPass_thermal ..
        · rfl) l a
    rw [hth]
    exact State.readDiode_holds h
  · have hmem : n ∈ (upTo 9).filter ((s.readDiode t.val reading.val).warmed t.val) :=
      List.mem_filter.2 ⟨List.mem_range.2 hn, State.readDiode_warms h hs he hfar⟩
    have hpass : (s.readDiode t.val reading.val).passAt t.val n = s.passAt t.val n := by
      unfold State.passAt
      rw [State.readDiode_cal]
    obtain ⟨hsome, hstale⟩ := requests_pass (req := fun a pos => (a.passAt t.val pos).isNone || !((upTo 9).filter (s.warmed t.val)).contains pos)
      (List.nodup_range.filter _) hmem (fun a ha => by rw [ha]; rfl) (s.readDiode t.val reading.val)
    exact ⟨hsome, fun hs => hstale (hpass.trans hs)⟩

/-! ### The solve -/

theorem State.storePass_passAt (s : State) (t pos : Nat) (p : PassSt) : (s.storePass t pos p).passAt t pos = some p := by
  unfold State.storePass State.putPass State.passAt
  by_cases h : s.cal.passNow.has (posKey t pos) = true
  · rw [if_pos h]
    dsimp only
    rw [Map.get?_put_same]
  · rw [if_neg h]
    dsimp only
    rw [show s.cal.passNow.get? (posKey t pos) = none from Option.not_isSome_iff_eq_none.1 h, Map.get?_put_same]
/-- The pass of a position, and the state that its page shows. -/
def State.solveView (s : State) (t pos : Nat) : Option PassSt × Nat := (s.passAt t pos, s.reg CAL_ASTAT_STATE t pos)
theorem State.startRemap_solveView (s : State) (t n pl g pos : Nat) : (s.startRemap t n pl g).solveView t pos = s.solveView t pos := by
  let r := s.calRecord t 0xB003 0 0 (s.arrPos t n) pl g
  have hrec : r.solveView t pos = s.solveView t pos := by
    unfold r State.calRecord State.solveView
    dsimp only
    rw [if_pos (by decide)]
    refine Prod.ext ?_ ?_
    · unfold State.passAt State.tileRecord
      rw [State.record_cal]
      rfl
    · exact ((State.tileRecord_sameUpper .refl).reg _ _ _ (Fld.upper_of_lo (by decide) (by decide))).trans
        (State.reg_setReg_other (Fld.key_ne_of_lo (by decide) (by decide) (by decide)))
  have hremap : (r.beginRemap t n pl g false).solveView t pos = r.solveView t pos := by
    rcases r.beginRemap_cases t n pl g false with ⟨m, m', h⟩ | h
    · rw [h]
      exact Prod.ext rfl (State.reg_setReg_other (degradedF_key_ne_of_lo (by decide) (by decide)))
    · rw [h]
      unfold State.failBank
      split
      · exact Prod.ext rfl (State.reg_setReg_other (bstateF_key_ne_of_lo (by decide) (by decide)))
      · rfl
  exact hremap.trans hrec

theorem solveDone_solves {t : Tile} {pos : Fin 9} {s : State} {p : PassSt} {n : Nat} (hp : s.passAt t.val pos.val = some p) (hst : p.stage = 1)
    (hn : s.servesArr t.val pos.val = some n) :
    ∃ u q, exec (.calSolveDone t pos) s = .next u ∧ u.passAt t.val pos.val = some q ∧ q.stage = 2 ∧ u.reg CAL_ASTAT_STATE t.val pos.val = 4 := by
  show ∃ u q, execCalSolveDone t pos s = .next u ∧ _
  unfold execCalSolveDone
  dsimp only
  rw [hp, hn]
  dsimp only
  rw [if_neg (not_not_intro hst)]
  have hu := fun l a => foldl_keep (fun a : State => a.solveView t.val pos.val)
    (fun a (g : Nat × Nat) => a.startRemap_solveView t.val n g.1 g.2 pos.val) l a
  exact ⟨_, _, rfl, (Prod.mk.inj (hu _ _)).1.trans (State.storePass_passAt ..), rfl, (Prod.mk.inj (hu _ _)).2.trans (State.reg_setReg_same ..)⟩

/-- Settles O21: windows are opened before their work, which changes no tile; a request touches its own position alone; a solve stores its pass. -/
theorem calibrationPassCommands : Obligations.CalibrationPassCommands := by
  unfold Obligations.CalibrationPassCommands
  refine ⟨fun i s hi hop harrs hres hlen hopen hfree => clv_opens hi hop harrs hres hlen hopen hfree, fun path t mask s ho => ?_,
    fun t reading s h => temperatureTrigger_requests h, fun t pos s p n hp hst hn => solveDone_solves hp hst hn⟩
  have hexec : exec (.calPassReq path t mask) s = .next (s.passReq t.val mask.val) :=
    tileWrite_runs (pg := .cal) (act := fun s => s.passReq t.val mask.val) ho
  refine ⟨_, hexec, fun n hn hb => ?_⟩
  have h := requests_pass (t := t.val) (req := fun _ _ => true) ((List.nodup_range (n := 9)).filter (fun n => bitAt mask.val n))
    (List.mem_filter.2 ⟨List.mem_range.2 hn, hb⟩) (fun _ _ => rfl) s
  exact h

end Sys2Proof.Machine
end

section
/-! PROOF. What resets, aborts, repairs and dark sites leave alone: the state of repair, the open sessions, the failed phases, and a few registers. Every
operation that they are made of keeps these, said once for each. -/

namespace Sys2Proof.Machine

open Sys2Proof Sys2Proof.Safety

-- One proof after another: these many small proofs would otherwise wait for each other on a thread each.
set_option Elab.async false

/-! ### The registers held -/

/-- The fields that stand: two that report supplies, a function's negotiation and a partition's ring, and ICONV.FAILED where only the 64 partitions' own
words are written (`few`). -/
inductive Fld.Held (few : Prop) : Fld → Nat → Nat → Prop
  | convFail : Held few PWR_STATUS_CONV_FAIL 0 0
  | phFailed (site : Nat) (h : site < 56) : Held few PWR_SSTAT_PH_FAILED 0 site
  | failed (h : few) : Held few PWR_ICONV_FAILED 0 0
  | major (fn : Nat) (h : fn < 65536) : Held few SEC_NEG_MAJOR fn 0
  | ring (p : Nat) (h : p < 64) : Held few STW_RING_CFG_EN 0 p
/-- A field that is none of those. -/
def Fld.Beside (few : Prop) (f : Fld) (inst i : Nat) : Prop := ∀ g j k, Fld.Held few g j k → f.key inst i ≠ g.key j k

/-- By where it starts in its word and the page that it lies in, a field is beside all of them. -/
def Fld.harmless (f : Fld) : Bool :=
  decide (f.lo < 32) && f.lo != 3 && (f.lo != 25 || decide (10 < f.page.code)) && (f.lo != 16 || decide (1 < f.page.code)) &&
    (f.lo != 31 || decide (8 < f.page.code)) && (f.lo != 0 || decide (0xA * 2 ^ 28 + 0x6C < f.page.code * 2 ^ 28 + f.off))

variable {few : Prop}

/-- Where the fields held start, and how far up they lie. -/
theorem Fld.Held.place {g : Fld} {j k : Nat} (h : g.Held few j k) :
    g.key j k % 32 = 3 ∨ g.key j k % 32 = 25 ∧ g.key j k < 11 * 2 ^ 33 ∨ g.key j k % 32 = 16 ∧ g.key j k < 2 * 2 ^ 33 ∨
    g.key j k % 32 = 31 ∧ g.key j k < 9 * 2 ^ 33 ∨ few ∧ g.key j k = (0xA * 2 ^ 28 + 0x6C) * 32 := by
  cases h <;>
    simp only [Fld.key, Fld.offset, Page.code, PWR_STATUS_CONV_FAIL, PWR_SSTAT_PH_FAILED, PWR_ICONV_FAILED, SEC_NEG_MAJOR, STW_RING_CFG_EN] <;> grind
/-- The number of a field, by its page and offset. -/
theorem Fld.key_place (f : Fld) (h : f.lo < 32) (inst i : Nat) : f.key inst i % 32 = f.lo ∧ (f.page.code * 2 ^ 28 + f.off) * 32 ≤ f.key inst i ∧
    f.key inst i / 32 % 4096 = f.offset i % 4096 := by
  simp only [Fld.key, Fld.offset]
  omega

theorem Fld.beside_of_harmless {f : Fld} (h : f.harmless = true) (inst i : Nat) : f.Beside few inst i := by
  simp only [Fld.harmless, Bool.and_eq_true, Bool.or_eq_true, decide_eq_true_eq, bne_iff_ne] at h
  obtain ⟨⟨⟨⟨⟨h32, h3⟩, h25⟩, h16⟩, h31⟩, h0⟩ := h
  intro g j k hg he
  have hplace := hg.place
  have hkey := f.key_place h32 inst i
  rw [← he] at hplace
  omega
/-- A field that starts at bit 0 meets only ICONV.FAILED. -/
theorem Fld.beside_of_zero {f : Fld} {inst i : Nat} (hlo : f.lo = 0) (h : few → f.key inst i ≠ (0xA * 2 ^ 28 + 0x6C) * 32) : f.Beside few inst i := by
  intro g j k hg he
  have hplace := hg.place
  have hkey := f.key_place (hlo ▸ by decide) inst i
  rw [← he] at hplace
  obtain h' | ⟨h', _⟩ | ⟨h', _⟩ | ⟨h', _⟩ | ⟨hf, h'⟩ := hplace
  case inr.inr.inr.inr => exact h hf h'
  all_goals omega
/-- So does one that starts there and lies at another place of its page. -/
theorem Fld.beside_of_offset {f : Fld} {i : Nat} (hlo : f.lo = 0) (ho : f.offset i % 4096 ≠ 0x6C) (inst : Nat) : f.Beside few inst i := by
  have hkey := f.key_place (hlo ▸ by decide) inst i
  exact Fld.beside_of_zero hlo fun _ => by omega

theorem INT_PSTATE_PSTATE_beside {p : Nat} (hp : few → p < 64) : INT_PSTATE_PSTATE.Beside few 0 (p / 32) :=
  Fld.beside_of_zero rfl fun hf => by
    have := hp hf
    simp only [Fld.key, Fld.offset, INT_PSTATE_PSTATE, Page.code]
    omega
theorem LD_PSTATE_LCODE_beside {p : Nat} (hp : few → p < 64) : LD_PSTATE_LCODE.Beside few 0 p :=
  Fld.beside_of_zero rfl fun hf => by
    have := hp hf
    simp only [Fld.key, Fld.offset, LD_PSTATE_LCODE, Page.code]
    omega
theorem LD_CMD_STS_CODE_beside (n : Nat) : LD_CMD_STS_CODE.Beside few 0 n :=
  Fld.beside_of_offset rfl (by simp only [Fld.offset, LD_CMD_STS_CODE]; omega) 0
theorem ERR_CCOUNT_COUNT_beside {c : Nat} (h : c < 16) : ERR_CCOUNT_COUNT.Beside few 0 c :=
  Fld.beside_of_offset rfl (by simp only [Fld.offset, ERR_CCOUNT_COUNT]; omega) 0

theorem PWR_QSTATE_harmless (q : Nat) : (PWR_QSTATE (q % 16)).harmless = true := by
  have h : ∀ b : Fin 16, (PWR_QSTATE b.val).harmless = true := by decide
  exact h ⟨q % 16, Nat.mod_lt _ (by decide)⟩
theorem bstateF_harmless (pl : Nat) : (bstateF pl).harmless = true := by unfold bstateF; split <;> decide
theorem degradedF_harmless (pl : Nat) : (degradedF pl).harmless = true := by unfold degradedF; split <;> decide
theorem wfmtF_harmless (pl : Nat) : (wfmtF pl).harmless = true := by unfold wfmtF; split <;> decide
theorem streamF_harmless (pl : Nat) : (streamF pl).harmless = true := by unfold streamF; split <;> decide
theorem cmodeF_harmless (pl : Nat) : (cmodeF pl).harmless = true := by unfold cmodeF; split <;> decide
theorem spareF_harmless (row : Bool) (pl : Nat) : (if row then spareRowsF pl else spareGroupsF pl).harmless = true := by
  unfold spareRowsF spareGroupsF
  cases row <;> by_cases h : pl = 0 <;> simp only [h, if_true, if_false] <;> decide
theorem tcfgFields_harmless (k : Nat) : ∀ f ∈ tcfgFields k, f.harmless = true := by
  simp only [tcfgFields, List.forall_mem_cons, List.not_mem_nil, false_imp_iff, implies_true, and_true]
  exact ⟨rfl, rfl, rfl, rfl, rfl, rfl, rfl, rfl, rfl⟩

/-! ### What stands -/

/-- The state of repair, the sessions, VF Enable, the failed phases and the fields held are as they were, and a dark site stays dark. -/
structure Steady (few : Prop) (a s : State) : Prop where
  repair : s.repair = a.repair
  vfEnable : s.link.vfEnable = a.link.vfEnable
  sessions : s.link.sessions = a.link.sessions
  phases : s.power.phases = a.power.phases
  dark : ∀ site, a.power.darkWhy.has site = true → s.power.darkWhy.has site = true
  reg : ∀ f inst i, Fld.Held few f inst i → s.reg f inst i = a.reg f inst i

theorem Steady.refl {a : State} : Steady few a a := ⟨rfl, rfl, rfl, rfl, fun _ h => h, fun _ _ _ _ => rfl⟩
theorem Steady.ite {a u v : State} {c : Prop} [Decidable c] (hu : Steady few a u) (hv : Steady few a v) : Steady few a (if c then u else v) := by
  split <;> assumption
/-- What a state shows of all this, beside its registers. -/
abbrev State.standing (s : State) : RepairSt × Bool × Map Session × NatSet × Map Nat :=
  (s.repair, s.link.vfEnable, s.link.sessions, s.power.phases, s.power.darkWhy)
theorem Steady.of_standing {a s t : State} (h : Steady few a s) (he : t.standing = s.standing)
    (hreg : ∀ f inst i, Fld.Held few f inst i → t.reg f inst i = s.reg f inst i) : Steady few a t := by
  simp only [State.standing, Prod.mk.injEq] at he
  obtain ⟨hrepair, hvf, hsessions, hphases, hdark⟩ := he
  exact ⟨hrepair.trans h.repair, hvf.trans h.vfEnable, hsessions.trans h.sessions, hphases.trans h.phases, fun site hd => hdark ▸ h.dark site hd,
    fun f inst i hh => (hreg f inst i hh).trans (h.reg f inst i hh)⟩
/-- A change that leaves the registers and what stands beside them alone. -/
theorem Steady.same {a s t : State} (h : Steady few a s) (hregs : t.regs = s.regs) (he : t.standing = s.standing) : Steady few a t :=
  h.of_standing he fun _ _ _ _ => by unfold State.reg; rw [hregs]

section
variable {a : State} {β γ : Type}

theorem foldl_steady_mem {f : State → β → State} : ∀ {l : List β} (_ : ∀ s, ∀ b ∈ l, Steady few a s → Steady few a (f s b)) {s : State},
    Steady few a s → Steady few a (l.foldl f s)
  | [], _, _, h => h
  | b :: _, hf, s, h => foldl_steady_mem (fun s c hc => hf s c (List.mem_cons_of_mem _ hc)) (hf s b (List.mem_cons_self ..) h)
theorem foldl_steady_mem1 {f : State × γ → β → State × γ} :
    ∀ {l : List β} (_ : ∀ s, ∀ b ∈ l, Steady few a s.1 → Steady few a (f s b).1) {s : State × γ}, Steady few a s.1 → Steady few a (l.foldl f s).1
  | [], _, _, h => h
  | b :: _, hf, s, h => foldl_steady_mem1 (fun s c hc => hf s c (List.mem_cons_of_mem _ hc)) (hf s b (List.mem_cons_self ..) h)
theorem foldl_steady {f : State → β → State} (hf : ∀ s b, Steady few a s → Steady few a (f s b)) {l : List β} {s : State}
    (h : Steady few a s) : Steady few a (l.foldl f s) :=
  foldl_steady_mem (fun s b _ => hf s b) h
theorem foldl_steady1 {f : State × γ → β → State × γ} (hf : ∀ s b, Steady few a s.1 → Steady few a (f s b).1) {l : List β} {s : State × γ}
    (h : Steady few a s.1) : Steady few a (l.foldl f s).1 :=
  foldl_steady_mem1 (fun s b _ => hf s b) h
end

section
variable {pre s : State} (fo : Steady few pre s)
include fo

theorem State.setReg_steady_of {f : Fld} {inst i v : Nat} (hb : f.Beside few inst i) : Steady few pre (s.setReg f inst i v) :=
  fo.of_standing rfl fun g j k hg => State.reg_setReg_other (hb g j k hg)
theorem State.setReg_steady {f : Fld} {inst i v : Nat} (hf : f.harmless = true := by decide) : Steady few pre (s.setReg f inst i v) :=
  State.setReg_steady_of fo (Fld.beside_of_harmless hf inst i)
theorem State.setAt_steady {f : Fld} {inst i v : Nat} (hlo : f.lo = 0 := by decide) (ho : f.offset i % 4096 ≠ 0x6C := by decide) :
    Steady few pre (s.setReg f inst i v) :=
  State.setReg_steady_of fo (Fld.beside_of_offset hlo ho inst)
theorem State.setG_steady_of {f : Fld} {i v : Nat} (hb : f.Beside few 0 i) : Steady few pre (s.setG f i v) := State.setReg_steady_of fo hb
theorem State.setG_steady {f : Fld} {i v : Nat} (hf : f.harmless = true := by decide) : Steady few pre (s.setG f i v) :=
  State.setReg_steady fo hf
theorem State.addReg_steady {f : Fld} {inst i d : Nat} (hf : f.harmless = true := by decide) : Steady few pre (s.addReg f inst i d) :=
  State.setReg_steady fo hf
theorem State.appendLog_steady {r : FaultRec} : Steady few pre (s.appendLog r) := fo.same (Eq.refl _) (Eq.refl _)
end

theorem Map.get_keep_of_all {α : Type} (m : Map α) {p : Nat → α → Bool} {k : Nat} (d : α) (h : ∀ v, p k v = true) : (m.keep p).get k d = m.get k d := by
  unfold Map.get Map.keep
  refine congrArg (fun o => Option.getD o d) (?_ : lookupList _ k = lookupList _ k)
  dsimp only
  induction m.entries with
  | nil => rfl
  | cons e l ih =>
    obtain ⟨j, v⟩ := e
    by_cases hj : j = k
    · subst hj
      simp [lookupList, h]
    · by_cases hp : p j v = true <;> simp [lookupList, hj, hp, ih]
/-- The state of a bank is none of the fields held. -/
theorem isBstate_held {f : Fld} {inst i : Nat} (h : Fld.Held few f inst i) : isBstate (f.key inst i) = false := by
  have hplace := h.place
  simp only [isBstate, List.any_eq_false, Bool.or_eq_true, beq_iff_eq, not_or]
  intro n _
  have h0 := (bstateF 0).key_place (by decide) (f.key inst i / 32 / 4096 % 65536) n
  have h1 := (bstateF 1).key_place (by decide) (f.key inst i / 32 / 4096 % 65536) n
  have hlo0 : (bstateF 0).lo = 26 := rfl
  have hlo1 : (bstateF 1).lo = 26 := rfl
  omega
theorem Steady.banks {pre s t : State} (fo : Steady few pre s) {p : Nat → Nat → Bool} (hregs : t.regs = s.regs.keep p)
    (hp : ∀ k v, isBstate k = false → p k v = true) (he : t.standing = s.standing) : Steady few pre t := by
  refine fo.of_standing he fun f inst i hh => ?_
  unfold State.reg
  rw [hregs, Map.get_keep_of_all _ _ fun v => hp _ v (isBstate_held hh)]

/-! ### Every operation -/

theorem State.emptyBanks_steady {pre : State} {s : State} (fo : Steady few pre s) {q : Nat → Bool} : Steady few pre (s.emptyBanks q) := by
  unfold State.emptyBanks
  exact fo.banks (p := fun k _ => !(isBstate k && q (k / 32 / 4096 % 65536))) (Eq.refl _) (fun k v hk => by rw [hk]; rfl) (Eq.refl _)

theorem State.setPart_steady {pre : State} {s : State} (fo : Steady few pre s) {p : Nat} {x : PartSt} : Steady few pre (s.setPart p x) := by
  unfold State.setPart
  exact fo.same (Eq.refl _) (Eq.refl _)

theorem State.updPart_steady {pre : State} {s : State} (fo : Steady few pre s) {p : Nat} {f : PartSt → PartSt} : Steady few pre (s.updPart p f) := by
  unfold State.updPart
  exact State.setPart_steady fo

theorem State.loseQuad_steady {pre : State} {s : State} (fo : Steady few pre s) {q : Nat} : Steady few pre (s.loseQuad q) := by
  unfold State.loseQuad
  extract_lets s1 s2 s3 s4 s5 s6 s7
  have h1 : Steady few pre s2 := State.emptyBanks_steady fo
  clear_value s2
  have h2 : Steady few pre s7 := h1.same (Eq.refl _) (Eq.refl _)
  clear_value s7
  split
  · rename_i y1 y2 y3
    exact Steady.ite (State.updPart_steady h2) h2
  · exact h2

theorem State.judgeOver_steady {pre : State} {s : State} (fo : Steady few pre s) {site : Nat} : Steady few pre (State.judgeOver s site) := by
  unfold State.judgeOver
  exact Steady.ite (fo.same (Eq.refl _) (Eq.refl _)) fo

theorem State.refreshTemp_steady {pre : State} {s : State} (fo : Steady few pre s) {site : Nat} : Steady few pre (State.refreshTemp s site) := by
  unfold State.refreshTemp
  extract_lets s1
  exact State.judgeOver_steady (State.setG_steady (State.setG_steady (State.setG_steady fo)))

theorem State.setQ_steady {pre : State} {s : State} (fo : Steady few pre s) {q : Nat} {st : Nat} : Steady few pre (State.setQ s q st) := by
  unfold State.setQ
  extract_lets s1
  have h1 : Steady few pre s1 := State.setG_steady fo (PWR_QSTATE_harmless q)
  clear_value s1
  exact Steady.ite h1 (State.refreshTemp_steady h1)

theorem State.dropQuad_steady {pre : State} {s : State} (fo : Steady few pre s) {q : Nat} : Steady few pre (s.dropQuad q) := by
  unfold State.dropQuad
  extract_lets s1 s2
  have h1 : Steady few pre s2 := fo.same (Eq.refl _) (Eq.refl _)
  clear_value s2
  exact Steady.ite h1 (State.setQ_steady (State.loseQuad_steady h1))

theorem State.onTiles_steady {pre : State} {s : State} (fo : Steady few pre s) {p : Nat} {f : TileSt → TileSt} : Steady few pre (s.onTiles p f) := by
  unfold State.onTiles
  exact fo.same (Eq.refl _) (Eq.refl _)

theorem State.setReq_steady {pre : State} {s : State} (fo : Steady few pre s) {r : Nat} {x : ReqSt} : Steady few pre (s.setReq r x) := by
  unfold State.setReq
  exact fo.same (Eq.refl _) (Eq.refl _)

theorem State.updReq_steady {pre : State} {s : State} (fo : Steady few pre s) {r : Nat} {f : ReqSt → ReqSt} : Steady few pre (s.updReq r f) := by
  unfold State.updReq
  exact State.setReq_steady fo

theorem State.clearBindings_steady {pre : State} {s : State} (fo : Steady few pre s) {p : Nat} : Steady few pre (s.clearBindings p) := by
  unfold State.clearBindings
  extract_lets s1 s2
  have h1 : Steady few pre s1 := by
    unfold s1
    apply foldl_steady
    · intro x1 x2 h1
      exact Steady.ite (State.updReq_steady h1) h1
    · exact fo
  clear_value s1
  have h2 : Steady few pre s2 := State.updPart_steady h1
  clear_value s2
  apply foldl_steady
  · intro x1 x2 h3
    exact State.updReq_steady h3
  · exact h2

theorem State.calDiscard_steady {pre : State} {s : State} (fo : Steady few pre s) {p : Nat} : Steady few pre (s.calDiscard p) := by
  unfold State.calDiscard
  extract_lets s1 s2 s3 s4
  have h1 : Steady few pre s4 := fo.same (Eq.refl _) (Eq.refl _)
  clear_value s4
  apply foldl_steady
  · intro x1 x2 h2
    split
    · rename_i y1 y2 y3
      exact State.setReg_steady h2
    · exact h2
  · exact h1

theorem State.endComputes_steady {pre : State} {s : State} (fo : Steady few pre s) {p : Nat} : Steady few pre (s.endComputes p) := by
  unfold State.endComputes
  apply foldl_steady
  · intro x1 x2 h1
    apply foldl_steady
    · intro x3 x4 h2
      extract_lets s1
      apply foldl_steady
      · intro x5 x6 h3
        exact Steady.ite (State.setReg_steady h3 (bstateF_harmless _)) h3
      · exact h2
    · exact h1
  · exact fo

theorem State.dropBeats_steady {pre : State} {s : State} (fo : Steady few pre s) {p : Nat} : Steady few pre (s.dropBeats p) := by
  unfold State.dropBeats
  exact fo.same (Eq.refl _) (Eq.refl _)

theorem State.discardAttempt_steady {pre : State} {s : State} (fo : Steady few pre s) {p : Nat} : Steady few pre (s.discardAttempt p) := by
  unfold State.discardAttempt
  extract_lets s1
  have h1 : Steady few pre s1 := State.dropBeats_steady (State.calDiscard_steady (State.endComputes_steady fo))
  clear_value s1
  exact State.onTiles_steady h1

theorem State.haltPart_steady {pre : State} {s : State} (fo : Steady few pre s) {p : Nat} : Steady few pre (State.haltPart s p) := by
  unfold State.haltPart
  extract_lets s1 s2
  have h1 : Steady few pre s1 := State.updPart_steady (State.setG_steady (State.onTiles_steady fo))
  clear_value s1
  exact h1.same (Eq.refl _) (Eq.refl _)

theorem State.countUp_steady {pre : State} {s : State} (fo : Steady few pre s) {p : Nat} : Steady few pre (s.countUp p) := by
  unfold State.countUp
  exact State.updPart_steady fo

theorem State.abortPart_steady {pre : State} {s : State} (fo : Steady few pre s) {p : Nat} : Steady few pre (s.abortPart p) := by
  unfold State.abortPart
  exact Steady.ite (State.clearBindings_steady (State.haltPart_steady (State.countUp_steady (State.onTiles_steady (State.discardAttempt_steady fo))))) fo

theorem State.coolQuads_steady {pre : State} {s : State} (fo : Steady few pre s) {l : List Nat} : Steady few pre (s.coolQuads l) := by
  unfold State.coolQuads
  exact fo.same (Eq.refl _) (Eq.refl _)

theorem State.emit_steady {pre : State} {s : State} (fo : Steady few pre s) {o : Out} : Steady few pre (s.emit o) := by
  unfold State.emit
  exact fo.same (Eq.refl _) (Eq.refl _)

theorem State.msix_steady {pre : State} {s : State} (fo : Steady few pre s) {fn : Nat} {vec : Nat} : Steady few pre (s.msix fn vec) := by
  unfold State.msix
  extract_lets s1 s2
  apply Steady.ite
  · exact State.emit_steady fo
  · exact fo.same (Eq.refl _) (Eq.refl _)

theorem State.raiseInt_steady {pre : State} {s : State} (fo : Steady few pre s) {fn : Nat} {bit : Nat} : Steady few pre (s.raiseInt fn bit) := by
  unfold State.raiseInt
  extract_lets s1 s2
  have h1 : Steady few pre s2 := State.setAt_steady fo
  clear_value s2
  exact Steady.ite fo (Steady.ite (State.msix_steady h1) h1)

theorem State.pstateInt_steady {pre s : State} {p : Nat} (hp : few → p < 64) (fo : Steady few pre s) : Steady few pre (s.pstateInt p) := by
  unfold State.pstateInt
  extract_lets s1 s2 s3
  have h1 : Steady few pre s2 := State.setG_steady_of fo (INT_PSTATE_PSTATE_beside hp)
  clear_value s2
  have h2 : Steady few pre s3 := Steady.ite fo (Steady.ite (State.msix_steady h1) h1)
  clear_value s3
  exact State.raiseInt_steady h2

theorem State.setPstate_steady {pre s : State} {p : Nat} (hp : few → p < 64) (fo : Steady few pre s) {st : Nat} : Steady few pre (s.setPstate p st) := by
  unfold State.setPstate
  exact Steady.ite fo (State.pstateInt_steady hp (State.setG_steady fo))

theorem State.enter_steady {pre s : State} {p : Nat} (hp : few → p < 64) (fo : Steady few pre s) {st : Nat} : Steady few pre (s.enter p st) := by
  unfold State.enter
  exact State.setPstate_steady hp (State.setG_steady fo)

theorem State.startWrite_steady {pre s : State} {p : Nat} (hp : few → p < 64) (fo : Steady few pre s) : Steady few pre (s.startWrite p) := by
  unfold State.startWrite
  exact State.enter_steady hp (State.coolQuads_steady (State.haltPart_steady fo))

theorem State.takeFree_steady {pre : State} {s : State} (fo : Steady few pre s) : Steady few pre s.takeFree.snd := by
  unfold State.takeFree
  dsimp only
  exact fo.same (Eq.refl _) (Eq.refl _)

theorem State.pickRims_steady {pre : State} {s : State} (fo : Steady few pre s) : Steady few pre (State.pickRims s).snd := by
  unfold State.pickRims
  extract_lets s1 s2 s3
  have h1 : Steady few pre s1.snd := State.takeFree_steady fo
  clear_value s1
  have h2 : Steady few pre s2.snd := State.takeFree_steady h1
  clear_value s2
  exact h2

theorem State.journalCopies_steady {pre : State} {s : State} (fo : Steady few pre s) : Steady few pre (State.journalCopies s).snd := by
  unfold State.journalCopies
  split
  · exact fo
  · rename_i y2
    extract_lets s1
    have h1 : Steady few pre s1.snd := State.pickRims_steady fo
    clear_value s1
    exact h1

theorem State.journalAcc_steady {pre : State} {s : State} (fo : Steady few pre s) {p : Nat} : Steady few pre (State.journalAcc s p) := by
  unfold State.journalAcc
  extract_lets s1 s2
  have h1 : Steady few pre s2.snd := State.journalCopies_steady fo
  clear_value s2
  exact Steady.ite fo (State.setPart_steady h1)

theorem State.pushRec_steady {pre : State} {s : State} (fo : Steady few pre s) {p : Nat} {x : OutRec} : Steady few pre (s.pushRec p x) := by
  unfold State.pushRec
  exact State.updPart_steady fo

theorem State.updPort_steady {pre : State} {s : State} (fo : Steady few pre s) {n : Nat} {f : AqdPort → AqdPort} : Steady few pre (s.updPort n f) := by
  unfold State.updPort
  exact fo.same (Eq.refl _) (Eq.refl _)

theorem State.bumpTag_steady {pre : State} {s : State} (fo : Steady few pre s) {port : Nat} : Steady few pre (State.bumpTag s port) := by
  unfold State.bumpTag
  exact State.updPort_steady fo

theorem State.putFlit_steady {pre : State} {s : State} (fo : Steady few pre s) {port : Nat} {k : Kept} : Steady few pre (State.putFlit s port k) := by
  unfold State.putFlit
  extract_lets s1
  exact Steady.ite (State.emit_steady (State.setReg_steady (State.setReg_steady fo))) (State.emit_steady fo)

theorem State.sendFlit_steady {pre : State} {s : State} (fo : Steady few pre s) {port : Nat} {ftype : Nat} {flags : Nat} {payload : List Byte} : Steady few pre (State.sendFlit s port ftype flags payload) := by
  unfold State.sendFlit
  extract_lets s1
  exact State.updPort_steady (State.putFlit_steady fo)

theorem State.sendMsg_steady {pre : State} {s : State} (fo : Steady few pre s) {port : Nat} {kind : Nat} {figures : List Nat} {h : MsgHead} {payload : List Byte} : Steady few pre (State.sendMsg s port kind figures h payload) := by
  unfold State.sendMsg
  extract_lets s1
  apply foldl_steady
  · intro x1 x2 h1
    exact State.sendFlit_steady h1
  · exact State.emit_steady fo

theorem State.sendPlain_steady {pre : State} {s : State} (fo : Steady few pre s) {port : Nat} {mtype : Nat} {kind : Nat} {figures : List Nat} {part : Nat} {tag : Nat} {payload : List Byte} : Steady few pre (State.sendPlain s port mtype kind figures part tag payload) := by
  unfold State.sendPlain
  exact State.sendMsg_steady fo

theorem State.sendTold_steady {pre : State} {s : State} (fo : Steady few pre s) {port : Nat} {part : Nat} {kind : Nat} {figures : List Nat} : Steady few pre (State.sendTold s port part kind figures) := by
  unfold State.sendTold
  extract_lets s1
  exact State.updPort_steady (State.sendPlain_steady (State.bumpTag_steady fo))

theorem State.tell_steady {pre : State} {s : State} (fo : Steady few pre s) {part : Nat} {kind : Nat} {figures : List Nat} : Steady few pre (State.tell s part kind figures) := by
  unfold State.tell
  split
  · rename_i y1 y2 y3
    apply foldl_steady
    · intro x1 x2 h1
      exact State.sendTold_steady h1
    · exact fo
  · exact fo

theorem State.unbind_steady {pre : State} {s : State} (fo : Steady few pre s) {p : Nat} {r : Nat} : Steady few pre (s.unbind p r) := by
  unfold State.unbind
  exact State.updReq_steady (State.updPart_steady fo)

theorem State.freeReqPages_steady {pre : State} {s : State} (fo : Steady few pre s) {r : Nat} : Steady few pre (s.freeReqPages r) := by
  unfold State.freeReqPages
  exact fo.same (Eq.refl _) (Eq.refl _)

theorem State.endTwin_steady {pre : State} {s : State} (fo : Steady few pre s) {w : Nat} : Steady few pre (s.endTwin w) := by
  unfold State.endTwin
  extract_lets s1 s2
  exact State.setReq_steady (State.freeReqPages_steady (State.unbind_steady fo))

theorem State.release_steady {pre : State} {s : State} (fo : Steady few pre s) {p : Nat} {r : Nat} : Steady few pre (s.release p r) := by
  unfold State.release
  extract_lets s1
  have h1 : Steady few pre s1 := State.updReq_steady (State.freeReqPages_steady (State.unbind_steady fo))
  clear_value s1
  split
  · rename_i y1 y2 y3
    exact State.endTwin_steady h1
  · exact h1

theorem State.endReq_steady {pre : State} {s : State} (fo : Steady few pre s) {p : Nat} {r : Nat} {st : Nat} {reason : Nat} {toks : List Nat} {seq : Nat} {accepted : Nat} {degraded : Bool} : Steady few pre (State.endReq s p r st reason toks seq accepted degraded) := by
  unfold State.endReq
  extract_lets s1 s2 s3 s4
  have h1 : Steady few pre s2 := State.release_steady (State.updReq_steady fo)
  clear_value s2
  have h2 : Steady few pre s3 := Steady.ite (State.tell_steady h1) h1
  clear_value s3
  exact State.pushRec_steady h2

theorem State.endPlain_steady {pre : State} {s : State} (fo : Steady few pre s) {p : Nat} {r : Nat} {st : Nat} {reason : Nat} : Steady few pre (s.endPlain p r st reason) := by
  unfold State.endPlain
  exact State.endReq_steady fo

theorem State.endReplaced_steady {pre : State} {s : State} (fo : Steady few pre s) {p : Nat} {queued : Bool} : Steady few pre (State.endReplaced s p queued) := by
  unfold State.endReplaced
  extract_lets s1
  apply State.journalAcc_steady
  apply foldl_steady
  · intro x1 x2 h1
    exact Steady.ite (State.updReq_steady h1) (State.endPlain_steady h1)
  · exact fo

theorem State.setLcode_steady {pre s : State} {p : Nat} (hp : few → p < 64) (fo : Steady few pre s) {c : Nat} : Steady few pre (s.setLcode p c) := by
  unfold State.setLcode
  exact Steady.ite fo (State.pstateInt_steady hp (State.setG_steady_of fo (LD_PSTATE_LCODE_beside hp)))

theorem State.recordInts_steady {pre : State} {s : State} (fo : Steady few pre s) {r : FaultRec} : Steady few pre (s.recordInts r) := by
  unfold State.recordInts
  extract_lets s1 s2 s3 s4 s5 s6 s7
  have h1 : Steady few pre s2 := State.setReg_steady_of fo (ERR_CCOUNT_COUNT_beside (Nat.mod_lt _ (by decide)))
  clear_value s2
  have h2 : Steady few pre s3 := Steady.ite (State.raiseInt_steady h1) h1
  clear_value s3
  have h3 : Steady few pre s4 := Steady.ite (State.raiseInt_steady h2) h2
  clear_value s4
  have h4 : Steady few pre s5 := Steady.ite (State.raiseInt_steady h3) h3
  clear_value s5
  have h5 : Steady few pre s6 := Steady.ite (State.raiseInt_steady h4) h4
  clear_value s6
  have h6 : Steady few pre s7 := by
    unfold s7
    split
    · rename_i y1 y2 y3
      exact Steady.ite (State.raiseInt_steady h5) h5
    · exact h5
  clear_value s7
  exact Steady.ite (State.emit_steady h6) h6

theorem State.record_steady {pre : State} {s : State} (fo : Steady few pre s) {r : Rec} : Steady few pre (s.record r) := by
  unfold State.record
  extract_lets s1 s2
  have h1 : Steady few pre s2 := State.recordInts_steady (State.appendLog_steady fo)
  clear_value s2
  split
  · rename_i y1 y2 y3
    exact Steady.ite (State.updPart_steady h1) h1
  · exact h1

theorem State.ldRecord_steady {pre : State} {s : State} (fo : Steady few pre s) {part : Option Nat} {code : Nat} {item : Nat} {detail : Nat} : Steady few pre (s.ldRecord part code item detail) := by
  unfold State.ldRecord
  exact State.record_steady fo

theorem State.cmdEndWith_steady {pre s : State} {part : Option Nat} (hp : ∀ p ∈ part, few → p < 64) (fo : Steady few pre s) {n : Nat} {code : Nat} {item : Nat} {detail : Nat} : Steady few pre (s.cmdEndWith n part code item detail) := by
  unfold State.cmdEndWith
  extract_lets s1 s2 s3
  have h1 : Steady few pre s1 := State.setG_steady_of (State.setG_steady fo) (LD_CMD_STS_CODE_beside n)
  clear_value s1
  have h2 : Steady few pre s2 := by
    unfold s2
    apply Steady.ite
    · exact h1
    · split
      · rename_i y1 y2
        exact Steady.ite (State.setLcode_steady (hp _ rfl) h1) h1
      · exact h1
  clear_value s2
  have h3 : Steady few pre s3 := Steady.ite h2 (State.ldRecord_steady h2)
  clear_value s3
  exact State.raiseInt_steady h3

theorem State.cmdEnd_steady {pre s : State} {part : Option Nat} (hp : ∀ p ∈ part, few → p < 64) (fo : Steady few pre s) {n : Nat} {code : Nat} : Steady few pre (s.cmdEnd n part code) := by
  unfold State.cmdEnd
  exact State.cmdEndWith_steady hp fo

theorem State.chainStop_steady {pre : State} {s : State} (fo : Steady few pre s) {p : Nat} : Steady few pre (State.chainStop s p) := by
  unfold State.chainStop
  exact Steady.ite (State.tell_steady fo) fo

theorem State.setStopr_steady {pre s : State} {p : Nat} (hp : few → p < 64) (fo : Steady few pre s) {r : Nat} : Steady few pre (s.setStopr p r) := by
  unfold State.setStopr
  exact Steady.ite fo (State.pstateInt_steady hp (State.setG_steady fo))

theorem State.tileRecord_steady {pre : State} {s : State} (fo : Steady few pre s) {t : Nat} {r : Rec} : Steady few pre (s.tileRecord t r) := by
  unfold State.tileRecord
  exact State.record_steady fo

theorem State.setSpares_steady {pre : State} {s : State} (fo : Steady few pre s) {f : Fld} {t : Nat} {n : Nat} {v : Nat} (hf : f.harmless = true) : Steady few pre (State.setSpares s f t n v) := by
  unfold State.setSpares
  extract_lets s1
  have h1 : Steady few pre s1 := State.setReg_steady fo hf
  clear_value s1
  exact Steady.ite (State.setReg_steady h1 hf) h1

theorem State.remapCommit_steady {pre : State} {s : State} (fo : Steady few pre s) {t : Nat} {pos : Nat} : Steady few pre (State.remapCommit s t pos) := by
  unfold State.remapCommit
  split
  · exact fo
  · rename_i y3 y4 y5 y6
    extract_lets s1 s2 s3 s4 s5 s6
    have h1 : Steady few pre s3 := fo.same (Eq.refl _) (Eq.refl _)
    clear_value s3
    have h2 : Steady few pre s5 := State.setSpares_steady h1 (spareF_harmless _ _)
    clear_value s5
    have h3 : Steady few pre s6 := Steady.ite h2 (State.setReg_steady h2 (degradedF_harmless _))
    clear_value s6
    exact Steady.ite (State.tileRecord_steady h3) fo

theorem State.streamRemaps_steady {pre : State} {s : State} (fo : Steady few pre s) {p : Nat} : Steady few pre (State.streamRemaps s p) := by
  unfold State.streamRemaps
  apply foldl_steady
  · intro x1 x2 h1
    split
    · exact h1
    · exact Steady.ite (State.remapCommit_steady h1) h1
  · exact fo

theorem State.cascadeStop_steady {pre s : State} {p : Nat} (hp : few → p < 64) (fo : Steady few pre s) {reason : Nat} : Steady few pre (State.cascadeStop s p reason) := by
  unfold State.cascadeStop
  extract_lets s1 s2 s3
  have h1 : Steady few pre s1 := State.chainStop_steady (State.clearBindings_steady (State.setStopr_steady hp (State.haltPart_steady (State.streamRemaps_steady fo))))
  clear_value s1
  have h2 : Steady few pre s3 := State.updPart_steady (State.enter_steady hp h1)
  clear_value s3
  split
  · exact State.startWrite_steady hp (State.endReplaced_steady h1)
  · rename_i y4 y5
    clear_value s2
    split
    · exact State.cmdEnd_steady (fun q hq => Option.some.inj hq ▸ hp) h2
    · exact h2

theorem State.abortStop_steady {pre s : State} {p : Nat} (hp : few → p < 64) (fo : Steady few pre s) {reason : Nat} : Steady few pre (s.abortStop p reason) := by
  unfold State.abortStop
  exact Steady.ite (State.cascadeStop_steady hp (State.abortPart_steady fo)) fo

theorem State.cmdClose_steady {pre s : State} {p : Nat} (hp : few → p < 64) (fo : Steady few pre s) {n : Nat} {code : Nat} : Steady few pre (s.cmdClose n p code) := by
  unfold State.cmdClose
  extract_lets s1
  have h1 : Steady few pre s1 := State.setG_steady_of (State.setG_steady fo) (LD_CMD_STS_CODE_beside n)
  clear_value s1
  exact State.raiseInt_steady (Steady.ite (State.setLcode_steady hp h1) h1)

theorem State.wipeBanks_steady {pre : State} {s : State} (fo : Steady few pre s) {q : Nat → Bool} : Steady few pre (s.wipeBanks q) := by
  unfold State.wipeBanks
  exact fo.banks (p := fun k v => !(isBstate k && q (k / 32 / 4096 % 65536)) || v == 4) (Eq.refl _) (fun k v hk => by rw [hk]; rfl) (Eq.refl _)

theorem State.dropExpress_steady {pre : State} {s : State} (fo : Steady few pre s) {p : Nat} : Steady few pre (s.dropExpress p) := by
  unfold State.dropExpress
  exact fo.same (Eq.refl _) (Eq.refl _)

theorem State.cutWrite_steady {pre s : State} {p : Nat} (hp : few → p < 64) (fo : Steady few pre s) {code : Nat} : Steady few pre (s.cutWrite p code) := by
  unfold State.cutWrite
  extract_lets s1 s2 s3 s4
  have h1 : Steady few pre s2 := State.dropExpress_steady (State.wipeBanks_steady fo)
  clear_value s2
  have h2 : Steady few pre s3 := State.updPart_steady h1
  clear_value s3
  have h3 : Steady few pre s4 := State.setLcode_steady hp (State.enter_steady hp h2)
  clear_value s4
  clear_value s1
  split
  · rename_i y1 y2
    exact State.cmdClose_steady hp h3
  · exact h3

theorem State.refreshSite_steady {pre : State} {s : State} (fo : Steady few pre s) {site : Nat} : Steady few pre (s.refreshSite site) := by
  unfold State.refreshSite
  extract_lets s1 s2
  have h1 : Steady few pre s1 := State.setG_steady (State.setG_steady fo)
  clear_value s1
  exact State.setG_steady h1

theorem State.pwrRecord_steady {pre : State} {s : State} (fo : Steady few pre s) {code : Nat} {site : Nat} {quad : Nat} {chk : Nat} {phase : Nat} {part : Option Nat} : Steady few pre (s.pwrRecord code site quad chk phase part) := by
  unfold State.pwrRecord
  exact State.record_steady fo

theorem State.adjustQuad_steady {pre : State} {s : State} (fo : Steady few pre s) {q : Nat} : Steady few pre (s.adjustQuad q) := by
  unfold State.adjustQuad
  extract_lets s1 s2 s3 s4 s5 s6 s7
  have h1 : Steady few pre s3 := by
    unfold s3
    apply Steady.ite
    · exact fo.same (Eq.refl _) (Eq.refl _)
    · exact fo
  clear_value s3
  have h2 : ∀ (s : State) (st : Nat), Steady few pre s → Steady few pre (s5 s st) := by
    intro x1 x2 h2
    unfold s5
    exact h2.same (Eq.refl _) (Eq.refl _)
  clear_value s5
  have h3 : Steady few pre s7 := State.setQ_steady h1
  clear_value s7
  apply Steady.ite
  · exact h1
  · apply Steady.ite
    · exact h1
    · apply Steady.ite
      · exact h1.same (Eq.refl _) (Eq.refl _)
      · apply Steady.ite
        · apply h2
          · exact h1
        · apply Steady.ite
          · exact State.setQ_steady h1
          · apply Steady.ite
            · exact h3
            · apply h2
              · exact h3

theorem State.adjustQuads_steady {pre : State} {s : State} (fo : Steady few pre s) {qs : List Nat} : Steady few pre (s.adjustQuads qs) := by
  unfold State.adjustQuads
  apply foldl_steady
  · intro x1 x2 h1
    exact State.adjustQuad_steady h1
  · exact fo

theorem State.adjustPart_steady {pre : State} {s : State} (fo : Steady few pre s) {p : Nat} : Steady few pre (s.adjustPart p) := by
  unfold State.adjustPart
  exact State.adjustQuads_steady fo

theorem State.cutReturns_steady {pre : State} {s : State} (fo : Steady few pre s) {p : Nat} : Steady few pre (s.cutReturns p) := by
  unfold State.cutReturns
  apply foldl_steady
  · intro x1 x2 h1
    exact Steady.ite (State.updReq_steady h1) h1
  · exact fo

theorem State.resetPart_steady {pre : State} {s : State} (fo : Steady False pre s) {p : Nat} : Steady False pre (s.resetPart p) := by
  unfold State.resetPart
  extract_lets s1 s2 s3 s4
  have h1 : Steady False pre s2 := by
    unfold s2
    split
    · rename_i y1 y2 y3
      exact State.cmdEnd_steady (fun _ _ => False.elim) (State.updPart_steady fo)
    · exact fo
  clear_value s2
  have h2 : Steady False pre s3 := by
    unfold s3
    split
    · rename_i y1 y2 y3
      exact State.cmdEnd_steady (fun _ _ => False.elim) (State.updPart_steady h1)
    · exact h1
  clear_value s3
  have h3 : Steady False pre s4 := Steady.ite (State.cascadeStop_steady False.elim h1) (Steady.ite (State.chainStop_steady (State.startWrite_steady False.elim (State.clearBindings_steady h2))) h1)
  clear_value s4
  exact State.adjustPart_steady (State.cutReturns_steady (State.updPart_steady h3))

theorem State.dropLost_steady {pre : State} {s : State} (fo : Steady few pre s) {r : Nat} : Steady few pre (s.dropLost r) := by
  unfold State.dropLost
  exact fo.same (Eq.refl _) (Eq.refl _)

theorem State.reqRecord_steady {pre : State} {s : State} (fo : Steady few pre s) {p : Nat} {r : Nat} {code : Nat} : Steady few pre (s.reqRecord p r code) := by
  unfold State.reqRecord
  exact State.record_steady fo

theorem State.failReq_steady {pre : State} {s : State} (fo : Steady few pre s) {p : Nat} {r : Nat} {reason : Nat} {code : Nat} : Steady few pre (s.failReq p r reason code) := by
  unfold State.failReq
  exact State.endPlain_steady (State.reqRecord_steady fo)

theorem State.replayReq_steady {pre : State} {s : State} (fo : Steady few pre s) {p : Nat} {r : Nat} : Steady few pre (s.replayReq p r) := by
  unfold State.replayReq
  extract_lets s1 s2 s3 s4 s5 s6 s7
  have h1 : Steady few pre s5 := State.updPart_steady (State.dropLost_steady fo)
  clear_value s5
  have h2 : Steady few pre s6 := State.updReq_steady (State.unbind_steady h1)
  clear_value s6
  have h3 : Steady few pre s7 := State.reqRecord_steady h2
  clear_value s7
  apply Steady.ite
  · exact fo
  · apply Steady.ite
    · exact State.updReq_steady (State.unbind_steady (State.dropLost_steady fo))
    · apply Steady.ite
      · exact State.failReq_steady fo
      · split
        · rename_i y1 y2 y3
          exact State.updReq_steady h3
        · exact h3

theorem State.replayAllReqs_steady {pre : State} {s : State} (fo : Steady few pre s) {p : Nat} : Steady few pre (s.replayAllReqs p) := by
  unfold State.replayAllReqs
  apply State.updPart_steady
  apply foldl_steady
  · intro x1 x2 h1
    exact State.replayReq_steady h1
  · exact fo

theorem State.resumePart_steady {pre : State} {s : State} (fo : Steady few pre s) {p : Nat} : Steady few pre (s.resumePart p) := by
  unfold State.resumePart
  apply Steady.ite
  · extract_lets s1
    have h1 : Steady few pre s1 := State.updPart_steady (State.setG_steady fo)
    clear_value s1
    exact State.replayAllReqs_steady h1
  · exact fo

theorem State.setMem_steady {pre : State} {s : State} (fo : Steady few pre s) {m : Memory} : Steady few pre (s.setMem m) := by
  unfold State.setMem
  exact fo.same (Eq.refl _) (Eq.refl _)

theorem State.endScratch_steady {pre : State} {s : State} (fo : Steady few pre s) : Steady few pre s.endScratch := by
  unfold State.endScratch
  exact State.setMem_steady fo

theorem State.calRecord_steady {pre : State} {s : State} (fo : Steady few pre s) {t : Nat} {code : Nat} {cycle : Nat} {entry : Nat} {pos : Nat} {pl : Nat} {g : Nat} : Steady few pre (s.calRecord t code cycle entry pos pl g) := by
  unfold State.calRecord
  extract_lets s1
  have h1 : Steady few pre s1 := Steady.ite (State.addReg_steady fo) fo
  clear_value s1
  exact State.tileRecord_steady h1

theorem State.qualAll_steady {pre : State} {s : State} (fo : Steady few pre s) {ts : List Nat} : Steady few pre (State.qualAll s ts) := by
  unfold State.qualAll
  extract_lets s1 s2 s3
  have h1 : Steady few pre s1.snd := State.takeFree_steady fo
  clear_value s1
  have h2 : Steady few pre s2 := h1
  clear_value s2
  exact h2.same (Eq.refl _) (Eq.refl _)

theorem State.foregroundOnce_steady {pre : State} {s : State} (fo : Steady few pre s) {t : Nat} {pos : Nat} {pl : Nat} : Steady few pre (s.foregroundOnce t pos pl) := by
  unfold State.foregroundOnce
  extract_lets s1 s2 s3 s4
  have h1 : Steady few pre s1.snd := State.takeFree_steady fo
  clear_value s1
  have h2 : Steady few pre s3 := h1
  clear_value s3
  exact h2.same (Eq.refl _) (Eq.refl _)

theorem State.failBank_steady {pre : State} {s : State} (fo : Steady few pre s) {t : Nat} {n : Nat} {pl : Nat} : Steady few pre (State.failBank s t n pl) := by
  unfold State.failBank
  exact Steady.ite (State.setReg_steady fo (bstateF_harmless _)) fo

theorem State.needsSpare_steady {pre : State} {s : State} (fo : Steady few pre s) {t : Nat} {n : Nat} : Steady few pre (State.needsSpare s t n) := by
  unfold State.needsSpare
  exact fo.same (Eq.refl _) (Eq.refl _)

theorem State.arrayFault_steady {pre : State} {s : State} (fo : Steady few pre s) {t : Nat} {n : Nat} : Steady few pre (State.arrayFault s t n) := by
  unfold State.arrayFault
  exact State.needsSpare_steady (State.failBank_steady (State.failBank_steady fo))

theorem State.foreground_steady {pre : State} {s : State} (fo : Steady few pre s) {t : Nat} {pos : Nat} {pl : Nat} : Steady few pre (State.foreground s t pos pl) := by
  unfold State.foreground
  extract_lets s1 s2 s3 s4 s5
  have h1 : Steady few pre s2 := State.foregroundOnce_steady fo
  clear_value s2
  have h2 : Steady few pre s3 := Steady.ite h1 (State.foregroundOnce_steady h1)
  clear_value s3
  have h3 : Steady few pre s4 := State.setReg_steady (State.calRecord_steady h2)
  clear_value s4
  have h4 : Steady few pre s5 := by
    unfold s5
    apply Steady.ite
    · exact h2
    · split
      · exact State.arrayFault_steady h3
      · exact h3
  clear_value s5
  exact State.qualAll_steady h4

theorem State.calibratePlaces_steady {pre : State} {s : State} (fo : Steady few pre s) {l : List (Nat × Place)} : Steady few pre (State.calibratePlaces s l) := by
  unfold State.calibratePlaces
  apply foldl_steady
  · intro x1 x2 h1
    exact State.foreground_steady h1
  · exact fo

theorem State.calibrateTiles_steady {pre : State} {s : State} (fo : Steady few pre s) {g : Plan} {sel : Nat → Bool} : Steady few pre (State.calibrateTiles s g sel) := by
  unfold State.calibrateTiles
  exact State.calibratePlaces_steady fo

theorem State.patchAt_steady {pre : State} {s : State} (fo : Steady few pre s) {p : Nat} {sh : Shift} {area : Nat} {lane : Nat → Nat} {dst : Nat} {len : Nat} {r : Patch} : Steady few pre (s.patchAt p sh area lane dst len r) := by
  unfold State.patchAt
  extract_lets s1 s2 s3
  split
  · rename_i y1 y2 y3
    exact State.setMem_steady fo
  · exact fo

theorem State.scratch_steady {pre : State} {s : State} (fo : Steady few pre s) {g : Plan} : Steady few pre (State.scratch s g).fst := by
  unfold State.scratch
  extract_lets s1 s2
  have h1 : Steady few pre s1 := by
    unfold s1
    exact State.setMem_steady fo
  clear_value s1
  have h2 : Steady few pre s2 := by
    unfold s2
    split
    · exact h1
    · rename_i y3 y4 y5
      apply foldl_steady
      · intro x1 x2 h3
        split
        · exact h3
        · exact State.patchAt_steady h3
      · exact h1
  clear_value s2
  exact h2

theorem State.setCmode_steady {pre : State} {s : State} (fo : Steady few pre s) {t : Nat} {n : Nat} {pl : Nat} {v : Nat} : Steady few pre (s.setCmode t n pl v) := by
  unfold State.setCmode
  apply Steady.ite
  · exact fo
  · extract_lets s1 s2 s3 s4
    have h1 : Steady few pre s1 := State.setReg_steady fo (cmodeF_harmless _)
    clear_value s1
    have h2 : Steady few pre s3 := h1.same (Eq.refl _) (Eq.refl _)
    clear_value s3
    apply Steady.ite
    · refine State.setReg_steady ?_ (cmodeF_harmless _)
      exact h2.same (Eq.refl _) (Eq.refl _)
    · exact h2

theorem State.setLoaded_steady {pre : State} {s : State} (fo : Steady few pre s) {t : Nat} {n : Nat} {pl : Nat} {st : Nat} : Steady few pre (State.setLoaded s t n pl st) := by
  unfold State.setLoaded
  exact Steady.ite fo (State.setReg_steady fo (bstateF_harmless _))

theorem State.writeBankImage_steady {pre : State} {s : State} (fo : Steady few pre s) {g : Plan} {t : Nat} {e : Place} : Steady few pre (State.writeBankImage s g t e) := by
  unfold State.writeBankImage
  extract_lets s1 s2 s3 s4
  have h1 : Steady few pre s3 := State.setReg_steady (State.setCmode_steady (State.setReg_steady fo (wfmtF_harmless _))) (streamF_harmless _)
  clear_value s3
  split
  · rename_i y1 y2
    apply State.setLoaded_steady
    exact State.setMem_steady h1
  · rename_i y3 y4 y5
    extract_lets s5
    apply State.setLoaded_steady
    exact State.setMem_steady h1

theorem State.fromSect_steady {pre : State} {s : State} (fo : Steady few pre s) {g : Plan} {x : Sect} {o : Nat} {dst : Nat} {n : Nat} : Steady few pre (State.fromSect s g x o dst n) := by
  unfold State.fromSect
  exact State.setMem_steady fo

theorem State.writePrograms_steady {pre : State} {s : State} (fo : Steady few pre s) {g : Plan} {t : Nat} : Steady few pre (State.writePrograms s g t) := by
  unfold State.writePrograms
  extract_lets s1
  have h1 : Steady few pre s1.fst := by
    unfold s1
    apply foldl_steady1
    · intro x1 x2 h2
      split
      · rename_i y1 y2
        dsimp only
        exact State.setReg_steady (State.setReg_steady h2)
      · rename_i y3 y4 y5
        extract_lets s2
        dsimp only
        exact State.setReg_steady (State.setReg_steady (State.fromSect_steady h2))
    · exact fo
  clear_value s1
  apply foldl_steady1
  · intro x3 x4 h3
    split
    · rename_i y6 y7
      dsimp only
      exact State.setReg_steady (State.setReg_steady h3)
    · rename_i y8 y9 y10
      extract_lets s3
      dsimp only
      exact State.setReg_steady (State.setReg_steady (State.fromSect_steady h3))
  · exact h1

theorem State.setFields_steady {pre : State} {s : State} (fo : Steady few pre s) {fs : List Fld} {inst : Nat} {i : Nat} {w : Nat} (hf : ∀ f ∈ fs, f.harmless = true) : Steady few pre (s.setFields fs inst i w) := by
  unfold State.setFields
  exact foldl_steady_mem (fun a f hm h => State.setReg_steady h (hf f hm)) fo

theorem State.writeTables_steady {pre : State} {s : State} (fo : Steady few pre s) {g : Plan} {t : Nat} : Steady few pre (State.writeTables s g t) := by
  unfold State.writeTables
  extract_lets s1
  have h1 : Steady few pre s1 := by
    unfold s1
    split
    · exact fo
    · rename_i y3 y4 y5
      apply foldl_steady
      · intro x1 x2 h2
        exact State.fromSect_steady h2
      · exact fo
  clear_value s1
  split
  · exact h1
  · rename_i y8 y9 y10
    apply foldl_steady
    · intro x3 x4 h3
      extract_lets s2
      have h4 : Steady few pre s2 := State.fromSect_steady h3
      clear_value s2
      apply foldl_steady
      · intro x5 x6 h5
        exact State.setFields_steady h5 (tcfgFields_harmless _)
      · exact h4
    · exact h1

theorem State.setTile_steady {pre : State} {s : State} (fo : Steady few pre s) {t : Nat} {x : TileSt} : Steady few pre (s.setTile t x) := by
  unfold State.setTile
  exact fo.same (Eq.refl _) (Eq.refl _)

theorem State.updTile_steady {pre : State} {s : State} (fo : Steady few pre s) {t : Nat} {f : TileSt → TileSt} : Steady few pre (s.updTile t f) := by
  unfold State.updTile
  exact State.setTile_steady fo

theorem State.writeRest_steady {pre : State} {s : State} (fo : Steady few pre s) {g : Plan} {t : Nat} : Steady few pre (State.writeRest s g t) := by
  unfold State.writeRest
  extract_lets s1 s2 s3 s4 s5 s6 s7
  have h1 : Steady few pre s1 := by
    unfold s1
    split
    · rename_i y1 y2
      exact State.setMem_steady fo
    · exact State.fromSect_steady fo
  clear_value s1
  have h2 : Steady few pre s2 := by
    unfold s2
    split
    · rename_i y6 y7
      exact State.setMem_steady h1
    · exact State.fromSect_steady h1
  clear_value s2
  have h3 : Steady few pre s3 := by
    unfold s3
    split
    · exact h2
    · rename_i y13 y14 y15
      apply foldl_steady
      · intro x1 x2 h4
        exact State.setFields_steady h4 (by decide)
      · exact h2
  clear_value s3
  have h5 : Steady few pre s4 := State.setReg_steady h3
  clear_value s4
  have h6 : Steady few pre s7 := by
    unfold s7
    refine foldl_steady_mem (fun a e he h => State.setReg_steady h ?_) h5
    have hall : ∀ f ∈ [BSN_SLUICE_IN_EN, BSN_SLUICE_IN_FIRST, BSN_SLUICE_IN_LAST, BSN_SLUICE_OUT_EN, BSN_SLUICE_OUT_FIRST, BSN_SLUICE_OUT_LAST],
      f.harmless = true := by decide
    exact hall _ (List.mem_map_of_mem (f := (·.1)) he)
  clear_value s7
  exact State.updTile_steady h6

theorem State.writeTiles_steady {pre : State} {s : State} (fo : Steady few pre s) {g : Plan} {sel : Nat → Bool} : Steady few pre (State.writeTiles s g sel) := by
  unfold State.writeTiles
  extract_lets s1 s2 s3
  have h1 : Steady few pre s2 := State.wipeBanks_steady fo
  clear_value s2
  have h2 : Steady few pre s3 := by
    unfold s3
    apply foldl_steady
    · intro x1 x2 h3
      exact State.writeRest_steady (State.writePrograms_steady (State.writeTables_steady h3))
    · exact h1
  clear_value s3
  apply foldl_steady
  · intro x3 x4 h4
    exact State.writeBankImage_steady h4
  · exact h2

theorem State.rewriteTiles_steady {pre : State} {s : State} (fo : Steady few pre s) {p : Nat} {sel : Nat → Bool} : Steady few pre (State.rewriteTiles s p sel) := by
  unfold State.rewriteTiles
  split
  · rename_i y1 y2 y3 y4 y5 y6
    apply Steady.ite
    · exact fo
    · split
      · exact fo
      · rename_i y9 y10 y11
        extract_lets s1
        have h1 : Steady few pre s1.fst := State.scratch_steady (State.coolQuads_steady fo)
        clear_value s1
        exact State.updPart_steady (State.endScratch_steady (State.calibrateTiles_steady (State.writeTiles_steady h1)))
  · exact fo

theorem State.rewriteResume_steady {pre : State} {s : State} (fo : Steady False pre s) {p : Nat} {sel : Nat → Bool} : Steady False pre (s.rewriteResume p sel) := by
  unfold State.rewriteResume
  apply Steady.ite
  · extract_lets s1
    exact State.abortStop_steady False.elim (State.ldRecord_steady (State.updPart_steady fo))
  · exact State.resumePart_steady (State.rewriteTiles_steady fo)

theorem State.afterReset_steady {pre : State} {s : State} (fo : Steady False pre s) {r : ResetRun} {p : Nat} : Steady False pre (s.afterReset r p) := by
  unfold State.afterReset
  apply Steady.ite
  · exact State.resetPart_steady fo
  · extract_lets s1
    have h1 : Steady False pre s1 := Steady.ite (State.cutReturns_steady fo) fo
    clear_value s1
    exact Steady.ite (State.resetPart_steady h1) (Steady.ite h1 (State.rewriteResume_steady h1))

theorem State.scopeAbort_steady {pre : State} {s : State} (fo : Steady few pre s) {r : ResetRun} : Steady few pre (s.scopeAbort r) := by
  unfold State.scopeAbort
  apply foldl_steady
  · intro x1 x2 h1
    exact State.abortPart_steady h1
  · exact fo

theorem State.answer_steady {pre : State} {s : State} (fo : Steady few pre s) {k : Packet} {kind : Nat} : Steady few pre (s.answer k kind) := by
  unfold State.answer
  exact State.emit_steady fo

theorem State.setTag_steady {pre : State} {s : State} (fo : Steady few pre s) {t : Nat} {r : Nat} {v : Nat} : Steady few pre (s.setTag t r v) := by
  unfold State.setTag
  exact State.updTile_steady fo

theorem State.absorb_steady {pre : State} {s : State} (fo : Steady few pre s) {q : Nat → Bool} : Steady few pre (State.absorb s q).fst := by
  unfold State.absorb
  extract_lets s1 s2 s3 s4 s5
  have h1 : Steady few pre s2 := fo.same (Eq.refl _) (Eq.refl _)
  clear_value s2
  have h2 : Steady few pre s3 := by
    unfold s3
    apply foldl_steady
    · intro x1 x2 h3
      exact Steady.ite (State.setTag_steady h3) h3
    · exact h1
  clear_value s3
  have h4 : Steady few pre s5 := by
    unfold s5
    apply foldl_steady
    · intro x3 x4 h5
      exact State.answer_steady h5
    · exact h2
  clear_value s5
  dsimp only
  exact State.setAt_steady h4

theorem State.retrim_steady {pre : State} {s : State} (fo : Steady few pre s) {t : Nat} : Steady few pre (s.retrim t) := by
  unfold State.retrim
  extract_lets s1 s2 s3 s4
  have h1 : Steady few pre s4 := fo.same (Eq.refl _) (Eq.refl _)
  clear_value s4
  clear_value s3
  clear_value s2
  clear_value s1
  split
  · exact h1
  · rename_i y1 y2 y3
    exact State.calRecord_steady (State.setReg_steady h1)

theorem State.discardQueue_steady {pre : State} {s : State} (fo : Steady few pre s) {p : Nat} : Steady few pre (s.discardQueue p) := by
  unfold State.discardQueue
  extract_lets s1
  exact Steady.ite fo (State.record_steady (State.updPart_steady fo))

theorem State.freeRange_steady {pre : State} {s : State} (fo : Steady few pre s) {p : Nat} : Steady few pre (State.freeRange s p) := by
  unfold State.freeRange
  extract_lets s1 s2
  have h1 : Steady few pre s1 := State.updPart_steady fo
  clear_value s1
  apply foldl_steady
  · intro x1 x2 h2
    apply Steady.ite
    · exact State.endTwin_steady h2
    · extract_lets s3 s4
      have h3 : Steady few pre s3 := Steady.ite (State.tell_steady h2) h2
      clear_value s3
      have h4 : Steady few pre s4 := Steady.ite (State.release_steady h3) h3
      clear_value s4
      exact State.setReq_steady h4
  · exact h1

theorem State.setPend_steady {pre : State} {s : State} (fo : Steady False pre s) {p : Nat} {c : Nat} : Steady False pre (s.setPend p c) := by
  unfold State.setPend
  exact Steady.ite fo (State.pstateInt_steady False.elim (State.setG_steady fo))

theorem State.stageFail_steady {pre : State} {s : State} (fo : Steady False pre s) {p : Nat} {code : Nat} {item : Nat} {detail : Nat} : Steady False pre (State.stageFail s p code item detail) := by
  unfold State.stageFail
  split
  · exact fo
  · rename_i y3 y4 y5
    extract_lets s1
    have h1 : Steady False pre s1 := State.setPend_steady (State.updPart_steady fo)
    clear_value s1
    exact State.cmdEndWith_steady (fun _ _ => False.elim) (Steady.ite (State.setG_steady h1) h1)

theorem State.rstBegin_steady {pre : State} {s : State} (fo : Steady few pre s) : Steady few pre s.rstBegin := by
  unfold State.rstBegin
  exact State.setAt_steady (State.setG_steady (State.setG_steady fo))

theorem State.rstEnd_steady {pre : State} {s : State} (fo : Steady few pre s) {code : Nat} : Steady few pre (s.rstEnd code) := by
  unfold State.rstEnd
  exact State.raiseInt_steady (State.setAt_steady (State.setG_steady fo))

/-! ### A dark site -/

theorem State.stopSite_steady {pre s : State} (fo : Steady few pre s) {site reason : Nat} : Steady few pre (s.stopSite site reason) :=
  foldl_steady_mem (fun _ _ hp h => Steady.ite (Steady.ite (State.cutWrite_steady (fun _ => List.mem_range.1 hp) h)
    (State.abortStop_steady (fun _ => List.mem_range.1 hp) h)) h) fo
theorem State.goDark_steady {pre s : State} (fo : Steady few pre s) {site why : Nat} : Steady few pre (s.goDark site why) := by
  unfold State.goDark
  split
  · exact fo
  · extract_lets u src src' v
    have hu : Steady few pre u := State.stopSite_steady fo
    clear_value u
    refine State.refreshSite_steady (foldl_steady (fun _ _ h => State.dropQuad_steady h) ?_)
    refine ⟨hu.repair, hu.vfEnable, hu.sessions, hu.phases, fun k hk => ?_, fun f inst i hh => hu.reg f inst i hh⟩
    exact (Map.has_put ..).trans (Bool.or_eq_true_iff.2 (.inr (hu.dark k hk)))
theorem State.goDark_dark (s : State) (site why : Nat) : (s.goDark site why).power.darkWhy.has site = true := by
  by_cases h : s.power.darkWhy.has site = true
  · unfold State.goDark
    rw [if_pos h]
    exact h
  · exact Option.isSome_iff_exists.2 ⟨why, s.goDark_darkWhy_same why (Bool.eq_false_iff.2 h)⟩

end Sys2Proof.Machine
end

section
/-! PROOF. Losses of supply, converters, phases and Transit regulators (10 R250 to R255). -/

namespace Sys2Proof.Machine

open Sys2Proof Sys2Proof.Safety

/-! ### Inputs -/

theorem auxInputLoss_keeps {s : State} (h : s.power.auxOn = true) : ∃ u, exec .auxInputLoss s = .next u ∧ u.power.auxOn = false ∧ u.power.convOn = false ∧
    u.link.ownerKeys = s.link.ownerKeys ∧ u.link.chainMode = s.link.chainMode ∧ u.repair.columns = s.repair.columns ∧ u.repair.certs = s.repair.certs ∧
    u.repair.pubKeys = s.repair.pubKeys ∧ (∀ a, spillBase ≤ a → Memory.read u.mem a = Memory.read s.mem a) ∧
    (∀ a, a < spillBase → Memory.read u.mem a = 0#8) := by
  have hexec : exec .auxInputLoss s = .next s.flashOnly := by
    show Host.Outcome.next (if s.power.auxOn then s.flashOnly else s) = _
    rw [if_pos h]
  have hread : ∀ a, Memory.read s.flashOnly.mem a = if outside a then Memory.read s.mem a else 0#8 := Memory.read_keep s.mem outside
  refine ⟨_, hexec, rfl, rfl, rfl, rfl, rfl, rfl, rfl, fun a ha => ?_, fun a ha => ?_⟩
  · exact (hread a).trans (if_pos (decide_eq_true ha))
  · exact (hread a).trans (if_neg fun ho => Nat.not_le.2 ha (of_decide_eq_true ho))

theorem State.refreshTemp_link (s : State) (site : Nat) : (s.refreshTemp site).link = s.link := by
  unfold State.refreshTemp State.judgeOver
  extract_lets ts
  split <;> rfl
theorem State.setBoot_power (s : State) (b : Nat) : (s.setBoot b).power = s.power := by
  unfold State.setBoot
  split
  · rfl
  · exact (State.raiseInt_only ..).power
theorem State.setBoot_pcieUp (s : State) (b : Nat) : (s.setBoot b).link.pcieUp = s.link.pcieUp := by
  unfold State.setBoot
  split
  · rfl
  · exact (State.raiseInt_linkKept ..).proj (·.pcieUp) fun _ _ => rfl

/-- When the converters stop, the module is in BOOT without its link; of the supplies only they change. -/
theorem State.stopConverters_boots {s : State} (h : s.power.convOn = true) : s.stopConverters.boot = 0 ∧ s.stopConverters.link.pcieUp = false ∧
    s.stopConverters.power = s.loseAll.power := by
  unfold State.stopConverters
  rw [if_pos h]
  refine ⟨?_, ?_, ?_⟩
  · unfold State.boot
    rw [State.allSites_refreshTemp_g (Fld.apartFromTemps_of_page (by decide)), State.lockClocks_g (by decide)]
    exact State.setBoot_boot (by decide)
  · unfold State.allSites
    rw [foldl_keep State.link (fun a site => State.refreshTemp_link ..)]
    exact State.setBoot_pcieUp ..
  · unfold State.allSites
    rw [foldl_keep State.power (fun a site => State.refreshTemp_power ..)]
    exact State.setBoot_power ..

theorem mainInputLoss_stops {mv : Fin 65001} {s : State} (hmv : mv.val < 45000 ∨ 62000 < mv.val) (h : s.power.convOn = true) :
    ∃ u, exec (.mainInputLoss mv) s = .next u ∧ u.power.convOn = false ∧ u.power.mainOk = false ∧ u.power.auxOn = s.power.auxOn ∧ u.boot = 0 ∧
      u.link.pcieUp = false := by
  let v : State := { (s.setG PWR_IN_VIN 0 (mv.val / 10)) with power := { s.power with mainOk := false } }
  have hexec : exec (.mainInputLoss mv) s = .next (v.stopConverters.pwrRecord 0x5006 63 0 0 0 none) := by
    show execMainInputLoss mv s = _
    unfold execMainInputLoss
    rw [if_neg (by simp only [Bool.and_eq_true, decide_eq_true_eq]; omega)]
    exact if_pos h
  obtain ⟨hboot, hlink, hpower⟩ := State.stopConverters_boots (s := v) h
  have hp : (v.stopConverters.pwrRecord 0x5006 63 0 0 0 none).power = v.loseAll.power := (State.record_power ..).trans hpower
  refine ⟨_, hexec, by rw [hp]; rfl, by rw [hp]; rfl, by rw [hp]; rfl, ?_, ?_⟩
  · exact (State.record_reg' rfl (by decide) (by decide)).trans hboot
  · exact (State.record_link _ _ (·.pcieUp) fun _ _ => rfl).trans hlink

/-! ### Converters -/

/-- A fold whose every step reaches its own goal and keeps every goal reaches them all. -/
theorem foldl_reaches {α β : Type} {f : α → β → α} {P : α → β → Prop} (hget : ∀ a b, P (f a b) b) (hkeep : ∀ a b c, P a c → P (f a b) c) {l : List β} {c : β}
    (hc : c ∈ l) (a : α) : P (l.foldl f a) c := by
  induction l generalizing a with
  | nil => exact absurd hc (List.not_mem_nil)
  | cons b r ih =>
    rcases List.mem_cons.1 hc with rfl | hr
    · exact List.foldlRecOn r f (hget a c) fun a ha b _ => hkeep a b c ha
    · exact ih hr (f a b)

/-- One site goes dark for want of converters. -/
def State.darkenSite (s : State) (site : Nat) : State := if s.power.darkWhy.has site then s else (s.goDark site 3).pwrRecord 0x5003 site 0 0 0 none
theorem State.darkenSite_steady {few : Prop} {pre s : State} (fo : Steady few pre s) {site : Nat} : Steady few pre (s.darkenSite site) :=
  Steady.ite fo (State.pwrRecord_steady (State.goDark_steady fo))
theorem State.darkenSite_dark (s : State) (site : Nat) : (s.darkenSite site).power.darkWhy.has site = true := by
  unfold State.darkenSite
  split
  · assumption
  · exact (congrArg (fun x : PowerSt => x.darkWhy.has site) (State.record_power ..)).trans (State.goDark_dark s site 3)

theorem State.darkenAll_dark {n site : Nat} (h : site < n) (s : State) : ((upTo n).foldl State.darkenSite s).power.darkWhy.has site = true :=
  foldl_reaches (P := fun a k => a.power.darkWhy.has k = true) State.darkenSite_dark (fun _ _ c h => (State.darkenSite_steady (few := True) .refl).dark c h)
    (List.mem_range.2 h) s

/-- What CONVERTER_FAIL does first: the converter is marked and reported. -/
def State.markConverter (s : State) (n : Nat) : State :=
  ((s.setG PWR_ICONV_FAILED 0 (setBit (s.g PWR_ICONV_FAILED 0) n true)).setG PWR_STATUS_CONV_FAIL 0 1).pwrRecord 0x5004 63 0 0 n none
theorem State.markConverter_marks (s : State) {n : Nat} (h : n < 8) : bitAt ((s.markConverter n).g PWR_ICONV_FAILED 0) n = true ∧
    (s.markConverter n).g PWR_STATUS_CONV_FAIL 0 = 1 ∧
    (s.markConverter n).convs = (s.setG PWR_ICONV_FAILED 0 (setBit (s.g PWR_ICONV_FAILED 0) n true)).convs := by
  have hw : (s.markConverter n).g PWR_ICONV_FAILED 0 = (s.setG PWR_ICONV_FAILED 0 (setBit (s.g PWR_ICONV_FAILED 0) n true)).g PWR_ICONV_FAILED 0 :=
    (State.record_reg' rfl (by decide) (by decide)).trans (State.g_setG_other (by decide))
  refine ⟨?_, (State.record_reg' rfl (by decide) (by decide)).trans (State.g_setG_same ..), ?_⟩
  · rw [hw, State.g_setG_same]
    exact (bitAt_mod h _).trans (bitAt_setBit_same ..)
  · unfold State.convs
    rw [hw]

theorem converterFail_marks {c : Fin 8} {s : State} (h : bitAt (s.g PWR_ICONV_FAILED 0) c.val = false) :
    ∃ u, exec (.converterFail c) s = .next u ∧ bitAt (u.g PWR_ICONV_FAILED 0) c.val = true ∧ u.g PWR_STATUS_CONV_FAIL 0 = 1 ∧
      ((s.setG PWR_ICONV_FAILED 0 (setBit (s.g PWR_ICONV_FAILED 0) c.val true)).convs ≤ 3 → ∀ site : Site, u.power.darkWhy.has site.val = true) := by
  obtain ⟨hbit, hrep, hconvs⟩ := s.markConverter_marks c.isLt
  have hexec : exec (.converterFail c) s = if (s.markConverter c.val).convs ≤ 3 then .next ((upTo 56).foldl State.darkenSite (s.markConverter c.val))
      else .next (s.markConverter c.val) := by
    show execConverterFail c s = _
    unfold execConverterFail
    dsimp only
    rw [h, if_neg Bool.false_ne_true]
    rfl
  rw [hexec, hconvs]
  split
  · have hsteady : Steady True (s.markConverter c.val) ((upTo 56).foldl State.darkenSite (s.markConverter c.val)) :=
      foldl_steady (fun _ _ h => State.darkenSite_steady h) .refl
    have hdark : ∀ site : Site, ((upTo 56).foldl State.darkenSite (s.markConverter c.val)).power.darkWhy.has site.val = true := fun site =>
      State.darkenAll_dark site.isLt _
    refine ⟨_, rfl, ?_, (hsteady.reg _ _ _ .convFail).trans hrep, fun _ => hdark⟩
    rw [show State.g _ _ _ = _ from hsteady.reg _ _ _ (.failed trivial)]
    exact hbit
  · exact ⟨_, rfl, hbit, hrep, fun hle => absurd hle ‹_›⟩

/-! ### Phases -/

theorem State.slowWakes_steady {few : Prop} {pre s : State} (fo : Steady few pre s) {site : Nat} : Steady few pre (s.slowWakes site) := by
  unfold State.slowWakes
  extract_lets l u
  exact foldl_steady (fun _ _ h => State.pwrRecord_steady h) (fo.same (Eq.refl _) (Eq.refl _))

/-- What PHASE_FAIL does first: the phase is counted. -/
def State.countPhase (s : State) (site k : Nat) : State :=
  let u : State := { s with power := { s.power with phases := s.power.phases.add k } }
  (u.setG PWR_SSTAT_PH_FAILED site (u.phasesOut site)).refreshSite site
theorem State.countPhase_counts (s : State) {site : Nat} (k : Nat) (h : site < 56) : (s.countPhase site k).power.phases.mem k = true ∧
    (s.countPhase site k).g PWR_SSTAT_PH_FAILED site =
      ({ s with power := { s.power with phases := s.power.phases.add k } } : State).phasesOut site % 32 := by
  refine ⟨NatSet.mem_add_same .., ?_⟩
  exact ((State.refreshSite_steady (few := True) .refl).reg _ _ _ (.phFailed site h)).trans (State.g_setG_same ..)

theorem phaseFail_counts {site : Site} {k : Fin 26} {s : State} {n : Nat} (hk : s.power.phases.mem (site.val * 32 + k.val) = false)
    (hn : n = ({ s with power := { s.power with phases := s.power.phases.add (site.val * 32 + k.val) } } : State).phasesOut site.val) :
    ∃ u, exec (.phaseFail site k) s = .next u ∧ u.power.phases.mem (site.val * 32 + k.val) = true ∧ u.g PWR_SSTAT_PH_FAILED site.val = n % 32 ∧
      (11 ≤ n → u.power.darkWhy.has site.val = true) := by
  let v := s.countPhase site.val (site.val * 32 + k.val)
  obtain ⟨hmem, hcount⟩ := s.countPhase_counts (site.val * 32 + k.val) site.isLt
  rw [← hn] at hcount
  have hexec : exec (.phaseFail site k) s = if 11 ≤ n then
        if v.power.darkWhy.has site.val then .next { v with power := { v.power with darkWhy := v.power.darkWhy.put site.val 1 } }
        else .next ((v.goDark site.val 1).pwrRecord 0x5003 site.val 0 0 k.val none)
      else .next ((v.pwrRecord (if n ≤ 2 then 0x5001 else 0x5002) site.val 0 0 k.val none).slowWakes site.val) := by
    show execPhaseFail site k s = _
    unfold execPhaseFail
    dsimp only
    rw [hk, if_neg Bool.false_ne_true, ← hn]
    subst hn
    rfl
  have hsteady : ∀ {u : State}, Steady True v u → u.power.phases.mem (site.val * 32 + k.val) = true ∧ u.g PWR_SSTAT_PH_FAILED site.val = n % 32 :=
    fun fo => ⟨fo.phases ▸ hmem, (fo.reg _ _ _ (.phFailed _ site.isLt)).trans hcount⟩
  rw [hexec]
  split
  · split
    · exact ⟨_, rfl, hmem, hcount, fun _ => Map.has_put_same ..⟩
    · obtain ⟨h1, h2⟩ := hsteady (State.pwrRecord_steady (State.goDark_steady .refl))
      refine ⟨_, rfl, h1, h2, fun _ => ?_⟩
      exact (congrArg (fun x : PowerSt => x.darkWhy.has site.val) (State.record_power ..)).trans (State.goDark_dark v site.val 1)
  · obtain ⟨h1, h2⟩ := hsteady (State.slowWakes_steady (State.pwrRecord_steady .refl))
    exact ⟨_, rfl, h1, h2, fun hle => absurd hle ‹_›⟩

theorem transitRegulatorFault_marks {site : Site} {s : State} (h : s.power.transitFault.mem site.val = false) :
    ∃ u, exec (.transitRegulatorFault site) s = .next u ∧ u.power.transitFault.mem site.val = true ∧ u.logTail = s.logTail + 1 := by
  have hexec : exec (.transitRegulatorFault site) s =
      .next ({ s with power := { s.power with transitFault := s.power.transitFault.add site.val } }.pwrRecord 0x5007 site.val 0 0 0 none) := by
    show execTransitRegulatorFault site s = _
    unfold execTransitRegulatorFault
    rw [h, if_neg Bool.false_ne_true]
  refine ⟨_, hexec, ?_, State.record_logTail ..⟩
  exact (congrArg (fun x : PowerSt => x.transitFault.mem site.val) (State.record_power ..)).trans (NatSet.mem_add_same ..)

/-- Settles O47: what a loss of the auxiliary input leaves is what the flash holds and what lies outside; the registers that report converters and
phases stand over everything that a dark site does, and a site that is dark stays dark while the others go dark. -/
theorem suppliesFail : Obligations.SuppliesFail := by
  unfold Obligations.SuppliesFail
  exact ⟨fun _ h => auxInputLoss_keeps h, fun _ _ => mainInputLoss_stops, fun _ _ => converterFail_marks, fun _ _ _ _ => phaseFail_counts,
    fun _ _ => transitRegulatorFault_marks⟩

end Sys2Proof.Machine
end

section
/-! PROOF. Resets of a tile, a site, a partition and the wafer compute, and function level resets (13 R326, R332 to R335). -/

namespace Sys2Proof.Machine

open Sys2Proof Sys2Proof.Safety

/-! ### A reset is asked for -/

theorem State.startReset_steady {few : Prop} (s : State) (r : ResetRun) :
    Steady few { s with repair := { s.repair with running := some r } } (s.startReset r) :=
  State.rstBegin_steady (State.scopeAbort_steady .refl)
theorem State.startReset_starts (s : State) (r : ResetRun) : (s.startReset r).repair = { s.repair with running := some r } ∧
    (s.startReset r).g RST_CMD_STS_STATE 0 = 1 := by
  refine ⟨(State.startReset_steady (few := True) s r).repair, ?_⟩
  unfold State.startReset State.rstBegin
  rw [State.g_setG_other (by decide), State.g_setG_other (by decide)]
  exact (State.g_setG_same ..).trans rfl
theorem State.askReset_starts {s : State} (r : ResetRun) (h : s.repair.running = none) : s.askReset r = s.startReset r := by
  unfold State.askReset
  rw [h]
theorem State.askReset_waits {s : State} {r x : ResetRun} (h : s.repair.running = some x) (hc : s.contains r x = false) :
    s.askReset r = { s with repair := { s.repair with waiting := s.repair.waiting ++ [r] } } := by
  unfold State.askReset
  rw [h]
  exact if_neg (Bool.eq_false_iff.1 hc)

/-- Every command that asks for a reset of a valid scope does so from an open path. -/
theorem reset_asks {path : Path} {c : Instr} {r : ResetRun} {s : State} (ho : pageOpen s path false true = true)
    (hc : (∃ a t, c = .tileReset path a ∧ tileOfAddr a.val = some t ∧ r = ⟨scTile, t⟩) ∨
      (∃ a, c = .siteReset path a ∧ bits a.val 19 12 < 56 ∧ r = ⟨scSite, bits a.val 19 12⟩) ∨
      (∃ p, c = .partReset path p ∧ s.partExists p.val = true ∧ r = ⟨scPart, p.val⟩) ∨ (c = .waferReset path ∧ r = ⟨scWafer, 0⟩)) :
    exec c s = .next (s.askReset r) := by
  obtain ⟨a, t, rfl, ht, rfl⟩ | ⟨a, rfl, ha, rfl⟩ | ⟨p, rfl, hp, rfl⟩ | ⟨rfl, rfl⟩ := hc
  · refine (pageWrite_runs (pg := .rst) (act := fun s => s.tileReset a.val) ho).trans ?_
    unfold State.tileReset
    rw [ht]
  · refine (pageWrite_runs (pg := .rst) (act := fun s => s.siteReset a.val) ho).trans ?_
    unfold State.siteReset
    rw [if_pos ha]
  · refine (pageWrite_runs (pg := .rst) (act := fun s => s.partReset p.val) ho).trans ?_
    unfold State.partReset
    rw [if_pos hp]
  · exact pageWrite_runs (pg := .rst) (act := fun s => s.askReset ⟨scWafer, 0⟩) ho

/-! ### The end of a drain -/

/-- A reset before it gives way to the next: the scope is aborted, absorbed, cleared, and its partitions go on. -/
def State.resetScope (s : State) (r : ResetRun) : State :=
  let sel := s.inScope r
  let s := s.scopeAbort r
  let x := s.absorb sel
  let p := if r.scope = scPart then some r.target else none
  let s := x.1.record { code := 0x4050, unit := 15, part := p, detail := min x.2 65535 }
  let ts := (s.scopeQuads r).flatMap tilesOfQuad |>.filter sel
  let s := ts.foldl (fun (s : State) t => s.retrim t) s
  let s := s.clearTiles sel (r.scope != scTile)
  let s := (s.scopeParts r).foldl (fun (s : State) p => s.afterReset r p) s
  s.record { code := 0x4051, unit := 15, part := p, tile := if r.scope = scTile then some r.target else none, detail := r.scope * 4096 }
theorem State.endReset_eq (s : State) (r : ResetRun) : s.endReset r = match (s.resetScope r).repair.waiting with
    | [] => { s.resetScope r with repair := { (s.resetScope r).repair with running := none } }.rstEnd 0
    | w :: l => ({ s.resetScope r with repair := { (s.resetScope r).repair with running := none, waiting := l } }.rstEnd 0).startReset w := rfl

theorem State.resetScope_repair (s : State) (r : ResetRun) : (s.resetScope r).repair = s.repair := by
  unfold State.resetScope
  extract_lets sel s1 x p s2 ts s3 s4 s5
  have h3 : Steady False s s3 := foldl_steady (fun _ _ h => State.retrim_steady h)
    (State.record_steady (State.absorb_steady (State.scopeAbort_steady .refl)))
  have h5 : Steady False s4 s5 := foldl_steady (fun _ _ h => State.afterReset_steady h) .refl
  clear_value s3 s5
  exact (State.record_steady h5).repair.trans h3.repair

theorem Map.mem_entries {α : Type} {m : Map α} {k : Nat} {v : α} (h : m.get? k = some v) : (k, v) ∈ m.entries := by
  obtain ⟨l⟩ := m
  unfold Map.get? at h
  induction l with
  | nil => nomatch h
  | cons e l ih =>
    obtain ⟨j, w⟩ := e
    by_cases hj : j = k
    · subst hj
      obtain rfl : w = v := by simpa [lookupList] using h
      exact List.mem_cons_self ..
    · exact List.mem_cons_of_mem _ (ih (by simpa [lookupList, hj] using h))
theorem Map.has_of_mem {α : Type} {m : Map α} {k : Nat} (h : k ∈ m.entries.map (·.1)) : m.has k = true := by
  obtain ⟨l⟩ := m
  unfold Map.has Map.get?
  dsimp only at h ⊢
  induction l with
  | nil => exact absurd h (List.not_mem_nil)
  | cons e l ih =>
    obtain ⟨j, w⟩ := e
    by_cases hj : j = k
    · simp [lookupList, hj]
    · rcases List.mem_cons.1 h with rfl | h
      · exact absurd rfl hj
      · simpa [lookupList, hj] using ih h

section
variable {s : State} {t : Nat} (ho : s.owner t = none)
include ho

/-! ### A tile that no partition owns -/

/-- Its quadrant is then none of any partition's. -/
theorem State.quadOf_not_mem_partQuads (p : Nat) : quadOf t ∉ s.partQuads p := by
  intro h
  have hnone : ∀ e ∈ s.parts.entries, e.2.quads.mem (quadOf t) = false := fun e he =>
    Bool.eq_false_iff.2 (List.find?_eq_none.1 (Option.map_eq_none_iff.1 ho) e he)
  have hhas : (s.part p).quads.mem (quadOf t) = true := Map.has_of_mem h
  have hpart : s.part p = (s.parts.get? p).getD PartSt.clear := rfl
  rw [hpart] at hhas
  cases hg : s.parts.get? p with
  | none =>
    rw [hg] at hhas
    cases hhas
  | some x =>
    rw [hg] at hhas
    exact Bool.eq_false_iff.1 (hnone (p, x) (Map.mem_entries hg)) hhas
theorem State.scopeParts_of_owner_none : s.scopeParts ⟨scTile, t⟩ = [] := by
  unfold State.scopeParts
  rw [if_neg (show scTile ≠ scPart by decide), List.filter_eq_nil_iff]
  intro p _ h
  obtain ⟨q, hq, hc⟩ := List.any_eq_true.1 h
  obtain rfl : q = quadOf t := by simpa [State.scopeQuads, scTile] using hc
  exact State.quadOf_not_mem_partQuads ho p hq
theorem State.retrim_parts : (s.retrim t).parts = s.parts := by
  unfold State.retrim
  extract_lets bad c mine u
  have hu : u.parts = s.parts := rfl
  have hown : ∀ a : State, a.parts = s.parts → a.owner t = none := fun a ha => Eq.trans (by unfold State.owner State.quadOwner; rw [ha]) ho
  clear_value u bad
  split
  · exact hu
  · unfold State.calRecord
    extract_lets a
    have ha : a.parts = s.parts := by
      unfold a
      split <;> exact hu
    exact (State.record_parts (hown a ha)).trans ha
theorem State.foldl_retrim_parts {l : List Nat} (hl : ∀ x ∈ l, x = t) : (l.foldl (fun (a : State) x => a.retrim x) s).parts = s.parts := by
  refine List.foldlRecOn (motive := fun a : State => a.parts = s.parts) l _ rfl fun a ha x hx => ?_
  rw [hl x hx]
  exact (State.retrim_parts (Eq.trans (by unfold State.owner State.quadOwner; rw [ha]) ho)).trans ha
end

theorem State.absorb_parts (s : State) (q : Nat → Bool) : (s.absorb q).1.parts = s.parts := by
  unfold State.absorb
  extract_lets hit u v lost w
  have hv : v.parts = s.parts := foldl_keep (fun a : State => a.parts) (fun a k => by split <;> rfl) _ u
  exact (foldl_keep (fun a : State => a.parts) (f := fun a k => a.answer k 3) (fun a k => rfl) lost v).trans hv

/-- Of such a tile everything that the compute domain holds outside its Basin reads zero after its reset. -/
theorem State.resetScope_mem {s : State} {t a : Nat} (ho : s.owner t = none) (ha : computeTile a = some (t, false)) :
    Memory.read (s.resetScope ⟨scTile, t⟩).mem a = 0#8 := by
  unfold State.resetScope
  extract_lets sel s1 x p s2 ts s3 s4 s5
  have h1 : s1 = s := by
    unfold s1 State.scopeAbort
    rw [State.scopeParts_of_owner_none ho]
    rfl
  have h2 : s2.parts = s.parts := by
    refine (State.record_parts (show p = none from if_neg (show scTile ≠ scPart by decide))).trans ?_
    refine (State.absorb_parts s1 sel).trans ?_
    rw [h1]
  have hown : ∀ b : State, b.parts = s.parts → b.owner t = none := fun b hb => Eq.trans (by unfold State.owner State.quadOwner; rw [hb]) ho
  have hts : ∀ y ∈ ts, y = t := fun y hy => of_decide_eq_true (List.mem_filter.1 hy).2
  have h3 : s3.parts = s.parts := (State.foldl_retrim_parts (hown s2 h2) hts).trans h2
  have h5 : s5 = s4 := by
    unfold s5
    rw [State.scopeParts_of_owner_none (hown s4 h3)]
    rfl
  rw [State.record_mem, h5]
  refine (Memory.read_keep s3.mem _ a).trans (if_neg ?_)
  rw [ha]
  simp [sel, State.inScope, scTile]

theorem resetDrainEnd_completes {r : ResetRun} {s : State} (hr : s.repair.running = some r) (ht : s.takingOver = false) :
    (s.repair.waiting = [] → ∃ u, exec .resetDrainEnd s = .next u ∧ u.repair.running = none ∧ u.g RST_CMD_STS_STATE 0 = 2 ∧
      (r.scope = scTile → s.owner r.target = none → ∀ a, computeTile a = some (r.target, false) → Memory.read u.mem a = 0#8)) ∧
    (∀ w l, s.repair.waiting = w :: l → ∃ u, exec .resetDrainEnd s = .next u ∧ u.repair.running = some w ∧ u.repair.waiting = l) := by
  have hexec : exec .resetDrainEnd s = .next (s.endReset r) := by
    show execResetDrainEnd s = _
    unfold execResetDrainEnd
    rw [hr]
    simp only [ht, Bool.false_eq_true, if_false]
  have hend : ∀ u : State, (u.rstEnd 0).repair = u.repair := fun u => (State.rstEnd_steady (few := True) .refl).repair
  rw [hexec, State.endReset_eq, State.resetScope_repair]
  refine ⟨fun hw => ?_, fun w l hw => ?_⟩ <;> rw [hw]
  · refine ⟨_, rfl, by rw [hend], (State.rstEnd_sts (by decide)).1, fun hs ho a ha => ?_⟩
    obtain ⟨scope, t⟩ := r
    subst hs
    have hmem : ∀ u : State, (u.rstEnd 0).mem = u.mem := fun u => (State.raiseInt_only ..).mem
    rw [hmem]
    exact State.resetScope_mem ho ha
  · refine ⟨_, rfl, ?_⟩
    rw [(State.startReset_starts _ w).1, hend]
    exact ⟨rfl, rfl⟩
theorem resetDrainEnd_holds {s : State} (h : s.takingOver = true) : exec .resetDrainEnd s = .next s := by
  show execResetDrainEnd s = _
  unfold execResetDrainEnd
  split
  · rw [if_pos h]
  · rfl

/-! ### Function level resets -/

theorem State.resetPage_g (s : State) {p : Page} {inst : Nat} {f : Fld} {i : Nat} (h : f.key 0 i < (p.code * 65536 + inst) * 4096 * 32) :
    (s.resetPage p inst).g f i = s.g f i := by
  unfold State.g State.reg State.resetPage
  exact congrArg (· % _) ((Map.get_keep s.regs (fun k => decide (k < _) || decide (_ ≤ k)) _ _).trans (if_pos (by simp [h])))
theorem State.reg_resetReg_same (s : State) (f : Fld) (inst i : Nat) : (s.resetReg f inst i).reg f inst i = f.rst i % 2 ^ f.width := by
  unfold State.reg State.resetReg
  rw [Map.get_del_same]
theorem State.reg_resetReg_other {s : State} {f g : Fld} {inst i j k : Nat} (h : f.key inst i ≠ g.key j k) : (s.resetReg f inst i).reg g j k = s.reg g j k := by
  unfold State.reg State.resetReg
  rw [Map.get_del, if_neg h]
theorem State.resetReg_steady {few : Prop} {pre s : State} (fo : Steady few pre s) {f : Fld} {inst i : Nat} (hb : f.Beside few inst i) :
    Steady few pre (s.resetReg f inst i) :=
  fo.of_standing rfl fun g j k hg => State.reg_resetReg_other (hb g j k hg)

theorem vfFlr_resets {p : Part} {s : State} (hup : s.link.pcieUp = true) (hvf : s.link.vfEnable = true) (he : s.partExists p.val = true)
    (hr : s.repair.running = none) : ∃ u, exec (.vfFlr p) s = .next u ∧ u.repair.running = some ⟨scPart, p.val⟩ ∧
      u.reg SEC_NEG_MAJOR (p.val + 1) 0 = 0 ∧ u.g STW_RING_CFG_EN p.val = 0 := by
  have hp := p.isLt
  have hexec : exec (.vfFlr p) s = .next (s.vfFlr p.val) := by
    show execVfFlr p s = _
    unfold execVfFlr
    rw [hup, hvf]
    rfl
  refine ⟨_, hexec, ?_⟩
  unfold State.vfFlr
  extract_lets u v w x
  have hu : u.partExists p.val = true := by
    refine Eq.trans ?_ he
    unfold State.partExists
    rw [show u.g LD_PSTATE_STATE p.val = s.g LD_PSTATE_STATE p.val from
      (State.reg_resetReg_other (Fld.key_ne_of_lo (by decide) (by decide) (by decide))).trans (State.resetPage_g _ ?_)]
    simp only [Fld.key, Fld.offset, LD_PSTATE_STATE, Page.code]
    omega
  rw [if_pos hu]
  have hv : Steady False { u with repair := { u.repair with running := some ⟨scPart, p.val⟩ } } v := by
    unfold v
    rw [State.askReset_starts _ (show u.repair.running = none from hr)]
    exact State.startReset_steady ..
  have hneg : u.reg SEC_NEG_MAJOR (p.val + 1) 0 = 0 := State.reg_resetReg_same ..
  clear_value u v
  have hx : Steady False (v.setG STW_RING_CFG_EN p.val 0) ((x.discardQueue p.val).freeRange p.val) :=
    State.freeRange_steady (State.discardQueue_steady (State.updPart_steady (State.resetReg_steady (State.resetReg_steady .refl
      (Fld.beside_of_harmless (by decide) _ _)) (Fld.beside_of_zero rfl False.elim))))
  refine ⟨?_, ?_, (hx.reg _ _ _ (.ring _ hp)).trans (State.g_setG_same ..)⟩
  · rw [hx.repair]
    exact congrArg RepairSt.running hv.repair
  · have hmajor := Fld.Held.major (few := False) (p.val + 1) (by omega)
    exact (hx.reg _ _ _ hmajor).trans ((State.reg_setG_other (Fld.key_ne_of_lo (by decide) (by decide) (by decide))).trans
      ((hv.reg _ _ _ hmajor).trans hneg))

theorem State.failHostStages_steady {pre s : State} (fo : Steady False pre s) : Steady False pre s.failHostStages :=
  foldl_steady (fun a e h => by
    split
    · exact Steady.ite (State.stageFail_steady h) h
    · exact h) fo
theorem pfFlr_resets {s : State} (hup : s.link.pcieUp = true) : ∃ u, exec .pfFlr s = .next u ∧ u.link.vfEnable = false ∧ u.reg SEC_NEG_MAJOR 0 0 = 0 ∧
    ∀ k, k < 4 → u.link.sessions.has k = false := by
  have hexec : exec .pfFlr s = .next s.pfFlr := by
    show execPfFlr s = _
    unfold execPfFlr
    rw [if_pos hup]
  let u := ((s.resetFn 0).clearNeg 0).closeDoe
  have h : Steady False { u with link := { u.link with vfEnable := false } } s.pfFlr := State.failHostStages_steady .refl
  refine ⟨_, hexec, h.vfEnable, ?_, fun k hk => ?_⟩
  · exact (h.reg _ _ _ (.major 0 (by decide))).trans (State.reg_resetReg_same (s.resetFn 0) SEC_NEG_MAJOR 0 0)
  · rw [h.sessions]
    exact congrArg Option.isSome (Map.get?_keep_none _ _ _ fun _ => decide_eq_false (Nat.not_le.2 hk))

/-- Settles O43: what a reset runs through leaves the state of repair and the negotiations alone, so that the reset asked for is the one in progress and
the end of a drain hands over to the first that waits; a tile without an owner is cleared and nothing writes to it again. -/
theorem resetsRunInTurn : Obligations.ResetsRunInTurn := by
  unfold Obligations.ResetsRunInTurn
  refine ⟨fun path c r s ho hc => ?_, fun _ _ => resetDrainEnd_completes, fun _ => resetDrainEnd_holds, fun _ _ => vfFlr_resets, fun _ => pfFlr_resets⟩
  rw [reset_asks ho hc]
  refine ⟨fun hr => ⟨_, rfl, ?_⟩, fun x hx hn => ⟨_, rfl, ?_⟩⟩
  · obtain ⟨hrep, hstate⟩ := State.startReset_starts s r
    rw [State.askReset_starts r hr]
    exact ⟨congrArg RepairSt.running hrep, hstate⟩
  · rw [State.askReset_waits hx hn]
    exact ⟨hx, rfl⟩

end Sys2Proof.Machine
end

section
/-! PROOF. Repairs in service (13 R336 to R345): a state in which a column shift fails although the copy that its tile's partition runs from is whole. -/

namespace Sys2Proof.Machine

open Sys2Proof Sys2Proof.Safety

/-- Two partitions list quadrant 0, and their records do not stand in the order of their numbers: partition 1 comes first and owns tile 0. Partition 0
runs, owns quadrant 2 too, and its resident copy is damaged. -/
def twiceOwned : State :=
  let s := ((State.reset.setReg SEC_NEG_MAJOR 0 0 1).setReg RST_STATE_STATE 0 0 4).setReg CSD_PCFG_RUN 0 0 1
  { s with
    link := { s.link with pcieUp := true, sessions := Map.empty.put 0 ⟨true, true⟩ }
    parts := ⟨[(1, { PartSt.clear with quads := Map.empty.put 0 () }),
      (0, { PartSt.clear with quads := (Map.empty.put 0 ()).put 2 (), resident := some ⟨0, 0, 0, true⟩ })]⟩ }

theorem twiceOwned_premises : pageOpen twiceOwned .pf false true = true ∧ tileOfAddr 0 = some 0 ∧ twiceOwned.shiftable 0 = true ∧ twiceOwned.copyLost 0 = false := by
  decide
/-- The abort of partition 0 writes its record anew, at the head of the map: tile 0 is partition 0's from then on, and its copy is damaged. -/
theorem twiceOwned_columnShift_fails : ((twiceOwned.rstBegin.fenceTile 0 7).repairTile 0 true false).2 = 0x4046 := by decide

theorem twiceOwned_repair_fails : ∃ u, exec (.repairTile .pf 0 true false) twiceOwned = .next u ∧ u.g RST_CMD_STS_STATE 0 = 3 := by
  obtain ⟨hopen, -⟩ := twiceOwned_premises
  refine ⟨_, pageWrite_runs (pg := .rst) (act := fun s => s.repairCmd 0 true false) hopen, ?_⟩
  have hcmd : twiceOwned.repairCmd 0 true false = ((twiceOwned.rstBegin.fenceTile 0 7).repairTile 0 true false).1.rstEnd 0x4046 :=
    congrArg (State.rstEnd _) twiceOwned_columnShift_fails
  rw [hcmd]
  exact (State.rstEnd_sts (by decide)).1

/-- Refutes O44: the statement does not ask that the map of partitions is in canonical form and that no quadrant is listed twice. In `twiceOwned` the copy
of tile 0's partition is whole and the column can be shifted, but the abort of the other partition of the segment moves that one's record to the front;
the tile then counts as its, with a damaged copy, and REPAIR_TILE ends with STATE 3. -/
theorem not_repairsInService : ¬ Obligations.RepairsInService := by
  unfold Obligations.RepairsInService
  rintro ⟨-, hrepair, -⟩
  obtain ⟨hopen, haddr, hshift, hcopy⟩ := twiceOwned_premises
  obtain ⟨u, hexec, hdone, -⟩ := (hrepair .pf 0 0 true twiceOwned hopen haddr).1 hshift hcopy
  obtain ⟨v, hexec', hfailed⟩ := twiceOwned_repair_fails
  obtain rfl : u = v := Host.Outcome.next.inj (hexec.symm.trans hexec')
  rw [hdone] at hfailed
  cases hfailed

end Sys2Proof.Machine
end
